-- ==== Sys2Proof/Word.lean ====
section
/-! DEFINITION. The word types of the node and their plainest arithmetic. Registers are 32 bits wide (R10). -/

namespace Sys2Proof

/-- A register word: 32 bits, accessed only as a whole (R10). -/
abbrev Word := BitVec 32

/-- A byte of a frame, of the image store or of a memory bank. -/
abbrev Byte := BitVec 8

/-- The two lanes of the node (R5, R312). -/
inductive LaneId where
  | A | B
  deriving DecidableEq, Repr

/-- The other lane. -/
def LaneId.other : LaneId → LaneId
  | .A => .B
  | .B => .A

/-- Lane numbers as records and registers give them: 0 Lane A, 1 Lane B. -/
def LaneId.num : LaneId → Nat
  | .A => 0
  | .B => 1

/-- The two buses of the node, Bus 1 and Bus 2. -/
inductive Bus where
  | one | two
  deriving DecidableEq, Repr

/-- Bus numbers counted from 0, as the register map strides them. -/
def Bus.num : Bus → Nat
  | .one => 0
  | .two => 1

/-- The two measurement paths of an analogue channel. -/
inductive Path where
  | A | B
  deriving DecidableEq, Repr

/-- The other path. -/
def Path.other : Path → Path
  | .A => .B
  | .B => .A

/-- The path of the words that reach a lane over its own tile links (R19). -/
def LaneId.ownPath : LaneId → Path
  | .A => .A
  | .B => .B

/-- The two ring ports. -/
inductive Port where
  | A | B
  deriving DecidableEq, Repr

/-- The other port. -/
def Port.other : Port → Port
  | .A => .B
  | .B => .A

/-- Port numbers as frames give them: 0 RGA, 1 RGB (R199). -/
def Port.num : Port → Nat
  | .A => 0
  | .B => 1

end Sys2Proof
end

