-- ==== Sys2Proof/Syntax.lean ====
section
/-! DEFINITION. The commands of the block: one constructor per row of the opcode table, with its operands. -/

namespace Sys2Proof


/-- What the node transmits on a CAN bus: a message buffer, a reference message, or a frame it forms itself. -/
inductive TxWho where
  | buf (b : Fin 128) | ref | own
  deriving DecidableEq, Repr

/-- The accessors that can hold a lock of a receive buffer (R386). -/
inductive Accessor where
  | host | cnp
  deriving DecidableEq, Repr

/-- A CAN frame (R382, R383). -/
structure CanFrame where
  id : BitVec 29
  ide : Bool
  rtr : Bool
  fdf : Bool
  brs : Bool
  esi : Bool
  dlc : BitVec 4
  data : List Byte
  deriving DecidableEq, Repr

/-- A report of the frame unit (R374): the frame, what the node transmitted, whether the controller with output authority found no
error, the failure cause of R390, a collision of R400, `steps`: how often ISO 11898-1 adds 8 to an error counter once more for dominant
bits after the error flag (R393), `quiet`: the error is one for which a transmitter leaves TEC unchanged (R394), `peerErr`: the
controller of the other lane found the frame in error too (R396), the end-of-frame instant in ns after the newest epoch boundary, the
length from start to end of frame in ns, and the measured loop delay (R379). -/
structure FrameRep where
  frame : CanFrame
  tx : Option TxWho
  ok : Bool
  cause : BitVec 3
  coll : Bool
  steps : BitVec 5
  quiet : Bool
  peerErr : Bool
  t : Nat
  len : Nat
  tdcv : BitVec 6
  deriving DecidableEq, Repr

/-- The monitors of a loop output (R280): headroom in 0.1 V, load voltage in 0.125 V, temperature in °C + 40. -/
structure AoMon where
  headroom : Byte
  loadv : Byte
  temp : Byte
  deriving DecidableEq, Repr

/-- What is observed from outside between two boundaries: the power of the node in mW, the hold-up voltage in 10 mV, VSYS and
the loop supply in 10 mV, the power of the loop outputs in mW, the reference count of the monitors (R594), readback samples of
loop outputs in mA and their monitors (R280), the level at digital outputs in 10 mV above GNDF and the field supplies in 10 mV
(R297, R303), as the stage's samples of the rest of the epoch find them, banks of a lane in which an access of the epoch corrected a single-bit error (R571), a unit
of each lane that has not delivered its results at step 7 (R30), and the pages of banks that the units of the lane with authority have
written in the epoch (R516, log 109). -/
structure Obs where
  p : BitVec 16
  vhold : BitVec 16
  vsys : BitVec 16
  vloop : BitVec 16
  paout : BitVec 16
  refCount : BitVec 9
  rb : List (Fin 24 × Word)
  corr : List (LaneId × Fin 32)
  mon : List (Fin 24 × AoMon)
  dov : List (Fin 32 × BitVec 16)
  vf : List (Fin 4 × BitVec 16)
  incA : Option (Fin 8)
  incB : Option (Fin 8)
  pages : List (Fin 8192)
  deriving DecidableEq, Repr

/-- The commands and events that reach the node from outside (one row of the opcode table each). An operand named
`t` is an instant in ns after the newest epoch boundary. -/
inductive Instr where
  /-- Global time reaches a multiple of 1 ms: the arbiter applies the released commands, the input cut closes and each lane runs the epoch phases through digest comparison and release. -/
  | epochBoundary (o : Obs)
  /-- Every 10 epochs the alarm engine applies queued commands, evaluates every point and completes groups, rules, first-out, shelving, floods and summaries. -/
  | alarmScan
  /-- The on-delay count reaches ON_DLY × 10 and QUAL becomes true. -/
  | onDelayExpiry (p : Fin 2048)
  /-- The off-delay count reaches OFF_DLY × 10 and QUAL becomes false. -/
  | offDelayExpiry (p : Fin 2048)
  /-- SCNT reaches SILT × 100 and a silenced point returns to ACT_UNACK. -/
  | reSound (p : Fin 2048)
  /-- A rate point computes its rate and stores the new window-start value. -/
  | rateWindowEnd (p : Fin 2048)
  /-- REMAIN reaches 0 and the point is unshelved. -/
  | shelvingExpiry (p : Fin 2048)
  /-- The release count reaches REL_DLY × 10 and the group inhibit is released. -/
  | inhibitRelease (grp : Fin 128)
  /-- HCNT reaches HOLD × 10 and the rule becomes inactive. -/
  | ruleHoldExpiry (r : Fin 256)
  /-- A 60 s chatter window begins and every CHCNT is cleared. -/
  | chatterWindow
  /-- A 10 s flood window begins, LAST_CNT is taken and FLOOD is set or cleared. -/
  | floodWindow
  /-- CCNT reaches the stage time and the call advances to the next stage. -/
  | stageTime
  /-- CCNT reaches ACCT × 100 in ACCEPTED, RETAKE is issued and the call returns to CALLING. -/
  | acceptanceTime
  /-- DMCNT reaches P − W and the safety timer enters PREWARN. -/
  | safetyPrewarn
  /-- DMCNT reaches P and the safety timer enters EXPIRED. -/
  | safetyExpired
  /-- A fitted station has sent no STN_STAT for 3.0 s and becomes absent. -/
  | stationAbsent (st : Fin 16)
  /-- Acknowledges a point. -/
  | ack (tgt : BitVec 11) (origin : BitVec 5)
  /-- Silences a point in ACT_UNACK. -/
  | silence (tgt : BitVec 11) (origin : BitVec 5)
  /-- Acknowledges every unacknowledged point of a group. -/
  | ackGroup (tgt : BitVec 11) (origin : BitVec 5)
  /-- Silences every point in ACT_UNACK. -/
  | silenceAll (tgt : BitVec 11) (origin : BitVec 5)
  /-- Transfers responsibility for a point to ACT_RT. -/
  | transfer (tgt : BitVec 11) (origin : BitVec 5)
  /-- Returns a point from ACT_RT to ACT_UNACK. -/
  | retake (tgt : BitVec 11) (origin : BitVec 5)
  /-- Shelves a point for SHELFT minutes. -/
  | shelve (tgt : BitVec 11) (origin : BitVec 5)
  /-- Ends the shelving of a point. -/
  | unshelve (tgt : BitVec 11) (origin : BitVec 5)
  /-- Re-arms first-out capture of a group and clears its capture. -/
  | foReset (tgt : BitVec 11) (origin : BitVec 5)
  /-- Accepts a call, moving the call engine to ACCEPTED and issuing TRANSFER. -/
  | acceptCall (tgt : BitVec 11) (origin : BitVec 5)
  /-- Names a new duty station. -/
  | duty (tgt : BitVec 11) (origin : BitVec 5)
  /-- Starts the engineers' safety timer. -/
  | dmStart (tgt : BitVec 11) (origin : BitVec 5)
  /-- Resets the safety timer to RUN with DMCNT 0. -/
  | dmReset (tgt : BitVec 11) (origin : BitVec 5)
  /-- Stops the safety timer. -/
  | dmStop (tgt : BitVec 11) (origin : BitVec 5)
  /-- A channel's decimation chains complete a word at its word instant and the tile sends both path words. -/
  | wordInstant (ch : Fin 96) (a : BitVec 24) (aOver : Bool) (b : BitVec 24) (bOver : Bool) (sat : Bool) (t : Nat)
  /-- A path of an auto-ranging channel switches its range stage in the staggered sequence. -/
  | rangeChangeStep (ch : Fin 96)
  /-- EXC_SAT is set or cleared after 2 consecutive words at or within compliance. -/
  | excSatChange (ch : Fin 96)
  /-- OPEN is set or cleared after 2 consecutive words with burn-out over range or within range. -/
  | openCircuitChange (ch : Fin 96)
  /-- The isolated tile supply comes within limits after CLUc switch-on and TILE_PWR is set. -/
  | tileSupplyGood (tile : Fin 12)
  /-- A word frame arrives on a tile link with a word and its word instant. -/
  | tileWordFrame (tile : Fin 12) (link : Path) (ok : Bool) (t : Nat)
  /-- An idle frame carrying the tile status arrives on a tile link. -/
  | tileIdleFrame (tile : Fin 12) (link : Path) (ok : Bool) (t : Nat)
  /-- A tile link that was not up has carried 8 consecutive valid frames and is declared up. -/
  | tileLinkUp (tile : Fin 12) (link : Path)
  /-- A tile link carries no valid frame for 50 µs and is declared lost. -/
  | tileLinkLost (tile : Fin 12) (link : Path) (t : Nat)
  /-- A reference-junction auxiliary word arrives and is checked for plausibility. -/
  | cjcWord (tile : Fin 12) (res : Word) (t : Nat)
  /-- CJC_FAULT is set after 2 implausible words or cleared after 10 plausible words. -/
  | cjcFaultChange (tile : Fin 12)
  /-- The shunt current exceeds 32 mA for 1 ms and the shunt switch opens. -/
  | shuntTrip (ch : Fin 96) (t : Nat)
  /-- A tripped shunt recloses 1,000 ms after the trip at the next word instant. -/
  | shuntReclose (ch : Fin 96) (t : Nat)
  /-- dis_cnt reaches 3 and the channel becomes single-path on the trusted path. -/
  | singlePathDisagreement (ch : Fin 96)
  /-- RST_CNT reaches 16 with both links up and a link-caused single-path state ends. -/
  | restoreCheckComplete (ch : Fin 96)
  /-- The first settled word after a restart ends the stale time. -/
  | staleWindowEnd (ch : Fin 96) (a : BitVec 24) (aOver : Bool) (b : BitVec 24) (bOver : Bool) (sat : Bool) (t : Nat)
  /-- Sets or switches off the excitation of an RTD channel. -/
  | setExc (ch : BitVec 7) (arg : BitVec 8)
  /-- Switches the burn-out source of a thermocouple or mV channel. -/
  | setBurnout (ch : BitVec 7) (arg : BitVec 8)
  /-- Recloses a tripped shunt at its effect boundary. -/
  | shuntRetry (ch : BitVec 7) (arg : BitVec 8)
  /-- Ends a single-path state caused by disagreement or injection failure. -/
  | restorePaths (ch : BitVec 7) (arg : BitVec 8)
  /-- At each 100 ms boundary each tile starts a reference injection check on its next eligible path. -/
  | injectionSlot
  /-- The check ends, the tile sends the result and new trim, or the channel goes single-path on a failure. -/
  | injectionResult (tile : Fin 12) (sp sm : Int) (t : Nat)
  /-- A control loop's period starts and the loop applies commands, swap, reads sources and computes its PID output. -/
  | loopPeriodStart (loop : Fin 32)
  /-- A time-proportioning cycle starts and the digital output turns on for t_on epochs. -/
  | tpCycleStart (loop : Fin 32) (d : Fin 2)
  /-- The on-time of a time-proportioning cycle ends and the output turns off. -/
  | tpOnTimeEnd (loop : Fin 32) (d : Fin 2)
  /-- Changes the mode of a loop. -/
  | setMode (loop : BitVec 5) (arg : BitVec 8)
  /-- Sets the local setpoint of a loop. -/
  | setSp (loop : BitVec 5) (arg : BitVec 8) (v : Word)
  /-- Sets the manual output of a loop in MAN. -/
  | setOut (loop : BitVec 5) (arg : BitVec 8) (v : Word)
  /-- Selects the active coefficient set of a loop. -/
  | selSet (loop : BitVec 5) (arg : BitVec 8)
  /-- Sets the current of a direct loop output channel. -/
  | setMa (ch : BitVec 5) (arg : BitVec 8) (v : Word)
  /-- Forces or releases the failure current of a channel. -/
  | forceFail (ch : BitVec 5) (arg : BitVec 8)
  /-- Clears the thermal latch of a channel. -/
  | clearTherm (ch : BitVec 5) (arg : BitVec 8)
  /-- Queues a host HART transaction from the transmit buffer. -/
  | hartSend (ch : BitVec 5) (arg : BitVec 8)
  /-- Headroom stays below 1.0 V for 5 ms and COMPL is set. -/
  | complSet (ch : Fin 24)
  /-- Headroom stays at or above 1.2 V for 5 ms, or the channel is off for 5 ms, and COMPL clears. -/
  | complClear (ch : Fin 24)
  /-- The regulator temperature crosses 140 °C or 130 °C and TWARN changes. -/
  | twarnChange (ch : Fin 24) (temp : Byte)
  /-- The regulator exceeds 155 °C and the stage switches the channel off with TOFF. -/
  | thermalSwitchOff (ch : Fin 24) (t : Nat)
  /-- At or below 135 °C and 100 ms after switch-off, TOFF clears at the next boundary. -/
  | thermalRecovery (ch : Fin 24) (temp : Byte) (t : Nat)
  /-- Each readback converter converts its check level at each whole second and RB_INV follows the result. -/
  | readbackCheck (ch : Fin 24) (pass : Bool)
  /-- The loop output stage link carries no valid status for 50 µs and RB_INV is set. -/
  | aoutLinkLost (lane : LaneId)
  /-- DEVCNT reaches 20 and DEV changes. -/
  | devChange (ch : Fin 24)
  /-- Two epochs after a partial firing switched it off, a channel takes its new mode. -/
  | aoModeTakeover (ch : Fin 24)
  /-- A HART transaction starts at a boundary once the line has been quiet for 2 characters. -/
  | hartTransactionStart (ch : Fin 24) (carrier : Bool)
  /-- A HART response frame is received, checked and accepted or repeated. -/
  | hartResponseReceived (ch : Fin 24) (pre : Nat) (data : List Byte) (parity : Bool) (t : Nat)
  /-- No response carrier comes within RSPTO characters and the request is repeated or the transaction ends TIMEOUT. -/
  | hartResponseTimeout (ch : Fin 24) (t : Nat)
  /-- A cyclic command 3 poll falls due at a POLLP boundary. -/
  | hartPollDue (ch : Fin 24)
  /-- A digital input crosses its threshold and the crossing is stamped to 1 µs. -/
  | thresholdCrossing (n : Fin 32) (level : Bool) (t : Nat)
  /-- N consecutive samples show the new level and the debounced state changes with its raw edge time. -/
  | qualifiedEdge (n : Fin 32)
  /-- 30 consecutive compared readback samples disagree or agree and MISM with LOW or BACKFED changes. -/
  | mismChange (n : Fin 32) (v : BitVec 16) (t : Nat)
  /-- FLT has been set for 3 ms with no output in MISM and UNLOC is set. -/
  | unlocChange (k : Fin 4) (t : Nat)
  /-- LOW has been set for 100 ms and the stage latches the output off. -/
  | slatch (n : Fin 32) (t : Nat)
  /-- An output enters current limit and FLT of its bank is set. -/
  | outputCurrentLimit (n : Fin 32) (t : Nat)
  /-- An output overheats and switches itself off. -/
  | outputThermalShutdown (n : Fin 32) (t : Nat)
  /-- An overheated output has cooled and switches on again by itself. -/
  | outputThermalRestart (n : Fin 32) (t : Nat)
  /-- VFk crosses 19.2 V or stays at 19.7 V for 100 ms and VWARN changes. -/
  | vwarnChange (k : Fin 4) (vf : BitVec 16) (t : Nat)
  /-- VFk falls below 16.0 V and every output of the bank is switched off. -/
  | uvSet (k : Fin 4) (vf : BitVec 16) (t : Nat)
  /-- VFk is at or above 17.0 V for 100 ms, UV clears and RESTORE decides the outputs. -/
  | uvClear (k : Fin 4) (vf : BitVec 16) (t : Nat)
  /-- The stage receives no valid epoch mark for 5 ms and switches every output off. -/
  | epochMarkLoss (t : Nat) (more : Nat)
  /-- The stage link to a lane carries no valid frame for 50 µs and LINK clears. -/
  | dioLinkLost (lane : LaneId)
  /-- Sets a direct digital output on or off. -/
  | setDo (ch : BitVec 5) (arg : BitVec 8)
  /-- Clears the short-circuit latch of an output. -/
  | clearLatch (ch : BitVec 5) (arg : BitVec 8)
  /-- Releases a bank held off after undervoltage. -/
  | bankAck (ch : BitVec 5) (arg : BitVec 8)
  /-- The other lane's digest packet arrives over the Feben link. -/
  | digestPacket (lane : LaneId) (err : Fin 3) (epoch : BitVec 12) (inc : Option (Fin 8)) (dig : BitVec 64) (subs : List Word)
  /-- A copy of the other lane's adjudication verdict arrives for diagnosis. -/
  | verdictCopyPacket (lane : LaneId) (err : Fin 3)
  /-- A write accepted through the active-lane alias arrives from the other lane. -/
  | writePacket (lane : LaneId) (err : Fin 3)
  /-- Forwarded tile words with their word instants arrive from the other lane. -/
  | wordPacket (lane : LaneId) (err : Fin 3) (delay : Byte)
  /-- The other lane's recorder commit confirmations arrive. -/
  | confirmPacket (lane : LaneId) (err : Fin 3)
  /-- Recorder records for store mirroring arrive from the other lane. -/
  | mirrorPacket (lane : LaneId) (err : Fin 3)
  /-- State transfer pages and unit states arrive at a SHADOW lane. -/
  | statePacket (lane : LaneId) (err : Fin 3) (page : Option (Fin 8192)) (last : Bool)
  /-- An IDLE packet arrives on the Feben link. -/
  | idlePacket (lane : LaneId) (err : Fin 3)
  /-- A packet fails its third attempt or no valid packet arrives for 5 µs and the link is lost. -/
  | febenLinkLost (lane : LaneId)
  /-- 64 consecutive valid IDLE packets set UP again. -/
  | febenLinkUp (lane : LaneId)
  /-- A lane completes its self-test and delivers PASS or FAIL to the arbiter. -/
  | adjudicationVerdict (lane : LaneId) (replayBad refBad : Bool) (sig : Word) (dur : BitVec 9)
  /-- The arbiter decides the outcome 10 µs after the later verdict or timeout and retires, keeps or moves authority. -/
  | adjudicationOutcome
  /-- Moves output authority to the other lane without a hold. -/
  | swapLanes (lane : BitVec 1)
  /-- Retires the target lane. -/
  | retireLane (lane : BitVec 1)
  /-- Resets a retired lane's core domain so that it fires and rejoins. -/
  | rejoin (lane : BitVec 1)
  /-- Clears UNRES. -/
  | clrUnres (lane : BitVec 1)
  /-- Inverts bit 0 of the lane's next digest to provoke a mismatch. -/
  | injDig (lane : LaneId)
  /-- A reference monitor declares CLKREF loss and the synthesiser enters holdover. -/
  | referenceLoss (mon : Fin 3)
  /-- A handshake phase has not completed in 10 µs and the end that sees it resets its side. -/
  | handshakeStall (seen : Fin 3) (link : BitVec 4) (bus : Bus) (lane : LaneId) (t : Nat)
  /-- An uncorrectable SECDED error is found in a bank. -/
  | memoryUncorrectable (lane : LaneId) (bank : Fin 32) (word : Fin 8192) (acc : BitVec 4)
  /-- A parity error is found on a transfer to or from a bank. -/
  | transferParityError (lane : LaneId) (bank : Fin 32) (word : Fin 8192) (acc : BitVec 4)
  /-- A store starts committing the record at the head of its staging FIFO. -/
  | commitStart (lane : LaneId) (stamp : Bool)
  /-- The commit read-back completes and the record is committed, repeated or voided. -/
  | commitReadback (lane : LaneId) (ok stamp : Bool)
  /-- A 100 ms shard window ends, shard records are formed and SHED may fall. -/
  | shardWindowEnd
  /-- The mirroring copy ends and a mirroring-complete record is released. -/
  | mirroringComplete
  /-- Stops commits in both stores and saves FRZIDX. -/
  | freeze
  /-- Ends a freeze and resumes commits. -/
  | unfreeze
  /-- Clears LOSS. -/
  | clrLoss
  /-- A freeze ends FRZT × 100 ms after it began. -/
  | freezeTimeLimit
  /-- In the epoch whose cut holds the power-loss signal the recorder drops classes 0–5, ends any freeze and releases the power-loss record. -/
  | powerLossFlush
  /-- A write of REC_RDIDX loads the named slot into the read window. -/
  | recRdidxWrite (lane : LaneId) (v : Word)
  /-- A read of REC_RDW7 advances REC_RDIDX and loads the next slot. -/
  | recRdw7Read (lane : LaneId)
  /-- The read window holds the loaded slot and READY is set. -/
  | readWindowLoaded (lane : LaneId)
  /-- The frame unit sends both lanes a report of one frame or transmission attempt on a bus. -/
  | frameReport (bus : Bus) (f : FrameRep)
  /-- ACKRUN reaches 16 and ALONE is set, or returns to 0 and ALONE clears. -/
  | aloneChange (bus : Bus)
  /-- A pending frame starts in its window once the bus is idle and its worst-case end fits. -/
  | txStart (bus : Bus) (who : TxWho) (t : Nat)
  /-- After 128 occurrences of 11 recessive bits the controller becomes error-active. -/
  | busOffRecovery (bus : Bus)
  /-- A detection rate has been tried for 25 ms and the frame unit moves to the next permitted rate. -/
  | rateDetectStep (bus : Bus) (t : Nat)
  /-- After 11 consecutive recessive bits the controller with authority enters normal mode. -/
  | canNormalEntry (bus : Bus)
  /-- A 1 s lone-error window ends and restricted operation ends after 10 quiet windows. -/
  | loneErrorWindow (bus : Bus)
  /-- A read of word 0 of a receive buffer locks it. -/
  | rxBufferLock (lane : LaneId) (acc : Accessor) (bus : Bus) (m : Fin 128) (t : Nat)
  /-- A read of the last valid word releases the lock and clears NEW and OVR. -/
  | rxBufferRelease (lane : LaneId) (acc : Accessor) (bus : Bus) (m : Fin 128)
  /-- A lock not released within 1 ms is released and LOCKTO increments. -/
  | lockTimeout (lane : LaneId) (acc : Accessor) (t : Nat)
  /-- Requests transmission of a host-owned transmit buffer. -/
  | txReq (bus : Bus) (m : BitVec 7) (arg : BitVec 8)
  /-- Cancels a pending transmission. -/
  | txCancel (bus : Bus) (m : BitVec 7) (arg : BitVec 8)
  /-- Starts bit-rate detection on the bus. -/
  | detect (bus : Bus) (m : BitVec 7) (arg : BitVec 8)
  /-- Enters or leaves restricted operation. -/
  | restrict (bus : Bus) (m : BitVec 7) (arg : BitVec 8)
  /-- Clears COLL, the collision entries and COLL_OVF. -/
  | clrColl (bus : Bus) (m : BitVec 7) (arg : BitVec 8)
  /-- The current time master starts its reference message at REFOFS if the bus is idle. -/
  | referenceSend (bus : Bus) (idle : Bool)
  /-- A valid reference message is received and used to discipline global time. -/
  | referenceMessage (bus : Bus) (p : BitVec 3) (node : BitVec 7) (ep : BitVec 48) (b6 : Byte) (t len : Nat)
  /-- MISS reaches MPRIO + 3 and a potential master becomes current master. -/
  | timeMasterTakeover (bus : Bus)
  /-- SRC has been None for 8 consecutive basic cycles and SYNC clears. -/
  | syncLossNoSource
  /-- A CNP value frame is received and fills the matching remote value slots. -/
  | valueFrame (bus : Bus) (prio : BitVec 3) (node : BitVec 7) (obj : BitVec 13) (data : List Byte) (t len : Nat)
  /-- A remote value slot becomes invalid when its newest frame is older than TOUT × 10 ms. -/
  | remoteSlotTimeout (slot : Fin 256)
  /-- A CNP register request for the node is served and a response is queued. -/
  | registerRequest (bus : Bus) (prio : BitVec 3) (node : BitVec 7) (data : List Byte) (t len : Nat)
  /-- A read of TIME_NOWLO returns the low half of global time and latches the high half. -/
  | timeNowloRead (lane : LaneId) (t : Nat)
  /-- A class 0x06 frame writes 32 bytes into CFG_XBUF and programs the page at its last part. -/
  | imageTransferFrame (bus : Bus) (prio : BitVec 3) (node : BitVec 7) (target tag : Byte) (off : BitVec 24) (data : List Byte) (t len : Nat)
  /-- A panel frame starts and the drive stage applies its drive frame and the state table. -/
  | panelFrameStart
  /-- The drive stage converts the NTC and sends the panel temperature to both lanes. -/
  | ntcWord (temp : BitVec 16) (t : Nat)
  /-- NTC_FAULT is set after 2 words out of range or cleared after 10 in range. -/
  | ntcFaultChange
  /-- A crazing loop measurement ends and a resistance above the limit sets CRZ_FAULT. -/
  | crazingMeasurement (res : BitVec 16) (t : Nat)
  /-- VNEG or VCOL reaches its good level during the rise. -/
  | railGood (vcol : Bool) (vneg vc : Byte) (t : Nat)
  /-- A rail stays out of limits for 1 ms or does not come good in time and RAIL_FAULT is set. -/
  | railFault (vcol : Bool) (v : Byte) (t : Nat)
  /-- Both rails have discharged and the panel enters DARK. -/
  | railsDischarged (vneg vc : Byte) (t : Nat)
  /-- External VCOL differs from VCOL_SP by more than 1.0 V for 100 ms, or returns within 0.8 V for 100 ms. -/
  | vcolDevChange (v : Byte)
  /-- The alarm list page advances every PAGET seconds. -/
  | pageTimer
  /-- Every 600 s the lane with authority starts copying the aging ledger to the NOR store. -/
  | agingLedgerCopy
  /-- An aging ledger copy is closed with its CRC and recorded. -/
  | agingCopyWritten
  /-- Sets or clears DARK_REQ. -/
  | setDark (arg : Byte)
  /-- Sets the dimming target. -/
  | setDim (arg : Byte)
  /-- Selects renderer or host content. -/
  | setSrc (arg : Byte)
  /-- Copies the host draw frame to the host shown frame. -/
  | presentCmd (arg : Byte)
  /-- Advances the alarm list page. -/
  | pageCmd (arg : Byte)
  /-- Clears the rail or crazing fault of the panel. -/
  | clrFault (arg : Byte)
  /-- Opens a transfer and erases the target. -/
  | xopen (arg : Byte)
  /-- The target erase ends and XSTATE becomes OPEN. -/
  | eraseComplete
  /-- Programs a 256-byte page from CFG_XBUF at CFG_XOFF. -/
  | xprog (arg : Byte)
  /-- A page program and read-back end, or the read-back differs and XSTATE becomes ERROR. -/
  | pageProgrammed (ok : Bool)
  /-- Loads the page at CFG_XOFF into CFG_XBUF. -/
  | xread (arg : Byte)
  /-- A page read ends with the page in CFG_XBUF. -/
  | pageReadLoaded
  /-- Closes a transfer and checks the target with checks 1 to 10. -/
  | xclose (arg : Byte)
  /-- The target check ends and CHECK of CFG_TGTs is updated. -/
  | targetCheckComplete
  /-- Closes the transfer and sets CHECK to FAILED. -/
  | xabort (arg : Byte)
  /-- Starts or queues a partial firing from a patch buffer. -/
  | pfire (arg : Byte)
  /-- Names the preferred slot in the start record. -/
  | setPref (arg : Byte)
  /-- Restarts the node and fires under R485. -/
  | refire (arg : Byte)
  /-- Burns the device key from CFG_KEY0–7 and clears them. -/
  | burnKey (arg : Byte)
  /-- Burns the fuse that requires authenticated images. -/
  | burnAuthreq (arg : Byte)
  /-- A lane ends checking and wedging of a slot and goes ACTIVE or SHADOW, or tries the other slot. -/
  | firingComplete (lane : LaneId)
  /-- The arbiter compares the lanes' firing results and orders a refire or retirement on a difference. -/
  | firingResultCompare (passA passB : Bool)
  /-- A lane finishes wedging a patch. -/
  | partialWedgingDone (lane : LaneId) (buf : Fin 2)
  /-- At m + 40 ms each lane releases the partial-firing-wedged record. -/
  | partialFiringWedged
  /-- At the first alarm-scan boundary at or after m + 50 ms an accepted patch replaces its region. -/
  | partialFiringApply
  /-- The VSYS supervisor resets the node including the always-on domains. -/
  | powerOnReset
  /-- RESET_n is asserted and the node resets with cause EXT. -/
  | resetNAsserted
  /-- Reset is released and the start sequence begins. -/
  | resetRelease
  /-- The straps are sampled 10 µs after reset release. -/
  | strapSample (straps : BitVec 15)
  /-- The synthesisers lock and HOUSE moves to the module synthesiser. -/
  | synthLock
  /-- CLKREF becomes good after a start that waited for it. -/
  | clkrefGood
  /-- A start record write ends and a write that fell due meanwhile begins. -/
  | startRecordWriteDone
  /-- No reference arrived within 300 ms and the node takes authority unsynchronised. -/
  | referenceWaitEnd
  /-- RUNNING not reached 5.0 s after reset release and a DEADLINE supervisor reset begins. -/
  | startDeadline
  /-- 60 s after RUNNING the start record PHASE becomes STABLE. -/
  | phaseStable
  /-- After 600 s of continuous running FAILS returns to 0. -/
  | failsCleared
  /-- A state transfer not complete after 10 s starts again at round 0. -/
  | stateTransferTimeout
  /-- Each whole second in bisque mode a beacon is queued on each bus. -/
  | bisqueBeacon
  /-- Stops the lanes, holds outputs, drains the recorder and resets the node. -/
  | restart (arg : Byte) (cnp : Bool)
  /-- Clears FAILS and resets the node out of bisque mode. -/
  | leaveBisque (arg : Byte) (cnp : Bool)
  /-- Clears the failed-start count of a running node. -/
  | clrFails (arg : Byte) (cnp : Bool)
  /-- The recorder has drained its staging FIFO and the commanded reset begins. -/
  | restartDrainDone
  /-- A host port read frame samples its words at one instant and returns STATUS, data and CRC. -/
  | hostReadFrame (op : Byte) (addr : BitVec 24) (hcrc : Option Byte) (whole : Bool) (t : Nat)
  /-- A host port write frame is accepted at its data CRC and its words are served. -/
  | hostWriteFrame (op : Byte) (addr : BitVec 24) (hcrc : Option Byte) (data : List Byte) (dcrc : Option Byte) (whole : Bool) (t : Nat)
  /-- A write to a register without a row of its own is taken under the view rules. -/
  | registerWrite (addr : BitVec 22) (v : Word) (cnp : Bool) (t : Nat)
  /-- A write of 1 clears pending event bits. -/
  | evtPendClear (lane : LaneId) (w : Fin 6) (v : Word)
  /-- A write of EVT_CNPw sets routing bits and ignores lane-local and event-merge bits. -/
  | evtCnpWrite (w : Fin 6) (v : Word)
  /-- Clears RING_ERR and RING_TOK. -/
  | cntClr
  /-- A read of CFG_WRW3 advances the report entry index. -/
  | cfgWrw3Read (lane : LaneId)
  /-- A write of MEM_OWNb hands a bank between NONE and HOST at its effect boundary. -/
  | memOwnWrite (bank : Fin 32) (owner : BitVec 4)
  /-- A write of MEM_WSEL selects the bank shown in the view's windows within 1 µs. -/
  | memWselWrite (view : Option LaneId) (bank : Fin 32)
  /-- A write through the bit-set alias ORs the value into the half-word. -/
  | bitSetWrite (o : BitVec 14) (v : Word)
  /-- A write through the bit-clear alias clears the written bits. -/
  | bitClearWrite (o : BitVec 14) (v : Word)
  /-- Every 6.4 µs the scrubber reads the next word and corrects a single-bit error. -/
  | scrubRead (lane : LaneId) (res : Fin 4) (t : Nat)
  /-- A TOKEN frame is received, the node sends at most one frame and passes the token. -/
  | ringToken (port : Port) (dst : BitVec 6) (src : BitVec 5) (t : Nat)
  /-- A CLAIM frame is received and the node drops or keeps its own claim. -/
  | ringClaim (port : Port) (dst : BitVec 6) (src : BitVec 5) (t : Nat)
  /-- An OPEN frame is received and a named neighbour enters wrap. -/
  | ringOpen (port : Port) (dst : BitVec 6) (src nbr : BitVec 5) (lost : Port) (t : Nat)
  /-- A PROBE frame is received on a lost port. -/
  | ringProbe (port : Port) (dst : BitVec 6) (src : BitVec 5) (t : Nat)
  /-- A CLOSED frame is received and the member may leave wrap. -/
  | ringClosed (port : Port) (dst : BitVec 6) (src nbr : BitVec 5) (lost : Port) (t : Nat)
  /-- A CALL frame is received and repeated or removed when it is the node's own. -/
  | ringCall (port : Port) (dst : BitVec 6) (src : BitVec 5) (data : List Byte) (t : Nat)
  /-- A station command frame addressed to the node is taken as a command. -/
  | stnCmd (port : Port) (src : BitVec 5) (dst : BitVec 6) (op : Byte) (tgt : BitVec 16) (seq : Byte) (t : Nat)
  /-- A station status frame is taken for presence. -/
  | stnStat (port : Port) (dst : BitVec 6) (src : BitVec 5) (data : List Byte) (t : Nat)
  /-- A command response frame from another node is repeated. -/
  | cmdResp (port : Port) (dst : BitVec 6) (src : BitVec 5) (data : List Byte) (t : Nat)
  /-- A ring frame with a CRC or Manchester error is discarded and counted. -/
  | ringFrameCorrupt (port : Port) (hdr : BitVec 16) (len : Byte) (data : List Byte) (crc : BitVec 16) (viol : Bool) (t : Nat)
  /-- No TOKEN for 40 ms + 0.5 ms × RADDR and the node sends CLAIM. -/
  | tokenLoss (t : Nat)
  /-- A sent frame has not returned after 250 µs, RETFAIL increments and the token is passed. -/
  | frameReturnTimeout (t : Nat)
  /-- No valid frame on an expected port for 40 ms, the port is lost and the member enters wrap. -/
  | portLost (port : Port) (t : Nat)
  /-- A member in wrap sends PROBE out of its lost port every 100 ms. -/
  | probeTimer (port : Port) (t : Nat)
  /-- 40 ms after RING_DIS took effect without a token the bypass closes. -/
  | ringDisTimeout (t : Nat)
  /-- The node sends CALL at least once every 1.0 s. -/
  | callRefresh (t : Nat)
  /-- VSYS below 16.0 V for 100 µs sets VSYS_LOST and stops the charger. -/
  | vsysLostSet (vsys vhold : BitVec 16) (t : Nat)
  /-- VSYS at or above 17.0 V for 1 ms clears VSYS_LOST and restarts the charger. -/
  | vsysLostClear (vsys vhold : BitVec 16) (t : Nat)
  /-- A VSYS or VLOOP low or high warning is set or cleared after its delay. -/
  | supplyWarningChange (flag : Fin 4) (v : Bool) (volts : BitVec 16)
  /-- VHOLD crosses 14.0 V or 13.5 V and HOLD_OK changes. -/
  | holdOkChange (v : Bool) (vhold : BitVec 16)
  /-- The internal domains change between drawing from VSYS and from VHOLD. -/
  | onHoldChange (v : Bool)
  /-- SRC_EMG reads a new level for 2 consecutive samples and EMG changes. -/
  | emgChange (v : Bool)
  /-- VHOLD falls below 5.0 V with VSYS lost and every domain switches off. -/
  | vholdExhausted
  /-- A charge from 5.0 V to 14.0 V ends and CMEAS and HOLD_SMALL are updated. -/
  | capacitanceMeasured (c : BitVec 16)
  /-- A domain is switched on in the start sequence order. -/
  | domainSwitchOn (d : Fin 14) (good : Bool)
  /-- A domain rail or current leaves limits for 10 µs and the domain is switched off. -/
  | domainFault (d : Fin 14) (cause : BitVec 2) (t : Nat)
  /-- 100 ms after a fault a retried domain is switched on again. -/
  | domainRetry (d : Fin 14) (good : Bool) (t : Nat)
  /-- Every 100 ms the ledger sets ELVL and updates the thermal average and TLVL. -/
  | planningEpoch
  /-- VHOLD falls to VTRIP with VSYS lost, HOUSE switches off domains and signals power loss. -/
  | powerLossTrip (vhold : BitVec 16) (t : Nat)
  /-- An output leaves current limit because its load no longer draws the limit current, and its part in FLT of the bank ends. -/
  | currentLimitEnd (n : Fin 32) (t : Nat)
  /-- A lost link from the field digital I/O stage to a lane carries valid frames again and LINK of DI_BSTk is set. -/
  | dioLinkUp (lane : LaneId)
  /-- Lane A's internal oscillator fails its check against CLKREF, and HOUSE takes the internal oscillator of Lane B, changing OSCSRC. -/
  | oscillatorCheckFailure
  /-- A power-loss flush that began before VSYS returned has committed its records, and the node performs a reset with cause POWER_ON. -/
  | flushComplete
  /-- On an edge of TCK the IEEE 1149.1 test access port moves its controller state under TMS, capturing, shifting or updating the instruction or data register. -/
  | tckEdge (rise tms tdi : Bool) (cells : BitVec 40)
  /-- TRST_n is asserted and the test logic is reset, selecting IDCODE. -/
  | testLogicReset
  deriving DecidableEq, Repr

end Sys2Proof
end

