-- ==== Sys2Proof/Machine/Crc.lean ====
section
/-! DEFINITION. The check codes of the node: CRC-8, CRC-16, CRC-32C, CRC-64, and HMAC-SHA-256 (R318, R344, R479,
R483, R537). Bytes are folded one at a time; every function is a plain recursion over its input. -/

namespace Sys2Proof.Machine

/-- One bit of a code computed most significant bit first. -/
def crcShiftMsb {w : Nat} (poly : BitVec w) (c : BitVec w) : BitVec w :=
  if c.getMsbD 0 then (c <<< 1) ^^^ poly else c <<< 1

/-- One bit of a reflected code. -/
def crcShiftLsb {w : Nat} (poly : BitVec w) (c : BitVec w) : BitVec w :=
  if c.getLsbD 0 then (c >>> 1) ^^^ poly else c >>> 1

/-- `f` applied `n` times. -/
def iter {α : Type} (f : α → α) : Nat → α → α
  | 0, a => a
  | n + 1, a => iter f n (f a)

/-- A code over bytes, most significant bit first, not reflected. -/
def crcMsb {w : Nat} (poly init : BitVec w) (bs : List Byte) : BitVec w :=
  bs.foldl (fun c b => iter (crcShiftMsb poly) 8 (c ^^^ ((b.setWidth w : BitVec w) <<< (w - 8)))) init

/-- A reflected code over bytes; `poly` is the reflected polynomial. -/
def crcLsb {w : Nat} (poly init : BitVec w) (bs : List Byte) : BitVec w :=
  bs.foldl (fun c b => iter (crcShiftLsb poly) 8 (c ^^^ (b.setWidth w : BitVec w))) init

/-- The CRC-8 of the host port (R537). -/
def crc8 (bs : List Byte) : BitVec 8 := crcMsb 0x2F#8 0xFF#8 bs
/-- The CRC-16 of records and ring frames: polynomial 0x1021, initial value 0xFFFF, no inversion (R344). -/
def crc16 (bs : List Byte) : BitVec 16 := crcMsb 0x1021#16 0xFFFF#16 bs
/-- CRC-32C: initial value 0xFFFF_FFFF and final inversion (R318); Castagnoli's code is reflected (log 24). -/
def crc32c (bs : List Byte) : BitVec 32 := ~~~ crcLsb 0x82F63B78#32 0xFFFFFFFF#32 bs
/-- The CRC-64 of the digest (R318): not reflected, initial value all ones, final inversion. -/
def crc64 (bs : List Byte) : BitVec 64 := ~~~ crcMsb 0x42F0E1EBA9EA3693#64 0xFFFFFFFFFFFFFFFF#64 bs

/-- The `n` bytes of a number, least significant first. -/
def leBytes : Nat → Nat → List Byte
  | 0, _ => []
  | n + 1, v => BitVec.ofNat 8 v :: leBytes n (v / 256)

/-- The number of little-endian bytes. -/
def leNat : List Byte → Nat
  | [] => 0
  | b :: bs => b.toNat + 256 * leNat bs

/-- The number of big-endian bytes. -/
def beNat (bs : List Byte) : Nat := leNat bs.reverse

/-- The `n` bytes of a number, most significant first. -/
def beBytes (n v : Nat) : List Byte := (leBytes n v).reverse

/-- A word as its four bytes, least significant first. -/
def wordBytes (w : Word) : List Byte := leBytes 4 w.toNat

/-- Words as bytes, each least significant byte first (R318). -/
def wordsBytes (ws : List Word) : List Byte := ws.flatMap wordBytes

/-! ### SHA-256 and HMAC (R483) -/

/-- The largest number below 2 ^ `i` whose power `e` does not exceed `n`, `r` being the part already found. -/
def rootFrom (e n : Nat) : Nat → Nat → Nat
  | 0, r => r
  | i + 1, r => rootFrom e n i (if (r + 2 ^ i) ^ e ≤ n then r + 2 ^ i else r)

/-- The primes below 312, the first 64. -/
def smallPrimes : List Nat :=
  (List.range 312).filter (fun n => 2 ≤ n && (List.range 18).all (fun d => d < 2 || d == n || n % d != 0))

/-- The first 32 bits of the fractional part of the root `e` of `n`: the constants of SHA-256 are roots of primes. -/
def rootBits (e n : Nat) : Word := BitVec.ofNat 32 (rootFrom e (n * 2 ^ (32 * e)) 37 0)

/-- The exclusive or of a word's rotations to the right. -/
def rotXor (w : Word) (turns : List Nat) : Word := turns.foldl (fun x n => x ^^^ w.rotateRight n) 0#32

/-- A half of the working state of SHA-256: the newest value of its chain and the three before it. -/
structure ShaHalf where
  v0 : Word
  v1 : Word
  v2 : Word
  v3 : Word

/-- A half with a new value at its head. -/
def ShaHalf.push (p : ShaHalf) (w : Word) : ShaHalf := ⟨w, p.v0, p.v1, p.v2⟩
/-- The words of a half. -/
def ShaHalf.words (p : ShaHalf) : List Word := [p.v0, p.v1, p.v2, p.v3]
/-- The first four words of a list as a half. -/
def ShaHalf.of (ws : List Word) : ShaHalf := ⟨ws.getD 0 0, ws.getD 1 0, ws.getD 2 0, ws.getD 3 0⟩

/-- One round: each chain takes a value; `kw` is the round's constant plus its schedule word. -/
def shaRound (x : ShaHalf × ShaHalf) (kw : Word) : ShaHalf × ShaHalf :=
  let p := x.1
  let q := x.2
  let pick := q.v2 ^^^ (q.v0 &&& (q.v1 ^^^ q.v2))
  let most := (p.v0 &&& p.v1) ||| (p.v2 &&& (p.v0 ||| p.v1))
  let mix := q.v3 + rotXor q.v0 [6, 11, 25] + pick + kw
  (p.push (mix + rotXor p.v0 [2, 13, 22] + most), q.push (p.v3 + mix))

/-- The message schedule, newest word first, after `n` more words. -/
def shaExpand : Nat → List Word → List Word
  | 0, ws => ws
  | n + 1, ws =>
    let x := ws.getD 14 0
    let y := ws.getD 1 0
    shaExpand n ((ws.getD 15 0 + (rotXor x [7, 18] ^^^ (x >>> 3)) + ws.getD 6 0 + (rotXor y [17, 19] ^^^ (y >>> 10))) :: ws)

/-- The chaining value after a block of 16 words. -/
def shaBlock (h ws : List Word) : List Word :=
  let ks := smallPrimes.map (rootBits 3)
  let kws := List.zipWith (· + ·) ks (shaExpand 48 ws.reverse).reverse
  let x := kws.foldl shaRound (ShaHalf.of h, ShaHalf.of (h.drop 4))
  List.zipWith (· + ·) h (x.1.words ++ x.2.words)

/-- The chaining value after `n` blocks of bytes. -/
def shaBlocks : Nat → List Word → List Byte → List Word
  | 0, h, _ => h
  | n + 1, h, bs =>
    shaBlocks n (shaBlock h ((List.range 16).map (fun i => BitVec.ofNat 32 (beNat ((bs.drop (4 * i)).take 4))))) (bs.drop 64)

/-- SHA-256 of a message: a bit 1, zeros to the end of a block, the length in bits in the last eight bytes. -/
def sha256 (bs : List Byte) : List Byte :=
  let n := (bs.length + 72) / 64
  let msg := bs ++ 0x80#8 :: List.replicate (64 * n - bs.length - 9) 0#8 ++ beBytes 8 (8 * bs.length)
  (shaBlocks n ((smallPrimes.take 8).map (rootBits 2)) msg).flatMap (fun w => beBytes 4 w.toNat)

/-- HMAC-SHA-256 with a 32-byte key (R483). -/
def hmacSha256 (key msg : List Byte) : List Byte :=
  let k := key ++ List.replicate (64 - key.length) 0#8
  sha256 (k.map (· ^^^ 0x5C#8) ++ sha256 (k.map (· ^^^ 0x36#8) ++ msg))

end Sys2Proof.Machine
end

