-- ==== Sys2Proof/Config.lean ====
section
/-! DEFINITION. What one module of the node fixes and what the spec leaves open: free values without a body.
Nothing in Lean can evaluate one of them, and a statement proved here holds for every value they may have. -/

namespace Sys2Proof.Config

/-- Free value (log 20): the sign and payload bits of the NaN that a binary32 operation delivers; the spec names
IEEE 754, which leaves them open. Only the bits that keep the word a quiet NaN are fixed by the operation. -/
opaque nanPayload : Word → Word → Word

/-- IEC 60584-1 (R118): the coefficients, from the highest on, of the reference polynomial that holds at a temperature in °C for a
thermocouple of SENSOR code `type` (1 B … 8 T), and what the standard makes of the polynomial's value at that temperature (its
unit, and the exponential term of type K) in volts. The standard's figures are not in the spec (log 21). -/
opaque tcRef : Nat → Word → List Word
opaque tcRefEnd : Nat → Word → Word → Word

/-- IEC 60584-1 (R118): the coefficients, from the highest on, of the inverse polynomial that holds at an emf in volts, and that
emf in the unit of the standard (log 21). -/
opaque tcInv : Nat → Word → List Word
opaque tcInvUnit : Nat → Word → Word

/-- R122: the binary32 values nearest the emf at the lower and upper limits of a thermocouple type's range (log 21). -/
opaque tcEmfLo : Nat → Word
opaque tcEmfHi : Nat → Word

/-- R118: the lower and upper limits in °C of a thermocouple type's range where the table of the spec needs them
(log 21). -/
opaque tcLo : Nat → Word
opaque tcHi : Nat → Word

/-- Production data of the NOR store (R474, R558): stepping of the silicon and serial number of the module. -/
opaque stepping : BitVec 4
opaque serial : Word

/-- Spare rows used per bank, fused at production (MEM_BST.SPARES). -/
opaque spares : Nat → BitVec 3

/-- Production data: a glyph row of the renderer's fixed glyph set, `glyph code row` (R466, R527; log 22). -/
opaque glyph : Nat → Nat → BitVec 8

/-- Production data (R130): offset in volts and gain of a path of a channel (0 path A, 1 path B), log 25. -/
opaque trimOff : Nat → Nat → Word
opaque trimGt : Nat → Nat → Word

/-- Free values (log 35): what a source selector reads whose INDEX lies outside the range of its KIND, and its quality. -/
opaque noSource : Nat → Nat → Word
opaque noSourceBad : Nat → Nat → Bool

/-- Free values (log 28), drawn from the model's own counter: what a host read finds in a bank that a unit owns; the spec
gives the working banks no layout. -/
opaque bankWord : Nat → Word

/-- Free value (log 34): the dimming target that a slot value outside the integers gives (R455 rounds and limits it). -/
opaque nanDim : Word → BitVec 4

/-- Free values (log 40): what the bisque drive set leaves out of the panel's settings: the dimming value, the grey curve, and
the limit of the crazing loop. -/
opaque bisqueDim : BitVec 8
opaque bisqueGamma : Nat → BitVec 12
opaque bisqueCrzMax : BitVec 8

/-- Free values (log 27): the bytes of a store page whose read-back differed, by page and byte. -/
opaque badPage : Nat → Nat → BitVec 8

/-- Free values (log 42), drawn from the model's own counter: the data words of a read frame that ends FORMAT. -/
opaque formatWord : Nat → Word

/-- Free value (log 43): the object index in the identifier of a register or image-transfer response, by class and tag. -/
opaque respObject : Nat → Nat → BitVec 13

/-- Free value (log 103): where between 119 and 127 ISO 11898-1 lets a controller set REC after it receives a frame with REC above 127,
above 119. -/
opaque recBack : Fin 9

end Sys2Proof.Config
end

