-- ==== Sys2Proof/Machine/Float.lean ====
section
/-! DEFINITION. IEEE 754 binary32 arithmetic with round-to-nearest-even: one exact operation, one rounding,
subnormal operands and results kept (R117, R136, R222). A value is the register word that holds it. -/

namespace Sys2Proof.Machine

/-- A binary32 value is the word that holds it. -/
abbrev F32 := Word

namespace F32

/-- The sign bit. -/
def neg? (x : F32) : Bool := x.getLsbD 31
/-- The biased exponent field. -/
def expo (x : F32) : Nat := (x.toNat / 2 ^ 23) % 256
/-- The fraction field. -/
def frac (x : F32) : Nat := x.toNat % 2 ^ 23

/-- NaN: exponent all ones, fraction not zero. -/
def isNaN (x : F32) : Bool := expo x == 255 && frac x != 0
/-- An infinity. -/
def isInf (x : F32) : Bool := expo x == 255 && frac x == 0
/-- Neither NaN nor infinite. -/
def isFin (x : F32) : Bool := expo x != 255
/-- A zero of either sign. -/
def isZero (x : F32) : Bool := expo x == 0 && frac x == 0

/-- The integer significand of a finite value: the value is ± `mant` × 2 ^ (`sexp` − 149). -/
def mant (x : F32) : Nat := if expo x = 0 then frac x else 2 ^ 23 + frac x
/-- The exponent of the significand's unit, counted from 2 ^ −149. -/
def sexp (x : F32) : Nat := if expo x = 0 then 0 else expo x - 1

/-- A word from sign, biased exponent and fraction. -/
def pack (n : Bool) (e f : Nat) : F32 := BitVec.ofNat 32 ((if n then 2 ^ 31 else 0) + e * 2 ^ 23 + f)

/-- Zero of the given sign. -/
def zero (n : Bool) : F32 := pack n 0 0
/-- Infinity of the given sign. -/
def inf (n : Bool) : F32 := pack n 255 0
/-- The quiet NaN an operation on `x` and `y` delivers; its sign and payload are free (log 20). -/
def nanOf (x y : F32) : F32 := (Config.nanPayload x y &&& 0x803FFFFF#32) ||| 0x7FC00000#32

/-- Half-to-even rounding of `m / 2 ^ k`, where `sticky` says that the exact value lies a little above. -/
def roundShift (m k : Nat) (sticky : Bool) : Nat :=
  if k = 0 then m else
    let q := m / 2 ^ k
    let r := m % 2 ^ k
    let half := 2 ^ (k - 1)
    if r > half ∨ (r = half ∧ (sticky ∨ q % 2 = 1)) then q + 1 else q

/-- The binary32 value nearest ± (`m` + ε) × 2 ^ (`e` − 149), ε positive and below 1 when `sticky`, ties to even.
A caller that sets `sticky` gives `m` at least 26 significant bits or an exponent below the subnormal unit. -/
def round (n : Bool) (m : Nat) (e : Int) (sticky : Bool) : F32 :=
  if m = 0 then zero n else
    let unit : Int := max (e + (Nat.log2 m + 1 : Nat) - 24) 0
    let q := if unit ≤ e then m * 2 ^ (e - unit).toNat else roundShift m (unit - e).toNat sticky
    let u := unit.toNat
    if q < 2 ^ 23 then pack n 0 q
    else if q < 2 ^ 24 then (if u + 1 ≥ 255 then inf n else pack n (u + 1) (q - 2 ^ 23))
    else (if u + 2 ≥ 255 then inf n else pack n (u + 2) 0)

/-- The exact value of a finite word in units of 2 ^ −149. -/
def scaled (x : F32) : Int :=
  let v : Int := (mant x * 2 ^ sexp x : Nat)
  if neg? x then -v else v

/-- The binary32 value nearest an integer count of 2 ^ −149 units; `z` is the sign of an exact zero. -/
def ofScaled (v : Int) (z : Bool) : F32 :=
  if v = 0 then zero z else round (v < 0) v.natAbs 0 false

/-- Addition. -/
def add (x y : F32) : F32 :=
  if isNaN x || isNaN y then nanOf x y
  else if isInf x then (if isInf y && neg? x != neg? y then nanOf x y else x)
  else if isInf y then y
  else ofScaled (scaled x + scaled y) (neg? x && neg? y)

/-- The value with its sign inverted. -/
def negate (x : F32) : F32 := x ^^^ 0x80000000#32
/-- The magnitude. -/
def abs (x : F32) : F32 := x &&& 0x7FFFFFFF#32

/-- Subtraction. -/
def sub (x y : F32) : F32 := if isNaN y then nanOf x y else add x (negate y)

/-- Multiplication. -/
def mul (x y : F32) : F32 :=
  let n := neg? x != neg? y
  if isNaN x || isNaN y then nanOf x y
  else if isInf x || isInf y then (if isZero x || isZero y then nanOf x y else inf n)
  else round n (mant x * mant y) ((sexp x : Int) + sexp y - 149) false

/-- Division. -/
def div (x y : F32) : F32 :=
  let n := neg? x != neg? y
  if isNaN x || isNaN y then nanOf x y
  else if isInf x then (if isInf y then nanOf x y else inf n)
  else if isInf y then zero n
  else if isZero y then (if isZero x then nanOf x y else inf n)
  else
    let num := mant x * 2 ^ 64
    round n (num / mant y) ((sexp x : Int) - sexp y - 64 + 149) (num % mant y != 0)

/-- The integer square root of `n` below 2 ^ (2 × `k`), one result bit per step from the top. -/
def isqrt : Nat → Nat → Nat → Nat
  | 0, _, r => r
  | k + 1, n, r => if (r + 2 ^ k) * (r + 2 ^ k) ≤ n then isqrt k n (r + 2 ^ k) else isqrt k n r

/-- The correctly rounded square root. -/
def sqrt (x : F32) : F32 :=
  if isNaN x then nanOf x x
  else if isZero x then x
  else if neg? x then nanOf x x
  else if isInf x then x
  else
    -- the value is m × 2 ^ (e − 149); an odd power 2 ^ −149 is made even by one factor 2
    let e := sexp x
    let odd := (e + 1) % 2
    let m := mant x * 2 ^ (52 + odd)
    let r := isqrt 44 m 0
    round false r (((e : Int) - 149 - 52 - odd) / 2 + 149) (r * r != m)

/-- The binary32 value nearest the exact ratio `n` / `d`. -/
def ofRat (n : Int) (d : Nat) : F32 :=
  let num := n.natAbs * 2 ^ 224
  if n = 0 then zero false else round (n < 0) (num / d) (149 - 224) (num % d != 0)

/-- An integer, rounded once where it needs more than 24 bits. -/
def ofInt (n : Int) : F32 := if n = 0 then zero false else round (n < 0) n.natAbs 149 false
/-- A count, rounded once where it needs more than 24 bits. -/
def ofNat (n : Nat) : F32 := ofInt n

/-- Exact comparison, false when either side is NaN. -/
def lt (x y : F32) : Bool :=
  if isNaN x || isNaN y then false
  else if isInf x then neg? x && !(isInf y && neg? y)
  else if isInf y then !neg? y
  else scaled x < scaled y
/-- Exact comparison, false when either side is NaN. -/
def eq (x y : F32) : Bool :=
  if isNaN x || isNaN y then false
  else x == y || (isZero x && isZero y)
/-- Exact comparison, false when either side is NaN. -/
def le (x y : F32) : Bool := lt x y || eq x y
/-- Exact comparison, false when either side is NaN. -/
def gt (x y : F32) : Bool := lt y x
/-- Exact comparison, false when either side is NaN. -/
def ge (x y : F32) : Bool := le y x

/-- The larger bound and then the smaller one: `x` limited to `lo` … `hi`. -/
def clamp (lo hi x : F32) : F32 := if lt x lo then lo else if gt x hi then hi else x

/-- The integer nearest a finite value, ties to even. -/
def toIntRNE (x : F32) : Int :=
  let v : Nat := mant x * 2 ^ sexp x
  let q : Nat := v / 2 ^ 149
  let r : Nat := v % 2 ^ 149
  let m : Nat := if r > 2 ^ 148 ∨ (r = 2 ^ 148 ∧ q % 2 = 1) then q + 1 else q
  if neg? x then -(m : Int) else m

/-- The largest finite value with the sign of `x` (the wedging clamp of an infinity). -/
def maxFin (n : Bool) : F32 := pack n 254 (2 ^ 23 - 1)

/-- The next binary32 value above a value. DESIGN CHOICE (log 98): none follows +∞ in IEEE 754; the word after it, a NaN, stands for
it. -/
def nextUp (x : F32) : F32 :=
  if isZero x then 1#32 else if neg? x then x - 1#32 else x + 1#32

/-- Wedging of a binary32 field (R129, and the wedging tables of the chapters): NaN to +0.0, an infinity to the
largest finite value of its sign. -/
def wedge (x : F32) : F32 := if isNaN x then 0#32 else if isInf x then maxFin (neg? x) else x

end F32

end Sys2Proof.Machine
end

