-- ==== Sys2Proof/Machine/RegMap.lean ====
section
/-! DEFINITION. The register map of the node, written from the register tables of the spec: where each register
lies, its fields, what it holds after reset, which fields come from the firing image (R18, R479) and which may be
written. A register is named by its key, the byte address divided by 4: in a lane block the offset in the view
(R46), in a module-shared block the absolute address (R11). Index arguments stand in the order of the name. -/

namespace Sys2Proof.Machine

/-- A field of a register: its least significant bit and its width in bits. -/
structure Fld where
  lo : Nat
  width : Nat
  deriving DecidableEq, Repr

/-- The number a field holds in a word. -/
def Fld.get (f : Fld) (w : Word) : Nat := (w >>> f.lo).toNat % 2 ^ f.width

/-- The mask of a field. -/
def Fld.mask (f : Fld) : Word := BitVec.ofNat 32 (2 ^ f.width - 1) <<< f.lo

/-- A word with a field replaced by `v`, reduced to the field's width; the other bits keep their values. -/
def Fld.put (f : Fld) (v : Nat) (w : Word) : Word :=
  (w &&& ~~~ f.mask) ||| (BitVec.ofNat 32 (v % 2 ^ f.width) <<< f.lo)

/-- A one-bit field as a truth value. -/
def Fld.on (f : Fld) (w : Word) : Bool := f.get w != 0

/-! ### Registers of spec/02_input_front_end.md -/

/-- AIN_TSTAT of block AIN, byte offset 0x0000; t < 12. -/
def AIN_TSTAT (t : Nat) : Nat := 0x2000 + 4 * t
def AIN_TSTAT_LINK_A : Fld := ⟨0, 1⟩
def AIN_TSTAT_LINK_B : Fld := ⟨1, 1⟩
def AIN_TSTAT_TILE_PWR : Fld := ⟨2, 1⟩
def AIN_TSTAT_CJC_FAULT : Fld := ⟨3, 1⟩
def AIN_TSTAT_CJC_FALLBACK : Fld := ⟨4, 1⟩
def AIN_TSTAT_LINK_A_ERR : Fld := ⟨8, 8⟩
def AIN_TSTAT_LINK_B_ERR : Fld := ⟨16, 8⟩

/-- AIN_CJC of block AIN, byte offset 0x0004; t < 12. -/
def AIN_CJC (t : Nat) : Nat := 0x2001 + 4 * t

/-- AIN_TCFG of block AIN, byte offset 0x0008; t < 12. -/
def AIN_TCFG (t : Nat) : Nat := 0x2002 + 4 * t
def AIN_TCFG_FALLBACK : Fld := ⟨0, 16⟩
def AIN_TCFG_CJC_EN : Fld := ⟨16, 1⟩
def AIN_TCFG_FIXED : Fld := ⟨17, 1⟩

/-- AIN_CJCR of block AIN, byte offset 0x000C; t < 12. -/
def AIN_CJCR (t : Nat) : Nat := 0x2003 + 4 * t

/-- AIN_CFG of block AIN, byte offset 0x0400; n < 96. -/
def AIN_CFG (n : Nat) : Nat := 0x2100 + n
def AIN_CFG_SENSOR : Fld := ⟨0, 4⟩
def AIN_CFG_RANGE : Fld := ⟨4, 3⟩
def AIN_CFG_AUTO : Fld := ⟨7, 1⟩
def AIN_CFG_WIRES : Fld := ⟨8, 2⟩
def AIN_CFG_IEXC : Fld := ⟨10, 1⟩
def AIN_CFG_EXC_OFF : Fld := ⟨11, 1⟩
def AIN_CFG_BURNOUT : Fld := ⟨12, 1⟩
def AIN_CFG_LEAD : Fld := ⟨16, 8⟩

/-- AIN_CHST of block AIN, byte offset 0x0600; n < 96. -/
def AIN_CHST (n : Nat) : Nat := 0x2180 + n
def AIN_CHST_OPEN : Fld := ⟨0, 1⟩
def AIN_CHST_EXC_SAT : Fld := ⟨1, 1⟩
def AIN_CHST_OVR_A : Fld := ⟨2, 1⟩
def AIN_CHST_OVR_B : Fld := ⟨3, 1⟩
def AIN_CHST_SHUNT_TRIP : Fld := ⟨4, 1⟩
def AIN_CHST_SWAP_PH : Fld := ⟨5, 1⟩
def AIN_CHST_GAIN_A : Fld := ⟨6, 3⟩
def AIN_CHST_GAIN_B : Fld := ⟨9, 3⟩
def AIN_CHST_DIV : Fld := ⟨12, 1⟩
def AIN_CHST_SHUNT : Fld := ⟨13, 1⟩
def AIN_CHST_INJ_A : Fld := ⟨14, 1⟩
def AIN_CHST_INJ_B : Fld := ⟨15, 1⟩
def AIN_CHST_TRIPS : Fld := ⟨24, 8⟩

/-- AIN_CMD of block AIN, byte offset 0x0800. -/
def AIN_CMD : Nat := 0x2200
def AIN_CMD_OPCODE : Fld := ⟨0, 8⟩
def AIN_CMD_CHANNEL : Fld := ⟨8, 7⟩
def AIN_CMD_ARG : Fld := ⟨16, 8⟩

/-- AIN_CMDST of block AIN, byte offset 0x0804. -/
def AIN_CMDST : Nat := 0x2201
def AIN_CMDST_STATUS : Fld := ⟨0, 2⟩
def AIN_CMDST_LAST_OP : Fld := ⟨8, 8⟩
def AIN_CMDST_LAST_CH : Fld := ⟨16, 7⟩

/-! ### Registers of spec/03_measurement_pipeline.md -/

/-- AIN_PCFG of block AIN, byte offset 0x1000; n < 96. -/
def AIN_PCFG (n : Nat) : Nat := 0x2400 + n
def AIN_PCFG_RATE : Fld := ⟨0, 4⟩
def AIN_PCFG_PRIM : Fld := ⟨4, 1⟩
def AIN_PCFG_CHAR : Fld := ⟨5, 2⟩
def AIN_PCFG_INJ_EN : Fld := ⟨7, 1⟩
def AIN_PCFG_TABLE : Fld := ⟨8, 3⟩
def AIN_PCFG_CUTOFF : Fld := ⟨11, 5⟩
def AIN_PCFG_TOL : Fld := ⟨16, 16⟩

/-- AIN_EGAIN of block AIN, byte offset 0x1200; n < 96. -/
def AIN_EGAIN (n : Nat) : Nat := 0x2480 + n

/-- AIN_EOFF of block AIN, byte offset 0x1400; n < 96. -/
def AIN_EOFF (n : Nat) : Nat := 0x2500 + n

/-- AIN_SUBST of block AIN, byte offset 0x1600; n < 96. -/
def AIN_SUBST (n : Nat) : Nat := 0x2580 + n

/-- AIN_VAL of block AIN, byte offset 0x1800; n < 96. -/
def AIN_VAL (n : Nat) : Nat := 0x2600 + n

/-- AIN_VFLG of block AIN, byte offset 0x1A00; n < 96. -/
def AIN_VFLG (n : Nat) : Nat := 0x2680 + n
def AIN_VFLG_STALE : Fld := ⟨0, 1⟩
def AIN_VFLG_RANGE_TR : Fld := ⟨1, 1⟩
def AIN_VFLG_INJ : Fld := ⟨2, 1⟩
def AIN_VFLG_SINGLE : Fld := ⟨3, 1⟩
def AIN_VFLG_DISAGREE : Fld := ⟨4, 1⟩
def AIN_VFLG_OVR : Fld := ⟨5, 1⟩
def AIN_VFLG_OPEN : Fld := ⟨6, 1⟩
def AIN_VFLG_CJC_FB : Fld := ⟨7, 1⟩
def AIN_VFLG_LIM : Fld := ⟨8, 1⟩
def AIN_VFLG_SUBST : Fld := ⟨9, 1⟩
def AIN_VFLG_NOPATH : Fld := ⟨10, 1⟩
def AIN_VFLG_SRC : Fld := ⟨11, 1⟩
def AIN_VFLG_SP_CAUSE : Fld := ⟨12, 2⟩
def AIN_VFLG_DIS_CNT : Fld := ⟨14, 2⟩
def AIN_VFLG_RST_CNT : Fld := ⟨16, 5⟩

/-- AIN_RAWA of block AIN, byte offset 0x1C00; n < 96. -/
def AIN_RAWA (n : Nat) : Nat := 0x2700 + n
def AIN_RAWA_CODE : Fld := ⟨0, 24⟩
def AIN_RAWA_GAIN : Fld := ⟨24, 3⟩
def AIN_RAWA_OVR : Fld := ⟨27, 1⟩
def AIN_RAWA_PRESENT : Fld := ⟨28, 1⟩
def AIN_RAWA_MARK : Fld := ⟨29, 1⟩

/-- AIN_RAWB of block AIN, byte offset 0x1E00; n < 96. -/
def AIN_RAWB (n : Nat) : Nat := 0x2780 + n
def AIN_RAWB_CODE : Fld := ⟨0, 24⟩
def AIN_RAWB_GAIN : Fld := ⟨24, 3⟩
def AIN_RAWB_OVR : Fld := ⟨27, 1⟩
def AIN_RAWB_PRESENT : Fld := ⟨28, 1⟩
def AIN_RAWB_MARK : Fld := ⟨29, 1⟩

/-- AIN_INJST of block AIN, byte offset 0x2000; n < 96. -/
def AIN_INJST (n : Nat) : Nat := 0x2800 + n
def AIN_INJST_PASS_A : Fld := ⟨0, 1⟩
def AIN_INJST_PASS_B : Fld := ⟨1, 1⟩
def AIN_INJST_DONE_A : Fld := ⟨2, 1⟩
def AIN_INJST_DONE_B : Fld := ⟨3, 1⟩
def AIN_INJST_LATEST : Fld := ⟨4, 1⟩
def AIN_INJST_ACTIVE : Fld := ⟨5, 1⟩
def AIN_INJST_ACT_PATH : Fld := ⟨6, 1⟩
def AIN_INJST_ABORTS_A : Fld := ⟨8, 4⟩
def AIN_INJST_ABORTS_B : Fld := ⟨12, 4⟩
def AIN_INJST_FAILS : Fld := ⟨16, 8⟩

/-- AIN_TX of block AIN, byte offset 0x3000; k < 8, i < 33. -/
def AIN_TX (k : Nat) (i : Nat) : Nat := 0x2c00 + 128 * k + i

/-- AIN_TY of block AIN, byte offset 0x3100; k < 8, i < 33. -/
def AIN_TY (k : Nat) (i : Nat) : Nat := 0x2c40 + 128 * k + i

/-! ### Registers of spec/04_alarm_points.md -/

/-- PT_CFG of block alarm point window, byte offset 0x0000; p < 2048. -/
def PT_CFG (p : Nat) : Nat := 0x8000 + 8 * p
def PT_CFG_COND : Fld := ⟨0, 4⟩
def PT_CFG_PRIO : Fld := ⟨4, 2⟩
def PT_CFG_DIR : Fld := ⟨6, 2⟩
def PT_CFG_GROUP : Fld := ⟨8, 7⟩
def PT_CFG_BADQ : Fld := ⟨16, 2⟩
def PT_CFG_STALE_OK : Fld := ⟨18, 1⟩
def PT_CFG_CALL : Fld := ⟨19, 1⟩
def PT_CFG_RWIN : Fld := ⟨20, 7⟩

/-- PT_SRC of block alarm point window, byte offset 0x0004; p < 2048. -/
def PT_SRC (p : Nat) : Nat := 0x8001 + 8 * p
def PT_SRC_KIND : Fld := ⟨0, 4⟩
def PT_SRC_INDEX : Fld := ⟨4, 12⟩
def PT_SRC_SUB : Fld := ⟨16, 5⟩

/-- PT_REF of block alarm point window, byte offset 0x0008; p < 2048. -/
def PT_REF (p : Nat) : Nat := 0x8002 + 8 * p
def PT_REF_KIND : Fld := ⟨0, 4⟩
def PT_REF_INDEX : Fld := ⟨4, 12⟩
def PT_REF_SUB : Fld := ⟨16, 5⟩

/-- PT_LIMIT of block alarm point window, byte offset 0x000C; p < 2048. -/
def PT_LIMIT (p : Nat) : Nat := 0x8003 + 8 * p

/-- PT_DEADBAND of block alarm point window, byte offset 0x0010; p < 2048. -/
def PT_DEADBAND (p : Nat) : Nat := 0x8004 + 8 * p

/-- PT_SUBST of block alarm point window, byte offset 0x001C; p < 2048. -/
def PT_SUBST (p : Nat) : Nat := 0x8007 + 8 * p

/-- PT_DLY of block alarm point window, byte offset 0x0014; p < 2048. -/
def PT_DLY (p : Nat) : Nat := 0x8005 + 8 * p
def PT_DLY_ON_DLY : Fld := ⟨0, 16⟩
def PT_DLY_OFF_DLY : Fld := ⟨16, 16⟩

/-- PT_ST of block alarm point window, byte offset 0x0018; p < 2048. -/
def PT_ST (p : Nat) : Nat := 0x8006 + 8 * p
def PT_ST_STATE : Fld := ⟨0, 3⟩
def PT_ST_COND_RAW : Fld := ⟨3, 1⟩
def PT_ST_QUAL : Fld := ⟨4, 1⟩
def PT_ST_QBAD : Fld := ⟨5, 1⟩
def PT_ST_SUBST : Fld := ⟨6, 1⟩
def PT_ST_MASKED : Fld := ⟨7, 1⟩
def PT_ST_SCNT : Fld := ⟨8, 13⟩
def PT_ST_RVALID : Fld := ⟨21, 1⟩

/-- ALM_GCFG of block ALM, byte offset 0x0000. -/
def ALM_GCFG : Nat := 0x6000
def ALM_GCFG_SILT : Fld := ⟨0, 6⟩

/-- ALM_CMD of block ALM, byte offset 0x0010. -/
def ALM_CMD : Nat := 0x6004
def ALM_CMD_OPCODE : Fld := ⟨0, 8⟩
def ALM_CMD_TARGET : Fld := ⟨8, 11⟩

/-- ALM_CMDST of block ALM, byte offset 0x0014. -/
def ALM_CMDST : Nat := 0x6005
def ALM_CMDST_STATUS : Fld := ⟨0, 3⟩
def ALM_CMDST_QUEUED : Fld := ⟨3, 6⟩
def ALM_CMDST_LAST_OP : Fld := ⟨9, 8⟩
def ALM_CMDST_LAST_TGT : Fld := ⟨17, 11⟩

/-- ALM_AUTH of block ALM, byte offset 0x0018. -/
def ALM_AUTH : Nat := 0x6006
def ALM_AUTH_ACK_AUTH : Fld := ⟨0, 16⟩
def ALM_AUTH_SIL_AUTH : Fld := ⟨16, 16⟩

/-- ALM_CNT of block ALM, byte offset 0x0020. -/
def ALM_CNT : Nat := 0x6008
def ALM_CNT_UNACK : Fld := ⟨0, 12⟩
def ALM_CNT_SOUNDING : Fld := ⟨16, 12⟩

/-- ALM_PRIOCNT0 of block ALM, byte offset 0x0024. -/
def ALM_PRIOCNT0 : Nat := 0x6009
def ALM_PRIOCNT0_FIRST : Fld := ⟨0, 12⟩
def ALM_PRIOCNT0_SECOND : Fld := ⟨16, 12⟩

/-- ALM_PRIOCNT1 of block ALM, byte offset 0x0028. -/
def ALM_PRIOCNT1 : Nat := 0x600a
def ALM_PRIOCNT1_FIRST : Fld := ⟨0, 12⟩
def ALM_PRIOCNT1_SECOND : Fld := ⟨16, 12⟩

/-- ALM_SCANCNT of block ALM, byte offset 0x0030. -/
def ALM_SCANCNT : Nat := 0x600c

/-- ALM_DCNT of block ALM, byte offset 0x2000; p < 2048. -/
def ALM_DCNT (p : Nat) : Nat := 0x6800 + p
def ALM_DCNT_DCNT : Fld := ⟨0, 19⟩
def ALM_DCNT_RUN : Fld := ⟨19, 1⟩
def ALM_DCNT_OFF : Fld := ⟨20, 1⟩

/-! ### Registers of spec/05_alarm_groups_and_floods.md -/

/-- ALM_FLOODCFG of block ALM, byte offset 0x0100. -/
def ALM_FLOODCFG : Nat := 0x6040
def ALM_FLOODCFG_FLOOD_ON : Fld := ⟨0, 12⟩
def ALM_FLOODCFG_FLOOD_OFF : Fld := ⟨16, 12⟩

/-- ALM_FLOODST of block ALM, byte offset 0x0104. -/
def ALM_FLOODST : Nat := 0x6041
def ALM_FLOODST_FLOOD : Fld := ⟨0, 1⟩
def ALM_FLOODST_LAST_CNT : Fld := ⟨4, 12⟩
def ALM_FLOODST_CUR_CNT : Fld := ⟨16, 12⟩

/-- ALM_SHELFCFG of block ALM, byte offset 0x0108. -/
def ALM_SHELFCFG : Nat := 0x6042
def ALM_SHELFCFG_SHELFT : Fld := ⟨0, 10⟩
def ALM_SHELFCFG_SHELF_MAX : Fld := ⟨16, 9⟩

/-- ALM_SHELFST of block ALM, byte offset 0x010C. -/
def ALM_SHELFST : Nat := 0x6043
def ALM_SHELFST_SHELVED : Fld := ⟨0, 9⟩
def ALM_SHELFST_AUTO : Fld := ⟨16, 12⟩

/-- ALM_SHELF_AUTH of block ALM, byte offset 0x0110. -/
def ALM_SHELF_AUTH : Nat := 0x6044
def ALM_SHELF_AUTH_SHELF_AUTH : Fld := ⟨0, 16⟩

/-- ALM_SUMST of block ALM, byte offset 0x0114. -/
def ALM_SUMST : Nat := 0x6045

/-- ALM_GRPSRC of block ALM, byte offset 0x0400; g < 128. -/
def ALM_GRPSRC (g : Nat) : Nat := 0x6100 + 4 * g
def ALM_GRPSRC_KIND : Fld := ⟨0, 4⟩
def ALM_GRPSRC_INDEX : Fld := ⟨4, 12⟩
def ALM_GRPSRC_SUB : Fld := ⟨16, 5⟩
def ALM_GRPSRC_INV : Fld := ⟨21, 1⟩
def ALM_GRPSRC_HOLDBAD : Fld := ⟨22, 1⟩

/-- ALM_GRPDLY of block ALM, byte offset 0x0404; g < 128. -/
def ALM_GRPDLY (g : Nat) : Nat := 0x6101 + 4 * g
def ALM_GRPDLY_REL_DLY : Fld := ⟨0, 16⟩
def ALM_GRPDLY_CHAT_N : Fld := ⟨16, 4⟩
def ALM_GRPDLY_FO_EN : Fld := ⟨20, 1⟩

/-- ALM_GRPST of block ALM, byte offset 0x0408; g < 128. -/
def ALM_GRPST (g : Nat) : Nat := 0x6102 + 4 * g
def ALM_GRPST_INH : Fld := ⟨0, 1⟩
def ALM_GRPST_RUN : Fld := ⟨1, 1⟩
def ALM_GRPST_GBAD : Fld := ⟨2, 1⟩
def ALM_GRPST_FO_ARMED : Fld := ⟨3, 1⟩
def ALM_GRPST_FO_CAPT : Fld := ⟨4, 1⟩
def ALM_GRPST_RCNT : Fld := ⟨13, 19⟩

/-- ALM_GRPFO of block ALM, byte offset 0x040C; g < 128. -/
def ALM_GRPFO (g : Nat) : Nat := 0x6103 + 4 * g
def ALM_GRPFO_FIRST : Fld := ⟨0, 11⟩
def ALM_GRPFO_TIES : Fld := ⟨16, 4⟩

/-- ALM_RULECAUSE of block ALM, byte offset 0x0C00; r < 256. -/
def ALM_RULECAUSE (r : Nat) : Nat := 0x6300 + 4 * r
def ALM_RULECAUSE_CAUSE : Fld := ⟨0, 11⟩
def ALM_RULECAUSE_TRIG : Fld := ⟨11, 1⟩
def ALM_RULECAUSE_EN : Fld := ⟨12, 1⟩

/-- ALM_RULEEFF of block ALM, byte offset 0x0C04; r < 256. -/
def ALM_RULEEFF (r : Nat) : Nat := 0x6301 + 4 * r
def ALM_RULEEFF_TYPE : Fld := ⟨0, 2⟩
def ALM_RULEEFF_FIRST : Fld := ⟨8, 11⟩
def ALM_RULEEFF_LAST : Fld := ⟨19, 11⟩

/-- ALM_RULEHOLD of block ALM, byte offset 0x0C08; r < 256. -/
def ALM_RULEHOLD (r : Nat) : Nat := 0x6302 + 4 * r
def ALM_RULEHOLD_HOLD : Fld := ⟨0, 16⟩

/-- ALM_RULEST of block ALM, byte offset 0x0C0C; r < 256. -/
def ALM_RULEST (r : Nat) : Nat := 0x6303 + 4 * r
def ALM_RULEST_ACT : Fld := ⟨0, 1⟩
def ALM_RULEST_RUN : Fld := ⟨1, 1⟩
def ALM_RULEST_HCNT : Fld := ⟨13, 19⟩

/-- ALM_SUMCFG of block ALM, byte offset 0x1C00; k < 32. -/
def ALM_SUMCFG (k : Nat) : Nat := 0x6700 + 8 * k
def ALM_SUMCFG_FUNC : Fld := ⟨0, 3⟩
def ALM_SUMCFG_PMASK : Fld := ⟨4, 4⟩
def ALM_SUMCFG_DO_EN : Fld := ⟨8, 1⟩
def ALM_SUMCFG_DO : Fld := ⟨9, 5⟩

/-- ALM_SUMGM of block ALM, byte offset 0x1C04; k < 32, w < 4. -/
def ALM_SUMGM (k : Nat) (w : Nat) : Nat := 0x6701 + 8 * k + w

/-- ALM_SHLV of block ALM, byte offset 0x4000; p < 2048. -/
def ALM_SHLV (p : Nat) : Nat := 0x7000 + p
def ALM_SHLV_REMAIN : Fld := ⟨0, 23⟩
def ALM_SHLV_SHELVED : Fld := ⟨23, 1⟩
def ALM_SHLV_AUTO : Fld := ⟨24, 1⟩
def ALM_SHLV_CHCNT : Fld := ⟨25, 4⟩

/-! ### Registers of spec/06_engineer_call_and_ring.md -/

/-- ALM_CALLCFG of block ALM, byte offset 0x0200. -/
def ALM_CALLCFG : Nat := 0x6080
def ALM_CALLCFG_NSTG : Fld := ⟨0, 3⟩
def ALM_CALLCFG_ACCT : Fld := ⟨4, 10⟩
def ALM_CALLCFG_DUTY0 : Fld := ⟨16, 4⟩

/-- ALM_STG of block ALM, byte offset 0x0210; i < 4. -/
def ALM_STG (i : Nat) : Nat := 0x6084 + i
def ALM_STG_MASK : Fld := ⟨0, 16⟩
def ALM_STG_DUTY : Fld := ⟨16, 1⟩
def ALM_STG_STGT : Fld := ⟨17, 10⟩

/-- ALM_WS of block ALM, byte offset 0x0220; s < 16. -/
def ALM_WS (s : Nat) : Nat := 0x6088 + s
def ALM_WS_RADDR : Fld := ⟨0, 5⟩
def ALM_WS_FITTED : Fld := ⟨5, 1⟩
def ALM_WS_ELIG : Fld := ⟨6, 1⟩

/-- ALM_CALLAUTH of block ALM, byte offset 0x0260. -/
def ALM_CALLAUTH : Nat := 0x6098
def ALM_CALLAUTH_ACC_AUTH : Fld := ⟨0, 16⟩
def ALM_CALLAUTH_DUTY_AUTH : Fld := ⟨16, 16⟩

/-- ALM_DMCFG of block ALM, byte offset 0x0264. -/
def ALM_DMCFG : Nat := 0x6099
def ALM_DMCFG_DM_EN : Fld := ⟨0, 1⟩
def ALM_DMCFG_DM_PER : Fld := ⟨1, 5⟩
def ALM_DMCFG_DM_PW : Fld := ⟨6, 9⟩
def ALM_DMCFG_DM_AUTH : Fld := ⟨16, 16⟩

/-- ALM_CALLST of block ALM, byte offset 0x0270. -/
def ALM_CALLST : Nat := 0x609c
def ALM_CALLST_CSTATE : Fld := ⟨0, 2⟩
def ALM_CALLST_STAGE : Fld := ⟨2, 2⟩
def ALM_CALLST_ASTG : Fld := ⟨4, 2⟩
def ALM_CALLST_EMERG : Fld := ⟨6, 1⟩
def ALM_CALLST_NODUTY : Fld := ⟨7, 1⟩
def ALM_CALLST_DUTY : Fld := ⟨8, 4⟩
def ALM_CALLST_CCNT : Fld := ⟨12, 17⟩

/-- ALM_CALLED of block ALM, byte offset 0x0274. -/
def ALM_CALLED : Nat := 0x609d
def ALM_CALLED_CALLED : Fld := ⟨0, 16⟩
def ALM_CALLED_PRESENT : Fld := ⟨16, 16⟩

/-- ALM_DMST of block ALM, byte offset 0x0278. -/
def ALM_DMST : Nat := 0x609e
def ALM_DMST_DMST : Fld := ⟨0, 2⟩
def ALM_DMST_DMCNT : Fld := ⟨2, 18⟩

/-- RING_CFG of block RING, byte offset 0x0000. -/
def RING_CFG : Nat := 0xc0800
def RING_CFG_RADDR : Fld := ⟨0, 5⟩
def RING_CFG_RING_EN : Fld := ⟨8, 1⟩

/-- RING_CTRL of block RING, byte offset 0x0004. -/
def RING_CTRL : Nat := 0xc0801
def RING_CTRL_RING_DIS : Fld := ⟨0, 1⟩
def RING_CTRL_CNT_CLR : Fld := ⟨1, 1⟩

/-- RING_STAT of block RING, byte offset 0x0008. -/
def RING_STAT : Nat := 0xc0802
def RING_STAT_BYPASS : Fld := ⟨0, 1⟩
def RING_STAT_RGA_LOST : Fld := ⟨1, 1⟩
def RING_STAT_RGB_LOST : Fld := ⟨2, 1⟩
def RING_STAT_WRAP_A : Fld := ⟨3, 1⟩
def RING_STAT_WRAP_B : Fld := ⟨4, 1⟩
def RING_STAT_SPLIT : Fld := ⟨5, 1⟩
def RING_STAT_CLAIMING : Fld := ⟨6, 1⟩
def RING_STAT_HOLDER : Fld := ⟨7, 1⟩
def RING_STAT_UP_NBR : Fld := ⟨8, 5⟩
def RING_STAT_UP_VALID : Fld := ⟨13, 1⟩
def RING_STAT_DN_NBR : Fld := ⟨16, 5⟩
def RING_STAT_DN_VALID : Fld := ⟨21, 1⟩

/-- RING_FAULT of block RING, byte offset 0x000C. -/
def RING_FAULT : Nat := 0xc0803
def RING_FAULT_A1 : Fld := ⟨0, 5⟩
def RING_FAULT_B1 : Fld := ⟨5, 5⟩
def RING_FAULT_V1 : Fld := ⟨10, 1⟩
def RING_FAULT_A2 : Fld := ⟨11, 5⟩
def RING_FAULT_B2 : Fld := ⟨16, 5⟩
def RING_FAULT_V2 : Fld := ⟨21, 1⟩

/-- RING_ERR of block RING, byte offset 0x0010. -/
def RING_ERR : Nat := 0xc0804
def RING_ERR_CRC : Fld := ⟨0, 12⟩
def RING_ERR_FMT : Fld := ⟨12, 12⟩
def RING_ERR_UNKNOWN : Fld := ⟨24, 8⟩

/-- RING_TOK of block RING, byte offset 0x0014. -/
def RING_TOK : Nat := 0xc0805
def RING_TOK_TLOSS : Fld := ⟨0, 8⟩
def RING_TOK_RETFAIL : Fld := ⟨8, 8⟩
def RING_TOK_ROT : Fld := ⟨16, 16⟩

/-! ### Registers of spec/07_control_engine.md -/

/-- CTRL_CFG of block CTRL, byte offset 0x0000; n < 32. -/
def CTRL_CFG (n : Nat) : Nat := 0xc000 + 64 * n
def CTRL_CFG_TYPE : Fld := ⟨0, 4⟩
def CTRL_CFG_ACT : Fld := ⟨4, 1⟩
def CTRL_CFG_PERIOD : Fld := ⟨5, 14⟩
def CTRL_CFG_BADACT : Fld := ⟨19, 1⟩
def CTRL_CFG_STALE_OK : Fld := ⟨20, 1⟩
def CTRL_CFG_SPTRK : Fld := ⟨21, 1⟩
def CTRL_CFG_MODE0 : Fld := ⟨22, 2⟩
def CTRL_CFG_NOTCH_EN : Fld := ⟨24, 1⟩
def CTRL_CFG_SET0 : Fld := ⟨25, 1⟩

/-- CTRL_PVSRC of block CTRL, byte offset 0x0004; n < 32. -/
def CTRL_PVSRC (n : Nat) : Nat := 0xc001 + 64 * n
def CTRL_PVSRC_KIND : Fld := ⟨0, 4⟩
def CTRL_PVSRC_INDEX : Fld := ⟨4, 12⟩

/-- CTRL_RSRC of block CTRL, byte offset 0x0008; n < 32. -/
def CTRL_RSRC (n : Nat) : Nat := 0xc002 + 64 * n
def CTRL_RSRC_KIND : Fld := ⟨0, 4⟩
def CTRL_RSRC_INDEX : Fld := ⟨4, 12⟩

/-- CTRL_RATIO of block CTRL, byte offset 0x000C; n < 32. -/
def CTRL_RATIO (n : Nat) : Nat := 0xc003 + 64 * n

/-- CTRL_RBIAS of block CTRL, byte offset 0x0010; n < 32. -/
def CTRL_RBIAS (n : Nat) : Nat := 0xc004 + 64 * n

/-- CTRL_SPLO of block CTRL, byte offset 0x0014; n < 32. -/
def CTRL_SPLO (n : Nat) : Nat := 0xc005 + 64 * n

/-- CTRL_SPHI of block CTRL, byte offset 0x0018; n < 32. -/
def CTRL_SPHI (n : Nat) : Nat := 0xc006 + 64 * n

/-- CTRL_SP0 of block CTRL, byte offset 0x001C; n < 32. -/
def CTRL_SP0 (n : Nat) : Nat := 0xc007 + 64 * n

/-- CTRL_OUT0 of block CTRL, byte offset 0x0020; n < 32. -/
def CTRL_OUT0 (n : Nat) : Nat := 0xc008 + 64 * n

/-- CTRL_SAFE of block CTRL, byte offset 0x0024; n < 32. -/
def CTRL_SAFE (n : Nat) : Nat := 0xc009 + 64 * n

/-- CTRL_PVSUBST of block CTRL, byte offset 0x0028; n < 32. -/
def CTRL_PVSUBST (n : Nat) : Nat := 0xc00a + 64 * n

/-- CTRL_TF of block CTRL, byte offset 0x002C; n < 32. -/
def CTRL_TF (n : Nat) : Nat := 0xc00b + 64 * n

/-- CTRL_B0 of block CTRL, byte offset 0x0030; n < 32. -/
def CTRL_B0 (n : Nat) : Nat := 0xc00c + 64 * n

/-- CTRL_B1 of block CTRL, byte offset 0x0034; n < 32. -/
def CTRL_B1 (n : Nat) : Nat := 0xc00d + 64 * n

/-- CTRL_B2 of block CTRL, byte offset 0x0038; n < 32. -/
def CTRL_B2 (n : Nat) : Nat := 0xc00e + 64 * n

/-- CTRL_A1 of block CTRL, byte offset 0x003C; n < 32. -/
def CTRL_A1 (n : Nat) : Nat := 0xc00f + 64 * n

/-- CTRL_A2 of block CTRL, byte offset 0x0040; n < 32. -/
def CTRL_A2 (n : Nat) : Nat := 0xc010 + 64 * n

/-- CTRL_KP of block CTRL, byte offset 0x0050; n < 32, j < 2. -/
def CTRL_KP (n : Nat) (j : Nat) : Nat := 0xc014 + 64 * n + 6 * j

/-- CTRL_TI of block CTRL, byte offset 0x0054; n < 32, j < 2. -/
def CTRL_TI (n : Nat) (j : Nat) : Nat := 0xc015 + 64 * n + 6 * j

/-- CTRL_TD of block CTRL, byte offset 0x0058; n < 32, j < 2. -/
def CTRL_TD (n : Nat) (j : Nat) : Nat := 0xc016 + 64 * n + 6 * j

/-- CTRL_N of block CTRL, byte offset 0x005C; n < 32, j < 2. -/
def CTRL_N (n : Nat) (j : Nat) : Nat := 0xc017 + 64 * n + 6 * j

/-- CTRL_OLO of block CTRL, byte offset 0x0060; n < 32, j < 2. -/
def CTRL_OLO (n : Nat) (j : Nat) : Nat := 0xc018 + 64 * n + 6 * j

/-- CTRL_OHI of block CTRL, byte offset 0x0064; n < 32, j < 2. -/
def CTRL_OHI (n : Nat) (j : Nat) : Nat := 0xc019 + 64 * n + 6 * j

/-- CTRL_DST of block CTRL, byte offset 0x0080; n < 32, d < 2. -/
def CTRL_DST (n : Nat) (d : Nat) : Nat := 0xc020 + 64 * n + 4 * d
def CTRL_DST_DKIND : Fld := ⟨0, 2⟩
def CTRL_DST_DIDX : Fld := ⟨2, 5⟩
def CTRL_DST_MA_ZERO : Fld := ⟨7, 1⟩
def CTRL_DST_TPP : Fld := ⟨8, 10⟩
def CTRL_DST_MINP : Fld := ⟨18, 10⟩

/-- CTRL_ST of block CTRL, byte offset 0x00C0; n < 32. -/
def CTRL_ST (n : Nat) : Nat := 0xc030 + 64 * n
def CTRL_ST_MODE : Fld := ⟨0, 2⟩
def CTRL_ST_PVBAD : Fld := ⟨2, 1⟩
def CTRL_ST_TRACK : Fld := ⟨3, 1⟩
def CTRL_ST_SAT_HI : Fld := ⟨4, 1⟩
def CTRL_ST_SAT_LO : Fld := ⟨5, 1⟩
def CTRL_ST_SET : Fld := ⟨6, 1⟩
def CTRL_ST_SWAP_PEND : Fld := ⟨7, 1⟩
def CTRL_ST_OVF : Fld := ⟨8, 1⟩
def CTRL_ST_RSBAD : Fld := ⟨9, 1⟩
def CTRL_ST_SUBST : Fld := ⟨10, 1⟩
def CTRL_ST_PEND : Fld := ⟨11, 1⟩
def CTRL_ST_INITP : Fld := ⟨12, 1⟩
def CTRL_ST_PCNT : Fld := ⟨16, 16⟩

/-- CTRL_PV of block CTRL, byte offset 0x00C4; n < 32. -/
def CTRL_PV (n : Nat) : Nat := 0xc031 + 64 * n

/-- CTRL_SP of block CTRL, byte offset 0x00C8; n < 32. -/
def CTRL_SP (n : Nat) : Nat := 0xc032 + 64 * n

/-- CTRL_OUT of block CTRL, byte offset 0x00CC; n < 32. -/
def CTRL_OUT (n : Nat) : Nat := 0xc033 + 64 * n

/-- CTRL_I of block CTRL, byte offset 0x00D0; n < 32. -/
def CTRL_I (n : Nat) : Nat := 0xc034 + 64 * n

/-- CTRL_DVAL of block CTRL, byte offset 0x00D4; n < 32, d < 2. -/
def CTRL_DVAL (n : Nat) (d : Nat) : Nat := 0xc035 + 64 * n + d

/-- CTRL_CMD of block CTRL, byte offset 0x4000. -/
def CTRL_CMD : Nat := 0xd000
def CTRL_CMD_OPCODE : Fld := ⟨0, 8⟩
def CTRL_CMD_LOOP : Fld := ⟨8, 5⟩
def CTRL_CMD_ARG : Fld := ⟨16, 8⟩

/-- CTRL_CMDVAL of block CTRL, byte offset 0x4004. -/
def CTRL_CMDVAL : Nat := 0xd001

/-- CTRL_CMDST of block CTRL, byte offset 0x4008. -/
def CTRL_CMDST : Nat := 0xd002
def CTRL_CMDST_STATUS : Fld := ⟨0, 2⟩
def CTRL_CMDST_LAST_OP : Fld := ⟨8, 8⟩
def CTRL_CMDST_LAST_LOOP : Fld := ⟨16, 5⟩

/-! ### Registers of spec/08_loop_outputs_and_hart.md -/

/-- AO_GCFG of block AOUT, byte offset 0x0000; g < 4. -/
def AO_GCFG (g : Nat) : Nat := 0x3000 + g
def AO_GCFG_FAILSEL : Fld := ⟨0, 2⟩
def AO_GCFG_STRAP : Fld := ⟨2, 1⟩
def AO_GCFG_FAILHI : Fld := ⟨3, 1⟩

/-- AO_CMD of block AOUT, byte offset 0x0010. -/
def AO_CMD : Nat := 0x3004
def AO_CMD_OPCODE : Fld := ⟨0, 8⟩
def AO_CMD_CHANNEL : Fld := ⟨8, 5⟩
def AO_CMD_ARG : Fld := ⟨16, 8⟩

/-- AO_CMDVAL of block AOUT, byte offset 0x0014. -/
def AO_CMDVAL : Nat := 0x3005

/-- AO_CMDST of block AOUT, byte offset 0x0018. -/
def AO_CMDST : Nat := 0x3006
def AO_CMDST_STATUS : Fld := ⟨0, 2⟩
def AO_CMDST_LAST_OP : Fld := ⟨8, 8⟩
def AO_CMDST_LAST_CH : Fld := ⟨16, 5⟩

/-- AO_CFG of block AOUT, byte offset 0x0100; n < 24. -/
def AO_CFG (n : Nat) : Nat := 0x3040 + 8 * n
def AO_CFG_MODE : Fld := ⟨0, 2⟩
def AO_CFG_NE43 : Fld := ⟨2, 1⟩
def AO_CFG_HART_EN : Fld := ⟨3, 1⟩
def AO_CFG_MASTER : Fld := ⟨4, 1⟩

/-- AO_FSRC of block AOUT, byte offset 0x0104; n < 24. -/
def AO_FSRC (n : Nat) : Nat := 0x3041 + 8 * n
def AO_FSRC_KIND : Fld := ⟨0, 4⟩
def AO_FSRC_INDEX : Fld := ⟨4, 12⟩
def AO_FSRC_SUB : Fld := ⟨16, 5⟩

/-- AO_INIT of block AOUT, byte offset 0x0108; n < 24. -/
def AO_INIT (n : Nat) : Nat := 0x3042 + 8 * n

/-- AO_SET of block AOUT, byte offset 0x010C; n < 24. -/
def AO_SET (n : Nat) : Nat := 0x3043 + 8 * n

/-- AO_RB of block AOUT, byte offset 0x0114; n < 24. -/
def AO_RB (n : Nat) : Nat := 0x3045 + 8 * n

/-- AO_CODE of block AOUT, byte offset 0x0110; n < 24. -/
def AO_CODE (n : Nat) : Nat := 0x3044 + 8 * n
def AO_CODE_CODE : Fld := ⟨0, 16⟩
def AO_CODE_OFF : Fld := ⟨16, 1⟩

/-- AO_ST of block AOUT, byte offset 0x0118; n < 24. -/
def AO_ST (n : Nat) : Nat := 0x3046 + 8 * n
def AO_ST_COMPL : Fld := ⟨0, 1⟩
def AO_ST_DEV : Fld := ⟨1, 1⟩
def AO_ST_OPEN : Fld := ⟨2, 1⟩
def AO_ST_TWARN : Fld := ⟨3, 1⟩
def AO_ST_TOFF : Fld := ⟨4, 1⟩
def AO_ST_TLATCH : Fld := ⟨5, 1⟩
def AO_ST_FAIL : Fld := ⟨6, 1⟩
def AO_ST_FORCED : Fld := ⟨7, 1⟩
def AO_ST_LIMITED : Fld := ⟨8, 1⟩
def AO_ST_RB_INV : Fld := ⟨9, 1⟩
def AO_ST_BLANK : Fld := ⟨10, 1⟩
def AO_ST_DIRECT : Fld := ⟨11, 1⟩
def AO_ST_MODE : Fld := ⟨12, 2⟩
def AO_ST_HART_BUSY : Fld := ⟨14, 1⟩
def AO_ST_HART_ERR : Fld := ⟨15, 1⟩
def AO_ST_DEVCNT : Fld := ⟨16, 5⟩

/-- AO_MON of block AOUT, byte offset 0x011C; n < 24. -/
def AO_MON (n : Nat) : Nat := 0x3047 + 8 * n
def AO_MON_HEADROOM : Fld := ⟨0, 8⟩
def AO_MON_TEMP : Fld := ⟨8, 8⟩
def AO_MON_TOFFS : Fld := ⟨16, 8⟩
def AO_MON_LOADV : Fld := ⟨24, 8⟩

/-- HRT_CFG of block AOUT, byte offset 0x0400; n < 24. -/
def HRT_CFG (n : Nat) : Nat := 0x3100 + 64 * n
def HRT_CFG_PRE : Fld := ⟨0, 5⟩
def HRT_CFG_LONG : Fld := ⟨5, 1⟩
def HRT_CFG_RETRY : Fld := ⟨6, 2⟩
def HRT_CFG_RSPTO : Fld := ⟨8, 6⟩
def HRT_CFG_POLLP : Fld := ⟨14, 6⟩
def HRT_CFG_POLL_EN : Fld := ⟨20, 1⟩
def HRT_CFG_SADDR : Fld := ⟨21, 6⟩

/-- HRT_ADDRA of block AOUT, byte offset 0x0404; n < 24. -/
def HRT_ADDRA (n : Nat) : Nat := 0x3101 + 64 * n

/-- HRT_ADDRB of block AOUT, byte offset 0x0408; n < 24. -/
def HRT_ADDRB (n : Nat) : Nat := 0x3102 + 64 * n
def HRT_ADDRB_ADDR : Fld := ⟨0, 8⟩

/-- HRT_ST of block AOUT, byte offset 0x040C; n < 24. -/
def HRT_ST (n : Nat) : Nat := 0x3103 + 64 * n
def HRT_ST_TSTAT : Fld := ⟨0, 3⟩
def HRT_ST_POLL_RUN : Fld := ⟨3, 1⟩
def HRT_ST_PV_VALID : Fld := ⟨4, 1⟩
def HRT_ST_RCODE : Fld := ⟨8, 8⟩
def HRT_ST_DSTAT : Fld := ⟨16, 8⟩

/-- HRT_PV of block AOUT, byte offset 0x0410; n < 24. -/
def HRT_PV (n : Nat) : Nat := 0x3104 + 64 * n

/-- HRT_CUR of block AOUT, byte offset 0x0414; n < 24. -/
def HRT_CUR (n : Nat) : Nat := 0x3105 + 64 * n

/-- HRT_UNIT of block AOUT, byte offset 0x0418; n < 24. -/
def HRT_UNIT (n : Nat) : Nat := 0x3106 + 64 * n
def HRT_UNIT_UNIT : Fld := ⟨0, 8⟩
def HRT_UNIT_AGE : Fld := ⟨8, 24⟩

/-- HRT_CNT of block AOUT, byte offset 0x041C; n < 24. -/
def HRT_CNT (n : Nat) : Nat := 0x3107 + 64 * n
def HRT_CNT_TMO : Fld := ⟨0, 8⟩
def HRT_CNT_ERR : Fld := ⟨8, 8⟩
def HRT_CNT_BURST : Fld := ⟨16, 8⟩
def HRT_CNT_DEFER : Fld := ⟨24, 8⟩

/-- HRT_TX of block AOUT, byte offset 0x0440; n < 24, w < 17. -/
def HRT_TX (n : Nat) (w : Nat) : Nat := 0x3110 + 64 * n + w

/-- HRT_RX of block AOUT, byte offset 0x0490; n < 24, w < 17. -/
def HRT_RX (n : Nat) (w : Nat) : Nat := 0x3124 + 64 * n + w

/-! ### Registers of spec/09_field_digital_io.md -/

/-- DIO_CMD of block DIO, byte offset 0x0000. -/
def DIO_CMD : Nat := 0x3800
def DIO_CMD_OPCODE : Fld := ⟨0, 8⟩
def DIO_CMD_CHANNEL : Fld := ⟨8, 5⟩
def DIO_CMD_ARG : Fld := ⟨16, 8⟩

/-- DIO_CMDST of block DIO, byte offset 0x0004. -/
def DIO_CMDST : Nat := 0x3801
def DIO_CMDST_STATUS : Fld := ⟨0, 2⟩
def DIO_CMDST_LAST_OP : Fld := ⟨8, 8⟩
def DIO_CMDST_LAST_CH : Fld := ⟨16, 5⟩

/-- DI_CFG of block DIO, byte offset 0x0100; n < 32. -/
def DI_CFG (n : Nat) : Nat := 0x3840 + n
def DI_CFG_DEB : Fld := ⟨0, 8⟩
def DI_CFG_INV : Fld := ⟨8, 1⟩
def DI_CFG_REC : Fld := ⟨9, 1⟩

/-- DI_STATE of block DIO, byte offset 0x0200. -/
def DI_STATE : Nat := 0x3880

/-- DI_RAW of block DIO, byte offset 0x0204. -/
def DI_RAW : Nat := 0x3881

/-- DI_TSLO of block DIO, byte offset 0x0300; n < 32. -/
def DI_TSLO (n : Nat) : Nat := 0x38c0 + 2 * n

/-- DI_TSHI of block DIO, byte offset 0x0304; n < 32. -/
def DI_TSHI (n : Nat) : Nat := 0x38c1 + 2 * n

/-- DI_ST of block DIO, byte offset 0x0400; n < 32. -/
def DI_ST (n : Nat) : Nat := 0x3900 + n
def DI_ST_STATE : Fld := ⟨0, 1⟩
def DI_ST_GLITCH : Fld := ⟨8, 8⟩
def DI_ST_EDGES : Fld := ⟨16, 16⟩

/-- DI_BST of block DIO, byte offset 0x0500; k < 4. -/
def DI_BST (k : Nat) : Nat := 0x3940 + k
def DI_BST_STATE : Fld := ⟨0, 8⟩
def DI_BST_LINK : Fld := ⟨8, 1⟩

/-- DO_CFG of block DIO, byte offset 0x1000; n < 32. -/
def DO_CFG (n : Nat) : Nat := 0x3c00 + n
def DO_CFG_EN : Fld := ⟨0, 1⟩
def DO_CFG_INIT : Fld := ⟨1, 1⟩
def DO_CFG_SLATCH_EN : Fld := ⟨2, 1⟩
def DO_CFG_SRC : Fld := ⟨3, 2⟩

/-- DO_ST of block DIO, byte offset 0x1080; n < 32. -/
def DO_ST (n : Nat) : Nat := 0x3c20 + n
def DO_ST_APPLIED : Fld := ⟨0, 1⟩
def DO_ST_RB : Fld := ⟨1, 1⟩
def DO_ST_RB_IND : Fld := ⟨2, 1⟩
def DO_ST_MISM : Fld := ⟨3, 1⟩
def DO_ST_LOW : Fld := ⟨4, 1⟩
def DO_ST_BACKFED : Fld := ⟨5, 1⟩
def DO_ST_SLATCH : Fld := ⟨6, 1⟩
def DO_ST_BLANK : Fld := ⟨7, 1⟩
def DO_ST_EPIS : Fld := ⟨8, 8⟩

/-- DO_BCFG of block DIO, byte offset 0x1100; k < 4. -/
def DO_BCFG (k : Nat) : Nat := 0x3c40 + k
def DO_BCFG_RESTORE : Fld := ⟨0, 1⟩

/-- DO_BST of block DIO, byte offset 0x1110; k < 4. -/
def DO_BST (k : Nat) : Nat := 0x3c44 + k
def DO_BST_FLT : Fld := ⟨0, 1⟩
def DO_BST_UNLOC : Fld := ⟨1, 1⟩
def DO_BST_VWARN : Fld := ⟨2, 1⟩
def DO_BST_UV : Fld := ⟨3, 1⟩
def DO_BST_ACKREQ : Fld := ⟨4, 1⟩
def DO_BST_VF : Fld := ⟨16, 16⟩

/-- DO_STATE of block DIO, byte offset 0x1120. -/
def DO_STATE : Nat := 0x3c48

/-- DO_RB of block DIO, byte offset 0x1124. -/
def DO_RB : Nat := 0x3c49

/-! ### Registers of spec/10_lanes_and_failover.md -/

/-- SYS_ID of block SYS, byte offset 0x0000. -/
def SYS_ID : Nat := 0x0
def SYS_ID_LANE : Fld := ⟨0, 1⟩
def SYS_ID_PREFER : Fld := ⟨1, 1⟩

/-- SYS_STATE of block SYS, byte offset 0x0004. -/
def SYS_STATE : Nat := 0x1
def SYS_STATE_STATE : Fld := ⟨0, 3⟩
def SYS_STATE_INSTEP : Fld := ⟨3, 1⟩
def SYS_STATE_AUTH : Fld := ⟨4, 1⟩
def SYS_STATE_PEER : Fld := ⟨5, 3⟩
def SYS_STATE_UNRES : Fld := ⟨8, 1⟩
def SYS_STATE_HOLD : Fld := ⟨9, 1⟩

/-- SYS_ADJ of block SYS, byte offset 0x0008. -/
def SYS_ADJ : Nat := 0x2
def SYS_ADJ_REASON : Fld := ⟨0, 3⟩
def SYS_ADJ_UNIT : Fld := ⟨3, 3⟩
def SYS_ADJ_REPLAYED : Fld := ⟨6, 1⟩
def SYS_ADJ_VERD_OWN : Fld := ⟨7, 2⟩
def SYS_ADJ_VERD_PEER : Fld := ⟨9, 2⟩
def SYS_ADJ_CAUSE : Fld := ⟨11, 4⟩
def SYS_ADJ_OUTCOME : Fld := ⟨15, 3⟩
def SYS_ADJ_HELD : Fld := ⟨18, 2⟩
def SYS_ADJ_COUNT : Fld := ⟨24, 8⟩

/-- SYS_ADJTLO of block SYS, byte offset 0x000C. -/
def SYS_ADJTLO : Nat := 0x3

/-- SYS_ADJTHI of block SYS, byte offset 0x0010. -/
def SYS_ADJTHI : Nat := 0x4

/-- SYS_ADJDUR of block SYS, byte offset 0x0014. -/
def SYS_ADJDUR : Nat := 0x5
def SYS_ADJDUR_DUR : Fld := ⟨0, 9⟩
def SYS_ADJDUR_WLOST : Fld := ⟨16, 8⟩

/-- SYS_CFG of block SYS, byte offset 0x0018. -/
def SYS_CFG : Nat := 0x6
def SYS_CFG_AUTO_REJOIN : Fld := ⟨0, 1⟩
def SYS_CFG_LANE_TEST_EN : Fld := ⟨1, 1⟩

/-- SYS_CMD of block SYS, byte offset 0x0020. -/
def SYS_CMD : Nat := 0x8
def SYS_CMD_OPCODE : Fld := ⟨0, 8⟩
def SYS_CMD_LANE : Fld := ⟨8, 1⟩

/-- SYS_CMDST of block SYS, byte offset 0x0024. -/
def SYS_CMDST : Nat := 0x9
def SYS_CMDST_STATUS : Fld := ⟨0, 2⟩
def SYS_CMDST_LAST_OP : Fld := ⟨8, 8⟩
def SYS_CMDST_LAST_LANE : Fld := ⟨16, 1⟩

/-- SYS_TEST of block SYS, byte offset 0x0030, lane-local. -/
def SYS_TEST : Nat := 0xc
def SYS_TEST_INJ_DIG : Fld := ⟨0, 1⟩
def SYS_TEST_FAIL_ADJ : Fld := ⟨1, 1⟩

/-- LINK_STAT of block LINK, byte offset 0x0000. -/
def LINK_STAT : Nat := 0x1000
def LINK_STAT_UP : Fld := ⟨0, 1⟩
def LINK_STAT_LOST : Fld := ⟨1, 1⟩
def LINK_STAT_LOSSES : Fld := ⟨16, 16⟩

/-- LINK_ERR of block LINK, byte offset 0x0004. -/
def LINK_ERR : Nat := 0x1001
def LINK_ERR_PAR : Fld := ⟨0, 16⟩
def LINK_ERR_CRC : Fld := ⟨16, 16⟩

/-- LINK_RESEND of block LINK, byte offset 0x0008. -/
def LINK_RESEND : Nat := 0x1002
def LINK_RESEND_RESENDS : Fld := ⟨0, 16⟩
def LINK_RESEND_FWD_MAX : Fld := ⟨16, 8⟩

/-- LINK_DIGLO of block LINK, byte offset 0x0010. -/
def LINK_DIGLO : Nat := 0x1004

/-- LINK_DIGHI of block LINK, byte offset 0x0014. -/
def LINK_DIGHI : Nat := 0x1005

/-- LINK_PDIGLO of block LINK, byte offset 0x0018. -/
def LINK_PDIGLO : Nat := 0x1006

/-- LINK_PDIGHI of block LINK, byte offset 0x001C. -/
def LINK_PDIGHI : Nat := 0x1007

/-- LINK_SUB of block LINK, byte offset 0x0020; u < 8. -/
def LINK_SUB (u : Nat) : Nat := 0x1008 + u

/-- LINK_PSUB of block LINK, byte offset 0x0040; u < 8. -/
def LINK_PSUB (u : Nat) : Nat := 0x1010 + u

/-! ### Registers of spec/11_event_recorder.md -/

/-- REC_CFG of block REC, byte offset 0x0000. -/
def REC_CFG : Nat := 0xe000
def REC_CFG_FRZT : Fld := ⟨0, 7⟩
def REC_CFG_C6MAX : Fld := ⟨8, 16⟩

/-- REC_STAT of block REC, byte offset 0x0004. -/
def REC_STAT : Nat := 0xe001
def REC_STAT_SHED : Fld := ⟨0, 3⟩
def REC_STAT_FROZEN : Fld := ⟨3, 1⟩
def REC_STAT_FLUSH : Fld := ⟨4, 1⟩
def REC_STAT_STORE_FAIL : Fld := ⟨5, 1⟩
def REC_STAT_MIRRORING : Fld := ⟨6, 1⟩
def REC_STAT_LOSS : Fld := ⟨7, 1⟩
def REC_STAT_F : Fld := ⟨8, 14⟩

/-- REC_HEAD of block REC, byte offset 0x0008. -/
def REC_HEAD : Nat := 0xe002
def REC_HEAD_INDEX : Fld := ⟨0, 21⟩

/-- REC_TAIL of block REC, byte offset 0x000C. -/
def REC_TAIL : Nat := 0xe003
def REC_TAIL_INDEX : Fld := ⟨0, 21⟩
def REC_TAIL_WRAPPED : Fld := ⟨31, 1⟩

/-- REC_FRZIDX of block REC, byte offset 0x0010. -/
def REC_FRZIDX : Nat := 0xe004
def REC_FRZIDX_INDEX : Fld := ⟨0, 21⟩

/-- REC_SEQ of block REC, byte offset 0x0014. -/
def REC_SEQ : Nat := 0xe005
def REC_SEQ_NEXT : Fld := ⟨0, 16⟩

/-- REC_COMMITS of block REC, byte offset 0x0018. -/
def REC_COMMITS : Nat := 0xe006

/-- REC_ERR of block REC, byte offset 0x001C. -/
def REC_ERR : Nat := 0xe007
def REC_ERR_VERIFY_FAIL : Fld := ⟨0, 16⟩
def REC_ERR_VOIDS : Fld := ⟨16, 9⟩

/-- REC_LOST of block REC, byte offset 0x0020. -/
def REC_LOST : Nat := 0xe008

/-- REC_DROP of block REC, byte offset 0x0030; c < 6. -/
def REC_DROP (c : Nat) : Nat := 0xe00c + c

/-- REC_CMD of block REC, byte offset 0x0080. -/
def REC_CMD : Nat := 0xe020
def REC_CMD_OPCODE : Fld := ⟨0, 8⟩

/-- REC_CMDST of block REC, byte offset 0x0084. -/
def REC_CMDST : Nat := 0xe021
def REC_CMDST_STATUS : Fld := ⟨0, 2⟩
def REC_CMDST_LAST_OP : Fld := ⟨8, 8⟩

/-- REC_RDIDX of block REC, byte offset 0x0100, lane-local. -/
def REC_RDIDX : Nat := 0xe040
def REC_RDIDX_INDEX : Fld := ⟨0, 21⟩
def REC_RDIDX_VALID : Fld := ⟨30, 1⟩
def REC_RDIDX_READY : Fld := ⟨31, 1⟩

/-- REC_RDW of block REC, byte offset 0x0120; w < 8, lane-local. -/
def REC_RDW (w : Nat) : Nat := 0xe048 + w

/-! ### Registers of spec/12_can_controllers.md -/

/-- CAN_CFG of block CAN1/CAN2, byte offset 0x0000. -/
def CAN_CFG (b : Nat) : Nat := 0x4000 + 0x1000 * b
def CAN_CFG_BUS_EN : Fld := ⟨0, 1⟩
def CAN_CFG_NRATE : Fld := ⟨1, 2⟩
def CAN_CFG_DRATE : Fld := ⟨3, 3⟩
def CAN_CFG_BRMODE : Fld := ⟨6, 1⟩
def CAN_CFG_NSP : Fld := ⟨8, 7⟩
def CAN_CFG_DSP : Fld := ⟨16, 7⟩

/-- CAN_CFG2 of block CAN1/CAN2, byte offset 0x0004. -/
def CAN_CFG2 (b : Nat) : Nat := 0x4001 + 0x1000 * b
def CAN_CFG2_NMASK : Fld := ⟨0, 4⟩
def CAN_CFG2_DMASK : Fld := ⟨4, 5⟩

/-- CAN_STAT of block CAN1/CAN2, byte offset 0x0010. -/
def CAN_STAT (b : Nat) : Nat := 0x4004 + 0x1000 * b
def CAN_STAT_ESTATE : Fld := ⟨0, 2⟩
def CAN_STAT_ALONE : Fld := ⟨2, 1⟩
def CAN_STAT_RESTR : Fld := ⟨3, 1⟩
def CAN_STAT_DETECT : Fld := ⟨4, 1⟩
def CAN_STAT_COLL : Fld := ⟨5, 1⟩
def CAN_STAT_NRATE_IN : Fld := ⟨8, 2⟩
def CAN_STAT_DRATE_IN : Fld := ⟨10, 3⟩
def CAN_STAT_LONES : Fld := ⟨16, 4⟩

/-- CAN_ERRC of block CAN1/CAN2, byte offset 0x0014. -/
def CAN_ERRC (b : Nat) : Nat := 0x4005 + 0x1000 * b
def CAN_ERRC_TEC : Fld := ⟨0, 9⟩
def CAN_ERRC_REC : Fld := ⟨16, 8⟩
def CAN_ERRC_ACKRUN : Fld := ⟨24, 8⟩

/-- CAN_CNT of block CAN1/CAN2, byte offset 0x0018. -/
def CAN_CNT (b : Nat) : Nat := 0x4006 + 0x1000 * b
def CAN_CNT_BOFF : Fld := ⟨0, 8⟩
def CAN_CNT_COLL_OVF : Fld := ⟨8, 8⟩
def CAN_CNT_TXFAILS : Fld := ⟨16, 16⟩

/-- CAN_RXCNT of block CAN1/CAN2, byte offset 0x001C. -/
def CAN_RXCNT (b : Nat) : Nat := 0x4007 + 0x1000 * b
def CAN_RXCNT_STORED : Fld := ⟨0, 16⟩
def CAN_RXCNT_NOMATCH : Fld := ⟨16, 16⟩

/-- CAN_LOCAL of block CAN1/CAN2, byte offset 0x0020. -/
def CAN_LOCAL (b : Nat) : Nat := 0x4008 + 0x1000 * b
def CAN_LOCAL_OWNMODE : Fld := ⟨0, 3⟩
def CAN_LOCAL_OWN_REC : Fld := ⟨8, 8⟩
def CAN_LOCAL_TDCV : Fld := ⟨24, 6⟩

/-- CAN_CMD of block CAN1/CAN2, byte offset 0x0030. -/
def CAN_CMD (b : Nat) : Nat := 0x400c + 0x1000 * b
def CAN_CMD_OPCODE : Fld := ⟨0, 8⟩
def CAN_CMD_BUF : Fld := ⟨8, 7⟩
def CAN_CMD_ARG : Fld := ⟨16, 8⟩

/-- CAN_CMDST of block CAN1/CAN2, byte offset 0x0034. -/
def CAN_CMDST (b : Nat) : Nat := 0x400d + 0x1000 * b
def CAN_CMDST_STATUS : Fld := ⟨0, 2⟩
def CAN_CMDST_LAST_OP : Fld := ⟨8, 8⟩
def CAN_CMDST_LAST_BUF : Fld := ⟨16, 7⟩

/-- CAN_COLL of block CAN1/CAN2, byte offset 0x0040; k < 8. -/
def CAN_COLL (b : Nat) (k : Nat) : Nat := 0x4010 + 0x1000 * b + 2 * k
def CAN_COLL_ID : Fld := ⟨0, 29⟩
def CAN_COLL_IDE : Fld := ⟨29, 1⟩
def CAN_COLL_VALID : Fld := ⟨31, 1⟩

/-- CAN_COLLC of block CAN1/CAN2, byte offset 0x0044; k < 8. -/
def CAN_COLLC (b : Nat) (k : Nat) : Nat := 0x4011 + 0x1000 * b + 2 * k
def CAN_COLLC_COUNT : Fld := ⟨0, 16⟩

/-- CAN_BCFG of block CAN1/CAN2, byte offset 0x0400; m < 128. -/
def CAN_BCFG (b : Nat) (m : Nat) : Nat := 0x4100 + 0x1000 * b + 4 * m
def CAN_BCFG_EN : Fld := ⟨0, 1⟩
def CAN_BCFG_DIR : Fld := ⟨1, 1⟩
def CAN_BCFG_OWNER : Fld := ⟨2, 1⟩
def CAN_BCFG_IDE : Fld := ⟨3, 1⟩
def CAN_BCFG_FDF : Fld := ⟨4, 1⟩
def CAN_BCFG_BRS : Fld := ⟨5, 1⟩
def CAN_BCFG_ONESHOT : Fld := ⟨6, 1⟩
def CAN_BCFG_RXEV : Fld := ⟨7, 1⟩

/-- CAN_BID of block CAN1/CAN2, byte offset 0x0404; m < 128. -/
def CAN_BID (b : Nat) (m : Nat) : Nat := 0x4101 + 0x1000 * b + 4 * m
def CAN_BID_VALUE : Fld := ⟨0, 29⟩

/-- CAN_BMASK of block CAN1/CAN2, byte offset 0x0408; m < 128. -/
def CAN_BMASK (b : Nat) (m : Nat) : Nat := 0x4102 + 0x1000 * b + 4 * m
def CAN_BMASK_VALUE : Fld := ⟨0, 29⟩

/-- CAN_BST of block CAN1/CAN2, byte offset 0x040C; m < 128. -/
def CAN_BST (b : Nat) (m : Nat) : Nat := 0x4103 + 0x1000 * b + 4 * m
def CAN_BST_NEW : Fld := ⟨0, 1⟩
def CAN_BST_OVR : Fld := ⟨1, 1⟩
def CAN_BST_LOCK : Fld := ⟨2, 1⟩
def CAN_BST_PEND : Fld := ⟨3, 1⟩
def CAN_BST_TXP : Fld := ⟨4, 1⟩
def CAN_BST_TXF : Fld := ⟨5, 1⟩
def CAN_BST_CAUSE : Fld := ⟨6, 3⟩
def CAN_BST_RETRY : Fld := ⟨16, 8⟩
def CAN_BST_LOCKTO : Fld := ⟨24, 8⟩

/-- CAN_NEW of block CAN1/CAN2, byte offset 0x0C00; w < 4. -/
def CAN_NEW (b : Nat) (w : Nat) : Nat := 0x4300 + 0x1000 * b + w

/-- CAN_TXF of block CAN1/CAN2, byte offset 0x0C10; w < 4. -/
def CAN_TXF (b : Nat) (w : Nat) : Nat := 0x4304 + 0x1000 * b + w

/-- CAN_BW of block CAN1/CAN2, byte offset 0x1000; m < 128, i < 18. -/
def CAN_BW (b : Nat) (m : Nat) (i : Nat) : Nat := 0x4400 + 0x1000 * b + 18 * m + i

/-- CAN_TSLO of block CAN1/CAN2, byte offset 0x3400; m < 128. -/
def CAN_TSLO (b : Nat) (m : Nat) : Nat := 0x4d00 + 0x1000 * b + 2 * m

/-- CAN_TSHI of block CAN1/CAN2, byte offset 0x3404; m < 128. -/
def CAN_TSHI (b : Nat) (m : Nat) : Nat := 0x4d01 + 0x1000 * b + 2 * m

/-! ### Registers of spec/13_time_triggered_schedule.md -/

/-- TIME_NOWLO of block TIME, byte offset 0x0000. -/
def TIME_NOWLO : Nat := 0xc00

/-- TIME_NOWHI of block TIME, byte offset 0x0004. -/
def TIME_NOWHI : Nat := 0xc01

/-- TIME_CORR of block TIME, byte offset 0x0008. -/
def TIME_CORR : Nat := 0xc02

/-- TIME_ERR of block TIME, byte offset 0x0010. -/
def TIME_ERR : Nat := 0xc04

/-- TIME_ST of block TIME, byte offset 0x000C. -/
def TIME_ST : Nat := 0xc03
def TIME_ST_SYNC : Fld := ⟨0, 1⟩
def TIME_ST_FAR : Fld := ⟨1, 1⟩
def TIME_ST_SRC : Fld := ⟨2, 2⟩
def TIME_ST_MASTER1 : Fld := ⟨4, 1⟩
def TIME_ST_MASTER2 : Fld := ⟨5, 1⟩
def TIME_ST_NADDR_BAD : Fld := ⟨6, 1⟩
def TIME_ST_NADDR : Fld := ⟨8, 7⟩
def TIME_ST_CURM1 : Fld := ⟨16, 7⟩
def TIME_ST_CURM2 : Fld := ⟨23, 7⟩

/-- TIME_MISS of block TIME, byte offset 0x0014. -/
def TIME_MISS : Nat := 0xc05
def TIME_MISS_MISS1 : Fld := ⟨0, 6⟩
def TIME_MISS_MISS2 : Fld := ⟨8, 6⟩
def TIME_MISS_USED : Fld := ⟨16, 16⟩

/-- TIME_CFG of block TIME, byte offset 0x0018. -/
def TIME_CFG : Nat := 0xc06
def TIME_CFG_TDEL : Fld := ⟨0, 8⟩
def TIME_CFG_NSRC : Fld := ⟨8, 1⟩
def TIME_CFG_NADDR : Fld := ⟨9, 7⟩
def TIME_CFG_MPRIO : Fld := ⟨16, 3⟩
def TIME_CFG_MPOT : Fld := ⟨19, 1⟩

/-- CNP_STAT of block TIME, byte offset 0x001C. -/
def CNP_STAT : Nat := 0xc07
def CNP_STAT_REQDROP : Fld := ⟨0, 8⟩

/-- CNP_TXO of block TIME, byte offset 0x0100; k < 32. -/
def CNP_TXO (k : Nat) : Nat := 0xc40 + k
def CNP_TXO_OBJ : Fld := ⟨0, 13⟩
def CNP_TXO_EN : Fld := ⟨13, 1⟩
def CNP_TXO_N : Fld := ⟨14, 4⟩
def CNP_TXO_FIRST : Fld := ⟨18, 8⟩

/-- CNP_RXVLD of block TIME, byte offset 0x0200; w < 8. -/
def CNP_RXVLD (w : Nat) : Nat := 0xc80 + w

/-- CNP_RXONE of block TIME, byte offset 0x0220; w < 8. -/
def CNP_RXONE (w : Nat) : Nat := 0xc88 + w

/-- CNP_RXCFG of block TIME, byte offset 0x0400; s < 256. -/
def CNP_RXCFG (s : Nat) : Nat := 0xd00 + s
def CNP_RXCFG_NODE : Fld := ⟨0, 7⟩
def CNP_RXCFG_OBJ : Fld := ⟨7, 13⟩
def CNP_RXCFG_ITEM : Fld := ⟨20, 4⟩
def CNP_RXCFG_EN : Fld := ⟨24, 1⟩
def CNP_RXCFG_TOUT : Fld := ⟨25, 7⟩

/-- CNP_ITEM of block TIME, byte offset 0x0800; i < 256. -/
def CNP_ITEM (i : Nat) : Nat := 0xe00 + i
def CNP_ITEM_KIND : Fld := ⟨0, 4⟩
def CNP_ITEM_INDEX : Fld := ⟨4, 12⟩
def CNP_ITEM_SUB : Fld := ⟨16, 5⟩

/-- CNP_RXVAL of block TIME, byte offset 0x0C00; s < 256. -/
def CNP_RXVAL (s : Nat) : Nat := 0xf00 + s

/-- SCH_TRIG of block CAN1/CAN2, byte offset 0x3800; t < 256. -/
def SCH_TRIG (b : Nat) (t : Nat) : Nat := 0x4e00 + 0x1000 * b + t
def SCH_TRIG_COL : Fld := ⟨0, 6⟩
def SCH_TRIG_KIND : Fld := ⟨6, 2⟩
def SCH_TRIG_BUF : Fld := ⟨8, 7⟩
def SCH_TRIG_BASE : Fld := ⟨16, 6⟩
def SCH_TRIG_REP : Fld := ⟨22, 3⟩

/-- SCH_COL of block CAN1/CAN2, byte offset 0x3C00; c < 64. -/
def SCH_COL (b : Nat) (c : Nat) : Nat := 0x4f00 + 0x1000 * b + c
def SCH_COL_START : Fld := ⟨0, 10⟩
def SCH_COL_EN : Fld := ⟨10, 1⟩

/-- SCH_CFG of block CAN1/CAN2, byte offset 0x3D00. -/
def SCH_CFG (b : Nat) : Nat := 0x4f40 + 0x1000 * b
def SCH_CFG_TT_EN : Fld := ⟨0, 1⟩

/-- SCH_ST of block CAN1/CAN2, byte offset 0x3D04. -/
def SCH_ST (b : Nat) : Nat := 0x4f41 + 0x1000 * b
def SCH_ST_CYCLE : Fld := ⟨1, 6⟩
def SCH_ST_NOTSENT : Fld := ⟨16, 16⟩

/-! ### Registers of spec/14_panel_display_engine.md -/

/-- PNL_CFG of block PANEL, byte offset 0x0000. -/
def PNL_CFG : Nat := 0xf000
def PNL_CFG_EN : Fld := ⟨0, 1⟩
def PNL_CFG_RAILX : Fld := ⟨1, 1⟩
def PNL_CFG_SRC0 : Fld := ⟨2, 1⟩
def PNL_CFG_FRATE : Fld := ⟨4, 8⟩
def PNL_CFG_EWF : Fld := ⟨12, 8⟩
def PNL_CFG_RRATIO : Fld := ⟨20, 8⟩
def PNL_CFG_FBAND : Fld := ⟨28, 3⟩

/-- PNL_CFG2 of block PANEL, byte offset 0x0004. -/
def PNL_CFG2 : Nat := 0xf001
def PNL_CFG2_VNEG_SET : Fld := ⟨0, 7⟩
def PNL_CFG2_CRZ_MAX : Fld := ⟨8, 8⟩
def PNL_CFG2_CMAX : Fld := ⟨16, 11⟩
def PNL_CFG2_FG : Fld := ⟨28, 4⟩

/-- PNL_UCOEF of block PANEL, byte offset 0x0008. -/
def PNL_UCOEF : Nat := 0xf002
def PNL_UCOEF_UCOEF : Fld := ⟨0, 16⟩

/-- PNL_BANKS of block PANEL, byte offset 0x000C. -/
def PNL_BANKS : Nat := 0xf003
def PNL_BANKS_FRAME : Fld := ⟨0, 5⟩
def PNL_BANKS_CHARGE : Fld := ⟨8, 5⟩
def PNL_BANKS_AGE : Fld := ⟨16, 5⟩

/-- PNL_BAND of block PANEL, byte offset 0x0010; b < 8. -/
def PNL_BAND (b : Nat) : Nat := 0xf004 + b
def PNL_BAND_TLO : Fld := ⟨0, 16⟩
def PNL_BAND_ICODE : Fld := ⟨16, 9⟩

/-- PNL_BANDX of block PANEL, byte offset 0x0030; b < 8. -/
def PNL_BANDX (b : Nat) : Nat := 0xf00c + b
def PNL_BANDX_VCOL_SET : Fld := ⟨0, 8⟩
def PNL_BANDX_AW : Fld := ⟨8, 8⟩

/-- PNL_GAMMA of block PANEL, byte offset 0x0050; g < 16. -/
def PNL_GAMMA (g : Nat) : Nat := 0xf014 + g
def PNL_GAMMA_VALUE : Fld := ⟨0, 12⟩

/-- PNL_DIM of block PANEL, byte offset 0x0090; l < 16. -/
def PNL_DIM (l : Nat) : Nat := 0xf024 + l
def PNL_DIM_VALUE : Fld := ⟨0, 8⟩

/-- PNL_DIMSRC of block PANEL, byte offset 0x00D0. -/
def PNL_DIMSRC : Nat := 0xf034
def PNL_DIMSRC_KIND : Fld := ⟨0, 4⟩
def PNL_DIMSRC_INDEX : Fld := ⟨4, 12⟩
def PNL_DIMSRC_DIM0 : Fld := ⟨16, 4⟩

/-- PNL_LCFG of block PANEL, byte offset 0x00D4. -/
def PNL_LCFG : Nat := 0xf035
def PNL_LCFG_NLIST : Fld := ⟨0, 10⟩
def PNL_LCFG_PAGET : Fld := ⟨10, 6⟩

/-- PNL_ST of block PANEL, byte offset 0x0100. -/
def PNL_ST : Nat := 0xf040
def PNL_ST_PSTATE : Fld := ⟨0, 3⟩
def PNL_ST_BAND : Fld := ⟨3, 3⟩
def PNL_ST_PROVEN : Fld := ⟨6, 1⟩
def PNL_ST_CRZ_FAULT : Fld := ⟨7, 1⟩
def PNL_ST_RAIL_FAULT : Fld := ⟨8, 1⟩
def PNL_ST_NTC_FAULT : Fld := ⟨9, 1⟩
def PNL_ST_VCOL_DEV : Fld := ⟨10, 1⟩
def PNL_ST_CHG_SAT : Fld := ⟨11, 1⟩
def PNL_ST_AGE_SAT : Fld := ⟨12, 1⟩
def PNL_ST_SHED : Fld := ⟨13, 1⟩
def PNL_ST_DARK_REQ : Fld := ⟨14, 1⟩
def PNL_ST_DIM : Fld := ⟨15, 4⟩
def PNL_ST_DIMT : Fld := ⟨19, 4⟩
def PNL_ST_SRC : Fld := ⟨23, 1⟩
def PNL_ST_AGE_NEW : Fld := ⟨24, 1⟩

/-- PNL_TEMP of block PANEL, byte offset 0x0104. -/
def PNL_TEMP : Nat := 0xf041
def PNL_TEMP_VALUE : Fld := ⟨0, 16⟩

/-- PNL_FRAMES of block PANEL, byte offset 0x0110. -/
def PNL_FRAMES : Nat := 0xf044

/-- PNL_RAIL of block PANEL, byte offset 0x0108. -/
def PNL_RAIL : Nat := 0xf042
def PNL_RAIL_VCOL : Fld := ⟨0, 8⟩
def PNL_RAIL_VCOL_SP : Fld := ⟨8, 8⟩
def PNL_RAIL_VNEG : Fld := ⟨16, 7⟩
def PNL_RAIL_VNEG_GOOD : Fld := ⟨23, 1⟩
def PNL_RAIL_VCOL_GOOD : Fld := ⟨24, 1⟩

/-- PNL_CRZ of block PANEL, byte offset 0x010C. -/
def PNL_CRZ : Nat := 0xf043
def PNL_CRZ_RES : Fld := ⟨0, 11⟩
def PNL_CRZ_GOOD : Fld := ⟨11, 1⟩
def PNL_CRZ_CRZ_TRIPS : Fld := ⟨16, 16⟩

/-- PNL_LIST of block PANEL, byte offset 0x0114. -/
def PNL_LIST : Nat := 0xf045
def PNL_LIST_PAGE : Fld := ⟨0, 7⟩
def PNL_LIST_PAGES : Fld := ⟨8, 7⟩
def PNL_LIST_SHOWN : Fld := ⟨16, 10⟩

/-- PNL_CMD of block PANEL, byte offset 0x0200. -/
def PNL_CMD : Nat := 0xf080
def PNL_CMD_OPCODE : Fld := ⟨0, 8⟩
def PNL_CMD_ARG : Fld := ⟨8, 8⟩

/-- PNL_CMDST of block PANEL, byte offset 0x0204. -/
def PNL_CMDST : Nat := 0xf081
def PNL_CMDST_STATUS : Fld := ⟨0, 2⟩
def PNL_CMDST_LAST_OP : Fld := ⟨8, 8⟩

/-- PNL_LPT of block PANEL, byte offset 0x1000; k < 512. -/
def PNL_LPT (k : Nat) : Nat := 0xf400 + k
def PNL_LPT_POINT : Fld := ⟨0, 11⟩
def PNL_LPT_EN : Fld := ⟨11, 1⟩

/-- PNL_HF of block PANEL, byte offset 0x2000; w < 2048. -/
def PNL_HF (w : Nat) : Nat := 0xf800 + w

/-! ### Registers of spec/15_firing_image.md -/

/-- CFG_STAT of block CFG, byte offset 0x0000. -/
def CFG_STAT : Nat := 0x800
def CFG_STAT_FSLOT : Fld := ⟨0, 2⟩
def CFG_STAT_FALLBACK : Fld := ⟨2, 1⟩
def CFG_STAT_FIRE_MIS : Fld := ⟨3, 1⟩
def CFG_STAT_PREF : Fld := ⟨4, 1⟩
def CFG_STAT_REJ_PREF : Fld := ⟨5, 1⟩
def CFG_STAT_PATCHES : Fld := ⟨8, 8⟩

/-- CFG_ID of block CFG, byte offset 0x0004. -/
def CFG_ID : Nat := 0x801

/-- CFG_BUILD of block CFG, byte offset 0x0008. -/
def CFG_BUILD : Nat := 0x802

/-- CFG_REPCRC of block CFG, byte offset 0x0010. -/
def CFG_REPCRC : Nat := 0x804

/-- CFG_REP of block CFG, byte offset 0x000C. -/
def CFG_REP : Nat := 0x803
def CFG_REP_ENTRIES : Fld := ⟨0, 10⟩
def CFG_REP_OVF : Fld := ⟨10, 1⟩
def CFG_REP_SRC : Fld := ⟨11, 2⟩
def CFG_REP_REJECTED : Fld := ⟨13, 1⟩

/-- CFG_TGT of block CFG, byte offset 0x0020; s < 4. -/
def CFG_TGT (s : Nat) : Nat := 0x808 + 2 * s
def CFG_TGT_CHECK : Fld := ⟨0, 2⟩
def CFG_TGT_AUTH : Fld := ⟨2, 1⟩
def CFG_TGT_KIND : Fld := ⟨3, 1⟩
def CFG_TGT_REJ : Fld := ⟨8, 8⟩

/-- CFG_TGTID of block CFG, byte offset 0x0024; s < 4. -/
def CFG_TGTID (s : Nat) : Nat := 0x809 + 2 * s

/-- CFG_FUSE of block CFG, byte offset 0x0040. -/
def CFG_FUSE : Nat := 0x810
def CFG_FUSE_KEY_SET : Fld := ⟨0, 1⟩
def CFG_FUSE_AUTH_REQ : Fld := ⟨1, 1⟩

/-- CFG_KEY of block CFG, byte offset 0x0060; w < 8. -/
def CFG_KEY (w : Nat) : Nat := 0x818 + w

/-- CFG_CMD of block CFG, byte offset 0x0080. -/
def CFG_CMD : Nat := 0x820
def CFG_CMD_OPCODE : Fld := ⟨0, 8⟩
def CFG_CMD_ARG : Fld := ⟨8, 8⟩

/-- CFG_CMDST of block CFG, byte offset 0x0084. -/
def CFG_CMDST : Nat := 0x821
def CFG_CMDST_STATUS : Fld := ⟨0, 2⟩
def CFG_CMDST_LAST_OP : Fld := ⟨8, 8⟩

/-- CFG_XOFF of block CFG, byte offset 0x0088. -/
def CFG_XOFF : Nat := 0x822
def CFG_XOFF_OFFSET : Fld := ⟨0, 22⟩

/-- CFG_XST of block CFG, byte offset 0x008C. -/
def CFG_XST : Nat := 0x823
def CFG_XST_XSTATE : Fld := ⟨0, 3⟩
def CFG_XST_TARGET : Fld := ⟨3, 2⟩
def CFG_XST_PAGES : Fld := ⟨16, 16⟩

/-- CFG_PST of block CFG, byte offset 0x0090; i < 2. -/
def CFG_PST (i : Nat) : Nat := 0x824 + i
def CFG_PST_PSTATE : Fld := ⟨0, 2⟩
def CFG_PST_OUTCOME : Fld := ⟨2, 2⟩
def CFG_PST_REJ : Fld := ⟨8, 8⟩

/-- CFG_XBUF of block CFG, byte offset 0x0100; w < 64. -/
def CFG_XBUF (w : Nat) : Nat := 0x840 + w

/-- CFG_WRIDX of block CFG, byte offset 0x0200, lane-local. -/
def CFG_WRIDX : Nat := 0x880
def CFG_WRIDX_INDEX : Fld := ⟨0, 9⟩

/-- CFG_WRW of block CFG, byte offset 0x0210; w < 4, lane-local. -/
def CFG_WRW (w : Nat) : Nat := 0x884 + w

/-! ### Registers of spec/16_start_reset_bisque.md -/

/-- MOD_RSTCAUSE of block MOD, byte offset 0x0100. -/
def MOD_RSTCAUSE : Nat := 0xc0040
def MOD_RSTCAUSE_CAUSE : Fld := ⟨0, 4⟩
def MOD_RSTCAUSE_COUNTED : Fld := ⟨4, 1⟩
def MOD_RSTCAUSE_PHASE_PREV : Fld := ⟨5, 2⟩

/-- MOD_STRAP of block MOD, byte offset 0x0104. -/
def MOD_STRAP : Nat := 0xc0041
def MOD_STRAP_LANE : Fld := ⟨0, 1⟩
def MOD_STRAP_AOF : Fld := ⟨1, 4⟩
def MOD_STRAP_BISQ : Fld := ⟨5, 1⟩
def MOD_STRAP_CANR : Fld := ⟨6, 2⟩
def MOD_STRAP_NODE : Fld := ⟨8, 7⟩

/-- MOD_START of block MOD, byte offset 0x0108. -/
def MOD_START : Nat := 0xc0042
def MOD_START_NSTATE : Fld := ⟨0, 2⟩
def MOD_START_FAILS : Fld := ⟨2, 2⟩
def MOD_START_PHASE : Fld := ⟨4, 2⟩
def MOD_START_SREC_DEF : Fld := ⟨6, 1⟩
def MOD_START_REASON : Fld := ⟨8, 8⟩
def MOD_START_T_RUN : Fld := ⟨16, 16⟩

/-- MOD_RUNTIME of block MOD, byte offset 0x010C. -/
def MOD_RUNTIME : Nat := 0xc0043

/-- MOD_STX of block MOD, byte offset 0x0110. -/
def MOD_STX : Nat := 0xc0044
def MOD_STX_ROUND : Fld := ⟨0, 8⟩
def MOD_STX_RETRIES : Fld := ⟨8, 8⟩
def MOD_STX_DUR : Fld := ⟨16, 16⟩

/-- MOD_CMD of block MOD, byte offset 0x0114. -/
def MOD_CMD : Nat := 0xc0045
def MOD_CMD_OPCODE : Fld := ⟨0, 8⟩
def MOD_CMD_ARG : Fld := ⟨8, 8⟩

/-- MOD_CMDST of block MOD, byte offset 0x0118. -/
def MOD_CMDST : Nat := 0xc0046
def MOD_CMDST_STATUS : Fld := ⟨0, 2⟩
def MOD_CMDST_LAST_OP : Fld := ⟨8, 8⟩

/-! ### Registers of spec/17_host_port_and_events.md -/

/-- EVT_PEND of block EVT, byte offset 0x0000; w < 6, lane-local. -/
def EVT_PEND (w : Nat) : Nat := 0x400 + w

/-- EVT_MASK of block EVT, byte offset 0x0020; w < 6, lane-local. -/
def EVT_MASK (w : Nat) : Nat := 0x408 + w

/-- EVT_SUM of block EVT, byte offset 0x0040, lane-local. -/
def EVT_SUM : Nat := 0x410
def EVT_SUM_ANY : Fld := ⟨0, 6⟩
def EVT_SUM_IRQ : Fld := ⟨6, 1⟩
def EVT_SUM_FAULT : Fld := ⟨7, 1⟩

/-- EVT_CNP of block EVT, byte offset 0x0080; w < 6. -/
def EVT_CNP (w : Nat) : Nat := 0x420 + w

/-- EVT_CNPCFG of block EVT, byte offset 0x00A0. -/
def EVT_CNPCFG : Nat := 0x428
def EVT_CNPCFG_EN : Fld := ⟨0, 1⟩
def EVT_CNPCFG_BUS1 : Fld := ⟨1, 1⟩
def EVT_CNPCFG_BUS2 : Fld := ⟨2, 1⟩
def EVT_CNPCFG_PRIO : Fld := ⟨3, 3⟩

/-- EVT_CNPST of block EVT, byte offset 0x00A4. -/
def EVT_CNPST : Nat := 0x429
def EVT_CNPST_SENT : Fld := ⟨0, 16⟩
def EVT_CNPST_MERGES : Fld := ⟨16, 16⟩

/-- MOD_HPERR of block MOD, byte offset 0x0200. -/
def MOD_HPERR : Nat := 0xc0080
def MOD_HPERR_HDR : Fld := ⟨0, 12⟩
def MOD_HPERR_DATA : Fld := ⟨12, 12⟩
def MOD_HPERR_CUT : Fld := ⟨24, 8⟩

/-- MOD_HPCNT of block MOD, byte offset 0x0204. -/
def MOD_HPCNT : Nat := 0xc0081
def MOD_HPCNT_FORMAT : Fld := ⟨0, 16⟩
def MOD_HPCNT_BUSY : Fld := ⟨16, 16⟩

/-- MOD_IDENT of block MOD, byte offset 0x0000. -/
def MOD_IDENT : Nat := 0xc0000
def MOD_IDENT_PART : Fld := ⟨0, 16⟩
def MOD_IDENT_GRADE : Fld := ⟨16, 4⟩
def MOD_IDENT_STEPPING : Fld := ⟨20, 4⟩

/-- MOD_SERIAL of block MOD, byte offset 0x0004. -/
def MOD_SERIAL : Nat := 0xc0001

/-! ### Registers of spec/18_memory_banks.md -/

/-- MEM_WSEL of block MEM, byte offset 0x0000. -/
def MEM_WSEL : Nat := 0x10000
def MEM_WSEL_BANK : Fld := ⟨0, 5⟩

/-- MEM_OWN of block MEM, byte offset 0x0100; b < 32. -/
def MEM_OWN (b : Nat) : Nat := 0x10040 + b
def MEM_OWN_OWNER : Fld := ⟨0, 4⟩
def MEM_OWN_PEND : Fld := ⟨4, 1⟩

/-- MEM_BST of block MEM, byte offset 0x0200; b < 32. -/
def MEM_BST (b : Nat) : Nat := 0x10080 + b
def MEM_BST_CORR : Fld := ⟨0, 16⟩
def MEM_BST_UNCORR : Fld := ⟨16, 8⟩
def MEM_BST_SPARES : Fld := ⟨24, 3⟩
def MEM_BST_HARD : Fld := ⟨27, 1⟩
def MEM_BST_SIGBAD : Fld := ⟨28, 1⟩

/-- MEM_SCRUB of block MEM, byte offset 0x0300. -/
def MEM_SCRUB : Nat := 0x100c0
def MEM_SCRUB_POS : Fld := ⟨0, 18⟩
def MEM_SCRUB_PASSES : Fld := ⟨18, 14⟩

/-- MEM_SCRUBT of block MEM, byte offset 0x0304. -/
def MEM_SCRUBT : Nat := 0x100c1
def MEM_SCRUBT_MS : Fld := ⟨0, 12⟩

/-- MEM_FAULT of block MEM, byte offset 0x0310. -/
def MEM_FAULT : Nat := 0x100c4
def MEM_FAULT_BANK : Fld := ⟨0, 5⟩
def MEM_FAULT_WORD : Fld := ⟨5, 13⟩
def MEM_FAULT_ACCESSOR : Fld := ⟨18, 4⟩
def MEM_FAULT_KIND : Fld := ⟨22, 2⟩
def MEM_FAULT_COUNT : Fld := ⟨24, 8⟩

/-- MEM_ACCERR of block MEM, byte offset 0x0314. -/
def MEM_ACCERR : Nat := 0x100c5
def MEM_ACCERR_BANK : Fld := ⟨0, 5⟩
def MEM_ACCERR_ACCESSOR : Fld := ⟨5, 4⟩
def MEM_ACCERR_OWNWR : Fld := ⟨9, 1⟩
def MEM_ACCERR_COUNT : Fld := ⟨16, 16⟩

/-- MEM_SIGLO of block MEM, byte offset 0x0400; b < 32. -/
def MEM_SIGLO (b : Nat) : Nat := 0x10100 + 2 * b

/-- MEM_SIGHI of block MEM, byte offset 0x0404; b < 32. -/
def MEM_SIGHI (b : Nat) : Nat := 0x10101 + 2 * b

/-! ### Registers of spec/19_clock_islands.md -/

/-- CLK_ST of block CLK, byte offset 0x0000. -/
def CLK_ST : Nat := 0xc0c00
def CLK_ST_REF_OK : Fld := ⟨0, 1⟩
def CLK_ST_INT : Fld := ⟨1, 1⟩
def CLK_ST_HLOCK : Fld := ⟨2, 1⟩
def CLK_ST_ALOCK : Fld := ⟨3, 1⟩
def CLK_ST_BLOCK : Fld := ⟨4, 1⟩
def CLK_ST_AHOLD : Fld := ⟨5, 1⟩
def CLK_ST_BHOLD : Fld := ⟨6, 1⟩
def CLK_ST_TREF_EN : Fld := ⟨7, 1⟩
def CLK_ST_TSRC : Fld := ⟨8, 1⟩
def CLK_ST_OSCSRC : Fld := ⟨9, 1⟩

/-- CLK_REFMON of block CLK, byte offset 0x0004. -/
def CLK_REFMON : Nat := 0xc0c01
def CLK_REFMON_COUNT : Fld := ⟨0, 9⟩
def CLK_REFMON_LOSS_A : Fld := ⟨16, 8⟩
def CLK_REFMON_LOSS_B : Fld := ⟨24, 8⟩

/-- CLK_TILE of block CLK, byte offset 0x0008. -/
def CLK_TILE : Nat := 0xc0c02
def CLK_TILE_LOCK : Fld := ⟨0, 12⟩

/-- CLK_TCORR of block CLK, byte offset 0x000C. -/
def CLK_TCORR : Nat := 0xc0c03

/-- CLK_HSA of block CLK, byte offset 0x0010. -/
def CLK_HSA : Nat := 0xc0c04
def CLK_HSA_COUNT : Fld := ⟨0, 16⟩
def CLK_HSA_LINK : Fld := ⟨16, 4⟩

/-- CLK_HSB of block CLK, byte offset 0x0014. -/
def CLK_HSB : Nat := 0xc0c05
def CLK_HSB_COUNT : Fld := ⟨0, 16⟩
def CLK_HSB_LINK : Fld := ⟨16, 4⟩

/-- CLK_HSH of block CLK, byte offset 0x0018. -/
def CLK_HSH : Nat := 0xc0c06
def CLK_HSH_COUNT : Fld := ⟨0, 16⟩
def CLK_HSH_LINK : Fld := ⟨16, 4⟩

/-! ### Registers of spec/20_supplies_and_domains.md -/

/-- PWR_SUP of block PWR, byte offset 0x0000. -/
def PWR_SUP : Nat := 0xc0400
def PWR_SUP_VSYS_LOST : Fld := ⟨0, 1⟩
def PWR_SUP_VSYS_LOW : Fld := ⟨1, 1⟩
def PWR_SUP_VSYS_HIGH : Fld := ⟨2, 1⟩
def PWR_SUP_VLOOP_LOW : Fld := ⟨3, 1⟩
def PWR_SUP_VLOOP_HIGH : Fld := ⟨4, 1⟩
def PWR_SUP_EMG : Fld := ⟨5, 1⟩
def PWR_SUP_ON_HOLD : Fld := ⟨6, 1⟩
def PWR_SUP_HOLD_OK : Fld := ⟨7, 1⟩
def PWR_SUP_HOLD_SMALL : Fld := ⟨8, 1⟩
def PWR_SUP_CHARGING : Fld := ⟨9, 1⟩

/-- PWR_MON0 of block PWR, byte offset 0x0004. -/
def PWR_MON0 : Nat := 0xc0401
def PWR_MON0_V0 : Fld := ⟨0, 16⟩
def PWR_MON0_V1 : Fld := ⟨16, 16⟩

/-- PWR_MON1 of block PWR, byte offset 0x0008. -/
def PWR_MON1 : Nat := 0xc0402
def PWR_MON1_V0 : Fld := ⟨0, 16⟩

/-- PWR_HOLD of block PWR, byte offset 0x000C. -/
def PWR_HOLD : Nat := 0xc0403
def PWR_HOLD_CMEAS : Fld := ⟨0, 16⟩
def PWR_HOLD_CVALID : Fld := ⟨16, 1⟩

/-- PWR_SUPCNT of block PWR, byte offset 0x0010. -/
def PWR_SUPCNT : Nat := 0xc0404
def PWR_SUPCNT_LOSSES : Fld := ⟨0, 16⟩
def PWR_SUPCNT_RIDES : Fld := ⟨16, 16⟩

/-- PWR_DOM of block PWR, byte offset 0x0020. -/
def PWR_DOM : Nat := 0xc0408
def PWR_DOM_ON : Fld := ⟨0, 14⟩
def PWR_DOM_LATCHED : Fld := ⟨16, 14⟩

/-- PWR_DST of block PWR, byte offset 0x0040; d < 14. -/
def PWR_DST (d : Nat) : Nat := 0xc0410 + d
def PWR_DST_ON : Fld := ⟨0, 1⟩
def PWR_DST_GOOD : Fld := ⟨1, 1⟩
def PWR_DST_FAULT : Fld := ⟨2, 1⟩
def PWR_DST_LATCHED : Fld := ⟨3, 1⟩
def PWR_DST_CAUSE : Fld := ⟨4, 2⟩
def PWR_DST_WCNT : Fld := ⟨6, 2⟩
def PWR_DST_FAULTS : Fld := ⟨8, 8⟩

/-! ### Registers of spec/21_energy_and_thermal_ledger.md -/

/-- PWR_LCFG of block PWR, byte offset 0x0100. -/
def PWR_LCFG : Nat := 0xc0440
def PWR_LCFG_HOLD_C : Fld := ⟨0, 12⟩
def PWR_LCFG_TRES : Fld := ⟨16, 12⟩

/-- PWR_LEBUD of block PWR, byte offset 0x0104. -/
def PWR_LEBUD : Nat := 0xc0441
def PWR_LEBUD_EBUD : Fld := ⟨0, 22⟩

/-- PWR_LSAVE of block PWR, byte offset 0x0108. -/
def PWR_LSAVE : Nat := 0xc0442
def PWR_LSAVE_S4 : Fld := ⟨0, 10⟩
def PWR_LSAVE_S3 : Fld := ⟨10, 10⟩
def PWR_LSAVE_S2 : Fld := ⟨20, 10⟩

/-- PWR_LTCFG of block PWR, byte offset 0x010C. -/
def PWR_LTCFG : Nat := 0xc0443
def PWR_LTCFG_PLIM : Fld := ⟨0, 11⟩
def PWR_LTCFG_TAU : Fld := ⟨16, 8⟩
def PWR_LTCFG_DOW : Fld := ⟨24, 8⟩

/-- PWR_LST of block PWR, byte offset 0x0110. -/
def PWR_LST : Nat := 0xc0444
def PWR_LST_ELVL : Fld := ⟨0, 2⟩
def PWR_LST_TLVL : Fld := ⟨2, 2⟩
def PWR_LST_C4SHED : Fld := ⟨4, 1⟩
def PWR_LST_C3SHED : Fld := ⟨5, 1⟩
def PWR_LST_C2RED : Fld := ⟨6, 1⟩
def PWR_LST_TRIPPED : Fld := ⟨7, 1⟩
def PWR_LST_TCAUSE : Fld := ⟨8, 1⟩
def PWR_LST_THERM_OVER : Fld := ⟨9, 1⟩
def PWR_LST_HOLD_SHORT : Fld := ⟨10, 1⟩

/-- PWR_LPWR of block PWR, byte offset 0x0114. -/
def PWR_LPWR : Nat := 0xc0445
def PWR_LPWR_LO : Fld := ⟨0, 16⟩
def PWR_LPWR_HI : Fld := ⟨16, 16⟩

/-- PWR_LPAVG of block PWR, byte offset 0x0118. -/
def PWR_LPAVG : Nat := 0xc0446
def PWR_LPAVG_LO : Fld := ⟨0, 16⟩
def PWR_LPAVG_HI : Fld := ⟨16, 16⟩

/-- PWR_LETOT of block PWR, byte offset 0x011C. -/
def PWR_LETOT : Nat := 0xc0447

/-- PWR_LEEMG of block PWR, byte offset 0x0120. -/
def PWR_LEEMG : Nat := 0xc0448

/-- PWR_LEREM of block PWR, byte offset 0x0124. -/
def PWR_LEREM : Nat := 0xc0449

/-- PWR_LHOLD of block PWR, byte offset 0x0128. -/
def PWR_LHOLD : Nat := 0xc044a
def PWR_LHOLD_EU : Fld := ⟨0, 16⟩
def PWR_LHOLD_EFL : Fld := ⟨16, 16⟩

/-- PWR_LTRIP of block PWR, byte offset 0x012C. -/
def PWR_LTRIP : Nat := 0xc044b
def PWR_LTRIP_VTRIP : Fld := ⟨0, 16⟩
def PWR_LTRIP_TLEFT : Fld := ⟨16, 16⟩

/-! ### Registers of spec/07_control_engine.md -/

/-- CTRL_DLO of block CTRL, byte offset 0x0084; n < 32, d < 2. -/
def CTRL_DLO (n : Nat) (d : Nat) : Nat := 0xc021 + 64 * n + 4 * d

/-- CTRL_DHI of block CTRL, byte offset 0x0088; n < 32, d < 2. -/
def CTRL_DHI (n : Nat) (d : Nat) : Nat := 0xc022 + 64 * n + 4 * d

/-- One row of the map: the key of the first instance, the strides and counts of its indices, the bits that a
write stores (access RW), the fields that come from the firing image in ascending least significant bit, whether
the register is lane-local (R43), whether it shows epoch results (R44), and its reset word. -/
structure RegRow where
  base : Nat
  dims : List (Nat × Nat)
  rw : Word
  img : List Fld
  laneLocal : Bool
  epochResult : Bool
  reset : Word
  deriving DecidableEq, Repr

/-- Rows of the map, AIN_TSTAT to ALM_CMDST. -/
def regRows0 : List RegRow := [
  ⟨0x2000, [(4, 12)], 0x00000000#32, [], false, false, 0x00000000#32⟩,
  ⟨0x2001, [(4, 12)], 0x00000000#32, [], false, true, 0x00000000#32⟩,
  ⟨0x2002, [(4, 12)], 0x00000000#32, [⟨0, 16⟩, ⟨16, 1⟩, ⟨17, 1⟩], false, false, 0x00000000#32⟩,
  ⟨0x2003, [(4, 12)], 0x00000000#32, [], false, false, 0x00000000#32⟩,
  ⟨0x2100, [(1, 96)], 0x00000000#32, [⟨0, 4⟩, ⟨4, 3⟩, ⟨7, 1⟩, ⟨8, 2⟩, ⟨10, 1⟩, ⟨12, 1⟩, ⟨16, 8⟩], false, false, 0x00000000#32⟩,
  ⟨0x2180, [(1, 96)], 0x00000000#32, [], false, false, 0x00000000#32⟩,
  ⟨0x2200, [], 0x00000000#32, [], false, false, 0x00000000#32⟩,
  ⟨0x2201, [], 0x00000000#32, [], false, false, 0x00000000#32⟩,
  ⟨0x2400, [(1, 96)], 0x00000000#32, [⟨0, 4⟩, ⟨4, 1⟩, ⟨5, 2⟩, ⟨7, 1⟩, ⟨8, 3⟩, ⟨11, 5⟩, ⟨16, 16⟩], false, false, 0x00000000#32⟩,
  ⟨0x2480, [(1, 96)], 0x00000000#32, [⟨0, 32⟩], false, false, 0x00000000#32⟩,
  ⟨0x2500, [(1, 96)], 0x00000000#32, [⟨0, 32⟩], false, false, 0x00000000#32⟩,
  ⟨0x2580, [(1, 96)], 0x00000000#32, [⟨0, 32⟩], false, false, 0x00000000#32⟩,
  ⟨0x2600, [(1, 96)], 0x00000000#32, [], false, true, 0x00000000#32⟩,
  ⟨0x2680, [(1, 96)], 0x00000000#32, [], false, true, 0x00000200#32⟩,
  ⟨0x2700, [(1, 96)], 0x00000000#32, [], false, true, 0x00000000#32⟩,
  ⟨0x2780, [(1, 96)], 0x00000000#32, [], false, true, 0x00000000#32⟩,
  ⟨0x2800, [(1, 96)], 0x00000000#32, [], false, false, 0x00000000#32⟩,
  ⟨0x2c00, [(128, 8), (1, 33)], 0x00000000#32, [⟨0, 32⟩], false, false, 0x00000000#32⟩,
  ⟨0x2c40, [(128, 8), (1, 33)], 0x00000000#32, [⟨0, 32⟩], false, false, 0x00000000#32⟩,
  ⟨0x8000, [(8, 2048)], 0x00000000#32, [⟨0, 4⟩, ⟨4, 2⟩, ⟨6, 2⟩, ⟨8, 7⟩, ⟨16, 2⟩, ⟨18, 1⟩, ⟨19, 1⟩, ⟨20, 7⟩], false, false, 0x00000000#32⟩,
  ⟨0x8001, [(8, 2048)], 0x00000000#32, [⟨0, 4⟩, ⟨4, 12⟩, ⟨16, 5⟩], false, false, 0x00000000#32⟩,
  ⟨0x8002, [(8, 2048)], 0x00000000#32, [⟨0, 4⟩, ⟨4, 12⟩, ⟨16, 5⟩], false, false, 0x00000000#32⟩,
  ⟨0x8003, [(8, 2048)], 0x00000000#32, [⟨0, 32⟩], false, false, 0x00000000#32⟩,
  ⟨0x8004, [(8, 2048)], 0x00000000#32, [⟨0, 32⟩], false, false, 0x00000000#32⟩,
  ⟨0x8007, [(8, 2048)], 0x00000000#32, [⟨0, 32⟩], false, false, 0x00000000#32⟩,
  ⟨0x8005, [(8, 2048)], 0x00000000#32, [⟨0, 16⟩, ⟨16, 16⟩], false, false, 0x00000000#32⟩,
  ⟨0x8006, [(8, 2048)], 0x00000000#32, [], false, true, 0x00000000#32⟩,
  ⟨0x6000, [], 0x00000000#32, [⟨0, 6⟩], false, false, 0x0000001E#32⟩,
  ⟨0x6004, [], 0x00000000#32, [], false, false, 0x00000000#32⟩,
  ⟨0x6005, [], 0x00000000#32, [], false, false, 0x00000000#32⟩]

/-- Rows of the map, ALM_AUTH to ALM_CALLED. -/
def regRows1 : List RegRow := [
  ⟨0x6006, [], 0x00000000#32, [⟨0, 16⟩, ⟨16, 16⟩], false, false, 0x00000000#32⟩,
  ⟨0x6008, [], 0x00000000#32, [], false, true, 0x00000000#32⟩,
  ⟨0x6009, [], 0x00000000#32, [], false, true, 0x00000000#32⟩,
  ⟨0x600a, [], 0x00000000#32, [], false, true, 0x00000000#32⟩,
  ⟨0x600c, [], 0x00000000#32, [], false, true, 0x00000000#32⟩,
  ⟨0x6800, [(1, 2048)], 0x00000000#32, [], false, true, 0x00000000#32⟩,
  ⟨0x6040, [], 0x00000000#32, [⟨0, 12⟩, ⟨16, 12⟩], false, false, 0x00000000#32⟩,
  ⟨0x6041, [], 0x00000000#32, [], false, true, 0x00000000#32⟩,
  ⟨0x6042, [], 0x00000000#32, [⟨0, 10⟩, ⟨16, 9⟩], false, false, 0x0000001E#32⟩,
  ⟨0x6043, [], 0x00000000#32, [], false, true, 0x00000000#32⟩,
  ⟨0x6044, [], 0x00000000#32, [⟨0, 16⟩], false, false, 0x00000000#32⟩,
  ⟨0x6045, [], 0x00000000#32, [], false, true, 0x00000000#32⟩,
  ⟨0x6100, [(4, 128)], 0x00000000#32, [⟨0, 4⟩, ⟨4, 12⟩, ⟨16, 5⟩, ⟨21, 1⟩, ⟨22, 1⟩], false, false, 0x00000000#32⟩,
  ⟨0x6101, [(4, 128)], 0x00000000#32, [⟨0, 16⟩, ⟨16, 4⟩, ⟨20, 1⟩], false, false, 0x00000000#32⟩,
  ⟨0x6102, [(4, 128)], 0x00000000#32, [], false, true, 0x00000000#32⟩,
  ⟨0x6103, [(4, 128)], 0x00000000#32, [], false, true, 0x00000000#32⟩,
  ⟨0x6300, [(4, 256)], 0x00000000#32, [⟨0, 11⟩, ⟨11, 1⟩, ⟨12, 1⟩], false, false, 0x00000000#32⟩,
  ⟨0x6301, [(4, 256)], 0x00000000#32, [⟨0, 2⟩, ⟨8, 11⟩, ⟨19, 11⟩], false, false, 0x00000000#32⟩,
  ⟨0x6302, [(4, 256)], 0x00000000#32, [⟨0, 16⟩], false, false, 0x00000000#32⟩,
  ⟨0x6303, [(4, 256)], 0x00000000#32, [], false, true, 0x00000000#32⟩,
  ⟨0x6700, [(8, 32)], 0x00000000#32, [⟨0, 3⟩, ⟨4, 4⟩, ⟨8, 1⟩, ⟨9, 5⟩], false, false, 0x00000000#32⟩,
  ⟨0x6701, [(8, 32), (1, 4)], 0x00000000#32, [⟨0, 32⟩], false, false, 0x00000000#32⟩,
  ⟨0x7000, [(1, 2048)], 0x00000000#32, [], false, true, 0x00000000#32⟩,
  ⟨0x6080, [], 0x00000000#32, [⟨0, 3⟩, ⟨4, 10⟩, ⟨16, 4⟩], false, false, 0x000012C1#32⟩,
  ⟨0x6084, [(1, 4)], 0x00000000#32, [⟨0, 16⟩, ⟨16, 1⟩, ⟨17, 10⟩], false, false, 0x00780000#32⟩,
  ⟨0x6088, [(1, 16)], 0x00000000#32, [⟨0, 5⟩, ⟨5, 1⟩, ⟨6, 1⟩], false, false, 0x00000000#32⟩,
  ⟨0x6098, [], 0x00000000#32, [⟨0, 16⟩, ⟨16, 16⟩], false, false, 0x00000000#32⟩,
  ⟨0x6099, [], 0x00000000#32, [⟨0, 1⟩, ⟨1, 5⟩, ⟨6, 9⟩, ⟨16, 16⟩], false, false, 0x00000F1E#32⟩,
  ⟨0x609c, [], 0x00000000#32, [], false, true, 0x00000000#32⟩,
  ⟨0x609d, [], 0x00000000#32, [], false, true, 0x00000000#32⟩]

/-- Rows of the map, ALM_DMST to CTRL_OHI. -/
def regRows2 : List RegRow := [
  ⟨0x609e, [], 0x00000000#32, [], false, true, 0x00000000#32⟩,
  ⟨0xc0800, [], 0x00000000#32, [⟨0, 5⟩, ⟨8, 1⟩], false, false, 0x00000000#32⟩,
  ⟨0xc0801, [], 0x00000001#32, [], false, false, 0x00000000#32⟩,
  ⟨0xc0802, [], 0x00000000#32, [], false, false, 0x00000001#32⟩,
  ⟨0xc0803, [], 0x00000000#32, [], false, false, 0x00000000#32⟩,
  ⟨0xc0804, [], 0x00000000#32, [], false, false, 0x00000000#32⟩,
  ⟨0xc0805, [], 0x00000000#32, [], false, false, 0x00000000#32⟩,
  ⟨0xc000, [(64, 32)], 0x00000000#32, [⟨0, 4⟩, ⟨4, 1⟩, ⟨5, 14⟩, ⟨19, 1⟩, ⟨20, 1⟩, ⟨21, 1⟩, ⟨22, 2⟩, ⟨24, 1⟩, ⟨25, 1⟩], false, false, 0x00000020#32⟩,
  ⟨0xc001, [(64, 32)], 0x00000000#32, [⟨0, 4⟩, ⟨4, 12⟩], false, false, 0x00000000#32⟩,
  ⟨0xc002, [(64, 32)], 0x00000000#32, [⟨0, 4⟩, ⟨4, 12⟩], false, false, 0x00000000#32⟩,
  ⟨0xc003, [(64, 32)], 0x00000000#32, [⟨0, 32⟩], false, false, 0x00000000#32⟩,
  ⟨0xc004, [(64, 32)], 0x00000000#32, [⟨0, 32⟩], false, false, 0x00000000#32⟩,
  ⟨0xc005, [(64, 32)], 0x00000000#32, [⟨0, 32⟩], false, false, 0x00000000#32⟩,
  ⟨0xc006, [(64, 32)], 0x00000000#32, [⟨0, 32⟩], false, false, 0x00000000#32⟩,
  ⟨0xc007, [(64, 32)], 0x00000000#32, [⟨0, 32⟩], false, false, 0x00000000#32⟩,
  ⟨0xc008, [(64, 32)], 0x00000000#32, [⟨0, 32⟩], false, false, 0x00000000#32⟩,
  ⟨0xc009, [(64, 32)], 0x00000000#32, [⟨0, 32⟩], false, false, 0x00000000#32⟩,
  ⟨0xc00a, [(64, 32)], 0x00000000#32, [⟨0, 32⟩], false, false, 0x00000000#32⟩,
  ⟨0xc00b, [(64, 32)], 0x00000000#32, [⟨0, 32⟩], false, false, 0x00000000#32⟩,
  ⟨0xc00c, [(64, 32)], 0x00000000#32, [⟨0, 32⟩], false, false, 0x00000000#32⟩,
  ⟨0xc00d, [(64, 32)], 0x00000000#32, [⟨0, 32⟩], false, false, 0x00000000#32⟩,
  ⟨0xc00e, [(64, 32)], 0x00000000#32, [⟨0, 32⟩], false, false, 0x00000000#32⟩,
  ⟨0xc00f, [(64, 32)], 0x00000000#32, [⟨0, 32⟩], false, false, 0x00000000#32⟩,
  ⟨0xc010, [(64, 32)], 0x00000000#32, [⟨0, 32⟩], false, false, 0x00000000#32⟩,
  ⟨0xc014, [(64, 32), (6, 2)], 0x00000000#32, [⟨0, 32⟩], false, false, 0x00000000#32⟩,
  ⟨0xc015, [(64, 32), (6, 2)], 0x00000000#32, [⟨0, 32⟩], false, false, 0x00000000#32⟩,
  ⟨0xc016, [(64, 32), (6, 2)], 0x00000000#32, [⟨0, 32⟩], false, false, 0x00000000#32⟩,
  ⟨0xc017, [(64, 32), (6, 2)], 0x00000000#32, [⟨0, 32⟩], false, false, 0x00000000#32⟩,
  ⟨0xc018, [(64, 32), (6, 2)], 0x00000000#32, [⟨0, 32⟩], false, false, 0x00000000#32⟩,
  ⟨0xc019, [(64, 32), (6, 2)], 0x00000000#32, [⟨0, 32⟩], false, false, 0x00000000#32⟩]

/-- Rows of the map, CTRL_DST to HRT_CNT. -/
def regRows3 : List RegRow := [
  ⟨0xc020, [(64, 32), (4, 2)], 0x00000000#32, [⟨0, 2⟩, ⟨2, 5⟩, ⟨7, 1⟩, ⟨8, 10⟩, ⟨18, 10⟩], false, false, 0x00000A00#32⟩,
  ⟨0xc030, [(64, 32)], 0x00000000#32, [], false, true, 0x00000000#32⟩,
  ⟨0xc031, [(64, 32)], 0x00000000#32, [], false, true, 0x00000000#32⟩,
  ⟨0xc032, [(64, 32)], 0x00000000#32, [], false, true, 0x00000000#32⟩,
  ⟨0xc033, [(64, 32)], 0x00000000#32, [], false, true, 0x00000000#32⟩,
  ⟨0xc034, [(64, 32)], 0x00000000#32, [], false, true, 0x00000000#32⟩,
  ⟨0xc035, [(64, 32), (1, 2)], 0x00000000#32, [], false, true, 0x00000000#32⟩,
  ⟨0xd000, [], 0x00000000#32, [], false, false, 0x00000000#32⟩,
  ⟨0xd001, [], 0xFFFFFFFF#32, [], false, false, 0x00000000#32⟩,
  ⟨0xd002, [], 0x00000000#32, [], false, false, 0x00000000#32⟩,
  ⟨0x3000, [(1, 4)], 0x00000000#32, [⟨0, 2⟩], false, false, 0x00000000#32⟩,
  ⟨0x3004, [], 0x00000000#32, [], false, false, 0x00000000#32⟩,
  ⟨0x3005, [], 0xFFFFFFFF#32, [], false, false, 0x00000000#32⟩,
  ⟨0x3006, [], 0x00000000#32, [], false, false, 0x00000000#32⟩,
  ⟨0x3040, [(8, 24)], 0x00000000#32, [⟨0, 2⟩, ⟨2, 1⟩, ⟨3, 1⟩, ⟨4, 1⟩], false, false, 0x00000000#32⟩,
  ⟨0x3041, [(8, 24)], 0x00000000#32, [⟨0, 4⟩, ⟨4, 12⟩, ⟨16, 5⟩], false, false, 0x00000000#32⟩,
  ⟨0x3042, [(8, 24)], 0x00000000#32, [⟨0, 32⟩], false, false, 0x00000000#32⟩,
  ⟨0x3043, [(8, 24)], 0x00000000#32, [], false, true, 0x00000000#32⟩,
  ⟨0x3045, [(8, 24)], 0x00000000#32, [], false, true, 0x00000000#32⟩,
  ⟨0x3044, [(8, 24)], 0x00000000#32, [], false, false, 0x00010000#32⟩,
  ⟨0x3046, [(8, 24)], 0x00000000#32, [], false, true, 0x00000200#32⟩,
  ⟨0x3047, [(8, 24)], 0x00000000#32, [], false, false, 0x00000000#32⟩,
  ⟨0x3100, [(64, 24)], 0x00000000#32, [⟨0, 5⟩, ⟨5, 1⟩, ⟨6, 2⟩, ⟨8, 6⟩, ⟨14, 6⟩, ⟨20, 1⟩, ⟨21, 6⟩], false, false, 0x00005C05#32⟩,
  ⟨0x3101, [(64, 24)], 0x00000000#32, [⟨0, 32⟩], false, false, 0x00000000#32⟩,
  ⟨0x3102, [(64, 24)], 0x00000000#32, [⟨0, 8⟩], false, false, 0x00000000#32⟩,
  ⟨0x3103, [(64, 24)], 0x00000000#32, [], false, true, 0x00000000#32⟩,
  ⟨0x3104, [(64, 24)], 0x00000000#32, [], false, true, 0x00000000#32⟩,
  ⟨0x3105, [(64, 24)], 0x00000000#32, [], false, true, 0x00000000#32⟩,
  ⟨0x3106, [(64, 24)], 0x00000000#32, [], false, true, 0xFFFFFF00#32⟩,
  ⟨0x3107, [(64, 24)], 0x00000000#32, [], false, false, 0x00000000#32⟩]

/-- Rows of the map, HRT_TX to LINK_RESEND. -/
def regRows4 : List RegRow := [
  ⟨0x3110, [(64, 24), (1, 17)], 0xFFFFFFFF#32, [], false, false, 0x00000000#32⟩,
  ⟨0x3124, [(64, 24), (1, 17)], 0x00000000#32, [], false, true, 0x00000000#32⟩,
  ⟨0x3800, [], 0x00000000#32, [], false, false, 0x00000000#32⟩,
  ⟨0x3801, [], 0x00000000#32, [], false, false, 0x00000000#32⟩,
  ⟨0x3840, [(1, 32)], 0x00000000#32, [⟨0, 8⟩, ⟨8, 1⟩, ⟨9, 1⟩], false, false, 0x00000000#32⟩,
  ⟨0x3880, [], 0x00000000#32, [], false, true, 0x00000000#32⟩,
  ⟨0x3881, [], 0x00000000#32, [], false, true, 0x00000000#32⟩,
  ⟨0x38c0, [(2, 32)], 0x00000000#32, [], false, true, 0x00000000#32⟩,
  ⟨0x38c1, [(2, 32)], 0x00000000#32, [], false, true, 0x00000000#32⟩,
  ⟨0x3900, [(1, 32)], 0x00000000#32, [], false, true, 0x00000000#32⟩,
  ⟨0x3940, [(1, 4)], 0x00000000#32, [], false, true, 0x00000000#32⟩,
  ⟨0x3c00, [(1, 32)], 0x00000000#32, [⟨0, 1⟩, ⟨1, 1⟩, ⟨2, 1⟩], false, false, 0x00000000#32⟩,
  ⟨0x3c20, [(1, 32)], 0x00000000#32, [], false, false, 0x00000000#32⟩,
  ⟨0x3c40, [(1, 4)], 0x00000000#32, [⟨0, 1⟩], false, false, 0x00000000#32⟩,
  ⟨0x3c44, [(1, 4)], 0x00000000#32, [], false, false, 0x00000000#32⟩,
  ⟨0x3c48, [], 0x00000000#32, [], false, false, 0x00000000#32⟩,
  ⟨0x3c49, [], 0x00000000#32, [], false, false, 0x00000000#32⟩,
  ⟨0x0, [], 0x00000000#32, [], false, false, 0x00000000#32⟩,
  ⟨0x1, [], 0x00000000#32, [], false, false, 0x00000000#32⟩,
  ⟨0x2, [], 0x00000000#32, [], false, false, 0x00000000#32⟩,
  ⟨0x3, [], 0x00000000#32, [], false, false, 0x00000000#32⟩,
  ⟨0x4, [], 0x00000000#32, [], false, false, 0x00000000#32⟩,
  ⟨0x5, [], 0x00000000#32, [], false, false, 0x00000000#32⟩,
  ⟨0x6, [], 0x00000000#32, [⟨0, 1⟩, ⟨1, 1⟩], false, false, 0x00000000#32⟩,
  ⟨0x8, [], 0x00000000#32, [], false, false, 0x00000000#32⟩,
  ⟨0x9, [], 0x00000000#32, [], false, false, 0x00000000#32⟩,
  ⟨0xc, [], 0x00000002#32, [], true, false, 0x00000000#32⟩,
  ⟨0x1000, [], 0x00000000#32, [], false, false, 0x00000000#32⟩,
  ⟨0x1001, [], 0x00000000#32, [], false, false, 0x00000000#32⟩,
  ⟨0x1002, [], 0x00000000#32, [], false, false, 0x00000000#32⟩]

/-- Rows of the map, LINK_DIGLO to CAN_COLL. -/
def regRows5 : List RegRow := [
  ⟨0x1004, [], 0x00000000#32, [], false, false, 0x00000000#32⟩,
  ⟨0x1005, [], 0x00000000#32, [], false, false, 0x00000000#32⟩,
  ⟨0x1006, [], 0x00000000#32, [], false, false, 0x00000000#32⟩,
  ⟨0x1007, [], 0x00000000#32, [], false, false, 0x00000000#32⟩,
  ⟨0x1008, [(1, 8)], 0x00000000#32, [], false, false, 0x00000000#32⟩,
  ⟨0x1010, [(1, 8)], 0x00000000#32, [], false, false, 0x00000000#32⟩,
  ⟨0xe000, [], 0x00000000#32, [⟨0, 7⟩, ⟨8, 16⟩], false, false, 0x00000032#32⟩,
  ⟨0xe001, [], 0x00000000#32, [], false, false, 0x00000000#32⟩,
  ⟨0xe002, [], 0x00000000#32, [], false, false, 0x00000000#32⟩,
  ⟨0xe003, [], 0x00000000#32, [], false, false, 0x00000000#32⟩,
  ⟨0xe004, [], 0x00000000#32, [], false, false, 0x00000000#32⟩,
  ⟨0xe005, [], 0x00000000#32, [], false, false, 0x00000000#32⟩,
  ⟨0xe006, [], 0x00000000#32, [], false, false, 0x00000000#32⟩,
  ⟨0xe007, [], 0x00000000#32, [], false, false, 0x00000000#32⟩,
  ⟨0xe008, [], 0x00000000#32, [], false, false, 0x00000000#32⟩,
  ⟨0xe00c, [(1, 6)], 0x00000000#32, [], false, false, 0x00000000#32⟩,
  ⟨0xe020, [], 0x00000000#32, [], false, false, 0x00000000#32⟩,
  ⟨0xe021, [], 0x00000000#32, [], false, false, 0x00000000#32⟩,
  ⟨0xe040, [], 0x001FFFFF#32, [], true, false, 0x00000000#32⟩,
  ⟨0xe048, [(1, 8)], 0x00000000#32, [], true, false, 0x00000000#32⟩,
  ⟨0x4000, [(4096, 2)], 0x00000000#32, [⟨0, 1⟩, ⟨1, 2⟩, ⟨3, 3⟩, ⟨6, 1⟩, ⟨8, 7⟩, ⟨16, 7⟩], false, false, 0x00465000#32⟩,
  ⟨0x4001, [(4096, 2)], 0x00000000#32, [⟨0, 4⟩, ⟨4, 5⟩], false, false, 0x00000000#32⟩,
  ⟨0x4004, [(4096, 2)], 0x00000000#32, [], false, true, 0x00000000#32⟩,
  ⟨0x4005, [(4096, 2)], 0x00000000#32, [], false, true, 0x00000000#32⟩,
  ⟨0x4006, [(4096, 2)], 0x00000000#32, [], false, true, 0x00000000#32⟩,
  ⟨0x4007, [(4096, 2)], 0x00000000#32, [], false, true, 0x00000000#32⟩,
  ⟨0x4008, [(4096, 2)], 0x00000000#32, [], false, false, 0x00000000#32⟩,
  ⟨0x400c, [(4096, 2)], 0x00000000#32, [], false, false, 0x00000000#32⟩,
  ⟨0x400d, [(4096, 2)], 0x00000000#32, [], false, false, 0x00000000#32⟩,
  ⟨0x4010, [(4096, 2), (2, 8)], 0x00000000#32, [], false, true, 0x00000000#32⟩]

/-- Rows of the map, CAN_COLLC to PNL_CFG2. -/
def regRows6 : List RegRow := [
  ⟨0x4011, [(4096, 2), (2, 8)], 0x00000000#32, [], false, true, 0x00000000#32⟩,
  ⟨0x4100, [(4096, 2), (4, 128)], 0x00000000#32, [⟨0, 1⟩, ⟨1, 1⟩, ⟨2, 1⟩, ⟨3, 1⟩, ⟨4, 1⟩, ⟨5, 1⟩, ⟨6, 1⟩, ⟨7, 1⟩], false, false, 0x00000000#32⟩,
  ⟨0x4101, [(4096, 2), (4, 128)], 0x00000000#32, [⟨0, 29⟩], false, false, 0x00000000#32⟩,
  ⟨0x4102, [(4096, 2), (4, 128)], 0x00000000#32, [⟨0, 29⟩], false, false, 0x00000000#32⟩,
  ⟨0x4103, [(4096, 2), (4, 128)], 0x00000000#32, [], false, false, 0x00000000#32⟩,
  ⟨0x4300, [(4096, 2), (1, 4)], 0x00000000#32, [], false, false, 0x00000000#32⟩,
  ⟨0x4304, [(4096, 2), (1, 4)], 0x00000000#32, [], false, false, 0x00000000#32⟩,
  ⟨0x4400, [(4096, 2), (18, 128), (1, 18)], 0xFFFFFFFF#32, [], false, false, 0x00000000#32⟩,
  ⟨0x4d00, [(4096, 2), (2, 128)], 0x00000000#32, [], false, false, 0x00000000#32⟩,
  ⟨0x4d01, [(4096, 2), (2, 128)], 0x00000000#32, [], false, false, 0x00000000#32⟩,
  ⟨0xc00, [], 0x00000000#32, [], false, false, 0x00000000#32⟩,
  ⟨0xc01, [], 0x00000000#32, [], false, false, 0x00000000#32⟩,
  ⟨0xc02, [], 0x00000000#32, [], false, false, 0x00000000#32⟩,
  ⟨0xc04, [], 0x00000000#32, [], false, false, 0x00000000#32⟩,
  ⟨0xc03, [], 0x00000000#32, [], false, false, 0x00000000#32⟩,
  ⟨0xc05, [], 0x00000000#32, [], false, false, 0x00000000#32⟩,
  ⟨0xc06, [], 0x00000000#32, [⟨0, 8⟩, ⟨8, 1⟩, ⟨9, 7⟩, ⟨16, 3⟩, ⟨19, 1⟩], false, false, 0x00000000#32⟩,
  ⟨0xc07, [], 0x00000000#32, [], false, false, 0x00000000#32⟩,
  ⟨0xc40, [(1, 32)], 0x00000000#32, [⟨0, 13⟩, ⟨13, 1⟩, ⟨14, 4⟩, ⟨18, 8⟩], false, false, 0x00000000#32⟩,
  ⟨0xc80, [(1, 8)], 0x00000000#32, [], false, true, 0x00000000#32⟩,
  ⟨0xc88, [(1, 8)], 0x00000000#32, [], false, true, 0x00000000#32⟩,
  ⟨0xd00, [(1, 256)], 0x00000000#32, [⟨0, 7⟩, ⟨7, 13⟩, ⟨20, 4⟩, ⟨24, 1⟩, ⟨25, 7⟩], false, false, 0x00000000#32⟩,
  ⟨0xe00, [(1, 256)], 0x00000000#32, [⟨0, 4⟩, ⟨4, 12⟩, ⟨16, 5⟩], false, false, 0x00000000#32⟩,
  ⟨0xf00, [(1, 256)], 0x00000000#32, [], false, true, 0x00000000#32⟩,
  ⟨0x4e00, [(4096, 2), (1, 256)], 0x00000000#32, [⟨0, 6⟩, ⟨6, 2⟩, ⟨8, 7⟩, ⟨16, 6⟩, ⟨22, 3⟩], false, false, 0x00000000#32⟩,
  ⟨0x4f00, [(4096, 2), (1, 64)], 0x00000000#32, [⟨0, 10⟩, ⟨10, 1⟩], false, false, 0x00000000#32⟩,
  ⟨0x4f40, [(4096, 2)], 0x00000000#32, [⟨0, 1⟩], false, false, 0x00000000#32⟩,
  ⟨0x4f41, [(4096, 2)], 0x00000000#32, [], false, false, 0x00000000#32⟩,
  ⟨0xf000, [], 0x00000000#32, [⟨0, 1⟩, ⟨1, 1⟩, ⟨2, 1⟩, ⟨4, 8⟩, ⟨12, 8⟩, ⟨20, 8⟩, ⟨28, 3⟩], false, false, 0x001A03C0#32⟩,
  ⟨0xf001, [], 0x00000000#32, [⟨0, 7⟩, ⟨8, 8⟩, ⟨16, 11⟩, ⟨28, 4⟩], false, false, 0xF4001432#32⟩]

/-- Rows of the map, PNL_UCOEF to CFG_XOFF. -/
def regRows7 : List RegRow := [
  ⟨0xf002, [], 0x00000000#32, [⟨0, 16⟩], false, false, 0x00000000#32⟩,
  ⟨0xf003, [], 0x00000000#32, [⟨0, 5⟩, ⟨8, 5⟩, ⟨16, 5⟩], false, false, 0x00000000#32⟩,
  ⟨0xf004, [(1, 8)], 0x00000000#32, [⟨0, 16⟩, ⟨16, 9⟩], false, false, 0x00000000#32⟩,
  ⟨0xf00c, [(1, 8)], 0x00000000#32, [⟨0, 8⟩, ⟨8, 8⟩], false, false, 0x00000000#32⟩,
  ⟨0xf014, [(1, 16)], 0x00000000#32, [⟨0, 12⟩], false, false, 0x00000000#32⟩,
  ⟨0xf024, [(1, 16)], 0x00000000#32, [⟨0, 8⟩], false, false, 0x00000000#32⟩,
  ⟨0xf034, [], 0x00000000#32, [⟨0, 4⟩, ⟨4, 12⟩, ⟨16, 4⟩], false, false, 0x000F0000#32⟩,
  ⟨0xf035, [], 0x00000000#32, [⟨0, 10⟩, ⟨10, 6⟩], false, false, 0x00000000#32⟩,
  ⟨0xf040, [], 0x00000000#32, [], false, true, 0x00000000#32⟩,
  ⟨0xf041, [], 0x00000000#32, [], false, true, 0x00000000#32⟩,
  ⟨0xf044, [], 0x00000000#32, [], false, true, 0x00000000#32⟩,
  ⟨0xf042, [], 0x00000000#32, [], false, false, 0x00000000#32⟩,
  ⟨0xf043, [], 0x00000000#32, [], false, false, 0x000007FF#32⟩,
  ⟨0xf045, [], 0x00000000#32, [], false, true, 0x00000101#32⟩,
  ⟨0xf080, [], 0x00000000#32, [], false, false, 0x00000000#32⟩,
  ⟨0xf081, [], 0x00000000#32, [], false, false, 0x00000000#32⟩,
  ⟨0xf400, [(1, 512)], 0x00000000#32, [⟨0, 11⟩, ⟨11, 1⟩], false, false, 0x00000000#32⟩,
  ⟨0xf800, [(1, 2048)], 0xFFFFFFFF#32, [], false, false, 0x00000000#32⟩,
  ⟨0x800, [], 0x00000000#32, [], false, false, 0x00000003#32⟩,
  ⟨0x801, [], 0x00000000#32, [], false, false, 0x00000000#32⟩,
  ⟨0x802, [], 0x00000000#32, [], false, false, 0x00000000#32⟩,
  ⟨0x804, [], 0x00000000#32, [], false, false, 0x00000000#32⟩,
  ⟨0x803, [], 0x00000000#32, [], false, false, 0x00000000#32⟩,
  ⟨0x808, [(2, 4)], 0x00000000#32, [], false, false, 0x00000000#32⟩,
  ⟨0x809, [(2, 4)], 0x00000000#32, [], false, false, 0x00000000#32⟩,
  ⟨0x810, [], 0x00000000#32, [], false, false, 0x00000000#32⟩,
  ⟨0x818, [(1, 8)], 0x00000000#32, [], false, false, 0x00000000#32⟩,
  ⟨0x820, [], 0x00000000#32, [], false, false, 0x00000000#32⟩,
  ⟨0x821, [], 0x00000000#32, [], false, false, 0x00000000#32⟩,
  ⟨0x822, [], 0x003FFFFF#32, [], false, false, 0x00000000#32⟩]

/-- Rows of the map, CFG_XST to MEM_SIGLO. -/
def regRows8 : List RegRow := [
  ⟨0x823, [], 0x00000000#32, [], false, false, 0x00000000#32⟩,
  ⟨0x824, [(1, 2)], 0x00000000#32, [], false, false, 0x00000000#32⟩,
  ⟨0x840, [(1, 64)], 0xFFFFFFFF#32, [], false, false, 0x00000000#32⟩,
  ⟨0x880, [], 0x000001FF#32, [], true, false, 0x00000000#32⟩,
  ⟨0x884, [(1, 4)], 0x00000000#32, [], true, false, 0x00000000#32⟩,
  ⟨0xc0040, [], 0x00000000#32, [], false, false, 0x00000000#32⟩,
  ⟨0xc0041, [], 0x00000000#32, [], false, false, 0x00000000#32⟩,
  ⟨0xc0042, [], 0x00000000#32, [], false, false, 0xFFFF0000#32⟩,
  ⟨0xc0043, [], 0x00000000#32, [], false, false, 0x00000000#32⟩,
  ⟨0xc0044, [], 0x00000000#32, [], false, false, 0x00000000#32⟩,
  ⟨0xc0045, [], 0x00000000#32, [], false, false, 0x00000000#32⟩,
  ⟨0xc0046, [], 0x00000000#32, [], false, false, 0x00000000#32⟩,
  ⟨0x400, [(1, 6)], 0x00000000#32, [], true, false, 0x00000000#32⟩,
  ⟨0x408, [(1, 6)], 0xFFFFFFFF#32, [], true, false, 0x00000000#32⟩,
  ⟨0x410, [], 0x00000000#32, [], true, false, 0x00000000#32⟩,
  ⟨0x420, [(1, 6)], 0xFFFFFFFF#32, [], false, false, 0x00000000#32⟩,
  ⟨0x428, [], 0x0000003F#32, [], false, false, 0x00000000#32⟩,
  ⟨0x429, [], 0x00000000#32, [], false, false, 0x00000000#32⟩,
  ⟨0xc0080, [], 0x00000000#32, [], false, false, 0x00000000#32⟩,
  ⟨0xc0081, [], 0x00000000#32, [], false, false, 0x00000000#32⟩,
  ⟨0xc0000, [], 0x00000000#32, [], false, false, 0x00009624#32⟩,
  ⟨0xc0001, [], 0x00000000#32, [], false, false, 0x00000000#32⟩,
  ⟨0x10000, [], 0x0000001F#32, [], false, false, 0x00000000#32⟩,
  ⟨0x10040, [(1, 32)], 0x0000000F#32, [⟨0, 4⟩], false, false, 0x00000000#32⟩,
  ⟨0x10080, [(1, 32)], 0x00000000#32, [], false, false, 0x00000000#32⟩,
  ⟨0x100c0, [], 0x00000000#32, [], false, false, 0x00000000#32⟩,
  ⟨0x100c1, [], 0x00000000#32, [], false, false, 0x00000000#32⟩,
  ⟨0x100c4, [], 0x00000000#32, [], false, false, 0x00000000#32⟩,
  ⟨0x100c5, [], 0x00000000#32, [], false, false, 0x00000000#32⟩,
  ⟨0x10100, [(2, 32)], 0x00000000#32, [], false, false, 0x00000000#32⟩]

/-- Rows of the map, MEM_SIGHI to CTRL_DHI. -/
def regRows9 : List RegRow := [
  ⟨0x10101, [(2, 32)], 0x00000000#32, [], false, false, 0x00000000#32⟩,
  ⟨0xc0c00, [], 0x00000000#32, [], false, false, 0x00000002#32⟩,
  ⟨0xc0c01, [], 0x00000000#32, [], false, false, 0x00000000#32⟩,
  ⟨0xc0c02, [], 0x00000000#32, [], false, false, 0x00000000#32⟩,
  ⟨0xc0c03, [], 0x00000000#32, [], false, false, 0x00000000#32⟩,
  ⟨0xc0c04, [], 0x00000000#32, [], false, false, 0x00000000#32⟩,
  ⟨0xc0c05, [], 0x00000000#32, [], false, false, 0x00000000#32⟩,
  ⟨0xc0c06, [], 0x00000000#32, [], false, false, 0x00000000#32⟩,
  ⟨0xc0400, [], 0x00000000#32, [], false, false, 0x00000000#32⟩,
  ⟨0xc0401, [], 0x00000000#32, [], false, false, 0x00000000#32⟩,
  ⟨0xc0402, [], 0x00000000#32, [], false, false, 0x00000000#32⟩,
  ⟨0xc0403, [], 0x00000000#32, [], false, false, 0x00000000#32⟩,
  ⟨0xc0404, [], 0x00000000#32, [], false, false, 0x00000000#32⟩,
  ⟨0xc0408, [], 0x00000000#32, [], false, false, 0x00000007#32⟩,
  ⟨0xc0410, [(1, 3)], 0x00000000#32, [], false, false, 0x00000003#32⟩,
  ⟨0xc0413, [(1, 11)], 0x00000000#32, [], false, false, 0x00000000#32⟩,
  ⟨0xc0440, [], 0x00000000#32, [⟨0, 12⟩, ⟨16, 12⟩], false, false, 0x000001D6#32⟩,
  ⟨0xc0441, [], 0x00000000#32, [⟨0, 22⟩], false, false, 0x00000000#32⟩,
  ⟨0xc0442, [], 0x00000000#32, [⟨0, 10⟩, ⟨10, 10⟩, ⟨20, 10⟩], false, false, 0x00000000#32⟩,
  ⟨0xc0443, [], 0x00000000#32, [⟨0, 11⟩, ⟨16, 8⟩, ⟨24, 8⟩], false, false, 0x003C0000#32⟩,
  ⟨0xc0444, [], 0x00000000#32, [], false, false, 0x00000000#32⟩,
  ⟨0xc0445, [], 0x00000000#32, [], false, false, 0x00000000#32⟩,
  ⟨0xc0446, [], 0x00000000#32, [], false, false, 0x00000000#32⟩,
  ⟨0xc0447, [], 0x00000000#32, [], false, false, 0x00000000#32⟩,
  ⟨0xc0448, [], 0x00000000#32, [], false, false, 0x00000000#32⟩,
  ⟨0xc0449, [], 0x00000000#32, [], false, false, 0x00000000#32⟩,
  ⟨0xc044a, [], 0x00000000#32, [], false, false, 0x00000000#32⟩,
  ⟨0xc044b, [], 0x00000000#32, [], false, false, 0x000001F4#32⟩,
  ⟨0xc021, [(64, 32), (4, 2)], 0x00000000#32, [⟨0, 32⟩], false, false, 0x00000000#32⟩,
  ⟨0xc022, [(64, 32), (4, 2)], 0x00000000#32, [⟨0, 32⟩], false, false, 0x00000000#32⟩]

/-- The register map. -/
def regRows : List RegRow :=
  regRows0 ++ regRows1 ++ regRows2 ++ regRows3 ++ regRows4 ++ regRows5 ++ regRows6 ++ regRows7 ++ regRows8 ++ regRows9

/-- Whether `d` is a sum of index × stride over the dims, each index below its count (outermost first). -/
def dimsHit : List (Nat × Nat) → Nat → Bool
  | [], d => d == 0
  | [(st, n)], d => d % st == 0 && decide (d / st < n)
  | (st, n) :: rest, d => (List.range n).any (fun i => decide (i * st ≤ d) && dimsHit rest (d - i * st))

/-- The largest key offset a row covers. -/
def dimsSpan : List (Nat × Nat) → Nat
  | [] => 0
  | (st, n) :: rest => (n - 1) * st + dimsSpan rest

/-- Whether the row defines the register of key `a`. -/
def RegRow.hit (r : RegRow) (a : Nat) : Bool :=
  Nat.ble r.base a && Nat.ble a (r.base + dimsSpan r.dims) && dimsHit r.dims (a - r.base)

/-- The row of the map that defines key `a`; none at an unassigned address (R48). -/
def regRow? (a : Nat) : Option RegRow := regRows.find? (fun r => r.hit a)

/-- The rows below key 0x8000 whose reset word is not zero. -/
def resetLow : List RegRow := [
  ⟨0x800, [], 0x00000000#32, [], false, false, 0x00000003#32⟩,
  ⟨0x2680, [(1, 96)], 0x00000000#32, [], false, true, 0x00000200#32⟩,
  ⟨0x3044, [(8, 24)], 0x00000000#32, [], false, false, 0x00010000#32⟩,
  ⟨0x3046, [(8, 24)], 0x00000000#32, [], false, true, 0x00000200#32⟩,
  ⟨0x3100, [(64, 24)], 0x00000000#32, [⟨0, 5⟩, ⟨5, 1⟩, ⟨6, 2⟩, ⟨8, 6⟩, ⟨14, 6⟩, ⟨20, 1⟩, ⟨21, 6⟩], false, false, 0x00005C05#32⟩,
  ⟨0x3106, [(64, 24)], 0x00000000#32, [], false, true, 0xFFFFFF00#32⟩,
  ⟨0x4000, [(4096, 2)], 0x00000000#32, [⟨0, 1⟩, ⟨1, 2⟩, ⟨3, 3⟩, ⟨6, 1⟩, ⟨8, 7⟩, ⟨16, 7⟩], false, false, 0x00465000#32⟩,
  ⟨0x6000, [], 0x00000000#32, [⟨0, 6⟩], false, false, 0x0000001E#32⟩,
  ⟨0x6042, [], 0x00000000#32, [⟨0, 10⟩, ⟨16, 9⟩], false, false, 0x0000001E#32⟩,
  ⟨0x6080, [], 0x00000000#32, [⟨0, 3⟩, ⟨4, 10⟩, ⟨16, 4⟩], false, false, 0x000012C1#32⟩,
  ⟨0x6084, [(1, 4)], 0x00000000#32, [⟨0, 16⟩, ⟨16, 1⟩, ⟨17, 10⟩], false, false, 0x00780000#32⟩,
  ⟨0x6099, [], 0x00000000#32, [⟨0, 1⟩, ⟨1, 5⟩, ⟨6, 9⟩, ⟨16, 16⟩], false, false, 0x00000F1E#32⟩]

/-- The rows from key 0xC000 up whose reset word is not zero; between the two every register resets to zero. -/
def resetHigh : List RegRow := [
  ⟨0xc000, [(64, 32)], 0x00000000#32, [⟨0, 4⟩, ⟨4, 1⟩, ⟨5, 14⟩, ⟨19, 1⟩, ⟨20, 1⟩, ⟨21, 1⟩, ⟨22, 2⟩, ⟨24, 1⟩, ⟨25, 1⟩], false, false, 0x00000020#32⟩,
  ⟨0xc020, [(64, 32), (4, 2)], 0x00000000#32, [⟨0, 2⟩, ⟨2, 5⟩, ⟨7, 1⟩, ⟨8, 10⟩, ⟨18, 10⟩], false, false, 0x00000A00#32⟩,
  ⟨0xe000, [], 0x00000000#32, [⟨0, 7⟩, ⟨8, 16⟩], false, false, 0x00000032#32⟩,
  ⟨0xf000, [], 0x00000000#32, [⟨0, 1⟩, ⟨1, 1⟩, ⟨2, 1⟩, ⟨4, 8⟩, ⟨12, 8⟩, ⟨20, 8⟩, ⟨28, 3⟩], false, false, 0x001A03C0#32⟩,
  ⟨0xf001, [], 0x00000000#32, [⟨0, 7⟩, ⟨8, 8⟩, ⟨16, 11⟩, ⟨28, 4⟩], false, false, 0xF4001432#32⟩,
  ⟨0xf034, [], 0x00000000#32, [⟨0, 4⟩, ⟨4, 12⟩, ⟨16, 4⟩], false, false, 0x000F0000#32⟩,
  ⟨0xf043, [], 0x00000000#32, [], false, false, 0x000007FF#32⟩,
  ⟨0xf045, [], 0x00000000#32, [], false, true, 0x00000101#32⟩,
  ⟨0xc0000, [], 0x00000000#32, [], false, false, 0x00009624#32⟩,
  ⟨0xc0042, [], 0x00000000#32, [], false, false, 0xFFFF0000#32⟩,
  ⟨0xc0408, [], 0x00000000#32, [], false, false, 0x00000007#32⟩,
  ⟨0xc0410, [(1, 3)], 0x00000000#32, [], false, false, 0x00000003#32⟩,
  ⟨0xc0440, [], 0x00000000#32, [⟨0, 12⟩, ⟨16, 12⟩], false, false, 0x000001D6#32⟩,
  ⟨0xc0443, [], 0x00000000#32, [⟨0, 11⟩, ⟨16, 8⟩, ⟨24, 8⟩], false, false, 0x003C0000#32⟩,
  ⟨0xc044b, [], 0x00000000#32, [], false, false, 0x000001F4#32⟩,
  ⟨0xc0802, [], 0x00000000#32, [], false, false, 0x00000001#32⟩,
  ⟨0xc0c00, [], 0x00000000#32, [], false, false, 0x00000002#32⟩]

/-- The word a register holds at the release of the reset of its domain (R18). -/
def resetWord (a : Nat) : Word :=
  match (if a < 0x8000 then resetLow else if a < 0xC000 then [] else resetHigh).find? (fun r => r.hit a) with
  | some r => r.reset
  | none => 0#32

end Sys2Proof.Machine
end

