-- ==== Sys2Proof/Machine/Trie.lean ====
section
/-! DEFINITION. Sparse maps from numbers to values, in one canonical form: a binary trie that branches on the
key's bits from the least significant bit up and holds no empty branch, so that equal maps are equal data. -/

namespace Sys2Proof.Machine

/-- A sparse map. `nil` holds nothing, `val` holds the one value of a key whose bits are used up. -/
inductive Trie (α : Type) where
  | nil
  | val (a : α)
  | node (l r : Trie α)
  deriving DecidableEq, Repr

/-- The inner node of two branches; two empty branches make an empty map. -/
def Trie.mk {α : Type} : Trie α → Trie α → Trie α
  | .nil, .nil => .nil
  | l, r => .node l r

/-- The branch of even keys. -/
def Trie.left {α : Type} : Trie α → Trie α
  | .node l _ => l
  | _ => .nil

/-- The branch of odd keys. -/
def Trie.right {α : Type} : Trie α → Trie α
  | .node _ r => r
  | _ => .nil

/-- What a map of depth `d` holds at key `k`. -/
def Trie.get {α : Type} : Nat → Trie α → Nat → Option α
  | _, .nil, _ => none
  | 0, .val a, _ => some a
  | 0, .node _ _, _ => none
  | _ + 1, .val _, _ => none
  | d + 1, .node l r, k => if k % 2 = 0 then Trie.get d l (k / 2) else Trie.get d r (k / 2)

/-- A map of depth `d` with key `k` holding `v`, or nothing. -/
def Trie.set {α : Type} : Nat → Trie α → Nat → Option α → Trie α
  | 0, _, _, some a => .val a
  | 0, _, _, none => .nil
  | d + 1, t, k, v =>
    if k % 2 = 0 then Trie.mk (Trie.set d t.left (k / 2) v) t.right
    else Trie.mk t.left (Trie.set d t.right (k / 2) v)

/-- The canonical form: values stand only at depth 0 and no inner node has two empty branches. -/
def Trie.wf {α : Type} : Nat → Trie α → Bool
  | _, .nil => true
  | 0, .val _ => true
  | 0, .node _ _ => false
  | _ + 1, .val _ => false
  | d + 1, .node l r =>
    Trie.wf d l && Trie.wf d r &&
      (match l, r with
       | .nil, .nil => false
       | _, _ => true)

/-- The least key that holds a value with `p`, in a map whose keys go on from `pre` at bit `b`. -/
def Trie.least {α : Type} (p : Nat → α → Bool) : Trie α → Nat → Nat → Option Nat
  | .nil, _, _ => none
  | .val a, _, pre => if p pre a then some pre else none
  | .node l r, b, pre =>
    match Trie.least p l (b + 1) pre, Trie.least p r (b + 1) (pre + 2 ^ b) with
    | some i, some j => some (min i j)
    | some i, none => some i
    | none, y => y

/-- A table of hidden working state: keys of 12 bits; a key that holds nothing reads as `dflt`. -/
def Trie.at {α : Type} (t : Trie α) (dflt : α) (k : Nat) : α := (Trie.get 12 t k).getD dflt

/-- A table with the entry of `k` replaced; storing the default removes the entry (canonical form). -/
def Trie.upd {α : Type} [DecidableEq α] (t : Trie α) (dflt : α) (k : Nat) (v : α) : Trie α :=
  Trie.set 12 t k (if v = dflt then none else some v)

end Sys2Proof.Machine
end

