-- ==== Sys2Proof/Machine/Regs.lean ====
section
/-! DEFINITION. Register files: the words of a block of registers, each reading as its reset word until it is
changed (R18). Storing the reset word again leaves no entry, so equal register files are equal data. -/

namespace Sys2Proof.Machine

/-- The words of registers that differ from their reset words, by key (20 bits: every lane block and every
module-shared block has its registers below key 2 ^ 20). -/
abbrev RegFile := Trie Word

/-- The word at key `a`. -/
def RegFile.rd (r : RegFile) (a : Nat) : Word := (Trie.get 20 r a).getD (resetWord a)

/-- The file with the word at key `a` replaced. -/
def RegFile.wr (r : RegFile) (a : Nat) (w : Word) : RegFile :=
  Trie.set 20 r a (if w = resetWord a then none else some w)

/-- The number in a field of the register at key `a`. -/
def RegFile.fld (r : RegFile) (a : Nat) (f : Fld) : Nat := f.get (RegFile.rd r a)

/-- The file with one field replaced. -/
def RegFile.setF (r : RegFile) (a : Nat) (f : Fld) (v : Nat) : RegFile := RegFile.wr r a (f.put v (RegFile.rd r a))

end Sys2Proof.Machine
end

