-- ==== Sys2Proof/Machine/State.lean ====
section
/-! DEFINITION. The state of the node: plain data. Registers are held by key in register files; what the spec
describes beside its registers is held in the structures of this file. -/

namespace Sys2Proof.Machine

/-! ### Records and commands in flight -/

/-- A recorder record (R344). SEQ is given at admission (R349); the bytes and the STAMP are formed by `recBytes`. -/
structure Rec where
  code : Nat
  cls : Nat
  time : Nat
  p0 : Word := 0#32
  p1 : Word := 0#32
  p2 : Word := 0#32
  p3 : Word := 0#32
  solo : Bool := false
  unsync : Bool := false
  hold : Bool := false
  seq : Nat := 0
  deriving DecidableEq, Repr

/-- A record formed in an epoch with its place in the release order: group of R352 (0: formed before the epoch, R531) and rank within it. -/
structure Formed where
  grp : Nat
  rank : Nat
  r : Rec
  deriving DecidableEq, Repr

/-- A write that waits for its effect boundary (R41, R42): register key, value, acceptance time, the boundary at
which it takes effect, and whether CNP sent it (the host port goes first at equal times). -/
structure PendWrite where
  key : Nat
  val : Word
  acc : Nat
  eff : Nat
  cnp : Bool
  refused : Bool := false
  deriving DecidableEq, Repr

/-- A command of the alarm engine (R151–R155): opcode, target, origin code, acceptance time, effect boundary, the
status it was given on arrival (0 while it is queued), its number among the writes of ALM_CMD (0 for other origins),
the sequence byte of a station command, and the address of the station that waits for a CMD_RESP. -/
structure AlmCmd where
  op : Nat
  tgt : Nat
  origin : Nat
  acc : Nat := 0
  eff : Nat := 0
  status : Nat := 0
  wid : Nat := 0
  sseq : Nat := 0
  raddr : Nat := 0
  deriving DecidableEq, Repr

/-! ### Analogue inputs -/

/-- A tile word on its way (R57, R99): channel, path, word instant, modulator code, gain as log2, over range,
positive over range, marks, stale, the excitation phase of an RTD conversion, the front-end settings it was made under and
the number of changes of excitation before it (R85). -/
structure TWord where
  ch : Nat
  path : Path
  w : Nat
  code : BitVec 24
  gain : Nat
  ovr : Bool
  inj : Bool
  rangeTr : Bool
  stale : Bool
  phase : Nat
  front : Word := 0#32
  gen : Nat := 0
  deriving DecidableEq, Repr

/-- The result of a reference-injection check as a tile sends it on both links (R107): the path, whether it passed,
and the trims off and gt. -/
structure InjRes where
  ch : Nat
  path : Path
  pass : Bool
  off : Word
  gt : Word
  deriving DecidableEq, Repr

/-- The front end of a channel in its tile. `front`, `rate`: the settings and the word rate in force, which follow the lanes'
registers at a word instant (R84); `due`: such a change waits, `excDue`: it changes the excitation, `force`: it restarts the
chains whatever differs (a command of R88); `gen`: changes of the excitation made so far. `settle`: words still to come until the
first settled one; `rngPos`: the
next act of a running range change (0 step 1, 1–2 words of the first path, 3 step 2, 4–5 words of the second, 6 end,
7 waiting for a check, R109); `downRun`: word instants in a row that call for a change down; the runs of R72 and R75;
`hard`: the newest restart was not an excitation swap; `injA`, `injB`: the checks of each path whose marks still run, newest
first, from their start to their end (R108). -/
structure ChanHw where
  front : Word := 0#32
  rate : Nat := 0
  due : Bool := false
  excDue : Bool := false
  force : Bool := false
  gen : Nat := 0
  started : Bool := false
  lastW : Nat := 0
  settle : Nat := 0
  hard : Bool := false
  excBusy : Bool := false
  rngRun : Bool := false
  rngPos : Nat := 0
  rngUp : Bool := false
  downRun : Nat := 0
  opnRun : Nat := 0
  clsRun : Nat := 0
  satRun : Nat := 0
  unsatRun : Nat := 0
  tripAt : Nat := 0
  retry : Bool := false
  injA : List (Nat × Nat) := []
  injB : List (Nat × Nat) := []
  deriving DecidableEq, Repr

/-- A tile: whether the lanes have loaded its channel settings (R56), its running injection check (channel, path,
start, and whether 15 aborts in a row protect it, R109), the place in its order of paths it takes next (2 × channel of the tile + path, R104), words queued on each
tile link, the runs of valid frames before a link is up, the instant of the newest valid frame of each link, and the
runs, newest plausible temperature and newest word instant of its reference-junction sensor (R78, R79). -/
structure TileHw where
  loaded : Bool := false
  chk : Bool := false
  chkCh : Nat := 0
  chkPath : Path := .A
  chkAt : Nat := 0
  chkHeld : Bool := false
  injNext : Nat := 0
  qA : List TWord := []
  qB : List TWord := []
  runA : Nat := 0
  runB : Nat := 0
  lastA : Nat := 0
  lastB : Nat := 0
  cjcBad : Nat := 0
  cjcGood : Nat := 0
  cjcPrev : Option Word := none
  cjcAt : Nat := 0
  deriving DecidableEq, Repr

/-- What both lanes hold of a channel besides its registers: the trims of both paths (none: the production values,
R130), a trim that waits for the first word not marked INJ, vt of the newest conversions of each phase with the number of
changes of the excitation before them (R85), and the path whose passing check ended most recently (R99). -/
structure ChanWork where
  trimA : Option (Word × Word) := none
  trimB : Option (Word × Word) := none
  newA : Option (Word × Word) := none
  newB : Option (Word × Word) := none
  vA0 : Option (Nat × Word) := none
  vA1 : Option (Nat × Word) := none
  vB0 : Option (Nat × Word) := none
  vB1 : Option (Nat × Word) := none
  latest : Option Path := none
  deriving DecidableEq, Repr

/-! ### Alarm points and engineer call -/

/-- Working state of a point: the rate window-start value w (R138), whether the point read 1.0 as a KIND 0x7 source
at the end of the previous alarm scan (R133), and the test value its records carry (R149). -/
structure PtWork where
  w : Word := 0#32
  on : Bool := false
  x : Word := 0#32
  deriving DecidableEq, Repr

/-- The alarm and call engines. `stage`: how far the alarm scan of the running epoch has come (0 due, 1 commands
applied, 2 points, 3 groups, 4 rules, 5 first-out, 6 chatter, 7 flood, 8 summaries, 9 done or none due); commands that
await an alarm scan, the call engine's own commands for the next scan, the points that activated, those that entered ACT_UNACK
and those silenced in this scan, commands for the call step with their place in the order of R152, the next place in that order and the
commands taken in step 1 of the running scan (R152, R155), the number of ALM_CMD writes,
and the end of frame of the newest STN_STAT of each station (R183). -/
structure AlmWork where
  stage : Nat := 9
  queue : List AlmCmd := []
  callCmds : List AlmCmd := []
  acts : List Nat := []
  unack : List Nat := []
  sil : List Nat := []
  callQ : List (Nat × AlmCmd) := []
  place : Nat := 0
  taken : Nat := 0
  wseq : Nat := 0
  staT : List (Nat × Nat) := []
  resp : List AlmCmd := []
  deriving DecidableEq, Repr

/-- A ring frame taken for the lanes' cuts (R182, R183): type code, source address, payload and end of frame. -/
structure RingRx where
  type : Nat
  src : Nat
  data : List Byte
  eof : Nat
  deriving DecidableEq, Repr

/-! ### Control loops -/

/-- A command accepted for a loop and pending until its next period start (R239). -/
structure LoopCmd where
  op : Nat
  arg : Nat
  val : Word
  deriving DecidableEq, Repr

/-- The state of a control loop (R224, R227) besides its registers: filters, error and output of the previous
period, local setpoint, the destination values in force and those computed for the next period, its commands, whether the notch
states are to be initialised (R238), the set a pending swap leads to, and whether the period of the running epoch has
been evaluated. -/
structure LoopWork where
  init : Bool := false
  x1 : Word := 0#32
  x2 : Word := 0#32
  y1 : Word := 0#32
  y2 : Word := 0#32
  f : Word := 0#32
  xp : Word := 0#32
  d : Word := 0#32
  e : Word := 0#32
  lsp : Word := 0#32
  vNow0 : Word := 0#32
  vNow1 : Word := 0#32
  vNew0 : Word := 0#32
  vNew1 : Word := 0#32
  cmds : List LoopCmd := []
  notchNew : Bool := false
  swapTo : Nat := 0
  done : Bool := false
  deriving DecidableEq, Repr

/-- A time-proportioned output (R236): whether a cycle has begun since firing, and the boundary at which the
on-time of the running cycle ends. -/
structure TpWork where
  begun : Bool := false
  offAt : Nat := 0
  on : Bool := false
  doneAt : Nat := 0
  deriving DecidableEq, Repr

/-! ### Loop outputs and HART -/

/-- A loop output in a lane: SET_MA value in force (R270), the boundary until which comparison is suspended (R263), the
applied code it was last compared with, the boundary of a mode takeover (R268), whether DEVCNT has reached 20 and DEV is
still to change, the newest check result for the coming cut (R262), and the code and off flag formed for the next
boundary (R251). -/
structure AoWork where
  setMa : Option Word := none
  suspUntil : Nat := 0
  last : Nat := 0
  takeover : Option Nat := none
  devDue : Bool := false
  chk : Option Bool := none
  code : Nat := 0
  off : Bool := true
  deriving DecidableEq, Repr

/-- A loop output in the stage: COMPL, TWARN, TOFF, TLATCH, the newest switch-off, the switch-offs of the running 60 s
window and its number (R260), whether it has cooled (R259), and the newest readback sample in mA. -/
structure AoHw where
  compl : Bool := false
  twarn : Bool := false
  toff : Bool := false
  tlatch : Bool := false
  toffAt : Nat := 0
  winTof : Nat := 0
  win : Nat := 0
  cool : Bool := false
  rb : Word := 0#32
  deriving DecidableEq, Repr

/-- A running HART transaction (R273–R276): the request bytes from the delimiter to the check byte, whether it is a
poll, repetitions left, whether the request is on the line or its response is awaited (otherwise it waits to start
again), the end of its check byte, and whether its start was deferred. -/
structure HartTx where
  req : List Byte
  poll : Bool
  left : Nat
  live : Bool
  endAt : Nat
  deferred : Bool
  deriving DecidableEq, Repr

/-- HART of a channel: the running transaction, the queued host transaction, whether a poll is due (and the boundary of
the newest due one), the end of the newest carrier, whether the queued host transaction and the due poll have been counted in DEFER,
polls in a row that did not end DONE, and the boundary of the newest poll update (R278). -/
structure HartWork where
  cur : Option HartTx := none
  hostQ : Option (List Byte) := none
  pollDue : Bool := false
  pollAt : Nat := 0
  quietFrom : Nat := 0
  defHost : Bool := false
  defPoll : Bool := false
  badPolls : Nat := 0
  ageFrom : Nat := 0
  deriving DecidableEq, Repr

/-- A HART frame received in the stage (R274): channel, preamble characters, bytes from the delimiter on, whether
every character had correct parity, and the end of its last character. -/
structure HartRx where
  ch : Nat
  pre : Nat
  data : List Byte
  parity : Bool
  eof : Nat
  deriving DecidableEq, Repr

/-! ### Digital inputs and outputs -/

/-- A digital input in the stage (R285–R288): level at the threshold detector, the level before the crossings that bear the newest
stamp, debounced state, the sample instant at which the debounced state is taken without an edge (R286), the stamp of the newest
crossing, the number of the sample that began the run of the other level (in units of 100 µs of global time), and GLITCH. -/
structure DiHw where
  raw : Bool := false
  was : Bool := false
  deb : Bool := false
  initAt : Option Nat := none
  crossAt : Nat := 0
  run : Option Nat := none
  glitch : Nat := 0
  deriving DecidableEq, Repr

/-- A digital output in the stage: current limit and thermal shutdown (R298), the level at its terminal above GNDF in 10 mV per
count, the samples since the newest change of the applied state (R299, up to 3), whether the newest compared sample disagreed and
how many in a row have gone that way (up to 30), and the samples since LOW was set (R302, up to 1000). -/
structure DoHw where
  limit : Bool := false
  shut : Bool := false
  v : Int := 0
  age : Nat := 3
  bad : Bool := false
  cnt : Nat := 0
  lowN : Nat := 0
  deriving DecidableEq, Repr

/-- A bank of the stage: VFk in 10 mV per count; how many samples in a row have shown it below 19.2 V, at or above 19.7 V, below
16.0 V and at or above 17.0 V (R303); its samples of the epoch, for their mean (R311); the samples for which FLT has stood (R301);
and outputs that wait for the next epoch boundary after undervoltage (R304). -/
structure BankHw where
  vf : Nat := 0
  nWarn : Nat := 0
  nOk : Nat := 0
  nLow : Nat := 0
  nGood : Nat := 0
  sum : Nat := 0
  cnt : Nat := 0
  fltN : Nat := 0
  waits : Bool := false
  deriving DecidableEq, Repr

/-- A qualified edge on its way to the lanes (R287). -/
structure DiEdge where
  n : Nat
  level : Bool
  qual : Nat
  raw : Nat
  deriving DecidableEq, Repr

/-! ### CAN, global time and CNP -/

/-- A frame report in a lane's cut (R374, R375): the report, start-of-frame and end-of-frame instants, and TEC and REC of the controller
with output authority after the frame (R393). -/
structure CanIn where
  rep : FrameRep
  sof : Nat
  eof : Nat
  tec : Nat := 0
  rxc : Nat := 0
  deriving DecidableEq, Repr

/-- Bit-rate detection of the frame unit (R381): the step (0 none, 1 nominal rates, 2 data rates, 3 found), the rate
code under trial, the instant the trial began, frames with BRS tried at it, the nominal rate found, and the start of the frame that
decided. -/
structure Detect where
  step : Nat := 0
  rate : Nat := 0
  since : Nat := 0
  frames : Nat := 0
  nrate : Nat := 0
  sof : Nat := 0
  deriving DecidableEq, Repr

/-- The frame unit of a bus (R374): detection, the transmission on the bus and the lane whose controller sends it, slots started in the running epoch
(buffer and start), a completed bus-off recovery that enters the coming cut, whether the reference of the running epoch has been sent,
when a register response started last, TEC and REC of the controller with output authority (R393), and the buffers whose request has
ended in the running epoch (R390). -/
structure CanHw where
  det : Detect := {}
  sending : Option TxWho := none
  sender : Option LaneId := none
  started : List (Nat × Nat) := []
  recov : Bool := false
  refDone : Bool := false
  respAt : Option Nat := none
  tec : Nat := 0
  rxc : Nat := 0
  ended : List Nat := []
  deriving DecidableEq, Repr

/-- A message the node itself forms for a bus (0 event message, 1 register response, 2 beacon): identifier, data, and
for an event message the word it carries; and whether it has been sent, its report waiting for the cut. -/
structure OwnFrame where
  kind : Nat
  id : Nat
  data : List Byte
  word : Nat := 0
  sent : Bool := false
  deriving DecidableEq, Repr

/-- Working state of a bus in a lane besides its registers: the reports of the coming cut, frames held for locked
buffers (R387), whether the controller waits for 11 recessive bits (R381), quiet lone-error windows in a row, a lone error
in the running window and the newest window dealt with (R397, R399), a transmission to be cancelled (R404), the slots of
the running epoch and those staged for the next (buffer, start and end of the window in µs; start 0 where the window began in the
epoch before), basic cycles since the newest valid reference (R414), the reference staged for the running epoch (R411),
the frames the node forms itself, the number of event messages formed for the bus (R553), and the buffers whose pending
transmission has failed before and is repeated (R390). -/
structure CanWork where
  cut : List CanIn := []
  pend : List (Nat × CanIn) := []
  normalDue : Bool := false
  quiet : Nat := 0
  winLone : Bool := false
  winAt : Nat := 0
  cancel : Option Nat := none
  slots : List (Nat × Nat × Nat) := []
  staged : List (Nat × Nat × Nat) := []
  own : List OwnFrame := []
  refAge : Nat := 2
  refStaged : Option CanFrame := none
  msgs : Nat := 0
  tried : List Nat := []
  deriving DecidableEq, Repr

/-- Discipline of global time (R414–R417) besides the registers: prev_valid, e_prev, whether a reference has been used
since firing, basic cycles in a row without a source, and a step that waits for the next boundary. -/
structure TimeWork where
  prevValid : Bool := false
  ePrev : Int := 0
  everUsed : Bool := false
  noSrc : Nat := 0
  step : Option Int := none
  deriving DecidableEq, Repr

/-- Global time of a lane beyond the newest epoch boundary (R407, R408): how far it was past the boundary at the core clock tick that found
it reached, in 2⁻³² ns; CORR in force; and the core clock ticks that the epoch before lasted. -/
structure LaneClk where
  fine : Nat := 0
  corr : Word := 0#32
  ticks : Nat := 0
  deriving DecidableEq, Repr

/-- A remote value slot (R429): end of frame, N, quality bit and value of the newest frame used, and the newest arrival
of the object on each bus. -/
structure SlotWork where
  eof : Option Nat := none
  n : Nat := 0
  bad : Bool := false
  arr1 : Option Nat := none
  arr2 : Option Nat := none
  deriving DecidableEq, Repr

/-! ### Panel -/

/-- Accounts of a pixel row (R447, R449): N(p) in nC, the residue and L(p) of its pixels; an empty list reads as
zeros. -/
structure PixRow where
  n : List Nat := []
  res : List Nat := []
  age : List Nat := []
  deriving DecidableEq, Repr

/-- A drive frame (R445): its frame start, whether emission is on, the column current, the VCOL set-point, t_on of every pixel
and t_rev of every row. -/
structure DriveFrame where
  start : Nat
  scan : Bool
  lit : Bool
  frate : Nat
  ewf : Nat
  iCol : Nat
  vsp : Nat
  ton : List (List Nat)
  trev : List Nat
  deriving DecidableEq, Repr

/-- The content of the start record (R508). -/
structure SRec where
  seq : Nat := 0
  fails : Nat := 0
  phase : Nat := 0
  pref : Nat := 0
  reason : Nat := 0
  pflags : Nat := 0
  vneg : Nat := 0
  vcol : Nat := 0
  frate : Nat := 0
  ewf : Nat := 0
  rratio : Nat := 0
  icodeH : Nat := 0
  aomode : Nat := 0
  deriving DecidableEq, Repr

/-- The panel engine of a lane beside its registers: accounts by row, render frame and host shown frame (words of 8
pixels), glyphs (0–255) and list texts (256 + k) of the frame bank, the boundary of the newest activation of a point, the band whose current the next frame still uses (R454), runs of temperature words, the newest SET_DIM, the drive
frame formed for the next epoch, the end of the newest crazing measurement, whether the stage has reported both rails
discharged, the cause of the running sequence, the boundary of the newest advance of the page timer, the page shown and their
number (R468), the rail of the newest rail fault (0 VNEG, 1 VCOL), and the bisque drive set where it runs the engine (R462). -/
structure PnlWork where
  rows : Trie PixRow := .nil
  render : Trie Word := .nil
  shown : Trie Word := .nil
  txt : Trie (List Byte) := .nil
  actAt : Trie Nat := .nil
  lag : Option Nat := none
  ntcOut : Nat := 0
  ntcIn : Nat := 0
  dimCmd : Option Nat := none
  frame : Option DriveFrame := none
  crzAt : Option Nat := none
  down : Bool := false
  cause : Nat := 0
  pageAt : Nat := 0
  page : Nat := 1
  pages : Nat := 1
  badRail : Nat := 0
  drv : Option SRec := none
  wrote : List Nat := []
  deriving DecidableEq, Repr

/-- The rails of the drive stage (R458, R459): falling, first VCOL goes down, then VNEG. -/
inductive RailSeq where
  | off | rising | up | fallCol | fallNeg
  deriving DecidableEq, Repr

/-- The drive stage: the rails with the instant of the step of R458 or R459 they stand at, the series switch of the external VCOL
(R441), a fault on which the stage has acted by itself (R460), the drive frame that waits for its start, and the frame it applies. -/
structure PnlHw where
  rails : RailSeq := .off
  stepAt : Nat := 0
  switch : Bool := false
  fault : Bool := false
  next : Option DriveFrame := none
  cur : Option DriveFrame := none
  deriving DecidableEq, Repr

/-- What the drive stage reports into a cut: a temperature in 0.1 °C, a crazing measurement in ohms with its end, a rail
fault (0 VNEG, 1 VCOL) with the voltage in 0.1 V, a change of VCOL_DEV, both rails discharged. -/
structure PnlCut where
  ntc : Option (BitVec 16) := none
  crz : Option (Nat × Nat) := none
  rail : Option (Nat × Nat) := none
  vdev : Option Bool := none
  down : Bool := false
  deriving DecidableEq, Repr


/-! ### Image store, firing and start -/

/-- An entry of a wedging report (R490): section, kind (1 clamp, 2 warning, 3 reject), byte address and least significant
bit of the field, and words 2 and 3. -/
structure RepEntry where
  typ : Nat
  region : Nat
  kind : Nat
  addr : Nat
  bit : Nat
  given : Word
  used : Word
  deriving DecidableEq, Repr

/-- A firing result (R492): the slot (3 none), the IMAGE_ID and BUILD, and the report. -/
structure FireRes where
  slot : Nat
  id : Word
  build : Word
  ents : List RepEntry
  ok : Bool
  repl : List (Nat × Nat)
  deriving DecidableEq, Repr

/-- A patch checked and wedged in a lane (R497): accepted, its section, the reject code, the report, and the region's
registers with their values, or the bytes of the table section. -/
structure PatchRes where
  ok : Bool
  typ : Nat
  region : Nat
  code : Nat
  ents : List RepEntry
  regs : List (Nat × Word)
  table : List Byte
  deriving DecidableEq, Repr

/-- A partial firing that runs or waits (R497, R498): buffer, m once it runs, whether the record of step 3 has been formed,
and the lane's own result once its wedging has ended. -/
structure PFire where
  buf : Nat
  m : Nat
  said : Bool := false
  res : Option PatchRes := none
  deriving DecidableEq, Repr

/-- Firing of a lane beside its registers: its result of the running start, whether it has fired a second time, the slots it
has rejected with their codes and places, the stored report, the partial firings, pages programmed since XOPEN, the
targets whose closing checks run, oldest first, the page offset of the newest XREAD, and the sections of the image in force. -/
structure FireWork where
  res : Option FireRes := none
  again : Bool := false
  rejs : List (Nat × RepEntry) := []
  report : List RepEntry := []
  pf : List PFire := []
  pages : List Nat := []
  closing : List Nat := []
  rdOff : Nat := 0
  sects : List (Nat × Nat) := []
  deriving DecidableEq, Repr

/-- The steps of a node between resets (R511, R518, R530): held in reset, the start sequence before and after the
strap sample and after step 3, the wait of R512, the two boundaries of steps 8 and 9, running, bisque mode, and a restart that
drains the recorder. -/
inductive Phase where
  | reset | released | strapped | evaluated | fired | waiting | authority | running | bisque | draining
  deriving DecidableEq, Repr

/-- The start logic in HOUSE and the always-on domains: the phase, the instants of reset release and of the boundary at
which RUNNING was reached or bisque mode entered, the start record in force, the content being written and whether another write
follows, the fuses, the CAUSE latched for the next reset, a supervisor or commanded reset that waits for the
next boundary, whether LIT or a trip since the newest record write is still to be written, the strap levels, the
slots' reject codes at the newest firing, the running copy of the aging ledger (copy, counts) and whether one is due, a
running state transfer (its start), whether the SHADOW lane holds the state of the coming boundary complete, the pages of the
running round that have still to be sent and those written since they were sent, whether the unit states have been sent, and whether
epoch deltas run (R516), the next reset's cause, and the
start of the wait of R512, until when a supervisor reset lasts and whether global time is to start at 0 (R504, R505), whether the write of R510 that is due 60 s after RUNNING has been made in this start, the boundary at
which the write that runs fell due (R510), and the records formed before the first epoch (R531). -/
structure StartHw where
  phase : Phase := .reset
  relAt : Int := 0
  runAt : Nat := 0
  srec : SRec := {}
  writing : Option SRec := none
  again : Bool := false
  key : Option (List Byte) := none
  authReq : Bool := false
  straps : Nat := 0x7FFF
  rstAt : Option Nat := none
  rstn : Bool := false
  rejA : Nat := 0
  rejB : Nat := 0
  aging : Option (Nat × List Nat) := none
  agingDue : Bool := false
  agingAt : Nat := 0
  stx : Option Nat := none
  stxDone : Bool := false
  stxLeft : List Nat := []
  stxNew : List Nat := []
  stxUnits : Bool := false
  stxDelta : Bool := false
  resetDue : Option Nat := none
  cause : Nat := 1
  waitAt : Nat := 0
  supEnd : Nat := 0
  zero : Bool := true
  stable : Bool := false
  putAt : Option Nat := none
  early : List Rec := []
  deriving DecidableEq, Repr



/-! ### Supplies, ledger, banks and test logic -/

/-- Supervision in HOUSE beside its registers: the instant VSYS_LOST was set, the instant of the newest fault of each
domain, the faults of each in the running 60 s window and the number of that window, whether the trip of R633 has occurred, and whether a flush for a loss of VSYS
has begun (R607). -/
structure PwrHw where
  lossAt : Nat := 0
  faultAt : Trie Nat := .nil
  faults : Trie Nat := .nil
  win : Nat := 0
  tripped : Bool := false
  flushed : Bool := false
  deriving DecidableEq, Repr

/-- The ledger of a lane beside its registers: the remainders of R621 in µJ, the sums of p and PDISS over the running window
with their number, PAVG formed since firing, over_cnt, the boundary at which EMG entered the cut, whether the signal
of R634 has been raised for this setting of EMG, p_meas and PAVG, and whether planning of the running epoch is due. -/
structure LedWork where
  acc : Nat := 0
  acce : Nat := 0
  sumP : Nat := 0
  sumD : Nat := 0
  num : Nat := 0
  avg : Bool := false
  overCnt : Nat := 0
  emgAt : Option Nat := none
  sig : Bool := false
  pm : Nat := 0
  pavg : Nat := 0
  due : Bool := false
  deriving DecidableEq, Repr

/-- The banks of a lane beside their registers and contents: words (8,192 × bank + word) corrected by the scrubber in the
running pass and in the one before, words of HOST and NONE banks that hold an uncorrectable error, the bank of
a parity error of the scrubber that is to be repeated, the start of the running pass, and the bank that this lane's view
shows in its windows (R580). -/
structure MemWork where
  hits : List Nat := []
  prev : List Nat := []
  bad : List Nat := []
  again : Option Nat := none
  passAt : Nat := 0
  sel : Nat := 0
  deriving DecidableEq, Repr

/-- The states of the test access port controller (IEEE 1149.1). -/
inductive TapSt where
  | reset | idle | selDr | capDr | shDr | ex1Dr | pauDr | ex2Dr | upDr | selIr | capIr | shIr | ex1Ir | pauIr | ex2Ir | upIr
  deriving DecidableEq, Repr

/-- The test logic (R661–R664): the controller, the instruction in force and the instruction shift register, the data
shift register, the boundary-scan update latches, the level of TCK, and TDO (none: high impedance). -/
structure Tap where
  st : TapSt := .reset
  instr : BitVec 5 := 2#5
  ir : BitVec 5 := 0#5
  dr : List Bool := []
  latch : List Bool := []
  tck : Bool := false
  tdo : Option Bool := none
  deriving DecidableEq, Repr

/-! ### Lanes -/

/-- The states of a lane (R312). -/
inductive LaneSt where
  | off | firing | shadow | active | adjudicating | retired | bisque
  deriving DecidableEq, Repr

/-- A channel whose agreement rule phase 3 has not run yet: its word instants of the cut in order, and its words (R99). -/
structure LateChan where
  ch : Nat
  at_ : List Nat
  words : List TWord
  deriving DecidableEq, Repr

/-- What has reached a lane for its coming input cuts (R32): tile words, check results, qualified edges, ring
frames, HART frames, panel reports, and the
common events and the records that the data of the cut raise; `late`: the channels of the cut of the running epoch that the
agreement rule isolates or restores, until phase 3 comes to them. -/
structure Cut where
  words : List TWord := []
  inj : List InjRes := []
  edges : List DiEdge := []
  dof : List Word := []
  ring : List RingRx := []
  hart : List HartRx := []
  pnl : PnlCut := {}
  ev : BitVec 192 := 0#192
  recs : List Rec := []
  late : List LateChan := []
  deriving DecidableEq, Repr

/-- What the shard window that is running has dropped of a class (R357): count, code and TIME of the first record, TIME of
the last. -/
structure DropWin where
  cls : Nat
  count : Nat
  code : Nat
  first : Nat
  last : Nat
  deriving DecidableEq, Repr

/-- A commit in progress (R359, R360): the words of the record, its slot, and whether it is the repetition on the same slot. -/
structure Commit where
  words : List Word
  slot : Nat
  again : Bool
  deriving DecidableEq, Repr

/-- The recorder of a lane beside its registers: the staging FIFO and the overflow queue behind it, the commit in
progress, void slots in a row and the slot of the newest read-back failure, the drops, the largest F and the admitted
records of the running shard window (R355, R357), a loss still to be recorded (R356), the start of the freeze in force,
the boundary of the newest window end dealt with, a load of the read window in progress (R367), the records committed in this
store and, as confirmed, in the other one (R27), the records committed while the other store was not committing, and the copy under
way (R363): next slot, records copied, first sequence number, slots written in the receiving store since it began;
and a power-loss flush that is due in the running epoch: its cause and EU (R366). -/
structure RecWork where
  staging : List Rec := []
  spill : List Rec := []
  com : Option Commit := none
  voidRun : Nat := 0
  failSlot : Nat := 0
  drops : List DropWin := []
  winMax : Nat := 0
  winAdm : Nat := 0
  lossDue : Bool := false
  frzAt : Nat := 0
  winAt : Nat := 0
  loading : Bool := false
  done : Nat := 0
  peerDone : Nat := 0
  missed : List (List Word) := []
  mirAt : Nat := 0
  mirN : Nat := 0
  mirSeq : Nat := 0
  mirNew : Nat := 0
  flushDue : Option (Nat × Nat) := none
  deriving DecidableEq, Repr

/-- A digest packet (R319): epoch count, the unit named by INCOMPLETE, the digest and its sub-digests. -/
structure DigPkt where
  epoch : Nat
  inc : Option Nat
  dig : BitVec 64
  subs : List Word
  deriving DecidableEq, Repr

/-- The receiving end of the Feben link of a lane (R316, R317): consecutive valid IDLE packets while retraining, an entry for
each failed attempt of a packet that has not come through yet (its priority in R316, 8 IDLE), the digest packet delivered for the running epoch, the tile words and accepted
writes on their way to the other lane, and the writes accepted while the link was lost, which stay in this lane alone (R544). -/
structure LinkWork where
  idleRun : Nat := 0
  tries : List Nat := []
  pkt : Option DigPkt := none
  fwd : List TWord := []
  wfwd : List PendWrite := []
  kept : List PendWrite := []
  deriving DecidableEq, Repr

/-- Adjudication and catch-up of a lane: its fault of R321 with the unit it was found in, a unit that has not delivered
(R320), the digest of the newest epoch it closed, the verdict and cause bits delivered to the arbiter (verdict 0 none),
the epochs still to run in catch-up, whether its cuts hold its own path only (R331), the boundary n of the adjudication,
words P2 and P3 of the switch-over record that is due, the epochs held so far, whether it became SHADOW by an adjudication (R314), and whether HOUSE takes it as having delivered nothing for the
running epoch (R593). -/
structure AdjWork where
  pre : Option Nat := none
  inc : Option Nat := none
  own : Option DigPkt := none
  verdict : Nat := 0
  cause : Nat := 0
  catchUp : Nat := 0
  ownPath : Bool := false
  bnd : Nat := 0
  sw : Option (Word × Word) := none
  held : Nat := 0
  fromAdj : Bool := false
  mute : Bool := false
  deriving DecidableEq, Repr

/-! ### The call ring -/

/-- A ring frame as it stands on the pair (R198): header, LEN, payload and CRC, and whether its Manchester coding is violated. -/
structure RingFrame where
  hdr : BitVec 16
  len : Byte
  data : List Byte
  crc : BitVec 16
  viol : Bool := false
  deriving DecidableEq, Repr

/-- A frame the node has sent on the ring, the port it went out of, and the instant its end delimiter went out. -/
structure RingTx where
  frame : RingFrame
  port : Port
  at_ : Nat
  deriving DecidableEq, Repr

/-- The ring ports (R202–R211) beside their registers: instants of the newest TOKEN, of the newest valid frame on each
port, of the newest CALL sent and of RING_DIS taking effect; writes of RING_DIS with the boundary at which they take
effect (R49); the frame that has not returned yet; the newest frame
sent; PROBE frames in a row and CLOSED seen for each lost port; instants of the newest PROBE sent on each port; the links of OPEN frames without
their CLOSED with their instants; the newest frame repeated with the port it leaves by (R207); OPEN and CLOSED frames that wait for
the end of a hold (R205); CALL and CMD_RESP frames that wait for a token visit, the payload last
sent and its sequence number. -/
structure RingHw where
  tokAt : Nat := 0
  visitAt : Nat := 0
  lastA : Nat := 0
  lastB : Nat := 0
  callAt : Nat := 0
  disAt : Option Nat := none
  disNew : List (Nat × Bool) := []
  sent : Option RingTx := none
  lastTx : Option RingTx := none
  probesA : Nat := 0
  probesB : Nat := 0
  closedA : Bool := false
  closedB : Bool := false
  probeAtA : Nat := 0
  probeAtB : Nat := 0
  opens : List ((Nat × Nat) × Nat) := []
  rep : Option (Port × RingFrame) := none
  owed : List (Nat × List Byte × Port) := []
  callPay : List Byte := []
  callSent : List Byte := []
  callDue : Bool := false
  callSeq : Nat := 0
  resp : List AlmCmd := []
  deriving DecidableEq, Repr

/-! ### The whole state -/

/-- A lane (R5, R312): its registers as they stand (`regs`), the values R44 shows of epoch results (`shown`), the
registers at the end of the previous epoch (`endRegs`, R217), the shared registers as the cut holds them (`hw`, R32), the working state of its units, the writes that wait for
their effect boundary, the records and events of the running epoch (R352, R549), the sources whose
pending bits have been set since the newest boundary began (R15), the common sources raised by the newest released epoch with its
opening boundary (R553), and its bank memory (unlisted bytes
0). -/
structure Lane where
  id : LaneId
  st : LaneSt := .off
  instep : Bool := false
  regs : RegFile := .nil
  shown : RegFile := .nil
  endRegs : RegFile := .nil
  hw : RegFile := .nil
  cut : Cut := {}
  chans : Trie ChanWork := .nil
  pts : Trie PtWork := .nil
  alm : AlmWork := {}
  loops : Trie LoopWork := .nil
  tps : Trie TpWork := .nil
  aos : Trie AoWork := .nil
  aoLost : Bool := true
  harts : Trie HartWork := .nil
  dioUp : Bool := false
  doVal : Word := 0#32
  doSet : Word := 0#32
  cans : Trie CanWork := .nil
  lockHost : Option (Nat × Nat × Nat) := none
  lockCnp : Option (Nat × Nat × Nat) := none
  time : TimeWork := {}
  clk : LaneClk := {}
  slots : Trie SlotWork := .nil
  doNext : Word := 0#32
  writes : List PendWrite := []
  formed : List Formed := []
  raised : BitVec 192 := 0#192
  evAt : BitVec 192 := 0#192
  evPrev : BitVec 192 := 0#192
  evPrevAt : Nat := 0
  link : LinkWork := {}
  adj : AdjWork := {}
  rcd : RecWork := {}
  pnl : PnlWork := {}
  fire : FireWork := {}
  led : LedWork := {}
  mw : MemWork := {}
  store : Trie (List Word) := .nil
  storeBack : Bool := false
  peerStoreFail : Bool := false
  mem : List Host.Cell := []
  deriving DecidableEq, Repr

/-- What the node has once: the newest epoch boundary in ns, the grade of the module (1 CN9624-F, 2 CN9624-D; production data), output authority, whether the arbiter holds outputs
(R24), bisque mode (R518), the registers of the module-shared blocks and of the shared stages, and the working state
of the stages; `lossSig`: the power-loss signal with its cause (R633); `nor`: the image store (R474);
`sel`: the bank the alias shows in its windows (R580); `wqEnd`: the instant at which the write queue will have drained (R544); `hpOut`: the bytes the node drives in the newest host port frame (R536); `free`: the model's own counter of free values drawn (log 23). -/
structure Shared where
  gt : Nat := 0
  grade : Nat := 1
  auth : Option LaneId := none
  hold : Bool := false
  bisque : Bool := false
  regs : RegFile := .nil
  chans : Trie ChanHw := .nil
  tiles : Trie TileHw := .nil
  injAt : Option Nat := none
  aos : Trie AoHw := .nil
  aoutOn : Option Nat := none
  dis : Trie DiHw := .nil
  dos : Trie DoHw := .nil
  banks : Trie BankHw := .nil
  doRel : Word := 0#32
  doLive : Bool := false
  dioAt : Nat := 0
  markLost : Bool := false
  markGap : Nat := 0
  cans : Trie CanHw := .nil
  lossSig : Option Nat := none
  pnl : PnlHw := {}
  nor : Trie (List Byte) := .nil
  start : StartHw := {}
  pwr : PwrHw := {}
  sel : Nat := 0
  wqEnd : Nat := 0
  hpOut : List Byte := []
  free : Nat := 0
  tap : Tap := {}
  ring : RingHw := {}
  deriving DecidableEq, Repr

/-- What the cut of the epoch after a mismatch holds until the outcome is known (R322, R329): the shared part as the cut
holds it, what was observed at its boundary, and what had reached each lane. -/
structure Snap where
  sh : Shared
  obs : Obs
  a : Cut
  b : Cut
  deriving DecidableEq, Repr

/-- The machine: both lanes, the shared part, the kept cut of an epoch that waits for the outcome of an adjudication, and
the commands that wait, first in, first out. -/
structure State where
  a : Lane
  b : Lane
  sh : Shared
  snap : Option Snap := none
  pending : List Instr
  deriving DecidableEq, Repr

/-- Why a step could stop with a fault. No command of this block stops with one. -/
inductive Fault where
  /-- Raised by no meaning: every row of the table has an effect or leaves the state as it is (safe). -/
  | unreachable
  deriving DecidableEq, Repr

/-- Why a command could be refused. -/
inductive Refusal where
  /-- Raised by `exec` for a command without a meaning (safe). -/
  | notModelled (mnemonic : String)
  deriving DecidableEq, Repr

/-- The node at power-on reset, before the start sequence has taken any step. -/
def State.reset : State := { a := { id := .A }, b := { id := .B }, sh := {}, pending := [] }

end Sys2Proof.Machine
end

