-- ==== Sys2Proof/Machine/Ops.lean ====
section
/-! DEFINITION. The named operations that every unit shares: registers of a lane and of the shared stages, events,
records, common command registers, and the lanes that compute. -/

namespace Sys2Proof.Machine

/-- What a meaning answers. -/
abbrev Res := Host.Outcome State Fault Refusal

/-! ### Registers of a lane -/

/-- The word of a register of the lane. -/
def Lane.rd (l : Lane) (k : Nat) : Word := RegFile.rd l.regs k
/-- A field of a register of the lane. -/
def Lane.fld (l : Lane) (k : Nat) (f : Fld) : Nat := RegFile.fld l.regs k f
/-- A one-bit field of a register of the lane. -/
def Lane.on (l : Lane) (k : Nat) (f : Fld) : Bool := Lane.fld l k f != 0
/-- The lane with a register replaced. -/
def Lane.wr (l : Lane) (k : Nat) (w : Word) : Lane := { l with regs := RegFile.wr l.regs k w }
/-- The lane with a field replaced. -/
def Lane.setF (l : Lane) (k : Nat) (f : Fld) (v : Nat) : Lane := { l with regs := RegFile.setF l.regs k f v }
/-- The lane with a one-bit field set or cleared. -/
def Lane.setB (l : Lane) (k : Nat) (f : Fld) (v : Bool) : Lane := Lane.setF l k f v.toNat
/-- The lane with a counter field counted up by `n`, saturating at the largest value of the field. -/
def Lane.bump (l : Lane) (k : Nat) (f : Fld) (n : Nat := 1) : Lane :=
  Lane.setF l k f (min (2 ^ f.width - 1) (Lane.fld l k f + n))
/-- The lane with a counter field counted up, wrapping at the width of the field. -/
def Lane.wrap (l : Lane) (k : Nat) (f : Fld) (n : Nat := 1) : Lane := Lane.setF l k f (Lane.fld l k f + n)

/-- The word of a shared register as the lane's cut holds it. -/
def Lane.hwRd (l : Lane) (k : Nat) : Word := RegFile.rd l.hw k
/-- A one-bit field of a shared register as the lane's cut holds it. -/
def Lane.hwOn (l : Lane) (k : Nat) (f : Fld) : Bool := RegFile.fld l.hw k f != 0
/-- A field of a shared register as the lane's cut holds it. -/
def Lane.hwFld (l : Lane) (k : Nat) (f : Fld) : Nat := RegFile.fld l.hw k f

/-! ### Registers that exist once: module-shared blocks and the status of the shared stages -/

/-- The word of a shared register. -/
def Shared.rd (h : Shared) (k : Nat) : Word := RegFile.rd h.regs k
/-- A field of a shared register. -/
def Shared.fld (h : Shared) (k : Nat) (f : Fld) : Nat := RegFile.fld h.regs k f
/-- A one-bit field of a shared register. -/
def Shared.on (h : Shared) (k : Nat) (f : Fld) : Bool := Shared.fld h k f != 0
/-- The shared part with a register replaced. -/
def Shared.wr (h : Shared) (k : Nat) (w : Word) : Shared := { h with regs := RegFile.wr h.regs k w }
/-- The shared part with a field replaced. -/
def Shared.setF (h : Shared) (k : Nat) (f : Fld) (v : Nat) : Shared := { h with regs := RegFile.setF h.regs k f v }
/-- The shared part with a one-bit field set or cleared. -/
def Shared.setB (h : Shared) (k : Nat) (f : Fld) (v : Bool) : Shared := Shared.setF h k f v.toNat
/-- The shared part with a counter field counted up, saturating. -/
def Shared.bump (h : Shared) (k : Nat) (f : Fld) (n : Nat := 1) : Shared :=
  Shared.setF h k f (min (2 ^ f.width - 1) (Shared.fld h k f + n))

/-! ### Lanes -/

/-- The code of a lane state (R312). -/
def LaneSt.code : LaneSt → Nat
  | .off => 0 | .firing => 1 | .shadow => 2 | .active => 3 | .adjudicating => 4 | .retired => 5 | .bisque => 6

/-- A lane of the node. -/
def State.lane (s : State) : LaneId → Lane
  | .A => s.a
  | .B => s.b
/-- The node with a lane replaced. -/
def State.setLane (s : State) (i : LaneId) (l : Lane) : State :=
  match i with
  | .A => { s with a := l }
  | .B => { s with b := l }
/-- The node with one lane changed. -/
def State.upd (s : State) (i : LaneId) (f : Lane → Lane) : State := s.setLane i (f (s.lane i))
/-- The node with its shared part changed. -/
def State.updSh (s : State) (f : Shared → Shared) : State := { s with sh := f s.sh }

/-- The node with its shared part replaced. -/
def State.withSh (s : State) (h : Shared) : State := { s with sh := h }

/-- The lane computes epochs: it is ACTIVE, or SHADOW with INSTEP set (R312, R313). -/
def Lane.computes (l : Lane) : Bool := l.st == .active || (l.st == .shadow && l.instep)
/-- The lane takes the data of input cuts: it computes, or waits for the outcome of an adjudication (R322, R329). -/
def Lane.takes (l : Lane) : Bool := Lane.computes l || l.st == .adjudicating
/-- The lane has been fired and has not been retired. -/
def Lane.serves (l : Lane) : Bool := l.st == .active || l.st == .shadow || l.st == .adjudicating

/-- `f` on the lanes for which `p` holds. -/
def State.onLanes (p : Lane → Bool) (f : Lane → Lane) (s : State) : State :=
  { s with a := if p s.a then f s.a else s.a, b := if p s.b then f s.b else s.b }
/-- `f` in every lane that computes. -/
def State.both (s : State) (f : Lane → Lane) : State := State.onLanes Lane.computes f s
/-- `f` in every lane that takes the data of input cuts. -/
def State.taking (s : State) (f : Lane → Lane) : State := State.onLanes Lane.takes f s

/-- The lane whose settings the shared stages follow: the lane with output authority, or the one that is to receive it
from a retired lane (R325); with none, a lane that computes. -/
def State.lead (s : State) : Lane :=
  match s.sh.auth with
  | some i =>
    let st := (s.lane i).st
    if (st == .retired || st == .off) && (s.lane i.other).computes then s.lane i.other else s.lane i
  | none => if s.b.computes && !s.a.computes then s.b else s.a

/-- One lane is ACTIVE and the other is SHADOW with INSTEP set (R313). -/
def State.inStep (s : State) : Bool :=
  (s.a.st == .active && s.b.st == .shadow && s.b.instep) || (s.b.st == .active && s.a.st == .shadow && s.a.instep)

/-! ### Events (R546) -/

/-- The number of an event source: 32 × word + bit. -/
def evTileLink (t : Nat) : Nat := t
def evCjc (t : Nat) : Nat := 12 + t
def evSinglePath : Nat := 24
def evOpen : Nat := 25
def evExc : Nat := 26
def evShuntTrip : Nat := 27
def evInjFail : Nat := 28
def evSubst : Nat := 29
def evAinRefused : Nat := 30
def evViewRefused : Nat := 31
def evAoFault (n : Nat) : Nat := 32 + n
def evAoRefused : Nat := 56
def evLoopFault : Nat := 57
def evLoopMode : Nat := 58
def evCtrlRefused : Nat := 59
def evDioRefused : Nat := 60
def evMemCorr : Nat := 61
def evMemFault : Nat := 62
def evBankAccess : Nat := 63
def evAlarm : Nat := 64
def evAlmRefused : Nat := 65
def evInhibit : Nat := 66
def evFirstOut : Nat := 67
def evFlood : Nat := 68
def evStationAbsent : Nat := 69
def evCallState : Nat := 70
def evSafety : Nat := 71
def evRingFault : Nat := 72
def evActivation (prio : Nat) : Nat := 73 + prio
def evClock : Nat := 77
def evLaneState : Nat := 78
def evLink : Nat := 79
def evSysRefused : Nat := 80
def evShed : Nat := 81
def evRecLoss : Nat := 82
def evRecRefused : Nat := 83
def evTime : Nat := 84
def evPanel : Nat := 85
def evPanelRefused : Nat := 86
def evCfgRefused : Nat := 87
def evTransfer : Nat := 88
def evPartial : Nat := 89
def evSupply : Nat := 90
def evDomain : Nat := 91
def evLedger : Nat := 92
def evThermal : Nat := 93
def evHostFrame : Nat := 94
def evMerge : Nat := 95
def evCanRx (bus group : Nat) : Nat := 96 + 16 * bus + group
def evDoFault (n : Nat) : Nat := 128 + n
def evHart (n : Nat) : Nat := 160 + n
def evTxFail (bus : Nat) : Nat := 184 + 4 * bus
def evCollision (bus : Nat) : Nat := 185 + 4 * bus
def evCanState (bus : Nat) : Nat := 186 + 4 * bus
def evCanRefused (bus : Nat) : Nat := 187 + 4 * bus

/-- The mask of one event source. -/
def evBit (e : Nat) : BitVec 192 := 1#192 <<< e
/-- A common source raised by the work of the running epoch: pending with its release (R549). -/
def Lane.ev (l : Lane) (e : Nat) : Lane := { l with raised := l.raised ||| evBit e }
/-- A common source that the data of the coming cut raise. -/
def Lane.evCut (l : Lane) (e : Nat) : Lane := { l with cut := { l.cut with ev := l.cut.ev ||| evBit e } }
/-- A lane-local source: its pending bit is set at once (R549). -/
def Lane.evNow (l : Lane) (e : Nat) : Lane :=
  { l.wr (EVT_PEND (e / 32)) (l.rd (EVT_PEND (e / 32)) ||| (1#32 <<< (e % 32))) with evAt := l.evAt ||| evBit e }

/-! ### Records -/

/-- The source class of a record code (R347, R348). -/
def recClass (code : Nat) : Nat :=
  if code = 0x0702 then 0 else
  match code / 256 with
  | 0x01 | 0x02 | 0x03 => 6
  | 0x04 => 5
  | 0x05 => 4
  | 0x06 | 0x07 => 3
  | 0x09 | 0x0A => 1
  | 0x0B | 0x0E => 2
  | _ => 7

/-- The group of the release order a record belongs to (R352). -/
def recGroup (code : Nat) : Nat :=
  if code = 0x0802 then 1 else if code = 0x0702 then 5 else
  match code / 256 with
  | 0x05 => 2
  | 0x01 | 0x02 | 0x03 => 3
  | 0x06 | 0x07 => 4
  | 0x04 => 6
  | 0x09 | 0x0A => 7
  | 0x0B | 0x0E => 8
  | 0x00 => 10
  | _ => 9

/-- A record formed in the running epoch; `rank` orders it within its group, equal ranks stay in the order in which
they were formed (R346, R352). -/
def Lane.record (l : Lane) (code time : Nat) (p0 p1 p2 p3 : Word) (rank : Nat := 0) : Lane :=
  { l with formed := l.formed ++ [{ grp := recGroup code, rank := rank, r :=
      { code := code, cls := recClass code, time := time, p0 := p0, p1 := p1, p2 := p2, p3 := p3,
        solo := !l.instep, unsync := !l.on TIME_ST TIME_ST_SYNC, hold := l.adj.catchUp != 0 } }] }

/-- A record that the data of the coming cut produce. -/
def Lane.recCut (l : Lane) (code time : Nat) (p0 p1 p2 p3 : Word) : Lane :=
  let r : Rec := { code := code, cls := recClass code, time := time, p0 := p0, p1 := p1, p2 := p2, p3 := p3 }
  { l with cut := { l.cut with recs := l.cut.recs ++ [r] } }

/-- A number as a parameter word. -/
def w32 (n : Nat) : Word := BitVec.ofNat 32 n
/-- A truth value as a number. -/
def b2n (b : Bool) : Nat := b.toNat

/-! ### Command registers (R545) -/

/-- Outcomes of a command register. -/
def stDone : Nat := 0
def stBusy : Nat := 1
def stRefused : Nat := 2
def stInvalid : Nat := 3

/-! ### Lists -/

/-- The list with one value replaced at an index. -/
def setAt {α : Type} (xs : List α) (i : Nat) (v : α) : List α := xs.set i v

/-- Insertion before the first element that is greater by `key`; equal keys keep their order. -/
def insertBy {α : Type} (key : α → Nat) (x : α) : List α → List α
  | [] => [x]
  | y :: ys => if key x < key y then x :: y :: ys else y :: insertBy key x ys

/-- A stable sort by a number. -/
def sortBy {α : Type} (key : α → Nat) (xs : List α) : List α := xs.foldl (fun acc x => insertBy key x acc) []

/-- The numbers below `n`, in ascending order. -/
def upTo (n : Nat) : List Nat := List.range n

end Sys2Proof.Machine
end

