-- ==== Sys2Proof/Machine/Operands.lean ====
section
/-! DEFINITION. The sources that points, groups, loops, outputs and value frames read (R132, R217): one reading of
each source kind, and the diagnostic words of R134. -/

namespace Sys2Proof.Machine

/-- A one-bit value as binary32: 1.0 or 0.0. -/
def f01 (b : Bool) : F32 := if b then 0x3F800000#32 else 0#32

/-- Bit `i` of a word. -/
def bitOf (w : Word) (i : Nat) : Bool := w.getLsbD i
/-- The word of one bit. -/
def bit32 (b : Bool) (i : Nat) : Word := if b then (1#32 <<< i) else 0#32
/-- A field moved to bit `i`. -/
def atBit (v i : Nat) : Word := BitVec.ofNat 32 v <<< i

/-! ### Diagnostic words -/

/-- The lane's own status registers that diagnostic words hold (R341, R369, R403), kept beside the shared ones as the epoch
takes them. -/
def Lane.keepStatus (l : Lane) : Lane :=
  let ks := [SYS_STATE, SYS_ADJ, LINK_STAT, REC_STAT, CAN_STAT 0, CAN_ERRC 0, CAN_STAT 1, CAN_ERRC 1]
  { l with hw := ks.foldl (fun h k => RegFile.wr h k (l.rd k)) l.hw }


/-- Diagnostic word 324 of CAN: flags of both buses (R403). -/
def Lane.diagCan (l : Lane) : Word :=
  let s1 := l.hwRd (CAN_STAT 0)
  let s2 := l.hwRd (CAN_STAT 1)
  bit32 (CAN_STAT_COLL.on s1) 0 ||| bit32 (CAN_STAT_COLL.on s2) 1 ||| bit32 (CAN_STAT_ALONE.on s1) 2
    ||| bit32 (CAN_STAT_ALONE.on s2) 3 ||| bit32 (CAN_STAT_RESTR.on s1) 4 ||| bit32 (CAN_STAT_RESTR.on s2) 5
    ||| bit32 (CAN_STAT_ESTATE.get s1 == 2) 6 ||| bit32 (CAN_STAT_ESTATE.get s2 == 2) 7
    ||| bit32 (CAN_STAT_DETECT.on s1) 8 ||| bit32 (CAN_STAT_DETECT.on s2) 9

/-- Diagnostic word 329: call engine and safety timer (R212). -/
def Lane.diagCall (l : Lane) : Word :=
  let c := l.rd ALM_CALLST
  let d := l.fld ALM_DMST ALM_DMST_DMST
  let stage := ALM_CALLST_STAGE.get c
  bit32 (ALM_CALLST_CSTATE.get c == 1) 0 ||| bit32 (ALM_CALLST_CSTATE.get c == 2) 1 ||| bit32 (ALM_CALLST_EMERG.on c) 2
    ||| bit32 (d != 0) 3 ||| bit32 (d == 2) 4 ||| bit32 (d == 3) 5
    ||| bit32 (ALM_CALLST_CSTATE.get c == 1 && stage + 1 == l.fld ALM_CALLCFG ALM_CALLCFG_NSTG
        && ALM_CALLST_CCNT.get c == l.fld (ALM_STG stage) ALM_STG_STGT * 100) 6

/-- Diagnostic word 339: lane state (R341). -/
def Lane.diagLane (l : Lane) : Word :=
  let s := l.hwRd SYS_STATE
  bit32 (SYS_STATE_UNRES.on s) 0 ||| bit32 (SYS_STATE_PEER.get s == 5) 1 ||| bit32 (!SYS_STATE_INSTEP.on s) 2
    ||| bit32 (l.hwOn LINK_STAT LINK_STAT_LOST) 3 ||| bit32 (SYS_STATE_HOLD.on s) 4

/-- Diagnostic word 369: recorder (R369); bit 2 is kept with the lane's view of the other store. -/
def Lane.diagRec (l : Lane) : Word :=
  let s := l.hwRd REC_STAT
  bit32 (REC_STAT_LOSS.on s) 0 ||| bit32 (REC_STAT_STORE_FAIL.on s) 1 ||| bit32 l.peerStoreFail 2
    ||| bit32 (REC_STAT_MIRRORING.on s) 3 ||| bit32 (REC_STAT_FROZEN.on s) 4 ||| bit32 (REC_STAT_SHED.get s != 0) 5

/-- The diagnostic word `w` (R134). On a CN9624-D the words 376 to 378 hold the registers of the panel as they stand, at their Reset
words (log 29). -/
def Lane.diag (l : Lane) (w : Nat) : Word :=
  if w < 96 then l.hwRd (AIN_CHST w)
  else if w < 192 then l.rd (AIN_VFLG (w - 96))
  else if w < 204 then l.hwRd (AIN_TSTAT (w - 192))
  else if w < 256 then 0#32
  else if w < 280 then l.rd (AO_ST (w - 256))
  else if w < 312 then l.hwRd (DO_ST (w - 280))
  else if w < 316 then l.hwRd (DO_BST (w - 312))
  else if w < 320 then l.rd (DI_BST (w - 316))
  else match w with
    | 320 => l.hwRd (CAN_STAT 0)
    | 321 => l.hwRd (CAN_ERRC 0)
    | 322 => l.hwRd (CAN_STAT 1)
    | 323 => l.hwRd (CAN_ERRC 1)
    | 324 => l.diagCan
    | 328 => l.hwRd RING_STAT
    | 329 => l.diagCall
    | 330 => w32 (l.fld ALM_CALLED ALM_CALLED_PRESENT)
    | 336 => l.hwRd SYS_STATE
    | 337 => l.hwRd SYS_ADJ
    | 338 => l.hwRd LINK_STAT
    | 339 => l.diagLane
    | 352 => l.hwRd PWR_SUP
    | 353 => l.hwRd PWR_DOM
    | 354 => l.hwRd PWR_HOLD
    | 360 => l.rd PWR_LST
    | 361 => l.rd PWR_LPWR
    | 362 => l.rd PWR_LHOLD
    | 363 => l.rd PWR_LPAVG
    | 368 => l.hwRd REC_STAT
    | 369 => l.diagRec
    | 376 => l.rd PNL_ST
    | 377 => l.hwRd PNL_RAIL
    | 378 => l.hwRd PNL_CRZ
    | _ => 0#32

/-! ### Sources (R132) -/

/-- A word of the bits of 32 channels: bit `i` as 1.0 or 0.0. -/
def bitVal (w : Word) (i : Nat) : F32 := f01 (bitOf w (i % 32))

/-- The number of sources of a KIND (R132). -/
def sourceCount (kind : Nat) : Nat := [65536, 96, 32, 32, 24, 32, 32, 2048, 256, 384].getD kind 65536

/-- The value of a source and whether its quality is bad. `staleOk`: a STALE analogue value counts as good; `ptOn`:
how an alarm point reads (R133, R162). -/
def Lane.source (l : Lane) (ptOn : Nat → Bool) (staleOk : Bool) (kind idx sub : Nat) : F32 × Bool :=
  if sourceCount kind ≤ idx then (Config.noSource kind idx, Config.noSourceBad kind idx) else
  match kind with
  | 0x1 =>
    let f := l.rd (AIN_VFLG idx)
    (l.rd (AIN_VAL idx), AIN_VFLG_NOPATH.on f || AIN_VFLG_SUBST.on f || AIN_VFLG_OPEN.on f || (AIN_VFLG_STALE.on f && !staleOk))
  | 0x2 => (bitVal (l.rd DI_STATE) idx, false)
  | 0x3 => (bitVal (l.hwRd DO_RB) idx, false)
  | 0x4 => (l.rd (AO_RB idx), l.on (AO_ST idx) AO_ST_RB_INV)
  | 0x5 => (l.rd (CTRL_PV idx), l.on (CTRL_ST idx) CTRL_ST_PVBAD)
  | 0x6 => (l.rd (CTRL_OUT idx), l.on (CTRL_ST idx) CTRL_ST_PVBAD)
  | 0x7 => (f01 (ptOn idx), false)
  | 0x8 => (l.rd (CNP_RXVAL idx), !bitOf (l.rd (CNP_RXVLD (idx / 32))) (idx % 32))
  | 0x9 => (f01 (bitOf (l.diag idx) sub), false)
  | _ => (0#32, false)

end Sys2Proof.Machine
end

