-- ==== Sys2Proof/Machine/Flags.lean ====
section
/-! DEFINITION. Flag computations that several units share: the recorded flags of loop outputs with their event
(R265), and the change of DEV that a full DEVCNT calls for (R263). -/

namespace Sys2Proof.Machine

/-- The lane's working state of loop output `n`. -/
def Lane.ao (l : Lane) (n : Nat) : AoWork := l.aos.at {} n
def Lane.setAo (l : Lane) (n : Nat) (w : AoWork) : Lane := { l with aos := l.aos.upd {} n w }

/-- The applied code of loop output `n` as the cut holds it; 0 while it is off. -/
def Lane.aoCode (l : Lane) (n : Nat) : Nat :=
  if l.hwOn (AO_CODE n) AO_CODE_OFF then 0 else l.hwFld (AO_CODE n) AO_CODE_CODE

/-- The applied current of a code, code × 24 / 65,536 mA; exact in binary32 (R251). -/
def aoCurrent (code : Nat) : F32 := F32.ofRat (code * 3) 8192

/-- A flag of AO_STn takes value `v`; a change makes record 0x0601, a setting raises the AO-fault event (R265). -/
def Lane.aoFlag (l : Lane) (g n bit : Nat) (v : Bool) : Lane :=
  let f : Fld := ⟨bit, 1⟩
  if l.on (AO_ST n) f == v then l else
  let l := (l.setB (AO_ST n) f v).record 0x0601 g (w32 (n + 256 * bit + 65536 * b2n v)) (aoCurrent (l.aoCode n))
    (l.rd (AO_RB n)) 0#32 n
  if v then l.ev (evAoFault n) else l

/-- DEV changes where DEVCNT has reached 20 (R263). -/
def Lane.devChange (g : Nat) (l : Lane) (n : Nat) : Lane :=
  if (l.ao n).devDue then (l.aoFlag g n 1 (!l.on (AO_ST n) AO_ST_DEV)).setAo n { l.ao n with devDue := false } else l

/-- Every change of DEV that is due. -/
def Lane.devSweep (g : Nat) (l : Lane) : Lane := (upTo 24).foldl (Lane.devChange g) l

end Sys2Proof.Machine
end

