-- ==== Sys2Proof/Machine/Alarm.lean ====
section
/-! DEFINITION. The alarm engine (spec/04, spec/05): commands, points, group inhibits, consequence rules, first-out,
shelving, floods and summary outputs, in the order of one alarm scan (R145, R161). `g` is the opening boundary. -/

namespace Sys2Proof.Machine

def Lane.pt (l : Lane) (p : Nat) : PtWork := l.pts.at {} p
def Lane.setPt (l : Lane) (p : Nat) (x : PtWork) : Lane := { l with pts := l.pts.upd {} p x }
def Lane.setAlm (l : Lane) (f : AlmWork → AlmWork) : Lane := { l with alm := f l.alm }

/-! ### Alert states (R144) -/

def sNormal : Nat := 0
def sActUnack : Nat := 1
def sActSil : Nat := 2
def sActAck : Nat := 3
def sActRt : Nat := 4
def sRectUnack : Nat := 5

/-- The alert state of a point. -/
def Lane.ptState (l : Lane) (p : Nat) : Nat := l.fld (PT_ST p) PT_ST_STATE
def Lane.ptPrio (l : Lane) (p : Nat) : Nat := l.fld (PT_CFG p) PT_CFG_PRIO
def Lane.ptGroup (l : Lane) (p : Nat) : Nat := l.fld (PT_CFG p) PT_CFG_GROUP
def Lane.ptCond (l : Lane) (p : Nat) : Nat := l.fld (PT_CFG p) PT_CFG_COND
/-- A state in which a point is unacknowledged (R144). -/
def isUnack (st : Nat) : Bool := st == sActUnack || st == sActSil || st == sActRt || st == sRectUnack
/-- A state that a KIND 0x7 source reads as 1.0 (R132). -/
def isOn (st : Nat) : Bool := st == sActUnack || st == sActSil || st == sActAck || st == sActRt

/-- The place of a record in the order of an alarm scan: command `k` of step 1, point `p` of step 2, the steps of
R161, the call step (R352). -/
def rankCmd (k : Nat) : Nat := k
def rankPt (p : Nat) : Nat := 10000 + p
def rankGroup : Nat := 20000
def rankCall : Nat := 30000

/-- A transition of a point with its record (R146, R149, R350); an activation is noted for R169, R173 and R177. -/
def Lane.ptGo (l : Lane) (g p dst origin cause rank : Nat) : Lane :=
  let from_ := l.ptState p
  let act := (from_ = sNormal || from_ = sRectUnack) && (dst = sActUnack || dst = sActAck)
  let st := l.rd (PT_ST p)
  let st := PT_ST_STATE.put dst (PT_ST_SCNT.put 0 st)
  let l := (l.wr (PT_ST p) st).record 0x0100 g (w32 p) (w32 (from_ + 8 * dst + 64 * l.ptPrio p))
    (w32 (origin + 256 * cause)) (l.pt p).x rank
  let l := if act then l.setAlm (fun a => { a with acts := a.acts ++ [p] }) else l
  let l := if dst = sActUnack then l.setAlm (fun a => { a with unack := a.unack ++ [p] }) else l
  l.ev evAlarm

/-! ### Commands (R151–R155, R171) -/

/-- The last code of a command target, by opcode: none for an unknown opcode. -/
def almMaxTgt : Nat → Option Nat
  | 0x01 | 0x02 | 0x05 | 0x06 | 0x07 | 0x08 => some 2047
  | 0x03 | 0x09 => some 127
  | 0x04 | 0x20 | 0x22 | 0x23 | 0x24 => some 0
  | 0x21 => some 15
  | _ => none

/-- The command is INVALID (R155). -/
def almInvalid (op tgt : Nat) : Bool := match almMaxTgt op with
  | none => true
  | some m => m < tgt

/-- The origin may give the command (R153, R171, R192): every origin but a station may; a station needs its bit. -/
def Lane.almPermits (l : Lane) (op origin : Nat) : Bool :=
  if 16 ≤ origin then true else
  match op with
  | 0x01 | 0x03 | 0x09 => bitOf (w32 (l.fld ALM_AUTH ALM_AUTH_ACK_AUTH)) origin
  | 0x02 | 0x04 => bitOf (w32 (l.fld ALM_AUTH ALM_AUTH_SIL_AUTH)) origin
  | 0x07 | 0x08 => bitOf (w32 (l.fld ALM_SHELF_AUTH ALM_SHELF_AUTH_SHELF_AUTH)) origin
  | 0x20 => bitOf (w32 (l.fld ALM_CALLAUTH ALM_CALLAUTH_ACC_AUTH)) origin
  | 0x21 => bitOf (w32 (l.fld ALM_CALLAUTH ALM_CALLAUTH_DUTY_AUTH)) origin
  | 0x22 | 0x23 | 0x24 => bitOf (w32 (l.fld ALM_DMCFG ALM_DMCFG_DM_AUTH)) origin
  | _ => false

def stNotPermitted : Nat := 4

/-- The points for which `f` holds, in ascending order. -/
def Lane.pointsOf (l : Lane) (f : Lane → Nat → Bool) : List Nat := (upTo 2048).filter (fun p => l.ptCond p != 0 && f l p)

/-- The points that ACK_GROUP of a group acknowledges. -/
def ackable (grp : Nat) (l : Lane) (p : Nat) : Bool := l.ptGroup p == grp && isUnack (l.ptState p)
/-- The points that SILENCE_ALL silences. -/
def silenceable (l : Lane) (p : Nat) : Bool := l.ptState p == sActUnack

/-- A command of opcodes 0x01–0x09 is refused with STATE_REFUSED (R153, R171). -/
def Lane.almRefused (l : Lane) (op tgt : Nat) : Bool :=
  let st := l.ptState tgt
  match op with
  | 0x01 => st == sNormal || st == sActAck
  | 0x02 => st != sActUnack
  | 0x03 => (l.pointsOf (ackable tgt)).isEmpty
  | 0x04 => (l.pointsOf silenceable).isEmpty
  | 0x05 => !(st == sActUnack || st == sActSil) || l.ptPrio tgt == 0
  | 0x06 => st != sActRt
  | 0x07 => l.on (ALM_SHLV tgt) ALM_SHLV_SHELVED || l.ptPrio tgt == 0 || l.ptCond tgt == 0
      || l.fld ALM_SHELFST ALM_SHELFST_SHELVED == l.fld ALM_SHELFCFG ALM_SHELFCFG_SHELF_MAX
  | 0x08 => !l.on (ALM_SHLV tgt) ALM_SHLV_SHELVED
  | _ => !l.on (ALM_GRPDLY tgt) ALM_GRPDLY_FO_EN || l.on (ALM_GRPST tgt) ALM_GRPST_FO_ARMED

/-- One point acknowledged: RECT_UNACK goes NORMAL, the other unacknowledged states go ACT_ACK (R146). -/
def Lane.ackPoint (g origin rank : Nat) (l : Lane) (p : Nat) : Lane :=
  l.ptGo g p (if l.ptState p = sRectUnack then sNormal else sActAck) origin 1 rank
/-- One point silenced; its SCNT starts at 0 in this alarm scan (R146, R147). -/
def Lane.silPoint (g origin rank : Nat) (l : Lane) (p : Nat) : Lane :=
  (l.ptGo g p sActSil origin 1 rank).setAlm (fun a => { a with sil := a.sil ++ [p] })

/-- Shelving of a point ends: the bits clear and the counts fall (R172). DESIGN CHOICE (log 100): REMAIN becomes 0 however it
ends. -/
def Lane.shelfEnd (l : Lane) (p : Nat) : Lane :=
  let auto := l.on (ALM_SHLV p) ALM_SHLV_AUTO
  let w := ALM_SHLV_SHELVED.put 0 (ALM_SHLV_AUTO.put 0 (l.rd (ALM_SHLV p)))
  let l := l.wr (ALM_SHLV p) (ALM_SHLV_REMAIN.put 0 w)
  if auto then l.setF ALM_SHELFST ALM_SHELFST_AUTO (l.fld ALM_SHELFST ALM_SHELFST_AUTO - 1)
  else l.setF ALM_SHELFST ALM_SHELFST_SHELVED (l.fld ALM_SHELFST ALM_SHELFST_SHELVED - 1)
/-- Shelving ends by UNSHELVE or expiry, with one record (R172, R174). -/
def Lane.unshelve (l : Lane) (g p origin cause rank : Nat) : Lane :=
  (l.shelfEnd p).record 0x0205 g (w32 p) (w32 (origin + 256 * cause)) 0#32 0#32 rank

/-- Shelving begins for SHELFT × 6,000 alarm scans (R172–R174). -/
def Lane.shelve (l : Lane) (g p : Nat) (auto : Bool) (origin cause rank : Nat) : Lane :=
  let n := l.fld ALM_SHELFCFG ALM_SHELFCFG_SHELFT * 6000
  let w := ALM_SHLV_SHELVED.put 1 (ALM_SHLV_AUTO.put auto.toNat (l.rd (ALM_SHLV p)))
  let l := l.wr (ALM_SHLV p) (ALM_SHLV_REMAIN.put n w)
  let l := if auto then l.setF ALM_SHELFST ALM_SHELFST_AUTO (l.fld ALM_SHELFST ALM_SHELFST_AUTO + 1)
    else l.setF ALM_SHELFST ALM_SHELFST_SHELVED (l.fld ALM_SHELFST ALM_SHELFST_SHELVED + 1)
  l.record 0x0204 g (w32 p) (w32 (origin + 256 * cause)) (w32 n) 0#32 rank

/-- First-out of a group armed again (R170). -/
def Lane.foReset (l : Lane) (grp : Nat) : Lane :=
  let w := ALM_GRPST_FO_ARMED.put 1 (ALM_GRPST_FO_CAPT.put 0 (l.rd (ALM_GRPST grp)))
  (l.wr (ALM_GRPST grp) w).wr (ALM_GRPFO grp) 0#32

/-- An accepted command of opcodes 0x01–0x09. -/
def Lane.almEffect (l : Lane) (g op tgt origin rank : Nat) : Lane :=
  match op with
  | 0x01 => l.ackPoint g origin rank tgt
  | 0x02 => l.silPoint g origin rank tgt
  | 0x03 => (l.pointsOf (ackable tgt)).foldl (Lane.ackPoint g origin rank) l
  | 0x04 => (l.pointsOf silenceable).foldl (Lane.silPoint g origin rank) l
  | 0x05 => l.ptGo g tgt sActRt origin 1 rank
  | 0x06 => l.ptGo g tgt sActUnack origin 1 rank
  | 0x07 => l.shelve g tgt false origin 1 rank
  | 0x08 => l.unshelve g tgt origin 1 rank
  | _ => l.foReset tgt

/-- The final status of a command: ALM_CMDST shows it while no newer write stands there, and a station is answered
(R158, R200). -/
def Lane.almStatus (l : Lane) (c : AlmCmd) (st : Nat) : Lane :=
  let l := if c.wid != 0 && c.wid = l.alm.wseq then l.setF ALM_CMDST ALM_CMDST_STATUS st else l
  if c.origin < 16 && c.raddr != 0x40 then l.setAlm (fun a => { a with resp := a.resp ++ [{ c with status := st }] }) else l

/-- A refusal: its record and event (R154). -/
def Lane.almRefuse (l : Lane) (g : Nat) (c : AlmCmd) (st rank : Nat) : Lane :=
  ((l.almStatus c st).record 0x0101 g (w32 c.origin) (w32 c.op) (w32 c.tgt) (w32 st) rank).ev evAlmRefused

/-- A command in step 1 of an alarm scan (R152–R154). A command of the call engine waits for the call step (R192). -/
def Lane.almApply (l : Lane) (g rank : Nat) (c : AlmCmd) : Lane :=
  if c.status != 0 then l.almRefuse g c c.status rank
  else if !l.almPermits c.op c.origin then l.almRefuse g c stNotPermitted rank
  else if 0x20 ≤ c.op then l.setAlm (fun a => { a with callQ := a.callQ ++ [(rank, c)] })
  else if l.almRefused c.op c.tgt then l.almRefuse g c stRefused rank
  else (l.almEffect g c.op c.tgt c.origin rank).almStatus c stDone

/-- The alarm-scan boundary at or after `t` (R7, R152). -/
def scanAt (t : Nat) : Nat := (t + 9999999) / 10000000 * 10000000

/-- The commands that await the alarm scan at `b`, queued (R155). -/
def Lane.queuedFor (l : Lane) (b : Nat) : Nat :=
  (l.alm.queue.filter (fun c => c.status = 0 && scanAt c.eff = b)).length

/-- A command arrives: INVALID and a full queue are decided here and recorded in the scan it would have joined (R155). -/
def Lane.almArrive (l : Lane) (c : AlmCmd) : Lane :=
  let st := if almInvalid c.op c.tgt then stInvalid else if 32 ≤ l.queuedFor (scanAt c.eff) then stRefused else 0
  let l := l.setAlm (fun a => { a with queue := a.queue ++ [{ c with status := st }] })
  if st != 0 then (if c.wid != 0 then l.setF ALM_CMDST ALM_CMDST_STATUS st else l) else l

/-- A write of ALM_CMD (R158): LAST_OP, LAST_TGT and BUSY while it is queued. -/
def Lane.almWrite (l : Lane) (v : Word) (origin acc eff : Nat) : Lane :=
  let op := ALM_CMD_OPCODE.get v
  let tgt := ALM_CMD_TARGET.get v
  let l := l.setAlm (fun a => { a with wseq := a.wseq + 1 })
  let l := ((l.setF ALM_CMDST ALM_CMDST_STATUS stBusy).setF ALM_CMDST ALM_CMDST_LAST_OP op).setF ALM_CMDST ALM_CMDST_LAST_TGT tgt
  l.almArrive { op := op, tgt := tgt, origin := origin, acc := acc, eff := eff, wid := l.alm.wseq }

/-- The order of commands within an alarm scan (R152): by acceptance time, then host port, CNP, watch station. -/
def almKey (c : AlmCmd) : Nat := 4 * c.acc + (if c.origin = 0x1E then 0 else if c.origin = 0x1F then 1 else 2)

/-- A command of the call engine (R190): a point that a partial firing has taken out of the state it was issued in stays as it is
(R146). -/
def Lane.callApply (g : Nat) (l : Lane) (c : AlmCmd) : Lane :=
  if l.almRefused c.op c.tgt then l else l.almEffect g c.op c.tgt c.origin (rankCmd 0)

/-- The next command of step 1, in its place (R152, R155). -/
def Lane.almNext (g : Nat) (l : Lane) (c : AlmCmd) : Lane :=
  let k := l.alm.place
  (l.almApply g (rankCmd k) c).setAlm (fun a => { a with place := k + 1, taken := a.taken + (c.status == 0).toNat })

/-- Step 1 of an alarm scan: the call engine's commands, then the others in order. -/
def Lane.scanCommands (l : Lane) (g : Nat) : Lane :=
  let own := l.alm.callCmds
  let now := sortBy almKey (l.alm.queue.filter (fun c => scanAt c.eff ≤ g))
  let later := l.alm.queue.filter (fun c => g < scanAt c.eff)
  let l := l.setAlm (fun a => { a with callCmds := [], queue := later, acts := [], unack := [], sil := [], callQ := [], place := 1, taken := 0 })
  now.foldl (Lane.almNext g) (own.foldl (Lane.callApply g) l)

/-! ### Points (R136–R148) -/

/-- Points covered by an active consequence rule (R166): every rule that is active, as first point, last point, group
and cause; none means no bound of that kind. -/
structure RuleCover where
  cause : Nat
  grp : Option Nat
  first : Nat
  last : Nat

def Lane.ruleCovers (l : Lane) : List RuleCover :=
  ((upTo 256).filter (fun r => l.on (ALM_RULEST r) ALM_RULEST_ACT)).map (fun r =>
    let e := l.rd (ALM_RULEEFF r)
    let byGroup := ALM_RULEEFF_TYPE.get e == 0
    { cause := l.fld (ALM_RULECAUSE r) ALM_RULECAUSE_CAUSE,
      grp := if byGroup then some (ALM_RULEEFF_FIRST.get e) else none,
      first := ALM_RULEEFF_FIRST.get e, last := ALM_RULEEFF_LAST.get e })

/-- A rule covers a point (R166). -/
def RuleCover.covers (c : RuleCover) (p grp prio : Nat) : Bool :=
  p != c.cause && prio != 0 && (match c.grp with
    | some g => g == grp
    | none => c.first ≤ p && p ≤ c.last)

/-- Set and clear of R136 for a test value: `up` compares above L, otherwise below −L or L. -/
def hyst (x set_ clr : F32) (above old : Bool) : Bool :=
  if above then (if F32.gt x set_ then true else if F32.lt x clr then false else old)
  else (if F32.lt x set_ then true else if F32.gt x clr then false else old)

/-- COND_RAW from a test value in one of the forms of R136: 0 magnitude, 1 positive, 2 negative. -/
def formRaw (form : Nat) (x lim db : F32) (old : Bool) : Bool :=
  match form with
  | 1 => hyst x lim (F32.sub lim db) true old
  | 2 => hyst x (F32.negate lim) (F32.add (F32.negate lim) db) false old
  | _ => hyst (F32.abs x) lim (F32.sub lim db) true old

/-- A source value and its bad quality with the substitution of R141: the value used, and whether PT_SUBST stands in for it. -/
def substVal (s : F32 × Bool) (sub : F32) : F32 × Bool := if s.2 || F32.isFin s.1 then (s.1, false) else (sub, true)

/-- A value as a truth value: not 0.0 (R137, R162). -/
def isTrue (v : F32) : Bool := !F32.isZero v

/-- What a point reads in an alarm scan: COND_RAW, the test value, QBAD, SUBST, the new w and RVALID. -/
structure PtEval where
  raw : Bool
  x : Word
  bad : Bool
  sub : Bool
  w : Word
  wv : Bool
  frozen : Bool

/-- The raw condition of a point (R135–R141). The value of R149 is the test value x of R136: a rate keeps its newest r between window
ends (log 80); a condition without x shows the source value. DESIGN CHOICE (log 72): where the loop of a COND 0x6 point has PVBAD,
R139 goes before R140, so that COND_RAW is false whatever BADQ says. -/
def Lane.ptEval (l : Lane) (g p : Nat) : PtEval :=
  let cfg := l.rd (PT_CFG p)
  let st := l.rd (PT_ST p)
  let cond := PT_CFG_COND.get cfg
  let dir := PT_CFG_DIR.get cfg
  let old := PT_ST_COND_RAW.on st
  let lim := l.rd (PT_LIMIT p)
  let db := l.rd (PT_DEADBAND p)
  let sel (k : Nat) : F32 × Bool :=
    let w := l.rd k
    l.source (fun q => (l.pt q).on) (PT_CFG_STALE_OK.on cfg) (PT_SRC_KIND.get w) (PT_SRC_INDEX.get w) (PT_SRC_SUB.get w)
  let s1 := sel (PT_SRC p)
  let two := cond == 3 || cond == 4
  let s2 := if two then sel (PT_REF p) else (0#32, false)
  let bad := s1.2 || s2.2
  let v1 := substVal s1 (l.rd (PT_SUBST p))
  let v2 := substVal s2 (l.rd (PT_SUBST p))
  let sub := v1.2 || v2.2
  let badq := PT_CFG_BADQ.get cfg
  let byBad := if badq = 1 then true else if badq = 2 then false else old
  let work := l.pt p
  let rv := PT_ST_RVALID.on st
  let winEnd := cond == 2 && g % (PT_CFG_RWIN.get cfg * 10000000) == 0
  let loop := PT_SRC_INDEX.get (l.rd (PT_SRC p))
  let auto := l.fld (CTRL_ST loop) CTRL_ST_MODE != 0 && !l.on (CTRL_ST loop) CTRL_ST_PVBAD
  let frozen := bad && badq == 0
  let d := F32.sub v1.1 (if cond = 6 then l.rd (CTRL_SP loop) else v2.1)
  let x := if cond = 2 then work.x else if cond = 3 || cond = 6 then d else v1.1
  let mk (raw : Bool) (x : Word) : PtEval := { raw := raw, x := x, bad := bad, sub := sub, w := work.w, wv := rv, frozen := false }
  if cond = 6 && !auto then mk false x
  else if bad then { mk byBad x with wv := rv && !winEnd, frozen := frozen }
  else match cond with
    | 1 => mk (if dir < 2 then hyst x lim (F32.sub lim db) true old else hyst x lim (F32.add lim db) false old) x
    | 2 =>
      if !winEnd then mk old x
      else if !rv then { mk old x with w := v1.1, wv := true }
      else
        let r := F32.mul (F32.sub v1.1 work.w) (F32.ofRat 100 (PT_CFG_RWIN.get cfg))
        { mk (formRaw dir r lim db old) r with w := v1.1 }
    | 3 | 6 => mk (formRaw dir x lim db old) x
    | 4 => mk ((isTrue v1.1 != isTrue v2.1) != (dir % 2 == 1)) x
    | _ => mk (isTrue v1.1 != (dir % 2 == 1)) x

/-- The delays of R142: the new word of ALM_DCNT and QUAL. -/
def delayStep (dc : Word) (raw qual : Bool) (dly : Word) : Word × Bool :=
  let c := raw != qual
  let run := ALM_DCNT_RUN.on dc
  let cnt := ALM_DCNT_DCNT.get dc
  let lim := (if qual then PT_DLY_OFF_DLY.get dly else PT_DLY_ON_DLY.get dly) * 10
  let cnt' := if c && run then cnt + 1 else 0
  let hit := c && cnt' == lim
  let w := ALM_DCNT_DCNT.put cnt' (ALM_DCNT_RUN.put (c && !hit).toNat (ALM_DCNT_OFF.put (c && !hit && qual).toNat 0#32))
  (w, if hit then !qual else qual)

/-- The transition of R146 that condition and timer call for: target state and cause; of two rows that hold the earlier one goes
(00_scope.md). DESIGN CHOICE (log 73): SCNT reaches
SILT × 100 where it equals it, so that a SILT lowered below the count by a partial firing is met only after SCNT has wrapped. -/
def ptNext (st prio : Nat) (qual : Bool) (scnt silt : Nat) : Option (Nat × Nat) :=
  if st = sNormal then (if qual then some (if prio = 3 then sActAck else sActUnack, 0) else none)
  else if st = sActSil && scnt = silt * 100 then some (sActUnack, 3)
  else if st = sActUnack || st = sActSil || st = sActRt then
    (if qual then none else some (if prio < 2 then sRectUnack else sNormal, 0))
  else if st = sActAck then (if qual then none else some (sNormal, 0))
  else if st = sRectUnack then (if qual then some (sActUnack, 0) else none)
  else none

/-- A point becomes or stays masked (R146, R148). -/
def Lane.ptMasked (l : Lane) (g p : Nat) : Lane :=
  let l := if l.ptState p != sNormal then l.ptGo g p sNormal 0xFF 2 (rankPt p) else l
  (l.wr (PT_ST p) (PT_ST_MASKED.put 1 0#32)).wr (ALM_DCNT p) 0#32

/-- A shelved point counts down after it has been masked (R172). -/
def Lane.shelfStep (l : Lane) (g p : Nat) : Lane :=
  if l.on (ALM_SHLV p) ALM_SHLV_SHELVED then
    let n := l.fld (ALM_SHLV p) ALM_SHLV_REMAIN - 1
    let l := l.setF (ALM_SHLV p) ALM_SHLV_REMAIN n
    if n = 0 then l.unshelve g p 0xFF 6 (rankPt p) else l
  else l

/-- Step 2 of an alarm scan for one point (R145, R160). DESIGN CHOICE (log 101): a disabled point is not masked; its MASKED stays 0. -/
def Lane.scanPoint (rules : List RuleCover) (g : Nat) (l : Lane) (p : Nat) : Lane :=
  let cfg := l.rd (PT_CFG p)
  if PT_CFG_COND.get cfg = 0 then l else
  let grp := PT_CFG_GROUP.get cfg
  let prio := PT_CFG_PRIO.get cfg
  let masked := l.on (ALM_GRPST grp) ALM_GRPST_INH || rules.any (fun r => r.covers p grp prio)
    || l.on (ALM_SHLV p) ALM_SHLV_SHELVED
  if masked then (l.ptMasked g p).shelfStep g p else
  let e := l.ptEval g p
  let st := l.rd (PT_ST p)
  let qual := PT_ST_QUAL.on st
  let d := if e.frozen then (l.rd (ALM_DCNT p), qual) else delayStep (l.rd (ALM_DCNT p)) e.raw qual (l.rd (PT_DLY p))
  let state := PT_ST_STATE.get st
  let scnt := if state = sActSil && !l.alm.sil.contains p then PT_ST_SCNT.get st + 1 else PT_ST_SCNT.get st
  let st := PT_ST_COND_RAW.put e.raw.toNat (PT_ST_QUAL.put d.2.toNat (PT_ST_QBAD.put e.bad.toNat st))
  let st := PT_ST_SUBST.put e.sub.toNat (PT_ST_MASKED.put 0 (PT_ST_SCNT.put scnt (PT_ST_RVALID.put e.wv.toNat st)))
  let l := (l.wr (PT_ST p) st).wr (ALM_DCNT p) d.1
  let l := l.setPt p { l.pt p with w := e.w, x := e.x }
  match ptNext state prio d.2 scnt (l.fld ALM_GCFG ALM_GCFG_SILT) with
  | none => l
  | some (dst, cause) => l.ptGo g p dst 0xFF cause (rankPt p)

/-- Step 2 of an alarm scan. -/
def Lane.scanPoints (l : Lane) (g : Nat) : Lane :=
  let rules := l.ruleCovers
  (upTo 2048).foldl (Lane.scanPoint rules g) l

/-! ### Groups and rules (R162–R167) -/

/-- The counting of R163 and R167: new state, run and count. -/
def releaseStep (trig act run : Bool) (cnt dly : Nat) : Bool × Bool × Nat :=
  if trig then (true, false, 0) else
  let run' := act || run
  let cnt' := if run then cnt + 1 else if act then 0 else cnt
  if run' && cnt' = dly * 10 then (false, false, cnt') else (act, run', cnt')

/-- Step 1 of R161 for one group. -/
def Lane.scanGroup (g : Nat) (l : Lane) (grp : Nat) : Lane :=
  let src := l.rd (ALM_GRPSRC grp)
  let st := l.rd (ALM_GRPST grp)
  let kind := ALM_GRPSRC_KIND.get src
  let v := l.source (fun q => isOn (l.ptState q)) false kind (ALM_GRPSRC_INDEX.get src) (ALM_GRPSRC_SUB.get src)
  let hold := v.2 && ALM_GRPSRC_HOLDBAD.on src
  let trig := kind != 0 && !v.2 && (isTrue v.1 != ALM_GRPSRC_INV.on src)
  let was := ALM_GRPST_INH.on st
  let r := if hold then (was, ALM_GRPST_RUN.on st, ALM_GRPST_RCNT.get st)
    else releaseStep trig was (ALM_GRPST_RUN.on st) (ALM_GRPST_RCNT.get st) (l.fld (ALM_GRPDLY grp) ALM_GRPDLY_REL_DLY)
  let w := ALM_GRPST_INH.put r.1.toNat (ALM_GRPST_RUN.put r.2.1.toNat (ALM_GRPST_RCNT.put r.2.2 st))
  let l := l.wr (ALM_GRPST grp) (ALM_GRPST_GBAD.put v.2.toNat w)
  if r.1 != was then
    (l.record 0x0201 g (w32 grp) (w32 r.1.toNat) (w32 trig.toNat) 0#32 rankGroup).ev evInhibit
  else l

/-- The trigger of a rule at the end of step 2 (R165). -/
def Lane.ruleTrig (l : Lane) (c : Word) : Bool :=
  let p := ALM_RULECAUSE_CAUSE.get c
  if ALM_RULECAUSE_TRIG.on c then l.on (PT_ST p) PT_ST_COND_RAW else isOn (l.ptState p)

/-- Step 2 of R161 for one rule; a rule that is not enabled has no trigger (log 80). -/
def Lane.scanRule (g : Nat) (l : Lane) (r : Nat) : Lane :=
  let c := l.rd (ALM_RULECAUSE r)
  let en := ALM_RULECAUSE_EN.on c
  if !en && !l.on (ALM_RULEST r) ALM_RULEST_ACT then l else
  let st := l.rd (ALM_RULEST r)
  let was := ALM_RULEST_ACT.on st
  let x := releaseStep (en && l.ruleTrig c) was (ALM_RULEST_RUN.on st) (ALM_RULEST_HCNT.get st)
    (l.fld (ALM_RULEHOLD r) ALM_RULEHOLD_HOLD)
  let w := ALM_RULEST_ACT.put x.1.toNat (ALM_RULEST_RUN.put x.2.1.toNat (ALM_RULEST_HCNT.put x.2.2 st))
  let l := l.wr (ALM_RULEST r) w
  if x.1 != was then l.record 0x0202 g (w32 r) (w32 x.1.toNat) (w32 (ALM_RULECAUSE_CAUSE.get c)) 0#32 rankGroup else l

/-- Step 3 of R161 for one group (R169). -/
def Lane.scanFirstOut (g : Nat) (l : Lane) (grp : Nat) : Lane :=
  if l.on (ALM_GRPST grp) ALM_GRPST_FO_ARMED && l.on (ALM_GRPDLY grp) ALM_GRPDLY_FO_EN then
    match l.alm.acts.filter (fun p => l.ptGroup p == grp) with
    | [] => l
    | p :: rest =>
      let first := rest.foldl min p
      let ties := min 15 rest.length
      let w := ALM_GRPST_FO_ARMED.put 0 (ALM_GRPST_FO_CAPT.put 1 (l.rd (ALM_GRPST grp)))
      let l := (l.wr (ALM_GRPST grp) w).wr (ALM_GRPFO grp) (ALM_GRPFO_FIRST.put first (ALM_GRPFO_TIES.put ties 0#32))
      (l.record 0x0203 g (w32 grp) (w32 first) (w32 ties) 0#32 rankGroup).ev evFirstOut
  else l

/-! ### Chatter, flood, summaries (R173, R175, R177) -/

/-- One activation counted, with automatic shelving (R173). -/
def Lane.chatter (g : Nat) (l : Lane) (p : Nat) : Lane :=
  let n := min 15 (l.fld (ALM_SHLV p) ALM_SHLV_CHCNT + 1)
  let l := l.setF (ALM_SHLV p) ALM_SHLV_CHCNT n
  let lim := l.fld (ALM_GRPDLY (l.ptGroup p)) ALM_GRPDLY_CHAT_N
  if lim != 0 && l.ptPrio p != 0 && !l.on (ALM_SHLV p) ALM_SHLV_SHELVED && lim ≤ n then
    l.shelve g p true 0xFF 5 rankGroup else l

/-- Step 4 of R161: a window start clears every CHCNT first. -/
def Lane.scanChatter (l : Lane) (g : Nat) : Lane :=
  let l := if g % 60000000000 = 0 then (upTo 2048).foldl (fun l p => l.setF (ALM_SHLV p) ALM_SHLV_CHCNT 0) l else l
  l.alm.acts.foldl (Lane.chatter g) l

/-- FLOOD after a window of `n` activations (R177). -/
def floodNext (cfg : Word) (n : Nat) (was : Bool) : Bool :=
  let on := ALM_FLOODCFG_FLOOD_ON.get cfg
  if on = 0 then false else if n ≤ ALM_FLOODCFG_FLOOD_OFF.get cfg then false else if on ≤ n then true else was

/-- Step 5 of R161: a window start takes the count of the window just ended. -/
def Lane.scanFlood (l : Lane) (g : Nat) : Lane :=
  let cfg := l.rd ALM_FLOODCFG
  let st := l.rd ALM_FLOODST
  let was := ALM_FLOODST_FLOOD.on st
  let n := ALM_FLOODST_CUR_CNT.get st
  let start := g % 10000000000 = 0
  let flood := if start then floodNext cfg n was else if ALM_FLOODCFG_FLOOD_ON.get cfg = 0 then false else was
  let cur := min 4095 ((if start then 0 else n) + l.alm.acts.length)
  let st := ALM_FLOODST_CUR_CNT.put cur (ALM_FLOODST_FLOOD.put flood.toNat st)
  let l := l.wr ALM_FLOODST (if start then ALM_FLOODST_LAST_CNT.put n st else st)
  if flood != was then
    (l.record 0x0206 g (w32 flood.toNat) (w32 n) 0#32 0#32 rankGroup).ev evFlood
  else l

/-- The level of summary output `k` over the points that are not NORMAL (R175). -/
def Lane.sumLevel (l : Lane) (g : Nat) (alive : List Nat) (k : Nat) : Bool :=
  let cfg := l.rd (ALM_SUMCFG k)
  let sel := alive.filter (fun p =>
    bitOf (l.rd (ALM_SUMGM k (l.ptGroup p / 32))) (l.ptGroup p % 32) && bitOf (w32 (ALM_SUMCFG_PMASK.get cfg)) (l.ptPrio p))
  let sounding := sel.any (fun p => l.ptState p == sActUnack)
  match ALM_SUMCFG_FUNC.get cfg with
  | 0 => sel.any (fun p => isOn (l.ptState p))
  | 1 => sel.any (fun p => isUnack (l.ptState p))
  | 2 => sounding
  | 3 => (sounding && g % 1000000000 < 500000000) || (!sounding && !sel.isEmpty)
  | 4 => l.on ALM_FLOODST ALM_FLOODST_FLOOD
  | _ => false

/-- Step 6 of R161, and the counts of R159. -/
def Lane.scanSummary (l : Lane) (g : Nat) : Lane :=
  let alive := l.pointsOf (fun l p => l.ptState p != sNormal)
  let lv := (upTo 32).foldl (fun (w : Word) k => w ||| bit32 (l.sumLevel g alive k) k) 0#32
  let cnt (f : Nat → Bool) : Nat := (alive.filter f).length
  let l := l.wr ALM_SUMST lv
  let l := l.wr ALM_CNT (ALM_CNT_UNACK.put (cnt (fun p => isUnack (l.ptState p)))
    (ALM_CNT_SOUNDING.put (cnt (fun p => l.ptState p == sActUnack)) 0#32))
  let pr (q : Nat) : Nat := cnt (fun p => l.ptPrio p == q)
  let l := l.wr ALM_PRIOCNT0 (ALM_PRIOCNT0_FIRST.put (pr 0) (ALM_PRIOCNT0_SECOND.put (pr 1) 0#32))
  let l := l.wr ALM_PRIOCNT1 (ALM_PRIOCNT1_FIRST.put (pr 2) (ALM_PRIOCNT1_SECOND.put (pr 3) 0#32))
  (upTo 4).foldl (fun l q => if l.alm.acts.any (fun p => l.ptPrio p == q) then l.ev (evActivation q) else l) l

/-- At the end of an alarm scan the points take the value that the next scan's KIND 0x7 sources read (R133), and the
scan is counted. -/
def Lane.scanEnd (l : Lane) : Lane :=
  let l := ((upTo 2048).filter (fun p => (l.pt p).on != isOn (l.ptState p))).foldl
    (fun l p => l.setPt p { l.pt p with on := isOn (l.ptState p) }) l
  l.wrap ALM_SCANCNT ⟨0, 32⟩

/-- Partial firing: a point returns to NORMAL as if masked, with cause reconfigured (R150); KIND 0x7 sources read it as the alarm scan
before left it until the next one ends (R133). DESIGN CHOICE (log 99): the record names the new priority where PRIO has changed. -/
def Lane.ptReconf (l : Lane) (g p : Nat) : Lane :=
  let l := if l.ptState p != sNormal then l.ptGo g p sNormal 0xFF 4 (rankPt p) else l
  ((l.wr (PT_ST p) 0#32).wr (ALM_DCNT p) 0#32).setPt p { on := (l.pt p).on }

end Sys2Proof.Machine
end

