-- ==== Sys2Proof/Machine/Tiles.lean ====
section
/-! DEFINITION. Analogue input tiles (spec/02) and the tile side of dual-path measurement (spec/03): words, marks,
stale time, excitation swaps, range changes, shunt trips, reference junctions, tile links and injection checks. -/

namespace Sys2Proof.Machine

/-! ### Word rates (R34, R95, R96) -/

/-- The 3 s anchor of R34, ns. -/
def anchorNs : Nat := 3000000000

/-- The word period T of a RATE code in ns, R95 (60 S/s: rounded down, its instants follow R96). -/
def wordPeriod : Nat → Nat
  | 0 => 1000000000 | 1 => 500000000 | 2 => 200000000 | 3 => 100000000 | 4 => 60000000 | 5 => 20000000
  | 6 => 16666666 | 7 => 10000000 | 8 => 4000000 | 9 => 2000000 | 10 => 1000000 | 11 => 500000 | _ => 250000

/-- `w` is a word instant at a RATE code (R34, R96). -/
def isWordInstant (rate w : Nat) : Bool :=
  let m := w % anchorNs
  if rate = 6 then ((3 * m + 49999999) / 50000000) * 50000000 / 3 == m else m % wordPeriod rate == 0

/-- The word instants at a RATE code later than boundary `b` − 1 ms and at or before boundary `b`, in order. -/
def instantsOf (rate b : Nat) : List Nat :=
  let cand := if rate = 11 then [b - 500000, b] else if rate = 12 then [b - 750000, b - 500000, b - 250000, b]
    else if rate = 6 then
      let a := b - b % anchorNs
      let k := (b % anchorNs) * 3 / 50000000
      [a + k * 50000000 / 3]
    else [b]
  cand.filter (fun w => isWordInstant rate w && b < w + 1000000 && w ≤ b)

/-- Five word periods (R95, R108). -/
def fiveT (rate : Nat) : Nat := if rate = 6 then 83333333 else 5 * wordPeriod rate

/-! ### Sensors, ranges and gains -/

def senB : Nat := 1
def senPt100 : Nat := 9
def senPt500 : Nat := 10
def senPt1000 : Nat := 11
def senNi1000 : Nat := 12
def senMv : Nat := 13
def senV : Nat := 14
def senMa : Nat := 15
/-- SENSOR names a thermocouple type. -/
def isTc (sensor : Nat) : Bool := 1 ≤ sensor && sensor ≤ 8
/-- SENSOR names an RTD. -/
def isRtd (sensor : Nat) : Bool := 9 ≤ sensor && sensor ≤ 12

/-- Log2 of the gain of a path on its higher or only range (R61, R62, R67). -/
def baseGain (cfg : Word) : Nat :=
  let sensor := AIN_CFG_SENSOR.get cfg
  let iexc := AIN_CFG_IEXC.get cfg
  match AIN_CFG_RANGE.get cfg with
  | 0 => 7
  | 1 => 5
  | 2 => 3
  | 6 =>
    if sensor = senPt100 then (if iexc = 1 then 2 else 4)
    else if sensor = senPt500 then (if iexc = 1 then 0 else 2) else 1
  | _ => 1

/-- The channel auto-ranges: AUTO set on a V or mA channel (R62). -/
def autoRanges (cfg : Word) : Bool :=
  AIN_CFG_AUTO.on cfg && (AIN_CFG_SENSOR.get cfg == senV || AIN_CFG_SENSOR.get cfg == senMa)

/-- Log2 of the effective gain with the range stage at ×8 (R62). -/
def lowGain : Nat := 4

/-- The divider is in on RANGE code 4 (R61, R62). -/
def dividerIn (cfg : Word) : Bool := AIN_CFG_SENSOR.get cfg != 0 && AIN_CFG_RANGE.get cfg == 4

/-! ### The stage's view of a channel -/

def Shared.chan (h : Shared) (n : Nat) : ChanHw := h.chans.at {} n
def Shared.setChan (h : Shared) (n : Nat) (c : ChanHw) : Shared := { h with chans := h.chans.upd {} n c }
def Shared.tile (h : Shared) (t : Nat) : TileHw := h.tiles.at {} t
def Shared.setTile (h : Shared) (t : Nat) (c : TileHw) : Shared := { h with tiles := h.tiles.upd {} t c }

/-- The tile of a channel. -/
def tileOf (n : Nat) : Nat := n / 8

/-- The configuration word of a channel as the stages follow it. -/
def State.ainCfg (s : State) (n : Nat) : Word := s.lead.rd (AIN_CFG n)
/-- The measurement settings of a channel. -/
def State.ainPcfg (s : State) (n : Nat) : Word := s.lead.rd (AIN_PCFG n)

/-- The link bit of AIN_TSTAT for a path. -/
def linkBit : Path → Fld
  | .A => AIN_TSTAT_LINK_A
  | .B => AIN_TSTAT_LINK_B
/-- The error counter of AIN_TSTAT for a path. -/
def linkErr : Path → Fld
  | .A => AIN_TSTAT_LINK_A_ERR
  | .B => AIN_TSTAT_LINK_B_ERR
/-- A tile link is up. -/
def Shared.tileLink (h : Shared) (t : Nat) (p : Path) : Bool := h.on (AIN_TSTAT t) (linkBit p)

/-- Log2 of the effective gain of a path, from AIN_CHST. -/
def Shared.gain (h : Shared) (n : Nat) : Path → Nat
  | .A => h.fld (AIN_CHST n) AIN_CHST_GAIN_A
  | .B => h.fld (AIN_CHST n) AIN_CHST_GAIN_B
def Shared.setGain (h : Shared) (n : Nat) (p : Path) (g : Nat) : Shared :=
  match p with
  | .A => h.setF (AIN_CHST n) AIN_CHST_GAIN_A g
  | .B => h.setF (AIN_CHST n) AIN_CHST_GAIN_B g

/-- The primary path of a channel (PRIM of AIN_PCFG). -/
def primOf (pcfg : Word) : Path := if AIN_PCFG_PRIM.on pcfg then .B else .A

/-! ### The compensation temperature of a tile (R79, R80) -/

/-- FALLBACK in °C: the binary32 value nearest the count × 0.01. -/
def fallbackTemp (tcfg : Word) : F32 := F32.ofRat ((BitVec.ofNat 16 (AIN_TCFG_FALLBACK.get tcfg)).toInt) 100

/-- AIN_CJC and CJC_FALLBACK of a tile: FALLBACK under FIXED or CJC_FAULT, else the newest plausible temperature (R79, R80). DESIGN
CHOICE (log 64): after an implausible word and before CJC_FAULT the newest plausible temperature stays in use. -/
def Shared.cjcUse (h : Shared) (cfg : Word) (t : Nat) : Shared :=
  let fb := AIN_TCFG_FIXED.on cfg || h.on (AIN_TSTAT t) AIN_TSTAT_CJC_FAULT
  let v := if fb then fallbackTemp cfg else ((h.tile t).cjcPrev).getD (h.rd (AIN_CJC t))
  (h.setB (AIN_TSTAT t) AIN_TSTAT_CJC_FALLBACK fb).wr (AIN_CJC t) v

/-! ### The front end of a channel (R58, R65, R69, R84) -/

/-- The fields of AIN_CFG that set switches, currents and gains: all but LEAD, and AUTO only where the sensor type does not
ignore it (R62). -/
def frontOf (cfg : Word) : Word := if autoRanges cfg then cfg &&& 0x1FFF#32 else AIN_CFG_AUTO.put 0 (cfg &&& 0x1FFF#32)

/-- The excitation that settings call for: sensor, connection, current and EXC_OFF of an RTD channel; none of any other. -/
def excOf (cfg : Word) : Word := if isRtd (AIN_CFG_SENSOR.get cfg) then cfg &&& 0xF0F#32 else 0#32

/-- The terminals a source can drive (R58). -/
inductive Terminal where
  | ex | p | n
  deriving DecidableEq, Repr

/-- The positions of the switches of a channel (R58): what IA and IB drive, the return switches, the burn-out source, the bias on
AIxx_N, the shunt and the divider. -/
structure Switches where
  ia : Option Terminal := none
  ib : Option Terminal := none
  rt : Bool := false
  nRet : Bool := false
  burn : Bool := false
  bias : Bool := false
  shunt : Bool := false
  div : Bool := false
  deriving DecidableEq, Repr

/-- What the source that leads in a phase drives, and what the other drives (R69). -/
def rtdDrive (wires : Nat) : Option Terminal × Option Terminal :=
  match wires with
  | 0 => (some .p, none)
  | 1 => (some .p, some .n)
  | _ => (some .ex, none)

/-- The positions that settings call for in an excitation phase; `shunt`, `div`: where those two stand (R65, R69, R74, R90,
R91). -/
def switchesOf (cfg : Word) (phase : Nat) (shunt div : Bool) : Switches :=
  let sensor := AIN_CFG_SENSOR.get cfg
  let wires := AIN_CFG_WIRES.get cfg
  if sensor = 0 then {} else
  let rtd := isRtd sensor
  let nRet := sensor == senMa || (rtd && wires == 0)
  let drive := if rtd && !AIN_CFG_EXC_OFF.on cfg then rtdDrive wires else (none, none)
  { ia := if phase = 0 then drive.1 else drive.2, ib := if phase = 0 then drive.2 else drive.1, rt := rtd && wires != 0,
    nRet := nRet, burn := AIN_CFG_BURNOUT.on cfg, bias := !rtd && !nRet, shunt := shunt, div := div }

/-- The positions of the switches of channel `n`; all are open while its tile has no settings (R55, R56). -/
def Shared.switches (h : Shared) (n : Nat) : Switches :=
  if (h.tile (tileOf n)).loaded then
    switchesOf (h.chan n).front (h.fld (AIN_CHST n) AIN_CHST_SWAP_PH) (h.on (AIN_CHST n) AIN_CHST_SHUNT) (h.on (AIN_CHST n) AIN_CHST_DIV)
  else {}

/-- Divider and shunt as settings call for them (R61, R62, R91); a tripped shunt stays open (R82). -/
def Shared.element (h : Shared) (cfg : Word) (n : Nat) : Shared :=
  (h.setB (AIN_CHST n) AIN_CHST_DIV (dividerIn cfg)).setB (AIN_CHST n) AIN_CHST_SHUNT
    (AIN_CFG_SENSOR.get cfg == senMa && !h.on (AIN_CHST n) AIN_CHST_SHUNT_TRIP)

/-- Both paths on the higher or only range (R61, R62). -/
def Shared.highRange (h : Shared) (cfg : Word) (n : Nat) : Shared :=
  let g := if AIN_CFG_SENSOR.get cfg = 0 then 0 else baseGain cfg
  (h.setGain n .A g).setGain n .B g

/-! ### Loading a tile (R56) -/

/-- A channel takes its configured positions; its chains start at its next word instant (R56, R91). -/
def Shared.loadChan (h : Shared) (cfg pcfg : Word) (n : Nat) : Shared :=
  let h := ((h.highRange cfg n).element cfg n).setB (AIN_CHST n) AIN_CHST_SWAP_PH false
  let c := h.chan n
  h.setChan n { c with front := frontOf cfg, rate := AIN_PCFG_RATE.get pcfg, due := false, excDue := false, force := false,
                       gen := c.gen + 1, started := false, settle := 0, excBusy := false, rngRun := false, rngPos := 0, downRun := 0 }

/-- Step 4 of R56: the lanes load the channel settings of the fired image once the supply and both links stand. DESIGN CHOICE
(log 65): a tile one of whose links never comes up is never loaded. -/
def State.loadTile (s : State) (t : Nat) : State :=
  if s.sh.on (AIN_TSTAT t) AIN_TSTAT_TILE_PWR && s.sh.tileLink t .A && s.sh.tileLink t .B && s.lead.serves
      && !(s.sh.tile t).loaded then
    let h := (upTo 8).foldl (fun h i => h.loadChan (s.ainCfg (8 * t + i)) (s.ainPcfg (8 * t + i)) (8 * t + i)) s.sh
    { s with sh := (h.setTile t { h.tile t with loaded := true }).cjcUse (s.lead.rd (AIN_TCFG t)) t }
  else s

/-- Global time moves by a step, `d` ns beyond the boundary due (R588): every tile starts anew under step 5 of R56. What a link
still held is dropped, and the chains start again at the first word instant after the step. -/
def Shared.tilesStep (g : Nat) (d : Int) (h : Shared) : Shared :=
  let move (x : Nat) : Nat := ((x : Int) + d).toNat
  let h := (upTo 12).foldl (fun h t =>
    let x := h.tile t
    h.setTile t { x with qA := [], qB := [], lastA := move x.lastA, lastB := move x.lastB, chkAt := move x.chkAt, cjcAt := 0 }) h
  (upTo 96).foldl (fun h n =>
    let c := h.chan n
    if !c.started then h else
    (h.setB (AIN_CHST n) AIN_CHST_SWAP_PH false).setChan n { c with started := false, lastW := g, settle := 0, gen := c.gen + 1 }) h

/-! ### Restarts (R113) -/

/-- A restart of both chains at a word instant: the next four words are stale (R114). -/
def ChanHw.restart (c : ChanHw) (swap : Bool) : ChanHw := { c with settle := 5, hard := !swap }

/-! ### Injection checks (R104–R109) -/

/-- A check of the channel is running on the tile. -/
def Shared.chkOn (h : Shared) (n : Nat) : Bool := (h.tile (tileOf n)).chk && (h.tile (tileOf n)).chkCh == n

/-- The consecutive aborts of a path (AIN_INJST). -/
def abortsFld : Path → Fld
  | .A => AIN_INJST_ABORTS_A
  | .B => AIN_INJST_ABORTS_B
def injFld : Path → Fld
  | .A => AIN_CHST_INJ_A
  | .B => AIN_CHST_INJ_B

/-- The check running on a channel may not be aborted: its path has been aborted 15 times in a row (R109). -/
def Shared.chkHolds (h : Shared) (n : Nat) : Bool :=
  h.chkOn n && (h.tile (tileOf n)).chkHeld

/-- The newest check of a list ends at `w`. -/
def endFirst (w : Nat) : List (Nat × Nat) → List (Nat × Nat)
  | [] => []
  | x :: xs => (x.1, w) :: xs

/-- The end of a check at instant `w`: the modulator input returns, the marks end there, ACTIVE clears. -/
def Shared.chkEnd (h : Shared) (t w : Nat) : Shared :=
  let x := h.tile t
  let n := x.chkCh
  let c := h.chan n
  let c := match x.chkPath with
    | .A => { c with injA := endFirst w c.injA }
    | .B => { c with injB := endFirst w c.injB }
  let h := (h.setChan n c).setTile t { x with chk := false }
  let h := h.setB (AIN_CHST n) (injFld x.chkPath) false
  h.setB (AIN_INJST n) AIN_INJST_ACTIVE false

/-- A running check of the channel is aborted at once (R109): no result, ABORTS counts it. -/
def Shared.chkAbort (h : Shared) (n w : Nat) : Shared :=
  if h.chkOn n && !h.chkHolds n then
    let p := (h.tile (tileOf n)).chkPath
    (h.chkEnd (tileOf n) w).bump (AIN_INJST n) (abortsFld p)
  else h

/-- The checks of a path whose marks still run. -/
def ChanHw.inj (c : ChanHw) : Path → List (Nat × Nat)
  | .A => c.injA
  | .B => c.injB

/-- A word of the path at instant `w` is marked INJ: some part of the 5 T before it lies within a check (R108). -/
def injMarked (c : ChanHw) (p : Path) (w : Nat) : Bool := (c.inj p).any (fun i => i.1 < w && w < i.2 + fiveT c.rate)

/-- A check of the path begins at `g`; checks more than the longest 5 T ago mark no word any more. -/
def ChanHw.injBegin (c : ChanHw) (p : Path) (g : Nat) : ChanHw :=
  let add (xs : List (Nat × Nat)) := (g, g + 64000000) :: xs.filter (fun i => g < i.2 + 5000000000)
  match p with
  | .A => { c with injA := add c.injA }
  | .B => { c with injB := add c.injB }

/-! ### Staggered range change (R110–R112) -/

/-- A code as the input value it stands for, compared with `lim` micro-units at effective gain 2 ^ `g`, exact: volts through the
divider in magnitude (V channels), amperes through the shunt (mA channels, R110). DESIGN CHOICE (log 66): the code as it comes
from the modulator, without the trim of the path. -/
def codeAbove (ma : Bool) (g : Nat) (code : Int) (limMicro : Nat) : Bool :=
  -- code × 2.56 / 2^23 / k > lim × 10^-6, with k = 2^g / 8 for V and 2^g × 50 for mA
  if ma then code * 2560000 > (limMicro * 2 ^ 23 * 2 ^ g * 50 : Nat)
  else code.natAbs * 2560000 * 8 > limMicro * 2 ^ 23 * 2 ^ g

/-- As `codeAbove`, for a value below the limit. -/
def codeBelow (ma : Bool) (g : Nat) (code : Int) (limMicro : Nat) : Bool :=
  if ma then code * 2560000 < (limMicro * 2 ^ 23 * 2 ^ g * 50 : Nat)
  else code.natAbs * 2560000 * 8 < limMicro * 2 ^ 23 * 2 ^ g

/-- The range stage of one path switches (steps 1 and 2 of R111). -/
def Shared.switchStage (h : Shared) (n : Nat) (p : Path) (up : Bool) : Shared := h.setGain n p (if up then 1 else lowGain)

/-- The range step that is due on a channel, if one is: step 1 switches the non-primary path, step 2 the primary. A change that
waited for a check goes on at the first word instant after it (R109). -/
def Shared.rangeStep (h : Shared) (pcfg : Word) (n : Nat) : Shared :=
  let c := h.chan n
  if c.rngRun && (c.rngPos = 0 || (c.rngPos = 7 && !h.chkOn n)) then
    (h.switchStage n (primOf pcfg).other c.rngUp).setChan n { c with rngPos := 1 }
  else if c.rngRun && c.rngPos = 3 then
    (h.switchStage n (primOf pcfg) c.rngUp).setChan n { c with rngPos := 4 }
  else h

/-- The decision of R110 at a word instant with no sequence running. DESIGN CHOICE (log 67): a running check is aborted at the
instant W of the deciding word (R109). -/
def Shared.rangeDecide (h : Shared) (cfg : Word) (n w : Nat) (a : Int) (aOver : Bool) (b : Int) (bOver : Bool) : Shared :=
  let c := h.chan n
  if autoRanges cfg && !c.rngRun && !h.on (AIN_CHST n) AIN_CHST_SHUNT_TRIP then
    let ma := AIN_CFG_SENSOR.get cfg == senMa
    let ga := h.gain n .A
    let gb := h.gain n .B
    let up := if ma then 3040 else 1216000
    let dn := if ma then 2720 else 1088000
    let low := ga == lowGain
    -- over range counts in magnitude on a V channel, upwards only on an mA channel
    let past (ov : Bool) (code : Int) : Bool := ov && (!ma || 0 ≤ code)
    let goUp := low && (past aOver a || past bOver b || codeAbove ma ga a up || codeAbove ma gb b up)
    let isDn := !low && !past aOver a && !past bOver b && codeBelow ma ga a dn && codeBelow ma gb b dn
    let run := if isDn then c.downRun + 1 else 0
    let goDn := run ≥ 16
    if goUp || goDn then
      let hold := h.chkHolds n
      let h := h.chkAbort n w
      h.setChan n { h.chan n with rngRun := true, rngPos := if hold then 7 else 0, rngUp := goUp, downRun := 0 }
    else h.setChan n { c with downRun := run }
  else h

/-! ### Words (R57, R82, R99, R108–R115) -/

/-- The marks of a path's word in a range change: the first path's words at steps 1 and 2, the second's after. -/
def rangeMark (c : ChanHw) (pcfg : Word) (p : Path) : Bool :=
  c.rngRun && ((p == (primOf pcfg).other && (c.rngPos == 1 || c.rngPos == 2))
    || (p == primOf pcfg && (c.rngPos == 4 || c.rngPos == 5)))

/-- The runs of R72 and R75 after a word instant. -/
def runStep (run : Nat) (c : Bool) : Nat := if c then min 2 (run + 1) else 0

/-- The excitation of an RTD channel is off, or a source is at its compliance limit (R72, R90). -/
def satNow (cfg : Word) (sat : Bool) : Bool := isRtd (AIN_CFG_SENSOR.get cfg) && (sat || AIN_CFG_EXC_OFF.on cfg)

/-- A word of one path, queued on its tile link. -/
def Shared.queueWord (h : Shared) (w : TWord) : Shared :=
  let t := tileOf w.ch
  let x := h.tile t
  match w.path with
  | .A => h.setTile t { x with qA := x.qA ++ [w] }
  | .B => h.setTile t { x with qB := x.qB ++ [w] }

/-- 105 % of the full-scale magnitude of a channel's range at the modulator input, in µV (R61, R63, R67). -/
def overMicro (cfg : Word) (g : Nat) : Nat :=
  match AIN_CFG_RANGE.get cfg with
  | 5 => if g = 1 then 2520000 else 2688000
  | 6 =>
    let sensor := AIN_CFG_SENSOR.get cfg
    if sensor = senPt100 then 1680000 else if sensor = senNi1000 then 1575000 else 2100000
  | _ => 2688000

/-- A path is over range (R63): its code lies beyond 105 % of the range, or, where that lies outside the modulator's ±2.56 V, the
modulator input does as observed (`seen`). -/
def overRange (cfg : Word) (g : Nat) (code : BitVec 24) (seen : Bool) : Bool :=
  if overMicro cfg g < 2560000 then decide (code.toInt.natAbs * 2560000 > overMicro cfg g * 2 ^ 23) else seen

/-- A tripped shunt that is due to reclose at instant `w` (R83). -/
def Shared.recloseDue (h : Shared) (n w : Nat) : Bool :=
  (h.tile (tileOf n)).loaded && h.on (AIN_CHST n) AIN_CHST_SHUNT_TRIP
    && ((h.chan n).tripAt + 1000000000 ≤ w || (h.chan n).retry)

/-- The switch of a tripped shunt closes, where the settings call for the shunt: a restart of both chains. -/
def Shared.reclose (h : Shared) (n w : Nat) : Shared :=
  let c := h.chan n
  let h := (h.setB (AIN_CHST n) AIN_CHST_SHUNT_TRIP false).element c.front n
  h.setChan n { (c.restart false) with retry := false, started := true, lastW := max c.lastW w }

/-- The settings of a channel change at word instant `w` to those of the lanes' registers (R84, R85, R113): switches and gains take
their new positions; a change of excitation aborts a running check (R109) and begins the swap sequence again at phase 0, from where
on no older conversion is combined with a newer one; a change of excitation, burn-out, range or rate restarts both chains; a swap
that is due at `w` (`swap`) takes place in the same restart (R69, R85). A range change in progress goes on only where the channel
still auto-ranges; DESIGN CHOICE (log 95): where AUTO is taken away on the lower range, the stages return to ×1 with a restart. -/
def Shared.frontAt (h : Shared) (cfg pcfg : Word) (n w : Nat) (swap : Bool := false) : Shared :=
  let c := h.chan n
  let new := frontOf cfg
  let rate := AIN_PCFG_RATE.get pcfg
  let exc := c.excDue || excOf c.front != excOf new
  let phase := h.fld (AIN_CHST n) AIN_CHST_SWAP_PH
  let h := if exc then h.chkAbort n w else h
  let keep := autoRanges c.front && autoRanges new && AIN_CFG_SENSOR.get c.front == AIN_CFG_SENSOR.get new
  let moved := !keep && (h.gain n .A != baseGain new || h.gain n .B != baseGain new)
  let again := c.force || exc || rate != c.rate || (c.front ^^^ new) &&& 0x1070#32 != 0#32 || moved
  let h := (if keep then h else h.highRange new n).element new n
  let c := { h.chan n with front := new, rate := rate, due := false, excDue := false, force := false, gen := c.gen + exc.toNat }
  let c := if keep then c else { c with rngRun := false, rngPos := 0, downRun := 0 }
  if AIN_CFG_SENSOR.get new = 0 then
    (h.setB (AIN_CHST n) AIN_CHST_SWAP_PH false).setChan n { c with started := false, settle := 0, excBusy := false }
  else
    (h.setF (AIN_CHST n) AIN_CHST_SWAP_PH (if exc then 0 else if swap then 1 - phase else phase)).setChan n
      (if again then c.restart false else if swap then c.restart true else c)

/-- A change of settings may be made: one of the excitation waits for a check that may not be aborted (R109). -/
def Shared.frontFree (h : Shared) (n : Nat) : Bool := !((h.chan n).excDue && h.chkHolds n)

/-- A change that takes effect at boundary `g` is made at once where a word instant of the channel lies there (R84). -/
def Shared.frontFrom (h : Shared) (cfg pcfg : Word) (n g : Nat) : Shared :=
  let c := h.chan n
  if c.due && c.started && c.lastW == g && h.frontFree n then h.frontAt cfg pcfg n g else h

/-- A tripped shunt recloses at word instant `w` of the channel, at which a change that waits is made as well (R83, R84). -/
def Shared.recloseAt (h : Shared) (cfg pcfg : Word) (n w : Nat) : Shared :=
  let h := h.reclose n w
  if (h.chan n).due && h.frontFree n then h.frontAt cfg pcfg n w else h

/-- The words both paths complete at instant `w` under the settings in force, with the changes made at that instant after them: a
swap of an RTD channel after a conversion (R69), a change of settings (R84, R85), a range decision (R110). `outA`, `outB`: the
path is not in service because its link is lost or a single-path state has put it out (R75, R99). -/
def Shared.words (h : Shared) (cfg pcfg : Word) (n : Nat) (a b : BitVec 24) (aOver bOver sat outA outB : Bool) (w : Nat) : Shared :=
  let h := h.rangeStep pcfg n
  let c := h.chan n
  let rtd := isRtd (AIN_CFG_SENSOR.get c.front)
  let excOff := rtd && AIN_CFG_EXC_OFF.on c.front
  let aOver := overRange c.front (h.gain n .A) a aOver || excOff
  let bOver := overRange c.front (h.gain n .B) b bOver || excOff
  let settle := c.settle - 1
  let stale := settle != 0
  let phase := h.fld (AIN_CHST n) AIN_CHST_SWAP_PH
  let word (p : Path) (code : BitVec 24) (ov : Bool) : TWord :=
    { ch := n, path := p, w := w, code := code, gain := h.gain n p, ovr := ov, inj := injMarked c p w,
      rangeTr := rangeMark c pcfg p, stale := stale, phase := phase, front := c.front, gen := c.gen }
  let h := (h.queueWord (word .A a aOver)).queueWord (word .B b bOver)
  let h := (h.setB (AIN_CHST n) AIN_CHST_OVR_A aOver).setB (AIN_CHST n) AIN_CHST_OVR_B bOver
  -- paths in service: those not under injection, with a link, and not put out (R75)
  let inA := !h.on (AIN_CHST n) AIN_CHST_INJ_A && !outA
  let inB := !h.on (AIN_CHST n) AIN_CHST_INJ_B && !outB
  let posA := aOver && !a.msb
  let posB := bOver && !b.msb
  let opn := AIN_CFG_BURNOUT.on c.front && (inA || inB) && (!inA || posA) && (!inB || posB)
  let cls := (inA || inB) && (!inA || !aOver) && (!inB || !bOver)
  let sn := satNow c.front sat
  let ended := c.rngRun && c.rngPos = 6
  let pos := if ended then 0 else if c.rngRun && c.rngPos != 7 then c.rngPos + 1 else c.rngPos
  let c := { c with
    started := true, lastW := w, settle := settle, excBusy := c.excBusy && (stale || c.excDue),
    opnRun := runStep c.opnRun opn, clsRun := runStep c.clsRun cls, satRun := runStep c.satRun sn,
    unsatRun := runStep c.unsatRun (!sn), rngRun := c.rngRun && !ended, rngPos := pos, hard := c.hard && stale }
  let h := h.setChan n c
  let h := h.rangeDecide c.front n w a.toInt aOver b.toInt bOver
  if c.due && h.frontFree n then h.frontAt cfg pcfg n w (rtd && !stale)
  else if rtd && !stale then
    (h.setF (AIN_CHST n) AIN_CHST_SWAP_PH (1 - phase)).setChan n ((h.chan n).restart true)
  else h

/-- A path is not in service: its link is lost, or a single-path state has put it out (R75, R99). -/
def State.pathOut (s : State) (n : Nat) (p : Path) : Bool :=
  !s.sh.tileLink (tileOf n) p || (s.lead.on (AIN_VFLG n) AIN_VFLG_SINGLE
    && s.lead.fld (AIN_VFLG n) AIN_VFLG_SRC == (match p with | .A => 1 | .B => 0))

/-- The word rate in force on a channel; that of the lanes' registers while it is disabled. -/
def State.rateOf (s : State) (n : Nat) : Nat :=
  let c := s.sh.chan n
  if AIN_CFG_SENSOR.get c.front = 0 then AIN_PCFG_RATE.get (s.ainPcfg n) else c.rate

/-- A word instant of a channel: the tile is powered and loaded, the channel is enabled, and `w` is a word instant of
its rate later than the newest one. The first instant after a start begins the chains (R56, R113) and gives no word; a
tripped channel sends no words (R82) and may reclose (R83). -/
def State.wordInstant (s : State) (n : Nat) (a : BitVec 24) (aOver : Bool) (b : BitVec 24) (bOver : Bool) (sat : Bool)
    (w : Nat) : State :=
  let cfg := s.ainCfg n
  let pcfg := s.ainPcfg n
  let c := s.sh.chan n
  let off := AIN_CFG_SENSOR.get c.front == 0
  if (s.sh.tile (tileOf n)).loaded && !(off && AIN_CFG_SENSOR.get cfg == 0) && isWordInstant (s.rateOf n) w
      && (c.lastW < w || c.lastW = 0) then
    if off then
      let h := s.sh.loadChan cfg pcfg n
      s.withSh (h.setChan n { ((h.chan n).restart false) with
        started := true, lastW := w, excBusy := isRtd (AIN_CFG_SENSOR.get cfg) })
    else if s.sh.recloseDue n w then s.withSh (s.sh.recloseAt cfg pcfg n w)
    else if s.sh.on (AIN_CHST n) AIN_CHST_SHUNT_TRIP || !c.started then
      let h := s.sh.setChan n (if c.started then { c with lastW := w } else { (c.restart false) with started := true, lastW := w })
      s.withSh (if c.due && h.frontFree n then h.frontAt cfg pcfg n w else h)
    else s.withSh (s.sh.words cfg pcfg n a b aOver bOver sat (s.pathOut n .A) (s.pathOut n .B) w)
  else s

/-! ### Tile links (R57) -/

/-- The words queued on a tile link, and the queue replaced. -/
def TileHw.q (x : TileHw) : Path → List TWord
  | .A => x.qA
  | .B => x.qB
def TileHw.setQ (x : TileHw) (p : Path) (q : List TWord) : TileHw :=
  match p with
  | .A => { x with qA := q }
  | .B => { x with qB := q }
def TileHw.run (x : TileHw) : Path → Nat
  | .A => x.runA
  | .B => x.runB
def TileHw.setRun (x : TileHw) (p : Path) (r : Nat) : TileHw :=
  match p with
  | .A => { x with runA := r }
  | .B => { x with runB := r }
def TileHw.setLast (x : TileHw) (p : Path) (t : Nat) : TileHw :=
  match p with
  | .A => { x with lastA := t }
  | .B => { x with lastB := t }
def TileHw.last (x : TileHw) : Path → Nat
  | .A => x.lastA
  | .B => x.lastB

/-- The words that a frame at instant `w` may still carry: a word reaches its lane within 25 µs (R28), so one whose frame has not
come by then is lost with it (R57). -/
def TileHw.prune (x : TileHw) (p : Path) (w : Nat) : TileHw := x.setQ p ((x.q p).filter (fun y => w ≤ y.w + 25000))

/-- The lane at the end of a tile link (R19). -/
def laneOfPath : Path → LaneId
  | .A => .A
  | .B => .B

/-- A word taken by the lane of its link, which also forwards it to the other lane (R19, R20). -/
def Lane.takeWord (l : Lane) (w : TWord) : Lane :=
  if l.serves then { l with cut := { l.cut with words := l.cut.words ++ [w] },
                            link := { l.link with fwd := l.link.fwd ++ [w] } } else l

/-- The words queued on a link that is up reach its lane; one whose cut has been taken is taken into no epoch (R35). -/
def State.deliver (s : State) (t : Nat) (p : Path) (k : Nat) : State :=
  let x := s.sh.tile t
  let ws := ((x.q p).take k).filter (fun y => s.sh.gt < y.w)
  let s := { s with sh := s.sh.setTile t (x.setQ p ((x.q p).drop k)) }
  if s.sh.tileLink t p then s.upd (laneOfPath p) (fun l => ws.foldl Lane.takeWord l) else s

/-- A link that has carried 8 consecutive valid frames is declared up. -/
def State.tileLinkUp (s : State) (t : Nat) (p : Path) : State :=
  if !s.sh.tileLink t p && 8 ≤ (s.sh.tile t).run p && s.sh.on (AIN_TSTAT t) AIN_TSTAT_TILE_PWR then
    ({ s with sh := s.sh.setB (AIN_TSTAT t) (linkBit p) true }).loadTile t
  else s

/-- A frame on a tile link at instant `w`: `word` says that it carries the word that is due. A frame that fails its
check is discarded and counted; the words of the frames before the link is up are discarded. -/
def State.tileFrame (s : State) (t : Nat) (p : Path) (word ok : Bool) (w : Nat) : State :=
  if !s.sh.on (AIN_TSTAT t) AIN_TSTAT_TILE_PWR then s else
  let s := s.tileLinkUp t p
  let x := (s.sh.tile t).prune p w
  let drop := x.setQ p ((x.q p).drop (if word then 1 else 0))
  if !ok then
    { s with sh := (s.sh.setTile t (drop.setRun p 0)).bump (AIN_TSTAT t) (linkErr p) }
  else
    let s := { s with sh := s.sh.setTile t ((x.setRun p (min 8 (x.run p + 1))).setLast p w) }
    if s.sh.tileLink t p then (if word then s.deliver t p 1 else s)
    else { s with sh := s.sh.setTile t ((drop.setRun p (min 8 (x.run p + 1))).setLast p w) }

/-- A link with no valid frame for 50 µs is lost. -/
def State.tileLinkLost (s : State) (t : Nat) (p : Path) (w : Nat) : State :=
  if s.sh.tileLink t p && (s.sh.tile t).last p + 50000 ≤ w then
    let x := s.sh.tile t
    let s := { s with sh := (s.sh.setB (AIN_TSTAT t) (linkBit p) false).setTile t ((x.setQ p []).setRun p 0) }
    s.taking (Lane.evCut · (evTileLink t))
  else s

/-! ### Changes that wait for their runs (R72, R75, R79) -/

def State.excSatChange (s : State) (n : Nat) : State :=
  let c := s.sh.chan n
  let on := s.sh.on (AIN_CHST n) AIN_CHST_EXC_SAT
  if !on && c.satRun = 2 then
    ({ s with sh := s.sh.setB (AIN_CHST n) AIN_CHST_EXC_SAT true }).taking (Lane.evCut · evExc)
  else if on && c.unsatRun = 2 then { s with sh := s.sh.setB (AIN_CHST n) AIN_CHST_EXC_SAT false }
  else s

def State.openChange (s : State) (n : Nat) : State :=
  let c := s.sh.chan n
  let on := s.sh.on (AIN_CHST n) AIN_CHST_OPEN
  if !on && c.opnRun = 2 then
    ({ s with sh := s.sh.setB (AIN_CHST n) AIN_CHST_OPEN true }).taking (Lane.evCut · evOpen)
  else if on && c.clsRun = 2 then { s with sh := s.sh.setB (AIN_CHST n) AIN_CHST_OPEN false }
  else s

/-! ### Platinum and nickel resistance (R120, R121) -/

/-- A decimal constant: `n` × 10 ^ −`d`, rounded once. -/
def dec (n : Int) (d : Nat) : F32 := F32.ofRat n (10 ^ d)

/-- One Newton step of R120. -/
def ptStep (r t : F32) : F32 :=
  let a := dec 39083 7
  let b := dec (-5775) 10
  let c := dec (-4183) 15
  let c3 := dec 4183 13
  let c4 := dec (-16732) 15
  let c33 := dec 12549 13
  let b2 := dec (-11550) 10
  let g := F32.add (F32.mul (F32.add (F32.mul (F32.add (F32.mul (F32.add (F32.mul c t) c3) t) b) t) a) t) (F32.ofInt 1)
  let dg := F32.add (F32.mul (F32.add (F32.mul (F32.add (F32.mul c4 t) c33) t) b2) t) a
  F32.sub t (F32.div (F32.sub g r) dg)

/-- The temperature of a platinum resistance ratio within its range (R120). -/
def ptTemp (r : F32) : F32 :=
  let a := dec 39083 7
  let b := dec (-5775) 10
  let disc := F32.sub (F32.mul a a) (F32.mul (F32.mul (F32.ofInt 4) b) (F32.sub (F32.ofInt 1) r))
  let t := F32.div (F32.add (F32.negate a) (F32.sqrt disc)) (F32.mul (F32.ofInt 2) b)
  let t := if F32.lt t 0#32 then ptStep r (ptStep r (ptStep r (ptStep r t))) else t
  F32.clamp (F32.ofInt (-200)) (F32.ofInt 850) t

/-- R(T)/R0 of IEC 60751 at −200 °C and +850 °C, R122. -/
def ptLo : F32 := F32.ofRat 18520080 100000000
def ptHi : F32 := F32.ofRat 390481125 100000000

/-- Linearisation of a platinum ratio with its limits: value and LIM. -/
def ptLin (r : F32) : F32 × Bool :=
  if F32.lt r ptLo then (F32.ofInt (-200), true) else if F32.gt r ptHi then (F32.ofInt 850, true) else (ptTemp r, false)

/-- One Newton step of R121. -/
def niStep (r t : F32) : F32 :=
  let a1 := dec 5485 6
  let a2 := dec 6650 9
  let a4 := dec 2805 14
  let n6 := dec (-2000) 20
  let m2 := dec 1330 8
  let m4 := dec 1122 13
  let m6 := dec (-1200) 19
  let g := F32.add (F32.mul (F32.add (F32.mul (F32.add (F32.mul (F32.mul (F32.add (F32.mul (F32.mul n6 t) t) a4) t) t) a2) t) a1) t)
    (F32.ofInt 1)
  let dg := F32.add (F32.mul (F32.add (F32.mul (F32.mul (F32.add (F32.mul (F32.mul m6 t) t) m4) t) t) m2) t) a1
  F32.sub t (F32.div (F32.sub g r) dg)

/-- Linearisation of a nickel ratio with its limits (R121, R122): value and LIM. -/
def niLin (r : F32) : F32 × Bool :=
  let lo := F32.ofRat 2172508109 3125000000
  let hi := F32.ofRat 6973517261 3125000000
  if F32.lt r lo then (F32.ofInt (-60), true) else if F32.gt r hi then (F32.ofInt 180, true) else
  let t := F32.div (F32.sub r (F32.ofInt 1)) (dec 5485 6)
  let t := niStep r (niStep r (niStep r (niStep r (niStep r (niStep r t)))))
  (F32.clamp (F32.ofInt (-60)) (F32.ofInt 180) t, false)

/-! ### Reference junctions (R77–R80) -/

/-- The reference-junction settings of a tile. -/
def State.tcfg (s : State) (t : Nat) : Word := s.lead.rd (AIN_TCFG t)

/-- The reference junction of a tile after a change of its state. -/
def State.cjcUse (s : State) (t : Nat) : State := { s with sh := s.sh.cjcUse (s.tcfg t) t }

/-- An auxiliary word of the reference-junction sensor: plausible when it lies within −40 °C … +110 °C and within
0.1 °C of the previous plausible word (R79); taken only with a tile link up, at the word instants of 10 S/s and once at each
(R34, R78), and not under FIXED (R80). -/
def State.cjcWord (s : State) (t : Nat) (res : Word) (w : Nat) : State :=
  let cfg := s.tcfg t
  if (s.sh.tile t).loaded && AIN_TCFG_CJC_EN.on cfg && !AIN_TCFG_FIXED.on cfg
      && (s.sh.tileLink t .A || s.sh.tileLink t .B) && isWordInstant 3 w && s.sh.gt < w && (s.sh.tile t).cjcAt < w then
    let temp := (ptLin (F32.div res (F32.ofInt 1000))).1
    let r := F32.div res (F32.ofInt 1000)
    let x := { s.sh.tile t with cjcAt := w }
    let inRange := F32.ge r ptLo && F32.le r ptHi && F32.ge temp (F32.ofInt (-40)) && F32.le temp (F32.ofInt 110)
    let near := match x.cjcPrev with
      | none => true
      | some p => F32.le (F32.abs (F32.sub temp p)) (dec 1 1)
    let ok := inRange && near
    let x := if ok then { x with cjcPrev := some temp, cjcBad := 0, cjcGood := min 10 (x.cjcGood + 1) }
      else { x with cjcBad := min 2 (x.cjcBad + 1), cjcGood := 0 }
    ({ s with sh := (s.sh.setTile t x).wr (AIN_CJCR t) res }).cjcUse t
  else s

/-- CJC_FAULT is set after 2 implausible words in a row and cleared after 10 plausible ones (R79). -/
def State.cjcChange (s : State) (t : Nat) : State :=
  let x := s.sh.tile t
  let on := s.sh.on (AIN_TSTAT t) AIN_TSTAT_CJC_FAULT
  if !on && x.cjcBad = 2 then
    (({ s with sh := s.sh.setB (AIN_TSTAT t) AIN_TSTAT_CJC_FAULT true }).cjcUse t).taking (Lane.evCut · (evCjc t))
  else if on && x.cjcGood = 10 then ({ s with sh := s.sh.setB (AIN_TSTAT t) AIN_TSTAT_CJC_FAULT false }).cjcUse t
  else s

/-! ### Shunt trip (R82, R83) -/

/-- The shunt of an mA channel opens: TRIPS counts, range stages return to ×1, a running check is aborted (R109). -/
def State.shuntTrip (s : State) (n w : Nat) : State :=
  if s.sh.on (AIN_CHST n) AIN_CHST_SHUNT then
    let h := s.sh.chkAbort n w
    let h := (h.setB (AIN_CHST n) AIN_CHST_SHUNT false).setB (AIN_CHST n) AIN_CHST_SHUNT_TRIP true
    let h := (h.bump (AIN_CHST n) AIN_CHST_TRIPS).setGain n .A 1 |>.setGain n .B 1
    let h := h.setChan n { h.chan n with tripAt := w, retry := false, rngRun := false, rngPos := 0, downRun := 0 }
    ({ s with sh := h }).taking (Lane.evCut · evShuntTrip)
  else s

/-! ### Injection slots and results -/

def pathOfNum (k : Nat) : Path := if k % 2 = 0 then .A else .B
def numOfPath : Path → Nat
  | .A => 0
  | .B => 1

/-- A path may be checked (R105). -/
def State.eligible (s : State) (n : Nat) (p : Path) : Bool :=
  let c := s.sh.chan n
  let pcfg := s.ainPcfg n
  AIN_PCFG_INJ_EN.on pcfg && AIN_CFG_SENSOR.get (s.ainCfg n) != 0
    && !s.lead.on (AIN_VFLG n) AIN_VFLG_SINGLE && !s.sh.on (AIN_CHST n) AIN_CHST_SHUNT_TRIP
    && !(c.hard && c.settle != 0) && !c.rngRun
    && !injMarked c p.other s.sh.gt && !rangeMark c pcfg p.other

/-- The first eligible path in the tile's order from `k` on, at most `fuel` paths. -/
def State.nextEligible (s : State) (t : Nat) : Nat → Nat → Option Nat
  | 0, _ => none
  | fuel + 1, k => if s.eligible (8 * t + k % 16 / 2) (pathOfNum k) then some (k % 16) else s.nextEligible t fuel (k + 1)

/-- A tile starts one check on its next eligible path (R104, steps 1 of R106). -/
def State.injStart (s : State) (t : Nat) : State :=
  let x := s.sh.tile t
  if x.loaded && !x.chk then
    match s.nextEligible t 16 x.injNext with
    | none => s
    | some k =>
      let n := 8 * t + k / 2
      let p := pathOfNum k
      let held := s.sh.fld (AIN_INJST n) (abortsFld p) == 15
      let h := (s.sh.setTile t { x with chk := true, chkCh := n, chkPath := p, chkAt := s.sh.gt, chkHeld := held,
                                        injNext := (k + 1) % 16 }).setChan n ((s.sh.chan n).injBegin p s.sh.gt)
      let h := h.setB (AIN_CHST n) (injFld p) true
      let h := h.setB (AIN_INJST n) AIN_INJST_ACTIVE true
      { s with sh := h.setF (AIN_INJST n) AIN_INJST_ACT_PATH (numOfPath p) }
  else s

/-- An injection slot: at a boundary that is a multiple of 100 ms, once (R104). -/
def State.injSlot (s : State) : State :=
  if s.sh.gt % 100000000 = 0 && s.sh.injAt != some s.sh.gt then
    let s := { s with sh := { s.sh with injAt := some s.sh.gt } }
    (upTo 12).foldl State.injStart s
  else s

/-- The arithmetic of R107: pass, off and gt from the exact sums of the 24 codes at each level. -/
def injMath (sp sm : Int) : Bool × F32 × F32 :=
  let lp := F32.ofRat (sp * 256) 20132659200
  let lm := F32.ofRat (sm * 256) 20132659200
  let lvl := dec 128 2
  let lim := dec 128 5
  let pass := F32.le (F32.abs (F32.sub lp lvl)) lim && F32.le (F32.abs (F32.add lm lvl)) lim
  (pass, F32.mul (F32.add lp lm) (dec 5 1), F32.div (F32.sub lp lm) (dec 256 2))

def passFld : Path → Fld
  | .A => AIN_INJST_PASS_A
  | .B => AIN_INJST_PASS_B
def doneFld : Path → Fld
  | .A => AIN_INJST_DONE_A
  | .B => AIN_INJST_DONE_B

/-- A check result reaches a lane with its coming cut. -/
def Lane.takeInj (r : InjRes) (l : Lane) : Lane := { l with cut := { l.cut with inj := l.cut.inj ++ [r] } }

/-- The end of a check 64 ms after its start (step 8 of R106, R107): the result goes to both lanes (DESIGN CHOICE, log 97: also
while both tile links are lost); a range or excitation change that waited for it may go on (R109). -/
def State.injResult (s : State) (t : Nat) (sp sm : Int) (w : Nat) : State :=
  let x := s.sh.tile t
  if x.chk && x.chkAt + 64000000 ≤ w then
    let n := x.chkCh
    let p := x.chkPath
    let r := injMath sp sm
    let h := s.sh.chkEnd t (x.chkAt + 64000000)
    let h := (h.setB (AIN_INJST n) (doneFld p) true).setB (AIN_INJST n) (passFld p) r.1
    let h := h.setF (AIN_INJST n) (abortsFld p) 0
    let h := if r.1 then h.setF (AIN_INJST n) AIN_INJST_LATEST (numOfPath p) else h.bump (AIN_INJST n) AIN_INJST_FAILS
    ({ s with sh := h }).taking (Lane.takeInj { ch := n, path := p, pass := r.1, off := r.2.1, gt := r.2.2 })
  else s

/-! ### AIN commands (R87–R93, R126, R127) -/

/-- Acceptance of a command: BUSY, LAST_OP and LAST_CH. -/
def Lane.ainNote (l : Lane) (op ch : Nat) : Lane :=
  ((l.setF AIN_CMDST AIN_CMDST_STATUS stBusy).setF AIN_CMDST AIN_CMDST_LAST_OP op).setF AIN_CMDST AIN_CMDST_LAST_CH ch

/-- Whether an AIN command is INVALID (R89). -/
def ainInvalid (op ch arg : Nat) : Bool :=
  ch > 95 || (match op with
    | 1 => arg > 2
    | 2 => arg > 1
    | 3 | 4 => arg != 0
    | _ => true)

/-- Whether a valid AIN command is refused at its boundary (R88, R126). -/
def ainRefused (h : Shared) (l : Lane) (op ch arg : Nat) : Bool :=
  let sensor := l.fld (AIN_CFG ch) AIN_CFG_SENSOR
  match op with
  | 1 => !isRtd sensor || (arg == 2 && (sensor == senPt1000 || sensor == senNi1000)) || (h.chan ch).excBusy
  | 2 => !(isTc sensor || sensor == senMv)
  | 3 => !h.on (AIN_CHST ch) AIN_CHST_SHUNT_TRIP
  | _ => !l.on (AIN_VFLG ch) AIN_VFLG_SINGLE || l.fld (AIN_VFLG ch) AIN_VFLG_SP_CAUSE == 3
      || l.fld (AIN_VFLG ch) AIN_VFLG_RST_CNT < 16

/-- The lane's part of an AIN command that takes effect (R90, R127). -/
def Lane.ainEffect (l : Lane) (op ch arg : Nat) : Lane :=
  match op with
  | 1 => if arg = 0 then l.setF (AIN_CFG ch) AIN_CFG_EXC_OFF 1
         else (l.setF (AIN_CFG ch) AIN_CFG_EXC_OFF 0).setF (AIN_CFG ch) AIN_CFG_IEXC (arg - 1)
  | 2 => l.setF (AIN_CFG ch) AIN_CFG_BURNOUT arg
  | 3 => l
  | _ => (((l.setF (AIN_VFLG ch) AIN_VFLG_SINGLE 0).setF (AIN_VFLG ch) AIN_VFLG_SP_CAUSE 0).setF
      (AIN_VFLG ch) AIN_VFLG_DIS_CNT 0).setF (AIN_VFLG ch) AIN_VFLG_RST_CNT 0

/-- The tile's part of an AIN command that takes effect, `l` being the lane after it (R84, R83, R127). DESIGN CHOICE (log 68): a
command that gives the setting already in force restarts the chains too (R113). DESIGN CHOICE (log 94): from its boundary on a
change of the excitation counts as one in its stale time, also while it waits for its word instant or for a held check. -/
def Shared.ainEffect (h : Shared) (l : Lane) (op ch : Nat) : Shared :=
  let c := h.chan ch
  match op with
  | 1 =>
    let on := (h.tile (tileOf ch)).loaded
    (h.setChan ch { c with due := true, force := c.started, excDue := on, excBusy := on }).frontFrom
      (l.rd (AIN_CFG ch)) (l.rd (AIN_PCFG ch)) ch h.gt
  | 2 => (h.setChan ch { c with due := true, force := c.started }).frontFrom (l.rd (AIN_CFG ch)) (l.rd (AIN_PCFG ch)) ch h.gt
  | 3 =>
    if c.lastW == h.gt && (h.tile (tileOf ch)).loaded then h.recloseAt (l.rd (AIN_CFG ch)) (l.rd (AIN_PCFG ch)) ch h.gt
    else h.setChan ch { c with retry := true }
  | _ =>
    let x := h.tile (tileOf ch)
    h.setTile (tileOf ch) { x with injNext := 2 * (ch % 8) + (1 - l.fld (AIN_VFLG ch) AIN_VFLG_SRC) }

/-- The status a command ends with. -/
def ainStatus (h : Shared) (l : Lane) (op ch arg : Nat) : Nat :=
  if ainInvalid op ch arg then stInvalid else if ainRefused h l op ch arg then stRefused else stDone

/-- A lane at the effect boundary of an AIN command. -/
def Lane.ainCmd (h : Shared) (op ch arg : Nat) (l : Lane) : Lane :=
  let st := ainStatus h l op ch arg
  let l' := l.setF AIN_CMDST AIN_CMDST_STATUS st
  if st = stDone then l'.ainEffect op ch arg else l'.ev evAinRefused

/-- An AIN command at its effect boundary. -/
def State.ainCmd (s : State) (op ch arg : Nat) : State :=
  let sh := if ainStatus s.sh s.lead op ch arg = stDone then s.sh.ainEffect (s.lead.ainEffect op ch arg) op ch else s.sh
  (s.both (Lane.ainCmd s.sh op ch arg)).withSh sh

/-- An AIN command written and taking effect. -/
def State.ainRow (s : State) (op ch arg : Nat) : State := (s.both (Lane.ainNote · op ch)).ainCmd op ch arg

/-! ### Meanings -/



/-- WORD_INSTANT (R34, R57, R69, R110): both paths of a channel complete a word `t` ns after the newest boundary;
`aOver`, `bOver`: the modulator input exceeds 105 % of the range where its code cannot show it (R63); `sat`: a source is at its compliance limit. -/
def execWordInstant (ch : Fin 96) (a : BitVec 24) (aOver : Bool) (b : BitVec 24) (bOver sat : Bool) (t : Nat) (s : State) : Res :=
  .next (s.wordInstant ch a aOver b bOver sat (s.sh.gt + t))
/-- STALE_WINDOW_END (R114): the word instant at which the first settled word after a restart completes. -/
def execStaleWindowEnd (ch : Fin 96) (a : BitVec 24) (aOver : Bool) (b : BitVec 24) (bOver sat : Bool) (t : Nat) (s : State) : Res :=
  .next (if (s.sh.chan ch).settle = 1 then s.wordInstant ch a aOver b bOver sat (s.sh.gt + t) else s)
/-- RANGE_CHANGE_STEP (R111). -/
def execRangeChangeStep (ch : Fin 96) (s : State) : Res := .next (s.withSh (s.sh.rangeStep (s.ainPcfg ch) ch))
/-- EXC_SAT_CHANGE (R72). -/
def execExcSatChange (ch : Fin 96) (s : State) : Res := .next (s.excSatChange ch)
/-- OPEN_CIRCUIT_CHANGE (R75). -/
def execOpenCircuitChange (ch : Fin 96) (s : State) : Res := .next (s.openChange ch)
/-- TILE_WORD_FRAME (R57): a frame with the word that is due. -/
def execTileWordFrame (tile : Fin 12) (link : Path) (ok : Bool) (t : Nat) (s : State) : Res :=
  .next (s.tileFrame tile link true ok (s.sh.gt + t))
/-- TILE_IDLE_FRAME (R57). -/
def execTileIdleFrame (tile : Fin 12) (link : Path) (ok : Bool) (t : Nat) (s : State) : Res :=
  .next (s.tileFrame tile link false ok (s.sh.gt + t))
/-- TILE_LINK_UP (R57). -/
def execTileLinkUp (tile : Fin 12) (link : Path) (s : State) : Res := .next (s.tileLinkUp tile link)
/-- TILE_LINK_LOST (R57). -/
def execTileLinkLost (tile : Fin 12) (link : Path) (t : Nat) (s : State) : Res := .next (s.tileLinkLost tile link (s.sh.gt + t))
/-- CJC_WORD (R78, R79): `res` is the measured resistance, the word instant `t` ns after the newest boundary. -/
def execCjcWord (tile : Fin 12) (res : Word) (t : Nat) (s : State) : Res := .next (s.cjcWord tile res (s.sh.gt + t))
/-- CJC_FAULT_CHANGE (R79). -/
def execCjcFaultChange (tile : Fin 12) (s : State) : Res := .next (s.cjcChange tile)
/-- SHUNT_TRIP (R82). -/
def execShuntTrip (ch : Fin 96) (t : Nat) (s : State) : Res := .next (s.shuntTrip ch (s.sh.gt + t))
/-- SHUNT_RECLOSE (R83): at a word instant of the channel. -/
def execShuntReclose (ch : Fin 96) (t : Nat) (s : State) : Res :=
  let w := s.sh.gt + t
  .next (if s.sh.recloseDue ch w && isWordInstant (s.rateOf ch) w then
      s.withSh (s.sh.recloseAt (s.ainCfg ch) (s.ainPcfg ch) ch w) else s)
/-- SET_EXC (R88, R90). -/
def execSetExc (ch : BitVec 7) (arg : BitVec 8) (s : State) : Res := .next (s.ainRow 1 ch.toNat arg.toNat)
/-- SET_BURNOUT (R88, R90). -/
def execSetBurnout (ch : BitVec 7) (arg : BitVec 8) (s : State) : Res := .next (s.ainRow 2 ch.toNat arg.toNat)
/-- SHUNT_RETRY (R83, R88). -/
def execShuntRetry (ch : BitVec 7) (arg : BitVec 8) (s : State) : Res := .next (s.ainRow 3 ch.toNat arg.toNat)
/-- RESTORE_PATHS (R126, R127). -/
def execRestorePaths (ch : BitVec 7) (arg : BitVec 8) (s : State) : Res := .next (s.ainRow 4 ch.toNat arg.toNat)
/-- INJECTION_SLOT (R104–R106). -/
def execInjectionSlot (s : State) : Res := .next s.injSlot
/-- INJECTION_RESULT (R107): the exact sums of the 24 codes at +1.28 V and at −1.28 V. -/
def execInjectionResult (tile : Fin 12) (sp sm : Int) (t : Nat) (s : State) : Res := .next (s.injResult tile sp sm (s.sh.gt + t))

end Sys2Proof.Machine
end

