-- ==== Sys2Proof/Machine/Measure.lean ====
section
/-! DEFINITION. Dual-path measurement and scaling (spec/03): calibrated input values, the agreement rule, the restore
check, linearisation, characteristics, engineering scaling and substitution. -/

namespace Sys2Proof.Machine

def Lane.chan (l : Lane) (n : Nat) : ChanWork := l.chans.at {} n
def Lane.setChan (l : Lane) (n : Nat) (c : ChanWork) : Lane := { l with chans := l.chans.upd {} n c }

/-! ### Calibrated input values (R688, R689) -/

/-- The trim (off, gt) of a path in force: the production values until a check has passed (R107, R130). -/
def ChanWork.trim (c : ChanWork) (n : Nat) : Path → Word × Word
  | .A => c.trimA.getD (Config.trimOff n 0, Config.trimGt n 0)
  | .B => c.trimB.getD (Config.trimOff n 1, Config.trimGt n 1)

/-- v of R688: the binary32 value nearest code × 2.56 / 2^23. -/
def codeVolts (code : BitVec 24) : F32 := F32.ofRat (code.toInt * 256) (100 * 2 ^ 23)

/-- vt of R688. -/
def wordVt (c : ChanWork) (w : TWord) : F32 :=
  F32.div (F32.sub (codeVolts w.code) (c.trim w.ch w.path).1) (c.trim w.ch w.path).2

/-- The front-end factor k of R688. -/
def frontK (cfg : Word) (g : Nat) : F32 :=
  match AIN_CFG_RANGE.get cfg with
  | 4 => F32.ofRat (2 ^ g : Nat) 8
  | 5 => F32.ofNat (2 ^ g * 50)
  | 6 => if AIN_CFG_IEXC.on cfg then F32.ofRat (2 ^ g : Nat) 1000 else F32.ofRat (2 ^ g * 25 : Nat) 100000
  | _ => F32.ofNat (2 ^ g)

/-- The largest resistance of R67 for a sensor and excitation. -/
def rtdMax (sensor : Nat) : Nat :=
  if sensor = senPt100 then 400 else if sensor = senPt500 then 2000 else if sensor = senPt1000 then 4000 else 3000

/-- The full-scale magnitude fs of R689 on the range in force (`low`: the lower range of an auto-ranging channel). -/
def fullScale (cfg : Word) (low : Bool) : F32 :=
  match AIN_CFG_RANGE.get cfg with
  | 0 => dec 2 2
  | 1 => dec 8 2
  | 2 => dec 32 2
  | 3 => dec 128 2
  | 4 => if low then dec 128 2 else dec 1024 2
  | 5 => if low then dec 32 4 else dec 24 3
  | _ => F32.ofNat (rtdMax (AIN_CFG_SENSOR.get cfg))

/-- A word stands on the lower range of an auto-ranging channel. -/
def onLow (cfg : Word) (w : TWord) : Bool := autoRanges cfg && w.gain == lowGain

/-- The stored vt of a path and phase, with the number of changes of settings before it. -/
def ChanWork.phaseV (c : ChanWork) : Path → Nat → Option (Nat × Word)
  | .A, 0 => c.vA0
  | .A, _ => c.vA1
  | .B, 0 => c.vB0
  | .B, _ => c.vB1
def ChanWork.setPhaseV (c : ChanWork) (p : Path) (ph : Nat) (v : Option (Nat × Word)) : ChanWork :=
  match p, ph with
  | .A, 0 => { c with vA0 := v }
  | .A, _ => { c with vA1 := v }
  | .B, 0 => { c with vB0 := v }
  | .B, _ => { c with vB1 := v }

/-- cal of a word (R688). An RTD word has none until its path holds a conversion of each phase (log 30). -/
def calOf (cfg : Word) (c : ChanWork) (w : TWord) : Option F32 :=
  if isRtd (AIN_CFG_SENSOR.get cfg) then
    match c.phaseV w.path 0, c.phaseV w.path 1 with
    | some v0, some v1 =>
      if v0.1 = v1.1 then some (F32.div (F32.mul (F32.add v0.2 v1.2) (dec 5 1)) (frontK cfg w.gain)) else none
    | _, _ => none
  else some (F32.div (wordVt c w) (frontK cfg w.gain))

/-- A word enters the rule: a new trim applies from the first word not marked INJ (R107), and a conversion is kept
under its phase (R69); conversions from before and after a change of settings are not combined (R85). -/
def ChanWork.enter (c : ChanWork) (cfg : Word) (w : TWord) : ChanWork :=
  let c := if w.inj then c else match w.path with
    | .A => { c with trimA := c.newA.or c.trimA, newA := none }
    | .B => { c with trimB := c.newB.or c.trimB, newB := none }
  if isRtd (AIN_CFG_SENSOR.get cfg) && !w.stale then
    c.setPhaseV w.path w.phase (some (w.gen, wordVt c w))
  else c

/-- The word is stale, or an RTD word that cannot form a result yet (log 30). -/
def wordStale (cfg : Word) (c : ChanWork) (w : TWord) : Bool := w.stale || (calOf cfg c w).isNone

/-- The tolerance test of R689. -/
def inTol (cfg pcfg : Word) (c : ChanWork) (a b : TWord) : Bool :=
  let fs := fullScale cfg (onLow cfg a)
  let tl := F32.div (F32.mul (F32.ofNat (AIN_PCFG_TOL.get pcfg)) fs) (F32.ofNat 100000)
  match calOf cfg c a, calOf cfg c b with
  | some x, some y => F32.le (F32.abs (F32.sub x y)) tl
  | _, _ => false

/-! ### Linearisation and scaling (R117–R125) -/

/-- A polynomial in Horner form, from the highest coefficient on (R118). -/
def horner (cs : List F32) (x : F32) : F32 :=
  match cs with
  | [] => 0#32
  | c :: cs => cs.foldl (fun v k => F32.add (F32.mul v x) k) c
/-- The reference function of IEC 60584-1: emf in volts at a temperature (R118). -/
def tcEmf (sensor : Nat) (t : F32) : F32 := Config.tcRefEnd sensor t (horner (Config.tcRef sensor t) t)
/-- The inverse function of IEC 60584-1: temperature at an emf in volts (R118). -/
def tcTemp (sensor : Nat) (e : F32) : F32 := horner (Config.tcInv sensor e) (Config.tcInvUnit sensor e)

/-- Step 3: the linearised value and LIM. -/
def linearise (cfg : Word) (cjc x : F32) : F32 × Bool :=
  let sensor := AIN_CFG_SENSOR.get cfg
  if isTc sensor then
    let e := F32.add x (tcEmf sensor cjc)
    if F32.lt e (Config.tcEmfLo sensor) then (Config.tcLo sensor, true)
    else if F32.gt e (Config.tcEmfHi sensor) then (Config.tcHi sensor, true)
    else (F32.clamp (Config.tcLo sensor) (Config.tcHi sensor) (tcTemp sensor e), false)
  else if sensor = senPt100 then ptLin (F32.div x (F32.ofNat 100))
  else if sensor = senPt500 then ptLin (F32.div x (F32.ofNat 500))
  else if sensor = senPt1000 then ptLin (F32.div x (F32.ofNat 1000))
  else if sensor = senNi1000 then niLin (F32.div x (F32.ofNat 1000))
  else (x, false)

/-- The table rule of R124: the largest index with tx[i] ≤ x, searched from 31 down. -/
def tableIdx (tx : Nat → F32) (x : F32) : Nat → Nat
  | 0 => 0
  | i + 1 => if F32.le (tx (i + 1)) x then i + 1 else tableIdx tx x i

def tableVal (tx ty : Nat → F32) (x : F32) : F32 :=
  if F32.le x (tx 0) then ty 0
  else if F32.ge x (tx 32) then ty 32
  else
    let i := tableIdx tx x 31
    let f := F32.div (F32.sub x (tx i)) (F32.sub (tx (i + 1)) (tx i))
    F32.add (ty i) (F32.mul f (F32.sub (ty (i + 1)) (ty i)))

/-- Step 4: the characteristic (R123, R124). DESIGN CHOICE (log 69): the full-scale magnitude of an auto-ranging V channel is that of
the range in force, and an mA input is normalised as (x − 0.004) / 0.016. -/
def characteristic (l : Lane) (cfg pcfg : Word) (low : Bool) (x : F32) : F32 :=
  match AIN_PCFG_CHAR.get pcfg with
  | 1 =>
    let y := if AIN_CFG_SENSOR.get cfg = senMa then F32.div (F32.sub x (dec 4 3)) (dec 16 3)
      else F32.div x (fullScale cfg low)
    let y := F32.clamp 0#32 (F32.ofNat 1) y
    let cut := F32.div (F32.ofNat (AIN_PCFG_CUTOFF.get pcfg)) (F32.ofNat 200)
    if F32.lt y cut then 0#32 else F32.sqrt y
  | 2 =>
    let k := AIN_PCFG_TABLE.get pcfg
    tableVal (fun i => l.rd (AIN_TX k i)) (fun i => l.rd (AIN_TY k i)) x
  | _ => x

/-- Steps 2 to 5 of R117 on a calibrated input value: the scaled value and LIM. -/
def scaleVal (l : Lane) (cfg pcfg : Word) (n : Nat) (cjc : F32) (low : Bool) (x : F32) : F32 × Bool :=
  let x := if isRtd (AIN_CFG_SENSOR.get cfg) && AIN_CFG_WIRES.get cfg = 0 then
      F32.sub x (F32.div (F32.ofNat (AIN_CFG_LEAD.get cfg)) (F32.ofNat 10)) else x
  let lin := linearise cfg cjc x
  let y := characteristic l cfg pcfg low lin.1
  (F32.add (F32.mul y (l.rd (AIN_EGAIN n))) (l.rd (AIN_EOFF n)), lin.2)

/-! ### The agreement rule (R99) -/

/-- The settings of channel `n` for a word: the front end the word was made under (R84), LEAD as the registers hold it. -/
def Lane.wordCfg (l : Lane) (n : Nat) (w : TWord) : Word := (l.rd (AIN_CFG n) &&& ~~~ 0x1FFF#32) ||| w.front

/-- A tile link as the cut holds it. -/
def Lane.hwLink (l : Lane) (t : Nat) (p : Path) : Bool :=
  l.hwOn (AIN_TSTAT t) (linkBit p) && (!l.adj.ownPath || p == l.id.ownPath)

/-- Hold with NOPATH. -/
def Lane.holdNoPath (l : Lane) (n : Nat) : Lane :=
  (((l.setB (AIN_VFLG n) AIN_VFLG_NOPATH true).setB (AIN_VFLG n) AIN_VFLG_STALE false).setB
    (AIN_VFLG n) AIN_VFLG_RANGE_TR false).setB (AIN_VFLG n) AIN_VFLG_INJ false
/-- Hold the last good value with STALE. -/
def Lane.holdStale (l : Lane) (n : Nat) : Lane :=
  (((l.setB (AIN_VFLG n) AIN_VFLG_STALE true).setB (AIN_VFLG n) AIN_VFLG_NOPATH false).setB
    (AIN_VFLG n) AIN_VFLG_RANGE_TR false).setB (AIN_VFLG n) AIN_VFLG_INJ false

/-- The word becomes the channel's input to scaling, SRC names its path (R99, R117–R125). A NaN or infinite result is
replaced by SUBST; the substitute-value event marks the change. -/
def Lane.useWord (l : Lane) (n : Nat) (w : TWord) (rangeTr inj : Bool) : Lane :=
  let cfg := l.wordCfg n w
  let pcfg := l.rd (AIN_PCFG n)
  match calOf cfg (l.chan n) w with
  | none => l.holdStale n
  | some x =>
    let t := tileOf n
    let r := scaleVal l cfg pcfg n (l.hwRd (AIN_CJC t)) (onLow cfg w) x
    let bad := !F32.isFin r.1
    let was := l.on (AIN_VFLG n) AIN_VFLG_SUBST
    let fb := isTc (AIN_CFG_SENSOR.get cfg) && l.hwOn (AIN_TSTAT t) AIN_TSTAT_CJC_FAULT && !AIN_TCFG_FIXED.on (l.rd (AIN_TCFG t))
    let l := l.wr (AIN_VAL n) (if bad then l.rd (AIN_SUBST n) else r.1)
    let f := l.rd (AIN_VFLG n)
    let f := AIN_VFLG_STALE.put 0 (AIN_VFLG_NOPATH.put 0 f)
    let f := AIN_VFLG_RANGE_TR.put rangeTr.toNat (AIN_VFLG_INJ.put inj.toNat f)
    let f := AIN_VFLG_OVR.put w.ovr.toNat (AIN_VFLG_CJC_FB.put fb.toNat f)
    let f := AIN_VFLG_LIM.put r.2.toNat (AIN_VFLG_SUBST.put bad.toNat f)
    let f := AIN_VFLG_SRC.put (numOfPath w.path) f
    let l := l.wr (AIN_VFLG n) f
    if bad && !was then l.ev evSubst else l

/-- The channel becomes single-path on `src`. -/
def Lane.goSingle (l : Lane) (n : Nat) (src : Path) (cause : Nat) : Lane :=
  (((l.setB (AIN_VFLG n) AIN_VFLG_SINGLE true).setF (AIN_VFLG n) AIN_VFLG_SRC (numOfPath src)).setF
    (AIN_VFLG n) AIN_VFLG_SP_CAUSE cause).setF (AIN_VFLG n) AIN_VFLG_RST_CNT 0

/-- trusted() of R99. -/
def trusted (c : ChanWork) (pcfg : Word) : Path := c.latest.getD (primOf pcfg)

/-- The word of a path. -/
def ofPath (a b : Option TWord) : Path → Option TWord
  | .A => a
  | .B => b

/-- restore_check(a, b) of R99; `upA`, `upB`: the tile links as the lane sees them (R331). -/
def Lane.restoreCheck (l : Lane) (n : Nat) (upA upB : Bool) (a b : Option TWord) : Lane :=
  let pcfg := l.rd (AIN_PCFG n)
  let c := l.chan n
  let cnt := l.fld (AIN_VFLG n) AIN_VFLG_RST_CNT
  let cnt' := match a, b with
    | some x, some y =>
      if x.inj || x.rangeTr || y.inj || y.rangeTr || wordStale (l.wordCfg n x) c x || (calOf (l.wordCfg n x) c y).isNone then cnt
      else if inTol (l.wordCfg n x) pcfg c x y then min 16 (cnt + 1) else 0
    | _, _ => 0
  let l := l.setF (AIN_VFLG n) AIN_VFLG_RST_CNT cnt'
  if l.fld (AIN_VFLG n) AIN_VFLG_SP_CAUSE = 3 && upA && upB && cnt' = 16 then
    (((l.setB (AIN_VFLG n) AIN_VFLG_SINGLE false).setF (AIN_VFLG n) AIN_VFLG_SP_CAUSE 0).setF
      (AIN_VFLG n) AIN_VFLG_DIS_CNT 0).setF (AIN_VFLG n) AIN_VFLG_RST_CNT 0
  else l

/-- The part of R99 for a single-path channel. -/
def Lane.agreeSingle (l : Lane) (n : Nat) (a b : Option TWord) : Lane :=
  match ofPath a b (pathOfNum (l.fld (AIN_VFLG n) AIN_VFLG_SRC)) with
  | none => l.holdNoPath n
  | some w => if wordStale (l.wordCfg n w) (l.chan n) w then l.holdStale n else l.useWord n w false false

/-- The comparing part of R99: both words present and both links up. A word without a result counts as stale on either path
(log 30). -/
def Lane.agreeBoth (l : Lane) (n : Nat) (a b : TWord) : Lane :=
  let cfg := l.wordCfg n a
  let pcfg := l.rd (AIN_PCFG n)
  let c := l.chan n
  if a.inj || a.rangeTr then l.useWord n b a.rangeTr a.inj
  else if b.inj || b.rangeTr then l.useWord n a b.rangeTr b.inj
  else if wordStale cfg c a || (calOf cfg c b).isNone then l.holdStale n
  else if inTol cfg pcfg c a b then
    let l := (l.setF (AIN_VFLG n) AIN_VFLG_DIS_CNT 0).setB (AIN_VFLG n) AIN_VFLG_DISAGREE false
    l.useWord n (match primOf pcfg with | .A => a | .B => b) false false
  else
    let d := l.fld (AIN_VFLG n) AIN_VFLG_DIS_CNT + 1
    let l := (l.setF (AIN_VFLG n) AIN_VFLG_DIS_CNT d).setB (AIN_VFLG n) AIN_VFLG_DISAGREE true
    let tr := trusted (l.chan n) pcfg
    let l := l.useWord n (match tr with | .A => a | .B => b) false false
    if d = 3 then (l.goSingle n tr 1).ev evSinglePath else l

/-- The agreement rule for one word instant (R99). -/
def Lane.agree (l : Lane) (n : Nat) (a b : Option TWord) : Lane :=
  let enter (l : Lane) (w : Option TWord) : Lane := match w with
    | none => l
    | some w => l.setChan n ((l.chan n).enter (l.wordCfg n w) w)
  let l := enter (enter l a) b
  let t := tileOf n
  let upA := l.hwLink t .A && (!l.adj.ownPath || l.id == .A)
  let upB := l.hwLink t .B && (!l.adj.ownPath || l.id == .B)
  if a.isNone && b.isNone then l.holdNoPath n else
  let l := if l.on (AIN_VFLG n) AIN_VFLG_SINGLE then l.restoreCheck n upA upB a b else l
  if l.on (AIN_VFLG n) AIN_VFLG_SINGLE then l.agreeSingle n a b
  else if !upA && !upB then l.holdNoPath n
  else if !upA || !upB then
    let src : Path := if upA then .A else .B
    let l := (l.goSingle n src 3).ev evSinglePath
    match ofPath a b src with
    | none => l.holdNoPath n
    | some w => l.useWord n w false false
  else
    match a, b with
    | none, none => l.holdNoPath n
    | none, some w => l.useWord n w false false
    | some w, none => l.useWord n w false false
    | some a, some b => l.agreeBoth n a b

/-! ### Phase 3 of an epoch -/

/-- A check result of the cut (R107): a pass gives a new trim, a failure makes the channel single-path on the other
path. DESIGN CHOICE (log 96): on a channel that is single-path already RST_CNT begins again at 0. -/
def Lane.injTaken (l : Lane) (r : InjRes) : Lane :=
  if r.pass then
    let c := l.chan r.ch
    l.setChan r.ch (match r.path with
      | .A => { c with newA := some (r.off, r.gt), latest := some .A }
      | .B => { c with newB := some (r.off, r.gt), latest := some .B })
  else (l.goSingle r.ch r.path.other 2).ev evInjFail

/-- The word of a channel's path at an instant, among the words of the cut. -/
def findWord (ws : List TWord) (n : Nat) (p : Path) (w : Nat) : Option TWord :=
  ws.find? (fun x => x.ch == n && x.path == p && x.w == w)

/-- The raw word register of a path after a cut (AIN_RAWA, AIN_RAWB): its newest word, or PRESENT cleared. -/
def rawWord (old : Word) (w : Option TWord) : Word :=
  match w with
  | none => AIN_RAWA_PRESENT.put 0 old
  | some w => w.code.setWidth 32 ||| AIN_RAWA_GAIN.put w.gain 0#32 ||| AIN_RAWA_OVR.put w.ovr.toNat 0#32
      ||| AIN_RAWA_PRESENT.put 1 0#32 ||| AIN_RAWA_MARK.put (w.inj || w.rangeTr).toNat 0#32

/-- The newest word of a channel's path in a list in order of arrival. -/
def newestWord (ws : List TWord) (n : Nat) (p : Path) : Option TWord :=
  (ws.filter (fun x => x.ch == n && x.path == p)).getLast?

/-- The word instants of channel `n` in the cut of boundary `b` that `h` holds: those of the word rate its tile works at (R84), of the
registers' rate while the tile has no settings, and none while the tile has yet to start the channel; and the instants of its words
of a rate before that. -/
def Lane.cutInstants (h : Shared) (ws : List TWord) (b n : Nat) (l : Lane) : List Nat :=
  let c := h.chan n
  let grid := if !(h.tile (tileOf n)).loaded then instantsOf (l.fld (AIN_PCFG n) AIN_PCFG_RATE) b
    else if AIN_CFG_SENSOR.get c.front = 0 then [] else instantsOf c.rate b
  sortBy (fun w => w) ((ws.filter (fun x => x.ch == n)).foldl (fun is x => if is.contains x.w then is else is ++ [x.w]) grid)

/-- The rule for word instants of a channel in order (R33, R99). -/
def Lane.agreeAll (ws : List TWord) (n : Nat) (ats : List Nat) (l : Lane) : Lane :=
  ats.foldl (fun l w => l.agree n (findWord ws n .A w) (findWord ws n .B w)) l

/-- The channel becomes single-path with cause disagreement (R99). -/
def becameSingle (n : Nat) (l l' : Lane) : Bool :=
  !l.on (AIN_VFLG n) AIN_VFLG_SINGLE && l'.on (AIN_VFLG n) AIN_VFLG_SINGLE && l'.fld (AIN_VFLG n) AIN_VFLG_SP_CAUSE == 1
/-- The restore check ends the single-path state (R102). -/
def endedSingle (n : Nat) (l l' : Lane) : Bool :=
  l.on (AIN_VFLG n) AIN_VFLG_SINGLE && !l'.on (AIN_VFLG n) AIN_VFLG_SINGLE

/-- The words of channel `n` in the cut of boundary `b` that `h` holds (R33, R99). A channel that the rule isolates or restores is
left for the rest of phase 3, where its own row or the phase after takes it up. -/
def Lane.measureChan (h : Shared) (ws : List TWord) (b : Nat) (l : Lane) (n : Nat) : Lane :=
  if l.fld (AIN_CFG n) AIN_CFG_SENSOR = 0 then l else
  let ats := l.cutInstants h ws b n
  let l' := l.agreeAll ws n ats
  let l := if becameSingle n l l' || endedSingle n l l' then
      { l with cut := { l.cut with late := l.cut.late ++ [⟨n, ats, ws.filter (fun x => x.ch == n)⟩] } }
    else l'
  let l := (l.wr (AIN_RAWA n) (rawWord (l.rd (AIN_RAWA n)) (newestWord ws n .A))).wr
    (AIN_RAWB n) (rawWord (l.rd (AIN_RAWB n)) (newestWord ws n .B))
  l.setB (AIN_VFLG n) AIN_VFLG_OPEN (l.hwOn (AIN_CHST n) AIN_CHST_OPEN)

/-- Phase 3 for the analogue inputs: the check results and words of the cut of boundary `b` that `h` holds, all channels (R28, R98).
Words later than `b` wait for the next cut, words of an earlier one are taken into none (R35); after a mismatch a lane takes its
own path only (R331). -/
def Lane.measure (h : Shared) (b : Nat) (l : Lane) : Lane :=
  let now := l.cut.words.filter (fun w => w.w ≤ b && b < w.w + 1000000 && (!l.adj.ownPath || w.path == l.id.ownPath))
  let rest := l.cut.words.filter (fun w => b < w.w)
  let inj := l.cut.inj
  let l := { l with cut := { l.cut with words := rest, inj := [], late := [] } }
  (upTo 96).foldl (Lane.measureChan h now b) (inj.foldl Lane.injTaken l)

/-! ### The rest of phase 3 -/

/-- A channel that phase 3 has left is taken up when `p` holds of the lane before and after it. -/
def Lane.agreeLate (n : Nat) (p : Lane → Lane → Bool) (l : Lane) : Lane :=
  match l.cut.late.find? (fun x => x.ch == n) with
  | none => l
  | some x =>
    let l' := l.agreeAll x.words n x.at_
    if p l l' then { l' with cut := { l'.cut with late := l'.cut.late.filter (fun y => y.ch != n) } } else l

/-- Phase 3 ends: every channel it has left is taken up (R28). -/
def Lane.phase3 (l : Lane) : Lane :=
  let late := l.cut.late
  late.foldl (fun l x => l.agreeAll x.words x.ch x.at_) { l with cut := { l.cut with late := [] } }

/-- SINGLE_PATH_DISAGREEMENT (R99): in phase 3 of the running epoch dis_cnt of the channel reaches 3. -/
def execSinglePathDisagreement (ch : Fin 96) (s : State) : Res := .next (s.both (Lane.agreeLate ch (becameSingle ch)))
/-- RESTORE_CHECK_COMPLETE (R102): in phase 3 of the running epoch RST_CNT of the channel reaches 16 with both links up. -/
def execRestoreCheckComplete (ch : Fin 96) (s : State) : Res := .next (s.both (Lane.agreeLate ch (endedSingle ch)))

end Sys2Proof.Machine
end

