-- ==== Sys2Proof/Machine/Control.lean ====
section
/-! DEFINITION. The control engine (spec/07, R216–R243): 32 loops, their modes, cascades, destinations, coefficient
swaps, commands, and the time-proportioned outputs. -/

namespace Sys2Proof.Machine

def mMan : Nat := 0
def mAuto : Nat := 1
def mCas : Nat := 2

/-- 1.0, 100.0 and 1000.0. -/
def fOne : F32 := 0x3F800000#32
def fHundred : F32 := 0x42C80000#32
def fThousand : F32 := 0x447A0000#32

/-- The working state of loop `n`. -/
def Lane.loop (l : Lane) (n : Nat) : LoopWork := l.loops.at {} n
/-- The lane with the working state of loop `n` replaced. -/
def Lane.setLoop (l : Lane) (n : Nat) (w : LoopWork) : Lane := { l with loops := l.loops.upd {} n w }
/-- TYPE of loop `n` (0 disabled, 1 PID, 2 ratio, 3 cascade inner). -/
def Lane.loopType (l : Lane) (n : Nat) : Nat := l.fld (CTRL_CFG n) CTRL_CFG_TYPE
/-- MODE of loop `n`. -/
def Lane.loopMode (l : Lane) (n : Nat) : Nat := l.fld (CTRL_ST n) CTRL_ST_MODE
/-- The active coefficient set of loop `n`. -/
def Lane.loopSet (l : Lane) (n : Nat) : Nat := l.fld (CTRL_ST n) CTRL_ST_SET

/-- A period of `p` epochs starts at boundary `g` (R39). -/
def periodAt (p g : Nat) : Bool := g % 3000000000 / 1000000 % p == 0
/-- A period of loop `n` starts at boundary `g`. -/
def Lane.loopDue (l : Lane) (n g : Nat) : Bool :=
  l.loopType n != 0 && periodAt (l.fld (CTRL_CFG n) CTRL_CFG_PERIOD) g

/-! ### Setpoints, cascades, destinations -/

/-- `x` limited to SPLO–SPHI of loop `n`. -/
def Lane.spLimit (l : Lane) (n : Nat) (x : F32) : F32 := F32.clamp (l.rd (CTRL_SPLO n)) (l.rd (CTRL_SPHI n)) x

/-- v_d of R234 for an output value. -/
def Lane.destVal (l : Lane) (n d : Nat) (out : F32) : F32 :=
  let lo := l.rd (CTRL_DLO n d)
  F32.clamp 0#32 fHundred (F32.mul (F32.div (F32.sub out lo) (F32.sub (l.rd (CTRL_DHI n d)) lo)) fHundred)

/-- DKIND and DIDX of a destination. -/
def Lane.dkind (l : Lane) (n d : Nat) : Nat := l.fld (CTRL_DST n d) CTRL_DST_DKIND
def Lane.didx (l : Lane) (n d : Nat) : Nat := l.fld (CTRL_DST n d) CTRL_DST_DIDX

/-- The loop and destination that name loop output, digital output or inner loop `i` by DKIND `k`. -/
def Lane.namedBy (l : Lane) (k i : Nat) : Option (Nat × Nat) :=
  ((upTo 64).map (fun m => (m / 2, m % 2))).find?
    (fun x => l.loopType x.1 != 0 && l.dkind x.1 x.2 == k && l.didx x.1 x.2 == i)

/-- The destination value in force (R221). -/
def Lane.vNow (l : Lane) (n d : Nat) : F32 := if d = 0 then (l.loop n).vNow0 else (l.loop n).vNow1
/-- The destination value that is in force from boundary `g` on, formed in the epoch that ends there. -/
def Lane.vAt (l : Lane) (g n d : Nat) : F32 :=
  if l.loopDue n g then (if d = 0 then (l.loop n).vNew0 else (l.loop n).vNew1) else l.vNow n d

/-- The computed destination values of the loops whose period starts at boundary `g` come into force (R39, R221). -/
def Lane.loopLatch (g : Nat) (l : Lane) : Lane :=
  (upTo 32).foldl (fun l n =>
    let w := l.loop n
    if l.loopDue n g then l.setLoop n { w with vNow0 := w.vNew0, vNow1 := w.vNew1 } else l) l

/-- An inner loop as it stood at the end of the previous epoch calls for tracking (R232). -/
def Lane.innerFree (l : Lane) (j : Nat) : Bool :=
  let st := RegFile.rd l.endRegs (CTRL_ST j)
  CTRL_ST_MODE.get st != mCas || CTRL_ST_PVBAD.on st

/-- The destination by which loop `n` tracks (R232). -/
def Lane.trackBy (l : Lane) (n : Nat) : Option Nat :=
  (upTo 2).find? (fun d => l.dkind n d == 3 && l.innerFree (l.didx n d))

/-- The output of a tracking outer loop (R232), before its limits. -/
def Lane.trackOut (l : Lane) (n d : Nat) : F32 :=
  let j := l.didx n d
  let lo := l.rd (CTRL_SPLO j)
  let v := F32.mul (F32.div (F32.sub (RegFile.rd l.endRegs (CTRL_SP j)) lo) (F32.sub (l.rd (CTRL_SPHI j)) lo)) fHundred
  let dlo := l.rd (CTRL_DLO n d)
  F32.add dlo (F32.mul (F32.div v fHundred) (F32.sub (l.rd (CTRL_DHI n d)) dlo))

/-- inner_blocks_up (or, with `up` false, inner_blocks_down) of loop `n` (R233). -/
def Lane.innerBlocks (l : Lane) (n : Nat) (up : Bool) : Bool :=
  (upTo 2).any (fun d =>
    let j := l.didx n d
    let st := RegFile.rd l.endRegs (CTRL_ST j)
    let swap := l.on (CTRL_CFG j) CTRL_CFG_ACT != F32.gt (l.rd (CTRL_DLO n d)) (l.rd (CTRL_DHI n d))
    l.dkind n d == 3 && (if up != swap then CTRL_ST_SAT_HI.on st else CTRL_ST_SAT_LO.on st))

/-! ### Mode changes (R229) -/

/-- MODE and PVBAD of loop `n` become the given ones; a change makes a record and raises the loop-mode event. -/
def Lane.loopGo (l : Lane) (g n mode : Nat) (bad : Bool) (cause : Nat) : Lane :=
  let st := l.rd (CTRL_ST n)
  let om := CTRL_ST_MODE.get st
  let ob := CTRL_ST_PVBAD.on st
  let l := l.wr (CTRL_ST n) (CTRL_ST_MODE.put mode (CTRL_ST_PVBAD.put bad.toNat st))
  if om = mode ∧ ob = bad then l else
  (l.record 0x0501 g (w32 n) (w32 (mode + 4 * b2n bad + 16 * om + 64 * b2n ob)) (w32 cause) (l.rd (CTRL_OUT n)) n).ev evLoopMode

/-- One pending command applied at step 2 of R220; the flag says that i is to be formed from the held output. -/
def Lane.loopCmd (g n : Nat) (x : Lane × Bool) (c : LoopCmd) : Lane × Bool :=
  let l := x.1
  let mode := l.loopMode n
  let bad := l.on (CTRL_ST n) CTRL_ST_PVBAD
  match c.op with
  | 1 =>
    let l := if mode = mCas ∧ c.arg = mAuto then l.setLoop n { l.loop n with lsp := l.rd (CTRL_SP n) } else l
    (l.loopGo g n c.arg bad 0, x.2 || (c.arg != mMan && !(mode == mCas && c.arg == mAuto)))
  | 2 => (l.setLoop n { l.loop n with lsp := c.val }, x.2)
  | 3 => (l.wr (CTRL_OUT n) c.val, x.2)
  | _ => x

/-- The coefficient swap of step 3 (R237). `out` is the output of the previous period. -/
def Lane.loopSwap (g n : Nat) (out : F32) (l : Lane) : Lane :=
  if !l.on (CTRL_ST n) CTRL_ST_SWAP_PEND then l else
  let w := l.loop n
  let j := w.swapTo
  let p := F32.mul (l.rd (CTRL_KP n j)) w.e
  let hi := l.rd (CTRL_OHI n j)
  let lo := l.rd (CTRL_OLO n j)
  let i := F32.sub out p
  let i := if F32.gt (F32.add p i) hi then F32.sub hi p else i
  let i := if F32.lt (F32.add p i) lo then F32.sub lo p else i
  let l := (l.setLoop n { w with d := 0#32 }).wr (CTRL_I n) i
  let l := l.wr (CTRL_ST n) (CTRL_ST_SET.put j (CTRL_ST_SWAP_PEND.put 0 (l.rd (CTRL_ST n))))
  l.record 0x0503 g (w32 n) (w32 j) i 0#32 n

/-! ### The computation (R223, R224) -/

/-- A notch and filter step (R224): the filtered value and the new filter states. -/
def Lane.loopFilter (l : Lane) (n : Nat) (pv : F32) (w : LoopWork) (h : F32) : F32 × LoopWork :=
  let w := if w.notchNew then { w with x1 := pv, x2 := pv, y1 := pv, y2 := pv, notchNew := false } else w
  let nw : F32 × LoopWork :=
    if l.on (CTRL_CFG n) CTRL_CFG_NOTCH_EN then
      let b := F32.add (F32.add (F32.mul (l.rd (CTRL_B0 n)) pv) (F32.mul (l.rd (CTRL_B1 n)) w.x1)) (F32.mul (l.rd (CTRL_B2 n)) w.x2)
      let y := F32.sub (F32.sub b (F32.mul (l.rd (CTRL_A1 n)) w.y1)) (F32.mul (l.rd (CTRL_A2 n)) w.y2)
      (y, { w with x2 := w.x1, x1 := pv, y2 := w.y1, y1 := y })
    else (pv, w)
  let tf := l.rd (CTRL_TF n)
  if F32.gt tf 0#32 then
    let f := F32.add nw.2.f (F32.mul (F32.div h (F32.add tf h)) (F32.sub nw.1 nw.2.f))
    (f, { nw.2 with f := f })
  else nw

/-- h, the period in seconds (R219). -/
def Lane.loopH (l : Lane) (n : Nat) : F32 := F32.div (F32.ofNat (l.fld (CTRL_CFG n) CTRL_CFG_PERIOD)) fThousand

/-- sg (R223). -/
def Lane.loopSg (l : Lane) (n : Nat) : F32 := if l.on (CTRL_CFG n) CTRL_CFG_ACT then F32.negate fOne else fOne

/-- The setpoint before SPTRK: ratio (R218), cascade (R231) or local; RSBAD and the substitution of R226. -/
def Lane.loopSp (l : Lane) (n : Nat) : F32 × Bool × Bool :=
  let prev := l.rd (CTRL_SP n)
  if l.loopType n = 2 then
    let k := l.rd (CTRL_RSRC n)
    let s := l.source (fun _ => false) (l.on (CTRL_CFG n) CTRL_CFG_STALE_OK) (CTRL_RSRC_KIND.get k) (CTRL_RSRC_INDEX.get k) 0
    if s.2 then (prev, true, false) else if !F32.isFin s.1 then (prev, false, true)
    else (l.spLimit n (F32.add (F32.mul (l.rd (CTRL_RATIO n)) s.1) (l.rd (CTRL_RBIAS n))), false, false)
  else if l.loopMode n = mCas then
    match l.namedBy 3 n with
    | some x =>
      let lo := l.rd (CTRL_SPLO n)
      (F32.add lo (F32.mul (F32.div (l.vNow x.1 x.2) fHundred) (F32.sub (l.rd (CTRL_SPHI n)) lo)), false, false)
    | none => (prev, false, false)
  else ((l.loop n).lsp, false, false)

/-- Destination values from the output (step 6). -/
def Lane.loopDests (l : Lane) (n : Nat) : Lane :=
  let v (d : Nat) : F32 := if l.dkind n d = 0 then 0#32 else l.destVal n d (l.rd (CTRL_OUT n))
  let l := l.setLoop n { l.loop n with vNew0 := v 0, vNew1 := v 1 }
  (l.wr (CTRL_DVAL n 0) (l.loop n).vNew0).wr (CTRL_DVAL n 1) (l.loop n).vNew1

/-- Status of a period: TRACK, SAT_HI, SAT_LO, OVF, RSBAD, SUBST. -/
def Lane.loopFlags (l : Lane) (n : Nat) (track hi lo ovf rs sub : Bool) : Lane :=
  let st := CTRL_ST_TRACK.put track.toNat (CTRL_ST_SAT_HI.put hi.toNat (CTRL_ST_SAT_LO.put lo.toNat (l.rd (CTRL_ST n))))
  l.wr (CTRL_ST n) (CTRL_ST_OVF.put ovf.toNat (CTRL_ST_RSBAD.put rs.toNat (CTRL_ST_SUBST.put sub.toNat st)))

/-- A period without a usable process value: out, i, d and the filters are held (R229). -/
def Lane.loopHeld (n : Nat) (l : Lane) : Lane :=
  let sp := l.loopSp n
  let l := l.wr (CTRL_SP n) sp.1
  let st := l.rd (CTRL_ST n)
  l.loopFlags n (l.loopMode n != mMan && (l.trackBy n).isSome) (CTRL_ST_SAT_HI.on st) (CTRL_ST_SAT_LO.on st) false sp.2.1 sp.2.2

/-- Step 5 of R220 for a usable process value `pv`; `bump`: i is formed so that u equals the output in force; `sub`:
PVSUBST stands in. -/
def Lane.loopCompute (g n : Nat) (pv : F32) (bump init sub : Bool) (l : Lane) : Lane :=
  let j := l.loopSet n
  let mode := l.loopMode n
  let h := l.loopH n
  let sg := l.loopSg n
  let kp := l.rd (CTRL_KP n j)
  let ti := l.rd (CTRL_TI n j)
  let td := l.rd (CTRL_TD n j)
  let nn := l.rd (CTRL_N n j)
  let olo := l.rd (CTRL_OLO n j)
  let ohi := l.rd (CTRL_OHI n j)
  let den := F32.add td (F32.mul nn h)
  let bd := F32.div (F32.mul sg (F32.mul (F32.mul kp td) nn)) den
  let kih := if F32.eq ti 0#32 then 0#32 else F32.div (F32.mul kp h) ti
  let fx := l.loopFilter n pv (l.loop n) h
  let x := fx.1
  let w := fx.2
  let s0 := l.loopSp n
  let tracks := mode == mMan && l.on (CTRL_CFG n) CTRL_CFG_SPTRK && l.loopType n != 2
  let sp := if tracks then l.spLimit n x else s0.1
  let e := F32.mul sg (F32.sub sp x)
  let p := F32.mul kp e
  let d := F32.sub (F32.mul (F32.div td den) w.d) (F32.mul bd (F32.sub x w.xp))
  let out := l.rd (CTRL_OUT n)
  let i := l.rd (CTRL_I n)
  let i := if (bump && mode != mMan) || init then F32.sub (F32.sub out p) d else i
  let tr := if mode = mMan then none else l.trackBy n
  let out1 := match tr with
    | some k => F32.clamp olo ohi (l.trackOut n k)
    | none => out
  let i := if tr.isSome then F32.sub (F32.sub out1 p) d else i
  let u := F32.add (F32.add p i) d
  let out2 := if mode = mMan then out else if tr.isSome then out1 else F32.clamp olo ohi u
  let di := F32.mul kih e
  let bhi := F32.ge u ohi || l.innerBlocks n true
  let blo := F32.le u olo || l.innerBlocks n false
  let hold := mode == mMan || tr.isSome || (bhi && F32.gt di 0#32) || (blo && F32.lt di 0#32)
  let i2 := if hold then i else F32.add i di
  let ovf := !F32.isFin i2 || (mode != mMan && !F32.isFin u)
  let safe := l.rd (CTRL_SAFE n)
  let w := { w with e := e, d := if ovf then 0#32 else d, xp := x, lsp := if tracks then sp else w.lsp }
  let l := (l.setLoop n w).wr (CTRL_PV n) x
  let l := ((l.wr (CTRL_SP n) sp).wr (CTRL_OUT n) (if ovf then safe else out2)).wr (CTRL_I n) (if ovf then safe else i2)
  let l := l.loopFlags n tr.isSome (mode != mMan && F32.ge u ohi) (mode != mMan && F32.le u olo) ovf s0.2.1 (sub || s0.2.2)
  if ovf then (l.record 0x0502 g (w32 n) u i2 safe n).ev evLoopFault else l

/-- The states of a loop initialised from a value (R227). -/
def LoopWork.start (w : LoopWork) (x : F32) : LoopWork :=
  { w with init := true, x1 := x, x2 := x, y1 := x, y2 := x, f := x, xp := x, d := 0#32 }

/-- Steps 4 and 5 of R220: quality, the rows of R229 that it drives, initialisation, computation. -/
def Lane.loopRun (g n : Nat) (bump : Bool) (l : Lane) : Lane :=
  let k := l.rd (CTRL_PVSRC n)
  let s := l.source (fun _ => false) (l.on (CTRL_CFG n) CTRL_CFG_STALE_OK) (CTRL_PVSRC_KIND.get k) (CTRL_PVSRC_INDEX.get k) 0
  let bad := s.2
  let usable := !bad && F32.isFin s.1
  let pv := if usable then s.1 else l.rd (CTRL_PVSUBST n)
  let first := !(l.loop n).init
  let init := first || (usable && l.on (CTRL_ST n) CTRL_ST_INITP)
  let l := if init then (l.setLoop n ((l.loop n).start pv)).setB (CTRL_ST n) CTRL_ST_INITP (!usable) else l
  let mode := l.loopMode n
  let was := l.on (CTRL_ST n) CTRL_ST_PVBAD
  if bad then
    let l := if first then
        let e := F32.mul (l.loopSg n) (F32.sub (l.loopSp n).1 pv)
        let p := F32.mul (l.rd (CTRL_KP n (l.loopSet n))) e
        let l := (l.setLoop n { l.loop n with e := e }).wr (CTRL_PV n) pv
        l.wr (CTRL_I n) (F32.sub (F32.sub (l.rd (CTRL_OUT n)) p) 0#32)
      else l
    let safe := mode != mMan && l.on (CTRL_CFG n) CTRL_CFG_BADACT
    let l := if safe then l.wr (CTRL_OUT n) (l.rd (CTRL_SAFE n)) else l
    (l.loopGo g n (if safe then mMan else mode) true 1).loopHeld n
  else
    (l.loopGo g n mode false 1).loopCompute g n pv (bump || was) init (!usable)

/-- The evaluation of loop `n` at the period start `g`, steps 2 to 6 of R220 (step 1 has been done at the effect
boundary of the partial firing, which is no later). -/
def Lane.loopEval (g n : Nat) (l : Lane) : Lane :=
  let out := l.rd (CTRL_OUT n)
  let x := (l.loop n).cmds.foldl (Lane.loopCmd g n) (l, false)
  let l := x.1.setB (CTRL_ST n) CTRL_ST_PEND false
  let l := l.setLoop n { l.loop n with cmds := [] }
  let l := ((l.loopSwap g n out).loopRun g n x.2).loopDests n
  (l.setLoop n { l.loop n with done := true }).wrap (CTRL_ST n) CTRL_ST_PCNT

/-- Loop `n` evaluated if its period starts at boundary `g` and has not been evaluated. -/
def Lane.loopStep (l : Lane) (g n : Nat) : Lane :=
  if l.loopDue n g && !(l.loop n).done then l.loopEval g n else l

/-- Phase 4 of R28 after the end of phase 3: every loop that is due, in ascending order. -/
def Lane.loopsRun (g : Nat) (l : Lane) : Lane := (upTo 32).foldl (fun l n => l.loopStep g n) l.phase3

/-- The marks of evaluated periods are cleared when an epoch opens. -/
def Lane.loopsOpen (l : Lane) : Lane :=
  (upTo 32).foldl (fun l n => if (l.loop n).done then l.setLoop n { l.loop n with done := false } else l) l

/-- A disabled loop (R216): no state, its status registers at their Reset values, no record. -/
def Lane.loopOff (n : Nat) (l : Lane) : Lane :=
  let ks := [CTRL_ST n, CTRL_PV n, CTRL_SP n, CTRL_OUT n, CTRL_I n, CTRL_DVAL n 0, CTRL_DVAL n 1]
  let l := (ks.foldl (fun l k => l.wr k (resetWord k)) l).setLoop n {}
  { l with tps := (l.tps.upd {} (2 * n) {}).upd {} (2 * n + 1) {} }

/-- Loop `n` in its firing state (R227, R238): MODE0, SET0, out OUT0, setpoint SP0 limited. Cause 2 of the record. -/
def Lane.loopFire (g : Nat) (l : Lane) (n : Nat) : Lane :=
  if l.loopType n = 0 then l.loopOff n else
  let cfg := l.rd (CTRL_CFG n)
  let sp := l.spLimit n (l.rd (CTRL_SP0 n))
  let l := l.setLoop n { lsp := sp }
  let st := CTRL_ST_MODE.put (l.loopMode n) (CTRL_ST_PVBAD.put (l.fld (CTRL_ST n) CTRL_ST_PVBAD) 0#32)
  let l := l.wr (CTRL_ST n) (CTRL_ST_SET.put (CTRL_CFG_SET0.get cfg) st)
  let l := (((l.wr (CTRL_OUT n) (l.rd (CTRL_OUT0 n))).wr (CTRL_SP n) sp).wr (CTRL_I n) 0#32).wr (CTRL_PV n) 0#32
  let l := (l.loopGo g n (CTRL_CFG_MODE0.get cfg) false 2).loopDests n
  let w := l.loop n
  let l := l.setLoop n { w with vNow0 := w.vNew0, vNow1 := w.vNew1 }
  { l with tps := (l.tps.upd {} (2 * n) {}).upd {} (2 * n + 1) {} }

/-! ### Time-proportioned outputs (R236) -/

/-- t_on of R236 in epochs. -/
def tpOn (v : F32) (tpp minp : Nat) : Nat :=
  let t := (F32.toIntRNE (F32.mul v (F32.ofNat tpp))).toNat
  if t < minp then 0 else if tpp * 100 - minp < t then tpp * 100 else t

/-- A TP cycle of a destination starts at boundary `g`. -/
def Lane.tpDue (l : Lane) (n d g : Nat) : Bool :=
  l.loopType n != 0 && l.dkind n d == 2 && g % (l.fld (CTRL_DST n d) CTRL_DST_TPP * 100000000) == 0

/-- The cycle that starts at boundary `g`, formed from the value in force there. -/
def Lane.tpStart (g n d : Nat) (l : Lane) : Lane :=
  let dst := l.rd (CTRL_DST n d)
  let t := tpOn (l.vAt g n d) (CTRL_DST_TPP.get dst) (CTRL_DST_MINP.get dst)
  { l with tps := l.tps.upd {} (2 * n + d) { begun := true, offAt := g + t * 1000000, on := t != 0, doneAt := g } }

/-- The on-time of a destination ends at boundary `g`. -/
def Lane.tpEnds (l : Lane) (n d g : Nat) : Bool :=
  let w := l.tps.at {} (2 * n + d)
  w.on && w.offAt == g
def Lane.tpEnd (n d : Nat) (l : Lane) : Lane :=
  { l with tps := l.tps.upd {} (2 * n + d) { l.tps.at {} (2 * n + d) with on := false } }

/-- The cycle start of a destination at the coming boundary `g`, unless it has been formed. -/
def Lane.tpCycle (g n d : Nat) (l : Lane) : Lane :=
  if l.tpDue n d g && (l.tps.at {} (2 * n + d)).doneAt != g then l.tpStart g n d else l

/-- Every time-proportioned destination at the coming boundary `g`. -/
def Lane.tpAll (g : Nat) (l : Lane) : Lane :=
  (upTo 64).foldl (fun l m =>
    let l := if l.tpEnds (m / 2) (m % 2) g then l.tpEnd (m / 2) (m % 2) else l
    l.tpCycle g (m / 2) (m % 2)) l

/-! ### Commands (R239–R241) -/

/-- The mode loop `n` will hold at step 2 of its next period start (R240). -/
def Lane.loopNextMode (l : Lane) (n : Nat) : Nat :=
  (l.loop n).cmds.foldl (fun m c => if c.op = 1 then c.arg else m) (l.loopMode n)

/-- A CTRL command ends INVALID (R241). -/
def Lane.ctrlInvalid (l : Lane) (op n arg : Nat) (v : F32) : Bool :=
  let out (lo hi : F32) : Bool := arg != 0 || !F32.isFin v || F32.lt v lo || F32.gt v hi
  l.loopType n == 0 || (match op with
    | 1 => 2 < arg
    | 2 => out (l.rd (CTRL_SPLO n)) (l.rd (CTRL_SPHI n))
    | 3 => out (l.rd (CTRL_OLO n (l.loopSet n))) (l.rd (CTRL_OHI n (l.loopSet n)))
    | 4 => 1 < arg
    | _ => true)

/-- A CTRL command ends STATE_REFUSED (R240). -/
def Lane.ctrlRefused (l : Lane) (op n arg : Nat) : Bool :=
  let mode := l.loopNextMode n
  let st := l.rd (CTRL_ST n)
  match op with
  | 1 => mode == arg || (arg == mCas && (l.loopType n != 3 || (l.namedBy 3 n).isNone)) || (arg != mMan && CTRL_ST_PVBAD.on st)
  | 2 => l.loopType n == 2 || mode == mCas || (mode == mMan && l.on (CTRL_CFG n) CTRL_CFG_SPTRK)
  | 3 => mode != mMan
  | _ => l.loopSet n == arg || CTRL_ST_SWAP_PEND.on st

/-- The outcome of a CTRL command at its effect boundary. -/
def Lane.ctrlStatus (l : Lane) (op n arg : Nat) (v : F32) : Nat :=
  if l.ctrlInvalid op n arg v then stInvalid else if l.ctrlRefused op n arg then stRefused else stDone

/-- A command that ends DONE waits for the next period start of its loop. -/
def Lane.ctrlQueue (l : Lane) (op n arg : Nat) (v : F32) : Lane :=
  let w := l.loop n
  let w := { w with cmds := w.cmds ++ [{ op := op, arg := arg, val := v }] }
  let l := l.setB (CTRL_ST n) CTRL_ST_PEND true
  if op = 4 then (l.setLoop n { w with swapTo := arg }).setB (CTRL_ST n) CTRL_ST_SWAP_PEND true else l.setLoop n w

/-- A lane at the effect boundary of a CTRL command. -/
def Lane.ctrlCmd (op n arg : Nat) (v : F32) (l : Lane) : Lane :=
  let st := l.ctrlStatus op n arg v
  let l := l.setF CTRL_CMDST CTRL_CMDST_STATUS st
  if st = stDone then l.ctrlQueue op n arg v else l.ev evCtrlRefused

/-- LAST_OP and LAST_LOOP of a write of CTRL_CMD. -/
def Lane.ctrlNote (op n : Nat) (l : Lane) : Lane :=
  (l.setF CTRL_CMDST CTRL_CMDST_LAST_OP op).setF CTRL_CMDST CTRL_CMDST_LAST_LOOP n

/-- A CTRL command written and taking effect. -/
def State.ctrlRow (s : State) (op n arg : Nat) (v : F32) : State := s.both (fun l => (l.ctrlNote op n).ctrlCmd op n arg v)

/-! ### Meanings -/

/-- LOOP_PERIOD_START (R220): the loop is evaluated, after the end of phase 3 (R28), when its period starts at the newest
boundary. -/
def execLoopPeriodStart (loop : Fin 32) (s : State) : Res := .next (s.both (fun l => l.phase3.loopStep s.sh.gt loop))
/-- TP_CYCLE_START (R236): the cycle that begins at the boundary that ends the running epoch is formed, after the loops
of the running epoch. -/
def execTpCycleStart (loop : Fin 32) (d : Fin 2) (s : State) : Res :=
  .next (s.both (fun l => let g := s.sh.gt + 1000000
    if l.tpDue loop d g then (l.loopsRun s.sh.gt).tpCycle g loop d else l))
/-- TP_ON_TIME_END (R236): the on-time that ends at the boundary that ends the running epoch. -/
def execTpOnTimeEnd (loop : Fin 32) (d : Fin 2) (s : State) : Res :=
  .next (s.both (fun l => if l.tpEnds loop d (s.sh.gt + 1000000) then l.tpEnd loop d else l))
/-- SET_MODE (R229, R240). -/
def execSetMode (loop : BitVec 5) (arg : BitVec 8) (s : State) : Res := .next (s.ctrlRow 1 loop.toNat arg.toNat 0#32)
/-- SET_SP (R240). -/
def execSetSp (loop : BitVec 5) (arg : BitVec 8) (v : Word) (s : State) : Res := .next (s.ctrlRow 2 loop.toNat arg.toNat v)
/-- SET_OUT (R240). -/
def execSetOut (loop : BitVec 5) (arg : BitVec 8) (v : Word) (s : State) : Res := .next (s.ctrlRow 3 loop.toNat arg.toNat v)
/-- SEL_SET (R237, R240). -/
def execSelSet (loop : BitVec 5) (arg : BitVec 8) (s : State) : Res := .next (s.ctrlRow 4 loop.toNat arg.toNat 0#32)

end Sys2Proof.Machine
end

