-- ==== Sys2Proof/Machine/Call.lean ====
section
/-! DEFINITION. The call engine and the engineers' safety timer (spec/06, R182–R194), and the whole alarm scan with
its call step. -/

namespace Sys2Proof.Machine

/-! ### Stations -/

/-- Station `s` is fitted. -/
def Lane.fitted (l : Lane) (s : Nat) : Bool := l.on (ALM_WS s) ALM_WS_FITTED
/-- The fitted station with a ring address. -/
def Lane.stationOf (l : Lane) (addr : Nat) : Option Nat :=
  (upTo 16).find? (fun s => l.fitted s && l.fld (ALM_WS s) ALM_WS_RADDR == addr)
/-- Station `s` is present. -/
def Lane.present (l : Lane) (s : Nat) : Bool := bitOf (w32 (l.fld ALM_CALLED ALM_CALLED_PRESENT)) s

/-- A STN_STAT frame of a station lies at most 3.0 s before boundary `g` (R183). -/
def Lane.presentAt (l : Lane) (g s : Nat) : Bool :=
  l.fitted s && l.alm.staT.any (fun x => x.1 == s && x.2 ≤ g && g ≤ x.2 + 3000000000)

/-- Presence of one station evaluated at boundary `g`: a change raises the station-absent event and makes a record. -/
def Lane.presStep (g : Nat) (l : Lane) (s : Nat) : Lane :=
  let now := l.presentAt g s
  if now != l.present s then
    let p := l.fld ALM_CALLED ALM_CALLED_PRESENT
    let l := l.setF ALM_CALLED ALM_CALLED_PRESENT (if now then p + 2 ^ s else p - 2 ^ s)
    (l.record 0x0302 g 0#32 0#32 0#32 0#32).ev evStationAbsent
  else l

/-- Presence of all stations at boundary `g`. -/
def Lane.presence (l : Lane) (g : Nat) : Lane := (upTo 16).foldl (Lane.presStep g) l

/-! ### Call demand and the called set (R185, R186) -/

def csIdle : Nat := 0
def csCalling : Nat := 1
def csAccepted : Nat := 2

/-- The points with CALL set in a state. -/
def Lane.callPoints (l : Lane) (f : Nat → Bool) : List Nat :=
  l.pointsOf (fun l p => l.on (PT_CFG p) PT_CFG_CALL && f (l.ptState p))
/-- The points that make CDEM true (R185). -/
def Lane.demand (l : Lane) : List Nat := l.callPoints (fun st => st == sActUnack || st == sActSil)

/-- The own set of stage `i` (R186). -/
def Lane.ownSet (l : Lane) (i : Nat) : Word :=
  let st := l.rd (ALM_STG i)
  let duty := ALM_STG_DUTY.on st && !l.on ALM_CALLST ALM_CALLST_NODUTY
  (upTo 16).foldl (fun (w : Word) s =>
    w ||| bit32 (l.fitted s && (bitOf (w32 (ALM_STG_MASK.get st)) s || (duty && l.fld ALM_CALLST ALM_CALLST_DUTY == s))) s) 0#32

/-- The called set in CALLING at stage `k` (R186). -/
def Lane.calledSet (l : Lane) (k : Nat) : Word := (upTo (k + 1)).foldl (fun (w : Word) i => w ||| l.ownSet i) 0#32

/-- A stage without a present station of its own set (R189). -/
def Lane.stageAbsent (l : Lane) (k : Nat) : Bool := !(upTo 16).any (fun s => bitOf (l.ownSet k) s && l.present s)

/-- The called set as it stands. -/
def Lane.calledNow (l : Lane) : Word :=
  if l.fld ALM_CALLST ALM_CALLST_CSTATE = csCalling then l.calledSet (l.fld ALM_CALLST ALM_CALLST_STAGE) else 0#32

/-! ### Commands of the call step (R192) -/

/-- ACCEPT may be taken (R192). -/
def Lane.acceptRefused (l : Lane) (emerg : Bool) (origin : Nat) : Bool :=
  l.fld ALM_CALLST ALM_CALLST_CSTATE != csCalling || emerg || (origin < 16 && !bitOf l.calledNow origin)

/-- A transition of the safety timer (R193). -/
def Lane.dmGo (l : Lane) (g dst cnt origin cause : Nat) : Lane :=
  let d := l.rd ALM_DMST
  let l := l.wr ALM_DMST (ALM_DMST_DMST.put dst (ALM_DMST_DMCNT.put cnt d))
  (l.record 0x0303 g (w32 (dst + 4 * ALM_DMST_DMST.get d)) (w32 (origin + 256 * cause)) (w32 (ALM_DMST_DMCNT.get d)) 0#32
    rankCall).ev evSafety

/-- The safety-timer states. -/
def dmOff : Nat := 0
def dmRun : Nat := 1
def dmPrewarn : Nat := 2
def dmExpired : Nat := 3

/-- A command of the call step: the state it leaves, and whether it was an accepted ACCEPT (its origin). -/
def Lane.callCmd (l : Lane) (g : Nat) (emerg : Bool) (rank : Nat) (c : AlmCmd) (acc : Option Nat) : Lane × Option Nat :=
  let dm := l.fld ALM_DMST ALM_DMST_DMST
  let refuse := (l.almRefuse g c stRefused rank, acc)
  match c.op with
  | 0x20 => if acc.isSome || l.acceptRefused emerg c.origin then refuse else (l.almStatus c stDone, some c.origin)
  | 0x21 =>
    if !l.fitted c.tgt || !l.on (ALM_WS c.tgt) ALM_WS_ELIG || l.fld ALM_CALLST ALM_CALLST_CSTATE != csIdle then refuse
    else
      let old := l.fld ALM_CALLST ALM_CALLST_DUTY
      let l := (l.setF ALM_CALLST ALM_CALLST_DUTY c.tgt).almStatus c stDone
      (if old = c.tgt then l else l.record 0x0304 g 0#32 0#32 0#32 0#32 rankCall, acc)
  | 0x22 => if dm != dmOff || !l.on ALM_DMCFG ALM_DMCFG_DM_EN then refuse
      else ((l.dmGo g dmRun 0 c.origin 0).almStatus c stDone, acc)
  | 0x23 => if dm = dmOff then refuse else ((l.dmGo g dmRun 0 c.origin 1).almStatus c stDone, acc)
  | _ => if dm = dmOff then refuse else ((l.dmGo g dmOff 0 c.origin 2).almStatus c stDone, acc)

/-- The commands of the call step in their order. -/
def Lane.callCmds (l : Lane) (g : Nat) (emerg : Bool) : Lane × Option Nat :=
  l.alm.callQ.foldl (fun x rc => x.1.callCmd g emerg rc.1 rc.2 x.2) (l, none)

/-! ### The call state (R187, R188) -/

/-- A transition of the call engine with its record (R188). -/
def Lane.callGo (l : Lane) (g dst stage cnt origin cause npts : Nat) : Lane :=
  let c := l.rd ALM_CALLST
  let old := ALM_CALLST_CSTATE.get c
  let l := l.wr ALM_CALLST (ALM_CALLST_CSTATE.put dst (ALM_CALLST_STAGE.put stage (ALM_CALLST_CCNT.put cnt c)))
  (l.record 0x0301 g (w32 (dst + 4 * stage + 16 * old)) (w32 (origin + 256 * cause)) (w32 npts) 0#32 rankCall).ev evCallState

/-- TRANSFER or RETAKE issued by the call engine for the next alarm scan (R190). -/
def Lane.issue (l : Lane) (op : Nat) (ps : List Nat) : Lane :=
  l.setAlm (fun a => { a with callCmds := a.callCmds ++ ps.map (fun p => { op := op, tgt := p, origin := 0x1C }) })

/-- The state table of R188. `acc`: the origin of an ACCEPT accepted in this call step. -/
def Lane.callTable (l : Lane) (g : Nat) (acc : Option Nat) : Lane :=
  let dem := l.demand
  let cdem := !dem.isEmpty
  let n := dem.length
  let c := l.rd ALM_CALLST
  let stage := ALM_CALLST_STAGE.get c
  let cnt := ALM_CALLST_CCNT.get c
  let nstg := l.fld ALM_CALLCFG ALM_CALLCFG_NSTG
  let lim := l.fld (ALM_STG stage) ALM_STG_STGT * 100
  let st := ALM_CALLST_CSTATE.get c
  if st = csIdle then (if cdem then l.callGo g csCalling 0 0 0xFF 0 n else l)
  else if st = csCalling then
    if !cdem then l.callGo g csIdle stage cnt 0xFF 1 n
    else match acc with
      | some o => ((l.callGo g csAccepted stage 0 o 5 n).setF ALM_CALLST ALM_CALLST_ASTG stage).issue 0x05 dem
      | none =>
        if stage + 1 < nstg && (cnt = lim || l.stageAbsent stage) then
          l.callGo g csCalling (stage + 1) 0 0xFF (if cnt = lim then 2 else 3) n
        else l
  else
    let rt := l.callPoints (fun s => s == sActRt)
    let astg := ALM_CALLST_ASTG.get c
    if rt.isEmpty && !cdem then l.callGo g csIdle stage cnt 0xFF 1 n
    else if cdem then l.callGo g csCalling astg 0 0xFF 0 n
    else if cnt = l.fld ALM_CALLCFG ALM_CALLCFG_ACCT * 100 then
      (l.callGo g csCalling (min (astg + 1) (nstg - 1)) 0 0xFF 4 n).issue 0x06 rt
    else l

/-- CCNT counts in CALLING and ACCEPTED before the table, and stops at the time of the last stage (R187). -/
def Lane.callCount (l : Lane) : Lane :=
  let c := l.rd ALM_CALLST
  let st := ALM_CALLST_CSTATE.get c
  let stage := ALM_CALLST_STAGE.get c
  let last := st == csCalling && stage + 1 == l.fld ALM_CALLCFG ALM_CALLCFG_NSTG
    && ALM_CALLST_CCNT.get c == l.fld (ALM_STG stage) ALM_STG_STGT * 100
  if st = csIdle || last then l else l.wrap ALM_CALLST ALM_CALLST_CCNT

/-- DMCNT counts outside OFF (R193). -/
def Lane.dmCount (l : Lane) : Lane :=
  if l.fld ALM_DMST ALM_DMST_DMST = dmOff then l else l.wrap ALM_DMST ALM_DMST_DMCNT

/-- The rows of R193 that the count drives; a command row of the same call step comes first. -/
def Lane.dmTable (l : Lane) (g : Nat) : Lane :=
  let p := l.fld ALM_DMCFG ALM_DMCFG_DM_PER * 6000
  let w := l.fld ALM_DMCFG ALM_DMCFG_DM_PW * 100
  let st := l.fld ALM_DMST ALM_DMST_DMST
  let n := l.fld ALM_DMST ALM_DMST_DMCNT
  if st = dmRun && n + w = p then l.dmGo g dmPrewarn n 0xFF 3
  else if st = dmPrewarn && n = p then l.dmGo g dmExpired n 0xFF 3 else l

/-- EMERG: a point of the demand has priority emergency alarm (R185). -/
def Lane.emerg (l : Lane) : Bool := l.demand.any (fun p => l.ptPrio p == 0)

/-- The call step of an alarm scan (R185–R193). -/
def Lane.callStep (l : Lane) (g : Nat) : Lane :=
  let l := l.presence g
  let em := l.emerg
  let l := l.setB ALM_CALLST ALM_CALLST_EMERG em
  let dmWas := l.rd ALM_DMST
  let l := l.callCount.dmCount
  let x := l.callCmds g em
  let l := x.1.callTable g x.2
  let l := if ALM_DMST_DMST.get dmWas = l.fld ALM_DMST ALM_DMST_DMST && l.fld ALM_DMST ALM_DMST_DMCNT != 0 then l.dmTable g else l
  let l := l.setAlm (fun a => { a with callQ := [] })
  l.setF ALM_CALLED ALM_CALLED_CALLED l.calledNow.toNat

/-! ### The alarm scan (R145, R161) -/

/-- One stage of the alarm scan of boundary `g`. -/
def Lane.scanStage (l : Lane) (g : Nat) : Nat → Lane
  | 0 => (l.devSweep g).scanCommands g
  | 1 => l.scanPoints g
  | 2 => (upTo 128).foldl (Lane.scanGroup g) l
  | 3 => (upTo 256).foldl (Lane.scanRule g) l
  | 4 => (upTo 128).foldl (Lane.scanFirstOut g) l
  | 5 => l.scanChatter g
  | 6 => l.scanFlood g
  | 7 => l.scanSummary g
  | _ => (l.callStep g).scanEnd

/-- The alarm scan up to and including stage `k` − 1, from where it stands, after the end of phase 4 (R28); nothing when none is
due. -/
def Lane.scanTo (g k : Nat) (l : Lane) : Lane :=
  let l := if l.alm.stage < k && l.alm.stage < 9 then l.loopsRun g else l
  (upTo 9).foldl (fun l i => if l.alm.stage = i && i < k then (l.scanStage g i).setAlm (fun a => { a with stage := i + 1 }) else l) l

/-- A step of the alarm scan that a row names: the scan runs to stage `k` when `p` holds of the lane before and after
it (the event happens in it), and nothing happens otherwise. -/
def Lane.scanEvent (g k : Nat) (p : Lane → Lane → Bool) (l : Lane) : Lane :=
  let l' := l.scanTo g k
  if l.alm.stage < k && p l l' then l' else l

/-- A command of a row of the alarm and call engines, its effect boundary `g` being the newest one (log 31). Where the alarm scan of `g`
has not gone past its step 1, the command takes its place there, and a command of the call engine is carried out in the call
step, up to which the scan then runs (R152, R155, R192); else it waits for the next scan. -/
def Lane.almRow (g op tgt origin : Nat) (l : Lane) : Lane :=
  let c : AlmCmd := { op := op, tgt := tgt, origin := origin, acc := g, eff := g, raddr := 0x40 }
  if l.alm.stage ≤ 1 then
    let l := l.scanTo g 1
    let st := if almInvalid op tgt then stInvalid else if 32 ≤ l.alm.taken then stRefused else 0
    let l := l.almNext g { c with status := st }
    if 0x20 ≤ op then l.scanTo g 9 else l
  else l.almArrive { c with eff := g + 1 }

def State.almRow (s : State) (op tgt origin : Nat) : State := s.both (Lane.almRow s.sh.gt op tgt origin)
def State.scanRow (s : State) (k : Nat) (p : Lane → Lane → Bool) : State := s.both (Lane.scanEvent s.sh.gt k p)

/-! ### Meanings -/

/-- QUAL of a point. -/
def Lane.qual (l : Lane) (p : Nat) : Bool := l.on (PT_ST p) PT_ST_QUAL

/-- ALARM_SCAN (R145, R161, R185): the scan of the running epoch, as far as it has not run. -/
def execAlarmScan (s : State) : Res := .next (s.both (Lane.scanTo s.sh.gt 9))
/-- ON_DELAY_EXPIRY (R142). -/
def execOnDelayExpiry (p : Fin 2048) (s : State) : Res := .next (s.scanRow 2 (fun l l' => !l.qual p && l'.qual p))
/-- OFF_DELAY_EXPIRY (R142). -/
def execOffDelayExpiry (p : Fin 2048) (s : State) : Res :=
  .next (s.scanRow 2 (fun l l' => l.qual p && !l'.qual p && !l'.on (PT_ST p) PT_ST_MASKED))
/-- RE_SOUND (R146, R147). -/
def execReSound (p : Fin 2048) (s : State) : Res :=
  .next (s.scanRow 2 (fun l l' => l.ptState p == sActSil && l'.ptState p == sActUnack))
/-- RATE_WINDOW_END (R138). -/
def execRateWindowEnd (p : Fin 2048) (s : State) : Res :=
  .next (s.scanRow 2 (fun l l' => l.ptCond p == 2 && s.sh.gt % (l.fld (PT_CFG p) PT_CFG_RWIN * 10000000) == 0
    && !l'.on (PT_ST p) PT_ST_MASKED))
/-- SHELVING_EXPIRY (R172). -/
def execShelvingExpiry (p : Fin 2048) (s : State) : Res :=
  .next (s.scanRow 2 (fun l l' => l.on (ALM_SHLV p) ALM_SHLV_SHELVED && !l'.on (ALM_SHLV p) ALM_SHLV_SHELVED))
/-- INHIBIT_RELEASE (R163). -/
def execInhibitRelease (grp : Fin 128) (s : State) : Res :=
  .next (s.scanRow 3 (fun l l' => l.on (ALM_GRPST grp) ALM_GRPST_INH && !l'.on (ALM_GRPST grp) ALM_GRPST_INH))
/-- RULE_HOLD_EXPIRY (R167). -/
def execRuleHoldExpiry (r : Fin 256) (s : State) : Res :=
  .next (s.scanRow 4 (fun l l' => l.on (ALM_RULEST r) ALM_RULEST_ACT && !l'.on (ALM_RULEST r) ALM_RULEST_ACT))
/-- CHATTER_WINDOW (R173). -/
def execChatterWindow (s : State) : Res := .next (s.scanRow 6 (fun _ _ => s.sh.gt % 60000000000 == 0))
/-- FLOOD_WINDOW (R177). -/
def execFloodWindow (s : State) : Res := .next (s.scanRow 7 (fun _ _ => s.sh.gt % 10000000000 == 0))
/-- STAGE_TIME (R187–R189). -/
def execStageTime (s : State) : Res :=
  .next (s.scanRow 9 (fun l l' => l.fld ALM_CALLST ALM_CALLST_CSTATE == csCalling
    && l'.fld ALM_CALLST ALM_CALLST_CSTATE == csCalling
    && l'.fld ALM_CALLST ALM_CALLST_STAGE == l.fld ALM_CALLST ALM_CALLST_STAGE + 1))
/-- ACCEPTANCE_TIME (R188). -/
def execAcceptanceTime (s : State) : Res :=
  .next (s.scanRow 9 (fun l l' => l.fld ALM_CALLST ALM_CALLST_CSTATE == csAccepted
    && l'.fld ALM_CALLST ALM_CALLST_CSTATE == csCalling && l'.alm.callCmds.any (fun c => c.op == 0x06)))
/-- SAFETY_PREWARN (R193). -/
def execSafetyPrewarn (s : State) : Res :=
  .next (s.scanRow 9 (fun l l' => l.fld ALM_DMST ALM_DMST_DMST == dmRun && l'.fld ALM_DMST ALM_DMST_DMST == dmPrewarn))
/-- SAFETY_EXPIRED (R193). -/
def execSafetyExpired (s : State) : Res :=
  .next (s.scanRow 9 (fun l l' => l.fld ALM_DMST ALM_DMST_DMST == dmPrewarn && l'.fld ALM_DMST ALM_DMST_DMST == dmExpired))
/-- STATION_ABSENT (R183). -/
def execStationAbsent (st : Fin 16) (s : State) : Res :=
  .next (s.both (fun l => if l.present st && !l.presentAt s.sh.gt st then l.presStep s.sh.gt st else l))
/-- ACK (R153). -/
def execAck (tgt : BitVec 11) (origin : BitVec 5) (s : State) : Res := .next (s.almRow 0x01 tgt.toNat origin.toNat)
/-- SILENCE (R153). -/
def execSilence (tgt : BitVec 11) (origin : BitVec 5) (s : State) : Res := .next (s.almRow 0x02 tgt.toNat origin.toNat)
/-- ACK_GROUP (R153). -/
def execAckGroup (tgt : BitVec 11) (origin : BitVec 5) (s : State) : Res := .next (s.almRow 0x03 tgt.toNat origin.toNat)
/-- SILENCE_ALL (R153). -/
def execSilenceAll (tgt : BitVec 11) (origin : BitVec 5) (s : State) : Res := .next (s.almRow 0x04 tgt.toNat origin.toNat)
/-- TRANSFER (R153). -/
def execTransfer (tgt : BitVec 11) (origin : BitVec 5) (s : State) : Res := .next (s.almRow 0x05 tgt.toNat origin.toNat)
/-- RETAKE (R153). -/
def execRetake (tgt : BitVec 11) (origin : BitVec 5) (s : State) : Res := .next (s.almRow 0x06 tgt.toNat origin.toNat)
/-- SHELVE (R171). -/
def execShelve (tgt : BitVec 11) (origin : BitVec 5) (s : State) : Res := .next (s.almRow 0x07 tgt.toNat origin.toNat)
/-- UNSHELVE (R171). -/
def execUnshelve (tgt : BitVec 11) (origin : BitVec 5) (s : State) : Res := .next (s.almRow 0x08 tgt.toNat origin.toNat)
/-- FO_RESET (R170, R171). -/
def execFoReset (tgt : BitVec 11) (origin : BitVec 5) (s : State) : Res := .next (s.almRow 0x09 tgt.toNat origin.toNat)
/-- ACCEPT (R188, R192). -/
def execAcceptCall (tgt : BitVec 11) (origin : BitVec 5) (s : State) : Res := .next (s.almRow 0x20 tgt.toNat origin.toNat)
/-- DUTY (R184, R192). -/
def execDuty (tgt : BitVec 11) (origin : BitVec 5) (s : State) : Res := .next (s.almRow 0x21 tgt.toNat origin.toNat)
/-- DM_START (R192, R193). -/
def execDmStart (tgt : BitVec 11) (origin : BitVec 5) (s : State) : Res := .next (s.almRow 0x22 tgt.toNat origin.toNat)
/-- DM_RESET (R192, R193). -/
def execDmReset (tgt : BitVec 11) (origin : BitVec 5) (s : State) : Res := .next (s.almRow 0x23 tgt.toNat origin.toNat)
/-- DM_STOP (R192, R193). -/
def execDmStop (tgt : BitVec 11) (origin : BitVec 5) (s : State) : Res := .next (s.almRow 0x24 tgt.toNat origin.toNat)

end Sys2Proof.Machine
end

