-- ==== Sys2Proof/Machine/Ring.lean ====
section
/-! DEFINITION. The call ring ports, token access, loop-back and bypass (spec/06, R195–R213). -/

namespace Sys2Proof.Machine

def Shared.setRing (h : Shared) (f : RingHw → RingHw) : Shared := { h with ring := f h.ring }

/-- The ring address of the node. -/
def Shared.raddr (h : Shared) : Nat := h.fld RING_CFG RING_CFG_RADDR
/-- The bypass is open. -/
def Shared.ringOpen (h : Shared) : Bool := !h.on RING_STAT RING_STAT_BYPASS

/-- Ring service is on, RING_DIS apart (R210). -/
def State.ringBase (s : State) : Bool := s.sh.on (PWR_DST 7) PWR_DST_ON && s.sh.on RING_CFG RING_CFG_RING_EN && s.sh.auth.isSome && !s.sh.bisque
/-- RING_DIS has taken effect (R49, R210). -/
def State.ringDis (s : State) : Bool := s.sh.ring.disAt.isSome
/-- Ring service is on (R210). -/
def State.ringOn (s : State) : Bool := s.ringBase && !s.ringDis
/-- The bypass is open: while a disable waits for its token, the node still passes the token on (R211). -/
def State.ringLive (s : State) : Bool := s.ringBase && s.sh.ringOpen
/-- Ring service is on and the bypass open: the node takes and sends frames and counts errors (R191). -/
def State.ringServes (s : State) : Bool := s.ringOn && s.sh.ringOpen

/-- The ring-fault event and a record of R213 in the lanes' coming cut; with no lane that takes a cut the record waits for the first
epoch (R531). -/
def State.ringRec (s : State) (code w : Nat) (ev : Bool) : State :=
  if s.a.takes || s.b.takes then
    s.taking (fun l => let l := l.recCut code w 0#32 0#32 0#32 0#32; if ev then l.evCut evRingFault else l)
  else s.withSh { s.sh with start := { s.sh.start with
    early := s.sh.start.early ++ [{ code := code, cls := recClass code, time := w }] } }

/-- The bypass closes (R210, R211). -/
def State.bypassClose (s : State) (w : Nat) : State :=
  if s.sh.ringOpen then
    let h := (s.sh.setB RING_STAT RING_STAT_BYPASS true).setB RING_STAT RING_STAT_HOLDER false
    let h := h.setB RING_STAT RING_STAT_CLAIMING false
    (s.withSh (h.setRing (fun r => { r with sent := none, owed := [] }))).ringRec 0x0404 w false
  else s

/-- The bypass follows ring service: it closes when service goes off for a reason other than RING_DIS (R210). -/
def State.ringSync (s : State) (w : Nat) : State := if s.ringBase then s else s.bypassClose w

/-- The bypass opens after a TOKEN observed on RGA, unless an OPEN without its CLOSED is less than 1.0 s old (R211). -/
def State.bypassOpen (s : State) (w : Nat) : State :=
  let blocked := s.sh.ring.opens.any (fun x => w < x.2 + 1000000000)
  if s.ringOn && !s.sh.ringOpen && !blocked then
    let h := s.sh.setB RING_STAT RING_STAT_BYPASS false
    (s.withSh (h.setRing (fun r => { r with tokAt := w, visitAt := w, lastA := w, lastB := w }))).ringRec 0x0404 w false
  else s

/-! ### Ports -/

def lostFld : Port → Fld
  | .A => RING_STAT_RGA_LOST
  | .B => RING_STAT_RGB_LOST
def wrapFld : Port → Fld
  | .A => RING_STAT_WRAP_A
  | .B => RING_STAT_WRAP_B

/-- A valid frame on a port at instant `w`. -/
def RingHw.at_ (r : RingHw) (p : Port) (w : Nat) : RingHw :=
  match p with
  | .A => { r with lastA := w }
  | .B => { r with lastB := w }
def RingHw.last (r : RingHw) : Port → Nat
  | .A => r.lastA
  | .B => r.lastB
def RingHw.probes (r : RingHw) : Port → Nat
  | .A => r.probesA
  | .B => r.probesB
def RingHw.setProbes (r : RingHw) (p : Port) (n : Nat) : RingHw :=
  match p with
  | .A => { r with probesA := n }
  | .B => { r with probesB := n }
def RingHw.closed (r : RingHw) : Port → Bool
  | .A => r.closedA
  | .B => r.closedB
def RingHw.setClosed (r : RingHw) (p : Port) (b : Bool) : RingHw :=
  match p with
  | .A => { r with closedA := b }
  | .B => { r with closedB := b }
def RingHw.probeAt (r : RingHw) : Port → Nat
  | .A => r.probeAtA
  | .B => r.probeAtB
def RingHw.setProbeAt (r : RingHw) (p : Port) (w : Nat) : RingHw :=
  match p with
  | .A => { r with probeAtA := w }
  | .B => { r with probeAtB := w }

/-- A valid frame other than PROBE on a port: PROBE frames count in a row up to their third (R208). -/
def RingHw.heard (r : RingHw) (p : Port) (w : Nat) : RingHw := (r.at_ p w).setProbes p (if r.probes p < 3 then 0 else r.probes p)

/-- The neighbour of a port, the SRC of the last TOKEN received on it (R202). -/
def Shared.neighbour (h : Shared) : Port → Nat
  | .A => h.fld RING_STAT RING_STAT_UP_NBR
  | .B => h.fld RING_STAT RING_STAT_DN_NBR
def Shared.setNeighbour (h : Shared) (p : Port) (a : Nat) : Shared :=
  match p with
  | .A => (h.setF RING_STAT RING_STAT_UP_NBR a).setB RING_STAT RING_STAT_UP_VALID true
  | .B => (h.setF RING_STAT RING_STAT_DN_NBR a).setB RING_STAT RING_STAT_DN_VALID true

/-- The port by which a frame that arrived on `p` goes on: the opposite one, or back out where that one is lost (R207). -/
def Shared.ringOut (h : Shared) (p : Port) : Port := if h.on RING_STAT (lostFld p.other) then p else p.other
/-- The ns that a frame of `n` payload bytes takes (R197, R198). -/
def ringNs (n : Nat) : Nat := (72 + 8 * n) * 500
/-! ### Frames (R198, R199, R207) -/

/-- The fields of a frame. -/
def RingFrame.dst (f : RingFrame) : Nat := f.hdr.toNat / 1024
def RingFrame.src (f : RingFrame) : Nat := f.hdr.toNat / 32 % 32
def RingFrame.type (f : RingFrame) : Nat := f.hdr.toNat % 32
/-- The CRC that fits a frame; the header's bytes stand least significant first (log 79). -/
def ringCrc (hdr : BitVec 16) (len : Byte) (data : List Byte) : BitVec 16 := crc16 (leBytes 2 hdr.toNat ++ len :: data)
/-- A frame with the CRC that fits it. -/
def RingFrame.of (dst src type : Nat) (data : List Byte) : RingFrame :=
  let hdr := BitVec.ofNat 16 (dst * 1024 + src * 32 + type)
  let len := BitVec.ofNat 8 data.length
  { hdr := hdr, len := len, data := data, crc := ringCrc hdr len data }
/-- A frame that the node begins to send at instant `w`, out of port `p`: DST, its own address as SRC, TYPE, LEN, payload and CRC. -/
def Shared.ringSend (h : Shared) (type dst : Nat) (data : List Byte) (p : Port) (w : Nat) : Shared :=
  h.setRing (fun r => { r with lastTx := some { frame := RingFrame.of dst h.raddr type data, port := p, at_ := w + ringNs data.length } })
/-- An OPEN or CLOSED of the node; during a hold it waits (R205). -/
def Shared.ringOffer (h : Shared) (type : Nat) (data : List Byte) (p : Port) (w : Nat) : Shared :=
  if h.hold then h.setRing (fun r => { r with owed := r.owed ++ [(type, data, p)] }) else h.ringSend type 0x3F data p w
/-- The frames that have waited for the end of a hold go out, while ring service is on (R191). -/
def State.ringFlush (s : State) : State :=
  let h := s.sh.setRing (fun r => { r with owed := [] })
  s.withSh (if s.ringServes then s.sh.ring.owed.foldl (fun h x => h.ringSend x.1 0x3F x.2.1 x.2.2 h.gt) h else h)

/-- The payload length of a TYPE; none where it is reserved (R199). -/
def ringLen : Nat → Option Nat
  | 0x01 | 0x02 | 0x04 | 0x11 => some 0
  | 0x03 | 0x05 => some 2
  | 0x08 => some 8
  | 0x10 => some 4
  | 0x12 => some 5
  | _ => none
/-- The counter of RING_ERR that a discarded frame counts in; none where it is not discarded (R198, R199). -/
def RingFrame.bad (f : RingFrame) : Option Fld :=
  if f.viol || f.crc != ringCrc f.hdr f.len f.data then some RING_ERR_CRC
  else if 16 < f.len.toNat || (decide (0x20 ≤ f.dst) && f.dst != 0x3F) || (match ringLen f.type with
    | some n => decide (f.len.toNat < n)
    | none => true) then some RING_ERR_FMT
  else none

/-- A frame arrives on a port. While the bypass is closed the node does nothing with it; else it repeats the frame, unless it is the
token or a frame of its own that has come back, which is none that a station sends; it discards and counts a bad one, and acts on a good one (R182, R191, R198, R202). -/
def State.ringIn (p : Port) (f : RingFrame) (w : Nat) (act : State → State) (s : State) : State :=
  if !s.ringLive then s else
  let own := f.bad.isNone && (f.type == 0x01 || (f.src == s.sh.raddr && f.type != 0x10 && f.type != 0x11))
  let h := if own then s.sh else s.sh.setRing (fun r => { r with rep := some (s.sh.ringOut p, f) })
  match f.bad with
  | some c =>
    let h := h.setRing (fun r => r.setProbes p (if r.probes p < 3 then 0 else r.probes p))
    s.withSh (if s.ringServes then h.bump RING_ERR c else h)
  | none => act (s.withSh (h.setRing (fun r => if f.type = 0x04 then r.at_ p w else r.heard p w)))

/-! ### Token access (R200, R202, R205) -/

/-- A CALL is due so long after the newest one that, with the token back within 16 ms (R203), CALL goes out at least once every
1.0 s (R200; log 79). -/
def callRefresh : Nat := 984000000

/-- The frame the node would send at a token visit: CALL on a change, on a refresh or as its time comes; else the oldest
response (R200). Before the first release there is no payload. -/
def RingHw.next (r : RingHw) (w : Nat) : Option (Nat × Nat × List Byte) :=
  if !r.callPay.isEmpty && (r.callDue || r.callPay != r.callSent || r.callAt + callRefresh ≤ w) then
    some (0x08, 0x3F, r.callPay ++ leBytes 2 r.callSeq)
  else match r.resp with
    | [] => none
    | c :: _ => some (0x12, c.raddr, [BitVec.ofNat 8 c.op] ++ leBytes 2 c.tgt ++ [BitVec.ofNat 8 c.sseq, BitVec.ofNat 8 c.status])

/-- The frame has gone out: a CALL takes the next sequence number, a response leaves its queue. -/
def RingHw.took (r : RingHw) (type w : Nat) : RingHw :=
  if type = 0x08 then { r with callDue := false, callSent := r.callPay, callAt := w, callSeq := (r.callSeq + 1) % 65536 }
  else { r with resp := r.resp.drop 1 }

/-- DST of a TOKEN sent out of a port: the neighbour there, or broadcast while none is known (log 79). -/
def Shared.tokenDst (h : Shared) (p : Port) : Nat :=
  if h.on RING_STAT (match p with
    | .A => RING_STAT_UP_VALID
    | .B => RING_STAT_DN_VALID) then h.neighbour p else 0x3F

/-- TOKEN is passed on to the next member, out of port `p`; a disable that waits closes the bypass at its end (R211). -/
def State.passToken (s : State) (p : Port) (w : Nat) : State :=
  let h := (s.sh.setB RING_STAT RING_STAT_HOLDER false).setRing (fun r => { r with sent := none })
  let s := s.withSh (h.ringSend 0x01 (h.tokenDst p) [] p w)
  if s.ringDis then s.bypassClose (w + ringNs 0) else s

/-- A TOKEN frame on a port of a node in the ring (R202, R205). -/
def State.token (s : State) (p : Port) (src w : Nat) : State :=
  let h := s.sh.setNeighbour p src
  let rot := min 65535 ((w - h.ring.visitAt) / 1000)
  let h := (h.setF RING_TOK RING_TOK_ROT rot).setRing (fun r => { r with tokAt := w, visitAt := w })
  let h := h.setB RING_STAT RING_STAT_HOLDER true
  match (if s.sh.hold || s.ringDis then none else h.ring.next w) with
  | none => (s.withSh h).passToken (h.ringOut p) w
  | some (ty, dst, d) =>
    let h := h.ringSend ty dst d (h.ringOut p) w
    s.withSh (h.setRing (fun r => { r.took ty w with sent := r.lastTx }))

/-- A frame of the node has come back: it is removed and TOKEN is passed (R202). -/
def State.returned (s : State) (type w : Nat) : State :=
  match s.sh.ring.sent with
  | some f => if f.frame.type = type then s.passToken f.port w else s
  | none => s
/-- A frame that the node has taken back out of the ring, or a frame of another node, which it repeats (R182). -/
def State.ringBack (type src w : Nat) (s : State) : State := if src = s.sh.raddr then s.returned type w else s

/-! ### Open links (R206–R209) -/

/-- The link of an OPEN or CLOSED frame: the member on its RGB side and the member on its RGA side. -/
def linkOf (src nbr port : Nat) : Nat × Nat := if port = 0 then (nbr, src) else (src, nbr)

/-- RING_FAULT with the link of an OPEN frame; two different links set SPLIT (R209). -/
def Shared.faultAdd (h : Shared) (k : Nat × Nat) : Shared :=
  let f := h.rd RING_FAULT
  let is1 := RING_FAULT_V1.on f && RING_FAULT_A1.get f = k.1 && RING_FAULT_B1.get f = k.2
  let is2 := RING_FAULT_V2.on f && RING_FAULT_A2.get f = k.1 && RING_FAULT_B2.get f = k.2
  if is1 || is2 then h else
  let h := h.wr RING_FAULT (if !RING_FAULT_V1.on f then RING_FAULT_V1.put 1 (RING_FAULT_A1.put k.1 (RING_FAULT_B1.put k.2 f))
    else RING_FAULT_V2.put 1 (RING_FAULT_A2.put k.1 (RING_FAULT_B2.put k.2 f)))
  h.setB RING_STAT RING_STAT_SPLIT (RING_FAULT_V1.on (h.rd RING_FAULT) && RING_FAULT_V2.on (h.rd RING_FAULT))

/-- RING_FAULT without the link of a CLOSED frame (log 33). -/
def Shared.faultDel (h : Shared) (k : Nat × Nat) : Shared :=
  let f := h.rd RING_FAULT
  let h := if RING_FAULT_V1.on f && RING_FAULT_A1.get f = k.1 && RING_FAULT_B1.get f = k.2 then
      h.wr RING_FAULT (RING_FAULT_V1.put 0 (RING_FAULT_A1.put 0 (RING_FAULT_B1.put 0 f))) else h
  let f := h.rd RING_FAULT
  let h := if RING_FAULT_V2.on f && RING_FAULT_A2.get f = k.1 && RING_FAULT_B2.get f = k.2 then
      h.wr RING_FAULT (RING_FAULT_V2.put 0 (RING_FAULT_A2.put 0 (RING_FAULT_B2.put 0 f))) else h
  let f := h.rd RING_FAULT
  h.setB RING_STAT RING_STAT_SPLIT (RING_FAULT_V1.on f && RING_FAULT_V2.on f)

/-- The ring is wrapped: the node has seen an open link, or loops back itself (R206, R209). -/
def Shared.wrapped (h : Shared) : Bool :=
  RING_FAULT_V1.on (h.rd RING_FAULT) || RING_FAULT_V2.on (h.rd RING_FAULT) || h.on RING_STAT RING_STAT_WRAP_A || h.on RING_STAT RING_STAT_WRAP_B
/-- Traffic is expected on a port: RGA in a closed ring, both ports in a wrapped one (R206). -/
def Shared.expects (h : Shared) (p : Port) : Bool := p == .A || h.wrapped
/-- Where the ring has become wrapped since `old`, traffic on RGB is expected from instant `w`. -/
def Shared.expectB (h old : Shared) (w : Nat) : Shared :=
  if !old.wrapped && h.wrapped then h.setRing (fun r => r.at_ .B w) else h

/-- The node enters wrap on a port (R206, R207). -/
def State.enterWrap (s : State) (p : Port) (w : Nat) : State :=
  if s.sh.on RING_STAT (lostFld p) then s else
  let h := (s.sh.setB RING_STAT (lostFld p) true).setB RING_STAT (wrapFld p) true
  let h := (h.setRing (fun r => ((r.setProbes p 0).setClosed p false).setProbeAt p w)).expectB s.sh w
  ((s.withSh h).ringRec 0x0401 w true).ringRec 0x0402 w true

/-- The node leaves wrap on a port: 3 consecutive PROBE frames and a CLOSED from across the link (R208). -/
def State.leaveWrap (s : State) (p : Port) (w : Nat) : State :=
  if s.sh.on RING_STAT (lostFld p) && 3 ≤ s.sh.ring.probes p && s.sh.ring.closed p then
    let h := (s.sh.setB RING_STAT (lostFld p) false).setB RING_STAT (wrapFld p) false
    let h := h.setRing (fun r => ((r.setProbes p 0).setClosed p false).at_ p w)
    ((s.withSh h).ringRec 0x0401 w true).ringRec 0x0402 w true
  else s

/-- The neighbour and port that an OPEN or CLOSED of the node names (R199). -/
def Shared.linkData (h : Shared) (p : Port) : List Byte := [BitVec.ofNat 8 (h.neighbour p), BitVec.ofNat 8 p.num]

/-- A port without a valid frame for 40 ms is lost: OPEN out of the other port, and wrap (R206). -/
def State.portLost (s : State) (p : Port) (w : Nat) : State :=
  if s.ringServes && s.sh.expects p && !s.sh.on RING_STAT (lostFld p) && s.sh.ring.last p + 40000000 ≤ w then
    (s.withSh (s.sh.ringOffer 0x03 (s.sh.linkData p) p.other w)).enterWrap p w
  else s

/-- An OPEN frame (R207, R209). -/
def State.openFrame (s : State) (src nbr port w : Nat) : State :=
  if !s.ringServes then s else
  let k := linkOf src nbr port
  let h := s.sh.setRing (fun r => { r with opens := r.opens.filter (fun x => x.1 != k) ++ [(k, w)] })
  let s := s.withSh ((h.faultAdd k).expectB s.sh w)
  if nbr = s.sh.raddr && src != s.sh.raddr then s.enterWrap (if port = 0 then .B else .A) w else s

/-- A CLOSED frame (R208). -/
def State.closedFrame (s : State) (src nbr port w : Nat) : State :=
  if !s.ringServes then s else
  let k := linkOf src nbr port
  let h := (s.sh.setRing (fun r => { r with opens := r.opens.filter (fun x => x.1 != k) })).faultDel k
  let mine : Port := if port = 0 then .B else .A
  let s := s.withSh h
  if nbr = s.sh.raddr && src != s.sh.raddr then
    (s.withSh (s.sh.setRing (fun r => r.setClosed mine true))).leaveWrap mine w
  else s

/-- A PROBE frame on a port: on a lost port it counts, and the third is answered by CLOSED (R208), out of the port that OPEN went out
of (log 79). -/
def State.probeFrame (s : State) (p : Port) (w : Nat) : State :=
  if !s.ringServes || !s.sh.on RING_STAT (lostFld p) then s else
  let n := s.sh.ring.probes p + 1
  let h := s.sh.setRing (fun r => r.setProbes p n)
  let h := if n = 3 then h.ringOffer 0x05 (h.linkData p) p.other w else h
  (s.withSh h).leaveWrap p w

/-- A member in wrap sends PROBE out of its lost port every 100 ms (R208), but not during a hold (R205). -/
def State.probeTimer (s : State) (p : Port) (w : Nat) : State :=
  if s.ringServes && !s.sh.hold && s.sh.on RING_STAT (wrapFld p) && s.sh.ring.probeAt p + 100000000 ≤ w then
    s.withSh ((s.sh.ringSend 0x04 0x3F [] p w).setRing (fun r => r.setProbeAt p w))
  else s

/-! ### Claims (R204) -/

/-- No TOKEN for 40 ms + 0.5 ms × RADDR: the node sends CLAIM, but not during a hold (R205). -/
def State.tokenLoss (s : State) (w : Nat) : State :=
  if s.ringServes && !s.sh.hold && s.sh.ring.tokAt + 40000000 + 500000 * s.sh.raddr ≤ w then
    let h := (s.sh.bump RING_TOK RING_TOK_TLOSS).setB RING_STAT RING_STAT_CLAIMING true
    let h := (h.ringSend 0x02 0x3F [] (h.ringOut .A) w).setRing (fun r => { r with tokAt := w })
    (s.withSh h).ringRec 0x0403 w true
  else s

/-- A CLAIM frame: the node's own issues a new TOKEN when it returns; one from a lower address drops its claim. -/
def State.claim (s : State) (src w : Nat) : State :=
  if !s.ringServes || !s.sh.on RING_STAT RING_STAT_CLAIMING then s
  else if src = s.sh.raddr then (s.withSh (s.sh.setB RING_STAT RING_STAT_CLAIMING false)).passToken (s.sh.ringOut .A) w
  else if src < s.sh.raddr then s.withSh (s.sh.setB RING_STAT RING_STAT_CLAIMING false)
  else s

/-! ### Station frames (R182, R183, R191) -/

/-- A frame of a station for the lanes' coming cut; a frame of an unknown address is counted, one that ends before the cut opened
belongs to no cut (R35). -/
def State.station (s : State) (type src : Nat) (data : List Byte) (w : Nat) : State :=
  if !s.ringServes then s else
  match s.lead.stationOf src with
  | none => s.withSh (s.sh.bump RING_ERR RING_ERR_UNKNOWN)
  | some _ =>
    if w ≤ s.sh.gt then s else
    s.taking (fun l => { l with cut := { l.cut with ring := l.cut.ring ++ [{ type := type, src := src, data := data, eof := w }] } })

/-- The ring frames of a cut in a lane (R152, R183): presence times and station commands that arrive at boundary `g`. -/
def Lane.ringTaken (l : Lane) (g : Nat) : Lane :=
  let now := l.cut.ring.filter (fun f => f.eof ≤ g)
  let l := { l with cut := { l.cut with ring := l.cut.ring.filter (fun f => g < f.eof) } }
  now.foldl (fun l f =>
    match l.stationOf f.src with
    | none => l
    | some st =>
      if f.type = 0x11 then l.setAlm (fun a => { a with staT := (a.staT.filter (fun x => x.1 != st)) ++ [(st, f.eof)] })
      else l.almArrive { op := (f.data.getD 0 0#8).toNat, tgt := leNat [f.data.getD 1 0#8, f.data.getD 2 0#8], origin := st,
                         acc := f.eof, eff := g, sseq := (f.data.getD 3 0#8).toNat, raddr := f.src }) l

/-- The CALL payload without its sequence number, from the state of the call engine (R199). -/
def Lane.callPayload (l : Lane) : List Byte :=
  let c := l.rd ALM_CALLST
  let dm := l.fld ALM_DMST ALM_DMST_DMST
  let b0 := ALM_CALLST_CSTATE.get c + 4 * ALM_CALLST_STAGE.get c + 16 * ALM_CALLST_EMERG.get c + 32 * dm
  let duty := if ALM_CALLST_NODUTY.on c then 0xFF else ALM_CALLST_DUTY.get c
  [BitVec.ofNat 8 b0, BitVec.ofNat 8 duty] ++ leBytes 2 (l.fld ALM_CALLED ALM_CALLED_CALLED) ++ leBytes 2 l.demand.length

/-! ### Meanings -/

/-- TOKEN (R202); with the bypass closed its observation on RGA may open it (R211). -/
def execRingToken (port : Port) (dst : BitVec 6) (src : BitVec 5) (t : Nat) (s : State) : Res :=
  let w := s.sh.gt + t
  let f := RingFrame.of dst.toNat src.toNat 0x01 []
  .next (if s.ringLive then s.ringIn port f w (fun s => s.token port src.toNat w)
    else if port == .A && f.bad.isNone then s.bypassOpen w else s)
/-- CLAIM (R204). -/
def execRingClaim (port : Port) (dst : BitVec 6) (src : BitVec 5) (t : Nat) (s : State) : Res :=
  let w := s.sh.gt + t
  .next (s.ringIn port (RingFrame.of dst.toNat src.toNat 0x02 []) w (fun s => s.claim src.toNat w))
/-- The payload of an OPEN or CLOSED frame. -/
def linkBytes (nbr : BitVec 5) (lost : Port) : List Byte := [BitVec.ofNat 8 nbr.toNat, BitVec.ofNat 8 lost.num]
/-- OPEN (R206, R207, R209): the neighbour and port the frame names. -/
def execRingOpen (port : Port) (dst : BitVec 6) (src nbr : BitVec 5) (lost : Port) (t : Nat) (s : State) : Res :=
  let w := s.sh.gt + t
  .next (s.ringIn port (RingFrame.of dst.toNat src.toNat 0x03 (linkBytes nbr lost)) w
    (fun s => s.openFrame src.toNat nbr.toNat lost.num w))
/-- PROBE (R208). -/
def execRingProbe (port : Port) (dst : BitVec 6) (src : BitVec 5) (t : Nat) (s : State) : Res :=
  let w := s.sh.gt + t
  .next (s.ringIn port (RingFrame.of dst.toNat src.toNat 0x04 []) w (fun s => s.probeFrame port w))
/-- CLOSED (R208). -/
def execRingClosed (port : Port) (dst : BitVec 6) (src nbr : BitVec 5) (lost : Port) (t : Nat) (s : State) : Res :=
  let w := s.sh.gt + t
  .next (s.ringIn port (RingFrame.of dst.toNat src.toNat 0x05 (linkBytes nbr lost)) w
    (fun s => s.closedFrame src.toNat nbr.toNat lost.num w))
/-- CALL (R182, R202): the node's own frame is removed, another one is repeated. -/
def execRingCall (port : Port) (dst : BitVec 6) (src : BitVec 5) (data : List Byte) (t : Nat) (s : State) : Res :=
  let w := s.sh.gt + t
  .next (s.ringIn port (RingFrame.of dst.toNat src.toNat 0x08 data) w (State.ringBack 0x08 src.toNat w))
/-- STN_CMD (R182): a station command, taken when it is addressed to the node. -/
def execStnCmd (port : Port) (src : BitVec 5) (dst : BitVec 6) (op : Byte) (tgt : BitVec 16) (seq : Byte) (t : Nat) (s : State) : Res :=
  let w := s.sh.gt + t
  let data := [op] ++ leBytes 2 tgt.toNat ++ [seq]
  .next (s.ringIn port (RingFrame.of dst.toNat src.toNat 0x10 data) w
    (fun s => if dst.toNat = s.sh.raddr then s.station 0x10 src.toNat data w else s))
/-- STN_STAT (R183). -/
def execStnStat (port : Port) (dst : BitVec 6) (src : BitVec 5) (data : List Byte) (t : Nat) (s : State) : Res :=
  let w := s.sh.gt + t
  .next (s.ringIn port (RingFrame.of dst.toNat src.toNat 0x11 data) w (fun s => s.station 0x11 src.toNat [] w))
/-- CMD_RESP (R182, R202). -/
def execCmdResp (port : Port) (dst : BitVec 6) (src : BitVec 5) (data : List Byte) (t : Nat) (s : State) : Res :=
  let w := s.sh.gt + t
  .next (s.ringIn port (RingFrame.of dst.toNat src.toNat 0x12 data) w (State.ringBack 0x12 src.toNat w))
/-- RING_FRAME_CORRUPT (R198, R199): a frame as received with a CRC error, a Manchester violation, or a LEN, DST or TYPE that is
not taken. -/
def execRingFrameCorrupt (port : Port) (hdr : BitVec 16) (len : Byte) (data : List Byte) (crc : BitVec 16) (viol : Bool) (t : Nat)
    (s : State) : Res := .next (s.ringIn port ⟨hdr, len, data, crc, viol⟩ (s.sh.gt + t) id)
/-- TOKEN_LOSS (R204). -/
def execTokenLoss (t : Nat) (s : State) : Res := .next (s.tokenLoss (s.sh.gt + t))
/-- FRAME_RETURN_TIMEOUT (R202): the frame sent has not come back 250 µs after its end delimiter. -/
def execFrameReturnTimeout (t : Nat) (s : State) : Res :=
  let w := s.sh.gt + t
  .next (match s.sh.ring.sent with
    | some f => if f.at_ + 250000 ≤ w then (s.withSh (s.sh.bump RING_TOK RING_TOK_RETFAIL)).passToken f.port w else s
    | none => s)
/-- PORT_LOST (R206). -/
def execPortLost (port : Port) (t : Nat) (s : State) : Res := .next (s.portLost port (s.sh.gt + t))
/-- PROBE_TIMER (R208). -/
def execProbeTimer (port : Port) (t : Nat) (s : State) : Res := .next (s.probeTimer port (s.sh.gt + t))
/-- RING_DIS_TIMEOUT (R211). -/
def execRingDisTimeout (t : Nat) (s : State) : Res :=
  let w := s.sh.gt + t
  .next (match s.sh.ring.disAt with
    | some d => if d + 40000000 ≤ w then s.bypassClose w else s
    | none => s)
/-- CALL_REFRESH (R200): the next token visit sends a CALL in time for one at least every 1.0 s. -/
def execCallRefresh (t : Nat) (s : State) : Res :=
  .next (if s.sh.ring.callAt + callRefresh ≤ s.sh.gt + t then s.withSh (s.sh.setRing (fun r => { r with callDue := true })) else s)
/-- CNT_CLR (R215, R526): RING_ERR and RING_TOK clear; without effect in bisque mode. -/
def execCntClr (s : State) : Res := .next (if s.sh.bisque then s else s.withSh ((s.sh.wr RING_ERR 0#32).wr RING_TOK 0#32))

end Sys2Proof.Machine
end

