-- ==== Sys2Proof/Machine/Aout.lean ====
section
/-! DEFINITION. The loop output stage (spec/08, R244–R270): the choice of current and its code, compliance, thermal
limit, readback and deviation, mode takeover, and the AO commands. -/

namespace Sys2Proof.Machine

/-- The stage's state of loop output `n`. -/
def Shared.ao (h : Shared) (n : Nat) : AoHw := h.aos.at {} n
def Shared.setAo (h : Shared) (n : Nat) (w : AoHw) : Shared := { h with aos := h.aos.upd {} n w }
/-- The channel carries no current from the node at present. -/
def Shared.aoOff (h : Shared) (n : Nat) : Bool := h.on (AO_CODE n) AO_CODE_OFF

/-- MODE in force (0 off, 1 source, 2 sink). -/
def Lane.aoMode (l : Lane) (n : Nat) : Nat := l.fld (AO_ST n) AO_ST_MODE

/-- The failure current of a group is the high one (R250). -/
def Lane.failHi (l : Lane) (grp : Nat) : Bool :=
  match l.fld (AO_GCFG grp) AO_GCFG_FAILSEL with
  | 1 => false
  | 2 => true
  | _ => l.on (AO_GCFG grp) AO_GCFG_STRAP
/-- FAILHI shows the failure current in force. -/
def Lane.failSync (l : Lane) : Lane := (upTo 4).foldl (fun l i => l.setB (AO_GCFG i) AO_GCFG_FAILHI (l.failHi i)) l
/-- The failure current of a channel in mA (R250). -/
def Lane.failCurrent (l : Lane) (n : Nat) : F32 := if l.failHi (n / 6) then F32.ofRat 215 10 else F32.ofRat 34 10

/-- The failure source of a channel is true (R248). Its KIND 0x7 reads the point as it stands. -/
def Lane.failSource (l : Lane) (n : Nat) : Bool :=
  let k := l.rd (AO_FSRC n)
  let kind := AO_FSRC_KIND.get k
  let v := l.source (fun p => isOn (l.ptState p)) false kind (AO_FSRC_INDEX.get k) (AO_FSRC_SUB.get k)
  kind != 0 && (isTrue v.1 || (kind == 8 && v.2))

/-- The limits of R249. -/
def aoLimit (ne43 : Bool) (x : F32) : F32 :=
  if ne43 then F32.clamp (F32.ofRat 38 10) (F32.ofRat 205 10) x else F32.clamp 0#32 (F32.ofRat 24 1) x

/-- The current of a destination value (R235). -/
def destCurrent (maZero : Bool) (v : F32) : F32 :=
  if maZero then F32.mul v (F32.ofRat 2 10) else F32.add (F32.ofRat 4 1) (F32.mul v (F32.ofRat 16 100))

/-- The DAC code of a current (R251). -/
def aoDac (i : F32) : Nat := min 65535 (F32.toIntRNE (F32.mul i 0x452AAAAB#32)).toNat

/-- The row of R247 that applies at the coming boundary `next`, and its current before limiting. -/
def Lane.aoChoice (l : Lane) (next n : Nat) : Nat × F32 :=
  let st := l.rd (AO_ST n)
  if AO_ST_MODE.get st = 0 || AO_ST_TOFF.on st || AO_ST_TLATCH.on st then (1, 0#32)
  else if AO_ST_FORCED.on st || l.failSource n then (2, l.failCurrent n)
  else match l.namedBy 1 n with
    | some x => (3, destCurrent (l.on (CTRL_DST x.1 x.2) CTRL_DST_MA_ZERO) (l.vAt next x.1 x.2))
    | none => (4, (l.ao n).setMa.getD (l.rd (AO_INIT n)))

/-- Phase 6 for a channel: the current, flags and code for the boundary `next` (R247–R251). -/
def Lane.aoForm (g next : Nat) (l : Lane) (n : Nat) : Lane :=
  let c := l.aoChoice next n
  let lim := if c.1 = 3 ∨ c.1 = 4 then aoLimit (l.on (AO_CFG n) AO_CFG_NE43) c.2 else c.2
  let l := l.aoFlag g n 6 (c.1 == 2)
  let l := (l.setB (AO_ST n) AO_ST_LIMITED (!F32.eq lim c.2)).setB (AO_ST n) AO_ST_DIRECT (c.1 == 4)
  let off := c.1 == 1
  (l.wr (AO_SET n) lim).setAo n { l.ao n with code := if off then 0 else aoDac lim, off := off }

/-- The arbiter applies the codes a lane has released (R252). A channel that has switched itself off stays off; with AOUT off
every channel is off (R615). -/
def Shared.aoApply (l : Lane) (h : Shared) : Shared :=
  (upTo 24).foldl (fun h n =>
    let w := l.ao n
    let off := w.off || (h.ao n).toff || (h.ao n).tlatch || h.aoutOn.isNone
    h.wr (AO_CODE n) (AO_CODE_CODE.put (if off then 0 else w.code) (AO_CODE_OFF.put off.toNat 0#32))) h

/-! ### Status in the cut and comparison (R256–R263) -/

/-- HART of channel `n`. -/
def Lane.hart (l : Lane) (n : Nat) : HartWork := l.harts.at {} n
def Lane.setHart (l : Lane) (n : Nat) (w : HartWork) : Lane := { l with harts := l.harts.upd {} n w }

/-- A poll that did not end DONE; three in a row clear PV_VALID (R278). -/
def Lane.hartBadPoll (l : Lane) (n : Nat) : Lane :=
  let w := l.hart n
  let k := w.badPolls + 1
  let l := l.setHart n { w with badPolls := k }
  if 3 ≤ k then l.setB (HRT_ST n) HRT_ST_PV_VALID false else l

/-- A running or queued HART transaction of a channel ends ABORTED (R276); a poll that was running is one that did not end DONE. -/
def Lane.hartAbort (l : Lane) (n : Nat) : Lane :=
  let w := l.hart n
  if w.cur.isNone && w.hostQ.isNone then l else
  let l := l.setHart n { w with cur := none, hostQ := none, pollDue := false, defHost := false, defPoll := false }
  let l := if w.cur.any (fun t => t.poll) then l.hartBadPoll n else l
  let l := l.wr (HRT_ST n) (HRT_ST_TSTAT.put 6 (HRT_ST_POLL_RUN.put 0 (l.rd (HRT_ST n))))
  ((l.setB (AO_ST n) AO_ST_HART_BUSY false).setB (AO_ST n) AO_ST_HART_ERR true).ev (evHart n)

/-- One comparison of R263. -/
def Lane.aoCompare (g : Nat) (l : Lane) (n : Nat) : Lane :=
  let code := l.aoCode n
  let w := l.ao n
  let step := if w.last < code then code - w.last else w.last - code
  let w := { w with last := code, suspUntil := if 1048576 < step * 2400 then g + 5000000 else w.suspUntil }
  let l := l.setAo n w
  let st := l.rd (AO_ST n)
  let susp := g < w.suspUntil || l.hwOn (AO_CODE n) AO_CODE_OFF || AO_ST_RB_INV.on st
  let l := l.setB (AO_ST n) AO_ST_BLANK susp
  if susp then l else
  let out := F32.gt (F32.abs (F32.sub (l.rd (AO_RB n)) (aoCurrent code))) (F32.ofRat 16 100)
  let cnt := AO_ST_DEVCNT.get st
  let cnt := if out != AO_ST_DEV.on st then (if cnt = 20 then 0 else cnt) + 1 else 0
  (l.setF (AO_ST n) AO_ST_DEVCNT cnt).setAo n { w with devDue := cnt = 20 }

/-- RB_INV from the newest check, the stage link and MODE (R262). -/
def Lane.rbInv (l : Lane) (n : Nat) : Bool :=
  if l.aoLost || l.aoMode n == 0 then true else
  match (l.ao n).chk with
  | some ok => !ok
  | none => l.on (AO_ST n) AO_ST_RB_INV

/-- The stage's status and readback of a channel enter AO_STn and AO_RBn; a switch-off in the stage aborts its HART transaction. -/
def Lane.aoStatusIn (g : Nat) (l : Lane) (n : Nat) (w : AoHw) : Lane :=
  let l := l.wr (AO_RB n) w.rb
  let wasOff := l.on (AO_ST n) AO_ST_TOFF
  let l := l.aoFlag g n 0 w.compl
  let l := l.aoFlag g n 2 (w.compl && 8192 ≤ l.aoCode n * 3 && F32.lt w.rb (F32.ofRat 1 10))
  let l := ((l.aoFlag g n 3 w.twarn).aoFlag g n 4 w.toff).aoFlag g n 5 w.tlatch
  if w.toff && !wasOff then l.hartAbort n else l

/-- Phase 3 for a channel. A lane whose link is lost takes nothing of the stage (R21, R262). -/
def Lane.aoTake (h : Shared) (g : Nat) (l : Lane) (n : Nat) : Lane :=
  let l := if l.aoLost then l else l.aoStatusIn g n (h.ao n)
  let l := (l.aoFlag g n 9 (l.rbInv n)).setAo n { l.ao n with chk := none }
  l.aoCompare g n

/-- The loss of a link lasts to the boundary whose cut it falls into; the status of the next epoch shows the link up again unless it
is lost anew (log 84). -/
def Lane.aoRelink (h : Shared) (l : Lane) : Lane := if h.aoutOn.isSome then { l with aoLost := false } else l

/-- A channel takes its new mode 2 epochs after a partial firing switched it off (R268). -/
def Lane.aoTakeover (g : Nat) (l : Lane) (n : Nat) : Lane :=
  if (l.ao n).takeover == some g then
    (l.setF (AO_ST n) AO_ST_MODE (l.fld (AO_CFG n) AO_CFG_MODE)).setAo n { l.ao n with takeover := none }
  else l

/-- A partial firing changes MODE of a channel at its effect boundary `g` (R268). -/
def Lane.aoModeOff (g : Nat) (l : Lane) (n : Nat) : Lane :=
  let l := l.hartAbort n
  let l := ((l.aoFlag g n 0 false).aoFlag g n 1 false).aoFlag g n 2 false
  let l := (l.setF (AO_ST n) AO_ST_DEVCNT 0).setB (AO_ST n) AO_ST_LIMITED false
  let l := { l with hw := RegFile.wr l.hw (AO_CODE n) (AO_CODE_OFF.put 1 0#32) }
  (l.setF (AO_ST n) AO_ST_MODE 0).setAo n { l.ao n with takeover := some (g + 2000000), devDue := false }
/-- The stage switches off a channel whose MODE a partial firing changes (R268). -/
def Shared.aoModeOff (h : Shared) (n : Nat) : Shared :=
  (h.wr (AO_CODE n) (AO_CODE_OFF.put 1 0#32)).setAo n { h.ao n with compl := false }

/-- A channel after firing: MODE of the image, no SET_MA, FORCED clear (R266, R270). -/
def Lane.aoFire (l : Lane) (n : Nat) : Lane :=
  let st := AO_ST_MODE.put (l.fld (AO_CFG n) AO_CFG_MODE) (AO_ST_FORCED.put 0 (l.rd (AO_ST n)))
  let l := l.wr (AO_ST n) (AO_ST_DEVCNT.put 0 (AO_ST_DEV.put 0 st))
  l.setAo n { (l.ao n) with setMa := none, takeover := none, devDue := false }

/-! ### Commands (R269, R270) -/

/-- Byte `i` of a buffer of words, four bytes each, least significant first. -/
def Lane.bufByte (l : Lane) (base i : Nat) : Byte := (l.rd (base + i / 4) >>> (8 * (i % 4))).setWidth 8

/-- An AO command ends INVALID (R269). -/
def aoInvalid (op n arg : Nat) (v : F32) : Bool :=
  23 < n || (match op with
    | 1 => arg != 0 || !F32.isFin v || F32.lt v 0#32 || F32.gt v (F32.ofRat 24 1)
    | 2 => 1 < arg
    | 3 => arg != 0
    | 0x10 => arg != 0
    | _ => true)

/-- An AO command ends STATE_REFUSED (R270). -/
def Lane.aoRefused (l : Lane) (op n arg : Nat) : Bool :=
  let st := l.rd (AO_ST n)
  let off := AO_ST_MODE.get st == 0
  let w := l.hart n
  match op with
  | 1 => off || (l.namedBy 1 n).isSome
  | 2 => AO_ST_FORCED.get st == arg || off
  | 3 => !AO_ST_TLATCH.on st
  | _ => !l.on (AO_CFG n) AO_CFG_HART_EN || off || w.hostQ.isSome || (w.cur.any fun t => !t.poll)
      || 64 < (l.bufByte (HRT_TX n 0) 1).toNat

/-- The outcome of an AO command at its effect boundary. -/
def Lane.aoStatus (l : Lane) (op n arg : Nat) (v : F32) : Nat :=
  if aoInvalid op n arg v then stInvalid else if l.aoRefused op n arg then stRefused else stDone

/-- The effect of an AO command in a lane. -/
def Lane.aoEffect (l : Lane) (op n arg : Nat) (v : F32) : Lane :=
  match op with
  | 1 => l.setAo n { l.ao n with setMa := some v }
  | 2 => l.setF (AO_ST n) AO_ST_FORCED arg
  | 3 => l
  | _ =>
    let cnt := (l.bufByte (HRT_TX n 0) 1).toNat
    let l := l.setHart n { l.hart n with hostQ := some ((upTo (cnt + 2)).map (l.bufByte (HRT_TX n 0))) }
    (l.setF (HRT_ST n) HRT_ST_TSTAT 1).setB (AO_ST n) AO_ST_HART_BUSY true

/-- A lane at the effect boundary of an AO command. -/
def Lane.aoCmd (op n arg : Nat) (v : F32) (l : Lane) : Lane :=
  let st := l.aoStatus op n arg v
  let l := l.setF AO_CMDST AO_CMDST_STATUS st
  if st = stDone then l.aoEffect op n arg v else l.ev evAoRefused

/-- CLEAR_THERM in the stage. -/
def Shared.aoEffect (h : Shared) (op n : Nat) : Shared :=
  if op = 3 then h.setAo n { h.ao n with tlatch := false } else h

/-- LAST_OP and LAST_CH of a write of AO_CMD. -/
def Lane.aoNote (op n : Nat) (l : Lane) : Lane :=
  (l.setF AO_CMDST AO_CMDST_LAST_OP op).setF AO_CMDST AO_CMDST_LAST_CH n

/-- An AO command at its effect boundary. -/
def State.aoCmd (s : State) (op n arg : Nat) (v : F32) : State :=
  let sh := if s.lead.aoStatus op n arg v = stDone then s.sh.aoEffect op n else s.sh
  (s.both (Lane.aoCmd op n arg v)).withSh sh

/-- An AO command written and taking effect at the newest boundary; CLEAR_THERM then shows in the status that phase 3 of the running
epoch has taken (R260). -/
def State.aoRow (s : State) (op n arg : Nat) (v : F32) : State :=
  let clear (l : Lane) : Lane := if op = 3 && l.fld AO_CMDST AO_CMDST_STATUS = stDone then l.aoFlag s.sh.gt n 5 false else l
  ((s.both (Lane.aoNote op n)).aoCmd op n arg v).both clear

/-! ### Meanings -/

/-- SET_MA (R270). -/
def execSetMa (ch : BitVec 5) (arg : BitVec 8) (v : Word) (s : State) : Res := .next (s.aoRow 1 ch.toNat arg.toNat v)
/-- FORCE_FAIL (R270). -/
def execForceFail (ch : BitVec 5) (arg : BitVec 8) (s : State) : Res := .next (s.aoRow 2 ch.toNat arg.toNat 0#32)
/-- CLEAR_THERM (R270). -/
def execClearTherm (ch : BitVec 5) (arg : BitVec 8) (s : State) : Res := .next (s.aoRow 3 ch.toNat arg.toNat 0#32)
/-- HART_SEND (R270). -/
def execHartSend (ch : BitVec 5) (arg : BitVec 8) (s : State) : Res := .next (s.aoRow 0x10 ch.toNat arg.toNat 0#32)

/-- COMPL_SET (R256): not while the channel is off. -/
def execComplSet (ch : Fin 24) (s : State) : Res :=
  .next (if s.sh.aoOff ch then s else s.withSh (s.sh.setAo ch { s.sh.ao ch with compl := true }))
/-- COMPL_CLEAR (R256). -/
def execComplClear (ch : Fin 24) (s : State) : Res := .next (s.withSh (s.sh.setAo ch { s.sh.ao ch with compl := false }))

/-- TWARN after a regulator temperature, coded as TEMP (°C + 40). -/
def twarnNext (temp : Nat) (was : Bool) : Bool := if 180 < temp then true else if temp < 170 then false else was
/-- The monitors of a channel (R256, R259, R280): headroom in 0.1 V, load voltage in 0.125 V, and temperature as TEMP codes it. -/
def Shared.aoMonitor (h : Shared) (n : Nat) (headroom loadv temp : Byte) : Shared :=
  let w := AO_MON_HEADROOM.put headroom.toNat (AO_MON_LOADV.put loadv.toNat (AO_MON_TEMP.put temp.toNat (h.rd (AO_MON n))))
  (h.wr (AO_MON n) w).setAo n { h.ao n with twarn := twarnNext temp.toNat (h.ao n).twarn }
/-- TWARN_CHANGE (R259): the regulator reaches a temperature, coded as TEMP of AO_MON. -/
def execTwarnChange (ch : Fin 24) (temp : Byte) (s : State) : Res :=
  let w := s.sh.ao ch
  let h := s.sh.setF (AO_MON ch) AO_MON_TEMP temp.toNat
  .next (s.withSh (h.setAo ch { w with twarn := twarnNext temp.toNat w.twarn }))

/-- A thermal switch-off at instant `w` (R259, R260). -/
def Shared.thermalOff (h : Shared) (n w : Nat) : Shared :=
  let x := h.ao n
  let win := w / 60000000000
  let cnt := (if x.win = win then x.winTof else 0) + 1
  let h := (h.bump (AO_MON n) AO_MON_TOFFS).wr (AO_CODE n) (AO_CODE_OFF.put 1 0#32)
  h.setAo n { x with toff := true, toffAt := w, cool := false, win := win, winTof := cnt, tlatch := x.tlatch || 8 ≤ cnt }
/-- THERMAL_SWITCH_OFF (R259, R260): `t` ns after the newest boundary. -/
def execThermalSwitchOff (ch : Fin 24) (t : Nat) (s : State) : Res :=
  .next (if (s.sh.ao ch).toff then s else s.withSh (s.sh.thermalOff ch (s.sh.gt + t)))

/-- THERMAL_RECOVERY (R259): the regulator stands at a temperature (coded as TEMP) at most 135 °C at least 100 ms after
the switch-off; TOFF clears at the next boundary. -/
def execThermalRecovery (ch : Fin 24) (temp : Byte) (t : Nat) (s : State) : Res :=
  let w := s.sh.ao ch
  .next (if w.toff && temp.toNat ≤ 175 && w.toffAt + 100000000 ≤ s.sh.gt + t
    then s.withSh (s.sh.setAo ch { w with cool := true }) else s)
/-- TOFF of the channels that have cooled clears at a boundary. -/
def Shared.aoBoundary (h : Shared) : Shared :=
  (upTo 24).foldl (fun h n =>
    let w := h.ao n
    if w.toff && w.cool then h.setAo n { w with toff := false, cool := false } else h) h

/-- A check level is converted at the newest boundary (R262). -/
def Shared.checkDue (h : Shared) : Bool :=
  h.gt % 1000000000 == 0 && (match h.aoutOn with
    | some t => t + 10000000 ≤ h.gt
    | none => false)
/-- READBACK_CHECK (R262): `pass` when the result lies within 0.1 % of its production value. -/
def execReadbackCheck (ch : Fin 24) (pass : Bool) (s : State) : Res :=
  .next (if s.sh.checkDue then s.taking (fun l => if l.aoLost then l else l.setAo ch { l.ao ch with chk := some pass }) else s)
/-- AOUT_LINK_LOST (R262): no valid status on the link to a lane for 50 µs. -/
def execAoutLinkLost (lane : LaneId) (s : State) : Res := .next (s.upd lane (fun l => { l with aoLost := true }))
/-- DEV_CHANGE (R263). -/
def execDevChange (ch : Fin 24) (s : State) : Res := .next (s.both (Lane.devChange s.sh.gt · ch))
/-- AO_MODE_TAKEOVER (R268). -/
def execAoModeTakeover (ch : Fin 24) (s : State) : Res := .next (s.both (Lane.aoTakeover s.sh.gt · ch))

end Sys2Proof.Machine
end

