-- ==== Sys2Proof/Machine/Dio.lean ====
section
/-! DEFINITION. The field digital I/O stage (spec/09, R281–R309): crossings, debounce and qualified edges, the applied
state of the outputs, readback faults, bank supplies, links, and the DIO commands. -/

namespace Sys2Proof.Machine

/-! ### Inputs (R285–R289) -/

def Shared.di (h : Shared) (n : Nat) : DiHw := h.dis.at {} n
def Shared.setDi (h : Shared) (n : Nat) (w : DiHw) : Shared := { h with dis := h.dis.upd {} n w }

/-- The number of a sample: multiples of 100 µs of global time (R281). -/
def sampleNo (t : Nat) : Nat := t / 100000

/-- N of R286. -/
def Lane.debN (l : Lane) (n : Nat) : Nat :=
  let d := l.fld (DI_CFG n) DI_CFG_DEB
  if d = 0 then 1 else d * 10
/-- The level of an input after INV. -/
def Lane.diLevel (l : Lane) (n : Nat) (w : DiHw) : Bool := w.raw != l.on (DI_CFG n) DI_CFG_INV

/-- The level of an input that a sample at instant `t` finds: a crossing stamped `t` or later is seen by a later one (R285). -/
def DiHw.seenAt (w : DiHw) (t : Nat) : Bool := if w.crossAt < t then w.raw else w.was
/-- The level that a crossing replaces, where it bears another stamp than the one before. -/
def DiHw.before (w : DiHw) (t : Nat) : Bool := if w.crossAt = t then w.was else w.raw

/-- The stage link to the lane is up (R307). LINK of DI_BSTk shows it as of the newest cut. -/
def Lane.dioLink (l : Lane) : Bool := l.dioUp
/-- The stage has its supply. -/
def Shared.dioOn (h : Shared) : Bool := h.on (PWR_DST 12) PWR_DST_ON

/-- The first sample after a switch-on or a firing, if it lies at or before instant `t`: the debounced state takes its
level without an edge (R286). -/
def DiHw.settle (w : DiHw) (lvl : Bool) (t : Nat) : DiHw :=
  match w.initAt with
  | some t0 => if t0 ≤ t then { w with deb := lvl, initAt := none, run := none } else w
  | none => w

/-- The edge that qualifies at or before instant `t`, if any (R286, R287). -/
def DiHw.qualify (w : DiHw) (n : Nat) (lvl : Bool) (deb t : Nat) : DiHw × Option DiEdge :=
  match w.run with
  | some r =>
    let q := (r + deb - 1) * 100000
    if w.initAt.isNone && lvl != w.deb && q ≤ t then
      ({ w with deb := lvl, run := none }, some { n := n, level := lvl, qual := q, raw := w.crossAt })
    else (w, none)
  | none => (w, none)

/-- An edge is sent to the lanes whose link is up (R21, R307). -/
def Lane.diSend (e : Option DiEdge) (l : Lane) : Lane :=
  match e with
  | some e => if l.takes && l.dioLink then { l with cut := { l.cut with edges := l.cut.edges ++ [e] } } else l
  | none => l

/-- Input `n` followed to instant `t`. -/
def State.diTo (t : Nat) (s : State) (n : Nat) : State :=
  if !s.sh.dioOn then s else
  let l := s.lead
  let w := s.sh.di n
  let w := w.settle (l.diLevel n w) t
  let x := w.qualify n (l.diLevel n w) (l.debN n) t
  let s := s.withSh (s.sh.setDi n x.1)
  { s with a := s.a.diSend x.2, b := s.b.diSend x.2 }

/-- A crossing to `level` stamped `t` (R285, R288). -/
def DiHw.cross (w : DiHw) (deb : Nat) (inv level : Bool) (t : Nat) : DiHw :=
  let seen := sampleNo t - sampleNo w.crossAt
  let g := if seen < deb then min 255 (w.glitch + 1) else w.glitch
  let w := { w with raw := level, was := w.before t, crossAt := t }
  if w.initAt.isSome then w else
  let lvl := level != inv
  if lvl == w.deb then { w with glitch := g }
  else { w with glitch := g, run := if seen = 0 && w.run.isSome then w.run else some (sampleNo t + 1) }

/-- The lanes take the inputs of the cut (phase 3): edges in order of qualification, then the states. -/
def Lane.diEdge (l : Lane) (e : DiEdge) : Lane :=
  let l := (l.wr (DI_TSLO e.n) (w32 e.raw)).wr (DI_TSHI e.n) (w32 (e.raw / 2 ^ 32))
  let l := l.wrap (DI_ST e.n) DI_ST_EDGES
  if l.on (DI_CFG e.n) DI_CFG_REC then
    l.record 0x0702 e.raw (w32 e.n) (w32 (b2n e.level)) (w32 ((e.qual - e.raw) / 1000)) 0#32
  else l

/-- A word of 32 truth values. -/
def bits32 (f : Nat → Bool) : Word := (upTo 32).foldl (fun (w : Word) n => w ||| bit32 (f n) n) 0#32

/-- LINK of every DI_BSTk in a lane. -/
def Lane.setDioLink (v : Bool) (l : Lane) : Lane := (upTo 4).foldl (fun l k => l.setB (DI_BST k) DI_BST_LINK v) l

/-- The input states of the cut of boundary `g`, DI_RAW being the level of the newest sample. -/
def Lane.diTake (h : Shared) (g : Nat) (l : Lane) : Lane :=
  let l := l.setDioLink l.dioLink
  let now := sortBy (fun (e : DiEdge) => e.qual) (l.cut.edges.filter (fun e => e.qual ≤ g))
  let l := { l with cut := { l.cut with edges := l.cut.edges.filter (fun e => g < e.qual) } }
  let l := now.foldl Lane.diEdge l
  if !l.dioLink then l else
  let st := bits32 (fun n => (h.di n).deb)
  let l := (l.wr DI_STATE st).wr DI_RAW (bits32 (fun n => (h.di n).seenAt g))
  let l := (upTo 32).foldl (fun l n =>
    l.wr (DI_ST n) (DI_ST_STATE.put (b2n (h.di n).deb) (DI_ST_GLITCH.put (h.di n).glitch (l.rd (DI_ST n))))) l
  (upTo 4).foldl (fun l k => l.setF (DI_BST k) DI_BST_STATE ((st.toNat / 2 ^ (8 * k)) % 256)) l

/-! ### Outputs: the applied state (R293–R296) -/

def Shared.dou (h : Shared) (n : Nat) : DoHw := h.dos.at {} n
def Shared.setDou (h : Shared) (n : Nat) (w : DoHw) : Shared := { h with dos := h.dos.upd {} n w }
def Shared.bank (h : Shared) (k : Nat) : BankHw := h.banks.at {} k
def Shared.setBank (h : Shared) (k : Nat) (w : BankHw) : Shared := { h with banks := h.banks.upd {} k w }

/-- The state of output `n` under R295. -/
def Shared.doWants (l : Lane) (h : Shared) (n : Nat) : Bool :=
  let b := h.rd (DO_BST (n / 8))
  h.doLive && !h.markLost && l.on (DO_CFG n) DO_CFG_EN && !DO_BST_UV.on b && !DO_BST_ACKREQ.on b
    && !(h.bank (n / 8)).waits && !h.on (DO_ST n) DO_ST_SLATCH && bitOf h.doRel n

/-- The rows of R295 evaluated for one output; a change of the applied state blanks the comparison (R299). -/
def Shared.doApply (l : Lane) (h : Shared) (n : Nat) : Shared :=
  let v := h.doWants l n
  if h.on (DO_ST n) DO_ST_APPLIED == v then h else
  let h := (h.setB (DO_ST n) DO_ST_APPLIED v).setB (DO_ST n) DO_ST_BLANK true
  (h.setDou n { h.dou n with age := 0 }).wr DO_STATE (h.rd DO_STATE ^^^ (1#32 <<< n))

/-- The rows of R295 evaluated for every output. -/
def Shared.doAll (l : Lane) (h : Shared) : Shared := (upTo 32).foldl (Shared.doApply l) h

/-! ### Samples (R281, R297–R303) -/

/-- A readback sample (R297): 0 off, 1 on, 2 indeterminate, from VFk and the level at the terminal, both in 10 mV. Off is taken
where both levels are met (log 82). -/
def readClass (vf : Nat) (v : Int) : Nat := if v ≤ 500 then 0 else if (v - vf).natAbs ≤ 300 then 1 else 2

/-- A word with bit `n` replaced. -/
def putBit (w : Word) (n : Nat) (v : Bool) : Word := if v then w ||| (1#32 <<< n) else w &&& ~~~(1#32 <<< n)

/-- A count of samples in a row, up to `m`. -/
def inRow (go : Bool) (n m : Nat) : Nat := if go then min m (n + 1) else 0

/-- The supply of bank `k` at a sample (R303): 10 samples beyond a threshold cross it, and samples that span 100 ms clear a flag;
RESTORE acts when UV clears (R304). -/
def Shared.bankSample (l : Lane) (h : Shared) (k : Nat) : Shared :=
  let b := h.bank k
  let b := { b with
    nWarn := inRow (b.vf < 1920) b.nWarn 10, nOk := inRow (1970 ≤ b.vf) b.nOk 1001, nLow := inRow (b.vf < 1600) b.nLow 10,
    nGood := inRow (1700 ≤ b.vf) b.nGood 1001, sum := b.sum + b.vf, cnt := b.cnt + 1 }
  let st := h.rd (DO_BST k)
  let warn := if b.nWarn = 10 then true else if b.nOk = 1001 then false else DO_BST_VWARN.on st
  let uv := if b.nLow = 10 then true else if b.nGood = 1001 then false else DO_BST_UV.on st
  let back := DO_BST_UV.on st && !uv
  let rest := l.on (DO_BCFG k) DO_BCFG_RESTORE
  let st := DO_BST_VWARN.put warn.toNat (DO_BST_UV.put uv.toNat (DO_BST_ACKREQ.put ((back && rest) || DO_BST_ACKREQ.on st).toNat st))
  (h.wr (DO_BST k) st).setBank k { b with waits := b.waits || (back && !rest) }

/-- MISM, LOW, BACKFED and EPIS after a compared sample of output `n` that disagrees (`bad`) or not (R299, R300). -/
def Shared.compared (bad : Bool) (n : Nat) (h : Shared) : Shared :=
  let w := h.dou n
  let cnt := min 30 ((if bad == w.bad then w.cnt else 0) + 1)
  let h := h.setDou n { w with bad := bad, cnt := cnt }
  if cnt < 30 then h else
  let st := h.rd (DO_ST n)
  let on := DO_ST_APPLIED.on st
  let h := if bad && !DO_ST_MISM.on st then h.bump (DO_ST n) DO_ST_EPIS else h
  let st := h.rd (DO_ST n)
  h.wr (DO_ST n) (DO_ST_MISM.put bad.toNat (DO_ST_LOW.put (bad && on).toNat (DO_ST_BACKFED.put (bad && !on).toNat st)))

/-- SLATCH at a sample (R302): LOW, which was `low` before it, has been set for 100 ms. -/
def Shared.lowSample (l : Lane) (low : Bool) (n : Nat) (h : Shared) : Shared :=
  if !h.on (DO_ST n) DO_ST_LOW then h else
  let m := if low then min 1000 ((h.dou n).lowN + 1) else 0
  let h := h.setDou n { h.dou n with lowN := m }
  if m = 1000 && l.on (DO_CFG n) DO_CFG_SLATCH_EN then h.setB (DO_ST n) DO_ST_SLATCH true else h

/-- Output `n` at a sample: its readback, compared from 200 µs after a change of the applied state while EN is set (R297, R299). -/
def Shared.doSample (l : Lane) (h : Shared) (n : Nat) : Shared :=
  let w := h.dou n
  let r := readClass (h.bank (n / 8)).vf w.v
  let age := min 3 (w.age + 1)
  let st := h.rd (DO_ST n)
  let low := DO_ST_LOW.on st
  let st := DO_ST_RB.put (r == 1).toNat (DO_ST_RB_IND.put (r == 2).toNat (DO_ST_BLANK.put (decide (age < 2)).toNat st))
  let h := ((h.wr (DO_ST n) st).wr DO_RB (putBit (h.rd DO_RB) n (r == 1))).setDou n { w with age := age }
  let h := if l.on (DO_CFG n) DO_CFG_EN && 2 ≤ age then h.compared (r == 2 || (r == 1) != DO_ST_APPLIED.on st) n else h
  h.lowSample l low n

/-- An output of bank `k` has MISM set. -/
def Shared.bankMism (h : Shared) (k : Nat) : Bool := (upTo 8).any (fun i => h.on (DO_ST (8 * k + i)) DO_ST_MISM)
/-- The common fault of bank `k` (R298): an output in current limit or thermal shutdown, or one that reads on while its applied
state is off. -/
def Shared.bankFlt (h : Shared) (k : Nat) : Bool :=
  (upTo 8).any (fun i =>
    let n := 8 * k + i
    let st := h.rd (DO_ST n)
    (h.dou n).limit || (h.dou n).shut || (DO_ST_RB.on st && !DO_ST_APPLIED.on st))
/-- FLT of bank `k` as its protection circuit reports it; UNLOC clears with it, and the 3 ms of R301 begin anew. -/
def Shared.fltNow (h : Shared) (k : Nat) : Shared :=
  let v := h.bankFlt k
  let h := h.setB (DO_BST k) DO_BST_FLT v
  if v then h else (h.setBank k { h.bank k with fltN := 0 }).setB (DO_BST k) DO_BST_UNLOC false
/-- FLT and UNLOC of bank `k` at a sample (R301): 3 ms after the sample that first showed FLT, with no output of the bank in MISM. -/
def Shared.fltSample (h : Shared) (k : Nat) : Shared :=
  let h := h.fltNow k
  let m := inRow (h.on (DO_BST k) DO_BST_FLT) (h.bank k).fltN 31
  (h.setBank k { h.bank k with fltN := m }).setB (DO_BST k) DO_BST_UNLOC (m = 31 && !h.bankMism k)

/-- A sample instant of the stage (R281): the bank supplies, the outputs, the bank faults, then the rows of R295. -/
def Shared.dioSample (l : Lane) (h : Shared) : Shared :=
  let h := (upTo 32).foldl (Shared.doSample l) ((upTo 4).foldl (Shared.bankSample l) h)
  ((upTo 4).foldl Shared.fltSample h).doAll l

/-- P0 of the records of the flags that differ between two states of the stage (R306): output flags 3 to 6, bank flags 0 to 4. -/
def dioFlags (old new : Nat → Word) : List Word :=
  let diff (k n base : Nat) (bs : List Nat) : List Word :=
    (bs.filter (fun b => bitOf (old k) b != bitOf (new k) b)).map (fun b => w32 (n + 256 * (base + b) + 65536 * b2n (bitOf (new k) b)))
  (upTo 32).flatMap (fun n => diff (DO_ST n) n 0 [3, 4, 5, 6]) ++ (upTo 4).flatMap (fun k => diff (DO_BST k) k 0x10 [0, 1, 2, 3, 4])

/-- The stage tells a lane that its link reaches of flags that have changed (R21, R306). -/
def Lane.dioTold (ws : List Word) (l : Lane) : Lane :=
  if l.takes && l.dioLink then { l with cut := { l.cut with dof := l.cut.dof ++ ws } } else l
/-- A change in the stage, with the flags that it changes. -/
def State.dioChange (f : Shared → Shared) (s : State) : State :=
  let h := f s.sh
  State.onLanes Lane.takes (Lane.dioTold (dioFlags s.sh.rd h.rd)) (s.withSh h)
/-- The rows of R295 evaluated under the settings of the leading lane. -/
def State.doEval (s : State) : State := s.dioChange (Shared.doAll s.lead)

/-- `n` samples of the stage. -/
def State.dioSamples : Nat → State → State
  | 0, s => s
  | n + 1, s => (s.dioChange (Shared.dioSample s.lead)).dioSamples n
/-- The stage followed to instant `w`: the samples since the newest one taken. Without its supply it takes none. -/
def State.dioTo (w : Nat) (s : State) : State :=
  let n := sampleNo w - s.sh.dioAt
  let s := s.withSh { s.sh with dioAt := max (sampleNo w) s.sh.dioAt }
  if s.sh.dioOn then s.dioSamples (min 10 n) else s
/-- A change in the stage at instant `w`, before a sample that lies there. -/
def State.dioEvent (w : Nat) (f : Shared → Shared) (s : State) : State := ((s.dioTo (w - 1)).dioChange f).dioTo w

/-- The stage followed to instant `w`: its inputs and its samples. -/
def State.dioAll (w : Nat) (s : State) : State := ((upTo 32).foldl (State.diTo w) s).dioTo w

/-- The end of an epoch in the stage, at the boundary `g`: inputs and samples up to it, and the mean of VFk, rounded to the nearest
count (R286, R287, R311; log 82). -/
def State.dioClose (g : Nat) (s : State) : State :=
  let s := s.dioAll g
  s.withSh ((upTo 4).foldl (fun h k =>
    let b := h.bank k
    if b.cnt = 0 then h else
      (h.setF (DO_BST k) DO_BST_VF ((2 * b.sum + b.cnt) / (2 * b.cnt))).setBank k { b with sum := 0, cnt := 0 }) s.sh)

/-- Global time moves by a step: the sample instants count from the new boundary `g`, `d` ns beyond the one due (R281, R414); stamps of
crossings move with them, so that the delays to qualification stand (log 88). -/
def Shared.dioStep (g : Nat) (d : Int) (h : Shared) : Shared :=
  let move (k : Int) (x : Nat) : Nat := ((x : Int) + d / k).toNat
  (upTo 32).foldl (fun h n =>
    let w := h.di n
    h.setDi n { w with run := w.run.map (move 100000), initAt := w.initAt.map (move 1), crossAt := move 1 w.crossAt }) { h with dioAt := sampleNo g }

/-- The state of a direct output: the value of the SET_DO in force, else INIT (R294, R309). -/
def Lane.doDirect (l : Lane) (n : Nat) : Bool := if bitOf l.doSet n then bitOf l.doVal n else l.on (DO_CFG n) DO_CFG_INIT

/-- The states an epoch forms for the boundary `next` (R294): direct, summary output, or time-proportioned. -/
def Lane.doForm (l : Lane) : Lane :=
  let sums := l.rd ALM_SUMST
  let tp (n : Nat) : Bool := match l.namedBy 2 n with
    | some x => (l.tps.at {} (2 * x.1 + x.2)).on
    | none => false
  let sum (n : Nat) : Bool := (upTo 32).any (fun k =>
    let c := l.rd (ALM_SUMCFG k)
    ALM_SUMCFG_DO_EN.on c && ALM_SUMCFG_DO.get c == n && bitOf sums k)
  { l with doNext := bits32 (fun n => match l.fld (DO_CFG n) DO_CFG_SRC with
    | 0 => l.doDirect n
    | 1 => sum n
    | _ => tp n) }

/-- The arbiter marks the boundary to the stage and passes the released states (R24, R295, R304, R308); a mark that does not reach the
stage ends no loss. -/
def State.doBoundary (rel : Option Word) (s : State) : State :=
  let h := { s.sh with
    markLost := s.sh.markLost && s.sh.markGap != 0, markGap := s.sh.markGap - 1, doRel := rel.getD s.sh.doRel, doLive := s.sh.dioOn && (s.sh.doLive || rel.isSome) }
  let h := (upTo 4).foldl (fun h k => h.setBank k { h.bank k with waits := false }) h
  (s.withSh h).doEval

/-! ### Flags in the cut (R306, R548) -/

/-- The register of a flag change as R306 codes it, its bit, and the channel or bank. -/
def dofKey (w : Word) : Nat × Nat × Nat :=
  let n := w.toNat % 256
  let f := w.toNat / 256 % 256
  if f < 16 then (DO_ST n, f, n) else (DO_BST n, f - 16, n)

/-- The record and event of a flag change in the epoch opened at `g`. -/
def Lane.dofRec (g : Nat) (l : Lane) (w : Word) : Lane :=
  let x := dofKey w
  let bank := decide (16 ≤ w.toNat / 256 % 256)
  let l := l.record 0x0701 g w 0#32 0#32 0#32 (if bank then 200 + x.2.2 else 100 + x.2.2)
  if !bitOf w 16 then l
  else if bank then (upTo 8).foldl (fun l i => l.ev (evDoFault (8 * x.2.2 + i))) l else l.ev (evDoFault x.2.2)

/-- Phase 3: the flags of the stage that changed since the previous cut, whose registers are `old`: those the stage sent, then any
that a lost link kept from the lane. -/
def Lane.doTake (g : Nat) (old : RegFile) (l : Lane) : Lane :=
  let ws := l.cut.dof
  let mid := ws.foldl (fun r w => let x := dofKey w; RegFile.setF r x.1 ⟨x.2.1, 1⟩ (b2n (bitOf w 16))) old
  (ws ++ dioFlags (RegFile.rd mid) l.hwRd).foldl (Lane.dofRec g) { l with cut := { l.cut with dof := [] } }

/-- The registers of the shared stages as the cut of a lane shows them: a lost link leaves those of its stage as they were (R21, R307). -/
def Lane.hwTake (h : Shared) (l : Lane) : RegFile :=
  let keep (ks : List Nat) (r : RegFile) : RegFile := ks.foldl (fun r k => RegFile.wr r k (l.hwRd k)) r
  let r := if l.dioLink then h.regs
    else keep ([DO_STATE, DO_RB] ++ (upTo 32).map DO_ST ++ (upTo 4).map DO_BST) h.regs
  if l.aoLost then keep ((upTo 24).flatMap (fun n => [AO_CODE n, AO_MON n])) r else r

/-! ### Commands (R309) -/

/-- A DIO command ends INVALID. -/
def dioInvalid (op n arg : Nat) : Bool :=
  match op with
  | 1 => 1 < arg
  | 2 => arg != 0
  | 3 => 3 < n || arg != 0
  | _ => true
/-- A DIO command ends STATE_REFUSED. -/
def dioRefused (h : Shared) (l : Lane) (op n : Nat) : Bool :=
  match op with
  | 1 => l.fld (DO_CFG n) DO_CFG_SRC != 0 || !l.on (DO_CFG n) DO_CFG_EN
  | 2 => !h.on (DO_ST n) DO_ST_SLATCH
  | _ => !h.on (DO_BST n) DO_BST_ACKREQ || h.on (DO_BST n) DO_BST_UV
/-- The outcome of a DIO command at its effect boundary. -/
def dioStatus (h : Shared) (l : Lane) (op n arg : Nat) : Nat :=
  if dioInvalid op n arg then stInvalid else if dioRefused h l op n then stRefused else stDone

/-- A lane at the effect boundary of a DIO command. -/
def Lane.dioCmd (h : Shared) (op n arg : Nat) (l : Lane) : Lane :=
  let st := dioStatus h l op n arg
  let l := l.setF DIO_CMDST DIO_CMDST_STATUS st
  if st != stDone then l.ev evDioRefused
  else if op = 1 then { l with doVal := putBit l.doVal n (arg == 1), doSet := putBit l.doSet n true } else l

/-- A DIO command at its effect boundary: SLATCH and ACKREQ are cleared in the stage. -/
def State.dioCmd (s : State) (op n arg : Nat) : State :=
  let ok := dioStatus s.sh s.lead op n arg = stDone
  let clear (h : Shared) : Shared := if ok ∧ op = 2 then h.setB (DO_ST n) DO_ST_SLATCH false
    else if ok ∧ op = 3 then h.setB (DO_BST n) DO_BST_ACKREQ false else h
  ((s.both (Lane.dioCmd s.sh op n arg)).dioChange clear).doEval

/-- LAST_OP and LAST_CH of a write of DIO_CMD. -/
def Lane.dioNote (op n : Nat) (l : Lane) : Lane :=
  (l.setF DIO_CMDST DIO_CMDST_LAST_OP op).setF DIO_CMDST DIO_CMDST_LAST_CH n
/-- A DIO command written and taking effect. -/
def State.dioRow (s : State) (op n arg : Nat) : State := (s.both (Lane.dioNote op n)).dioCmd op n arg

/-- A lane's outputs after firing: no SET_DO is in force (R294, R309). -/
def Lane.dioFire (l : Lane) : Lane := { l with doVal := 0#32, doSet := 0#32 }
/-- The inputs take their level without an edge at the first sample after instant `t` (R286). -/
def Shared.diRestart (t : Nat) (ns : List Nat) (h : Shared) : Shared :=
  ns.foldl (fun h n => h.setDi n { h.di n with initAt := some ((sampleNo t + 1) * 100000), run := none }) h

/-- The stage at the boundary at which a firing completes (R286): inputs take their level without an edge at the next sample, and
EPIS counts from here. -/
def Shared.dioFired (h : Shared) : Shared :=
  (upTo 32).foldl (fun h n => h.setF (DO_ST n) DO_ST_EPIS 0) (h.diRestart h.gt (upTo 32))

/-! ### Meanings -/

/-- THRESHOLD_CROSSING (R285): the level at a terminal changes `t` ns after the newest boundary; the stamp is whole µs. Without its
supply the stage sees only the level that it finds at switch-on. -/
def execThresholdCrossing (n : Fin 32) (level : Bool) (t : Nat) (s : State) : Res :=
  let w := (s.sh.gt + t) / 1000 * 1000
  .next (if (s.sh.di n).raw == level then s
    else if !s.sh.dioOn then s.withSh (s.sh.setDi n { s.sh.di n with raw := level, was := (s.sh.di n).before w, crossAt := w })
    else
      let s := s.diTo w n
      let l := s.lead
      s.withSh (s.sh.setDi n ((s.sh.di n).cross (l.debN n) (l.on (DI_CFG n) DI_CFG_INV) level w)))
/-- QUALIFIED_EDGE (R286, R287): the edge of an input that qualifies in the running epoch. -/
def execQualifiedEdge (n : Fin 32) (s : State) : Res := .next (s.diTo (s.sh.gt + 1000000) n)

/-- The level at the terminal of output `n`, in 10 mV above GNDF. -/
def Shared.setLevel (n : Nat) (v : Int) (h : Shared) : Shared := h.setDou n { h.dou n with v := v }
/-- VFk, in 10 mV. -/
def Shared.setVf (k v : Nat) (h : Shared) : Shared := h.setBank k { h.bank k with vf := v }
/-- MISM_CHANGE (R299): the samples of an output up to `t` find the level `v` (10 mV above GNDF) at its terminal; the 30th compared
one in a row changes MISM. -/
def execMismChange (n : Fin 32) (v : BitVec 16) (t : Nat) (s : State) : Res :=
  .next ((s.withSh (s.sh.setLevel n v.toInt)).dioTo (s.sh.gt + t))
/-- UNLOC_CHANGE (R301): the samples up to `t` ns after the newest boundary. -/
def execUnlocChange (_k : Fin 4) (t : Nat) (s : State) : Res := .next (s.dioTo (s.sh.gt + t))
/-- SLATCH (R302): the samples up to `t` ns after the newest boundary. -/
def execSlatch (_n : Fin 32) (t : Nat) (s : State) : Res := .next (s.dioTo (s.sh.gt + t))

/-- A protection condition of output `n` changes in the stage (R298). -/
def Shared.doProt (n : Nat) (f : DoHw → DoHw) (h : Shared) : Shared := (h.setDou n (f (h.dou n))).fltNow (n / 8)
/-- It changes `t` ns after the newest boundary. -/
def State.doProt (s : State) (n t : Nat) (f : DoHw → DoHw) : State := s.dioEvent (s.sh.gt + t) (Shared.doProt n f)
/-- OUTPUT_CURRENT_LIMIT (R293, R298): an output that is on. -/
def execOutputCurrentLimit (n : Fin 32) (t : Nat) (s : State) : Res :=
  .next (if s.sh.on (DO_ST n) DO_ST_APPLIED then s.doProt n t (fun w => { w with limit := true }) else s)
/-- CURRENT_LIMIT_END (R293, R298). -/
def execCurrentLimitEnd (n : Fin 32) (t : Nat) (s : State) : Res := .next (s.doProt n t (fun w => { w with limit := false }))
/-- OUTPUT_THERMAL_SHUTDOWN (R293, R298). -/
def execOutputThermalShutdown (n : Fin 32) (t : Nat) (s : State) : Res := .next (s.doProt n t (fun w => { w with shut := true }))
/-- OUTPUT_THERMAL_RESTART (R293, R298). -/
def execOutputThermalRestart (n : Fin 32) (t : Nat) (s : State) : Res := .next (s.doProt n t (fun w => { w with shut := false }))

/-- A supply row: the samples up to `t` find VFk at `vf`. -/
def State.bankRow (k : Nat) (vf : BitVec 16) (t : Nat) (s : State) : State := (s.withSh (s.sh.setVf k vf.toNat)).dioTo (s.sh.gt + t)
/-- VWARN_CHANGE (R303): the samples up to `t` find VFk at `vf` (10 mV per count). -/
def execVwarnChange (k : Fin 4) (vf : BitVec 16) (t : Nat) (s : State) : Res := .next (s.bankRow k vf t)
/-- UV_SET (R303): the samples up to `t` find VFk at `vf`; the 10th in a row below 16.0 V switches the bank off. -/
def execUvSet (k : Fin 4) (vf : BitVec 16) (t : Nat) (s : State) : Res := .next (s.bankRow k vf t)
/-- UV_CLEAR (R303, R304): the samples up to `t` find VFk at `vf`; 100 ms at or above 17.0 V clear UV. -/
def execUvClear (k : Fin 4) (vf : BitVec 16) (t : Nat) (s : State) : Res := .next (s.bankRow k vf t)
/-- EPOCH_MARK_LOSS (R308): no valid epoch mark for 5 ms; the marks of `more` boundaries still to come do not reach the stage
either. -/
def execEpochMarkLoss (t more : Nat) (s : State) : Res :=
  .next (s.dioEvent (s.sh.gt + t) (fun h => { h with markLost := true, markGap := more }))

/-- DIO_LINK_LOST (R307): nothing more reaches the lane from now on; LINK clears in the cut that closes next (R32). -/
def execDioLinkLost (lane : LaneId) (s : State) : Res := .next (s.upd lane (fun l => { l with dioUp := false }))
/-- DIO_LINK_UP (R307). -/
def execDioLinkUp (lane : LaneId) (s : State) : Res := .next (s.upd lane (fun l => { l with dioUp := true }))

/-- SET_DO (R309). -/
def execSetDo (ch : BitVec 5) (arg : BitVec 8) (s : State) : Res := .next (s.dioRow 1 ch.toNat arg.toNat)
/-- CLEAR_LATCH (R309). -/
def execClearLatch (ch : BitVec 5) (arg : BitVec 8) (s : State) : Res := .next (s.dioRow 2 ch.toNat arg.toNat)
/-- BANK_ACK (R304, R309). -/
def execBankAck (ch : BitVec 5) (arg : BitVec 8) (s : State) : Res := .next (s.dioRow 3 ch.toNat arg.toNat)

end Sys2Proof.Machine
end

