-- ==== Sys2Proof/Machine/Hart.lean ====
section
/-! DEFINITION. HART on the loop outputs (spec/08, R271–R278): requests, responses, repetitions and the cyclic
command 3 poll. -/

namespace Sys2Proof.Machine

/-- The time of `k` characters in ns (11 bits at 1,200 bit/s), rounded down. -/
def hartChars (k : Nat) : Nat := k * 27500000 / 3

/-- The address field of a channel's requests (R273). -/
def Lane.hartAddr (l : Lane) (n : Nat) : List Byte :=
  let m : Byte := if l.on (AO_CFG n) AO_CFG_MASTER then 0x80#8 else 0#8
  if l.on (HRT_CFG n) HRT_CFG_LONG then
    ((l.bufByte (HRT_ADDRA n) 0 &&& 0x3F#8) ||| m) :: [1, 2, 3].map (l.bufByte (HRT_ADDRA n)) ++ [l.bufByte (HRT_ADDRB n) 0]
  else [BitVec.ofNat 8 (l.fld (HRT_CFG n) HRT_CFG_SADDR) ||| m]

/-- The exclusive-or of bytes. -/
def xorAll (bs : List Byte) : Byte := bs.foldl (· ^^^ ·) 0#8

/-- A request from the delimiter to the check byte (R273); `body`: command byte, byte count, data. -/
def Lane.hartReq (l : Lane) (n : Nat) (body : List Byte) : List Byte :=
  let f := (if l.on (HRT_CFG n) HRT_CFG_LONG then 0x82#8 else 0x02#8) :: l.hartAddr n ++ body
  f ++ [xorAll f]

/-- The channel may start a transaction: modem in use, mode on, not off. -/
def Lane.hartReady (l : Lane) (n : Nat) : Bool :=
  l.on (AO_CFG n) AO_CFG_HART_EN && l.aoMode n != 0 && !l.on (AO_ST n) AO_ST_TOFF && !l.on (AO_ST n) AO_ST_TLATCH

/-- The transaction that is to start: a repetition, the host's, or a due poll (R276, R278). -/
def Lane.hartNext (l : Lane) (n : Nat) : Option HartTx :=
  let w := l.hart n
  let mk (body : List Byte) (poll : Bool) : HartTx :=
    { req := l.hartReq n body, poll := poll, left := l.fld (HRT_CFG n) HRT_CFG_RETRY, live := false, endAt := 0,
      deferred := if poll then w.defPoll else w.defHost }
  match w.cur with
  | some t => if t.live then none else some t
  | none => match w.hostQ with
    | some b => some (mk b false)
    | none => if w.pollDue then some (mk [3#8, 0#8] true) else none

/-- A transaction starts at boundary `g` (R275). -/
def Lane.hartGo (g : Nat) (l : Lane) (n : Nat) (t : HartTx) : Lane :=
  let w := l.hart n
  let len := l.fld (HRT_CFG n) HRT_CFG_PRE + t.req.length
  let fresh := w.cur.isNone
  let t := { t with live := true, endAt := g + hartChars len }
  let w := { w with cur := some t, quietFrom := t.endAt }
  let w := if !fresh then w else if t.poll then { w with pollDue := false, defPoll := false } else { w with hostQ := none, defHost := false }
  let l := (l.setHart n w).wr (HRT_ST n) (HRT_ST_TSTAT.put 2 (HRT_ST_POLL_RUN.put t.poll.toNat (l.rd (HRT_ST n))))
  l.setB (AO_ST n) AO_ST_HART_BUSY true

/-- Another master's carrier delays a start: DEFER counts once per transaction (R275). -/
def Lane.hartDefer (l : Lane) (n : Nat) (t : HartTx) : Lane :=
  let w := l.hart n
  if t.deferred then l else
  let w := match w.cur with
    | some c => { w with cur := some { c with deferred := true } }
    | none => if t.poll then { w with defPoll := true } else { w with defHost := true }
  (l.setHart n w).bump (HRT_CNT n) HRT_CNT_DEFER

/-- The start of a transaction at boundary `g`; `carrier`: another master's carrier was on the line within the last 2
characters. None starts in a hold or with AOUT off (`stop`), nor while class C2 is reduced (R625). -/
def Lane.hartStart (stop : Bool) (g n : Nat) (carrier : Bool) (l : Lane) : Lane :=
  match l.hartNext n with
  | none => l
  | some t =>
    if stop || !l.hartReady n || ((l.hart n).cur.isNone && l.on PWR_LST PWR_LST_C2RED) then l
    else if carrier then l.hartDefer n t
    else if (l.hart n).quietFrom != 0 && 3 * g < 3 * (l.hart n).quietFrom + 55000000 then l
    else l.hartGo g n t

/-- The end of the running transaction with TSTAT `st` (R276). -/
def Lane.hartEnd (l : Lane) (n st : Nat) : Lane :=
  let w := l.hart n
  let busy := w.hostQ.isSome
  let l := l.setHart n { w with cur := none }
  let l := l.wr (HRT_ST n) (HRT_ST_TSTAT.put st (HRT_ST_POLL_RUN.put 0 (l.rd (HRT_ST n))))
  ((l.setB (AO_ST n) AO_ST_HART_BUSY busy).setB (AO_ST n) AO_ST_HART_ERR (st != 3)).ev (evHart n)

/-- An attempt ends without an accepted response: repetition, or the end of the transaction (R276). `err`: a frame came
and failed R274. -/
def Lane.hartFail (l : Lane) (n : Nat) (t : HartTx) (err : Bool) : Lane :=
  if 0 < t.left then l.setHart n { l.hart n with cur := some { t with live := false, left := t.left - 1 } }
  else
    let l := if t.poll then l.hartBadPoll n else l
    if err then (l.bump (HRT_CNT n) HRT_CNT_ERR).hartEnd n 5 else (l.bump (HRT_CNT n) HRT_CNT_TMO).hartEnd n 4

/-- The length of the address field in a frame with this delimiter. -/
def hartAddrLen (d : Byte) : Nat := if d.toNat < 128 then 1 else 5

/-- A received frame is the response to the request (R274): the body (command, byte count, data). -/
def hartMatch (req : List Byte) (r : HartRx) (long : Bool) : Option (List Byte) :=
  let al := if long then 5 else 1
  let body := (r.data.drop (1 + al)).take (r.data.length - 2 - al)
  let cnt := (body.getD 1 0#8).toNat
  if 2 ≤ r.pre && r.parity && r.data.head? == some (if long then 0x86#8 else 0x06#8)
    && (r.data.drop 1).take al == (req.drop 1).take al && body.head? == req[1 + al]?
    && cnt ≤ 64 && body.length == cnt + 2 && r.data.length == al + cnt + 4 && xorAll r.data == 0#8
  then some body else none

/-- A 32-bit big-endian value from byte `i` of a list. -/
def be32 (bs : List Byte) (i : Nat) : Word :=
  (bs.getD i 0#8 ++ bs.getD (i + 1) 0#8 ++ bs.getD (i + 2) 0#8 ++ bs.getD (i + 3) 0#8 : BitVec 32)

/-- A word of four bytes of a list, least significant first. -/
def le32 (bs : List Byte) (i : Nat) : Word :=
  (bs.getD (i + 3) 0#8 ++ bs.getD (i + 2) 0#8 ++ bs.getD (i + 1) 0#8 ++ bs.getD i 0#8 : BitVec 32)

/-- A DONE poll (R278). -/
def Lane.hartPolled (g : Nat) (l : Lane) (n : Nat) (body : List Byte) : Lane :=
  let data := body.drop 2
  let st := HRT_ST_RCODE.put (data.getD 0 0#8).toNat (HRT_ST_DSTAT.put (data.getD 1 0#8).toNat (l.rd (HRT_ST n)))
  let l := (l.wr (HRT_ST n) (HRT_ST_PV_VALID.put 1 st)).setHart n { l.hart n with badPolls := 0 }
  if data.getD 0 0#8 == 0#8 && 11 ≤ data.length then
    let l := (l.wr (HRT_CUR n) (be32 data 2)).wr (HRT_PV n) (be32 data 7)
    (l.wr (HRT_UNIT n) (HRT_UNIT_UNIT.put (data.getD 6 0#8).toNat 0#32)).setHart n { l.hart n with ageFrom := g }
  else l

/-- A received frame in phase 3 of the epoch whose cut holds it (R274, R277). -/
def Lane.hartTake (g : Nat) (l : Lane) (r : HartRx) : Lane :=
  let n := r.ch
  let d := (r.data.headD 0#8).toNat
  let l := l.setHart n { l.hart n with quietFrom := r.eof }
  if d = 0x01 ∨ d = 0x81 then l.bump (HRT_CNT n) HRT_CNT_BURST
  else if d = 0x02 ∨ d = 0x82 then l
  else match (l.hart n).cur with
    | none => l
    | some t =>
      if !t.live then l else
      match hartMatch t.req r (l.on (HRT_CFG n) HRT_CFG_LONG) with
      | none => l.hartFail n t true
      | some body =>
        let img := r.data.headD 0#8 :: body
        let l := (upTo 17).foldl (fun l w => l.wr (HRT_RX n w) (le32 img (4 * w))) l
        (if t.poll then l.hartPolled g n body else l).hartEnd n 3

/-- No response carrier within RSPTO characters at instant `w` (R276). -/
def Lane.hartTimeout (w n : Nat) (l : Lane) : Lane :=
  match (l.hart n).cur with
  | some t => if t.live && t.endAt + hartChars (l.fld (HRT_CFG n) HRT_CFG_RSPTO) ≤ w then l.hartFail n t false else l
  | none => l

/-- A poll falls due at boundary `g` (R278). -/
def Lane.hartPollAt (l : Lane) (g n : Nat) : Bool :=
  l.on (HRT_CFG n) HRT_CFG_POLL_EN && g % (l.fld (HRT_CFG n) HRT_CFG_POLLP * 1000000000) == 0
/-- A poll that falls due while C4 is shed is skipped (R625); one that falls due replaces one that has not started. -/
def Lane.hartDue (g : Nat) (l : Lane) (n : Nat) : Lane :=
  let w := l.hart n
  if l.hartPollAt g n && w.pollAt != g then
    let due := !l.on PWR_LST PWR_LST_C4SHED
    l.setHart n { w with pollDue := w.pollDue || due, defPoll := w.defPoll && !due, pollAt := g } else l

/-- AGE counts seconds since the newest poll update (R278). -/
def Lane.hartAge (g : Nat) (l : Lane) (n : Nat) : Lane :=
  if g != (l.hart n).ageFrom && (g - (l.hart n).ageFrom) % 1000000000 == 0 then l.bump (HRT_UNIT n) HRT_UNIT_AGE else l

/-- HART at firing: no transaction, PV_VALID clear (R278). -/
def Lane.hartFire (l : Lane) (n : Nat) : Lane :=
  ((l.hartAbort n).setHart n {}).setB (HRT_ST n) HRT_ST_PV_VALID false

/-! ### Meanings -/

/-- HART_TRANSACTION_START (R275): at the newest boundary; `carrier`: another master's carrier was detected within the
last 2 characters. -/
def execHartTransactionStart (ch : Fin 24) (carrier : Bool) (s : State) : Res :=
  .next (s.both (Lane.hartStart (s.sh.hold || s.sh.aoutOn.isNone) s.sh.gt ch carrier))
/-- HART_RESPONSE_RECEIVED (R274, R277): a frame ends `t` ns after the newest boundary; it enters the cut of the next
boundary of the lanes that their link reaches (R21). -/
def execHartResponseReceived (ch : Fin 24) (pre : Nat) (data : List Byte) (parity : Bool) (t : Nat) (s : State) : Res :=
  let r : HartRx := { ch := ch, pre := pre, data := data, parity := parity, eof := s.sh.gt + t }
  .next (s.taking (fun l => if l.aoLost then l else { l with cut := { l.cut with hart := l.cut.hart ++ [r] } }))
/-- HART_RESPONSE_TIMEOUT (R276): `t` ns after the newest boundary. -/
def execHartResponseTimeout (ch : Fin 24) (t : Nat) (s : State) : Res := .next (s.both (Lane.hartTimeout (s.sh.gt + t) ch))
/-- HART_POLL_DUE (R278). -/
def execHartPollDue (ch : Fin 24) (s : State) : Res := .next (s.both (Lane.hartDue s.sh.gt · ch))

end Sys2Proof.Machine
end

