-- ==== Sys2Proof/Machine/Recorder.lean ====
section
/-! DEFINITION. The event recorder (spec/11, R344–R371): record layout, release order, admission and shedding, shard
windows, commits to the store, freeze, flush, mirroring, the read window, and the REC commands. -/

namespace Sys2Proof.Machine

/-! ### Records of the node (R531) -/

/-- The lane forms records: it computes, or the node is in bisque mode (R523). -/
def Lane.working (l : Lane) : Bool := l.computes || l.st == .bisque
/-- `f` in every lane that forms records. -/
def State.working (s : State) (f : Lane → Lane) : State := State.onLanes Lane.working f s

/-- Epochs run: records of the node belong to them; before the first one they wait (R531). -/
def Shared.epochs (h : Shared) : Bool :=
  match h.start.phase with
  | .authority => h.auth.isSome
  | .running | .draining | .bisque => true
  | _ => false

/-- The start logic changed. -/
def Shared.setStart (h : Shared) (f : StartHw → StartHw) : Shared := { h with start := f h.start }

/-- A record of the node, TIME being the opening boundary of the epoch; `rank`: its place among those of its unit. -/
def State.sysRec (code p0 p1 p2 p3 : Nat) (s : State) (rank : Nat := 0) : State :=
  if s.sh.epochs && (s.a.working || s.b.working) then s.working (fun l => l.record code s.sh.gt (w32 p0) (w32 p1) (w32 p2) (w32 p3) rank)
  else
    let r : Rec := { code := code, cls := recClass code, time := s.sh.gt, p0 := w32 p0, p1 := w32 p1, p2 := w32 p2, p3 := w32 p3 }
    s.withSh (s.sh.setStart (fun t => { t with early := t.early ++ [r] }))

/-! ### Slots -/

/-- Slots of a store (R362). -/
def slotCount : Nat := 2097152

def Lane.setRec (l : Lane) (f : RecWork → RecWork) : Lane := { l with rcd := f l.rcd }
/-- The eight words of a slot; a slot not written since production holds zeros. -/
def Lane.slot (l : Lane) (i : Nat) : List Word :=
  (Trie.get 21 l.store i).getD [0#32, 0#32, 0#32, 0#32, 0#32, 0#32, 0#32, 0#32]
def Lane.setSlot (l : Lane) (i : Nat) (ws : List Word) : Lane := { l with store := Trie.set 21 l.store i (some ws) }

/-! ### Layout (R344, R346) -/

/-- The STAMP of bytes 0–29 held in eight words whose last word has its upper half clear. -/
def stampOf (ws : List Word) : Nat := (crc16 ((wordsBytes ws).take 30)).toNat
/-- Eight words with the STAMP in place. -/
def stamped (ws : List Word) : List Word :=
  ws.take 7 ++ [w32 ((ws.getD 7 0#32).toNat % 65536 + 65536 * stampOf ws)]
/-- The words of a record with its STAMP. -/
def Rec.words (r : Rec) : List Word :=
  stamped [w32 (r.code + 65536 * (b2n r.solo + 2 * b2n r.unsync + 4 * b2n r.hold) + 16777216 * r.cls), w32 r.time,
    w32 (r.time / 2 ^ 32), r.p0, r.p1, r.p2, r.p3, w32 (r.seq % 65536)]
/-- A void slot (R360). -/
def voidWords : List Word := stamped [0#32, 0#32, 0#32, 0#32, 0#32, 0#32, 0#32, 0#32]
/-- A slot is valid when its STAMP is the CRC-16 of its bytes 0–29. -/
def slotValid (ws : List Word) : Bool := (ws.getD 7 0#32).toNat / 65536 == stampOf ws

/-! ### Admission (R352–R357) -/

/-- The records of an epoch in release order. -/
def Lane.released (l : Lane) : List Rec := (sortBy (fun (f : Formed) => f.grp * 2 ^ 20 + f.rank) l.formed).map (·.r)

/-- A dropped record counted against its class and window (R354, R357). -/
def Lane.drop (l : Lane) (r : Rec) : Lane :=
  let l := l.bump (REC_DROP r.cls) ⟨0, 32⟩
  l.setRec (fun w =>
    if w.drops.any (fun d => d.cls == r.cls) then
      { w with drops := w.drops.map (fun d => if d.cls = r.cls then { d with count := d.count + 1, last := r.time } else d) }
    else { w with drops := w.drops ++ [{ cls := r.cls, count := 1, code := r.code, first := r.time, last := r.time }] })

/-- One record of R354. -/
def Lane.intake (l : Lane) (r : Rec) : Lane :=
  let f := l.fld REC_STAT REC_STAT_F
  if r.cls ≤ 5 && (r.cls < l.fld REC_STAT REC_STAT_SHED || 4096 ≤ f || l.on REC_STAT REC_STAT_FLUSH) then l.drop r
  else if 8192 ≤ f then
    ((l.bump REC_LOST ⟨0, 32⟩).setB REC_STAT REC_STAT_LOSS true).setRec (fun w => { w with lossDue := true }) |>.ev evRecLoss
  else
    let r := { r with seq := l.fld REC_SEQ REC_SEQ_NEXT }
    let l := (l.wrap REC_SEQ REC_SEQ_NEXT).setF REC_STAT REC_STAT_F (f + 1)
    l.setRec (fun w =>
      let w := { w with winAdm := w.winAdm + 1 }
      if f < 4096 ∧ w.spill = [] then { w with staging := w.staging ++ [r] } else { w with spill := w.spill ++ [r] })

/-- A freeze ends with its cause: 0 UNFREEZE, 1 time limit, 2 fill limit, 3 power loss (R365). -/
def Lane.freezeEnd (g cause : Nat) (l : Lane) : Lane :=
  if !l.on REC_STAT REC_STAT_FROZEN then l else
  (l.setB REC_STAT REC_STAT_FROZEN false).record 0x0003 g (w32 (l.fld REC_FRZIDX REC_FRZIDX_INDEX)) (w32 cause) 0#32 0#32 2

/-- Step 9 of R28 for the records of the epoch opened at `g` (R354, R356): drain, records-lost record, admission, shed
level, fill limit of a freeze. The list of formed records is emptied. -/
def Lane.releaseRecs (g : Nat) (l : Lane) : Lane :=
  let f := l.fld REC_STAT REC_STAT_F - (if l.on REC_STAT REC_STAT_FROZEN then 0 else 200)
  let l := l.setF REC_STAT REC_STAT_F f
  let l := if l.rcd.lossDue && f < 7168 then
      (l.record 0x0007 g (l.rd REC_LOST) 0#32 0#32 0#32 5).setRec (fun w => { w with lossDue := false })
    else l
  let rs := l.released
  let l := rs.foldl Lane.intake { l with formed := [] }
  let f := l.fld REC_STAT REC_STAT_F
  let shed := l.fld REC_STAT REC_STAT_SHED
  let l := if 3072 < f && shed < 6 then (l.setF REC_STAT REC_STAT_SHED (shed + 1)).ev evShed else l
  let l := l.setRec (fun w => { w with winMax := max w.winMax f })
  if 6144 ≤ f then l.freezeEnd g 2 else l

/-- The shard records of the running window (R357). -/
def Lane.shards (l : Lane) : Lane :=
  let ds := sortBy (fun (d : DropWin) => d.cls) l.rcd.drops
  let l := ds.foldl (fun l d => l.record 0x0001 d.first (w32 (d.cls + 65536 * d.code)) (w32 d.count) (w32 d.last)
    (w32 (d.last / 2 ^ 32)) (100 + d.cls)) l
  l.setRec (fun w => { w with drops := [] })

/-- The end of a shard window at boundary `g` (R355, R357), once. -/
def Lane.shardEnd (g : Nat) (l : Lane) : Lane :=
  if g % 100000000 != 0 || l.rcd.winAt == g then l else
  let shed := l.fld REC_STAT REC_STAT_SHED
  let dropped := (l.rcd.drops.filter (fun d => d.cls + 1 == shed)).foldl (fun n d => n + d.count) 0
  let fall := shed != 0 && l.rcd.winMax ≤ 1024 && l.rcd.winAdm + dropped ≤ 19000
  let l := l.shards
  let l := if fall then (l.setF REC_STAT REC_STAT_SHED (shed - 1)).ev evShed else l
  l.setRec (fun w => { w with winMax := 0, winAdm := 0, winAt := g })

/-! ### Commits (R359–R362) -/

/-- Staging is filled from the overflow queue as it frees space (R354). -/
def Lane.refill (l : Lane) : Lane :=
  l.setRec (fun w =>
    let n := 4096 - w.staging.length
    { w with staging := w.staging ++ w.spill.take n, spill := w.spill.drop n })

/-- The slot after `i`. -/
def nextSlot (i : Nat) : Nat := (i + 1) % slotCount

/-- The least slot at or above `n` that is valid (R344). -/
def Lane.validFrom (l : Lane) (n : Nat) : Option Nat := l.store.least (fun i ws => decide (n ≤ i) && slotValid ws) 0 0
/-- REC_TAIL shows the oldest valid record (R362): the first valid slot from the write index on, in the order of the ring. -/
def Lane.tailSync (l : Lane) : Lane :=
  match (l.validFrom (l.fld REC_HEAD REC_HEAD_INDEX)).or (l.validFrom 0) with
  | some i => l.setF REC_TAIL REC_TAIL_INDEX i
  | none => l

/-- The write index advances (R362). -/
def Lane.advance (l : Lane) : Lane :=
  let h := nextSlot (l.fld REC_HEAD REC_HEAD_INDEX)
  let l := (l.setF REC_HEAD REC_HEAD_INDEX h).setRec (fun w => { w with mirNew := w.mirNew + 1 })
  (if h = 0 then l.setB REC_TAIL REC_TAIL_WRAPPED true else l).tailSync

/-- A record written to slot `h`: bytes 0–29 with the complement of the STAMP (R359 steps 1 and 2) or, where
`stamp`, with the STAMP (step 3). -/
def Lane.phase1 (stamp : Bool) (h : Nat) (l : Lane) (ws : List Word) : Lane :=
  (l.setSlot h (if stamp then ws else ws.take 7 ++ [ws.getD 7 0#32 ^^^ 0xFFFF0000#32])).tailSync

/-- A commit starts (R359): not while frozen (the commit in progress completes), nor with the store out of service. -/
def Lane.commitStart (stamp : Bool) (l : Lane) : Lane :=
  if l.rcd.com.isSome || l.on REC_STAT REC_STAT_FROZEN || l.on REC_STAT REC_STAT_STORE_FAIL then l else
  match l.rcd.staging with
  | [] => l
  | r :: rest =>
    let ws := r.words
    let h := l.fld REC_HEAD REC_HEAD_INDEX
    let l := l.setRec (fun w => { w with staging := rest, com := some { words := ws, slot := h, again := false } })
    l.refill.phase1 stamp h ws

/-- What a commit leaves in its slot `h`: the write index advances, unless a copy has moved it on meanwhile (R363). -/
def Lane.fill (h : Nat) (ws : List Word) (l : Lane) : Lane :=
  let l := l.setSlot h ws
  if l.fld REC_HEAD REC_HEAD_INDEX = h then l.advance else l.tailSync

/-- A record is committed in slot `h` of this store. -/
def Lane.committed (l : Lane) (h : Nat) (ws : List Word) : Lane :=
  let l := l.fill h ws
  let l := l.wr REC_COMMITS (l.rd REC_COMMITS + 1#32)
  l.setRec (fun w => { w with
    com := none, voidRun := 0, done := w.done + 1, missed := if l.peerStoreFail || !l.instep then w.missed ++ [ws] else w.missed })

/-- The records, counted from the first, that count as committed (R27): in both stores, or in the one that is in service. -/
def Lane.counted (l : Lane) : Nat :=
  match !l.on REC_STAT REC_STAT_STORE_FAIL, l.instep && !l.peerStoreFail with
  | true, true => min l.rcd.done l.rcd.peerDone
  | false, true => l.rcd.peerDone
  | _, false => l.rcd.done

/-- The store goes out of service (R361). The record in progress returns to no store of this lane. -/
def Lane.storeOut (l : Lane) : Lane := (l.setB REC_STAT REC_STAT_STORE_FAIL true).setRec (fun w => { w with com := none })

/-- A void slot in place of the record, which starts again on the next slot (R360, R361). -/
def Lane.voidSlot (stamp : Bool) (l : Lane) (h : Nat) (ws : List Word) : Lane :=
  let l := l.fill h voidWords
  let v := min 256 (l.fld REC_ERR REC_ERR_VOIDS + 1)
  let l := l.setF REC_ERR REC_ERR_VOIDS v
  let l := l.setRec (fun w => { w with voidRun := w.voidRun + 1, failSlot := h, com := some { words := ws, slot := l.fld REC_HEAD REC_HEAD_INDEX, again := false } })
  if 4 ≤ l.rcd.voidRun || v = 256 then l.storeOut else l.phase1 stamp (l.fld REC_HEAD REC_HEAD_INDEX) ws

/-- The read-back of a commit (R359, R360). What is written after it has come to step 2 or, where `stamp`, to step 3. -/
def Lane.commitEnd (ok stamp : Bool) (l : Lane) : Lane :=
  match l.rcd.com with
  | none => l
  | some c =>
    if ok then l.committed c.slot c.words else
    let l := l.bump REC_ERR REC_ERR_VERIFY_FAIL
    if c.again then l.voidSlot stamp c.slot c.words
    else (l.phase1 stamp c.slot c.words).setRec (fun w => { w with com := some { c with again := true } })

/-- A reset of the core domain does not stop a commit that has started: the slot holds the record (R359, R614). -/
def Lane.commitLast (l : Lane) : Lane :=
  match l.rcd.com with
  | some c => l.setSlot c.slot c.words
  | none => l

/-- Each lane knows whether the other store is in service. -/
def State.storeSync (s : State) : State :=
  { s with a := { s.a with peerStoreFail := s.b.on REC_STAT REC_STAT_STORE_FAIL },
           b := { s.b with peerStoreFail := s.a.on REC_STAT REC_STAT_STORE_FAIL } }

/-- The record of the store of lane `i` that has gone out of service (R361). -/
def State.storeOutRec (i : LaneId) (s : State) : State :=
  let l := s.lane i
  s.sysRec 0x0004 i.num l.rcd.failSlot (l.fld REC_ERR REC_ERR_VOIDS) 0 (rank := 4)

/-- The read-back of a commit in a lane of the node. -/
def State.commitEnd (s : State) (i : LaneId) (ok stamp : Bool) : State :=
  let was := (s.lane i).on REC_STAT REC_STAT_STORE_FAIL
  let s := s.upd i (Lane.commitEnd ok stamp)
  if (s.lane i).on REC_STAT REC_STAT_STORE_FAIL && !was then s.storeSync.storeOutRec i else s

/-! ### Mirroring (R363) -/

/-- Every record of a store from the oldest valid one, in the order of the ring. -/
def Lane.ring (l : Lane) : List (List Word) :=
  let t := l.fld REC_TAIL REC_TAIL_INDEX
  let n := (l.fld REC_HEAD REC_HEAD_INDEX + slotCount - t) % slotCount
  let n := if n = 0 && slotValid (l.slot t) then slotCount else n
  (upTo n).map (fun i => l.slot ((t + i) % slotCount))

/-- The records that the lane with authority has to copy: those it committed while the other store was not committing, or the whole
ring, and the one whose commit is in progress (R363). -/
def Lane.toCopy (whole : Bool) (l : Lane) : List (List Word) :=
  (if whole then l.ring else l.rcd.missed) ++ (l.rcd.com.map (·.words)).toList

/-- The lanes have come back in step: the lane with authority `i` starts to copy (R363). Room is left in the other store
below the records that are committed from now on, beyond the slot of a commit in progress there. -/
def State.mirrorStart (s : State) (i : LaneId) : State :=
  let o := s.lane i.other
  let s := s.upd i (fun l => l.setRec (fun w => { w with missed := l.toCopy o.storeBack }))
  let n := (s.lane i).rcd.missed.length
  if n = 0 then s.upd i.other (fun l => { l with storeBack := false }) else
  let h := o.fld REC_HEAD REC_HEAD_INDEX + o.rcd.com.isSome.toNat
  let s := s.upd i.other (fun l =>
    let l := (l.setF REC_HEAD REC_HEAD_INDEX ((h + n) % slotCount)).setRec (fun w => { w with mirAt := h % slotCount, mirN := 0, mirNew := 0 })
    { (if slotCount ≤ h + n then l.setB REC_TAIL REC_TAIL_WRAPPED true else l).tailSync with storeBack := false })
  let seq := (((s.lane i).rcd.missed.headD []).getD 7 0#32).toNat % 65536
  let mark (l : Lane) : Lane := (l.setB REC_STAT REC_STAT_MIRRORING true).setRec (fun w => { w with mirSeq := seq, mirN := 0 })
  (s.upd i mark).upd i.other mark

/-- The next record of the copy has a slot in the receiving store, in the ring order below the records committed since the copy began;
`left` records follow it. A slot that those records have reached meanwhile is theirs. -/
def Lane.mirrorFull (left : Nat) (l : Lane) : Bool := decide (slotCount < l.rcd.mirNew + left + 1)
/-- The next record of the copy arrives. -/
def Lane.mirrorIn (ws : List Word) (left : Nat) (l : Lane) : Lane :=
  let l := if l.mirrorFull left then l else (l.setSlot l.rcd.mirAt ws).setRec (fun w => { w with mirN := w.mirN + 1 })
  (l.setRec (fun w => { w with mirAt := nextSlot w.mirAt })).tailSync

/-- A MIRROR packet arrives at lane `i` with the next record of the copy; a lane that is not in step takes none (R334). -/
def State.mirrorPacket (s : State) (i : LaneId) : State :=
  let src := s.lane i.other
  if !(s.lane i).on REC_STAT REC_STAT_MIRRORING || !(s.lane i).instep then s else
  match src.rcd.missed with
  | [] => s
  | ws :: rest =>
    let n := (!(s.lane i).mirrorFull rest.length).toNat
    let s := s.upd i.other (fun l => l.setRec (fun w => { w with missed := rest, mirN := w.mirN + n }))
    s.upd i (Lane.mirrorIn ws rest.length)

/-- The copy has ended: MIRRORING clears and the lanes release a mirroring-complete record. -/
def State.mirrorEnd (s : State) : State :=
  let l := s.lead
  if l.on REC_STAT REC_STAT_MIRRORING && l.rcd.missed.isEmpty then
    s.both (fun l => (l.setB REC_STAT REC_STAT_MIRRORING false).record 0x0005 s.sh.gt (w32 l.rcd.mirN) (w32 l.rcd.mirSeq) 0#32 0#32 3)
  else s

/-! ### Freeze, flush (R364–R366) -/

/-- FREEZE at its effect boundary. -/
def Lane.freezeBegin (g : Nat) (l : Lane) : Lane :=
  let h := l.fld REC_HEAD REC_HEAD_INDEX
  let l := ((l.setB REC_STAT REC_STAT_FROZEN true).setF REC_FRZIDX REC_FRZIDX_INDEX h).setRec (fun w => { w with frzAt := g })
  l.record 0x0002 g (w32 h) (w32 (l.fld REC_CFG REC_CFG_FRZT)) 0#32 0#32 1

/-- The time limit of a freeze at boundary `g`. -/
def Lane.freezeLimit (g : Nat) (l : Lane) : Lane :=
  if l.on REC_STAT REC_STAT_FROZEN && l.rcd.frzAt + l.fld REC_CFG REC_CFG_FRZT * 100000000 ≤ g then l.freezeEnd g 1 else l

/-- The power-loss flush begins in the epoch opened at `g` (R366): no freeze holds the drain of its step 9, and F in its record is the
fill less that drain. -/
def Lane.flushBegin (g cause energy : Nat) (l : Lane) : Lane :=
  if l.on REC_STAT REC_STAT_FLUSH then l else
  let f := l.fld REC_STAT REC_STAT_F
  let l := ((l.setB REC_STAT REC_STAT_FLUSH true).freezeEnd g 3).shards
  l.record 0x0006 g (w32 cause) (w32 (f - 200)) (w32 energy) (w32 (l.fld REC_STAT REC_STAT_SHED)) 1000

/-- The flush that is due in the running epoch (R366). -/
def Lane.flushNow (g : Nat) (l : Lane) : Lane :=
  match l.rcd.flushDue with
  | some x => (l.flushBegin g x.1 x.2).setRec (fun w => { w with flushDue := none })
  | none => l

/-! ### Read window (R367) -/

/-- A write of REC_RDIDX: the load of the named slot begins. -/
def Lane.rdIdx (i : Nat) (l : Lane) : Lane :=
  (l.wr REC_RDIDX (REC_RDIDX_INDEX.put i 0#32)).setRec (fun w => { w with loading := true })
/-- The window holds the slot. -/
def Lane.rdLoaded (l : Lane) : Lane :=
  if !l.rcd.loading then l else
  let i := l.fld REC_RDIDX REC_RDIDX_INDEX
  let ws := l.slot i
  let l := (upTo 8).foldl (fun l k => l.wr (REC_RDW k) (ws.getD k 0#32)) (l.setRec (fun w => { w with loading := false }))
  l.wr REC_RDIDX (REC_RDIDX_INDEX.put i (REC_RDIDX_VALID.put (slotValid ws).toNat (REC_RDIDX_READY.put 1 0#32)))
/-- What a read of REC_RDWw shows. -/
def Lane.rdWord (l : Lane) (w : Nat) : Word := if l.on REC_RDIDX REC_RDIDX_READY then l.rd (REC_RDW w) else 0#32
/-- The side effect of a read of REC_RDW7. -/
def Lane.rdNext (l : Lane) : Lane :=
  if l.on REC_RDIDX REC_RDIDX_READY then l.rdIdx (nextSlot (l.fld REC_RDIDX REC_RDIDX_INDEX)) else l

/-! ### Commands (R368) -/

/-- The outcome of a REC command at its effect boundary. -/
def Lane.recStatus (l : Lane) (op : Nat) : Nat :=
  let st := l.rd REC_STAT
  match op with
  | 1 => if REC_STAT_FROZEN.on st || REC_STAT_FLUSH.on st || 3072 ≤ REC_STAT_F.get st then stRefused else stDone
  | 2 => if REC_STAT_FROZEN.on st then stDone else stRefused
  | 3 => if REC_STAT_LOSS.on st then stDone else stRefused
  | _ => stInvalid
/-- A lane at the effect boundary of a REC command. -/
def Lane.recCmd (g op : Nat) (l : Lane) : Lane :=
  let st := l.recStatus op
  let l := l.setF REC_CMDST REC_CMDST_STATUS st
  if st != stDone then l.ev evRecRefused
  else match op with
    | 1 => l.freezeBegin g
    | 2 => l.freezeEnd g 0
    | _ => l.setB REC_STAT REC_STAT_LOSS false
/-- LAST_OP of a write of REC_CMD. -/
def Lane.recNote (op : Nat) (l : Lane) : Lane := l.setF REC_CMDST REC_CMDST_LAST_OP op
/-- A REC command written and taking effect. -/
def State.recRow (s : State) (op : Nat) : State := s.both (fun l => (l.recNote op).recCmd s.sh.gt op)

/-! ### Meanings -/

/-- COMMIT_START (R359) in the store of a lane, to step 2 or, where `stamp`, to step 3. -/
def execCommitStart (lane : LaneId) (stamp : Bool) (s : State) : Res := .next (s.upd lane (Lane.commitStart stamp))
/-- COMMIT_READBACK (R359–R361): `ok` when the slot reads back as the record; `stamp`: what is written next has come to step 3. -/
def execCommitReadback (lane : LaneId) (ok stamp : Bool) (s : State) : Res := .next (s.commitEnd lane ok stamp)
/-- SHARD_WINDOW_END (R355, R357). -/
def execShardWindowEnd (s : State) : Res := .next (s.working (Lane.shardEnd s.sh.gt))
/-- MIRRORING_COMPLETE (R363). -/
def execMirroringComplete (s : State) : Res := .next s.mirrorEnd
/-- FREEZE (R364, R368). -/
def execFreeze (s : State) : Res := .next (s.recRow 1)
/-- UNFREEZE (R365, R368). -/
def execUnfreeze (s : State) : Res := .next (s.recRow 2)
/-- CLR_LOSS (R368). -/
def execClrLoss (s : State) : Res := .next (s.recRow 3)
/-- FREEZE_TIME_LIMIT (R365). -/
def execFreezeTimeLimit (s : State) : Res := .next (s.working (Lane.freezeLimit s.sh.gt))
/-- POWER_LOSS_FLUSH (R366): in the epoch whose cut holds the power-loss signal. -/
def execPowerLossFlush (s : State) : Res := .next (s.working (Lane.flushNow s.sh.gt))
/-- REC_RDIDX_WRITE (R367, R526, R542) in the view of a lane; without effect in bisque mode and on a lane that is OFF. -/
def execRecRdidxWrite (lane : LaneId) (v : Word) (s : State) : Res :=
  .next (if s.sh.bisque || (s.lane lane).st == .off then s else s.upd lane (Lane.rdIdx (REC_RDIDX_INDEX.get v)))
/-- REC_RDW7_READ (R367). -/
def execRecRdw7Read (lane : LaneId) (s : State) : Res := .next (s.upd lane Lane.rdNext)
/-- READ_WINDOW_LOADED (R367). -/
def execReadWindowLoaded (lane : LaneId) (s : State) : Res := .next (s.upd lane Lane.rdLoaded)

end Sys2Proof.Machine
end

