-- ==== Sys2Proof/Machine/Image.lean ====
section
/-! DEFINITION. The image store and the layout of a firing image: R474–R486 of spec/15_firing_image.md. -/

namespace Sys2Proof.Machine

/-! ### The NOR store (R474): pages of 256 bytes; a page not listed reads erased -/

/-- A page of the store. -/
def Shared.page (h : Shared) (p : Nat) : List Byte := (Trie.get 17 h.nor p).getD (List.replicate 256 0xFF#8)
/-- The store with a page replaced; an erased page is not listed. -/
def Shared.setPage (h : Shared) (p : Nat) (bs : List Byte) : Shared :=
  { h with nor := Trie.set 17 h.nor p (if bs.all (· == 0xFF#8) then none else some bs) }
/-- `n` bytes from a page boundary. -/
def Shared.norRead (h : Shared) (addr n : Nat) : List Byte :=
  ((upTo ((n + 255) / 256)).flatMap (fun i => h.page (addr / 256 + i))).take n
/-- Bytes written from a page boundary; the last page is filled with 0xFF. -/
def Shared.norWrite (h : Shared) (addr : Nat) (bs : List Byte) : Shared :=
  (upTo ((bs.length + 255) / 256)).foldl (fun h i =>
    let pg := (bs.drop (256 * i)).take 256
    h.setPage (addr / 256 + i) (pg ++ List.replicate (256 - pg.length) 0xFF#8)) h
/-- `n` bytes erased. -/
def Shared.norErase (h : Shared) (addr n : Nat) : Shared :=
  (upTo (n / 256)).foldl (fun h i => h.setPage (addr / 256 + i) (List.replicate 256 0xFF#8)) h

/-- Transfer targets (R474): slots A and B, patch buffers 0 and 1. -/
def tgtAddr (t : Nat) : Nat := [0x0000000, 0x0400000, 0x0800000, 0x0810000].getD t 0
def tgtSize (t : Nat) : Nat := if t < 2 then 0x400000 else 0x10000

/-! ### Header and directory (R477, R478) -/

/-- A field of `n` bytes at byte `i`, little-endian. -/
def imgNat (bs : List Byte) (i n : Nat) : Nat := leNat ((bs.drop i).take n)

/-- A directory entry. -/
structure Sect where
  typ : Nat
  region : Nat
  off : Nat
  len : Nat
  crc : Nat
  deriving DecidableEq, Repr

/-- An image as a lane has read it: its bytes up to IMAGE_LEN and its directory in ascending TYPE and REGION. -/
structure Image where
  bytes : List Byte
  kind : Nat
  grade : Nat
  auth : Bool
  id : Word
  build : Word
  base : Word
  sects : List Sect
  deriving DecidableEq, Repr

/-- Entry `i` of the directory. -/
def sectAt (bs : List Byte) (i : Nat) : Sect :=
  let o := 64 + 16 * i
  ⟨imgNat bs o 2, imgNat bs (o + 2) 2, imgNat bs (o + 4) 4, imgNat bs (o + 8) 4, imgNat bs (o + 12) 4⟩

/-- The image that stands in a target, by its own header; a header whose HCRC is wrong stands alone (check 1 of R486
rejects it). -/
def Shared.image (h : Shared) (t : Nat) : Image :=
  let hd := h.norRead (tgtAddr t) 64
  let good := imgNat hd 60 4 == (crc32c (hd.take 60)).toNat
  let bs := if good then h.norRead (tgtAddr t) (min (tgtSize t) (max 64 (imgNat hd 8 4))) else hd
  { bytes := bs, kind := imgNat bs 6 1, grade := imgNat bs 7 1, auth := imgNat bs 14 1 % 2 == 1,
    id := BitVec.ofNat 32 (imgNat bs 16 4), build := BitVec.ofNat 32 (imgNat bs 20 4),
    base := BitVec.ofNat 32 (imgNat bs 24 4),
    sects := sortBy (fun s => s.typ * 65536 + s.region) ((upTo (if good then min 64 (imgNat bs 12 2) else 0)).map (sectAt bs)) }

/-- The bytes of a section. -/
def Image.bytesOf (m : Image) (s : Sect) : List Byte := (m.bytes.drop s.off).take s.len

/-- Check 1 of R486. -/
def Image.headerOk (m : Image) : Bool :=
  let bs := m.bytes
  let n := imgNat bs 12 2
  let patch := m.kind == 1
  imgNat bs 0 4 == 0x31464E43 && imgNat bs 4 2 == 1 && imgNat bs 60 4 == (crc32c (bs.take 60)).toNat
    && decide (imgNat bs 8 4 ≤ (if patch then 65536 else 4194304)) && (if patch then n == 1 else decide (1 ≤ n ∧ n ≤ 64))
    && decide (64 + 16 * n ≤ imgNat bs 8 4)
    && imgNat bs 56 4 == (crc32c ((bs.drop 64).take (16 * n))).toNat

/-! ### Sections (R479) -/

/-- The section TYPE and REGION of an image register's key; (0, 0) where none. -/
def secOf (k : Nat) : Nat × Nat :=
  if k = 6 || (0xC0400 ≤ k && k < 0xC0500) || (0x10000 ≤ k && k < 0x10100) then (0x0001, 0)
  else if 0x2C00 ≤ k && k < 0x3000 then (0x0011, (k - 0x2C00) / 128)
  else if 0x2000 ≤ k && k < 0x2040 then (0x0010, (k - 0x2000) / 4)
  else if 0x2100 ≤ k && k < 0x2600 then (0x0010, k % 128 / 8)
  else if 0x8000 ≤ k && k < 0xC000 then (0x0020, (k - 0x8000) / 1024)
  else if 0x6080 ≤ k && k < 0x6100 then (0x0022, 0)
  else if 0x6000 ≤ k && k < 0x6800 then (0x0021, 0)
  else if 0xC0800 ≤ k && k < 0xC0C00 then (0x0022, 0)
  else if 0xC000 ≤ k && k < 0xC800 then (0x0030, (k - 0xC000) / 512)
  else if 0x3000 ≤ k && k < 0x3004 then (0x0040, k - 0x3000)
  else if 0x3040 ≤ k && k < 0x3100 then (0x0040, (k - 0x3040) / 48)
  else if 0x3100 ≤ k && k < 0x3700 then (0x0040, (k - 0x3100) / 384)
  else if 0x3800 ≤ k && k < 0x4000 then (0x0050, 0)
  else if 0x4000 ≤ k && k < 0x6000 then (0x0060, (k - 0x4000) / 4096)
  else if 0xC00 ≤ k && k < 0x1000 then (0x0061, 0)
  else if 0xF000 ≤ k && k < 0x10000 then (0x0070, 0)
  else if 0xE000 ≤ k && k < 0xE100 then (0x0080, 0)
  else (0, 0)

/-- The image fields of the register of key `k`. -/
def imgFields (k : Nat) : List Fld :=
  match regRow? k with
  | some r => r.img
  | none => []

/-- The regions of a section TYPE; none for a TYPE that R479 does not list. -/
def regionsOf (typ : Nat) : Nat :=
  match typ with
  | 0x0001 | 0x0021 | 0x0022 | 0x0050 | 0x0061 | 0x0070 | 0x0071 | 0x0080 => 1
  | 0x0010 => 12
  | 0x0011 => 8
  | 0x0020 => 16
  | 0x0030 | 0x0040 => 4
  | 0x0060 => 2
  | _ => 0

/-- Partial firing may replace a region of the TYPE (R479). -/
def partialType (typ : Nat) : Bool := [0x0010, 0x0011, 0x0020, 0x0021, 0x0030, 0x0040, 0x0050, 0x0070, 0x0071, 0x0080].contains typ

/-- The entries of a register section: addresses and values (R480). -/
def pairsOf : List Byte → List (Nat × Word)
  | a0 :: a1 :: a2 :: a3 :: v0 :: v1 :: v2 :: v3 :: rest =>
    (leNat [a0, a1, a2, a3], BitVec.ofNat 32 (leNat [v0, v1, v2, v3])) :: pairsOf rest
  | _ => []

/-! ### Checks 1 to 10 of R486 -/

/-- A reject entry of a check: code, section and address. -/
def rejEntry (code typ region addr : Nat) : RepEntry := ⟨typ, region, 3, addr, 0, BitVec.ofNat 32 code, 0#32⟩

/-- The end of the area that sections may fill. -/
def Image.limit (m : Image) : Nat := m.bytes.length - (if m.auth then 32 else 0)

/-- Check 6: the first section, in order, out of bounds, unaligned, overlapping or repeating an earlier one. -/
def Image.layoutBad (m : Image) : List Sect → List Sect → Option Sect
  | _, [] => none
  | seen, s :: rest =>
    let clash (o : Sect) : Bool := (o.typ == s.typ && o.region == s.region) || decide (s.off < o.off + o.len ∧ o.off < s.off + s.len)
    if s.off % 4 != 0 || s.off < 64 + 16 * m.sects.length || m.limit < s.off + s.len || seen.any clash then some s
    else m.layoutBad (seen ++ [s]) rest

/-- Whether the addresses of a register section rise strictly and are registers of the section. -/
def entriesBad (typ region : Nat) : Int → List (Nat × Word) → Option Nat
  | _, [] => none
  | last, (a, _) :: rest =>
    if (a : Int) ≤ last || 2 ^ 24 ≤ a || a % 4 != 0 || (imgFields (a / 4)).isEmpty || secOf (a / 4) != (typ, region) then some a
    else entriesBad typ region a rest

/-- Check 10: the first section whose entries or length are wrong, with the address. -/
def Image.entryBad (m : Image) : Option (Sect × Nat) :=
  m.sects.findSome? (fun s =>
    if s.typ = 0x0071 then (if s.len != 18432 then some (s, 0) else none)
    else if s.len % 8 != 0 then some (s, 0)
    else (entriesBad s.typ s.region (-1) (pairsOf (m.bytesOf s))).map (fun a => (s, a)))

/-- Checks 1 to 10 of R486 on target `t`: none where all pass, else the reject entry. -/
def Shared.checkImage (h : Shared) (t : Nat) : Option RepEntry :=
  let m := h.image t
  let gradeF := h.fld MOD_IDENT MOD_IDENT_GRADE != 2
  let listed (s : Sect) : Bool :=
    decide (s.region < regionsOf s.typ) && (gradeF || (s.typ != 0x0070 && s.typ != 0x0071))
  if !m.headerOk then some (rejEntry 0x01 0 0 0)
  else if m.kind != (if t < 2 then 0 else 1) then some (rejEntry 0x09 0 0 0)
  else if m.grade / (if gradeF then 1 else 2) % 2 = 0 then some (rejEntry 0x08 0 0 0)
  else if (!m.auth && h.start.authReq) || (m.auth && h.start.key.isNone) then some (rejEntry 0x07 0 0 0)
  else if m.auth && hmacSha256 (h.start.key.getD []) (m.bytes.take m.limit) != m.bytes.drop m.limit then
    some (rejEntry 0x06 0 0 0)
  else match m.layoutBad [] m.sects with
    | some s => some (rejEntry 0x02 s.typ s.region 0)
    | none =>
      match m.sects.find? (fun s => (crc32c (m.bytesOf s)).toNat != s.crc) with
      | some s => some (rejEntry 0x03 s.typ s.region 0)
      | none =>
        match m.sects.find? (fun s => !listed s) with
        | some s => some (rejEntry 0x04 s.typ s.region 0)
        | none =>
          if t < 2 && !m.sects.any (fun s => s.typ == 0x0001) then some (rejEntry 0x0A 0x0001 0 0)
          else match m.entryBad with
            | some (s, a) => some (rejEntry 0x02 s.typ s.region a)
            | none => none

/-! ### Report words (R490, R491) -/

/-- A section in a word: TYPE in [15:0], REGION in [23:16] (R490, R501); a larger REGION of a directory shows its low byte (log 108). -/
def sectWord (typ region : Nat) : Nat := typ % 65536 + 65536 * (region % 256)
/-- The four words of an entry. -/
def RepEntry.words (e : RepEntry) : List Word :=
  [w32 (sectWord e.typ e.region + 16777216 * e.kind), w32 (e.addr % 16777216 + 16777216 * e.bit), e.given, e.used]
/-- REPCRC of a report. -/
def repCrc (es : List RepEntry) : Word := if es.isEmpty then 0#32 else crc32c (wordsBytes (es.flatMap RepEntry.words))

end Sys2Proof.Machine
end

