-- ==== Sys2Proof/Machine/Panel.lean ====
section
/-! DEFINITION. The annunciator panel engine and its drive stage: spec/14_panel_display_engine.md. -/

namespace Sys2Proof.Machine

/-! ### Settings of a drive frame -/

/-- The band's column current, or that of the bisque drive set where it runs the engine (R462); so the settings below it. The set holds
no AW, CRZ_MAX: 1.0 and a constant of the node stand in (log 40). -/
def Lane.icode (l : Lane) (b : Nat) : Nat := (l.pnl.drv.map (·.icodeH)).getD (l.fld (PNL_BAND b) PNL_BAND_ICODE)
def Lane.aw (l : Lane) (b : Nat) : Nat := if l.pnl.drv.isSome then 128 else l.fld (PNL_BANDX b) PNL_BANDX_AW
def Lane.vcolSet (l : Lane) (b : Nat) : Nat := (l.pnl.drv.map (·.vcol)).getD (l.fld (PNL_BANDX b) PNL_BANDX_VCOL_SET)
def Lane.vnegSet (l : Lane) : Nat := (l.pnl.drv.map (·.vneg)).getD (l.fld PNL_CFG2 PNL_CFG2_VNEG_SET)
def Lane.crzMax (l : Lane) : Nat := if l.pnl.drv.isSome then Config.bisqueCrzMax.toNat else l.fld PNL_CFG2 PNL_CFG2_CRZ_MAX
def Lane.railx (l : Lane) : Bool := (l.pnl.drv.map (fun r => r.pflags / 2 % 2 == 1)).getD (l.on PNL_CFG PNL_CFG_RAILX)
def Lane.frate (l : Lane) : Nat := (l.pnl.drv.map (·.frate)).getD (l.fld PNL_CFG PNL_CFG_FRATE)
def Lane.ewf (l : Lane) : Nat := (l.pnl.drv.map (·.ewf)).getD (l.fld PNL_CFG PNL_CFG_EWF)
def Lane.rratio (l : Lane) : Nat := (l.pnl.drv.map (·.rratio)).getD (l.fld PNL_CFG PNL_CFG_RRATIO)
/-- The panel is in use: EN of the image, or the proven drive set in bisque mode. -/
def Lane.pnlUse (l : Lane) : Bool := l.pnl.drv.isSome || l.on PNL_CFG PNL_CFG_EN

/-- The settings that form drive frames: from the image, or the bisque drive set (R462). -/
structure PnlSet where
  frate : Nat
  ewf : Nat
  rratio : Nat
  icode : Nat
  aw : Nat
  vset : Nat
  dim : Nat
  cmax : Nat
  ucoef : Nat
  gamma : List Nat
  full : Bool
  deriving DecidableEq, Repr

/-- Row slot in ticks (R442). -/
def rowSlot (frate : Nat) : Nat := 100000000 / (64 * frate)
def PnlSet.rs (p : PnlSet) : Nat := rowSlot p.frate
/-- Emission window in ticks (R443). -/
def PnlSet.ew (p : PnlSet) : Nat := p.rs * p.ewf / 256
/-- Recovery window in ticks (R443). -/
def PnlSet.wr (p : PnlSet) : Nat := p.rs - p.ew - 100
/-- Column current of a lit frame in steps of 1.25 µA (R444). -/
def PnlSet.iCol (p : PnlSet) : Nat := p.icode * p.dim / 255

/-- The frame start in the epoch that `b` opens (R442, R445). -/
def frameStart (frate b : Nat) : Option Nat :=
  let a := b / 3000000000 * 3000000000
  let k := ((b - a) * frate + 999999999) / 1000000000
  let f := a + k * 1000000000 / frate
  if f < b + 1000000 then some f else none

/-! ### Pixels (R444, R447–R450) -/

/-- Compensation factor of a pixel with count `age` (R450). -/
def PnlSet.comp (p : PnlSet) (age : Nat) : Nat := if p.full then p.cmax else min p.cmax (1024 + age * p.ucoef / 2 ^ 32)
/-- On-time of a pixel with grey level `g` (R444). -/
def PnlSet.tOn (p : PnlSet) (age g : Nat) : Nat := p.ew * p.gamma.getD g 0 * p.comp age / (4095 * p.cmax)
/-- N(p) after emission (R447). -/
def chargeUp (n q : Nat) : Nat := min 255 (n + (q + 79999) / 80000)

/-- A pixel row as a drive frame is formed: accounts before, grey levels, column current; t_on, t_rev, accounts after. -/
def PnlSet.row (p : PnlSet) (iCol : Nat) (r : PixRow) (greys : List Nat) : List Nat × Nat × PixRow :=
  let ton := (greys.zipIdx).map (fun x => p.tOn (r.age.getD x.2 0) x.1)
  let q := ton.map (fun t => iCol * t)
  let n := (q.zipIdx).map (fun x => chargeUp (r.n.getD x.2 0) x.1)
  let tRev := min p.wr (p.rratio * n.foldl max 0)
  let t := (q.zipIdx).map (fun x => r.res.getD x.2 0 + x.1 * p.aw / 128)
  let age := (t.zipIdx).map (fun x => min 4294967295 (r.age.getD x.2 0 + x.1 / 16777216))
  (ton, tRev, { n := n.map (fun v => v - tRev / p.rratio), res := t.map (· % 16777216), age := age })

/-- Whether an account of the row reached 255 before recovery, or a count its end; the pixel of the row. -/
def chgSat (iCol : Nat) (ton : List Nat) (r : PixRow) : Option Nat :=
  (ton.zipIdx).findIdx? (fun x => chargeUp (r.n.getD x.2 0) (iCol * x.1) == 255)
def ageSat (r : PixRow) : Option Nat := r.age.findIdx? (· == 4294967295)

/-- Pixel `c` of a row of a frame of words: 8 pixels a word, the lowest column in [3:0]. -/
def greyRow (word : Nat → Word) (y : Nat) : List Nat :=
  (upTo 256).map (fun x => (word (32 * y + x / 8) >>> (4 * (x % 8))).toNat % 16)

/-! ### The lane's panel -/

/-- The panel work of a lane changed. -/
def Lane.setPnl (l : Lane) (f : PnlWork → PnlWork) : Lane := { l with pnl := f l.pnl }
/-- A field of PNL_ST. -/
def Lane.pst (l : Lane) (f : Fld) : Nat := l.fld PNL_ST f
/-- A flag of PNL_ST. -/
def Lane.pon (l : Lane) (f : Fld) : Bool := l.on PNL_ST f

/-- TLO of a band in 0.1 °C. -/
def Lane.tlo (l : Lane) (b : Nat) : Int := (BitVec.ofNat 16 (l.fld (PNL_BAND b) PNL_BAND_TLO)).toInt
/-- The highest band whose TLO lies at or below `t`; band 0 has none below it (R453). -/
def Lane.bandUp (l : Lane) (t : Int) : Nat := (upTo 8).foldl (fun a b => if b != 0 && l.tlo b ≤ t then b else a) 0
/-- The band after temperature `t` (R453). -/
def Lane.bandNext (l : Lane) (t : Int) : Nat :=
  let b := l.pst PNL_ST_BAND
  let up := l.bandUp t
  if b < up || (b != 0 && t < l.tlo b - 20) then up else b

/-- A record of the panel, which raises the panel event (R471). -/
def Lane.pnlRec (l : Lane) (code g : Nat) (p0 p1 p2 : Word) : Lane := (l.record code g p0 p1 p2 0#32).ev evPanel

/-- The band in force becomes `b` (R453, R454). -/
def Lane.setBand (g b : Nat) (t : Word) (l : Lane) : Lane :=
  let old := l.pst PNL_ST_BAND
  if b = old then l else
  let higher := l.vcolSet old < l.vcolSet b
  let l := (l.setF PNL_ST PNL_ST_BAND b).setPnl (fun w => { w with lag := if higher then some old else none })
  l.pnlRec 0x0B02 g (w32 b) (w32 old) t

/-- NTC_FAULT as the runs of words call for it (R452). -/
def Lane.ntcFault (g : Nat) (l : Lane) : Lane :=
  let f := l.pon PNL_ST_NTC_FAULT
  let t := (BitVec.setWidth 16 (l.rd PNL_TEMP)).signExtend 32
  if !f && 2 ≤ l.pnl.ntcOut then
    ((l.setB PNL_ST PNL_ST_NTC_FAULT true).pnlRec 0x0B05 g 0#32 1#32 0#32).setBand g (l.fld PNL_CFG PNL_CFG_FBAND) t
  else if f && 10 ≤ l.pnl.ntcIn then (l.setB PNL_ST PNL_ST_NTC_FAULT false).pnlRec 0x0B05 g 0#32 0#32 0#32
  else l

/-- A temperature word in the cut (R452, R453). -/
def Lane.ntcTake (g : Nat) (w : BitVec 16) (l : Lane) : Lane :=
  let t := w.toInt
  let inside := -400 ≤ t && t ≤ 1000
  let l := (l.wr PNL_TEMP (w.zeroExtend 32)).setPnl (fun p =>
    { p with ntcOut := if inside then 0 else p.ntcOut + 1, ntcIn := if inside then p.ntcIn + 1 else 0 })
  let l := l.ntcFault g
  if l.pon PNL_ST_NTC_FAULT then l else l.setBand g (l.bandNext t) (BitVec.ofInt 32 t)

/-- One more crazing fault counted in a word of PNL_CRZ (R464). -/
def crzCounted (w : Word) : Word := PNL_CRZ_CRZ_TRIPS.put (min 65535 (PNL_CRZ_CRZ_TRIPS.get w + 1)) w
/-- CRZ_FAULT is set: it counts in what the lane sees of the stage (R464). -/
def Lane.crzSet (g res : Nat) (l : Lane) : Lane :=
  if l.pon PNL_ST_CRZ_FAULT then l else
  ({ l with hw := RegFile.wr l.hw PNL_CRZ (crzCounted (l.hwRd PNL_CRZ)) }.setB PNL_ST PNL_ST_CRZ_FAULT true).pnlRec 0x0B03 g 1#32 (w32 res) 0#32
/-- The stage counts the setting of CRZ_FAULT that the leading lane shows; `was`: the flag before (R464). -/
def State.crzCount (was : Bool) (s : State) : State :=
  if was || !s.lead.pon PNL_ST_CRZ_FAULT then s else s.withSh (s.sh.wr PNL_CRZ (crzCounted (s.sh.rd PNL_CRZ)))
/-- RAIL_FAULT is set; the rail is kept for the record of its end. -/
def Lane.railSet (g which v : Nat) (l : Lane) : Lane :=
  if l.pon PNL_ST_RAIL_FAULT then l
  else ((l.setPnl (fun w => { w with badRail := which })).setB PNL_ST PNL_ST_RAIL_FAULT true).pnlRec 0x0B04 g 1#32 (w32 which) (w32 v)

/-- Phase 3 of the panel: the reports of the cut (R452, R453, R461, R463). -/
def Lane.pnlTake (g : Nat) (l : Lane) : Lane :=
  let c := l.cut.pnl
  let l := match c.ntc with
    | some w => l.ntcTake g w
    | none => l
  let l := match c.crz with
    | some (res, t) =>
      let l := l.setPnl (fun w => { w with crzAt := some t })
      if l.crzMax * 10 < res then l.crzSet g res else l
    | none => l
  let l := match c.rail with
    | some (which, v) => l.railSet g which v
    | none => l
  let l := match c.vdev with
    | some v => if l.pon PNL_ST_VCOL_DEV == v then l else (l.setB PNL_ST PNL_ST_VCOL_DEV v).pnlRec 0x0B05 g 1#32 (w32 v.toNat) 0#32
    | none => l
  if c.down then l.setPnl (fun w => { w with down := true }) else l

/-! ### Dimming and demand (R455, R456) -/

/-- The dimming target. -/
def Lane.dimTarget (l : Lane) : Nat :=
  let dim0 := l.fld PNL_DIMSRC PNL_DIMSRC_DIM0
  if l.fld PNL_DIMSRC PNL_DIMSRC_KIND = 8 then
    let i := l.fld PNL_DIMSRC PNL_DIMSRC_INDEX
    let v := l.source (fun _ => false) false 8 i 0
    if v.2 then dim0
    else if F32.isNaN v.1 then (Config.nanDim v.1).toNat
    else if F32.isInf v.1 then (if F32.neg? v.1 then 0 else 15)
    else (min 15 (max 0 (F32.toIntRNE v.1))).toNat
  else l.pnl.dimCmd.getD dim0

/-- The dark demand D. -/
def Lane.dark (l : Lane) : Bool := l.pon PNL_ST_DARK_REQ || l.pon PNL_ST_SHED

/-! ### The state table (R457) -/

/-- The panel state becomes `st` (R457, R471). -/
def Lane.pnlTo (g st cause : Nat) (l : Lane) : Lane :=
  let old := l.pst PNL_ST_PSTATE
  ((l.setF PNL_ST PNL_ST_PSTATE st).setPnl (fun w => { w with cause := cause, down := if st = 1 then false else w.down })).pnlRec
    0x0B01 g (w32 st) (w32 old) (w32 cause)

/-- A good crazing measurement within the last 250 ms. -/
def Lane.crzFresh (g : Nat) (l : Lane) : Bool :=
  RegFile.fld l.hw PNL_CRZ PNL_CRZ_GOOD == 1 &&
    (match l.pnl.crzAt with
     | some t => decide (g ≤ t + 250000000)
     | none => false)

/-- The rows of the state table from a state other than OFF, with PANEL on and the panel in use. `fs`: a frame start lies in the
coming epoch. -/
def Lane.pnlRow (g : Nat) (fs : Bool) (l : Lane) : Lane :=
  let crz := l.pon PNL_ST_CRZ_FAULT
  let rail := l.pon PNL_ST_RAIL_FAULT
  let d := l.dark
  match l.pst PNL_ST_PSTATE with
  | 0 => l.pnlTo g 6 4
  | 6 => if !d && !crz && !rail && l.crzFresh g then l.pnlTo g 1 1 else l
  | 7 => if !crz && !rail then l.pnlTo g 6 l.pnl.cause else l
  | st =>
    if crz || rail then (if crz then l.pnlTo g 7 2 else l.pnlTo g 7 3)
    else match st with
      | 1 =>
        if d then l.pnlTo g 5 0
        else if fs && l.hwOn PNL_RAIL PNL_RAIL_VNEG_GOOD && l.hwOn PNL_RAIL PNL_RAIL_VCOL_GOOD then l.pnlTo g 2 1 else l
      | 2 => if !fs then l else if d then l.pnlTo g 5 0 else (l.pnlTo g 3 1).setB PNL_ST PNL_ST_PROVEN true
      | 3 => if fs && d then l.pnlTo g 4 0 else l
      | 4 => if fs then l.pnlTo g 5 0 else l
      | _ => if l.pnl.down then l.pnlTo g 6 l.pnl.cause else l

/-- A fault met while the rails fall leads to TRIP as the others do (rows in order). -/
def Lane.pnlState (g : Nat) (use fs : Bool) (l : Lane) : Lane :=
  let on := l.hwOn (PWR_DST 13) PWR_DST_ON
  if !on || !use then (if l.pst PNL_ST_PSTATE = 0 then l else l.pnlTo g 0 (if !on then 5 else 4))
  else l.pnlRow g fs

/-! ### Drive frames (R445) -/

/-- The settings of the frame being formed: the set-point is the band's; a rising set-point keeps the old current for one
frame (R454). With the bisque drive set c = CMAX for every pixel (R462); the set holds no dimming, CMAX or gamma: the node's
constants and 1.0 stand in (log 40). -/
def Lane.pnlSet (l : Lane) : PnlSet :=
  let b := l.pst PNL_ST_BAND
  let cb := l.pnl.lag.getD b
  let bq := l.pnl.drv.isSome
  { frate := l.frate, ewf := l.ewf, rratio := l.rratio, icode := l.icode cb, aw := l.aw cb, vset := l.vcolSet b, dim := if bq then Config.bisqueDim.toNat else l.fld (PNL_DIM (l.pst PNL_ST_DIM)) PNL_DIM_VALUE,
    cmax := if bq then 1024 else l.fld PNL_CFG2 PNL_CFG2_CMAX, ucoef := l.fld PNL_UCOEF PNL_UCOEF_UCOEF,
    gamma := (upTo 16).map (fun g => if bq then (Config.bisqueGamma g).toNat else l.fld (PNL_GAMMA g) PNL_GAMMA_VALUE), full := bq }

/-- The content frame in force (R465). -/
def Lane.content (l : Lane) (w : Nat) : Word := if l.pon PNL_ST_SRC then l.pnl.shown.at 0#32 w else l.pnl.render.at 0#32 w

/-- A saturation flag with its record, once (R447, R449, R471). -/
def Lane.satSet (g : Nat) (f : Fld) (which p : Nat) (l : Lane) : Lane :=
  if l.pon f then l else (l.setB PNL_ST f true).pnlRec 0x0B06 g (w32 which) (w32 p) 0#32

/-- One pixel row of the frame being formed. -/
def Lane.formRow (p : PnlSet) (iCol g : Nat) (acc : Lane × List (List Nat) × List Nat) (y : Nat) :
    Lane × List (List Nat) × List Nat :=
  let l := acc.1
  let r := l.pnl.rows.at {} y
  let x := p.row iCol r (greyRow l.content y)
  let l := match chgSat iCol x.1 r with
    | some c => l.satSet g PNL_ST_CHG_SAT 0 (256 * y + c)
    | none => l
  let l := match ageSat x.2.2 with
    | some c => l.satSet g PNL_ST_AGE_SAT 1 (256 * y + c)
    | none => l
  (l.setPnl (fun w => { w with rows := w.rows.upd {} y x.2.2 }), acc.2.1 ++ [x.1], acc.2.2 ++ [x.2.1])

/-- The drive frame that starts at `fs` (R445): pixels and accounts; emission in LIT, rows scanning also in the blank states (R456). -/
def Lane.formFrame (p : PnlSet) (g fs : Nat) (l : Lane) : Lane :=
  let st := l.pst PNL_ST_PSTATE
  let lit := st == 3
  let iCol := if lit then p.iCol else 0
  let x := (upTo 64).foldl (Lane.formRow p iCol g) (l, [], [])
  let f : DriveFrame := ⟨fs, decide (2 ≤ st ∧ st ≤ 4), lit, p.frate, p.ewf, iCol, p.vset, x.2.1, x.2.2⟩
  let l := x.1.setPnl (fun w => { w with frame := some f, lag := none })
  l.wr PNL_FRAMES (l.rd PNL_FRAMES + 1#32)

/-- The dimming level moves one step toward the target (R455). -/
def dimStep (d t : Nat) : Nat := if d < t then d + 1 else if t < d then d - 1 else d

/-- Phase 6 of the panel in the epoch opened at `g`, for the epoch that `next` opens: at a frame start the dimming level moves first. A
panel in use has a frame formed in every state (R445); with EN clear it has none (log 46). -/
def Lane.pnlForm (g next : Nat) (l : Lane) : Lane :=
  let en := l.pnlUse
  if !en && l.pst PNL_ST_PSTATE == 0 then l else
  let l := (l.setF PNL_ST PNL_ST_DIMT l.dimTarget).setB PNL_ST PNL_ST_SHED (l.on PWR_LST PWR_LST_C3SHED)
  let fs := frameStart l.frate next
  let l := (l.pnlState g en fs.isSome).setPnl (fun w => { w with frame := none })
  match fs with
  | some f =>
    if en then
      let l := l.setF PNL_ST PNL_ST_DIM (dimStep (l.pst PNL_ST_DIM) (l.pst PNL_ST_DIMT))
      l.formFrame l.pnlSet g f
    else l
  | none => l

/-! ### The list and the renderer (R465–R468) -/

/-- Listed entries whose point is not NORMAL: entry and point. -/
def Lane.listShown (l : Lane) : List (Nat × Nat) :=
  ((upTo (l.fld PNL_LCFG PNL_LCFG_NLIST)).filter (fun k => l.on (PNL_LPT k) PNL_LPT_EN)).map (fun k => (k, l.fld (PNL_LPT k) PNL_LPT_POINT))
    |>.filter (fun x => l.fld (PT_ST x.2) PT_ST_STATE != 0)

/-- The point awaits acknowledgement. -/
def Lane.unacked (l : Lane) (p : Nat) : Bool := [1, 2, 4, 5].contains (l.fld (PT_ST p) PT_ST_STATE)

/-- The entries in the order of R467: keys tested from the last to the first, each sort keeping the order of equals. -/
def Lane.listOrder (l : Lane) (xs : List (Nat × Nat)) : List (Nat × Nat) :=
  let newest := xs.foldl (fun m x => max m (l.pnl.actAt.at 0 x.2)) 0
  let xs := sortBy (fun x => newest - l.pnl.actAt.at 0 x.2) xs
  let xs := sortBy (fun x => l.fld (PT_CFG x.2) PT_CFG_PRIO) xs
  sortBy (fun x => if l.unacked x.2 then 0 else 1) xs

/-- Glyph numbers of a text in ASCII. -/
def ascii (s : String) : List Nat := s.toList.map Char.toNat
/-- A number right-aligned with leading spaces. -/
def rightNum (w n : Nat) : List Nat :=
  let d := ascii (toString n)
  List.replicate (w - d.length) 32 ++ d

/-- The header line (R466). -/
def headerLine (shown unack page pages : Nat) : List Nat :=
  ascii "ALM " ++ rightNum 4 (min 9999 shown) ++ ascii " UNACK " ++ rightNum 4 unack ++ ascii "   PG " ++ rightNum 3 page
    ++ ascii "/" ++ rightNum 3 pages

/-- An entry line with whether it is drawn inverted (R467). -/
def Lane.entryLine (g : Nat) (l : Lane) (x : Nat × Nat) : List Nat × Bool :=
  let st := l.fld (PT_ST x.2) PT_ST_STATE
  let txt := (l.pnl.txt.at [] (256 + x.1)).map BitVec.toNat
  let txt := txt ++ List.replicate (28 - txt.length) 0
  let mark := match st with
    | 1 => 42 | 2 => 83 | 4 => 84 | 5 => 82 | _ => 32
  (((ascii "EAWC").getD (l.fld (PT_CFG x.2) PT_CFG_PRIO) 32) :: mark :: 32 :: txt.take 16 ++ [32] ++ txt.drop 16,
    st == 1 && decide (g % 1000000000 < 500000000))

/-- A word of a rendered line: glyph row `b`, grey level `fg` for set bits, inverted if asked. -/
def glyphWord (b : Byte) (fg : Nat) (inv : Bool) : Word :=
  (upTo 8).foldl (fun a i =>
    let v := if b.getLsbD (7 - i) then fg else 0
    a ||| atBit (if inv then 15 - v else v) (4 * i)) 0#32

/-- A frame drawn from lines of glyph numbers. -/
def drawLines (glyph : Nat → Nat → Byte) (fg : Nat) (lines : List (List Nat × Bool)) : Trie Word :=
  (upTo 64).foldl (fun t y =>
    let ln := lines.getD (y / 16) ([], false)
    (upTo 32).foldl (fun t k =>
      let w := match ln.1[k]? with
        | some c => glyphWord (glyph c (y % 16)) fg ln.2
        | none => 0#32
      t.upd 0#32 (32 * y + k) w) t) .nil

/-- Phase 6 of the renderer in an alarm-scan epoch opened at `g`: the page first, then the render frame. -/
def Lane.render (g : Nat) (l : Lane) : Lane :=
  if !l.on PNL_CFG PNL_CFG_EN then l else
  let listed (p : Nat) : Bool := (upTo (l.fld PNL_LCFG PNL_LCFG_NLIST)).any (fun k =>
    l.on (PNL_LPT k) PNL_LPT_EN && l.fld (PNL_LPT k) PNL_LPT_POINT == p)
  let first := l.alm.unack.any listed
  let l := l.setPnl (fun w => { w with actAt := l.alm.acts.foldl (fun t p => t.upd 0 p g) w.actAt })
  let xs := l.listOrder l.listShown
  let n := xs.length
  let pages := max 1 ((n + 2) / 3)
  let page := if first then 1 else min pages (max 1 l.pnl.page)
  let l := (l.setPnl (fun w => { w with page := page, pages := pages })).wr PNL_LIST
    (PNL_LIST_PAGE.put page (PNL_LIST_PAGES.put pages (PNL_LIST_SHOWN.put n 0#32)))
  let un := (xs.filter (fun x => l.unacked x.2)).length
  let lines := (headerLine n un page pages, false) :: ((xs.drop (3 * (page - 1))).take 3).map (l.entryLine g)
  let f := drawLines (fun c r => (l.pnl.txt.at [] (c % 256)).getD r 0#8) (l.fld PNL_CFG2 PNL_CFG2_FG) lines
  l.setPnl (fun w => { w with render := f, wrote := w.wrote ++ [0] })

/-- The page advances by one; after the last comes page 1 (R468). PNL_LIST shows the low seven bits of a page number (log 106). -/
def Lane.pageAdvance (l : Lane) : Lane :=
  let p := if l.pnl.page < l.pnl.pages then l.pnl.page + 1 else 1
  (l.setPnl (fun w => { w with page := p })).setF PNL_LIST PNL_LIST_PAGE p

/-- The page timer at boundary `g`, once (R468). -/
def Lane.pageTimer (g : Nat) (l : Lane) : Lane :=
  let t := l.fld PNL_LCFG PNL_LCFG_PAGET
  if t = 0 || g % (t * 1000000000) != 0 || l.pnl.pageAt == g || !l.on PNL_CFG PNL_CFG_EN then l
  else l.pageAdvance.setPnl (fun w => { w with pageAt := g })

/-! ### The drive stage -/

/-- The stage with its rails and frames changed. -/
def Shared.setPnl (h : Shared) (f : PnlHw → PnlHw) : Shared := { h with pnl := f h.pnl }
/-- The rails begin to fall at instant `w`: VCOL is switched off first, or the series switch opens (R459); every land is at GND. -/
def PnlHw.fall (w : Nat) (p : PnlHw) : PnlHw :=
  let down := p.rails = .rising || p.rails = .up
  { p with rails := if down then .fallCol else p.rails, stepAt := if down then w else p.stepAt, switch := false, cur := none, next := none }
def Shared.railsFall (w : Nat) (h : Shared) : Shared :=
  let h := (h.setB PNL_RAIL PNL_RAIL_VNEG_GOOD false).setB PNL_RAIL PNL_RAIL_VCOL_GOOD false
  h.setPnl (PnlHw.fall w)
/-- A crazing fault, a rail fault or the switch-off of domain PANEL: the stage acts by itself, and its rails stay down until the
released panel state has followed (R460). -/
def Shared.railsTrip (w : Nat) (h : Shared) : Shared := (h.railsFall w).setPnl (fun p => { p with fault := true })
/-- At instant `w` VNEG is switched off, 5.0 ms after VCOL at the latest (R459). -/
def Shared.railsOn (w : Nat) (h : Shared) : Shared :=
  if h.pnl.rails = .fallCol && decide (h.pnl.stepAt + 5000000 ≤ w) then h.setPnl (fun p => { p with rails := .fallNeg, stepAt := p.stepAt + 5000000 }) else h
/-- The rails begin to rise toward a set-point (R458). -/
def Shared.railsRise (h : Shared) (vsp : Nat) : Shared :=
  (h.setF PNL_RAIL PNL_RAIL_VCOL_SP vsp).setPnl (fun w => { w with rails := .rising, stepAt := h.gt })

/-- The rails of the stage are on or on their way up. -/
def Shared.railsUp (h : Shared) : Bool := h.pnl.rails = .rising || h.pnl.rails = .up

/-- The released panel commands reach the stage at a boundary (R445, R457): rails up in RISE, unless a fault stands (R460), down in FALL,
TRIP and OFF, the drive frame of the epoch. -/
def Shared.pnlApply (h : Shared) (l : Lane) : Shared :=
  let st := l.pst PNL_ST_PSTATE
  let h := if st = 0 || 6 ≤ st then h.setPnl (fun p => { p with fault := false }) else h
  let h :=
    if st = 1 && !h.railsUp && !h.pnl.fault && h.on (PWR_DST 13) PWR_DST_ON then h.railsRise (l.vcolSet (l.pst PNL_ST_BAND))
    else if (st = 5 || st = 0 || st = 7) && h.railsUp then h.railsFall h.gt
    else h
  h.setPnl (fun w => { w with next := l.pnl.frame })

/-- A frame starts at the stage (R446): the drive frame whose start it is is applied, where its state scans the rows (R456); during a
hold the last one repeats. -/
def Shared.frameStart (h : Shared) : Shared :=
  match h.pnl.next with
  | some f =>
    if h.railsUp && f.scan then
      (h.setF PNL_RAIL PNL_RAIL_VCOL_SP f.vsp).setPnl (fun w => { w with rails := .up, cur := some f, next := none })
    else h.setPnl (fun w => { w with cur := none, next := none })
  | none => h

/-! ### The lands of the panel (R442, R443) -/

/-- What a land is held at; `source` drives the column current of the frame. -/
inductive LandLevel where
  | gnd | vcol | vneg | source
  deriving DecidableEq, Repr

/-- The intervals of a row slot (R443). -/
inductive SlotPart where
  | emission | toRecovery | recovery | rest | toEmission
  deriving DecidableEq, Repr

/-- Row `y` begins so many ns after the frame start (R442). -/
def rowStart (frate y : Nat) : Nat := y * rowSlot frate * 10
/-- The newest frame start at or before instant `w` (R442). -/
def newestStart (frate w : Nat) : Nat :=
  let a := w / 3000000000 * 3000000000
  a + ((w - a + 1) * frate - 1) / 1000000000 * 1000000000 / frate
/-- The row whose slot runs at tick `o` after the frame start, with the tick in its slot; none in the idle time (R442). -/
def slotAt (frate o : Nat) : Option (Nat × Nat) := if o < 64 * rowSlot frate then some (o / rowSlot frate, o % rowSlot frate) else none

/-- Emission window of the frame in ticks (R443). -/
def DriveFrame.ew (f : DriveFrame) : Nat := rowSlot f.frate * f.ewf / 256
/-- The interval of the slot of row `y` at its tick `o` (R443). -/
def DriveFrame.part (f : DriveFrame) (y o : Nat) : SlotPart :=
  let rs := rowSlot f.frate
  if o < f.ew then .emission
  else if o < f.ew + 50 then .toRecovery
  else if o < f.ew + 50 + f.trev.getD y 0 then .recovery
  else if o < rs - 50 then .rest
  else .toEmission
/-- The level of row land `r` at tick `o` of the frame (R442, R443). -/
def DriveFrame.rowLevel (f : DriveFrame) (o r : Nat) : LandLevel :=
  match slotAt f.frate o with
  | none => .gnd
  | some (y, k) =>
    if r = y then .gnd
    else match f.part y k with
      | .emission | .toRecovery => .vcol
      | .recovery => .vneg
      | .rest | .toEmission => .gnd
/-- The level of column land `x` at tick `o` of the frame (R442, R443). -/
def DriveFrame.colLevel (f : DriveFrame) (o x : Nat) : LandLevel :=
  match slotAt f.frate o with
  | none => .gnd
  | some (y, k) => match f.part y k with
    | .emission => if k < (f.ton.getD y []).getD x 0 then .source else .gnd
    | .recovery => .vneg
    | .toRecovery | .rest | .toEmission => .gnd
/-- The level of a row land at instant `w`: at GND while no frame is applied (R460). -/
def PnlHw.rowLevel (p : PnlHw) (w r : Nat) : LandLevel := (p.cur.map (fun f => f.rowLevel ((w - newestStart f.frate w) / 10) r)).getD .gnd
/-- The level of a column land at instant `w`. -/
def PnlHw.colLevel (p : PnlHw) (w x : Nat) : LandLevel := (p.cur.map (fun f => f.colLevel ((w - newestStart f.frate w) / 10) x)).getD .gnd

/-! ### Reports of the stage -/

/-- A report enters the coming cut of every lane that takes data, in bisque mode of both (R462). -/
def State.pnlReport (s : State) (f : PnlCut → PnlCut) : State :=
  s.onLanes (fun l => l.takes || l.st == .bisque) (fun l => { l with cut := { l.cut with pnl := f l.cut.pnl } })

/-- The grade omits the panel engine (R1). -/
def Shared.noPanel (h : Shared) : Bool := h.grade == 2
/-- The panel domain is there and on. -/
def State.pnlOn (s : State) : Bool := !s.sh.noPanel && s.sh.on (PWR_DST 13) PWR_DST_ON

/-- A crazing measurement ends `t` ns after the newest boundary (R460, R463). -/
def State.crzMeasure (s : State) (res t : Nat) : State :=
  if !s.pnlOn then s else
  let bad := s.lead.crzMax * 10 < res
  let h := s.sh.setF PNL_CRZ PNL_CRZ_RES (min 2047 res)
  let h := h.setB PNL_CRZ PNL_CRZ_GOOD (!bad)
  let h := if bad then h.railsTrip (s.sh.gt + t) else h
  (s.withSh h).pnlReport (fun c => { c with crz := some (res, s.sh.gt + t) })

/-- VNEG at `v` lies below 90 % of VNEG_SET in magnitude, in 0.1 V (R458, R461). -/
def State.vnegLow (s : State) (v : Nat) : Bool := v * 10 < s.lead.vnegSet * 9
/-- VCOL at `v` lies outside ±10 % of VCOL_SP (R458, R461). -/
def State.vcolOut (s : State) (v : Nat) : Bool :=
  let sp := s.sh.fld PNL_RAIL PNL_RAIL_VCOL_SP
  v * 10 < sp * 9 || sp * 11 < v * 10
/-- The rails stand against a fault of `vcol`, at instant `w`: in RISE a rail that has not come good in its time (3.0 ms from step 1,
6.0 ms from step 2); with the rows scanning a rail out of its limits (R458, R461). -/
def State.railBad (s : State) (vcol : Bool) (v w : Nat) : Bool :=
  if s.lead.pst PNL_ST_PSTATE = 1 then
    let neg := s.sh.on PNL_RAIL PNL_RAIL_VNEG_GOOD
    if vcol then neg && !s.sh.on PNL_RAIL PNL_RAIL_VCOL_GOOD && s.sh.pnl.stepAt + 6000000 ≤ w else !neg && s.sh.pnl.stepAt + 3000000 ≤ w
  else if !vcol then s.vnegLow v
  else if s.lead.railx then v < 70 else s.vcolOut v

/-- The measured voltage of a rail. -/
def Shared.railSeen (h : Shared) (vcol : Bool) (v : Nat) : Shared :=
  if vcol then h.setF PNL_RAIL PNL_RAIL_VCOL v else h.setF PNL_RAIL PNL_RAIL_VNEG v

/-- A rail fault is declared (R458, R460, R461): while the rails rise, or with the rows scanning. -/
def State.railFault (s : State) (vcol : Bool) (v t : Nat) : State :=
  let st := s.lead.pst PNL_ST_PSTATE
  if !s.pnlOn || st = 0 || 4 < st || !s.railBad vcol v (s.sh.gt + t) then s
  else (s.withSh ((s.sh.railSeen vcol v).railsTrip (s.sh.gt + t))).pnlReport (fun c => { c with rail := some (vcol.toNat, v) })

/-- A rail comes good, the rails standing at `vneg` and `vc` (R458): VNEG first, whereupon with RAILX the series switch closes if the external
VCOL is at least 7.0 V; VCOL within its limits after it. -/
def State.railGood (s : State) (vcol : Bool) (vneg vc t : Nat) : State :=
  let h := (s.sh.railSeen false vneg).railSeen true vc
  let neg := h.on PNL_RAIL PNL_RAIL_VNEG_GOOD
  if h.pnl.rails != .rising then s
  else if !vcol then
    if s.vnegLow vneg || neg then s
    else s.withSh ((h.setB PNL_RAIL PNL_RAIL_VNEG_GOOD true).setPnl (fun w =>
      { w with stepAt := h.gt + t, switch := s.lead.railx && decide (70 ≤ vc) }))
  else if s.vcolOut vc || !neg || (s.lead.railx && !h.pnl.switch) then s
  else s.withSh (h.setB PNL_RAIL PNL_RAIL_VCOL_GOOD true)

/-- VCOL from outside has stood at `v` for 100 ms (R461): beyond 1.0 V of VCOL_SP it deviates, within 0.8 V it does not. -/
def State.vcolDev (s : State) (v : Nat) : State :=
  let sp := s.sh.fld PNL_RAIL PNL_RAIL_VCOL_SP
  let d := max (v - sp) (sp - v)
  if !s.pnlOn || !s.lead.railx then s
  else
    let s := s.withSh (s.sh.railSeen true v)
    if 10 < d then s.pnlReport (fun c => { c with vdev := some true })
    else if d ≤ 8 then s.pnlReport (fun c => { c with vdev := some false }) else s

/-- The rails stand at `vneg` and `vc` while they fall, `t` ns after the newest boundary (R459): VNEG is switched off once VCOL is below
1.0 V or 5.0 ms have passed, and both have discharged once VNEG is above −0.5 V as well; an external VCOL stays as it is. -/
def State.railsDown (s : State) (vneg vc t : Nat) : State :=
  let w := s.sh.gt + t
  if s.sh.pnl.rails != .fallCol && s.sh.pnl.rails != .fallNeg then s else
  let h := ((s.sh.railSeen false vneg).railSeen true vc).railsOn w
  let low := s.lead.railx || decide (vc < 10)
  let h := if h.pnl.rails = .fallCol && !s.lead.railx && low then h.setPnl (fun p => { p with rails := .fallNeg, stepAt := w }) else h
  if h.pnl.rails = .fallNeg && low && decide (vneg < 5) then
    (s.withSh (h.setPnl (fun p => { p with rails := .off }))).pnlReport (fun c => { c with down := true })
  else s.withSh h

/-! ### Commands (R470) -/

/-- The outcome of a PANEL command at its effect boundary. -/
def Lane.pnlStatus (l : Lane) (op arg : Nat) : Nat :=
  let bad (lim : Nat) (refuse : Bool) := if lim < arg then stInvalid else if refuse then stRefused else stDone
  match op with
  | 1 => bad 1 (l.pst PNL_ST_DARK_REQ == arg)
  | 2 => bad 15 (l.fld PNL_DIMSRC PNL_DIMSRC_KIND == 8)
  | 3 => bad 1 (l.pst PNL_ST_SRC == arg)
  | 4 => bad 0 false
  | 5 => bad 0 (l.pon PNL_ST_SRC || l.pnl.pages ≤ 1)
  | 6 => bad 1 (if arg = 0 then !l.pon PNL_ST_RAIL_FAULT else !l.pon PNL_ST_CRZ_FAULT || !l.hwOn PNL_CRZ PNL_CRZ_GOOD)
  | _ => stInvalid

/-- CLR_FAULT with its record; TRIP ends when both faults are clear (R457, R464). -/
def Lane.clrFault (g arg : Nat) (l : Lane) : Lane :=
  let l :=
    if arg = 0 then (l.setB PNL_ST PNL_ST_RAIL_FAULT false).pnlRec 0x0B04 g 0#32 (w32 l.pnl.badRail)
      (w32 (l.hwFld PNL_RAIL (if l.pnl.badRail = 1 then PNL_RAIL_VCOL else PNL_RAIL_VNEG)))
    else (l.setB PNL_ST PNL_ST_CRZ_FAULT false).pnlRec 0x0B03 g 0#32 (w32 (l.hwFld PNL_CRZ PNL_CRZ_RES)) 0#32
  if l.pst PNL_ST_PSTATE = 7 && !l.pon PNL_ST_RAIL_FAULT && !l.pon PNL_ST_CRZ_FAULT then l.pnlTo g 6 l.pnl.cause else l

/-- The host draw frame copied to the shown frame (R469). -/
def Lane.pnlPresent (l : Lane) : Lane :=
  let f := (upTo 2048).foldl (fun t w => t.upd 0#32 w (l.rd (PNL_HF w))) (.nil : Trie Word)
  l.setPnl (fun w => { w with shown := f, wrote := w.wrote ++ [1] })

/-- A lane at the effect boundary of a PANEL command. -/
def Lane.pnlCmd (g op arg : Nat) (l : Lane) : Lane :=
  let st := l.pnlStatus op arg
  let l := l.setF PNL_CMDST PNL_CMDST_STATUS st
  if st != stDone then l.ev evPanelRefused
  else match op with
    | 1 => l.setF PNL_ST PNL_ST_DARK_REQ arg
    | 2 => l.setPnl (fun w => { w with dimCmd := some arg })
    | 3 => l.setF PNL_ST PNL_ST_SRC arg
    | 4 => l.pnlPresent
    | 5 => l.pageAdvance
    | _ => l.clrFault g arg

/-- LAST_OP of a write of PNL_CMD. -/
def Lane.pnlNote (op : Nat) (l : Lane) : Lane := l.setF PNL_CMDST PNL_CMDST_LAST_OP op
/-- A PANEL command written and taking effect; a grade without the panel engine ignores the write (R3). -/
def State.pnlRow (s : State) (op arg : Nat) : State := if s.sh.noPanel then s else s.both (fun l => (l.pnlNote op).pnlCmd s.sh.gt op arg)

/-! ### Meanings -/

/-- PANEL_FRAME_START (R446). -/
def execPanelFrameStart (s : State) : Res := .next (s.withSh s.sh.frameStart)
/-- NTC_WORD (R452): the panel temperature in 0.1 °C, converted `t` ns after the newest boundary, at a multiple of 100 ms. -/
def execNtcWord (temp : BitVec 16) (t : Nat) (s : State) : Res :=
  .next (if s.pnlOn && 0 < t && (s.sh.gt + t) % 100000000 == 0 then s.pnlReport (fun c => { c with ntc := some temp }) else s)
/-- NTC_FAULT_CHANGE (R452): as the words taken so far call for it. -/
def execNtcFaultChange (s : State) : Res := .next (s.both (Lane.ntcFault s.sh.gt))
/-- CRAZING_MEASUREMENT (R463): the loop resistance in ohms, of a measurement that ends at a multiple of 250 ms; at most 2 ^ 16 − 1
is told apart. -/
def execCrazingMeasurement (res : BitVec 16) (t : Nat) (s : State) : Res :=
  .next (if 0 < t && (s.sh.gt + t) % 250000000 == 0 then s.crzMeasure res.toNat t else s)
/-- RAIL_GOOD (R458): VNEG or VCOL, with the magnitude of VNEG and VCOL in 0.1 V, `t` ns after the newest boundary. -/
def execRailGood (vcol : Bool) (vneg vc : Byte) (t : Nat) (s : State) : Res := .next (s.railGood vcol vneg.toNat vc.toNat t)
/-- RAIL_FAULT (R458, R461). -/
def execRailFault (vcol : Bool) (v : Byte) (t : Nat) (s : State) : Res := .next (s.railFault vcol v.toNat t)
/-- RAILS_DISCHARGED (R459): the magnitude of VNEG and VCOL in 0.1 V, `t` ns after the newest boundary. -/
def execRailsDischarged (vneg vc : Byte) (t : Nat) (s : State) : Res := .next (s.railsDown vneg.toNat vc.toNat t)
/-- VCOL_DEV_CHANGE (R461): the external VCOL in 0.1 V. -/
def execVcolDevChange (v : Byte) (s : State) : Res := .next (s.vcolDev v.toNat)
/-- PAGE_TIMER (R468). -/
def execPageTimer (s : State) : Res := .next (s.both (Lane.pageTimer s.sh.gt))
/-- SET_DARK (R470). -/
def execSetDark (arg : Byte) (s : State) : Res := .next (s.pnlRow 1 arg.toNat)
/-- SET_DIM (R455, R470). -/
def execSetDim (arg : Byte) (s : State) : Res := .next (s.pnlRow 2 arg.toNat)
/-- SET_SRC (R465, R470). -/
def execSetSrc (arg : Byte) (s : State) : Res := .next (s.pnlRow 3 arg.toNat)
/-- PRESENT (R469, R470). -/
def execPresentCmd (arg : Byte) (s : State) : Res := .next (s.pnlRow 4 arg.toNat)
/-- PAGE (R468, R470). -/
def execPageCmd (arg : Byte) (s : State) : Res := .next (s.pnlRow 5 arg.toNat)
/-- CLR_FAULT (R464, R470). -/
def execClrFault (arg : Byte) (s : State) : Res := .next (s.pnlRow 6 arg.toNat)

end Sys2Proof.Machine
end

