-- ==== Sys2Proof/Machine/Can.lean ====
section
/-! DEFINITION. The CAN FD controllers and frame units (spec/12, R372–R406): frame reports in the cut, receive buffers
and locks, transmit outcomes, errors, restricted operation, collisions, bit-rate detection, and the CAN commands. Buses
count from 0; records name them 1 and 2. -/

namespace Sys2Proof.Machine

def Lane.can (l : Lane) (b : Nat) : CanWork := l.cans.at {} b
def Lane.setCan (l : Lane) (b : Nat) (w : CanWork) : Lane := { l with cans := l.cans.upd {} b w }
def Shared.can (h : Shared) (b : Nat) : CanHw := h.cans.at {} b
def Shared.setCan (h : Shared) (b : Nat) (w : CanHw) : Shared := { h with cans := h.cans.upd {} b w }

/-- A bus number by its index. -/
def busOf (b : Nat) : Bus := if b = 0 then .one else .two

/-! ### Frames (R382, R383) -/

/-- The byte count of a DLC (R383). -/
def dlcBytes (fdf : Bool) (dlc : Nat) : Nat :=
  if dlc ≤ 8 then dlc else if !fdf then 8 else [12, 16, 20, 24, 32, 48, 64].getD (dlc - 9) 64
/-- The data bytes of a frame, as many as its DLC says. -/
def frameBytes (f : CanFrame) : List Byte :=
  let n := dlcBytes f.fdf f.dlc.toNat
  (f.data ++ List.replicate 64 0#8).take n
/-- The last valid word of a buffer that holds `n` data bytes (R383). -/
def lastWord (n : Nat) : Nat := 1 + (n + 3) / 4
/-- The 18 words of a buffer that holds a frame (R382). -/
def frameWords (f : CanFrame) : List Word :=
  let d := frameBytes f ++ List.replicate 64 0#8
  w32 (f.id.toNat + 2 ^ 29 * b2n f.ide + 2 ^ 30 * b2n f.rtr)
    :: w32 (f.dlc.toNat + 16 * b2n f.fdf + 32 * b2n f.brs + 64 * b2n f.esi)
    :: (upTo 16).map (fun i => w32 (leNat ((d.drop (4 * i)).take 4)))
/-- The identifier with IDE in bit 29, as records show it. -/
def frameIdWord (f : CanFrame) : Word := w32 (f.id.toNat + 2 ^ 29 * b2n f.ide)

/-! ### Host view of the buffers (R384–R387) -/

/-- A bit of CAN_NEWw or CAN_TXFw follows the buffer status. -/
def Lane.canBits (l : Lane) (b m : Nat) : Lane :=
  let st := l.rd (CAN_BST b m)
  let put (k : Nat) (v : Bool) (l : Lane) : Lane :=
    l.wr k (if v then l.rd k ||| (1#32 <<< (m % 32)) else l.rd k &&& ~~~(1#32 <<< (m % 32)))
  put (CAN_TXF b (m / 32)) (CAN_BST_TXF.on st) (put (CAN_NEW b (m / 32)) (CAN_BST_NEW.on st) l)
/-- The status word of a buffer replaced. -/
def Lane.setBst (l : Lane) (b m : Nat) (st : Word) : Lane := (l.wr (CAN_BST b m) st).canBits b m

/-- The start-of-frame stamp of a buffer. -/
def Lane.canStamp (l : Lane) (b m sof : Nat) : Lane :=
  (l.wr (CAN_TSLO b m) (w32 sof)).wr (CAN_TSHI b m) (w32 (sof / 2 ^ 32))

/-- A frame is placed in a receive buffer. -/
def Lane.canPlace (l : Lane) (b m : Nat) (x : CanIn) : Lane :=
  let l := (upTo 18).foldl (fun l i => l.wr (CAN_BW b m i) ((frameWords x.rep.frame).getD i 0#32)) l
  l.canStamp b m x.sof

/-- A received frame reaches receive buffer `m` (R387). -/
def Lane.canStore (l : Lane) (b m : Nat) (x : CanIn) : Lane :=
  let st := l.rd (CAN_BST b m)
  if CAN_BST_LOCK.on st then
    let w := l.can b
    let l := l.setCan b { w with pend := w.pend.filter (fun p => p.1 != m) ++ [(m, x)] }
    l.setBst b m (CAN_BST_PEND.put 1 (if CAN_BST_PEND.on st then CAN_BST_OVR.put 1 st else st))
  else
    let st' := CAN_BST_NEW.put 1 (if CAN_BST_NEW.on st then CAN_BST_OVR.put 1 st else st)
    (l.canPlace b m x).setBst b m st'

/-- The lowest-numbered receive buffer that matches a frame (R384). -/
def Lane.canMatch (l : Lane) (b : Nat) (f : CanFrame) : Option Nat :=
  (upTo 128).find? (fun m =>
    let c := l.rd (CAN_BCFG b m)
    CAN_BCFG_EN.on c && !CAN_BCFG_DIR.on c && CAN_BCFG_IDE.on c == f.ide
      && ((w32 f.id.toNat ^^^ l.rd (CAN_BID b m)) &&& l.rd (CAN_BMASK b m) &&& 0x1FFFFFFF#32) == 0#32)

/-- A frame received without error: the buffer it is stored in, counters and event (R384, R547). -/
def Lane.canReceive (l : Lane) (b : Nat) (x : CanIn) : Lane :=
  match l.canMatch b x.rep.frame with
  | none => l.bump (CAN_RXCNT b) CAN_RXCNT_NOMATCH
  | some m =>
    let l := (l.wrap (CAN_RXCNT b) CAN_RXCNT_STORED).canStore b m x
    if l.on (CAN_BCFG b m) CAN_BCFG_RXEV then l.ev (evCanRx b (m / 8)) else l

/-! ### Transmissions (R389–R391) -/

/-- The transmit buffer is owned by the schedule, or by host software. -/
def Lane.schedOwned (l : Lane) (b m : Nat) : Bool :=
  let c := l.rd (CAN_BCFG b m)
  CAN_BCFG_EN.on c && CAN_BCFG_DIR.on c && !CAN_BCFG_OWNER.on c
def Lane.hostOwned (l : Lane) (b m : Nat) : Bool :=
  let c := l.rd (CAN_BCFG b m)
  CAN_BCFG_EN.on c && CAN_BCFG_DIR.on c && CAN_BCFG_OWNER.on c

/-- The identifier a transmit buffer sends, with IDE in bit 29. -/
def Lane.txId (l : Lane) (b m : Nat) : Word :=
  w32 (l.fld (CAN_BID b m) CAN_BID_VALUE + 2 ^ 29 * l.fld (CAN_BCFG b m) CAN_BCFG_IDE)

/-- A transmission fails for good: TXF with its cause, record and event (R390). -/
def Lane.txFail (l : Lane) (b m cause time : Nat) : Lane :=
  let st := CAN_BST_TXP.put 0 (CAN_BST_TXF.put 1 (CAN_BST_CAUSE.put cause (l.rd (CAN_BST b m))))
  ((l.setBst b m st).record 0x0906 time (w32 (b + 1)) (w32 m) (w32 cause) (l.txId b m)).ev (evTxFail b)

/-- A slot that could not be sent (cause NOT_SENT). -/
def Lane.notSent (l : Lane) (b m time : Nat) : Lane := (l.bump (SCH_ST b) SCH_ST_NOTSENT).txFail b m 6 time

/-- The report of a transmission from buffer `m` (R390, R404); a report of a repetition counts in RETRY (R376). A frame that fails
during a hold is not repeated in it; its request stays pending and is repeated after it (R391; DEDUCED, log 87). -/
def Lane.canSent (l : Lane) (b m : Nat) (x : CanIn) : Lane :=
  let l := l.canStamp b m x.sof
  let w := l.can b
  let cancelled := w.cancel == some m
  let l := if w.tried.contains m then l.bump (CAN_BST b m) CAN_BST_RETRY else l
  let st := l.rd (CAN_BST b m)
  let again := !x.rep.ok && !cancelled && l.hostOwned b m && !l.on (CAN_BCFG b m) CAN_BCFG_ONESHOT
  let tried := w.tried.filter (· != m) ++ (if again then [m] else [])
  let l := l.setCan b { w with cancel := if cancelled then none else w.cancel, tried := tried }
  if x.rep.ok then l.setBst b m (CAN_BST_TXP.put 0 (CAN_BST_TXF.put 0 st))
  else
    let l := l.bump (CAN_CNT b) CAN_CNT_TXFAILS
    if cancelled then l.txFail b m 7 x.sof
    else if !again then l.txFail b m x.rep.cause.toNat x.sof
    else l.setBst b m (CAN_BST_TXF.put 1 (CAN_BST_CAUSE.put x.rep.cause.toNat st))

/-- A frame the node formed itself, the one being sent, has succeeded: it is offered no more, and its report waits for the cut. -/
def Lane.ownMark (b : Nat) (l : Lane) : Lane :=
  let w := l.can b
  l.setCan b { w with own := match w.own with
    | f :: fs => { f with sent := true } :: fs
    | [] => [] }

/-- The report of a frame the node formed itself in the cut: the first one sent is gone once it has succeeded. -/
def Lane.ownSent (l : Lane) (b : Nat) (ok : Bool) : Lane :=
  let w := l.can b
  if ok then
    let l := l.setCan b { w with own := (w.own.reverse.eraseP (·.sent)).reverse }
    if (w.own.reverse.find? (·.sent)).any (fun f => f.kind == 0) then l.wrap EVT_CNPST EVT_CNPST_SENT else l
  else l.bump (CAN_CNT b) CAN_CNT_TXFAILS

/-! ### Errors (R393–R400) -/

/-- The error state that TEC and REC give (R393): 0 active, 1 passive, 2 bus-off. -/
def errState (tec rxc : Nat) : Nat := if 255 < tec then 2 else if 127 < tec || 127 < rxc then 1 else 0

/-- TEC after a report (R393, R394), as ISO 11898-1 counts it (log 103). -/
def tecAfter (f : FrameRep) (tec rxc : Nat) : Nat :=
  if f.tx.isNone || 255 < tec then tec
  else if f.ok then tec - 1
  else if f.cause == 1#3 || (f.quiet && (f.cause == 4#3 || (f.cause == 3#3 && errState tec rxc = 1))) then tec
  else min 511 (tec + 8 * (1 + f.steps.toNat))
/-- REC after a frame received without error: it falls by 1, or from above 127 to a value between 119 and 127 (log 103). -/
def recFall (rxc : Nat) : Nat := if 127 < rxc then 119 + Config.recBack.val else rxc - 1
/-- REC after a report (R393); in restricted operation a received frame in error leaves it unchanged (R398). -/
def rxcAfter (f : FrameRep) (restr : Bool) (tec rxc : Nat) : Nat :=
  if f.tx.isSome || 255 < tec then rxc
  else if f.ok then recFall rxc
  else if restr then rxc else min 255 (rxc + 1 + 8 * f.steps.toNat)
/-- The lone-error flag (R396): the controller with output authority found an error that the other lane's did not. A lost arbitration is
none, nor is a missing acknowledgement, which only a transmitter looks for (log 104). -/
def loneError (f : FrameRep) : Bool :=
  !f.ok && !f.peerErr && f.cause != 1#3 && !(f.tx.isSome && f.cause == 3#3)

/-- The error state of the controller with output authority (R393, R402). -/
def Lane.canState (l : Lane) (b time tec recv : Nat) : Lane :=
  let est := errState tec recv
  let old := l.fld (CAN_STAT b) CAN_STAT_ESTATE
  let l := l.setF (CAN_STAT b) CAN_STAT_ESTATE est
  let l := l.wr (CAN_ERRC b) (CAN_ERRC_TEC.put tec (CAN_ERRC_REC.put recv (l.rd (CAN_ERRC b))))
  if old = est then l else
  let l := if est = 2 then l.bump (CAN_CNT b) CAN_CNT_BOFF else l
  (l.record 0x0901 time (w32 (b + 1)) (w32 est) (w32 tec) (w32 recv)).ev (evCanState b)

/-- ALONE follows ACKRUN (R394). -/
def Lane.canAlone (time : Nat) (l : Lane) (b : Nat) : Lane :=
  let n := l.fld (CAN_ERRC b) CAN_ERRC_ACKRUN
  let was := l.on (CAN_STAT b) CAN_STAT_ALONE
  let now := if n = 0 then false else was || 16 ≤ n
  if now = was then l else
  ((l.setB (CAN_STAT b) CAN_STAT_ALONE now).record 0x0903 time (w32 (b + 1)) (w32 (b2n now)) (w32 n) 0#32).ev (evCanState b)

/-- ACKRUN after a report (R394). -/
def Lane.ackRun (l : Lane) (b : Nat) (x : CanIn) : Lane :=
  let l := if x.rep.ok then l.setF (CAN_ERRC b) CAN_ERRC_ACKRUN 0
    else if x.rep.tx.isSome && x.rep.cause == 3#3 then l.bump (CAN_ERRC b) CAN_ERRC_ACKRUN else l
  l.canAlone x.sof b

/-- Restricted operation begins or ends with a cause: 0 lone errors, 1 command, 2 quiet windows, 3 authority (R402). -/
def Lane.canRestrict (l : Lane) (b time cause : Nat) (v : Bool) : Lane :=
  if l.on (CAN_STAT b) CAN_STAT_RESTR == v then l else
  let l := (l.setB (CAN_STAT b) CAN_STAT_RESTR v).setCan b { l.can b with quiet := 0 }
  (l.record 0x0904 time (w32 (b + 1)) (w32 (b2n v)) (w32 cause) 0#32).ev (evCanState b)

/-- A lone error (R396, R397). -/
def Lane.canLone (l : Lane) (b : Nat) (x : CanIn) : Lane :=
  if !(loneError x.rep && l.instep) then l else
  let l := (l.bump (CAN_STAT b) CAN_STAT_LONES).setCan b { l.can b with winLone := true }
  if l.fld (CAN_STAT b) CAN_STAT_LONES = 4 then l.canRestrict b x.sof 0 true else l

/-- The entry of CAN_COLLk for an identifier: the one in use, else the first free one. -/
def Lane.collEntry (l : Lane) (b : Nat) (id : Word) : Option Nat :=
  match (upTo 8).find? (fun k => CAN_COLL_VALID.on (l.rd (CAN_COLL b k)) && (l.rd (CAN_COLL b k) &&& 0x3FFFFFFF#32) == id) with
  | some k => some k
  | none => (upTo 8).find? (fun k => !CAN_COLL_VALID.on (l.rd (CAN_COLL b k)))

/-- A collision (R400). -/
def Lane.canColl (l : Lane) (b : Nat) (x : CanIn) : Lane :=
  if !(x.rep.coll && x.rep.tx.isSome && !x.rep.ok && x.rep.cause == 2#3) then l else
  let id := frameIdWord x.rep.frame
  let l := l.setB (CAN_STAT b) CAN_STAT_COLL true
  let r := match l.collEntry b id with
    | some k =>
      let l := (l.wr (CAN_COLL b k) (id ||| 0x80000000#32)).bump (CAN_COLLC b k) CAN_COLLC_COUNT
      (l, l.fld (CAN_COLLC b k) CAN_COLLC_COUNT)
    | none => (l.bump (CAN_CNT b) CAN_CNT_COLL_OVF, l.fld (CAN_CNT b) CAN_CNT_COLL_OVF + 1)
  (r.1.record 0x0905 x.sof (w32 (b + 1)) id (w32 r.2) 0#32).ev (evCollision b)

/-! ### Reports in the cut (R376) -/

/-- One report in phase 3; references and slots are taken in their own chapter. -/
def Lane.canReport (b : Nat) (l : Lane) (x : CanIn) : Lane :=
  let l := l.canState b x.sof x.tec x.rxc
  let l := (l.ackRun b x).canLone b x
  let l := l.canColl b x
  match x.rep.tx with
  | none => if x.rep.ok then l.canReceive b x else l
  | some (.buf m) => l.canSent b m x
  | some .own => l.ownSent b x.rep.ok
  | some .ref => l

/-- A completed bus-off recovery enters the cut (R395, R402). -/
def Lane.canRecovered (b g : Nat) (l : Lane) : Lane :=
  if l.fld (CAN_STAT b) CAN_STAT_ESTATE != 2 then l else
  let l := l.canState b g 0 0
  l.record 0x0902 g (w32 (b + 1)) (w32 (l.fld (CAN_CNT b) CAN_CNT_BOFF)) 0#32 0#32

/-- The lanes adopt detected rates; `g`: the start of the frame that decided (R381, R402). -/
def Lane.canAdopt (b g nrate drate : Nat) (l : Lane) : Lane :=
  let st := CAN_STAT_DETECT.put 0 (CAN_STAT_NRATE_IN.put nrate (CAN_STAT_DRATE_IN.put drate (l.rd (CAN_STAT b))))
  let l := (l.wr (CAN_STAT b) st).setCan b { l.can b with normalDue := true }
  (l.record 0x0907 g (w32 (b + 1)) (w32 nrate) (w32 drate) 0#32).ev (evCanState b)

/-- A lone-error window starts at boundary `g` (R397, R399). -/
def Lane.loneWindow (b g : Nat) (l : Lane) : Lane :=
  let w := l.can b
  if g % 1000000000 != 0 || w.winAt == g then l else
  let q := if w.winLone then 0 else w.quiet + 1
  let l := (l.setF (CAN_STAT b) CAN_STAT_LONES 0).setCan b { w with winAt := g, winLone := false, quiet := q }
  if l.instep && 10 ≤ q && l.on (CAN_STAT b) CAN_STAT_RESTR then l.canRestrict b g 2 false else l

/-- A flag of a lane as it stood at the end of the epoch before. -/
def Lane.onEnd (l : Lane) (k : Nat) (f : Fld) : Bool := f.on (RegFile.rd l.endRegs k)
/-- One-shot requests of host software that fell due while detection ran, in the epoch that has ended, fail (R381); `due`: it had a window
for them. -/
def Lane.detFail (b g : Nat) (due : Bool) (l : Lane) : Lane :=
  if !(due && l.onEnd (CAN_STAT b) CAN_STAT_DETECT) then l else
  (upTo 128).foldl (fun l m =>
    if l.hostOwned b m && l.on (CAN_BCFG b m) CAN_BCFG_ONESHOT && l.onEnd (CAN_BST b m) CAN_BST_TXP && l.on (CAN_BST b m) CAN_BST_TXP
    then l.txFail b m 6 g else l) l

/-! ### Modes of the controllers (R373) -/

/-- OWNMODE of a lane's controller; `run`: it runs. -/
def Lane.ownMode (l : Lane) (auth run : Bool) (b : Nat) : Nat :=
  let st := l.rd (CAN_STAT b)
  if !run then 0
  else if CAN_STAT_DETECT.on st then 5
  else if CAN_STAT_ESTATE.get st = 2 then 4
  else if !auth || (l.can b).normalDue then 1
  else if CAN_STAT_RESTR.on st then 3 else 2
/-- OWNMODE of both buses shown. -/
def Lane.canModes (auth : Bool) (run : Nat → Bool) (l : Lane) : Lane :=
  if l.st == .off then l
  else [0, 1].foldl (fun l b => l.setF (CAN_LOCAL b) CAN_LOCAL_OWNMODE (l.ownMode auth (run b) b)) l
/-- COMM is switched on. -/
def Shared.comm (h : Shared) : Bool := h.on (PWR_DST 7) PWR_DST_ON
/-- The controller of a bus in a lane runs: BUS_EN is set and COMM is on; in bisque mode both buses run once CLKREF is good (R524,
R597). -/
def Shared.canLive (h : Shared) (l : Lane) (b : Nat) : Bool :=
  h.comm && (if h.bisque then h.on CLK_ST CLK_ST_REF_OK else l.on (CAN_CFG b) CAN_CFG_BUS_EN)
/-- The controllers of both lanes in the modes that authority and COMM leave them (R333, R373). -/
def State.canSync (s : State) : State :=
  { s with a := s.a.canModes (s.sh.auth == some s.a.id) (s.sh.canLive s.a),
           b := s.b.canModes (s.sh.auth == some s.b.id) (s.sh.canLive s.b) }
/-- The controllers of a bus run. -/
def State.canRuns (s : State) (b : Nat) : Bool := s.sh.canLive s.lead b
/-- The level of CANx_STB (R377): low while the controllers of the bus run, high while BUS_EN is clear, COMM is off or RESET_n is
asserted. -/
def State.canStb (s : State) (b : Nat) : Bool := s.sh.start.phase == .reset || !s.canRuns b

/-! ### Detection in the frame unit (R381) -/

/-- The rate codes permitted by a mask, highest first. -/
def ratesOf (mask n : Nat) : List Nat := ((upTo n).filter (fun c => bitOf (w32 mask) c)).reverse
/-- The rate after `r` in a cycle of rates. -/
def nextRate (rs : List Nat) (r : Nat) : Nat := (rs.find? (fun c => c < r)).getD (rs.headD r)

/-- Detection starts (R380, R381). -/
def Shared.detStart (l : Lane) (b t : Nat) (h : Shared) : Shared :=
  h.setCan b { h.can b with det := { step := 1, rate := (ratesOf (l.fld (CAN_CFG2 b) CAN_CFG2_NMASK) 4).headD 3, since := t } }

/-- What a frame report says about the rates under trial. -/
def Detect.report (d : Detect) (l : Lane) (b sof : Nat) (f : FrameRep) : Detect :=
  let ds := ratesOf (l.fld (CAN_CFG2 b) CAN_CFG2_DMASK) 5
  match d.step with
  | 1 => if f.ok then { d with step := 2, nrate := d.rate, rate := ds.headD 4, frames := 0 } else d
  | 2 =>
    if !f.frame.brs then d
    else if f.ok then { d with step := 3, sof := sof }
    else if d.frames = 0 then { d with frames := 1 } else { d with rate := nextRate ds d.rate, frames := 0 }
  | _ => d

/-! ### Commands (R404) -/

/-- A CAN command ends INVALID. -/
def canInvalid (op arg : Nat) : Bool :=
  match op with
  | 1 | 2 | 3 | 5 => arg != 0
  | 4 => 1 < arg
  | _ => true
/-- A CAN command ends STATE_REFUSED. -/
def Lane.canRefused (l : Lane) (b op m arg : Nat) : Bool :=
  let st := l.rd (CAN_STAT b)
  let en := l.on (CAN_CFG b) CAN_CFG_BUS_EN
  let txp := l.on (CAN_BST b m) CAN_BST_TXP
  match op with
  | 1 => !l.hostOwned b m || txp || !en
  | 2 => !txp
  | 3 => !l.on (CAN_CFG b) CAN_CFG_BRMODE || CAN_STAT_DETECT.on st || CAN_STAT_ESTATE.get st == 2
  | 4 => CAN_STAT_RESTR.get st == arg || !en
  | _ => !CAN_STAT_COLL.on st
/-- The outcome of a CAN command at its effect boundary. -/
def Lane.canStatus (l : Lane) (b op m arg : Nat) : Nat :=
  if canInvalid op arg then stInvalid else if l.canRefused b op m arg then stRefused else stDone

/-- A slot of a buffer whose transmission is cancelled is not sent: the one staged, or the one of the running epoch (R404). -/
def Lane.slotCancel (l : Lane) (b m : Nat) : Lane :=
  let w := l.can b
  let rest (ss : List (Nat × Nat × Nat)) : List (Nat × Nat × Nat) := ss.filter (fun s => s.1 != m)
  l.setCan b (if w.staged.any (fun s => s.1 == m) then { w with staged := rest w.staged } else { w with slots := rest w.slots })

/-- The effect of a CAN command in a lane; `busy`: the frame of the buffer is in progress. -/
def Lane.canEffect (g b op m arg : Nat) (busy : Bool) (l : Lane) : Lane :=
  match op with
  | 1 =>
    let w := l.can b
    (l.setCan b { w with tried := w.tried.filter (· != m) }).setBst b m (CAN_BST_TXP.put 1 (CAN_BST_RETRY.put 0 (l.rd (CAN_BST b m))))
  | 2 => if busy then l.setCan b { l.can b with cancel := some m } else (l.slotCancel b m).txFail b m 7 g
  | 3 => l.wr (CAN_STAT b) (CAN_STAT_DETECT.put 1 (CAN_STAT_DRATE_IN.put (l.fld (CAN_CFG b) CAN_CFG_DRATE) (l.rd (CAN_STAT b))))
  | 4 => l.canRestrict b g 1 (arg == 1)
  | _ =>
    let l := (l.setB (CAN_STAT b) CAN_STAT_COLL false).setF (CAN_CNT b) CAN_CNT_COLL_OVF 0
    (upTo 8).foldl (fun l k => (l.wr (CAN_COLL b k) 0#32).wr (CAN_COLLC b k) 0#32) l

/-- A lane at the effect boundary of a CAN command. -/
def Lane.canCmd (h : Shared) (b op m arg : Nat) (l : Lane) : Lane :=
  let st := l.canStatus b op m arg
  let l := l.setF (CAN_CMDST b) CAN_CMDST_STATUS st
  let busy := match (h.can b).sending with
    | some (.buf k) => k.val == m
    | _ => false
  if st = stDone then l.canEffect h.gt b op m arg busy else l.ev (evCanRefused b)
/-- Detection starts, or starts anew, on the buses on which it runs in the lane (R380). -/
def Shared.detResume (l : Lane) (h : Shared) : Shared :=
  [0, 1].foldl (fun h b => if l.on (CAN_STAT b) CAN_STAT_DETECT then h.detStart l b h.gt else h) h

/-- A CAN command at its effect boundary; DETECT starts the frame unit. -/
def State.canCmd (s : State) (b op m arg : Nat) : State :=
  let sh := if op = 3 ∧ s.lead.canStatus b op m arg = stDone then s.sh.detStart s.lead b s.sh.gt else s.sh
  ((s.both (Lane.canCmd s.sh b op m arg)).withSh sh).canSync
/-- LAST_OP and LAST_BUF of a write of CAN_CMD. -/
def Lane.canNote (b op m : Nat) (l : Lane) : Lane :=
  (l.setF (CAN_CMDST b) CAN_CMDST_LAST_OP op).setF (CAN_CMDST b) CAN_CMDST_LAST_BUF m
/-- A CAN command written and taking effect. -/
def State.canRow (s : State) (b op m arg : Nat) : State := (s.both (Lane.canNote b op m)).canCmd b op m arg

/-! ### Locks (R386, R387) -/

/-- The lock an accessor holds: bus, buffer, instant. -/
def Lane.lockOf (l : Lane) : Accessor → Option (Nat × Nat × Nat)
  | .host => l.lockHost
  | .cnp => l.lockCnp
def Lane.setLock (l : Lane) (a : Accessor) (x : Option (Nat × Nat × Nat)) : Lane :=
  match a with
  | .host => { l with lockHost := x }
  | .cnp => { l with lockCnp := x }
/-- Some accessor holds buffer `m` of bus `b`. -/
def Lane.heldBy (l : Lane) (b m : Nat) (a : Accessor) : Bool := (l.lockOf a).any (fun x => x.1 == b && x.2.1 == m)

/-- A buffer that no accessor holds any more takes its pending frame (R387). -/
def Lane.canFree (l : Lane) (b m : Nat) : Lane :=
  if l.heldBy b m .host || l.heldBy b m .cnp then l else
  let l := l.setBst b m (CAN_BST_LOCK.put 0 (l.rd (CAN_BST b m)))
  let w := l.can b
  match w.pend.find? (fun p => p.1 == m) with
  | none => l
  | some p =>
    let l := (l.setCan b { w with pend := w.pend.filter (fun p => p.1 != m) }).canPlace b m p.2
    l.setBst b m (CAN_BST_PEND.put 0 (CAN_BST_NEW.put 1 (l.rd (CAN_BST b m))))

/-- The lock of an accessor is released, NEW staying set. -/
def Lane.unlock (l : Lane) (a : Accessor) : Lane :=
  match l.lockOf a with
  | none => l
  | some x => (l.setLock a none).canFree x.1 x.2.1

/-- The buffer is a receive buffer in use. -/
def Lane.rxBuffer (l : Lane) (b m : Nat) : Bool :=
  l.on (CAN_BCFG b m) CAN_BCFG_EN && !l.on (CAN_BCFG b m) CAN_BCFG_DIR

/-- A read of word 0 of a receive buffer by an accessor at instant `t`. -/
def Lane.rxLock (a : Accessor) (b m t : Nat) (l : Lane) : Lane :=
  if !l.rxBuffer b m || l.heldBy b m a then l else
  let l := (l.unlock a).setLock a (some (b, m, t))
  l.setBst b m (CAN_BST_LOCK.put 1 (l.rd (CAN_BST b m)))

/-- The lock of lane `i`; an accessor holds at most one lock, whichever view it reads through. -/
def State.rxLock (a : Accessor) (i : LaneId) (b m t : Nat) (s : State) : State :=
  let l := s.lane i
  if !l.rxBuffer b m || l.heldBy b m a then s else (s.upd i.other (Lane.unlock · a)).upd i (Lane.rxLock a b m t)

/-- The last valid word of the frame a buffer shows. -/
def Lane.lastValid (l : Lane) (b m : Nat) : Nat :=
  let w := (l.rd (CAN_BW b m 1)).toNat
  lastWord (dlcBytes ((w / 16) % 2 == 1) (w % 16))

/-- A read of the last valid word of the locked frame. -/
def Lane.rxRelease (a : Accessor) (b m : Nat) (l : Lane) : Lane :=
  if !l.heldBy b m a then l else
  let l := l.setBst b m (CAN_BST_NEW.put 0 (CAN_BST_OVR.put 0 (l.rd (CAN_BST b m))))
  l.unlock a

/-- The lock of lane `i` is released by its accessor, with the copy of it that a state transfer has given the other lane. -/
def State.rxRelease (a : Accessor) (i : LaneId) (b m : Nat) (s : State) : State :=
  if !(s.lane i).heldBy b m a then s else (s.upd i (Lane.rxRelease a b m)).upd i.other (Lane.rxRelease a b m)

/-- A lock that has been held for 1 ms at instant `t` is released. -/
def Lane.lockTimeout (a : Accessor) (t : Nat) (l : Lane) : Lane :=
  match l.lockOf a with
  | some x => if x.2.2 + 1000000 ≤ t then (l.bump (CAN_BST x.1 x.2.1) CAN_BST_LOCKTO).unlock a else l
  | none => l

/-- The controllers of a lane after firing: counters since firing, rates, detection (R380, R406). -/
def Lane.canFire (l : Lane) (b : Nat) : Lane :=
  let c := l.rd (CAN_CFG b)
  let st := CAN_STAT_NRATE_IN.put (CAN_CFG_NRATE.get c) (CAN_STAT_DRATE_IN.put (CAN_CFG_DRATE.get c) 0#32)
  let st := CAN_STAT_DETECT.put (CAN_CFG_BRMODE.get c * CAN_CFG_BUS_EN.get c) st
  let l := ((l.wr (CAN_STAT b) st).wr (CAN_ERRC b) 0#32).wr (CAN_CNT b) 0#32
  l.setCan b { refAge := 2, cut := (l.can b).cut }

/-! ### Meanings -/

/-- ALONE_CHANGE (R394). -/
def execAloneChange (bus : Bus) (s : State) : Res := .next (s.both (Lane.canAlone s.sh.gt · bus.num))
/-- BUS_OFF_RECOVERY (R395): 128 occurrences of 11 recessive bits have been seen; the lanes take it in their next cut. -/
def execBusOffRecovery (bus : Bus) (s : State) : Res :=
  .next (if 255 < (s.sh.can bus.num).tec
    then s.withSh (s.sh.setCan bus.num { s.sh.can bus.num with recov := true, tec := 0, rxc := 0 }) else s)
/-- RATE_DETECT_STEP (R381): 25 ms at a nominal rate have passed without a frame received. -/
def execRateDetectStep (bus : Bus) (t : Nat) (s : State) : Res :=
  let w := s.sh.can bus.num
  let now := s.sh.gt + t
  let rs := ratesOf (s.lead.fld (CAN_CFG2 bus.num) CAN_CFG2_NMASK) 4
  .next (if w.det.step = 1 ∧ w.det.since + 25000000 ≤ now
    then s.withSh (s.sh.setCan bus.num { w with det := { w.det with rate := nextRate rs w.det.rate, since := now } }) else s)
/-- CAN_NORMAL_ENTRY (R381): 11 consecutive recessive bits after detection. -/
def execCanNormalEntry (bus : Bus) (s : State) : Res :=
  .next (s.taking (fun l =>
    let l := l.setCan bus.num { l.can bus.num with normalDue := false }
    let mode := l.fld (CAN_LOCAL bus.num) CAN_LOCAL_OWNMODE
    if s.sh.auth == some l.id && mode == 1 then
      l.setF (CAN_LOCAL bus.num) CAN_LOCAL_OWNMODE (if l.on (CAN_STAT bus.num) CAN_STAT_RESTR then 3 else 2)
    else l))
/-- LONE_ERROR_WINDOW (R399). -/
def execLoneErrorWindow (bus : Bus) (s : State) : Res := .next (s.both (Lane.loneWindow bus.num s.sh.gt))
/-- RX_BUFFER_LOCK (R386) in the host view of a lane. -/
def execRxBufferLock (lane : LaneId) (acc : Accessor) (bus : Bus) (m : Fin 128) (t : Nat) (s : State) : Res :=
  .next (s.rxLock acc lane bus.num m (s.sh.gt + t))
/-- RX_BUFFER_RELEASE (R386). -/
def execRxBufferRelease (lane : LaneId) (acc : Accessor) (bus : Bus) (m : Fin 128) (s : State) : Res :=
  .next (s.rxRelease acc lane bus.num m)
/-- LOCK_TIMEOUT (R386). -/
def execLockTimeout (lane : LaneId) (acc : Accessor) (t : Nat) (s : State) : Res :=
  .next (s.upd lane (Lane.lockTimeout acc (s.sh.gt + t)))
/-- TX_REQ (R389, R404). -/
def execTxReq (bus : Bus) (m : BitVec 7) (arg : BitVec 8) (s : State) : Res := .next (s.canRow bus.num 1 m.toNat arg.toNat)
/-- TX_CANCEL (R404). -/
def execTxCancel (bus : Bus) (m : BitVec 7) (arg : BitVec 8) (s : State) : Res := .next (s.canRow bus.num 2 m.toNat arg.toNat)
/-- DETECT (R380, R404). -/
def execDetect (bus : Bus) (m : BitVec 7) (arg : BitVec 8) (s : State) : Res := .next (s.canRow bus.num 3 m.toNat arg.toNat)
/-- RESTRICT (R397, R399, R404). -/
def execRestrict (bus : Bus) (m : BitVec 7) (arg : BitVec 8) (s : State) : Res := .next (s.canRow bus.num 4 m.toNat arg.toNat)
/-- CLR_COLL (R404). -/
def execClrColl (bus : Bus) (m : BitVec 7) (arg : BitVec 8) (s : State) : Res := .next (s.canRow bus.num 5 m.toNat arg.toNat)

end Sys2Proof.Machine
end

