-- ==== Sys2Proof/Machine/Time.lean ====
section
/-! DEFINITION. Global time, its discipline and masters, the schedule matrix, value frames and remote value slots
(spec/13, R407–R429). -/

namespace Sys2Proof.Machine

/-! ### CNP identifiers and references (R410, R412, R424) -/

def cnpPrio (id : BitVec 29) : Nat := id.toNat / 2 ^ 26
def cnpClass (id : BitVec 29) : Nat := id.toNat / 2 ^ 20 % 64
def cnpNode (id : BitVec 29) : Nat := id.toNat / 2 ^ 13 % 128
def cnpObj (id : BitVec 29) : Nat := id.toNat % 2 ^ 13
/-- An identifier from its fields. -/
def cnpId (prio cls node obj : Nat) : Nat := prio * 2 ^ 26 + cls * 2 ^ 20 + node * 2 ^ 13 + obj

/-- A valid reference (R412): priority and address of its sender, epoch number, start of frame. -/
structure RefMsg where
  p : Nat
  node : Nat
  ep : Nat
  sof : Nat
  deriving DecidableEq, Repr

/-- The node address in force (R425). -/
def Lane.nodeAddr (l : Lane) : Nat := l.fld TIME_ST TIME_ST_NADDR

/-- The valid reference a report carries, if any. -/
def Lane.refOf (l : Lane) (x : CanIn) : Option RefMsg :=
  let f := x.rep.frame
  let d := frameBytes f
  let ep := leNat (d.take 6)
  if x.rep.ok && x.rep.tx.isNone && f.ide && f.fdf && f.brs && d.length == 8 && cnpClass f.id == 0
    && (d.getD 6 0#8).toNat == ep % 64 && cnpNode f.id != l.nodeAddr
  then some { p := cnpPrio f.id, node := cnpNode f.id, ep := ep, sof := x.sof } else none

/-- Fields that exist once per bus. -/
def fldMaster (b : Nat) : Fld := if b = 0 then TIME_ST_MASTER1 else TIME_ST_MASTER2
def fldCurm (b : Nat) : Fld := if b = 0 then TIME_ST_CURM1 else TIME_ST_CURM2
def fldMiss (b : Nat) : Fld := if b = 0 then TIME_MISS_MISS1 else TIME_MISS_MISS2

/-- A record of R435 with its event. -/
def Lane.timeRec (l : Lane) (code g bus : Nat) (p1 p2 p3 : Word) : Lane := (l.record code g (w32 bus) p1 p2 p3).ev evTime

/-- The bus runs the time-triggered schedule (R422). -/
def Lane.ttEn (l : Lane) (b : Nat) : Bool := l.on (SCH_CFG b) SCH_CFG_TT_EN

/-- The current master of a bus changes (R412, R413, R435). -/
def Lane.setMaster (l : Lane) (g b node prio : Nat) (own : Bool) : Lane :=
  let was := l.fld TIME_ST (fldCurm b)
  let l := (l.setB TIME_ST (fldMaster b) own).setF TIME_ST (fldCurm b) node
  if was = node then l else l.timeRec 0x0A02 g (b + 1) (w32 node) (w32 prio) (w32 (b2n own))

/-- A valid reference decides the master of a bus (R413). -/
def Lane.refMaster (g b : Nat) (l : Lane) (r : RefMsg) : Lane :=
  let p := l.fld TIME_CFG TIME_CFG_MPRIO
  if l.on TIME_ST (fldMaster b) && (p < r.p || (p == r.p && l.nodeAddr < r.node)) then l
  else l.setMaster g b r.node r.p false

/-- MISS and mastership of a bus from the references of the cut (R412–R414). -/
def Lane.busTime (g b : Nat) (rs : List RefMsg) (l : Lane) : Lane :=
  if !l.ttEn b then l else
  let w := l.can b
  let got := !rs.isEmpty
  let l := l.setCan b { w with refAge := if got then 0 else min 2 (w.refAge + 1) }
  let l := if got then l.setF TIME_MISS (fldMiss b) 0 else l.bump TIME_MISS (fldMiss b)
  rs.foldl (Lane.refMaster g b) l

/-- A potential master takes over (R412). -/
def Lane.takeover (g : Nat) (l : Lane) (b : Nat) : Lane :=
  let c := l.rd TIME_CFG
  if l.ttEn b && TIME_CFG_MPOT.on c && !l.on TIME_ST (fldMaster b)
    && TIME_CFG_MPRIO.get c + 3 ≤ l.fld TIME_MISS (fldMiss b)
  then l.setMaster g b l.nodeAddr (TIME_CFG_MPRIO.get c) true else l

/-- The time source (R414): 0 none, 1 Bus 1, 2 Bus 2. -/
def Lane.timeSrc (l : Lane) : Nat :=
  let ok (b : Nat) : Bool := l.ttEn b && ((l.can b).refAge ≤ 1 || l.on TIME_ST (fldMaster b))
  if ok 0 then 1 else if ok 1 then 2 else 0

/-! ### Discipline (R414–R417) -/

/-- A signed number in 32 bits, saturating. -/
def sat32 (e : Int) : Word := BitVec.ofInt 32 (max (-2147483648) (min 2147483647 e))

/-- SYNC takes a value (R416, R435). -/
def Lane.setSync (l : Lane) (g : Nat) (v : Bool) (e : Int) : Lane :=
  if l.on TIME_ST TIME_ST_SYNC == v then l else
  (l.setB TIME_ST TIME_ST_SYNC v).timeRec 0x0A01 g 0 (w32 (b2n v)) (sat32 e) (w32 (l.fld TIME_ST TIME_ST_SRC))
/-- FAR takes a value (R417, R435). -/
def Lane.setFar (l : Lane) (g : Nat) (v : Bool) (e : Int) : Lane :=
  if l.on TIME_ST TIME_ST_FAR == v then l else
  (l.setB TIME_ST TIME_ST_FAR v).timeRec 0x0A04 g 0 (w32 (b2n v)) (sat32 e) 0#32

/-- A result in signed 64-bit arithmetic. -/
def s64 (x : Int) : Int := (BitVec.ofInt 64 x).toInt

/-- One reference used (R414), in signed 64-bit integers. `auth`: a lane holds output authority. -/
def Lane.refUse (auth : Bool) (g b : Nat) (l : Lane) (r : RefMsg) : Lane :=
  let tdel := l.fld TIME_CFG TIME_CFG_TDEL
  let e : Int := s64 ((r.sof : Int) - (r.ep * 1000000 + l.fld (SCH_COL b 0) SCH_COL_START * 1000) - tdel * 10)
  let w := l.time
  let l := (l.wr TIME_ERR (sat32 e)).wrap TIME_MISS TIME_MISS_USED
  let l :=
    if !auth && (10000 < e.natAbs || !w.everUsed) then
      { l with time := { w with step := some (s64 (-e)), prevValid := false, ePrev := e, everUsed := true } }
    else if 1000000 < e.natAbs then
      { l.setFar g true e with time := { w with prevValid := false, ePrev := e, everUsed := true } }
    else
      let df : Int := if w.prevValid then s64 (e - w.ePrev) else 0
      let corr : Int := max (-21474836) (min 21474836 (s64 ((l.rd TIME_CORR).toInt - df * 21475 - e * 671)))
      let l := (l.setFar g false e).wr TIME_CORR (BitVec.ofInt 32 corr)
      { l with time := { w with prevValid := true, ePrev := e, everUsed := true } }
  if e.natAbs ≤ 2000 then l.setSync g true e else if 5000 < e.natAbs then l.setSync g false e else l

/-- SYNC clears after 8 basic cycles without a source (R416). -/
def Lane.syncLoss (g : Nat) (l : Lane) : Lane := if 8 ≤ l.time.noSrc then l.setSync g false l.time.ePrev else l

/-- Phase 3: time from the reports of the cut, per bus (R408). -/
def Lane.timeTake (auth : Bool) (g : Nat) (xs : Nat → List CanIn) (l : Lane) : Lane :=
  let refs (b : Nat) : List RefMsg := (xs b).filterMap l.refOf
  let l := (l.busTime g 0 (refs 0)).busTime g 1 (refs 1)
  let l := (l.takeover g 0).takeover g 1
  let src := l.timeSrc
  let l := l.setF TIME_ST TIME_ST_SRC src
  let noSrc := if src = 0 then l.time.noSrc + 1 else 0
  let l := { l with time := { l.time with noSrc := noSrc } }
  let b := src - 1
  let l :=
    if src = 0 then { l with time := { l.time with prevValid := false } }
    else if l.on TIME_ST (fldMaster b) then { l.setSync g true 0 with time := { l.time with prevValid := false } }
    else
      let rs := refs b
      if rs.isEmpty then { l with time := { l.time with prevValid := false } } else rs.foldl (Lane.refUse auth g b) l
  l.syncLoss g

/-! ### The schedule matrix (R419–R421) -/

/-- The cycle number of an epoch (R419). -/
def cycleOf (g : Nat) : Nat := g / 1000000 % 64

/-- The enabled columns with their starts. -/
def Lane.columns (l : Lane) (b : Nat) : List (Nat × Nat) :=
  (upTo 64).filterMap (fun c =>
    let w := l.rd (SCH_COL b c)
    if SCH_COL_EN.on w then some (c, SCH_COL_START.get w) else none)
/-- The end of the window of a column in µs (R419). -/
def Lane.windowEnd (l : Lane) (b start : Nat) : Nat :=
  let cs := l.columns b
  match cs.find? (fun x => start < x.2) with
  | some x => x.2
  | none => 1000 + l.fld (SCH_COL b 0) SCH_COL_START
/-- The trigger that applies to a column in a cycle (R420): kind and buffer. -/
def Lane.trigger (l : Lane) (b c k : Nat) : Option (Nat × Nat) :=
  ((upTo 256).find? (fun t =>
    let w := l.rd (SCH_TRIG b t)
    SCH_TRIG_KIND.get w != 0 && SCH_TRIG_COL.get w == c && k % 2 ^ SCH_TRIG_REP.get w == SCH_TRIG_BASE.get w)).map
    (fun t => (l.fld (SCH_TRIG b t) SCH_TRIG_KIND, l.fld (SCH_TRIG b t) SCH_TRIG_BUF))
/-- The columns of a cycle with their starts and triggers. -/
def Lane.cycleCols (l : Lane) (b k : Nat) : List (Nat × Option (Nat × Nat)) :=
  (l.columns b).map (fun x => (x.2, l.trigger b x.1 k))

/-- The slots of a cycle: buffer, start and end in µs. -/
def Lane.slotsOf (l : Lane) (b k : Nat) : List (Nat × Nat × Nat) :=
  (l.cycleCols b k).filterMap (fun x => match x.2 with
    | some (1, m) => some (m, x.1, l.windowEnd b x.1)
    | _ => none)

/-- The end in µs of the arbitrating window that holds instant `us` of the epoch with cycle `k` (R420); consecutive
arbitrating columns form one window. -/
def Lane.arbEnd (l : Lane) (b k us : Nat) : Option Nat :=
  let ref := l.fld (SCH_COL b 0) SCH_COL_START
  let kk := if us < ref then (k + 63) % 64 else k
  let t := if us < ref then us + 1000 else us
  let arb := ((l.cycleCols b kk).filter (fun x => x.2.any (fun y => y.1 == 2))).map (fun x => (x.1, l.windowEnd b x.1))
  let run (e : Nat) : Nat := arb.foldl (fun e x => if x.1 = e then x.2 else e) e
  (arb.find? (fun x => x.1 ≤ t && t < x.2)).map (fun x => if us < ref then run x.2 - 1000 else run x.2)

/-- Some column of cycle `k` has an arbitrating trigger (R420). -/
def Lane.arbWindows (l : Lane) (b k : Nat) : Bool := (l.cycleCols b k).any (fun x => x.2.any (fun y => y.1 == 2))

/-- Nominal and data bit times in ns (R378). -/
def nomBit (rate : Nat) : Nat := [8000, 4000, 2000, 1000].getD rate 8000
def dataBit (rate : Nat) : Nat := [1000, 500, 250, 200, 125].getD rate 1000

/-- The worst-case length of a frame in ns, with every stuff bit the format allows and intermission (R421). -/
def frameLen (ide fdf brs : Bool) (n nrate drate : Nat) : Nat :=
  let tn := nomBit nrate
  let td := if brs then dataBit drate else tn
  if fdf then
    let head := if ide then 36 else 17
    let body := 5 + 8 * n
    let s0 := (head - 1) / 4
    let s1 := (head + body - 1) / 4 - s0
    let crc := if n ≤ 16 then 27 else 32
    (head + s0 + 13) * tn + (body + s1 + crc) * td
  else
    let bits := (if ide then 54 else 34) + 8 * n
    (bits + (bits - 1) / 4 + 13) * tn

/-- The worst-case length of what a transmit buffer sends. -/
def Lane.bufLen (l : Lane) (b m : Nat) : Nat :=
  let c := l.rd (CAN_BCFG b m)
  let dlc := (l.rd (CAN_BW b m 1)).toNat % 16
  let fdf := CAN_BCFG_FDF.on c
  frameLen (CAN_BCFG_IDE.on c) fdf (CAN_BCFG_BRS.on c) (dlcBytes fdf dlc) (l.fld (CAN_STAT b) CAN_STAT_NRATE_IN)
    (l.fld (CAN_STAT b) CAN_STAT_DRATE_IN)

/-! ### Value frames (R426–R428) -/

/-- The smallest DLC that holds `n` bytes. -/
def dlcFor (n : Nat) : Nat := if n ≤ 8 then n else ([12, 16, 20, 24, 32, 48, 64].findIdx (fun k => n ≤ k)) + 9

/-- A CNP frame in FD format with BRS. -/
def cnpFrame (id : Nat) (data : List Byte) : CanFrame :=
  { id := BitVec.ofNat 29 id, ide := true, rtr := false, fdf := true, brs := true, esi := false,
    dlc := BitVec.ofNat 4 (dlcFor data.length), data := data }

/-- An item of a value frame with its quality. -/
def Lane.cnpItem (l : Lane) (i : Nat) : Word × Bool :=
  let c := l.rd (CNP_ITEM i)
  if CNP_ITEM_KIND.get c = 10 then (l.rd ALM_SUMST, false)
  else l.source (fun p => (l.pts.at {} p).on) false (CNP_ITEM_KIND.get c) (CNP_ITEM_INDEX.get c) (CNP_ITEM_SUB.get c)

/-- The data of a transmit object in the epoch opened at `g`. -/
def Lane.valueData (l : Lane) (g k : Nat) : List Byte :=
  let c := l.rd (CNP_TXO k)
  let n := CNP_TXO_N.get c
  let items := (upTo n).map (fun i => l.cnpItem (CNP_TXO_FIRST.get c + i))
  let bad := (items.zipIdx).foldl (fun a x => if x.1.2 then a + 2 ^ x.2 else a) 0
  BitVec.ofNat 8 n :: BitVec.ofNat 8 (g / 1000000 % 256) :: leBytes 2 bad ++ wordsBytes (items.map (·.1))

/-- A transmit buffer filled with data (schedule-owned). -/
def Lane.txFill (l : Lane) (b m : Nat) (data : List Byte) : Lane :=
  let c := l.rd (CAN_BCFG b m)
  let ident := BitVec.ofNat 29 (l.fld (CAN_BID b m) CAN_BID_VALUE)
  let f : CanFrame := ⟨ident, CAN_BCFG_IDE.on c, false, CAN_BCFG_FDF.on c, CAN_BCFG_BRS.on c, false,
    BitVec.ofNat 4 (dlcFor data.length), data⟩
  (upTo 18).foldl (fun l i => l.wr (CAN_BW b m i) ((frameWords f).getD i 0#32)) l

/-- Phase 6 for one slot of the next epoch: a class 0x01 buffer takes its object; TXP is set (R389, R427). -/
def Lane.slotForm (g b : Nat) (l : Lane) (s : Nat × Nat × Nat) : Lane :=
  let m := s.1
  let id := BitVec.ofNat 29 (l.fld (CAN_BID b m) CAN_BID_VALUE)
  let obj := (upTo 32).find? (fun k => l.on (CNP_TXO k) CNP_TXO_EN && l.fld (CNP_TXO k) CNP_TXO_OBJ == cnpObj id)
  let l := match obj with
    | some k => if cnpClass id = 1 && l.on (CAN_BCFG b m) CAN_BCFG_IDE then l.txFill b m (l.valueData g k) else l
    | none => l
  l.setBst b m (CAN_BST_TXP.put 1 (l.rd (CAN_BST b m)))

/-- The reference of the basic cycle that opens at `next` (R410). -/
def Lane.reference (l : Lane) (next : Nat) : CanFrame :=
  let e := next / 1000000
  cnpFrame (cnpId (l.fld TIME_CFG TIME_CFG_MPRIO) 0 l.nodeAddr 0) (leBytes 6 e ++ [BitVec.ofNat 8 (e % 64), 0#8])

/-- Phase 6 of a bus: frames and reference for the epoch that opens at `next` (R389, R411). -/
def Lane.schedForm (g next : Nat) (l : Lane) (b : Nat) : Lane :=
  if !l.ttEn b then l else
  let ss := l.slotsOf b (cycleOf next)
  let l := ss.foldl (Lane.slotForm g b) l
  l.setCan b { l.can b with staged := ss, refStaged := if l.on TIME_ST (fldMaster b) then some (l.reference next) else none }

/-- A slot whose window runs on into the next epoch, as that epoch sees it: its start, 0, has passed (R419). -/
def slotOn (s : Nat × Nat × Nat) : Nat × Nat × Nat := (s.1, 0, s.2.2 - 1000)

/-- The slots of the epoch that has ended and that were not started: one whose window runs on stays, the others fail (R390, R391,
R418, R421), in bus-off (`off`) with its own cause (R395); the staged ones follow. -/
def Lane.slotsEnd (h : Shared) (off : Bool) (g : Nat) (l : Lane) (b : Nat) : Lane :=
  let w := l.can b
  let left := w.slots.filter (fun s => !(h.can b).started.contains (s.1, s.2.1))
  let l := (left.filter (fun s => s.2.2 ≤ 1000)).foldl (fun l s =>
    if off then l.txFail b s.1 5 g else l.notSent b s.1 g) l
  let l := l.setCan b { l.can b with slots := (left.filter (fun s => 1000 < s.2.2)).map slotOn ++ w.staged, staged := [] }
  l.setF (SCH_ST b) SCH_ST_CYCLE (cycleOf g)

/-! ### Remote value slots (R429) -/

def Lane.slotW (l : Lane) (s : Nat) : SlotWork := l.slots.at {} s
/-- A frame carries the object of slot `s`. -/
def Lane.slotFrame (l : Lane) (c : Word) (b : Nat) (x : CanIn) : Bool :=
  let f := x.rep.frame
  x.rep.ok && x.rep.tx.isNone && f.ide && cnpClass f.id == 1 && cnpNode f.id == CNP_RXCFG_NODE.get c
    && cnpObj f.id == CNP_RXCFG_OBJ.get c && (l.canMatch b f).isSome

/-- Validity and ONEBUS of slot `s` at boundary `g`. -/
def Lane.slotCheck (g : Nat) (l : Lane) (s : Nat) : Lane :=
  let c := l.rd (CNP_RXCFG s)
  let w := l.slotW s
  let age := CNP_RXCFG_TOUT.get c * 10000000
  let recent (t : Option Nat) : Bool := t.any (fun t => g ≤ t + age)
  let valid := CNP_RXCFG_EN.on c && recent w.eof && CNP_RXCFG_ITEM.get c < w.n && !w.bad
  let one := CNP_RXCFG_EN.on c && recent w.arr1 != recent w.arr2
  let put (k : Nat) (v : Bool) (l : Lane) : Lane :=
    l.wr k (if v then l.rd k ||| (1#32 <<< (s % 32)) else l.rd k &&& ~~~(1#32 <<< (s % 32)))
  put (CNP_RXONE (s / 32)) one (put (CNP_RXVLD (s / 32)) valid l)

/-- Slot `s` takes the newest frame of its object in the cut. -/
def Lane.slotTake (g : Nat) (xs : Nat → List CanIn) (l : Lane) (s : Nat) : Lane :=
  let c := l.rd (CNP_RXCFG s)
  if !CNP_RXCFG_EN.on c then l else
  let newest (b : Nat) : Option CanIn := ((xs b).filter (l.slotFrame c b)).getLast?
  let f1 := newest 0
  let f2 := newest 1
  let w := l.slotW s
  let w := { w with arr1 := (f1.map (·.eof)).or w.arr1, arr2 := (f2.map (·.eof)).or w.arr2 }
  let best := match f1, f2 with
    | some x, some y => some (if x.eof < y.eof then y else x)
    | some x, none => some x
    | none, y => y
  let item := CNP_RXCFG_ITEM.get c
  let l := match best with
    | none => { l with slots := l.slots.upd {} s w }
    | some x =>
      let d := frameBytes x.rep.frame
      let w := { w with eof := some x.eof, n := (d.getD 0 0#8).toNat, bad := leNat ((d.drop 2).take 2) / 2 ^ item % 2 == 1 }
      { l with slots := l.slots.upd {} s w }.wr (CNP_RXVAL s) (w32 (leNat (((d ++ List.replicate 64 0#8).drop (4 + 4 * item)).take 4)))
  l.slotCheck g s

/-! ### Phase 3 of both buses -/

/-- The reports of a bus that belong to the cut of boundary `g`, in order of end of frame. -/
def Lane.canCut (l : Lane) (g b : Nat) : List CanIn := sortBy (·.eof) ((l.can b).cut.filter (fun x => x.eof ≤ g))

/-- CAN and time in phase 3 of the epoch opened at `g`. -/
def Lane.canTake (h : Shared) (g : Nat) (l : Lane) : Lane :=
  let c0 := l.canCut g 0
  let c1 := l.canCut g 1
  let xs (b : Nat) : List CanIn := if b = 0 then c0 else c1
  let one (l : Lane) (b : Nat) : Lane :=
    let l := l.setCan b { l.can b with cut := (l.can b).cut.filter (fun x => g < x.eof) }
    let was := l.fld (CAN_STAT b) CAN_STAT_ESTATE = 2
    let l := if (h.can b).recov then l.canRecovered b g else l
    let l := (xs b).foldl (Lane.canReport b) l
    let off := was || l.fld (CAN_STAT b) CAN_STAT_ESTATE = 2
    let d := (h.can b).det
    let l := if d.step = 3 then l.canAdopt b d.sof d.nrate d.rate else l
    ((l.loneWindow b g).detFail b g (!l.ttEn b || (l.arbWindows b (cycleOf (g - 1000000))))).slotsEnd h off g b
  let l := one (one l 0) 1
  let l := l.timeTake h.auth.isSome g xs
  (upTo 256).foldl (Lane.slotTake g xs) l

/-- The frame units when an epoch opens: what the lanes have taken is done. -/
def Shared.canOpen (h : Shared) : Shared :=
  [0, 1].foldl (fun h b =>
    let w := h.can b
    h.setCan b { w with started := [], ended := [], recov := false, refDone := false,
                        det := if w.det.step = 3 then {} else w.det }) h

/-! ### A report arrives (R374–R376) -/

/-- The controller with output authority takes part in the traffic of the bus: it counts errors (R393). -/
def Shared.counts (h : Shared) (l : Lane) (b : Nat) : Bool :=
  let m := l.ownMode true (h.canLive l b) b
  h.auth.isSome && (m == 2 || m == 3)
/-- A request of host software is over with its report: it succeeded, or it is not repeated (R390). -/
def Lane.reqOver (l : Lane) (b m : Nat) (ok : Bool) : Bool :=
  l.hostOwned b m && (ok || l.on (CAN_BCFG b m) CAN_BCFG_ONESHOT || (l.can b).cancel == some m)
/-- The frame unit's own part of a report: detection, the error counters, and the end of the node's transmission. -/
def Shared.canReport (l : Lane) (b sof : Nat) (f : FrameRep) (h : Shared) : Shared :=
  let w := h.can b
  let n := h.counts l b
  let ended := match f.tx with
    | some (.buf m) => if l.reqOver b m f.ok then m.val :: w.ended else w.ended
    | _ => w.ended
  h.setCan b { w with
    det := w.det.report l b sof f, sending := if f.tx.isSome then none else w.sending, ended := ended
    tec := if n then tecAfter f w.tec w.rxc else w.tec, rxc := if n then rxcAfter f (l.on (CAN_STAT b) CAN_STAT_RESTR) w.tec w.rxc else w.rxc }

/-- An instant in the frame unit's steps of 10 ns (R375). DESIGN CHOICE (log 77): an instant between two steps takes the later. -/
def canStep (t : Nat) : Nat := (t + 9) / 10 * 10

/-- OWN_REC of a lane after a report (R393): REC of the controller with output authority, `rxc`; a listen-only one counts the errors it
finds. -/
def Lane.ownRec (counts : Bool) (auth : Option LaneId) (b rxc : Nat) (f : FrameRep) (l : Lane) : Nat :=
  let own := l.fld (CAN_LOCAL b) CAN_LOCAL_OWN_REC
  let bad := if auth.isNone || auth == some l.id then !f.ok else f.peerErr
  if auth == some l.id && counts then rxc else if bad then min 255 (own + 1) else if f.ok then recFall own else own

/-- A report enters the cuts of the lanes, unless its cut has been taken (R35); each lane's own counters follow. The loop delay is
measured by the controller that transmitted, at data rates of 2 Mbit/s and above (R379). -/
def State.canIn (s : State) (b : Nat) (f : FrameRep) : State :=
  let eof := canStep (s.sh.gt + f.t)
  let sof := canStep (s.sh.gt + f.t - f.len)
  let h := s.sh.canReport s.lead b sof f
  let x : CanIn := { rep := f, sof := sof, eof := eof, tec := (h.can b).tec, rxc := (h.can b).rxc }
  let sender := (s.sh.can b).sender
  let put (l : Lane) : Lane :=
    let l := l.setF (CAN_LOCAL b) CAN_LOCAL_OWN_REC (l.ownRec (s.sh.counts s.lead b) s.sh.auth b x.rxc f)
    let l := if f.tx.isSome && f.frame.fdf && f.frame.brs && l.fld (CAN_STAT b) CAN_STAT_DRATE_IN != 0 && sender == some l.id
      then l.setF (CAN_LOCAL b) CAN_LOCAL_TDCV f.tdcv.toNat else l
    if s.sh.gt < eof then
      let l := l.setCan b { l.can b with cut := (l.can b).cut ++ [x] }
      if f.ok && f.tx == some .own then l.ownMark b else l
    else l
  (s.taking put).withSh h

/-- The report of a frame of another node that both controllers receive without error. -/
def goodRx (f : CanFrame) (t len : Nat) : FrameRep :=
  { frame := f, tx := none, ok := true, cause := 0#3, coll := false, steps := 0#5, quiet := false, peerErr := false, t := t, len := len,
    tdcv := 0#6 }

/-! ### Starts (R389, R411, R418, R421) -/

/-- The node may start a frame on a bus at all: authority, no hold, a mode that drives the bus, not in bus-off (R395), a legal address,
and no frame of its own in progress. -/
def State.mayStart (s : State) (b : Nat) : Bool :=
  s.sh.counts s.lead b && !s.sh.hold && decide ((s.sh.can b).tec ≤ 255) && !s.lead.on TIME_ST TIME_ST_NADDR_BAD
    && (s.sh.can b).sending.isNone

/-- A frame the node has formed itself may go out under the ledger: while C2 is reduced no event message starts, and at
most one response per bus in 10 epochs (R625). -/
def State.ownOpen (s : State) (b : Nat) (f : OwnFrame) : Bool :=
  if !s.lead.on PWR_LST PWR_LST_C2RED then true else
  match f.kind with
  | 0 => false
  | 1 => match (s.sh.can b).respAt with
    | some t => decide (t + 10000000 ≤ s.sh.gt)
    | none => true
  | _ => true
/-- The order of a frame the node has formed itself among the requests of a bus (R389, R555). -/
def OwnFrame.order (f : OwnFrame) : Nat := f.id / 2 ^ 18 * 2 ^ 19 + 2 ^ 18 + f.id % 2 ^ 18
/-- The frame of its own that the node offers next on a bus: the lowest identifier of those not sent yet. -/
def State.ownPick (s : State) (b : Nat) : Option OwnFrame :=
  (sortBy OwnFrame.order (((s.lead.can b).own).filter (fun f => !f.sent && s.ownOpen b f))).head?

/-- The order of pending host requests (R389). -/
def Lane.txOrder (l : Lane) (b m : Nat) : Nat :=
  let id := l.fld (CAN_BID b m) CAN_BID_VALUE
  id / 2 ^ 18 * 2 ^ 19 + l.fld (CAN_BCFG b m) CAN_BCFG_IDE * 2 ^ 18 + id % 2 ^ 18
/-- A request of host software is pending: its report, if it is over, may still wait for the cut. -/
def State.hostReq (s : State) (b m : Nat) : Bool :=
  s.lead.hostOwned b m && s.lead.on (CAN_BST b m) CAN_BST_TXP && !(s.sh.can b).ended.contains m
/-- No pending host request goes before the one of buffer `m`. -/
def State.txFirst (s : State) (b m : Nat) : Bool :=
  let l := s.lead
  !(upTo 128).any (fun k => k != m && s.hostReq b k
    && (l.txOrder b k < l.txOrder b m || (l.txOrder b k == l.txOrder b m && k < m)))

/-- A frame of worst-case length `len` ns may start in an arbitrating window at `t` ns after boundary `g`. -/
def Lane.arbFits (l : Lane) (b g t len : Nat) : Bool :=
  if !l.ttEn b then true
  else l.on TIME_ST TIME_ST_SYNC && (match l.arbEnd b (cycleOf g) (t / 1000) with
    | some e => t + len < e * 1000
    | none => false)

/-- The slot of buffer `m` that may start `t` ns after the newest boundary: at its START, or later where its worst-case end lies
before the end of its window (R421). -/
def State.slotAt (s : State) (b m t : Nat) : Option (Nat × Nat × Nat) :=
  let l := s.lead
  (l.can b).slots.find? (fun x => x.1 == m && !(s.sh.can b).started.contains (m, x.2.1) && decide (x.2.1 * 1000 ≤ t)
    && ((x.2.1 != 0 && t == x.2.1 * 1000) || decide (t + l.bufLen b m < x.2.2 * 1000)))

/-- Buffer `m` may start `t` ns after the newest boundary. -/
def State.bufMay (s : State) (b m t : Nat) : Bool :=
  let l := s.lead
  if l.hostOwned b m then
    s.hostReq b m && s.txFirst b m && l.arbFits b s.sh.gt t (l.bufLen b m)
      && (match s.ownPick b with
          | some f => decide (l.txOrder b m ≤ f.order)
          | none => true)
  else l.on TIME_ST TIME_ST_SYNC && (s.slotAt b m t).isSome

/-- A frame the node has formed itself as it goes out: responses are FD frames with bit-rate switch, event messages and beacons classical
frames; in bisque mode every frame is classical and its DLC gives 8 bytes at most (R383, R430, R524, R525, R553; log 105). -/
def OwnFrame.onBus (bisque : Bool) (f : OwnFrame) : CanFrame :=
  let fd := f.kind == 1 && !bisque
  let x := cnpFrame f.id f.data
  { x with fdf := fd, brs := fd, data := f.data.take (dlcBytes fd x.dlc.toNat) }

/-- A frame the node has formed itself may start. -/
def State.ownMay (s : State) (b t : Nat) : Bool :=
  let l := s.lead
  match s.ownPick b with
  | none => false
  | some f =>
    let x := f.onBus s.sh.bisque
    let len := frameLen true x.fdf x.brs (dlcBytes x.fdf x.dlc.toNat) (l.fld (CAN_STAT b) CAN_STAT_NRATE_IN)
      (l.fld (CAN_STAT b) CAN_STAT_DRATE_IN)
    s.sh.bisque || (l.arbFits b s.sh.gt t len && !(upTo 128).any (fun m =>
      s.hostReq b m && decide (l.txOrder b m < f.order)))

/-- The frame of its own that starts moves to the head of a lane's queue. -/
def Lane.ownFront (b : Nat) (f : OwnFrame) (l : Lane) : Lane :=
  let w := l.can b
  l.setCan b { w with own := f :: w.own.erase f }

/-- A transmission begins `t` ns after the newest boundary: the frame unit notes it with the lane whose controller sends, and the slot
that it fills. -/
def State.txBegin (s : State) (b : Nat) (who : TxWho) (t : Nat) : State :=
  let w := s.sh.can b
  let started := match who with
    | .buf m => ((s.slotAt b m t).map (fun x => (x.1, x.2.1))).toList ++ w.started
    | _ => w.started
  let h := s.sh.setCan b { w with sending := some who, sender := s.sh.auth, started := started, refDone := w.refDone || who == .ref }
  let s := s.withSh h
  match who with
  | .own => match s.ownPick b with
    | some f =>
      let s := s.withSh (s.sh.setCan b { s.sh.can b with respAt := if f.kind == 1 then some s.sh.gt else w.respAt })
      { s with a := s.a.ownFront b f, b := s.b.ownFront b f }
    | none => s
  | _ => s

/-! ### Meanings -/

/-- TX_START (R389, R421): the bus is idle `t` ns after the newest boundary and the node starts a frame, if its window
permits. -/
def execTxStart (bus : Bus) (who : TxWho) (t : Nat) (s : State) : Res :=
  let may := s.mayStart bus.num && (match who with
    | .buf m => s.bufMay bus.num m t
    | .own => s.ownMay bus.num t
    | .ref => false)
  .next (if may then s.txBegin bus.num who t else s)
/-- REFERENCE_SEND (R411): the start of column 0; `idle`: the bus is idle then. -/
def execReferenceSend (bus : Bus) (idle : Bool) (s : State) : Res :=
  .next (if idle && s.mayStart bus.num && (s.lead.can bus.num).refStaged.isSome && !(s.sh.can bus.num).refDone
    then s.txBegin bus.num .ref 0 else s)
/-- REFERENCE_MESSAGE (R410, R414): a reference received without error, its end `t` ns after the newest boundary. -/
def execReferenceMessage (bus : Bus) (p : BitVec 3) (node : BitVec 7) (ep : BitVec 48) (b6 : Byte) (t len : Nat) (s : State) : Res :=
  let f := cnpFrame (cnpId p.toNat 0 node.toNat 0) (leBytes 6 ep.toNat ++ [b6, 0#8])
  .next (s.canIn bus.num (goodRx f t len))
/-- VALUE_FRAME (R426, R429): a value frame received without error. -/
def execValueFrame (bus : Bus) (prio : BitVec 3) (node : BitVec 7) (obj : BitVec 13) (data : List Byte) (t len : Nat) (s : State) : Res :=
  let f := cnpFrame (cnpId prio.toNat 1 node.toNat obj.toNat) (data.take 64)
  .next (s.canIn bus.num (goodRx f t len))
/-- TIME_MASTER_TAKEOVER (R412). -/
def execTimeMasterTakeover (bus : Bus) (s : State) : Res := .next (s.both (Lane.takeover s.sh.gt · bus.num))
/-- SYNC_LOSS_NO_SOURCE (R416). -/
def execSyncLossNoSource (s : State) : Res := .next (s.both (Lane.syncLoss s.sh.gt))
/-- REMOTE_SLOT_TIMEOUT (R429). -/
def execRemoteSlotTimeout (slot : Fin 256) (s : State) : Res := .next (s.both (Lane.slotCheck s.sh.gt · slot))
/-- TIME_NOWLO_READ (R409) in the view of a lane, `t` ns after the newest boundary. -/
def execTimeNowloRead (lane : LaneId) (t : Nat) (s : State) : Res :=
  let w := s.sh.gt + t
  .next (s.upd lane (fun l => (l.wr TIME_NOWLO (w32 w)).wr TIME_NOWHI (w32 (w / 2 ^ 32))))

end Sys2Proof.Machine
end

