-- ==== Sys2Proof/Machine/Wedge.lean ====
section
/-! DEFINITION. Wedging of a checked image (R487–R489, R690): the rules on single registers, then the joining rules in
the order of the manual. -/

namespace Sys2Proof.Machine

/-! ### The image being wedged -/

/-- The image as it is wedged: values by register key, the regions held, the report so far, and whether a rule has
rejected it. -/
structure Wst where
  v : RegFile
  sects : List (Nat × Nat)
  ents : List RepEntry
  rej : Bool
  gradeF : Bool
  deriving DecidableEq, Repr

def Wst.rd (w : Wst) (k : Nat) : Word := RegFile.rd w.v k
def Wst.fld (w : Wst) (k : Nat) (f : Fld) : Nat := RegFile.fld w.v k f
def Wst.on (w : Wst) (k : Nat) (f : Fld) : Bool := w.fld k f != 0
/-- The whole register. -/
def word32 : Fld := ⟨0, 32⟩

/-- An entry added to the report. -/
def Wst.add (w : Wst) (e : RepEntry) : Wst := { w with ents := w.ents ++ [e] }

/-- A field takes a used value; a field clamped before keeps its entry with the new used value (R488). -/
def Wst.clamp (k : Nat) (f : Fld) (new : Nat) (w : Wst) : Wst :=
  let old := w.fld k f
  let new := new % 2 ^ f.width
  if w.rej || old = new then w else
  let w := { w with v := RegFile.setF w.v k f new }
  let same (e : RepEntry) : Bool := e.kind == 1 && e.addr == 4 * k && e.bit == f.lo
  if w.ents.any same then { w with ents := w.ents.map (fun e => if same e then { e with used := w32 new } else e) }
  else w.add ⟨(secOf k).1, (secOf k).2, 1, 4 * k, f.lo, w32 old, w32 new⟩

/-- The slot is rejected at a field: code FIELD and the given value (R490). -/
def Wst.reject (k : Nat) (f : Fld) (w : Wst) : Wst :=
  if w.rej then w else
  let w := w.add ⟨(secOf k).1, (secOf k).2, 3, 4 * k, f.lo, 5#32, w32 (w.fld k f)⟩
  { w with rej := true }

/-- The slot is rejected at the lowest address among the fields that made a rule fail, and there at the lowest bit (R690). -/
def Wst.rejectLow (w : Wst) : List (Nat × Fld) → Wst
  | [] => w
  | x :: xs =>
    let m := xs.foldl (fun m y => if y.1 < m.1 || (y.1 = m.1 && y.2.lo < m.2.lo) then y else m) x
    w.reject m.1 m.2
/-- A warning (R489, R690). -/
def Wst.warn (typ region k bit code param : Nat) (w : Wst) : Wst :=
  if w.rej then w else w.add ⟨typ, region, 2, 4 * k, bit, w32 code, w32 param⟩

/-- `f` for every number of a list, until a reject. -/
def Wst.walk (f : Nat → Wst → Wst) : List Nat → Wst → Wst
  | _, ⟨v, ss, es, true, b⟩ => ⟨v, ss, es, true, b⟩
  | [], ⟨v, ss, es, false, b⟩ => ⟨v, ss, es, false, b⟩
  | i :: is, ⟨v, ss, es, false, b⟩ => Wst.walk f is (f i ⟨v, ss, es, false, b⟩)
/-- `f` for every number below `n`. -/
def Wst.each (n : Nat) (f : Nat → Wst → Wst) (w : Wst) : Wst := Wst.walk f (upTo n) w

/-! ### Rules on one register (R488, step 2) -/

/-- What a rule makes of a field. -/
inductive FieldRule where
  | keep | use (v : Nat) | bad
  deriving DecidableEq, Repr

/-- A number limited to a range. -/
def within (lo hi v : Nat) : Nat := min hi (max lo v)
/-- A binary32 field without NaN and infinity (R129, R156, R242), limited to a range. -/
def sane (x : F32) : F32 := F32.wedge x
def saneIn (lo hi x : F32) : F32 :=
  let x := sane x
  if F32.lt x lo then lo else if F32.lt hi x then hi else x
/-- Not below +0.0. -/
def sanePos (x : F32) : F32 := if F32.lt (sane x) 0#32 then 0#32 else sane x

def f32Two : F32 := 0x40000000#32
def f32Hundred : F32 := 0x42C80000#32

/-- The highest index of a source kind (R132). -/
def kindMax (kind : Nat) : Nat :=
  match kind with
  | 1 => 95 | 2 => 31 | 3 => 31 | 4 => 23 | 5 => 31 | 6 => 31 | 7 => 2047 | 8 => 255 | 9 => 383 | _ => 4095
/-- A source selector's INDEX: reserved diagnostic words reject, an index above the range of its kind is clamped. -/
def indexRule (kind idx : Nat) : FieldRule :=
  if kind = 9 && 204 ≤ idx && idx ≤ 255 then .bad else .use (min idx (kindMax kind))

/-- The largest legal loop period not above `p` (R219). -/
def legalPeriod (p : Nat) : Nat := ((upTo 3001).filter (fun d => d != 0 && 3000 % d == 0 && (d ≤ p || d == 1))).foldl max 1

/-- The legal ranges of a sensor and the clamp of an illegal one (R92). -/
def sensorRanges (s : Nat) : List Nat × Nat :=
  if 1 ≤ s && s ≤ 8 then ([0, 1], 1) else if s = 0xD then ([0, 1, 2], 2) else if s = 0xE then ([3, 4], 4)
  else if s = 0xF then ([5], 5) else if 9 ≤ s then ([6], 6) else ([0, 1, 2, 3, 4, 5, 6], 7)

/-- AIN_CFGn (R62, R68, R74, R92). DESIGN CHOICE: a given BURNOUT stays on SENSOR 0 (log 70). -/
def ruleAin (lo : Nat) (w : Word) : FieldRule :=
  let s := AIN_CFG_SENSOR.get w
  let tcmv := isTc s || s == 0xD
  match lo with
  | 4 =>
    let r := AIN_CFG_RANGE.get w
    let x := sensorRanges s
    if s = 0 then (if r = 7 then .bad else .keep) else
    let r := if x.1.contains r then r else x.2
    .use (if s = 0xE && r = 3 && AIN_CFG_AUTO.on w then 4 else r)
  | 8 =>
    let v := AIN_CFG_WIRES.get w
    if tcmv then .use 0 else if isRtd s then .use (min v 2) else if v = 3 then .bad else .keep
  | 10 => if tcmv || s = 0xB || s = 0xC then .use 0 else .keep
  | 12 => if tcmv || s = 0 then .keep else .use 0
  | 16 => if tcmv || (isRtd s && AIN_CFG_WIRES.get w != 0) then .use 0 else .keep
  | _ => .keep

/-- AIN_PCFGn (R128). -/
def rulePcfg (lo v : Nat) : FieldRule :=
  match lo with
  | 0 => .use (min v 12)
  | 5 => if v = 3 then .bad else .keep
  | 16 => .use (within 10 10000 v)
  | _ => .keep

/-- PT_CFGp (R156). -/
def rulePt (lo v : Nat) (w : Word) : FieldRule :=
  let c := PT_CFG_COND.get w
  match lo with
  | 0 => if 8 ≤ v then .bad else .keep
  | 6 => if (c = 2 || c = 3 || c = 6) && v = 3 then .use 0 else if c = 4 || c = 5 || c = 7 then .use (v % 2) else .keep
  | 16 => if v = 3 then .bad else .keep
  | 19 => if PT_CFG_PRIO.get w = 3 then .use 0 else .keep
  | 20 => if c = 2 then .use (within 1 100 v) else .keep
  | _ => .keep

/-- CTRL_CFGn and CTRL_DSTn_d (R219, R242). -/
def ruleCtrl (lo v : Nat) : FieldRule :=
  match lo with
  | 0 => if 4 ≤ v then .bad else .keep
  | 5 => .use (legalPeriod v)
  | 22 => if v = 3 then .bad else .keep
  | _ => .keep
def ruleDst (n lo v : Nat) (w : Word) : FieldRule :=
  let k := CTRL_DST_DKIND.get w
  match lo with
  | 2 => if k = 3 && v = n then .bad else if k = 1 then .use (min v 23) else .keep
  | 8 => .use (within 1 600 v)
  | 18 => .use (min v (CTRL_DST_TPP.get w * 50))
  | _ => .keep

/-- A register of block ALM (R157, R180, R214). -/
def ruleAlm (k lo v : Nat) (w : Word) : FieldRule :=
  if k = ALM_GCFG then .use (within 5 60 v)
  else if k = ALM_FLOODCFG then (if lo = 16 then .use (min v (ALM_FLOODCFG_FLOOD_ON.get w)) else .keep)
  else if k = ALM_SHELFCFG then (if lo = 0 then .use (within 1 720 v) else .use (min v 256))
  else if k = ALM_CALLCFG then (if lo = 0 then .use (within 1 4 v) else if lo = 4 then .use (within 30 900 v) else .keep)
  else if ALM_STG 0 ≤ k && k ≤ ALM_STG 3 then (if lo = 17 then .use (within 10 900 v) else .keep)
  else if k = ALM_DMCFG then
    (if lo = 1 then .use (within 3 30 v)
     else if lo = 6 then .use (min (within 30 300 v) (ALM_DMCFG_DM_PER.get w * 30)) else .keep)
  else if 0x6100 ≤ k && k < 0x6300 then
    (if k % 4 = 0 then
      (if lo = 0 then (if [0, 2, 3, 7, 8, 9].contains v then .keep else .bad)
       else if lo = 4 then indexRule (ALM_GRPSRC_KIND.get w) v else .keep)
     else if lo = 0 then .use (min v 36000) else .keep)
  else if 0x6300 ≤ k && k < 0x6700 then
    (if k % 4 = 1 then
      (if lo = 0 then (if 2 ≤ v then .bad else .keep)
       else if lo = 8 then (if ALM_RULEEFF_TYPE.get w = 0 then .use (min v 127) else .keep)
       else if ALM_RULEEFF_TYPE.get w = 1 then .use (max v (ALM_RULEEFF_FIRST.get w)) else .keep)
     else if k % 4 = 2 then .use (min v 36000) else .keep)
  else if 0x6700 ≤ k && k % 8 = 0 && lo = 0 then (if 5 ≤ v then .bad else .keep)
  else .keep

/-- A register of block AOUT (R279). -/
def ruleAout (k lo v : Nat) (w : Word) : FieldRule :=
  if k < 0x3004 then (if v = 3 then .use 0 else .keep)
  else if k < 0x3100 then
    (match k % 8 with
     | 0 => if lo = 0 then (if v = 3 then .bad else .keep) else if lo = 3 && AO_CFG_MODE.get w = 0 then .use 0 else .keep
     | 1 => if lo = 0 then (if [0, 2, 3, 7, 8, 9].contains v then .keep else .bad)
            else if lo = 4 then indexRule (AO_FSRC_KIND.get w) v else .keep
     | _ => if F32.isNaN w then .use 0 else .keep)
  else if k % 64 = 0 then
    (match lo with
     | 0 => .use (within 5 20 v)
     | 8 => .use (within 20 40 v)
     | 14 => .use (within 1 60 v)
     | _ => .keep)
  else .keep

/-- A register of CAN1 or CAN2 with its schedule (R405, R436). -/
def ruleCan (k lo v : Nat) (w : Word) : FieldRule :=
  let o := k % 0x1000
  if o = 0 then (match lo with
    | 3 => .use (min v 4)
    | 8 | 16 => .use (within 50 90 v)
    | _ => .keep)
  else if 0x100 ≤ o && o < 0x300 && o % 4 = 0 then (match lo with
    | 2 | 6 => if CAN_BCFG_DIR.on w then .keep else .use 0
    | 5 => if CAN_BCFG_FDF.on w then .keep else .use 0
    | _ => .keep)
  else if 0xE00 ≤ o && o < 0xF00 then (match lo with
    | 6 => if v = 3 then .bad else .keep
    | 16 => .use (v % 2 ^ SCH_TRIG_REP.get w)
    | _ => .keep)
  else if 0xF00 ≤ o && o < 0xF40 then (if lo = 0 then .use (min v 999) else .keep)
  else .keep

/-- A register of block TIME (R436). -/
def ruleTime (k lo v : Nat) (w : Word) : FieldRule :=
  if k = TIME_CFG then
    (if lo = 9 && TIME_CFG_NSRC.on w then .use (if v = 0 then 1 else if v = 127 then 126 else v) else .keep)
  else if 0xC40 ≤ k && k < 0xC60 then
    (if lo = 14 then .use (min (max 1 v) (256 - CNP_TXO_FIRST.get w)) else .keep)
  else if 0xD00 ≤ k && k < 0xE00 then
    (if lo = 20 then .use (min v 14) else if lo = 25 then .use (max 1 v) else .keep)
  else if 0xE00 ≤ k && k < 0xF00 then
    (if lo = 0 then (if v = 0 || 0xB ≤ v then .bad else .keep)
     else if lo = 4 then indexRule (CNP_ITEM_KIND.get w) v else .keep)
  else .keep

/-- A register of block PANEL (R472). -/
def rulePnl (k lo v : Nat) (w : Word) : FieldRule :=
  if k = PNL_CFG then (match lo with
    | 4 => .use (within 60 180 v)
    | 12 => .use (within 64 224 v)
    | 20 => .use (max 1 v)
    | _ => .keep)
  else if k = PNL_CFG2 then (match lo with
    | 0 => .use (within 30 90 v)
    | 8 => .use (max 1 v)
    | 16 => .use (within 1024 1536 v)
    | 28 => .use (if v = 0 then 15 else v)
    | _ => .keep)
  else if 0xF004 ≤ k && k < 0xF00C then (if lo = 16 then .use (min v 256) else .keep)
  else if 0xF00C ≤ k && k < 0xF014 then (if lo = 0 then .use (within 80 200 v) else .keep)
  else if k = 0xF014 then .use 0
  else if k = PNL_DIMSRC then
    (if lo = 0 then (if v = 0 || v = 8 then .keep else .bad) else if lo = 4 && PNL_DIMSRC_KIND.get w = 8 then .use (min v 255) else .keep)
  else if k = PNL_LCFG then (if lo = 0 then .use (min v 512) else .use (min v 60))
  else .keep

/-- A binary32 register of block CTRL, or none. -/
def ruleCtrlF (k : Nat) (w : Word) : FieldRule :=
  let o := k % 64
  let j := o - 0x14
  if 0x14 ≤ o && o < 0x20 then
    (match j % 6 with
     | 1 | 2 => .use (sanePos w).toNat
     | 3 => .use (saneIn f32Two f32Hundred w).toNat
     | 4 | 5 => .use (saneIn 0#32 f32Hundred w).toNat
     | _ => .use (sane w).toNat)
  else if o = 0xB then .use (sanePos w).toNat
  else .use (sane w).toNat

/-- What the rules that read one register make of the field of key `k` with least significant bit `lo`; `w` is the
register as wedged so far. -/
def fieldRule (k : Nat) (f : Fld) (w : Word) : FieldRule :=
  let v := f.get w
  let lo := f.lo
  if 0x2002 ≤ k && k < 0x2040 then (if lo = 17 && !AIN_TCFG_CJC_EN.on w then .use 1 else .keep)
  else if 0x2100 ≤ k && k < 0x2160 then ruleAin lo w
  else if 0x2400 ≤ k && k < 0x2460 then rulePcfg lo v
  else if 0x2480 ≤ k && k < 0x3000 then .use (sane w).toNat
  else if 0x8000 ≤ k && k < 0xC000 then
    (match k % 8 with
     | 0 => rulePt lo v w
     | 1 | 2 => if lo = 0 then (if 0xA ≤ v then .bad else .keep) else if lo = 4 then indexRule (PT_SRC_KIND.get w) v else .keep
     | 4 => .use (sanePos w).toNat
     | 5 => .use (min v 36000)
     | _ => .use (sane w).toNat)
  else if 0x6000 ≤ k && k < 0x7000 then ruleAlm k lo v w
  else if 0xC000 ≤ k && k < 0xC800 then
    (match k % 64 with
     | 0 => ruleCtrl lo v
     | 1 | 2 => if lo = 4 then .use (min v (kindMax (CTRL_PVSRC_KIND.get w))) else .keep
     | 0x20 | 0x24 => ruleDst ((k - 0xC000) / 64) lo v w
     | _ => ruleCtrlF k w)
  else if 0x3000 ≤ k && k < 0x3700 then ruleAout k lo v w
  else if 0x3840 ≤ k && k < 0x3860 then (if lo = 0 then .use (min v 250) else .keep)
  else if 0x3C00 ≤ k && k < 0x3C20 then (if lo = 2 && !DO_CFG_EN.on w then .use 0 else .keep)
  else if k = 0xE000 then (if lo = 0 then .use (within 1 100 v) else .keep)
  else if 0x4000 ≤ k && k < 0x6000 then ruleCan k lo v w
  else if 0xC00 ≤ k && k < 0x1000 then ruleTime k lo v w
  else if 0xF000 ≤ k && k < 0x10000 then rulePnl k lo v w
  else if 0x10040 ≤ k && k < 0x10060 then (if 0xB ≤ v then .bad else .keep)
  else if k = PWR_LCFG then (if lo = 0 then .use (within 100 2200 v) else .use (min v 3600))
  else if k = PWR_LTCFG then
    (if lo = 0 then .use (if v = 0 then 0 else within 200 1600 v) else if lo = 16 then .use (max 10 v) else .keep)
  else .keep

/-- The bits of a register outside its image fields, as fields, among the image fields in ascending order (R480, R487). -/
def slotsFrom : Nat → List Fld → List (Fld × Bool)
  | b, [] => if b < 32 then [(⟨b, 32 - b⟩, false)] else []
  | b, f :: fs => (if b < f.lo then [(⟨b, f.lo - b⟩, false)] else []) ++ (f, true) :: slotsFrom (f.lo + f.width) fs

/-- Fields outside the image that stand side by side: STRAP and FAILHI of AO_GCFGg, SRC of DO_CFGn, PEND of MEM_OWNb. -/
def splitGap (k : Nat) (x : Fld × Bool) : List (Fld × Bool) :=
  if x.2 then [x]
  else if 0x3000 ≤ k && k < 0x3004 then [(⟨2, 1⟩, false), (⟨3, 1⟩, false), (⟨4, 28⟩, false)]
  else if 0x3C00 ≤ k && k < 0x3C20 then [(⟨3, 2⟩, false), (⟨5, 27⟩, false)]
  else if 0x10040 ≤ k && k < 0x10060 then [(⟨4, 1⟩, false), (⟨5, 27⟩, false)]
  else [x]

/-- One register wedged on its own. -/
def Wst.single (k : Nat) (w : Wst) : Wst :=
  ((slotsFrom 0 (imgFields k)).flatMap (splitGap k)).foldl (fun w x =>
    if w.rej then w
    else if !x.2 then w.clamp k x.1 0
    else match fieldRule k x.1 (w.rd k) with
      | .keep => w
      | .use v => w.clamp k x.1 v
      | .bad => w.reject k x.1) w

/-! ### Joining rules (R488, step 3) -/

def Wst.f32 (w : Wst) (k : Nat) : F32 := w.rd k
def Wst.setF32 (k : Nat) (x : F32) (w : Wst) : Wst := w.clamp k word32 x.toNat

/-- A point with COND 0x7 and DIR[0] = 0 that reads a diagnostic bit. -/
def Wst.diagPoint (w : Wst) (word bit : Nat) (prio : Option Nat) : Bool :=
  (upTo 2048).any (fun p =>
    let c := w.rd (PT_CFG p)
    let s := w.rd (PT_SRC p)
    PT_CFG_COND.get c == 7 && PT_CFG_DIR.get c % 2 == 0 && PT_SRC_KIND.get s == 9 && PT_SRC_INDEX.get s == word
      && PT_SRC_SUB.get s == bit && (match prio with
        | some q => PT_CFG_PRIO.get c == q
        | none => true))

/-- R128, channel by channel, and R131 (log 71). -/
def Wst.joinAin (w : Wst) : Wst :=
  let w := w.each 96 (fun n w =>
    let s := w.fld (AIN_CFG n) AIN_CFG_SENSOR
    let w := if (isTc s || isRtd s) && w.fld (AIN_PCFG n) AIN_PCFG_CHAR = 1 then w.clamp (AIN_PCFG n) AIN_PCFG_CHAR 0 else w
    if s = 0 then w.clamp (AIN_PCFG n) AIN_PCFG_INJ_EN 0 else w)
  w.each 8 (fun k w =>
    if !w.sects.contains (0x0011, k) then w else
    w.each 32 (fun i w =>
      if F32.lt (w.f32 (AIN_TX k i)) (w.f32 (AIN_TX k (i + 1))) then w
      else w.setF32 (AIN_TX k (i + 1)) (F32.nextUp (w.f32 (AIN_TX k i)))))

/-- The source kinds legal for a condition (R135). -/
def condKinds (c : Nat) : List Nat × List Nat :=
  let a := [1, 4, 5, 6, 8]
  let b := [2, 3, 7, 8, 9]
  match c with
  | 1 | 2 => (a, [0])
  | 3 => (a, a)
  | 4 => (a ++ b, a ++ b)
  | 5 => ([2, 3, 7, 8], [0])
  | 6 => ([5], [0])
  | _ => ([9], [0])

/-- R156. -/
def Wst.joinPoints (w : Wst) : Wst :=
  let w := w.each 2048 (fun p w =>
    let c := w.fld (PT_CFG p) PT_CFG_COND
    if c = 0 then w
    else if (condKinds c).1.contains (w.fld (PT_SRC p) PT_SRC_KIND) && (condKinds c).2.contains (w.fld (PT_REF p) PT_REF_KIND) then w
    else w.reject (PT_CFG p) PT_CFG_COND)
  w.each 2048 (fun p w =>
    let c := w.fld (PT_CFG p) PT_CFG_COND
    if c = 0 then w
    else if [2, 3, 6].contains c && F32.lt (w.f32 (PT_LIMIT p)) 0#32 then w.setF32 (PT_LIMIT p) 0#32 else w)

/-- The destinations of kind `kind` in a register file, of enabled and disabled loops: loop, destination, target. -/
def namedDests (v : RegFile) (kind : Nat) : List (Nat × Nat × Nat) :=
  (upTo 32).flatMap (fun n => ((upTo 2).filter (fun d => CTRL_DST_DKIND.get (RegFile.rd v (CTRL_DST n d)) == kind)).map
    (fun d => (n, d, CTRL_DST_DIDX.get (RegFile.rd v (CTRL_DST n d)))))
/-- Those of enabled loops: a disabled loop drives no destination (R216). -/
def liveDests (v : RegFile) (kind : Nat) : List (Nat × Nat × Nat) :=
  (namedDests v kind).filter (fun x => CTRL_CFG_TYPE.get (RegFile.rd v (CTRL_CFG x.1)) != 0)
/-- The destinations of enabled loops in the image being wedged. -/
def Wst.dests (w : Wst) (kind : Nat) : List (Nat × Nat × Nat) := liveDests w.v kind

/-- SRC of output `d` as the command sources of a register file name it (R294, R311). -/
def doSource (v : RegFile) (d : Nat) : Nat :=
  if (upTo 32).any (fun k => ALM_SUMCFG_DO_EN.on (RegFile.rd v (ALM_SUMCFG k)) && ALM_SUMCFG_DO.get (RegFile.rd v (ALM_SUMCFG k)) == d)
  then 1 else if (liveDests v 2).any (fun x => x.2.2 == d) then 2 else 0
/-- SRC of every output. -/
def doSources (v : RegFile) : RegFile := (upTo 32).foldl (fun v d => RegFile.setF v (DO_CFG d) DO_CFG_SRC (doSource v d)) v

/-- A masking mechanism (R180): a group with a KIND 0x7 source (number below 128) or an enabled rule (128 + r), with the
point it reads. -/
def Wst.mechs (w : Wst) : List (Nat × Nat) :=
  ((upTo 128).filter (fun g => w.fld (ALM_GRPSRC g) ALM_GRPSRC_KIND == 7)).map (fun g => (g, w.fld (ALM_GRPSRC g) ALM_GRPSRC_INDEX))
    ++ ((upTo 256).filter (fun r => w.on (ALM_RULECAUSE r) ALM_RULECAUSE_EN)).map (fun r =>
      (128 + r, w.fld (ALM_RULECAUSE r) ALM_RULECAUSE_CAUSE))

/-- Whether mechanism `m` can mask point `p` (R162, R165, R166). -/
def Wst.masks (w : Wst) (m : Nat × Nat) (p : Nat) : Bool :=
  let c := w.rd (PT_CFG p)
  if m.1 < 128 then PT_CFG_GROUP.get c == m.1
  else
    let e := w.rd (ALM_RULEEFF (m.1 - 128))
    let first := ALM_RULEEFF_FIRST.get e
    p != m.2 && PT_CFG_PRIO.get c != 0 &&
      (if ALM_RULEEFF_TYPE.get e = 0 then PT_CFG_GROUP.get c == first else decide (first ≤ p ∧ p ≤ ALM_RULEEFF_LAST.get e))

/-- The mechanisms that stay when those without an edge to a mechanism that stays are taken away, `n` times. -/
def Wst.peel (w : Wst) : Nat → List (Nat × Nat) → List (Nat × Nat)
  | 0, ms => ms
  | n + 1, ms =>
    let ms' := ms.filter (fun m => ms.any (fun m2 => w.masks m2 m.2))
    if ms'.length = ms.length then ms else w.peel n ms'

/-- The mechanisms that `m` leads to, `n` steps on. -/
def Wst.reach (w : Wst) (ms : List (Nat × Nat)) : Nat → List (Nat × Nat) → List (Nat × Nat)
  | 0, seen => seen
  | n + 1, seen =>
    let next := ms.filter (fun m2 => !seen.contains m2 && seen.any (fun m => w.masks m2 m.2))
    if next.isEmpty then seen else w.reach ms n (seen ++ next)

/-- A mechanism in a cycle, lowest address first. -/
def Wst.maskCycle (w : Wst) : Option Nat :=
  let ms := w.peel 400 w.mechs
  (ms.find? (fun m => (w.reach ms 400 (ms.filter (fun m2 => w.masks m2 m.2))).contains m)).map (·.1)

/-- R180. -/
def Wst.joinGroups (w : Wst) : Wst :=
  let sums := ((upTo 32).filter (fun k => w.on (ALM_SUMCFG k) ALM_SUMCFG_DO_EN)).map (fun k => (k, w.fld (ALM_SUMCFG k) ALM_SUMCFG_DO))
  let tps := (w.dests 2).map (fun x => x.2.2)
  let bad := sums.find? (fun x => tps.contains x.2 || (sums.any (fun y => y.1 != x.1 && y.2 == x.2)))
  let w := match bad with
    | some x => w.reject (ALM_SUMCFG x.1) ALM_SUMCFG_DO
    | none => w
  if w.rej then w else
  match w.maskCycle with
  | some m => if m < 128 then w.reject (ALM_GRPSRC m) ALM_GRPSRC_KIND else w.reject (ALM_RULECAUSE (m - 128)) ALM_RULECAUSE_CAUSE
  | none => w

/-- R214. -/
def Wst.joinCall (w : Wst) : Wst :=
  let fit := ((upTo 16).filter (fun s => w.on (ALM_WS s) ALM_WS_FITTED)).map (fun s => (s, w.fld (ALM_WS s) ALM_WS_RADDR))
  let node := w.fld RING_CFG RING_CFG_RADDR
  let bad := fit.find? (fun x => x.2 == node || fit.any (fun y => y.1 != x.1 && y.2 == x.2))
  let w := match bad with
    | some x => w.reject (ALM_WS x.1) ALM_WS_RADDR
    | none => w
  let elig := (fit.map (·.1)).filter (fun s => w.on (ALM_WS s) ALM_WS_ELIG)
  let w := if elig.contains (w.fld ALM_CALLCFG ALM_CALLCFG_DUTY0) then w else w.clamp ALM_CALLCFG ALM_CALLCFG_DUTY0 (elig.headD 0)
  let w := if elig.isEmpty then w.each 4 (fun i w => w.clamp (ALM_STG i) ALM_STG_DUTY 0) else w
  if w.on ALM_DMCFG ALM_DMCFG_DM_EN && !w.diagPoint 329 5 none then w.clamp ALM_DMCFG ALM_DMCFG_DM_EN 0 else w

/-- An outer loop of a cascade chain that returns to it: `n` steps from the loops `cur`. -/
def chainFrom (ds : List (Nat × Nat × Nat)) : Nat → List Nat → List Nat
  | 0, seen => seen
  | n + 1, seen =>
    let next := ((ds.filter (fun x => seen.contains x.1)).map (fun x => x.2.2)).filter (fun i => !seen.contains i)
    if next.isEmpty then seen else chainFrom ds n (seen ++ next.eraseDups)

/-- The first rejecting rows of R242. An AO or DO named twice rejects the slot whatever the TYPE of the naming loops; the cascade
rows are about outer loops, which run (log 83). -/
def Wst.ctrlRejects (w : Wst) : Wst :=
  let w := w.each 32 (fun n w =>
    let t := w.fld (CTRL_CFG n) CTRL_CFG_TYPE
    if t = 0 then w
    else
      let legal (k : Nat) : Bool := ([1, 4, 8] : List Nat).contains k
      if !legal (w.fld (CTRL_PVSRC n) CTRL_PVSRC_KIND) || (t = 2 && !legal (w.fld (CTRL_RSRC n) CTRL_RSRC_KIND)) then
        w.reject (CTRL_CFG n) CTRL_CFG_TYPE else w)
  if w.rej then w else
  let at_ (x : Nat × Nat × Nat) : Nat × Fld := (CTRL_DST x.1 x.2.1, CTRL_DST_DIDX)
  let dup (ds : List (Nat × Nat × Nat)) : List (Nat × Fld) := (ds.filter (fun x => ds.any (fun y => y != x && y.2.2 == x.2.2))).map at_
  let casc := w.dests 3
  let twice := casc.filter (fun x => w.fld (CTRL_CFG x.2.2) CTRL_CFG_TYPE == 3 && casc.any (fun y => y.1 != x.1 && y.2.2 == x.2.2))
  let ring := casc.filter (fun x => (chainFrom casc 40 [x.2.2]).contains x.1)
  w.rejectLow (dup (namedDests w.v 1) ++ dup (namedDests w.v 2) ++ twice.flatMap (fun x => [(CTRL_CFG x.2.2, CTRL_CFG_TYPE), at_ x]) ++ ring.map at_)

/-- The outer period of a cascade made a multiple of the inner one. -/
def Wst.outerPeriod (w : Wst) (x : Nat × Nat × Nat) : Wst :=
  let pi := w.fld (CTRL_CFG x.2.2) CTRL_CFG_PERIOD
  let po := w.fld (CTRL_CFG x.1) CTRL_CFG_PERIOD
  if w.fld (CTRL_CFG x.2.2) CTRL_CFG_TYPE != 3 || po % pi = 0 then w else
  let c := (upTo (po + 1)).filter (fun p => p != 0 && 3000 % p == 0 && p % pi == 0)
  w.clamp (CTRL_CFG x.1) CTRL_CFG_PERIOD (c.foldl max pi)

/-- R242. -/
def Wst.joinCtrl (w : Wst) : Wst :=
  let w := w.ctrlRejects
  if w.rej then w else
  let casc := w.dests 3
  let w := casc.foldl Wst.outerPeriod w
  let w := w.each 32 (fun n w =>
    let t := w.fld (CTRL_CFG n) CTRL_CFG_TYPE
    if w.fld (CTRL_CFG n) CTRL_CFG_MODE0 = 2 && (t = 1 || t = 2 || (t = 3 && !casc.any (fun x => x.2.2 == n))) then
      w.clamp (CTRL_CFG n) CTRL_CFG_MODE0 1 else w)
  let w := w.each 32 (fun n w =>
    let w := if F32.lt (w.f32 (CTRL_SPHI n)) (w.f32 (CTRL_SPLO n)) then w.setF32 (CTRL_SPHI n) (w.f32 (CTRL_SPLO n)) else w
    w.each 2 (fun j w => if F32.lt (w.f32 (CTRL_OHI n j)) (w.f32 (CTRL_OLO n j)) then w.setF32 (CTRL_OHI n j) (w.f32 (CTRL_OLO n j)) else w))
  let w := w.each 32 (fun n w =>
    let j := w.fld (CTRL_CFG n) CTRL_CFG_SET0
    let w := w.setF32 (CTRL_SP0 n) (F32.clamp (w.f32 (CTRL_SPLO n)) (w.f32 (CTRL_SPHI n)) (w.f32 (CTRL_SP0 n)))
    let w := w.setF32 (CTRL_OUT0 n) (F32.clamp (w.f32 (CTRL_OLO n j)) (w.f32 (CTRL_OHI n j)) (w.f32 (CTRL_OUT0 n)))
    w.setF32 (CTRL_SAFE n) (F32.clamp (w.f32 (CTRL_OLO n j)) (w.f32 (CTRL_OHI n j)) (w.f32 (CTRL_SAFE n))))
  let w := w.each 32 (fun n w => if w.fld (CTRL_CFG n) CTRL_CFG_TYPE = 0 then w else w.each 2 (fun d w =>
    let lo := w.f32 (CTRL_DLO n d)
    if w.fld (CTRL_DST n d) CTRL_DST_DKIND = 0 || !F32.eq (w.f32 (CTRL_DHI n d)) lo then w
    else w.setF32 (CTRL_DHI n d) (if F32.lt 0x42C60000#32 lo then F32.sub lo 0x3F800000#32 else F32.add lo 0x3F800000#32)))
  let w := w.each 32 (fun n w =>
    let a1 := F32.abs (w.f32 (CTRL_A1 n))
    let a2 := w.f32 (CTRL_A2 n)
    if F32.le 0x3F800000#32 (F32.abs a2) || F32.le (F32.add 0x3F800000#32 a2) a1 then w.clamp (CTRL_CFG n) CTRL_CFG_NOTCH_EN 0 else w)
  w.rejectLow (((namedDests w.v 3).filter (fun x => w.fld (CTRL_CFG x.2.2) CTRL_CFG_TYPE != 3)).flatMap
    (fun x => [(CTRL_CFG x.2.2, CTRL_CFG_TYPE), (CTRL_DST x.1 x.2.1, CTRL_DST_DIDX)]))

/-- R279. -/
def Wst.joinAout (w : Wst) : Wst :=
  let ds := w.dests 1
  let w := w.each 24 (fun ch w =>
    if ds.any (fun x => x.2.2 == ch) && w.fld (AO_CFG ch) AO_CFG_MODE = 0 then w.reject (AO_CFG ch) AO_CFG_MODE else w)
  let w := w.each 24 (fun ch w =>
    if ds.any (fun x => x.2.2 == ch && w.on (CTRL_DST x.1 x.2.1) CTRL_DST_MA_ZERO) then w.clamp (AO_CFG ch) AO_CFG_NE43 0 else w)
  let w := w.each 24 (fun ch w =>
    let lim := if w.on (AO_CFG ch) AO_CFG_NE43 then (F32.ofRat 38 10, F32.ofRat 205 10) else (0#32, F32.ofNat 24)
    w.setF32 (AO_INIT ch) (F32.clamp lim.1 lim.2 (w.f32 (AO_INIT ch))))
  w.each 24 (fun ch w => if w.on (AO_CFG ch) AO_CFG_HART_EN then w else w.clamp (HRT_CFG ch) HRT_CFG_POLL_EN 0)

/-- R294, R310, R311: SRC follows from the command sources without an entry; INIT only where SRC is direct. -/
def Wst.joinDio (w : Wst) : Wst :=
  let w := { w with v := doSources w.v }
  w.each 32 (fun d w => if w.fld (DO_CFG d) DO_CFG_SRC = 0 then w else w.clamp (DO_CFG d) DO_CFG_INIT 0)

/-- R327, R370 and the warnings of the recorder. -/
def Wst.joinLanes (w : Wst) : Wst :=
  let w := if w.diagPoint 339 0 (some 0) then w else w.warn 0x0001 0 0 0 1 0
  let c := w.fld REC_CFG REC_CFG_C6MAX
  if 6144 < c then w.warn 0x0080 0 REC_CFG 8 2 c else w

/-- R401, R405. -/
def Wst.joinCan (w : Wst) : Wst :=
  let w := w.each 2 (fun b w =>
    if w.on (CAN_CFG b) CAN_CFG_BUS_EN && !w.diagPoint 324 b none then w.warn 0x0060 b 0 0 3 (b + 1) else w)
  let w := w.each 2 (fun b w =>
    if !w.on (CAN_CFG b) CAN_CFG_BRMODE then w else
    let w := if w.fld (CAN_CFG2 b) CAN_CFG2_NMASK = 0 then w.clamp (CAN_CFG2 b) CAN_CFG2_NMASK 15 else w
    if w.fld (CAN_CFG2 b) CAN_CFG2_DMASK = 0 then w.clamp (CAN_CFG2 b) CAN_CFG2_DMASK 31 else w)
  w.each 2 (fun b w => w.each 128 (fun m w =>
    if w.on (CAN_BCFG b m) CAN_BCFG_IDE then w
    else w.clamp (CAN_BID b m) CAN_BID_VALUE (w.fld (CAN_BID b m) CAN_BID_VALUE / 2 ^ 18 * 2 ^ 18)))

/-- A trigger of bus `b` that applies to column and cycle (R420). -/
def Wst.trigHit (w : Wst) (b t k : Nat) : Bool :=
  let x := w.rd (SCH_TRIG b t)
  SCH_TRIG_KIND.get x != 0 && k % 2 ^ SCH_TRIG_REP.get x == SCH_TRIG_BASE.get x
/-- The triggers in use of a bus. -/
def Wst.trigs (w : Wst) (b : Nat) : List Nat := (upTo 256).filter (fun t => w.fld (SCH_TRIG b t) SCH_TRIG_KIND != 0)
/-- Two triggers of one column share a cycle. -/
def Wst.trigClash (w : Wst) (b t u : Nat) : Bool :=
  t != u && w.fld (SCH_TRIG b t) SCH_TRIG_COL == w.fld (SCH_TRIG b u) SCH_TRIG_COL
    && (upTo 64).any (fun k => w.trigHit b t k && w.trigHit b u k)
/-- A transmit buffer in use, whoever owns it. -/
def Wst.txBuf (w : Wst) (b m : Nat) : Bool := w.on (CAN_BCFG b m) CAN_BCFG_EN && w.on (CAN_BCFG b m) CAN_BCFG_DIR
/-- A transmit buffer of the schedule. -/
def Wst.schedBuf (w : Wst) (b m : Nat) : Bool :=
  let c := w.rd (CAN_BCFG b m)
  CAN_BCFG_EN.on c && CAN_BCFG_DIR.on c && !CAN_BCFG_OWNER.on c
/-- The columns in use of a bus. -/
def Wst.cols (w : Wst) (b : Nat) : List Nat := (upTo 64).filter (fun c => w.on (SCH_COL b c) SCH_COL_EN)
/-- The window of column `c` in µs (R419). -/
def Wst.window (w : Wst) (b c : Nat) : Nat :=
  let s := w.fld (SCH_COL b c) SCH_COL_START
  match (w.cols b).find? (fun d => c < d) with
  | some d => w.fld (SCH_COL b d) SCH_COL_START - s
  | none => 1000 + w.fld (SCH_COL b 0) SCH_COL_START - s
/-- The object of a class 0x01 transmit buffer, and the transmit object that carries it. -/
def Wst.objOf (w : Wst) (b m : Nat) : Option Nat :=
  let id := BitVec.ofNat 29 (w.fld (CAN_BID b m) CAN_BID_VALUE)
  if w.on (CAN_BCFG b m) CAN_BCFG_IDE && cnpClass id == 1 then some (cnpObj id) else none
def Wst.txoOf (w : Wst) (obj : Nat) : Option Nat :=
  (upTo 32).find? (fun k => w.on (CNP_TXO k) CNP_TXO_EN && w.fld (CNP_TXO k) CNP_TXO_OBJ == obj)
/-- The slowest rate in use: the configured one, or the slowest that detection permits. -/
def Wst.slowest (w : Wst) (b : Nat) : Nat × Nat :=
  let c := w.rd (CAN_CFG b)
  if !CAN_CFG_BRMODE.on c then (CAN_CFG_NRATE.get c, CAN_CFG_DRATE.get c) else
  let m := w.rd (CAN_CFG2 b)
  (((upTo 4).find? (fun i => CAN_CFG2_NMASK.get m / 2 ^ i % 2 == 1)).getD 0,
   ((upTo 5).find? (fun i => CAN_CFG2_DMASK.get m / 2 ^ i % 2 == 1)).getD 0)
/-- The worst-case length in ns of what a buffer sends: N items, or the longest frame of its format. -/
def Wst.bufLen (w : Wst) (b m : Nat) : Nat :=
  let c := w.rd (CAN_BCFG b m)
  let fdf := CAN_BCFG_FDF.on c
  let n := match (w.objOf b m).bind w.txoOf with
    | some k => dlcBytes fdf (dlcFor (4 + 4 * w.fld (CNP_TXO k) CNP_TXO_N))
    | none => if fdf then 64 else 8
  frameLen (CAN_BCFG_IDE.on c) fdf (CAN_BCFG_BRS.on c) n (w.slowest b).1 (w.slowest b).2

/-- First row of R436: triggers on no column, or two that share a column and cycle. -/
def Wst.schedTrigs (b : Nat) (w : Wst) : Wst :=
  let ts := w.trigs b
  Wst.walk (fun t w =>
    let c := w.fld (SCH_TRIG b t) SCH_TRIG_COL
    if c = 0 || !w.on (SCH_COL b c) SCH_COL_EN || ts.any (fun u => w.trigClash b t u) then w.reject (SCH_TRIG b t) SCH_TRIG_COL else w) ts w
/-- Second row: the buffers by ascending address, each at the lowest field that fails. -/
def Wst.schedBufs (b : Nat) (w : Wst) : Wst :=
  let ts := (w.trigs b).filter (fun t => w.fld (SCH_TRIG b t) SCH_TRIG_KIND == 1)
  w.each 128 (fun m w =>
    let named := ts.any (fun t => w.fld (SCH_TRIG b t) SCH_TRIG_BUF == m)
    let c := w.rd (CAN_BCFG b m)
    if w.schedBuf b m then (if w.on (SCH_CFG b) SCH_CFG_TT_EN && named then w else w.reject (CAN_BCFG b m) CAN_BCFG_EN)
    else if !named then w
    else w.reject (CAN_BCFG b m) (if !CAN_BCFG_EN.on c then CAN_BCFG_EN else if !CAN_BCFG_DIR.on c then CAN_BCFG_DIR else CAN_BCFG_OWNER))
/-- Third row: column 0, then START of the columns in use. -/
def Wst.schedCols (b : Nat) (w : Wst) : Wst :=
  if w.rej then w
  else if w.on (SCH_CFG b) SCH_CFG_TT_EN && !w.on (SCH_COL b 0) SCH_COL_EN then w.reject (SCH_COL b 0) SCH_COL_EN
  else
    let cs := w.cols b
    (cs.zip (cs.drop 1)).foldl (fun w x =>
      if w.fld (SCH_COL b x.1) SCH_COL_START < w.fld (SCH_COL b x.2) SCH_COL_START then w else w.reject (SCH_COL b x.1) SCH_COL_START) w
/-- Fourth row: items in use that name nothing, then class 0x01 transmit buffers, whoever owns them, that no transmit object fills. -/
def Wst.schedItems (w : Wst) : Wst :=
  let used (w : Wst) (j : Nat) : Bool := (upTo 32).any (fun k =>
    let x := w.rd (CNP_TXO k)
    CNP_TXO_EN.on x && decide (CNP_TXO_FIRST.get x ≤ j ∧ j < CNP_TXO_FIRST.get x + CNP_TXO_N.get x))
  let w := w.each 256 (fun j w => if w.fld (CNP_ITEM j) CNP_ITEM_KIND = 0 && used w j then w.reject (CNP_ITEM j) CNP_ITEM_KIND else w)
  w.each 2 (fun b w => w.each 128 (fun m w =>
    if w.txBuf b m && (w.objOf b m).any (fun o => (w.txoOf o).isNone) then w.reject (CAN_BCFG b m) CAN_BCFG_EN else w))
/-- Fifth row: an exclusive window that its longest frame does not fit in. The length follows from N of the transmit object and from
the rates of the bus (log 71). -/
def Wst.schedWindows (w : Wst) : Wst :=
  let bad := (upTo 2).flatMap (fun b => ((w.trigs b).filter (fun t =>
    let x := w.rd (SCH_TRIG b t)
    SCH_TRIG_KIND.get x == 1 && decide (w.window b (SCH_TRIG_COL.get x) * 1000 < w.bufLen b (SCH_TRIG_BUF.get x)))).map (fun t => (b, t)))
  w.rejectLow (bad.flatMap (fun x =>
    let k := (w.objOf x.1 (w.fld (SCH_TRIG x.1 x.2) SCH_TRIG_BUF)).bind w.txoOf
    (CAN_CFG x.1, CAN_CFG_NRATE) :: (k.map (fun k => (CNP_TXO k, CNP_TXO_N))).toList))
/-- Eighth row: one item in a buffer with FDF clear, whoever owns it. -/
def Wst.schedOne (w : Wst) : Wst :=
  w.each 32 (fun k w =>
    if (upTo 2).any (fun b => (upTo 128).any (fun m =>
        w.txBuf b m && !w.on (CAN_BCFG b m) CAN_BCFG_FDF && (w.objOf b m).bind w.txoOf == some k)) then
      w.clamp (CNP_TXO k) CNP_TXO_N (min 1 (w.fld (CNP_TXO k) CNP_TXO_N)) else w)

/-- Whether a receive buffer of bus `b` can match the frames of slot `s` (R384, R429), whatever their priority. -/
def Wst.slotMatch (w : Wst) (b s : Nat) : Bool :=
  let c := w.rd (CNP_RXCFG s)
  let id := BitVec.ofNat 29 (cnpId 0 1 (CNP_RXCFG_NODE.get c) (CNP_RXCFG_OBJ.get c))
  (upTo 128).any (fun m =>
    let q := w.rd (CAN_BCFG b m)
    CAN_BCFG_EN.on q && !CAN_BCFG_DIR.on q && CAN_BCFG_IDE.on q
      && ((id ^^^ BitVec.ofNat 29 (w.fld (CAN_BID b m) CAN_BID_VALUE)) &&& BitVec.ofNat 29 (w.fld (CAN_BMASK b m) CAN_BMASK_VALUE)
        &&& 0x03FFFFFF#29) == 0#29)

/-- R436, its rows in order. -/
def Wst.joinSched (w : Wst) : Wst :=
  let w := ((w.each 2 Wst.schedTrigs).each 2 Wst.schedBufs).each 2 Wst.schedCols
  let w := if w.rej then w else w.schedItems
  let w := if w.rej then w else w.schedWindows
  let w := if w.rej then w else w.schedOne
  let w := w.each 256 (fun s w =>
    if w.on (CNP_RXCFG s) CNP_RXCFG_EN && !w.slotMatch 0 s && !w.slotMatch 1 s then w.reject (CNP_RXCFG s) CNP_RXCFG_EN else w)
  w.each 256 (fun s w =>
    if w.on (CNP_RXCFG s) CNP_RXCFG_EN && w.slotMatch 0 s != w.slotMatch 1 s then w.warn 0x0061 0 (CNP_RXCFG s) 0 4 s else w)

/-- R472: band 1 is held to TLO of band 0 as it stands (log 107). -/
def Wst.joinPanel (w : Wst) : Wst :=
  let en := w.on PNL_CFG PNL_CFG_EN
  let bk := w.rd PNL_BANKS
  let (f, c, a) := (PNL_BANKS_FRAME.get bk, PNL_BANKS_CHARGE.get bk, PNL_BANKS_AGE.get bk)
  let w := if en && (f == c || f == a || c == a) then w.reject PNL_CFG PNL_CFG_EN else w
  if w.rej || !w.sects.contains (0x0070, 0) then w else
  let tlo (w : Wst) (b : Nat) : Int := (BitVec.ofNat 16 (w.fld (PNL_BAND b) PNL_BAND_TLO)).toInt
  let w := w.each 7 (fun i w =>
    if tlo w i + 30 ≤ tlo w (i + 1) then w
    else w.clamp (PNL_BAND (i + 1)) PNL_BAND_TLO (BitVec.ofInt 16 (tlo w i + 30)).toNat)
  let w := w.each 15 (fun i w =>
    w.clamp (PNL_GAMMA (i + 1)) PNL_GAMMA_VALUE (max (w.fld (PNL_GAMMA i) PNL_GAMMA_VALUE) (w.fld (PNL_GAMMA (i + 1)) PNL_GAMMA_VALUE)))
  let rs := 100000000 / (64 * w.fld PNL_CFG PNL_CFG_FRATE)
  let ew := rs * w.fld PNL_CFG PNL_CFG_EWF / 256
  let w := w.each 8 (fun b w =>
    if rs - ew - 100 < w.fld PNL_CFG PNL_CFG_RRATIO * ((w.fld (PNL_BAND b) PNL_BAND_ICODE * ew + 79999) / 80000) then
      w.warn 0x0070 0 (PNL_BAND b) 16 5 b else w)
  if en && !w.diagPoint 376 7 none then w.warn 0x0070 0 0 0 6 0 else w

/-- The working owners with the banks that wedging requires (R563). -/
def ownerNeeds (en : Bool) : List (Nat × Nat) :=
  [(2, 2), (3, 6), (4, 1), (5, 2), (6, 1), (7, 1), (8, if en then 3 else 0), (9, 2), (0xA, 1)]

/-- R579. -/
def Wst.joinMem (w : Wst) : Wst :=
  let en := w.on PNL_CFG PNL_CFG_EN && w.gradeF
  let banks (w : Wst) (o : Nat) : List Nat := (upTo 32).filter (fun b => w.fld (MEM_OWN b) MEM_OWN_OWNER == o)
  if w.rej then w else
  match (ownerNeeds en).find? (fun x => decide ((banks w x.1).length < x.2)) with
  | some x => { w.add ⟨0x0001, 0, 3, 0, 0, 5#32, w32 x.1⟩ with rej := true }
  | none =>
    let w := (ownerNeeds en).foldl (fun w x =>
      let bs := (banks w x.1).reverse
      (bs.take (bs.length - x.2)).foldl (fun w b => w.clamp (MEM_OWN b) MEM_OWN_OWNER 0) w) w
    if !en then w else
    if [PNL_BANKS_FRAME, PNL_BANKS_CHARGE, PNL_BANKS_AGE].all (fun f => w.fld (MEM_OWN (w.fld PNL_BANKS f)) MEM_OWN_OWNER == 8) then w
    else w.reject PNL_CFG PNL_CFG_EN

/-- R640. -/
def Wst.joinPwr (w : Wst) : Wst :=
  let eu := w.fld PWR_LCFG PWR_LCFG_HOLD_C * 171 / 200
  if eu < 130 then w.warn 0x0001 0 PWR_LCFG 0 7 (130 - eu) else w

/-- The joining rules in the order in which they stand in the manual. -/
def Wst.joins (w : Wst) : Wst :=
  w.joinAin.joinPoints.joinGroups.joinCall.joinCtrl.joinAout.joinDio.joinLanes.joinCan.joinSched.joinPanel.joinMem.joinPwr

/-! ### A whole image and a patch -/

/-- The entries of a register section and, for a tile's section, its AIN_TCFGt also where it is not named (R80). -/
def sectKeys (s : Sect) (ps : List (Nat × Word)) : List Nat :=
  let ks := ps.map (fun x => x.1 / 4)
  if s.typ = 0x0010 && !ks.contains (AIN_TCFG s.region) then AIN_TCFG s.region :: ks else ks

/-- The image of a target wedged whole (R488) over registers at their Reset values: its registers, the report, and whether
it is accepted. -/
def Shared.wedgeImage (h : Shared) (base : RegFile) (t : Nat) : Wst :=
  let m := h.image t
  let rs := m.sects.filter (fun s => s.typ != 0x0071)
  let ps := rs.map (fun s => (s, pairsOf (m.bytesOf s)))
  let v := ps.foldl (fun v x => x.2.foldl (fun v p => RegFile.wr v (p.1 / 4) p.2) v) base
  let w : Wst := ⟨v, m.sects.map (fun s => (s.typ, s.region)), [], false, h.fld MOD_IDENT MOD_IDENT_GRADE != 2⟩
  let w := (ps.flatMap (fun x => sectKeys x.1 x.2)).foldl (fun w k => if w.rej then w else w.single k) w
  if w.rej then w else w.joins

end Sys2Proof.Machine
end

