-- ==== Sys2Proof/Machine/Firing.lean ====
section
/-! DEFINITION. Firing of a lane and partial firing: R482–R499 of spec/15_firing_image.md, with what each unit does at
firing. -/

namespace Sys2Proof.Machine

/-- The firing work of a lane changed. -/
def Lane.setFire (l : Lane) (f : FireWork → FireWork) : Lane := { l with fire := f l.fire }

/-! ### A lane's core domain out of reset -/

/-- The strap that decides failure currents (R250). -/
def Lane.failStraps (h : Shared) (l : Lane) : Lane :=
  ((upTo 4).foldl (fun l g => l.setB (AO_GCFG g) AO_GCFG_STRAP (h.fld MOD_STRAP MOD_STRAP_AOF / 2 ^ g % 2 == 1)) l).failSync

/-- A lane whose core domain is off or in reset (R312, R314): everything at its reset word but the store, whose commit in progress
ends (R359), and what is known of its service (R361). -/
def Lane.coreReset (h : Shared) (l : Lane) : Lane :=
  let o : Lane := { id := l.id, store := l.commitLast.store }
  let o := o.setB REC_STAT REC_STAT_STORE_FAIL (l.on REC_STAT REC_STAT_STORE_FAIL)
  let o := o.wr CFG_FUSE (CFG_FUSE_KEY_SET.put h.start.key.isSome.toNat (CFG_FUSE_AUTH_REQ.put h.start.authReq.toNat 0#32))
  let o := o.wr SYS_ID (SYS_ID_LANE.put l.id.num (SYS_ID_PREFER.put (h.fld MOD_STRAP MOD_STRAP_LANE) 0#32))
  let o := o.setF CFG_STAT CFG_STAT_PREF h.start.srec.pref
  { o.failStraps h with storeBack := l.storeBack, peerStoreFail := l.peerStoreFail }

/-- What checks 1 to 10 find on a target (R494, R502). -/
def Lane.checkTarget (h : Shared) (l : Lane) (t : Nat) : Lane :=
  let m := h.image t
  let e := h.checkImage t
  let code := (e.map (fun x => x.given.toNat)).getD 0
  let w := CFG_TGT_CHECK.put (if e.isNone then 1 else 2) (CFG_TGT_AUTH.put m.auth.toNat (CFG_TGT_KIND.put m.kind 0#32))
  (l.wr (CFG_TGT t) (CFG_TGT_REJ.put code w)).wr (CFG_TGTID t) m.id

/-- A firing or partial firing has rejected a target (R494). -/
def Lane.targetBad (t code : Nat) (l : Lane) : Lane :=
  l.wr (CFG_TGT t) (CFG_TGT_CHECK.put 2 (CFG_TGT_REJ.put code (l.rd (CFG_TGT t))))

/-! ### Checking and wedging a slot (R485, R486, R491) -/

/-- The report of the newest check stored (R491). `src`: 0 firing, 1 and 2 the patch buffers. -/
def Lane.setReport (src : Nat) (es : List RepEntry) (l : Lane) : Lane :=
  let bad := es.any (fun e => e.kind == 3)
  let w := CFG_REP_ENTRIES.put (min 512 es.length) (CFG_REP_OVF.put (decide (512 < es.length)).toNat (CFG_REP_SRC.put src 0#32))
  ((l.wr CFG_REP (CFG_REP_REJECTED.put bad.toNat w)).wr CFG_REPCRC (repCrc es)).setFire (fun f => { f with report := es.take 512 })

/-- A slot taken through the checks and wedging: the report, and the wedged image where it is accepted. -/
def Shared.trySlot (h : Shared) (base : RegFile) (t : Nat) : List RepEntry × Option Wst :=
  match h.checkImage t with
  | some e => ([e], none)
  | none =>
    let w := h.wedgeImage base t
    (w.ents, if w.rej then none else some w)

/-- The slots a lane tries, the preferred one first (R485). -/
def slotOrder (pref : Nat) : List Nat := if pref = 0 then [0, 1] else [1, 0]

/-- A lane checks and wedges the next slot: its new state, and the reject entry if the slot was rejected. -/
def Lane.fireSlot (h : Shared) (l : Lane) : Lane × Option (Nat × RepEntry) :=
  match (slotOrder h.start.srec.pref).find? (fun t => !l.fire.rejs.any (fun x => x.1 == t)) with
  | none => (l, none)
  | some t =>
    let x := h.trySlot l.regs t
    let l := l.setReport 0 x.1
    match x.2 with
    | some _ => (l.setFire (fun f => { f with res := some ⟨t, (h.image t).id, (h.image t).build, x.1, true, []⟩ }), none)
    | none =>
      let e := x.1.getLastD (rejEntry 0x05 0 0 0)
      let l := (l.targetBad t e.given.toNat).setFire (fun f => { f with rejs := f.rejs ++ [(t, e)] })
      let l := if l.fire.rejs.length < 2 then l
        else l.setFire (fun f => { f with res := some ⟨3, 0#32, 0#32, x.1, false, []⟩ })
      (l, some (t, e))

/-- Two firing results agree (R492, R493): slot, acceptance, REPCRC, and the regions replaced since the firing (log 92). -/
def sameResult (x y : FireRes) : Bool := x.slot == y.slot && x.ok == y.ok && repCrc x.ents == repCrc y.ents && x.repl == y.repl

/-! ### Loading the units (R18, R479, R485) -/

/-- Address `a` in the identifier of buffer `m`, where the schedule owns it. -/
def Lane.addrBuf (a b : Nat) (l : Lane) (m : Nat) : Lane :=
  let c := l.rd (CAN_BCFG b m)
  if CAN_BCFG_EN.on c && CAN_BCFG_DIR.on c && !CAN_BCFG_OWNER.on c then l.setF (CAN_BID b m) ⟨13, 7⟩ a else l
/-- Address `a` in the buffers of a bus. -/
def Lane.addrBus (l : Lane) (a b : Nat) : Lane := (upTo 128).foldl (Lane.addrBuf a b) l
/-- The node address in force and the schedule-owned identifiers that carry it (R425). -/
def Lane.addrFire (h : Shared) (l : Lane) : Lane :=
  let a := if l.on TIME_CFG TIME_CFG_NSRC then l.fld TIME_CFG TIME_CFG_NADDR else h.fld MOD_STRAP MOD_STRAP_NODE
  let l := (l.setF TIME_ST TIME_ST_NADDR a).setB TIME_ST TIME_ST_NADDR_BAD (a == 0 || a == 127)
  (l.addrBus a 0).addrBus a 1

/-- The glyphs and list texts of a table section (R481). -/
def tableText (bs : List Byte) : Trie (List Byte) :=
  let t := (upTo 256).foldl (fun (t : Trie (List Byte)) g => t.upd [] g ((bs.drop (16 * g)).take 16)) .nil
  (upTo 512).foldl (fun t k => t.upd [] (256 + k) ((bs.drop (4096 + 28 * k)).take 28)) t

/-- The bytes of the table section of the slot, if it has one. -/
def Image.table (m : Image) : Option (List Byte) := (m.sects.find? (fun s => s.typ == 0x0071)).map m.bytesOf

/-- Aging ledger copies (R474, R475): sequence number and counts of a valid copy. -/
def Shared.agingCopy (h : Shared) (i : Nat) : Option (Nat × List Byte) :=
  let bs := h.norRead (0x820000 + 0x20000 * i) 65544
  if imgNat bs 65540 4 = (crc32c (bs.take 65540)).toNat then some (imgNat bs 65536 4, bs.take 65536) else none
/-- The newer valid copy with its number. -/
def Shared.agingNewest (h : Shared) : Option (Nat × Nat × List Byte) :=
  match h.agingCopy 0, h.agingCopy 1 with
  | some a, some b => if a.1 < b.1 then some (1, b) else some (0, a)
  | some a, none => some (0, a)
  | none, some b => some (1, b)
  | none, none => none

/-- Words of bytes, little-endian. -/
def wordsOf : List Byte → List Nat
  | a :: b :: c :: d :: rest => leNat [a, b, c, d] :: wordsOf rest
  | _ => []

/-- The panel after firing (R448, R451, R455, R465, R470): the texts and the aging ledger are loaded also with EN clear, as a partial
firing may set it (R481, R496). -/
def Lane.pnlFire (h : Shared) (m : Image) (l : Lane) : Lane :=
  if h.noPanel then l else
  let l := l.setF PNL_ST PNL_ST_SRC (l.fld PNL_CFG PNL_CFG_SRC0)
  let txt := match m.table with
    | some bs => tableText bs
    | none => .nil
  let l := l.setPnl (fun w => { w with txt := txt })
  match h.agingNewest with
  | some (_, _, bs) =>
    let rows := (upTo 64).foldl (fun (t : Trie PixRow) y => t.upd {} y { age := wordsOf ((bs.drop (1024 * y)).take 1024) }) .nil
    l.setPnl (fun w => { w with rows := rows })
  | none => l.setB PNL_ST PNL_ST_AGE_NEW true

/-- First-out is armed in the groups that use it. -/
def Lane.armGroups (l : Lane) : Lane :=
  (upTo 128).foldl (fun l k => if l.on (ALM_GRPDLY k) ALM_GRPDLY_FO_EN then l.setB (ALM_GRPST k) ALM_GRPST_FO_ARMED true else l) l

/-- The accepted slot enters the banks, every word of which has been written with zeros before (R562): the registers as wedged, and what
CFG shows of it. -/
def Lane.loadImage (h : Shared) (r : FireRes) (l : Lane) : Lane :=
  let m := h.image r.slot
  let w := h.wedgeImage l.regs r.slot
  let l := { l with regs := RegFile.wr w.v RING_CFG (resetWord RING_CFG), mem := [], mw := { l.mw with bad := [] } }
  let pref := h.start.srec.pref
  let st := CFG_STAT_FSLOT.put r.slot (CFG_STAT_FALLBACK.put (r.slot != pref).toNat (CFG_STAT_PREF.put pref 0#32))
  let st := CFG_STAT_REJ_PREF.put (l.fire.rejs.any (fun x => x.1 == pref)).toNat
    (CFG_STAT_FIRE_MIS.put (l.fld CFG_STAT CFG_STAT_FIRE_MIS) st)
  let l := ((l.wr CFG_STAT st).wr CFG_ID m.id).wr CFG_BUILD m.build
  l.setFire (fun f => { f with sects := w.sects })

/-- The duty station after firing (R184). -/
def Lane.dutyFire (l : Lane) : Lane :=
  (l.setF ALM_CALLST ALM_CALLST_DUTY (l.fld ALM_CALLCFG ALM_CALLCFG_DUTY0)).setB ALM_CALLST ALM_CALLST_NODUTY
    (!(upTo 16).any (fun s => l.on (ALM_WS s) ALM_WS_FITTED && l.on (ALM_WS s) ALM_WS_ELIG))

/-- The units after a slot is loaded: each begins as its chapter says firing leaves it. -/
def Lane.unitsFire (h : Shared) (g : Nat) (m : Image) (l : Lane) : Lane :=
  let l := (upTo 32).foldl (Lane.loopFire g) (((l.failStraps h).addrFire h).armGroups).dutyFire
  let l := (upTo 24).foldl (fun l n => (l.aoFire n).hartFire n) l
  (((l.dioFire).canFire 0).canFire 1).pnlFire h m

/-- A lane with the accepted slot loaded: the registers as wedged and every unit in its firing state at boundary `g`. -/
def Lane.loadSlot (h : Shared) (g : Nat) (r : FireRes) (l : Lane) : Lane :=
  let l := (l.loadImage h r).unitsFire h g (h.image r.slot)
  { l with endRegs := l.regs }

/-- The ring address and enable of the fired image in the shared block (R215, R479). -/
def Shared.ringFire (h : Shared) (r : FireRes) : Shared :=
  h.wr RING_CFG (RegFile.rd (h.wedgeImage .nil r.slot).v RING_CFG)

/-! ### Partial firing (R496–R499) -/

/-- The keys of a map row's registers. -/
def dimKeys : Nat → List (Nat × Nat) → List Nat
  | b, [] => [b]
  | b, (st, n) :: rest => (upTo n).flatMap (fun i => dimKeys (b + i * st) rest)
/-- Every image register of a region. -/
def regionKeys (typ region : Nat) : List Nat :=
  ((regRows.filter (fun r => !r.img.isEmpty)).flatMap (fun r => dimKeys r.base r.dims)).filter (fun k => secOf k == (typ, region))

/-- The mask of a register's image fields. -/
def imgMask (k : Nat) : Word := (imgFields k).foldl (fun m f => m ||| f.mask) 0#32

/-- The patch in buffer `b` checked and wedged together with the image in force of the lane (R496). -/
def Lane.runPatch (h : Shared) (l : Lane) (b : Nat) : PatchRes :=
  let m := h.image (2 + b)
  let bad (typ region code : Nat) (es : List RepEntry) : PatchRes := ⟨false, typ, region, code, es, [], []⟩
  match h.checkImage (2 + b) with
  | some e => bad e.typ e.region e.given.toNat [e]
  | none =>
    match m.sects with
    | [] => bad 0 0 0x09 [rejEntry 0x09 0 0 0]
    | s :: _ =>
      if m.base != l.rd CFG_ID || !partialType s.typ then bad s.typ s.region 0x09 [rejEntry 0x09 s.typ s.region 0]
      else
        let ks := regionKeys s.typ s.region
        let table := s.typ == 0x0071
        let ps := if table then [] else pairsOf (m.bytesOf s)
        let v := ks.foldl (fun v k => RegFile.wr v k (resetWord k)) (RegFile.wr l.regs RING_CFG (h.rd RING_CFG))
        let v := ps.foldl (fun v p => RegFile.wr v (p.1 / 4) p.2) v
        let ss := if l.fire.sects.contains (s.typ, s.region) then l.fire.sects else l.fire.sects ++ [(s.typ, s.region)]
        let w : Wst := ⟨v, ss, [], false, h.fld MOD_IDENT MOD_IDENT_GRADE != 2⟩
        let w := (sectKeys s ps).foldl (fun w k => if w.rej then w else w.single k) w
        let w := if w.rej then w else w.joins
        if w.rej then bad s.typ s.region 0x05 w.ents else
        let more := (w.ents.filter (fun e => e.kind == 1)).map (fun e => e.addr / 4)
        let ks := ks ++ more.filter (fun k => !ks.contains k)
        ⟨true, s.typ, s.region, 0, w.ents, ks.map (fun k => (k, RegFile.rd w.v k)), if table then m.bytesOf s else []⟩

/-- The partial firing at the head of the queue changed. -/
def Lane.pfHead (l : Lane) (f : PFire → PFire) : Lane :=
  match l.fire.pf with
  | [] => l
  | x :: xs => l.setFire (fun w => { w with pf := f x :: xs })

/-- Wedging of a patch ends in a lane (R497 step 2). -/
def Lane.patchDone (h : Shared) (b : Nat) (l : Lane) : Lane :=
  match l.fire.pf with
  | x :: _ =>
    if x.buf != b || x.res.isSome then l else
    let r := l.runPatch h b
    (l.setReport (1 + b) r.ents).pfHead (fun x => { x with res := some r })
  | [] => l

/-- Step 3 at m + 40 ms: the record, or the incomplete marker of unit 7 where wedging has not ended (R320, R497). -/
def Lane.patchSay (g : Nat) (l : Lane) : Lane :=
  match l.fire.pf with
  | x :: _ =>
    if x.said || g != x.m + 40000000 then l else
    let l := l.pfHead (fun x => { x with said := true })
    match x.res with
    | some r => l.record 0x0C04 g (w32 x.buf) (w32 (sectWord r.typ r.region)) (w32 (r.ok.toNat + 65536 * min 512 r.ents.length)) (repCrc r.ents)
    | none => { l with adj := { l.adj with inc := some 7 } }
  | [] => l

/-- The fields of a register that a partial firing has changed, other than `f`s listed. -/
def changedOnly (k : Nat) (old new : Lane) (fs : List Fld) : Bool :=
  let m := fs.foldl (fun m f => m ||| f.mask) 0#32
  (old.rd k ^^^ new.rd k) &&& ~~~ m == 0#32

/-- Points of a replaced region (R150, R179): a point whose condition, sources or priority changed starts afresh, and its shelving
ends without a record. -/
def Lane.patchPoints (g r : Nat) (old l : Lane) : Lane :=
  (upTo 128).foldl (fun l i =>
    let p := 128 * r + i
    let keep := old.fld (PT_CFG p) PT_CFG_COND == l.fld (PT_CFG p) PT_CFG_COND && old.fld (PT_CFG p) PT_CFG_PRIO == l.fld (PT_CFG p) PT_CFG_PRIO
      && old.rd (PT_SRC p) == l.rd (PT_SRC p) && old.rd (PT_REF p) == l.rd (PT_REF p)
    if keep then l else
      let l := l.ptReconf g p
      if l.on (ALM_SHLV p) ALM_SHLV_SHELVED then l.shelfEnd p else l) l

/-- A group whose inhibit source or REL_DLY has changed returns to inactive at boundary `g`; a release makes its record and event
(R174, R179; log 80). -/
def Lane.patchGroup (g : Nat) (old l : Lane) (k : Nat) : Lane :=
  let s0 := old.rd (ALM_GRPSRC k)
  let s1 := l.rd (ALM_GRPSRC k)
  if [ALM_GRPSRC_KIND, ALM_GRPSRC_INDEX, ALM_GRPSRC_SUB].all (fun f => f.get s0 == f.get s1)
      && old.fld (ALM_GRPDLY k) ALM_GRPDLY_REL_DLY == l.fld (ALM_GRPDLY k) ALM_GRPDLY_REL_DLY then l else
  let st := l.rd (ALM_GRPST k)
  let l := l.wr (ALM_GRPST k) (ALM_GRPST_INH.put 0 (ALM_GRPST_RUN.put 0 (ALM_GRPST_RCNT.put 0 st)))
  if ALM_GRPST_INH.on st then (l.record 0x0201 g (w32 k) 0#32 0#32 0#32 rankGroup).ev evInhibit else l
/-- A rule whose cause, TRIG, effect or HOLD has changed returns to inactive, with its record (R174, R179). -/
def Lane.patchRule (g : Nat) (old l : Lane) (r : Nat) : Lane :=
  let c0 := old.rd (ALM_RULECAUSE r)
  let c1 := l.rd (ALM_RULECAUSE r)
  if [ALM_RULECAUSE_CAUSE, ALM_RULECAUSE_TRIG].all (fun f => f.get c0 == f.get c1)
      && old.rd (ALM_RULEEFF r) == l.rd (ALM_RULEEFF r) && old.rd (ALM_RULEHOLD r) == l.rd (ALM_RULEHOLD r) then l else
  let act := l.on (ALM_RULEST r) ALM_RULEST_ACT
  let l := l.wr (ALM_RULEST r) 0#32
  if act then l.record 0x0202 g (w32 r) 0#32 (w32 (ALM_RULECAUSE_CAUSE.get c1)) 0#32 rankGroup else l
/-- Groups and rules of a replaced region (R179). -/
def Lane.patchGroups (g : Nat) (old l : Lane) : Lane :=
  (upTo 256).foldl (Lane.patchRule g old) ((upTo 128).foldl (Lane.patchGroup g old) l)

/-- A loop returned to its firing state by a partial firing, with its record (R238; the record's parameters: log 81). -/
def Lane.loopReconf (g : Nat) (l : Lane) (n : Nat) : Lane :=
  let l := l.loopFire g n
  if l.loopType n = 0 then l else l.record 0x0504 g (w32 n) 0#32 0#32 0#32 n

/-- Loop `n` after a partial firing (R237, R238): a changed active set waits for the swap of the next period start; a swap
that SEL_SET has left waiting stays the one that is made. -/
def Lane.patchLoop (g : Nat) (old l : Lane) (n : Nat) : Lane :=
  let same (ks : List Nat) : Bool := ks.all (fun k => old.rd k == l.rd k)
  let cfg := changedOnly (CTRL_CFG n) old l [CTRL_CFG_BADACT, CTRL_CFG_STALE_OK, CTRL_CFG_SPTRK, CTRL_CFG_MODE0, CTRL_CFG_NOTCH_EN, CTRL_CFG_SET0]
  let dst := (upTo 2).flatMap (fun d => [CTRL_DST n d, CTRL_DLO n d, CTRL_DHI n d])
  if !cfg || !same ([CTRL_PVSRC n, CTRL_RSRC n] ++ dst) then l.loopReconf g n else
  let set := l.fld (CTRL_ST n) CTRL_ST_SET
  let coef := [CTRL_KP n set, CTRL_TI n set, CTRL_TD n set, CTRL_N n set, CTRL_OLO n set, CTRL_OHI n set]
  let l := if same coef || l.loopType n == 0 || l.on (CTRL_ST n) CTRL_ST_SWAP_PEND then l
    else (l.setB (CTRL_ST n) CTRL_ST_SWAP_PEND true).setLoop n { l.loop n with swapTo := set }
  if !old.on (CTRL_CFG n) CTRL_CFG_NOTCH_EN && l.on (CTRL_CFG n) CTRL_CFG_NOTCH_EN then l.setLoop n { l.loop n with notchNew := true } else l

/-- A loop output of a replaced region (R268, R270): a new MODE switches it off; SET_MA and FORCED end. -/
def Lane.patchAo (g : Nat) (old l : Lane) (n : Nat) : Lane :=
  let l := if old.fld (AO_CFG n) AO_CFG_MODE == l.fld (AO_CFG n) AO_CFG_MODE then l else l.aoModeOff g n
  (l.setB (AO_ST n) AO_ST_FORCED false).setAo n { l.ao n with setMa := none }

/-- What each unit makes of the registers of an accepted patch (R497 step 4); `old` is the lane before it. -/
def Lane.patchUnits (g : Nat) (r : PatchRes) (old l : Lane) : Lane :=
  match r.typ with
  | 0x0010 => (upTo 8).foldl (fun l i =>
      let n := 8 * r.region + i
      let f := AIN_VFLG_SINGLE.put 0 (AIN_VFLG_SP_CAUSE.put 0 (AIN_VFLG_DIS_CNT.put 0 (AIN_VFLG_RST_CNT.put 0 (l.rd (AIN_VFLG n)))))
      ((l.wr (AIN_VFLG n) f).setB (AIN_CFG n) AIN_CFG_EXC_OFF false).setChan n
        { l.chan n with trimA := none, trimB := none, newA := none, newB := none, latest := none })
      { l with cut := { l.cut with inj := l.cut.inj.filter (fun x => x.ch / 8 != r.region) } }
  | 0x0020 => Lane.patchPoints g r.region old l
  | 0x0021 => Lane.patchGroups g old l
  | 0x0030 => (upTo 32).foldl (Lane.patchLoop g old) l
  | 0x0040 => ((upTo 6).foldl (fun l i => Lane.patchAo g old l (6 * r.region + i)) l).failSync
  | 0x0050 => l.dioFire
  | 0x0071 => l.setPnl (fun w => { w with txt := tableText r.table, wrote := w.wrote ++ [2] })
  | _ => l

/-- The registers of an accepted patch written into a lane, SRC of the digital outputs as their command sources now name
them (R294, R311), and what each unit makes of it (R497 step 4). -/
def Lane.patchLoad (g : Nat) (r : PatchRes) (old : Lane) : Lane :=
  let l := r.regs.foldl (fun l x => let m := imgMask x.1; l.wr x.1 ((l.rd x.1 &&& ~~~ m) ||| (x.2 &&& m))) old
  Lane.patchUnits g r old { l with regs := doSources l.regs }

/-- The settings of channel `n` of a replaced region wait for its next word instant where they differ from those in force (R84,
R90); a channel that was disabled starts at a word instant that lies at the boundary. -/
def Shared.frontPatch (h : Shared) (cfg pcfg : Word) (n g : Nat) : Shared :=
  let c := h.chan n
  let exc := excOf c.front != excOf cfg
  let off := AIN_CFG_SENSOR.get c.front == 0
  if (h.tile (tileOf n)).loaded && off && AIN_CFG_SENSOR.get cfg != 0 && isWordInstant (AIN_PCFG_RATE.get pcfg) g then
    let h := h.loadChan cfg pcfg n
    h.setChan n { ((h.chan n).restart false) with started := true, lastW := g, excBusy := isRtd (AIN_CFG_SENSOR.get cfg) }
  else if off && (h.tile (tileOf n)).loaded then h.setChan n { c with excBusy := isRtd (AIN_CFG_SENSOR.get cfg) }
  else if !off && (h.tile (tileOf n)).loaded && (c.due || c.front != frontOf cfg || c.rate != AIN_PCFG_RATE.get pcfg) then
    (h.setChan n { c with due := true, excDue := c.excDue || exc, excBusy := c.excBusy || exc }).frontFrom cfg pcfg n g
  else h

/-- The front ends and inputs of an accepted patch in the shared stages (R84, R85, R130, R268, R286). -/
def Shared.patchLoad (h : Shared) (g : Nat) (r : PatchRes) (old new : Lane) : Shared :=
  match r.typ with
  | 0x0010 => (upTo 8).foldl (fun h i =>
      let n := 8 * r.region + i
      (h.frontPatch (new.rd (AIN_CFG n)) (new.rd (AIN_PCFG n)) n g).wr (AIN_INJST n) 0#32) (h.cjcUse (new.rd (AIN_TCFG r.region)) r.region)
  | 0x0040 => (upTo 6).foldl (fun h i =>
      let n := 6 * r.region + i
      if old.fld (AO_CFG n) AO_CFG_MODE == new.fld (AO_CFG n) AO_CFG_MODE then h else h.aoModeOff n) h
  | 0x0050 => h.diRestart g ((upTo 32).filter (fun n =>
      old.fld (DI_CFG n) DI_CFG_INV != new.fld (DI_CFG n) DI_CFG_INV || old.fld (DI_CFG n) DI_CFG_DEB != new.fld (DI_CFG n) DI_CFG_DEB))
  | _ => h

/-- Step 4 is due in a lane at boundary `g` (R497): the first alarm-scan boundary at or after m + 50 ms. -/
def Lane.patchDue (g : Nat) (l : Lane) : Option (PFire × PatchRes) :=
  match l.fire.pf with
  | x :: _ =>
    if g % 10000000 = 0 && x.m + 50000000 ≤ g then x.res.map (fun r => (x, r)) else none
  | [] => none

/-- The queue after the partial firing at its head has ended at boundary `g`: the next one starts (R498). -/
def Lane.patchNext (g : Nat) (l : Lane) : Lane :=
  let l := l.setFire (fun f => { f with pf := f.pf.drop 1 })
  match l.fire.pf with
  | x :: _ => (l.pfHead (fun x => { x with m := g })).setF (CFG_PST x.buf) CFG_PST_PSTATE 2
  | [] => l

/-- The result that the arbiter holds for the lane names a region as replaced since the firing (R493). -/
def Lane.replaced (typ region : Nat) (l : Lane) : Lane :=
  l.setFire (fun f => { f with res := f.res.map (fun r => { r with repl := r.repl.filter (· != (typ, region)) ++ [(typ, region)] }) })

/-- Step 4 in a lane (R497). REJ keeps the code of the newest rejection (R502). -/
def Lane.patchApply (g : Nat) (l : Lane) : Lane :=
  match l.patchDue g with
  | none => l
  | some (x, r) =>
    let st := CFG_PST_PSTATE.put 0 (CFG_PST_OUTCOME.put (if r.ok then 1 else 2) (CFG_PST_REJ.put (if r.ok then l.fld (CFG_PST x.buf) CFG_PST_REJ else r.code) 0#32))
    let l := (l.wr (CFG_PST x.buf) st).ev evPartial
    let l := if !r.ok then l.targetBad (2 + x.buf) r.code else
      let l := ((l.patchLoad g r).replaced r.typ r.region).bump CFG_STAT CFG_STAT_PATCHES
      l.record 0x0C05 g (w32 x.buf) (w32 (sectWord r.typ r.region)) (w32 (l.fld CFG_STAT CFG_STAT_PATCHES)) 0#32
    l.patchNext g

/-- Step 4 in the node: the lanes, and the shared stages under the lane with output authority. -/
def State.patchApply (g : Nat) (s : State) : State :=
  let old := s.lead
  let s' := s.both (Lane.patchApply g)
  match old.patchDue g with
  | some (_, r) => if r.ok then (s'.withSh (s.sh.patchLoad g r old s'.lead)).doEval else s'
  | none => s'

/-! ### Meanings -/

/-- PARTIAL_WEDGING_DONE (R497). -/
def execPartialWedgingDone (lane : LaneId) (buf : Fin 2) (s : State) : Res := .next (s.upd lane (Lane.patchDone s.sh buf))
/-- PARTIAL_FIRING_WEDGED (R497). -/
def execPartialFiringWedged (s : State) : Res := .next (s.both (Lane.patchSay s.sh.gt))
/-- PARTIAL_FIRING_APPLY (R497). -/
def execPartialFiringApply (s : State) : Res := .next (s.patchApply s.sh.gt)

end Sys2Proof.Machine
end

