-- ==== Sys2Proof/Machine/Lanes.lean ====
section
/-! DEFINITION. Lane states and their transitions, output authority, and the SYS commands: R312–R315, R321, R336, R337 of
spec/10_lanes_and_failover.md. -/

namespace Sys2Proof.Machine

/-! ### States (R312–R314) -/

/-- The lane INSTEP of a lane that is not SHADOW: ACTIVE with its standby in step (R313). -/
def Lane.stepWith (o l : Lane) : Lane :=
  if l.st == .shadow then l else { l with instep := l.st == .active && o.st == .shadow && o.instep }
/-- INSTEP of both lanes. -/
def State.stepSync (s : State) : State := { s with a := Lane.stepWith s.b s.a, b := Lane.stepWith s.a s.b }

/-- SYS_STATE of a lane whose core domain is on; UNRES is shown in both lanes (R326). -/
def Lane.showState (auth : Option LaneId) (hold : Bool) (o l : Lane) : Lane :=
  if l.st == .off then l else
  let w := SYS_STATE_STATE.put l.st.code (SYS_STATE_INSTEP.put l.instep.toNat (l.rd SYS_STATE))
  let w := SYS_STATE_AUTH.put (auth == some l.id).toNat (SYS_STATE_PEER.put o.st.code w)
  let w := SYS_STATE_UNRES.put (l.on SYS_STATE SYS_STATE_UNRES || o.on SYS_STATE SYS_STATE_UNRES).toNat w
  l.wr SYS_STATE (SYS_STATE_HOLD.put hold.toNat w)
/-- SYS_STATE of both lanes shows the node as it stands. -/
def State.sysSync (s : State) : State :=
  { s with a := Lane.showState s.sh.auth s.sh.hold s.b s.a, b := Lane.showState s.sh.auth s.sh.hold s.a s.b }

/-- The lane-state event in the lanes that are not OFF. -/
def State.laneEvent (s : State) : State := State.onLanes (fun l => l.st != .off) (fun l => l.evNow evLaneState) s

/-- The record and the event of a transition of lane `i` from the state that `old` shows (R314). -/
def State.laneSay (i : LaneId) (old : Lane) (row outcome : Nat) (s : State) : State :=
  let n := s.lane i
  (s.sysRec 0x0801 i.num (n.st.code + 8 * n.instep.toNat + 16 * old.st.code + 128 * old.instep.toNat) row outcome).laneEvent

/-- A transition of R314: `row` is the row of its table, counted from 1. -/
def State.laneTo (i : LaneId) (st : LaneSt) (instep : Bool) (row outcome : Nat) (s : State) : State :=
  let old := s.lane i
  if old.st == st && old.instep == instep then s else
  ((s.upd i (fun l => { l with st := st, instep := instep })).stepSync.sysSync).laneSay i old row outcome

/-- Restricted operation ends on both buses where output authority passes from one lane to the other (R399). DESIGN CHOICE (log 76):
whether or not the lanes are in step. -/
def State.authRestrict (a : Option LaneId) (s : State) : State :=
  if a.isSome && s.sh.auth.isSome && a != s.sh.auth then
    s.both (fun l => [0, 1].foldl (fun l b => l.canRestrict b s.sh.gt 3 false) l)
  else s

/-- Output authority moves (R26); the CAN controllers change with it (R333), and the ring bypass closes where none is left (R210). -/
def State.setAuth (a : Option LaneId) (s : State) : State :=
  let s := s.authRestrict a
  let s := ((s.withSh { s.sh with auth := a }).sysSync).canSync
  s.ringSync s.sh.gt
/-- The arbiter holds every output, or holds no more (R24). -/
def State.setHold (v : Bool) (s : State) : State := (s.withSh { s.sh with hold := v }).sysSync

/-- A reset of the node with the given cause begins at the next boundary; the first cause stands. None acts in bisque mode
(R521). -/
def State.resetNext (cause : Nat) (s : State) : State :=
  if s.sh.bisque then s else s.withSh (s.sh.setStart (fun t => { t with resetDue := some (t.resetDue.getD cause) }))

/-- A lane becomes RETIRED, if its core domain is on: it computes nothing more, its store takes no further records after the commit in
progress, and no copy goes on (R312, R334, R359). -/
def State.retire (i : LaneId) (row outcome : Nat) (s : State) : State :=
  let s := if (s.lane i).st == .off then s else s.laneTo i .retired false row outcome
  let s := State.onLanes (fun l => l.st != .off) (fun l => l.setB REC_STAT REC_STAT_MIRRORING false) s
  s.upd i (fun l =>
    { l with rcd := { l.rcd with staging := [], spill := [] }, writes := [], cut := {}, formed := [], raised := 0#192,
             link := { l.link with fwd := [], wfwd := [], kept := [] }, adj := { l.adj with catchUp := 0, sw := none } })

/-- A lane detects a fault of its own with the unit it was found in (R321): in step or in adjudication it is reported; the
ACTIVE lane without a lane in step retires, and the node resets at the next boundary, where no lane holds output authority any
more (R26, R314). -/
def State.laneFault (i : LaneId) (unit : Nat) (s : State) : State :=
  let l := s.lane i
  if l.instep || l.st == .adjudicating then
    s.upd i (fun l => { l with adj := { l.adj with pre := some (l.adj.pre.getD unit) } })
  else if l.st == .active then ((s.retire i 14 0).setHold true).resetNext 5
  else s

/-! ### Core domains on and off -/

/-- Registers of LANEx_AON, which a reset of the core domain leaves alone (R612): events, CORR and the ledger. -/
def aonKeys : List Nat :=
  (upTo 6).flatMap (fun w => [EVT_PEND w, EVT_MASK w, EVT_CNP w]) ++ [EVT_CNPCFG, EVT_CNPST, TIME_CORR, PWR_LST, PWR_LPWR, PWR_LPAVG,
    PWR_LETOT, PWR_LEEMG, PWR_LEREM, PWR_LHOLD, PWR_LTRIP]
/-- Registers at `ks` kept from another register file. -/
def keepRegs (ks : List Nat) (old new : RegFile) : RegFile := ks.foldl (fun r k => RegFile.wr r k (RegFile.rd old k)) new

/-- The fused counts of spare columns (R575). -/
def Lane.showSpares (l : Lane) : Lane :=
  (upTo 32).foldl (fun l b => l.setF (MEM_BST b) MEM_BST_SPARES (min 4 (Config.spares b).toNat)) l

/-- The core domain of a lane in reset, its always-on domain kept. -/
def Lane.coreDown (h : Shared) (l : Lane) : Lane :=
  let n := l.coreReset h
  { n with regs := keepRegs aonKeys l.regs n.regs, led := l.led, clk := l.clk }

/-- A lane whose core domain is switched off; the writes it has not forwarded wait to be counted as lost (R332). -/
def Lane.coreOff (h : Shared) (l : Lane) : Lane :=
  let n := l.coreDown h
  { n with link := { n.link with wfwd := l.link.wfwd, kept := l.link.kept } }

/-- The core domain of a lane is switched off (R314, R615). In the other lane the in-step condition stands until it finds
MISSING. -/
def State.laneOff (i : LaneId) (s : State) : State :=
  let old := s.lane i
  if old.st == .off then s else
  let s := (s.upd i (Lane.coreOff s.sh)).sysSync
  (s.sysRec 0x0801 i.num (16 * old.st.code + 128 * old.instep.toNat) 1 0).laneEvent

/-- The reset of a lane's core domain is released: banks zeroed, targets checked, FIRING (R314, R502, R562). -/
def State.laneFire (i : LaneId) (s : State) : State :=
  let s := s.upd i (fun l => (upTo 4).foldl (Lane.checkTarget s.sh) (Lane.coreDown s.sh l).showSpares)
  let s := s.upd i (fun l => { l with mw := { l.mw with passAt := s.sh.gt } })
  s.laneTo i .firing false 3 0

/-- A domain's ON and GOOD (R612, R613). -/
def Shared.domSet (h : Shared) (d : Nat) (on : Bool) : Shared :=
  let h := (h.setB (PWR_DST d) PWR_DST_ON on).setB (PWR_DST d) PWR_DST_GOOD on
  h.setB PWR_DOM ⟨d, 1⟩ on

/-- REJOIN: the target's core domain is reset and the lane fires (R337). -/
def State.rejoin (i : LaneId) (s : State) : State :=
  let s := s.laneTo i .off false 15 0
  let d := 5 + i.num
  let h := (s.sh.domSet d true).setB (PWR_DST d) PWR_DST_FAULT false
  (s.withSh h).laneFire i

/-! ### SYS commands (R336, R337) -/

/-- SWAP moves output authority without a hold. -/
def State.swap (s : State) : State :=
  match s.sh.auth with
  | some i => (((s.laneTo i .shadow true 11 0).laneTo i.other .active true 12 0).setAuth (some i.other))
  | none => s

/-- RETIRE of a lane; the lane in step receives output authority from a target that holds it. Both records are formed when the
lanes are no longer in step (R346). -/
def State.retireCmd (i : LaneId) (s : State) : State :=
  let l := s.lane i
  if l.st != .active && l.st != .shadow then s
  else if s.sh.auth == some i then
    let old := s.lane i.other
    let s := (s.upd i.other (fun l => { l with st := .active, instep := false })).retire i 13 0
    (s.setAuth (some i.other)).laneSay i.other old 12 0
  else s.retire i 13 0

/-- UNRES in both lanes (R326). -/
def State.setUnres (v : Bool) (s : State) : State :=
  State.onLanes (fun l => l.st != .off) (fun l => l.setB SYS_STATE SYS_STATE_UNRES v) s
/-- UNRES of either lane. -/
def State.unres (s : State) : Bool := s.a.on SYS_STATE SYS_STATE_UNRES || s.b.on SYS_STATE SYS_STATE_UNRES

/-- Whether the unit refuses a SYS command at its effect boundary. -/
def State.sysRefused (s : State) (op : Nat) (i : LaneId) : Bool :=
  match op with
  | 1 => !s.inStep
  | 2 => (s.lane i).st == .retired || (s.lane i).st == .off || (s.sh.auth == some i && !s.inStep)
  | 3 => (s.lane i).st != .retired || (s.lane i.other).st != .active || (s.lane i.other).on LINK_STAT LINK_STAT_LOST
  | _ => !s.unres

/-- The outcome of a SYS command. -/
def State.sysStatus (s : State) (op ln : Nat) : Nat :=
  if op = 0 || 4 < op || 1 < ln then stInvalid
  else if s.sysRefused op (if ln = 0 then .A else .B) then stRefused else stDone

/-- What a SYS command does. -/
def State.sysEffect (s : State) (op : Nat) (i : LaneId) : State :=
  match op with
  | 1 => s.swap
  | 2 => s.retireCmd i
  | 3 => s.rejoin i
  | _ => s.setUnres false

/-- LAST_OP and LAST_LANE of a lane at the writing of a command. -/
def Lane.sysNote (op ln : Nat) (l : Lane) : Lane := (l.setF SYS_CMDST SYS_CMDST_LAST_OP op).setF SYS_CMDST SYS_CMDST_LAST_LANE ln
/-- STATUS of a lane after a command. -/
def Lane.sysDone (st : Nat) (l : Lane) : Lane :=
  let l := l.setF SYS_CMDST SYS_CMDST_STATUS st
  if 2 ≤ st then l.ev evSysRefused else l

/-- A SYS command at its effect boundary. -/
def State.sysCmd (s : State) (op ln : Nat) : State :=
  let st := s.sysStatus op ln
  let s := s.both (Lane.sysDone st)
  if st = stDone then s.sysEffect op (if ln = 0 then .A else .B) else s

/-- A SYS command written and taking effect. -/
def State.sysRow (s : State) (op ln : Nat) : State := (s.both (Lane.sysNote op ln)).sysCmd op ln

/-! ### Meanings -/

/-- SWAP (R337), written and taking effect at the newest boundary. -/
def execSwapLanes (lane : BitVec 1) (s : State) : Res := .next (s.sysRow 1 lane.toNat)
/-- RETIRE (R314, R337). -/
def execRetireLane (lane : BitVec 1) (s : State) : Res := .next (s.sysRow 2 lane.toNat)
/-- REJOIN (R337). -/
def execRejoin (lane : BitVec 1) (s : State) : Res := .next (s.sysRow 3 lane.toNat)
/-- CLR_UNRES (R326). -/
def execClrUnres (lane : BitVec 1) (s : State) : Res := .next (s.sysRow 4 lane.toNat)

end Sys2Proof.Machine
end

