-- ==== Sys2Proof/Machine/Transfer.lean ====
section
/-! DEFINITION. Transfer of images into the store, the CFG commands and the key fuses: R482–R484, R494–R500 of
spec/15_firing_image.md. The start record is written here too (R508–R510), since SET_PREF changes it. -/

namespace Sys2Proof.Machine

/-! ### The start record (R508–R510) -/

/-- The 64 bytes of a copy. -/
def SRec.bytes (r : SRec) : List Byte :=
  let b := leBytes 4 r.seq ++ leBytes 1 r.fails ++ leBytes 1 r.phase ++ leBytes 1 r.pref ++ leBytes 1 r.reason ++ leBytes 1 r.pflags
    ++ leBytes 1 r.vneg ++ leBytes 1 r.vcol ++ leBytes 1 r.frate ++ leBytes 1 r.ewf ++ leBytes 1 r.rratio ++ leBytes 1 r.icodeH
    ++ [0#8] ++ leBytes 6 r.aomode ++ List.replicate 38 0#8
  b ++ leBytes 4 (crc32c b).toNat

/-- The byte offset of a copy. -/
def srecAddr (c : Nat) : Nat := 0x860000 + 0x10000 * c

/-- A copy of the store, if it is valid. -/
def Shared.srecCopy (h : Shared) (c : Nat) : Option SRec :=
  let b := h.norRead (srecAddr c) 64
  let f (i : Nat) : Nat := imgNat b i 1
  if imgNat b 60 4 = (crc32c (b.take 60)).toNat then
    some ⟨imgNat b 0 4, f 4, f 5, f 6, f 7, f 8, f 9, f 10, f 11, f 12, f 13, f 14, imgNat b 16 6⟩
  else none

/-- The copy in use: the valid one with the higher SEQ (R509). -/
def Shared.srecUsed (h : Shared) : Option (Nat × SRec) :=
  match h.srecCopy 0, h.srecCopy 1 with
  | some a, some b => if a.seq < b.seq then some (1, b) else some (0, a)
  | some a, none => some (0, a)
  | none, some b => some (1, b)
  | none, none => none

/-- A write of the record in force begins: the sector of the other copy is erased. -/
def Shared.srecBegin (h : Shared) : Shared :=
  let c := match h.srecUsed with
    | some (c, _) => 1 - c
    | none => 0
  let r := { h.start.srec with seq := h.start.srec.seq + 1 }
  (h.norErase (srecAddr c) 65536).setStart (fun t => { t with srec := r, writing := some r, again := false, putAt := none })

/-- Fields of the record change, and MOD_START shows them. -/
def Shared.srecSet (h : Shared) (f : SRec → SRec) : Shared :=
  let h := h.setStart (fun t => { t with srec := f t.srec })
  h.wr MOD_START (MOD_START_FAILS.put h.start.srec.fails (MOD_START_PHASE.put h.start.srec.phase (h.rd MOD_START)))

/-- Fields of the record change at once: a write begins, or follows the one that runs (R510). -/
def Shared.srecNow (h : Shared) (f : SRec → SRec) : Shared :=
  let h := h.srecSet f
  if h.start.writing.isSome then h.setStart (fun t => { t with again := true }) else h.srecBegin

/-- Fields of the record change at a boundary: a write that fell due at the same boundary takes them in (R510). -/
def Shared.srecPut (h : Shared) (f : SRec → SRec) : Shared :=
  if h.start.writing.isSome && h.start.putAt == some h.gt then
    (h.srecSet f).setStart (fun t => { t with writing := some t.srec })
  else
    let run := h.start.writing.isSome
    let h := h.srecNow f
    if run then h else h.setStart (fun t => { t with putAt := some h.gt })

/-- A write ends; one that fell due meanwhile begins. -/
def Shared.srecDone (h : Shared) : Shared :=
  match h.start.writing with
  | none => h
  | some r =>
    let c := match h.srecUsed with
      | some (c, _) => 1 - c
      | none => 0
    let h := (h.norWrite (srecAddr c) r.bytes).setStart (fun t => { t with writing := none })
    if h.start.again then h.srecBegin else h

/-! ### Transfer (R494) -/

/-- XSTATE of a lane becomes `v`, with the transfer event of R547. -/
def Lane.xTo (v : Nat) (l : Lane) : Lane :=
  let old := l.fld CFG_XST CFG_XST_XSTATE
  let l := l.setF CFG_XST CFG_XST_XSTATE v
  if old = 1 || old = 3 || old = 4 || v = 5 then l.ev evTransfer else l

/-- The target of the open transfer. -/
def Lane.xTarget (l : Lane) : Nat := l.fld CFG_XST CFG_XST_TARGET
/-- XSTATE. -/
def Lane.xState (l : Lane) : Nat := l.fld CFG_XST CFG_XST_XSTATE
/-- The page offset. -/
def Lane.xOff (l : Lane) : Nat := l.fld CFG_XOFF CFG_XOFF_OFFSET

/-- The lane that commands the store: the leading one; in bisque mode that with authority. -/
def State.storeLane (s : State) : Lane :=
  match s.sh.auth with
  | some i => s.lane i
  | none => s.lead

/-- The bytes of the page buffer. -/
def Lane.xBuf (l : Lane) : List Byte := wordsBytes ((upTo 64).map (fun w => l.rd (CFG_XBUF w)))

/-- The record of a closed transfer, from the header as it stands (R501). -/
def State.xClosed (t : Nat) (s : State) : State :=
  let l := s.storeLane
  let m := s.sh.image t
  s.sysRec 0x0C06 t (l.fld (CFG_TGT t) CFG_TGT_CHECK) m.id.toNat m.build.toNat

/-- XOPEN: the target is erased. -/
def State.xOpen (t : Nat) (s : State) : State :=
  let s := s.withSh (s.sh.norErase (tgtAddr t) (tgtSize t))
  s.working (fun l =>
    let l := l.wr CFG_XST (CFG_XST_XSTATE.put 1 (CFG_XST_TARGET.put t 0#32))
    (l.setF (CFG_TGT t) CFG_TGT_CHECK 3).setFire (fun f =>
      { f with pages := [], closing := f.closing.filter (· != t) }))

/-- The erase ends. -/
def Lane.eraseEnd (l : Lane) : Lane := if l.xState = 1 then l.xTo 2 else l
/-- XPROG: the page of the buffer is programmed at CFG_XOFF. -/
def State.xProg (s : State) : State :=
  let l := s.storeLane
  let s := s.withSh (s.sh.setPage ((tgtAddr l.xTarget + l.xOff) / 256) l.xBuf)
  s.working (fun l => (l.xTo 3).setFire (fun f => { f with pages := l.xOff :: f.pages }))
/-- The program and its read-back end; a page that reads back otherwise holds bytes the spec does not name (log 27). -/
def State.progEnd (ok : Bool) (s : State) : State :=
  let l := s.storeLane
  if l.xState != 3 then s else
  let p := (tgtAddr l.xTarget + l.fire.pages.headD 0) / 256
  let s := if ok then s else s.withSh (s.sh.setPage p ((upTo 256).map (Config.badPage p)))
  s.working (fun l => if ok then (l.xTo 2).setF CFG_XST CFG_XST_PAGES (l.fld CFG_XST CFG_XST_PAGES + 1) else l.xTo 5)
/-- XREAD: the page at CFG_XOFF is read. -/
def Lane.xRead (l : Lane) : Lane := (l.xTo 4).setFire (fun f => { f with rdOff := l.xOff })
/-- A page read ends: the page stands in the buffer. -/
def Lane.readEnd (h : Shared) (l : Lane) : Lane :=
  if l.xState != 4 then l else
  let bs := h.page ((tgtAddr l.xTarget + l.fire.rdOff) / 256)
  let l := (upTo 64).foldl (fun l w => l.wr (CFG_XBUF w) (w32 (leNat ((bs.drop (4 * w)).take 4)))) l
  l.xTo 2
/-- XCLOSE: the checks of the target begin. -/
def Lane.xClose (l : Lane) : Lane :=
  (l.setF CFG_XST CFG_XST_XSTATE 0).setFire (fun f => { f with closing := f.closing.filter (· != l.xTarget) ++ [l.xTarget] })
/-- The checks of the target closed first end. -/
def State.checkEnd (s : State) : State :=
  match s.storeLane.fire.closing with
  | [] => s
  | t :: _ =>
    let s := s.working (fun l => (l.checkTarget s.sh t).setFire (fun f => { f with closing := f.closing.drop 1 }))
    s.xClosed t
/-- XABORT. -/
def State.xAbort (s : State) : State :=
  let t := s.storeLane.xTarget
  (s.working (fun l => (l.xTo 0).setF (CFG_TGT t) CFG_TGT_CHECK 2)).xClosed t

/-! ### Commands (R500) -/

/-- PFIRE: a partial firing starts at boundary `g`, or waits (R497, R498). -/
def Lane.pFire (g b : Nat) (l : Lane) : Lane :=
  let run := l.fire.pf.isEmpty
  let l := l.setFire (fun f => { f with pf := f.pf ++ [{ buf := b, m := g }] })
  l.setF (CFG_PST b) CFG_PST_PSTATE (if run then 2 else 1)

/-- SET_PREF. -/
def State.setPref (v : Nat) (s : State) : State :=
  (s.withSh (s.sh.srecPut (fun r => { r with pref := v }))).working (fun l => l.setF CFG_STAT CFG_STAT_PREF v)

/-- BURN_KEY: the key is burned, then CFG_KEY0–7 are cleared. -/
def State.burnKey (s : State) : State :=
  let k := wordsBytes ((upTo 8).map (fun w => s.storeLane.rd (CFG_KEY w)))
  let s := s.withSh (s.sh.setStart (fun t => { t with key := some k }))
  let s := State.onLanes (fun l => l.st != .off) (fun l =>
    (upTo 8).foldl (fun l w => l.wr (CFG_KEY w) 0#32) (l.setB CFG_FUSE CFG_FUSE_KEY_SET true)) s
  s.sysRec 0x0C07 0 0 0 0
/-- BURN_AUTHREQ. -/
def State.burnAuth (s : State) : State :=
  let s := s.withSh (s.sh.setStart (fun t => { t with authReq := true }))
  (State.onLanes (fun l => l.st != .off) (fun l => l.setB CFG_FUSE CFG_FUSE_AUTH_REQ true) s).sysRec 0x0C07 1 0 0 0

/-- A restart by command: at the next boundary the lanes stop and the recorder drains (R530). -/
def State.restart (cause : Nat) (s : State) : State :=
  s.withSh ((s.sh.setStart (fun t => { t with cause := cause, phase := .draining })).setF MOD_START MOD_START_NSTATE 3)

/-- Whether a CFG command is INVALID. -/
def Lane.cfgInvalid (l : Lane) (op arg : Nat) : Bool :=
  match op with
  | 1 => decide (3 < arg)
  | 2 | 3 => arg != 0 || l.xOff % 256 != 0 || decide (tgtSize l.xTarget < l.xOff + 256)
  | 6 | 7 => decide (1 < arg)
  | 4 | 5 | 8 | 9 | 10 => arg != 0
  | _ => true

/-- A patch buffer runs or waits. -/
def Lane.patching (l : Lane) (b : Nat) : Bool := l.fire.pf.any (fun x => x.buf == b)

/-- Whether a CFG command is refused at its effect boundary. -/
def State.cfgRefused (s : State) (op arg : Nat) : Bool :=
  let l := s.storeLane
  match op with
  | 1 => l.xState != 0 || (decide (arg < 2) && l.fld CFG_STAT CFG_STAT_FSLOT == arg) || (2 ≤ arg && l.patching (arg - 2))
  | 2 => l.xState != 2 || l.fire.pages.contains l.xOff
  | 3 => l.xState != 2
  | 4 => l.xState != 2 && l.xState != 5
  | 5 => l.xState == 0
  | 6 => s.sh.bisque || l.fld (CFG_TGT (2 + arg)) CFG_TGT_CHECK != 1 || l.patching arg || decide (2 ≤ l.fire.pf.length)
      || (l.xState != 0 && l.xTarget == 2 + arg) || (s.a.st == .shadow && !s.a.instep) || (s.b.st == .shadow && !s.b.instep)
  | 7 => s.sh.start.srec.pref == arg || l.fld (CFG_TGT arg) CFG_TGT_CHECK != 1
  | 8 => s.sh.bisque || !l.fire.pf.isEmpty || l.xState != 0
  | 9 => s.sh.bisque || s.sh.start.key.isSome
  | _ => s.sh.bisque || s.sh.start.authReq || s.sh.start.key.isNone

/-- The outcome of a CFG command. -/
def State.cfgStatus (s : State) (op arg : Nat) : Nat :=
  if s.storeLane.cfgInvalid op arg then stInvalid else if s.cfgRefused op arg then stRefused else stDone

/-- What a CFG command does. -/
def State.cfgEffect (s : State) (op arg : Nat) : State :=
  match op with
  | 1 => s.xOpen arg
  | 2 => s.xProg
  | 3 => s.working Lane.xRead
  | 4 => s.working Lane.xClose
  | 5 => s.xAbort
  | 6 => s.working (Lane.pFire s.sh.gt arg)
  | 7 => s.setPref arg
  | 8 => s.restart 7
  | 9 => s.burnKey
  | _ => s.burnAuth

/-- STATUS of a lane after a command. -/
def Lane.cfgDone (st : Nat) (l : Lane) : Lane :=
  let l := l.setF CFG_CMDST CFG_CMDST_STATUS st
  if 2 ≤ st then l.ev evCfgRefused else l

/-- A CFG command at its effect boundary. -/
def State.cfgCmd (s : State) (op arg : Nat) : State :=
  let st := s.cfgStatus op arg
  let s := s.working (Lane.cfgDone st)
  if st = stDone then s.cfgEffect op arg else s

/-- A CFG command written and taking effect. -/
def State.cfgRow (s : State) (op arg : Nat) : State :=
  (s.working (fun l => l.setF CFG_CMDST CFG_CMDST_LAST_OP op)).cfgCmd op arg

/-! ### Meanings -/

/-- XOPEN (R494), written and taking effect at the newest boundary. -/
def execXopen (arg : Byte) (s : State) : Res := .next (s.cfgRow 1 arg.toNat)
/-- ERASE_COMPLETE (R494). -/
def execEraseComplete (s : State) : Res := .next (s.working Lane.eraseEnd)
/-- XPROG (R494). -/
def execXprog (arg : Byte) (s : State) : Res := .next (s.cfgRow 2 arg.toNat)
/-- PAGE_PROGRAMMED (R494): `ok`: the page reads back as programmed. -/
def execPageProgrammed (ok : Bool) (s : State) : Res := .next (s.progEnd ok)
/-- XREAD (R494). -/
def execXread (arg : Byte) (s : State) : Res := .next (s.cfgRow 3 arg.toNat)
/-- PAGE_READ_LOADED (R494). -/
def execPageReadLoaded (s : State) : Res := .next (s.working (Lane.readEnd s.sh))
/-- XCLOSE (R494). -/
def execXclose (arg : Byte) (s : State) : Res := .next (s.cfgRow 4 arg.toNat)
/-- TARGET_CHECK_COMPLETE (R494). -/
def execTargetCheckComplete (s : State) : Res := .next s.checkEnd
/-- XABORT (R494). -/
def execXabort (arg : Byte) (s : State) : Res := .next (s.cfgRow 5 arg.toNat)
/-- PFIRE (R496). -/
def execPfire (arg : Byte) (s : State) : Res := .next (s.cfgRow 6 arg.toNat)
/-- SET_PREF (R485). -/
def execSetPref (arg : Byte) (s : State) : Res := .next (s.cfgRow 7 arg.toNat)
/-- REFIRE (R500). -/
def execRefire (arg : Byte) (s : State) : Res := .next (s.cfgRow 8 arg.toNat)
/-- BURN_KEY (R484). -/
def execBurnKey (arg : Byte) (s : State) : Res := .next (s.cfgRow 9 arg.toNat)
/-- BURN_AUTHREQ (R484). -/
def execBurnAuthreq (arg : Byte) (s : State) : Res := .next (s.cfgRow 10 arg.toNat)
/-- START_RECORD_WRITE_DONE (R509). -/
def execStartRecordWriteDone (s : State) : Res := .next (s.withSh s.sh.srecDone)

end Sys2Proof.Machine
end

