-- ==== Sys2Proof/Machine/Start.lean ====
section
/-! DEFINITION. Reset, the start sequence, the agreement of firing results, counting failed starts, bisque mode and restart:
R492, R493 of spec/15_firing_image.md and R503–R532 of spec/16_start_reset_bisque.md. -/

namespace Sys2Proof.Machine

/-! ### Reset (R503–R505, R614) -/

/-- A reset as a supervisor begins it: it lasts 10 ms (R503, R504). -/
def supervisorCause (c : Nat) : Bool := 3 ≤ c && c ≤ 5

/-- Registers of HOUSE and LANEx_AON that only a POWER_ON reset clears: counters, CMEAS, ETOT and CORR. -/
def keepHouse : List Nat := [CLK_HSA, CLK_HSB, CLK_HSH, PWR_SUPCNT, PWR_HOLD]

/-- The shared registers after a reset that is not POWER_ON. -/
def Shared.regsKept (h : Shared) : RegFile :=
  let r := keepRegs keepHouse h.regs .nil
  let m := h.rd CLK_REFMON
  let r := RegFile.wr r CLK_REFMON (CLK_REFMON_COUNT.put 0 m)
  (upTo 14).foldl (fun r d => RegFile.setF r (PWR_DST d) PWR_DST_FAULTS (h.fld (PWR_DST d) PWR_DST_FAULTS)) r

/-- A lane as a reset of the node leaves it: the store, and after any but POWER_ON also its always-on domain (R504, R612). -/
def Lane.nodeDown (h : Shared) (power : Bool) (l : Lane) : Lane :=
  if power then { (l.coreReset h).setB REC_STAT REC_STAT_STORE_FAIL false with storeBack := false, peerStoreFail := false }
  else l.coreDown h

/-- The record of a lane that a reset of the node takes to OFF (R314 row 1). It waits for the first epoch (R531); a POWER_ON reset leaves
nothing that could hold it (log 85). -/
def Lane.downRec (g : Nat) (l : Lane) : List Rec :=
  if l.st == .off then [] else
  [{ code := 0x0801, cls := recClass 0x0801, time := g, p0 := w32 l.id.num, p1 := w32 (16 * l.st.code + 128 * l.instep.toNat), p2 := 1#32, p3 := 0#32 }]

/-- The store after a loss of power: a sector in which a page is being programmed holds bytes the spec does not name (R476, log 27). -/
def State.spoiled (s : State) : Shared :=
  let l := s.storeLane
  if l.xState != 3 then s.sh else
  let base := (tgtAddr l.xTarget + l.fire.pages.headD 0) / 65536 * 256
  (upTo 256).foldl (fun h p => h.setPage (base + p) ((upTo 256).map (Config.badPage (base + p)))) s.sh

/-- A reset of the node begins (R504, R614): every domain but the always-on ones is off, outputs off, ring bypass closed. -/
def State.resetBegin (cause : Nat) (s : State) : State :=
  let h := s.sh
  let t := h.start
  let power := cause == 1
  let ring : List Rec := if h.ringOpen then [{ code := 0x0404, cls := recClass 0x0404, time := h.gt }] else []
  let early := if power then [] else t.early ++ s.a.downRec h.gt ++ s.b.downRec h.gt ++ ring
  let again := t.phase == .reset && !power
  let start : StartHw :=
    { early := early, cause := cause, rstAt := some h.gt, key := t.key, authReq := t.authReq, rstn := t.rstn, straps := t.straps,
      supEnd := if supervisorCause cause then h.gt + 10000000 else if again then t.supEnd else 0, zero := power || (again && t.zero) }
  let h' : Shared := { gt := h.gt, grade := h.grade, regs := if power then .nil else h.regsKept, nor := if power then s.spoiled.nor else h.nor, pnl := (h.railsFall h.gt).pnl, start := start, free := h.free, tap := h.tap }
  { a := s.a.nodeDown h' power, b := s.b.nodeDown h' power, sh := h', pending := s.pending }

/-! ### Reset release and the evaluation of the start record (R509, R511, R515, R558) -/

/-- The identity registers from the production data (R558); the charger draws from VSYS (R604). -/
def Shared.showIdent (h : Shared) : Shared :=
  let w := MOD_IDENT_PART.put 0x9624 (MOD_IDENT_GRADE.put h.grade (MOD_IDENT_STEPPING.put Config.stepping.toNat 0#32))
  ((h.wr MOD_IDENT w).wr MOD_SERIAL Config.serial).setB PWR_SUP PWR_SUP_CHARGING true

/-- The record a node without a valid copy uses (R509). -/
def srecDefault : SRec := {}

/-- Reset is released once no supervisor reset runs, also where RESET_n was asserted meanwhile: time from 0 after POWER_ON, the start
record read, failed starts counted (R504, R505, R509, R515). -/
def State.release (s : State) : State :=
  let t := s.sh.start
  if t.phase != .reset || decide (s.sh.gt < t.supEnd) then s else
  let h := (if t.zero then { s.sh with gt := 0 } else s.sh).showIdent
  let used := h.srecUsed
  let r := (used.map (·.2)).getD srecDefault
  let counted := supervisorCause t.cause && (r.phase == 1 || r.phase == 2)
  let fails := if counted then min 3 (r.fails + 1) else r.fails
  let cw := MOD_RSTCAUSE_CAUSE.put t.cause (MOD_RSTCAUSE_COUNTED.put counted.toNat (MOD_RSTCAUSE_PHASE_PREV.put r.phase 0#32))
  let h := (h.wr MOD_RSTCAUSE cw).setB MOD_START MOD_START_SREC_DEF used.isNone
  let h := (h.setF MOD_START MOD_START_FAILS fails).setF MOD_START MOD_START_PHASE r.phase
  let h := h.setStart (fun t => { t with phase := .released, relAt := h.gt, rstn := false, zero := false, srec := { r with fails := fails } })
  let s := s.withSh h
  if used.isNone then s.sysRec 0x0D06 0 0 0 0 else s

/-! ### Bisque mode (R518–R527) -/

/-- Codes of text. -/
def hexDigit (n : Nat) : Nat := if n < 10 then 48 + n else 55 + n
/-- Two hexadecimal digits. -/
def hex2 (n : Nat) : List Nat := [hexDigit (n / 16 % 16), hexDigit (n % 16)]
/-- Three decimal digits. -/
def dec3 (n : Nat) : List Nat := [48 + n / 100 % 10, 48 + n / 10 % 10, 48 + n % 10]
/-- The panel text of a reason (R520). -/
def reasonText : Nat → String
  | 1 => "FORCED BY STRAP"
  | 2 => "THREE FAILED STARTS"
  | 3 => "NO VALID IMAGE"
  | _ => "LANES DISAGREE AT FIRING"
/-- A slot with its reject code, or OK (R527). -/
def slotText (s : String) (code : Nat) : List Nat := ascii s ++ [32] ++ (if code = 0 then ascii "OK" else hex2 code)

/-- The four lines of the bisque panel (R527). -/
def Shared.bisqueLines (h : Shared) : List (List Nat × Bool) :=
  let t := h.start
  [(ascii "BISQUE MODE NODE " ++ dec3 (h.fld MOD_STRAP MOD_STRAP_NODE), false), (ascii (reasonText t.srec.reason), false),
   (ascii "FAILED STARTS " ++ [48 + t.srec.fails], false), (slotText "SLOT A" t.rejA ++ [32, 32] ++ slotText "SLOT B" t.rejB, false)]

/-- PROVEN of the start record. -/
def SRec.proven (r : SRec) : Bool := r.pflags % 2 == 1

/-- A lane in bisque mode: CORR 0, SYNC clear, the strapped node address and bit rate, and the bisque drive set with its
text where PROVEN is set (R462, R522, R524, R527). -/
def Lane.bisqueSet (h : Shared) (l : Lane) : Lane :=
  let r := h.start.srec
  let a := h.fld MOD_STRAP MOD_STRAP_NODE
  let st := TIME_ST_NADDR.put a (TIME_ST_NADDR_BAD.put (a == 0 || a == 127).toNat 0#32)
  let l := ((l.wr TIME_CORR 0#32).wr TIME_ST st).failStraps h
  let l := [0, 1].foldl (fun l b => l.setF (CAN_STAT b) CAN_STAT_NRATE_IN (h.fld MOD_STRAP MOD_STRAP_CANR)) l
  if !r.proven || h.grade != 1 then l else
  l.setPnl (fun w => { w with drv := some r, render := drawLines (fun c y => Config.glyph c y) 15 h.bisqueLines })

/-- The outputs the arbiter applies itself (R518, R519): failure currents of the channels that AOMODE names; DO off. -/
def Shared.bisqueOutputs (l : Lane) (h : Shared) : Shared :=
  let h := (upTo 24).foldl (fun h n =>
    let m := h.start.srec.aomode / 4 ^ n % 4
    let off := !(m == 1 || m == 2) || (h.ao n).toff || (h.ao n).tlatch || h.aoutOn.isNone
    h.wr (AO_CODE n) (AO_CODE_CODE.put (if off then 0 else aoDac (l.failCurrent n)) (AO_CODE_OFF.put off.toNat 0#32))) h
  { h with doLive := false }

/-- Output authority in bisque mode: the preferred lane, or the other when it is OFF (R522). -/
def State.bisqueAuth (s : State) : Option LaneId :=
  let p : LaneId := if s.sh.on MOD_STRAP MOD_STRAP_LANE then .B else .A
  if (s.lane p).st == .bisque then some p else if (s.lane p.other).st == .bisque then some p.other else none

/-- The slots that a lane has rejected, in its CFG block (R485). -/
def Lane.showRejs (pref : Nat) (l : Lane) : Lane :=
  (l.setF CFG_STAT CFG_STAT_PREF pref).setB CFG_STAT CFG_STAT_REJ_PREF (l.fire.rejs.any (fun x => x.1 == pref))

/-- A lane whose address in force is 0 or 127 raises the time event (R425, R435). -/
def Lane.addrEvent (l : Lane) : Lane := if l.on TIME_ST TIME_ST_NADDR_BAD then l.ev evTime else l
/-- The record of NADDR_BAD set, for address `a` taken from source `nsrc` (R425, R435). -/
def State.addrRec (a nsrc : Nat) (s : State) : State := if a == 0 || a == 127 then s.sysRec 0x0A05 0 a nsrc 0 else s

/-- A lane whose core domain is on passes to BISQUE (R314, R521); it takes output authority at the next boundary (R26, R522). -/
def State.laneBisque (i : LaneId) (s : State) : State :=
  if (s.lane i).st == .off then s else
  (s.laneTo i .bisque false 2 0).upd i (fun l => ((l.bisqueSet s.sh).showRejs s.sh.start.srec.pref).addrEvent)

/-- The reject code of a slot in a lane, 0 where it was not rejected. -/
def Lane.rejOf (l : Lane) (t : Nat) : Nat := ((l.fire.rejs.find? (fun x => x.1 == t)).map (fun x => x.2.given.toNat)).getD 0

/-- Bisque mode is entered (R521, R522); PHASE is changed only where step 3 decides it (R510, R515). -/
def State.bisqueEnter (reason : Nat) (s : State) : State :=
  let rej (t : Nat) : Nat := max (s.a.rejOf t) (s.b.rejOf t)
  let h := s.sh.setStart (fun t => { t with phase := .bisque, rejA := rej 0, rejB := rej 1, runAt := s.sh.gt, resetDue := none })
  let h := ((h.setF MOD_START MOD_START_NSTATE 2).setF MOD_START MOD_START_REASON reason).wr MOD_RUNTIME 0#32
  let h := { h.srecPut (fun r => { r with reason := reason, phase := if reason < 3 then 0 else r.phase }) with bisque := true, hold := false }
  let h := (upTo 3).foldl (fun h c => h.domSet (8 + c) false) h
  let s := (((s.withSh h).laneBisque .A).laneBisque .B).addrRec (s.sh.fld MOD_STRAP MOD_STRAP_NODE) 0
  s.sysRec 0x0D04 reason s.sh.start.srec.fails (rej 0) (rej 1)

/-! ### Straps and step 3 (R506, R515) -/

/-- The straps are sampled, the start record is evaluated and its write begins (R506, R511 step 3, R515). -/
def State.strapSample (straps : BitVec 15) (s : State) : State :=
  if s.sh.start.phase != .released then s else
  let h := (s.sh.wr MOD_STRAP (straps.setWidth 32)).setStart (fun t => { t with phase := .evaluated, straps := straps.toNat })
  let r := h.start.srec
  let reason := if !h.on MOD_STRAP MOD_STRAP_BISQ then 1 else if 3 ≤ r.fails then 2 else 0
  let s := (s.withSh h).sysRec 0x0D01 h.start.cause r.fails (h.fld MOD_RSTCAUSE MOD_RSTCAUSE_PHASE_PREV) straps.toNat
  if reason != 0 then s.bisqueEnter reason else s.withSh (s.sh.srecPut (fun r => { r with phase := 1 }))

/-! ### Firing results (R485, R492, R493) -/

/-- Records of a rejected slot, once per slot and start. -/
def State.slotRejected (i : LaneId) (x : Nat × RepEntry) (s : State) : State :=
  if (s.lane i.other).fire.rejs.any (fun y => y.1 == x.1) then s
  else s.sysRec 0x0C02 x.1 x.2.given.toNat (sectWord x.2.typ x.2.region) (x.2.addr % 16777216)

/-- A lane with an accepted slot leaves FIRING (R314 rows 4 and 5). -/
def State.fireDone (i : LaneId) (r : FireRes) (s : State) : State :=
  let o := s.lane i.other
  let prefO := (if s.sh.on MOD_STRAP MOD_STRAP_LANE then LaneId.B else LaneId.A) == i.other
  let active := o.st != .active && !(prefO && o.st == .firing)
  let s := s.upd i (Lane.loadSlot s.sh s.sh.gt r)
  let s := if active then (s.withSh (((s.sh.ringFire r).detResume (s.lane i)).dioFired)).laneTo i .active false 4 0 else s.laneTo i .shadow false 5 0
  if active then
    let s := if s.sh.start.phase == .evaluated then s.withSh (s.sh.setStart (fun t => { t with phase := .fired })) else s
    let s := (s.upd i Lane.addrEvent).addrRec (s.lane i).nodeAddr ((s.lane i).fld TIME_CFG TIME_CFG_NSRC)
    s.sysRec 0x0C01 r.slot r.id.toNat (min 512 r.ents.length) (repCrc r.ents).toNat
  else s

/-- One lane after the results agree: ACTIVE or SHADOW with its image, or bisque mode. -/
def State.fireOne (s : State) (i : LaneId) : State :=
  match (s.lane i).fire.res with
  | some r => if (s.lane i).st != .firing then s else if r.ok then s.fireDone i r else if s.sh.bisque then s else s.bisqueEnter 3
  | none => s
/-- The lanes' agreed result ends firing: the preferred lane first; without an image bisque mode begins (R521). -/
def State.fireAgree (is : List LaneId) (s : State) : State :=
  (if s.sh.on MOD_STRAP MOD_STRAP_LANE then is.reverse else is).foldl State.fireOne s

/-- FIRE_MIS in both lanes. -/
def State.fireMis (s : State) : State := State.onLanes (fun l => l.st != .off) (fun l => l.setB CFG_STAT CFG_STAT_FIRE_MIS true) s
/-- REPCRC of a lane's firing result. -/
def Lane.resCrc (l : Lane) : Nat := (l.fire.res.map (fun r => (repCrc r.ents).toNat)).getD 0
/-- The firing-mismatch record; `gone`: the lane retired, 2 for none. -/
def State.misRec (attempt gone : Nat) (s : State) : State := s.sysRec 0x0C03 attempt s.a.resCrc s.b.resCrc gone

/-- A lane fires again. -/
def Lane.fireAgain (l : Lane) : Lane := { l with fire := { again := true } }

/-- What follows from a lane's result (R492, R493). -/
def State.fireSettle (i : LaneId) (r : FireRes) (s : State) : State :=
  let o := s.lane i.other
  if o.st == .active then
    match o.fire.res with
    | some q =>
      if sameResult r q then s.fireAgree [i]
      else if (s.lane i).fire.again then ((s.retire i 9 0).fireMis).misRec 2 i.num
      else s.upd i Lane.fireAgain
    | none => s.fireAgree [i]
  else if o.st == .firing then
    match o.fire.res with
    | some q => if sameResult r q then s.fireAgree [.A, .B] else s
    | none => s
  else s.fireAgree [i]

/-- A lane ends checking and wedging of a slot: it has a result, or tries the other slot (R485, R486). -/
def State.firingComplete (i : LaneId) (s : State) : State :=
  let l := s.lane i
  if l.st != .firing || l.fire.res.isSome then s else
  let x := l.fireSlot s.sh
  let s := s.upd i (fun _ => x.1)
  let s := match x.2 with
    | some e => s.slotRejected i e
    | none => s
  match x.1.fire.res with
  | some r => s.fireSettle i r
  | none => s

/-- The arbiter compares the results of lanes that fired at one start; `pa`, `pb`: steps 3 and 4 of R322 on the fired banks pass
(R492). A lane without a result does not hold up the other (R513). -/
def State.firingCompare (pa pb : Bool) (s : State) : State :=
  if s.a.st != .firing || s.b.st != .firing then s else
  match s.a.fire.res, s.b.fire.res with
  | some x, some y =>
    if sameResult x y then s.fireAgree [.A, .B]
    else if !s.a.fire.again then { s with a := s.a.fireAgain, b := s.b.fireAgain }
    else
      let pref : LaneId := if s.sh.on MOD_STRAP MOD_STRAP_LANE then .B else .A
      let s := s.fireMis
      if !pa && !pb then (s.misRec 2 2).bisqueEnter 4
      else
        let gone : LaneId := if !pa then .A else if !pb then .B else pref.other
        ((s.misRec 2 gone.num).retire gone 9 0).fireAgree [gone.other]
  | some _, none => s.fireAgree [.A]
  | none, some _ => s.fireAgree [.B]
  | none, none => s

/-! ### Steps 6 to 9 (R511–R513) -/

/-- Step 6 has ended: the wait of R512 begins where a bus has TT_EN set. -/
def State.stepSix (s : State) : State :=
  let l := if s.a.st == .active then s.a else s.b
  let wait := l.ttEn 0 || l.ttEn 1
  s.withSh (s.sh.setStart (fun t => { t with phase := if wait then .waiting else .authority, waitAt := s.sh.gt }))

/-- The wait of R512 has ended with a reference, or after 300 ms. -/
def State.waitEnd (s : State) : State :=
  let t := s.sh.start
  if t.phase == .waiting && decide (t.waitAt + 300000000 ≤ s.sh.gt) then s.withSh (s.sh.setStart (fun t => { t with phase := .authority })) else s

/-- The 2-bit modes of the channels under the image in force (R508). -/
def Lane.aoModes (l : Lane) : Nat := (upTo 24).foldl (fun v n => v + l.fld (AO_CFG n) AO_CFG_MODE * 4 ^ n) 0

/-- RUNNING is reached (R510, R513). -/
def State.runReached (s : State) : State :=
  let ms := min 0xFFFF (((s.sh.gt : Int) - s.sh.start.relAt) / 1000000).toNat
  let h := s.sh.setStart (fun t => { t with phase := .running, runAt := s.sh.gt })
  let h := ((h.setF MOD_START MOD_START_NSTATE 1).setF MOD_START MOD_START_T_RUN ms).wr MOD_RUNTIME 0#32
  let h := h.srecPut (fun r => { r with phase := 2, aomode := s.lead.aoModes })
  (s.withSh h).sysRec 0x0D02 ms (s.lead.fld CFG_STAT CFG_STAT_FSLOT) 0 0

/-- Seconds since RUNNING or bisque entry (MOD_RUNTIME). -/
def Shared.runTime (h : Shared) : Shared :=
  match h.start.phase with
  | .running | .bisque => h.wr MOD_RUNTIME (w32 (min 0xFFFFFFFF ((h.gt - h.start.runAt) / 1000000000)))
  | _ => h

/-- 60 s after RUNNING, once a start (R510). -/
def State.phaseStable (s : State) : State :=
  let t := s.sh.start
  if t.phase == .running && !t.stable && decide (t.runAt + 60000000000 ≤ s.sh.gt) then
    s.withSh ((s.sh.srecPut (fun r => { r with phase := 3 })).setStart (fun t => { t with stable := true })) else s

/-- 600 s of continuous running with FAILS above 0 (R510). -/
def State.failsCleared (s : State) : State :=
  let t := s.sh.start
  if t.phase == .running && t.srec.fails != 0 && decide (t.runAt + 600000000000 ≤ s.sh.gt) then
    (s.withSh (s.sh.srecPut (fun r => { r with fails := 0 }))).sysRec 0x0D03 0 0 0 0 else s

/-- RUNNING not reached 5.0 s after reset release (R513). -/
def State.deadline (s : State) : State :=
  let t := s.sh.start
  match t.phase with
  | .reset | .running | .bisque | .draining => s
  | _ => if t.relAt + 5000000000 ≤ (s.sh.gt : Int) then s.resetNext 3 else s

/-! ### State transfer (R516, R517) -/

/-- The SHADOW lane that waits for a state transfer, the other lane being ACTIVE. -/
def State.joiner (s : State) : Option LaneId :=
  if s.a.st == .shadow && !s.a.instep && s.b.st == .active then some .A
  else if s.b.st == .shadow && !s.b.instep && s.a.st == .active then some .B else none

/-- The link is up at both ends. -/
def State.linkUp (s : State) : Bool := s.a.on LINK_STAT LINK_STAT_UP && s.b.on LINK_STAT LINK_STAT_UP

/-- The pages of 256 bytes of the banks whose owner is neither NONE nor HOST (R516). -/
def Lane.bankPages (l : Lane) : List Nat :=
  ((upTo 32).filter (fun b => decide (2 ≤ l.fld (MEM_OWN b) MEM_OWN_OWNER))).flatMap (fun b => (upTo 256).map (256 * b + ·))
/-- Round 0 of a transfer from lane `src` begins (R516). -/
def Shared.stxRound0 (src : Lane) (h : Shared) : Shared :=
  (h.setStart (fun t => { t with
    stx := some h.gt, stxDone := false, stxLeft := src.bankPages, stxNew := [], stxUnits := false, stxDelta := false })).setF MOD_STX MOD_STX_ROUND 0

/-- A transfer begins where a lane waits for one (R314, R499, R517). -/
def State.stxBegin (s : State) : State :=
  match s.joiner with
  | none => s.withSh (s.sh.setStart (fun t => { t with stx := none, stxDone := false }))
  | some i =>
    let l := s.lane i
    let may := s.linkUp && (s.lane i.other).fire.pf.isEmpty && (!l.adj.fromAdj || (s.lane i.other).on SYS_CFG SYS_CFG_AUTO_REJOIN)
      && (s.lane i.other).adj.catchUp == 0
    if may && s.sh.start.stx.isNone then
      s.withSh (s.sh.stxRound0 (s.lane i.other))
    else s

/-- A transfer starts again at round 0 (R517). -/
def State.stxRetry (s : State) : State :=
  if s.sh.start.stx.isNone then s else
  s.withSh ((s.sh.stxRound0 (if s.a.st == .active then s.a else s.b)).bump MOD_STX MOD_STX_RETRIES)

/-- At a boundary the pages of the epoch that has ended are to be sent again, those of the running round apart that have still to go;
epoch deltas begin at the first boundary at which at most 32 KiB remain (R516). -/
def Shared.stxEpoch (ps : List Nat) (h : Shared) : Shared :=
  let t := h.start
  if t.stx.isNone then h else
  let new := t.stxNew ++ (ps.filter (fun p => !t.stxLeft.contains p && !t.stxNew.contains p)).eraseDups
  let delta := t.stxDelta || decide (t.stxLeft.length + new.length ≤ 128)
  h.setStart (fun t => { t with stxNew := new, stxDelta := delta, stxUnits := t.stxUnits && !delta })

/-- Not complete after 10 s. -/
def State.stxTimeout (s : State) : State :=
  match s.sh.start.stx with
  | some t => if t + 10000000000 ≤ s.sh.gt then s.stxRetry else s
  | none => s

/-! ### Beacons (R525) -/

/-- The data of a beacon. -/
def Shared.beacon (h : Shared) : List Byte :=
  let t := h.start
  let b (n : Nat) : Byte := BitVec.ofNat 8 n
  let rej := (t.rejA != 0).toNat + 2 * (t.rejB != 0).toNat + 4 * h.fld MOD_START MOD_START_SREC_DEF
  [b t.srec.reason, b t.srec.fails, b rej, b (if t.srec.pref = 0 then t.rejA else t.rejB), b (h.fld MOD_IDENT MOD_IDENT_GRADE),
   b (h.rd MOD_STRAP).toNat] ++ leBytes 2 (h.rd MOD_RUNTIME).toNat

/-- A beacon is queued on each bus at a whole second in bisque mode; it replaces one that has not been sent. -/
def State.beaconQueue (s : State) : State :=
  if !s.sh.bisque || s.sh.gt % 1000000000 != 0 || !s.sh.on CLK_ST CLK_ST_REF_OK then s else
  let id := cnpId 3 5 (s.sh.fld MOD_STRAP MOD_STRAP_NODE) s.sh.start.srec.reason
  let f : OwnFrame := { kind := 2, id := id, data := s.sh.beacon }
  State.onLanes (fun l => l.st == .bisque) (fun l => [0, 1].foldl (fun l b =>
    let w := l.can b
    let keep := match (s.sh.can b).sending with
      | some .own => w.own.take 1
      | _ => []
    l.setCan b { w with own := keep ++ (w.own.drop keep.length).filter (fun x => x.kind != 2) ++ [f] }) l) s

/-! ### Restart by command (R529, R530) -/

/-- The recorder of a lane has nothing left to drain. -/
def Lane.drained (l : Lane) : Bool :=
  !(l.serves || l.st == .bisque) || l.on REC_STAT REC_STAT_STORE_FAIL || (l.rcd.staging.isEmpty && l.rcd.spill.isEmpty && l.rcd.com.isNone)

/-- The recorder has drained; the commanded reset begins. LEAVE_BISQUE has its start record written before. -/
def State.drainDone (s : State) : State :=
  let t := s.sh.start
  let written := t.cause != 8 || t.writing.isNone
  if t.phase == .draining && s.sh.hold && s.a.drained && s.b.drained && written then s.resetBegin t.cause else s

/-- Whether MOD_CMD is refused (R529). -/
def Shared.modRefused (h : Shared) (op : Nat) : Bool :=
  match op with
  | 1 => false
  | 2 => !h.bisque || !h.on MOD_STRAP MOD_STRAP_BISQ
  | _ => h.bisque || h.start.srec.fails == 0

/-- A write of MOD_CMD; `origin`: 0x1E host port, 0x1F CNP. -/
def State.modCmd (s : State) (op arg origin : Nat) : State :=
  let h := s.sh
  if h.start.phase == .reset then s else
  let st :=
    if h.fld MOD_CMDST MOD_CMDST_STATUS = stBusy then stRefused
    else if arg != 0x5A || op = 0 || 3 < op then stInvalid
    else if h.modRefused op then stRefused else if op = 3 then stDone else stBusy
  let s := s.withSh (h.wr MOD_CMDST (MOD_CMDST_STATUS.put st (MOD_CMDST_LAST_OP.put op 0#32)))
  if 2 ≤ st then s else
  let clear (s : State) : State := s.withSh (s.sh.srecNow (fun r => { r with fails := 0, phase := 0 }))
  match op with
  | 1 => (s.sysRec 0x0D07 op origin 0 0).restart 6
  | 2 => (((clear s).sysRec 0x0D03 2 0 0 0).sysRec 0x0D07 op origin 0 0).restart 8
  | _ => (clear s).sysRec 0x0D03 1 0 0 0

/-- The origin code of a write. -/
def originOf (cnp : Bool) : Nat := if cnp then 0x1F else 0x1E

/-! ### Meanings -/

/-- POWER_ON_RESET (R503). -/
def execPowerOnReset (s : State) : Res := .next (s.resetBegin 1)
/-- RESET_N_ASSERTED (R504). -/
def execResetNAsserted (s : State) : Res := .next ((s.withSh (s.sh.setStart (fun t => { t with rstn := true }))).resetBegin 2)
/-- RESET_RELEASE (R511): RESET_n deasserted, no supervisor reset running, VSYS good. -/
def execResetRelease (s : State) : Res := .next s.release
/-- STRAP_SAMPLE (R506): the levels of the straps in the order of MOD_STRAP. -/
def execStrapSample (straps : BitVec 15) (s : State) : Res := .next (s.strapSample straps)
/-- FIRING_COMPLETE (R486). -/
def execFiringComplete (lane : LaneId) (s : State) : Res := .next (s.firingComplete lane)
/-- FIRING_RESULT_COMPARE (R492): whether each lane passes steps 3 and 4 of R322. -/
def execFiringResultCompare (passA passB : Bool) (s : State) : Res := .next (s.firingCompare passA passB)
/-- REFERENCE_WAIT_END (R512). -/
def execReferenceWaitEnd (s : State) : Res := .next s.waitEnd
/-- START_DEADLINE (R513). -/
def execStartDeadline (s : State) : Res := .next s.deadline
/-- PHASE_STABLE (R510). -/
def execPhaseStable (s : State) : Res := .next s.phaseStable
/-- FAILS_CLEARED (R510). -/
def execFailsCleared (s : State) : Res := .next s.failsCleared
/-- STATE_TRANSFER_TIMEOUT (R517). -/
def execStateTransferTimeout (s : State) : Res := .next s.stxTimeout
/-- BISQUE_BEACON (R525). -/
def execBisqueBeacon (s : State) : Res := .next s.beaconQueue
/-- RESTART (R530), written at MOD_CMD. -/
def execRestart (arg : Byte) (cnp : Bool) (s : State) : Res := .next (s.modCmd 1 arg.toNat (originOf cnp))
/-- LEAVE_BISQUE (R530). -/
def execLeaveBisque (arg : Byte) (cnp : Bool) (s : State) : Res := .next (s.modCmd 2 arg.toNat (originOf cnp))
/-- CLR_FAILS (R529). -/
def execClrFails (arg : Byte) (cnp : Bool) (s : State) : Res := .next (s.modCmd 3 arg.toNat (originOf cnp))
/-- RESTART_DRAIN_DONE (R530). -/
def execRestartDrainDone (s : State) : Res := .next s.drainDone

end Sys2Proof.Machine
end

