-- ==== Sys2Proof/Machine/Power.lean ====
section
/-! DEFINITION. Supplies and power domains: spec/20_supplies_and_domains.md. -/

namespace Sys2Proof.Machine

/-- `f` in every lane whose cuts HOUSE reports into: lanes that take data, and lanes in bisque mode. -/
def State.told (s : State) (f : Lane → Lane) : State := State.onLanes (fun l => l.takes || l.st == .bisque) f s

/-- A record of R617 in the coming cut; TIME is the boundary that opens its epoch. Before a lane takes cuts it waits for the
first epoch (R531). -/
def State.pwrRec (code p0 p1 p2 p3 : Nat) (s : State) : State :=
  let heard (l : Lane) : Bool := l.takes || l.st == .bisque
  let r : Rec := ⟨code, recClass code, s.sh.gt + 1000000, w32 p0, w32 p1, w32 p2, w32 p3, false, false, false, 0⟩
  if heard s.a || heard s.b then s.told (fun l => l.recCut code (s.sh.gt + 1000000) (w32 p0) (w32 p1) (w32 p2) (w32 p3))
  else s.withSh (s.sh.setStart (fun t => { t with early := t.early ++ [r] }))

/-! ### Domains (R612–R616) -/

/-- A domain that R612 retries after a fault. -/
def retried (d : Nat) : Bool := [3, 4, 7, 8, 9, 10, 11, 12].contains d

/-- The store of a lane goes out of service with its domain (R361, R615). -/
def State.storeOff (i : LaneId) (s : State) : State :=
  if (s.lane i).on REC_STAT REC_STAT_STORE_FAIL then s else ((s.upd i Lane.storeOut).storeSync).storeOutRec i

/-- A store back in service in a lane in step: what waits for it is what waits for the other store `o`; the copy holds the rest. -/
def RecWork.follow (o w : RecWork) : RecWork :=
  { w with staging := o.staging, spill := o.spill, done := o.done + o.com.isSome.toNat, peerDone := o.done }

/-- The store of a lane is back in service; mirroring follows (R363). -/
def State.storeOn (i : LaneId) (s : State) : State :=
  let l := s.lane i
  if !l.on REC_STAT REC_STAT_STORE_FAIL then s else
  let s := (s.upd i (fun l => { (l.setB REC_STAT REC_STAT_STORE_FAIL false).setRec (fun w => { w with voidRun := 0 }) with
    storeBack := true })).storeSync
  if s.inStep then
    let o := (s.lane i.other).rcd
    let s := (s.upd i (fun l => l.setRec o.follow)).upd i.other (fun l => l.setRec (fun w => { w with peerDone := w.done + w.com.isSome.toNat }))
    s.mirrorStart i.other
  else s

/-- A tile without its supply (R55, R56): every switch is open. -/
def Shared.tileOff (h : Shared) (t : Nat) : Shared :=
  let h := (upTo 8).foldl (fun h i =>
    let n := 8 * t + i
    ((h.setB (AIN_CHST n) AIN_CHST_DIV false).setB (AIN_CHST n) AIN_CHST_SHUNT false).setChan n { gen := (h.chan n).gen }) h
  (h.setB (AIN_TSTAT t) AIN_TSTAT_TILE_PWR false).setTile t { lastA := (h.tile t).lastA, lastB := (h.tile t).lastB }

/-- The field digital I/O stage without its supply (R615, R616): what it has counted and seen is gone; the levels at its terminals
stand. -/
def Shared.dioClear (h : Shared) : Shared :=
  let h := (upTo 32).foldl (fun h n => (h.setDou n { v := (h.dou n).v }).setDi n { raw := (h.di n).raw, was := (h.di n).raw }) h
  (upTo 4).foldl (fun h k => h.setBank k { vf := (h.bank k).vf }) h

/-- What the switch-off of a domain does `t` ns after the newest boundary (R615). -/
def State.domainOff (d t : Nat) (s : State) : State :=
  let w := s.sh.gt + t
  let s := if d = 12 then s.dioAll w else s
  let s := s.withSh (s.sh.domSet d false)
  match d with
  | 3 => s.storeOff .A
  | 4 => s.storeOff .B
  | 5 => s.laneOff .A
  | 6 => s.laneOff .B
  | 7 =>
    let h := [0, 1].foldl (fun h b => h.setCan b {}) s.sh
    (s.withSh h).bypassClose w
  | 8 | 9 | 10 => s.withSh ((upTo 4).foldl (fun h i => h.tileOff (4 * (d - 8) + i)) s.sh)
  | 11 =>
    let h := { s.sh with aoutOn := none, aos := .nil }
    let h := (upTo 24).foldl (fun h n => h.wr (AO_CODE n) (AO_CODE_OFF.put 1 0#32)) h
    (s.withSh h).told (fun l => { (upTo 24).foldl Lane.hartAbort l with aoLost := true })
  | 12 =>
    let s := s.told (fun l => { l with dioUp := false })
    (s.withSh { s.sh with doLive := false }).updSh (fun h => (h.doAll s.lead).dioClear)
  | 13 => s.withSh (s.sh.railsTrip w)
  | _ => s

/-- A tile after the reset of its cluster (R18, R616). -/
def Shared.tileReset (h : Shared) (t : Nat) : Shared :=
  (upTo 8).foldl (fun h i =>
    let n := 8 * t + i
    ((h.wr (AIN_CHST n) 0#32).setB (AIN_INJST n) AIN_INJST_ACTIVE false).setChan n { gen := (h.chan n).gen }) ((h.wr (AIN_TSTAT t) 0#32).setTile t {})
/-- The field digital I/O stage after the reset of its domain: no flag stands; EPIS counts since firing (R18, R616). -/
def Shared.dioReset (h : Shared) : Shared :=
  let h := (upTo 32).foldl (fun h n => h.wr (DO_ST n) (DO_ST_EPIS.put (h.fld (DO_ST n) DO_ST_EPIS) 0#32)) h
  let h := (upTo 4).foldl (fun h k => h.wr (DO_BST k) 0#32) h
  (h.wr DO_RB 0#32).wr DO_STATE 0#32

/-- No buffer is locked. -/
def Lane.noLocks (l : Lane) : Lane := { l with lockHost := none, lockCnp := none }
/-- Registers of reset value 0 at it. -/
def Lane.zeroed (ks : List Nat) (l : Lane) : Lane := ks.foldl (fun l k => l.wr k 0#32) l
/-- The registers of a controller that hold what it and its buffers have done, of reset value 0 (R406). -/
def canKeys (b : Nat) : List Nat :=
  [CAN_LOCAL b, CAN_CMDST b] ++ (upTo 4).flatMap (fun w => [CAN_NEW b w, CAN_TXF b w])
    ++ (upTo 128).flatMap (fun m => [CAN_BST b m, CAN_TSLO b m, CAN_TSHI b m] ++ (upTo 18).map (CAN_BW b m))
/-- Error state and counters of a controller at their reset values. -/
def Lane.errReset (b : Nat) (l : Lane) : Lane :=
  (l.setF (CAN_STAT b) CAN_STAT_ESTATE 0).wr (CAN_ERRC b) (CAN_ERRC_TEC.put 0 (CAN_ERRC_REC.put 0 (l.rd (CAN_ERRC b))))
/-- Nothing waits in a controller and none of its buffers is locked. -/
def Lane.waitReset (b : Nat) (l : Lane) : Lane := l.noLocks.setCan b { l.can b with pend := [], tried := [], cancel := none }
/-- The controller of a bus after the reset of COMM, as a lane shows it (R18, R612): its mode, error counters, command status, buffer
status, words and stamps at their reset words; what came from the image stands. -/
def Lane.canReset (l : Lane) (b : Nat) : Lane := ((l.zeroed (canKeys b)).errReset b).waitReset b

/-- COMM after the reset of its domain (R18, R612): the registers of the ring ports at their reset words, RING_CFG keeping what the
image gave it; the controllers of every lane whose core is on reset (log 78). A detection that was running starts again (R381). -/
def State.commReset (s : State) : State :=
  let h := [RING_CTRL, RING_STAT, RING_FAULT, RING_ERR, RING_TOK].foldl (fun h k => h.wr k (resetWord k)) s.sh
  let h := h.setRing (fun r => { callPay := r.callPay, callSent := r.callSent, callSeq := r.callSeq, callAt := r.callAt, resp := r.resp })
  let s := State.onLanes (fun l => l.st != .off) (fun l => [0, 1].foldl Lane.canReset l) s
  (s.withSh (h.detResume s.lead)).canSync

/-- What the switch-on of a domain does `t` ns after the newest boundary (R511, R613, R616). -/
def State.domainOn (d t : Nat) (s : State) : State :=
  let s := s.withSh (s.sh.domSet d true)
  let g := s.sh.gt
  match d with
  | 3 => s.storeOn .A
  | 4 => s.storeOn .B
  | 5 => let s := s.laneFire .A; if s.sh.bisque then s.laneBisque .A else s
  | 6 => let s := s.laneFire .B; if s.sh.bisque then s.laneBisque .B else s
  | 7 => s.commReset
  | 8 | 9 | 10 => s.withSh ((upTo 4).foldl (fun h i => h.tileReset (4 * (d - 8) + i)) s.sh)
  | 11 =>
    let h := (upTo 24).foldl (fun h n => (h.wr (AO_MON n) (resetWord (AO_MON n))).wr (AO_CODE n) (resetWord (AO_CODE n))) s.sh
    let s := (s.withSh { h with aoutOn := some g }).told (fun l => { l with aoLost := false })
    if s.sh.bisque then s.withSh (s.sh.bisqueOutputs s.storeLane) else s
  | 12 => s.withSh ({ s.sh.dioReset with doLive := false, dioAt := sampleNo (g + t) }.diRestart (g + t) (upTo 32))
  | 13 => s.withSh (s.sh.setPnl (fun _ => {}))
  | _ => s

/-- A new 60 s window clears the counts of the one before (R616). -/
def Shared.faultWindow (h : Shared) (w : Nat) : Shared :=
  let k := w / 60000000000
  if h.pwr.win = k then h else
  let h := (upTo 14).foldl (fun h d => h.setF (PWR_DST d) PWR_DST_WCNT 0) h
  { h with pwr := { h.pwr with win := k, faults := .nil } }

/-- A domain fault `t` ns after the newest boundary (R612, R615, R616). `cause`: 1 under-voltage, 2 over-voltage, 3 over-current. -/
def State.domainFault (d cause t : Nat) (s : State) : State :=
  if d < 3 then s.resetBegin 1 else
  let w := s.sh.gt + t
  let h := s.sh.faultWindow w
  let n := h.pwr.faults.at 0 d + 1
  let latch := retried d && decide (3 ≤ n)
  let h := ((h.setF (PWR_DST d) PWR_DST_CAUSE cause).setF (PWR_DST d) PWR_DST_WCNT (min 3 n)).bump (PWR_DST d) PWR_DST_FAULTS
  let h := ((h.setB (PWR_DST d) PWR_DST_FAULT (!latch)).setB (PWR_DST d) PWR_DST_LATCHED latch).setB PWR_DOM ⟨16 + d, 1⟩ latch
  let h := { h with pwr := { h.pwr with faultAt := h.pwr.faultAt.upd 0 d w, faults := h.pwr.faults.upd 0 d n } }
  let s := (s.withSh h).domainOff d t
  (s.pwrRec 0x0E05 d cause n latch.toNat).told (Lane.evCut · evDomain)

/-- The domains of steps 4 and 6 of the start sequence, and of bisque mode (R511, R522, R612); PANEL only where the grade has it (R1). -/
def Shared.startDomains (h : Shared) : List Nat :=
  let has (d : Nat) : Bool := d != 13 || !h.noPanel
  match h.start.phase with
  | .evaluated => if h.start.writing.isNone && h.on CLK_ST CLK_ST_REF_OK then [3, 4, 5, 6] else []
  | .fired => [7, 8, 9, 10, 11, 12, 13].filter has
  | .bisque => ([3, 4, 5, 6, 7, 11, 12] ++ (if h.start.srec.proven then [13] else [])).filter has
  | _ => []
/-- A domain has been switched on, whether it came good or not. -/
def Shared.tried (h : Shared) (d : Nat) : Bool :=
  let w := h.rd (PWR_DST d)
  PWR_DST_ON.on w || PWR_DST_FAULT.on w || PWR_DST_LATCHED.on w

/-- The next domain of the start sequence is switched on; `good`: it is good 2 ms later (R613). -/
def State.switchOn (d : Nat) (good : Bool) (s : State) : State :=
  let ds := s.sh.startDomains
  if !ds.contains d || s.sh.tried d || (ds.takeWhile (· != d)).any (fun x => !s.sh.tried x) then s else
  let s := if good then (s.domainOn d 0).told (Lane.evCut · evDomain) else s.domainFault d 1 0
  if s.sh.start.phase == .fired && ds.all s.sh.tried then s.stepSix else s

/-- A retried domain is switched on again 100 ms after its fault (R616); after a trip none is (R633). -/
def State.domainRetry (d : Nat) (good : Bool) (t : Nat) (s : State) : State :=
  let w := s.sh.gt + t
  if !retried d || s.sh.pwr.tripped || !s.sh.on (PWR_DST d) PWR_DST_FAULT || w < s.sh.pwr.faultAt.at 0 d + 100000000 then s
  else if !good then s.domainFault d 1 t
  else
    let s := (s.withSh (s.sh.setB (PWR_DST d) PWR_DST_FAULT false)).domainOn d t
    (s.pwrRec 0x0E06 d (s.sh.fld (PWR_DST d) PWR_DST_FAULTS) 0 0).told (Lane.evCut · evDomain)

/-! ### Supervisors (R604–R611) -/

/-- A flag of PWR_SUP. -/
def Shared.setSup (h : Shared) (f : Fld) (v : Bool) : Shared := h.setB PWR_SUP f v

/-- Usable hold-up energy in mJ (R622). -/
def holdEnergy (holdC v : Nat) : Nat := holdC * (v * v - 250000) / 2000000

/-- EU of a lane at VHOLD `v`, and whether it lies below EFL (R636). -/
def Lane.euAt (v : Nat) (l : Lane) : Nat := holdEnergy (l.fld PWR_LCFG PWR_LCFG_HOLD_C) v
def Lane.isShort (v : Nat) (l : Lane) : Bool := l.euAt v < l.fld PWR_LHOLD PWR_LHOLD_EFL

/-- HOLD_SHORT of a lane whose EU lies below EFL at the loss (R636). -/
def Lane.holdShort (g v : Nat) (l : Lane) : Lane :=
  let eu := l.euAt v
  let efl := l.fld PWR_LHOLD PWR_LHOLD_EFL
  if !l.isShort v then l else
  ((l.setB PWR_LST PWR_LST_HOLD_SHORT true).recCut 0x0E13 (g + 1000000) (w32 eu) (w32 efl) (w32 (l.fld REC_STAT REC_STAT_F)) 0#32).evCut evLedger

/-- The trip switches a domain off: no fault, and the event of its change (R611, R633). -/
def State.tripOff (t : Nat) (s : State) (d : Nat) : State :=
  if s.sh.on (PWR_DST d) PWR_DST_ON then (s.domainOff d t).told (Lane.evCut · evDomain) else s
/-- The trip: CLU0–CLU2, PANEL and COMM off, and the power-loss signal (R633). -/
def State.powerTrip (t : Nat) (s : State) : State :=
  if s.sh.pwr.tripped || !s.sh.on PWR_SUP PWR_SUP_VSYS_LOST then s else
  let s := [8, 9, 10, 13, 7].foldl (State.tripOff t) s
  s.withSh { s.sh with pwr := { s.sh.pwr with tripped := true }, lossSig := some 0 }

/-- VSYS_LOST is set: the charger stops; a hold-up energy below the reserve trips at once (R609, R636). -/
def State.vsysLost (v t : Nat) (s : State) : State :=
  if s.sh.on PWR_SUP PWR_SUP_VSYS_LOST then s else
  let h := ((s.sh.setSup PWR_SUP_VSYS_LOST true).setSup PWR_SUP_CHARGING false).bump PWR_SUPCNT PWR_SUPCNT_LOSSES
  let h := { h with pwr := { h.pwr with lossAt := h.gt + t } }
  let s := (((s.withSh h).pwrRec 0x0E01 1 v 0 0).told (Lane.evCut · evSupply)).told (Lane.holdShort h.gt v)
  if s.lead.isShort v then s.powerTrip t else s

/-- VSYS_LOST clears: a ride-through, unless the flush has begun (R607, R609). -/
def State.vsysBack (v t : Nat) (s : State) : State :=
  if !s.sh.on PWR_SUP PWR_SUP_VSYS_LOST then s else
  let h := (s.sh.setSup PWR_SUP_VSYS_LOST false).setSup PWR_SUP_CHARGING true
  let h := if h.pwr.flushed then h else h.bump PWR_SUPCNT PWR_SUPCNT_RIDES
  ((s.withSh h).pwrRec 0x0E01 0 v ((h.gt + t - h.pwr.lossAt) / 1000000) 0).told (Lane.evCut · evSupply)

/-- The warnings of R609 by the numbers of R617. -/
def warnFld : Nat → Fld
  | 0 => PWR_SUP_VSYS_LOW
  | 1 => PWR_SUP_VSYS_HIGH
  | 2 => PWR_SUP_VLOOP_LOW
  | _ => PWR_SUP_VLOOP_HIGH

/-- A voltage in 10 mV at which a warning takes the value `v` (R609). -/
def warnAt (flag : Nat) (v : Bool) (x : Nat) : Bool :=
  match flag, v with
  | 0, true => x < 1800
  | 0, false => 1850 ≤ x
  | 2, true => x < 2000
  | 2, false => 2050 ≤ x
  | _, true => 3250 < x
  | _, false => x ≤ 3200

/-- A flag of HOUSE changes, with its record and the supply event. -/
def State.supFlag (f : Fld) (v : Bool) (code p0 p1 p2 : Nat) (s : State) : State :=
  if s.sh.on PWR_SUP f == v then s else
  ((s.withSh (s.sh.setSup f v)).pwrRec code p0 p1 p2 0).told (Lane.evCut · evSupply)

/-- HOLD_OK changes; its setting clears HOLD_SHORT (R609, R636). -/
def State.holdOk (v : Bool) (vhold : Nat) (s : State) : State :=
  if (if v then vhold < 1400 else 1350 ≤ vhold) then s else
  let s := s.supFlag PWR_SUP_HOLD_OK v 0x0E03 v.toNat vhold 0
  if v then s.told (fun l => l.setB PWR_LST PWR_LST_HOLD_SHORT false) else s

/-- A measurement of the hold-up capacitance ends (R608). -/
def State.capacitance (c : Nat) (s : State) : State :=
  let small := decide (c * 10 < s.lead.fld PWR_LCFG PWR_LCFG_HOLD_C * 9)
  let h := (s.sh.wr PWR_HOLD (PWR_HOLD_CMEAS.put c (PWR_HOLD_CVALID.put 1 0#32))).setSup PWR_SUP_HOLD_SMALL small
  (s.withSh h).pwrRec 0x0E07 c small.toNat 0 0

/-- The supply of a tile comes within limits; its settings load once both links stand (R56). -/
def State.tileSupply (t : Nat) (s : State) : State :=
  if !s.sh.on (PWR_DST (8 + t / 4)) PWR_DST_ON then s
  else (s.withSh (s.sh.setB (AIN_TSTAT t) AIN_TSTAT_TILE_PWR true)).loadTile t

/-! ### Meanings -/

/-- TILE_SUPPLY_GOOD (R56). -/
def execTileSupplyGood (tile : Fin 12) (s : State) : Res := .next (s.tileSupply tile)
/-- DOMAIN_SWITCH_ON (R613): `good`: the domain is good 2 ms after it has been switched on. -/
def execDomainSwitchOn (d : Fin 14) (good : Bool) (s : State) : Res := .next (s.switchOn d good)
/-- DOMAIN_FAULT (R615): 1 under-voltage, 2 over-voltage, 3 over-current, `t` ns after the newest boundary. -/
def execDomainFault (d : Fin 14) (cause : BitVec 2) (t : Nat) (s : State) : Res :=
  .next (if s.sh.on (PWR_DST d) PWR_DST_ON && cause != 0#2 then s.domainFault d cause.toNat t else s)
/-- DOMAIN_RETRY (R616). -/
def execDomainRetry (d : Fin 14) (good : Bool) (t : Nat) (s : State) : Res := .next (s.domainRetry d good t)
/-- VSYS_LOST_SET (R609): VSYS below 16.0 V; VSYS and VHOLD in 10 mV, `t` ns after the newest boundary. -/
def execVsysLostSet (vsys vhold : BitVec 16) (t : Nat) (s : State) : Res :=
  .next (if vsys.toNat < 1600 then s.vsysLost vhold.toNat t else s)
/-- VSYS_LOST_CLEAR (R609): VSYS at or above 17.0 V. -/
def execVsysLostClear (vsys vhold : BitVec 16) (t : Nat) (s : State) : Res :=
  .next (if 1700 ≤ vsys.toNat then s.vsysBack vhold.toNat t else s)
/-- SUPPLY_WARNING_CHANGE (R609): the warning by its number in R617, its new value and the voltage in 10 mV. -/
def execSupplyWarningChange (flag : Fin 4) (v : Bool) (volts : BitVec 16) (s : State) : Res :=
  .next (if warnAt flag v volts.toNat then s.supFlag (warnFld flag) v 0x0E02 flag v.toNat volts.toNat else s)
/-- HOLD_OK_CHANGE (R609). -/
def execHoldOkChange (v : Bool) (vhold : BitVec 16) (s : State) : Res := .next (s.holdOk v vhold.toNat)
/-- ON_HOLD_CHANGE (R605): a flag without a record of its own in R617. -/
def execOnHoldChange (v : Bool) (s : State) : Res :=
  .next (if s.sh.on PWR_SUP PWR_SUP_ON_HOLD == v then s
    else (s.withSh (s.sh.setSup PWR_SUP_ON_HOLD v)).told (Lane.evCut · evSupply))
/-- EMG_CHANGE (R610). -/
def execEmgChange (v : Bool) (s : State) : Res := .next (s.supFlag PWR_SUP_EMG v 0x0E04 v.toNat 0 0)
/-- VHOLD_EXHAUSTED (R606): with VSYS lost every domain switches off; the next start follows a POWER_ON reset. -/
def execVholdExhausted (s : State) : Res := .next (if s.sh.on PWR_SUP PWR_SUP_VSYS_LOST then s.resetBegin 1 else s)
/-- CAPACITANCE_MEASURED (R608), in 10 µF. -/
def execCapacitanceMeasured (c : BitVec 16) (s : State) : Res := .next (s.capacitance c.toNat)
/-- POWER_LOSS_TRIP (R633): VHOLD in 10 mV has fallen to VTRIP. -/
def execPowerLossTrip (vhold : BitVec 16) (t : Nat) (s : State) : Res :=
  .next (if vhold.toNat ≤ s.sh.fld PWR_LTRIP PWR_LTRIP_VTRIP then s.powerTrip t else s)
/-- Every record of a lane that serves counts as committed (R27). -/
def Lane.allCounted (l : Lane) : Bool := !(l.serves || l.st == .bisque) || decide (max l.rcd.done l.rcd.peerDone ≤ l.counted)
/-- FLUSH_COMPLETE (R607): the flush began before VSYS returned and has committed its records. -/
def execFlushComplete (s : State) : Res :=
  .next (if s.sh.pwr.flushed && !s.sh.on PWR_SUP PWR_SUP_VSYS_LOST && s.a.drained && s.b.drained && s.a.allCounted && s.b.allCounted
    then s.resetBegin 1 else s)

end Sys2Proof.Machine
end

