-- ==== Sys2Proof/Machine/Clock.lean ====
section
/-! DEFINITION. Clock islands, handshakes and the reference: spec/19_clock_islands.md. -/

namespace Sys2Proof.Machine

/-- The ends of a crossing and the reference monitors: the lanes and HOUSE. -/
def endLane : Fin 3 → Option LaneId
  | 0 => some .A
  | 1 => some .B
  | _ => none

/-- ALOCK or BLOCK, AHOLD or BHOLD, LOSS_A or LOSS_B of a lane. -/
def lockFld : LaneId → Fld
  | .A => CLK_ST_ALOCK
  | .B => CLK_ST_BLOCK
def holdFld : LaneId → Fld
  | .A => CLK_ST_AHOLD
  | .B => CLK_ST_BHOLD
def lossFld : LaneId → Fld
  | .A => CLK_REFMON_LOSS_A
  | .B => CLK_REFMON_LOSS_B

/-- The synthesisers lock (R596). -/
def Shared.synthLock (h : Shared) : Shared :=
  if h.start.phase == .reset then h else
  let w := CLK_ST_REF_OK.put 1 (CLK_ST_INT.put 0 (CLK_ST_HLOCK.put 1 (CLK_ST_ALOCK.put 1 (CLK_ST_BLOCK.put 1 (h.rd CLK_ST)))))
  h.wr CLK_ST (CLK_ST_AHOLD.put 0 (CLK_ST_BHOLD.put 0 (CLK_ST_TREF_EN.put 1 w)))

/-- A monitor declares reference loss: a lane goes into holdover and proceeds under R321; HOUSE moves to its internal
oscillator (R594, R595). -/
def State.refLoss (m : Fin 3) (s : State) : State :=
  match endLane m with
  | some i =>
    let h := ((s.sh.setB CLK_ST (lockFld i) false).setB CLK_ST (holdFld i) true).bump CLK_REFMON (lossFld i)
    ((s.withSh h).upd i (Lane.evNow · evClock)).laneFault i 0
  | none => s.withSh (s.sh.wr CLK_ST (CLK_ST_REF_OK.put 0 (CLK_ST_HLOCK.put 0 (CLK_ST_INT.put 1 (s.sh.rd CLK_ST)))))

/-- The unit that uses a crossing of a lane island (R592); none for a crossing that has no end there. -/
def stallUnit (bus link : Nat) : Option Nat :=
  match link with
  | 1 | 2 => some (4 + bus)
  | 3 | 4 => some 7
  | 5 => some 0
  | 6 | 7 => some 3
  | _ => none

/-- A stall counted in a register of CLK. -/
def Shared.stallCount (k : Nat) (link : Nat) (h : Shared) : Shared := (h.bump k ⟨0, 16⟩).setF k ⟨16, 4⟩ link

/-- A stall seen at the end of a lane: a fault of the lane (R592). -/
def State.stallLane (i : LaneId) (bus link : Nat) (s : State) : State :=
  match stallUnit bus link with
  | none => s
  | some u =>
    let k := match i with
      | .A => CLK_HSA
      | .B => CLK_HSB
    (((s.withSh (s.sh.stallCount k link)).upd i (Lane.evNow · evClock))).laneFault i u

/-- A stall seen at the HOUSE end; `i` is the lane of crossing 6 or 7 (R593). The ring ports send and count only in service (R191). -/
def State.stallHouse (i : LaneId) (link t : Nat) (s : State) : State :=
  if link < 6 || 10 < link then s else
  let s := State.onLanes (fun l => l.st != .off) (Lane.evNow · evClock) (s.withSh (s.sh.stallCount CLK_HSH link))
  match link with
  | 6 | 7 => s.upd i (fun l =>
      if l.st == .adjudicating then { l with adj := { l.adj with verdict := 3 } } else { l with adj := { l.adj with mute := true } })
  | 8 => s.withSh (s.sh.setPnl (fun w => { w with next := none }))
  | 9 =>
    let p := match s.sh.ring.sent with
      | some f => f.port
      | none => s.sh.ringOut .A
    let s := s.withSh (s.sh.setRing (fun r => { r with sent := none }))
    if s.ringLive then s.passToken p (s.sh.gt + t) else s
  | _ => if s.ringServes then s.withSh (s.sh.bump RING_ERR RING_ERR_FMT) else s

/-- The lane whose epoch marks the tile reference follows (R585). -/
def State.steers (s : State) : LaneId :=
  let p : LaneId := if s.sh.on MOD_STRAP MOD_STRAP_LANE then .B else .A
  match s.sh.auth with
  | some i => i
  | none => if (s.lane p).st == .off then p.other else p

/-- The CORR that steers the tile reference in the epoch that begins: the one formed before this boundary (R408, R585). -/
def State.corrSync (s : State) : State := s.withSh (s.sh.wr CLK_TCORR ((s.lane s.steers).rd TIME_CORR))

/-- CLK_TILE, current at every read: the tiles locked over a link that is up (R586, R599). -/
def Shared.tileLocks (h : Shared) : Word :=
  CLK_TILE_LOCK.put ((upTo 12).foldl (fun v t => v + (h.tileLink t .A || h.tileLink t .B).toNat * 2 ^ t) 0) 0#32

/-- The lane whose epoch marks the tile reference follows, as HOUSE shows it (R585). -/
def State.clkSync (s : State) : State := s.withSh (s.sh.setF CLK_ST CLK_ST_TSRC s.steers.num)

/-! ### Meanings -/

/-- REFERENCE_LOSS (R594): the monitor of Lane A (0), Lane B (1) or HOUSE (2). -/
def execReferenceLoss (mon : Fin 3) (s : State) : Res := .next (s.refLoss mon)
/-- HANDSHAKE_STALL (R591): the end that sees it (0 Lane A, 1 Lane B, 2 HOUSE), LINKID, the bus of crossings 1 and 2, the
lane of crossings 6 and 7. -/
def execHandshakeStall (seen : Fin 3) (link : BitVec 4) (bus : Bus) (lane : LaneId) (t : Nat) (s : State) : Res :=
  .next (match endLane seen with
    | some i => s.stallLane i bus.num link.toNat
    | none => s.stallHouse lane link.toNat t)
/-- SYNTH_LOCK (R596). -/
def execSynthLock (s : State) : Res := .next (s.withSh s.sh.synthLock)
/-- CLKREF_GOOD (R597). -/
def execClkrefGood (s : State) : Res :=
  .next (if s.sh.start.phase == .reset then s else s.withSh (s.sh.setB CLK_ST CLK_ST_REF_OK true))
/-- OSCILLATOR_CHECK_FAILURE (R582): HOUSE takes the internal oscillator of Lane B. -/
def execOscillatorCheckFailure (s : State) : Res := .next (s.withSh (s.sh.setB CLK_ST CLK_ST_OSCSRC true))

end Sys2Proof.Machine
end

