-- ==== Sys2Proof/Machine/Ledger.lean ====
section
/-! DEFINITION. The energy and thermal ledger: spec/21_energy_and_thermal_ledger.md. -/

namespace Sys2Proof.Machine

/-- The ledger's working state changed. -/
def Lane.setLed (l : Lane) (f : LedWork → LedWork) : Lane := { l with led := f l.led }
/-- A field of PWR_LST. -/
def Lane.lst (l : Lane) (f : Fld) : Nat := l.fld PWR_LST f

/-! ### The shed state (R626) -/

/-- The shed state of the levels decided so far takes effect at a boundary. -/
def Lane.shedApply (l : Lane) : Lane :=
  let e := l.lst PWR_LST_ELVL
  let t := l.lst PWR_LST_TLVL
  let w := PWR_LST_C4SHED.put (decide (1 ≤ e) || t == 2).toNat (PWR_LST_C3SHED.put (decide (2 ≤ e) || decide (1 ≤ t)).toNat (l.rd PWR_LST))
  l.wr PWR_LST (PWR_LST_C2RED.put (e == 3).toNat w)

/-- ELVL takes a value (R638). `cause`: 0 planning under EMG, 1 VSYS lost, 2 supply normal. -/
def Lane.setElvl (g v cause : Nat) (l : Lane) : Lane :=
  let old := l.lst PWR_LST_ELVL
  if old = v then l else
  ((l.setF PWR_LST PWR_LST_ELVL v).record 0x0E10 g (w32 v) (w32 old) (w32 cause) (w32 l.led.pm)).ev evLedger

/-- TLVL takes a value (R638); PLIM in mW. -/
def Lane.setTlvl (g v : Nat) (l : Lane) : Lane :=
  let old := l.lst PWR_LST_TLVL
  if old = v then l else
  ((l.setF PWR_LST PWR_LST_TLVL v).record 0x0E11 g (w32 v) (w32 old) (w32 l.led.pavg) (w32 (10 * l.fld PWR_LTCFG PWR_LTCFG_PLIM))).ev evThermal

/-- THERM_OVER takes a value (R631). -/
def Lane.setOver (g : Nat) (v : Bool) (l : Lane) : Lane :=
  if l.on PWR_LST PWR_LST_THERM_OVER == v then l else
  let l := (l.setB PWR_LST PWR_LST_THERM_OVER v).record 0x0E12 g (w32 v.toNat) (w32 l.led.pavg) 0#32 0#32
  if v then l.ev evThermal else l

/-! ### Measurement (R620–R623) -/

/-- The flush reserve of R634 in mJ. -/
def Lane.emgReserve (p : Nat) (l : Lane) : Nat := (p * (l.fld REC_STAT REC_STAT_F + 416) + 199999) / 200000
/-- e_rem of R628. -/
def Lane.eRem (l : Lane) : Nat := 1000 * l.fld PWR_LEBUD PWR_LEBUD_EBUD - (l.rd PWR_LEEMG).toNat
/-- t_left of R628 in ms. -/
def Lane.tLeft (g : Nat) (l : Lane) : Nat :=
  match l.led.emgAt with
  | some t => 1000 * l.fld PWR_LCFG PWR_LCFG_TRES - (g - t) / 1000000
  | none => 0

/-- Energies of an epoch (R621): `emg` with its setting in this cut, and p. -/
def Lane.countEnergy (g p : Nat) (emg : Bool) (l : Lane) : Lane :=
  let w := l.led
  let new := emg && w.emgAt.isNone
  let l := if new then l.wr PWR_LEEMG 0#32 else l
  let w := if new then { w with emgAt := some g, acce := 0, sig := false } else if emg then w else { w with emgAt := none }
  let a := w.acc + p
  let l := l.wr PWR_LETOT (w32 ((l.rd PWR_LETOT).toNat + a / 1000))
  let w := { w with acc := a % 1000 }
  if !emg then { l with led := w } else
  let b := w.acce + p
  { l.wr PWR_LEEMG (w32 (min 0xFFFFFFFF ((l.rd PWR_LEEMG).toNat + b / 1000))) with led := { w with acce := b % 1000 } }

/-- The power-loss signal in a lane: TRIPPED, the event and the flush (R633, R634, R638). -/
def Lane.lossSignal (cause : Nat) (l : Lane) : Lane :=
  let l := l.wr PWR_LST (PWR_LST_TRIPPED.put 1 (PWR_LST_TCAUSE.put cause (l.rd PWR_LST)))
  (l.ev evLedger).setRec (fun w => { w with flushDue := some (cause, l.fld PWR_LHOLD PWR_LHOLD_EU) })

/-- Phase 3 of the ledger in the epoch opened at `g`: the samples p and PAOUT in mW and VHOLD in 10 mV; ELVL on a loss of VSYS
(R627); the signal of R634. -/
def Lane.ledger (g p v paout : Nat) (l : Lane) : Lane :=
  let emg := l.hwOn PWR_SUP PWR_SUP_EMG
  let l := l.countEnergy g p emg
  let pdiss := p + paout + 50 * l.fld PWR_LTCFG PWR_LTCFG_DOW
  let eu := holdEnergy (l.fld PWR_LCFG PWR_LCFG_HOLD_C) v
  let l := (l.setF PWR_LHOLD PWR_LHOLD_EU (min 65535 eu)).wr PWR_LPWR (PWR_LPWR_LO.put (min 65535 p) (PWR_LPWR_HI.put (min 65535 pdiss) 0#32))
  let l := (l.setF PWR_LPAVG PWR_LPAVG_HI (min 65535 paout)).wr PWR_LEREM (w32 l.eRem)
  let l := l.setF PWR_LTRIP PWR_LTRIP_TLEFT (min 65535 (l.tLeft g / 1000))
  let l := l.setLed (fun w => { w with sumP := w.sumP + p, sumD := w.sumD + pdiss, num := w.num + 1, due := g % 100000000 == 0 })
  let l := if l.hwOn PWR_SUP PWR_SUP_VSYS_LOST then l.setElvl g 3 1 else l
  if emg && l.fld PWR_LEBUD PWR_LEBUD_EBUD != 0 && !l.led.sig && decide (l.eRem ≤ l.emgReserve p) then
    (l.setLed (fun w => { w with sig := true })).lossSignal 1
  else l

/-! ### Planning (R628–R631) -/

/-- p_proj of R628 at level `e`, in mW. -/
def Lane.pProj (e : Nat) (l : Lane) : Nat :=
  let t := l.lst PWR_LST_TLVL
  let step (held shed force : Bool) (s : Nat) : Int :=
    if held then 0 else if shed && !force then -(10 * s : Int) else if force && !shed then 10 * s else 0
  let d := step (t == 2) (decide (1 ≤ e)) (l.on PWR_LST PWR_LST_C4SHED) (l.fld PWR_LSAVE PWR_LSAVE_S4)
    + step (decide (1 ≤ t)) (decide (2 ≤ e)) (l.on PWR_LST PWR_LST_C3SHED) (l.fld PWR_LSAVE PWR_LSAVE_S3)
    + step false (e == 3) (l.on PWR_LST PWR_LST_C2RED) (l.fld PWR_LSAVE PWR_LSAVE_S2)
  ((l.led.pm : Int) + d).toNat

/-- ELVL in a planning epoch (R628). After a flush with cause 1 it is 3 while EMG stands (R635; log 86). -/
def Lane.planEnergy (g : Nat) (l : Lane) : Lane :=
  let e := l.lst PWR_LST_ELVL
  if l.hwOn PWR_SUP PWR_SUP_VSYS_LOST then l
  else if !l.hwOn PWR_SUP PWR_SUP_EMG then l.setElvl g (e - 1) 2
  else if l.fld PWR_LEBUD PWR_LEBUD_EBUD = 0 || l.led.sig then l.setElvl g 3 0
  else
    let avail := (l.eRem - l.emgReserve (l.fld PWR_LPWR PWR_LPWR_LO)) * 1000
    let need (k : Nat) : Nat := l.pProj k * l.tLeft g
    let up := ([0, 1, 2].find? (fun k => decide (need k ≤ avail))).getD 3
    if e < up then l.setElvl g up 0
    else if 0 < e && need (e - 1) * 10 ≤ avail * 9 then l.setElvl g (e - 1) 0 else l

/-- The thermal ledger in a planning epoch (R630, R631); off with PLIM 0. -/
def Lane.planHeat (g pw : Nat) (l : Lane) : Lane :=
  let plim := 10 * l.fld PWR_LTCFG PWR_LTCFG_PLIM
  if plim = 0 then l else
  let a : Nat := if l.led.avg then ((l.led.pavg : Int) + Int.tdiv ((pw : Int) - l.led.pavg) (10 * l.fld PWR_LTCFG PWR_LTCFG_TAU)).toNat else pw
  let l := (l.setLed (fun w => { w with pavg := a, avg := true })).setF PWR_LPAVG PWR_LPAVG_LO (min 65535 a)
  let t := l.lst PWR_LST_TLVL
  let l :=
    if plim < a then (l.setLed (fun w => { w with overCnt := 0 })).setTlvl g (min 2 (t + 1))
    else
      let n := if a * 100 ≤ plim * 95 then l.led.overCnt + 1 else 0
      if n = 10 && 0 < t then (l.setLed (fun w => { w with overCnt := 0 })).setTlvl g (t - 1)
      else l.setLed (fun w => { w with overCnt := n })
  if a ≤ plim then l.setOver g false else if l.lst PWR_LST_TLVL = 2 then l.setOver g true else l

/-- Planning of the epoch opened at `g`, once. -/
def Lane.planning (g : Nat) (l : Lane) : Lane :=
  let w := l.led
  if !w.due then l else
  let n := max 1 w.num
  let l := l.setLed (fun w => { w with due := false, pm := w.sumP / n, sumP := 0, sumD := 0, num := 0 })
  (l.planEnergy g).planHeat g (w.sumD / n)

/-! ### The flush reserve (R632) -/

/-- The least number whose square is at least `x`, below 2 ^ 12. -/
def leastRoot (x : Nat) : Nat :=
  (if x = 0 then 0 else 1) + ((upTo 12).map (fun i => 2 ^ (11 - i))).foldl (fun a b => if (a + b) * (a + b) < x then a + b else a) 0

/-- EFL and VTRIP at step 9. -/
def Lane.flushReserve (l : Lane) : Lane :=
  let efl := (3 * (l.fld REC_STAT REC_STAT_F + 16) + 199) / 200 + 6
  let c := max 1 (l.fld PWR_LCFG PWR_LCFG_HOLD_C)
  let v := leastRoot (250000 + (efl * 2000000 + c - 1) / c)
  (l.setF PWR_LHOLD PWR_LHOLD_EFL efl).setF PWR_LTRIP PWR_LTRIP_VTRIP v

/-- HOUSE takes VTRIP from the lane with output authority, or from the preferred one (R632). -/
def State.tripSync (s : State) : State :=
  let p : LaneId := if s.sh.on MOD_STRAP MOD_STRAP_LANE then .B else .A
  let l := s.lane (s.sh.auth.getD p)
  if l.st == .off then s else s.withSh (s.sh.wr PWR_LTRIP (l.rd PWR_LTRIP))

/-! ### Meaning -/

/-- PLANNING_EPOCH (R628, R630). -/
def execPlanningEpoch (s : State) : Res := .next (s.working (Lane.planning s.sh.gt))

end Sys2Proof.Machine
end

