-- ==== Sys2Proof/Machine/Mem.lean ====
section
/-! DEFINITION. The memory banks of a lane: spec/18_memory_banks.md. Contents are kept for banks owned by HOST or NONE; what
the units hold in their banks has no layout in the spec (log 28). -/

namespace Sys2Proof.Machine

/-! ### Contents: bytes of HOST and NONE banks, address bank × 65,536 + byte; unlisted bytes are 0 (R562) -/

/-- The byte at an address. -/
def memByte : List Host.Cell → Nat → Byte
  | [], _ => 0#8
  | c :: cs, a => if c.1 = a then c.2 else memByte cs a

/-- A byte stored, the list kept in rising addresses and free of zeros. -/
def memSet : List Host.Cell → Nat → Byte → List Host.Cell
  | [], a, v => if v = 0#8 then [] else [(a, v)]
  | c :: cs, a, v =>
    if a < c.1 then (if v = 0#8 then c :: cs else (a, v) :: c :: cs)
    else if a = c.1 then (if v = 0#8 then cs else (a, v) :: cs)
    else c :: memSet cs a v

/-- The canonical form: addresses strictly rising above `lo`, no byte 0. -/
def memWfFrom : Int → List Host.Cell → Bool
  | _, [] => true
  | lo, c :: cs => decide (lo < c.1) && c.2 != 0#8 && memWfFrom c.1 cs
/-- The canonical form of a lane's memory. -/
def Memory.wf (m : List Host.Cell) : Bool := memWfFrom (-1) m

/-- The half-word at byte address `a`. -/
def memWord (m : List Host.Cell) (a : Nat) : Word :=
  (memByte m (a + 3) ++ memByte m (a + 2) ++ memByte m (a + 1) ++ memByte m a : BitVec 32)
/-- A half-word stored, least significant byte first. -/
def memPut (m : List Host.Cell) (a : Nat) (v : Word) : List Host.Cell :=
  memSet (memSet (memSet (memSet m a (v.extractLsb' 0 8)) (a + 1) (v.extractLsb' 8 8)) (a + 2) (v.extractLsb' 16 8)) (a + 3)
    (v.extractLsb' 24 8)

/-! ### Owners (R563–R567) -/

/-- The owner of a bank. -/
def Lane.owner (l : Lane) (b : Nat) : Nat := l.fld (MEM_OWN b) MEM_OWN_OWNER
/-- A working owner. -/
def workingOwner (o : Nat) : Bool := 2 ≤ o && o ≤ 10
/-- The unit of R318 of a working owner (R563). -/
def ownerUnit (o : Nat) : Nat := [0, 0, 0, 2, 1, 7, 4, 5, 6, 0, 3].getD o 0

/-- A refused access or owner write, with the bank-access event (R564, R567). -/
def Lane.accErr (b : Nat) (ownwr : Bool) (l : Lane) : Lane :=
  let n := min 65535 (l.fld MEM_ACCERR MEM_ACCERR_COUNT + 1)
  let w := MEM_ACCERR_BANK.put b (MEM_ACCERR_ACCESSOR.put 14 (MEM_ACCERR_OWNWR.put ownwr.toNat (MEM_ACCERR_COUNT.put n 0#32)))
  (l.wr MEM_ACCERR w).evNow evBankAccess

/-- A write of MEM_OWNb at its effect boundary: between NONE and HOST only (R564, R565). -/
def Lane.ownWrite (b o : Nat) (l : Lane) : Lane :=
  let l := l.setB (MEM_OWN b) MEM_OWN_PEND false
  if 2 ≤ l.owner b || 2 ≤ o then l.accErr b true else l.setF (MEM_OWN b) MEM_OWN_OWNER o

/-! ### Accesses of the host window (R566–R569, R573) -/

/-- The value an alias writes over an old one: 0 normal, 1 bit set, 2 bit clear. -/
def aliasValue (mode : Nat) (old v : Word) : Word :=
  match mode with
  | 0 => v
  | 1 => old ||| v
  | _ => old &&& ~~~ v

/-- What a fault found in word `w` of bank `b` leaves in the registers, and its event (R573). `kind`: 1 uncorrectable, 2 parity. -/
def Lane.faultSeen (b w acc kind : Nat) (l : Lane) : Lane :=
  let n := min 255 (l.fld MEM_FAULT MEM_FAULT_COUNT + 1)
  let x := MEM_FAULT_BANK.put b (MEM_FAULT_WORD.put w (MEM_FAULT_ACCESSOR.put acc (MEM_FAULT_KIND.put kind (MEM_FAULT_COUNT.put n 0#32))))
  let l := if kind = 1 then l.bump (MEM_BST b) MEM_BST_UNCORR else l
  (l.wr MEM_FAULT x).evNow evMemFault

/-- A write of half-word `o` of a bank at its effect boundary. A word with an uncorrectable error takes the new half and
zero in the other, and the fault is seen (R573). -/
def Lane.bankWrite (mode b o : Nat) (v : Word) (l : Lane) : Lane :=
  if l.owner b != 1 then l.accErr b false else
  let a := b * 65536 + 4 * o
  let i := 8192 * b + o / 2
  if l.mw.bad.contains i then
    let m := memPut l.mem (b * 65536 + 8 * (o / 2) + 4 * (1 - o % 2)) 0#32
    { l.faultSeen b (o / 2) 14 1 with mem := memPut m a (aliasValue mode 0#32 v), mw := { l.mw with bad := l.mw.bad.filter (· != i) } }
  else { l with mem := memPut l.mem a (aliasValue mode (memWord l.mem a) v) }

/-- A fault of a bank: registers, event, and for a working bank the lane's fault (R573). `kind`: 1 uncorrectable, 2 parity. -/
def State.memFault (i : LaneId) (b w acc kind : Nat) (s : State) : State :=
  let l := s.lane i
  if l.st == .off then s else
  let s := s.upd i (Lane.faultSeen b w acc kind)
  if workingOwner (l.owner b) then s.laneFault i (ownerUnit (l.owner b))
  else if kind = 1 then
    s.upd i (fun l => { l with mw := { l.mw with bad := (8192 * b + w) :: l.mw.bad.filter (· != 8192 * b + w) } })
  else s

/-- A read of half-word `o` of a bank of a lane through a host window: its contents; a value the spec leaves open for a
bank that a unit owns. -/
def State.bankRead (i : LaneId) (b o : Nat) (s : State) : Word × State :=
  let l := s.lane i
  if workingOwner (l.owner b) then (Config.bankWord s.sh.free, s.withSh { s.sh with free := s.sh.free + 1 })
  else if l.mw.bad.contains (8192 * b + o / 2) then (0#32, s.memFault i b (o / 2) 14 1)
  else (memWord l.mem (b * 65536 + 4 * o), s)

/-- The kept signature of a bank of HOST or NONE (R577): the exclusive-or of the numbers 0 to 8,191 is 0. -/
def Lane.bankSig (l : Lane) (b : Nat) : BitVec 64 :=
  l.mem.foldl (fun a c => if c.1 / 65536 = b then let d : BitVec 64 := c.2.setWidth 64
    a ^^^ (d <<< (8 * (c.1 % 8))).rotateLeft (c.1 % 65536 / 8 % 64) else a) 0#64

/-! ### Scrubbing (R571, R574, R576) -/

/-- The scrubber corrects a word: CORR, the event, and HARD where the pass before corrected the same word. -/
def Lane.scrubFix (b i : Nat) (l : Lane) : Lane :=
  let l := (l.bump (MEM_BST b) MEM_BST_CORR).evNow evMemCorr
  let hard := l.mw.prev.contains i && !l.on (MEM_BST b) MEM_BST_HARD
  let l := if hard then (l.setB (MEM_BST b) MEM_BST_HARD true).evNow evMemFault else l
  { l with mw := { l.mw with hits := i :: l.mw.hits } }

/-- The scrubber moves to the next word; after the last one a new pass begins at boundary time `g`. -/
def Lane.scrubNext (g : Nat) (l : Lane) : Lane :=
  let p := l.fld MEM_SCRUB MEM_SCRUB_POS + 1
  if p < 262144 then l.setF MEM_SCRUB MEM_SCRUB_POS p else
  let l := (l.setF MEM_SCRUB MEM_SCRUB_POS 0).wrap MEM_SCRUB MEM_SCRUB_PASSES
  let l := l.wr MEM_SCRUBT (MEM_SCRUBT_MS.put (min 4095 ((g - l.mw.passAt) / 1000000)) 0#32)
  { l with mw := { l.mw with prev := l.mw.hits, hits := [], passAt := g } }

/-- A read of the scrubber: 0 no error, 1 a single-bit error, 2 uncorrectable, 3 a parity error on the transfer. -/
def State.scrub (i : LaneId) (res : Fin 4) (t : Nat) (s : State) : State :=
  let l := s.lane i
  if l.st == .off then s else
  let p := l.fld MEM_SCRUB MEM_SCRUB_POS
  let b := p / 8192
  let g := s.sh.gt + t
  let clear (s : State) : State := s.upd i (fun l => { l with mw := { l.mw with again := none } })
  match res with
  | 0 => (clear s).upd i (Lane.scrubNext g)
  | 1 => ((clear s).upd i (Lane.scrubFix b p)).upd i (Lane.scrubNext g)
  | 2 => ((clear s).memFault i b (p % 8192) 15 1).upd i (Lane.scrubNext g)
  | _ =>
    if l.mw.again == some p then ((clear s).memFault i b (p % 8192) 15 2).upd i (Lane.scrubNext g)
    else s.upd i (fun l => { l with mw := { l.mw with again := some p } })

/-- A single-bit error found by another read is corrected (R571). -/
def Lane.corrected (b : Nat) (l : Lane) : Lane :=
  if l.st == .off then l else (l.bump (MEM_BST b) MEM_BST_CORR).evNow evMemCorr

/-! ### Views (R45, R580) -/

/-- The three views of a lane: each lane's, and the active-lane alias. -/
inductive View where
  | lane (i : LaneId) | active
  deriving DecidableEq, Repr

/-- The lane with output authority is retired and none is left to receive it (R321, R325). -/
def State.authLost (s : State) : Bool :=
  match s.sh.auth with
  | some i => (s.lane i).st == .retired && (s.lane i.other).st != .active
  | none => true

/-- The lane that a view reaches; none where it is OFF or no lane holds output authority (R12, R542). -/
def State.viewLane (s : State) : View → Option LaneId
  | .lane i => if (s.lane i).st == .off then none else some i
  | .active =>
    match s.sh.auth with
    | some i => if s.authLost || (s.lane i).st == .off then none else some i
    | none => none

/-- The bank a view shows in its windows. -/
def State.viewBank (s : State) : View → Nat
  | .lane i => (s.lane i).mw.sel
  | .active => s.sh.sel
/-- A write of MEM_WSEL through a view. -/
def State.setBank (v : View) (b : Nat) (s : State) : State :=
  match v with
  | .lane i => s.upd i (fun l => { l with mw := { l.mw with sel := b } })
  | .active => s.withSh { s.sh with sel := b }

/-! ### Meanings -/

/-- MEMORY_UNCORRECTABLE (R573): bank, word and accessor (coded as in MEM_FAULT). -/
def execMemoryUncorrectable (lane : LaneId) (bank : Fin 32) (word : Fin 8192) (acc : BitVec 4) (s : State) : Res :=
  .next (s.memFault lane bank word acc.toNat 1)
/-- TRANSFER_PARITY_ERROR (R573): an accessor other than the scrubber, or the scrubber's second failure. -/
def execTransferParityError (lane : LaneId) (bank : Fin 32) (word : Fin 8192) (acc : BitVec 4) (s : State) : Res :=
  .next (s.memFault lane bank word acc.toNat 2)
/-- MEM_OWN_WRITE (R565), taking effect at the newest boundary in both lanes. -/
def execMemOwnWrite (bank : Fin 32) (owner : BitVec 4) (s : State) : Res := .next (s.both (Lane.ownWrite bank owner.toNat))
/-- MEM_WSEL_WRITE (R526, R542, R580): through the view of a lane, or the alias; without effect in bisque mode and through a view that
reaches no lane. -/
def execMemWselWrite (view : Option LaneId) (bank : Fin 32) (s : State) : Res :=
  let v : View := (view.map View.lane).getD .active
  .next (if s.sh.bisque || (s.viewLane v).isNone then s else s.setBank v bank)
/-- BIT_SET_WRITE (R568): half-word `o` of the bank the alias shows, at the newest boundary. -/
def execBitSetWrite (o : BitVec 14) (v : Word) (s : State) : Res := .next (s.both (Lane.bankWrite 1 s.sh.sel o.toNat v))
/-- BIT_CLEAR_WRITE (R568). -/
def execBitClearWrite (o : BitVec 14) (v : Word) (s : State) : Res := .next (s.both (Lane.bankWrite 2 s.sh.sel o.toNat v))
/-- SCRUB_READ (R576): what the read finds, `t` ns after the newest boundary. -/
def execScrubRead (lane : LaneId) (res : Fin 4) (t : Nat) (s : State) : Res := .next (s.scrub lane res t)

end Sys2Proof.Machine
end

