-- ==== Sys2Proof/Machine/Write.lean ====
section
/-! DEFINITION. Writes through the active-lane alias and over CNP: acceptance, forwarding, the effect boundary, and what each
register does with its write: R40–R43, R332, R545 and the register tables of the units. -/

namespace Sys2Proof.Machine

/-! ### Command registers (R545) -/

/-- A command register: its status register, the field of its target with the field that shows it, and the event of a refusal. -/
structure CmdReg where
  status : Nat
  unit : Fld
  last : Fld
  ev : Nat

/-- No field. -/
def noField : Fld := ⟨0, 0⟩
/-- The opcode of a command register, its STATUS and LAST_OP stand at the same bits in every unit. -/
def cmdOp : Fld := ⟨0, 8⟩
def cmdStatus : Fld := ⟨0, 2⟩
def cmdLastOp : Fld := ⟨8, 8⟩

/-- The command registers that act at an effect boundary of their own write. -/
def cmdReg (k : Nat) : Option CmdReg :=
  if k = AIN_CMD then some ⟨AIN_CMDST, AIN_CMD_CHANNEL, AIN_CMDST_LAST_CH, evAinRefused⟩
  else if k = CTRL_CMD then some ⟨CTRL_CMDST, CTRL_CMD_LOOP, CTRL_CMDST_LAST_LOOP, evCtrlRefused⟩
  else if k = AO_CMD then some ⟨AO_CMDST, AO_CMD_CHANNEL, AO_CMDST_LAST_CH, evAoRefused⟩
  else if k = DIO_CMD then some ⟨DIO_CMDST, DIO_CMD_CHANNEL, DIO_CMDST_LAST_CH, evDioRefused⟩
  else if k = SYS_CMD then some ⟨SYS_CMDST, SYS_CMD_LANE, SYS_CMDST_LAST_LANE, evSysRefused⟩
  else if k = REC_CMD then some ⟨REC_CMDST, noField, noField, evRecRefused⟩
  else if k = CAN_CMD 0 then some ⟨CAN_CMDST 0, CAN_CMD_BUF, CAN_CMDST_LAST_BUF, evCanRefused 0⟩
  else if k = CAN_CMD 1 then some ⟨CAN_CMDST 1, CAN_CMD_BUF, CAN_CMDST_LAST_BUF, evCanRefused 1⟩
  else if k = PNL_CMD then some ⟨PNL_CMDST, noField, noField, evPanelRefused⟩
  else if k = CFG_CMD then some ⟨CFG_CMDST, noField, noField, evCfgRefused⟩
  else none

/-- STATUS of a command register with the opcode and target of a write. -/
def CmdReg.put (c : CmdReg) (st : Nat) (v : Word) (l : Lane) : Lane :=
  l.wr c.status (cmdStatus.put st (cmdLastOp.put (cmdOp.get v) (c.last.put (c.unit.get v) (l.rd c.status))))

/-- A command that reaches its effect boundary. -/
def State.command (k : Nat) (v : Word) (s : State) : State :=
  let op := cmdOp.get v
  if k = AIN_CMD then s.ainCmd op (AIN_CMD_CHANNEL.get v) (AIN_CMD_ARG.get v)
  else if k = CTRL_CMD then s.both (fun l => l.ctrlCmd op (CTRL_CMD_LOOP.get v) (CTRL_CMD_ARG.get v) (l.rd CTRL_CMDVAL))
  else if k = AO_CMD then s.aoCmd op (AO_CMD_CHANNEL.get v) (AO_CMD_ARG.get v) (s.lead.rd AO_CMDVAL)
  else if k = DIO_CMD then s.dioCmd op (DIO_CMD_CHANNEL.get v) (DIO_CMD_ARG.get v)
  else if k = SYS_CMD then s.sysCmd op (SYS_CMD_LANE.get v)
  else if k = REC_CMD then s.both (Lane.recCmd s.sh.gt op)
  else if k = CAN_CMD 0 then s.canCmd 0 op (CAN_CMD_BUF.get v) (CAN_CMD_ARG.get v)
  else if k = CAN_CMD 1 then s.canCmd 1 op (CAN_CMD_BUF.get v) (CAN_CMD_ARG.get v)
  else if k = PNL_CMD then s.both (Lane.pnlCmd s.sh.gt op (PNL_CMD_ARG.get v))
  else s.cfgCmd op (CFG_CMD_ARG.get v)

/-! ### Acceptance and forwarding (R40–R42) -/

/-- The boundary at which a write accepted at `acc` takes effect, `g` being the newest boundary (R41). -/
def effectAt (g acc : Nat) : Nat := if acc - g < 800000 then g + 1000000 else g + 2000000

/-- The order of R42: by acceptance, the host port first. -/
def PendWrite.order (p : PendWrite) : Nat := 2 * p.acc + p.cnp.toNat

/-- The writes of a lane with one that finds an earlier write to the same command register pending marked (R545). -/
def markBusy (ws : List PendWrite) : List PendWrite :=
  ws.zipIdx.map (fun x => { x.1 with refused := x.1.refused ||
    ((cmdReg x.1.key).isSome && (ws.take x.2).any (fun q => q.key == x.1.key)) })

/-- A lane takes an accepted write: it waits for its boundary; a command shows BUSY, or STATE_REFUSED where it finds another one
BUSY (R93, R545), an owner change PEND; ALM_CMD queues (R155, R158, R565). -/
def Lane.takeWrite (p : PendWrite) (l : Lane) : Lane :=
  if p.key = ALM_CMD then l.almWrite p.val (originOf p.cnp) p.acc p.eff else
  let ws := markBusy (insertBy PendWrite.order p l.writes)
  let refused := ws.any (fun q => q.refused && q.key == p.key && q.acc == p.acc && q.cnp == p.cnp)
  let l := { l with writes := ws }
  let l := if MEM_OWN 0 ≤ p.key ∧ p.key < MEM_OWN 32 then l.setB p.key MEM_OWN_PEND true else l
  match cmdReg p.key with
  | some c => c.put (if refused then stRefused else stBusy) p.val l
  | none => l

/-- A key of a lane-local register (R12, R43). -/
def laneLocalKey (k : Nat) : Bool := ((regRow? k).map RegRow.laneLocal).getD false

/-- A lane takes a forwarded write; one that computes nothing takes those of lane-local registers (R543). -/
def Lane.takeForwarded (l : Lane) (p : PendWrite) : Lane :=
  if l.takes then l.takeWrite p
  else if l.st != .off && laneLocalKey p.key then { l with writes := insertBy PendWrite.order p l.writes } else l

/-- A write accepted at instant `acc` by the lane with output authority, which forwards it (R12, R40); while the link is lost it stays
in that lane alone (R544). -/
def State.accept (k : Nat) (v : Word) (acc : Nat) (cnp : Bool) (s : State) : State :=
  match s.sh.auth with
  | none => s
  | some i =>
    let p : PendWrite := { key := k, val := v, acc := acc, eff := effectAt s.sh.gt acc, cnp := cnp }
    s.upd i (fun l =>
      let l := l.takeWrite p
      if s.linkUp then { l with link := { l.link with wfwd := l.link.wfwd ++ [p] } }
      else { l with link := { l.link with kept := l.link.kept ++ [p] } })

/-- The writes on their way to lane `i` arrive. -/
def State.writesTo (i : LaneId) (s : State) : State :=
  let ws := (s.lane i.other).link.wfwd
  let s := s.upd i.other (fun l => { l with link := { l.link with wfwd := [] } })
  s.upd i (fun l => ws.foldl Lane.takeForwarded l)

/-! ### Effects -/

/-- Bit-window keys: 2 ^ 22 + 2 ^ 19 × mode + 2 ^ 14 × bank + half-word; the bank is the one shown at acceptance. -/
def windowKey (mode bank o : Nat) : Nat := 2 ^ 22 + 2 ^ 19 * mode + 2 ^ 14 * bank + o

/-- The routing bits that a write of EVT_CNPw can set: none of a lane-local source, none of event-merge (R556). -/
def routeMask (w : Nat) : Word :=
  if w = 0 then 0x7FFFFFFF#32 else if w = 1 then 0x1FFFFFFF#32 else if w = 2 then 0x3FFF1FFF#32 else 0xFFFFFFFF#32

/-- The bits of word `i` of a message buffer that are not reserved (R382). -/
def canWordMask (i : Nat) : Word := if i = 0 then 0x7FFFFFFF#32 else if i = 1 then 0x7F#32 else 0xFFFFFFFF#32

/-- A buffer word written while its buffer cannot take it (R389); reserved bits stay 0 (R14, R382). -/
def Lane.canWord (b m i : Nat) (v : Word) (l : Lane) : Lane :=
  if !l.hostOwned b m then l
  else if l.on (CAN_BST b m) CAN_BST_TXP then l.ev (evCanRefused b)
  else l.wr (CAN_BW b m i) (v &&& canWordMask i)

/-- The bus, buffer and word of a key of CAN_BW. -/
def canWordOf (k : Nat) : Option (Nat × Nat × Nat) :=
  [0, 1].findSome? (fun b =>
    let d := k - CAN_BW b 0 0
    if CAN_BW b 0 0 ≤ k ∧ d < 18 * 128 then some (b, d / 18, d % 18) else none)

/-- SYS_TEST written in a lane (R338). -/
def Lane.sysTest (v : Word) (l : Lane) : Lane :=
  if l.on SYS_CFG SYS_CFG_LANE_TEST_EN then
    l.wr SYS_TEST (SYS_TEST_INJ_DIG.put (SYS_TEST_INJ_DIG.get v ||| l.fld SYS_TEST SYS_TEST_INJ_DIG)
      (SYS_TEST_FAIL_ADJ.put (SYS_TEST_FAIL_ADJ.get v) 0#32))
  else l.evNow evViewRefused

/-- EVT_PENDw written at an effect boundary: the bits written as 1 clear, but for those set at that boundary (R15, R550). -/
def Lane.pendClearAt (w : Nat) (v : Word) (l : Lane) : Lane :=
  l.wr (EVT_PEND w) (l.rd (EVT_PEND w) &&& ~~~ (v &&& ~~~ ((l.evAt >>> (32 * w)).setWidth 32)))
/-- EVT_PENDw written within an epoch, in the view of the lane: the bits written as 1 clear (R13, R543, R550). -/
def Lane.pendClear (w : Nat) (v : Word) (l : Lane) : Lane := l.wr (EVT_PEND w) (l.rd (EVT_PEND w) &&& ~~~ v)
/-- EVT_CNPw written (R556). -/
def Lane.route (w : Nat) (v : Word) (l : Lane) : Lane := l.wr (EVT_CNP w) (v &&& routeMask w)

/-- A register that is no command register at the effect boundary of its write. -/
def Lane.writeReg (k : Nat) (v : Word) (l : Lane) : Lane :=
  if 2 ^ 22 ≤ k then l.bankWrite (k / 2 ^ 19 % 8) (k / 2 ^ 14 % 32) (k % 2 ^ 14) v
  else if EVT_PEND 0 ≤ k ∧ k < EVT_PEND 6 then l.pendClearAt (k - EVT_PEND 0) v
  else if EVT_CNP 0 ≤ k ∧ k < EVT_CNP 6 then l.route (k - EVT_CNP 0) v
  else if MEM_OWN 0 ≤ k ∧ k < MEM_OWN 32 then l.ownWrite (k - MEM_OWN 0) (MEM_OWN_OWNER.get v)
  else if CFG_KEY 0 ≤ k ∧ k < CFG_KEY 8 then l.wr k v
  else if k = SYS_TEST then l.sysTest v
  else if k = REC_RDIDX then l.rdIdx (REC_RDIDX_INDEX.get v)
  else match canWordOf k with
    | some x => l.canWord x.1 x.2.1 x.2.2 v
    | none => match regRow? k with
      | some r => l.wr k ((l.rd k &&& ~~~ r.rw) ||| (v &&& r.rw))
      | none => l

/-- A write at its effect boundary. A refused one raises the event of its unit there and has no effect (R93, R545, R549). -/
def State.writeEffect (s : State) (p : PendWrite) : State :=
  match cmdReg p.key with
  | some c =>
    if p.refused then s.working (fun l => l.ev c.ev) else s.command p.key p.val
  | none => s.working (Lane.writeReg p.key p.val)

/-- A lane-local register written through the view of its lane: the write takes effect at once (R43, R543). -/
def Lane.viewWrite (k : Nat) (v : Word) (l : Lane) : Lane :=
  if EVT_PEND 0 ≤ k ∧ k < EVT_PEND 6 then l.pendClear (k - EVT_PEND 0) v else l.writeReg k v

/-- The writes of lane-local registers that take effect at boundary `g` in a lane that computes nothing (R543). -/
def Lane.localWrites (g : Nat) (l : Lane) : Lane :=
  if l.working || l.st == .off then l else
  (l.writes.filter (fun p => p.eff ≤ g && laneLocalKey p.key)).foldl (fun l p => l.writeReg p.key p.val) l

/-- The writes that take effect at boundary `g`, in order (R42). -/
def State.applyWrites (g : Nat) (s : State) : State :=
  let due := s.lead.writes.filter (fun p => p.eff ≤ g)
  let rest (l : Lane) : Lane := { l.localWrites g with
    writes := l.writes.filter (fun p => g < p.eff), link := { l.link with kept := l.link.kept.filter (fun p => g < p.eff) } }
  due.foldl State.writeEffect { s with a := rest s.a, b := rest s.b }

end Sys2Proof.Machine
end

