-- ==== Sys2Proof/Machine/Event.lean ====
section
/-! DEFINITION. Event registers, interrupt lands and event messages: R549–R556 of spec/17_host_port_and_events.md. -/

namespace Sys2Proof.Machine

/-! ### Sums and lands (R550–R552) -/

/-- ANY of EVT_SUM. -/
def Lane.evtAny (l : Lane) : Nat :=
  (upTo 6).foldl (fun v w => v + ((l.rd (EVT_PEND w) &&& l.rd (EVT_MASK w)) != 0#32).toNat * 2 ^ w) 0
/-- The interrupt land of a lane is asserted (R551). -/
def Lane.irq (l : Lane) : Bool := l.evtAny != 0 && l.st != .off
/-- FAULT_n is asserted (R552). -/
def State.faultN (s : State) : Bool := s.unres || s.sh.bisque
/-- EVT_SUM of a lane. -/
def State.evtSum (s : State) (i : LaneId) : Word :=
  let l := s.lane i
  EVT_SUM_ANY.put l.evtAny (EVT_SUM_IRQ.put l.irq.toNat (EVT_SUM_FAULT.put s.faultN.toNat 0#32))

/-- The events that the work of an epoch raised become pending with its release (R549). -/
def Lane.evRelease (ev : BitVec 192) (l : Lane) : Lane :=
  (upTo 6).foldl (fun l w => l.wr (EVT_PEND w) (l.rd (EVT_PEND w) ||| (ev >>> (32 * w)).setWidth 32)) l

/-! ### Event messages (R553, R554) -/

/-- Whether a bus carries event messages. -/
def Lane.evtBus (l : Lane) (b : Nat) : Bool :=
  l.on EVT_CNPCFG EVT_CNPCFG_EN && l.on EVT_CNPCFG (if b = 0 then EVT_CNPCFG_BUS1 else EVT_CNPCFG_BUS2)
    && l.on (CAN_CFG b) CAN_CFG_BUS_EN

/-- The data of an event message. -/
def evtData (w : Nat) (merged : Bool) (count epoch : Nat) (bits : Word) : List Byte :=
  [BitVec.ofNat 8 (w + 128 * merged.toNat), BitVec.ofNat 8 count] ++ leBytes 2 (epoch % 65536) ++ wordBytes bits

/-- The message of word `w` on bus `b` for the events of the newest released epoch; `busy`: the head of the bus's queue is being sent. -/
def Lane.evtMsg (b : Nat) (busy : Bool) (l : Lane) (w : Nat) : Lane :=
  let bits : Word := (l.evPrev >>> (32 * w)).setWidth 32 &&& l.rd (EVT_CNP w)
  if bits = 0#32 then l else
  let x := l.can b
  let epoch := l.evPrevAt / 1000000
  let keep := if busy then x.own.take 1 else []
  let rest := x.own.drop keep.length
  let mine (f : OwnFrame) : Bool := f.kind == 0 && f.word == w && !f.sent
  match rest.find? mine with
  | some f =>
    let old : Word := w32 (leNat (f.data.drop 4))
    let f' := { f with data := evtData w true (f.data.getD 1 0#8).toNat epoch (old ||| bits) }
    let l := l.setCan b { x with own := keep ++ rest.map (fun y => if mine y then f' else y) }
    (l.bump EVT_CNPST EVT_CNPST_MERGES).ev evMerge
  | none =>
    let f : OwnFrame := { kind := 0, id := cnpId (l.fld EVT_CNPCFG EVT_CNPCFG_PRIO) 2 l.nodeAddr w, data := evtData w false x.msgs epoch bits, word := w }
    l.setCan b { x with own := x.own ++ [f], msgs := (x.msgs + 1) % 256 }

/-- Phase 6: the event messages of both buses. -/
def Lane.evtForm (h : Shared) (l : Lane) : Lane :=
  let l := [0, 1].foldl (fun l b =>
    if !l.evtBus b then l else (upTo 6).foldl (Lane.evtMsg b (match (h.can b).sending with
      | some .own => true
      | _ => false)) l) l
  { l with evPrev := 0#192 }

/-! ### Meanings -/

/-- EVT_PEND_CLEAR (R550): a write through the view of a lane, which acts at once (R543); none in bisque mode (R526). -/
def execEvtPendClear (lane : LaneId) (w : Fin 6) (v : Word) (s : State) : Res :=
  let l := s.lane lane
  .next (if l.st == .off || l.st == .bisque then s else s.upd lane (Lane.pendClear w v))
/-- EVT_CNP_WRITE (R556): at its effect boundary, in both lanes. -/
def execEvtCnpWrite (w : Fin 6) (v : Word) (s : State) : Res := .next (s.both (Lane.route w v))

end Sys2Proof.Machine
end

