-- ==== Sys2Proof/Machine/Digest.lean ====
section
/-! DEFINITION. The digest of an epoch: R318 of spec/10_lanes_and_failover.md. How the items of a contribution are laid out in
words, where the rule leaves it open, is the model's choice (log 41). -/

namespace Sys2Proof.Machine

/-- Registers at `ks` that differ from their words at the end of the epoch before. -/
def Lane.changed (l : Lane) (ks : List Nat) : List Word :=
  (ks.filter (fun k => l.rd k != RegFile.rd l.endRegs k)).flatMap (fun k => [w32 k, l.rd k])

/-- Unit 0: every channel's agreed value, AIN_VFLG and path trims. -/
def Lane.conMeasure (l : Lane) : List Word :=
  (upTo 96).flatMap (fun n =>
    let c := l.chan n
    let a := c.trim n .A
    let b := c.trim n .B
    [l.rd (AIN_VAL n), l.rd (AIN_VFLG n), a.1, a.2, b.1, b.2])

/-- Unit 1: every loop evaluated in the epoch. -/
def Lane.conControl (l : Lane) : List Word :=
  ((upTo 32).filter (fun n => (l.loop n).done)).flatMap (fun n =>
    let w := l.loop n
    [l.rd (CTRL_ST n), w.x1, w.x2, w.y1, w.y2, w.f, w.xp, w.d, l.rd (CTRL_I n), l.rd (CTRL_OUT n), w.vNew0, w.vNew1])

/-- Unit 2: point transitions in the order of their records, then changed group, rule, shelving and call state. -/
def Lane.conAlarm (l : Lane) : List Word :=
  (l.released.filter (fun r => r.code == 0x0100)).flatMap Rec.words
    ++ l.changed ((upTo 128).flatMap (fun g => [ALM_GRPST g, ALM_GRPFO g]) ++ (upTo 256).map ALM_RULEST ++ [ALM_SHELFST]
      ++ (upTo 2048).map ALM_SHLV ++ [ALM_CALLST, ALM_CALLED, ALM_DMST])

/-- The payload of a CMD_RESP frame (R199) that waits for the ring, with its destination. -/
def AlmCmd.respWords (c : AlmCmd) : List Word := [w32 c.raddr, w32 c.op, w32 c.tgt, w32 c.sseq, w32 c.status]

/-- Unit 3: the commands for the next boundary: AO codes and flags, DO states, HART bytes, the CALL and CMD_RESP frames of the ring,
summary levels. -/
def Lane.conOutput (l : Lane) : List Word :=
  (upTo 24).flatMap (fun n => [w32 ((l.ao n).code + 65536 * (l.ao n).off.toNat), l.rd (AO_ST n)]) ++ [l.doNext]
    ++ (upTo 24).flatMap (fun n => match (l.hart n).cur with
      | some t => w32 n :: t.req.map (fun b => b.setWidth 32)
      | none => [])
    ++ l.callPayload.map (fun b => b.setWidth 32) ++ l.alm.resp.flatMap AlmCmd.respWords ++ [l.rd ALM_SUMST]

/-- Units 4 and 5: staged transmit data, event messages and the schedule position (R423): the cycle number with the master state of
the bus, and what both buses share of it. -/
def Lane.conCan (b : Nat) (l : Lane) : List Word :=
  let w := l.can b
  w.staged.flatMap (fun s => [w32 s.1, w32 s.2.1] ++ (upTo 18).map (fun i => l.rd (CAN_BW b s.1 i)))
    ++ (w.own.filter (fun f => f.kind == 0)).flatMap (fun f => w32 f.id :: f.data.map (fun b => b.setWidth 32))
    ++ (w.refStaged.map frameWords).getD []
    ++ [l.rd (SCH_ST b), l.rd TIME_ST, l.rd TIME_MISS, l.rd TIME_CORR, w32 l.time.prevValid.toNat,
      BitVec.ofInt 32 l.time.ePrev, (BitVec.ofInt 64 l.time.ePrev >>> 32).setWidth 32]

/-- The words of a part of the frame bank that the epoch has written: 0 the render frame, 1 the host shown frame, 2 the glyphs and
texts. -/
def Lane.framePart (l : Lane) : Nat → List Word
  | 0 => (upTo 2048).map (l.pnl.render.at 0#32)
  | 1 => (upTo 2048).map (l.pnl.shown.at 0#32)
  | _ => (upTo 768).flatMap (fun k => (l.pnl.txt.at [] k).map (fun b => b.setWidth 32))
/-- Unit 6: what the epoch has written to the frame bank, the host draw frame among it, and the drive settings. -/
def Lane.conPanel (l : Lane) : List Word :=
  let f := match l.pnl.frame with
    | some f => [w32 f.start, w32 f.lit.toNat, w32 f.iCol, w32 f.vsp]
    | none => []
  l.changed ((upTo 2048).map PNL_HF) ++ l.pnl.wrote.flatMap l.framePart ++ [l.rd PNL_ST, w32 l.dimTarget] ++ f

/-- Unit 7: every record formed in the epoch, in release order. -/
def Lane.conRecords (l : Lane) : List Word := l.released.flatMap Rec.words

/-- The contribution of a unit. -/
def Lane.contribution (l : Lane) : Nat → List Word
  | 0 => l.conMeasure
  | 1 => l.conControl
  | 2 => l.conAlarm
  | 3 => l.conOutput
  | 4 => l.conCan 0
  | 5 => l.conCan 1
  | 6 => l.conPanel
  | _ => l.conRecords

/-- The epoch count since the newest 3 s anchor (R319). -/
def epochCount (g : Nat) : Nat := g % 3000000000 / 1000000

/-- The digest packet of the epoch opened at `g`; `inc`: a unit that has not delivered (R320). INJ_DIG inverts bit 0 (R338). -/
def Lane.digest (l : Lane) (g : Nat) (inc : Option Nat) : DigPkt :=
  let subs := (upTo 8).map (fun u => crc32c (wordsBytes (l.contribution u)))
  let d := crc64 (wordsBytes subs)
  { epoch := epochCount g, inc := inc, dig := if l.on SYS_TEST SYS_TEST_INJ_DIG then d ^^^ 1#64 else d, subs := subs }

end Sys2Proof.Machine
end

