-- ==== Sys2Proof/Machine/Opening.lean ====
section
/-! DEFINITION. The work of an epoch: what follows the closing of its cut, phases 4 to 6, and the release of step 9: R28, R32,
R38, R44, R329 and R549. -/

namespace Sys2Proof.Machine

/-! ### From the cut to phase 3 (R28 steps 1 to 3, R32) -/

/-- A record of the cut as the epoch opened at `g` forms it; records of supplies carry the opening boundary (R611). -/
def Lane.formedOf (l : Lane) (g : Nat) (r : Rec) : Formed :=
  { grp := recGroup r.code, rank := 0, r := { r with
      time := if r.code / 256 = 0x0E then g else r.time, solo := !l.instep, unsync := !l.on TIME_ST TIME_ST_SYNC, hold := l.adj.catchUp != 0 } }

/-- The cut closes: the shed state, the shared status, and the events and records that the data of the cut raise. -/
def Lane.openCut (h : Shared) (g : Nat) (l : Lane) : Lane :=
  let l := l.shedApply
  let old := l.hw
  let c := l.cut
  let l := { l with hw := l.hwTake h, raised := l.raised ||| c.ev, formed := l.formed ++ c.recs.map (l.formedOf g) }
  (({ l with cut := { l.cut with ev := 0#192, recs := [] } }).doTake g old).ringTaken g

/-- Loop outputs and HART in phase 3. -/
def Lane.openOutputs (h : Shared) (g : Nat) (l : Lane) : Lane :=
  let l := (upTo 24).foldl (fun l n => (l.aoTakeover g n).aoTake h g n) l
  let rx := l.cut.hart
  let l := rx.foldl (Lane.hartTake g) { l with cut := { l.cut with hart := [] } }
  ((upTo 24).foldl (Lane.hartAge g) l).aoRelink h

/-- The power-loss signal in the cut (R366, R633). -/
def Lane.openLoss (h : Shared) (l : Lane) : Lane :=
  match h.lossSig with
  | some c => if h.pwr.flushed && l.on REC_STAT REC_STAT_FLUSH then l else l.lossSignal c
  | none => l

/-- Phase 3 of the epoch opened at `g` on the cut that `cut` holds, the stages standing as `h` says, and what waits for phases 4 and
5. -/
def Lane.openWork (cut h : Shared) (o : Obs) (g : Nat) (l : Lane) : Lane :=
  let l := l.ledger g o.p.toNat o.vhold.toNat o.paout.toNat
  let l := ((l.measure cut g).openOutputs h g).diTake h g
  let l := (l.canTake h g).pnlTake g
  let l := ((l.shardEnd g).freezeLimit g).openLoss h
  let l := l.loopsOpen.presence g
  (l.setAlm (fun a => { a with stage := if g % 10000000 = 0 then 0 else 9 })).keepStatus

/-- Records formed before the first epoch, or while no lane computed: they are released before the others of the epoch, in the order in
which they arose (R531); where `first`, those of the node take the boundary of the epoch that releases them. -/
def State.takeEarly (first : Bool) (s : State) : State :=
  let rs := s.sh.start.early
  if rs.isEmpty || !(s.a.working || s.b.working) then s else
  let g := s.sh.gt
  let one (l : Lane) (r : Rec) : Formed := { l.formedOf g (if first && r.code / 256 != 4 then { r with time := g } else r) with grp := 0 }
  let s := s.working (fun l => { l with formed := rs.map (one l) ++ l.formed })
  s.withSh (s.sh.setStart (fun t => { t with early := [] }))

/-- The stages as the writes and partial firings of the boundary have left them; a kept cut (R329) takes only the thermal latches that
they have cleared (R260). -/
def Shared.after (h now : Shared) : Shared :=
  if now.gt = h.gt then now else
  (upTo 24).foldl (fun h n => h.setAo n { h.ao n with tlatch := (h.ao n).tlatch && (now.ao n).tlatch }) h

/-- The flush has begun in the epoch whose cut holds the power-loss signal (R607). -/
def Shared.lossTaken (h : Shared) : Shared := if h.lossSig.isSome then { h with pwr := { h.pwr with flushed := true } } else h

/-- The opening of an epoch in the lanes that compute: cut, partial firing, writes, phase 3 (R28, R42). -/
def State.opening (h : Shared) (o : Obs) (s : State) : State :=
  let g := h.gt
  let s := ((s.both (Lane.openCut h g)).patchApply g).applyWrites g
  let was := s.lead.pon PNL_ST_CRZ_FAULT
  let s := (s.both (Lane.openWork h (h.after s.sh) o g)).crzCount was
  if h.lossSig.isSome then s.withSh s.sh.lossTaken else s

/-! ### Phases 4 to 6 -/

/-- What the rows of an epoch have left to do in phases 4 and 5, and phase 6 for the boundary `next`. -/
def Lane.formWork (h : Shared) (g next : Nat) (l : Lane) : Lane :=
  let l := (((l.flushNow g).loopsRun g).scanTo g 9).devSweep g
  let l := (upTo 24).foldl (Lane.hartDue g) l
  let l := (((l.ntcFault g).pageTimer g).patchSay g).planning g
  let l := ((upTo 24).foldl (Lane.aoForm g next) l).tpAll next
  let l := l.doForm
  let l := ((l.schedForm g next 0).schedForm g next 1).evtForm h
  let l := if g % 10000000 = 0 then l.render g else l
  (l.pnlForm g next).loopLatch next

/-! ### Release (R28 step 9) -/

/-- Records and events of the epoch opened at `g` are released. -/
def Lane.releaseWork (g : Nat) (l : Lane) : Lane :=
  let l := (l.releaseRecs g).flushReserve
  let l := l.evRelease l.raised
  { l with evPrev := l.raised, evPrevAt := g, raised := 0#192 }

/-- The epoch results that reads show (R44). -/
def Lane.showResults (l : Lane) : Lane := { l with shown := l.regs }

/-- The switch-over record at the release in step 3 of R329 (R334). -/
def Lane.switchRec (g : Nat) (l : Lane) : Lane :=
  match l.adj.sw with
  | none => l
  | some (p2, p3) =>
    let l := { l with adj := { l.adj with sw := none } }
    l.record 0x0802 g (w32 l.adj.bnd) (w32 (l.adj.bnd / 2 ^ 32)) p2 (p3 ||| w32 (4096 * l.adj.held))

/-- The epoch of a lane ends without comparison: a catch-up step, or running alone (R329). -/
def Lane.soloRelease (g : Nat) (l : Lane) : Lane :=
  let c := l.adj.catchUp
  let l := if c = 1 then l.switchRec g else l
  let l := (l.releaseWork g).showResults
  { l with adj := { l.adj with catchUp := c - 1 } }

/-- The lane's alarm responses and call payload reach the ring ports (R199). -/
def Shared.ringTake (l : Lane) (h : Shared) : Shared :=
  h.setRing (fun r => { r with callPay := l.callPayload, resp := r.resp ++ l.alm.resp })

/-- The bisque drive set once LIT is first reached after a firing, and PROVEN cleared at a trip, also in bisque mode (R462, R510); `old`
shows the epoch before, `n` this one. -/
def Shared.panelRecord (old : RegFile) (n : Lane) (h : Shared) : Shared :=
  let was := RegFile.rd old PNL_ST
  if !PNL_ST_PROVEN.on was && n.pon PNL_ST_PROVEN && n.pnl.drv.isNone then
    let b := n.pst PNL_ST_BAND
    h.srecPut (fun r => { r with
      pflags := 1 + 2 * n.fld PNL_CFG PNL_CFG_RAILX, vneg := n.fld PNL_CFG2 PNL_CFG2_VNEG_SET,
      vcol := n.fld (PNL_BANDX b) PNL_BANDX_VCOL_SET, frate := n.fld PNL_CFG PNL_CFG_FRATE, ewf := n.fld PNL_CFG PNL_CFG_EWF,
      rratio := n.fld PNL_CFG PNL_CFG_RRATIO, icodeH := n.fld (PNL_BAND b) PNL_BAND_ICODE / 2 })
  else if PNL_ST_PSTATE.get was != 7 && n.pst PNL_ST_PSTATE == 7 && h.start.srec.pflags % 2 == 1 then
    h.srecPut (fun r => { r with pflags := r.pflags - 1 })
  else h

/-- What the node takes from the released epoch of the leading lane. -/
def State.released (old : RegFile) (s : State) : State :=
  let h := (s.sh.ringTake s.lead).panelRecord old s.lead
  (s.withSh h).both (fun l => l.setAlm (fun a => { a with resp := [] }))

/-- Every lane that computes ends its epoch without comparison; in the first step of a catch-up its commands are discarded (R329). -/
def State.releaseSolo (g : Nat) (s : State) : State :=
  let old := s.lead.shown
  let held := s.lead.adj.catchUp == 2
  let s := s.both (Lane.soloRelease g)
  if held then s.both (fun l => l.setAlm (fun a => { a with resp := [] })) else s.released old

/-- Both lanes release after a match. -/
def State.releaseMatch (g : Nat) (s : State) : State :=
  let old := s.lead.shown
  (s.both (fun l => (l.releaseWork g).showResults)).released old

end Sys2Proof.Machine
end

