-- ==== Sys2Proof/Machine/Link.lean ====
section
/-! DEFINITION. The Feben link, comparison, adjudication, its outcomes and a lane's return into step: R20, R27, R40,
R316–R335 and R338 of spec/10_lanes_and_failover.md, R363, R516 and R517. -/

namespace Sys2Proof.Machine

/-! ### The link (R316, R317) -/

/-- The receiving end of a lane loses the link: LOST, the event, retraining; a state transfer starts again (R517). -/
def State.linkLost (i : LaneId) (s : State) : State :=
  let l := s.lane i
  if l.st == .off || !l.on LINK_STAT LINK_STAT_UP then s else
  let both := s.linkUp
  let s := s.upd i (fun l =>
    let l := ((l.setB LINK_STAT LINK_STAT_UP false).setB LINK_STAT LINK_STAT_LOST true).bump LINK_STAT LINK_STAT_LOSSES
    { l.evNow evLink with link := { l.link with idleRun := 0, tries := [] } })
  if both then s.stxRetry else s

/-- UP is set after 64 consecutive valid IDLE packets. -/
def Lane.linkUp (l : Lane) : Lane :=
  if l.st == .off || l.on LINK_STAT LINK_STAT_UP || l.link.idleRun < 64 then l
  else { (l.setB LINK_STAT LINK_STAT_UP true).setB LINK_STAT LINK_STAT_LOST false with link := { l.link with tries := [] } }

/-- A packet of priority `ty` (8 IDLE) with an error reaches lane `i`: 1 parity, 2 CRC-32C; it is resent at most twice. -/
def State.packetBad (i : LaneId) (ty err : Nat) (s : State) : State :=
  let s := s.upd i (fun l =>
    let l := l.bump LINK_ERR (if err = 1 then LINK_ERR_PAR else LINK_ERR_CRC)
    { l with link := { l.link with idleRun := 0, tries := ty :: l.link.tries } })
  if !(s.lane i).on LINK_STAT LINK_STAT_UP then s
  else if 3 ≤ ((s.lane i).link.tries.filter (· == ty)).length then s.linkLost i
  else s.upd i.other (fun l => l.bump LINK_RESEND LINK_RESEND_RESENDS)

/-- The packet of priority `ty` in question has come through. -/
def Lane.packetGood (ty : Nat) (l : Lane) : Lane := { l with link := { l.link with tries := l.link.tries.filter (· != ty) } }

/-- A packet other than IDLE, of priority `ty`, reaches lane `i`: with the link up and no error, `f` takes it. After a failed attempt
the next packet of its type is its repetition. -/
def State.packet (i : LaneId) (ty : Nat) (err : Fin 3) (f : State → State) (s : State) : State :=
  if (s.lane i).st == .off then s
  else if err.val != 0 then s.packetBad i ty err
  else if !(s.lane i).on LINK_STAT LINK_STAT_UP then s.upd i (fun l => { l with link := { l.link with idleRun := 0 } })
  else f (s.upd i (Lane.packetGood ty))

/-- An IDLE packet reaches lane `i`. -/
def State.idlePacket (i : LaneId) (err : Fin 3) (s : State) : State :=
  if (s.lane i).st == .off then s
  else if err.val != 0 then s.packetBad i 8 err
  else s.upd i (fun l => Lane.linkUp { l.packetGood 8 with link := { (l.packetGood 8).link with idleRun := min 64 (l.link.idleRun + 1) } })

/-- The tile words on their way to lane `i` arrive (R20); one whose cut has been taken is taken into none (R35). -/
def State.wordsTo (i : LaneId) (s : State) : State :=
  let ws := (s.lane i.other).link.fwd
  let s := s.upd i.other (fun l => { l with link := { l.link with fwd := [] } })
  if (s.lane i).takes then
    s.upd i (fun l => { l with cut := { l.cut with words := l.cut.words ++ ws.filter (fun w => s.sh.gt < w.w) } })
  else s

/-- A WORD packet with its forwarding delay in µs. -/
def State.wordPacket (i : LaneId) (delay : Nat) (s : State) : State :=
  (s.wordsTo i).upd i (fun l => l.setF LINK_RESEND LINK_RESEND_FWD_MAX (max delay (l.fld LINK_RESEND LINK_RESEND_FWD_MAX)))

/-- A CONFIRM packet: how far the other store has come (R27). -/
def State.confirm (i : LaneId) (s : State) : State :=
  let n := (s.lane i.other).rcd.done
  s.upd i (fun l => l.setRec (fun w => { w with peerDone := n }))

/-- Writes that a retired lane had accepted and not forwarded are lost (R332). -/
def State.writesLost (i : LaneId) (s : State) : State :=
  let k := (s.lane i).link
  let n := k.wfwd.length + k.kept.length
  if n = 0 then s
  else
    let s := s.upd i (fun l => { l with link := { l.link with wfwd := [], kept := [] } })
    (State.onLanes (fun l => l.st != .off) (fun l => l.bump SYS_ADJDUR SYS_ADJDUR_WLOST n) s).laneEvent

/-- What a lane that is retired or off has accepted and can forward no more is lost (R332). -/
def State.goneWrites (i : LaneId) (s : State) : State :=
  if (s.lane i).st == .retired || (s.lane i).st == .off then s.writesLost i else s

/-- Whatever is on its way on a link that is up has arrived by the boundary; on a link that is down it is lost (R332). -/
def State.linkDrain (s : State) : State :=
  let s := if s.linkUp then (((((s.wordsTo .A).wordsTo .B).writesTo .A).writesTo .B).confirm .A).confirm .B else s
  let drop (l : Lane) : Lane := { l with link := { l.link with fwd := [] } }
  ((({ s with a := drop s.a, b := drop s.b } : State).goneWrites .A).goneWrites .B)

/-! ### Comparison (R318–R320) -/

/-- The lane compares its digest at step 9. -/
def Lane.compares (l : Lane) : Bool := l.computes && l.instep
/-- The unit its marker names: the lowest that has not delivered or in which it found a fault of its own (R320, R321). -/
def Lane.ownInc (l : Lane) : Option Nat :=
  match l.adj.inc, l.adj.pre with
  | some a, some b => some (min a b)
  | some a, none => some a
  | none, x => x

/-- REASON of R319 in a lane, 0 for a match. -/
def mismatch (own : DigPkt) (peer : Option DigPkt) : Nat :=
  match peer with
  | none => if own.inc.isSome then 2 else 4
  | some p =>
    if p.dig != own.dig then 1 else if own.inc.isSome then 2 else if p.inc.isSome then 3
    else if p.epoch != own.epoch then 5 else 0

/-- The unit a lane replays (R322): the lowest whose sub-digests differ, or the one a marker names. -/
def replayUnit (reason : Nat) (own : DigPkt) (peer : Option DigPkt) : Option Nat :=
  match reason with
  | 2 => own.inc
  | 3 => peer.bind (·.inc)
  | 1 => peer.bind (fun p => (upTo 8).find? (fun u => p.subs.getD u 0#32 != own.subs.getD u 0#32))
  | _ => none

/-- A digest in its registers (LO and HI) and its sub-digests from key `sub` on. -/
def Lane.showDigest (lo hi sub : Nat) (d : DigPkt) (l : Lane) : Lane :=
  let l := (l.wr lo (d.dig.setWidth 32)).wr hi ((d.dig >>> 32).setWidth 32)
  (upTo 8).foldl (fun l u => l.wr (sub + u) (d.subs.getD u 0#32)) l

/-- The lane after step 9: both digests shown, INJ_DIG used up, markers used up. -/
def Lane.compared (own : DigPkt) (peer : Option DigPkt) (l : Lane) : Lane :=
  let l := l.showDigest LINK_DIGLO LINK_DIGHI (LINK_SUB 0) own
  let l := match peer with
    | some p => l.showDigest LINK_PDIGLO LINK_PDIGHI (LINK_PSUB 0) p
    | none => l
  let l := l.setB SYS_TEST SYS_TEST_INJ_DIG false
  { l with link := { l.link with pkt := none }, adj := { l.adj with own := some own, inc := none } }

/-- A lane enters adjudication of the epoch opened at `g` (R322, R331). -/
def Lane.adjBegin (g reason : Nat) (unit : Option Nat) (l : Lane) : Lane :=
  let w := SYS_ADJ_REASON.put reason (SYS_ADJ_UNIT.put (unit.getD 0) (SYS_ADJ_REPLAYED.put unit.isSome.toNat 0#32))
  let l := l.wr SYS_ADJ (SYS_ADJ_COUNT.put (min 255 (l.fld SYS_ADJ SYS_ADJ_COUNT + 1)) w)
  let l := (l.wr SYS_ADJTLO (w32 g)).wr SYS_ADJTHI (w32 (g / 2 ^ 32))
  { l with adj := { l.adj with verdict := 0, cause := 0, bnd := g, ownPath := true, held := 0 } }

/-- The lanes that compared become ADJUDICATING together; a lane without a reason of its own takes the other's. Their records
wait for the next epoch that a lane computes. -/
def State.adjEnter (g ra rb : Nat) (pa pb : DigPkt) (qa qb : Option DigPkt) (s : State) : State :=
  let one (r : Nat) (p : DigPkt) (q : Option DigPkt) (l : Lane) : Lane :=
    if l.compares then { l.adjBegin g r (replayUnit r p q) with st := .adjudicating, instep := false } else l
  let a := s.a
  let b := s.b
  let s := { s with a := one (if ra = 0 then rb else ra) pa qa a, b := one (if rb = 0 then ra else rb) pb qb b }.sysSync
  let s := if a.compares then s.laneSay .A a 7 0 else s
  if b.compares then s.laneSay .B b 7 0 else s

/-- Step 9 of the epoch opened at `g`: release, or adjudication (R29, R319). -/
def State.compare (g : Nat) (s : State) : State :=
  let pa := s.a.digest g s.a.ownInc
  let pb := s.b.digest g s.b.ownInc
  let auto (up : Bool) (o : Lane) (p : DigPkt) : Option DigPkt := if up && o.compares then some p else none
  let qa := s.a.link.pkt.or (auto (s.a.on LINK_STAT LINK_STAT_UP) s.b pb)
  let qb := s.b.link.pkt.or (auto (s.b.on LINK_STAT LINK_STAT_UP) s.a pa)
  let ra := if s.a.compares then mismatch pa qa else 0
  let rb := if s.b.compares then mismatch pb qb else 0
  let s := if s.a.compares then s.upd .A (Lane.compared pa qa) else s
  let s := if s.b.compares then s.upd .B (Lane.compared pb qb) else s
  if ra = 0 ∧ rb = 0 then s.releaseMatch g else s.adjEnter g ra rb pa pb qa qb

/-! ### Verdicts (R322–R324) -/

/-- A lane delivers its verdict: the replayed sub-digest and the reference vectors as they came out, the working banks with an
inconsistent signature, and the duration in µs. -/
def Lane.verdict (replayBad refBad : Bool) (sig : Word) (dur : Nat) (l : Lane) : Lane :=
  if l.st != .adjudicating || l.adj.verdict != 0 then l else
  let bad := (upTo 32).filter (fun b => bitOf sig b && workingOwner (l.owner b))
  let l := bad.foldl (fun l b => l.setB (MEM_BST b) MEM_BST_SIGBAD true) l
  let cause := (replayBad && l.on SYS_ADJ SYS_ADJ_REPLAYED).toNat + 2 * (!bad.isEmpty).toNat
    + 4 * (refBad || l.on SYS_TEST SYS_TEST_FAIL_ADJ).toNat + 8 * l.adj.pre.isSome.toNat
  let v := if 400 < dur then 3 else if cause = 0 then 1 else 2
  let l := (l.setF SYS_ADJ SYS_ADJ_VERD_OWN v).setF SYS_ADJ SYS_ADJ_CAUSE cause
  { l.setF SYS_ADJDUR SYS_ADJDUR_DUR dur with adj := { l.adj with verdict := v, cause := cause } }

/-- A lane that has not delivered a verdict counts as TIMEOUT (R324). -/
def Lane.timedOut (l : Lane) : Lane :=
  if l.st == .adjudicating && l.adj.verdict == 0 then
    { l.setF SYS_ADJ SYS_ADJ_VERD_OWN 3 with adj := { l.adj with verdict := 3 } } else l
/-- The verdict the arbiter holds of a lane; none of a lane that adjudicates counts as TIMEOUT. -/
def Lane.verd (l : Lane) : Nat := if l.st == .adjudicating then l.adj.verdict else 3

/-- A VERDICT_COPY packet at lane `i`. -/
def State.verdictCopy (i : LaneId) (s : State) : State :=
  let v := (s.lane i.other).adj.verdict
  s.upd i (fun l => l.setF SYS_ADJ SYS_ADJ_VERD_PEER v)

/-! ### Outcomes (R325–R334) -/

/-- OUTCOME from the verdict of the lane with authority, the other's, and REASON. -/
def outcomeOf (va vo reason : Nat) : Nat :=
  if va = 1 ∧ vo != 1 then 1 else if va != 1 ∧ vo = 1 then 2
  else if va = 1 then (if reason = 4 then 5 else 3) else 4

/-- The lane that keeps or receives authority releases the records of the interrupted epoch and begins catch-up (R329 step 1). -/
def Lane.catchUpBegin (p2 p3 : Word) (l : Lane) : Lane :=
  let l := (l.releaseWork l.adj.bnd).setAlm (fun a => { a with resp := [] })
  { l with adj := { l.adj with catchUp := 2, sw := some (p2, p3), pre := none, inc := none } }

/-- The kept cut of a lane with what has come since. -/
def Cut.join (old new : Cut) : Cut :=
  let p : PnlCut := ⟨old.pnl.ntc.or new.pnl.ntc, old.pnl.crz.or new.pnl.crz, old.pnl.rail.or new.pnl.rail, old.pnl.vdev.or new.pnl.vdev, old.pnl.down || new.pnl.down⟩
  ⟨old.words ++ new.words, old.inj ++ new.inj, old.edges ++ new.edges, old.dof ++ new.dof, old.ring ++ new.ring, old.hart ++ new.hart, p, old.ev ||| new.ev, old.recs ++ new.recs, old.late ++ new.late⟩

/-- The interrupted opening of epoch n + 1, on the cut as kept (R329 step 2). What has come since waits for the next cut. -/
def State.openKept (s : State) : State :=
  match s.snap with
  | none => s
  | some k =>
    let newA := s.a.cut
    let newB := s.b.cut
    let s := { s with snap := none, a := { s.a with cut := k.a }, b := { s.b with cut := k.b } }
    let s := (s.takeEarly true).opening k.sh k.obs
    { s with a := { s.a with cut := s.a.cut.join newA }, b := { s.b with cut := s.b.cut.join newB } }

/-- The lane retained by an outcome. -/
def State.retain (i : LaneId) (p2 p3 : Word) (outcome : Nat) (s : State) : State :=
  (s.upd i (Lane.catchUpBegin p2 p3)).laneTo i .active false 8 outcome

/-- The arbiter decides; `i` holds output authority (R325). After BOTH_FAILED it holds every output until the reset of the next
boundary, where authority ends (R26, R328). -/
def State.adjudicate (i : LaneId) (s : State) : State :=
  let s := (s.upd .A Lane.timedOut).upd .B Lane.timedOut
  let l := s.lane i
  let o := s.lane i.other
  let reason := (if l.st == .adjudicating then l else o).fld SYS_ADJ SYS_ADJ_REASON
  let out := outcomeOf l.verd o.verd reason
  let kept := if out = 2 then o else l
  let s := State.onLanes (fun l => l.st == .adjudicating) (fun l => l.setF SYS_ADJ SYS_ADJ_OUTCOME out) s
  let p2 := w32 (kept.fld SYS_ADJ SYS_ADJ_REASON + 8 * out + 64 * kept.fld SYS_ADJ SYS_ADJ_UNIT)
  let p3 := w32 (s.a.verd + 4 * s.a.adj.cause + 64 * s.b.verd + 256 * s.b.adj.cause)
  let s := match out with
    | 1 => (s.retain i p2 p3 out).retire i.other 9 out
    | 2 => ((s.writesLost i).retain i.other p2 p3 out).retire i 9 out
    | 4 => ((((s.writesLost i).retire i 9 out).retire i.other 9 out).setHold true).resetNext 4
    | _ =>
      let s := s.retain i p2 p3 out
      let s := (s.laneTo i.other .shadow false 10 out).upd i.other (fun l =>
        { l with formed := [], raised := 0#192, adj := { l.adj with fromAdj := true, pre := none, inc := none } })
      if out = 3 then s.setUnres true else s
  if out = 4 then { s with snap := none } else s.openKept

/-- The outcome of the adjudication in progress, if there is one. -/
def State.outcome (s : State) : State :=
  if s.a.st != .adjudicating && s.b.st != .adjudicating then s else
  match s.sh.auth with
  | some i => s.adjudicate i
  | none => s

/-! ### Return into step (R314, R363, R516) -/

/-- Registers that a state transfer leaves alone: the identity and state of the lane, its own link, banks, store and views. -/
def joinKeep : List Nat :=
  [SYS_ID, SYS_STATE, SYS_ADJ, SYS_ADJTLO, SYS_ADJTHI, SYS_ADJDUR, SYS_TEST, LINK_STAT, LINK_ERR, LINK_RESEND, LINK_DIGLO, LINK_DIGHI,
   LINK_PDIGLO, LINK_PDIGHI, TIME_NOWLO, TIME_NOWHI, REC_HEAD, REC_TAIL, REC_COMMITS, REC_ERR, REC_RDIDX, CFG_WRIDX, MEM_SCRUB, MEM_SCRUBT,
   MEM_FAULT, MEM_ACCERR, PWR_LETOT, CAN_LOCAL 0, CAN_LOCAL 1]
    ++ (upTo 6).flatMap (fun w => [EVT_PEND w, EVT_MASK w]) ++ (upTo 8).flatMap (fun u => [LINK_SUB u, LINK_PSUB u, REC_RDW u])
    ++ (upTo 32).map MEM_BST

/-- The SHADOW lane `l` with the state of the ACTIVE lane `src`; its links to the stages, a commit in progress in its store and a load of
its read window are its own (R307, R359, R367). -/
def Lane.joined (src l : Lane) : Lane :=
  { src with
    id := l.id, st := l.st, instep := l.instep, regs := keepRegs joinKeep l.regs src.regs, link := l.link,
    dioUp := l.dioUp, clk := l.clk, mw := l.mw, store := l.store, storeBack := l.storeBack, peerStoreFail := l.peerStoreFail, mem := l.mem,
    rcd := { src.rcd with
      com := l.rcd.com, voidRun := l.rcd.voidRun, failSlot := l.rcd.failSlot, loading := l.rcd.loading, missed := [],
      done := src.rcd.done + src.rcd.com.isSome.toNat - l.rcd.com.isSome.toNat, peerDone := src.rcd.done },
    adj := {} }.setB REC_STAT REC_STAT_STORE_FAIL (l.on REC_STAT REC_STAT_STORE_FAIL) |>.setDioLink l.dioLink

/-- The transfer is complete at a boundary: the lanes are in step (R314 row 6, R331, R517). -/
def State.join (s : State) : State :=
  match s.joiner with
  | none => s
  | some i =>
    if !(s.sh.start.stxDone && s.linkUp) then s else
    let src := s.lane i.other
    let s := s.upd i (Lane.joined src)
    let s := s.upd i.other (fun l =>
      { l.setRec (fun w => { w with peerDone := w.done + w.com.isSome.toNat }) with adj := { l.adj with ownPath := false } })
    let s := s.storeSync.laneTo i .shadow true 6 0
    let ms := min 65535 ((s.sh.gt - s.sh.start.stx.getD s.sh.gt) / 1000000)
    let s := s.withSh ((s.sh.setF MOD_STX MOD_STX_DUR ms).setStart (fun t => { t with stx := none, stxDone := false }))
    let s := s.sysRec 0x0D05 i.num ms (s.sh.fld MOD_STX MOD_STX_RETRIES) 0
    s.mirrorStart i.other

/-- A page has been sent, or the unit states and the registers that hold image values (R516). -/
def Shared.stxSent (page : Option Nat) (h : Shared) : Shared :=
  h.setStart (fun t => match page with
    | some p => { t with stxLeft := t.stxLeft.filter (· != p), stxNew := if t.stxDelta then t.stxNew.filter (· != p) else t.stxNew }
    | none => { t with stxUnits := true })
/-- A round that has sent all it had is followed by the next, of the pages written meanwhile (R516). -/
def Shared.stxNext (h : Shared) : Shared :=
  let t := h.start
  if t.stxDelta || !t.stxLeft.isEmpty || !t.stxUnits || t.stxNew.isEmpty then h else
  (h.setF MOD_STX MOD_STX_ROUND (min 255 (h.fld MOD_STX MOD_STX_ROUND + 1))).setStart (fun t => { t with stxLeft := t.stxNew, stxNew := [] })
/-- A STATE packet at lane `i` (R516): a page, or the unit states. With epoch deltas, `last` closes the delta that the running epoch
sends after its step 9: the lane then holds the state of the coming boundary complete, if no older page is missing. -/
def State.statePacket (i : LaneId) (page : Option Nat) (last : Bool) (s : State) : State :=
  if s.joiner != some i || s.sh.start.stx.isNone then s else
  let h := s.sh.stxSent page
  let t := h.start
  let full := last && t.stxDelta && t.stxUnits && t.stxLeft.isEmpty && t.stxNew.isEmpty
  s.withSh (h.stxNext.setStart (fun t => { t with stxDone := full }))

/-! ### Meanings -/

/-- DIGEST_PACKET (R317, R319): the packet that reaches a lane; `err`: 1 a parity, 2 a CRC-32C error. -/
def execDigestPacket (lane : LaneId) (err : Fin 3) (epoch : BitVec 12) (inc : Option (Fin 8)) (dig : BitVec 64) (subs : List Word) (s : State) : Res :=
  .next (s.packet lane 1 err (fun s => s.upd lane (fun l =>
    { l with link := { l.link with pkt := some ⟨epoch.toNat, inc.map (·.val), dig, subs⟩ } })))
/-- VERDICT_COPY_PACKET (R323). -/
def execVerdictCopyPacket (lane : LaneId) (err : Fin 3) (s : State) : Res := .next (s.packet lane 2 err (State.verdictCopy lane))
/-- WRITE_PACKET (R40). -/
def execWritePacket (lane : LaneId) (err : Fin 3) (s : State) : Res := .next (s.packet lane 3 err (State.writesTo lane))
/-- WORD_PACKET (R20). -/
def execWordPacket (lane : LaneId) (err : Fin 3) (delay : Byte) (s : State) : Res :=
  .next (s.packet lane 4 err (State.wordPacket lane delay.toNat))
/-- CONFIRM_PACKET (R27). -/
def execConfirmPacket (lane : LaneId) (err : Fin 3) (s : State) : Res := .next (s.packet lane 5 err (State.confirm lane))
/-- MIRROR_PACKET (R363). -/
def execMirrorPacket (lane : LaneId) (err : Fin 3) (s : State) : Res := .next (s.packet lane 6 err (fun s => s.mirrorPacket lane))
/-- STATE_PACKET (R516). -/
def execStatePacket (lane : LaneId) (err : Fin 3) (page : Option (Fin 8192)) (last : Bool) (s : State) : Res :=
  .next (s.packet lane 7 err (State.statePacket lane (page.map (·.val)) last))
/-- IDLE_PACKET (R316). -/
def execIdlePacket (lane : LaneId) (err : Fin 3) (s : State) : Res := .next (s.idlePacket lane err)
/-- FEBEN_LINK_LOST (R317): no valid packet has reached the lane for 5 µs. -/
def execFebenLinkLost (lane : LaneId) (s : State) : Res := .next (s.linkLost lane)
/-- FEBEN_LINK_UP (R317). -/
def execFebenLinkUp (lane : LaneId) (s : State) : Res := .next (s.upd lane Lane.linkUp)
/-- ADJUDICATION_VERDICT (R323): the replayed sub-digest and the reference vectors as they came out, the banks with an inconsistent
signature, and the duration of the self-test in µs. -/
def execAdjudicationVerdict (lane : LaneId) (replayBad refBad : Bool) (sig : Word) (dur : BitVec 9) (s : State) : Res :=
  .next (s.upd lane (Lane.verdict replayBad refBad sig dur.toNat))
/-- ADJUDICATION_OUTCOME (R325). -/
def execAdjudicationOutcome (s : State) : Res := .next s.outcome
/-- INJ_DIG (R338): written in the view of a lane; it acts at once (R543). -/
def execInjDig (lane : LaneId) (s : State) : Res :=
  let l := s.lane lane
  .next (if l.st == .off || l.st == .bisque then s else s.upd lane (fun l => l.sysTest (SYS_TEST_INJ_DIG.put 1 (l.rd SYS_TEST))))

end Sys2Proof.Machine
end

