-- ==== Sys2Proof/Machine/Epoch.lean ====
section
/-! DEFINITION. An epoch boundary: the epoch that runs ends, global time moves on, the arbiter applies or holds, and the next epoch
opens: R24–R29, R329–R333 and R511–R513, R522, R530. -/

namespace Sys2Proof.Machine

/-! ### The epoch that ends -/

/-- The registers at the end of an epoch, as the next one sees them (R217). -/
def Lane.keepEnd (l : Lane) : Lane := { l with endRegs := l.regs, pnl := { l.pnl with wrote := [] } }

/-- Phases 4 to 9 of the epoch that runs in the lanes. -/
def State.closeLanes (o : Obs) (s : State) : State :=
  let g := s.sh.gt
  let s := s.both (Lane.formWork s.sh g (g + 1000000))
  let inc (x : Option (Fin 8)) (l : Lane) : Lane := match x with
    | some u => { l with adj := { l.adj with inc := some (min u.val (l.adj.inc.getD u.val)) } }
    | none => l
  let s := if s.a.compares then s.upd .A (inc o.incA) else s
  let s := if s.b.compares then s.upd .B (inc o.incB) else s
  let run (l : Lane) : Bool := l.computes || l.st == .adjudicating
  let s' := if s.a.compares || s.b.compares then s.compare g else s.releaseSolo g
  State.onLanes run Lane.keepEnd s'

/-- The epoch of a lane in bisque mode (R522, R523, R526): what the panel and the recorder do. -/
def Lane.closeBisque (g : Nat) (l : Lane) : Lane :=
  let l := (((l.flushNow g).ntcFault g).planning g).pnlForm g (g + 1000000)
  ((l.releaseWork g).showResults).keepEnd

/-- The epoch that runs ends. -/
def State.closeEpoch (o : Obs) (s : State) : State :=
  let bisque (s : State) : State :=
    let s' := State.onLanes (fun l => l.st == .bisque) (Lane.closeBisque s.sh.gt) s
    s'.withSh (s'.sh.panelRecord s.lead.shown s'.lead)
  match s.sh.start.phase with
  | .bisque => bisque s
  | .authority | .running => if s.sh.auth.isSome then s.closeLanes o else s
  | .draining => if s.sh.hold then s else if s.sh.bisque then bisque s else if s.sh.auth.isSome then s.closeLanes o else s
  | _ => s

/-! ### Time -/

/-- An instant carried along by a step `k` of global time, so that what has elapsed since then stays the same (log 88). -/
def carried (k : Int) (t : Nat) : Nat := ((t : Int) + k).toNat

/-- The start logic, supervision and the stages beside the tiles and the field digital I/O stage after a step of global time. -/
def Shared.carry (k : Int) (h : Shared) : Shared :=
  let mv := carried k
  let h := h.setStart (fun t => { t with relAt := t.relAt + k, waitAt := mv t.waitAt, rstAt := t.rstAt.map mv, stx := t.stx.map mv })
  let h := (upTo 16).foldl (fun h d =>
    let f := h.pwr.faultAt.at 0 d
    if f = 0 then h else { h with pwr := { h.pwr with faultAt := h.pwr.faultAt.upd 0 d (mv f) } }) { h with
      pwr := { h.pwr with lossAt := mv h.pwr.lossAt }, pnl := { h.pnl with stepAt := mv h.pnl.stepAt },
      aoutOn := h.aoutOn.map mv, wqEnd := mv h.wqEnd }
  let h := (upTo 24).foldl (fun h n => h.setAo n { h.ao n with toffAt := if (h.ao n).toff then mv (h.ao n).toffAt else 0 }) h
  let h := (upTo 96).foldl (fun h n =>
    let c := h.chan n
    if c.tripAt = 0 then h else h.setChan n { c with tripAt := mv c.tripAt }) h
  let h := [0, 1].foldl (fun h b =>
    let w := h.can b
    let since := if w.det.step = 0 then w.det.since else mv w.det.since
    h.setCan b { w with det := { w.det with since := since }, respAt := w.respAt.map mv }) h
  h.setRing (fun r => { r with
    tokAt := mv r.tokAt, visitAt := mv r.visitAt, lastA := mv r.lastA, lastB := mv r.lastB, callAt := mv r.callAt, disAt := r.disAt.map mv,
    disNew := r.disNew.map (fun x => (mv x.1, x.2)), sent := r.sent.map (fun f => { f with at_ := mv f.at_ }),
    probeAtA := mv r.probeAtA, probeAtB := mv r.probeAtB, opens := r.opens.map (fun x => (x.1, mv x.2)) })

/-- What waits in a lane after a step of global time: frames of the coming cut, writes, the scrub pass and the frame locks. -/
def Lane.carry (k : Int) (l : Lane) : Lane :=
  let mv := carried k
  let lock (x : Option (Nat × Nat × Nat)) : Option (Nat × Nat × Nat) := x.map (fun y => (y.1, y.2.1, mv y.2.2))
  let one (x : CanIn) : CanIn := { x with sof := mv x.sof, eof := mv x.eof }
  let l := [0, 1].foldl (fun l b =>
    let w := l.can b
    l.setCan b { w with cut := w.cut.map one, pend := w.pend.map (fun x => (x.1, one x.2)) }) l
  { l with
    writes := l.writes.map (fun w => { w with acc := mv w.acc, eff := mv w.eff }), mw := { l.mw with passAt := mv l.mw.passAt },
    lockHost := lock l.lockHost, lockCnp := lock l.lockCnp }

/-- 1 ns in the unit of the fraction of global time (R407). -/
def fracNs : Nat := 2 ^ 32
/-- What global time advances by at a tick of the lane core clock (R407). -/
def LaneClk.tickStep (c : LaneClk) : Nat := ((10 * fracNs : Nat) + c.corr.toInt).toNat
/-- Global time of a lane runs to the next boundary: the first tick that reaches it ends the epoch (R7, R407). -/
def LaneClk.run (c : LaneClk) : LaneClk :=
  let n := (1000000 * fracNs - c.fine + (c.tickStep - 1)) / c.tickStep
  { c with fine := c.fine + n * c.tickStep - 1000000 * fracNs, ticks := n }
/-- A lane at an epoch boundary: its global time has run there, and the CORR that it has formed takes effect (R408). -/
def Lane.clockTo (l : Lane) : Lane := { l with clk := { l.clk.run with corr := l.rd TIME_CORR } }
/-- The boundary after one at `g`, in a global time of 64 bits. -/
def nextBoundary (g : Nat) : Nat := if g + 1000000 < 2 ^ 64 then g + 1000000 else 0

/-- A lane after a step `d` of global time whose remainder below a boundary is `ns` (log 61). -/
def Lane.stepped (d : Int) (ns : Nat) (l : Lane) : Lane := { l.carry d with clk := { l.clk with fine := l.clk.fine + ns * fracNs } }
/-- The record of a step in a lane that has made it (R414). -/
def Lane.stepRec (g : Nat) (d : Int) (l : Lane) : Lane :=
  let w := BitVec.ofInt 64 d
  { l.timeRec 0x0A03 g 0 (w.setWidth 32) ((w >>> 32).setWidth 32) 0#32 with time := { l.time with step := none } }

/-- A lane as global time reaches a boundary. -/
def Lane.ticked (l : Lane) : Lane := { l.clockTo with evAt := 0#192 }
/-- The shared stages after a step `d` of global time, the epoch that opens having begun at `g`. -/
def Shared.stepped (d : Int) (t g : Nat) (h : Shared) : Shared := ((({ h with gt := g }).carry d).dioStep t d).tilesStep g d
/-- Global time steps by `d` to `t`, in the epoch opened at `g`; what lies beyond `g` stays in the global time of both lanes (log 61). -/
def State.stepTo (d : Int) (t g : Nat) (s : State) : State :=
  State.onLanes (fun l => l.time.step.isSome) (Lane.stepRec g d)
    { s with a := s.a.stepped d (t - g), b := s.b.stepped d (t - g), sh := s.sh.stepped d t g }
/-- The beginning of the epoch in which an instant lies. -/
def epochStart (t : Nat) : Nat := t / 1000000 * 1000000
/-- A step `d` of global time at a boundary (R414): the epoch that opens has begun at the multiple of 1 ms before the time it steps
to. -/
def State.stepped (d : Int) (s : State) : State :=
  let t := ((nextBoundary s.sh.gt : Int) + d).toNat
  s.stepTo d t (epochStart t)
/-- Global time runs to the boundary, or there and on by a step. -/
def State.advance : Option Int → State → State
  | none, s => s.withSh { s.sh with gt := nextBoundary s.sh.gt }
  | some d, s => s.stepped d
/-- Global time reaches the boundary; a step of the discipline acts there (R414). -/
def State.tick (s : State) : State :=
  let s := { s with a := s.a.ticked, b := s.b.ticked }
  s.advance s.lead.time.step

/-- Before epochs run, a fired lane uses the references that reach it (R512); what else has arrived is not kept. -/
def State.timeWait (s : State) : State :=
  let g := s.sh.gt
  State.onLanes (fun l => l.st == .active) (fun l =>
    let c0 := l.canCut g 0
    let c1 := l.canCut g 1
    let l := [0, 1].foldl (fun l b => l.setCan b { l.can b with cut := (l.can b).cut.filter (fun x => g < x.eof) }) l
    { l.timeTake false g (fun b => if b = 0 then c0 else c1) with cut := { ev := l.cut.ev, recs := l.cut.recs } }) s

/-- Before the reference wait, what has arrived is dropped at a boundary: the first input cut is that of step 8 (log 88). -/
def State.dropCuts (s : State) : State :=
  let drop (l : Lane) : Lane :=
    let l := [0, 1].foldl (fun l b => l.setCan b { l.can b with cut := [] }) l
    { l with cut := { ev := l.cut.ev, recs := l.cut.recs } }
  { s with a := drop s.a, b := drop s.b }

/-! ### The arbiter (R24–R26, R330, R333) -/

/-- Authority passes from a retired lane to the one that an outcome retained (R325). -/
def State.moveAuth (s : State) : State :=
  match s.sh.auth with
  | some i =>
    let st := (s.lane i).st
    if (st == .retired || st == .off) && (s.lane i.other).st == .active then s.setAuth (some i.other) else s
  | none => s

/-- A lane whose outcome is open or whose catch-up has not ended. -/
def Lane.catching (l : Lane) : Bool := l.st == .adjudicating || l.adj.catchUp != 0

/-- The arbiter holds at this boundary. -/
def State.holds (s : State) : Bool :=
  s.a.catching || s.b.catching || s.lead.adj.mute || s.sh.auth.isNone || s.sh.start.phase == .draining

/-- The epochs held so far in the hold of an adjudication. -/
def Lane.heldNow (l : Lane) : Nat := if l.catching then l.adj.held else 0
/-- One more held epoch, shown in HELD of both lanes. -/
def State.heldOne (s : State) : State :=
  if !(s.a.catching || s.b.catching) then s else
  let n := max s.a.heldNow s.b.heldNow + 1
  State.onLanes (fun l => l.st != .off) (fun l => { l.setF SYS_ADJ SYS_ADJ_HELD (min 3 n) with adj := { l.adj with held := n } }) s

/-- The arbiter applies the released commands of the lane with authority, or holds. -/
def State.arbiter (s : State) : State :=
  let l := s.lead
  let hold := s.holds
  let unmute (l : Lane) : Lane := { l with adj := { l.adj with mute := false } }
  let s := { s with a := unmute s.a, b := unmute s.b }
  if hold then
    ((s.heldOne.setHold true).doBoundary none)
  else
    let s := (s.setHold false).doBoundary (some l.doNext)
    (s.withSh ((s.sh.aoApply l).pnlApply l)).ringFlush

/-! ### What HOUSE does at every boundary -/

/-- The values observed since the boundary before. -/
def Shared.observe (o : Obs) (h : Shared) : Shared :=
  let h := (h.wr PWR_MON0 (PWR_MON0_V0.put o.vsys.toNat (PWR_MON0_V1.put o.vloop.toNat 0#32))).wr PWR_MON1 (PWR_MON1_V0.put o.vhold.toNat 0#32)
  let h := h.setF CLK_REFMON CLK_REFMON_COUNT o.refCount.toNat
  let h := o.mon.foldl (fun h x => h.aoMonitor x.1 x.2.headroom x.2.loadv x.2.temp) h
  o.rb.foldl (fun h x => h.setAo x.1 { h.ao x.1 with rb := x.2 }) h

/-- The levels at the terminals of the field digital I/O stage that its samples of the rest of the epoch find, and those samples
(R281). -/
def State.dioObserve (o : Obs) (s : State) : State :=
  let h := o.dov.foldl (fun h x => h.setLevel x.1 x.2.toInt) (o.vf.foldl (fun h x => h.setVf x.1 x.2.toNat) s.sh)
  (s.withSh h).dioClose (s.sh.gt + 1000000)

/-- RING_DIS as the lanes take it over (R49, R211). -/
def Shared.ringCtl (h : Shared) : Shared :=
  match (h.ring.disNew.filter (fun x => x.1 ≤ h.gt)).getLast? with
  | none => h
  | some x => h.setRing (fun r =>
    { r with disAt := if x.2 then some (r.disAt.getD h.gt) else none, disNew := r.disNew.filter (fun y => h.gt < y.1) })

/-- A count of the HOUSE monitor outside its window declares the loss of the reference (R594). -/
def State.refWatch (o : Obs) (s : State) : State :=
  if s.sh.on CLK_ST CLK_ST_REF_OK && (o.refCount.toNat < 360 || 440 < o.refCount.toNat) then s.refLoss 2 else s

/-- What the scrubbers have corrected since the boundary before, in every lane whose banks are powered (R573). -/
def State.scrubbed (o : Obs) (s : State) : State :=
  o.corr.foldl (fun s x => s.upd x.1 (fun l => if l.st == .off then l else l.corrected x.2)) s

/-- Supervision and monitors at a boundary. -/
def State.house (o : Obs) (s : State) : State :=
  let h := (s.sh.observe o).aoBoundary.ringCtl.runTime
  let s := ((s.withSh (h.faultWindow h.gt)).refWatch o).scrubbed o
  (((s.ringSync s.sh.gt).stxTimeout).deadline).corrSync

/-! ### The epoch that opens -/

/-- Epoch work opens in the lanes that compute; a lane in adjudication keeps its cut (R322). -/
def State.openLanes (first : Bool) (o : Obs) (s : State) : State :=
  let s := ((s.join.stxBegin).updSh (Shared.stxEpoch (o.pages.map (·.val)))).takeEarly first
  let h := s.sh
  let adj := s.a.st == .adjudicating || s.b.st == .adjudicating
  let s := if adj then { s with snap := some ⟨h, o, s.a.cut, s.b.cut⟩ } else s
  let clear (l : Lane) : Lane := if l.computes then l else { l with cut := {} }
  let s := if adj then s else s.opening h o
  ({ s with a := clear s.a, b := clear s.b }).updSh Shared.canOpen

/-- Output authority in bisque mode is taken at an epoch boundary (R26, R522). -/
def State.bisqueMoves (s : State) : State := if s.sh.auth == s.bisqueAuth then s else s.setAuth s.bisqueAuth

/-- A lane in bisque mode opens an epoch: the ledger, the panel, and the CFG commands (R526). -/
def State.openBisque (o : Obs) (s : State) : State :=
  let g := s.sh.gt
  let s := (s.bisqueMoves).takeEarly true
  let was := s.lead.pon PNL_ST_CRZ_FAULT
  let on (f : Lane → Lane) (s : State) : State := State.onLanes (fun l => l.st == .bisque) f s
  let s := on (fun l =>
    let l := l.shedApply
    let c := l.cut
    let l := { l with hw := l.hwTake s.sh, raised := l.raised ||| c.ev, formed := l.formed ++ c.recs.map (l.formedOf g), cut := { pnl := c.pnl } }
    let l := (l.ledger g o.p.toNat o.vhold.toNat o.paout.toNat).pnlTake g
    ((l.shardEnd g).freezeLimit g).openLoss s.sh) s
  let s := (s.withSh s.sh.lossTaken).crzCount was
  let s := s.applyWrites g
  let s := on (fun l => [0, 1].foldl (fun l b => l.setCan b { l.can b with cut := [] }) l) s
  let h := s.sh.bisqueOutputs s.lead
  ((s.withSh ((h.pnlApply s.lead).canOpen)).doBoundary none).beaconQueue

/-- Start steps 7 to 9 and the epoch that opens (R511–R513). -/
def State.openEpoch (o : Obs) (s : State) : State :=
  match s.sh.start.phase with
  | .waiting =>
    let s := s.timeWait.waitEnd
    if s.lead.time.everUsed then s.withSh (s.sh.setStart (fun t => { t with phase := .authority })) else s
  | .authority =>
    match s.sh.auth with
    | some _ => (s.arbiter.runReached).openLanes false o
    | none =>
      if s.a.st == .active then (s.setAuth (some .A)).openLanes true o
      else if s.b.st == .active then (s.setAuth (some .B)).openLanes true o else s
  | .running => ((s.moveAuth.arbiter.phaseStable).failsCleared).openLanes false o
  | .draining => s.arbiter
  | .bisque => s.openBisque o
  | _ => s.dropCuts

/-- A reset that waits for this boundary begins (R328, R504). -/
def State.resetAt (s : State) : State :=
  match s.sh.start.resetDue with
  | some c => s.resetBegin c
  | none => s

/-- An epoch boundary. An adjudication whose outcome is overdue is decided first (R324). -/
def State.boundary (o : Obs) (s : State) : State :=
  if s.sh.start.phase == .reset then s.withSh ({ s.sh with gt := nextBoundary s.sh.gt }.railsOn (nextBoundary s.sh.gt)) else
  let s := (((s.outcome.closeEpoch o).linkDrain).dioObserve o).tick.updSh (fun h => h.railsOn h.gt)
  if s.sh.start.resetDue.isSome then s.resetAt else
  ((s.house o).openEpoch o).tripSync.clkSync.sysSync.canSync

/-! ### Meaning -/

/-- EPOCH_BOUNDARY (R28): what was observed since the boundary before is its operand. -/
def execEpochBoundary (o : Obs) (s : State) : Res := .next (s.boundary o)

end Sys2Proof.Machine
end

