-- ==== Sys2Proof/Machine/Host.lean ====
section
/-! DEFINITION. Access to the registers by address, and the frames of the host port: R11, R43–R48, R533–R544 of
spec/17_host_port_and_events.md. -/

namespace Sys2Proof.Machine

/-! ### Addresses (R11, R45, R46) -/

/-- Where a word of the address space lies: a lane block in a view, a module-shared block, or nowhere. -/
inductive Place where
  | lane (v : View) (k : Nat) | shared (k : Nat) | nowhere
  deriving DecidableEq, Repr

/-- The place of a byte address. -/
def placeOf (a : Nat) : Place :=
  if a < 0x100000 then .lane (.lane .A) (a / 4)
  else if a < 0x200000 then .lane (.lane .B) ((a - 0x100000) / 4)
  else if a < 0x300000 then .lane .active ((a - 0x200000) / 4)
  else if a < 0x304000 then .shared (a / 4) else .nowhere

/-- A key of the three bank windows: the mode and the half-word (R46, R47). -/
def windowOf (k : Nat) : Option (Nat × Nat) :=
  if 0x20000 ≤ k ∧ k < 0x2C000 then some ((k - 0x20000) / 2 ^ 14, k % 2 ^ 14) else none
/-- A key of the PANEL block. -/
def panelKey (k : Nat) : Bool := 0xF000 ≤ k && k < 0x10000
/-- The address is assigned (R48). -/
def Place.mapped : Place → Bool
  | .lane _ k => (windowOf k).isSome || (decide (k < 0x20000) && (regRow? k).isSome)
  | .shared k => (regRow? k).isSome
  | .nowhere => false

/-- The domain in which a block of registers lies and which may be off: the CAN controllers and the ring ports (R612). -/
def Place.domain : Place → Option Nat
  | .lane _ k => if 0x4000 ≤ k ∧ k < 0x6000 then some 7 else none
  | .shared k => if 0xC0800 ≤ k ∧ k < 0xC0C00 then some 7 else none
  | .nowhere => none

/-- The place ends OFFLINE (R539). -/
def State.offline (s : State) (p : Place) : Bool :=
  (match p with
    | .lane v _ => (s.viewLane v).isNone
    | _ => false)
  || (match p.domain with
    | some d => !s.sh.on (PWR_DST d) PWR_DST_ON
    | none => false)

/-! ### Reads (R44) -/

/-- Registers of lane blocks that show the shared stages. -/
def stageRows : List Nat :=
  [AIN_TSTAT 0, AIN_CJC 0, AIN_CJCR 0, AIN_CHST 0, AIN_INJST 0, AO_CODE 0, AO_MON 0, DO_ST 0, DO_BST 0, DO_STATE, DO_RB, PNL_CRZ, PNL_RAIL]

/-- A register of a shared stage whose link to the lane is lost: the lane shows what it last took (R21, R307). -/
def Lane.stageLost (l : Lane) (base : Nat) : Bool :=
  (!l.dioLink && [DO_ST 0, DO_BST 0, DO_STATE, DO_RB].contains base) || (l.aoLost && [AO_CODE 0, AO_MON 0].contains base)

/-- A word of a message buffer as it reads (R383): in a host-owned transmit buffer the bytes beyond those its DLC gives read 0;
`dlc` is word 1 as it reads, and the format is the one the image gives the buffer. -/
def Lane.canShows (l : Lane) (b m i : Nat) (dlc v : Word) : Word :=
  if i < 2 || !l.hostOwned b m then v else
  let n := dlcBytes (l.on (CAN_BCFG b m) CAN_BCFG_FDF) (dlc.toNat % 16)
  v &&& w32 (2 ^ (8 * min 4 (n - 4 * (i - 2))) - 1)

/-- The channel and word of a key of HRT_TX. -/
def hartTxOf (k : Nat) : Option (Nat × Nat) :=
  let d := k - HRT_TX 0 0
  if HRT_TX 0 0 ≤ k && decide (d / 64 < 24) && decide (d % 64 < 17) then some (d / 64, d % 64) else none

/-- A word `w` of a HART transmit buffer as it reads (R280): the bytes beyond the byte count, which byte 1 of the buffer's `first` word
gives, read 0. -/
def hartShows (first v : Word) (w : Nat) : Word :=
  let n := first.toNat / 256 % 256 + 2
  v &&& w32 (2 ^ (8 * min 4 (n - 4 * w)) - 1)

/-- What a register of a lane shows at instant `now`; `pair`: the access reads both halves of global time (R409, R540). -/
def State.laneReg (s : State) (v : View) (l : Lane) (now : Nat) (pair : Bool) (k : Nat) : Word :=
  if k = EVT_SUM then s.evtSum l.id
  else if k = ALM_CMDST then ALM_CMDST_QUEUED.put (l.queuedFor (scanAt (effectAt s.sh.gt now))) (l.rd k)
  else if k = TIME_NOWLO then w32 now
  else if k = TIME_NOWHI then (if pair then w32 (now / 2 ^ 32) else l.rd k)
  else if REC_RDW 0 ≤ k ∧ k ≤ REC_RDW 7 then l.rdWord (k - REC_RDW 0)
  else if CFG_WRW 0 ≤ k ∧ k ≤ CFG_WRW 3 then
    ((l.fire.report[l.fld CFG_WRIDX CFG_WRIDX_INDEX]?).map (fun e => e.words.getD (k - CFG_WRW 0) 0#32)).getD 0#32
  else if k = MEM_WSEL then MEM_WSEL_BANK.put (s.viewBank v) 0#32
  else if CFG_KEY 0 ≤ k ∧ k ≤ CFG_KEY 7 then 0#32
  else if k = SYS_TEST then SYS_TEST_INJ_DIG.put 0 (l.rd k)
  else if panelKey k && s.sh.fld MOD_IDENT MOD_IDENT_GRADE == 2 then 0#32
  else match regRow? k with
    | none => 0#32
    | some r =>
      let of (j : Nat) : Word := if r.epochResult then RegFile.rd l.shown j else l.rd j
      if stageRows.contains r.base then (if l.stageLost r.base then l.hwRd k else s.sh.rd k)
      else match canWordOf k, hartTxOf k with
        | some x, _ => l.canShows x.1 x.2.1 x.2.2 (of (CAN_BW x.1 x.2.1 1)) (of k)
        | none, some x => hartShows (of (HRT_TX x.1 0)) (of k) x.2
        | none, none => of k

/-- The bank whose kept signature a key shows, and the half of it. -/
def sigOf (k : Nat) : Option (Nat × Nat) :=
  if MEM_SIGLO 0 ≤ k ∧ k ≤ MEM_SIGHI 31 then some ((k - MEM_SIGLO 0) / 2, k % 2) else none

/-- A kept signature; a value the spec leaves open for a bank whose layout it does not give (log 28). -/
def State.sigRead (i : LaneId) (b half : Nat) (s : State) : Word × State :=
  let l := s.lane i
  if workingOwner (l.owner b) then (Config.bankWord s.sh.free, s.withSh { s.sh with free := s.sh.free + 1 })
  else ((l.bankSig b >>> (32 * half)).setWidth 32, s)

/-- A read of a place: STATUS code, word, and the state after it (an uncorrectable word shows itself, R573). -/
def State.readPlace (now : Nat) (pair : Bool) (p : Place) (s : State) : Nat × Word × State :=
  if s.offline p then (6, 0#32, s)
  else if !p.mapped then (1, 0#32, s)
  else match p with
    | .shared k => (0, if PWR_LCFG ≤ k ∧ k < PWR_LTRIP then s.lead.rd k else if k = CLK_TILE then s.sh.tileLocks else s.sh.rd k, s)
    | .nowhere => (1, 0#32, s)
    | .lane v k =>
      match s.viewLane v with
      | none => (6, 0#32, s)
      | some i => match windowOf k, sigOf k with
        | some w, _ => let r := s.bankRead i (s.viewBank v) w.2
                       (0, r.1, r.2)
        | none, some x => let r := s.sigRead i x.1 x.2
                          (0, r.1, r.2)
        | none, none => (0, s.laneReg v (s.lane i) now pair k, s)

/-- The words of a read, all sampled at one instant, in ascending address. -/
def State.readWords (now : Nat) (pair : Bool) : List Place → State → List (Nat × Word) × State
  | [], s => ([], s)
  | p :: ps, s =>
    let r := s.readPlace now pair p
    let rest := State.readWords now pair ps r.2.2
    ((r.1, r.2.1) :: rest.1, rest.2)

/-- An access reads both halves of global time of one view. -/
def readsPair (ps : List Place) : Bool :=
  ps.any (fun p => match p with
    | .lane v k => k == TIME_NOWLO && ps.contains (.lane v TIME_NOWHI)
    | _ => false)

/-- The report entry after the one shown (R502). -/
def Lane.nextEntry (l : Lane) : Lane := l.wrap CFG_WRIDX CFG_WRIDX_INDEX

/-- The side effect of the read of a register of a lane (R17) but for the locks of R386. -/
def Lane.readEffect (now k : Nat) (l : Lane) : Lane :=
  if k = TIME_NOWLO then (l.wr TIME_NOWLO (w32 now)).wr TIME_NOWHI (w32 (now / 2 ^ 32))
  else if k = REC_RDW 7 then l.rdNext
  else if k = CFG_WRW 3 then l.nextEntry else l

/-- The side effect of the read of a place. -/
def State.readEffect (a : Accessor) (now : Nat) (s : State) (p : Place) : State :=
  if s.offline p then s else match p with
  | .lane v k => match s.viewLane v with
    | some i => match canWordOf k with
      | some (b, m, w) =>
        if w = 0 then s.rxLock a i b m now
        else if (s.lane i).rxBuffer b m && w == (s.lane i).lastValid b m then s.rxRelease a i b m else s
      | none => s.upd i (Lane.readEffect now k)
    | none => s
  | _ => s

/-! ### Writes (R40, R43, R526, R539, R543) -/

/-- A key that a lane view may write: the register is lane-local, or selects the bank of the view (R43, R580). -/
def viewWritable (k : Nat) : Bool :=
  k == MEM_WSEL || (match regRow? k with
    | some r => r.laneLocal
    | none => false)

/-- A write that bisque mode lets through (R526). -/
def Place.inBisque : Place → Bool
  | .shared k => k == MOD_CMD
  | .lane .active k => k == CFG_CMD || k == CFG_XOFF || (decide (CFG_XBUF 0 ≤ k) && decide (k ≤ CFG_XBUF 63))
  | _ => false

/-- A write through the view of a lane that R43 refuses; SYS_TEST is so treated without LANE_TEST_EN (R338). -/
def State.viewRefused (s : State) (p : Place) : Bool :=
  match p with
  | .lane (.lane i) k => !viewWritable k || (k == SYS_TEST && !(s.lane i).on SYS_CFG SYS_CFG_LANE_TEST_EN)
  | _ => false

/-- STATUS of a written word. -/
def State.writeStatus (s : State) (p : Place) : Nat :=
  if s.offline p then 6
  else if s.sh.bisque && !p.inBisque then 7
  else if !p.mapped then 1
  else if s.viewRefused p then 2 else 0

/-- A write of RING_CTRL: RING_DIS enters lane computation under R41, CNT_CLR clears the counters (R49, R215). -/
def Shared.ringWrite (now : Nat) (v : Word) (h : Shared) : Shared :=
  let h := h.setB RING_CTRL RING_CTRL_RING_DIS (RING_CTRL_RING_DIS.on v)
  let h := h.setRing (fun r => { r with disNew := r.disNew ++ [(effectAt h.gt now, RING_CTRL_RING_DIS.on v)] })
  if RING_CTRL_CNT_CLR.on v then (h.wr RING_ERR 0#32).wr RING_TOK 0#32 else h

/-- A served write of a module-shared register (R49, R529). -/
def State.sharedWrite (now k : Nat) (v : Word) (cnp : Bool) (s : State) : State :=
  if k = MOD_CMD then s.modCmd (MOD_CMD_OPCODE.get v) (MOD_CMD_ARG.get v) (originOf cnp)
  else if k = RING_CTRL then s.withSh (s.sh.ringWrite now v) else s

/-- Words that wait in the write queue at an instant: it drains 8 words per µs, one every 125 ns (R544; log 102). -/
def Shared.queued (h : Shared) (now : Nat) : Nat := (h.wqEnd - now + 124) / 125
/-- One more word waits. -/
def Shared.enqueue (now : Nat) (h : Shared) : Shared := { h with wqEnd := max h.wqEnd now + 125 }

/-- A served write of a lane register through the alias. -/
def State.aliasWrite (now k : Nat) (v : Word) (cnp : Bool) (s : State) : State :=
  if k = MEM_WSEL then s.setBank .active (MEM_WSEL_BANK.get v)
  else if panelKey k && s.sh.fld MOD_IDENT MOD_IDENT_GRADE == 2 then s
  else
    let key := match windowOf k with
      | some w => windowKey w.1 (s.viewBank .active) w.2
      | none => k
    (s.accept key v now cnp).updSh (Shared.enqueue now)

/-- A served write of a place. -/
def State.servedWrite (now : Nat) (p : Place) (v : Word) (cnp : Bool) (s : State) : State :=
  match p with
  | .nowhere => s
  | .shared k => s.sharedWrite now k v cnp
  | .lane .active k => s.aliasWrite now k v cnp
  | .lane (.lane i) k =>
    if k = MEM_WSEL then s.setBank (.lane i) (MEM_WSEL_BANK.get v) else s.upd i (Lane.viewWrite k v)

/-- A written word: its STATUS and what it does. -/
def State.writePlace (now : Nat) (cnp : Bool) (p : Place) (v : Word) (s : State) : Nat × State :=
  let st := s.writeStatus p
  (st, if st = 0 then s.servedWrite now p v cnp
    else if st = 2 then (match p with
      | .lane (.lane i) _ => s.upd i (Lane.evNow · evViewRefused)
      | _ => s)
    else s)

/-- The words of a write, in ascending address. -/
def State.writeWords (now : Nat) (cnp : Bool) : List (Place × Word) → State → List Nat × State
  | [], s => ([], s)
  | x :: xs, s =>
    let r := s.writePlace now cnp x.1 x.2
    let rest := State.writeWords now cnp xs r.2
    (r.1 :: rest.1, rest.2)

/-- Places that go through the alias. -/
def Place.alias : Place → Bool
  | .lane .active _ => true
  | _ => false
/-- The words of a write fit into the write queue; only those through the alias wait in it (R544). -/
def Shared.fits (h : Shared) (now : Nat) (ps : List Place) : Bool :=
  !ps.any Place.alias || decide (h.queued now + (ps.filter Place.alias).length ≤ 64)

/-- A write that does not fit into the write queue ends BUSY; one of the host port is counted (R544). -/
def State.writeBusy (cnp : Bool) (s : State) : State := if cnp then s else s.updSh (fun h => h.bump MOD_HPCNT MOD_HPCNT_BUSY)

/-! ### Frames (R536–R541) -/

/-- The code of highest rank among the words (R539). -/
def topStatus (codes : List Nat) : Nat := (([6, 7, 2, 1] : List Nat).find? (fun c => codes.contains c)).getD 0

/-- The bytes the node drives: STATUS, the data, and their CRC-8. -/
def hpAnswer (st : Nat) (ws : List Word) : List Byte :=
  let bs := BitVec.ofNat 8 st :: wordsBytes ws
  bs ++ [crc8 bs]

/-- The places of the words of a frame. -/
def placesOf (a n : Nat) : List Place := (upTo n).map (fun i => placeOf (a + 4 * i))
/-- The frame ends FORMAT. -/
def badFormat (a n : Nat) : Bool := a % 4 != 0 || decide (0xFFFFFC < a + 4 * (n - 1))

/-- The node drives bytes. -/
def State.hpDrive (bs : List Byte) (s : State) : State := s.updSh (fun h => { h with hpOut := bs })

/-- A frame that is not answered (R538). -/
def State.hpSilent (s : State) : State :=
  let s := State.onLanes (fun l => l.st != .off) (fun l => l.evNow evHostFrame) s
  (s.updSh (fun h => h.bump MOD_HPERR MOD_HPERR_HDR)).hpDrive []
/-- A frame cut short. -/
def State.hpCut (s : State) : State := s.updSh (fun h => h.bump MOD_HPERR MOD_HPERR_CUT)

/-- Free values for the data words of a frame that ends FORMAT (log 42). -/
def State.formatWords (n : Nat) (s : State) : List Word × State :=
  ((upTo n).map (fun i => Config.formatWord (s.sh.free + i)), s.updSh (fun h => { h with free := h.free + n }))

/-- A read frame sampled at instant `now`; `whole`: the host clocked the final CRC byte. -/
def State.hpRead (a n now : Nat) (whole : Bool) (s : State) : State :=
  let done (s : State) : State := if whole then s else s.hpCut
  if badFormat a n then
    let r := s.formatWords n
    done ((r.2.updSh (fun h => h.bump MOD_HPCNT MOD_HPCNT_FORMAT)).hpDrive (hpAnswer 3 r.1))
  else
    let ps := placesOf a n
    let r := s.readWords now (readsPair ps) ps
    let s := r.2.hpDrive (hpAnswer (topStatus (r.1.map (·.1))) (r.1.map (·.2)))
    if whole then ps.foldl (State.readEffect .host now) s else s.hpCut

/-- A write frame whose data CRC byte is complete at instant `now`. -/
def State.hpWrite (a n now : Nat) (data : List Byte) (dcrc : Byte) (s : State) : State :=
  if crc8 data != dcrc then (s.updSh (fun h => h.bump MOD_HPERR MOD_HPERR_DATA)).hpDrive (hpAnswer 5 [])
  else if badFormat a n then (s.updSh (fun h => h.bump MOD_HPCNT MOD_HPCNT_FORMAT)).hpDrive (hpAnswer 3 [])
  else
    let ps := placesOf a n
    if !s.sh.fits now ps then (s.writeBusy false).hpDrive (hpAnswer 4 [])
    else
      let r := s.writeWords now false (ps.zip ((wordsOf data).map w32))
      r.2.hpDrive (hpAnswer (topStatus r.1) [])

/-- A frame of the host port. `hcrc`, `dcrc`: none where HP_CS_n is deasserted before that byte is complete. Before step 2 of the
start sequence the port does not answer (R511, R534). -/
def State.hpFrame (op : Byte) (addr : BitVec 24) (hcrc : Option Byte) (data : List Byte) (dcrc : Option Byte) (whole : Bool)
    (now : Nat) (s : State) : State :=
  let n := op.toNat % 16 + 1
  let hdr : List Byte := [op, addr.extractLsb' 16 8, addr.extractLsb' 8 8, addr.extractLsb' 0 8]
  if s.sh.start.phase == .reset || s.sh.start.phase == .released then s.hpDrive []
  else match hcrc with
    | none => (s.hpDrive []).hpCut
    | some c =>
      if crc8 hdr != c then s.hpSilent
      else match op.toNat / 16 with
        | 1 => s.hpRead addr.toNat n now whole
        | 2 => match dcrc with
          | some d => if data.length = 4 * n then
              let s := s.hpWrite addr.toNat n now data d
              if whole then s else s.hpCut
            else (s.hpDrive []).hpCut
          | none => (s.hpDrive []).hpCut
        | _ => s.hpSilent

/-! ### Meanings -/

/-- HOST_READ_FRAME (R536–R540): the header bytes as the host sends them, sampled `t` ns after the newest boundary. -/
def execHostReadFrame (op : Byte) (addr : BitVec 24) (hcrc : Option Byte) (whole : Bool) (t : Nat) (s : State) : Res :=
  .next (s.hpFrame op addr hcrc [] none whole (s.sh.gt + t))
/-- HOST_WRITE_FRAME (R536–R541): header, data and data CRC as the host sends them; the data CRC byte is complete `t` ns after
the newest boundary. -/
def execHostWriteFrame (op : Byte) (addr : BitVec 24) (hcrc : Option Byte) (data : List Byte) (dcrc : Option Byte)
    (whole : Bool) (t : Nat) (s : State) : Res :=
  .next (s.hpFrame op addr hcrc data dcrc whole (s.sh.gt + t))
/-- REGISTER_WRITE (R40, R43, R48, R49, R544): one word written to an address, accepted `t` ns after the newest boundary. -/
def execRegisterWrite (addr : BitVec 22) (v : Word) (cnp : Bool) (t : Nat) (s : State) : Res :=
  let p := placeOf (4 * addr.toNat)
  .next (if s.sh.fits (s.sh.gt + t) [p] then (s.writePlace (s.sh.gt + t) cnp p v).2 else s.writeBusy cnp)
/-- CFG_WRW3_READ (R502) in the view of a lane. -/
def execCfgWrw3Read (lane : LaneId) (s : State) : Res :=
  .next (if (s.lane lane).st == .off then s else s.upd lane Lane.nextEntry)

end Sys2Proof.Machine
end

