-- ==== Sys2Proof/Machine/Cnp.lean ====
section
/-! DEFINITION. Frame reports of the buses, and what CNP asks of the node: register requests (R430–R434) and image transfer
(R495). -/

namespace Sys2Proof.Machine

/-! ### Responses (R430, R431) -/

/-- The node address in force; the straps give it in bisque mode (R425, R524). -/
def State.nodeAddr (s : State) : Nat := if s.sh.bisque then s.sh.fld MOD_STRAP MOD_STRAP_NODE else s.lead.nodeAddr
/-- A lane holds the messages that the node is to send. -/
def Lane.sends (l : Lane) : Bool := l.takes || l.st == .bisque
/-- Responses that wait on a bus. -/
def State.responses (s : State) (b : Nat) : Nat := (((s.lead.can b).own).filter (fun f => f.kind == 1 && !f.sent)).length
/-- A response queued on the bus of its request. -/
def State.respond (b prio cls : Nat) (data : List Byte) (s : State) : State :=
  let obj := (Config.respObject cls (data.getD 1 0#8).toNat).toNat
  let f : OwnFrame := { kind := 1, id := cnpId prio cls s.nodeAddr obj, data := data }
  State.onLanes Lane.sends (fun l => l.setCan b { l.can b with own := (l.can b).own ++ [f] }) s
/-- A request that finds no room for its response is discarded. -/
def State.reqDrop (s : State) : State := State.onLanes Lane.sends (fun l => l.bump CNP_STAT CNP_STAT_REQDROP) s
/-- A request whose byte 0 names this node finds the node able to serve it: a lane holds output authority. -/
def State.asked (s : State) (data : List Byte) : Bool := s.sh.auth.isSome && (data.getD 0 0#8).toNat == s.nodeAddr

/-! ### Register access (R430–R434) -/

/-- A register request taken apart: how many bytes it has, the operation, W, and the address (R430). -/
structure RegReq where
  len : Nat
  op : Nat
  w : Nat
  a : Nat
  words : List Word

/-- The fields of a request. -/
def regReq (data : List Byte) : RegReq :=
  let h := (data.getD 2 0#8).toNat
  { len := data.length, op := h % 16, w := h / 16, a := leNat ((data.drop 4).take 3), words := (wordsOf (data.drop 8)).map w32 }

/-- A malformed request: one whose address is not whole among them. -/
def RegReq.bad (q : RegReq) : Bool :=
  decide (q.len < 8) || (q.op != 1 && q.op != 2) || q.w == 0 || decide (14 < q.w) || q.a % 4 != 0 || (q.op == 2 && decide (q.words.length < q.w))
/-- A request with a word in a lane view (R432). -/
def RegReq.inView (q : RegReq) : Bool := decide (q.a < 0x200000)

/-- STATUS over CNP of the highest code of the words (R539). -/
def cnpStatus (codes : List Nat) : Nat :=
  match topStatus codes with
  | 6 => 1
  | 7 => 2
  | c => c

/-- A request served at instant `now`: STATUS, the words of a read, and the state after it. -/
def State.serve (q : RegReq) (now : Nat) (s : State) : Nat × List Word × State :=
  if q.bad then (3, [], s)
  else
    let ps := placesOf q.a q.w
    if q.op = 1 then
      if q.inView then let r := s.formatWords q.w
                       (2, r.1, r.2)
      else
        let r := s.readWords now (readsPair ps) ps
        (cnpStatus (r.1.map (·.1)), r.1.map (·.2), ps.foldl (State.readEffect .cnp now) r.2)
    else if q.inView then (2, [], s)
    else if !s.sh.fits now ps then (4, [], s)
    else let r := s.writeWords now true (ps.zip q.words)
         (cnpStatus r.1, [], r.2)

/-- A register request received from node `src` with priority `prio`. -/
def State.request (b prio src : Nat) (data : List Byte) (now : Nat) (s : State) : State :=
  if !s.asked data then s
  else if 4 ≤ s.responses b then s.reqDrop
  else
    let q := regReq data
    let r := s.serve q now
    let head : List Byte := [BitVec.ofNat 8 src, data.getD 1 0#8, BitVec.ofNat 8 r.1, BitVec.ofNat 8 q.w]
    let addr : List Byte := [data.getD 4 0#8, data.getD 5 0#8, data.getD 6 0#8, data.getD 7 0#8]
    r.2.2.respond b prio 4 (head ++ addr ++ wordsBytes r.2.1)

/-! ### Image transfer (R495) -/

/-- STATUS of a page part at an offset. -/
def State.partStatus (s : State) (off now : Nat) : Nat :=
  let l := s.storeLane
  if l.xState = 0 then 1
  else if off % 32 != 0 || decide (tgtSize l.xTarget < off + 32) then 2
  else if l.xState = 5 then 3
  else if l.xState != 2 || 64 < s.sh.queued now + 10 then 4 else 0

/-- The writes that a page part stands for, in order. -/
def partWrites (off : Nat) (data : List Byte) : List (Nat × Word) :=
  let ws := (wordsOf ((data.drop 8).take 32)).map w32
  let o := off % 256
  ((upTo 8).map (fun i => (CFG_XBUF (o / 4 + i), ws.getD i 0#32)))
    ++ (if o = 224 then [(CFG_XOFF, CFG_XOFF_OFFSET.put (off - 224) 0#32), (CFG_CMD, CFG_CMD_OPCODE.put 2 0#32)] else [])

/-- A class 0x06 frame of 48 bytes received from node `src`. -/
def State.imagePart (b prio src : Nat) (data : List Byte) (now : Nat) (s : State) : State :=
  if !s.asked data then s
  else if 4 ≤ s.responses b then s.reqDrop
  else
    let off := leNat ((data.drop 2).take 3)
    let st := s.partStatus off now
    let s := if st != 0 then s else (partWrites off data).foldl (fun s x => s.aliasWrite now x.1 x.2 true) s
    s.respond b prio 6 ([BitVec.ofNat 8 src, data.getD 1 0#8, data.getD 2 0#8, data.getD 3 0#8, data.getD 4 0#8, BitVec.ofNat 8 st, 0#8, 0#8])

/-! ### Frame reports (R374–R376) -/

/-- What CNP asks with a frame received without error. -/
def State.cnpServe (b : Nat) (f : CanFrame) (now : Nat) (s : State) : State :=
  if !f.ide || f.rtr then s
  else
    let data := frameBytes f
    match cnpClass f.id with
    | 3 => s.request b (cnpPrio f.id) (cnpNode f.id) data now
    | 6 => if dlcBytes f.fdf f.dlc.toNat = 48 then s.imagePart b (cnpPrio f.id) (cnpNode f.id) data now else s
    | _ => s

/-- A frame report arrives. In bisque mode the lanes take no frames; they note what the node has sent. -/
def State.frameReport (b : Nat) (f : FrameRep) (s : State) : State :=
  let now := canStep (s.sh.gt + f.t)
  let s := s.canIn b f
  let s := if f.tx == some .own then State.onLanes (fun l => l.st == .bisque) (fun l => (if f.ok then l.ownMark b else l).ownSent b f.ok) s else s
  if f.tx.isNone && f.ok then s.cnpServe b f.frame now else s

/-! ### Meanings -/

/-- FRAME_REPORT (R374). -/
def execFrameReport (bus : Bus) (f : FrameRep) (s : State) : Res := .next (s.frameReport bus.num f)
/-- REGISTER_REQUEST (R430): a request of node `node`, its end `t` ns after the newest boundary and `len` ns after its start. -/
def execRegisterRequest (bus : Bus) (prio : BitVec 3) (node : BitVec 7) (data : List Byte) (t len : Nat) (s : State) : Res :=
  let f := cnpFrame (cnpId prio.toNat 3 node.toNat 0) (data.take 64)
  .next (s.frameReport bus.num (goodRx f t len))
/-- IMAGE_TRANSFER_FRAME (R495): a page part of node `node` for node `target`. -/
def execImageTransferFrame (bus : Bus) (prio : BitVec 3) (node : BitVec 7) (target tag : Byte) (off : BitVec 24) (data : List Byte)
    (t len : Nat) (s : State) : Res :=
  let part := (data ++ List.replicate 32 0#8).take 32
  let bs := [target, tag] ++ leBytes 3 off.toNat ++ [0#8, 0#8, 0#8] ++ part ++ List.replicate 8 0#8
  let f := cnpFrame (cnpId prio.toNat 6 node.toNat 0) bs
  .next (s.frameReport bus.num (goodRx f t len))

end Sys2Proof.Machine
end

