-- ==== Sys2Proof/Machine/Aging.lean ====
section
/-! DEFINITION. Copies of the aging ledger in the NOR store: R451, R474, R475, and R625 (C4). -/

namespace Sys2Proof.Machine

/-- The byte address of copy `i` (R474). -/
def agingAddr (i : Nat) : Nat := 0x820000 + 0x20000 * i

/-- The counts L(p) of a lane, in the order of the pixels (R475). -/
def Lane.ledgerCounts (l : Lane) : List Nat :=
  (upTo 64).flatMap (fun r => let row := (l.pnl.rows.at {} r).age
    (upTo 256).map (fun c => row.getD c 0))

/-- A copy may start: epochs run outside bisque mode, the panel is fitted and in use, and none is under way. -/
def State.mayCopy (s : State) : Bool :=
  s.sh.start.phase == .running && s.sh.auth.isSome && s.sh.fld MOD_IDENT MOD_IDENT_GRADE != 2
    && s.lead.on PNL_CFG PNL_CFG_EN && s.sh.start.aging.isNone

/-- A copy is due: a multiple of 600 s of global time that has not been dealt with, or one that fell due while C4 was shed. -/
def State.copyDue (s : State) : Bool :=
  s.sh.start.agingDue || (s.sh.gt % 600000000000 == 0 && s.sh.start.agingAt != s.sh.gt)

/-- The other copy than the newest valid one is erased; the counts are kept for it as they stand. While C4 is shed, the copy
waits (R625). -/
def State.agingCopyStart (s : State) : State :=
  if !s.mayCopy || !s.copyDue then s
  else if s.lead.on PWR_LST PWR_LST_C4SHED then
    s.updSh (fun h => h.setStart (fun t => { t with agingDue := true, agingAt := h.gt }))
  else
    let c := match s.sh.agingNewest with
      | some x => 1 - x.1
      | none => 0
    let ns := s.lead.ledgerCounts
    s.updSh (fun h => (h.norErase (agingAddr c) 0x20000).setStart (fun t =>
      { t with aging := some (c, ns), agingDue := false, agingAt := h.gt }))

/-- The copy is closed with its sequence number and CRC-32C, and recorded (R501). -/
def State.agingCopyEnd (s : State) : State :=
  match s.sh.start.aging with
  | none => s
  | some (c, ns) =>
    let seq := match s.sh.agingNewest with
      | some x => x.2.1 + 1
      | none => 1
    let bs := ns.flatMap (leBytes 4) ++ leBytes 4 seq
    let h := (s.sh.norWrite (agingAddr c) (bs ++ wordBytes (crc32c bs))).setStart (fun t => { t with aging := none })
    (s.withSh h).sysRec 0x0C08 c seq 0 0

/-! ### Meanings -/

/-- AGING_LEDGER_COPY (R451). -/
def execAgingLedgerCopy (s : State) : Res := .next s.agingCopyStart
/-- AGING_COPY_WRITTEN (R475). -/
def execAgingCopyWritten (s : State) : Res := .next s.agingCopyEnd

end Sys2Proof.Machine
end

