-- ==== Sys2Proof/Machine/Jtag.lean ====
section
/-! DEFINITION. The test access port: R661–R664 of spec/22_lands_and_package.md, after IEEE 1149.1, which R661 names. -/

namespace Sys2Proof.Machine

/-- The state after a rising edge of TCK under TMS (IEEE 1149.1). -/
def TapSt.next : TapSt → Bool → TapSt
  | .reset, tms => if tms then .reset else .idle
  | .idle, tms => if tms then .selDr else .idle
  | .selDr, tms => if tms then .selIr else .capDr
  | .capDr, tms => if tms then .ex1Dr else .shDr
  | .shDr, tms => if tms then .ex1Dr else .shDr
  | .ex1Dr, tms => if tms then .upDr else .pauDr
  | .pauDr, tms => if tms then .ex2Dr else .pauDr
  | .ex2Dr, tms => if tms then .upDr else .shDr
  | .upDr, tms => if tms then .selDr else .idle
  | .selIr, tms => if tms then .reset else .capIr
  | .capIr, tms => if tms then .ex1Ir else .shIr
  | .shIr, tms => if tms then .ex1Ir else .shIr
  | .ex1Ir, tms => if tms then .upIr else .pauIr
  | .pauIr, tms => if tms then .ex2Ir else .pauIr
  | .ex2Ir, tms => if tms then .upIr else .shIr
  | .upIr, tms => if tms then .selDr else .idle

/-- The codes of R662. -/
def irExtest : BitVec 5 := 0#5
def irSample : BitVec 5 := 1#5
def irIdcode : BitVec 5 := 2#5
def irHighz : BitVec 5 := 3#5
def irClamp : BitVec 5 := 4#5
def irBypass : BitVec 5 := 31#5

/-- The identification register by grade. -/
def idcode (grade : Nat) : BitVec 32 := if grade = 2 then 0x19624A6D#32 else 0x19624A6B#32

/-- The bits of a word, least significant first. -/
def bitsOf {w : Nat} (v : BitVec w) : List Bool := (List.range w).map (fun i => v.getLsbD i)

/-- What the data register that an instruction selects captures; `cells`: the levels that the 40 boundary-scan cells see, in the order
of the chain. -/
def Tap.capture (grade : Nat) (cells : BitVec 40) (t : Tap) : List Bool :=
  if t.instr = irExtest ∨ t.instr = irSample then bitsOf cells
  else if t.instr = irIdcode then bitsOf (idcode grade)
  else [false]

/-- A rising edge: the register of the state captures or shifts, and the controller moves. -/
def Tap.rise (grade : Nat) (tms tdi : Bool) (cells : BitVec 40) (t : Tap) : Tap :=
  let t := match t.st with
    | .capIr => { t with ir := 1#5 }
    | .shIr => { t with ir := (t.ir >>> 1) ||| (BitVec.ofNat 5 tdi.toNat <<< 4) }
    | .capDr => { t with dr := t.capture grade cells }
    | .shDr => { t with dr := t.dr.drop 1 ++ [tdi] }
    | _ => t
  { t with st := t.st.next tms, tck := true }

/-- The instruction that a code selects at Update-IR: unlisted codes act as BYPASS, and so do EXTEST, HIGHZ and CLAMP while
RESET_n is deasserted (R662, R663). -/
def irSelect (rstn : Bool) (c : BitVec 5) : BitVec 5 :=
  if c = irSample ∨ c = irIdcode then c
  else if rstn && (c = irExtest ∨ c = irHighz ∨ c = irClamp) then c else irBypass

/-- A falling edge: the latches of the state update, and TDO shows the bit to be shifted out. -/
def Tap.fall (rstn : Bool) (t : Tap) : Tap :=
  let t := match t.st with
    | .reset => { t with instr := irIdcode }
    | .upIr => { t with instr := irSelect rstn t.ir }
    | .upDr => if t.instr = irExtest ∨ t.instr = irSample then { t with latch := t.dr } else t
    | _ => t
  let tdo := match t.st with
    | .shIr => some (t.ir.getLsbD 0)
    | .shDr => some (t.dr.headD false)
    | _ => none
  { t with tdo := tdo, tck := false }

/-- The instruction that drives or floats lands: only while RESET_n is asserted (R663). -/
def Shared.testDrives (h : Shared) : Bool :=
  h.start.rstn && (h.tap.instr == irExtest || h.tap.instr == irHighz || h.tap.instr == irClamp)

/-! ### Meanings -/

/-- TCK_EDGE (R661–R664): an edge of TCK, rising or falling, under the levels of TMS and TDI. An edge to the level TCK already
has is none. -/
def execTckEdge (rise tms tdi : Bool) (cells : BitVec 40) (s : State) : Res :=
  let t := s.sh.tap
  let t' := if t.tck == rise then t
    else if rise then t.rise s.sh.grade tms tdi cells else t.fall s.sh.start.rstn
  .next (s.updSh (fun h => { h with tap := t' }))
/-- TEST_LOGIC_RESET (R662): TRST_n resets the controller at once and selects IDCODE. -/
def execTestLogicReset (s : State) : Res :=
  .next (s.updSh (fun h => { h with tap := { h.tap with st := .reset, instr := irIdcode, tdo := none } }))

end Sys2Proof.Machine
end

