-- ==== Sys2Proof/Machine/Dispatch.lean ====
section
/-! DEFINITION. One arm per command: a direct call of its meaning. -/

namespace Sys2Proof.Machine

/-- The effect of a command on everything but the queue. -/
def exec (i : Instr) (s : State) : Host.Outcome State Fault Refusal :=
  match i with
  | .epochBoundary o => Sys2Proof.Machine.execEpochBoundary o s
  | .alarmScan => Sys2Proof.Machine.execAlarmScan s
  | .onDelayExpiry p => Sys2Proof.Machine.execOnDelayExpiry p s
  | .offDelayExpiry p => Sys2Proof.Machine.execOffDelayExpiry p s
  | .reSound p => Sys2Proof.Machine.execReSound p s
  | .rateWindowEnd p => Sys2Proof.Machine.execRateWindowEnd p s
  | .shelvingExpiry p => Sys2Proof.Machine.execShelvingExpiry p s
  | .inhibitRelease grp => Sys2Proof.Machine.execInhibitRelease grp s
  | .ruleHoldExpiry r => Sys2Proof.Machine.execRuleHoldExpiry r s
  | .chatterWindow => Sys2Proof.Machine.execChatterWindow s
  | .floodWindow => Sys2Proof.Machine.execFloodWindow s
  | .stageTime => Sys2Proof.Machine.execStageTime s
  | .acceptanceTime => Sys2Proof.Machine.execAcceptanceTime s
  | .safetyPrewarn => Sys2Proof.Machine.execSafetyPrewarn s
  | .safetyExpired => Sys2Proof.Machine.execSafetyExpired s
  | .stationAbsent st => Sys2Proof.Machine.execStationAbsent st s
  | .ack tgt origin => Sys2Proof.Machine.execAck tgt origin s
  | .silence tgt origin => Sys2Proof.Machine.execSilence tgt origin s
  | .ackGroup tgt origin => Sys2Proof.Machine.execAckGroup tgt origin s
  | .silenceAll tgt origin => Sys2Proof.Machine.execSilenceAll tgt origin s
  | .transfer tgt origin => Sys2Proof.Machine.execTransfer tgt origin s
  | .retake tgt origin => Sys2Proof.Machine.execRetake tgt origin s
  | .shelve tgt origin => Sys2Proof.Machine.execShelve tgt origin s
  | .unshelve tgt origin => Sys2Proof.Machine.execUnshelve tgt origin s
  | .foReset tgt origin => Sys2Proof.Machine.execFoReset tgt origin s
  | .acceptCall tgt origin => Sys2Proof.Machine.execAcceptCall tgt origin s
  | .duty tgt origin => Sys2Proof.Machine.execDuty tgt origin s
  | .dmStart tgt origin => Sys2Proof.Machine.execDmStart tgt origin s
  | .dmReset tgt origin => Sys2Proof.Machine.execDmReset tgt origin s
  | .dmStop tgt origin => Sys2Proof.Machine.execDmStop tgt origin s
  | .wordInstant ch a aOver b bOver sat t => Sys2Proof.Machine.execWordInstant ch a aOver b bOver sat t s
  | .rangeChangeStep ch => Sys2Proof.Machine.execRangeChangeStep ch s
  | .excSatChange ch => Sys2Proof.Machine.execExcSatChange ch s
  | .openCircuitChange ch => Sys2Proof.Machine.execOpenCircuitChange ch s
  | .tileSupplyGood tile => Sys2Proof.Machine.execTileSupplyGood tile s
  | .tileWordFrame tile link ok t => Sys2Proof.Machine.execTileWordFrame tile link ok t s
  | .tileIdleFrame tile link ok t => Sys2Proof.Machine.execTileIdleFrame tile link ok t s
  | .tileLinkUp tile link => Sys2Proof.Machine.execTileLinkUp tile link s
  | .tileLinkLost tile link t => Sys2Proof.Machine.execTileLinkLost tile link t s
  | .cjcWord tile res t => Sys2Proof.Machine.execCjcWord tile res t s
  | .cjcFaultChange tile => Sys2Proof.Machine.execCjcFaultChange tile s
  | .shuntTrip ch t => Sys2Proof.Machine.execShuntTrip ch t s
  | .shuntReclose ch t => Sys2Proof.Machine.execShuntReclose ch t s
  | .singlePathDisagreement ch => Sys2Proof.Machine.execSinglePathDisagreement ch s
  | .restoreCheckComplete ch => Sys2Proof.Machine.execRestoreCheckComplete ch s
  | .staleWindowEnd ch a aOver b bOver sat t => Sys2Proof.Machine.execStaleWindowEnd ch a aOver b bOver sat t s
  | .setExc ch arg => Sys2Proof.Machine.execSetExc ch arg s
  | .setBurnout ch arg => Sys2Proof.Machine.execSetBurnout ch arg s
  | .shuntRetry ch arg => Sys2Proof.Machine.execShuntRetry ch arg s
  | .restorePaths ch arg => Sys2Proof.Machine.execRestorePaths ch arg s
  | .injectionSlot => Sys2Proof.Machine.execInjectionSlot s
  | .injectionResult tile sp sm t => Sys2Proof.Machine.execInjectionResult tile sp sm t s
  | .loopPeriodStart loop => Sys2Proof.Machine.execLoopPeriodStart loop s
  | .tpCycleStart loop d => Sys2Proof.Machine.execTpCycleStart loop d s
  | .tpOnTimeEnd loop d => Sys2Proof.Machine.execTpOnTimeEnd loop d s
  | .setMode loop arg => Sys2Proof.Machine.execSetMode loop arg s
  | .setSp loop arg v => Sys2Proof.Machine.execSetSp loop arg v s
  | .setOut loop arg v => Sys2Proof.Machine.execSetOut loop arg v s
  | .selSet loop arg => Sys2Proof.Machine.execSelSet loop arg s
  | .setMa ch arg v => Sys2Proof.Machine.execSetMa ch arg v s
  | .forceFail ch arg => Sys2Proof.Machine.execForceFail ch arg s
  | .clearTherm ch arg => Sys2Proof.Machine.execClearTherm ch arg s
  | .hartSend ch arg => Sys2Proof.Machine.execHartSend ch arg s
  | .complSet ch => Sys2Proof.Machine.execComplSet ch s
  | .complClear ch => Sys2Proof.Machine.execComplClear ch s
  | .twarnChange ch temp => Sys2Proof.Machine.execTwarnChange ch temp s
  | .thermalSwitchOff ch t => Sys2Proof.Machine.execThermalSwitchOff ch t s
  | .thermalRecovery ch temp t => Sys2Proof.Machine.execThermalRecovery ch temp t s
  | .readbackCheck ch pass => Sys2Proof.Machine.execReadbackCheck ch pass s
  | .aoutLinkLost lane => Sys2Proof.Machine.execAoutLinkLost lane s
  | .devChange ch => Sys2Proof.Machine.execDevChange ch s
  | .aoModeTakeover ch => Sys2Proof.Machine.execAoModeTakeover ch s
  | .hartTransactionStart ch carrier => Sys2Proof.Machine.execHartTransactionStart ch carrier s
  | .hartResponseReceived ch pre data parity t => Sys2Proof.Machine.execHartResponseReceived ch pre data parity t s
  | .hartResponseTimeout ch t => Sys2Proof.Machine.execHartResponseTimeout ch t s
  | .hartPollDue ch => Sys2Proof.Machine.execHartPollDue ch s
  | .thresholdCrossing n level t => Sys2Proof.Machine.execThresholdCrossing n level t s
  | .qualifiedEdge n => Sys2Proof.Machine.execQualifiedEdge n s
  | .mismChange n v t => Sys2Proof.Machine.execMismChange n v t s
  | .unlocChange k t => Sys2Proof.Machine.execUnlocChange k t s
  | .slatch n t => Sys2Proof.Machine.execSlatch n t s
  | .outputCurrentLimit n t => Sys2Proof.Machine.execOutputCurrentLimit n t s
  | .outputThermalShutdown n t => Sys2Proof.Machine.execOutputThermalShutdown n t s
  | .outputThermalRestart n t => Sys2Proof.Machine.execOutputThermalRestart n t s
  | .vwarnChange k vf t => Sys2Proof.Machine.execVwarnChange k vf t s
  | .uvSet k vf t => Sys2Proof.Machine.execUvSet k vf t s
  | .uvClear k vf t => Sys2Proof.Machine.execUvClear k vf t s
  | .epochMarkLoss t more => Sys2Proof.Machine.execEpochMarkLoss t more s
  | .dioLinkLost lane => Sys2Proof.Machine.execDioLinkLost lane s
  | .setDo ch arg => Sys2Proof.Machine.execSetDo ch arg s
  | .clearLatch ch arg => Sys2Proof.Machine.execClearLatch ch arg s
  | .bankAck ch arg => Sys2Proof.Machine.execBankAck ch arg s
  | .digestPacket lane err epoch inc dig subs => Sys2Proof.Machine.execDigestPacket lane err epoch inc dig subs s
  | .verdictCopyPacket lane err => Sys2Proof.Machine.execVerdictCopyPacket lane err s
  | .writePacket lane err => Sys2Proof.Machine.execWritePacket lane err s
  | .wordPacket lane err delay => Sys2Proof.Machine.execWordPacket lane err delay s
  | .confirmPacket lane err => Sys2Proof.Machine.execConfirmPacket lane err s
  | .mirrorPacket lane err => Sys2Proof.Machine.execMirrorPacket lane err s
  | .statePacket lane err page last => Sys2Proof.Machine.execStatePacket lane err page last s
  | .idlePacket lane err => Sys2Proof.Machine.execIdlePacket lane err s
  | .febenLinkLost lane => Sys2Proof.Machine.execFebenLinkLost lane s
  | .febenLinkUp lane => Sys2Proof.Machine.execFebenLinkUp lane s
  | .adjudicationVerdict lane replayBad refBad sig dur => Sys2Proof.Machine.execAdjudicationVerdict lane replayBad refBad sig dur s
  | .adjudicationOutcome => Sys2Proof.Machine.execAdjudicationOutcome s
  | .swapLanes lane => Sys2Proof.Machine.execSwapLanes lane s
  | .retireLane lane => Sys2Proof.Machine.execRetireLane lane s
  | .rejoin lane => Sys2Proof.Machine.execRejoin lane s
  | .clrUnres lane => Sys2Proof.Machine.execClrUnres lane s
  | .injDig lane => Sys2Proof.Machine.execInjDig lane s
  | .referenceLoss mon => Sys2Proof.Machine.execReferenceLoss mon s
  | .handshakeStall seen link bus lane t => Sys2Proof.Machine.execHandshakeStall seen link bus lane t s
  | .memoryUncorrectable lane bank word acc => Sys2Proof.Machine.execMemoryUncorrectable lane bank word acc s
  | .transferParityError lane bank word acc => Sys2Proof.Machine.execTransferParityError lane bank word acc s
  | .commitStart lane stamp => Sys2Proof.Machine.execCommitStart lane stamp s
  | .commitReadback lane ok stamp => Sys2Proof.Machine.execCommitReadback lane ok stamp s
  | .shardWindowEnd => Sys2Proof.Machine.execShardWindowEnd s
  | .mirroringComplete => Sys2Proof.Machine.execMirroringComplete s
  | .freeze => Sys2Proof.Machine.execFreeze s
  | .unfreeze => Sys2Proof.Machine.execUnfreeze s
  | .clrLoss => Sys2Proof.Machine.execClrLoss s
  | .freezeTimeLimit => Sys2Proof.Machine.execFreezeTimeLimit s
  | .powerLossFlush => Sys2Proof.Machine.execPowerLossFlush s
  | .recRdidxWrite lane v => Sys2Proof.Machine.execRecRdidxWrite lane v s
  | .recRdw7Read lane => Sys2Proof.Machine.execRecRdw7Read lane s
  | .readWindowLoaded lane => Sys2Proof.Machine.execReadWindowLoaded lane s
  | .frameReport bus f => Sys2Proof.Machine.execFrameReport bus f s
  | .aloneChange bus => Sys2Proof.Machine.execAloneChange bus s
  | .txStart bus who t => Sys2Proof.Machine.execTxStart bus who t s
  | .busOffRecovery bus => Sys2Proof.Machine.execBusOffRecovery bus s
  | .rateDetectStep bus t => Sys2Proof.Machine.execRateDetectStep bus t s
  | .canNormalEntry bus => Sys2Proof.Machine.execCanNormalEntry bus s
  | .loneErrorWindow bus => Sys2Proof.Machine.execLoneErrorWindow bus s
  | .rxBufferLock lane acc bus m t => Sys2Proof.Machine.execRxBufferLock lane acc bus m t s
  | .rxBufferRelease lane acc bus m => Sys2Proof.Machine.execRxBufferRelease lane acc bus m s
  | .lockTimeout lane acc t => Sys2Proof.Machine.execLockTimeout lane acc t s
  | .txReq bus m arg => Sys2Proof.Machine.execTxReq bus m arg s
  | .txCancel bus m arg => Sys2Proof.Machine.execTxCancel bus m arg s
  | .detect bus m arg => Sys2Proof.Machine.execDetect bus m arg s
  | .restrict bus m arg => Sys2Proof.Machine.execRestrict bus m arg s
  | .clrColl bus m arg => Sys2Proof.Machine.execClrColl bus m arg s
  | .referenceSend bus idle => Sys2Proof.Machine.execReferenceSend bus idle s
  | .referenceMessage bus p node ep b6 t len => Sys2Proof.Machine.execReferenceMessage bus p node ep b6 t len s
  | .timeMasterTakeover bus => Sys2Proof.Machine.execTimeMasterTakeover bus s
  | .syncLossNoSource => Sys2Proof.Machine.execSyncLossNoSource s
  | .valueFrame bus prio node obj data t len => Sys2Proof.Machine.execValueFrame bus prio node obj data t len s
  | .remoteSlotTimeout slot => Sys2Proof.Machine.execRemoteSlotTimeout slot s
  | .registerRequest bus prio node data t len => Sys2Proof.Machine.execRegisterRequest bus prio node data t len s
  | .timeNowloRead lane t => Sys2Proof.Machine.execTimeNowloRead lane t s
  | .imageTransferFrame bus prio node target tag off data t len => Sys2Proof.Machine.execImageTransferFrame bus prio node target tag off data t len s
  | .panelFrameStart => Sys2Proof.Machine.execPanelFrameStart s
  | .ntcWord temp t => Sys2Proof.Machine.execNtcWord temp t s
  | .ntcFaultChange => Sys2Proof.Machine.execNtcFaultChange s
  | .crazingMeasurement res t => Sys2Proof.Machine.execCrazingMeasurement res t s
  | .railGood vcol vneg vc t => Sys2Proof.Machine.execRailGood vcol vneg vc t s
  | .railFault vcol v t => Sys2Proof.Machine.execRailFault vcol v t s
  | .railsDischarged vneg vc t => Sys2Proof.Machine.execRailsDischarged vneg vc t s
  | .vcolDevChange v => Sys2Proof.Machine.execVcolDevChange v s
  | .pageTimer => Sys2Proof.Machine.execPageTimer s
  | .agingLedgerCopy => Sys2Proof.Machine.execAgingLedgerCopy s
  | .agingCopyWritten => Sys2Proof.Machine.execAgingCopyWritten s
  | .setDark arg => Sys2Proof.Machine.execSetDark arg s
  | .setDim arg => Sys2Proof.Machine.execSetDim arg s
  | .setSrc arg => Sys2Proof.Machine.execSetSrc arg s
  | .presentCmd arg => Sys2Proof.Machine.execPresentCmd arg s
  | .pageCmd arg => Sys2Proof.Machine.execPageCmd arg s
  | .clrFault arg => Sys2Proof.Machine.execClrFault arg s
  | .xopen arg => Sys2Proof.Machine.execXopen arg s
  | .eraseComplete => Sys2Proof.Machine.execEraseComplete s
  | .xprog arg => Sys2Proof.Machine.execXprog arg s
  | .pageProgrammed ok => Sys2Proof.Machine.execPageProgrammed ok s
  | .xread arg => Sys2Proof.Machine.execXread arg s
  | .pageReadLoaded => Sys2Proof.Machine.execPageReadLoaded s
  | .xclose arg => Sys2Proof.Machine.execXclose arg s
  | .targetCheckComplete => Sys2Proof.Machine.execTargetCheckComplete s
  | .xabort arg => Sys2Proof.Machine.execXabort arg s
  | .pfire arg => Sys2Proof.Machine.execPfire arg s
  | .setPref arg => Sys2Proof.Machine.execSetPref arg s
  | .refire arg => Sys2Proof.Machine.execRefire arg s
  | .burnKey arg => Sys2Proof.Machine.execBurnKey arg s
  | .burnAuthreq arg => Sys2Proof.Machine.execBurnAuthreq arg s
  | .firingComplete lane => Sys2Proof.Machine.execFiringComplete lane s
  | .firingResultCompare passA passB => Sys2Proof.Machine.execFiringResultCompare passA passB s
  | .partialWedgingDone lane buf => Sys2Proof.Machine.execPartialWedgingDone lane buf s
  | .partialFiringWedged => Sys2Proof.Machine.execPartialFiringWedged s
  | .partialFiringApply => Sys2Proof.Machine.execPartialFiringApply s
  | .powerOnReset => Sys2Proof.Machine.execPowerOnReset s
  | .resetNAsserted => Sys2Proof.Machine.execResetNAsserted s
  | .resetRelease => Sys2Proof.Machine.execResetRelease s
  | .strapSample straps => Sys2Proof.Machine.execStrapSample straps s
  | .synthLock => Sys2Proof.Machine.execSynthLock s
  | .clkrefGood => Sys2Proof.Machine.execClkrefGood s
  | .startRecordWriteDone => Sys2Proof.Machine.execStartRecordWriteDone s
  | .referenceWaitEnd => Sys2Proof.Machine.execReferenceWaitEnd s
  | .startDeadline => Sys2Proof.Machine.execStartDeadline s
  | .phaseStable => Sys2Proof.Machine.execPhaseStable s
  | .failsCleared => Sys2Proof.Machine.execFailsCleared s
  | .stateTransferTimeout => Sys2Proof.Machine.execStateTransferTimeout s
  | .bisqueBeacon => Sys2Proof.Machine.execBisqueBeacon s
  | .restart arg cnp => Sys2Proof.Machine.execRestart arg cnp s
  | .leaveBisque arg cnp => Sys2Proof.Machine.execLeaveBisque arg cnp s
  | .clrFails arg cnp => Sys2Proof.Machine.execClrFails arg cnp s
  | .restartDrainDone => Sys2Proof.Machine.execRestartDrainDone s
  | .hostReadFrame op addr hcrc whole t => Sys2Proof.Machine.execHostReadFrame op addr hcrc whole t s
  | .hostWriteFrame op addr hcrc data dcrc whole t => Sys2Proof.Machine.execHostWriteFrame op addr hcrc data dcrc whole t s
  | .registerWrite addr v cnp t => Sys2Proof.Machine.execRegisterWrite addr v cnp t s
  | .evtPendClear lane w v => Sys2Proof.Machine.execEvtPendClear lane w v s
  | .evtCnpWrite w v => Sys2Proof.Machine.execEvtCnpWrite w v s
  | .cntClr => Sys2Proof.Machine.execCntClr s
  | .cfgWrw3Read lane => Sys2Proof.Machine.execCfgWrw3Read lane s
  | .memOwnWrite bank owner => Sys2Proof.Machine.execMemOwnWrite bank owner s
  | .memWselWrite view bank => Sys2Proof.Machine.execMemWselWrite view bank s
  | .bitSetWrite o v => Sys2Proof.Machine.execBitSetWrite o v s
  | .bitClearWrite o v => Sys2Proof.Machine.execBitClearWrite o v s
  | .scrubRead lane res t => Sys2Proof.Machine.execScrubRead lane res t s
  | .ringToken port dst src t => Sys2Proof.Machine.execRingToken port dst src t s
  | .ringClaim port dst src t => Sys2Proof.Machine.execRingClaim port dst src t s
  | .ringOpen port dst src nbr lost t => Sys2Proof.Machine.execRingOpen port dst src nbr lost t s
  | .ringProbe port dst src t => Sys2Proof.Machine.execRingProbe port dst src t s
  | .ringClosed port dst src nbr lost t => Sys2Proof.Machine.execRingClosed port dst src nbr lost t s
  | .ringCall port dst src data t => Sys2Proof.Machine.execRingCall port dst src data t s
  | .stnCmd port src dst op tgt seq t => Sys2Proof.Machine.execStnCmd port src dst op tgt seq t s
  | .stnStat port dst src data t => Sys2Proof.Machine.execStnStat port dst src data t s
  | .cmdResp port dst src data t => Sys2Proof.Machine.execCmdResp port dst src data t s
  | .ringFrameCorrupt port hdr len data crc viol t => Sys2Proof.Machine.execRingFrameCorrupt port hdr len data crc viol t s
  | .tokenLoss t => Sys2Proof.Machine.execTokenLoss t s
  | .frameReturnTimeout t => Sys2Proof.Machine.execFrameReturnTimeout t s
  | .portLost port t => Sys2Proof.Machine.execPortLost port t s
  | .probeTimer port t => Sys2Proof.Machine.execProbeTimer port t s
  | .ringDisTimeout t => Sys2Proof.Machine.execRingDisTimeout t s
  | .callRefresh t => Sys2Proof.Machine.execCallRefresh t s
  | .vsysLostSet vsys vhold t => Sys2Proof.Machine.execVsysLostSet vsys vhold t s
  | .vsysLostClear vsys vhold t => Sys2Proof.Machine.execVsysLostClear vsys vhold t s
  | .supplyWarningChange flag v volts => Sys2Proof.Machine.execSupplyWarningChange flag v volts s
  | .holdOkChange v vhold => Sys2Proof.Machine.execHoldOkChange v vhold s
  | .onHoldChange v => Sys2Proof.Machine.execOnHoldChange v s
  | .emgChange v => Sys2Proof.Machine.execEmgChange v s
  | .vholdExhausted => Sys2Proof.Machine.execVholdExhausted s
  | .capacitanceMeasured c => Sys2Proof.Machine.execCapacitanceMeasured c s
  | .domainSwitchOn d good => Sys2Proof.Machine.execDomainSwitchOn d good s
  | .domainFault d cause t => Sys2Proof.Machine.execDomainFault d cause t s
  | .domainRetry d good t => Sys2Proof.Machine.execDomainRetry d good t s
  | .planningEpoch => Sys2Proof.Machine.execPlanningEpoch s
  | .powerLossTrip vhold t => Sys2Proof.Machine.execPowerLossTrip vhold t s
  | .currentLimitEnd n t => Sys2Proof.Machine.execCurrentLimitEnd n t s
  | .dioLinkUp lane => Sys2Proof.Machine.execDioLinkUp lane s
  | .oscillatorCheckFailure => Sys2Proof.Machine.execOscillatorCheckFailure s
  | .flushComplete => Sys2Proof.Machine.execFlushComplete s
  | .tckEdge rise tms tdi cells => Sys2Proof.Machine.execTckEdge rise tms tdi cells s
  | .testLogicReset => Sys2Proof.Machine.execTestLogicReset s

end Sys2Proof.Machine
end

