-- ==== Sys2Proof/WellFormed.lean ====
section
/-! DEFINITION. Well-formed commands: every instant lies in the epoch that runs, its closing boundary included (R28, R32;
log 75), a frame holds what its data length can hold (R198, R383, R430, R495, R536), a digest packet holds the sub-digests of the
eight units (R318). The meanings do not rest on it: a command that is not well formed still answers. -/

namespace Sys2Proof

/-- A report holds at most 64 data bytes and starts after it began. -/
def FrameRep.wf (f : FrameRep) : Bool := decide (f.frame.data.length ≤ 64) && decide (0 < f.len)

/-- A well-formed command. -/
def Instr.wf : Instr → Bool
  | .epochBoundary o => decide (o.rb.map (·.1)).Nodup && decide (o.mon.map (·.1)).Nodup && decide (o.dov.map (·.1)).Nodup && decide (o.vf.map (·.1)).Nodup
  | .hartResponseReceived _ _ data _ t => decide (t ≤ 1000000) && decide (data.length ≤ 262)
  | .digestPacket _ _ _ _ _ subs => decide (subs.length = 8)
  | .frameReport _ f => decide (f.t ≤ 1000000) && f.wf
  | .valueFrame _ _ _ _ data t _ => decide (t ≤ 1000000) && decide (data.length ≤ 64)
  | .registerRequest _ _ _ data t _ => decide (t ≤ 1000000) && decide (data.length ≤ 64)
  | .imageTransferFrame _ _ _ _ _ _ data t _ => decide (t ≤ 1000000) && decide (data.length = 32)
  | .hostWriteFrame _ _ _ data _ _ t => decide (t ≤ 1000000) && decide (data.length ≤ 64)
  | .wordInstant _ _ _ _ _ _ t => decide (t ≤ 1000000)
  | .tileWordFrame _ _ _ t => decide (t ≤ 1000000)
  | .tileIdleFrame _ _ _ t => decide (t ≤ 1000000)
  | .tileLinkLost _ _ t => decide (t ≤ 1000000)
  | .cjcWord _ _ t => decide (t ≤ 1000000)
  | .shuntTrip _ t => decide (t ≤ 1000000)
  | .shuntReclose _ t => decide (t ≤ 1000000)
  | .staleWindowEnd _ _ _ _ _ _ t => decide (t ≤ 1000000)
  | .injectionResult _ _ _ t => decide (t ≤ 1000000)
  | .thermalSwitchOff _ t => decide (t ≤ 1000000)
  | .thermalRecovery _ _ t => decide (t ≤ 1000000)
  | .hartResponseTimeout _ t => decide (t ≤ 1000000)
  | .thresholdCrossing _ _ t => decide (t ≤ 1000000)
  | .mismChange _ _ t => decide (t ≤ 1000000)
  | .unlocChange _ t => decide (t ≤ 1000000)
  | .slatch _ t => decide (t ≤ 1000000)
  | .outputCurrentLimit _ t => decide (t ≤ 1000000)
  | .outputThermalShutdown _ t => decide (t ≤ 1000000)
  | .outputThermalRestart _ t => decide (t ≤ 1000000)
  | .vwarnChange _ _ t => decide (t ≤ 1000000)
  | .uvSet _ _ t => decide (t ≤ 1000000)
  | .uvClear _ _ t => decide (t ≤ 1000000)
  | .epochMarkLoss t _ => decide (t ≤ 1000000)
  | .handshakeStall _ _ _ _ t => decide (t ≤ 1000000)
  | .txStart _ _ t => decide (t ≤ 1000000)
  | .rateDetectStep _ t => decide (t ≤ 1000000)
  | .rxBufferLock _ _ _ _ t => decide (t ≤ 1000000)
  | .lockTimeout _ _ t => decide (t ≤ 1000000)
  | .referenceMessage _ _ _ _ _ t _ => decide (t ≤ 1000000)
  | .timeNowloRead _ t => decide (t ≤ 1000000)
  | .crazingMeasurement _ t => decide (t ≤ 1000000)
  | .ntcWord _ t => decide (t ≤ 1000000)
  | .railGood _ _ _ t => decide (t ≤ 1000000)
  | .railsDischarged _ _ t => decide (t ≤ 1000000)
  | .railFault _ _ t => decide (t ≤ 1000000)
  | .hostReadFrame _ _ _ _ t => decide (t ≤ 1000000)
  | .registerWrite _ _ _ t => decide (t ≤ 1000000)
  | .scrubRead _ _ t => decide (t ≤ 1000000)
  | .ringToken _ _ _ t => decide (t ≤ 1000000)
  | .ringClaim _ _ _ t => decide (t ≤ 1000000)
  | .ringOpen _ _ _ _ _ t => decide (t ≤ 1000000)
  | .ringProbe _ _ _ t => decide (t ≤ 1000000)
  | .ringClosed _ _ _ _ _ t => decide (t ≤ 1000000)
  | .ringCall _ _ _ data t => decide (t ≤ 1000000) && decide (data.length ≤ 16)
  | .stnCmd _ _ _ _ _ _ t => decide (t ≤ 1000000)
  | .stnStat _ _ _ data t => decide (t ≤ 1000000) && decide (data.length ≤ 16)
  | .cmdResp _ _ _ data t => decide (t ≤ 1000000) && decide (data.length ≤ 16)
  | .ringFrameCorrupt _ _ len data _ _ t => decide (t ≤ 1000000) && decide (data.length = len.toNat)
  | .tokenLoss t => decide (t ≤ 1000000)
  | .frameReturnTimeout t => decide (t ≤ 1000000)
  | .portLost _ t => decide (t ≤ 1000000)
  | .probeTimer _ t => decide (t ≤ 1000000)
  | .ringDisTimeout t => decide (t ≤ 1000000)
  | .callRefresh t => decide (t ≤ 1000000)
  | .vsysLostSet _ _ t => decide (t ≤ 1000000)
  | .vsysLostClear _ _ t => decide (t ≤ 1000000)
  | .domainFault _ _ t => decide (t ≤ 1000000)
  | .domainRetry _ _ t => decide (t ≤ 1000000)
  | .powerLossTrip _ t => decide (t ≤ 1000000)
  | .currentLimitEnd _ t => decide (t ≤ 1000000)
  | .alarmScan .. | .onDelayExpiry .. | .offDelayExpiry .. | .reSound .. | .rateWindowEnd .. | .shelvingExpiry ..
  | .inhibitRelease .. | .ruleHoldExpiry .. | .chatterWindow .. | .floodWindow .. | .stageTime .. | .acceptanceTime ..
  | .safetyPrewarn .. | .safetyExpired .. | .stationAbsent .. | .ack .. | .silence .. | .ackGroup ..
  | .silenceAll .. | .transfer .. | .retake .. | .shelve .. | .unshelve .. | .foReset ..
  | .acceptCall .. | .duty .. | .dmStart .. | .dmReset .. | .dmStop .. | .rangeChangeStep ..
  | .excSatChange .. | .openCircuitChange .. | .tileSupplyGood .. | .tileLinkUp .. | .cjcFaultChange ..
  | .singlePathDisagreement .. | .restoreCheckComplete .. | .setExc .. | .setBurnout .. | .shuntRetry .. | .restorePaths ..
  | .injectionSlot .. | .loopPeriodStart .. | .tpCycleStart .. | .tpOnTimeEnd .. | .setMode .. | .setSp ..
  | .setOut .. | .selSet .. | .setMa .. | .forceFail .. | .clearTherm .. | .hartSend ..
  | .complSet .. | .complClear .. | .twarnChange .. | .readbackCheck .. | .aoutLinkLost .. | .devChange ..
  | .aoModeTakeover .. | .hartTransactionStart .. | .hartPollDue .. | .qualifiedEdge .. | .dioLinkLost ..
  | .setDo .. | .clearLatch .. | .bankAck .. | .verdictCopyPacket .. | .writePacket .. | .wordPacket ..
  | .confirmPacket .. | .mirrorPacket .. | .statePacket .. | .idlePacket .. | .febenLinkLost .. | .febenLinkUp ..
  | .adjudicationVerdict .. | .adjudicationOutcome .. | .swapLanes .. | .retireLane .. | .rejoin .. | .clrUnres ..
  | .injDig .. | .referenceLoss .. | .memoryUncorrectable .. | .transferParityError .. | .commitStart .. | .commitReadback ..
  | .shardWindowEnd .. | .mirroringComplete .. | .freeze .. | .unfreeze .. | .clrLoss .. | .freezeTimeLimit ..
  | .powerLossFlush .. | .recRdidxWrite .. | .recRdw7Read .. | .readWindowLoaded .. | .aloneChange .. | .busOffRecovery ..
  | .canNormalEntry .. | .loneErrorWindow .. | .rxBufferRelease .. | .txReq .. | .txCancel .. | .detect ..
  | .restrict .. | .clrColl .. | .referenceSend .. | .timeMasterTakeover .. | .syncLossNoSource .. | .remoteSlotTimeout ..
  | .panelFrameStart .. | .ntcFaultChange ..
  | .vcolDevChange .. | .pageTimer .. | .agingLedgerCopy .. | .agingCopyWritten .. | .setDark .. | .setDim ..
  | .setSrc .. | .presentCmd .. | .pageCmd .. | .clrFault .. | .xopen .. | .eraseComplete ..
  | .xprog .. | .pageProgrammed .. | .xread .. | .pageReadLoaded .. | .xclose .. | .targetCheckComplete ..
  | .xabort .. | .pfire .. | .setPref .. | .refire .. | .burnKey .. | .burnAuthreq ..
  | .firingComplete .. | .firingResultCompare .. | .partialWedgingDone .. | .partialFiringWedged .. | .partialFiringApply .. | .powerOnReset ..
  | .resetNAsserted .. | .resetRelease .. | .strapSample .. | .synthLock .. | .clkrefGood .. | .startRecordWriteDone ..
  | .referenceWaitEnd .. | .startDeadline .. | .phaseStable .. | .failsCleared .. | .stateTransferTimeout .. | .bisqueBeacon ..
  | .restart .. | .leaveBisque .. | .clrFails .. | .restartDrainDone .. | .evtPendClear .. | .evtCnpWrite ..
  | .cntClr .. | .cfgWrw3Read .. | .memOwnWrite .. | .memWselWrite .. | .bitSetWrite .. | .bitClearWrite ..
  | .supplyWarningChange .. | .holdOkChange .. | .onHoldChange .. | .emgChange .. | .vholdExhausted ..
  | .capacitanceMeasured .. | .domainSwitchOn .. | .planningEpoch .. | .dioLinkUp .. | .oscillatorCheckFailure .. | .flushComplete ..
  | .tckEdge .. | .testLogicReset .. => true

end Sys2Proof
end

