-- ==== Sys2Proof/Safety.lean ====
section
/-! DEFINITION. What a safe run is: the block neither faults nor refuses, and what the invariants speak of. -/

namespace Sys2Proof.Machine

/-- The step goes on to a next state. -/
def goesOn (s : State) : Prop := ∃ t, step s = .next t

/-- `n` steps without a stop. -/
def runsFor : Nat → State → Prop
  | 0, _ => True
  | n + 1, s => ∃ t, step s = .next t ∧ runsFor n t

/-- The instruction register of the test logic holds an instruction of R662. -/
def Tap.legal (t : Tap) : Bool := [irExtest, irSample, irIdcode, irHighz, irClamp, irBypass].contains t.instr

/-- The contents of the memory banks of both lanes are in canonical form. -/
def State.memCanonical (s : State) : Bool := Memory.wf s.a.mem && Memory.wf s.b.mem

/-! ### What a command leaves as it was -/

/-- Registers of a lane other than those at `ks` read as before. -/
def Lane.regsBut (ks : List Nat) (l m : Lane) : Prop := ∀ k, k < 2 ^ 20 → k ∉ ks → m.rd k = l.rd k
/-- Shared registers other than those at `ks` read as before. -/
def Shared.regsBut (ks : List Nat) (h g : Shared) : Prop := ∀ k, k < 2 ^ 20 → k ∉ ks → g.rd k = h.rd k

/-- Both lanes, the kept cut and the queue stand as they were. -/
def State.lanesKept (s t : State) : Prop := t.a = s.a ∧ t.b = s.b ∧ t.snap = s.snap ∧ t.pending = s.pending
/-- The shared part, the kept cut and the queue stand as they were. -/
def State.sharedKept (s t : State) : Prop := t.sh = s.sh ∧ t.snap = s.snap ∧ t.pending = s.pending
/-- Everything but one lane stands as it was. -/
def State.otherKept (i : LaneId) (s t : State) : Prop := s.sharedKept t ∧ t.lane i.other = s.lane i.other
/-- Both lanes, the kept cut and the queue stand as they were, but for the flag changes that the output stage has told a lane
(R306). -/
def State.lanesTold (s t : State) : Prop :=
  (∀ i, { t.lane i with cut := { (t.lane i).cut with dof := (s.lane i).cut.dof } } = s.lane i) ∧ t.snap = s.snap ∧ t.pending = s.pending
/-- Every byte of the bank memory of both lanes reads as before. -/
def State.banksKept (s t : State) : Prop := ∀ (i : LaneId) (x : Nat), memByte (t.lane i).mem x = memByte (s.lane i).mem x

/-- The registers of the output stage that the rows of R295 move. -/
def doRegs : List Nat := DO_STATE :: (upTo 32).map DO_ST ++ (upTo 4).map DO_BST
/-- The instant `t` ns after the newest boundary is the sample instant after the newest one that the output stage has taken. -/
abbrev State.sampleDue (s : State) (t : Nat) : Prop := s.sh.dioOn = true ∧ sampleNo (s.sh.gt + t) = s.sh.dioAt + 1

/-- A command through which the bytes of a bank may change: bit-window writes, writes of registers and their boundary, resets of a
lane or of the node, firing, and what switches a core domain. -/
def mayWriteBanks : Instr → Prop
  | .bitSetWrite .. | .bitClearWrite .. | .hostReadFrame .. | .hostWriteFrame .. | .registerWrite .. | .registerRequest ..
  | .imageTransferFrame .. | .frameReport .. | .epochBoundary .. | .rejoin .. | .firingComplete .. | .firingResultCompare ..
  | .domainSwitchOn .. | .domainFault .. | .domainRetry .. | .adjudicationOutcome | .powerOnReset | .resetNAsserted
  | .restartDrainDone | .flushComplete | .vholdExhausted | .vsysLostSet .. | .powerLossTrip .. => True
  | _ => False

/-- No group inhibit, consequence rule or shelving masks the point (R148, R160). -/
def Lane.unmasked (l : Lane) (p : Nat) : Bool :=
  !l.on (ALM_GRPST (l.ptGroup p)) ALM_GRPST_INH && !l.on (ALM_SHLV p) ALM_SHLV_SHELVED
    && !l.ruleCovers.any (fun r => r.covers p (l.ptGroup p) (l.ptPrio p))

/-- A command of a row as step 1 of the alarm scan of boundary `g` takes it. -/
def rowCmd (g op tgt origin : Nat) : AlmCmd := { op := op, tgt := tgt, origin := origin, acc := g, eff := g, raddr := 0x40 }

/-- The lane as the call step of the alarm scan of boundary `g` finds it, where a command of the call engine has been given in
step 1 (R152, R192). -/
def Lane.atCallStep (g op tgt origin : Nat) (l : Lane) : Lane :=
  (Lane.almNext g (l.scanTo g 1) (rowCmd g op tgt origin)).scanTo g 8

end Sys2Proof.Machine
end

