-- ==== Sys2Proof/Certificates/Slice0/Obligations.lean ====
section
/-! DEFINITION. The statements about the node, one definition each. Every statement of a row's effect says that the row answers
a next state, what that state holds, and what it leaves as it was. -/

open Sys2Proof Sys2Proof.Machine

/-- For every command c, every rest cs of the queue and every state s whose queue is c followed by cs, step of s is exec of c on
s with the queue cs. On an empty queue the step answers s itself (the model's choice, log 1). (01_node_architecture.md (R28);
01_node_architecture.md (R32)) -/
def Obligations.StepTakesTheFrontCommand : Prop :=
  (∀ (c : Instr) (cs : List Instr) (s : State), s.pending = c :: cs → step s = exec c { s with pending := cs }) ∧
  (∀ s : State, s.pending = [] → step s = .next s)

/-- For every command and every state, exec answers a next state, never a fault or a refusal; the queue of waiting commands and
the grade of the module are what they were. The queue is the model's own. (00_scope.md (R1)) -/
def Obligations.EveryCommandGoesOn : Prop :=
  ∀ (c : Instr) (s : State), ∃ t, exec c s = .next t ∧ t.pending = s.pending ∧ t.sh.grade = s.sh.grade

/-- Whatever command other than TCK_EDGE and TEST_LOGIC_RESET goes on from whatever state, the test logic stands as before.
Whatever command other than EPOCH_BOUNDARY and RESET_RELEASE goes on, global time stands as before. That no other row carries
time is the model's choice (log 2). (22_lands_and_package.md (R661); 22_lands_and_package.md (R662); 01_node_architecture.md
(R28); 16_start_reset_bisque.md (R505)) -/
def Obligations.TestLogicAndTimeMoveOnlyByTheirCommands : Prop :=
  (∀ (c : Instr) (s t : State), exec c s = .next t → (∀ r tms tdi cells, c ≠ .tckEdge r tms tdi cells) → c ≠ .testLogicReset →
    t.sh.tap = s.sh.tap) ∧
  (∀ (c : Instr) (s t : State), exec c s = .next t → (∀ o, c ≠ .epochBoundary o) → c ≠ .resetRelease → t.sh.gt = s.sh.gt)

/-- If the instruction register of the test logic holds one of the instructions of R662, it does so after every step that goes
on. (22_lands_and_package.md (R662); 22_lands_and_package.md (R663)) -/
def Obligations.TestInstructionStaysLegal : Prop :=
  ∀ s t : State, step s = .next t → s.sh.tap.legal = true → t.sh.tap.legal = true

/-- If the list of bank bytes of each lane is strictly rising by address and lists no byte equal to what an unlisted one reads,
the same holds after every step that goes on. The canonical form is the model's own; that an unlisted byte reads 0 follows
R562 (log 13). (18_memory_banks.md (R559); 18_memory_banks.md (R562)) -/
def Obligations.BanksStayCanonical : Prop :=
  ∀ s t : State, step s = .next t → s.memCanonical = true → t.memCanonical = true

/-- For every command outside mayWriteBanks (bit-window writes, register writes and their boundary, host frames, CNP frames,
resets, firing, and what switches a core domain) that goes on from any state, every byte of the bank memory of both lanes
reads as before. (18_memory_banks.md (R562); 18_memory_banks.md (R565); 18_memory_banks.md (R567); 18_memory_banks.md (R580)) -/
def Obligations.BankBytesMoveOnlyByTheirCommands : Prop :=
  ∀ (c : Instr) (s t : State), exec c s = .next t → ¬ mayWriteBanks c → s.banksKept t

/-- In reset the row moves global time to the next boundary, lets VNEG follow 5 ms after VCOL, and changes nothing else. Outside
reset, with no step of the discipline left by the epoch that ends, global time moves by 1,000,000 ns within its 64 bits and
the grade, the test logic and the queue stay; with a step d the boundary is the multiple of 1 ms at or below the time plus 1
ms plus d. That a step leaves its remainder below a boundary in the lanes' global time is the model's choice (log 61).
(00_scope.md (R7); 01_node_architecture.md (R28); 13_time_triggered_schedule.md (R414); 16_start_reset_bisque.md (R505)) -/
def Obligations.EpochBoundaries : Prop :=
  (∀ (o : Obs) (s : State), s.sh.start.phase = .reset →
    exec (.epochBoundary o) s = .next { s with sh := { s.sh with gt := nextBoundary s.sh.gt }.railsOn (nextBoundary s.sh.gt) }) ∧
  (∀ (o : Obs) (s : State), s.sh.start.phase ≠ .reset → ((s.outcome.closeEpoch o).linkDrain).lead.time.step = none →
    ∃ t, exec (.epochBoundary o) s = .next t ∧ t.sh.gt = (if s.sh.gt + 1000000 < 2 ^ 64 then s.sh.gt + 1000000 else 0) ∧ t.sh.grade = s.sh.grade ∧ t.sh.tap = s.sh.tap ∧
      t.pending = s.pending) ∧
  (∀ (o : Obs) (d : Int) (s : State), s.sh.start.phase ≠ .reset → ((s.outcome.closeEpoch o).linkDrain).lead.time.step = some d →
    ∃ t, exec (.epochBoundary o) s = .next t ∧ t.sh.gt = ((nextBoundary s.sh.gt : Int) + d).toNat / 1000000 * 1000000)

/-- In State.reset both lanes are OFF, no lane holds output authority, the node is not in bisque mode, global time is 0, the node
is held in a reset with cause POWER_ON, the ring bypass is closed, the test logic is in Test-Logic-Reset and the queue is
empty; the bank memories are canonical and the test instruction is legal. Registers without a stated value are the model's
choice (log 12). (10_lanes_and_failover.md (R312); 16_start_reset_bisque.md (R503); 16_start_reset_bisque.md (R505);
06_engineer_call_and_ring.md (R210); 22_lands_and_package.md (R661)) -/
def Obligations.ResetState : Prop :=
  State.reset.a.st = .off ∧
  State.reset.b.st = .off ∧
  State.reset.sh.auth = none ∧
  State.reset.sh.bisque = false ∧
  State.reset.sh.gt = 0 ∧
  State.reset.sh.start.phase = .reset ∧
  State.reset.sh.start.cause = 1 ∧
  State.reset.sh.on RING_STAT RING_STAT_BYPASS = true ∧
  State.reset.sh.tap.st = .reset ∧
  State.reset.pending = [] ∧
  State.reset.memCanonical = true ∧
  State.reset.sh.tap.legal = true

/-- TILE_SUPPLY_GOOD sets TILE_PWR of a tile whose cluster domain is on. A good idle frame on a link that is down lengthens its
run; TILE_LINK_UP sets the link after 8. A corrupt word frame counts an error of its link alone and ends the run. A good word
frame that ends within the word's 25 us and after the cut opened brings the oldest waiting word into the cut of the lane of
that link and no other. TILE_LINK_LOST at 50 us of silence clears the link, drops its waiting words and raises the tile-link
event. Other registers stay. (02_input_front_end.md (R56); 02_input_front_end.md (R57); 01_node_architecture.md (R19);
01_node_architecture.md (R35)) -/
def Obligations.TileLinksFollowTheirFrames : Prop :=
  (∀ (tile : Fin 12) (s : State), s.sh.on (PWR_DST (8 + tile / 4)) PWR_DST_ON = true →
    ∃ t, exec (.tileSupplyGood tile) s = .next t ∧ s.lanesKept t ∧ t.sh.on (AIN_TSTAT tile) AIN_TSTAT_TILE_PWR = true) ∧
  (∀ (tile : Fin 12) (link : Path) (dt : Nat) (s : State), s.sh.on (AIN_TSTAT tile) AIN_TSTAT_TILE_PWR = true →
    s.sh.tileLink tile link = false → (s.sh.tile tile).run link < 8 →
    ∃ t, exec (.tileIdleFrame tile link true dt) s = .next t ∧ s.lanesKept t ∧ t.sh.regs = s.sh.regs ∧
      (t.sh.tile tile).run link = (s.sh.tile tile).run link + 1 ∧ (t.sh.tile tile).last link = s.sh.gt + dt) ∧
  (∀ (tile : Fin 12) (link : Path) (dt : Nat) (s : State), s.sh.on (AIN_TSTAT tile) AIN_TSTAT_TILE_PWR = true →
    s.sh.tileLink tile link = true →
    ∃ t, exec (.tileWordFrame tile link false dt) s = .next t ∧ s.lanesKept t ∧
      (t.sh.tile tile).run link = 0 ∧ s.sh.regsBut [AIN_TSTAT tile] t.sh ∧
      t.sh.fld (AIN_TSTAT tile) (linkErr link) = min 255 (s.sh.fld (AIN_TSTAT tile) (linkErr link) + 1)) ∧
  (∀ (tile : Fin 12) (link : Path) (dt : Nat) (w : TWord) (ws : List TWord) (s : State),
    s.sh.on (AIN_TSTAT tile) AIN_TSTAT_TILE_PWR = true → s.sh.tileLink tile link = true →
    (s.sh.tile tile).q link = w :: ws → s.sh.gt < w.w → s.sh.gt + dt ≤ w.w + 25000 → (s.lane (laneOfPath link)).serves = true →
    ∃ t, exec (.tileWordFrame tile link true dt) s = .next t ∧
      (t.lane (laneOfPath link)).cut.words = (s.lane (laneOfPath link)).cut.words ++ [w] ∧
      t.lane (laneOfPath link).other = s.lane (laneOfPath link).other ∧ t.sh.regs = s.sh.regs) ∧
  (∀ (tile : Fin 12) (link : Path) (s : State), s.sh.on (AIN_TSTAT tile) AIN_TSTAT_TILE_PWR = true →
    s.sh.tileLink tile link = false → 8 ≤ (s.sh.tile tile).run link →
    ∃ t, exec (.tileLinkUp tile link) s = .next t ∧ s.lanesKept t ∧ t.sh.tileLink tile link = true) ∧
  (∀ (tile : Fin 12) (link : Path) (dt : Nat) (s : State), s.sh.tileLink tile link = true →
    (s.sh.tile tile).last link + 50000 ≤ s.sh.gt + dt →
    ∃ t, exec (.tileLinkLost tile link dt) s = .next t ∧ t.sh.tileLink tile link = false ∧ (t.sh.tile tile).q link = [] ∧
      s.sh.regsBut [AIN_TSTAT tile] t.sh ∧
      ∀ i, (s.lane i).takes = true → (t.lane i).cut.ev = (s.lane i).cut.ev ||| evBit (evTileLink tile))

/-- At a word instant of the rate in force: a channel new to the image takes over its settings and begins its five stale words; a
channel not yet started begins them; a running channel queues one word of each path with the codes given, stale while more
than one stale word is left; a tripped channel before its second is over sends nothing. STALE_WINDOW_END queues the first
settled words. CJC_WORD at an instant of 10 S/s writes AIN_CJCR; CJC_FAULT_CHANGE sets the fault with the fallback value
after 2 bad words and clears it after 10 good ones. Lanes, tiles and other registers stay as said in each clause.
(01_node_architecture.md (R34); 02_input_front_end.md (R57); 02_input_front_end.md (R69); 03_measurement_pipeline.md (R114);
02_input_front_end.md (R78); 02_input_front_end.md (R79)) -/
def Obligations.TileWordRows : Prop :=
  (∀ (ch : Fin 96) (a b : BitVec 24) (aOver bOver sat : Bool) (dt : Nat) (s : State),
    (s.sh.tile (tileOf ch)).loaded = true → AIN_CFG_SENSOR.get (s.sh.chan ch).front = 0 → AIN_CFG_SENSOR.get (s.ainCfg ch) ≠ 0 →
    isWordInstant (AIN_PCFG_RATE.get (s.ainPcfg ch)) (s.sh.gt + dt) = true → (s.sh.chan ch).lastW < s.sh.gt + dt →
    ∃ t, exec (.wordInstant ch a aOver b bOver sat dt) s = .next t ∧ s.lanesKept t ∧ s.sh.regsBut [AIN_CHST ch] t.sh ∧
      t.sh.tiles = s.sh.tiles ∧ (t.sh.chan ch).started = true ∧ (t.sh.chan ch).settle = 5 ∧
      (t.sh.chan ch).front = frontOf (s.ainCfg ch) ∧ (t.sh.chan ch).rate = AIN_PCFG_RATE.get (s.ainPcfg ch) ∧
      t.sh.on (AIN_CHST ch) AIN_CHST_SWAP_PH = false) ∧
  (∀ (ch : Fin 96) (a b : BitVec 24) (aOver bOver sat : Bool) (dt : Nat) (s : State),
    (s.sh.tile (tileOf ch)).loaded = true → AIN_CFG_SENSOR.get (s.sh.chan ch).front ≠ 0 →
    isWordInstant (s.sh.chan ch).rate (s.sh.gt + dt) = true → (s.sh.chan ch).lastW < s.sh.gt + dt →
    s.sh.on (AIN_CHST ch) AIN_CHST_SHUNT_TRIP = false → (s.sh.chan ch).started = false → (s.sh.chan ch).due = false →
    ∃ t, exec (.wordInstant ch a aOver b bOver sat dt) s = .next t ∧ s.lanesKept t ∧ t.sh.regs = s.sh.regs ∧ t.sh.tiles = s.sh.tiles ∧
      (t.sh.chan ch).started = true ∧ (t.sh.chan ch).settle = 5) ∧
  (∀ (ch : Fin 96) (a b : BitVec 24) (aOver bOver sat : Bool) (dt : Nat) (s : State),
    (s.sh.tile (tileOf ch)).loaded = true → AIN_CFG_SENSOR.get (s.sh.chan ch).front ≠ 0 →
    isWordInstant (s.sh.chan ch).rate (s.sh.gt + dt) = true → (s.sh.chan ch).lastW < s.sh.gt + dt →
    s.sh.on (AIN_CHST ch) AIN_CHST_SHUNT_TRIP = false → (s.sh.chan ch).started = true →
    ∃ t wa wb, exec (.wordInstant ch a aOver b bOver sat dt) s = .next t ∧ s.lanesKept t ∧
      s.sh.regsBut [AIN_CHST ch, AIN_INJST ch] t.sh ∧
      (t.sh.tile (tileOf ch)).qA = (s.sh.tile (tileOf ch)).qA ++ [wa] ∧ (t.sh.tile (tileOf ch)).qB = (s.sh.tile (tileOf ch)).qB ++ [wb] ∧
      wa.ch = ch.val ∧ wa.path = .A ∧ wa.w = s.sh.gt + dt ∧ wa.code = a ∧ wb.ch = ch.val ∧ wb.path = .B ∧ wb.w = s.sh.gt + dt ∧ wb.code = b ∧
      wa.stale = decide (1 < (s.sh.chan ch).settle) ∧ wb.stale = wa.stale) ∧
  (∀ (ch : Fin 96) (a b : BitVec 24) (aOver bOver sat : Bool) (dt : Nat) (s : State),
    (s.sh.tile (tileOf ch)).loaded = true → AIN_CFG_SENSOR.get (s.sh.chan ch).front ≠ 0 →
    isWordInstant (s.sh.chan ch).rate (s.sh.gt + dt) = true → (s.sh.chan ch).lastW < s.sh.gt + dt →
    s.sh.on (AIN_CHST ch) AIN_CHST_SHUNT_TRIP = true → s.sh.gt + dt < (s.sh.chan ch).tripAt + 1000000000 → (s.sh.chan ch).retry = false →
    (s.sh.chan ch).due = false →
    ∃ t, exec (.wordInstant ch a aOver b bOver sat dt) s = .next t ∧ s.lanesKept t ∧ t.sh.regs = s.sh.regs ∧ t.sh.tiles = s.sh.tiles) ∧
  (∀ (ch : Fin 96) (a b : BitVec 24) (aOver bOver sat : Bool) (dt : Nat) (s : State),
    (s.sh.tile (tileOf ch)).loaded = true → AIN_CFG_SENSOR.get (s.sh.chan ch).front ≠ 0 →
    isWordInstant (s.sh.chan ch).rate (s.sh.gt + dt) = true → (s.sh.chan ch).lastW < s.sh.gt + dt →
    s.sh.on (AIN_CHST ch) AIN_CHST_SHUNT_TRIP = false → (s.sh.chan ch).started = true → (s.sh.chan ch).settle = 1 →
    ∃ t wa wb, exec (.staleWindowEnd ch a aOver b bOver sat dt) s = .next t ∧ s.lanesKept t ∧
      s.sh.regsBut [AIN_CHST ch, AIN_INJST ch] t.sh ∧
      (t.sh.tile (tileOf ch)).qA = (s.sh.tile (tileOf ch)).qA ++ [wa] ∧ (t.sh.tile (tileOf ch)).qB = (s.sh.tile (tileOf ch)).qB ++ [wb] ∧
      wa.code = a ∧ wa.stale = false ∧ wb.code = b ∧ wb.stale = false) ∧
  (∀ (tile : Fin 12) (res : Word) (dt : Nat) (s : State), (s.sh.tile tile).loaded = true → AIN_TCFG_CJC_EN.on (s.tcfg tile) = true →
    AIN_TCFG_FIXED.on (s.tcfg tile) = false → s.sh.tileLink tile .A = true ∨ s.sh.tileLink tile .B = true →
    isWordInstant 3 (s.sh.gt + dt) = true → 0 < dt → (s.sh.tile tile).cjcAt < s.sh.gt + dt →
    ∃ t, exec (.cjcWord tile res dt) s = .next t ∧ s.lanesKept t ∧ s.sh.regsBut [AIN_TSTAT tile, AIN_CJC tile, AIN_CJCR tile] t.sh ∧
      t.sh.rd (AIN_CJCR tile) = res) ∧
  (∀ (tile : Fin 12) (s : State), s.sh.on (AIN_TSTAT tile) AIN_TSTAT_CJC_FAULT = false → (s.sh.tile tile).cjcBad = 2 →
    ∃ t, exec (.cjcFaultChange tile) s = .next t ∧ s.sh.regsBut [AIN_TSTAT tile, AIN_CJC tile] t.sh ∧
      t.sh.on (AIN_TSTAT tile) AIN_TSTAT_CJC_FAULT = true ∧ t.sh.on (AIN_TSTAT tile) AIN_TSTAT_CJC_FALLBACK = true ∧
      t.sh.rd (AIN_CJC tile) = fallbackTemp (s.tcfg tile) ∧
      ∀ i, (s.lane i).takes = true → t.lane i = (s.lane i).evCut (evCjc tile)) ∧
  (∀ (tile : Fin 12) (s : State), s.sh.on (AIN_TSTAT tile) AIN_TSTAT_CJC_FAULT = true → (s.sh.tile tile).cjcGood = 10 →
    ∃ t, exec (.cjcFaultChange tile) s = .next t ∧ s.lanesKept t ∧ s.sh.regsBut [AIN_TSTAT tile, AIN_CJC tile] t.sh ∧
      t.sh.on (AIN_TSTAT tile) AIN_TSTAT_CJC_FAULT = false)

/-- Steps 1 and 4 of a range change set the gain of one path and leave the other. EXC_SAT and OPEN are set and cleared after 2
words, with their events when set. SHUNT_TRIP opens the shunt, sets gain 1, counts and raises its event; SHUNT_RECLOSE closes
it 1 s later at a word instant of an mA channel, and where a change of settings is due at that word makes it there.
INJECTION_SLOT starts a check on the next eligible path of every free tile; INJECTION_RESULT ends it and hands its result to
both lanes. Other registers stay. (03_measurement_pipeline.md (R111); 02_input_front_end.md (R72); 02_input_front_end.md
(R75); 02_input_front_end.md (R82); 02_input_front_end.md (R83); 03_measurement_pipeline.md (R104);
03_measurement_pipeline.md (R106); 03_measurement_pipeline.md (R107)) -/
def Obligations.ChannelStatusRows : Prop :=
  (∀ (ch : Fin 96) (s : State), (s.sh.chan ch).rngRun = true → (s.sh.chan ch).rngPos = 0 →
    ∃ t, exec (.rangeChangeStep ch) s = .next t ∧ s.lanesKept t ∧ s.sh.regsBut [AIN_CHST ch] t.sh ∧
      t.sh.gain ch (primOf (s.ainPcfg ch)).other = (if (s.sh.chan ch).rngUp then 1 else 4) ∧
      t.sh.gain ch (primOf (s.ainPcfg ch)) = s.sh.gain ch (primOf (s.ainPcfg ch)) ∧ (t.sh.chan ch).rngPos = 1) ∧
  (∀ (ch : Fin 96) (s : State), (s.sh.chan ch).rngRun = true → (s.sh.chan ch).rngPos = 3 →
    ∃ t, exec (.rangeChangeStep ch) s = .next t ∧ s.lanesKept t ∧ s.sh.regsBut [AIN_CHST ch] t.sh ∧
      t.sh.gain ch (primOf (s.ainPcfg ch)) = (if (s.sh.chan ch).rngUp then 1 else 4) ∧
      t.sh.gain ch (primOf (s.ainPcfg ch)).other = s.sh.gain ch (primOf (s.ainPcfg ch)).other ∧ (t.sh.chan ch).rngPos = 4) ∧
  (∀ (ch : Fin 96) (s : State), s.sh.on (AIN_CHST ch) AIN_CHST_EXC_SAT = false → (s.sh.chan ch).satRun = 2 →
    ∃ t, exec (.excSatChange ch) s = .next t ∧ s.sh.regsBut [AIN_CHST ch] t.sh ∧ t.sh.on (AIN_CHST ch) AIN_CHST_EXC_SAT = true ∧
      ∀ i, (s.lane i).takes = true → t.lane i = (s.lane i).evCut evExc) ∧
  (∀ (ch : Fin 96) (s : State), s.sh.on (AIN_CHST ch) AIN_CHST_EXC_SAT = true → (s.sh.chan ch).unsatRun = 2 →
    ∃ t, exec (.excSatChange ch) s = .next t ∧ s.lanesKept t ∧ s.sh.regsBut [AIN_CHST ch] t.sh ∧
      t.sh.on (AIN_CHST ch) AIN_CHST_EXC_SAT = false) ∧
  (∀ (ch : Fin 96) (s : State), s.sh.on (AIN_CHST ch) AIN_CHST_OPEN = false → (s.sh.chan ch).opnRun = 2 →
    ∃ t, exec (.openCircuitChange ch) s = .next t ∧ s.sh.regsBut [AIN_CHST ch] t.sh ∧ t.sh.on (AIN_CHST ch) AIN_CHST_OPEN = true ∧
      ∀ i, (s.lane i).takes = true → t.lane i = (s.lane i).evCut evOpen) ∧
  (∀ (ch : Fin 96) (s : State), s.sh.on (AIN_CHST ch) AIN_CHST_OPEN = true → (s.sh.chan ch).clsRun = 2 →
    ∃ t, exec (.openCircuitChange ch) s = .next t ∧ s.lanesKept t ∧ s.sh.regsBut [AIN_CHST ch] t.sh ∧
      t.sh.on (AIN_CHST ch) AIN_CHST_OPEN = false) ∧
  (∀ (ch : Fin 96) (dt : Nat) (s : State), s.sh.on (AIN_CHST ch) AIN_CHST_SHUNT = true →
    ∃ t, exec (.shuntTrip ch dt) s = .next t ∧ s.sh.regsBut [AIN_CHST ch, AIN_INJST ch] t.sh ∧
      t.sh.on (AIN_CHST ch) AIN_CHST_SHUNT = false ∧ t.sh.on (AIN_CHST ch) AIN_CHST_SHUNT_TRIP = true ∧
      t.sh.gain ch .A = 1 ∧ t.sh.gain ch .B = 1 ∧
      t.sh.fld (AIN_CHST ch) AIN_CHST_TRIPS = min 255 (s.sh.fld (AIN_CHST ch) AIN_CHST_TRIPS + 1) ∧
      (t.sh.chan ch).tripAt = s.sh.gt + dt ∧ ∀ i, (s.lane i).takes = true → t.lane i = (s.lane i).evCut evShuntTrip) ∧
  (∀ (ch : Fin 96) (dt : Nat) (s : State), s.sh.on (AIN_CHST ch) AIN_CHST_SHUNT_TRIP = true →
    (s.sh.tile (tileOf ch)).loaded = true → AIN_CFG_SENSOR.get (s.sh.chan ch).front = senMa →
    (s.sh.chan ch).tripAt + 1000000000 ≤ s.sh.gt + dt → isWordInstant (s.sh.chan ch).rate (s.sh.gt + dt) = true →
    (s.sh.chan ch).due = false →
    ∃ t, exec (.shuntReclose ch dt) s = .next t ∧ s.lanesKept t ∧ s.sh.regsBut [AIN_CHST ch] t.sh ∧
      t.sh.on (AIN_CHST ch) AIN_CHST_SHUNT_TRIP = false ∧ t.sh.on (AIN_CHST ch) AIN_CHST_SHUNT = true ∧ (t.sh.chan ch).settle = 5) ∧
  (∀ (ch : Fin 96) (dt : Nat) (s : State), s.sh.on (AIN_CHST ch) AIN_CHST_SHUNT_TRIP = true →
    (s.sh.tile (tileOf ch)).loaded = true → AIN_CFG_SENSOR.get (s.sh.chan ch).front = senMa →
    (s.sh.chan ch).tripAt + 1000000000 ≤ s.sh.gt + dt → isWordInstant (s.sh.chan ch).rate (s.sh.gt + dt) = true →
    (s.sh.chan ch).due = true → (s.sh.chan ch).excDue = false →
    ∃ t, exec (.shuntReclose ch dt) s = .next t ∧ s.lanesKept t ∧ s.sh.regsBut [AIN_CHST ch, AIN_INJST ch] t.sh ∧
      t.sh.on (AIN_CHST ch) AIN_CHST_SHUNT_TRIP = false ∧ (t.sh.chan ch).due = false ∧
      (t.sh.chan ch).front = frontOf (s.ainCfg ch) ∧ (t.sh.chan ch).rate = AIN_PCFG_RATE.get (s.ainPcfg ch)) ∧
  (∀ (tile : Fin 12) (k : Nat) (s : State), s.sh.gt % 100000000 = 0 → s.sh.injAt ≠ some s.sh.gt →
    (s.sh.tile tile).loaded = true → (s.sh.tile tile).chk = false → s.nextEligible tile 16 (s.sh.tile tile).injNext = some k →
    ∃ t, exec .injectionSlot s = .next t ∧ s.lanesKept t ∧ (t.sh.tile tile).chk = true ∧ (t.sh.tile tile).chkCh = 8 * tile + k / 2 ∧
      (t.sh.tile tile).chkPath = pathOfNum k ∧ (t.sh.tile tile).chkAt = s.sh.gt ∧
      t.sh.on (AIN_INJST (8 * tile + k / 2)) AIN_INJST_ACTIVE = true ∧
      t.sh.on (AIN_CHST (8 * tile + k / 2)) (injFld (pathOfNum k)) = true) ∧
  (∀ (tile : Fin 12) (sp sm : Int) (dt : Nat) (s : State), (s.sh.tile tile).chk = true →
    (s.sh.tile tile).chkAt + 64000000 ≤ s.sh.gt + dt →
    let n := (s.sh.tile tile).chkCh
    let p := (s.sh.tile tile).chkPath
    let r := injMath sp sm
    ∃ t, exec (.injectionResult tile sp sm dt) s = .next t ∧ (t.sh.tile tile).chk = false ∧
      s.sh.regsBut [AIN_CHST n % 2 ^ 20, AIN_INJST n % 2 ^ 20] t.sh ∧
      t.sh.on (AIN_INJST n) (doneFld p) = true ∧ t.sh.on (AIN_INJST n) (passFld p) = r.1 ∧ t.sh.fld (AIN_INJST n) (abortsFld p) = 0 ∧
      t.sh.on (AIN_INJST n) AIN_INJST_ACTIVE = false ∧ t.sh.on (AIN_CHST n) (injFld p) = false ∧
      ∀ i, (s.lane i).takes = true →
        t.lane i = (s.lane i).takeInj { ch := n, path := p, pass := r.1, off := r.2.1, gt := r.2.2 })

/-- With the conditions of R88 met each command ends DONE with its effect: the excitation or burn-out field of the channel, or
the shunt closed at the word instant or retried at the next one; only AIN_CMDST and the channel's registers change. A channel
above 95 ends INVALID, SHUNT_RETRY without a trip ends STATE_REFUSED, both with the AIN-command-refused event and no other
change. The row writes the command and takes effect at the newest boundary (log 5). (02_input_front_end.md (R83);
02_input_front_end.md (R88); 02_input_front_end.md (R89); 02_input_front_end.md (R90)) -/
def Obligations.AnalogueInputCommands : Prop :=
  (∀ (ch : BitVec 7) (arg : BitVec 8) (s : State) (i : LaneId), (s.lane i).computes = true → ch.toNat < 96 → arg.toNat ≤ 2 →
    isRtd ((s.lane i).fld (AIN_CFG ch.toNat) AIN_CFG_SENSOR) = true →
    (arg.toNat = 2 → (s.lane i).fld (AIN_CFG ch.toNat) AIN_CFG_SENSOR ∈ [senPt100, senPt500]) → (s.sh.chan ch.toNat).excBusy = false →
    ∃ t, exec (.setExc ch arg) s = .next t ∧ (s.lane i).regsBut [AIN_CMDST, AIN_CFG ch.toNat] (t.lane i) ∧
      (t.lane i).fld AIN_CMDST AIN_CMDST_STATUS = 0 ∧ (t.lane i).fld AIN_CMDST AIN_CMDST_LAST_OP = 1 ∧
      (t.lane i).fld AIN_CMDST AIN_CMDST_LAST_CH = ch.toNat ∧
      (t.lane i).on (AIN_CFG ch.toNat) AIN_CFG_EXC_OFF = decide (arg.toNat = 0) ∧
      (arg.toNat ≠ 0 → (t.lane i).fld (AIN_CFG ch.toNat) AIN_CFG_IEXC = arg.toNat - 1)) ∧
  (∀ (ch : BitVec 7) (arg : BitVec 8) (s : State) (i : LaneId), (s.lane i).computes = true → ch.toNat < 96 → arg.toNat ≤ 1 →
    (isTc ((s.lane i).fld (AIN_CFG ch.toNat) AIN_CFG_SENSOR) = true ∨ (s.lane i).fld (AIN_CFG ch.toNat) AIN_CFG_SENSOR = senMv) →
    ∃ t, exec (.setBurnout ch arg) s = .next t ∧ (s.lane i).regsBut [AIN_CMDST, AIN_CFG ch.toNat] (t.lane i) ∧
      (t.lane i).fld AIN_CMDST AIN_CMDST_STATUS = 0 ∧ (t.lane i).fld (AIN_CFG ch.toNat) AIN_CFG_BURNOUT = arg.toNat) ∧
  (∀ (ch : BitVec 7) (s : State) (i : LaneId), (s.lane i).computes = true → ch.toNat < 96 →
    s.sh.on (AIN_CHST ch.toNat) AIN_CHST_SHUNT_TRIP = true →
    ∃ t, exec (.shuntRetry ch 0) s = .next t ∧ (s.lane i).regsBut [AIN_CMDST] (t.lane i) ∧
      (t.lane i).fld AIN_CMDST AIN_CMDST_STATUS = 0 ∧ s.sh.regsBut [AIN_CHST ch.toNat, AIN_INJST ch.toNat] t.sh ∧
      (if (s.sh.chan ch.toNat).lastW = s.sh.gt ∧ (s.sh.tile (tileOf ch.toNat)).loaded = true then t.sh.on (AIN_CHST ch.toNat) AIN_CHST_SHUNT_TRIP = false
        else (t.sh.chan ch.toNat).retry = true)) ∧
  (∀ (ch : BitVec 7) (arg : BitVec 8) (s : State) (i : LaneId), (s.lane i).computes = true → 95 < ch.toNat →
    ∃ t, exec (.setExc ch arg) s = .next t ∧ (s.lane i).regsBut [AIN_CMDST] (t.lane i) ∧
      (t.lane i).fld AIN_CMDST AIN_CMDST_STATUS = 3 ∧ (t.lane i).raised = (s.lane i).raised ||| evBit evAinRefused) ∧
  (∀ (ch : BitVec 7) (s : State) (i : LaneId), (s.lane i).computes = true → ch.toNat < 96 →
    s.sh.on (AIN_CHST ch.toNat) AIN_CHST_SHUNT_TRIP = false →
    ∃ t, exec (.shuntRetry ch 0) s = .next t ∧ (s.lane i).regsBut [AIN_CMDST] (t.lane i) ∧
      (t.lane i).fld AIN_CMDST AIN_CMDST_STATUS = 2 ∧ (t.lane i).raised = (s.lane i).raised ||| evBit evAinRefused)

/-- For a single-path channel whose SP_CAUSE is not link and whose RST_CNT is at least 16, RESTORE_PATHS ends DONE, clears SINGLE
and SP_CAUSE, sets dis_cnt and RST_CNT to 0, and places the path that was not src next in its tile's injection order. Only
AIN_CMDST and the channel's AIN_VFLG change. (R127) -/
def Obligations.RestorePathsCommand : Prop :=
  ∀ (ch : BitVec 7) (s : State) (i : LaneId), (s.lane i).computes = true → ch.toNat < 96 →
    (s.lane i).on (AIN_VFLG ch.toNat) AIN_VFLG_SINGLE = true → (s.lane i).fld (AIN_VFLG ch.toNat) AIN_VFLG_SP_CAUSE ≠ 3 →
    16 ≤ (s.lane i).fld (AIN_VFLG ch.toNat) AIN_VFLG_RST_CNT →
    ∃ t, exec (.restorePaths ch 0) s = .next t ∧ (s.lane i).regsBut [AIN_CMDST, AIN_VFLG ch.toNat] (t.lane i) ∧
      t.sh.regs = s.sh.regs ∧
      (t.lane i).fld AIN_CMDST AIN_CMDST_STATUS = 0 ∧ (t.lane i).on (AIN_VFLG ch.toNat) AIN_VFLG_SINGLE = false ∧
      (t.lane i).fld (AIN_VFLG ch.toNat) AIN_VFLG_SP_CAUSE = 0 ∧ (t.lane i).fld (AIN_VFLG ch.toNat) AIN_VFLG_DIS_CNT = 0 ∧
      (t.lane i).fld (AIN_VFLG ch.toNat) AIN_VFLG_RST_CNT = 0 ∧
      (s.lead = s.lane i → (t.sh.tile (tileOf ch.toNat)).injNext =
        2 * (ch.toNat % 8) + (1 - (s.lane i).fld (AIN_VFLG ch.toNat) AIN_VFLG_SRC))

/-- The rows SINGLE_PATH_DISAGREEMENT and RESTORE_CHECK_COMPLETE carry the agreement rule out for a channel that phase 3 of the
running epoch has left to them, on the words of that epoch's cut, in a lane where it makes the channel single-path with cause
1 or returns it to both paths; what was left is used up and the shared part stays. Two compared words out of tolerance with
dis_cnt at most 2 set DISAGREE and count; at 2 the channel becomes single-path with cause 1 and the trusted path as source,
and only AIN_VFLG and AIN_VAL of the channel change. That phase 3 leaves such a channel to its row, and runs the rule before
any later phase without it, is the model's form (log 74). (03_measurement_pipeline.md (R99); 03_measurement_pipeline.md
(R100); 03_measurement_pipeline.md (R102)) -/
def Obligations.AgreementRows : Prop :=
  (∀ (ch : Fin 96) (x : LateChan) (s : State) (i : LaneId), (s.lane i).computes = true →
    (s.lane i).cut.late.find? (fun y => y.ch == ch.val) = some x → (s.lane i).on (AIN_VFLG ch) AIN_VFLG_SINGLE = false →
    let m := (s.lane i).agreeAll x.words ch x.at_
    m.on (AIN_VFLG ch) AIN_VFLG_SINGLE = true → m.fld (AIN_VFLG ch) AIN_VFLG_SP_CAUSE = 1 →
    ∃ t, exec (.singlePathDisagreement ch) s = .next t ∧ s.sharedKept t ∧
      (t.lane i).on (AIN_VFLG ch) AIN_VFLG_SINGLE = true ∧ (t.lane i).fld (AIN_VFLG ch) AIN_VFLG_SP_CAUSE = 1 ∧
      (s.lane i).regsBut [AIN_VFLG ch, AIN_VAL ch] (t.lane i) ∧ (t.lane i).cut.late.length < (s.lane i).cut.late.length) ∧
  (∀ (ch : Fin 96) (x : LateChan) (s : State) (i : LaneId), (s.lane i).computes = true →
    (s.lane i).cut.late.find? (fun y => y.ch == ch.val) = some x → (s.lane i).on (AIN_VFLG ch) AIN_VFLG_SINGLE = true →
    let m := (s.lane i).agreeAll x.words ch x.at_
    m.on (AIN_VFLG ch) AIN_VFLG_SINGLE = false →
    ∃ t, exec (.restoreCheckComplete ch) s = .next t ∧ s.sharedKept t ∧
      (t.lane i).on (AIN_VFLG ch) AIN_VFLG_SINGLE = false ∧ (s.lane i).regsBut [AIN_VFLG ch, AIN_VAL ch] (t.lane i) ∧
      (t.lane i).cut.late.length < (s.lane i).cut.late.length) ∧
  (∀ (l : Lane) (n : Nat) (a b : TWord), n < 96 → a.inj = false → a.rangeTr = false → b.inj = false → b.rangeTr = false →
    wordStale (l.wordCfg n a) (l.chan n) a = false → inTol (l.wordCfg n a) (l.rd (AIN_PCFG n)) (l.chan n) a b = false →
    (calOf (l.wordCfg n a) (l.chan n) b).isSome = true →
    l.on (AIN_VFLG n) AIN_VFLG_SINGLE = false → l.fld (AIN_VFLG n) AIN_VFLG_DIS_CNT ≤ 2 →
    let m := l.agreeBoth n a b
    m.on (AIN_VFLG n) AIN_VFLG_DISAGREE = true ∧ m.fld (AIN_VFLG n) AIN_VFLG_DIS_CNT = l.fld (AIN_VFLG n) AIN_VFLG_DIS_CNT + 1 ∧
      m.on (AIN_VFLG n) AIN_VFLG_SINGLE = decide (l.fld (AIN_VFLG n) AIN_VFLG_DIS_CNT = 2) ∧
      (l.fld (AIN_VFLG n) AIN_VFLG_DIS_CNT = 2 →
        m.fld (AIN_VFLG n) AIN_VFLG_SP_CAUSE = 1 ∧ m.fld (AIN_VFLG n) AIN_VFLG_RST_CNT = 0 ∧
        m.fld (AIN_VFLG n) AIN_VFLG_SRC = numOfPath (trusted (l.chan n) (l.rd (AIN_PCFG n))) ∧
        l.regsBut [AIN_VFLG n, AIN_VAL n] m))

/-- ALARM_SCAN runs the scan to its end, counts it and notes which points are on. ON_DELAY_EXPIRY and OFF_DELAY_EXPIRY set and
clear QUAL of a point whose count has come to its delay, with the change of state of R146; RE_SOUND returns a silenced point
whose SCNT reaches SILT x 100; RATE_WINDOW_END takes the rate over RWIN; SHELVING_EXPIRY ends the shelving; INHIBIT_RELEASE
and RULE_HOLD_EXPIRY release a group and a rule; CHATTER_WINDOW and FLOOD_WINDOW close their windows; the rows of the call
step move the call and the safety timer; STATION_ABSENT marks the station absent with its event. In each case the scan stands
after the row's step and the shared part stays. An on-delay of n steps of 100 ms qualifies at the scan n*10 after the
condition appears. That a row runs the scan as far as its own step is the model's form (log 2). (04_alarm_points.md (R142);
04_alarm_points.md (R145); 04_alarm_points.md (R146); 04_alarm_points.md (R147); 05_alarm_groups_and_floods.md (R161);
05_alarm_groups_and_floods.md (R163); 05_alarm_groups_and_floods.md (R172); 05_alarm_groups_and_floods.md (R173);
05_alarm_groups_and_floods.md (R177); 06_engineer_call_and_ring.md (R187); 06_engineer_call_and_ring.md (R188);
06_engineer_call_and_ring.md (R193)) -/
def Obligations.AlarmScanRowsRunTheScan : Prop :=
  (∀ (s : State) (i : LaneId), (s.lane i).computes = true →
    ∃ t, exec .alarmScan s = .next t ∧ s.sharedKept t ∧ t.lane i = (s.lane i).scanTo s.sh.gt 9 ∧
      ((s.lane i).alm.stage < 9 → (t.lane i).alm.stage = 9 ∧ (t.lane i).rd ALM_SCANCNT = (s.lane i).rd ALM_SCANCNT + 1#32 ∧
        ∀ p, p < 2048 → ((t.lane i).pt p).on = isOn ((t.lane i).ptState p)) ∧
      (9 ≤ (s.lane i).alm.stage → t.lane i = s.lane i)) ∧
  (∀ (p : Fin 2048) (s : State) (i : LaneId), let l := (s.lane i).scanTo s.sh.gt 1
    (s.lane i).computes = true → (s.lane i).alm.stage < 2 → l.ptCond p ≠ 0 → l.unmasked p = true →
    (s.lane i).on (PT_ST p) PT_ST_QUAL = false → (l.ptEval s.sh.gt p).raw = true → (l.ptEval s.sh.gt p).frozen = false →
    (if l.on (ALM_DCNT p) ALM_DCNT_RUN then l.fld (ALM_DCNT p) ALM_DCNT_DCNT + 1 else 0) = l.fld (PT_DLY p) PT_DLY_ON_DLY * 10 →
    ∃ t, exec (.onDelayExpiry p) s = .next t ∧ s.sharedKept t ∧ (t.lane i).alm.stage = 2 ∧
      (t.lane i).on (PT_ST p) PT_ST_QUAL = true ∧ (t.lane i).on (ALM_DCNT p) ALM_DCNT_RUN = false ∧
      (l.ptState p = sNormal → (t.lane i).ptState p = (if l.ptPrio p = 3 then sActAck else sActUnack)) ∧
      (l.ptState p = sRectUnack → (t.lane i).ptState p = sActUnack)) ∧
  (∀ (p : Fin 2048) (s : State) (i : LaneId), let l := (s.lane i).scanTo s.sh.gt 1
    (s.lane i).computes = true → (s.lane i).alm.stage < 2 → l.ptCond p ≠ 0 → l.unmasked p = true →
    (s.lane i).on (PT_ST p) PT_ST_QUAL = true → (l.ptEval s.sh.gt p).raw = false → (l.ptEval s.sh.gt p).frozen = false →
    (if l.on (ALM_DCNT p) ALM_DCNT_RUN then l.fld (ALM_DCNT p) ALM_DCNT_DCNT + 1 else 0) = l.fld (PT_DLY p) PT_DLY_OFF_DLY * 10 →
    ∃ t, exec (.offDelayExpiry p) s = .next t ∧ s.sharedKept t ∧ (t.lane i).alm.stage = 2 ∧
      (t.lane i).on (PT_ST p) PT_ST_QUAL = false ∧ (t.lane i).on (ALM_DCNT p) ALM_DCNT_RUN = false ∧
      (l.ptState p = sActAck → (t.lane i).ptState p = sNormal) ∧
      (l.ptState p ∈ [sActUnack, sActRt] → (t.lane i).ptState p = (if l.ptPrio p < 2 then sRectUnack else sNormal))) ∧
  (∀ (p : Fin 2048) (s : State) (i : LaneId), let l := (s.lane i).scanTo s.sh.gt 1
    (s.lane i).computes = true → (s.lane i).alm.stage < 2 → l.ptCond p ≠ 0 → l.unmasked p = true →
    (s.lane i).ptState p = sActSil → l.ptState p = sActSil → l.alm.sil.contains p.val = false →
    l.fld (PT_ST p) PT_ST_SCNT + 1 = l.fld ALM_GCFG ALM_GCFG_SILT * 100 →
    ∃ t, exec (.reSound p) s = .next t ∧ s.sharedKept t ∧ (t.lane i).alm.stage = 2 ∧ (t.lane i).ptState p = sActUnack ∧
      (t.lane i).fld (PT_ST p) PT_ST_SCNT = 0) ∧
  (∀ (p : Fin 2048) (s : State) (i : LaneId), let l := (s.lane i).scanTo s.sh.gt 1
    let v := l.source (fun q => (l.pt q).on) (l.on (PT_CFG p) PT_CFG_STALE_OK) (l.fld (PT_SRC p) PT_SRC_KIND)
      (l.fld (PT_SRC p) PT_SRC_INDEX) (l.fld (PT_SRC p) PT_SRC_SUB)
    (s.lane i).computes = true → (s.lane i).alm.stage < 2 → l.ptCond p = 2 → l.unmasked p = true →
    s.sh.gt % (l.fld (PT_CFG p) PT_CFG_RWIN * 10000000) = 0 → v.2 = false → F32.isFin v.1 = true →
    ∃ t, exec (.rateWindowEnd p) s = .next t ∧ s.sharedKept t ∧ (t.lane i).alm.stage = 2 ∧
      ((t.lane i).pt p).w = v.1 ∧ (t.lane i).on (PT_ST p) PT_ST_RVALID = true ∧
      (l.on (PT_ST p) PT_ST_RVALID = true →
        ((t.lane i).pt p).x = F32.mul (F32.sub v.1 (l.pt p).w) (F32.ofRat 100 (l.fld (PT_CFG p) PT_CFG_RWIN)))) ∧
  (∀ (p : Fin 2048) (s : State) (i : LaneId), let l := (s.lane i).scanTo s.sh.gt 1
    (s.lane i).computes = true → (s.lane i).alm.stage < 2 → l.ptCond p ≠ 0 →
    (s.lane i).on (ALM_SHLV p) ALM_SHLV_SHELVED = true → l.on (ALM_SHLV p) ALM_SHLV_SHELVED = true →
    l.fld (ALM_SHLV p) ALM_SHLV_REMAIN = 1 →
    ∃ t, exec (.shelvingExpiry p) s = .next t ∧ s.sharedKept t ∧ (t.lane i).alm.stage = 2 ∧
      (t.lane i).on (ALM_SHLV p) ALM_SHLV_SHELVED = false ∧ (t.lane i).on (ALM_SHLV p) ALM_SHLV_AUTO = false ∧
      (t.lane i).fld (ALM_SHLV p) ALM_SHLV_REMAIN = 0 ∧ (t.lane i).on (PT_ST p) PT_ST_MASKED = true ∧
      (t.lane i).ptState p = sNormal) ∧
  (∀ (n : Fin 128) (s : State) (i : LaneId), let l := (s.lane i).scanTo s.sh.gt 2
    let v := l.source (fun q => isOn (l.ptState q)) false (l.fld (ALM_GRPSRC n) ALM_GRPSRC_KIND) (l.fld (ALM_GRPSRC n) ALM_GRPSRC_INDEX)
      (l.fld (ALM_GRPSRC n) ALM_GRPSRC_SUB)
    (s.lane i).computes = true → (s.lane i).alm.stage < 3 → (s.lane i).on (ALM_GRPST n) ALM_GRPST_INH = true →
    ((v.2 = true ∧ l.on (ALM_GRPSRC n) ALM_GRPSRC_HOLDBAD = false) ∨
      (v.2 = false ∧ (l.fld (ALM_GRPSRC n) ALM_GRPSRC_KIND = 0 ∨ isTrue v.1 = l.on (ALM_GRPSRC n) ALM_GRPSRC_INV))) →
    (if l.on (ALM_GRPST n) ALM_GRPST_RUN then l.fld (ALM_GRPST n) ALM_GRPST_RCNT + 1 else 0) = l.fld (ALM_GRPDLY n) ALM_GRPDLY_REL_DLY * 10 →
    ∃ t, exec (.inhibitRelease n) s = .next t ∧ s.sharedKept t ∧ (t.lane i).alm.stage = 3 ∧
      (t.lane i).on (ALM_GRPST n) ALM_GRPST_INH = false ∧ (t.lane i).on (ALM_GRPST n) ALM_GRPST_RUN = false ∧
      (t.lane i).raised ||| evBit evInhibit = (t.lane i).raised) ∧
  (∀ (r : Fin 256) (s : State) (i : LaneId), let l := (s.lane i).scanTo s.sh.gt 3
    (s.lane i).computes = true → (s.lane i).alm.stage < 4 → (s.lane i).on (ALM_RULEST r) ALM_RULEST_ACT = true →
    (l.on (ALM_RULECAUSE r) ALM_RULECAUSE_EN = false ∨ l.ruleTrig (l.rd (ALM_RULECAUSE r)) = false) →
    (if l.on (ALM_RULEST r) ALM_RULEST_RUN then l.fld (ALM_RULEST r) ALM_RULEST_HCNT + 1 else 0) = l.fld (ALM_RULEHOLD r) ALM_RULEHOLD_HOLD * 10 →
    ∃ t, exec (.ruleHoldExpiry r) s = .next t ∧ s.sharedKept t ∧ (t.lane i).alm.stage = 4 ∧
      (t.lane i).on (ALM_RULEST r) ALM_RULEST_ACT = false ∧ (t.lane i).on (ALM_RULEST r) ALM_RULEST_RUN = false) ∧
  (∀ (s : State) (i : LaneId), let l := (s.lane i).scanTo s.sh.gt 5
    (s.lane i).computes = true → (s.lane i).alm.stage < 6 → s.sh.gt % 60000000000 = 0 →
    ∃ t, exec .chatterWindow s = .next t ∧ s.sharedKept t ∧ (t.lane i).alm.stage = 6 ∧
      ∀ p, p < 2048 → p ∉ l.alm.acts → (t.lane i).fld (ALM_SHLV p) ALM_SHLV_CHCNT = 0) ∧
  (∀ (s : State) (i : LaneId), let l := (s.lane i).scanTo s.sh.gt 6
    let on := l.fld ALM_FLOODCFG ALM_FLOODCFG_FLOOD_ON
    let off := l.fld ALM_FLOODCFG ALM_FLOODCFG_FLOOD_OFF
    let n := l.fld ALM_FLOODST ALM_FLOODST_CUR_CNT
    (s.lane i).computes = true → (s.lane i).alm.stage < 7 → s.sh.gt % 10000000000 = 0 →
    ∃ t, exec .floodWindow s = .next t ∧ s.sharedKept t ∧ (t.lane i).alm.stage = 7 ∧
      (t.lane i).fld ALM_FLOODST ALM_FLOODST_LAST_CNT = n ∧
      (t.lane i).fld ALM_FLOODST ALM_FLOODST_CUR_CNT = min 4095 l.alm.acts.length ∧
      (t.lane i).on ALM_FLOODST ALM_FLOODST_FLOOD =
        (if on = 0 ∨ n ≤ off then false else if on ≤ n then true else l.on ALM_FLOODST ALM_FLOODST_FLOOD)) ∧
  (∀ (s : State) (i : LaneId), let l := (s.lane i).scanTo s.sh.gt 8
    let k := l.fld ALM_CALLST ALM_CALLST_STAGE
    (s.lane i).computes = true → (s.lane i).alm.stage < 9 → l.alm.callQ = [] →
    (s.lane i).fld ALM_CALLST ALM_CALLST_CSTATE = csCalling → l.demand ≠ [] → k < 3 → k + 1 < l.fld ALM_CALLCFG ALM_CALLCFG_NSTG →
    l.fld ALM_CALLST ALM_CALLST_CCNT + 1 = l.fld (ALM_STG k) ALM_STG_STGT * 100 →
    ∃ t, exec .stageTime s = .next t ∧ s.sharedKept t ∧ (t.lane i).alm.stage = 9 ∧
      (t.lane i).fld ALM_CALLST ALM_CALLST_CSTATE = csCalling ∧ (t.lane i).fld ALM_CALLST ALM_CALLST_STAGE = k + 1 ∧
      (t.lane i).fld ALM_CALLST ALM_CALLST_CCNT = 0) ∧
  (∀ (s : State) (i : LaneId), let l := (s.lane i).scanTo s.sh.gt 8
    let n := l.fld ALM_CALLCFG ALM_CALLCFG_NSTG
    (s.lane i).computes = true → (s.lane i).alm.stage < 9 → l.alm.callQ = [] →
    (s.lane i).fld ALM_CALLST ALM_CALLST_CSTATE = csAccepted → l.demand = [] → l.callPoints (fun x => x == sActRt) ≠ [] → n ≤ 4 →
    l.fld ALM_CALLST ALM_CALLST_CCNT + 1 = l.fld ALM_CALLCFG ALM_CALLCFG_ACCT * 100 →
    ∃ t, exec .acceptanceTime s = .next t ∧ s.sharedKept t ∧ (t.lane i).alm.stage = 9 ∧
      (t.lane i).fld ALM_CALLST ALM_CALLST_CSTATE = csCalling ∧
      (t.lane i).fld ALM_CALLST ALM_CALLST_STAGE = min (l.fld ALM_CALLST ALM_CALLST_ASTG + 1) (n - 1) ∧
      (t.lane i).fld ALM_CALLST ALM_CALLST_CCNT = 0 ∧
      ∀ p, p ∈ l.callPoints (fun x => x == sActRt) → ∃ c, c ∈ (t.lane i).alm.callCmds ∧ c.op = 0x06 ∧ c.tgt = p) ∧
  (∀ (s : State) (i : LaneId), let l := (s.lane i).scanTo s.sh.gt 8
    (s.lane i).computes = true → (s.lane i).alm.stage < 9 → l.alm.callQ = [] →
    (s.lane i).fld ALM_DMST ALM_DMST_DMST = dmRun →
    l.fld ALM_DMST ALM_DMST_DMCNT + 1 + l.fld ALM_DMCFG ALM_DMCFG_DM_PW * 100 = l.fld ALM_DMCFG ALM_DMCFG_DM_PER * 6000 →
    ∃ t, exec .safetyPrewarn s = .next t ∧ s.sharedKept t ∧ (t.lane i).alm.stage = 9 ∧
      (t.lane i).fld ALM_DMST ALM_DMST_DMST = dmPrewarn ∧
      (t.lane i).fld ALM_DMST ALM_DMST_DMCNT = l.fld ALM_DMST ALM_DMST_DMCNT + 1) ∧
  (∀ (s : State) (i : LaneId), let l := (s.lane i).scanTo s.sh.gt 8
    (s.lane i).computes = true → (s.lane i).alm.stage < 9 → l.alm.callQ = [] →
    (s.lane i).fld ALM_DMST ALM_DMST_DMST = dmPrewarn →
    l.fld ALM_DMST ALM_DMST_DMCNT + 1 = l.fld ALM_DMCFG ALM_DMCFG_DM_PER * 6000 →
    ∃ t, exec .safetyExpired s = .next t ∧ s.sharedKept t ∧ (t.lane i).alm.stage = 9 ∧
      (t.lane i).fld ALM_DMST ALM_DMST_DMST = dmExpired ∧
      (t.lane i).fld ALM_DMST ALM_DMST_DMCNT = l.fld ALM_DMST ALM_DMST_DMCNT + 1) ∧
  (∀ (st : Fin 16) (s : State) (i : LaneId), (s.lane i).computes = true → (s.lane i).present st = true →
    (s.lane i).presentAt s.sh.gt st = false →
    ∃ t, exec (.stationAbsent st) s = .next t ∧ s.sharedKept t ∧ (t.lane i).present st = false ∧
      (s.lane i).regsBut [ALM_CALLED] (t.lane i) ∧ (t.lane i).raised = (s.lane i).raised ||| evBit evStationAbsent) ∧
  (∀ (dly : Word) (n : Nat), 0 < PT_DLY_ON_DLY.get dly → PT_DLY_ON_DLY.get dly ≤ 36000 → n ≤ PT_DLY_ON_DLY.get dly * 10 →
    let x : Word × Bool := (fun y => delayStep y.1 true y.2 dly)^[n + 1] (0#32, false)
    x.2 = decide (n = PT_DLY_ON_DLY.get dly * 10) ∧ ALM_DCNT_DCNT.get x.1 = n ∧
      ALM_DCNT_RUN.on x.1 = decide (n < PT_DLY_ON_DLY.get dly * 10))

/-- Before or in step 1 of the alarm scan of the running epoch, with fewer than 32 commands taken by it, a permitted ACK moves an
unacknowledged, silenced, transferred or rectified point to ACT_ACK or NORMAL; SILENCE to ACT_SIL with SCNT 0; TRANSFER to
ACT_RT; RETAKE back to ACT_UNACK: the scan stands after its step 1 and only PT_ST of the point differs from what step 1
leaves without the command. ACK_GROUP does so for every point of the group, SILENCE_ALL for every ACT_UNACK point, and points
outside keep PT_ST. That the row joins the running scan while its step 1 is not past is the model's choice (log 31).
(04_alarm_points.md (R146); 04_alarm_points.md (R152); 04_alarm_points.md (R153); 04_alarm_points.md (R155)) -/
def Obligations.AlarmCommandsMovePoints : Prop :=
  (∀ (p : BitVec 11) (o : BitVec 5) (s : State) (i : LaneId), let l := (s.lane i).scanTo s.sh.gt 1
    (s.lane i).computes = true → (s.lane i).alm.stage < 2 → l.alm.taken < 32 →
    l.almPermits 0x01 o.toNat = true → l.ptState p.toNat ∈ [sActUnack, sActSil, sActRt, sRectUnack] →
    ∃ t, exec (.ack p o) s = .next t ∧ s.sharedKept t ∧ l.regsBut [PT_ST p.toNat] (t.lane i) ∧
      (t.lane i).ptState p.toNat = (if l.ptState p.toNat = sRectUnack then sNormal else sActAck)) ∧
  (∀ (p : BitVec 11) (o : BitVec 5) (s : State) (i : LaneId), let l := (s.lane i).scanTo s.sh.gt 1
    (s.lane i).computes = true → (s.lane i).alm.stage < 2 → l.alm.taken < 32 →
    l.almPermits 0x02 o.toNat = true → l.ptState p.toNat = sActUnack →
    ∃ t, exec (.silence p o) s = .next t ∧ s.sharedKept t ∧ l.regsBut [PT_ST p.toNat] (t.lane i) ∧
      (t.lane i).ptState p.toNat = sActSil ∧ (t.lane i).fld (PT_ST p.toNat) PT_ST_SCNT = 0) ∧
  (∀ (p : BitVec 11) (o : BitVec 5) (s : State) (i : LaneId), let l := (s.lane i).scanTo s.sh.gt 1
    (s.lane i).computes = true → (s.lane i).alm.stage < 2 → l.alm.taken < 32 →
    l.almPermits 0x05 o.toNat = true → l.ptState p.toNat ∈ [sActUnack, sActSil] → l.ptPrio p.toNat ≠ 0 →
    ∃ t, exec (.transfer p o) s = .next t ∧ s.sharedKept t ∧ l.regsBut [PT_ST p.toNat] (t.lane i) ∧
      (t.lane i).ptState p.toNat = sActRt) ∧
  (∀ (p : BitVec 11) (o : BitVec 5) (s : State) (i : LaneId), let l := (s.lane i).scanTo s.sh.gt 1
    (s.lane i).computes = true → (s.lane i).alm.stage < 2 → l.alm.taken < 32 →
    l.almPermits 0x06 o.toNat = true → l.ptState p.toNat = sActRt →
    ∃ t, exec (.retake p o) s = .next t ∧ s.sharedKept t ∧ l.regsBut [PT_ST p.toNat] (t.lane i) ∧
      (t.lane i).ptState p.toNat = sActUnack) ∧
  (∀ (n : BitVec 11) (o : BitVec 5) (s : State) (i : LaneId) (p : Nat), let l := (s.lane i).scanTo s.sh.gt 1
    (s.lane i).computes = true → (s.lane i).alm.stage < 2 → l.alm.taken < 32 → n.toNat < 128 →
    l.almPermits 0x03 o.toNat = true → p < 2048 → l.ptCond p ≠ 0 →
    l.ptGroup p = n.toNat → l.ptState p ∈ [sActUnack, sActSil, sActRt, sRectUnack] →
    ∃ t, exec (.ackGroup n o) s = .next t ∧ s.sharedKept t ∧
      (t.lane i).ptState p = (if l.ptState p = sRectUnack then sNormal else sActAck) ∧
      ∀ q, q < 2048 → l.ptGroup q ≠ n.toNat → (t.lane i).rd (PT_ST q) = l.rd (PT_ST q)) ∧
  (∀ (o : BitVec 5) (s : State) (i : LaneId) (p : Nat), let l := (s.lane i).scanTo s.sh.gt 1
    (s.lane i).computes = true → (s.lane i).alm.stage < 2 → l.alm.taken < 32 →
    l.almPermits 0x04 o.toNat = true → p < 2048 → l.ptCond p ≠ 0 → l.ptState p = sActUnack →
    ∃ t, exec (.silenceAll 0 o) s = .next t ∧ s.sharedKept t ∧ (t.lane i).ptState p = sActSil ∧
      ∀ q, q < 2048 → l.ptState q ≠ sActUnack → (t.lane i).rd (PT_ST q) = l.rd (PT_ST q))

/-- Before or in step 1 of the alarm scan, with fewer than 32 commands taken: SHELVE and UNSHELVE set and clear the shelving of a
point with its time and the count of ALM_SHELFST; FO_RESET arms the first-out of a group and clears FIRST and TIES. In the
call step of that scan ACCEPT_CALL brings the call engine to ACCEPTED with the stage kept and issues TRANSFER for every point
of the demand; DUTY names the station; DM_START, DM_RESET and DM_STOP run, restart and stop the safety timer. Registers
outside the named ones stay. That the row joins the running scan while its step 1 is not past is the model's choice (log 31).
(04_alarm_points.md (R152); 05_alarm_groups_and_floods.md (R169); 05_alarm_groups_and_floods.md (R170);
05_alarm_groups_and_floods.md (R171); 05_alarm_groups_and_floods.md (R172); 06_engineer_call_and_ring.md (R184);
06_engineer_call_and_ring.md (R188); 06_engineer_call_and_ring.md (R190); 06_engineer_call_and_ring.md (R192);
06_engineer_call_and_ring.md (R193)) -/
def Obligations.ShelvingAndCallCommands : Prop :=
  (∀ (p : BitVec 11) (o : BitVec 5) (s : State) (i : LaneId), let l := (s.lane i).scanTo s.sh.gt 1
    (s.lane i).computes = true → (s.lane i).alm.stage < 2 → l.alm.taken < 32 →
    l.almPermits 0x07 o.toNat = true → l.on (ALM_SHLV p.toNat) ALM_SHLV_SHELVED = false →
    l.ptPrio p.toNat ≠ 0 → l.ptCond p.toNat ≠ 0 →
    l.fld ALM_SHELFST ALM_SHELFST_SHELVED < l.fld ALM_SHELFCFG ALM_SHELFCFG_SHELF_MAX →
    ∃ t, exec (.shelve p o) s = .next t ∧ s.sharedKept t ∧
      l.regsBut [ALM_SHLV p.toNat, ALM_SHELFST] (t.lane i) ∧
      (t.lane i).on (ALM_SHLV p.toNat) ALM_SHLV_SHELVED = true ∧
      (t.lane i).fld (ALM_SHLV p.toNat) ALM_SHLV_REMAIN = l.fld ALM_SHELFCFG ALM_SHELFCFG_SHELFT * 6000 ∧
      (t.lane i).fld ALM_SHELFST ALM_SHELFST_SHELVED = l.fld ALM_SHELFST ALM_SHELFST_SHELVED + 1) ∧
  (∀ (p : BitVec 11) (o : BitVec 5) (s : State) (i : LaneId), let l := (s.lane i).scanTo s.sh.gt 1
    (s.lane i).computes = true → (s.lane i).alm.stage < 2 → l.alm.taken < 32 →
    l.almPermits 0x08 o.toNat = true → l.on (ALM_SHLV p.toNat) ALM_SHLV_SHELVED = true →
    ∃ t, exec (.unshelve p o) s = .next t ∧ s.sharedKept t ∧
      l.regsBut [ALM_SHLV p.toNat, ALM_SHELFST] (t.lane i) ∧
      (t.lane i).on (ALM_SHLV p.toNat) ALM_SHLV_SHELVED = false ∧ (t.lane i).on (ALM_SHLV p.toNat) ALM_SHLV_AUTO = false) ∧
  (∀ (n : BitVec 11) (o : BitVec 5) (s : State) (i : LaneId), let l := (s.lane i).scanTo s.sh.gt 1
    (s.lane i).computes = true → (s.lane i).alm.stage < 2 → l.alm.taken < 32 → n.toNat < 128 →
    l.almPermits 0x09 o.toNat = true → l.on (ALM_GRPDLY n.toNat) ALM_GRPDLY_FO_EN = true →
    l.on (ALM_GRPST n.toNat) ALM_GRPST_FO_ARMED = false →
    ∃ t, exec (.foReset n o) s = .next t ∧ s.sharedKept t ∧
      l.regsBut [ALM_GRPST n.toNat, ALM_GRPFO n.toNat] (t.lane i) ∧
      (t.lane i).on (ALM_GRPST n.toNat) ALM_GRPST_FO_ARMED = true ∧ (t.lane i).on (ALM_GRPST n.toNat) ALM_GRPST_FO_CAPT = false ∧
      (t.lane i).fld (ALM_GRPFO n.toNat) ALM_GRPFO_FIRST = 0 ∧ (t.lane i).fld (ALM_GRPFO n.toNat) ALM_GRPFO_TIES = 0) ∧
  (∀ (o : BitVec 5) (s : State) (i : LaneId), let l := (s.lane i).scanTo s.sh.gt 1
    let m := (s.lane i).atCallStep s.sh.gt 0x20 0 o.toNat
    (s.lane i).computes = true → (s.lane i).alm.stage < 2 → l.alm.taken < 32 → l.alm.callQ = [] →
    l.almPermits 0x20 o.toNat = true → m.fld ALM_CALLST ALM_CALLST_CSTATE = csCalling → m.demand ≠ [] → m.emerg = false →
    (o.toNat < 16 → bitOf m.calledNow o.toNat = true) →
    ∃ t, exec (.acceptCall 0 o) s = .next t ∧ s.sharedKept t ∧ m.regsBut [ALM_CALLST, ALM_CALLED, ALM_DMST, ALM_SCANCNT] (t.lane i) ∧
      (t.lane i).fld ALM_CALLST ALM_CALLST_CSTATE = csAccepted ∧
      (t.lane i).fld ALM_CALLST ALM_CALLST_ASTG = m.fld ALM_CALLST ALM_CALLST_STAGE ∧
      (t.lane i).fld ALM_CALLST ALM_CALLST_CCNT = 0 ∧
      ∀ p, p ∈ m.demand → ∃ c, c ∈ (t.lane i).alm.callCmds ∧ c.op = 0x05 ∧ c.tgt = p) ∧
  (∀ (n : BitVec 11) (o : BitVec 5) (s : State) (i : LaneId), let l := (s.lane i).scanTo s.sh.gt 1
    let m := (s.lane i).atCallStep s.sh.gt 0x21 n.toNat o.toNat
    (s.lane i).computes = true → (s.lane i).alm.stage < 2 → l.alm.taken < 32 → l.alm.callQ = [] →
    l.almPermits 0x21 o.toNat = true → n.toNat < 16 → m.fitted n.toNat = true →
    m.on (ALM_WS n.toNat) ALM_WS_ELIG = true → m.fld ALM_CALLST ALM_CALLST_CSTATE = csIdle →
    ∃ t, exec (.duty n o) s = .next t ∧ s.sharedKept t ∧ m.regsBut [ALM_CALLST, ALM_CALLED, ALM_DMST, ALM_SCANCNT] (t.lane i) ∧
      (t.lane i).fld ALM_CALLST ALM_CALLST_DUTY = n.toNat) ∧
  (∀ (o : BitVec 5) (s : State) (i : LaneId), let l := (s.lane i).scanTo s.sh.gt 1
    let m := (s.lane i).atCallStep s.sh.gt 0x22 0 o.toNat
    (s.lane i).computes = true → (s.lane i).alm.stage < 2 → l.alm.taken < 32 → l.alm.callQ = [] →
    l.almPermits 0x22 o.toNat = true → m.fld ALM_DMST ALM_DMST_DMST = dmOff → m.on ALM_DMCFG ALM_DMCFG_DM_EN = true →
    ∃ t, exec (.dmStart 0 o) s = .next t ∧ s.sharedKept t ∧ m.regsBut [ALM_CALLST, ALM_CALLED, ALM_DMST, ALM_SCANCNT] (t.lane i) ∧
      (t.lane i).fld ALM_DMST ALM_DMST_DMST = dmRun ∧ (t.lane i).fld ALM_DMST ALM_DMST_DMCNT = 0) ∧
  (∀ (o : BitVec 5) (s : State) (i : LaneId), let l := (s.lane i).scanTo s.sh.gt 1
    let m := (s.lane i).atCallStep s.sh.gt 0x23 0 o.toNat
    (s.lane i).computes = true → (s.lane i).alm.stage < 2 → l.alm.taken < 32 → l.alm.callQ = [] →
    l.almPermits 0x23 o.toNat = true → m.fld ALM_DMST ALM_DMST_DMST ≠ dmOff →
    ∃ t, exec (.dmReset 0 o) s = .next t ∧ s.sharedKept t ∧ m.regsBut [ALM_CALLST, ALM_CALLED, ALM_DMST, ALM_SCANCNT] (t.lane i) ∧
      (t.lane i).fld ALM_DMST ALM_DMST_DMST = dmRun ∧ (t.lane i).fld ALM_DMST ALM_DMST_DMCNT = 0) ∧
  (∀ (o : BitVec 5) (s : State) (i : LaneId), let l := (s.lane i).scanTo s.sh.gt 1
    let m := (s.lane i).atCallStep s.sh.gt 0x24 0 o.toNat
    (s.lane i).computes = true → (s.lane i).alm.stage < 2 → l.alm.taken < 32 → l.alm.callQ = [] →
    l.almPermits 0x24 o.toNat = true → m.fld ALM_DMST ALM_DMST_DMST ≠ dmOff →
    ∃ t, exec (.dmStop 0 o) s = .next t ∧ s.sharedKept t ∧ m.regsBut [ALM_CALLST, ALM_CALLED, ALM_DMST, ALM_SCANCNT] (t.lane i) ∧
      (t.lane i).fld ALM_DMST ALM_DMST_DMST = dmOff)

/-- In step 1 a command with an invalid target, beyond the 32nd, without permission, or refused by the state of its target
changes no register of the lane; it raises the ALM-command-refused event and forms one record 0x0101 with origin, opcode,
target and the STATUS code 3, 2, 4 or 2. A command that comes after step 1 joins the queue for the first alarm scan after the
running epoch, with its opcode, target, origin and the status 3, 2 or 0, and changes no register. That a row after step 1
waits for the next scan is the model's choice (log 31). (04_alarm_points.md (R152); 04_alarm_points.md (R153);
04_alarm_points.md (R154); 04_alarm_points.md (R155); 05_alarm_groups_and_floods.md (R171)) -/
def Obligations.RefusedAlarmCommandsOnlyRecord : Prop :=
  (∀ (c : Instr) (op tgt origin st : Nat) (s : State) (i : LaneId), let l := (s.lane i).scanTo s.sh.gt 1
    (∃ (x : BitVec 11) (o : BitVec 5), tgt = x.toNat ∧ origin = o.toNat ∧
      (c, op) ∈ [(.ack x o, 0x01), (.silence x o, 0x02), (.ackGroup x o, 0x03), (.silenceAll x o, 0x04), (.transfer x o, 0x05),
        (.retake x o, 0x06), (.shelve x o, 0x07), (.unshelve x o, 0x08), (.foReset x o, 0x09)]) →
    (s.lane i).computes = true → (s.lane i).alm.stage < 2 →
    ((almInvalid op tgt = true ∧ st = 3) ∨ (almInvalid op tgt = false ∧ 32 ≤ l.alm.taken ∧ st = 2) ∨
      (almInvalid op tgt = false ∧ l.alm.taken < 32 ∧ l.almPermits op origin = false ∧ st = 4) ∨
      (almInvalid op tgt = false ∧ l.alm.taken < 32 ∧ l.almPermits op origin = true ∧ l.almRefused op tgt = true ∧ st = 2)) →
    ∃ t, exec c s = .next t ∧ s.sharedKept t ∧ (t.lane i).regs = l.regs ∧ (t.lane i).raised = l.raised ||| evBit evAlmRefused ∧
      ∃ f : Formed, (t.lane i).formed = l.formed ++ [f] ∧ f.r.code = 0x0101 ∧ f.r.p0 = w32 origin ∧ f.r.p1 = w32 op ∧
        f.r.p2 = w32 tgt ∧ f.r.p3 = w32 st) ∧
  (∀ (c : Instr) (op tgt origin : Nat) (s : State) (i : LaneId),
    (∃ (x : BitVec 11) (o : BitVec 5), tgt = x.toNat ∧ origin = o.toNat ∧
      (c, op) ∈ [(.ack x o, 0x01), (.silence x o, 0x02), (.ackGroup x o, 0x03), (.silenceAll x o, 0x04), (.transfer x o, 0x05),
        (.retake x o, 0x06), (.shelve x o, 0x07), (.unshelve x o, 0x08), (.foReset x o, 0x09), (.acceptCall x o, 0x20),
        (.duty x o, 0x21), (.dmStart x o, 0x22), (.dmReset x o, 0x23), (.dmStop x o, 0x24)]) →
    (s.lane i).computes = true → 2 ≤ (s.lane i).alm.stage →
    ∃ t, exec c s = .next t ∧ s.sharedKept t ∧ (t.lane i).regs = (s.lane i).regs ∧
      ∃ q : AlmCmd, (t.lane i).alm.queue = (s.lane i).alm.queue ++ [q] ∧ q.op = op ∧ q.tgt = tgt ∧ q.origin = origin ∧
        s.sh.gt < scanAt q.eff ∧ scanAt q.eff ≤ s.sh.gt + 10000000 ∧
        q.status = (if almInvalid op tgt then 3 else if 32 ≤ (s.lane i).queuedFor (scanAt q.eff) then 2 else 0))

/-- With CHAR = table the characteristic of x is ty[0] where x <= tx[0], ty[32] where x >= tx[32], and otherwise, for the largest
index i with tx[i] <= x, ty[i] + f*(ty[i+1]-ty[i]) with f = (x-tx[i])/(tx[i+1]-tx[i]), every operation in binary32, tx and ty
being the entries of table TABLE. (R124) -/
def Obligations.TableInterpolation : Prop :=
  ∀ (l : Lane) (cfg pcfg : Word) (low : Bool) (x : F32), AIN_PCFG_CHAR.get pcfg = 2 →
    let tx := fun i => l.rd (AIN_TX (AIN_PCFG_TABLE.get pcfg) i)
    let ty := fun i => l.rd (AIN_TY (AIN_PCFG_TABLE.get pcfg) i)
    (F32.le x (tx 0) = true → characteristic l cfg pcfg low x = ty 0) ∧
    (F32.le x (tx 0) = false → F32.ge x (tx 32) = true → characteristic l cfg pcfg low x = ty 32) ∧
    (∀ i, i < 32 → F32.le x (tx 0) = false → F32.ge x (tx 32) = false → F32.le (tx i) x = true →
      (∀ j, i < j → j ≤ 32 → F32.le (tx j) x = false) →
      characteristic l cfg pcfg low x =
        F32.add (ty i) (F32.mul (F32.div (F32.sub x (tx i)) (F32.sub (tx (i + 1)) (tx i))) (F32.sub (ty (i + 1)) (ty i))))

/-- With the conditions of R229 met, each command ends DONE, sets PEND or SWAP_PEND and waits for the next period start; mode and
set stay until then; only CTRL_CMDST and CTRL_ST of the loop change. Otherwise CTRL_CMDST shows the status of R229 and R240,
the CTRL-command-refused event is raised and no loop changes. The rows take effect at the newest boundary (log 5).
(07_control_engine.md (R229); 07_control_engine.md (R237); 07_control_engine.md (R240)) -/
def Obligations.ControlCommands : Prop :=
  (∀ (n : BitVec 5) (arg : BitVec 8) (s : State) (i : LaneId), (s.lane i).computes = true →
    (s.lane i).loopType n.toNat ≠ 0 → arg.toNat ≤ 2 → (s.lane i).loopNextMode n.toNat ≠ arg.toNat →
    (arg.toNat = mCas → (s.lane i).loopType n.toNat = 3 ∧ ((s.lane i).namedBy 3 n.toNat).isSome = true) →
    (arg.toNat ≠ mMan → (s.lane i).on (CTRL_ST n.toNat) CTRL_ST_PVBAD = false) →
    ∃ t, exec (.setMode n arg) s = .next t ∧ s.sharedKept t ∧ (s.lane i).regsBut [CTRL_CMDST, CTRL_ST n.toNat] (t.lane i) ∧
      (t.lane i).fld CTRL_CMDST CTRL_CMDST_STATUS = 0 ∧ (t.lane i).fld CTRL_CMDST CTRL_CMDST_LAST_OP = 1 ∧
      (t.lane i).fld CTRL_CMDST CTRL_CMDST_LAST_LOOP = n.toNat ∧ (t.lane i).on (CTRL_ST n.toNat) CTRL_ST_PEND = true ∧
      (t.lane i).loopMode n.toNat = (s.lane i).loopMode n.toNat ∧
      ((t.lane i).loop n.toNat).cmds = ((s.lane i).loop n.toNat).cmds ++ [⟨1, arg.toNat, 0#32⟩]) ∧
  (∀ (n : BitVec 5) (v : Word) (s : State) (i : LaneId), (s.lane i).computes = true → F32.isFin v = true →
    F32.lt v ((s.lane i).rd (CTRL_SPLO n.toNat)) = false → F32.gt v ((s.lane i).rd (CTRL_SPHI n.toNat)) = false →
    (s.lane i).loopType n.toNat ∉ [0, 2] → (s.lane i).loopNextMode n.toNat ≠ mCas →
    ((s.lane i).loopNextMode n.toNat = mMan → (s.lane i).on (CTRL_CFG n.toNat) CTRL_CFG_SPTRK = false) →
    ∃ t, exec (.setSp n 0 v) s = .next t ∧ s.sharedKept t ∧ (s.lane i).regsBut [CTRL_CMDST, CTRL_ST n.toNat] (t.lane i) ∧
      (t.lane i).fld CTRL_CMDST CTRL_CMDST_STATUS = 0 ∧ (t.lane i).on (CTRL_ST n.toNat) CTRL_ST_PEND = true ∧
      ((t.lane i).loop n.toNat).cmds = ((s.lane i).loop n.toNat).cmds ++ [⟨2, 0, v⟩]) ∧
  (∀ (n : BitVec 5) (v : Word) (s : State) (i : LaneId), (s.lane i).computes = true → F32.isFin v = true →
    F32.lt v ((s.lane i).rd (CTRL_OLO n.toNat ((s.lane i).loopSet n.toNat))) = false →
    F32.gt v ((s.lane i).rd (CTRL_OHI n.toNat ((s.lane i).loopSet n.toNat))) = false →
    (s.lane i).loopType n.toNat ≠ 0 → (s.lane i).loopNextMode n.toNat = mMan →
    ∃ t, exec (.setOut n 0 v) s = .next t ∧ s.sharedKept t ∧ (s.lane i).regsBut [CTRL_CMDST, CTRL_ST n.toNat] (t.lane i) ∧
      (t.lane i).fld CTRL_CMDST CTRL_CMDST_STATUS = 0 ∧ (t.lane i).on (CTRL_ST n.toNat) CTRL_ST_PEND = true ∧
      ((t.lane i).loop n.toNat).cmds = ((s.lane i).loop n.toNat).cmds ++ [⟨3, 0, v⟩]) ∧
  (∀ (n : BitVec 5) (arg : BitVec 8) (s : State) (i : LaneId), (s.lane i).computes = true → arg.toNat ≤ 1 →
    (s.lane i).loopType n.toNat ≠ 0 → (s.lane i).loopSet n.toNat ≠ arg.toNat →
    (s.lane i).on (CTRL_ST n.toNat) CTRL_ST_SWAP_PEND = false →
    ∃ t, exec (.selSet n arg) s = .next t ∧ s.sharedKept t ∧ (s.lane i).regsBut [CTRL_CMDST, CTRL_ST n.toNat] (t.lane i) ∧
      (t.lane i).fld CTRL_CMDST CTRL_CMDST_STATUS = 0 ∧ (t.lane i).on (CTRL_ST n.toNat) CTRL_ST_SWAP_PEND = true ∧
      (t.lane i).loopSet n.toNat = (s.lane i).loopSet n.toNat ∧ ((t.lane i).loop n.toNat).swapTo = arg.toNat) ∧
  (∀ (n : BitVec 5) (arg : BitVec 8) (v : Word) (s : State) (i : LaneId) (c : Instr) (op : Nat) (w : Word), (s.lane i).computes = true →
    (c, op, w) ∈ [(.setMode n arg, 1, 0#32), (.setSp n arg v, 2, v), (.setOut n arg v, 3, v), (.selSet n arg, 4, 0#32)] →
    (s.lane i).ctrlStatus op n.toNat arg.toNat w ≠ 0 →
    ∃ t, exec c s = .next t ∧ s.sharedKept t ∧ (s.lane i).regsBut [CTRL_CMDST] (t.lane i) ∧
      (t.lane i).fld CTRL_CMDST CTRL_CMDST_STATUS = (s.lane i).ctrlStatus op n.toNat arg.toNat w ∧
      (t.lane i).raised = (s.lane i).raised ||| evBit evCtrlRefused ∧ (t.lane i).loops = (s.lane i).loops)

/-- LOOP_PERIOD_START runs a due loop once, after phase 3: PCNT counts modulo 65536, waiting commands are taken, PEND clears, and
only the loop's status registers change. TP_CYCLE_START sets the output on for the on-time of the value in effect after the
loops; TP_ON_TIME_END switches it off. Every on-time is 0, the whole cycle, or leaves at least MINP on and MINP off.
(07_control_engine.md (R217); 07_control_engine.md (R220); 07_control_engine.md (R236)) -/
def Obligations.LoopRows : Prop :=
  (∀ (n : Fin 32) (s : State) (i : LaneId), let l := (s.lane i).phase3
    (s.lane i).computes = true → l.loopDue n s.sh.gt = true → (l.loop n).done = false →
    ∃ t, exec (.loopPeriodStart n) s = .next t ∧ s.sharedKept t ∧ ((s.lane i).cut.late = [] → l = s.lane i) ∧
      l.regsBut [CTRL_ST n, CTRL_PV n, CTRL_SP n, CTRL_OUT n, CTRL_I n, CTRL_DVAL n 0, CTRL_DVAL n 1] (t.lane i) ∧
      (t.lane i).fld (CTRL_ST n) CTRL_ST_PCNT = (l.fld (CTRL_ST n) CTRL_ST_PCNT + 1) % 65536 ∧
      (t.lane i).on (CTRL_ST n) CTRL_ST_PEND = false ∧ ((t.lane i).loop n).cmds = [] ∧ ((t.lane i).loop n).done = true) ∧
  (∀ (n : Fin 32) (d : Fin 2) (s : State) (i : LaneId), (s.lane i).computes = true →
    let g := s.sh.gt + 1000000
    let l := (s.lane i).loopsRun s.sh.gt
    let on := tpOn (l.vAt g n d) (l.fld (CTRL_DST n d) CTRL_DST_TPP) (l.fld (CTRL_DST n d) CTRL_DST_MINP)
    (s.lane i).tpDue n d g = true → l.tpDue n d g = true → (l.tps.at {} (2 * n + d)).doneAt ≠ g →
    ∃ t, exec (.tpCycleStart n d) s = .next t ∧ s.sharedKept t ∧
      (t.lane i).tps.at {} (2 * n + d) = { begun := true, offAt := g + on * 1000000, on := on != 0, doneAt := g }) ∧
  (∀ (n : Fin 32) (d : Fin 2) (s : State) (i : LaneId), (s.lane i).computes = true →
    ((s.lane i).tps.at {} (2 * n + d)).on = true → ((s.lane i).tps.at {} (2 * n + d)).offAt = s.sh.gt + 1000000 →
    ∃ t, exec (.tpOnTimeEnd n d) s = .next t ∧ s.sharedKept t ∧ (t.lane i).regs = (s.lane i).regs ∧
      ((t.lane i).tps.at {} (2 * n + d)).on = false) ∧
  (∀ (v : F32) (tpp minp : Nat), tpOn v tpp minp = 0 ∨ tpOn v tpp minp = tpp * 100 ∨
    (minp ≤ tpOn v tpp minp ∧ tpOn v tpp minp + minp ≤ tpp * 100))

/-- SET_MA, FORCE_FAIL and HART_SEND end DONE with their effect; CLEAR_THERM of a latched output clears the latch in AO_ST and in
the stage with record 0x0601 and ends STATE_REFUSED where none stands; a channel above 23 ends INVALID and SET_MA on a
channel that is off STATE_REFUSED, with the AO-command-refused event and no effect. Compliance rows set and clear COMPL in
the stage; TWARN is set above 140 C and cleared below 130 C; a thermal switch-off takes the code off, counts in its 60 s
window and latches at the 8th; recovery waits for 135 C and 100 ms and ends at the boundary; READBACK_CHECK reaches the lanes
that hear AOUT, AOUT_LINK_LOST makes every readback of its lane invalid, DEV_CHANGE with its record, and AO_MODE_TAKEOVER act
on their channel alone. (08_loop_outputs_and_hart.md (R256); 08_loop_outputs_and_hart.md (R259); 08_loop_outputs_and_hart.md
(R260); 08_loop_outputs_and_hart.md (R262); 08_loop_outputs_and_hart.md (R263); 08_loop_outputs_and_hart.md (R268);
08_loop_outputs_and_hart.md (R270)) -/
def Obligations.LoopOutputRows : Prop :=
  (∀ (n : BitVec 5) (v : Word) (s : State) (i : LaneId), (s.lane i).computes = true → n.toNat < 24 → F32.isFin v = true →
    F32.lt v 0#32 = false → F32.gt v (F32.ofRat 24 1) = false → (s.lane i).aoMode n.toNat ≠ 0 → (s.lane i).namedBy 1 n.toNat = none →
    ∃ t, exec (.setMa n 0 v) s = .next t ∧ t.sh.regs = s.sh.regs ∧ (s.lane i).regsBut [AO_CMDST] (t.lane i) ∧
      (t.lane i).fld AO_CMDST AO_CMDST_STATUS = 0 ∧ (t.lane i).fld AO_CMDST AO_CMDST_LAST_OP = 1 ∧
      (t.lane i).fld AO_CMDST AO_CMDST_LAST_CH = n.toNat ∧ ((t.lane i).ao n.toNat).setMa = some v) ∧
  (∀ (n : BitVec 5) (arg : BitVec 8) (s : State) (i : LaneId), (s.lane i).computes = true → n.toNat < 24 → arg.toNat ≤ 1 →
    (s.lane i).aoMode n.toNat ≠ 0 → (s.lane i).fld (AO_ST n.toNat) AO_ST_FORCED ≠ arg.toNat →
    ∃ t, exec (.forceFail n arg) s = .next t ∧ t.sh.regs = s.sh.regs ∧ (s.lane i).regsBut [AO_CMDST, AO_ST n.toNat] (t.lane i) ∧
      (t.lane i).fld AO_CMDST AO_CMDST_STATUS = 0 ∧ (t.lane i).fld (AO_ST n.toNat) AO_ST_FORCED = arg.toNat) ∧
  (∀ (n : BitVec 5) (s : State) (i : LaneId), (s.lane i).computes = true → s.lead = s.lane i → n.toNat < 24 →
    (s.lane i).on (AO_ST n.toNat) AO_ST_TLATCH = true →
    ∃ t f, exec (.clearTherm n 0) s = .next t ∧ t.sh.regs = s.sh.regs ∧ (s.lane i).regsBut [AO_CMDST, AO_ST n.toNat] (t.lane i) ∧
      (t.lane i).fld AO_CMDST AO_CMDST_STATUS = 0 ∧ (t.sh.ao n.toNat).tlatch = false ∧
      (t.lane i).on (AO_ST n.toNat) AO_ST_TLATCH = false ∧ (t.lane i).formed = (s.lane i).formed ++ [f] ∧ f.r.code = 0x0601 ∧
      f.r.p0 = w32 (n.toNat + 256 * 5)) ∧
  (∀ (n : BitVec 5) (s : State) (i : LaneId), (s.lane i).computes = true → n.toNat < 24 →
    (s.lane i).on (AO_ST n.toNat) AO_ST_TLATCH = false →
    ∃ t, exec (.clearTherm n 0) s = .next t ∧ t.sh.regs = s.sh.regs ∧ (s.lane i).regsBut [AO_CMDST] (t.lane i) ∧
      (t.lane i).fld AO_CMDST AO_CMDST_STATUS = 2 ∧ (t.lane i).raised = (s.lane i).raised ||| evBit evAoRefused) ∧
  (∀ (n : BitVec 5) (s : State) (i : LaneId), (s.lane i).computes = true → n.toNat < 24 →
    (s.lane i).on (AO_CFG n.toNat) AO_CFG_HART_EN = true → (s.lane i).aoMode n.toNat ≠ 0 → ((s.lane i).hart n.toNat).hostQ = none →
    ((s.lane i).hart n.toNat).cur = none → ((s.lane i).bufByte (HRT_TX n.toNat 0) 1).toNat ≤ 64 →
    ∃ t q, exec (.hartSend n 0) s = .next t ∧ t.sh.regs = s.sh.regs ∧
      (s.lane i).regsBut [AO_CMDST, AO_ST n.toNat, HRT_ST n.toNat] (t.lane i) ∧
      (t.lane i).fld AO_CMDST AO_CMDST_STATUS = 0 ∧ (t.lane i).fld (HRT_ST n.toNat) HRT_ST_TSTAT = 1 ∧
      (t.lane i).on (AO_ST n.toNat) AO_ST_HART_BUSY = true ∧ ((t.lane i).hart n.toNat).hostQ = some q ∧
      q.length = ((s.lane i).bufByte (HRT_TX n.toNat 0) 1).toNat + 2) ∧
  (∀ (n : BitVec 5) (arg : BitVec 8) (s : State) (i : LaneId), (s.lane i).computes = true → 23 < n.toNat →
    ∃ t, exec (.forceFail n arg) s = .next t ∧ (s.lane i).regsBut [AO_CMDST] (t.lane i) ∧
      (t.lane i).fld AO_CMDST AO_CMDST_STATUS = 3 ∧ (t.lane i).raised = (s.lane i).raised ||| evBit evAoRefused) ∧
  (∀ (n : BitVec 5) (v : Word) (s : State) (i : LaneId), (s.lane i).computes = true → n.toNat < 24 → F32.isFin v = true →
    F32.lt v 0#32 = false → F32.gt v (F32.ofRat 24 1) = false → (s.lane i).aoMode n.toNat = 0 →
    ∃ t, exec (.setMa n 0 v) s = .next t ∧ (s.lane i).regsBut [AO_CMDST] (t.lane i) ∧
      (t.lane i).fld AO_CMDST AO_CMDST_STATUS = 2 ∧ (t.lane i).raised = (s.lane i).raised ||| evBit evAoRefused ∧
      (t.lane i).ao n.toNat = (s.lane i).ao n.toNat) ∧
  (∀ (n : Fin 24) (s : State), s.sh.on (AO_CODE n) AO_CODE_OFF = false →
    ∃ t, exec (.complSet n) s = .next t ∧ s.lanesKept t ∧ t.sh.regs = s.sh.regs ∧ t.sh.ao n = { s.sh.ao n with compl := true }) ∧
  (∀ (n : Fin 24) (s : State),
    ∃ t, exec (.complClear n) s = .next t ∧ s.lanesKept t ∧ t.sh.regs = s.sh.regs ∧ t.sh.ao n = { s.sh.ao n with compl := false }) ∧
  (∀ (n : Fin 24) (temp : Byte) (s : State),
    ∃ t, exec (.twarnChange n temp) s = .next t ∧ s.lanesKept t ∧ s.sh.regsBut [AO_MON n] t.sh ∧
      t.sh.fld (AO_MON n) AO_MON_TEMP = temp.toNat ∧
      (t.sh.ao n).twarn = (if 180 < temp.toNat then true else if temp.toNat < 170 then false else (s.sh.ao n).twarn)) ∧
  (∀ (n : Fin 24) (dt : Nat) (s : State), (s.sh.ao n).toff = false →
    ∃ t, exec (.thermalSwitchOff n dt) s = .next t ∧ s.lanesKept t ∧ s.sh.regsBut [AO_MON n, AO_CODE n] t.sh ∧
      (t.sh.ao n).toff = true ∧ (t.sh.ao n).toffAt = s.sh.gt + dt ∧ t.sh.on (AO_CODE n) AO_CODE_OFF = true ∧
      t.sh.fld (AO_CODE n) AO_CODE_CODE = 0 ∧
      t.sh.fld (AO_MON n) AO_MON_TOFFS = min 255 (s.sh.fld (AO_MON n) AO_MON_TOFFS + 1) ∧
      (t.sh.ao n).winTof = (if (s.sh.ao n).win = (s.sh.gt + dt) / 60000000000 then (s.sh.ao n).winTof else 0) + 1 ∧
      (t.sh.ao n).tlatch = ((s.sh.ao n).tlatch || decide (8 ≤ (t.sh.ao n).winTof))) ∧
  (∀ (n : Fin 24) (temp : Byte) (dt : Nat) (s : State), (s.sh.ao n).toff = true → temp.toNat ≤ 175 →
    (s.sh.ao n).toffAt + 100000000 ≤ s.sh.gt + dt →
    ∃ t, exec (.thermalRecovery n temp dt) s = .next t ∧ s.lanesKept t ∧ t.sh.regs = s.sh.regs ∧
      t.sh.ao n = { s.sh.ao n with cool := true } ∧ (t.sh.aoBoundary.ao n).toff = false) ∧
  (∀ (n : Fin 24) (pass : Bool) (s : State) (i : LaneId), s.sh.checkDue = true → (s.lane i).takes = true →
    (s.lane i).aoLost = false →
    ∃ t, exec (.readbackCheck n pass) s = .next t ∧ s.sharedKept t ∧ (t.lane i).regs = (s.lane i).regs ∧
      (t.lane i).ao n = { (s.lane i).ao n with chk := some pass }) ∧
  (∀ (i : LaneId) (s : State),
    ∃ t, exec (.aoutLinkLost i) s = .next t ∧ s.otherKept i t ∧ t.lane i = { s.lane i with aoLost := true } ∧
      ∀ n, (t.lane i).rbInv n = true) ∧
  (∀ (n : Fin 24) (s : State) (i : LaneId), (s.lane i).computes = true → ((s.lane i).ao n).devDue = true →
    ∃ t, exec (.devChange n) s = .next t ∧ s.sharedKept t ∧ (s.lane i).regsBut [AO_ST n] (t.lane i) ∧
      (t.lane i).on (AO_ST n) AO_ST_DEV = !(s.lane i).on (AO_ST n) AO_ST_DEV ∧ ((t.lane i).ao n).devDue = false ∧
      ∃ f, (t.lane i).formed = (s.lane i).formed ++ [f] ∧ f.r.code = 0x0601 ∧
        f.r.p0 = w32 (n + 256 + 65536 * b2n (!(s.lane i).on (AO_ST n) AO_ST_DEV))) ∧
  (∀ (n : Fin 24) (s : State) (i : LaneId), (s.lane i).computes = true → ((s.lane i).ao n).takeover = some s.sh.gt →
    ∃ t, exec (.aoModeTakeover n) s = .next t ∧ s.sharedKept t ∧ (s.lane i).regsBut [AO_ST n] (t.lane i) ∧
      (t.lane i).aoMode n = (s.lane i).fld (AO_CFG n) AO_CFG_MODE ∧ ((t.lane i).ao n).takeover = none)

/-- A ready transaction starts when the channel is idle, AOUT is on and the outputs are not held, or is deferred and counted once
while a carrier is heard; a received frame enters the cut of the lanes that hear AOUT; a timeout spends an attempt or, with
none left, ends the transaction with TSTAT 4, the count and the HART event; a due poll is marked unless C4SHED. Only the
named registers change. (08_loop_outputs_and_hart.md (R274); 08_loop_outputs_and_hart.md (R275); 08_loop_outputs_and_hart.md
(R276); 08_loop_outputs_and_hart.md (R277); 08_loop_outputs_and_hart.md (R278)) -/
def Obligations.HartRows : Prop :=
  (∀ (n : Fin 24) (x : HartTx) (s : State) (i : LaneId), (s.lane i).computes = true → (s.lane i).hartNext n = some x →
    s.sh.hold = false → s.sh.aoutOn.isSome = true → (s.lane i).hartReady n = true → (s.lane i).on PWR_LST PWR_LST_C2RED = false →
    ((s.lane i).hart n).quietFrom = 0 →
    ∃ t, exec (.hartTransactionStart n false) s = .next t ∧ s.sharedKept t ∧ (s.lane i).regsBut [HRT_ST n, AO_ST n] (t.lane i) ∧
      (t.lane i).fld (HRT_ST n) HRT_ST_TSTAT = 2 ∧ (t.lane i).on (HRT_ST n) HRT_ST_POLL_RUN = x.poll ∧
      (t.lane i).on (AO_ST n) AO_ST_HART_BUSY = true ∧
      ((t.lane i).hart n).cur = some { x with live := true, endAt := s.sh.gt + hartChars ((s.lane i).fld (HRT_CFG n) HRT_CFG_PRE + x.req.length) }) ∧
  (∀ (n : Fin 24) (x : HartTx) (s : State) (i : LaneId), (s.lane i).computes = true → (s.lane i).hartNext n = some x →
    s.sh.hold = false → s.sh.aoutOn.isSome = true → (s.lane i).hartReady n = true → (s.lane i).on PWR_LST PWR_LST_C2RED = false → x.deferred = false →
    ∃ t, exec (.hartTransactionStart n true) s = .next t ∧ s.sharedKept t ∧ (s.lane i).regsBut [HRT_CNT n] (t.lane i) ∧
      (t.lane i).fld (HRT_CNT n) HRT_CNT_DEFER = min 255 ((s.lane i).fld (HRT_CNT n) HRT_CNT_DEFER + 1)) ∧
  (∀ (n : Fin 24) (pre : Nat) (data : List Byte) (parity : Bool) (dt : Nat) (s : State) (i : LaneId), (s.lane i).takes = true →
    (s.lane i).aoLost = false →
    ∃ t, exec (.hartResponseReceived n pre data parity dt) s = .next t ∧ s.sharedKept t ∧ (t.lane i).regs = (s.lane i).regs ∧
      (t.lane i).cut.hart = (s.lane i).cut.hart ++ [⟨n, pre, data, parity, s.sh.gt + dt⟩]) ∧
  (∀ (n : Fin 24) (dt : Nat) (x : HartTx) (s : State) (i : LaneId), (s.lane i).computes = true → ((s.lane i).hart n).cur = some x →
    x.live = true → x.endAt + hartChars ((s.lane i).fld (HRT_CFG n) HRT_CFG_RSPTO) ≤ s.sh.gt + dt → 0 < x.left →
    ∃ t, exec (.hartResponseTimeout n dt) s = .next t ∧ s.sharedKept t ∧ (t.lane i).regs = (s.lane i).regs ∧
      ((t.lane i).hart n).cur = some { x with live := false, left := x.left - 1 }) ∧
  (∀ (n : Fin 24) (dt : Nat) (x : HartTx) (s : State) (i : LaneId), (s.lane i).computes = true → ((s.lane i).hart n).cur = some x →
    x.live = true → x.endAt + hartChars ((s.lane i).fld (HRT_CFG n) HRT_CFG_RSPTO) ≤ s.sh.gt + dt → x.left = 0 → x.poll = false →
    ∃ t, exec (.hartResponseTimeout n dt) s = .next t ∧ s.sharedKept t ∧ (s.lane i).regsBut [HRT_ST n, HRT_CNT n, AO_ST n] (t.lane i) ∧
      ((t.lane i).hart n).cur = none ∧ (t.lane i).fld (HRT_ST n) HRT_ST_TSTAT = 4 ∧
      (t.lane i).fld (HRT_CNT n) HRT_CNT_TMO = min 255 ((s.lane i).fld (HRT_CNT n) HRT_CNT_TMO + 1) ∧
      (t.lane i).on (AO_ST n) AO_ST_HART_ERR = true ∧ (t.lane i).raised = (s.lane i).raised ||| evBit (evHart n)) ∧
  (∀ (n : Fin 24) (s : State) (i : LaneId), (s.lane i).computes = true → (s.lane i).hartPollAt s.sh.gt n = true →
    ((s.lane i).hart n).pollAt ≠ s.sh.gt →
    ∃ t, exec (.hartPollDue n) s = .next t ∧ s.sharedKept t ∧ (t.lane i).regs = (s.lane i).regs ∧
      ((t.lane i).hart n).pollDue = (((s.lane i).hart n).pollDue || !(s.lane i).on PWR_LST PWR_LST_C4SHED) ∧
      ((t.lane i).hart n).pollAt = s.sh.gt)

/-- A crossing sets the level of the detector and its stamp in whole microseconds, and keeps the level that samples before the
stamp see; while DIO is on it starts or ends the run of samples of 100 us and counts a glitch where the level before did not
last N samples; no register changes. QUALIFIED_EDGE takes over the level after N samples and puts one edge with the stamp of
the crossing and the time of qualification into the cut of each lane whose link is up. (09_field_digital_io.md (R285);
09_field_digital_io.md (R286); 09_field_digital_io.md (R287); 09_field_digital_io.md (R288)) -/
def Obligations.DigitalInputRows : Prop :=
  (∀ (n : Fin 32) (level : Bool) (dt : Nat) (s : State), s.sh.dioOn = true → (s.sh.di n).raw ≠ level → (s.sh.di n).initAt = none → (s.sh.di n).run = none →
    let w := (s.sh.gt + dt) / 1000 * 1000
    let x := s.sh.di n
    ∃ t, exec (.thresholdCrossing n level dt) s = .next t ∧ s.lanesKept t ∧ t.sh.regs = s.sh.regs ∧
      (t.sh.di n).raw = level ∧ (t.sh.di n).was = x.before w ∧ (t.sh.di n).crossAt = w ∧ (t.sh.di n).deb = x.deb ∧
      (t.sh.di n).run = (if (level != s.lead.on (DI_CFG n) DI_CFG_INV) = x.deb then none else some (sampleNo w + 1)) ∧
      (t.sh.di n).glitch = (if sampleNo w - sampleNo x.crossAt < s.lead.debN n then min 255 (x.glitch + 1) else x.glitch)) ∧
  (∀ (n : Fin 32) (level : Bool) (dt : Nat) (s : State), s.sh.dioOn = false → (s.sh.di n).raw ≠ level →
    ∃ t, exec (.thresholdCrossing n level dt) s = .next t ∧ s.lanesKept t ∧ t.sh.regs = s.sh.regs ∧
      t.sh.di n = { s.sh.di n with
        raw := level, was := (s.sh.di n).before ((s.sh.gt + dt) / 1000 * 1000), crossAt := (s.sh.gt + dt) / 1000 * 1000 }) ∧
  (∀ (n : Fin 32) (r : Nat) (s : State), s.sh.dioOn = true → (s.sh.di n).initAt = none → (s.sh.di n).run = some r →
    let level := s.lead.diLevel n (s.sh.di n)
    let q := (r + s.lead.debN n - 1) * 100000
    level ≠ (s.sh.di n).deb → q ≤ s.sh.gt + 1000000 →
    ∃ t, exec (.qualifiedEdge n) s = .next t ∧ t.sh.regs = s.sh.regs ∧ (t.sh.di n).deb = level ∧ (t.sh.di n).run = none ∧
      ∀ i, (t.lane i).regs = (s.lane i).regs ∧
        (t.lane i).cut.edges = (s.lane i).cut.edges ++
          (if (s.lane i).takes && (s.lane i).dioLink then [⟨n, level, q, (s.sh.di n).crossAt⟩] else []))

/-- Evaluating the outputs at any instant, each output is on exactly if released states are taken at all, a valid epoch mark
stands, EN is set, its bank has neither UV nor ACKREQ nor waits for a boundary, SLATCH is clear, and the released state is
on. Only the registers of the output stage change; in the lanes only flags of the stage are noted. (09_field_digital_io.md
(R295); 09_field_digital_io.md (R296); 09_field_digital_io.md (R304); 09_field_digital_io.md (R308)) -/
def Obligations.DigitalOutputsFollowTheTable : Prop :=
  ∀ (s : State) (n : Nat), n < 32 →
    let t := s.doEval
    t.sh.on (DO_ST n) DO_ST_APPLIED = (s.sh.doLive && !s.sh.markLost && s.lead.on (DO_CFG n) DO_CFG_EN &&
      !s.sh.on (DO_BST (n / 8)) DO_BST_UV && !s.sh.on (DO_BST (n / 8)) DO_BST_ACKREQ && !(s.sh.bank (n / 8)).waits &&
      !s.sh.on (DO_ST n) DO_ST_SLATCH && bitOf s.sh.doRel n) ∧
    s.lanesTold t ∧ s.sh.regsBut doRegs t.sh

/-- At a sample of the 100 us grid MISM_CHANGE reads the terminal against VFk (on, off, indeterminate) and after 30 alike samples
sets RB, MISM, LOW, BACKFED and EPIS by it; UNLOC is set after 31 samples of FLT with no output at fault; SLATCH after 100 ms
of LOW. Current-limit and thermal rows set and clear their inputs and FLT. VWARN is set below 19.20 V for 10 samples and
cleared from 19.70 V for 1001; UV at 16.0 V switches a bank off, and its end at 17.0 V brings ACKREQ or waits for the
boundary by RESTORE; loss of the epoch mark switches every output off at its sample and lasts for the boundaries its operand
gives; a lane's DIO link, lost or up again, shows in LINK of its four banks from the cut that follows.
(09_field_digital_io.md (R293); 09_field_digital_io.md (R298); 09_field_digital_io.md (R299); 09_field_digital_io.md (R301);
09_field_digital_io.md (R302); 09_field_digital_io.md (R303); 09_field_digital_io.md (R304); 09_field_digital_io.md (R307);
09_field_digital_io.md (R308)) -/
def Obligations.OutputFaultAndBankRows : Prop :=
  (∀ (n : Fin 32) (v : BitVec 16) (dt : Nat) (s : State), s.sampleDue dt → s.lead.on (DO_CFG n) DO_CFG_EN = true →
    let r := readClass (s.sh.bank (n / 8)).vf v.toInt
    let on := s.sh.on (DO_ST n) DO_ST_APPLIED
    let bad := decide (r = 2) || (decide (r = 1) != on)
    1 ≤ (s.sh.dou n).age → (s.sh.dou n).bad = bad → 29 ≤ (s.sh.dou n).cnt →
    ∃ t, exec (.mismChange n v dt) s = .next t ∧ s.lanesTold t ∧ s.sh.regsBut (DO_RB :: doRegs) t.sh ∧
      t.sh.on (DO_ST n) DO_ST_RB = decide (r = 1) ∧ t.sh.on (DO_ST n) DO_ST_RB_IND = decide (r = 2) ∧
      t.sh.on (DO_ST n) DO_ST_MISM = bad ∧ t.sh.on (DO_ST n) DO_ST_LOW = (bad && on) ∧
      t.sh.on (DO_ST n) DO_ST_BACKFED = (bad && !on) ∧
      t.sh.fld (DO_ST n) DO_ST_EPIS = (if bad && !s.sh.on (DO_ST n) DO_ST_MISM
        then min 255 (s.sh.fld (DO_ST n) DO_ST_EPIS + 1) else s.sh.fld (DO_ST n) DO_ST_EPIS)) ∧
  (∀ (k : Fin 4) (j dt : Nat) (s : State), s.sampleDue dt → j < 8 → (s.sh.dou (8 * k + j)).limit = true → 30 ≤ (s.sh.bank k).fltN →
    (∀ m, m < 8 → s.sh.on (DO_ST (8 * k + m)) DO_ST_MISM = false ∧ (s.sh.dou (8 * k + m)).cnt < 29) →
    ∃ t, exec (.unlocChange k dt) s = .next t ∧ s.lanesTold t ∧ s.sh.regsBut (DO_RB :: doRegs) t.sh ∧
      t.sh.on (DO_BST k) DO_BST_FLT = true ∧ t.sh.on (DO_BST k) DO_BST_UNLOC = true) ∧
  (∀ (n : Fin 32) (dt : Nat) (s : State), s.sampleDue dt → s.lead.on (DO_CFG n) DO_CFG_SLATCH_EN = true →
    s.sh.on (DO_ST n) DO_ST_LOW = true → 999 ≤ (s.sh.dou n).lowN → (s.sh.dou n).cnt < 29 →
    ∃ t, exec (.slatch n dt) s = .next t ∧ s.lanesTold t ∧ s.sh.regsBut (DO_RB :: doRegs) t.sh ∧
      t.sh.on (DO_ST n) DO_ST_SLATCH = true ∧ t.sh.on (DO_ST n) DO_ST_APPLIED = false) ∧
  (∀ (n : Fin 32) (dt : Nat) (s : State), s.sh.on (DO_ST n) DO_ST_APPLIED = true →
    ∃ t, exec (.outputCurrentLimit n dt) s = .next t ∧ s.lanesTold t ∧ s.sh.regsBut (DO_RB :: doRegs) t.sh ∧
      (t.sh.dou n).limit = true ∧ t.sh.on (DO_BST (n / 8)) DO_BST_FLT = true ∧
      (sampleNo (s.sh.gt + dt) ≤ s.sh.dioAt → s.sh.regsBut [DO_BST (n / 8)] t.sh)) ∧
  (∀ (n : Fin 32) (dt : Nat) (s : State),
    ∃ t, exec (.currentLimitEnd n dt) s = .next t ∧ s.lanesTold t ∧ s.sh.regsBut (DO_RB :: doRegs) t.sh ∧
      (t.sh.dou n).limit = false ∧
      (sampleNo (s.sh.gt + dt) ≤ s.sh.dioAt → s.sh.regsBut [DO_BST (n / 8)] t.sh ∧ t.sh.dou n = { s.sh.dou n with limit := false })) ∧
  (∀ (n : Fin 32) (dt : Nat) (s : State),
    ∃ t, exec (.outputThermalShutdown n dt) s = .next t ∧ s.lanesTold t ∧ s.sh.regsBut (DO_RB :: doRegs) t.sh ∧
      (t.sh.dou n).shut = true ∧ t.sh.on (DO_BST (n / 8)) DO_BST_FLT = true ∧
      (sampleNo (s.sh.gt + dt) ≤ s.sh.dioAt → s.sh.regsBut [DO_BST (n / 8)] t.sh)) ∧
  (∀ (n : Fin 32) (dt : Nat) (s : State),
    ∃ t, exec (.outputThermalRestart n dt) s = .next t ∧ s.lanesTold t ∧ s.sh.regsBut (DO_RB :: doRegs) t.sh ∧
      (t.sh.dou n).shut = false ∧
      (sampleNo (s.sh.gt + dt) ≤ s.sh.dioAt → s.sh.regsBut [DO_BST (n / 8)] t.sh ∧ t.sh.dou n = { s.sh.dou n with shut := false })) ∧
  (∀ (k : Fin 4) (vf : BitVec 16) (dt : Nat) (s : State), s.sampleDue dt →
    ∃ t, exec (.vwarnChange k vf dt) s = .next t ∧ s.lanesTold t ∧ s.sh.regsBut (DO_RB :: doRegs) t.sh ∧
      (t.sh.bank k).vf = vf.toNat ∧
      t.sh.on (DO_BST k) DO_BST_VWARN = (if vf.toNat < 1920 ∧ 9 ≤ (s.sh.bank k).nWarn then true
        else if 1970 ≤ vf.toNat ∧ 1000 ≤ (s.sh.bank k).nOk then false else s.sh.on (DO_BST k) DO_BST_VWARN)) ∧
  (∀ (k : Fin 4) (vf : BitVec 16) (dt : Nat) (s : State), s.sampleDue dt → vf.toNat < 1600 → 9 ≤ (s.sh.bank k).nLow →
    ∃ t, exec (.uvSet k vf dt) s = .next t ∧ s.lanesTold t ∧ s.sh.regsBut (DO_RB :: doRegs) t.sh ∧
      t.sh.on (DO_BST k) DO_BST_UV = true ∧ ∀ j, j < 8 → t.sh.on (DO_ST (8 * k + j)) DO_ST_APPLIED = false) ∧
  (∀ (k : Fin 4) (vf : BitVec 16) (dt : Nat) (s : State), s.sampleDue dt → s.sh.on (DO_BST k) DO_BST_UV = true → 1700 ≤ vf.toNat →
    1000 ≤ (s.sh.bank k).nGood →
    ∃ t, exec (.uvClear k vf dt) s = .next t ∧ s.lanesTold t ∧ s.sh.regsBut (DO_RB :: doRegs) t.sh ∧
      t.sh.on (DO_BST k) DO_BST_UV = false ∧
      (if s.lead.on (DO_BCFG k) DO_BCFG_RESTORE then t.sh.on (DO_BST k) DO_BST_ACKREQ = true else (t.sh.bank k).waits = true) ∧
      ∀ j, j < 8 → t.sh.on (DO_ST (8 * k + j)) DO_ST_APPLIED = false) ∧
  (∀ (dt more : Nat) (s : State),
    ∃ t, exec (.epochMarkLoss dt more) s = .next t ∧ s.lanesTold t ∧ s.sh.regsBut (DO_RB :: doRegs) t.sh ∧ t.sh.markLost = true ∧
      t.sh.markGap = more ∧ (t.doBoundary none).sh.markLost = (more != 0) ∧
      (s.sh.dioOn = true → (s.sh.gt + dt) % 100000 = 0 → s.sh.dioAt < sampleNo (s.sh.gt + dt) →
        ∀ n, n < 32 → t.sh.on (DO_ST n) DO_ST_APPLIED = false)) ∧
  (∀ (i : LaneId) (s : State),
    ∃ t, exec (.dioLinkLost i) s = .next t ∧ s.otherKept i t ∧ t.lane i = { s.lane i with dioUp := false } ∧
      ∀ g k, k < 4 → ((t.lane i).diTake t.sh g).on (DI_BST k) DI_BST_LINK = false) ∧
  (∀ (i : LaneId) (s : State),
    ∃ t, exec (.dioLinkUp i) s = .next t ∧ s.otherKept i t ∧ t.lane i = { s.lane i with dioUp := true } ∧
      ∀ g k, k < 4 → ((t.lane i).diTake t.sh g).on (DI_BST k) DI_BST_LINK = true)

/-- SET_DO on a direct output sets its commanded value and marks it as commanded, nothing else; CLEAR_LATCH clears SLATCH;
BANK_ACK clears ACKREQ once UV has gone; each ends DONE. A latch that is not set ends STATE_REFUSED and a bank above 3
INVALID, with the DIO-command-refused event. Only DIO_CMDST and the registers of the output stage change. The rows take
effect at the newest boundary (log 5). (09_field_digital_io.md (R304); 09_field_digital_io.md (R309)) -/
def Obligations.DigitalOutputCommands : Prop :=
  (∀ (n : BitVec 5) (arg : BitVec 8) (s : State) (i : LaneId), (s.lane i).computes = true → arg.toNat ≤ 1 →
    (s.lane i).fld (DO_CFG n.toNat) DO_CFG_SRC = 0 → (s.lane i).on (DO_CFG n.toNat) DO_CFG_EN = true →
    ∃ t, exec (.setDo n arg) s = .next t ∧ s.sh.regsBut doRegs t.sh ∧ (s.lane i).regsBut [DIO_CMDST] (t.lane i) ∧
      (t.lane i).fld DIO_CMDST DIO_CMDST_STATUS = 0 ∧ (t.lane i).fld DIO_CMDST DIO_CMDST_LAST_OP = 1 ∧
      (t.lane i).fld DIO_CMDST DIO_CMDST_LAST_CH = n.toNat ∧ t.sh.doRel = s.sh.doRel ∧
      ∀ m, m < 32 → bitOf (t.lane i).doVal m = (if m = n.toNat then decide (arg.toNat = 1) else bitOf (s.lane i).doVal m) ∧
        bitOf (t.lane i).doSet m = (decide (m = n.toNat) || bitOf (s.lane i).doSet m)) ∧
  (∀ (n : BitVec 5) (s : State) (i : LaneId), (s.lane i).computes = true → s.sh.on (DO_ST n.toNat) DO_ST_SLATCH = true →
    ∃ t, exec (.clearLatch n 0) s = .next t ∧ s.sh.regsBut doRegs t.sh ∧ (s.lane i).regsBut [DIO_CMDST] (t.lane i) ∧
      (t.lane i).fld DIO_CMDST DIO_CMDST_STATUS = 0 ∧ t.sh.on (DO_ST n.toNat) DO_ST_SLATCH = false) ∧
  (∀ (k : BitVec 5) (s : State) (i : LaneId), (s.lane i).computes = true → k.toNat < 4 →
    s.sh.on (DO_BST k.toNat) DO_BST_ACKREQ = true → s.sh.on (DO_BST k.toNat) DO_BST_UV = false →
    ∃ t, exec (.bankAck k 0) s = .next t ∧ s.sh.regsBut doRegs t.sh ∧ (s.lane i).regsBut [DIO_CMDST] (t.lane i) ∧
      (t.lane i).fld DIO_CMDST DIO_CMDST_STATUS = 0 ∧ t.sh.on (DO_BST k.toNat) DO_BST_ACKREQ = false) ∧
  (∀ (n : BitVec 5) (s : State) (i : LaneId), (s.lane i).computes = true → s.sh.on (DO_ST n.toNat) DO_ST_SLATCH = false →
    ∃ t, exec (.clearLatch n 0) s = .next t ∧ (s.lane i).regsBut [DIO_CMDST] (t.lane i) ∧
      (t.lane i).fld DIO_CMDST DIO_CMDST_STATUS = 2 ∧ (t.lane i).raised = (s.lane i).raised ||| evBit evDioRefused) ∧
  (∀ (k : BitVec 5) (s : State) (i : LaneId), (s.lane i).computes = true → 4 ≤ k.toNat →
    ∃ t, exec (.bankAck k 0) s = .next t ∧ (s.lane i).regsBut [DIO_CMDST] (t.lane i) ∧
      (t.lane i).fld DIO_CMDST DIO_CMDST_STATUS = 3 ∧ (t.lane i).raised = (s.lane i).raised ||| evBit evDioRefused)

/-- While the link is up, DIGEST is kept for comparison, VERDICT_COPY shows VERD_PEER, WRITE and WORD hand over what the other
lane forwarded (to a lane that takes no cut only the lane-local writes; words of the running cut only; FWD_MAX keeping the
worst delay), CONFIRM brings the number of records the other store has committed, MIRROR fills the next slot of a lane in
step that is mirroring and no other slot. STATE brings a page: when the last one of a round has come with pages written
meanwhile, ROUND counts and they are the next round; otherwise the page leaves what is left, and the copy is complete when
nothing is left and the packet is the last of the delta. 64 good IDLE packets bring the link up; its loss clears UP, sets
LOST, counts, raises the link event and leaves the packet kept. Pages as the unit of the copy and when a round ends are the
model's form (log 109). (10_lanes_and_failover.md (R316); 10_lanes_and_failover.md (R317); 10_lanes_and_failover.md (R319);
10_lanes_and_failover.md (R323); 01_node_architecture.md (R20); 01_node_architecture.md (R27); 01_node_architecture.md (R40);
11_event_recorder.md (R363); 16_start_reset_bisque.md (R516)) -/
def Obligations.FebenPackets : Prop :=
  (∀ (i : LaneId) (ep : BitVec 12) (inc : Option (Fin 8)) (dig : BitVec 64) (subs : List Word) (s : State),
    (s.lane i).st ≠ .off → (s.lane i).on LINK_STAT LINK_STAT_UP = true →
    ∃ t, exec (.digestPacket i 0 ep inc dig subs) s = .next t ∧ s.otherKept i t ∧ (t.lane i).regs = (s.lane i).regs ∧
      (t.lane i).link.pkt = some ⟨ep.toNat, inc.map (·.val), dig, subs⟩) ∧
  (∀ (i : LaneId) (s : State), (s.lane i).st ≠ .off → (s.lane i).on LINK_STAT LINK_STAT_UP = true → (s.lane i.other).adj.verdict < 4 →
    ∃ t, exec (.verdictCopyPacket i 0) s = .next t ∧ s.otherKept i t ∧ (s.lane i).regsBut [SYS_ADJ] (t.lane i) ∧
      (t.lane i).fld SYS_ADJ SYS_ADJ_VERD_PEER = (s.lane i.other).adj.verdict) ∧
  (∀ (i : LaneId) (s : State), (s.lane i).st ≠ .off → (s.lane i).on LINK_STAT LINK_STAT_UP = true →
    ∃ t, exec (.writePacket i 0) s = .next t ∧ s.sharedKept t ∧ (t.lane i.other).link.wfwd = [] ∧
      (t.lane i.other).regs = (s.lane i.other).regs ∧
      ((s.lane i).takes = true →
        t.lane i = (s.lane i.other).link.wfwd.foldl (fun l p => l.takeWrite p) ((s.lane i).packetGood 3)) ∧
      ((s.lane i).takes = false →
        t.lane i = ((s.lane i.other).link.wfwd.filter (fun p => laneLocalKey p.key)).foldl
          (fun l p => { l with writes := insertBy PendWrite.order p l.writes }) ((s.lane i).packetGood 3))) ∧
  (∀ (i : LaneId) (delay : Byte) (s : State), (s.lane i).takes = true → (s.lane i).on LINK_STAT LINK_STAT_UP = true →
    ∃ t, exec (.wordPacket i 0 delay) s = .next t ∧ s.sharedKept t ∧ (t.lane i.other).link.fwd = [] ∧
      (t.lane i.other).regs = (s.lane i.other).regs ∧ (s.lane i).regsBut [LINK_RESEND] (t.lane i) ∧
      (t.lane i).cut.words = (s.lane i).cut.words ++ (s.lane i.other).link.fwd.filter (fun w => s.sh.gt < w.w) ∧
      (t.lane i).fld LINK_RESEND LINK_RESEND_FWD_MAX = max delay.toNat ((s.lane i).fld LINK_RESEND LINK_RESEND_FWD_MAX)) ∧
  (∀ (i : LaneId) (s : State), (s.lane i).st ≠ .off → (s.lane i).on LINK_STAT LINK_STAT_UP = true →
    ∃ t, exec (.confirmPacket i 0) s = .next t ∧ s.otherKept i t ∧ (t.lane i).regs = (s.lane i).regs ∧
      (t.lane i).rcd.peerDone = (s.lane i.other).rcd.done) ∧
  (∀ (i : LaneId) (ws : List Word) (rest : List (List Word)) (s : State), (s.lane i).st ≠ .off →
    (s.lane i).on LINK_STAT LINK_STAT_UP = true → (s.lane i).on REC_STAT REC_STAT_MIRRORING = true →
    (s.lane i).instep = true → (s.lane i.other).rcd.missed = ws :: rest → (s.lane i).rcd.mirNew + rest.length < slotCount →
    ∃ t, exec (.mirrorPacket i 0) s = .next t ∧ s.sharedKept t ∧ (s.lane i).regsBut [REC_TAIL] (t.lane i) ∧
      (t.lane i.other).regs = (s.lane i.other).regs ∧ (t.lane i.other).rcd.missed = rest ∧
      (t.lane i).slot (s.lane i).rcd.mirAt = ws ∧ (t.lane i).rcd.mirAt = nextSlot (s.lane i).rcd.mirAt ∧
      ∀ k, k % slotCount ≠ (s.lane i).rcd.mirAt % slotCount → (t.lane i).slot k = (s.lane i).slot k) ∧
  (∀ (i : LaneId) (p : Fin 8192) (last : Bool) (s : State), (s.lane i).st ≠ .off → (s.lane i).on LINK_STAT LINK_STAT_UP = true →
    s.joiner = some i → s.sh.start.stx.isSome = true → s.sh.start.stxUnits = true →
    s.sh.start.stxDelta = false → s.sh.start.stxLeft.filter (· != p.val) = [] → s.sh.start.stxNew ≠ [] →
    ∃ t, exec (.statePacket i 0 (some p) last) s = .next t ∧ (t.lane i).regs = (s.lane i).regs ∧ t.lane i.other = s.lane i.other ∧
      s.sh.regsBut [ MOD_STX] t.sh ∧ t.sh.fld MOD_STX MOD_STX_ROUND = min 255 (s.sh.fld MOD_STX MOD_STX_ROUND + 1) ∧
      t.sh.start.stxLeft = s.sh.start.stxNew ∧ t.sh.start.stxNew = [] ∧ t.sh.start.stxDone = false) ∧
  (∀ (i : LaneId) (p : Fin 8192) (last : Bool) (s : State), (s.lane i).st ≠ .off → (s.lane i).on LINK_STAT LINK_STAT_UP = true →
    s.joiner = some i → s.sh.start.stx.isSome = true → s.sh.start.stxUnits = true →
    s.sh.start.stxDelta = true ∨ s.sh.start.stxLeft.filter (· != p.val) ≠ [] ∨ s.sh.start.stxNew = [] →
    ∃ t, exec (.statePacket i 0 (some p) last) s = .next t ∧ (t.lane i).regs = (s.lane i).regs ∧ t.lane i.other = s.lane i.other ∧
      t.sh.regs = s.sh.regs ∧ t.sh.start.stxLeft = s.sh.start.stxLeft.filter (· != p.val) ∧
      t.sh.start.stxNew = (if s.sh.start.stxDelta then s.sh.start.stxNew.filter (· != p.val) else s.sh.start.stxNew) ∧
      t.sh.start.stxDone = (last && s.sh.start.stxDelta && t.sh.start.stxLeft.isEmpty && t.sh.start.stxNew.isEmpty)) ∧
  (∀ (i : LaneId) (s : State), (s.lane i).st ≠ .off → (s.lane i).on LINK_STAT LINK_STAT_UP = false → (s.lane i).link.idleRun = 63 →
    ∃ t, exec (.idlePacket i 0) s = .next t ∧ s.otherKept i t ∧ (s.lane i).regsBut [LINK_STAT] (t.lane i) ∧
      (t.lane i).on LINK_STAT LINK_STAT_UP = true ∧ (t.lane i).on LINK_STAT LINK_STAT_LOST = false) ∧
  (∀ (i : LaneId) (s : State), (s.lane i).st ≠ .off → (s.lane i).on LINK_STAT LINK_STAT_UP = false → (s.lane i).link.idleRun < 63 →
    ∃ t, exec (.idlePacket i 0) s = .next t ∧ s.otherKept i t ∧ (t.lane i).regs = (s.lane i).regs ∧
      (t.lane i).link.idleRun = (s.lane i).link.idleRun + 1) ∧
  (∀ (i : LaneId) (s : State), (s.lane i).st ≠ .off → (s.lane i).on LINK_STAT LINK_STAT_UP = true →
    ∃ t, exec (.febenLinkLost i) s = .next t ∧ t.lane i.other = s.lane i.other ∧ s.sh.regsBut [ MOD_STX] t.sh ∧
      (s.lane i).regsBut [LINK_STAT, EVT_PEND (evLink / 32)] (t.lane i) ∧
      (t.lane i).on LINK_STAT LINK_STAT_UP = false ∧ (t.lane i).on LINK_STAT LINK_STAT_LOST = true ∧
      (t.lane i).fld LINK_STAT LINK_STAT_LOSSES = min 65535 ((s.lane i).fld LINK_STAT LINK_STAT_LOSSES + 1) ∧
      bitOf ((t.lane i).rd (EVT_PEND (evLink / 32))) (evLink % 32) = true ∧ (t.lane i).link.idleRun = 0 ∧
      (t.lane i).link.pkt = (s.lane i).link.pkt) ∧
  (∀ (i : LaneId) (s : State), (s.lane i).st ≠ .off → (s.lane i).on LINK_STAT LINK_STAT_UP = false → 64 ≤ (s.lane i).link.idleRun →
    ∃ t, exec (.febenLinkUp i) s = .next t ∧ s.otherKept i t ∧ (s.lane i).regsBut [LINK_STAT] (t.lane i) ∧
      (t.lane i).on LINK_STAT LINK_STAT_UP = true ∧ (t.lane i).on LINK_STAT LINK_STAT_LOST = false)

/-- A packet of any type with a parity or CRC-32C error counts in PAR or CRC. Where attempts of that packet type have failed less
than twice, the sender counts a resend, the link stays up and the shared part is unchanged; on the third the link is lost
with LOST set and the other lane unchanged. (10_lanes_and_failover.md (R316); 10_lanes_and_failover.md (R317)) -/
def Obligations.CorruptPacketsAreResentTwice : Prop :=
  ∀ (i : LaneId) (err : Fin 3) (c : Instr) (ty : Nat) (s : State),
    (∃ (ep : BitVec 12) (inc : Option (Fin 8)) (dig : BitVec 64) (subs : List Word) (delay : Byte) (page : Option (Fin 8192)) (last : Bool),
      (c, ty) ∈ [(.digestPacket i err ep inc dig subs, 1), (.verdictCopyPacket i err, 2), (.writePacket i err, 3), (.wordPacket i err delay, 4),
        (.confirmPacket i err, 5), (.mirrorPacket i err, 6), (.statePacket i err page last, 7), (.idlePacket i err, 8)]) →
    err ≠ 0 → (s.lane i).st ≠ .off → (s.lane i).on LINK_STAT LINK_STAT_UP = true →
    ∃ t, exec c s = .next t ∧
      (t.lane i).fld LINK_ERR LINK_ERR_PAR = (if err = 1 then min 65535 ((s.lane i).fld LINK_ERR LINK_ERR_PAR + 1)
        else (s.lane i).fld LINK_ERR LINK_ERR_PAR) ∧
      (t.lane i).fld LINK_ERR LINK_ERR_CRC = (if err = 2 then min 65535 ((s.lane i).fld LINK_ERR LINK_ERR_CRC + 1)
        else (s.lane i).fld LINK_ERR LINK_ERR_CRC) ∧
      (if (s.lane i).link.tries.count ty < 2 then
        s.sharedKept t ∧ (t.lane i).on LINK_STAT LINK_STAT_UP = true ∧ (t.lane i).link.tries = ty :: (s.lane i).link.tries ∧
        (t.lane i.other).fld LINK_RESEND LINK_RESEND_RESENDS = min 65535 ((s.lane i.other).fld LINK_RESEND LINK_RESEND_RESENDS + 1)
      else (t.lane i).on LINK_STAT LINK_STAT_UP = false ∧ (t.lane i).on LINK_STAT LINK_STAT_LOST = true ∧ t.lane i.other = s.lane i.other)

/-- With both lanes adjudicating, the outcome follows the two verdicts, everything but PASS counting alike: the failing lane
becomes RETIRED and the passing one ACTIVE, authority unchanged or moving at the next boundary; two PASS leave authority,
make the other lane SHADOW out of step, and set UNRES unless REASON is MISSING; two failures retire both, hold the outputs,
and at the next boundary leave no authority and begin a supervisor reset with cause 4. OUTCOME shows 1, 2, 3, 5 or 4. Where
the cut of the next epoch was kept, the same decision is followed by the opening of that epoch on it. The kept cut is the
model's form of R322 and R329 (log 7). (R325) -/
def Obligations.AdjudicationOutcomes : Prop :=
  (∀ (i : LaneId) (s : State), s.snap = none → s.sh.auth = some i → s.sh.bisque = false →
    (s.lane i).st = .adjudicating → (s.lane i.other).st = .adjudicating →
    ∃ t, exec .adjudicationOutcome s = .next t ∧
      ((s.lane i).adj.verdict = 1 → (s.lane i.other).adj.verdict ≠ 1 → (t.lane i).st = .active ∧ (t.lane i.other).st = .retired ∧
        t.sh.auth = some i ∧ t.moveAuth.sh.auth = some i ∧ (t.lane i).fld SYS_ADJ SYS_ADJ_OUTCOME = 1) ∧
      ((s.lane i).adj.verdict ≠ 1 → (s.lane i.other).adj.verdict = 1 → (t.lane i).st = .retired ∧ (t.lane i.other).st = .active ∧
        t.moveAuth.sh.auth = some i.other ∧ (t.lane i.other).fld SYS_ADJ SYS_ADJ_OUTCOME = 2) ∧
      ((s.lane i).adj.verdict = 1 → (s.lane i.other).adj.verdict = 1 → (t.lane i).st = .active ∧ (t.lane i.other).st = .shadow ∧
        (t.lane i.other).instep = false ∧ t.sh.auth = some i ∧ t.moveAuth.sh.auth = some i ∧
        ((s.lane i).fld SYS_ADJ SYS_ADJ_REASON ≠ 4 → (t.lane i).fld SYS_ADJ SYS_ADJ_OUTCOME = 3 ∧
          (t.lane i).on SYS_STATE SYS_STATE_UNRES = true ∧ (t.lane i.other).on SYS_STATE SYS_STATE_UNRES = true) ∧
        ((s.lane i).fld SYS_ADJ SYS_ADJ_REASON = 4 → (t.lane i).fld SYS_ADJ SYS_ADJ_OUTCOME = 5 ∧ t.unres = s.unres)) ∧
      ((s.lane i).adj.verdict ≠ 1 → (s.lane i.other).adj.verdict ≠ 1 → (t.lane i).st = .retired ∧ (t.lane i.other).st = .retired ∧
        (t.lane i).fld SYS_ADJ SYS_ADJ_OUTCOME = 4 ∧ t.sh.hold = true ∧
        t.sh.start.resetDue = some (s.sh.start.resetDue.getD 4) ∧ t.resetAt.sh.auth = none)) ∧
  (∀ (i : LaneId) (k : Snap) (s : State), s.snap = some k → s.sh.auth = some i → (s.lane i).st = .adjudicating →
    ∃ u, exec .adjudicationOutcome { s with snap := none } = .next u ∧
      exec .adjudicationOutcome s = .next (if (s.lane i).adj.verdict ≠ 1 ∧
          ¬((s.lane i.other).st = .adjudicating ∧ (s.lane i.other).adj.verdict = 1) then u else { u with snap := some k }.openKept))

/-- A lane that adjudicates and has given no verdict shows cause bit 0 for a failed replay, bit 2 for failed reference vectors or
FAIL_ADJ, bit 3 for a fault found before, with consistent bank signatures; the verdict is TIMEOUT above 400 us, else PASS
without a cause, else FAIL. SYS_ADJ and SYS_ADJDUR show it; nothing else changes. (10_lanes_and_failover.md (R322);
10_lanes_and_failover.md (R323); 10_lanes_and_failover.md (R324)) -/
def Obligations.AdjudicationVerdictRow : Prop :=
  ∀ (i : LaneId) (replayBad refBad : Bool) (dur : BitVec 9) (s : State), (s.lane i).st = .adjudicating → (s.lane i).adj.verdict = 0 →
    let cause := (replayBad && (s.lane i).on SYS_ADJ SYS_ADJ_REPLAYED).toNat
      + 4 * (refBad || (s.lane i).on SYS_TEST SYS_TEST_FAIL_ADJ).toNat + 8 * (s.lane i).adj.pre.isSome.toNat
    let v := if 400 < dur.toNat then 3 else if cause = 0 then 1 else 2
    ∃ t, exec (.adjudicationVerdict i replayBad refBad 0#32 dur) s = .next t ∧ s.otherKept i t ∧
      (s.lane i).regsBut [SYS_ADJ, SYS_ADJDUR] (t.lane i) ∧ (t.lane i).adj.verdict = v ∧ (t.lane i).adj.cause = cause ∧
      (t.lane i).fld SYS_ADJ SYS_ADJ_VERD_OWN = v ∧ (t.lane i).fld SYS_ADJ SYS_ADJ_CAUSE = cause ∧
      (t.lane i).fld SYS_ADJDUR SYS_ADJDUR_DUR = dur.toNat

/-- In step, SWAP exchanges the states and moves authority; RETIRE retires its target, and from the lane with authority the other
takes over; REJOIN restarts a retired lane's core domain and it fires; CLR_UNRES clears UNRES; each ends DONE. SWAP out of
step ends STATE_REFUSED with the event. INJ_DIG sets its test bit alone while LANE_TEST_EN is set. (10_lanes_and_failover.md
(R314); 10_lanes_and_failover.md (R326); 10_lanes_and_failover.md (R336); 10_lanes_and_failover.md (R337);
10_lanes_and_failover.md (R338)) -/
def Obligations.SystemCommands : Prop :=
  (∀ (n : BitVec 1) (i : LaneId) (s : State), s.inStep = true → s.sh.auth = some i →
    ∃ t, exec (.swapLanes n) s = .next t ∧ t.sh.auth = some i.other ∧ (t.lane i).st = .shadow ∧ (t.lane i.other).st = .active ∧
      (t.lane i).fld SYS_CMDST SYS_CMDST_STATUS = 0 ∧ (t.lane i.other).fld SYS_CMDST SYS_CMDST_STATUS = 0) ∧
  (∀ (i : LaneId) (s : State), s.inStep = true → s.sh.auth = some i.other →
    ∃ t, exec (.retireLane (BitVec.ofNat 1 i.num)) s = .next t ∧ (t.lane i).st = .retired ∧ (t.lane i.other).st = (s.lane i.other).st ∧
      t.sh.auth = s.sh.auth ∧ (t.lane i.other).fld SYS_CMDST SYS_CMDST_STATUS = 0) ∧
  (∀ (i : LaneId) (s : State), s.inStep = true → s.sh.auth = some i →
    ∃ t, exec (.retireLane (BitVec.ofNat 1 i.num)) s = .next t ∧ (t.lane i).st = .retired ∧ (t.lane i.other).st = .active ∧
      t.sh.auth = some i.other ∧ (t.lane i.other).fld SYS_CMDST SYS_CMDST_STATUS = 0) ∧
  (∀ (i : LaneId) (s : State), (s.lane i).st = .retired → (s.lane i.other).st = .active →
    (s.lane i.other).on LINK_STAT LINK_STAT_LOST = false →
    ∃ t, exec (.rejoin (BitVec.ofNat 1 i.num)) s = .next t ∧ (t.lane i).st = .firing ∧ (t.lane i.other).st = .active ∧
      t.sh.auth = s.sh.auth ∧ t.sh.on (PWR_DST (5 + i.num)) PWR_DST_ON = true ∧ t.sh.on (PWR_DST (5 + i.num)) PWR_DST_GOOD = true ∧
      t.sh.on (PWR_DST (5 + i.num)) PWR_DST_FAULT = false) ∧
  (∀ (n : BitVec 1) (i : LaneId) (s : State), s.unres = true → (s.lane i).computes = true →
    ∃ t, exec (.clrUnres n) s = .next t ∧ s.sharedKept t ∧ (s.lane i).regsBut [SYS_CMDST, SYS_STATE] (t.lane i) ∧
      (t.lane i).fld SYS_CMDST SYS_CMDST_STATUS = 0 ∧ (t.lane i).on SYS_STATE SYS_STATE_UNRES = false) ∧
  (∀ (n : BitVec 1) (i : LaneId) (s : State), s.inStep = false → (s.lane i).computes = true →
    ∃ t, exec (.swapLanes n) s = .next t ∧ s.sharedKept t ∧ (s.lane i).regsBut [SYS_CMDST] (t.lane i) ∧
      (t.lane i).fld SYS_CMDST SYS_CMDST_STATUS = 2 ∧ (t.lane i).raised = (s.lane i).raised ||| evBit evSysRefused) ∧
  (∀ (i : LaneId) (s : State), (s.lane i).st ≠ .off → (s.lane i).st ≠ .bisque → (s.lane i).on SYS_CFG SYS_CFG_LANE_TEST_EN = true →
    ∃ t, exec (.injDig i) s = .next t ∧ s.otherKept i t ∧ (s.lane i).regsBut [SYS_TEST] (t.lane i) ∧
      (t.lane i).on SYS_TEST SYS_TEST_INJ_DIG = true)

/-- Loss of a lane's reference clears its LOCK, sets HOLD, counts, raises the clock event in that lane and marks a fault of its
own for adjudication; loss of HOUSE's reference clears REF_OK and HLOCK and sets INT. A stall of the ring crossing counts in
CLK_HSH, and while the ring serves as a ring format error; a stall in a lane's island counts in its CLK_HS register, raises
the clock event and marks the unit of the crossing. Other registers and the other lane stay. Unit 0 for a lost reference and
FMT for a ring crossing are the model's choices (log 62). (19_clock_islands.md (R591); 19_clock_islands.md (R594);
06_engineer_call_and_ring.md (R202)) -/
def Obligations.ClockFaultRows : Prop :=
  (∀ (i : LaneId) (s : State), (s.lane i).instep = true →
    ∃ t, exec (.referenceLoss (match i with
      | .A => 0
      | .B => 1)) s = .next t ∧ t.lane i.other = s.lane i.other ∧ s.sh.regsBut [CLK_ST, CLK_REFMON] t.sh ∧
      t.sh.on CLK_ST (lockFld i) = false ∧ t.sh.on CLK_ST (holdFld i) = true ∧
      t.sh.fld CLK_REFMON (lossFld i) = min 255 (s.sh.fld CLK_REFMON (lossFld i) + 1) ∧
      (s.lane i).regsBut [EVT_PEND (evClock / 32)] (t.lane i) ∧
      bitOf ((t.lane i).rd (EVT_PEND (evClock / 32))) (evClock % 32) = true ∧ (t.lane i).adj.pre = some ((s.lane i).adj.pre.getD 0)) ∧
  (∀ s : State,
    ∃ t, exec (.referenceLoss 2) s = .next t ∧ s.lanesKept t ∧ s.sh.regsBut [CLK_ST] t.sh ∧ t.sh.on CLK_ST CLK_ST_REF_OK = false ∧
      t.sh.on CLK_ST CLK_ST_HLOCK = false ∧ t.sh.on CLK_ST CLK_ST_INT = true) ∧
  (∀ (bus : Bus) (i : LaneId) (dt : Nat) (s : State), s.ringServes = false →
    ∃ t, exec (.handshakeStall 2 10 bus i dt) s = .next t ∧ s.sh.regsBut [CLK_HSH] t.sh ∧
      t.sh.fld CLK_HSH CLK_HSH_COUNT = min 65535 (s.sh.fld CLK_HSH CLK_HSH_COUNT + 1) ∧ t.sh.fld CLK_HSH CLK_HSH_LINK = 10) ∧
  (∀ (bus : Bus) (i : LaneId) (dt : Nat) (s : State), s.ringServes = true →
    ∃ t, exec (.handshakeStall 2 10 bus i dt) s = .next t ∧ s.sh.regsBut [CLK_HSH, RING_ERR] t.sh ∧
      t.sh.fld CLK_HSH CLK_HSH_COUNT = min 65535 (s.sh.fld CLK_HSH CLK_HSH_COUNT + 1) ∧ t.sh.fld CLK_HSH CLK_HSH_LINK = 10 ∧
      t.sh.fld RING_ERR RING_ERR_FMT = min (2 ^ RING_ERR_FMT.width - 1) (s.sh.fld RING_ERR RING_ERR_FMT + 1)) ∧
  (∀ (link : BitVec 4) (bus : Bus) (i : LaneId) (dt u : Nat) (s : State), s.a.instep = true → stallUnit bus.num link.toNat = some u →
    ∃ t, exec (.handshakeStall 0 link bus i dt) s = .next t ∧ t.b = s.b ∧ s.sh.regsBut [CLK_HSA] t.sh ∧
      t.sh.fld CLK_HSA CLK_HSA_COUNT = min 65535 (s.sh.fld CLK_HSA CLK_HSA_COUNT + 1) ∧ t.sh.fld CLK_HSA CLK_HSA_LINK = link.toNat ∧
      s.a.regsBut [EVT_PEND (evClock / 32)] t.a ∧ t.a.adj.pre = some (s.a.adj.pre.getD u))

/-- A double error or a repeated parity error shows bank, word, accessor and kind in MEM_FAULT, counts and raises the memory-
fault event in its lane; in a unit's bank it also marks that unit as the fault found before. The scrubber advances one word,
a corrected word counts in CORR and sets HARD when it was corrected in the pass before, the last word begins a new pass, a
double error is read again. Bank bytes of the scrubber's rows stay. (18_memory_banks.md (R571); 18_memory_banks.md (R572);
18_memory_banks.md (R573); 18_memory_banks.md (R574); 18_memory_banks.md (R576)) -/
def Obligations.MemoryFaultRows : Prop :=
  (∀ (i : LaneId) (b : Fin 32) (w : Fin 8192) (acc : BitVec 4) (s : State), (s.lane i).st ≠ .off → (s.lane i).owner b < 2 →
    ∃ t, exec (.memoryUncorrectable i b w acc) s = .next t ∧ s.otherKept i t ∧
      (s.lane i).regsBut [MEM_FAULT, MEM_BST b, EVT_PEND (evMemFault / 32)] (t.lane i) ∧
      (t.lane i).fld MEM_FAULT MEM_FAULT_BANK = b.val ∧ (t.lane i).fld MEM_FAULT MEM_FAULT_WORD = w.val ∧
      (t.lane i).fld MEM_FAULT MEM_FAULT_ACCESSOR = acc.toNat ∧ (t.lane i).fld MEM_FAULT MEM_FAULT_KIND = 1 ∧
      (t.lane i).fld MEM_FAULT MEM_FAULT_COUNT = min 255 ((s.lane i).fld MEM_FAULT MEM_FAULT_COUNT + 1) ∧
      (t.lane i).fld (MEM_BST b) MEM_BST_UNCORR = min 255 ((s.lane i).fld (MEM_BST b) MEM_BST_UNCORR + 1) ∧
      bitOf ((t.lane i).rd (EVT_PEND (evMemFault / 32))) (evMemFault % 32) = true ∧ (8192 * b + w : Nat) ∈ (t.lane i).mw.bad) ∧
  (∀ (i : LaneId) (b : Fin 32) (w : Fin 8192) (acc : BitVec 4) (s : State), (s.lane i).st ≠ .off → (s.lane i).owner b < 2 →
    ∃ t, exec (.transferParityError i b w acc) s = .next t ∧ s.otherKept i t ∧
      (s.lane i).regsBut [MEM_FAULT, EVT_PEND (evMemFault / 32)] (t.lane i) ∧ (t.lane i).mw = (s.lane i).mw ∧
      (t.lane i).fld MEM_FAULT MEM_FAULT_BANK = b.val ∧ (t.lane i).fld MEM_FAULT MEM_FAULT_WORD = w.val ∧
      (t.lane i).fld MEM_FAULT MEM_FAULT_ACCESSOR = acc.toNat ∧ (t.lane i).fld MEM_FAULT MEM_FAULT_KIND = 2) ∧
  (∀ (i : LaneId) (b : Fin 32) (w : Fin 8192) (acc : BitVec 4) (kind : Nat) (c : Instr) (s : State),
    (c, kind) ∈ [(.memoryUncorrectable i b w acc, 1), (.transferParityError i b w acc, 2)] → (s.lane i).instep = true →
    (s.lane i).st ≠ .off → 2 ≤ (s.lane i).owner b → (s.lane i).owner b ≤ 10 →
    ∃ t, exec c s = .next t ∧ s.otherKept i t ∧ (t.lane i).fld MEM_FAULT MEM_FAULT_KIND = kind ∧
      (t.lane i).adj.pre = some ((s.lane i).adj.pre.getD (ownerUnit ((s.lane i).owner b)))) ∧
  (∀ (i : LaneId) (dt : Nat) (s : State), (s.lane i).st ≠ .off → (s.lane i).fld MEM_SCRUB MEM_SCRUB_POS < 262143 →
    ∃ t, exec (.scrubRead i 0 dt) s = .next t ∧ s.otherKept i t ∧ (s.lane i).regsBut [MEM_SCRUB] (t.lane i) ∧
      (t.lane i).fld MEM_SCRUB MEM_SCRUB_POS = (s.lane i).fld MEM_SCRUB MEM_SCRUB_POS + 1 ∧ (t.lane i).mem = (s.lane i).mem) ∧
  (∀ (i : LaneId) (dt : Nat) (s : State), (s.lane i).st ≠ .off → (s.lane i).fld MEM_SCRUB MEM_SCRUB_POS < 262143 →
    let p := (s.lane i).fld MEM_SCRUB MEM_SCRUB_POS
    ∃ t, exec (.scrubRead i 1 dt) s = .next t ∧ s.otherKept i t ∧
      (t.lane i).fld MEM_SCRUB MEM_SCRUB_POS = p + 1 ∧ (t.lane i).mem = (s.lane i).mem ∧
      (t.lane i).fld (MEM_BST (p / 8192)) MEM_BST_CORR = min 65535 ((s.lane i).fld (MEM_BST (p / 8192)) MEM_BST_CORR + 1) ∧
      (t.lane i).on (MEM_BST (p / 8192)) MEM_BST_HARD = ((s.lane i).on (MEM_BST (p / 8192)) MEM_BST_HARD || (s.lane i).mw.prev.contains p)) ∧
  (∀ (i : LaneId) (dt : Nat) (s : State), (s.lane i).st ≠ .off → (s.lane i).fld MEM_SCRUB MEM_SCRUB_POS = 262143 →
    ∃ t, exec (.scrubRead i 0 dt) s = .next t ∧ s.otherKept i t ∧ (s.lane i).regsBut [MEM_SCRUB, MEM_SCRUBT] (t.lane i) ∧
      (t.lane i).fld MEM_SCRUB MEM_SCRUB_POS = 0 ∧
      (t.lane i).fld MEM_SCRUB MEM_SCRUB_PASSES = ((s.lane i).fld MEM_SCRUB MEM_SCRUB_PASSES + 1) % 16384) ∧
  (∀ (i : LaneId) (dt : Nat) (s : State), (s.lane i).st ≠ .off → (s.lane i).mw.again ≠ some ((s.lane i).fld MEM_SCRUB MEM_SCRUB_POS) →
    ∃ t, exec (.scrubRead i 3 dt) s = .next t ∧ s.otherKept i t ∧ (t.lane i).regs = (s.lane i).regs ∧
      (t.lane i).mw.again = some ((s.lane i).fld MEM_SCRUB MEM_SCRUB_POS))

/-- MEM_OWN hands a bank between host owners, and a write from or to a unit's bank is an access error with OWNWR. A write of
MEM_WSEL moves the bank of its own view alone, and nothing in bisque mode or through a view that reaches no lane. A bit-set
or bit-clear write ORs or AND-NOTs one 32-bit half of a host bank's word and every other byte reads as before; over an
uncorrectable word both halves are replaced, the fault counts in UNCORR, shows in MEM_FAULT with the host window as its
accessor and raises its event, and the word is good again; in a bank the host does not own it only records the access error.
The other half reading 0 after an uncorrectable word is the model's choice (log 51). (18_memory_banks.md (R565);
18_memory_banks.md (R566); 18_memory_banks.md (R567); 18_memory_banks.md (R568); 18_memory_banks.md (R569);
18_memory_banks.md (R573); 18_memory_banks.md (R580)) -/
def Obligations.BankRows : Prop :=
  (∀ (b : Fin 32) (o : BitVec 4) (s : State) (i : LaneId), (s.lane i).computes = true → (s.lane i).owner b < 2 → o.toNat < 2 →
    ∃ t, exec (.memOwnWrite b o) s = .next t ∧ s.sharedKept t ∧ (s.lane i).regsBut [MEM_OWN b] (t.lane i) ∧
      (t.lane i).owner b = o.toNat ∧ (t.lane i).on (MEM_OWN b) MEM_OWN_PEND = false ∧ (t.lane i).mem = (s.lane i).mem) ∧
  (∀ (b : Fin 32) (o : BitVec 4) (s : State) (i : LaneId), (s.lane i).computes = true → 2 ≤ (s.lane i).owner b ∨ 2 ≤ o.toNat →
    ∃ t, exec (.memOwnWrite b o) s = .next t ∧ s.sharedKept t ∧ (t.lane i).owner b = (s.lane i).owner b ∧
      (s.lane i).regsBut [MEM_OWN b, MEM_ACCERR, EVT_PEND (evBankAccess / 32)] (t.lane i) ∧
      (t.lane i).fld MEM_ACCERR MEM_ACCERR_BANK = b.val ∧ (t.lane i).on MEM_ACCERR MEM_ACCERR_OWNWR = true ∧
      bitOf ((t.lane i).rd (EVT_PEND (evBankAccess / 32))) (evBankAccess % 32) = true) ∧
  (∀ (view : Option LaneId) (b : Fin 32) (s : State),
    s.sh.bisque = true ∨ s.viewLane ((view.map View.lane).getD .active) = none → exec (.memWselWrite view b) s = .next s) ∧
  (∀ (i : LaneId) (b : Fin 32) (s : State), s.sh.bisque = false → (s.lane i).st ≠ .off →
    ∃ t, exec (.memWselWrite (some i) b) s = .next t ∧ s.otherKept i t ∧ (t.lane i).regs = (s.lane i).regs ∧
      t.viewBank (.lane i) = b.val ∧ t.viewBank .active = s.viewBank .active) ∧
  (∀ (i : LaneId) (b : Fin 32) (s : State), s.sh.bisque = false → s.viewLane .active = some i →
    ∃ t, exec (.memWselWrite none b) s = .next t ∧ s.lanesKept t ∧ t.sh.regs = s.sh.regs ∧ t.viewBank .active = b.val) ∧
  (∀ (o : BitVec 14) (v : Word) (s : State) (i : LaneId), (s.lane i).computes = true → (s.lane i).owner s.sh.sel = 1 →
    Memory.wf (s.lane i).mem = true → (s.lane i).mw.bad.contains (8192 * s.sh.sel + o.toNat / 2) = false →
    let a := s.sh.sel * 65536 + 4 * o.toNat
    ∃ t, exec (.bitSetWrite o v) s = .next t ∧ s.sharedKept t ∧ (t.lane i).regs = (s.lane i).regs ∧
      memWord (t.lane i).mem a = memWord (s.lane i).mem a ||| v ∧
      ∀ x, x < a ∨ a + 4 ≤ x → memByte (t.lane i).mem x = memByte (s.lane i).mem x) ∧
  (∀ (o : BitVec 14) (v : Word) (s : State) (i : LaneId), (s.lane i).computes = true → (s.lane i).owner s.sh.sel = 1 →
    Memory.wf (s.lane i).mem = true → (s.lane i).mw.bad.contains (8192 * s.sh.sel + o.toNat / 2) = false →
    let a := s.sh.sel * 65536 + 4 * o.toNat
    ∃ t, exec (.bitClearWrite o v) s = .next t ∧ s.sharedKept t ∧ (t.lane i).regs = (s.lane i).regs ∧
      memWord (t.lane i).mem a = memWord (s.lane i).mem a &&& ~~~ v ∧
      ∀ x, x < a ∨ a + 4 ≤ x → memByte (t.lane i).mem x = memByte (s.lane i).mem x) ∧
  (∀ (o : BitVec 14) (v x : Word) (c : Instr) (s : State) (i : LaneId), (c, x) ∈ [(.bitSetWrite o v, v), (.bitClearWrite o v, 0#32)] →
    (s.lane i).computes = true → (s.lane i).owner s.sh.sel = 1 → Memory.wf (s.lane i).mem = true →
    (s.lane i).mw.bad.contains (8192 * s.sh.sel + o.toNat / 2) = true →
    let a := s.sh.sel * 65536 + 4 * o.toNat
    let a' := s.sh.sel * 65536 + 8 * (o.toNat / 2) + 4 * (1 - o.toNat % 2)
    ∃ t, exec c s = .next t ∧ s.sharedKept t ∧
      (s.lane i).regsBut [MEM_FAULT, MEM_BST s.sh.sel, EVT_PEND (evMemFault / 32)] (t.lane i) ∧
      (t.lane i).fld MEM_FAULT MEM_FAULT_ACCESSOR = 14 ∧ (t.lane i).fld MEM_FAULT MEM_FAULT_KIND = 1 ∧
      (t.lane i).fld (MEM_BST s.sh.sel) MEM_BST_UNCORR = min 255 ((s.lane i).fld (MEM_BST s.sh.sel) MEM_BST_UNCORR + 1) ∧
      bitOf ((t.lane i).rd (EVT_PEND (evMemFault / 32))) (evMemFault % 32) = true ∧
      memWord (t.lane i).mem a = x ∧ memWord (t.lane i).mem a' = 0#32 ∧
      (t.lane i).mw.bad.contains (8192 * s.sh.sel + o.toNat / 2) = false) ∧
  (∀ (o : BitVec 14) (v : Word) (c : Instr) (s : State) (i : LaneId), c = .bitSetWrite o v ∨ c = .bitClearWrite o v →
    (s.lane i).computes = true → (s.lane i).owner s.sh.sel ≠ 1 →
    ∃ t, exec c s = .next t ∧ s.sharedKept t ∧ (t.lane i).mem = (s.lane i).mem ∧
      (s.lane i).regsBut [MEM_ACCERR, EVT_PEND (evBankAccess / 32)] (t.lane i) ∧ (t.lane i).on MEM_ACCERR MEM_ACCERR_OWNWR = false)

/-- COMMIT_START writes the record in the slot at the index, which the commit keeps, with the STAMP given in complement until the
read-back; a good readback makes the slot of the commit valid, advances the index past it and counts; a first mismatch
retries, a second voids the slot and begins at the next. REC_RDIDX written or the last window word read starts a load, a
write in bisque mode or to a lane that is OFF does nothing; READ_WINDOW_LOADED shows the eight words and VALID. Other slots,
the other lane and other registers stay. (11_event_recorder.md (R359); 11_event_recorder.md (R360); 11_event_recorder.md
(R361); 11_event_recorder.md (R367)) -/
def Obligations.CommitAndReadRows : Prop :=
  (∀ (i : LaneId) (stamp : Bool) (r : Rec) (rest : List Rec) (s : State), (s.lane i).rcd.com = none → (s.lane i).on REC_STAT REC_STAT_FROZEN = false →
    (s.lane i).on REC_STAT REC_STAT_STORE_FAIL = false → (s.lane i).rcd.staging = r :: rest →
    let h := (s.lane i).fld REC_HEAD REC_HEAD_INDEX
    ∃ t, exec (.commitStart i stamp) s = .next t ∧ s.otherKept i t ∧ (s.lane i).regsBut [REC_TAIL] (t.lane i) ∧
      (t.lane i).rcd.com = some ⟨r.words, h, false⟩ ∧
      (t.lane i).rcd.staging = rest ++ (s.lane i).rcd.spill.take (4096 - rest.length) ∧
      (t.lane i).slot h = (if stamp then r.words else r.words.take 7 ++ [r.words.getD 7 0#32 ^^^ 0xFFFF0000#32]) ∧
      ∀ k, k % slotCount ≠ h → (t.lane i).slot k = (s.lane i).slot k) ∧
  (∀ (i : LaneId) (stamp : Bool) (c : Commit) (s : State), (s.lane i).rcd.com = some c →
    let h := (s.lane i).fld REC_HEAD REC_HEAD_INDEX
    ∃ t, exec (.commitReadback i true stamp) s = .next t ∧ s.otherKept i t ∧
      (s.lane i).regsBut [REC_HEAD, REC_TAIL, REC_COMMITS] (t.lane i) ∧ (t.lane i).rcd.com = none ∧
      (t.lane i).slot c.slot = c.words ∧ (t.lane i).fld REC_HEAD REC_HEAD_INDEX = (if h = c.slot then nextSlot h else h) ∧
      (t.lane i).rd REC_COMMITS = (s.lane i).rd REC_COMMITS + 1#32 ∧ (t.lane i).rcd.done = (s.lane i).rcd.done + 1 ∧
      ∀ k, k % slotCount ≠ c.slot % slotCount → (t.lane i).slot k = (s.lane i).slot k) ∧
  (∀ (i : LaneId) (stamp : Bool) (c : Commit) (s : State), (s.lane i).rcd.com = some c → c.again = false →
    ∃ t, exec (.commitReadback i false stamp) s = .next t ∧ s.otherKept i t ∧ (s.lane i).regsBut [REC_ERR, REC_TAIL] (t.lane i) ∧
      (t.lane i).rcd.com = some { c with again := true } ∧
      (t.lane i).fld REC_ERR REC_ERR_VERIFY_FAIL = min 65535 ((s.lane i).fld REC_ERR REC_ERR_VERIFY_FAIL + 1)) ∧
  (∀ (i : LaneId) (stamp : Bool) (c : Commit) (s : State), (s.lane i).rcd.com = some c → c.again = true → (s.lane i).rcd.voidRun < 3 →
    (s.lane i).fld REC_ERR REC_ERR_VOIDS < 255 →
    let h := (s.lane i).fld REC_HEAD REC_HEAD_INDEX
    let h' := if h = c.slot then nextSlot h else h
    ∃ t, exec (.commitReadback i false stamp) s = .next t ∧ s.otherKept i t ∧ (s.lane i).regsBut [REC_ERR, REC_HEAD, REC_TAIL] (t.lane i) ∧
      (t.lane i).rcd.com = some ⟨c.words, h', false⟩ ∧ (t.lane i).fld REC_HEAD REC_HEAD_INDEX = h' ∧
      (c.slot % slotCount ≠ h' → (t.lane i).slot c.slot = voidWords) ∧
      (t.lane i).fld REC_ERR REC_ERR_VOIDS = (s.lane i).fld REC_ERR REC_ERR_VOIDS + 1) ∧
  (∀ (i : LaneId) (v : Word) (s : State), s.sh.bisque = true ∨ (s.lane i).st = .off → exec (.recRdidxWrite i v) s = .next s) ∧
  (∀ (i : LaneId) (v : Word) (s : State), s.sh.bisque = false → (s.lane i).st ≠ .off →
    ∃ t, exec (.recRdidxWrite i v) s = .next t ∧ s.otherKept i t ∧ (s.lane i).regsBut [REC_RDIDX] (t.lane i) ∧
      (t.lane i).fld REC_RDIDX REC_RDIDX_INDEX = REC_RDIDX_INDEX.get v ∧ (t.lane i).on REC_RDIDX REC_RDIDX_READY = false ∧
      (t.lane i).rcd.loading = true) ∧
  (∀ (i : LaneId) (s : State), (s.lane i).on REC_RDIDX REC_RDIDX_READY = true →
    ∃ t, exec (.recRdw7Read i) s = .next t ∧ s.otherKept i t ∧ (s.lane i).regsBut [REC_RDIDX] (t.lane i) ∧
      (t.lane i).fld REC_RDIDX REC_RDIDX_INDEX = nextSlot ((s.lane i).fld REC_RDIDX REC_RDIDX_INDEX) ∧
      (t.lane i).on REC_RDIDX REC_RDIDX_READY = false ∧ (t.lane i).rcd.loading = true) ∧
  (∀ (i : LaneId) (s : State), (s.lane i).rcd.loading = true →
    let ws := (s.lane i).slot ((s.lane i).fld REC_RDIDX REC_RDIDX_INDEX)
    ∃ t, exec (.readWindowLoaded i) s = .next t ∧ s.otherKept i t ∧ (t.lane i).on REC_RDIDX REC_RDIDX_READY = true ∧
      (s.lane i).regsBut (REC_RDIDX :: (upTo 8).map REC_RDW) (t.lane i) ∧
      (t.lane i).on REC_RDIDX REC_RDIDX_VALID = slotValid ws ∧ (t.lane i).rcd.loading = false ∧
      ∀ w, w < 8 → (t.lane i).rd (REC_RDW w) = ws.getD w 0#32)

/-- A shard window ends once, turns its dropped counts into records and never raises SHED; mirroring ends with its record when
nothing is missed; FREEZE, UNFREEZE, CLR_LOSS and the freeze time limit set and clear their flags with their records and
STATUS; the flush that is due sets FLUSH, ends a freeze and forms its record with its cause, the F left after the drain of
the epoch, and the stored energy; FREEZE, UNFREEZE and CLR_LOSS out of place end STATE_REFUSED with the event. Only the named
registers change. (11_event_recorder.md (R355); 11_event_recorder.md (R357); 11_event_recorder.md (R363);
11_event_recorder.md (R364); 11_event_recorder.md (R365); 11_event_recorder.md (R366); 11_event_recorder.md (R368)) -/
def Obligations.RecorderControlRows : Prop :=
  (∀ (s : State) (i : LaneId), (s.lane i).working = true → s.sh.gt % 100000000 = 0 → (s.lane i).rcd.winAt ≠ s.sh.gt →
    ∃ t, exec .shardWindowEnd s = .next t ∧ s.sharedKept t ∧ (s.lane i).regsBut [REC_STAT] (t.lane i) ∧
      (t.lane i).rcd.winAt = s.sh.gt ∧ (t.lane i).rcd.drops = [] ∧
      (t.lane i).formed.length = (s.lane i).formed.length + (s.lane i).rcd.drops.length ∧
      (t.lane i).fld REC_STAT REC_STAT_SHED ≤ (s.lane i).fld REC_STAT REC_STAT_SHED) ∧
  (∀ (s : State) (i : LaneId), (s.lane i).computes = true → s.lead.on REC_STAT REC_STAT_MIRRORING = true → s.lead.rcd.missed = [] →
    ∃ t, exec .mirroringComplete s = .next t ∧ s.sharedKept t ∧ (s.lane i).regsBut [REC_STAT] (t.lane i) ∧
      (t.lane i).on REC_STAT REC_STAT_MIRRORING = false ∧
      ∃ f : Formed, (t.lane i).formed = (s.lane i).formed ++ [f] ∧ f.r.code = 0x0005) ∧
  (∀ (s : State) (i : LaneId), (s.lane i).computes = true → (s.lane i).on REC_STAT REC_STAT_FROZEN = false →
    (s.lane i).on REC_STAT REC_STAT_FLUSH = false → (s.lane i).fld REC_STAT REC_STAT_F < 3072 →
    ∃ t, exec .freeze s = .next t ∧ s.sharedKept t ∧ (s.lane i).regsBut [REC_STAT, REC_FRZIDX, REC_CMDST] (t.lane i) ∧
      (t.lane i).on REC_STAT REC_STAT_FROZEN = true ∧ (t.lane i).fld REC_CMDST REC_CMDST_STATUS = 0 ∧
      (t.lane i).fld REC_CMDST REC_CMDST_LAST_OP = 1 ∧
      (t.lane i).fld REC_FRZIDX REC_FRZIDX_INDEX = (s.lane i).fld REC_HEAD REC_HEAD_INDEX ∧ (t.lane i).rcd.frzAt = s.sh.gt ∧
      ∃ f : Formed, (t.lane i).formed = (s.lane i).formed ++ [f] ∧ f.r.code = 0x0002) ∧
  (∀ (s : State) (i : LaneId), (s.lane i).computes = true → (s.lane i).on REC_STAT REC_STAT_FROZEN = true →
    ∃ t, exec .unfreeze s = .next t ∧ s.sharedKept t ∧ (s.lane i).regsBut [REC_STAT, REC_CMDST] (t.lane i) ∧
      (t.lane i).on REC_STAT REC_STAT_FROZEN = false ∧ (t.lane i).fld REC_CMDST REC_CMDST_STATUS = 0 ∧
      ∃ f : Formed, (t.lane i).formed = (s.lane i).formed ++ [f] ∧ f.r.code = 0x0003 ∧ f.r.p1 = 0#32) ∧
  (∀ (s : State) (i : LaneId), (s.lane i).computes = true → (s.lane i).on REC_STAT REC_STAT_LOSS = true →
    ∃ t, exec .clrLoss s = .next t ∧ s.sharedKept t ∧ (s.lane i).regsBut [REC_STAT, REC_CMDST] (t.lane i) ∧
      (t.lane i).on REC_STAT REC_STAT_LOSS = false ∧ (t.lane i).fld REC_CMDST REC_CMDST_STATUS = 0) ∧
  (∀ (s : State) (i : LaneId), (s.lane i).working = true → (s.lane i).on REC_STAT REC_STAT_FROZEN = true →
    (s.lane i).rcd.frzAt + (s.lane i).fld REC_CFG REC_CFG_FRZT * 100000000 ≤ s.sh.gt →
    ∃ t, exec .freezeTimeLimit s = .next t ∧ s.sharedKept t ∧ (s.lane i).regsBut [REC_STAT] (t.lane i) ∧
      (t.lane i).on REC_STAT REC_STAT_FROZEN = false ∧
      ∃ f : Formed, (t.lane i).formed = (s.lane i).formed ++ [f] ∧ f.r.code = 0x0003 ∧ f.r.p1 = 1#32) ∧
  (∀ (cause energy : Nat) (s : State) (i : LaneId), (s.lane i).working = true → (s.lane i).rcd.flushDue = some (cause, energy) →
    (s.lane i).on REC_STAT REC_STAT_FLUSH = false →
    ∃ t, exec .powerLossFlush s = .next t ∧ s.sharedKept t ∧ (s.lane i).regsBut [REC_STAT] (t.lane i) ∧
      (t.lane i).on REC_STAT REC_STAT_FLUSH = true ∧ (t.lane i).on REC_STAT REC_STAT_FROZEN = false ∧
      ∃ f : Formed, f ∈ (t.lane i).formed ∧ f.r.code = 0x0006 ∧ f.r.p0 = w32 cause ∧
        f.r.p1 = w32 ((s.lane i).fld REC_STAT REC_STAT_F - 200) ∧ f.r.p2 = w32 energy) ∧
  (∀ (c : Instr) (s : State) (i : LaneId), (s.lane i).computes = true →
    (c = .freeze ∧ ((s.lane i).on REC_STAT REC_STAT_FROZEN = true ∨ (s.lane i).on REC_STAT REC_STAT_FLUSH = true ∨
      3072 ≤ (s.lane i).fld REC_STAT REC_STAT_F)) ∨
    (c = .unfreeze ∧ (s.lane i).on REC_STAT REC_STAT_FROZEN = false) ∨ (c = .clrLoss ∧ (s.lane i).on REC_STAT REC_STAT_LOSS = false) →
    ∃ t, exec c s = .next t ∧ s.sharedKept t ∧ (s.lane i).regsBut [REC_CMDST] (t.lane i) ∧
      (t.lane i).fld REC_CMDST REC_CMDST_STATUS = 2 ∧ (t.lane i).raised = (s.lane i).raised ||| evBit evRecRefused)

/-- A frame reported by a controller that is no CNP request, a reference message and a value frame end up last in the bus's cut
of each lane that takes cuts, with start and end of frame in steps of 10 ns and TEC and REC counted with them, unless the
frame ended before the cut opened; an own frame ends the transmission; CAN_LOCAL shows the lane's own receive counter,
counted by its own controller; no other register changes. Rounding up to a step (log 77) and the counting of errors as in ISO
11898-1 (log 103) are the model's. (12_can_controllers.md (R374); 13_time_triggered_schedule.md (R410);
13_time_triggered_schedule.md (R414); 13_time_triggered_schedule.md (R426); 13_time_triggered_schedule.md (R429);
01_node_architecture.md (R32)) -/
def Obligations.FrameReportsEnterTheCut : Prop :=
  (∀ (bus : Bus) (f : FrameRep) (s : State) (i : LaneId), (s.lane i).takes = true →
    f.tx.isSome = true ∨ f.ok = false ∨ f.frame.ide = false ∨ f.frame.rtr = true ∨ (cnpClass f.frame.id ≠ 3 ∧ cnpClass f.frame.id ≠ 6) →
    ∃ t, exec (.frameReport bus f) s = .next t ∧ t.sh.regs = s.sh.regs ∧ t.pending = s.pending ∧
      (s.lane i).regsBut [CAN_LOCAL bus.num] (t.lane i) ∧
      (t.lane i).fld (CAN_LOCAL bus.num) CAN_LOCAL_OWN_REC =
        (s.lane i).ownRec (s.sh.counts s.lead bus.num) s.sh.auth bus.num (t.sh.can bus.num).rxc f % 256 ∧
      ((t.lane i).can bus.num).cut = ((s.lane i).can bus.num).cut ++ (if s.sh.gt < canStep (s.sh.gt + f.t) then [⟨f, canStep (s.sh.gt + f.t - f.len), canStep (s.sh.gt + f.t),
        (t.sh.can bus.num).tec, (t.sh.can bus.num).rxc⟩] else []) ∧
      (t.sh.can bus.num).tec = (if s.sh.counts s.lead bus.num then tecAfter f (s.sh.can bus.num).tec (s.sh.can bus.num).rxc
        else (s.sh.can bus.num).tec) ∧
      (t.sh.can bus.num).sending = (if f.tx.isSome then none else (s.sh.can bus.num).sending)) ∧
  (∀ (bus : Bus) (p : BitVec 3) (node : BitVec 7) (ep : BitVec 48) (b6 : Byte) (u len : Nat) (s : State) (i : LaneId),
    (s.lane i).takes = true →
    let f := goodRx (cnpFrame (cnpId p.toNat 0 node.toNat 0) (leBytes 6 ep.toNat ++ [b6, 0#8])) u len
    ∃ t, exec (.referenceMessage bus p node ep b6 u len) s = .next t ∧ t.sh.regs = s.sh.regs ∧ t.pending = s.pending ∧
      (s.lane i).regsBut [CAN_LOCAL bus.num] (t.lane i) ∧
      ((t.lane i).can bus.num).cut = ((s.lane i).can bus.num).cut ++ (if s.sh.gt < canStep (s.sh.gt + u) then [⟨f, canStep (s.sh.gt + u - len), canStep (s.sh.gt + u),
          (t.sh.can bus.num).tec, (t.sh.can bus.num).rxc⟩] else [])) ∧
  (∀ (bus : Bus) (p : BitVec 3) (node : BitVec 7) (obj : BitVec 13) (data : List Byte) (u len : Nat) (s : State) (i : LaneId),
    (s.lane i).takes = true →
    let f := goodRx (cnpFrame (cnpId p.toNat 1 node.toNat obj.toNat) (data.take 64)) u len
    ∃ t, exec (.valueFrame bus p node obj data u len) s = .next t ∧ t.sh.regs = s.sh.regs ∧ t.pending = s.pending ∧
      (s.lane i).regsBut [CAN_LOCAL bus.num] (t.lane i) ∧
      ((t.lane i).can bus.num).cut = ((s.lane i).can bus.num).cut ++ (if s.sh.gt < canStep (s.sh.gt + u) then [⟨f, canStep (s.sh.gt + u - len), canStep (s.sh.gt + u),
          (t.sh.can bus.num).tec, (t.sh.can bus.num).rxc⟩] else []))

/-- A register request to the node is served at its end of frame and one response with status, address and words joins the bus's
queue of each lane; a malformed one, as one of less than 8 data bytes is, is answered 3 with no effect. With 4 responses
waiting it is dropped and counted in REQDROP. An image-transfer frame is checked, its page words and offset are written as
CNP writes where the status is 0, and one response with the status joins the queue. The object index of a response is a free
value (log 43). (13_time_triggered_schedule.md (R430); 13_time_triggered_schedule.md (R431); 13_time_triggered_schedule.md
(R432); 13_time_triggered_schedule.md (R433); 13_time_triggered_schedule.md (R434); 15_firing_image.md (R495)) -/
def Obligations.CnpRequestsAreAnswered : Prop :=
  (∀ (bus : Bus) (p : BitVec 3) (node : BitVec 7) (data : List Byte) (u len : Nat) (s : State) (i : LaneId),
    let f := cnpFrame (cnpId p.toNat 3 node.toNat 0) (data.take 64)
    let d := frameBytes f
    let s1 := s.canIn bus.num (goodRx f u len)
    let r := s1.serve (regReq d) (canStep (s.sh.gt + u))
    s1.asked d = true → s1.responses bus.num < 4 → (r.2.2.lane i).sends = true →
    ∃ t, exec (.registerRequest bus p node data u len) s = .next t ∧ t.pending = s.pending ∧ (t.lane i).regs = (r.2.2.lane i).regs ∧
      ((t.lane i).can bus.num).own = ((r.2.2.lane i).can bus.num).own ++
        [{ kind := 1, id := cnpId p.toNat 4 r.2.2.nodeAddr (Config.respObject 4 (d.getD 1 0#8).toNat).toNat,
           data := [BitVec.ofNat 8 node.toNat, d.getD 1 0#8, BitVec.ofNat 8 r.1, BitVec.ofNat 8 (regReq d).w,
             d.getD 4 0#8, d.getD 5 0#8, d.getD 6 0#8, d.getD 7 0#8] ++ wordsBytes r.2.1 }] ∧
      ((regReq d).bad = true → r.1 = 3 ∧ r.2.1 = [] ∧ r.2.2 = s1) ∧ (d.length < 8 → (regReq d).bad = true)) ∧
  (∀ (bus : Bus) (p : BitVec 3) (node : BitVec 7) (data : List Byte) (u len : Nat) (s : State) (i : LaneId),
    let f := cnpFrame (cnpId p.toNat 3 node.toNat 0) (data.take 64)
    let s1 := s.canIn bus.num (goodRx f u len)
    s1.asked (frameBytes f) = true → 4 ≤ s1.responses bus.num → (s.lane i).takes = true →
    ∃ t, exec (.registerRequest bus p node data u len) s = .next t ∧ t.sh.regs = s.sh.regs ∧
      (s.lane i).regsBut [CAN_LOCAL bus.num, CNP_STAT] (t.lane i) ∧
      ((t.lane i).can bus.num).own = ((s.lane i).can bus.num).own ∧
      (t.lane i).fld CNP_STAT CNP_STAT_REQDROP = min 255 ((s.lane i).fld CNP_STAT CNP_STAT_REQDROP + 1)) ∧
  (∀ (bus : Bus) (p : BitVec 3) (node : BitVec 7) (target tag : Byte) (off : BitVec 24) (data : List Byte) (u len : Nat) (s : State)
    (i : LaneId),
    let d := [target, tag] ++ leBytes 3 off.toNat ++ [0#8, 0#8, 0#8] ++ (data ++ List.replicate 32 0#8).take 32 ++ List.replicate 8 0#8
    let now := canStep (s.sh.gt + u)
    let s1 := s.canIn bus.num (goodRx (cnpFrame (cnpId p.toNat 6 node.toNat 0) d) u len)
    let st := s1.partStatus off.toNat now
    let s2 := if st = 0 then (partWrites off.toNat d).foldl (fun s x => s.aliasWrite now x.1 x.2 true) s1 else s1
    s1.asked d = true → s1.responses bus.num < 4 → (s2.lane i).sends = true →
    ∃ t, exec (.imageTransferFrame bus p node target tag off data u len) s = .next t ∧ t.pending = s.pending ∧
      (t.lane i).regs = (s2.lane i).regs ∧ (t.lane i).writes = (s2.lane i).writes ∧
      ((t.lane i).can bus.num).own = ((s2.lane i).can bus.num).own ++
        [{ kind := 1, id := cnpId p.toNat 6 s2.nodeAddr (Config.respObject 6 tag.toNat).toNat,
           data := [BitVec.ofNat 8 node.toNat, tag] ++ leBytes 3 off.toNat ++ [BitVec.ofNat 8 st, 0#8, 0#8] }])

/-- ALONE is set with its record after 16 unacknowledged frames and cleared after an acknowledged one; ESTATE follows TEC above
255 and TEC or REC above 127; recovery clears the counters of a controller that is bus-off and does nothing otherwise;
detection steps of 25 ms, the entry of the lane with authority into normal mode and the 1 s lone-error window act on their
bus alone. An accessor's read locks a receive buffer and ends a lock that it held in the other view; its release clears NEW
and OVR and lets a kept frame in; a lock times out after 1 ms and counts in LOCKTO. Only the named registers of that bus and
lane change. (12_can_controllers.md (R381); 12_can_controllers.md (R386); 12_can_controllers.md (R393); 12_can_controllers.md
(R394); 12_can_controllers.md (R395); 12_can_controllers.md (R398); 12_can_controllers.md (R399); 12_can_controllers.md
(R400)) -/
def Obligations.CanStateRows : Prop :=
  (∀ (bus : Bus) (s : State) (i : LaneId), (s.lane i).computes = true →
    16 ≤ (s.lane i).fld (CAN_ERRC bus.num) CAN_ERRC_ACKRUN → (s.lane i).on (CAN_STAT bus.num) CAN_STAT_ALONE = false →
    ∃ t, exec (.aloneChange bus) s = .next t ∧ s.sharedKept t ∧ (s.lane i).regsBut [CAN_STAT bus.num] (t.lane i) ∧
      (t.lane i).on (CAN_STAT bus.num) CAN_STAT_ALONE = true ∧ (t.lane i).raised = (s.lane i).raised ||| evBit (evCanState bus.num) ∧
      ∃ f : Formed, (t.lane i).formed = (s.lane i).formed ++ [f] ∧ f.r.code = 0x0903 ∧ f.r.p0 = w32 (bus.num + 1) ∧ f.r.p1 = 1#32) ∧
  (∀ (bus : Bus) (s : State) (i : LaneId), (s.lane i).computes = true →
    (s.lane i).fld (CAN_ERRC bus.num) CAN_ERRC_ACKRUN = 0 → (s.lane i).on (CAN_STAT bus.num) CAN_STAT_ALONE = true →
    ∃ t, exec (.aloneChange bus) s = .next t ∧ s.sharedKept t ∧ (s.lane i).regsBut [CAN_STAT bus.num] (t.lane i) ∧
      (t.lane i).on (CAN_STAT bus.num) CAN_STAT_ALONE = false) ∧
  (∀ (l : Lane) (b time tec recv : Nat), b < 2 →
    (l.canState b time tec recv).fld (CAN_STAT b) CAN_STAT_ESTATE =
      (if 255 < tec then 2 else if 127 < tec ∨ 127 < recv then 1 else 0)) ∧
  (∀ (bus : Bus) (s : State), 255 < (s.sh.can bus.num).tec →
    ∃ t, exec (.busOffRecovery bus) s = .next t ∧ s.lanesKept t ∧ t.sh.regs = s.sh.regs ∧
      t.sh.can bus.num = { s.sh.can bus.num with recov := true, tec := 0, rxc := 0 }) ∧
  (∀ (bus : Bus) (s : State), (s.sh.can bus.num).tec ≤ 255 → exec (.busOffRecovery bus) s = .next s) ∧
  (∀ (bus : Bus) (u : Nat) (s : State), (s.sh.can bus.num).det.step = 1 → (s.sh.can bus.num).det.since + 25000000 ≤ s.sh.gt + u →
    ∃ t, exec (.rateDetectStep bus u) s = .next t ∧ s.lanesKept t ∧ t.sh.regs = s.sh.regs ∧
      (t.sh.can bus.num).det.since = s.sh.gt + u ∧ (t.sh.can bus.num).det.step = 1 ∧
      (t.sh.can bus.num).det.rate =
        nextRate (ratesOf (s.lead.fld (CAN_CFG2 bus.num) CAN_CFG2_NMASK) 4) (s.sh.can bus.num).det.rate) ∧
  (∀ (bus : Bus) (s : State) (i : LaneId), (s.lane i).takes = true → s.sh.auth = some i → (s.lane i).id = i →
    (s.lane i).fld (CAN_LOCAL bus.num) CAN_LOCAL_OWNMODE = 1 →
    ∃ t, exec (.canNormalEntry bus) s = .next t ∧ s.sharedKept t ∧ (s.lane i).regsBut [CAN_LOCAL bus.num] (t.lane i) ∧
      ((t.lane i).can bus.num).normalDue = false ∧
      (t.lane i).fld (CAN_LOCAL bus.num) CAN_LOCAL_OWNMODE = (if (s.lane i).on (CAN_STAT bus.num) CAN_STAT_RESTR then 3 else 2)) ∧
  (∀ (bus : Bus) (s : State) (i : LaneId), (s.lane i).computes = true → s.sh.gt % 1000000000 = 0 →
    ((s.lane i).can bus.num).winAt ≠ s.sh.gt →
    let q := if ((s.lane i).can bus.num).winLone then 0 else ((s.lane i).can bus.num).quiet + 1
    let ends := (s.lane i).instep && decide (10 ≤ q) && (s.lane i).on (CAN_STAT bus.num) CAN_STAT_RESTR
    ∃ t, exec (.loneErrorWindow bus) s = .next t ∧ s.sharedKept t ∧ (s.lane i).regsBut [CAN_STAT bus.num] (t.lane i) ∧
      (t.lane i).fld (CAN_STAT bus.num) CAN_STAT_LONES = 0 ∧ ((t.lane i).can bus.num).winLone = false ∧
      ((t.lane i).can bus.num).winAt = s.sh.gt ∧ ((t.lane i).can bus.num).quiet = (if ends then 0 else q) ∧
      (t.lane i).on (CAN_STAT bus.num) CAN_STAT_RESTR = ((s.lane i).on (CAN_STAT bus.num) CAN_STAT_RESTR && !ends)) ∧
  (∀ (i : LaneId) (acc : Accessor) (bus : Bus) (m : Fin 128) (u : Nat) (s : State), (s.lane i).rxBuffer bus.num m = true →
    (s.lane i).lockOf acc = none →
    ∃ t, exec (.rxBufferLock i acc bus m u) s = .next t ∧ s.sharedKept t ∧ t.lane i.other = (s.lane i.other).unlock acc ∧
      ((s.lane i.other).lockOf acc = none → t.lane i.other = s.lane i.other) ∧
      (s.lane i).regsBut [CAN_BST bus.num m, CAN_NEW bus.num (m / 32), CAN_TXF bus.num (m / 32)] (t.lane i) ∧
      (t.lane i).on (CAN_BST bus.num m) CAN_BST_LOCK = true ∧ (t.lane i).lockOf acc = some (bus.num, m.val, s.sh.gt + u) ∧
      (t.lane i).on (CAN_BST bus.num m) CAN_BST_NEW = (s.lane i).on (CAN_BST bus.num m) CAN_BST_NEW) ∧
  (∀ (i : LaneId) (acc : Accessor) (bus : Bus) (m : Fin 128) (s : State), (s.lane i).heldBy bus.num m acc = true →
    (∀ a, a ≠ acc → (s.lane i).heldBy bus.num m a = false) → (∀ p ∈ ((s.lane i).can bus.num).pend, p.1 ≠ m.val) →
    ∃ t, exec (.rxBufferRelease i acc bus m) s = .next t ∧ s.sharedKept t ∧
      t.lane i.other = (s.lane i.other).rxRelease acc bus.num m ∧
      ((s.lane i.other).heldBy bus.num m acc = false → t.lane i.other = s.lane i.other) ∧
      (s.lane i).regsBut [CAN_BST bus.num m, CAN_NEW bus.num (m / 32), CAN_TXF bus.num (m / 32)] (t.lane i) ∧
      (t.lane i).on (CAN_BST bus.num m) CAN_BST_NEW = false ∧ (t.lane i).on (CAN_BST bus.num m) CAN_BST_OVR = false ∧
      (t.lane i).on (CAN_BST bus.num m) CAN_BST_LOCK = false ∧ (t.lane i).lockOf acc = none ∧
      bitOf ((t.lane i).rd (CAN_NEW bus.num (m / 32))) (m % 32) = false) ∧
  (∀ (i : LaneId) (acc : Accessor) (bus : Bus) (m : Fin 128) (x : CanIn) (s : State), (s.lane i).heldBy bus.num m acc = true →
    (∀ a, a ≠ acc → (s.lane i).heldBy bus.num m a = false) → ((s.lane i).can bus.num).pend = [(m.val, x)] →
    ∃ t, exec (.rxBufferRelease i acc bus m) s = .next t ∧ s.sharedKept t ∧
      (t.lane i).on (CAN_BST bus.num m) CAN_BST_NEW = true ∧ (t.lane i).on (CAN_BST bus.num m) CAN_BST_PEND = false ∧
      (t.lane i).on (CAN_BST bus.num m) CAN_BST_LOCK = false ∧ ((t.lane i).can bus.num).pend = [] ∧
      (t.lane i).rd (CAN_TSLO bus.num m) = w32 x.sof ∧
      ∀ w, w < 18 → (t.lane i).rd (CAN_BW bus.num m w) = (frameWords x.rep.frame).getD w 0#32) ∧
  (∀ (i : LaneId) (acc : Accessor) (bus : Bus) (m : Fin 128) (from_ u : Nat) (s : State),
    (s.lane i).lockOf acc = some (bus.num, m.val, from_) → from_ + 1000000 ≤ s.sh.gt + u →
    (∀ a, a ≠ acc → (s.lane i).heldBy bus.num m a = false) → (∀ p ∈ ((s.lane i).can bus.num).pend, p.1 ≠ m.val) →
    ∃ t, exec (.lockTimeout i acc u) s = .next t ∧ s.otherKept i t ∧
      (s.lane i).regsBut [CAN_BST bus.num m, CAN_NEW bus.num (m / 32), CAN_TXF bus.num (m / 32)] (t.lane i) ∧
      (t.lane i).on (CAN_BST bus.num m) CAN_BST_LOCK = false ∧ (t.lane i).lockOf acc = none ∧
      (t.lane i).fld (CAN_BST bus.num m) CAN_BST_LOCKTO =
        min (2 ^ CAN_BST_LOCKTO.width - 1) ((s.lane i).fld (CAN_BST bus.num m) CAN_BST_LOCKTO + 1) ∧
      (t.lane i).on (CAN_BST bus.num m) CAN_BST_NEW = (s.lane i).on (CAN_BST bus.num m) CAN_BST_NEW)

/-- Each command whose conditions hold ends DONE with its effect on the buffer or the bus: TXP set with RETRY 0, TXF with cause 7
and its event, detection from the first admitted rate, RESTR with its record, the collision memory cleared. Otherwise
CAN_CMDST shows the status of the command and the CAN-command-refused event is raised. Only the named registers and the modes
in CAN_LOCAL change. The rows take effect at the newest boundary (log 5). (12_can_controllers.md (R380);
12_can_controllers.md (R389); 12_can_controllers.md (R381); 12_can_controllers.md (R399); 12_can_controllers.md (R404)) -/
def Obligations.CanCommands : Prop :=
  (∀ (bus : Bus) (m : BitVec 7) (s : State) (i : LaneId), (s.lane i).computes = true → (s.lane i).hostOwned bus.num m.toNat = true →
    (s.lane i).on (CAN_BST bus.num m.toNat) CAN_BST_TXP = false → (s.lane i).on (CAN_CFG bus.num) CAN_CFG_BUS_EN = true →
    ∃ t, exec (.txReq bus m 0#8) s = .next t ∧ s.sharedKept t ∧
      (s.lane i).regsBut [CAN_LOCAL 0, CAN_LOCAL 1, CAN_CMDST bus.num, CAN_BST bus.num m.toNat, CAN_NEW bus.num (m.toNat / 32), CAN_TXF bus.num (m.toNat / 32)] (t.lane i) ∧
      (t.lane i).fld (CAN_CMDST bus.num) CAN_CMDST_STATUS = 0 ∧ (t.lane i).fld (CAN_CMDST bus.num) CAN_CMDST_LAST_OP = 1 ∧
      (t.lane i).fld (CAN_CMDST bus.num) CAN_CMDST_LAST_BUF = m.toNat ∧
      (t.lane i).on (CAN_BST bus.num m.toNat) CAN_BST_TXP = true ∧ (t.lane i).fld (CAN_BST bus.num m.toNat) CAN_BST_RETRY = 0) ∧
  (∀ (bus : Bus) (m : BitVec 7) (s : State) (i : LaneId), (s.lane i).computes = true →
    (s.lane i).on (CAN_BST bus.num m.toNat) CAN_BST_TXP = true → (∀ k, (s.sh.can bus.num).sending = some (.buf k) → k.val ≠ m.toNat) →
    ∃ t, exec (.txCancel bus m 0#8) s = .next t ∧ s.sharedKept t ∧
      (s.lane i).regsBut [CAN_LOCAL 0, CAN_LOCAL 1, CAN_CMDST bus.num, CAN_BST bus.num m.toNat, CAN_NEW bus.num (m.toNat / 32), CAN_TXF bus.num (m.toNat / 32)] (t.lane i) ∧
      (t.lane i).fld (CAN_CMDST bus.num) CAN_CMDST_STATUS = 0 ∧
      (t.lane i).on (CAN_BST bus.num m.toNat) CAN_BST_TXP = false ∧ (t.lane i).on (CAN_BST bus.num m.toNat) CAN_BST_TXF = true ∧
      (t.lane i).fld (CAN_BST bus.num m.toNat) CAN_BST_CAUSE = 7 ∧
      bitOf ((t.lane i).rd (CAN_TXF bus.num (m.toNat / 32))) (m.toNat % 32) = true ∧
      (t.lane i).raised = (s.lane i).raised ||| evBit (evTxFail bus.num)) ∧
  (∀ (bus : Bus) (m : BitVec 7) (s : State) (i : LaneId), (s.lane i).computes = true → s.sh.auth = some i → (s.lane i).st ≠ .retired →
    (s.lane i).on (CAN_CFG bus.num) CAN_CFG_BRMODE = true → (s.lane i).on (CAN_STAT bus.num) CAN_STAT_DETECT = false →
    (s.lane i).fld (CAN_STAT bus.num) CAN_STAT_ESTATE ≠ 2 →
    ∃ t, exec (.detect bus m 0#8) s = .next t ∧ t.sh.regs = s.sh.regs ∧ t.pending = s.pending ∧
      (s.lane i).regsBut [CAN_LOCAL 0, CAN_LOCAL 1, CAN_CMDST bus.num, CAN_STAT bus.num] (t.lane i) ∧
      (t.lane i).fld (CAN_CMDST bus.num) CAN_CMDST_STATUS = 0 ∧ (t.lane i).on (CAN_STAT bus.num) CAN_STAT_DETECT = true ∧
      (t.sh.can bus.num).det.step = 1 ∧ (t.sh.can bus.num).det.since = s.sh.gt ∧
      (t.sh.can bus.num).det.rate = (ratesOf ((s.lane i).fld (CAN_CFG2 bus.num) CAN_CFG2_NMASK) 4).headD 3) ∧
  (∀ (bus : Bus) (m : BitVec 7) (arg : BitVec 8) (s : State) (i : LaneId), (s.lane i).computes = true → arg.toNat ≤ 1 →
    (s.lane i).fld (CAN_STAT bus.num) CAN_STAT_RESTR ≠ arg.toNat → (s.lane i).on (CAN_CFG bus.num) CAN_CFG_BUS_EN = true →
    ∃ t, exec (.restrict bus m arg) s = .next t ∧ s.sharedKept t ∧
      (s.lane i).regsBut [CAN_LOCAL 0, CAN_LOCAL 1, CAN_CMDST bus.num, CAN_STAT bus.num] (t.lane i) ∧ (t.lane i).fld (CAN_CMDST bus.num) CAN_CMDST_STATUS = 0 ∧
      (t.lane i).fld (CAN_STAT bus.num) CAN_STAT_RESTR = arg.toNat ∧
      ∃ f : Formed, (t.lane i).formed = (s.lane i).formed ++ [f] ∧ f.r.code = 0x0904 ∧ f.r.p1 = w32 arg.toNat ∧ f.r.p2 = 1#32) ∧
  (∀ (bus : Bus) (m : BitVec 7) (s : State) (i : LaneId), (s.lane i).computes = true →
    (s.lane i).on (CAN_STAT bus.num) CAN_STAT_COLL = true →
    ∃ t, exec (.clrColl bus m 0#8) s = .next t ∧ s.sharedKept t ∧ (t.lane i).fld (CAN_CMDST bus.num) CAN_CMDST_STATUS = 0 ∧
      (t.lane i).on (CAN_STAT bus.num) CAN_STAT_COLL = false ∧ (t.lane i).fld (CAN_CNT bus.num) CAN_CNT_COLL_OVF = 0 ∧
      (∀ k, k < 8 → (t.lane i).rd (CAN_COLL bus.num k) = 0#32 ∧ (t.lane i).rd (CAN_COLLC bus.num k) = 0#32) ∧
      (s.lane i).regsBut ([CAN_LOCAL 0, CAN_LOCAL 1, CAN_CMDST bus.num, CAN_STAT bus.num, CAN_CNT bus.num] ++ (upTo 8).map (CAN_COLL bus.num) ++
        (upTo 8).map (CAN_COLLC bus.num)) (t.lane i)) ∧
  (∀ (bus : Bus) (m : BitVec 7) (arg : BitVec 8) (op : Nat) (c : Instr) (s : State) (i : LaneId),
    (c, op) ∈ [(.txReq bus m arg, 1), (.txCancel bus m arg, 2), (.restrict bus m arg, 4), (.clrColl bus m arg, 5)] →
    (s.lane i).computes = true → (s.lane i).canStatus bus.num op m.toNat arg.toNat ≠ 0 →
    ∃ t, exec c s = .next t ∧ s.sharedKept t ∧ (s.lane i).regsBut [CAN_LOCAL 0, CAN_LOCAL 1, CAN_CMDST bus.num] (t.lane i) ∧
      (t.lane i).fld (CAN_CMDST bus.num) CAN_CMDST_STATUS = (s.lane i).canStatus bus.num op m.toNat arg.toNat ∧
      (t.lane i).fld (CAN_CMDST bus.num) CAN_CMDST_LAST_OP = op ∧ (t.lane i).raised = (s.lane i).raised ||| evBit (evCanRefused bus.num))

/-- A buffer that may start on an idle bus becomes the frame being sent, the node's own frame picked for the bus goes to the
front of its queue, and a staged reference is sent once when the bus is idle; each notes the lane that sends, and a buffer
the slot it fills. Where the bus or the frame may not start, and whenever no lane holds authority or the outputs are held,
TX_START and REFERENCE_SEND leave the state as it is. (12_can_controllers.md (R389); 12_can_controllers.md (R391);
13_time_triggered_schedule.md (R411); 13_time_triggered_schedule.md (R421); 13_time_triggered_schedule.md (R422)) -/
def Obligations.TransmissionStarts : Prop :=
  (∀ (bus : Bus) (m : Fin 128) (u : Nat) (s : State), s.mayStart bus.num = true → s.bufMay bus.num m u = true →
    ∃ t, exec (.txStart bus (.buf m) u) s = .next t ∧ s.lanesKept t ∧ t.sh.regs = s.sh.regs ∧
      (t.sh.can bus.num).sending = some (.buf m) ∧ (t.sh.can bus.num).sender = s.sh.auth ∧ (t.sh.can bus.num).started =
        ((s.slotAt bus.num m u).map (fun x => (x.1, x.2.1))).toList ++ (s.sh.can bus.num).started) ∧
  (∀ (bus : Bus) (f : OwnFrame) (u : Nat) (s : State) (i : LaneId), s.mayStart bus.num = true → s.ownMay bus.num u = true →
    s.ownPick bus.num = some f →
    ∃ t, exec (.txStart bus .own u) s = .next t ∧ t.sh.regs = s.sh.regs ∧ t.pending = s.pending ∧
      (t.sh.can bus.num).sending = some .own ∧ (t.sh.can bus.num).sender = s.sh.auth ∧ (t.lane i).regs = (s.lane i).regs ∧
      ((t.lane i).can bus.num).own = f :: ((s.lane i).can bus.num).own.erase f) ∧
  (∀ (bus : Bus) (s : State), s.mayStart bus.num = true → (s.lead.can bus.num).refStaged.isSome = true → (s.sh.can bus.num).refDone = false →
    ∃ t, exec (.referenceSend bus true) s = .next t ∧ s.lanesKept t ∧ t.sh.regs = s.sh.regs ∧
      (t.sh.can bus.num).sending = some .ref ∧ (t.sh.can bus.num).sender = s.sh.auth ∧ (t.sh.can bus.num).refDone = true) ∧
  (∀ (bus : Bus) (who : TxWho) (u : Nat) (s : State), s.mayStart bus.num = false → exec (.txStart bus who u) s = .next s) ∧
  (∀ (bus : Bus) (idle : Bool) (s : State), idle = false ∨ (s.sh.can bus.num).refDone = true →
    exec (.referenceSend bus idle) s = .next s) ∧
  (∀ (bus : Bus) (who : TxWho) (u : Nat) (idle : Bool) (c : Instr) (s : State), c = .txStart bus who u ∨ c = .referenceSend bus idle →
    s.sh.auth = none ∨ s.sh.hold = true → exec c s = .next s)

/-- DLC 0 to 8 give 0 to 8 bytes; with FDF set, 9 to 15 give 12, 16, 20, 24, 32, 48 and 64, with FDF clear 8. The last valid word
is 1 for no byte and 1 + ceil(n/4) otherwise. In the words of a buffer that holds a frame, byte j of the data reads the
frame's byte j below n and 0 from n on; in a host-owned transmit buffer the bytes below n read as they stand and those from n
on read 0. (R383) -/
def Obligations.DlcGivesTheByteCount : Prop :=
  (∀ (fdf : Bool) (n : Nat), n ≤ 8 → dlcBytes fdf n = n) ∧
  (upTo 7).map (fun k => dlcBytes true (9 + k)) = [12, 16, 20, 24, 32, 48, 64] ∧
  (∀ n, 9 ≤ n → n ≤ 15 → dlcBytes false n = 8) ∧
  (∀ n, lastWord n = (if n = 0 then 1 else 1 + n / 4 + (if n % 4 = 0 then 0 else 1))) ∧
  (∀ (f : CanFrame) (j : Nat), j < 64 →
    ((frameWords f).getD (2 + j / 4) 0#32).extractLsb' (8 * (j % 4)) 8 =
      (if j < dlcBytes f.fdf f.dlc.toNat then f.data.getD j 0#8 else 0#8)) ∧
  (∀ (l : Lane) (b m i j : Nat) (dlc v : Word), 2 ≤ i → j < 4 → l.hostOwned b m = true →
    (l.canShows b m i dlc v).extractLsb' (8 * j) 8 =
      (if 4 * (i - 2) + j < dlcBytes (l.on (CAN_BCFG b m) CAN_BCFG_FDF) (dlc.toNat % 16) then v.extractLsb' (8 * j) 8 else 0#8))

/-- A potential master that has missed enough references becomes master and shows itself; 8 epochs without a source clear SYNC
with the event and the record; a remote slot is valid while its newest frame is young enough, carries its item and marks it
good; reading TIME_NOWLO latches both halves of the instant. Only the named registers change. (13_time_triggered_schedule.md
(R409); 13_time_triggered_schedule.md (R412); 13_time_triggered_schedule.md (R416); 13_time_triggered_schedule.md (R429)) -/
def Obligations.TimeRows : Prop :=
  (∀ (bus : Bus) (s : State) (i : LaneId), (s.lane i).computes = true → (s.lane i).ttEn bus.num = true →
    (s.lane i).on TIME_CFG TIME_CFG_MPOT = true → (s.lane i).on TIME_ST (fldMaster bus.num) = false →
    (s.lane i).fld TIME_CFG TIME_CFG_MPRIO + 3 ≤ (s.lane i).fld TIME_MISS (fldMiss bus.num) →
    ∃ t, exec (.timeMasterTakeover bus) s = .next t ∧ s.sharedKept t ∧ (s.lane i).regsBut [TIME_ST] (t.lane i) ∧
      (t.lane i).on TIME_ST (fldMaster bus.num) = true ∧ (t.lane i).fld TIME_ST (fldCurm bus.num) = (s.lane i).nodeAddr) ∧
  (∀ (s : State) (i : LaneId), (s.lane i).computes = true → 8 ≤ (s.lane i).time.noSrc → (s.lane i).on TIME_ST TIME_ST_SYNC = true →
    ∃ t, exec .syncLossNoSource s = .next t ∧ s.sharedKept t ∧ (s.lane i).regsBut [TIME_ST] (t.lane i) ∧
      (t.lane i).on TIME_ST TIME_ST_SYNC = false ∧ (t.lane i).raised = (s.lane i).raised ||| evBit evTime ∧
      ∃ f : Formed, (t.lane i).formed = (s.lane i).formed ++ [f] ∧ f.r.code = 0x0A01 ∧ f.r.p1 = 0#32) ∧
  (∀ (k : Fin 256) (e : Nat) (s : State) (i : LaneId), (s.lane i).computes = true → ((s.lane i).slotW k).eof = some e →
    (s.lane i).on (CNP_RXCFG k) CNP_RXCFG_EN = true →
    let age := (s.lane i).fld (CNP_RXCFG k) CNP_RXCFG_TOUT * 10000000
    ∃ t, exec (.remoteSlotTimeout k) s = .next t ∧ s.sharedKept t ∧
      (s.lane i).regsBut [CNP_RXVLD (k / 32), CNP_RXONE (k / 32)] (t.lane i) ∧
      bitOf ((t.lane i).rd (CNP_RXVLD (k / 32))) (k % 32) = (decide (s.sh.gt ≤ e + age) &&
        decide ((s.lane i).fld (CNP_RXCFG k) CNP_RXCFG_ITEM < ((s.lane i).slotW k).n) && !((s.lane i).slotW k).bad)) ∧
  (∀ (i : LaneId) (u : Nat) (s : State), (s.lane i).st ≠ .off →
    ∃ t, exec (.timeNowloRead i u) s = .next t ∧ s.otherKept i t ∧ (s.lane i).regsBut [TIME_NOWLO, TIME_NOWHI] (t.lane i) ∧
      (t.lane i).rd TIME_NOWLO = w32 (s.sh.gt + u) ∧ (t.lane i).rd TIME_NOWHI = w32 ((s.sh.gt + u) / 2 ^ 32))

/-- A frame that scans starts while the rails are up or rising and shows its VCOL set-point; any other has every row and column
at the GND level. VNEG becomes good at 90 %, which sets the series switch of an external VCOL of 7.0 V or more, then VCOL
within 10 %; a rail faults after 3 or 6 ms of rising or outside its thresholds in PSTATE 2 to 4; the rails fall VCOL first,
VNEG when VCOL is below 1.0 V or after 5.0 ms, and are off below 0.5 V. A crazing measurement every 250 ms shows and judges
its value, a bad one drops the rails, CRZ_TRIPS counting where CRZ_FAULT sets; NTC words every 100 ms and VCOL deviations
above 1.0 V enter the cut. NTC_FAULT sets after 2 bad words with the fallback band and clears after 10 good with its record;
the page timer turns pages; a due aging copy erases and takes the counts or waits while C4SHED, and its end writes counts,
number and CRC with a record. (14_panel_display_engine.md (R441); 14_panel_display_engine.md (R442);
14_panel_display_engine.md (R446); 14_panel_display_engine.md (R451); 14_panel_display_engine.md (R452);
14_panel_display_engine.md (R458); 14_panel_display_engine.md (R459); 14_panel_display_engine.md (R460);
14_panel_display_engine.md (R461); 14_panel_display_engine.md (R463); 14_panel_display_engine.md (R468); 15_firing_image.md
(R475)) -/
def Obligations.PanelRows : Prop :=
  (∀ (f : DriveFrame) (s : State), s.sh.pnl.next = some f → f.scan = true → s.sh.pnl.rails = .rising ∨ s.sh.pnl.rails = .up →
    ∃ t, exec .panelFrameStart s = .next t ∧ s.lanesKept t ∧ s.sh.regsBut [PNL_RAIL] t.sh ∧ t.sh.pnl = { s.sh.pnl with rails := .up, next := none, cur := some f } ∧
      t.sh.fld PNL_RAIL PNL_RAIL_VCOL_SP = f.vsp % 256) ∧
  (∀ (f : DriveFrame) (s : State), s.sh.pnl.next = some f → f.scan = false ∨ (s.sh.pnl.rails ≠ .rising ∧ s.sh.pnl.rails ≠ .up) →
    ∃ t, exec .panelFrameStart s = .next t ∧ s.lanesKept t ∧ t.sh.regs = s.sh.regs ∧
      t.sh.pnl = { s.sh.pnl with next := none, cur := none } ∧ ∀ w x, t.sh.pnl.rowLevel w x = .gnd ∧ t.sh.pnl.colLevel w x = .gnd) ∧
  (∀ (vneg vc : Byte) (u : Nat) (s : State), s.sh.pnl.rails = .rising → s.sh.on PNL_RAIL PNL_RAIL_VNEG_GOOD = true →
    s.sh.fld PNL_RAIL PNL_RAIL_VCOL_SP * 9 ≤ vc.toNat * 10 → vc.toNat * 10 ≤ s.sh.fld PNL_RAIL PNL_RAIL_VCOL_SP * 11 →
    s.lead.railx = false ∨ s.sh.pnl.switch = true →
    ∃ t, exec (.railGood true vneg vc u) s = .next t ∧ s.lanesKept t ∧ s.sh.regsBut [PNL_RAIL] t.sh ∧ t.sh.pnl = s.sh.pnl ∧
      t.sh.on PNL_RAIL PNL_RAIL_VCOL_GOOD = true ∧ t.sh.fld PNL_RAIL PNL_RAIL_VCOL = vc.toNat ∧
      t.sh.fld PNL_RAIL PNL_RAIL_VNEG = vneg.toNat % 128 ∧ t.sh.on PNL_RAIL PNL_RAIL_VNEG_GOOD = true) ∧
  (∀ (vneg vc : Byte) (u : Nat) (s : State), s.sh.pnl.rails = .rising → s.sh.on PNL_RAIL PNL_RAIL_VNEG_GOOD = false →
    s.lead.vnegSet * 9 ≤ vneg.toNat * 10 →
    ∃ t, exec (.railGood false vneg vc u) s = .next t ∧ s.lanesKept t ∧ s.sh.regsBut [PNL_RAIL] t.sh ∧
      t.sh.on PNL_RAIL PNL_RAIL_VNEG_GOOD = true ∧ t.sh.fld PNL_RAIL PNL_RAIL_VNEG = vneg.toNat % 128 ∧
      t.sh.fld PNL_RAIL PNL_RAIL_VCOL = vc.toNat ∧ t.sh.on PNL_RAIL PNL_RAIL_VCOL_GOOD = s.sh.on PNL_RAIL PNL_RAIL_VCOL_GOOD ∧
      t.sh.pnl = { s.sh.pnl with stepAt := s.sh.gt + u, switch := s.lead.railx && decide (70 ≤ vc.toNat) }) ∧
  (∀ (vcol : Bool) (vneg vc : Byte) (u : Nat) (s : State), s.sh.pnl.rails ≠ .rising ∨ (vcol = true ∧ s.sh.on PNL_RAIL PNL_RAIL_VNEG_GOOD = false) ∨
      (vcol = true ∧ s.lead.railx = true ∧ s.sh.pnl.switch = false) ∨ (vcol = false ∧ (vneg.toNat * 10 < s.lead.vnegSet * 9 ∨ s.sh.on PNL_RAIL PNL_RAIL_VNEG_GOOD = true)) →
    exec (.railGood vcol vneg vc u) s = .next s) ∧
  (∀ (vcol : Bool) (v : Byte) (u : Nat) (s : State) (i : LaneId), s.pnlOn = true →
    (s.lead.fld PNL_ST PNL_ST_PSTATE = 1 ∧ s.sh.on PNL_RAIL PNL_RAIL_VNEG_GOOD = vcol ∧ s.sh.on PNL_RAIL PNL_RAIL_VCOL_GOOD = false ∧
        s.sh.pnl.stepAt + (if vcol then 6000000 else 3000000) ≤ s.sh.gt + u) ∨
      (2 ≤ s.lead.fld PNL_ST PNL_ST_PSTATE ∧ s.lead.fld PNL_ST PNL_ST_PSTATE ≤ 4 ∧
        (if vcol then (if s.lead.railx then v.toNat < 70
            else v.toNat * 10 < s.sh.fld PNL_RAIL PNL_RAIL_VCOL_SP * 9 ∨ s.sh.fld PNL_RAIL PNL_RAIL_VCOL_SP * 11 < v.toNat * 10)
          else v.toNat * 10 < s.lead.vnegSet * 9)) → (s.lane i).takes = true →
    ∃ t, exec (.railFault vcol v u) s = .next t ∧ s.sh.regsBut [PNL_RAIL] t.sh ∧ (t.lane i).regs = (s.lane i).regs ∧
      t.sh.on PNL_RAIL PNL_RAIL_VNEG_GOOD = false ∧ t.sh.on PNL_RAIL PNL_RAIL_VCOL_GOOD = false ∧
      t.sh.pnl = { (s.sh.pnl.fall (s.sh.gt + u)) with fault := true } ∧
      (s.sh.pnl.rails = .rising ∨ s.sh.pnl.rails = .up → t.sh.pnl = ⟨.fallCol, s.sh.gt + u, false, true, none, none⟩) ∧
      (t.lane i).cut.pnl = { (s.lane i).cut.pnl with rail := some (vcol.toNat, v.toNat) }) ∧
  (∀ (vneg vc : Byte) (u : Nat) (s : State), s.sh.pnl.rails = .fallCol →
    (s.lead.railx = true ∨ 10 ≤ vc.toNat) → s.sh.gt + u < s.sh.pnl.stepAt + 5000000 →
    ∃ t, exec (.railsDischarged vneg vc u) s = .next t ∧ s.lanesKept t ∧ s.sh.regsBut [PNL_RAIL] t.sh ∧ t.sh.pnl = s.sh.pnl) ∧
  (∀ (vneg vc : Byte) (u : Nat) (s : State), s.sh.pnl.rails = .fallCol → s.lead.railx = false → vc.toNat < 10 → 5 ≤ vneg.toNat →
    ∃ t, exec (.railsDischarged vneg vc u) s = .next t ∧ s.lanesKept t ∧ s.sh.regsBut [PNL_RAIL] t.sh ∧ t.sh.pnl.rails = .fallNeg ∧
      t.sh.fld PNL_RAIL PNL_RAIL_VCOL = vc.toNat ∧ t.sh.fld PNL_RAIL PNL_RAIL_VNEG = vneg.toNat % 128) ∧
  (∀ (vneg vc : Byte) (u : Nat) (s : State) (i : LaneId), s.sh.pnl.rails = .fallNeg ∨ (s.sh.pnl.rails = .fallCol ∧
      (s.sh.pnl.stepAt + 5000000 ≤ s.sh.gt + u ∨ s.lead.railx = false)) →
    (s.lead.railx = true ∨ vc.toNat < 10) → vneg.toNat < 5 → (s.lane i).takes = true →
    ∃ t, exec (.railsDischarged vneg vc u) s = .next t ∧ s.sh.regsBut [PNL_RAIL] t.sh ∧ (t.lane i).regs = (s.lane i).regs ∧
      t.sh.fld PNL_RAIL PNL_RAIL_VCOL = vc.toNat ∧ t.sh.fld PNL_RAIL PNL_RAIL_VNEG = vneg.toNat ∧ t.sh.pnl.rails = .off ∧
      (t.lane i).cut.pnl = { (s.lane i).cut.pnl with down := true }) ∧
  (∀ (vneg vc : Byte) (u : Nat) (s : State), s.sh.pnl.rails ≠ .fallCol → s.sh.pnl.rails ≠ .fallNeg →
    exec (.railsDischarged vneg vc u) s = .next s) ∧
  (∀ (res : BitVec 16) (u : Nat) (s : State) (i : LaneId), s.pnlOn = true → 0 < u → (s.sh.gt + u) % 250000000 = 0 →
    (s.lane i).takes = true →
    let bad := decide (s.lead.crzMax * 10 < res.toNat)
    ∃ t, exec (.crazingMeasurement res u) s = .next t ∧ s.sh.regsBut [PNL_CRZ, PNL_RAIL] t.sh ∧ (t.lane i).regs = (s.lane i).regs ∧
      t.sh.fld PNL_CRZ PNL_CRZ_RES = min 2047 res.toNat ∧ t.sh.on PNL_CRZ PNL_CRZ_GOOD = !bad ∧
      (bad = true → t.sh.on PNL_RAIL PNL_RAIL_VNEG_GOOD = false ∧ t.sh.on PNL_RAIL PNL_RAIL_VCOL_GOOD = false ∧
        t.sh.pnl = { (s.sh.pnl.fall (s.sh.gt + u)) with fault := true }) ∧
      (bad = false → t.sh.rd PNL_RAIL = s.sh.rd PNL_RAIL ∧ t.sh.pnl = s.sh.pnl) ∧
      t.sh.fld PNL_CRZ PNL_CRZ_CRZ_TRIPS = s.sh.fld PNL_CRZ PNL_CRZ_CRZ_TRIPS ∧
      (t.lane i).cut.pnl = { (s.lane i).cut.pnl with crz := some (res.toNat, s.sh.gt + u) }) ∧
  (∀ (was : Bool) (s : State), (s.crzCount was).sh.fld PNL_CRZ PNL_CRZ_CRZ_TRIPS = (if !was && s.lead.on PNL_ST PNL_ST_CRZ_FAULT
      then min 65535 (s.sh.fld PNL_CRZ PNL_CRZ_CRZ_TRIPS + 1) else s.sh.fld PNL_CRZ PNL_CRZ_CRZ_TRIPS)) ∧
  (∀ (temp : BitVec 16) (u : Nat) (s : State) (i : LaneId), s.pnlOn = true → 0 < u → (s.sh.gt + u) % 100000000 = 0 →
    (s.lane i).takes = true →
    ∃ t, exec (.ntcWord temp u) s = .next t ∧ t.sh = s.sh ∧ (t.lane i).regs = (s.lane i).regs ∧
      (t.lane i).cut.pnl = { (s.lane i).cut.pnl with ntc := some temp }) ∧
  (∀ (v : Byte) (s : State) (i : LaneId), s.pnlOn = true → s.lead.railx = true → (s.lane i).takes = true →
    let sp := s.sh.fld PNL_RAIL PNL_RAIL_VCOL_SP
    ∃ t, exec (.vcolDevChange v) s = .next t ∧ s.sh.regsBut [PNL_RAIL] t.sh ∧ (t.lane i).regs = (s.lane i).regs ∧
      t.sh.fld PNL_RAIL PNL_RAIL_VCOL = v.toNat ∧
      (sp + 10 < v.toNat ∨ v.toNat + 10 < sp → (t.lane i).cut.pnl = { (s.lane i).cut.pnl with vdev := some true }) ∧
      (sp ≤ v.toNat + 8 ∧ v.toNat ≤ sp + 8 → (t.lane i).cut.pnl = { (s.lane i).cut.pnl with vdev := some false })) ∧
  (∀ (s : State) (i : LaneId), (s.lane i).computes = true → (s.lane i).on PNL_ST PNL_ST_NTC_FAULT = false → 2 ≤ (s.lane i).pnl.ntcOut →
    ∃ t, exec .ntcFaultChange s = .next t ∧ s.sharedKept t ∧ (s.lane i).regsBut [PNL_ST] (t.lane i) ∧
      (t.lane i).on PNL_ST PNL_ST_NTC_FAULT = true ∧
      (t.lane i).fld PNL_ST PNL_ST_BAND = (s.lane i).fld PNL_CFG PNL_CFG_FBAND ∧
      (t.lane i).fld PNL_ST PNL_ST_PSTATE = (s.lane i).fld PNL_ST PNL_ST_PSTATE) ∧
  (∀ (s : State) (i : LaneId), (s.lane i).computes = true → (s.lane i).on PNL_ST PNL_ST_NTC_FAULT = true → 10 ≤ (s.lane i).pnl.ntcIn →
    ∃ t, exec .ntcFaultChange s = .next t ∧ s.sharedKept t ∧ (s.lane i).regsBut [PNL_ST] (t.lane i) ∧
      (t.lane i).on PNL_ST PNL_ST_NTC_FAULT = false ∧ (t.lane i).raised = (s.lane i).raised ||| evBit evPanel ∧
      ∃ f : Formed, (t.lane i).formed = (s.lane i).formed ++ [f] ∧ f.r.code = 0x0B05 ∧ f.r.p1 = 0#32) ∧
  (∀ (s : State) (i : LaneId), (s.lane i).computes = true → (s.lane i).fld PNL_LCFG PNL_LCFG_PAGET ≠ 0 →
    s.sh.gt % ((s.lane i).fld PNL_LCFG PNL_LCFG_PAGET * 1000000000) = 0 → (s.lane i).pnl.pageAt ≠ s.sh.gt →
    (s.lane i).on PNL_CFG PNL_CFG_EN = true →
    let p := (s.lane i).pnl.page
    ∃ t, exec .pageTimer s = .next t ∧ s.sharedKept t ∧ (s.lane i).regsBut [PNL_LIST] (t.lane i) ∧
      (t.lane i).pnl.page = (if p < (s.lane i).pnl.pages then p + 1 else 1) ∧
      (t.lane i).fld PNL_LIST PNL_LIST_PAGE = (t.lane i).pnl.page % 128 ∧
      (t.lane i).pnl.pageAt = s.sh.gt) ∧
  (∀ s : State, s.mayCopy = true → s.copyDue = true → s.lead.on PWR_LST PWR_LST_C4SHED = false →
    let c := match s.sh.agingNewest with
      | some x => 1 - x.1
      | none => 0
    ∃ t, exec .agingLedgerCopy s = .next t ∧ s.lanesKept t ∧ t.sh.regs = s.sh.regs ∧
      t.sh.nor = (s.sh.norErase (agingAddr c) 0x20000).nor ∧ t.sh.start.aging = some (c, s.lead.ledgerCounts) ∧
      t.sh.start.agingDue = false ∧ t.sh.start.agingAt = s.sh.gt) ∧
  (∀ s : State, s.mayCopy = true → s.copyDue = true → s.lead.on PWR_LST PWR_LST_C4SHED = true →
    ∃ t, exec .agingLedgerCopy s = .next t ∧ s.lanesKept t ∧ t.sh.regs = s.sh.regs ∧ t.sh.nor = s.sh.nor ∧
      t.sh.start.agingDue = true ∧ t.sh.start.aging = s.sh.start.aging) ∧
  (∀ (c : Nat) (ns : List Nat) (s : State) (i : LaneId), s.sh.start.aging = some (c, ns) → (s.lane i).working = true →
    s.sh.epochs = true →
    let n := match s.sh.agingNewest with
      | some x => x.2.1 + 1
      | none => 1
    let bs := ns.flatMap (leBytes 4) ++ leBytes 4 n
    ∃ t, exec .agingCopyWritten s = .next t ∧ t.sh.regs = s.sh.regs ∧ t.sh.start.aging = none ∧ (t.lane i).regs = (s.lane i).regs ∧
      t.sh.nor = (s.sh.norWrite (agingAddr c) (bs ++ wordBytes (crc32c bs))).nor ∧
      ∃ f : Formed, (t.lane i).formed = (s.lane i).formed ++ [f] ∧ f.r.code = 0x0C08 ∧ f.r.p0 = w32 c ∧ f.r.p1 = w32 n)

/-- On grades S and F, with an argument in range and the state of R470 the command ends DONE and sets the dark request, the
dimming target, the source, the next page, or clears the rail or crazing fault (leaving FAULT once neither stands). Otherwise
PNL_CMDST shows the status and the panel-command-refused event is raised, the engine unchanged. Only PNL_CMDST and the named
register change. On grade D every panel command leaves the state as it is. The rows take effect at the newest boundary (log
5). (00_scope.md (R3); 14_panel_display_engine.md (R455); 14_panel_display_engine.md (R464); 14_panel_display_engine.md
(R465); 14_panel_display_engine.md (R468); 14_panel_display_engine.md (R470)) -/
def Obligations.PanelCommands : Prop :=
  (∀ (arg : Byte) (s : State) (i : LaneId), s.sh.grade ≠ 2 → (s.lane i).computes = true → arg.toNat ≤ 1 →
    (s.lane i).fld PNL_ST PNL_ST_DARK_REQ ≠ arg.toNat →
    ∃ t, exec (.setDark arg) s = .next t ∧ s.sharedKept t ∧ (s.lane i).regsBut [PNL_CMDST, PNL_ST] (t.lane i) ∧
      (t.lane i).fld PNL_CMDST PNL_CMDST_STATUS = 0 ∧ (t.lane i).fld PNL_CMDST PNL_CMDST_LAST_OP = 1 ∧
      (t.lane i).fld PNL_ST PNL_ST_DARK_REQ = arg.toNat ∧ (t.lane i).fld PNL_ST PNL_ST_PSTATE = (s.lane i).fld PNL_ST PNL_ST_PSTATE) ∧
  (∀ (arg : Byte) (s : State) (i : LaneId), s.sh.grade ≠ 2 → (s.lane i).computes = true → arg.toNat ≤ 15 →
    (s.lane i).fld PNL_DIMSRC PNL_DIMSRC_KIND ≠ 8 →
    ∃ t, exec (.setDim arg) s = .next t ∧ s.sharedKept t ∧ (s.lane i).regsBut [PNL_CMDST] (t.lane i) ∧
      (t.lane i).fld PNL_CMDST PNL_CMDST_STATUS = 0 ∧ (t.lane i).fld PNL_CMDST PNL_CMDST_LAST_OP = 2 ∧
      (t.lane i).dimTarget = arg.toNat) ∧
  (∀ (arg : Byte) (s : State) (i : LaneId), s.sh.grade ≠ 2 → (s.lane i).computes = true → arg.toNat ≤ 1 →
    (s.lane i).fld PNL_ST PNL_ST_SRC ≠ arg.toNat →
    ∃ t, exec (.setSrc arg) s = .next t ∧ s.sharedKept t ∧ (s.lane i).regsBut [PNL_CMDST, PNL_ST] (t.lane i) ∧
      (t.lane i).fld PNL_CMDST PNL_CMDST_STATUS = 0 ∧ (t.lane i).fld PNL_CMDST PNL_CMDST_LAST_OP = 3 ∧
      (t.lane i).fld PNL_ST PNL_ST_SRC = arg.toNat) ∧
  (∀ (s : State) (i : LaneId), s.sh.grade ≠ 2 → (s.lane i).computes = true → (s.lane i).on PNL_ST PNL_ST_SRC = false →
    1 < (s.lane i).pnl.pages →
    let p := (s.lane i).pnl.page
    ∃ t, exec (.pageCmd 0#8) s = .next t ∧ s.sharedKept t ∧ (s.lane i).regsBut [PNL_CMDST, PNL_LIST] (t.lane i) ∧
      (t.lane i).fld PNL_CMDST PNL_CMDST_STATUS = 0 ∧
      (t.lane i).pnl.page = (if p < (s.lane i).pnl.pages then p + 1 else 1) ∧
      (t.lane i).fld PNL_LIST PNL_LIST_PAGE = (t.lane i).pnl.page % 128) ∧
  (∀ (s : State) (i : LaneId), s.sh.grade ≠ 2 → (s.lane i).computes = true → (s.lane i).on PNL_ST PNL_ST_RAIL_FAULT = true →
    ∃ t, exec (.clrFault 0#8) s = .next t ∧ s.sharedKept t ∧ (s.lane i).regsBut [PNL_CMDST, PNL_ST] (t.lane i) ∧
      (t.lane i).fld PNL_CMDST PNL_CMDST_STATUS = 0 ∧ (t.lane i).on PNL_ST PNL_ST_RAIL_FAULT = false ∧
      (t.lane i).on PNL_ST PNL_ST_CRZ_FAULT = (s.lane i).on PNL_ST PNL_ST_CRZ_FAULT ∧
      (t.lane i).fld PNL_ST PNL_ST_PSTATE = (if (s.lane i).fld PNL_ST PNL_ST_PSTATE = 7 ∧ (s.lane i).on PNL_ST PNL_ST_CRZ_FAULT = false
        then 6 else (s.lane i).fld PNL_ST PNL_ST_PSTATE)) ∧
  (∀ (s : State) (i : LaneId), s.sh.grade ≠ 2 → (s.lane i).computes = true → (s.lane i).on PNL_ST PNL_ST_CRZ_FAULT = true →
    (s.lane i).hwOn PNL_CRZ PNL_CRZ_GOOD = true →
    ∃ t, exec (.clrFault 1#8) s = .next t ∧ s.sharedKept t ∧ (s.lane i).regsBut [PNL_CMDST, PNL_ST] (t.lane i) ∧
      (t.lane i).fld PNL_CMDST PNL_CMDST_STATUS = 0 ∧ (t.lane i).on PNL_ST PNL_ST_CRZ_FAULT = false ∧
      (t.lane i).on PNL_ST PNL_ST_RAIL_FAULT = (s.lane i).on PNL_ST PNL_ST_RAIL_FAULT) ∧
  (∀ (arg : Byte) (op : Nat) (c : Instr) (s : State) (i : LaneId),
    (c, op) ∈ [(.setDark arg, 1), (.setDim arg, 2), (.setSrc arg, 3), (.presentCmd arg, 4), (.pageCmd arg, 5), (.clrFault arg, 6)] →
    s.sh.grade ≠ 2 → (s.lane i).computes = true → (s.lane i).pnlStatus op arg.toNat ≠ 0 →
    ∃ t, exec c s = .next t ∧ s.sharedKept t ∧ (s.lane i).regsBut [PNL_CMDST] (t.lane i) ∧ (t.lane i).pnl = (s.lane i).pnl ∧
      (t.lane i).fld PNL_CMDST PNL_CMDST_STATUS = (s.lane i).pnlStatus op arg.toNat ∧
      (t.lane i).fld PNL_CMDST PNL_CMDST_LAST_OP = op ∧ (t.lane i).raised = (s.lane i).raised ||| evBit evPanelRefused) ∧
  (∀ (arg : Byte) (c : Instr) (s : State),
    c ∈ [.setDark arg, .setDim arg, .setSrc arg, .presentCmd arg, .pageCmd arg, .clrFault arg] → s.sh.grade = 2 → exec c s = .next s)

/-- Where there is a panel and the lane computes, PRESENT ends DONE and every word of the shown frame becomes the word that host
software has drawn through PNL_HF; only PNL_CMDST changes. (R469) -/
def Obligations.PresentCopiesTheDrawFrame : Prop :=
  ∀ (s : State) (i : LaneId), s.sh.grade ≠ 2 → (s.lane i).computes = true →
    ∃ t, exec (.presentCmd 0#8) s = .next t ∧ s.sharedKept t ∧ (s.lane i).regsBut [PNL_CMDST] (t.lane i) ∧
      (t.lane i).fld PNL_CMDST PNL_CMDST_STATUS = 0 ∧ (t.lane i).fld PNL_CMDST PNL_CMDST_LAST_OP = 4 ∧
      ∀ w, w < 2048 → (t.lane i).pnl.shown.at 0#32 w = (s.lane i).rd (PNL_HF w)

/-- XOPEN erases its target and opens it, XPROG programs the page at the offset and no other, XREAD loads the page at the offset
it was given, XCLOSE adds its target to those that wait for their check, XABORT leaves it invalid; their rows end erase,
program, read and, target by target, check with the states of CFG_XST and the record. PFIRE, SET_PREF, REFIRE, BURN_KEY and
BURN_AUTHREQ do their part. Each ends DONE; otherwise CFG_CMDST shows the status and the CFG-command-refused event is raised.
Only the named registers change. The rows take effect at the newest boundary (log 5). (15_firing_image.md (R484);
15_firing_image.md (R485); 15_firing_image.md (R494); 15_firing_image.md (R496); 15_firing_image.md (R500)) -/
def Obligations.StoreAndTransferRows : Prop :=
  (∀ (arg : Byte) (s : State) (i : LaneId), (s.lane i).working = true → s.cfgStatus 1 arg.toNat = 0 →
    ∃ t, exec (.xopen arg) s = .next t ∧ t.sh.regs = s.sh.regs ∧ t.pending = s.pending ∧
      t.sh.nor = (s.sh.norErase (tgtAddr arg.toNat) (tgtSize arg.toNat)).nor ∧
      (s.lane i).regsBut [CFG_CMDST, CFG_XST, CFG_TGT arg.toNat] (t.lane i) ∧
      (t.lane i).fld CFG_CMDST CFG_CMDST_STATUS = 0 ∧ (t.lane i).fld CFG_CMDST CFG_CMDST_LAST_OP = 1 ∧
      (t.lane i).xState = 1 ∧ (t.lane i).xTarget = arg.toNat ∧ (t.lane i).fld CFG_XST CFG_XST_PAGES = 0 ∧
      (t.lane i).fld (CFG_TGT arg.toNat) CFG_TGT_CHECK = 3 ∧ (t.lane i).fire.pages = []) ∧
  (∀ (s : State) (i : LaneId), (s.lane i).working = true → (s.lane i).xState = 1 →
    ∃ t, exec .eraseComplete s = .next t ∧ s.sharedKept t ∧ (s.lane i).regsBut [CFG_XST] (t.lane i) ∧ (t.lane i).xState = 2 ∧
      (t.lane i).raised = (s.lane i).raised ||| evBit evTransfer) ∧
  (∀ (s : State) (i : LaneId), (s.lane i).working = true → s.cfgStatus 2 0 = 0 →
    let p := (tgtAddr s.storeLane.xTarget + s.storeLane.xOff) / 256
    ∃ t, exec (.xprog 0#8) s = .next t ∧ t.sh.regs = s.sh.regs ∧ t.pending = s.pending ∧ t.sh.page p = s.storeLane.xBuf ∧
      (∀ q, q % 2 ^ 17 ≠ p % 2 ^ 17 → t.sh.page q = s.sh.page q) ∧ (s.lane i).regsBut [CFG_CMDST, CFG_XST] (t.lane i) ∧
      (t.lane i).fld CFG_CMDST CFG_CMDST_STATUS = 0 ∧ (t.lane i).xState = 3 ∧
      (t.lane i).fire.pages = (s.lane i).xOff :: (s.lane i).fire.pages) ∧
  (∀ (s : State) (i : LaneId), (s.lane i).working = true → s.storeLane.xState = 3 →
    ∃ t, exec (.pageProgrammed true) s = .next t ∧ s.sharedKept t ∧ (s.lane i).regsBut [CFG_XST] (t.lane i) ∧ (t.lane i).xState = 2 ∧
      (t.lane i).fld CFG_XST CFG_XST_PAGES = ((s.lane i).fld CFG_XST CFG_XST_PAGES + 1) % 65536) ∧
  (∀ (s : State) (i : LaneId), (s.lane i).working = true → s.storeLane.xState = 3 →
    ∃ t, exec (.pageProgrammed false) s = .next t ∧ t.sh.regs = s.sh.regs ∧ (s.lane i).regsBut [CFG_XST] (t.lane i) ∧
      (t.lane i).xState = 5 ∧ (t.lane i).fld CFG_XST CFG_XST_PAGES = (s.lane i).fld CFG_XST CFG_XST_PAGES) ∧
  (∀ (s : State) (i : LaneId), (s.lane i).working = true → s.cfgStatus 3 0 = 0 →
    ∃ t, exec (.xread 0#8) s = .next t ∧ s.sharedKept t ∧ (s.lane i).regsBut [CFG_CMDST, CFG_XST] (t.lane i) ∧
      (t.lane i).fld CFG_CMDST CFG_CMDST_STATUS = 0 ∧ (t.lane i).xState = 4 ∧ (t.lane i).fire.rdOff = (s.lane i).xOff) ∧
  (∀ (s : State) (i : LaneId), (s.lane i).working = true → (s.lane i).xState = 4 →
    let bs := s.sh.page ((tgtAddr (s.lane i).xTarget + (s.lane i).fire.rdOff) / 256)
    ∃ t, exec .pageReadLoaded s = .next t ∧ s.sharedKept t ∧
      (s.lane i).regsBut (CFG_XST :: (upTo 64).map CFG_XBUF) (t.lane i) ∧ (t.lane i).xState = 2 ∧
      ∀ w, w < 64 → (t.lane i).rd (CFG_XBUF w) = w32 (leNat ((bs.drop (4 * w)).take 4))) ∧
  (∀ (s : State) (i : LaneId), (s.lane i).working = true → s.cfgStatus 4 0 = 0 →
    ∃ t, exec (.xclose 0#8) s = .next t ∧ s.sharedKept t ∧ (s.lane i).regsBut [CFG_CMDST, CFG_XST] (t.lane i) ∧
      (t.lane i).fld CFG_CMDST CFG_CMDST_STATUS = 0 ∧ (t.lane i).xState = 0 ∧
      (t.lane i).fire.closing = (s.lane i).fire.closing.filter (· != (s.lane i).xTarget) ++ [(s.lane i).xTarget]) ∧
  (∀ (k : Nat) (ks : List Nat) (s : State) (i : LaneId), (s.lane i).working = true → s.storeLane.fire.closing = k :: ks → k < 4 → s.sh.epochs = true →
    ∃ t, exec .targetCheckComplete s = .next t ∧ s.sharedKept t ∧ (s.lane i).regsBut [CFG_TGT k, CFG_TGTID k] (t.lane i) ∧
      (t.lane i).fld (CFG_TGT k) CFG_TGT_CHECK = (if (s.sh.checkImage k).isNone then 1 else 2) ∧
      (t.lane i).rd (CFG_TGTID k) = (s.sh.image k).id ∧ (t.lane i).fire.closing = (s.lane i).fire.closing.drop 1 ∧
      ∃ f : Formed, (t.lane i).formed = (s.lane i).formed ++ [f] ∧ f.r.code = 0x0C06 ∧ f.r.p0 = w32 k) ∧
  (∀ (s : State) (i : LaneId), (s.lane i).working = true → s.cfgStatus 5 0 = 0 → s.sh.epochs = true →
    ∃ t, exec (.xabort 0#8) s = .next t ∧ s.sharedKept t ∧
      (s.lane i).regsBut [CFG_CMDST, CFG_XST, CFG_TGT s.storeLane.xTarget] (t.lane i) ∧
      (t.lane i).fld CFG_CMDST CFG_CMDST_STATUS = 0 ∧ (t.lane i).xState = 0 ∧
      (t.lane i).fld (CFG_TGT s.storeLane.xTarget) CFG_TGT_CHECK = 2) ∧
  (∀ (arg : Byte) (s : State) (i : LaneId), (s.lane i).working = true → s.cfgStatus 6 arg.toNat = 0 →
    ∃ t, exec (.pfire arg) s = .next t ∧ s.sharedKept t ∧ (s.lane i).regsBut [CFG_CMDST, CFG_PST arg.toNat] (t.lane i) ∧
      (t.lane i).fld CFG_CMDST CFG_CMDST_STATUS = 0 ∧
      (t.lane i).fld (CFG_PST arg.toNat) CFG_PST_PSTATE = (if (s.lane i).fire.pf.isEmpty then 2 else 1) ∧
      (t.lane i).fire.pf = (s.lane i).fire.pf ++ [{ buf := arg.toNat, m := s.sh.gt }]) ∧
  (∀ (arg : Byte) (s : State) (i : LaneId), (s.lane i).working = true → s.cfgStatus 7 arg.toNat = 0 →
    ∃ t, exec (.setPref arg) s = .next t ∧ s.sh.regsBut [ MOD_START] t.sh ∧ (s.lane i).regsBut [CFG_CMDST, CFG_STAT] (t.lane i) ∧
      (t.lane i).fld CFG_CMDST CFG_CMDST_STATUS = 0 ∧ (t.lane i).fld CFG_STAT CFG_STAT_PREF = arg.toNat ∧
      t.sh.start.srec.pref = arg.toNat ∧ t.sh.start.writing.isSome = true) ∧
  (∀ (s : State) (i : LaneId), (s.lane i).working = true → s.cfgStatus 8 0 = 0 →
    ∃ t, exec (.refire 0#8) s = .next t ∧ s.sh.regsBut [ MOD_START] t.sh ∧ (s.lane i).regsBut [CFG_CMDST] (t.lane i) ∧
      (t.lane i).fld CFG_CMDST CFG_CMDST_STATUS = 0 ∧ t.sh.start.phase = .draining ∧ t.sh.start.cause = 7 ∧
      t.sh.fld MOD_START MOD_START_NSTATE = 3) ∧
  (∀ (s : State) (i : LaneId), (s.lane i).working = true → s.cfgStatus 9 0 = 0 → s.sh.epochs = true →
    ∃ t, exec (.burnKey 0#8) s = .next t ∧ t.sh.regs = s.sh.regs ∧
      t.sh.start.key = some (wordsBytes ((upTo 8).map (fun w => s.storeLane.rd (CFG_KEY w)))) ∧
      (s.lane i).regsBut (CFG_CMDST :: CFG_FUSE :: (upTo 8).map CFG_KEY) (t.lane i) ∧
      (t.lane i).fld CFG_CMDST CFG_CMDST_STATUS = 0 ∧ (t.lane i).on CFG_FUSE CFG_FUSE_KEY_SET = true ∧
      (∀ w, w < 8 → (t.lane i).rd (CFG_KEY w) = 0#32)) ∧
  (∀ (s : State) (i : LaneId), (s.lane i).working = true → s.cfgStatus 10 0 = 0 → s.sh.epochs = true →
    ∃ t, exec (.burnAuthreq 0#8) s = .next t ∧ t.sh.regs = s.sh.regs ∧ t.sh.start.authReq = true ∧
      (s.lane i).regsBut [CFG_CMDST, CFG_FUSE] (t.lane i) ∧ (t.lane i).fld CFG_CMDST CFG_CMDST_STATUS = 0 ∧
      (t.lane i).on CFG_FUSE CFG_FUSE_AUTH_REQ = true) ∧
  (∀ (arg : Byte) (op : Nat) (c : Instr) (s : State) (i : LaneId),
    (c, op) ∈ [(.xopen arg, 1), (.xprog arg, 2), (.xread arg, 3), (.xclose arg, 4), (.xabort arg, 5), (.pfire arg, 6), (.setPref arg, 7),
      (.refire arg, 8), (.burnKey arg, 9), (.burnAuthreq arg, 10)] →
    (s.lane i).working = true → s.cfgStatus op arg.toNat ≠ 0 →
    ∃ t, exec c s = .next t ∧ s.sharedKept t ∧ (s.lane i).regsBut [CFG_CMDST] (t.lane i) ∧
      (t.lane i).fld CFG_CMDST CFG_CMDST_STATUS = s.cfgStatus op arg.toNat ∧ (t.lane i).fld CFG_CMDST CFG_CMDST_LAST_OP = op ∧
      (t.lane i).raised = (s.lane i).raised ||| evBit evCfgRefused)

/-- FIRING_COMPLETE wedges the preferred slot: with an image that passes, the result and the report stand; with a rejected one,
the target shows invalid and the reject is recorded. Equal results make one lane ACTIVE by the LANE strap; unequal ones fire
once more, then bisque mode with reason 4. A partial firing is wedged, recorded 40 ms after its command, and applied at the
alarm scan 50 ms after it with its outcome, record and event, the code of the newest rejection kept, the region noted as
replaced, and the sources of the outputs derived again; or discarded with its reject code. Noting the replaced regions in
order is the model's form of the comparison (log 92). (15_firing_image.md (R486); 15_firing_image.md (R492);
15_firing_image.md (R497); 10_lanes_and_failover.md (R322); 10_lanes_and_failover.md (R321)) -/
def Obligations.FiringRows : Prop :=
  (∀ (i : LaneId) (es : List RepEntry) (w : Wst) (s : State), (s.lane i).st = .firing → (s.lane i).fire.res = none →
    (s.lane i).fire.rejs = [] → (s.lane i.other).st = .firing → (s.lane i.other).fire.res = none →
    let k := if s.sh.start.srec.pref = 0 then 0 else 1
    s.sh.trySlot (s.lane i).regs k = (es, some w) →
    ∃ t, exec (.firingComplete i) s = .next t ∧ s.otherKept i t ∧ (s.lane i).regsBut [CFG_REP, CFG_REPCRC] (t.lane i) ∧
      (t.lane i).rd CFG_REPCRC = repCrc es ∧
      (t.lane i).fire.res = some ⟨k, (s.sh.image k).id, (s.sh.image k).build, es, true, []⟩ ∧ (t.lane i).st = .firing) ∧
  (∀ (i : LaneId) (e : RepEntry) (s : State), (s.lane i).st = .firing → (s.lane i).fire.res = none → (s.lane i).fire.rejs = [] →
    (s.lane i.other).fire.rejs = [] → s.sh.epochs = false →
    let k := if s.sh.start.srec.pref = 0 then 0 else 1
    s.sh.trySlot (s.lane i).regs k = ([e], none) →
    ∃ t, exec (.firingComplete i) s = .next t ∧ (t.lane i.other) = (s.lane i.other) ∧ t.sh.regs = s.sh.regs ∧
      (s.lane i).regsBut [CFG_REP, CFG_REPCRC, CFG_TGT k] (t.lane i) ∧ (t.lane i).st = .firing ∧
      (t.lane i).fld (CFG_TGT k) CFG_TGT_CHECK = 2 ∧ (t.lane i).fire.rejs = [(k, e)] ∧ (t.lane i).fire.res = none ∧
      ∃ r : Rec, t.sh.start.early = s.sh.start.early ++ [r] ∧ r.code = 0x0C02 ∧ r.p0 = w32 k ∧ r.p1 = w32 e.given.toNat) ∧
  (∀ (pa pb : Bool) (x y : FireRes) (s : State), s.a.st = .firing → s.b.st = .firing → s.a.fire.res = some x → s.b.fire.res = some y →
    sameResult x y = true → x.ok = true →
    ∃ t, exec (.firingResultCompare pa pb) s = .next t ∧
      (if s.sh.on MOD_STRAP MOD_STRAP_LANE then t.b.st = .active ∧ t.a.st = .shadow else t.a.st = .active ∧ t.b.st = .shadow)) ∧
  (∀ (pa pb : Bool) (x y : FireRes) (s : State), s.a.st = .firing → s.b.st = .firing → s.a.fire.res = some x → s.b.fire.res = some y →
    sameResult x y = false → s.a.fire.again = false →
    ∃ t, exec (.firingResultCompare pa pb) s = .next t ∧ s.sharedKept t ∧ t.a = { s.a with fire := { again := true } } ∧
      t.b = { s.b with fire := { again := true } }) ∧
  (∀ (x y : FireRes) (s : State), s.a.st = .firing → s.b.st = .firing → s.a.fire.res = some x → s.b.fire.res = some y →
    sameResult x y = false → s.a.fire.again = true →
    ∃ t, exec (.firingResultCompare false false) s = .next t ∧ t.sh.bisque = true ∧ t.sh.start.phase = .bisque ∧
      t.sh.start.srec.reason = 4 ∧ t.a.st = .bisque ∧ t.b.st = .bisque) ∧
  (∀ (i : LaneId) (b : Fin 2) (x : PFire) (rest : List PFire) (s : State), (s.lane i).fire.pf = x :: rest → x.buf = b.val → x.res = none →
    let r := (s.lane i).runPatch s.sh b
    ∃ t, exec (.partialWedgingDone i b) s = .next t ∧ s.otherKept i t ∧ (s.lane i).regsBut [CFG_REP, CFG_REPCRC] (t.lane i) ∧
      (t.lane i).rd CFG_REPCRC = repCrc r.ents ∧ (t.lane i).fld CFG_REP CFG_REP_SRC = 1 + b.val ∧
      (t.lane i).fire.pf = { x with res := some r } :: rest) ∧
  (∀ (x : PFire) (rest : List PFire) (r : PatchRes) (s : State) (i : LaneId), (s.lane i).computes = true →
    (s.lane i).fire.pf = x :: rest → x.said = false → s.sh.gt = x.m + 40000000 → x.res = some r →
    ∃ t, exec .partialFiringWedged s = .next t ∧ s.sharedKept t ∧ (t.lane i).regs = (s.lane i).regs ∧
      (t.lane i).fire.pf = { x with said := true } :: rest ∧
      ∃ f : Formed, (t.lane i).formed = (s.lane i).formed ++ [f] ∧ f.r.code = 0x0C04 ∧ f.r.p0 = w32 x.buf ∧ f.r.p3 = repCrc r.ents) ∧
  (∀ (x : PFire) (rest : List PFire) (s : State) (i : LaneId), (s.lane i).computes = true →
    (s.lane i).fire.pf = x :: rest → x.said = false → s.sh.gt = x.m + 40000000 → x.res = none →
    ∃ t, exec .partialFiringWedged s = .next t ∧ s.sharedKept t ∧ (t.lane i).regs = (s.lane i).regs ∧ (t.lane i).adj.inc = some 7) ∧
  (∀ (x : PFire) (r : PatchRes) (s : State) (i : LaneId), (s.lane i).computes = true → (s.lane i).fire.pf = [x] → x.buf < 2 →
    x.res = some r → r.ok = false → s.sh.gt % 10000000 = 0 → x.m + 50000000 ≤ s.sh.gt →
    ∃ t, exec .partialFiringApply s = .next t ∧ t.pending = s.pending ∧
      (s.lane i).regsBut [CFG_PST x.buf, CFG_TGT (2 + x.buf)] (t.lane i) ∧ (t.lane i).fld (CFG_PST x.buf) CFG_PST_PSTATE = 0 ∧
      (t.lane i).fld (CFG_PST x.buf) CFG_PST_OUTCOME = 2 ∧ (t.lane i).fld (CFG_PST x.buf) CFG_PST_REJ = r.code % 256 ∧
      (t.lane i).fld (CFG_TGT (2 + x.buf)) CFG_TGT_CHECK = 2 ∧ (t.lane i).fire.pf = [] ∧
      (t.lane i).raised = (s.lane i).raised ||| evBit evPartial) ∧
  (∀ (x : PFire) (r : PatchRes) (s : State) (i : LaneId), (s.lane i).computes = true → (s.lane i).fire.pf = [x] → x.buf < 2 →
    x.res = some r → r.ok = true → r.typ = 0x0071 → r.regs = [] → s.sh.gt % 10000000 = 0 → x.m + 50000000 ≤ s.sh.gt →
    ∃ t, exec .partialFiringApply s = .next t ∧ t.pending = s.pending ∧ (s.lane i).regsBut (CFG_PST x.buf :: CFG_STAT :: (upTo 32).map DO_CFG) (t.lane i) ∧
      (∀ d, d < 32 → (t.lane i).rd (DO_CFG d) = DO_CFG_SRC.put (doSource (s.lane i).regs d) ((s.lane i).rd (DO_CFG d))) ∧
      (t.lane i).fld (CFG_PST x.buf) CFG_PST_PSTATE = 0 ∧ (t.lane i).fld (CFG_PST x.buf) CFG_PST_OUTCOME = 1 ∧
      (t.lane i).fld (CFG_PST x.buf) CFG_PST_REJ = (s.lane i).fld (CFG_PST x.buf) CFG_PST_REJ ∧
      (t.lane i).fire.res = (s.lane i).fire.res.map (fun y =>
        { y with repl := y.repl.filter (· != (0x0071, r.region)) ++ [(0x0071, r.region)] }) ∧
      (t.lane i).fld CFG_STAT CFG_STAT_PATCHES = min 255 ((s.lane i).fld CFG_STAT CFG_STAT_PATCHES + 1) ∧
      (t.lane i).pnl.txt = tableText r.table ∧ (t.lane i).fire.pf = [] ∧
      ∃ f : Formed, (t.lane i).formed = (s.lane i).formed ++ [f] ∧ f.r.code = 0x0C05 ∧ f.r.p0 = w32 x.buf) ∧
  (∀ (x : PFire) (r : PatchRes) (s : State) (i : LaneId), (s.lane i).computes = true → (s.lane i).fire.pf = [x] →
    x.res = some r → r.ok = true → s.sh.gt % 10000000 = 0 → x.m + 50000000 ≤ s.sh.gt →
    ∃ t, exec .partialFiringApply s = .next t ∧ t.pending = s.pending ∧
      ∃ f : Formed, (t.lane i).formed.getLast? = some f ∧ f.r.code = 0x0C05 ∧ f.r.p1 = w32 (sectWord r.typ r.region))

/-- POWER_ON_RESET and RESET_N_ASSERTED bring both lanes to OFF, leave no authority and latch cause 1 or 2; stores (with a commit
in progress ended), NOR (but for a sector being programmed at POWER_ON) and fuses stay; an EXT reset keeps the registers of
the always-on domains with the energy ledger, and in a reset the end of the 10 ms of a supervisor reset. RESET_RELEASE waits
for that end, shows cause, counts a supervisor reset in phase 1 or 2 as a failed start, reads the start record, and puts
global time to 0 after POWER_ON. STRAP_SAMPLE begins the start or bisque mode; lock, reference, record write, deadline,
stable phase, cleared fails and transfer timeout do what their step says. Registers with no reset value given: log 12.
(16_start_reset_bisque.md (R503); 16_start_reset_bisque.md (R504); 16_start_reset_bisque.md (R505); 16_start_reset_bisque.md
(R506); 16_start_reset_bisque.md (R509); 16_start_reset_bisque.md (R510); 16_start_reset_bisque.md (R511);
16_start_reset_bisque.md (R512); 16_start_reset_bisque.md (R513); 16_start_reset_bisque.md (R517); 19_clock_islands.md
(R596); 19_clock_islands.md (R597)) -/
def Obligations.ResetAndStartRows : Prop :=
  (∀ s : State,
    ∃ t, exec .powerOnReset s = .next t ∧ t.a.st = .off ∧ t.b.st = .off ∧ t.sh.regs = .nil ∧ t.sh.auth = none ∧
      (s.storeLane.xState ≠ 3 → t.sh.nor = s.sh.nor) ∧ t.sh.bisque = false ∧ t.sh.start.phase = .reset ∧ t.sh.start.cause = 1 ∧ t.a.store = s.a.commitLast.store ∧ t.b.store = s.b.commitLast.store ∧
      t.sh.start.key = s.sh.start.key ∧ t.sh.start.authReq = s.sh.start.authReq ∧ t.pending = s.pending) ∧
  (∀ (s : State) (i : LaneId),
    ∃ t, exec .resetNAsserted s = .next t ∧ (t.lane i).st = .off ∧ t.sh.nor = s.sh.nor ∧ t.sh.auth = none ∧ t.sh.bisque = false ∧
      t.sh.start.phase = .reset ∧ t.sh.start.cause = 2 ∧ t.sh.start.rstn = true ∧ (t.lane i).store = (s.lane i).commitLast.store ∧
      (∀ k, k ∈ aonKeys → (t.lane i).rd k = (s.lane i).rd k) ∧ (t.lane i).led = (s.lane i).led ∧
      (s.sh.start.phase = .reset → t.sh.start.supEnd = s.sh.start.supEnd ∧ t.sh.start.zero = s.sh.start.zero) ∧
      (∀ k, k ∈ [CLK_HSA, CLK_HSB, CLK_HSH, PWR_SUPCNT, PWR_HOLD] → t.sh.rd k = s.sh.rd k)) ∧
  (∀ (s : State) (c : Nat) (r : SRec), s.sh.start.phase = .reset → (s.sh.start.cause < 3 ∨ 5 < s.sh.start.cause) → s.sh.start.cause < 16 →
    s.sh.start.supEnd ≤ s.sh.gt →
    s.sh.srecUsed = some (c, r) → r.fails < 4 → r.phase < 4 →
    ∃ t, exec .resetRelease s = .next t ∧ s.lanesKept t ∧ s.sh.regsBut [ MOD_RSTCAUSE, MOD_START, MOD_IDENT, MOD_SERIAL, PWR_SUP] t.sh ∧
      t.sh.start.phase = .released ∧ t.sh.gt = (if s.sh.start.zero then 0 else s.sh.gt) ∧ t.sh.start.relAt = t.sh.gt ∧
      t.sh.start.srec = r ∧ t.sh.fld MOD_RSTCAUSE MOD_RSTCAUSE_CAUSE = s.sh.start.cause ∧
      t.sh.on MOD_RSTCAUSE MOD_RSTCAUSE_COUNTED = false ∧ t.sh.fld MOD_RSTCAUSE MOD_RSTCAUSE_PHASE_PREV = r.phase ∧
      t.sh.on MOD_START MOD_START_SREC_DEF = false ∧ t.sh.fld MOD_START MOD_START_FAILS = r.fails ∧
      t.sh.fld MOD_START MOD_START_PHASE = r.phase ∧ t.sh.fld MOD_IDENT MOD_IDENT_PART = 0x9624 ∧ t.sh.rd MOD_SERIAL = Config.serial) ∧
  (∀ s : State, s.sh.gt < s.sh.start.supEnd → exec .resetRelease s = .next s) ∧
  (∀ (s : State) (c : Nat) (r : SRec), s.sh.start.phase = .reset → 3 ≤ s.sh.start.cause → s.sh.start.cause ≤ 5 →
    s.sh.start.zero = false → s.sh.start.supEnd ≤ s.sh.gt → s.sh.srecUsed = some (c, r) → r.phase = 1 ∨ r.phase = 2 →
    ∃ t, exec .resetRelease s = .next t ∧ s.lanesKept t ∧ t.sh.start.phase = .released ∧ t.sh.start.srec.fails = min 3 (r.fails + 1) ∧
      t.sh.on MOD_RSTCAUSE MOD_RSTCAUSE_COUNTED = true ∧ t.sh.fld MOD_START MOD_START_FAILS = min 3 (r.fails + 1)) ∧
  (∀ (straps : BitVec 15) (s : State), s.sh.start.phase = .released → straps.getLsbD 5 = true → s.sh.start.srec.fails < 3 →
    ∃ t, exec (.strapSample straps) s = .next t ∧ s.lanesKept t ∧ s.sh.regsBut [ MOD_STRAP, MOD_START] t.sh ∧
      t.sh.rd MOD_STRAP = straps.setWidth 32 ∧ t.sh.start.phase = .evaluated ∧ t.sh.start.srec.phase = 1 ∧
      t.sh.start.writing.isSome = true ∧
      ∃ r : Rec, t.sh.start.early = s.sh.start.early ++ [r] ∧ r.code = 0x0D01 ∧ r.p0 = w32 s.sh.start.cause ∧ r.p1 = w32 s.sh.start.srec.fails) ∧
  (∀ (straps : BitVec 15) (s : State), s.sh.start.phase = .released → straps.getLsbD 5 = false ∨ 3 ≤ s.sh.start.srec.fails →
    ∃ t, exec (.strapSample straps) s = .next t ∧ t.sh.bisque = true ∧ t.sh.start.phase = .bisque ∧
      t.sh.start.srec.reason = (if straps.getLsbD 5 then 2 else 1) ∧ t.sh.start.srec.phase = 0) ∧
  (∀ s : State, s.sh.start.phase ≠ .reset →
    ∃ t, exec .synthLock s = .next t ∧ s.lanesKept t ∧ s.sh.regsBut [CLK_ST] t.sh ∧ t.sh.on CLK_ST CLK_ST_REF_OK = true ∧
      t.sh.on CLK_ST CLK_ST_HLOCK = true ∧ t.sh.on CLK_ST CLK_ST_ALOCK = true ∧ t.sh.on CLK_ST CLK_ST_BLOCK = true ∧
      t.sh.on CLK_ST CLK_ST_INT = false ∧ t.sh.on CLK_ST CLK_ST_AHOLD = false ∧ t.sh.on CLK_ST CLK_ST_BHOLD = false) ∧
  (∀ s : State, s.sh.start.phase ≠ .reset →
    ∃ t, exec .clkrefGood s = .next t ∧ s.lanesKept t ∧ s.sh.regsBut [CLK_ST] t.sh ∧ t.sh.on CLK_ST CLK_ST_REF_OK = true) ∧
  (∀ (r : SRec) (s : State), s.sh.start.writing = some r → s.sh.start.again = false →
    let c := match s.sh.srecUsed with
      | some (c, _) => 1 - c
      | none => 0
    ∃ t, exec .startRecordWriteDone s = .next t ∧ s.lanesKept t ∧ t.sh.regs = s.sh.regs ∧ t.sh.start.writing = none ∧
      t.sh.nor = (s.sh.norWrite (srecAddr c) r.bytes).nor) ∧
  (∀ s : State, s.sh.start.phase = .waiting → s.sh.start.waitAt + 300000000 ≤ s.sh.gt →
    ∃ t, exec .referenceWaitEnd s = .next t ∧ s.lanesKept t ∧ t.sh.regs = s.sh.regs ∧ t.sh.start.phase = .authority) ∧
  (∀ s : State, s.sh.start.phase ∈ [.released, .strapped, .evaluated, .fired, .waiting, .authority] →
    s.sh.start.relAt + 5000000000 ≤ s.sh.gt → s.sh.bisque = false →
    ∃ t, exec .startDeadline s = .next t ∧ s.lanesKept t ∧ t.sh.regs = s.sh.regs ∧ t.sh.start.resetDue = some (s.sh.start.resetDue.getD 3)) ∧
  (∀ s : State, s.sh.start.phase = .running → s.sh.start.stable = false → s.sh.start.runAt + 60000000000 ≤ s.sh.gt →
    ∃ t, exec .phaseStable s = .next t ∧ s.lanesKept t ∧ s.sh.regsBut [ MOD_START] t.sh ∧ t.sh.start.srec.phase = 3 ∧ t.sh.start.stable = true ∧
      t.sh.fld MOD_START MOD_START_PHASE = 3 ∧ t.sh.start.writing.isSome = true) ∧
  (∀ (s : State) (i : LaneId), s.sh.start.phase = .running → s.sh.start.srec.fails ≠ 0 → s.sh.start.runAt + 600000000000 ≤ s.sh.gt →
    (s.lane i).working = true →
    ∃ t, exec .failsCleared s = .next t ∧ s.sh.regsBut [ MOD_START] t.sh ∧ (t.lane i).regs = (s.lane i).regs ∧ t.sh.start.srec.fails = 0 ∧
      t.sh.fld MOD_START MOD_START_FAILS = 0 ∧
      ∃ f : Formed, (t.lane i).formed = (s.lane i).formed ++ [f] ∧ f.r.code = 0x0D03) ∧
  (∀ (s : State) (u : Nat), s.sh.start.stx = some u → u + 10000000000 ≤ s.sh.gt →
    ∃ t, exec .stateTransferTimeout s = .next t ∧ s.lanesKept t ∧ s.sh.regsBut [ MOD_STX] t.sh ∧ t.sh.start.stx = some s.sh.gt ∧
      t.sh.start.stxLeft = (if s.a.st = .active then s.a else s.b).bankPages ∧ t.sh.start.stxNew = [] ∧ t.sh.start.stxDelta = false ∧
      t.sh.fld MOD_STX MOD_STX_ROUND = 0 ∧
      t.sh.fld MOD_STX MOD_STX_RETRIES = min 255 (s.sh.fld MOD_STX MOD_STX_RETRIES + 1))

/-- In bisque mode each bus's beacon is queued at every whole second. RESTART and LEAVE_BISQUE begin draining with cause 6 or 8,
CLR_FAILS clears FAILS; a wrong ARG ends INVALID and a command out of place STATE_REFUSED with no effect. When both stores
are drained and the outputs held, the reset begins; stores and NOR stay. (16_start_reset_bisque.md (R525);
16_start_reset_bisque.md (R529); 16_start_reset_bisque.md (R530)) -/
def Obligations.RestartRows : Prop :=
  (∀ (s : State) (i : LaneId) (b : Nat), s.sh.bisque = true → s.sh.gt % 1000000000 = 0 → s.sh.on CLK_ST CLK_ST_REF_OK = true →
    (s.lane i).st = .bisque → b < 2 → (s.sh.can b).sending ≠ some .own →
    ∃ t, exec .bisqueBeacon s = .next t ∧ s.sharedKept t ∧ (t.lane i).regs = (s.lane i).regs ∧
      ((t.lane i).can b).own = ((s.lane i).can b).own.filter (fun x => x.kind != 2) ++
        [{ kind := 2, id := cnpId 3 5 (s.sh.fld MOD_STRAP MOD_STRAP_NODE) s.sh.start.srec.reason, data := s.sh.beacon }]) ∧
  (∀ (cnp : Bool) (s : State), s.sh.start.phase ≠ .reset → s.sh.fld MOD_CMDST MOD_CMDST_STATUS ≠ 1 →
    ∃ t, exec (.restart 0x5A#8 cnp) s = .next t ∧ s.sh.regsBut [ MOD_CMDST, MOD_START] t.sh ∧ t.sh.fld MOD_CMDST MOD_CMDST_STATUS = 1 ∧
      t.sh.fld MOD_CMDST MOD_CMDST_LAST_OP = 1 ∧ t.sh.fld MOD_START MOD_START_NSTATE = 3 ∧ t.sh.start.phase = .draining ∧
      t.sh.start.cause = 6) ∧
  (∀ (cnp : Bool) (s : State), s.sh.start.phase ≠ .reset → s.sh.fld MOD_CMDST MOD_CMDST_STATUS ≠ 1 → s.sh.bisque = true →
    s.sh.on MOD_STRAP MOD_STRAP_BISQ = true →
    ∃ t, exec (.leaveBisque 0x5A#8 cnp) s = .next t ∧ s.sh.regsBut [ MOD_CMDST, MOD_START] t.sh ∧ t.sh.fld MOD_CMDST MOD_CMDST_STATUS = 1 ∧
      t.sh.start.phase = .draining ∧ t.sh.start.cause = 8 ∧ t.sh.start.srec.fails = 0 ∧ t.sh.start.srec.phase = 0 ∧
      t.sh.start.writing.isSome = true) ∧
  (∀ (cnp : Bool) (s : State), s.sh.start.phase ≠ .reset → s.sh.fld MOD_CMDST MOD_CMDST_STATUS ≠ 1 → s.sh.bisque = false →
    s.sh.start.srec.fails ≠ 0 →
    ∃ t, exec (.clrFails 0x5A#8 cnp) s = .next t ∧ s.sh.regsBut [ MOD_CMDST, MOD_START] t.sh ∧ t.sh.fld MOD_CMDST MOD_CMDST_STATUS = 0 ∧
      t.sh.fld MOD_CMDST MOD_CMDST_LAST_OP = 3 ∧ t.sh.start.phase = s.sh.start.phase ∧ t.sh.start.srec.fails = 0 ∧
      t.sh.fld MOD_START MOD_START_FAILS = 0) ∧
  (∀ (arg : Byte) (cnp : Bool) (op : Nat) (c : Instr) (s : State), (c, op) ∈ [(.restart arg cnp, 1), (.leaveBisque arg cnp, 2), (.clrFails arg cnp, 3)] →
    s.sh.start.phase ≠ .reset → s.sh.fld MOD_CMDST MOD_CMDST_STATUS ≠ 1 → arg.toNat ≠ 0x5A ∨ s.sh.modRefused op = true →
    ∃ t, exec c s = .next t ∧ s.lanesKept t ∧ s.sh.regsBut [ MOD_CMDST] t.sh ∧ t.sh.start = s.sh.start ∧
      t.sh.fld MOD_CMDST MOD_CMDST_STATUS = (if arg.toNat ≠ 0x5A then 3 else 2) ∧ t.sh.fld MOD_CMDST MOD_CMDST_LAST_OP = op) ∧
  (∀ s : State, s.sh.start.phase = .draining → s.sh.hold = true → s.a.drained = true → s.b.drained = true →
    s.sh.start.cause ≠ 8 ∨ s.sh.start.writing = none →
    ∃ t, exec .restartDrainDone s = .next t ∧ t.a.st = .off ∧ t.b.st = .off ∧ t.sh.auth = none ∧ t.sh.start.phase = .reset ∧
      t.sh.start.cause = s.sh.start.cause ∧ t.sh.nor = s.sh.nor ∧ t.a.store = s.a.commitLast.store ∧ t.b.store = s.b.commitLast.store)

/-- A read frame with a good header and form is answered with status, data and CRC-8 of the words read, side effects acting once;
one shared register reads its value; a bad form ends FORMAT, a wrong HCRC drives nothing, counts and raises the host-frame
event. A write frame with good codes writes its words and answers the highest status; a wrong data CRC ends 5, a full queue
BUSY, a bad header is cut, each counted and without effect. Which check comes first is the model's choice (log 19).
(17_host_port_and_events.md (R536); 17_host_port_and_events.md (R538); 17_host_port_and_events.md (R539);
17_host_port_and_events.md (R540); 17_host_port_and_events.md (R541); 17_host_port_and_events.md (R544)) -/
def Obligations.HostFrames : Prop :=
  (∀ (op : Byte) (addr : BitVec 24) (u : Nat) (s : State), op.toNat / 16 = 1 → s.sh.start.phase ≠ .reset → s.sh.start.phase ≠ .released →
    badFormat addr.toNat (op.toNat % 16 + 1) = false →
    let ps := placesOf addr.toNat (op.toNat % 16 + 1)
    let r := s.readWords (s.sh.gt + u) (readsPair ps) ps
    let hdr : List Byte := [op, addr.extractLsb' 16 8, addr.extractLsb' 8 8, addr.extractLsb' 0 8]
    ∃ t, exec (.hostReadFrame op addr (some (crc8 hdr)) true u) s = .next t ∧ t.sh.regs = r.2.sh.regs ∧
      t.sh.hpOut = hpAnswer (topStatus (r.1.map (·.1))) (r.1.map (·.2)) ∧
      t = ps.foldl (State.readEffect .host (s.sh.gt + u)) (r.2.hpDrive t.sh.hpOut)) ∧
  (∀ (addr : BitVec 24) (k u : Nat) (s : State), s.sh.start.phase ≠ .reset → s.sh.start.phase ≠ .released → addr.toNat % 4 = 0 →
    placeOf addr.toNat = .shared k → (regRow? k).isSome = true → s.offline (.shared k) = false → k < PWR_LCFG ∨ PWR_LTRIP ≤ k →
    let hdr : List Byte := [0x10#8, addr.extractLsb' 16 8, addr.extractLsb' 8 8, addr.extractLsb' 0 8]
    let bs : List Byte := [0#8] ++ wordsBytes [s.sh.rd k]
    exec (.hostReadFrame 0x10#8 addr (some (crc8 hdr)) true u) s = .next { s with sh := { s.sh with hpOut := bs ++ [crc8 bs] } }) ∧
  (∀ (op : Byte) (addr : BitVec 24) (u : Nat) (s : State), op.toNat / 16 = 1 → s.sh.start.phase ≠ .reset → s.sh.start.phase ≠ .released →
    badFormat addr.toNat (op.toNat % 16 + 1) = true →
    let hdr : List Byte := [op, addr.extractLsb' 16 8, addr.extractLsb' 8 8, addr.extractLsb' 0 8]
    ∃ t, exec (.hostReadFrame op addr (some (crc8 hdr)) true u) s = .next t ∧ s.lanesKept t ∧ s.sh.regsBut [ MOD_HPCNT] t.sh ∧
      t.sh.fld MOD_HPCNT MOD_HPCNT_FORMAT = min 65535 (s.sh.fld MOD_HPCNT MOD_HPCNT_FORMAT + 1) ∧ t.sh.hpOut.head? = some 3#8) ∧
  (∀ (op : Byte) (addr : BitVec 24) (c : Byte) (u : Nat) (whole : Bool) (s : State) (i : LaneId), s.sh.start.phase ≠ .reset →
    s.sh.start.phase ≠ .released → (s.lane i).st ≠ .off →
    c ≠ crc8 [op, addr.extractLsb' 16 8, addr.extractLsb' 8 8, addr.extractLsb' 0 8] →
    ∃ t, exec (.hostReadFrame op addr (some c) whole u) s = .next t ∧ t.sh.hpOut = [] ∧ s.sh.regsBut [ MOD_HPERR] t.sh ∧
      t.sh.fld MOD_HPERR MOD_HPERR_HDR = min 4095 (s.sh.fld MOD_HPERR MOD_HPERR_HDR + 1) ∧
      (s.lane i).regsBut [EVT_PEND (evHostFrame / 32)] (t.lane i) ∧
      bitOf ((t.lane i).rd (EVT_PEND (evHostFrame / 32))) (evHostFrame % 32) = true) ∧
  (∀ (op : Byte) (addr : BitVec 24) (data : List Byte) (u : Nat) (s : State) (i : LaneId), op.toNat / 16 = 2 →
    s.sh.start.phase ≠ .reset → s.sh.start.phase ≠ .released → data.length = 4 * (op.toNat % 16 + 1) →
    badFormat addr.toNat (op.toNat % 16 + 1) = false → s.sh.fits (s.sh.gt + u) (placesOf addr.toNat (op.toNat % 16 + 1)) = true →
    let ps := placesOf addr.toNat (op.toNat % 16 + 1)
    let r := s.writeWords (s.sh.gt + u) false (ps.zip ((wordsOf data).map w32))
    let hdr : List Byte := [op, addr.extractLsb' 16 8, addr.extractLsb' 8 8, addr.extractLsb' 0 8]
    ∃ t, exec (.hostWriteFrame op addr (some (crc8 hdr)) data (some (crc8 data)) true u) s = .next t ∧
      t.sh.hpOut = hpAnswer (topStatus r.1) [] ∧ t.sh.regs = r.2.sh.regs ∧ t.lane i = r.2.lane i) ∧
  (∀ (op : Byte) (addr : BitVec 24) (data : List Byte) (d : Byte) (u : Nat) (s : State), op.toNat / 16 = 2 →
    s.sh.start.phase ≠ .reset → s.sh.start.phase ≠ .released → data.length = 4 * (op.toNat % 16 + 1) → d ≠ crc8 data →
    let hdr : List Byte := [op, addr.extractLsb' 16 8, addr.extractLsb' 8 8, addr.extractLsb' 0 8]
    ∃ t, exec (.hostWriteFrame op addr (some (crc8 hdr)) data (some d) true u) s = .next t ∧ s.lanesKept t ∧
      s.sh.regsBut [ MOD_HPERR] t.sh ∧ t.sh.hpOut = hpAnswer 5 [] ∧
      t.sh.fld MOD_HPERR MOD_HPERR_DATA = min 4095 (s.sh.fld MOD_HPERR MOD_HPERR_DATA + 1)) ∧
  (∀ (op : Byte) (addr : BitVec 24) (data : List Byte) (u : Nat) (s : State), op.toNat / 16 = 2 →
    s.sh.start.phase ≠ .reset → s.sh.start.phase ≠ .released → data.length = 4 * (op.toNat % 16 + 1) →
    badFormat addr.toNat (op.toNat % 16 + 1) = false → s.sh.fits (s.sh.gt + u) (placesOf addr.toNat (op.toNat % 16 + 1)) = false →
    let hdr : List Byte := [op, addr.extractLsb' 16 8, addr.extractLsb' 8 8, addr.extractLsb' 0 8]
    ∃ t, exec (.hostWriteFrame op addr (some (crc8 hdr)) data (some (crc8 data)) true u) s = .next t ∧ s.lanesKept t ∧
      s.sh.regsBut [ MOD_HPCNT] t.sh ∧ t.sh.hpOut = hpAnswer 4 [] ∧
      t.sh.fld MOD_HPCNT MOD_HPCNT_BUSY = min 65535 (s.sh.fld MOD_HPCNT MOD_HPCNT_BUSY + 1)) ∧
  (∀ (op : Byte) (addr : BitVec 24) (data : List Byte) (dcrc : Option Byte) (whole : Bool) (u : Nat) (s : State),
    s.sh.start.phase ≠ .reset → s.sh.start.phase ≠ .released →
    ∃ t, exec (.hostWriteFrame op addr none data dcrc whole u) s = .next t ∧ s.lanesKept t ∧ s.sh.regsBut [ MOD_HPERR] t.sh ∧
      t.sh.hpOut = [] ∧ t.sh.fld MOD_HPERR MOD_HPERR_CUT = min 255 (s.sh.fld MOD_HPERR MOD_HPERR_CUT + 1))

/-- For every byte sequence, the CRC-8 equals the register of the serial code that starts at 0xFF and takes the bits of the bytes
in order, most significant first: it shifts left and, where the bit shifted out differs from the data bit, XORs 0x2F; nothing
is reflected or inverted at the end. (R537) -/
def Obligations.HostPortCodeIsBitwise : Prop :=
  ∀ bs : List Byte, crc8 bs = (bs.flatMap (fun b => (upTo 8).map (fun k => b.getMsbD k))).foldl
    (fun (c : BitVec 8) (x : Bool) => if c.getMsbD 0 != x then (c <<< 1) ^^^ 0x2F#8 else c <<< 1) 0xFF#8

/-- A write through the alias to a lane register waits in the lane with authority, and while the link is up in its link to the
other lane, until the boundary after it, or the one after that from 800 us on, and takes 125 ns of the write queue; where the
queue is full it has no effect, and one of the host port is counted as BUSY. A write through a lane view to a register that
is not lane-local raises the view-write-refused event alone; an unmapped, offline or absent place leaves the state as it is.
EVT_PEND clears the written ones, EVT_CNP takes the routable ones, CNT_CLR clears the ring counters and in bisque mode
nothing, and a read of CFG_WRW3 steps its index. (01_node_architecture.md (R40); 01_node_architecture.md (R41);
01_node_architecture.md (R43); 01_node_architecture.md (R48); 17_host_port_and_events.md (R543); 17_host_port_and_events.md
(R544); 17_host_port_and_events.md (R550); 17_host_port_and_events.md (R556); 06_engineer_call_and_ring.md (R215);
15_firing_image.md (R502)) -/
def Obligations.RegisterWritesAndSideEffects : Prop :=
  (∀ (addr : BitVec 22) (v : Word) (cnp : Bool) (u k : Nat) (s : State) (i : LaneId), s.sh.auth = some i →
    placeOf (4 * addr.toNat) = .lane .active k → s.writeStatus (.lane .active k) = 0 → windowOf k = none → k ≠ MEM_WSEL → k ≠ ALM_CMD →
    panelKey k = false ∨ s.sh.fld MOD_IDENT MOD_IDENT_GRADE ≠ 2 → s.sh.queued (s.sh.gt + u) + 1 ≤ 64 →
    ∃ t, exec (.registerWrite addr v cnp u) s = .next t ∧ t.sh.regs = s.sh.regs ∧ t.pending = s.pending ∧
      t.sh.wqEnd = max s.sh.wqEnd (s.sh.gt + u) + 125 ∧
      (∃ p ∈ (t.lane i).writes, p.key = k ∧ p.val = v ∧ p.acc = s.sh.gt + u ∧
        p.eff = s.sh.gt + (if u < 800000 then 1000000 else 2000000)) ∧
      (s.linkUp = true → ∃ p, (t.lane i).link.wfwd = (s.lane i).link.wfwd ++ [p] ∧ p.key = k ∧ p.val = v) ∧
      (s.linkUp = false → (t.lane i).link.wfwd = (s.lane i).link.wfwd) ∧
      t.lane i.other = s.lane i.other) ∧
  (∀ (addr : BitVec 22) (v : Word) (cnp : Bool) (u k : Nat) (i : LaneId) (s : State), placeOf (4 * addr.toNat) = .lane (.lane i) k →
    s.writeStatus (.lane (.lane i) k) = 2 →
    ∃ t, exec (.registerWrite addr v cnp u) s = .next t ∧ s.otherKept i t ∧ (s.lane i).regsBut [EVT_PEND (evViewRefused / 32)] (t.lane i) ∧
      bitOf ((t.lane i).rd (EVT_PEND (evViewRefused / 32))) (evViewRefused % 32) = true) ∧
  (∀ (addr : BitVec 22) (v : Word) (u k : Nat) (s : State), placeOf (4 * addr.toNat) = .lane .active k →
    64 < s.sh.queued (s.sh.gt + u) + 1 → exec (.registerWrite addr v true u) s = .next s) ∧
  (∀ (addr : BitVec 22) (v : Word) (u k : Nat) (s : State), placeOf (4 * addr.toNat) = .lane .active k →
    64 < s.sh.queued (s.sh.gt + u) + 1 →
    ∃ t, exec (.registerWrite addr v false u) s = .next t ∧ s.lanesKept t ∧ s.sh.regsBut [ MOD_HPCNT] t.sh ∧
      t.sh.fld MOD_HPCNT MOD_HPCNT_BUSY = min 65535 (s.sh.fld MOD_HPCNT MOD_HPCNT_BUSY + 1)) ∧
  (∀ (addr : BitVec 22) (v : Word) (cnp : Bool) (u : Nat) (s : State), s.sh.fits (s.sh.gt + u) [placeOf (4 * addr.toNat)] = true →
    s.writeStatus (placeOf (4 * addr.toNat)) = 1 ∨ s.writeStatus (placeOf (4 * addr.toNat)) = 6 ∨
      s.writeStatus (placeOf (4 * addr.toNat)) = 7 → exec (.registerWrite addr v cnp u) s = .next s) ∧
  (∀ (i : LaneId) (w : Fin 6) (v : Word) (s : State), (s.lane i).st ≠ .off → (s.lane i).st ≠ .bisque →
    ∃ t, exec (.evtPendClear i w v) s = .next t ∧ s.otherKept i t ∧ (s.lane i).regsBut [EVT_PEND w] (t.lane i) ∧
      (t.lane i).rd (EVT_PEND w) = (s.lane i).rd (EVT_PEND w) &&& ~~~ v) ∧
  (∀ (w : Fin 6) (v : Word) (s : State) (i : LaneId), (s.lane i).computes = true →
    ∃ t, exec (.evtCnpWrite w v) s = .next t ∧ s.sharedKept t ∧ (s.lane i).regsBut [EVT_CNP w] (t.lane i) ∧
      (t.lane i).rd (EVT_CNP w) = v &&& routeMask w) ∧
  (∀ s : State, s.sh.bisque = true → exec .cntClr s = .next s) ∧
  (∀ s : State, s.sh.bisque = false →
    ∃ t, exec .cntClr s = .next t ∧ s.lanesKept t ∧ s.sh.regsBut [RING_ERR, RING_TOK] t.sh ∧ t.sh.rd RING_ERR = 0#32 ∧
      t.sh.rd RING_TOK = 0#32) ∧
  (∀ (i : LaneId) (s : State), (s.lane i).st ≠ .off →
    ∃ t, exec (.cfgWrw3Read i) s = .next t ∧ s.otherKept i t ∧ (s.lane i).regsBut [CFG_WRIDX] (t.lane i) ∧
      (t.lane i).fld CFG_WRIDX CFG_WRIDX_INDEX = ((s.lane i).fld CFG_WRIDX CFG_WRIDX_INDEX + 1) % 512)

/-- A token is passed at once when nothing waits or the outputs are held, or held with the next frame sent, each frame with the
node as SRC, its LEN and its CRC; the first token at an open bypass closes the ring. A frame's return to its sender passes
the token; the return timeout, 250 us after its end, counts it lost. Every other frame is repeated out of the opposite port.
Station commands to the node and status of known stations enter the lanes' cuts, unknown ones are counted; a frame with a
wrong code or a violation counts as CRC error, one whose LEN or DST is none of the format as FMT. A call refresh falls due in
time for one a second. Other registers stay. RING_DIS keeping the node silent is the model's choice (log 45).
(06_engineer_call_and_ring.md (R182); 06_engineer_call_and_ring.md (R183); 06_engineer_call_and_ring.md (R198);
06_engineer_call_and_ring.md (R200); 06_engineer_call_and_ring.md (R202)) -/
def Obligations.RingRows : Prop :=
  (∀ (p : Port) (dst : BitVec 6) (src : BitVec 5) (u : Nat) (s : State), s.ringLive = true → dst.toNat < 32 ∨ dst.toNat = 63 →
    s.ringDis = false → s.sh.hold = true ∨ s.sh.ring.next (s.sh.gt + u) = none →
    let w := s.sh.gt + u
    ∃ t, exec (.ringToken p dst src u) s = .next t ∧ s.lanesKept t ∧ s.sh.regsBut [RING_STAT, RING_TOK] t.sh ∧
      t.sh.neighbour p = src.toNat ∧ t.sh.on RING_STAT RING_STAT_HOLDER = false ∧
      t.sh.fld RING_TOK RING_TOK_ROT = min 65535 ((w - s.sh.ring.visitAt) / 1000) ∧
      t.sh.ring.tokAt = w ∧ t.sh.ring.sent = none ∧
      t.sh.ring.lastTx = some ⟨.of (t.sh.tokenDst (s.sh.ringOut p)) s.sh.raddr 0x01 [], s.sh.ringOut p, w + ringNs 0⟩) ∧
  (∀ (p : Port) (dst : BitVec 6) (src : BitVec 5) (u : Nat) (ty to_ : Nat) (d : List Byte) (s : State), s.ringLive = true →
    dst.toNat < 32 ∨ dst.toNat = 63 → s.sh.hold = false → s.ringDis = false → s.sh.ring.next (s.sh.gt + u) = some (ty, to_, d) →
    let w := s.sh.gt + u
    ∃ t, exec (.ringToken p dst src u) s = .next t ∧ s.lanesKept t ∧ s.sh.regsBut [RING_STAT, RING_TOK] t.sh ∧
      t.sh.neighbour p = src.toNat ∧ t.sh.on RING_STAT RING_STAT_HOLDER = true ∧ t.sh.ring.tokAt = w ∧
      t.sh.ring.sent = some ⟨.of to_ s.sh.raddr ty d, s.sh.ringOut p, w + ringNs d.length⟩ ∧ t.sh.ring.lastTx = t.sh.ring.sent) ∧
  (∀ (dst : BitVec 6) (src : BitVec 5) (u : Nat) (s : State), s.ringOn = true → s.sh.on RING_STAT RING_STAT_BYPASS = true →
    dst.toNat < 32 ∨ dst.toNat = 63 → (∀ x ∈ s.sh.ring.opens, x.2 + 1000000000 ≤ s.sh.gt + u) →
    ∃ t, exec (.ringToken .A dst src u) s = .next t ∧ s.sh.regsBut [RING_STAT] t.sh ∧ t.sh.on RING_STAT RING_STAT_BYPASS = false ∧
      t.a.regs = s.a.regs ∧ t.b.regs = s.b.regs ∧ t.sh.ring.tokAt = s.sh.gt + u) ∧
  (∀ (u : Nat) (f : RingTx) (s : State), s.sh.ring.sent = some f → f.at_ + 250000 ≤ s.sh.gt + u → s.ringDis = false →
    ∃ t, exec (.frameReturnTimeout u) s = .next t ∧ s.lanesKept t ∧ s.sh.regsBut [RING_STAT, RING_TOK] t.sh ∧
      t.sh.fld RING_TOK RING_TOK_RETFAIL = min 255 (s.sh.fld RING_TOK RING_TOK_RETFAIL + 1) ∧ t.sh.ring.sent = none ∧
      t.sh.on RING_STAT RING_STAT_HOLDER = false ∧
      t.sh.ring.lastTx = some ⟨.of (t.sh.tokenDst f.port) s.sh.raddr 0x01 [], f.port, s.sh.gt + u + ringNs 0⟩) ∧
  (∀ (u : Nat) (s : State), s.sh.ring.callAt + 984000000 ≤ s.sh.gt + u →
    ∃ t, exec (.callRefresh u) s = .next t ∧ s.lanesKept t ∧ t.sh.regs = s.sh.regs ∧ t.sh.ring = { s.sh.ring with callDue := true }) ∧
  (∀ (p : Port) (dst : BitVec 6) (src : BitVec 5) (data : List Byte) (u type : Nat) (f : RingTx) (c : Instr) (s : State),
    (c, type) ∈ [(.ringCall p dst src data u, 0x08), (.cmdResp p dst src data u, 0x12)] → s.ringLive = true →
    dst.toNat < 32 ∨ dst.toNat = 63 → (if type = 0x08 then 8 else 5) ≤ data.length → data.length ≤ 16 → src.toNat = s.sh.raddr →
    s.sh.ring.sent = some f → f.frame.type = type → s.ringDis = false →
    ∃ t, exec c s = .next t ∧ s.lanesKept t ∧ s.sh.regsBut [RING_STAT] t.sh ∧ t.sh.ring.sent = none ∧
      t.sh.on RING_STAT RING_STAT_HOLDER = false ∧ t.sh.ring.rep = s.sh.ring.rep ∧
      t.sh.ring.lastTx = some ⟨.of (t.sh.tokenDst f.port) s.sh.raddr 0x01 [], f.port, s.sh.gt + u + ringNs 0⟩) ∧
  (∀ (p : Port) (dst : BitVec 6) (src : BitVec 5) (data : List Byte) (u type : Nat) (c : Instr) (s : State),
    (c, type) ∈ [(.ringCall p dst src data u, 0x08), (.cmdResp p dst src data u, 0x12)] → s.ringLive = true →
    dst.toNat < 32 ∨ dst.toNat = 63 → (if type = 0x08 then 8 else 5) ≤ data.length → data.length ≤ 16 → src.toNat ≠ s.sh.raddr →
    ∃ t, exec c s = .next t ∧ s.lanesKept t ∧ t.sh.regs = s.sh.regs ∧ t.sh.ring =
      { s.sh.ring.heard p (s.sh.gt + u) with rep := some (s.sh.ringOut p, RingFrame.of dst.toNat src.toNat type data) }) ∧
  (∀ (p : Port) (src : BitVec 5) (dst : BitVec 6) (op : Byte) (tgt : BitVec 16) (seq : Byte) (u k : Nat) (s : State) (i : LaneId),
    s.ringServes = true → dst.toNat = s.sh.raddr → s.lead.stationOf src.toNat = some k → (s.lane i).takes = true → 0 < u →
    ∃ t, exec (.stnCmd p src dst op tgt seq u) s = .next t ∧ t.sh.regs = s.sh.regs ∧ (t.lane i).regs = (s.lane i).regs ∧
      (t.lane i).cut.ring = (s.lane i).cut.ring ++ [⟨0x10, src.toNat, [op] ++ leBytes 2 tgt.toNat ++ [seq], s.sh.gt + u⟩]) ∧
  (∀ (p : Port) (dst : BitVec 6) (src : BitVec 5) (data : List Byte) (u k : Nat) (s : State) (i : LaneId), s.ringServes = true →
    dst.toNat < 32 ∨ dst.toNat = 63 → data.length ≤ 16 → s.lead.stationOf src.toNat = some k → (s.lane i).takes = true → 0 < u →
    ∃ t, exec (.stnStat p dst src data u) s = .next t ∧ t.sh.regs = s.sh.regs ∧ (t.lane i).regs = (s.lane i).regs ∧
      (t.lane i).cut.ring = (s.lane i).cut.ring ++ [⟨0x11, src.toNat, [], s.sh.gt + u⟩]) ∧
  (∀ (p : Port) (src : BitVec 5) (dst : BitVec 6) (op : Byte) (tgt : BitVec 16) (seq : Byte) (data : List Byte) (u : Nat) (c : Instr)
    (s : State), (c = .stnStat p dst src data u ∧ (dst.toNat < 32 ∨ dst.toNat = 63) ∧ data.length ≤ 16) ∨
      (c = .stnCmd p src dst op tgt seq u ∧ dst.toNat = s.sh.raddr) → s.ringServes = true → s.lead.stationOf src.toNat = none →
    ∃ t, exec c s = .next t ∧ s.lanesKept t ∧ s.sh.regsBut [RING_ERR] t.sh ∧
      t.sh.fld RING_ERR RING_ERR_UNKNOWN = min 255 (s.sh.fld RING_ERR RING_ERR_UNKNOWN + 1)) ∧
  (∀ (p : Port) (hdr crc : BitVec 16) (len : Byte) (data : List Byte) (viol : Bool) (u : Nat) (s : State), s.ringServes = true →
    viol = true ∨ crc ≠ ringCrc hdr len data →
    ∃ t, exec (.ringFrameCorrupt p hdr len data crc viol u) s = .next t ∧ s.lanesKept t ∧ s.sh.regsBut [RING_ERR] t.sh ∧
      t.sh.ring.probes p = (if s.sh.ring.probes p < 3 then 0 else s.sh.ring.probes p) ∧
      t.sh.ring.rep = some (s.sh.ringOut p, ⟨hdr, len, data, crc, viol⟩) ∧
      t.sh.fld RING_ERR RING_ERR_CRC = min 4095 (s.sh.fld RING_ERR RING_ERR_CRC + 1) ∧
      t.sh.fld RING_ERR RING_ERR_FMT = s.sh.fld RING_ERR RING_ERR_FMT) ∧
  (∀ (p : Port) (hdr : BitVec 16) (len : Byte) (data : List Byte) (u : Nat) (s : State), s.ringServes = true →
    16 < len.toNat ∨ (32 ≤ hdr.toNat / 1024 ∧ hdr.toNat / 1024 ≠ 63) ∨ len.toNat < (ringLen (hdr.toNat % 32)).getD 256 →
    ∃ t, exec (.ringFrameCorrupt p hdr len data (ringCrc hdr len data) false u) s = .next t ∧ s.lanesKept t ∧
      s.sh.regsBut [RING_ERR] t.sh ∧ t.sh.ring.rep = some (s.sh.ringOut p, ⟨hdr, len, data, ringCrc hdr len data, false⟩) ∧
      t.sh.fld RING_ERR RING_ERR_FMT = min 4095 (s.sh.fld RING_ERR RING_ERR_FMT + 1) ∧
      t.sh.fld RING_ERR RING_ERR_CRC = s.sh.fld RING_ERR RING_ERR_CRC)

/-- A port on which traffic is expected and silent for 40 ms becomes lost and wrapped with an OPEN frame (kept for the end of a
hold), two records and the event. OPEN frames enter the fault list or mark the own port; consecutive probes on a lost port
are counted, the third is answered CLOSED, and a port with CLOSED seen returns; CLOSED frames take their link out of the list
and its OPEN. The probe timer sends PROBE on a wrapped port; RING_DIS closes the bypass 40 ms later. How RING_FAULT leaves a
link and what waits for a hold's end are the model's choices (logs 33 and 79). (06_engineer_call_and_ring.md (R205);
06_engineer_call_and_ring.md (R206); 06_engineer_call_and_ring.md (R207); 06_engineer_call_and_ring.md (R208);
06_engineer_call_and_ring.md (R209); 06_engineer_call_and_ring.md (R211)) -/
def Obligations.RingWrapRows : Prop :=
  (∀ (p : Port) (u : Nat) (s : State) (i : LaneId), s.ringServes = true → s.sh.expects p = true → s.sh.on RING_STAT (lostFld p) = false →
    s.sh.ring.last p + 40000000 ≤ s.sh.gt + u → (s.lane i).takes = true →
    let d : List Byte := [BitVec.ofNat 8 (s.sh.neighbour p), BitVec.ofNat 8 p.num]
    ∃ t, exec (.portLost p u) s = .next t ∧ s.sh.regsBut [RING_STAT] t.sh ∧ (t.lane i).regs = (s.lane i).regs ∧
      t.sh.on RING_STAT (lostFld p) = true ∧ t.sh.on RING_STAT (wrapFld p) = true ∧
      (if s.sh.hold then t.sh.ring.owed = s.sh.ring.owed ++ [(0x03, d, p.other)]
        else t.sh.ring.lastTx = some ⟨.of 0x3F s.sh.raddr 0x03 d, p.other, s.sh.gt + u + ringNs 2⟩) ∧
      (t.lane i).cut.ev = (s.lane i).cut.ev ||| evBit evRingFault ||| evBit evRingFault ∧
      ∃ r q : Rec, (t.lane i).cut.recs = (s.lane i).cut.recs ++ [r] ++ [q] ∧ r.code = 0x0401 ∧ q.code = 0x0402) ∧
  (∀ (p : Port) (dst : BitVec 6) (src nbr : BitVec 5) (lost : Port) (u : Nat) (s : State), s.ringServes = true →
    dst.toNat < 32 ∨ dst.toNat = 63 → nbr.toNat ≠ s.sh.raddr → s.sh.on RING_FAULT RING_FAULT_V1 = false →
    s.sh.on RING_FAULT RING_FAULT_V2 = false →
    let k := linkOf src.toNat nbr.toNat lost.num
    ∃ t, exec (.ringOpen p dst src nbr lost u) s = .next t ∧ s.lanesKept t ∧ s.sh.regsBut [RING_FAULT, RING_STAT] t.sh ∧
      t.sh.on RING_FAULT RING_FAULT_V1 = true ∧ t.sh.fld RING_FAULT RING_FAULT_A1 = k.1 ∧ t.sh.fld RING_FAULT RING_FAULT_B1 = k.2 ∧
      t.sh.on RING_STAT RING_STAT_SPLIT = false ∧
      t.sh.ring.opens = s.sh.ring.opens.filter (fun x => x.1 != k) ++ [(k, s.sh.gt + u)]) ∧
  (∀ (p : Port) (dst : BitVec 6) (src nbr : BitVec 5) (lost : Port) (u : Nat) (s : State), s.ringServes = true →
    dst.toNat < 32 ∨ dst.toNat = 63 → nbr.toNat = s.sh.raddr → src.toNat ≠ s.sh.raddr →
    s.sh.on RING_STAT (lostFld (if lost.num = 0 then .B else .A)) = false →
    ∃ t, exec (.ringOpen p dst src nbr lost u) s = .next t ∧ s.sh.regsBut [RING_STAT, RING_FAULT] t.sh ∧ t.a.regs = s.a.regs ∧
      t.b.regs = s.b.regs ∧ t.sh.on RING_STAT (lostFld (if lost.num = 0 then .B else .A)) = true ∧
      t.sh.on RING_STAT (wrapFld (if lost.num = 0 then .B else .A)) = true) ∧
  (∀ (p : Port) (dst : BitVec 6) (src : BitVec 5) (u : Nat) (s : State), s.ringServes = true → dst.toNat < 32 ∨ dst.toNat = 63 →
    s.sh.on RING_STAT (lostFld p) = false →
    ∃ t, exec (.ringProbe p dst src u) s = .next t ∧ s.lanesKept t ∧ t.sh.regs = s.sh.regs ∧ 
      t.sh.ring = { (s.sh.ring.at_ p (s.sh.gt + u)) with rep := t.sh.ring.rep } ∧
      t.sh.ring.rep = (if src.toNat = s.sh.raddr then s.sh.ring.rep
        else some (s.sh.ringOut p, RingFrame.of dst.toNat src.toNat 0x04 []))) ∧
  (∀ (p : Port) (dst : BitVec 6) (src : BitVec 5) (u : Nat) (s : State), s.ringServes = true → dst.toNat < 32 ∨ dst.toNat = 63 →
    s.sh.on RING_STAT (lostFld p) = true → s.sh.ring.closed p = false →
    let d : List Byte := [BitVec.ofNat 8 (s.sh.neighbour p), BitVec.ofNat 8 p.num]
    ∃ t, exec (.ringProbe p dst src u) s = .next t ∧ s.lanesKept t ∧ t.sh.regs = s.sh.regs ∧
      t.sh.ring.probes p = s.sh.ring.probes p + 1 ∧
      (s.sh.ring.probes p = 2 → if s.sh.hold then t.sh.ring.owed = s.sh.ring.owed ++ [(0x05, d, p.other)]
        else t.sh.ring.lastTx = some ⟨.of 0x3F s.sh.raddr 0x05 d, p.other, s.sh.gt + u + ringNs 2⟩)) ∧
  (∀ (p : Port) (dst : BitVec 6) (src : BitVec 5) (u : Nat) (s : State), s.ringServes = true → dst.toNat < 32 ∨ dst.toNat = 63 →
    s.sh.on RING_STAT (lostFld p) = true → s.sh.ring.closed p = true → 2 ≤ s.sh.ring.probes p →
    ∃ t, exec (.ringProbe p dst src u) s = .next t ∧ s.sh.regsBut [RING_STAT] t.sh ∧ t.a.regs = s.a.regs ∧ t.b.regs = s.b.regs ∧
      t.sh.on RING_STAT (lostFld p) = false ∧ t.sh.on RING_STAT (wrapFld p) = false) ∧
  (∀ (p : Port) (dst : BitVec 6) (src nbr : BitVec 5) (lost : Port) (u : Nat) (s : State), s.ringServes = true →
    dst.toNat < 32 ∨ dst.toNat = 63 → nbr.toNat ≠ s.sh.raddr →
    let k := linkOf src.toNat nbr.toNat lost.num
    s.sh.on RING_FAULT RING_FAULT_V1 = true → s.sh.fld RING_FAULT RING_FAULT_A1 = k.1 → s.sh.fld RING_FAULT RING_FAULT_B1 = k.2 →
    ∃ t, exec (.ringClosed p dst src nbr lost u) s = .next t ∧ s.lanesKept t ∧ s.sh.regsBut [RING_FAULT, RING_STAT] t.sh ∧
      t.sh.on RING_FAULT RING_FAULT_V1 = false ∧ t.sh.on RING_STAT RING_STAT_SPLIT = false ∧
      t.sh.ring.opens = s.sh.ring.opens.filter (fun x => x.1 != k)) ∧
  (∀ (p : Port) (dst : BitVec 6) (src nbr : BitVec 5) (lost : Port) (u : Nat) (s : State), s.ringServes = true →
    dst.toNat < 32 ∨ dst.toNat = 63 → nbr.toNat = s.sh.raddr → src.toNat ≠ s.sh.raddr →
    s.sh.on RING_STAT (lostFld (if lost.num = 0 then .B else .A)) = true → 3 ≤ s.sh.ring.probes (if lost.num = 0 then .B else .A) →
    ∃ t, exec (.ringClosed p dst src nbr lost u) s = .next t ∧ s.sh.regsBut [RING_STAT, RING_FAULT] t.sh ∧ t.a.regs = s.a.regs ∧
      t.b.regs = s.b.regs ∧ t.sh.on RING_STAT (lostFld (if lost.num = 0 then .B else .A)) = false ∧
      t.sh.on RING_STAT (wrapFld (if lost.num = 0 then .B else .A)) = false) ∧
  (∀ (p : Port) (u : Nat) (s : State), s.ringServes = true → s.sh.hold = false → s.sh.on RING_STAT (wrapFld p) = true →
    s.sh.ring.probeAt p + 100000000 ≤ s.sh.gt + u →
    ∃ t, exec (.probeTimer p u) s = .next t ∧ s.lanesKept t ∧ t.sh.regs = s.sh.regs ∧ t.sh.ring.probeAt p = s.sh.gt + u ∧
      t.sh.ring.lastTx = some ⟨.of 0x3F s.sh.raddr 0x04 [], p, s.sh.gt + u + ringNs 0⟩) ∧
  (∀ (u d : Nat) (s : State), s.sh.ring.disAt = some d → d + 40000000 ≤ s.sh.gt + u → s.sh.on RING_STAT RING_STAT_BYPASS = false →
    ∃ t, exec (.ringDisTimeout u) s = .next t ∧ s.sh.regsBut [RING_STAT] t.sh ∧ t.a.regs = s.a.regs ∧ t.b.regs = s.b.regs ∧
      t.sh.on RING_STAT RING_STAT_BYPASS = true ∧ t.sh.on RING_STAT RING_STAT_HOLDER = false ∧
      t.sh.on RING_STAT RING_STAT_CLAIMING = false)

/-- A node that has received no token for 40 ms + 0.5 ms x RADDR sends CLAIM, shows CLAIMING, increments TLOSS and raises and
records the loss; during a hold it sends none. A node that claims drops its claim at a CLAIM from a lower ring address, keeps
it at a higher one and repeats both; when its own CLAIM returns it issues a new TOKEN. (06_engineer_call_and_ring.md (R204);
06_engineer_call_and_ring.md (R205); 06_engineer_call_and_ring.md (R191)) -/
def Obligations.TokenLossAndClaims : Prop :=
  (∀ (p : Port) (dst : BitVec 6) (src : BitVec 5) (u : Nat) (s : State), s.ringServes = true →
    s.sh.on RING_STAT RING_STAT_CLAIMING = true → dst.toNat < 32 ∨ dst.toNat = 63 →
    ∃ t, exec (.ringClaim p dst src u) s = .next t ∧ s.sh.regsBut [RING_STAT] t.sh ∧ t.a.regs = s.a.regs ∧ t.b.regs = s.b.regs ∧
      t.sh.on RING_STAT RING_STAT_CLAIMING = decide (s.sh.raddr < src.toNat) ∧
      (src.toNat = s.sh.raddr → t.sh.ring.lastTx =
        some ⟨.of (t.sh.tokenDst (s.sh.ringOut .A)) s.sh.raddr 0x01 [], s.sh.ringOut .A, s.sh.gt + u + ringNs 0⟩) ∧
      (src.toNat ≠ s.sh.raddr → t.sh.ring.lastTx = s.sh.ring.lastTx ∧
        t.sh.ring.rep = some (s.sh.ringOut p, RingFrame.of dst.toNat src.toNat 0x02 []))) ∧
  (∀ (u : Nat) (s : State) (i : LaneId), s.ringServes = true → s.sh.hold = false →
    s.sh.ring.tokAt + 40000000 + 500000 * s.sh.raddr ≤ s.sh.gt + u → (s.lane i).takes = true →
    ∃ t, exec (.tokenLoss u) s = .next t ∧ s.sh.regsBut [RING_STAT, RING_TOK] t.sh ∧ (t.lane i).regs = (s.lane i).regs ∧
      t.sh.on RING_STAT RING_STAT_CLAIMING = true ∧
      t.sh.fld RING_TOK RING_TOK_TLOSS = min 255 (s.sh.fld RING_TOK RING_TOK_TLOSS + 1) ∧
      t.sh.ring.lastTx = some ⟨.of 0x3F s.sh.raddr 0x02 [], s.sh.ringOut .A, s.sh.gt + u + ringNs 0⟩ ∧
      (t.lane i).cut.ev = (s.lane i).cut.ev ||| evBit evRingFault ∧
      ∃ r : Rec, (t.lane i).cut.recs = (s.lane i).cut.recs ++ [r] ∧ r.code = 0x0403) ∧
  (∀ (u : Nat) (s : State), s.sh.hold = true → exec (.tokenLoss u) s = .next s)

/-- VSYS_LOST sets below 16.0 V and clears from 17.0 V with its counters, records and event, or at once trips where the stored
energy is below EFL; warnings, HOLD_OK, ON_HOLD, EMG, the measured capacitance and the oscillator flag follow their rows and
thresholds. The trip signals the loss and switches off five domains; the drained flush or an exhausted hold-up ends in a
POWER_ON reset that keeps stores and NOR. A planning epoch steps ELVL down at normal supply and to 3 with an empty emergency
budget. (20_supplies_and_domains.md (R605); 20_supplies_and_domains.md (R606); 20_supplies_and_domains.md (R607);
20_supplies_and_domains.md (R608); 20_supplies_and_domains.md (R609); 20_supplies_and_domains.md (R610);
20_supplies_and_domains.md (R617); 21_energy_and_thermal_ledger.md (R628); 21_energy_and_thermal_ledger.md (R630);
21_energy_and_thermal_ledger.md (R633); 19_clock_islands.md (R582)) -/
def Obligations.SupplyRows : Prop :=
  (∀ (vs v : BitVec 16) (u : Nat) (s : State) (i : LaneId), vs.toNat < 1600 → s.sh.on PWR_SUP PWR_SUP_VSYS_LOST = false →
    (∀ j, (s.lane j).fld PWR_LHOLD PWR_LHOLD_EFL ≤ holdEnergy ((s.lane j).fld PWR_LCFG PWR_LCFG_HOLD_C) v.toNat) →
    (s.lane i).takes = true →
    ∃ t, exec (.vsysLostSet vs v u) s = .next t ∧ s.sh.regsBut [PWR_SUP, PWR_SUPCNT] t.sh ∧ (t.lane i).regs = (s.lane i).regs ∧
      t.sh.on PWR_SUP PWR_SUP_VSYS_LOST = true ∧ t.sh.on PWR_SUP PWR_SUP_CHARGING = false ∧
      t.sh.fld PWR_SUPCNT PWR_SUPCNT_LOSSES = min 65535 (s.sh.fld PWR_SUPCNT PWR_SUPCNT_LOSSES + 1) ∧ t.sh.pwr.lossAt = s.sh.gt + u ∧
      (t.lane i).cut.ev = (s.lane i).cut.ev ||| evBit evSupply ∧
      ∃ r : Rec, (t.lane i).cut.recs = (s.lane i).cut.recs ++ [r] ∧ r.code = 0x0E01 ∧ r.p0 = 1#32 ∧ r.p1 = w32 v.toNat) ∧
  (∀ (vs v : BitVec 16) (u : Nat) (s : State) (i : LaneId), vs.toNat < 1600 → s.sh.on PWR_SUP PWR_SUP_VSYS_LOST = false → s.sh.pwr.tripped = false →
    (s.lane i).takes = true → s.sh.auth = some i →
    holdEnergy ((s.lane i).fld PWR_LCFG PWR_LCFG_HOLD_C) v.toNat < (s.lane i).fld PWR_LHOLD PWR_LHOLD_EFL →
    ∃ t, exec (.vsysLostSet vs v u) s = .next t ∧ (t.lane i).on PWR_LST PWR_LST_HOLD_SHORT = true ∧ t.sh.lossSig = some 0 ∧
      t.sh.pwr.tripped = true) ∧
  (∀ (vs v : BitVec 16) (u : Nat) (s : State) (i : LaneId), 1700 ≤ vs.toNat → s.sh.on PWR_SUP PWR_SUP_VSYS_LOST = true → s.sh.pwr.flushed = false →
    (s.lane i).takes = true →
    ∃ t, exec (.vsysLostClear vs v u) s = .next t ∧ s.sh.regsBut [PWR_SUP, PWR_SUPCNT] t.sh ∧ (t.lane i).regs = (s.lane i).regs ∧
      t.sh.on PWR_SUP PWR_SUP_VSYS_LOST = false ∧ t.sh.on PWR_SUP PWR_SUP_CHARGING = true ∧
      t.sh.fld PWR_SUPCNT PWR_SUPCNT_RIDES = min 65535 (s.sh.fld PWR_SUPCNT PWR_SUPCNT_RIDES + 1) ∧
      ∃ r : Rec, (t.lane i).cut.recs = (s.lane i).cut.recs ++ [r] ∧ r.code = 0x0E01 ∧ r.p0 = 0#32 ∧ r.p1 = w32 v.toNat ∧
        r.p2 = w32 ((s.sh.gt + u - s.sh.pwr.lossAt) / 1000000)) ∧
  (∀ (f : Fin 4) (v : Bool) (x : BitVec 16) (s : State) (i : LaneId), s.sh.on PWR_SUP (warnFld f) ≠ v →
    (f.val = 0 → if v then x.toNat < 1800 else 1850 ≤ x.toNat) → (f.val = 2 → if v then x.toNat < 2000 else 2050 ≤ x.toNat) →
    (f.val = 1 ∨ f.val = 3 → if v then 3250 < x.toNat else x.toNat ≤ 3200) → (s.lane i).takes = true →
    ∃ t, exec (.supplyWarningChange f v x) s = .next t ∧ s.sh.regsBut [PWR_SUP] t.sh ∧ (t.lane i).regs = (s.lane i).regs ∧
      t.sh.on PWR_SUP (warnFld f) = v ∧ (t.lane i).cut.ev = (s.lane i).cut.ev ||| evBit evSupply ∧
      ∃ r : Rec, (t.lane i).cut.recs = (s.lane i).cut.recs ++ [r] ∧ r.code = 0x0E02 ∧ r.p0 = w32 f.val ∧ r.p1 = w32 v.toNat) ∧
  (∀ (x : BitVec 16) (s : State) (i : LaneId), s.sh.on PWR_SUP PWR_SUP_HOLD_OK = false → 1400 ≤ x.toNat → (s.lane i).takes = true →
    ∃ t, exec (.holdOkChange true x) s = .next t ∧ s.sh.regsBut [PWR_SUP] t.sh ∧ (s.lane i).regsBut [PWR_LST] (t.lane i) ∧
      t.sh.on PWR_SUP PWR_SUP_HOLD_OK = true ∧ (t.lane i).on PWR_LST PWR_LST_HOLD_SHORT = false ∧
      ∃ r : Rec, (t.lane i).cut.recs = (s.lane i).cut.recs ++ [r] ∧ r.code = 0x0E03 ∧ r.p0 = 1#32) ∧
  (∀ (x : BitVec 16) (s : State) (i : LaneId), s.sh.on PWR_SUP PWR_SUP_HOLD_OK = true → x.toNat < 1350 → (s.lane i).takes = true →
    ∃ t, exec (.holdOkChange false x) s = .next t ∧ s.sh.regsBut [PWR_SUP] t.sh ∧ (t.lane i).regs = (s.lane i).regs ∧
      t.sh.on PWR_SUP PWR_SUP_HOLD_OK = false) ∧
  (∀ (v : Bool) (s : State) (i : LaneId), s.sh.on PWR_SUP PWR_SUP_ON_HOLD ≠ v → (s.lane i).takes = true →
    ∃ t, exec (.onHoldChange v) s = .next t ∧ s.sh.regsBut [PWR_SUP] t.sh ∧ (t.lane i).regs = (s.lane i).regs ∧
      t.sh.on PWR_SUP PWR_SUP_ON_HOLD = v ∧ (t.lane i).cut.ev = (s.lane i).cut.ev ||| evBit evSupply) ∧
  (∀ (v : Bool) (s : State) (i : LaneId), s.sh.on PWR_SUP PWR_SUP_EMG ≠ v → (s.lane i).takes = true →
    ∃ t, exec (.emgChange v) s = .next t ∧ s.sh.regsBut [PWR_SUP] t.sh ∧ (t.lane i).regs = (s.lane i).regs ∧
      t.sh.on PWR_SUP PWR_SUP_EMG = v ∧
      ∃ r : Rec, (t.lane i).cut.recs = (s.lane i).cut.recs ++ [r] ∧ r.code = 0x0E04 ∧ r.p0 = w32 v.toNat) ∧
  (∀ (c : BitVec 16) (s : State) (i : LaneId), (s.lane i).takes = true →
    ∃ t, exec (.capacitanceMeasured c) s = .next t ∧ s.sh.regsBut [PWR_SUP, PWR_HOLD] t.sh ∧ (t.lane i).regs = (s.lane i).regs ∧
      t.sh.fld PWR_HOLD PWR_HOLD_CMEAS = c.toNat ∧ t.sh.on PWR_HOLD PWR_HOLD_CVALID = true ∧
      t.sh.on PWR_SUP PWR_SUP_HOLD_SMALL = decide (c.toNat * 10 < s.lead.fld PWR_LCFG PWR_LCFG_HOLD_C * 9)) ∧
  (∀ s : State,
    ∃ t, exec .oscillatorCheckFailure s = .next t ∧ s.lanesKept t ∧ s.sh.regsBut [CLK_ST] t.sh ∧ t.sh.on CLK_ST CLK_ST_OSCSRC = true) ∧
  (∀ (v : BitVec 16) (u : Nat) (s : State), v.toNat ≤ s.sh.fld PWR_LTRIP PWR_LTRIP_VTRIP → s.sh.pwr.tripped = false →
    s.sh.on PWR_SUP PWR_SUP_VSYS_LOST = true →
    ∃ t, exec (.powerLossTrip v u) s = .next t ∧ t.sh.lossSig = some 0 ∧ t.sh.pwr.tripped = true ∧
      (∀ d, d ∈ [7, 8, 9, 10, 13] → t.sh.on (PWR_DST d) PWR_DST_ON = false) ∧ t.a.regs = s.a.regs ∧ t.b.regs = s.b.regs) ∧
  (∀ s : State, s.sh.pwr.flushed = true → s.sh.on PWR_SUP PWR_SUP_VSYS_LOST = false → s.a.drained = true → s.b.drained = true →
    s.a.allCounted = true → s.b.allCounted = true →
    ∃ t, exec .flushComplete s = .next t ∧ t.sh.start.phase = .reset ∧ t.sh.start.cause = 1 ∧ t.a.st = .off ∧ t.b.st = .off ∧
      t.a.store = s.a.commitLast.store ∧ t.b.store = s.b.commitLast.store ∧ t.sh.nor = s.sh.nor) ∧
  (∀ s : State, s.sh.on PWR_SUP PWR_SUP_VSYS_LOST = true →
    ∃ t, exec .vholdExhausted s = .next t ∧ t.sh.start.phase = .reset ∧ t.sh.start.cause = 1 ∧ t.a.st = .off ∧ t.b.st = .off ∧
      t.a.store = s.a.commitLast.store ∧ t.b.store = s.b.commitLast.store ∧ t.sh.nor = s.sh.nor) ∧
  (∀ (s : State) (i : LaneId), (s.lane i).working = true → (s.lane i).led.due = true → (s.lane i).hwOn PWR_SUP PWR_SUP_VSYS_LOST = false →
    (s.lane i).hwOn PWR_SUP PWR_SUP_EMG = false → (s.lane i).fld PWR_LTCFG PWR_LTCFG_PLIM = 0 →
    ∃ t, exec .planningEpoch s = .next t ∧ s.sharedKept t ∧ (s.lane i).regsBut [PWR_LST] (t.lane i) ∧
      (t.lane i).fld PWR_LST PWR_LST_ELVL = (s.lane i).fld PWR_LST PWR_LST_ELVL - 1 ∧ (t.lane i).led.due = false ∧
      (t.lane i).led.pm = (s.lane i).led.sumP / max 1 (s.lane i).led.num ∧ (t.lane i).led.num = 0) ∧
  (∀ (s : State) (i : LaneId), (s.lane i).working = true → (s.lane i).led.due = true → (s.lane i).hwOn PWR_SUP PWR_SUP_VSYS_LOST = false →
    (s.lane i).hwOn PWR_SUP PWR_SUP_EMG = true → (s.lane i).fld PWR_LEBUD PWR_LEBUD_EBUD = 0 →
    (s.lane i).fld PWR_LTCFG PWR_LTCFG_PLIM = 0 →
    ∃ t, exec .planningEpoch s = .next t ∧ s.sharedKept t ∧ (s.lane i).regsBut [PWR_LST] (t.lane i) ∧
      (t.lane i).fld PWR_LST PWR_LST_ELVL = 3)

/-- A domain in the start order switches on once its predecessors were tried, a core domain letting its lane fire. A fault
switches a domain off, shows its cause, counts per 60 s window and latches a retried domain at the third; a fault of an
always-on domain is a POWER_ON reset. A retry after 100 ms switches it on again; after a power-loss trip none happens. A
failed switch-on counts as under-voltage: the model's choice (log 53). (20_supplies_and_domains.md (R613);
20_supplies_and_domains.md (R615); 20_supplies_and_domains.md (R616)) -/
def Obligations.DomainRows : Prop :=
  (∀ (d : Fin 14) (s : State), s.sh.startDomains.contains d.val = true → s.sh.tried d = false →
    (s.sh.startDomains.takeWhile (· != d.val)).all s.sh.tried = true →
    ∃ t, exec (.domainSwitchOn d true) s = .next t ∧ t.sh.on (PWR_DST d) PWR_DST_ON = true ∧ t.sh.on (PWR_DST d) PWR_DST_GOOD = true ∧
      t.sh.on PWR_DOM ⟨d, 1⟩ = true ∧ (d.val = 5 → s.sh.bisque = false → t.a.st = .firing) ∧
      (d.val = 6 → s.sh.bisque = false → t.b.st = .firing)) ∧
  (∀ (d : Fin 14) (cause : BitVec 2) (u : Nat) (s : State), 3 ≤ d.val → s.sh.on (PWR_DST d) PWR_DST_ON = true → cause ≠ 0#2 →
    let n := if s.sh.pwr.win = (s.sh.gt + u) / 60000000000 then s.sh.pwr.faults.at 0 d.val + 1 else 1
    let latch := retried d && decide (3 ≤ n)
    ∃ t, exec (.domainFault d cause u) s = .next t ∧ t.sh.on (PWR_DST d) PWR_DST_ON = false ∧
      t.sh.on (PWR_DST d) PWR_DST_GOOD = false ∧ t.sh.fld (PWR_DST d) PWR_DST_CAUSE = cause.toNat ∧
      t.sh.on (PWR_DST d) PWR_DST_LATCHED = latch ∧ t.sh.on (PWR_DST d) PWR_DST_FAULT = !latch ∧
      t.sh.fld (PWR_DST d) PWR_DST_WCNT = min 3 n ∧ t.sh.pwr.faults.at 0 d.val = n ∧
      t.sh.fld (PWR_DST d) PWR_DST_FAULTS = min 255 (s.sh.fld (PWR_DST d) PWR_DST_FAULTS + 1)) ∧
  (∀ (d : Fin 14) (cause : BitVec 2) (u : Nat) (s : State), d.val < 3 → s.sh.on (PWR_DST d) PWR_DST_ON = true → cause ≠ 0#2 →
    ∃ t, exec (.domainFault d cause u) s = .next t ∧ t.sh.start.phase = .reset ∧ t.sh.start.cause = 1 ∧ t.a.st = .off ∧ t.b.st = .off) ∧
  (∀ (d : Fin 14) (good : Bool) (u : Nat) (s : State), s.sh.pwr.tripped = true → exec (.domainRetry d good u) s = .next s) ∧
  (∀ (d : Fin 14) (u : Nat) (s : State), retried d = true → s.sh.pwr.tripped = false → s.sh.on (PWR_DST d) PWR_DST_FAULT = true →
    s.sh.pwr.faultAt.at 0 d.val + 100000000 ≤ s.sh.gt + u →
    ∃ t, exec (.domainRetry d true u) s = .next t ∧ t.sh.on (PWR_DST d) PWR_DST_ON = true ∧ t.sh.on (PWR_DST d) PWR_DST_GOOD = true ∧
      t.sh.on (PWR_DST d) PWR_DST_FAULT = false ∧ t.sh.on (PWR_DST d) PWR_DST_LATCHED = s.sh.on (PWR_DST d) PWR_DST_LATCHED)

/-- TEST_LOGIC_RESET selects IDCODE in Test-Logic-Reset. A rising edge moves the state by TMS, shifts TDI in or captures the code
of the part; a falling edge changes TDO and, in Update-IR, the instruction, EXTEST, HIGHZ and CLAMP becoming BYPASS outside
reset; an edge to the level TCK already has changes nothing. From any state, five clocks with TMS high end in Test-Logic-
Reset with IDCODE and TDO off. What the standard adds to the spec is presumed (log 50). (22_lands_and_package.md (R661);
22_lands_and_package.md (R662); 22_lands_and_package.md (R663); 22_lands_and_package.md (R664)) -/
def Obligations.TestPortRows : Prop :=
  (∀ s : State,
    ∃ t, exec .testLogicReset s = .next t ∧ s.lanesKept t ∧ t.sh = { s.sh with tap := { s.sh.tap with st := .reset, instr := irIdcode, tdo := none } }) ∧
  (∀ (tms tdi : Bool) (cells : BitVec 40) (s : State), s.sh.tap.tck = false →
    ∃ t, exec (.tckEdge true tms tdi cells) s = .next t ∧ s.lanesKept t ∧ t.sh.regs = s.sh.regs ∧ t.sh.tap.st = s.sh.tap.st.next tms ∧
      t.sh.tap.tck = true ∧ t.sh.tap.instr = s.sh.tap.instr ∧ t.sh.tap.tdo = s.sh.tap.tdo ∧
      (s.sh.tap.st = .shDr → t.sh.tap.dr = s.sh.tap.dr.drop 1 ++ [tdi]) ∧
      (s.sh.tap.st = .capDr → s.sh.tap.instr = irIdcode → t.sh.tap.dr = bitsOf (idcode s.sh.grade))) ∧
  (∀ (tms tdi : Bool) (cells : BitVec 40) (s : State), s.sh.tap.tck = true →
    ∃ t, exec (.tckEdge false tms tdi cells) s = .next t ∧ s.lanesKept t ∧ t.sh.regs = s.sh.regs ∧ t.sh.tap.st = s.sh.tap.st ∧
      t.sh.tap.tck = false ∧ (s.sh.tap.st = .shDr → t.sh.tap.tdo = some (s.sh.tap.dr.headD false)) ∧
      (s.sh.tap.st ≠ .shDr → s.sh.tap.st ≠ .shIr → t.sh.tap.tdo = none) ∧
      (s.sh.tap.st = .upIr → t.sh.tap.instr = irSelect s.sh.start.rstn s.sh.tap.ir)) ∧
  (∀ (rise tms tdi : Bool) (cells : BitVec 40) (s : State), s.sh.tap.tck = rise → exec (.tckEdge rise tms tdi cells) s = .next s) ∧
  (∀ (grade : Nat) (rstn : Bool) (x : Tap) (pulses : List (Bool × BitVec 40)), 5 ≤ pulses.length →
    let y := pulses.foldl (fun x p => (x.rise grade true p.1 p.2).fall rstn) x
    y.st = .reset ∧ y.instr = irIdcode ∧ y.tdo = none)
end

