-- ==== Sys2Proof/Laws/Lane.lean ====
section
/-! SUPPORT. Operations of a lane that leave the contents of its banks alone (R580–R586): for each one lemma, which every law about bank memory cites. -/

namespace Sys2Proof.Machine

@[simp] theorem foldl_mem {α : Type} (f : Lane → α → Lane) (h : ∀ l x, (f l x).mem = l.mem) (xs : List α) (l : Lane) :
    (xs.foldl f l).mem = l.mem := by
  induction xs generalizing l with
  | nil => rfl
  | cons x xs ih => simp [ih, h]

@[simp] theorem foldl_fst_mem {α β : Type} (f : Lane × β → α → Lane × β) (h : ∀ x a, (f x a).1.mem = x.1.mem) (xs : List α) (x : Lane × β) :
    (xs.foldl f x).1.mem = x.1.mem := by
  induction xs generalizing x with
  | nil => rfl
  | cons y ys ih => simp [ih, h]

@[simp] theorem ite_mem (c : Prop) [Decidable c] (a b : Lane) : (if c then a else b).mem = if c then a.mem else b.mem := by
  split <;> rfl

@[simp] theorem Lane.wr_mem (l : Lane) (k : Nat) (w : Word) :
    (Lane.wr l k w).mem = l.mem := by
  unfold Lane.wr
  simp

@[simp] theorem Lane.setF_mem (l : Lane) (k : Nat) (f : Fld) (v : Nat) :
    (Lane.setF l k f v).mem = l.mem := by
  unfold Lane.setF
  simp

@[simp] theorem Lane.setB_mem (l : Lane) (k : Nat) (f : Fld) (v : Bool) :
    (Lane.setB l k f v).mem = l.mem := by
  unfold Lane.setB
  simp

@[simp] theorem Lane.bump_mem (l : Lane) (k : Nat) (f : Fld) (n : Nat) :
    (Lane.bump l k f n).mem = l.mem := by
  unfold Lane.bump
  simp

@[simp] theorem Lane.wrap_mem (l : Lane) (k : Nat) (f : Fld) (n : Nat) :
    (Lane.wrap l k f n).mem = l.mem := by
  unfold Lane.wrap
  simp

@[simp] theorem Lane.ev_mem (l : Lane) (e : Nat) :
    (Lane.ev l e).mem = l.mem := by
  unfold Lane.ev
  simp

@[simp] theorem Lane.evCut_mem (l : Lane) (e : Nat) :
    (Lane.evCut l e).mem = l.mem := by
  unfold Lane.evCut
  simp

@[simp] theorem Lane.evNow_mem (l : Lane) (e : Nat) :
    (Lane.evNow l e).mem = l.mem := by
  unfold Lane.evNow
  simp

@[simp] theorem Lane.record_mem (l : Lane) (code : Nat) (time : Nat) (p0 : Word) (p1 : Word) (p2 : Word) (p3 : Word) (rank : Nat) :
    (Lane.record l code time p0 p1 p2 p3 rank).mem = l.mem := by
  unfold Lane.record
  simp

@[simp] theorem Lane.recCut_mem (l : Lane) (code : Nat) (time : Nat) (p0 : Word) (p1 : Word) (p2 : Word) (p3 : Word) :
    (Lane.recCut l code time p0 p1 p2 p3).mem = l.mem := by
  unfold Lane.recCut
  simp

@[simp] theorem Lane.keepStatus_mem (l : Lane) :
    (Lane.keepStatus l).mem = l.mem := by
  unfold Lane.keepStatus
  simp

@[simp] theorem Lane.setAo_mem (l : Lane) (n : Nat) (w : AoWork) :
    (Lane.setAo l n w).mem = l.mem := by
  unfold Lane.setAo
  simp

@[simp] theorem Lane.aoFlag_mem (l : Lane) (g : Nat) (n : Nat) (bit : Nat) (v : Bool) :
    (Lane.aoFlag l g n bit v).mem = l.mem := by
  unfold Lane.aoFlag
  simp

@[simp] theorem Lane.devChange_mem (g : Nat) (l : Lane) (n : Nat) :
    (Lane.devChange g l n).mem = l.mem := by
  unfold Lane.devChange
  simp

@[simp] theorem Lane.devSweep_mem (g : Nat) (l : Lane) :
    (Lane.devSweep g l).mem = l.mem := by
  unfold Lane.devSweep
  simp

@[simp] theorem Lane.takeWord_mem (l : Lane) (w : TWord) :
    (Lane.takeWord l w).mem = l.mem := by
  unfold Lane.takeWord
  simp

@[simp] theorem Lane.takeInj_mem (r : InjRes) (l : Lane) :
    (Lane.takeInj r l).mem = l.mem := by
  unfold Lane.takeInj
  simp

@[simp] theorem Lane.ainNote_mem (l : Lane) (op : Nat) (ch : Nat) :
    (Lane.ainNote l op ch).mem = l.mem := by
  unfold Lane.ainNote
  simp

@[simp] theorem Lane.ainEffect_mem (l : Lane) (op : Nat) (ch : Nat) (arg : Nat) :
    (Lane.ainEffect l op ch arg).mem = l.mem := by
  unfold Lane.ainEffect
  (repeat' split) <;> (try simp)

@[simp] theorem Lane.ainCmd_mem (h : Shared) (op : Nat) (ch : Nat) (arg : Nat) (l : Lane) :
    (Lane.ainCmd h op ch arg l).mem = l.mem := by
  unfold Lane.ainCmd
  simp

@[simp] theorem Lane.setChan_mem (l : Lane) (n : Nat) (c : ChanWork) :
    (Lane.setChan l n c).mem = l.mem := by
  unfold Lane.setChan
  simp

@[simp] theorem Lane.holdNoPath_mem (l : Lane) (n : Nat) :
    (Lane.holdNoPath l n).mem = l.mem := by
  unfold Lane.holdNoPath
  simp

@[simp] theorem Lane.holdStale_mem (l : Lane) (n : Nat) :
    (Lane.holdStale l n).mem = l.mem := by
  unfold Lane.holdStale
  simp

@[simp] theorem Lane.useWord_mem (l : Lane) (n : Nat) (w : TWord) (rangeTr : Bool) (inj : Bool) :
    (Lane.useWord l n w rangeTr inj).mem = l.mem := by
  unfold Lane.useWord
  simp
  (repeat' split) <;> (try simp)

@[simp] theorem Lane.goSingle_mem (l : Lane) (n : Nat) (src : Path) (cause : Nat) :
    (Lane.goSingle l n src cause).mem = l.mem := by
  unfold Lane.goSingle
  simp

@[simp] theorem Lane.restoreCheck_mem (l : Lane) (n : Nat) (upA : Bool) (upB : Bool) (a : Option TWord) (b : Option TWord) :
    (Lane.restoreCheck l n upA upB a b).mem = l.mem := by
  unfold Lane.restoreCheck
  simp

@[simp] theorem Lane.agreeSingle_mem (l : Lane) (n : Nat) (a : Option TWord) (b : Option TWord) :
    (Lane.agreeSingle l n a b).mem = l.mem := by
  unfold Lane.agreeSingle
  (repeat' split) <;> (try simp)

@[simp] theorem Lane.agreeBoth_mem (l : Lane) (n : Nat) (a : TWord) (b : TWord) :
    (Lane.agreeBoth l n a b).mem = l.mem := by
  unfold Lane.agreeBoth
  simp

@[simp] theorem Lane.agree_mem (l : Lane) (n : Nat) (a : Option TWord) (b : Option TWord) :
    (Lane.agree l n a b).mem = l.mem := by
  unfold Lane.agree
  simp
  (repeat' split) <;> (try simp)

@[simp] theorem Lane.injTaken_mem (l : Lane) (r : InjRes) :
    (Lane.injTaken l r).mem = l.mem := by
  unfold Lane.injTaken
  simp

@[simp] theorem Lane.agreeAll_mem (ws : List TWord) (n : Nat) (ats : List Nat) (l : Lane) :
    (Lane.agreeAll ws n ats l).mem = l.mem := by
  unfold Lane.agreeAll
  simp

@[simp] theorem Lane.measureChan_mem (h : Shared) (ws : List TWord) (b : Nat) (l : Lane) (n : Nat) :
    (Lane.measureChan h ws b l n).mem = l.mem := by
  unfold Lane.measureChan
  simp

@[simp] theorem Lane.measure_mem (h : Shared) (b : Nat) (l : Lane) :
    (Lane.measure h b l).mem = l.mem := by
  unfold Lane.measure
  simp

@[simp] theorem Lane.agreeLate_mem (n : Nat) (p : Lane → Lane → Bool) (l : Lane) :
    (Lane.agreeLate n p l).mem = l.mem := by
  unfold Lane.agreeLate
  (repeat' split) <;> (try simp)

@[simp] theorem Lane.phase3_mem (l : Lane) :
    (Lane.phase3 l).mem = l.mem := by
  unfold Lane.phase3
  simp

@[simp] theorem Lane.setPt_mem (l : Lane) (p : Nat) (x : PtWork) :
    (Lane.setPt l p x).mem = l.mem := by
  unfold Lane.setPt
  simp

@[simp] theorem Lane.setAlm_mem (l : Lane) (f : AlmWork → AlmWork) :
    (Lane.setAlm l f).mem = l.mem := by
  unfold Lane.setAlm
  simp

@[simp] theorem Lane.ptGo_mem (l : Lane) (g : Nat) (p : Nat) (a3 : Nat) (origin : Nat) (cause : Nat) (rank : Nat) :
    (Lane.ptGo l g p a3 origin cause rank).mem = l.mem := by
  unfold Lane.ptGo
  simp

@[simp] theorem Lane.ackPoint_mem (g : Nat) (origin : Nat) (rank : Nat) (l : Lane) (p : Nat) :
    (Lane.ackPoint g origin rank l p).mem = l.mem := by
  unfold Lane.ackPoint
  simp

@[simp] theorem Lane.silPoint_mem (g : Nat) (origin : Nat) (rank : Nat) (l : Lane) (p : Nat) :
    (Lane.silPoint g origin rank l p).mem = l.mem := by
  unfold Lane.silPoint
  simp

@[simp] theorem Lane.shelfEnd_mem (l : Lane) (p : Nat) :
    (Lane.shelfEnd l p).mem = l.mem := by
  unfold Lane.shelfEnd
  simp

@[simp] theorem Lane.unshelve_mem (l : Lane) (g : Nat) (p : Nat) (origin : Nat) (cause : Nat) (rank : Nat) :
    (Lane.unshelve l g p origin cause rank).mem = l.mem := by
  unfold Lane.unshelve
  simp

@[simp] theorem Lane.shelve_mem (l : Lane) (g : Nat) (p : Nat) (auto : Bool) (origin : Nat) (cause : Nat) (rank : Nat) :
    (Lane.shelve l g p auto origin cause rank).mem = l.mem := by
  unfold Lane.shelve
  simp

@[simp] theorem Lane.foReset_mem (l : Lane) (grp : Nat) :
    (Lane.foReset l grp).mem = l.mem := by
  unfold Lane.foReset
  simp

@[simp] theorem Lane.almEffect_mem (l : Lane) (g : Nat) (op : Nat) (tgt : Nat) (origin : Nat) (rank : Nat) :
    (Lane.almEffect l g op tgt origin rank).mem = l.mem := by
  unfold Lane.almEffect
  (repeat' split) <;> (try simp)

@[simp] theorem Lane.almStatus_mem (l : Lane) (c : AlmCmd) (st : Nat) :
    (Lane.almStatus l c st).mem = l.mem := by
  unfold Lane.almStatus
  simp

@[simp] theorem Lane.almRefuse_mem (l : Lane) (g : Nat) (c : AlmCmd) (st : Nat) (rank : Nat) :
    (Lane.almRefuse l g c st rank).mem = l.mem := by
  unfold Lane.almRefuse
  simp

@[simp] theorem Lane.almApply_mem (l : Lane) (g : Nat) (rank : Nat) (c : AlmCmd) :
    (Lane.almApply l g rank c).mem = l.mem := by
  unfold Lane.almApply
  simp

@[simp] theorem Lane.almArrive_mem (l : Lane) (c : AlmCmd) :
    (Lane.almArrive l c).mem = l.mem := by
  unfold Lane.almArrive
  simp

@[simp] theorem Lane.almWrite_mem (l : Lane) (v : Word) (origin : Nat) (acc : Nat) (eff : Nat) :
    (Lane.almWrite l v origin acc eff).mem = l.mem := by
  unfold Lane.almWrite
  simp

@[simp] theorem Lane.callApply_mem (g : Nat) (l : Lane) (c : AlmCmd) :
    (Lane.callApply g l c).mem = l.mem := by
  unfold Lane.callApply
  simp

@[simp] theorem Lane.almNext_mem (g : Nat) (l : Lane) (c : AlmCmd) :
    (Lane.almNext g l c).mem = l.mem := by
  unfold Lane.almNext
  simp

@[simp] theorem Lane.scanCommands_mem (l : Lane) (g : Nat) : (l.scanCommands g).mem = l.mem := by
  unfold Lane.scanCommands
  simp only []
  rw [foldl_mem _ (by simp), foldl_mem _ (by simp)]
  simp

@[simp] theorem Lane.ptMasked_mem (l : Lane) (g : Nat) (p : Nat) :
    (Lane.ptMasked l g p).mem = l.mem := by
  unfold Lane.ptMasked
  simp

@[simp] theorem Lane.shelfStep_mem (l : Lane) (g : Nat) (p : Nat) :
    (Lane.shelfStep l g p).mem = l.mem := by
  unfold Lane.shelfStep
  simp

@[simp] theorem Lane.scanPoint_mem (rules : List RuleCover) (g : Nat) (l : Lane) (p : Nat) :
    (Lane.scanPoint rules g l p).mem = l.mem := by
  unfold Lane.scanPoint
  simp
  (repeat' split) <;> (try simp)

@[simp] theorem Lane.scanPoints_mem (l : Lane) (g : Nat) : (l.scanPoints g).mem = l.mem := by
  rw [Lane.scanPoints, foldl_mem _ (by simp)]

@[simp] theorem Lane.scanGroup_mem (g : Nat) (l : Lane) (grp : Nat) :
    (Lane.scanGroup g l grp).mem = l.mem := by
  unfold Lane.scanGroup
  simp

@[simp] theorem Lane.scanRule_mem (g : Nat) (l : Lane) (r : Nat) :
    (Lane.scanRule g l r).mem = l.mem := by
  unfold Lane.scanRule
  simp

@[simp] theorem Lane.scanFirstOut_mem (g : Nat) (l : Lane) (grp : Nat) :
    (Lane.scanFirstOut g l grp).mem = l.mem := by
  unfold Lane.scanFirstOut
  (repeat' split) <;> (try simp)

@[simp] theorem Lane.chatter_mem (g : Nat) (l : Lane) (p : Nat) :
    (Lane.chatter g l p).mem = l.mem := by
  unfold Lane.chatter
  simp

@[simp] theorem Lane.scanChatter_mem (l : Lane) (g : Nat) :
    (Lane.scanChatter l g).mem = l.mem := by
  unfold Lane.scanChatter
  simp

@[simp] theorem Lane.scanFlood_mem (l : Lane) (g : Nat) :
    (Lane.scanFlood l g).mem = l.mem := by
  unfold Lane.scanFlood
  simp

@[simp] theorem Lane.scanSummary_mem (l : Lane) (g : Nat) :
    (Lane.scanSummary l g).mem = l.mem := by
  unfold Lane.scanSummary
  simp

@[simp] theorem Lane.scanEnd_mem (l : Lane) :
    (Lane.scanEnd l).mem = l.mem := by
  unfold Lane.scanEnd
  simp

@[simp] theorem Lane.ptReconf_mem (l : Lane) (g : Nat) (p : Nat) :
    (Lane.ptReconf l g p).mem = l.mem := by
  unfold Lane.ptReconf
  simp

@[simp] theorem Lane.presStep_mem (g : Nat) (l : Lane) (s : Nat) :
    (Lane.presStep g l s).mem = l.mem := by
  unfold Lane.presStep
  simp

@[simp] theorem Lane.presence_mem (l : Lane) (g : Nat) :
    (Lane.presence l g).mem = l.mem := by
  unfold Lane.presence
  simp

@[simp] theorem Lane.dmGo_mem (l : Lane) (g : Nat) (a2 : Nat) (cnt : Nat) (origin : Nat) (cause : Nat) :
    (Lane.dmGo l g a2 cnt origin cause).mem = l.mem := by
  unfold Lane.dmGo
  simp

@[simp] theorem Lane.callCmd_mem (l : Lane) (g : Nat) (e : Bool) (r : Nat) (c : AlmCmd) (a : Option Nat) :
    (l.callCmd g e r c a).1.mem = l.mem := by
  unfold Lane.callCmd
  dsimp only
  (repeat' split) <;> simp

@[simp] theorem Lane.callCmds_mem (l : Lane) (g : Nat) (e : Bool) : (l.callCmds g e).1.mem = l.mem := by
  unfold Lane.callCmds
  rw [foldl_fst_mem _ (by simp)]

@[simp] theorem Lane.callGo_mem (l : Lane) (g : Nat) (a2 : Nat) (stage : Nat) (cnt : Nat) (origin : Nat) (cause : Nat) (npts : Nat) :
    (Lane.callGo l g a2 stage cnt origin cause npts).mem = l.mem := by
  unfold Lane.callGo
  simp

@[simp] theorem Lane.issue_mem (l : Lane) (op : Nat) (ps : List Nat) :
    (Lane.issue l op ps).mem = l.mem := by
  unfold Lane.issue
  simp

@[simp] theorem Lane.callTable_mem (l : Lane) (g : Nat) (acc : Option Nat) :
    (Lane.callTable l g acc).mem = l.mem := by
  unfold Lane.callTable
  (repeat' split) <;> (try simp)

@[simp] theorem Lane.callCount_mem (l : Lane) :
    (Lane.callCount l).mem = l.mem := by
  unfold Lane.callCount
  simp

@[simp] theorem Lane.dmCount_mem (l : Lane) :
    (Lane.dmCount l).mem = l.mem := by
  unfold Lane.dmCount
  simp

@[simp] theorem Lane.dmTable_mem (l : Lane) (g : Nat) :
    (Lane.dmTable l g).mem = l.mem := by
  unfold Lane.dmTable
  simp

@[simp] theorem Lane.callStep_mem (l : Lane) (g : Nat) : (l.callStep g).mem = l.mem := by
  unfold Lane.callStep
  dsimp only
  split <;> simp

@[simp] theorem Lane.scanStage_mem (l : Lane) (g i : Nat) : (l.scanStage g i).mem = l.mem := by
  unfold Lane.scanStage
  split
  case h_3 => generalize upTo 128 = xs; simp
  case h_4 => generalize upTo 256 = xs; simp
  case h_5 => generalize upTo 128 = xs; simp
  all_goals simp

@[simp] theorem Lane.ringTaken_mem (l : Lane) (g : Nat) : (l.ringTaken g).mem = l.mem := by
  unfold Lane.ringTaken
  dsimp only
  rw [foldl_mem]
  intro l x
  (repeat' split) <;> simp

@[simp] theorem Lane.setLoop_mem (l : Lane) (n : Nat) (w : LoopWork) :
    (Lane.setLoop l n w).mem = l.mem := by
  unfold Lane.setLoop
  simp

@[simp] theorem Lane.loopLatch_mem (g : Nat) (l : Lane) :
    (Lane.loopLatch g l).mem = l.mem := by
  unfold Lane.loopLatch
  simp

@[simp] theorem Lane.loopGo_mem (l : Lane) (g : Nat) (n : Nat) (mode : Nat) (bad : Bool) (cause : Nat) :
    (Lane.loopGo l g n mode bad cause).mem = l.mem := by
  unfold Lane.loopGo
  simp

@[simp] theorem Lane.loopCmd_mem (g n : Nat) (x : Lane × Bool) (c : LoopCmd) : (Lane.loopCmd g n x c).1.mem = x.1.mem := by
  unfold Lane.loopCmd
  dsimp only
  (repeat' split) <;> simp

@[simp] theorem Lane.loopSwap_mem (g : Nat) (n : Nat) (out : F32) (l : Lane) :
    (Lane.loopSwap g n out l).mem = l.mem := by
  unfold Lane.loopSwap
  simp

@[simp] theorem Lane.loopDests_mem (l : Lane) (n : Nat) :
    (Lane.loopDests l n).mem = l.mem := by
  unfold Lane.loopDests
  simp

@[simp] theorem Lane.loopFlags_mem (l : Lane) (n : Nat) (track : Bool) (hi : Bool) (lo : Bool) (ovf : Bool) (rs : Bool) (sub : Bool) :
    (Lane.loopFlags l n track hi lo ovf rs sub).mem = l.mem := by
  unfold Lane.loopFlags
  simp

@[simp] theorem Lane.loopHeld_mem (n : Nat) (l : Lane) :
    (Lane.loopHeld n l).mem = l.mem := by
  unfold Lane.loopHeld
  simp

@[simp] theorem Lane.loopCompute_mem (g : Nat) (n : Nat) (pv : F32) (bump : Bool) (init : Bool) (sub : Bool) (l : Lane) :
    (Lane.loopCompute g n pv bump init sub l).mem = l.mem := by
  unfold Lane.loopCompute
  simp

@[simp] theorem Lane.loopRun_mem (g : Nat) (n : Nat) (bump : Bool) (l : Lane) :
    (Lane.loopRun g n bump l).mem = l.mem := by
  unfold Lane.loopRun
  simp

@[simp] theorem Lane.loopEval_mem (g n : Nat) (l : Lane) : (Lane.loopEval g n l).mem = l.mem := by
  unfold Lane.loopEval
  simp

@[simp] theorem Lane.loopStep_mem (l : Lane) (g : Nat) (n : Nat) :
    (Lane.loopStep l g n).mem = l.mem := by
  unfold Lane.loopStep
  simp

@[simp] theorem Lane.loopsRun_mem (g : Nat) (l : Lane) :
    (Lane.loopsRun g l).mem = l.mem := by
  unfold Lane.loopsRun
  simp

@[simp] theorem Lane.scanTo_mem (g k : Nat) (l : Lane) : (Lane.scanTo g k l).mem = l.mem := by
  unfold Lane.scanTo
  generalize upTo 9 = xs
  rw [foldl_mem]
  · split <;> simp
  · intro l x
    split <;> simp

@[simp] theorem Lane.scanEvent_mem (g : Nat) (k : Nat) (p : Lane → Lane → Bool) (l : Lane) :
    (Lane.scanEvent g k p l).mem = l.mem := by
  unfold Lane.scanEvent
  simp

@[simp] theorem Lane.almRow_mem (g : Nat) (op : Nat) (tgt : Nat) (origin : Nat) (l : Lane) :
    (Lane.almRow g op tgt origin l).mem = l.mem := by
  unfold Lane.almRow
  simp

@[simp] theorem Lane.loopsOpen_mem (l : Lane) :
    (Lane.loopsOpen l).mem = l.mem := by
  unfold Lane.loopsOpen
  simp

@[simp] theorem Lane.loopOff_mem (n : Nat) (l : Lane) :
    (Lane.loopOff n l).mem = l.mem := by
  unfold Lane.loopOff
  simp

@[simp] theorem Lane.loopFire_mem (g : Nat) (l : Lane) (n : Nat) :
    (Lane.loopFire g l n).mem = l.mem := by
  unfold Lane.loopFire
  simp

@[simp] theorem Lane.tpStart_mem (g : Nat) (n : Nat) (d : Nat) (l : Lane) :
    (Lane.tpStart g n d l).mem = l.mem := by
  unfold Lane.tpStart
  simp

@[simp] theorem Lane.tpEnd_mem (n : Nat) (d : Nat) (l : Lane) :
    (Lane.tpEnd n d l).mem = l.mem := by
  unfold Lane.tpEnd
  simp

@[simp] theorem Lane.tpCycle_mem (g : Nat) (n : Nat) (d : Nat) (l : Lane) :
    (Lane.tpCycle g n d l).mem = l.mem := by
  unfold Lane.tpCycle
  simp

@[simp] theorem Lane.tpAll_mem (g : Nat) (l : Lane) :
    (Lane.tpAll g l).mem = l.mem := by
  unfold Lane.tpAll
  simp

@[simp] theorem Lane.ctrlQueue_mem (l : Lane) (op : Nat) (n : Nat) (arg : Nat) (v : F32) :
    (Lane.ctrlQueue l op n arg v).mem = l.mem := by
  unfold Lane.ctrlQueue
  simp

@[simp] theorem Lane.ctrlCmd_mem (op : Nat) (n : Nat) (arg : Nat) (v : F32) (l : Lane) :
    (Lane.ctrlCmd op n arg v l).mem = l.mem := by
  unfold Lane.ctrlCmd
  simp

@[simp] theorem Lane.ctrlNote_mem (op : Nat) (n : Nat) (l : Lane) :
    (Lane.ctrlNote op n l).mem = l.mem := by
  unfold Lane.ctrlNote
  simp

@[simp] theorem Lane.failSync_mem (l : Lane) :
    (Lane.failSync l).mem = l.mem := by
  unfold Lane.failSync
  simp

@[simp] theorem Lane.aoForm_mem (g : Nat) (next : Nat) (l : Lane) (n : Nat) :
    (Lane.aoForm g next l n).mem = l.mem := by
  unfold Lane.aoForm
  simp

@[simp] theorem Lane.setHart_mem (l : Lane) (n : Nat) (w : HartWork) :
    (Lane.setHart l n w).mem = l.mem := by
  unfold Lane.setHart
  simp

@[simp] theorem Lane.hartBadPoll_mem (l : Lane) (n : Nat) :
    (Lane.hartBadPoll l n).mem = l.mem := by
  unfold Lane.hartBadPoll
  simp

@[simp] theorem Lane.hartAbort_mem (l : Lane) (n : Nat) :
    (Lane.hartAbort l n).mem = l.mem := by
  unfold Lane.hartAbort
  simp

@[simp] theorem Lane.aoCompare_mem (g : Nat) (l : Lane) (n : Nat) :
    (Lane.aoCompare g l n).mem = l.mem := by
  unfold Lane.aoCompare
  simp

@[simp] theorem Lane.aoStatusIn_mem (g : Nat) (l : Lane) (n : Nat) (w : AoHw) :
    (Lane.aoStatusIn g l n w).mem = l.mem := by
  unfold Lane.aoStatusIn
  simp

@[simp] theorem Lane.aoTake_mem (h : Shared) (g : Nat) (l : Lane) (n : Nat) :
    (Lane.aoTake h g l n).mem = l.mem := by
  unfold Lane.aoTake
  simp

@[simp] theorem Lane.aoRelink_mem (h : Shared) (l : Lane) :
    (Lane.aoRelink h l).mem = l.mem := by
  unfold Lane.aoRelink
  simp

@[simp] theorem Lane.aoTakeover_mem (g : Nat) (l : Lane) (n : Nat) :
    (Lane.aoTakeover g l n).mem = l.mem := by
  unfold Lane.aoTakeover
  simp

@[simp] theorem Lane.aoModeOff_mem (g : Nat) (l : Lane) (n : Nat) :
    (Lane.aoModeOff g l n).mem = l.mem := by
  unfold Lane.aoModeOff
  simp

@[simp] theorem Lane.aoFire_mem (l : Lane) (n : Nat) :
    (Lane.aoFire l n).mem = l.mem := by
  unfold Lane.aoFire
  simp

@[simp] theorem Lane.aoEffect_mem (l : Lane) (op : Nat) (n : Nat) (arg : Nat) (v : F32) :
    (Lane.aoEffect l op n arg v).mem = l.mem := by
  unfold Lane.aoEffect
  (repeat' split) <;> (try simp)

@[simp] theorem Lane.aoCmd_mem (op : Nat) (n : Nat) (arg : Nat) (v : F32) (l : Lane) :
    (Lane.aoCmd op n arg v l).mem = l.mem := by
  unfold Lane.aoCmd
  simp

@[simp] theorem Lane.aoNote_mem (op : Nat) (n : Nat) (l : Lane) :
    (Lane.aoNote op n l).mem = l.mem := by
  unfold Lane.aoNote
  simp

@[simp] theorem Lane.hartGo_mem (g : Nat) (l : Lane) (n : Nat) (t : HartTx) :
    (Lane.hartGo g l n t).mem = l.mem := by
  unfold Lane.hartGo
  simp

@[simp] theorem Lane.hartDefer_mem (l : Lane) (n : Nat) (t : HartTx) :
    (Lane.hartDefer l n t).mem = l.mem := by
  unfold Lane.hartDefer
  simp

@[simp] theorem Lane.hartStart_mem (stop : Bool) (g : Nat) (n : Nat) (carrier : Bool) (l : Lane) :
    (Lane.hartStart stop g n carrier l).mem = l.mem := by
  unfold Lane.hartStart
  (repeat' split) <;> (try simp)

@[simp] theorem Lane.hartEnd_mem (l : Lane) (n : Nat) (st : Nat) :
    (Lane.hartEnd l n st).mem = l.mem := by
  unfold Lane.hartEnd
  simp

@[simp] theorem Lane.hartFail_mem (l : Lane) (n : Nat) (t : HartTx) (err : Bool) :
    (Lane.hartFail l n t err).mem = l.mem := by
  unfold Lane.hartFail
  simp

@[simp] theorem Lane.hartPolled_mem (g : Nat) (l : Lane) (n : Nat) (body : List Byte) :
    (Lane.hartPolled g l n body).mem = l.mem := by
  unfold Lane.hartPolled
  simp

@[simp] theorem Lane.hartTake_mem (g : Nat) (l : Lane) (r : HartRx) :
    (Lane.hartTake g l r).mem = l.mem := by
  unfold Lane.hartTake
  simp
  (repeat' split) <;> (try simp)

@[simp] theorem Lane.hartTimeout_mem (w : Nat) (n : Nat) (l : Lane) :
    (Lane.hartTimeout w n l).mem = l.mem := by
  unfold Lane.hartTimeout
  (repeat' split) <;> (try simp)

@[simp] theorem Lane.hartDue_mem (g : Nat) (l : Lane) (n : Nat) :
    (Lane.hartDue g l n).mem = l.mem := by
  unfold Lane.hartDue
  simp

@[simp] theorem Lane.hartAge_mem (g : Nat) (l : Lane) (n : Nat) :
    (Lane.hartAge g l n).mem = l.mem := by
  unfold Lane.hartAge
  simp

@[simp] theorem Lane.hartFire_mem (l : Lane) (n : Nat) :
    (Lane.hartFire l n).mem = l.mem := by
  unfold Lane.hartFire
  simp

@[simp] theorem Lane.diSend_mem (e : Option DiEdge) (l : Lane) :
    (Lane.diSend e l).mem = l.mem := by
  unfold Lane.diSend
  (repeat' split) <;> (try simp)

@[simp] theorem Lane.diEdge_mem (l : Lane) (e : DiEdge) :
    (Lane.diEdge l e).mem = l.mem := by
  unfold Lane.diEdge
  simp

@[simp] theorem Lane.setDioLink_mem (v : Bool) (l : Lane) :
    (Lane.setDioLink v l).mem = l.mem := by
  unfold Lane.setDioLink
  simp

@[simp] theorem Lane.diTake_mem (h : Shared) (g : Nat) (l : Lane) :
    (Lane.diTake h g l).mem = l.mem := by
  unfold Lane.diTake
  simp

@[simp] theorem Lane.dioTold_mem (ws : List Word) (l : Lane) :
    (Lane.dioTold ws l).mem = l.mem := by
  unfold Lane.dioTold
  simp

@[simp] theorem Lane.doForm_mem (l : Lane) :
    (Lane.doForm l).mem = l.mem := by
  unfold Lane.doForm
  simp

@[simp] theorem Lane.dofRec_mem (g : Nat) (l : Lane) (w : Word) :
    (Lane.dofRec g l w).mem = l.mem := by
  unfold Lane.dofRec
  simp

@[simp] theorem Lane.doTake_mem (g : Nat) (old : RegFile) (l : Lane) :
    (Lane.doTake g old l).mem = l.mem := by
  unfold Lane.doTake
  simp

@[simp] theorem Lane.dioCmd_mem (h : Shared) (op : Nat) (n : Nat) (arg : Nat) (l : Lane) :
    (Lane.dioCmd h op n arg l).mem = l.mem := by
  unfold Lane.dioCmd
  simp

@[simp] theorem Lane.dioNote_mem (op : Nat) (n : Nat) (l : Lane) :
    (Lane.dioNote op n l).mem = l.mem := by
  unfold Lane.dioNote
  simp

@[simp] theorem Lane.dioFire_mem (l : Lane) :
    (Lane.dioFire l).mem = l.mem := by
  unfold Lane.dioFire
  simp

@[simp] theorem Lane.setRec_mem (l : Lane) (f : RecWork → RecWork) :
    (Lane.setRec l f).mem = l.mem := by
  unfold Lane.setRec
  simp

@[simp] theorem Lane.setSlot_mem (l : Lane) (i : Nat) (ws : List Word) :
    (Lane.setSlot l i ws).mem = l.mem := by
  unfold Lane.setSlot
  simp

@[simp] theorem Lane.drop_mem (l : Lane) (r : Rec) :
    (Lane.drop l r).mem = l.mem := by
  unfold Lane.drop
  simp

@[simp] theorem Lane.admit_mem (l : Lane) (r : Rec) :
    (Lane.intake l r).mem = l.mem := by
  unfold Lane.intake
  simp

@[simp] theorem Lane.freezeEnd_mem (g : Nat) (cause : Nat) (l : Lane) :
    (Lane.freezeEnd g cause l).mem = l.mem := by
  unfold Lane.freezeEnd
  simp

@[simp] theorem Lane.releaseRecs_mem (g : Nat) (l : Lane) :
    (Lane.releaseRecs g l).mem = l.mem := by
  unfold Lane.releaseRecs
  simp

@[simp] theorem Lane.shards_mem (l : Lane) :
    (Lane.shards l).mem = l.mem := by
  unfold Lane.shards
  simp

@[simp] theorem Lane.shardEnd_mem (g : Nat) (l : Lane) :
    (Lane.shardEnd g l).mem = l.mem := by
  unfold Lane.shardEnd
  simp

@[simp] theorem Lane.refill_mem (l : Lane) :
    (Lane.refill l).mem = l.mem := by
  unfold Lane.refill
  simp

@[simp] theorem Lane.tailSync_mem (l : Lane) :
    (Lane.tailSync l).mem = l.mem := by
  unfold Lane.tailSync
  (repeat' split) <;> (try simp)

@[simp] theorem Lane.advance_mem (l : Lane) :
    (Lane.advance l).mem = l.mem := by
  unfold Lane.advance
  simp

@[simp] theorem Lane.phase1_mem (stamp : Bool) (h : Nat) (l : Lane) (ws : List Word) :
    (Lane.phase1 stamp h l ws).mem = l.mem := by
  unfold Lane.phase1
  simp

@[simp] theorem Lane.commitStart_mem (stamp : Bool) (l : Lane) :
    (Lane.commitStart stamp l).mem = l.mem := by
  unfold Lane.commitStart
  (repeat' split) <;> (try simp)

@[simp] theorem Lane.fill_mem (h : Nat) (ws : List Word) (l : Lane) :
    (Lane.fill h ws l).mem = l.mem := by
  unfold Lane.fill
  simp

@[simp] theorem Lane.committed_mem (l : Lane) (h : Nat) (ws : List Word) :
    (Lane.committed l h ws).mem = l.mem := by
  unfold Lane.committed
  simp

@[simp] theorem Lane.storeOut_mem (l : Lane) :
    (Lane.storeOut l).mem = l.mem := by
  unfold Lane.storeOut
  simp

@[simp] theorem Lane.voidSlot_mem (stamp : Bool) (l : Lane) (h : Nat) (ws : List Word) :
    (Lane.voidSlot stamp l h ws).mem = l.mem := by
  unfold Lane.voidSlot
  simp

@[simp] theorem Lane.commitEnd_mem (ok : Bool) (stamp : Bool) (l : Lane) :
    (Lane.commitEnd ok stamp l).mem = l.mem := by
  unfold Lane.commitEnd
  (repeat' split) <;> (try simp)

@[simp] theorem Lane.commitLast_mem (l : Lane) :
    (Lane.commitLast l).mem = l.mem := by
  unfold Lane.commitLast
  (repeat' split) <;> (try simp)

@[simp] theorem Lane.mirrorIn_mem (ws : List Word) (left : Nat) (l : Lane) :
    (Lane.mirrorIn ws left l).mem = l.mem := by
  unfold Lane.mirrorIn
  simp

@[simp] theorem Lane.freezeBegin_mem (g : Nat) (l : Lane) :
    (Lane.freezeBegin g l).mem = l.mem := by
  unfold Lane.freezeBegin
  simp

@[simp] theorem Lane.freezeLimit_mem (g : Nat) (l : Lane) :
    (Lane.freezeLimit g l).mem = l.mem := by
  unfold Lane.freezeLimit
  simp

@[simp] theorem Lane.flushBegin_mem (g : Nat) (cause : Nat) (energy : Nat) (l : Lane) :
    (Lane.flushBegin g cause energy l).mem = l.mem := by
  unfold Lane.flushBegin
  simp

@[simp] theorem Lane.flushNow_mem (g : Nat) (l : Lane) :
    (Lane.flushNow g l).mem = l.mem := by
  unfold Lane.flushNow
  (repeat' split) <;> (try simp)

@[simp] theorem Lane.rdIdx_mem (i : Nat) (l : Lane) :
    (Lane.rdIdx i l).mem = l.mem := by
  unfold Lane.rdIdx
  simp

@[simp] theorem Lane.rdLoaded_mem (l : Lane) :
    (Lane.rdLoaded l).mem = l.mem := by
  unfold Lane.rdLoaded
  simp

@[simp] theorem Lane.rdNext_mem (l : Lane) :
    (Lane.rdNext l).mem = l.mem := by
  unfold Lane.rdNext
  simp

@[simp] theorem Lane.recCmd_mem (g : Nat) (op : Nat) (l : Lane) :
    (Lane.recCmd g op l).mem = l.mem := by
  unfold Lane.recCmd
  (repeat' split) <;> (try simp)

@[simp] theorem Lane.recNote_mem (op : Nat) (l : Lane) :
    (Lane.recNote op l).mem = l.mem := by
  unfold Lane.recNote
  simp

@[simp] theorem Lane.setCan_mem (l : Lane) (b : Nat) (w : CanWork) :
    (Lane.setCan l b w).mem = l.mem := by
  unfold Lane.setCan
  simp

@[simp] theorem Lane.canBits_mem (l : Lane) (b : Nat) (m : Nat) :
    (Lane.canBits l b m).mem = l.mem := by
  unfold Lane.canBits
  simp

@[simp] theorem Lane.setBst_mem (l : Lane) (b : Nat) (m : Nat) (st : Word) :
    (Lane.setBst l b m st).mem = l.mem := by
  unfold Lane.setBst
  simp

@[simp] theorem Lane.canStamp_mem (l : Lane) (b : Nat) (m : Nat) (sof : Nat) :
    (Lane.canStamp l b m sof).mem = l.mem := by
  unfold Lane.canStamp
  simp

@[simp] theorem Lane.canPlace_mem (l : Lane) (b : Nat) (m : Nat) (x : CanIn) :
    (Lane.canPlace l b m x).mem = l.mem := by
  unfold Lane.canPlace
  simp

@[simp] theorem Lane.canStore_mem (l : Lane) (b : Nat) (m : Nat) (x : CanIn) :
    (Lane.canStore l b m x).mem = l.mem := by
  unfold Lane.canStore
  simp

@[simp] theorem Lane.canReceive_mem (l : Lane) (b : Nat) (x : CanIn) :
    (Lane.canReceive l b x).mem = l.mem := by
  unfold Lane.canReceive
  (repeat' split) <;> (try simp)

@[simp] theorem Lane.txFail_mem (l : Lane) (b : Nat) (m : Nat) (cause : Nat) (time : Nat) :
    (Lane.txFail l b m cause time).mem = l.mem := by
  unfold Lane.txFail
  simp

@[simp] theorem Lane.notSent_mem (l : Lane) (b : Nat) (m : Nat) (time : Nat) :
    (Lane.notSent l b m time).mem = l.mem := by
  unfold Lane.notSent
  simp

@[simp] theorem Lane.canSent_mem (l : Lane) (b : Nat) (m : Nat) (x : CanIn) :
    (Lane.canSent l b m x).mem = l.mem := by
  unfold Lane.canSent
  simp

@[simp] theorem Lane.ownMark_mem (b : Nat) (l : Lane) :
    (Lane.ownMark b l).mem = l.mem := by
  unfold Lane.ownMark
  simp

@[simp] theorem Lane.ownSent_mem (l : Lane) (b : Nat) (ok : Bool) :
    (Lane.ownSent l b ok).mem = l.mem := by
  unfold Lane.ownSent
  simp

@[simp] theorem Lane.canState_mem (l : Lane) (b : Nat) (time : Nat) (tec : Nat) (recv : Nat) :
    (Lane.canState l b time tec recv).mem = l.mem := by
  unfold Lane.canState
  simp

@[simp] theorem Lane.canAlone_mem (time : Nat) (l : Lane) (b : Nat) :
    (Lane.canAlone time l b).mem = l.mem := by
  unfold Lane.canAlone
  simp

@[simp] theorem Lane.ackRun_mem (l : Lane) (b : Nat) (x : CanIn) :
    (Lane.ackRun l b x).mem = l.mem := by
  unfold Lane.ackRun
  simp

@[simp] theorem Lane.canRestrict_mem (l : Lane) (b : Nat) (time : Nat) (cause : Nat) (v : Bool) :
    (Lane.canRestrict l b time cause v).mem = l.mem := by
  unfold Lane.canRestrict
  simp

@[simp] theorem Lane.canLone_mem (l : Lane) (b : Nat) (x : CanIn) :
    (Lane.canLone l b x).mem = l.mem := by
  unfold Lane.canLone
  simp

@[simp] theorem Lane.canColl_mem (l : Lane) (b : Nat) (x : CanIn) :
    (Lane.canColl l b x).mem = l.mem := by
  unfold Lane.canColl
  simp
  (repeat' split) <;> (try simp)

@[simp] theorem Lane.canReport_mem (b : Nat) (l : Lane) (x : CanIn) :
    (Lane.canReport b l x).mem = l.mem := by
  unfold Lane.canReport
  (repeat' split) <;> (try simp)

@[simp] theorem Lane.canRecovered_mem (b : Nat) (g : Nat) (l : Lane) :
    (Lane.canRecovered b g l).mem = l.mem := by
  unfold Lane.canRecovered
  simp

@[simp] theorem Lane.canAdopt_mem (b : Nat) (g : Nat) (nrate : Nat) (drate : Nat) (l : Lane) :
    (Lane.canAdopt b g nrate drate l).mem = l.mem := by
  unfold Lane.canAdopt
  simp

@[simp] theorem Lane.loneWindow_mem (b : Nat) (g : Nat) (l : Lane) :
    (Lane.loneWindow b g l).mem = l.mem := by
  unfold Lane.loneWindow
  simp

@[simp] theorem Lane.detFail_mem (b : Nat) (g : Nat) (due : Bool) (l : Lane) :
    (Lane.detFail b g due l).mem = l.mem := by
  unfold Lane.detFail
  simp

@[simp] theorem Lane.canModes_mem (auth : Bool) (run : Nat → Bool) (l : Lane) :
    (Lane.canModes auth run l).mem = l.mem := by
  unfold Lane.canModes
  simp

@[simp] theorem Lane.slotCancel_mem (l : Lane) (b : Nat) (m : Nat) :
    (Lane.slotCancel l b m).mem = l.mem := by
  unfold Lane.slotCancel
  simp

@[simp] theorem Lane.canEffect_mem (g : Nat) (b : Nat) (op : Nat) (m : Nat) (arg : Nat) (busy : Bool) (l : Lane) :
    (Lane.canEffect g b op m arg busy l).mem = l.mem := by
  unfold Lane.canEffect
  (repeat' split) <;> (try simp)

@[simp] theorem Lane.canCmd_mem (h : Shared) (b : Nat) (op : Nat) (m : Nat) (arg : Nat) (l : Lane) :
    (Lane.canCmd h b op m arg l).mem = l.mem := by
  unfold Lane.canCmd
  simp

@[simp] theorem Lane.canNote_mem (b : Nat) (op : Nat) (m : Nat) (l : Lane) :
    (Lane.canNote b op m l).mem = l.mem := by
  unfold Lane.canNote
  simp

@[simp] theorem Lane.setLock_mem (l : Lane) (a : Accessor) (x : Option (Nat × Nat × Nat)) :
    (Lane.setLock l a x).mem = l.mem := by
  unfold Lane.setLock
  (repeat' split) <;> (try simp)

@[simp] theorem Lane.canFree_mem (l : Lane) (b : Nat) (m : Nat) :
    (Lane.canFree l b m).mem = l.mem := by
  unfold Lane.canFree
  simp
  (repeat' split) <;> (try simp)

@[simp] theorem Lane.unlock_mem (l : Lane) (a : Accessor) :
    (Lane.unlock l a).mem = l.mem := by
  unfold Lane.unlock
  (repeat' split) <;> (try simp)

@[simp] theorem Lane.rxLock_mem (a : Accessor) (b : Nat) (m : Nat) (t : Nat) (l : Lane) :
    (Lane.rxLock a b m t l).mem = l.mem := by
  unfold Lane.rxLock
  simp

@[simp] theorem Lane.rxRelease_mem (a : Accessor) (b : Nat) (m : Nat) (l : Lane) :
    (Lane.rxRelease a b m l).mem = l.mem := by
  unfold Lane.rxRelease
  simp

@[simp] theorem Lane.lockTimeout_mem (a : Accessor) (t : Nat) (l : Lane) :
    (Lane.lockTimeout a t l).mem = l.mem := by
  unfold Lane.lockTimeout
  (repeat' split) <;> (try simp)

@[simp] theorem Lane.canFire_mem (l : Lane) (b : Nat) :
    (Lane.canFire l b).mem = l.mem := by
  unfold Lane.canFire
  simp

@[simp] theorem Lane.timeRec_mem (l : Lane) (code : Nat) (g : Nat) (bus : Nat) (p1 : Word) (p2 : Word) (p3 : Word) :
    (Lane.timeRec l code g bus p1 p2 p3).mem = l.mem := by
  unfold Lane.timeRec
  simp

@[simp] theorem Lane.setMaster_mem (l : Lane) (g : Nat) (b : Nat) (node : Nat) (prio : Nat) (own : Bool) :
    (Lane.setMaster l g b node prio own).mem = l.mem := by
  unfold Lane.setMaster
  simp

@[simp] theorem Lane.refMaster_mem (g : Nat) (b : Nat) (l : Lane) (r : RefMsg) :
    (Lane.refMaster g b l r).mem = l.mem := by
  unfold Lane.refMaster
  simp

@[simp] theorem Lane.busTime_mem (g : Nat) (b : Nat) (rs : List RefMsg) (l : Lane) :
    (Lane.busTime g b rs l).mem = l.mem := by
  unfold Lane.busTime
  simp

@[simp] theorem Lane.takeover_mem (g : Nat) (l : Lane) (b : Nat) :
    (Lane.takeover g l b).mem = l.mem := by
  unfold Lane.takeover
  simp

@[simp] theorem Lane.setSync_mem (l : Lane) (g : Nat) (v : Bool) (e : Int) :
    (Lane.setSync l g v e).mem = l.mem := by
  unfold Lane.setSync
  simp

@[simp] theorem Lane.setFar_mem (l : Lane) (g : Nat) (v : Bool) (e : Int) :
    (Lane.setFar l g v e).mem = l.mem := by
  unfold Lane.setFar
  simp

@[simp] theorem Lane.refUse_mem (auth : Bool) (g : Nat) (b : Nat) (l : Lane) (r : RefMsg) :
    (Lane.refUse auth g b l r).mem = l.mem := by
  unfold Lane.refUse
  simp

@[simp] theorem Lane.syncLoss_mem (g : Nat) (l : Lane) :
    (Lane.syncLoss g l).mem = l.mem := by
  unfold Lane.syncLoss
  simp

@[simp] theorem Lane.timeTake_mem (auth : Bool) (g : Nat) (xs : Nat → List CanIn) (l : Lane) :
    (Lane.timeTake auth g xs l).mem = l.mem := by
  unfold Lane.timeTake
  simp

@[simp] theorem Lane.txFill_mem (l : Lane) (b : Nat) (m : Nat) (data : List Byte) :
    (Lane.txFill l b m data).mem = l.mem := by
  unfold Lane.txFill
  simp

@[simp] theorem Lane.slotForm_mem (g : Nat) (b : Nat) (l : Lane) (s : Nat × Nat × Nat) :
    (Lane.slotForm g b l s).mem = l.mem := by
  unfold Lane.slotForm
  simp
  (repeat' split) <;> (try simp)

@[simp] theorem Lane.schedForm_mem (g : Nat) (next : Nat) (l : Lane) (b : Nat) :
    (Lane.schedForm g next l b).mem = l.mem := by
  unfold Lane.schedForm
  simp

@[simp] theorem Lane.slotsEnd_mem (h : Shared) (off : Bool) (g : Nat) (l : Lane) (b : Nat) :
    (Lane.slotsEnd h off g l b).mem = l.mem := by
  unfold Lane.slotsEnd
  simp

@[simp] theorem Lane.slotCheck_mem (g : Nat) (l : Lane) (s : Nat) :
    (Lane.slotCheck g l s).mem = l.mem := by
  unfold Lane.slotCheck
  simp

@[simp] theorem Lane.slotTake_mem (g : Nat) (xs : Nat → List CanIn) (l : Lane) (s : Nat) :
    (Lane.slotTake g xs l s).mem = l.mem := by
  unfold Lane.slotTake
  simp
  (repeat' split) <;> (try simp)

@[simp] theorem Lane.canTake_mem (h : Shared) (g : Nat) (l : Lane) :
    (Lane.canTake h g l).mem = l.mem := by
  unfold Lane.canTake
  simp

@[simp] theorem Lane.ownFront_mem (b : Nat) (f : OwnFrame) (l : Lane) :
    (Lane.ownFront b f l).mem = l.mem := by
  unfold Lane.ownFront
  simp

@[simp] theorem Lane.setPnl_mem (l : Lane) (f : PnlWork → PnlWork) :
    (Lane.setPnl l f).mem = l.mem := by
  unfold Lane.setPnl
  simp

@[simp] theorem Lane.pnlRec_mem (l : Lane) (code : Nat) (g : Nat) (p0 : Word) (p1 : Word) (p2 : Word) :
    (Lane.pnlRec l code g p0 p1 p2).mem = l.mem := by
  unfold Lane.pnlRec
  simp

@[simp] theorem Lane.setBand_mem (g : Nat) (b : Nat) (t : Word) (l : Lane) :
    (Lane.setBand g b t l).mem = l.mem := by
  unfold Lane.setBand
  simp

@[simp] theorem Lane.ntcFault_mem (g : Nat) (l : Lane) :
    (Lane.ntcFault g l).mem = l.mem := by
  unfold Lane.ntcFault
  simp

@[simp] theorem Lane.ntcTake_mem (g : Nat) (w : BitVec 16) (l : Lane) :
    (Lane.ntcTake g w l).mem = l.mem := by
  unfold Lane.ntcTake
  simp

@[simp] theorem Lane.crzSet_mem (g : Nat) (res : Nat) (l : Lane) :
    (Lane.crzSet g res l).mem = l.mem := by
  unfold Lane.crzSet
  simp

@[simp] theorem Lane.railSet_mem (g : Nat) (which : Nat) (v : Nat) (l : Lane) :
    (Lane.railSet g which v l).mem = l.mem := by
  unfold Lane.railSet
  simp

@[simp] theorem Lane.pnlTake_mem (g : Nat) (l : Lane) :
    (Lane.pnlTake g l).mem = l.mem := by
  unfold Lane.pnlTake
  simp
  (repeat' split) <;> (try simp)

@[simp] theorem Lane.pnlTo_mem (g : Nat) (st : Nat) (cause : Nat) (l : Lane) :
    (Lane.pnlTo g st cause l).mem = l.mem := by
  unfold Lane.pnlTo
  simp

@[simp] theorem Lane.pnlRow_mem (g : Nat) (fs : Bool) (l : Lane) :
    (Lane.pnlRow g fs l).mem = l.mem := by
  unfold Lane.pnlRow
  (repeat' split) <;> (try simp)

@[simp] theorem Lane.pnlState_mem (g : Nat) (use : Bool) (fs : Bool) (l : Lane) :
    (Lane.pnlState g use fs l).mem = l.mem := by
  unfold Lane.pnlState
  simp

@[simp] theorem Lane.satSet_mem (g : Nat) (f : Fld) (which : Nat) (p : Nat) (l : Lane) :
    (Lane.satSet g f which p l).mem = l.mem := by
  unfold Lane.satSet
  simp

@[simp] theorem Lane.formRow_mem (p : PnlSet) (iCol g : Nat) (x : Lane × List (List Nat) × List Nat) (y : Nat) :
    (Lane.formRow p iCol g x y).1.mem = x.1.mem := by
  unfold Lane.formRow
  dsimp only
  (repeat' split) <;> simp

@[simp] theorem Lane.formFrame_mem (p : PnlSet) (g fs : Nat) (l : Lane) : (Lane.formFrame p g fs l).mem = l.mem := by
  unfold Lane.formFrame
  simp

@[simp] theorem Lane.pnlForm_mem (g : Nat) (next : Nat) (l : Lane) :
    (Lane.pnlForm g next l).mem = l.mem := by
  unfold Lane.pnlForm
  simp
  (repeat' split) <;> (try simp)

@[simp] theorem Lane.render_mem (g : Nat) (l : Lane) :
    (Lane.render g l).mem = l.mem := by
  unfold Lane.render
  simp

@[simp] theorem Lane.pageAdvance_mem (l : Lane) :
    (Lane.pageAdvance l).mem = l.mem := by
  unfold Lane.pageAdvance
  simp

@[simp] theorem Lane.pageTimer_mem (g : Nat) (l : Lane) :
    (Lane.pageTimer g l).mem = l.mem := by
  unfold Lane.pageTimer
  simp

@[simp] theorem Lane.clrFault_mem (g : Nat) (arg : Nat) (l : Lane) :
    (Lane.clrFault g arg l).mem = l.mem := by
  unfold Lane.clrFault
  simp

@[simp] theorem Lane.pnlPresent_mem (l : Lane) :
    (Lane.pnlPresent l).mem = l.mem := by
  unfold Lane.pnlPresent
  simp

@[simp] theorem Lane.pnlCmd_mem (g : Nat) (op : Nat) (arg : Nat) (l : Lane) :
    (Lane.pnlCmd g op arg l).mem = l.mem := by
  unfold Lane.pnlCmd
  (repeat' split) <;> (try simp)

@[simp] theorem Lane.pnlNote_mem (op : Nat) (l : Lane) :
    (Lane.pnlNote op l).mem = l.mem := by
  unfold Lane.pnlNote
  simp

@[simp] theorem Lane.setFire_mem (l : Lane) (f : FireWork → FireWork) :
    (Lane.setFire l f).mem = l.mem := by
  unfold Lane.setFire
  simp

@[simp] theorem Lane.failStraps_mem (h : Shared) (l : Lane) :
    (Lane.failStraps h l).mem = l.mem := by
  unfold Lane.failStraps
  simp

@[simp] theorem Lane.coreReset_mem (h : Shared) (l : Lane) : (Lane.coreReset h l).mem = [] := by
  unfold Lane.coreReset
  simp

@[simp] theorem Lane.checkTarget_mem (h : Shared) (l : Lane) (t : Nat) :
    (Lane.checkTarget h l t).mem = l.mem := by
  unfold Lane.checkTarget
  simp

@[simp] theorem Lane.targetBad_mem (t : Nat) (code : Nat) (l : Lane) :
    (Lane.targetBad t code l).mem = l.mem := by
  unfold Lane.targetBad
  simp

@[simp] theorem Lane.setReport_mem (src : Nat) (es : List RepEntry) (l : Lane) :
    (Lane.setReport src es l).mem = l.mem := by
  unfold Lane.setReport
  simp

@[simp] theorem Lane.addrBuf_mem (a : Nat) (b : Nat) (l : Lane) (m : Nat) :
    (Lane.addrBuf a b l m).mem = l.mem := by
  unfold Lane.addrBuf
  simp

@[simp] theorem Lane.addrBus_mem (l : Lane) (a b : Nat) : (l.addrBus a b).mem = l.mem := by
  rw [Lane.addrBus, foldl_mem _ (by simp)]

@[simp] theorem Lane.addrFire_mem (h : Shared) (l : Lane) : (Lane.addrFire h l).mem = l.mem := by
  obtain ⟨a, e⟩ : ∃ a, Lane.addrFire h l =
      (((l.setF TIME_ST TIME_ST_NADDR a).setB TIME_ST TIME_ST_NADDR_BAD (a == 0 || a == 127)).addrBus a 0).addrBus a 1 := ⟨_, rfl⟩
  rw [e, Lane.addrBus_mem, Lane.addrBus_mem, Lane.setB_mem, Lane.setF_mem]

@[simp] theorem Lane.pnlFire_mem (h : Shared) (m : Image) (l : Lane) :
    (Lane.pnlFire h m l).mem = l.mem := by
  unfold Lane.pnlFire
  (repeat' split) <;> (try simp)

@[simp] theorem Lane.armGroups_mem (l : Lane) : l.armGroups.mem = l.mem := by
  rw [Lane.armGroups, foldl_mem]
  intro l k
  split <;> simp

@[simp] theorem Lane.loadImage_mem (h : Shared) (r : FireRes) (l : Lane) : (Lane.loadImage h r l).mem = [] := rfl

@[simp] theorem Lane.dutyFire_mem (l : Lane) :
    (Lane.dutyFire l).mem = l.mem := by
  unfold Lane.dutyFire
  simp

@[simp] theorem Lane.unitsFire_mem (h : Shared) (g : Nat) (m : Image) (l : Lane) : (Lane.unitsFire h g m l).mem = l.mem := by
  have e : ∀ a b, a = upTo 32 → b = upTo 24 → Lane.unitsFire h g m l =
      ((((b.foldl (fun l n => (l.aoFire n).hartFire n) (a.foldl (Lane.loopFire g)
        (((l.failStraps h).addrFire h).armGroups).dutyFire)).dioFire).canFire 0).canFire 1).pnlFire h m := by
    intro a b ha hb
    subst ha hb
    rfl
  rw [e _ _ rfl rfl]
  generalize upTo 24 = a
  generalize upTo 32 = b
  rw [Lane.pnlFire_mem, Lane.canFire_mem, Lane.canFire_mem, Lane.dioFire_mem, foldl_mem _ (by simp), foldl_mem _ (by simp),
    Lane.dutyFire_mem, Lane.armGroups_mem, Lane.addrFire_mem, Lane.failStraps_mem]

@[simp] theorem Lane.endRegs_mem (l : Lane) (r : RegFile) : ({ l with endRegs := r } : Lane).mem = l.mem := rfl

@[simp] theorem Lane.loadSlot_mem (h : Shared) (g : Nat) (r : FireRes) (l : Lane) : (Lane.loadSlot h g r l).mem = [] := by
  have e : Lane.loadSlot h g r l = (fun y : Lane => { y with endRegs := y.regs }) ((l.loadImage h r).unitsFire h g (h.image r.slot)) := rfl
  rw [e, Lane.endRegs_mem, Lane.unitsFire_mem, Lane.loadImage_mem]

@[simp] theorem Lane.pfHead_mem (l : Lane) (f : PFire → PFire) :
    (Lane.pfHead l f).mem = l.mem := by
  unfold Lane.pfHead
  (repeat' split) <;> (try simp)

@[simp] theorem Lane.patchDone_mem (h : Shared) (b : Nat) (l : Lane) :
    (Lane.patchDone h b l).mem = l.mem := by
  unfold Lane.patchDone
  (repeat' split) <;> (try simp)

@[simp] theorem Lane.patchSay_mem (g : Nat) (l : Lane) :
    (Lane.patchSay g l).mem = l.mem := by
  unfold Lane.patchSay
  (repeat' split) <;> (try simp)

@[simp] theorem Lane.patchPoints_mem (g : Nat) (r : Nat) (old : Lane) (l : Lane) :
    (Lane.patchPoints g r old l).mem = l.mem := by
  unfold Lane.patchPoints
  simp

@[simp] theorem Lane.patchGroup_mem (g : Nat) (old : Lane) (l : Lane) (k : Nat) :
    (Lane.patchGroup g old l k).mem = l.mem := by
  unfold Lane.patchGroup
  simp

@[simp] theorem Lane.patchRule_mem (g : Nat) (old : Lane) (l : Lane) (r : Nat) :
    (Lane.patchRule g old l r).mem = l.mem := by
  unfold Lane.patchRule
  simp

@[simp] theorem Lane.patchGroups_mem (g : Nat) (old : Lane) (l : Lane) :
    (Lane.patchGroups g old l).mem = l.mem := by
  unfold Lane.patchGroups
  simp

@[simp] theorem Lane.loopReconf_mem (g : Nat) (l : Lane) (n : Nat) :
    (Lane.loopReconf g l n).mem = l.mem := by
  unfold Lane.loopReconf
  simp

@[simp] theorem Lane.patchLoop_mem (g : Nat) (old : Lane) (l : Lane) (n : Nat) :
    (Lane.patchLoop g old l n).mem = l.mem := by
  unfold Lane.patchLoop
  simp

@[simp] theorem Lane.patchAo_mem (g : Nat) (old : Lane) (l : Lane) (n : Nat) :
    (Lane.patchAo g old l n).mem = l.mem := by
  unfold Lane.patchAo
  simp

@[simp] theorem Lane.patchUnits_mem (g : Nat) (r : PatchRes) (old : Lane) (l : Lane) :
    (Lane.patchUnits g r old l).mem = l.mem := by
  unfold Lane.patchUnits
  (repeat' split) <;> (try simp)

@[simp] theorem Lane.patchLoad_mem (g : Nat) (r : PatchRes) (old : Lane) : (Lane.patchLoad g r old).mem = old.mem := by
  have h : (r.regs.foldl (fun l x => let m := imgMask x.1; l.wr x.1 ((l.rd x.1 &&& ~~~ m) ||| (x.2 &&& m))) old).mem = old.mem :=
    foldl_mem _ (by simp) _ _
  unfold Lane.patchLoad
  generalize r.regs.foldl (fun l x => let m := imgMask x.1; l.wr x.1 ((l.rd x.1 &&& ~~~ m) ||| (x.2 &&& m))) old = l at h ⊢
  exact (Lane.patchUnits_mem _ _ _ _).trans h

@[simp] theorem Lane.patchNext_mem (g : Nat) (l : Lane) :
    (Lane.patchNext g l).mem = l.mem := by
  unfold Lane.patchNext
  simp
  (repeat' split) <;> (try simp)

@[simp] theorem Lane.replaced_mem (typ : Nat) (region : Nat) (l : Lane) :
    (Lane.replaced typ region l).mem = l.mem := by
  unfold Lane.replaced
  simp

@[simp] theorem Lane.patchApply_mem (g : Nat) (l : Lane) :
    (Lane.patchApply g l).mem = l.mem := by
  unfold Lane.patchApply
  (repeat' split) <;> (try simp)

@[simp] theorem Lane.stepWith_mem (o : Lane) (l : Lane) :
    (Lane.stepWith o l).mem = l.mem := by
  unfold Lane.stepWith
  simp

@[simp] theorem Lane.showState_mem (auth : Option LaneId) (hold : Bool) (o : Lane) (l : Lane) :
    (Lane.showState auth hold o l).mem = l.mem := by
  unfold Lane.showState
  simp

@[simp] theorem Lane.showSpares_mem (l : Lane) :
    (Lane.showSpares l).mem = l.mem := by
  unfold Lane.showSpares
  simp

@[simp] theorem Lane.coreDown_mem (h : Shared) (l : Lane) : (Lane.coreDown h l).mem = [] := by
  unfold Lane.coreDown
  simp

@[simp] theorem Lane.coreOff_mem (h : Shared) (l : Lane) : (Lane.coreOff h l).mem = [] := by
  unfold Lane.coreOff
  simp

@[simp] theorem Lane.sysNote_mem (op : Nat) (ln : Nat) (l : Lane) :
    (Lane.sysNote op ln l).mem = l.mem := by
  unfold Lane.sysNote
  simp

@[simp] theorem Lane.sysDone_mem (st : Nat) (l : Lane) :
    (Lane.sysDone st l).mem = l.mem := by
  unfold Lane.sysDone
  simp

@[simp] theorem Lane.xTo_mem (v : Nat) (l : Lane) :
    (Lane.xTo v l).mem = l.mem := by
  unfold Lane.xTo
  simp

@[simp] theorem Lane.eraseEnd_mem (l : Lane) :
    (Lane.eraseEnd l).mem = l.mem := by
  unfold Lane.eraseEnd
  simp

@[simp] theorem Lane.xRead_mem (l : Lane) :
    (Lane.xRead l).mem = l.mem := by
  unfold Lane.xRead
  simp

@[simp] theorem Lane.readEnd_mem (h : Shared) (l : Lane) :
    (Lane.readEnd h l).mem = l.mem := by
  unfold Lane.readEnd
  simp

@[simp] theorem Lane.xClose_mem (l : Lane) :
    (Lane.xClose l).mem = l.mem := by
  unfold Lane.xClose
  simp

@[simp] theorem Lane.pFire_mem (g : Nat) (b : Nat) (l : Lane) :
    (Lane.pFire g b l).mem = l.mem := by
  unfold Lane.pFire
  simp

@[simp] theorem Lane.cfgDone_mem (st : Nat) (l : Lane) :
    (Lane.cfgDone st l).mem = l.mem := by
  unfold Lane.cfgDone
  simp

@[simp] theorem Lane.nodeDown_mem (h : Shared) (p : Bool) (l : Lane) : (Lane.nodeDown h p l).mem = [] := by
  unfold Lane.nodeDown
  simp

@[simp] theorem Lane.bisqueSet_mem (h : Shared) (l : Lane) :
    (Lane.bisqueSet h l).mem = l.mem := by
  unfold Lane.bisqueSet
  simp

@[simp] theorem Lane.showRejs_mem (pref : Nat) (l : Lane) :
    (Lane.showRejs pref l).mem = l.mem := by
  unfold Lane.showRejs
  simp

@[simp] theorem Lane.addrEvent_mem (l : Lane) :
    (Lane.addrEvent l).mem = l.mem := by
  unfold Lane.addrEvent
  simp

@[simp] theorem Lane.fireAgain_mem (l : Lane) :
    (Lane.fireAgain l).mem = l.mem := by
  unfold Lane.fireAgain
  simp

@[simp] theorem Lane.zeroed_mem (ks : List Nat) (l : Lane) : (Lane.zeroed ks l).mem = l.mem := by
  unfold Lane.zeroed
  simp

@[simp] theorem Lane.noLocks_mem (l : Lane) : (Lane.noLocks l).mem = l.mem := rfl

@[simp] theorem Lane.errReset_mem (b : Nat) (l : Lane) : (Lane.errReset b l).mem = l.mem := by
  unfold Lane.errReset
  simp

@[simp] theorem Lane.waitReset_mem (b : Nat) (l : Lane) : (Lane.waitReset b l).mem = l.mem := by
  unfold Lane.waitReset
  simp

@[simp] theorem Lane.canReset_mem (l : Lane) (b : Nat) : (Lane.canReset l b).mem = l.mem := by
  unfold Lane.canReset
  rw [Lane.waitReset_mem, Lane.errReset_mem, Lane.zeroed_mem]

@[simp] theorem Lane.holdShort_mem (g : Nat) (v : Nat) (l : Lane) :
    (Lane.holdShort g v l).mem = l.mem := by
  unfold Lane.holdShort
  simp

@[simp] theorem Lane.setLed_mem (l : Lane) (f : LedWork → LedWork) :
    (Lane.setLed l f).mem = l.mem := by
  unfold Lane.setLed
  simp

@[simp] theorem Lane.shedApply_mem (l : Lane) :
    (Lane.shedApply l).mem = l.mem := by
  unfold Lane.shedApply
  simp

@[simp] theorem Lane.setElvl_mem (g : Nat) (v : Nat) (cause : Nat) (l : Lane) :
    (Lane.setElvl g v cause l).mem = l.mem := by
  unfold Lane.setElvl
  simp

@[simp] theorem Lane.setTlvl_mem (g : Nat) (v : Nat) (l : Lane) :
    (Lane.setTlvl g v l).mem = l.mem := by
  unfold Lane.setTlvl
  simp

@[simp] theorem Lane.setOver_mem (g : Nat) (v : Bool) (l : Lane) :
    (Lane.setOver g v l).mem = l.mem := by
  unfold Lane.setOver
  simp

@[simp] theorem Lane.countEnergy_mem (g : Nat) (p : Nat) (emg : Bool) (l : Lane) :
    (Lane.countEnergy g p emg l).mem = l.mem := by
  unfold Lane.countEnergy
  simp

@[simp] theorem Lane.lossSignal_mem (cause : Nat) (l : Lane) :
    (Lane.lossSignal cause l).mem = l.mem := by
  unfold Lane.lossSignal
  simp

@[simp] theorem Lane.ledger_mem (g : Nat) (p : Nat) (v : Nat) (paout : Nat) (l : Lane) :
    (Lane.ledger g p v paout l).mem = l.mem := by
  unfold Lane.ledger
  simp

@[simp] theorem Lane.planEnergy_mem (g : Nat) (l : Lane) :
    (Lane.planEnergy g l).mem = l.mem := by
  unfold Lane.planEnergy
  simp

@[simp] theorem Lane.planHeat_mem (g : Nat) (pw : Nat) (l : Lane) :
    (Lane.planHeat g pw l).mem = l.mem := by
  unfold Lane.planHeat
  simp

@[simp] theorem Lane.planning_mem (g : Nat) (l : Lane) :
    (Lane.planning g l).mem = l.mem := by
  unfold Lane.planning
  simp

@[simp] theorem Lane.flushReserve_mem (l : Lane) :
    (Lane.flushReserve l).mem = l.mem := by
  unfold Lane.flushReserve
  simp

@[simp] theorem Lane.faultSeen_mem (b w acc kind : Nat) (l : Lane) :
    (Lane.faultSeen b w acc kind l).mem = l.mem := by
  unfold Lane.faultSeen
  dsimp only
  split <;> simp

@[simp] theorem Lane.accErr_mem (b : Nat) (ownwr : Bool) (l : Lane) :
    (Lane.accErr b ownwr l).mem = l.mem := by
  unfold Lane.accErr
  simp

@[simp] theorem Lane.ownWrite_mem (b : Nat) (o : Nat) (l : Lane) :
    (Lane.ownWrite b o l).mem = l.mem := by
  unfold Lane.ownWrite
  simp

@[simp] theorem Lane.scrubFix_mem (b : Nat) (i : Nat) (l : Lane) :
    (Lane.scrubFix b i l).mem = l.mem := by
  unfold Lane.scrubFix
  simp

@[simp] theorem Lane.scrubNext_mem (g : Nat) (l : Lane) :
    (Lane.scrubNext g l).mem = l.mem := by
  unfold Lane.scrubNext
  simp

@[simp] theorem Lane.corrected_mem (b : Nat) (l : Lane) :
    (Lane.corrected b l).mem = l.mem := by
  unfold Lane.corrected
  simp

@[simp] theorem CmdReg.put_mem (c : CmdReg) (st : Nat) (v : Word) (l : Lane) :
    (CmdReg.put c st v l).mem = l.mem := by
  unfold CmdReg.put
  simp

@[simp] theorem Lane.takeWrite_mem (p : PendWrite) (l : Lane) :
    (Lane.takeWrite p l).mem = l.mem := by
  unfold Lane.takeWrite
  (repeat' split) <;> (try simp)

@[simp] theorem Lane.takeForwarded_mem (l : Lane) (p : PendWrite) :
    (Lane.takeForwarded l p).mem = l.mem := by
  unfold Lane.takeForwarded
  simp

@[simp] theorem Lane.canWord_mem (b : Nat) (m : Nat) (i : Nat) (v : Word) (l : Lane) :
    (Lane.canWord b m i v l).mem = l.mem := by
  unfold Lane.canWord
  simp

@[simp] theorem Lane.sysTest_mem (v : Word) (l : Lane) :
    (Lane.sysTest v l).mem = l.mem := by
  unfold Lane.sysTest
  simp

@[simp] theorem Lane.pendClearAt_mem (w : Nat) (v : Word) (l : Lane) :
    (Lane.pendClearAt w v l).mem = l.mem := by
  unfold Lane.pendClearAt
  simp

@[simp] theorem Lane.pendClear_mem (w : Nat) (v : Word) (l : Lane) :
    (Lane.pendClear w v l).mem = l.mem := by
  unfold Lane.pendClear
  simp

@[simp] theorem Lane.route_mem (w : Nat) (v : Word) (l : Lane) :
    (Lane.route w v l).mem = l.mem := by
  unfold Lane.route
  simp

@[simp] theorem Lane.evRelease_mem (ev : BitVec 192) (l : Lane) :
    (Lane.evRelease ev l).mem = l.mem := by
  unfold Lane.evRelease
  simp

@[simp] theorem Lane.evtMsg_mem (b : Nat) (busy : Bool) (l : Lane) (w : Nat) :
    (Lane.evtMsg b busy l w).mem = l.mem := by
  unfold Lane.evtMsg
  simp
  (repeat' split) <;> (try simp)

@[simp] theorem Lane.evtForm_mem (h : Shared) (l : Lane) :
    (Lane.evtForm h l).mem = l.mem := by
  unfold Lane.evtForm
  simp

@[simp] theorem Lane.openCut_mem (h : Shared) (g : Nat) (l : Lane) :
    (Lane.openCut h g l).mem = l.mem := by
  unfold Lane.openCut
  simp

@[simp] theorem Lane.openOutputs_mem (h : Shared) (g : Nat) (l : Lane) :
    (Lane.openOutputs h g l).mem = l.mem := by
  unfold Lane.openOutputs
  simp

@[simp] theorem Lane.openLoss_mem (h : Shared) (l : Lane) :
    (Lane.openLoss h l).mem = l.mem := by
  unfold Lane.openLoss
  (repeat' split) <;> (try simp)

@[simp] theorem Lane.openWork_mem (cut : Shared) (h : Shared) (o : Obs) (g : Nat) (l : Lane) :
    (Lane.openWork cut h o g l).mem = l.mem := by
  unfold Lane.openWork
  simp

@[simp] theorem Lane.formWork_mem (h : Shared) (g : Nat) (next : Nat) (l : Lane) :
    (Lane.formWork h g next l).mem = l.mem := by
  unfold Lane.formWork
  simp

@[simp] theorem Lane.releaseWork_mem (g : Nat) (l : Lane) :
    (Lane.releaseWork g l).mem = l.mem := by
  unfold Lane.releaseWork
  simp

@[simp] theorem Lane.showResults_mem (l : Lane) :
    (Lane.showResults l).mem = l.mem := by
  unfold Lane.showResults
  simp

@[simp] theorem Lane.switchRec_mem (g : Nat) (l : Lane) :
    (Lane.switchRec g l).mem = l.mem := by
  unfold Lane.switchRec
  (repeat' split) <;> (try simp)

@[simp] theorem Lane.soloRelease_mem (g : Nat) (l : Lane) :
    (Lane.soloRelease g l).mem = l.mem := by
  unfold Lane.soloRelease
  simp

@[simp] theorem Lane.linkUp_mem (l : Lane) :
    (Lane.linkUp l).mem = l.mem := by
  unfold Lane.linkUp
  simp

@[simp] theorem Lane.packetGood_mem (ty : Nat) (l : Lane) :
    (Lane.packetGood ty l).mem = l.mem := by
  unfold Lane.packetGood
  simp

@[simp] theorem Lane.showDigest_mem (lo : Nat) (hi : Nat) (sub : Nat) (d : DigPkt) (l : Lane) :
    (Lane.showDigest lo hi sub d l).mem = l.mem := by
  unfold Lane.showDigest
  simp

@[simp] theorem Lane.compared_mem (own : DigPkt) (peer : Option DigPkt) (l : Lane) :
    (Lane.compared own peer l).mem = l.mem := by
  unfold Lane.compared
  (repeat' split) <;> (try simp)

@[simp] theorem Lane.adjBegin_mem (g : Nat) (reason : Nat) (unit : Option Nat) (l : Lane) :
    (Lane.adjBegin g reason unit l).mem = l.mem := by
  unfold Lane.adjBegin
  simp

@[simp] theorem Lane.verdict_mem (replayBad : Bool) (refBad : Bool) (sig : Word) (dur : Nat) (l : Lane) :
    (Lane.verdict replayBad refBad sig dur l).mem = l.mem := by
  unfold Lane.verdict
  simp

@[simp] theorem Lane.timedOut_mem (l : Lane) :
    (Lane.timedOut l).mem = l.mem := by
  unfold Lane.timedOut
  simp

@[simp] theorem Lane.catchUpBegin_mem (p2 : Word) (p3 : Word) (l : Lane) :
    (Lane.catchUpBegin p2 p3 l).mem = l.mem := by
  unfold Lane.catchUpBegin
  simp

@[simp] theorem Lane.joined_mem (src : Lane) (l : Lane) :
    (Lane.joined src l).mem = l.mem := by
  unfold Lane.joined
  simp

@[simp] theorem Lane.keepEnd_mem (l : Lane) :
    (Lane.keepEnd l).mem = l.mem := by
  unfold Lane.keepEnd
  simp

@[simp] theorem Lane.closeBisque_mem (g : Nat) (l : Lane) :
    (Lane.closeBisque g l).mem = l.mem := by
  unfold Lane.closeBisque
  simp

@[simp] theorem Lane.carry_mem (k : Int) (l : Lane) :
    (Lane.carry k l).mem = l.mem := by
  unfold Lane.carry
  simp

@[simp] theorem Lane.clockTo_mem (l : Lane) : (Lane.clockTo l).mem = l.mem := by
  unfold Lane.clockTo
  generalize l.clk.run = c
  rfl

@[simp] theorem Lane.stepped_mem (d : Int) (ns : Nat) (l : Lane) :
    (Lane.stepped d ns l).mem = l.mem := by
  unfold Lane.stepped
  simp

@[simp] theorem Lane.stepRec_mem (g : Nat) (d : Int) (l : Lane) :
    (Lane.stepRec g d l).mem = l.mem := by
  unfold Lane.stepRec
  simp

@[simp] theorem Lane.ticked_mem (l : Lane) :
    (Lane.ticked l).mem = l.mem := by
  unfold Lane.ticked
  simp

@[simp] theorem Lane.nextEntry_mem (l : Lane) :
    (Lane.nextEntry l).mem = l.mem := by
  unfold Lane.nextEntry
  simp

@[simp] theorem Lane.readEffect_mem (now : Nat) (k : Nat) (l : Lane) :
    (Lane.readEffect now k l).mem = l.mem := by
  unfold Lane.readEffect
  (repeat' split) <;> (try simp)

@[simp] theorem foldl_amem {α : Type} (f : State → α → State) (h : ∀ l x, (f l x).a.mem = l.a.mem) (xs : List α) (l : State) :
    (xs.foldl f l).a.mem = l.a.mem := by
  induction xs generalizing l with
  | nil => rfl
  | cons x xs ih => simp [ih, h]

@[simp] theorem foldl_bmem {α : Type} (f : State → α → State) (h : ∀ l x, (f l x).b.mem = l.b.mem) (xs : List α) (l : State) :
    (xs.foldl f l).b.mem = l.b.mem := by
  induction xs generalizing l with
  | nil => rfl
  | cons x xs ih => simp [ih, h]

end Sys2Proof.Machine
end

