-- ==== Sys2Proof/Laws/Memory.lean ====
section
/-! SUPPORT. Laws of the bank contents: every operation keeps the canonical form, and a read after a write. -/

namespace Sys2Proof.Machine

theorem memWfFrom_mono (m : List Host.Cell) (lo lo' : Int) (h : lo' ≤ lo) (w : memWfFrom lo m = true) : memWfFrom lo' m = true := by
  cases m with
  | nil => rfl
  | cons c cs => simp [memWfFrom] at w ⊢; exact ⟨⟨by omega, w.1.2⟩, w.2⟩

/-- A store keeps the canonical form. -/
theorem memSet_wfFrom (m : List Host.Cell) (lo : Int) (a : Nat) (v : Byte) (ha : lo < a) (w : memWfFrom lo m = true) :
    memWfFrom lo (memSet m a v) = true := by
  induction m generalizing lo with
  | nil =>
    by_cases hv : v = 0#8
    · simp [memSet, hv, memWfFrom]
    · simp [memSet, hv, memWfFrom, ha]
  | cons c cs ih =>
    simp only [memWfFrom, Bool.and_eq_true, decide_eq_true_eq, bne_iff_ne, ne_eq] at w
    obtain ⟨⟨h1, h2⟩, h3⟩ := w
    unfold memSet
    by_cases hlt : a < c.1
    · by_cases hv : v = 0#8
      · simp [hlt, hv, memWfFrom, h1, h2, h3]
      · have : (a : Int) < c.1 := by omega
        simp [hlt, hv, memWfFrom, ha, this, h2, h3]
    · by_cases he : a = c.1
      · by_cases hv : v = 0#8
        · simp [he, hv]
          exact memWfFrom_mono cs c.1 lo (by omega) h3
        · subst he
          simp [hv, memWfFrom, h1, h3]
      · have : (c.1 : Int) < a := by omega
        simp [hlt, he, memWfFrom, h1, h2, ih c.1 this h3]

theorem memSet_wf (m : List Host.Cell) (a : Nat) (v : Byte) (w : Memory.wf m = true) : Memory.wf (memSet m a v) = true :=
  memSet_wfFrom m (-1) a v (by omega) w

theorem memPut_wf (m : List Host.Cell) (a : Nat) (v : Word) (w : Memory.wf m = true) : Memory.wf (memPut m a v) = true :=
  memSet_wf _ _ _ (memSet_wf _ _ _ (memSet_wf _ _ _ (memSet_wf _ _ _ w)))

theorem memByte_low (m : List Host.Cell) (lo : Int) (a : Nat) (w : memWfFrom lo m = true) (h : (a : Int) ≤ lo) : memByte m a = 0#8 := by
  induction m generalizing lo with
  | nil => rfl
  | cons c cs ih =>
    simp only [memWfFrom, Bool.and_eq_true, decide_eq_true_eq, bne_iff_ne, ne_eq] at w
    have : ¬ c.1 = a := by omega
    simp [memByte, this, ih c.1 w.2 (by omega)]

/-- A read after a store: the byte stored at its address, every other byte as before. -/
theorem memByte_memSet (m : List Host.Cell) (lo : Int) (a b : Nat) (v : Byte) (w : memWfFrom lo m = true) :
    memByte (memSet m a v) b = if b = a then v else memByte m b := by
  induction m generalizing lo with
  | nil =>
    by_cases hv : v = 0#8 <;> by_cases hb : b = a
    all_goals simp [memSet, hv, memByte, hb]
    intro h; exact absurd h.symm hb
  | cons c cs ih =>
    simp only [memWfFrom, Bool.and_eq_true, decide_eq_true_eq, bne_iff_ne, ne_eq] at w
    obtain ⟨⟨h1, h2⟩, h3⟩ := w
    unfold memSet
    by_cases hlt : a < c.1
    · by_cases hb : b = a
      · have hc : ¬ c.1 = b := by omega
        have hz : memByte cs b = 0#8 := memByte_low cs c.1 b h3 (by omega)
        by_cases hv : v = 0#8
        · subst hb
          simp [hlt, hv, memByte, hc, hz]
        · simp [hlt, hv, memByte, hb]
      · by_cases hv : v = 0#8
        · simp [hlt, hv, hb]
        · have : ¬ a = b := fun h => hb h.symm
          simp [hlt, hv, memByte, this, hb]
    · by_cases he : a = c.1
      · by_cases hb : b = a
        · have hz : memByte cs b = 0#8 := memByte_low cs c.1 b h3 (by omega)
          by_cases hv : v = 0#8
          · simp [he, hv, hb]
            subst he; subst hb; simpa using hz
          · simp [he, hv, memByte, hb]
        · have hc : ¬ c.1 = b := by omega
          by_cases hv : v = 0#8 <;> simp [he, hv, memByte, hc]
          all_goals (intro h; omega)
      · have hn : ¬ a < c.1 := hlt
        simp only [hn, he, if_false, memByte, ih c.1 h3]
        by_cases hb : b = a
        · simp [hb]
          omega
        · simp [hb]

/-- The contents of HOST and NONE banks after a write of the host window are in canonical form. -/
@[simp] theorem Lane.bankWrite_wf (mode b o : Nat) (v : Word) (l : Lane) (w : Memory.wf l.mem = true) :
    Memory.wf (l.bankWrite mode b o v).mem = true := by
  unfold Lane.bankWrite
  split
  · simpa [Lane.accErr, Lane.evNow, Lane.wr] using w
  · dsimp only
    split
    · exact memPut_wf _ _ _ (memPut_wf _ _ _ w)
    · exact memPut_wf _ _ _ w

end Sys2Proof.Machine
end

