-- ==== Sys2Proof/Laws/Banks.lean ====
section
/-! SUPPORT. Bank memory of both lanes: operations of the node that leave it alone, and the canonical form that every operation keeps. -/

namespace Sys2Proof.Machine

@[simp] theorem State.setLane_mems (s : State) (i : LaneId) (l : Lane) (hl : l.mem = (s.lane i).mem) :
    (s.setLane i l).a.mem = s.a.mem ∧ (s.setLane i l).b.mem = s.b.mem := by
  cases i <;> simp [State.setLane, State.lane] at hl ⊢ <;> exact hl

@[simp] theorem State.upd_mems (s : State) (i : LaneId) (f : Lane → Lane) (hf : (∀ l, (f l).mem = l.mem)) : (s.upd i f).a.mem = s.a.mem ∧ (s.upd i f).b.mem = s.b.mem := by
  unfold State.upd
  exact State.setLane_mems s i _ (hf _)

@[simp] theorem State.updSh_mems (s : State) (f : Shared → Shared) :
    (State.updSh s f).a.mem = s.a.mem ∧ (State.updSh s f).b.mem = s.b.mem := by
  unfold State.updSh
  simp

@[simp] theorem State.withSh_mems (s : State) (h : Shared) :
    (State.withSh s h).a.mem = s.a.mem ∧ (State.withSh s h).b.mem = s.b.mem := by
  unfold State.withSh
  simp

@[simp] theorem State.onLanes_mems (p : Lane → Bool) (f : Lane → Lane) (s : State) (hf : (∀ l, (f l).mem = l.mem)) : (State.onLanes p f s).a.mem = s.a.mem ∧ (State.onLanes p f s).b.mem = s.b.mem := by
  unfold State.onLanes
  constructor <;> simp only [] <;> split <;> simp [hf]

@[simp] theorem State.both_mems (s : State) (f : Lane → Lane) (hf : (∀ l, (f l).mem = l.mem)) : (s.both f).a.mem = s.a.mem ∧ (s.both f).b.mem = s.b.mem := State.onLanes_mems _ f s hf

@[simp] theorem State.taking_mems (s : State) (f : Lane → Lane) (hf : (∀ l, (f l).mem = l.mem)) : (s.taking f).a.mem = s.a.mem ∧ (s.taking f).b.mem = s.b.mem := State.onLanes_mems _ f s hf

@[simp] theorem State.loadTile_mems (s : State) (t : Nat) :
    (State.loadTile s t).a.mem = s.a.mem ∧ (State.loadTile s t).b.mem = s.b.mem := by
  unfold State.loadTile
  (repeat' split) <;> (try simp)

@[simp] theorem State.wordInstant_mems (s : State) (n : Nat) (a : BitVec 24) (aOver : Bool) (b : BitVec 24) (bOver : Bool) (sat : Bool) (w : Nat) :
    (State.wordInstant s n a aOver b bOver sat w).a.mem = s.a.mem ∧ (State.wordInstant s n a aOver b bOver sat w).b.mem = s.b.mem := by
  unfold State.wordInstant
  simp
  (repeat' split) <;> (try simp)

@[simp] theorem State.deliver_mems (s : State) (t : Nat) (p : Path) (k : Nat) :
    (State.deliver s t p k).a.mem = s.a.mem ∧ (State.deliver s t p k).b.mem = s.b.mem := by
  unfold State.deliver
  simp
  (repeat' split) <;> (try simp)

@[simp] theorem State.tileLinkUp_mems (s : State) (t : Nat) (p : Path) :
    (State.tileLinkUp s t p).a.mem = s.a.mem ∧ (State.tileLinkUp s t p).b.mem = s.b.mem := by
  unfold State.tileLinkUp
  (repeat' split) <;> (try simp)

@[simp] theorem State.tileFrame_mems (s : State) (t : Nat) (p : Path) (word : Bool) (ok : Bool) (w : Nat) :
    (State.tileFrame s t p word ok w).a.mem = s.a.mem ∧ (State.tileFrame s t p word ok w).b.mem = s.b.mem := by
  unfold State.tileFrame
  simp
  (repeat' split) <;> (try simp)

@[simp] theorem State.tileLinkLost_mems (s : State) (t : Nat) (p : Path) (w : Nat) :
    (State.tileLinkLost s t p w).a.mem = s.a.mem ∧ (State.tileLinkLost s t p w).b.mem = s.b.mem := by
  unfold State.tileLinkLost
  (repeat' split) <;> (try simp)

@[simp] theorem State.excSatChange_mems (s : State) (n : Nat) :
    (State.excSatChange s n).a.mem = s.a.mem ∧ (State.excSatChange s n).b.mem = s.b.mem := by
  unfold State.excSatChange
  simp
  (repeat' split) <;> (try simp)

@[simp] theorem State.openChange_mems (s : State) (n : Nat) :
    (State.openChange s n).a.mem = s.a.mem ∧ (State.openChange s n).b.mem = s.b.mem := by
  unfold State.openChange
  simp
  (repeat' split) <;> (try simp)

@[simp] theorem State.cjcUse_mems (s : State) (t : Nat) :
    (State.cjcUse s t).a.mem = s.a.mem ∧ (State.cjcUse s t).b.mem = s.b.mem := by
  unfold State.cjcUse
  simp

@[simp] theorem State.cjcWord_mems (s : State) (t : Nat) (res : Word) (w : Nat) :
    (State.cjcWord s t res w).a.mem = s.a.mem ∧ (State.cjcWord s t res w).b.mem = s.b.mem := by
  unfold State.cjcWord
  simp
  (repeat' split) <;> (try simp)

@[simp] theorem State.cjcChange_mems (s : State) (t : Nat) :
    (State.cjcChange s t).a.mem = s.a.mem ∧ (State.cjcChange s t).b.mem = s.b.mem := by
  unfold State.cjcChange
  simp
  (repeat' split) <;> (try simp)

@[simp] theorem State.shuntTrip_mems (s : State) (n : Nat) (w : Nat) :
    (State.shuntTrip s n w).a.mem = s.a.mem ∧ (State.shuntTrip s n w).b.mem = s.b.mem := by
  unfold State.shuntTrip
  (repeat' split) <;> (try simp)

@[simp] theorem State.injStart_mems (s : State) (t : Nat) :
    (State.injStart s t).a.mem = s.a.mem ∧ (State.injStart s t).b.mem = s.b.mem := by
  unfold State.injStart
  simp
  (repeat' split) <;> (try simp)

@[simp] theorem State.injSlot_mems (s : State) :
    (State.injSlot s).a.mem = s.a.mem ∧ (State.injSlot s).b.mem = s.b.mem := by
  unfold State.injSlot
  (repeat' split) <;> (try simp)

@[simp] theorem State.injResult_mems (s : State) (t : Nat) (sp : Int) (sm : Int) (w : Nat) :
    (State.injResult s t sp sm w).a.mem = s.a.mem ∧ (State.injResult s t sp sm w).b.mem = s.b.mem := by
  unfold State.injResult
  simp
  (repeat' split) <;> (try simp)

@[simp] theorem State.ainCmd_mems (s : State) (op : Nat) (ch : Nat) (arg : Nat) :
    (State.ainCmd s op ch arg).a.mem = s.a.mem ∧ (State.ainCmd s op ch arg).b.mem = s.b.mem := by
  unfold State.ainCmd
  simp

@[simp] theorem State.ainRow_mems (s : State) (op : Nat) (ch : Nat) (arg : Nat) :
    (State.ainRow s op ch arg).a.mem = s.a.mem ∧ (State.ainRow s op ch arg).b.mem = s.b.mem := by
  unfold State.ainRow
  simp

@[simp] theorem State.ctrlRow_mems (s : State) (op : Nat) (n : Nat) (arg : Nat) (v : F32) :
    (State.ctrlRow s op n arg v).a.mem = s.a.mem ∧ (State.ctrlRow s op n arg v).b.mem = s.b.mem := by
  unfold State.ctrlRow
  simp

@[simp] theorem State.almRow_mems (s : State) (op : Nat) (tgt : Nat) (origin : Nat) :
    (State.almRow s op tgt origin).a.mem = s.a.mem ∧ (State.almRow s op tgt origin).b.mem = s.b.mem := by
  unfold State.almRow
  simp

@[simp] theorem State.scanRow_mems (s : State) (k : Nat) (p : Lane → Lane → Bool) :
    (State.scanRow s k p).a.mem = s.a.mem ∧ (State.scanRow s k p).b.mem = s.b.mem := by
  unfold State.scanRow
  simp

@[simp] theorem State.ringRec_mems (s : State) (code : Nat) (w : Nat) (ev : Bool) :
    (State.ringRec s code w ev).a.mem = s.a.mem ∧ (State.ringRec s code w ev).b.mem = s.b.mem := by
  unfold State.ringRec
  (repeat' split) <;> (try simp)

@[simp] theorem State.bypassClose_mems (s : State) (w : Nat) :
    (State.bypassClose s w).a.mem = s.a.mem ∧ (State.bypassClose s w).b.mem = s.b.mem := by
  unfold State.bypassClose
  (repeat' split) <;> (try simp)

@[simp] theorem State.ringSync_mems (s : State) (w : Nat) :
    (State.ringSync s w).a.mem = s.a.mem ∧ (State.ringSync s w).b.mem = s.b.mem := by
  unfold State.ringSync
  (repeat' split) <;> (try simp)

@[simp] theorem State.bypassOpen_mems (s : State) (w : Nat) :
    (State.bypassOpen s w).a.mem = s.a.mem ∧ (State.bypassOpen s w).b.mem = s.b.mem := by
  unfold State.bypassOpen
  simp
  (repeat' split) <;> (try simp)

@[simp] theorem State.ringFlush_mems (s : State) :
    (State.ringFlush s).a.mem = s.a.mem ∧ (State.ringFlush s).b.mem = s.b.mem := by
  unfold State.ringFlush
  simp

@[simp] theorem State.ringIn_mems (p : Port) (f : RingFrame) (w : Nat) (act : State → State) (hf : ∀ s, (act s).a.mem = s.a.mem ∧ (act s).b.mem = s.b.mem) (s : State) :
    (State.ringIn p f w act s).a.mem = s.a.mem ∧ (State.ringIn p f w act s).b.mem = s.b.mem := by
  unfold State.ringIn
  dsimp only
  (repeat' split) <;> (try simp [hf])

@[simp] theorem State.passToken_mems (s : State) (p : Port) (w : Nat) :
    (State.passToken s p w).a.mem = s.a.mem ∧ (State.passToken s p w).b.mem = s.b.mem := by
  unfold State.passToken
  simp
  (repeat' split) <;> (try simp)

@[simp] theorem State.token_mems (s : State) (p : Port) (src : Nat) (w : Nat) :
    (State.token s p src w).a.mem = s.a.mem ∧ (State.token s p src w).b.mem = s.b.mem := by
  unfold State.token
  simp
  (repeat' split) <;> (try simp)

@[simp] theorem State.returned_mems (s : State) (type : Nat) (w : Nat) :
    (State.returned s type w).a.mem = s.a.mem ∧ (State.returned s type w).b.mem = s.b.mem := by
  unfold State.returned
  (repeat' split) <;> (try simp)

@[simp] theorem State.ringBack_mems (type : Nat) (src : Nat) (w : Nat) (s : State) :
    (State.ringBack type src w s).a.mem = s.a.mem ∧ (State.ringBack type src w s).b.mem = s.b.mem := by
  unfold State.ringBack
  (repeat' split) <;> (try simp)

@[simp] theorem State.enterWrap_mems (s : State) (p : Port) (w : Nat) :
    (State.enterWrap s p w).a.mem = s.a.mem ∧ (State.enterWrap s p w).b.mem = s.b.mem := by
  unfold State.enterWrap
  (repeat' split) <;> (try simp)

@[simp] theorem State.leaveWrap_mems (s : State) (p : Port) (w : Nat) :
    (State.leaveWrap s p w).a.mem = s.a.mem ∧ (State.leaveWrap s p w).b.mem = s.b.mem := by
  unfold State.leaveWrap
  (repeat' split) <;> (try simp)

@[simp] theorem State.portLost_mems (s : State) (p : Port) (w : Nat) :
    (State.portLost s p w).a.mem = s.a.mem ∧ (State.portLost s p w).b.mem = s.b.mem := by
  unfold State.portLost
  (repeat' split) <;> (try simp)

@[simp] theorem State.openFrame_mems (s : State) (src : Nat) (nbr : Nat) (port : Nat) (w : Nat) :
    (State.openFrame s src nbr port w).a.mem = s.a.mem ∧ (State.openFrame s src nbr port w).b.mem = s.b.mem := by
  unfold State.openFrame
  simp
  (repeat' split) <;> (try simp)

@[simp] theorem State.closedFrame_mems (s : State) (src : Nat) (nbr : Nat) (port : Nat) (w : Nat) :
    (State.closedFrame s src nbr port w).a.mem = s.a.mem ∧ (State.closedFrame s src nbr port w).b.mem = s.b.mem := by
  unfold State.closedFrame
  simp
  (repeat' split) <;> (try simp)

@[simp] theorem State.probeFrame_mems (s : State) (p : Port) (w : Nat) :
    (State.probeFrame s p w).a.mem = s.a.mem ∧ (State.probeFrame s p w).b.mem = s.b.mem := by
  unfold State.probeFrame
  (repeat' split) <;> (try simp)

@[simp] theorem State.probeTimer_mems (s : State) (p : Port) (w : Nat) :
    (State.probeTimer s p w).a.mem = s.a.mem ∧ (State.probeTimer s p w).b.mem = s.b.mem := by
  unfold State.probeTimer
  (repeat' split) <;> (try simp)

@[simp] theorem State.tokenLoss_mems (s : State) (w : Nat) :
    (State.tokenLoss s w).a.mem = s.a.mem ∧ (State.tokenLoss s w).b.mem = s.b.mem := by
  unfold State.tokenLoss
  (repeat' split) <;> (try simp)

@[simp] theorem State.claim_mems (s : State) (src : Nat) (w : Nat) :
    (State.claim s src w).a.mem = s.a.mem ∧ (State.claim s src w).b.mem = s.b.mem := by
  unfold State.claim
  simp
  (repeat' split) <;> (try simp)

@[simp] theorem State.station_mems (s : State) (type : Nat) (src : Nat) (data : List Byte) (w : Nat) :
    (State.station s type src data w).a.mem = s.a.mem ∧ (State.station s type src data w).b.mem = s.b.mem := by
  unfold State.station
  (repeat' split) <;> (try simp)

@[simp] theorem State.aoCmd_mems (s : State) (op : Nat) (n : Nat) (arg : Nat) (v : F32) :
    (State.aoCmd s op n arg v).a.mem = s.a.mem ∧ (State.aoCmd s op n arg v).b.mem = s.b.mem := by
  unfold State.aoCmd
  simp

@[simp] theorem State.aoRow_mems (s : State) (op : Nat) (n : Nat) (arg : Nat) (v : F32) :
    (State.aoRow s op n arg v).a.mem = s.a.mem ∧ (State.aoRow s op n arg v).b.mem = s.b.mem := by
  unfold State.aoRow
  simp

@[simp] theorem State.diTo_mems (t : Nat) (s : State) (n : Nat) :
    (State.diTo t s n).a.mem = s.a.mem ∧ (State.diTo t s n).b.mem = s.b.mem := by
  unfold State.diTo
  (repeat' split) <;> (try simp)

@[simp] theorem State.dioChange_mems (f : Shared → Shared) (s : State) :
    (State.dioChange f s).a.mem = s.a.mem ∧ (State.dioChange f s).b.mem = s.b.mem := by
  unfold State.dioChange
  simp

@[simp] theorem State.doEval_mems (s : State) :
    (State.doEval s).a.mem = s.a.mem ∧ (State.doEval s).b.mem = s.b.mem := by
  unfold State.doEval
  simp

@[simp] theorem State.dioSamples_mems (n : Nat) (s : State) :
    (State.dioSamples n s).a.mem = s.a.mem ∧ (State.dioSamples n s).b.mem = s.b.mem := by
  induction n generalizing s with
  | zero => simp [State.dioSamples]
  | succ n ih => simp [State.dioSamples, ih]

@[simp] theorem State.dioTo_mems (w : Nat) (s : State) :
    (State.dioTo w s).a.mem = s.a.mem ∧ (State.dioTo w s).b.mem = s.b.mem := by
  unfold State.dioTo
  dsimp only
  split <;> simp

@[simp] theorem State.dioEvent_mems (w : Nat) (f : Shared → Shared) (s : State) :
    (State.dioEvent w f s).a.mem = s.a.mem ∧ (State.dioEvent w f s).b.mem = s.b.mem := by
  unfold State.dioEvent
  simp

@[simp] theorem State.dioAll_mems (w : Nat) (s : State) :
    (State.dioAll w s).a.mem = s.a.mem ∧ (State.dioAll w s).b.mem = s.b.mem := by
  unfold State.dioAll
  simp

@[simp] theorem State.dioClose_mems (g : Nat) (s : State) :
    (State.dioClose g s).a.mem = s.a.mem ∧ (State.dioClose g s).b.mem = s.b.mem := by
  unfold State.dioClose
  simp

@[simp] theorem State.doBoundary_mems (rel : Option Word) (s : State) :
    (State.doBoundary rel s).a.mem = s.a.mem ∧ (State.doBoundary rel s).b.mem = s.b.mem := by
  unfold State.doBoundary
  simp

@[simp] theorem State.dioCmd_mems (s : State) (op : Nat) (n : Nat) (arg : Nat) :
    (State.dioCmd s op n arg).a.mem = s.a.mem ∧ (State.dioCmd s op n arg).b.mem = s.b.mem := by
  unfold State.dioCmd
  simp

@[simp] theorem State.dioRow_mems (s : State) (op : Nat) (n : Nat) (arg : Nat) :
    (State.dioRow s op n arg).a.mem = s.a.mem ∧ (State.dioRow s op n arg).b.mem = s.b.mem := by
  unfold State.dioRow
  simp

@[simp] theorem State.doProt_mems (s : State) (n : Nat) (t : Nat) (f : DoHw → DoHw) :
    (State.doProt s n t f).a.mem = s.a.mem ∧ (State.doProt s n t f).b.mem = s.b.mem := by
  unfold State.doProt
  simp

@[simp] theorem State.bankRow_mems (k : Nat) (vf : BitVec 16) (t : Nat) (s : State) :
    (State.bankRow k vf t s).a.mem = s.a.mem ∧ (State.bankRow k vf t s).b.mem = s.b.mem := by
  unfold State.bankRow
  simp

@[simp] theorem State.working_mems (s : State) (f : Lane → Lane) (hf : (∀ l, (f l).mem = l.mem)) : (s.working f).a.mem = s.a.mem ∧ (s.working f).b.mem = s.b.mem := State.onLanes_mems _ f s hf

@[simp] theorem State.sysRec_mems (code : Nat) (p0 : Nat) (p1 : Nat) (p2 : Nat) (p3 : Nat) (s : State) (rank : Nat) :
    (State.sysRec code p0 p1 p2 p3 s rank).a.mem = s.a.mem ∧ (State.sysRec code p0 p1 p2 p3 s rank).b.mem = s.b.mem := by
  unfold State.sysRec
  (repeat' split) <;> (try simp)

@[simp] theorem State.storeSync_mems (s : State) :
    (State.storeSync s).a.mem = s.a.mem ∧ (State.storeSync s).b.mem = s.b.mem := by
  unfold State.storeSync
  simp

@[simp] theorem State.storeOutRec_mems (i : LaneId) (s : State) :
    (State.storeOutRec i s).a.mem = s.a.mem ∧ (State.storeOutRec i s).b.mem = s.b.mem := by
  unfold State.storeOutRec
  simp

@[simp] theorem State.commitEnd_mems (s : State) (i : LaneId) (ok : Bool) (stamp : Bool) :
    (State.commitEnd s i ok stamp).a.mem = s.a.mem ∧ (State.commitEnd s i ok stamp).b.mem = s.b.mem := by
  unfold State.commitEnd
  simp
  (repeat' split) <;> (try simp)

@[simp] theorem State.mirrorStart_mems (s : State) (i : LaneId) :
    (State.mirrorStart s i).a.mem = s.a.mem ∧ (State.mirrorStart s i).b.mem = s.b.mem := by
  unfold State.mirrorStart
  simp
  (repeat' split) <;> (try simp)

@[simp] theorem State.mirrorPacket_mems (s : State) (i : LaneId) :
    (State.mirrorPacket s i).a.mem = s.a.mem ∧ (State.mirrorPacket s i).b.mem = s.b.mem := by
  unfold State.mirrorPacket
  simp
  (repeat' split) <;> (try simp)

@[simp] theorem State.mirrorEnd_mems (s : State) :
    (State.mirrorEnd s).a.mem = s.a.mem ∧ (State.mirrorEnd s).b.mem = s.b.mem := by
  unfold State.mirrorEnd
  simp
  (repeat' split) <;> (try simp)

@[simp] theorem State.recRow_mems (s : State) (op : Nat) :
    (State.recRow s op).a.mem = s.a.mem ∧ (State.recRow s op).b.mem = s.b.mem := by
  unfold State.recRow
  simp

@[simp] theorem State.canSync_mems (s : State) :
    (State.canSync s).a.mem = s.a.mem ∧ (State.canSync s).b.mem = s.b.mem := by
  unfold State.canSync
  simp

@[simp] theorem State.canCmd_mems (s : State) (b : Nat) (op : Nat) (m : Nat) (arg : Nat) :
    (State.canCmd s b op m arg).a.mem = s.a.mem ∧ (State.canCmd s b op m arg).b.mem = s.b.mem := by
  unfold State.canCmd
  simp

@[simp] theorem State.canRow_mems (s : State) (b : Nat) (op : Nat) (m : Nat) (arg : Nat) :
    (State.canRow s b op m arg).a.mem = s.a.mem ∧ (State.canRow s b op m arg).b.mem = s.b.mem := by
  unfold State.canRow
  simp

@[simp] theorem State.rxLock_mems (a : Accessor) (i : LaneId) (b : Nat) (m : Nat) (t : Nat) (s : State) :
    (State.rxLock a i b m t s).a.mem = s.a.mem ∧ (State.rxLock a i b m t s).b.mem = s.b.mem := by
  unfold State.rxLock
  simp
  (repeat' split) <;> (try simp)

@[simp] theorem State.rxRelease_mems (a : Accessor) (i : LaneId) (b : Nat) (m : Nat) (s : State) :
    (State.rxRelease a i b m s).a.mem = s.a.mem ∧ (State.rxRelease a i b m s).b.mem = s.b.mem := by
  unfold State.rxRelease
  (repeat' split) <;> (try simp)

@[simp] theorem State.canIn_mems (s : State) (b : Nat) (f : FrameRep) :
    (State.canIn s b f).a.mem = s.a.mem ∧ (State.canIn s b f).b.mem = s.b.mem := by
  unfold State.canIn
  simp

@[simp] theorem State.txBegin_mems (s : State) (b : Nat) (who : TxWho) (t : Nat) :
    (State.txBegin s b who t).a.mem = s.a.mem ∧ (State.txBegin s b who t).b.mem = s.b.mem := by
  unfold State.txBegin
  simp
  (repeat' split) <;> (try simp)

@[simp] theorem State.crzCount_mems (was : Bool) (s : State) :
    (State.crzCount was s).a.mem = s.a.mem ∧ (State.crzCount was s).b.mem = s.b.mem := by
  unfold State.crzCount
  (repeat' split) <;> (try simp)

@[simp] theorem State.pnlReport_mems (s : State) (f : PnlCut → PnlCut) :
    (State.pnlReport s f).a.mem = s.a.mem ∧ (State.pnlReport s f).b.mem = s.b.mem := by
  unfold State.pnlReport
  simp

@[simp] theorem State.crzMeasure_mems (s : State) (res : Nat) (t : Nat) :
    (State.crzMeasure s res t).a.mem = s.a.mem ∧ (State.crzMeasure s res t).b.mem = s.b.mem := by
  unfold State.crzMeasure
  (repeat' split) <;> (try simp)

@[simp] theorem State.railFault_mems (s : State) (vcol : Bool) (v : Nat) (t : Nat) :
    (State.railFault s vcol v t).a.mem = s.a.mem ∧ (State.railFault s vcol v t).b.mem = s.b.mem := by
  unfold State.railFault
  simp
  (repeat' split) <;> (try simp)

@[simp] theorem State.railGood_mems (s : State) (vcol : Bool) (vneg : Nat) (vc : Nat) (t : Nat) :
    (State.railGood s vcol vneg vc t).a.mem = s.a.mem ∧ (State.railGood s vcol vneg vc t).b.mem = s.b.mem := by
  unfold State.railGood
  simp
  (repeat' split) <;> (try simp)

@[simp] theorem State.vcolDev_mems (s : State) (v : Nat) :
    (State.vcolDev s v).a.mem = s.a.mem ∧ (State.vcolDev s v).b.mem = s.b.mem := by
  unfold State.vcolDev
  simp
  (repeat' split) <;> (try simp)

@[simp] theorem State.railsDown_mems (s : State) (vneg : Nat) (vc : Nat) (t : Nat) :
    (State.railsDown s vneg vc t).a.mem = s.a.mem ∧ (State.railsDown s vneg vc t).b.mem = s.b.mem := by
  unfold State.railsDown
  simp
  (repeat' split) <;> (try simp)

@[simp] theorem State.pnlRow_mems (s : State) (op : Nat) (arg : Nat) :
    (State.pnlRow s op arg).a.mem = s.a.mem ∧ (State.pnlRow s op arg).b.mem = s.b.mem := by
  unfold State.pnlRow
  (repeat' split) <;> (try simp)

@[simp] theorem State.patchApply_mems (g : Nat) (s : State) :
    (State.patchApply g s).a.mem = s.a.mem ∧ (State.patchApply g s).b.mem = s.b.mem := by
  unfold State.patchApply
  simp
  (repeat' split) <;> (try simp)

@[simp] theorem State.stepSync_mems (s : State) :
    (State.stepSync s).a.mem = s.a.mem ∧ (State.stepSync s).b.mem = s.b.mem := by
  unfold State.stepSync
  simp

@[simp] theorem State.sysSync_mems (s : State) :
    (State.sysSync s).a.mem = s.a.mem ∧ (State.sysSync s).b.mem = s.b.mem := by
  unfold State.sysSync
  simp

@[simp] theorem State.laneEvent_mems (s : State) :
    (State.laneEvent s).a.mem = s.a.mem ∧ (State.laneEvent s).b.mem = s.b.mem := by
  unfold State.laneEvent
  simp

@[simp] theorem State.laneSay_mems (i : LaneId) (old : Lane) (row : Nat) (outcome : Nat) (s : State) :
    (State.laneSay i old row outcome s).a.mem = s.a.mem ∧ (State.laneSay i old row outcome s).b.mem = s.b.mem := by
  unfold State.laneSay
  simp

@[simp] theorem State.laneTo_mems (i : LaneId) (st : LaneSt) (instep : Bool) (row : Nat) (outcome : Nat) (s : State) :
    (State.laneTo i st instep row outcome s).a.mem = s.a.mem ∧ (State.laneTo i st instep row outcome s).b.mem = s.b.mem := by
  unfold State.laneTo
  simp
  (repeat' split) <;> (try simp)

@[simp] theorem State.authRestrict_mems (a : Option LaneId) (s : State) :
    (State.authRestrict a s).a.mem = s.a.mem ∧ (State.authRestrict a s).b.mem = s.b.mem := by
  unfold State.authRestrict
  (repeat' split) <;> (try simp)

@[simp] theorem State.setAuth_mems (a : Option LaneId) (s : State) :
    (State.setAuth a s).a.mem = s.a.mem ∧ (State.setAuth a s).b.mem = s.b.mem := by
  unfold State.setAuth
  simp

@[simp] theorem State.setHold_mems (v : Bool) (s : State) :
    (State.setHold v s).a.mem = s.a.mem ∧ (State.setHold v s).b.mem = s.b.mem := by
  unfold State.setHold
  simp

@[simp] theorem State.resetNext_mems (cause : Nat) (s : State) :
    (State.resetNext cause s).a.mem = s.a.mem ∧ (State.resetNext cause s).b.mem = s.b.mem := by
  unfold State.resetNext
  (repeat' split) <;> (try simp)

@[simp] theorem State.retire_mems (i : LaneId) (row : Nat) (outcome : Nat) (s : State) :
    (State.retire i row outcome s).a.mem = s.a.mem ∧ (State.retire i row outcome s).b.mem = s.b.mem := by
  unfold State.retire
  (repeat' split) <;> (try simp)

@[simp] theorem State.laneFault_mems (i : LaneId) (unit : Nat) (s : State) :
    (State.laneFault i unit s).a.mem = s.a.mem ∧ (State.laneFault i unit s).b.mem = s.b.mem := by
  unfold State.laneFault
  simp
  (repeat' split) <;> (try simp)

@[simp] theorem State.swap_mems (s : State) :
    (State.swap s).a.mem = s.a.mem ∧ (State.swap s).b.mem = s.b.mem := by
  unfold State.swap
  (repeat' split) <;> (try simp)

@[simp] theorem State.retireCmd_mems (i : LaneId) (s : State) :
    (State.retireCmd i s).a.mem = s.a.mem ∧ (State.retireCmd i s).b.mem = s.b.mem := by
  unfold State.retireCmd
  simp
  (repeat' split) <;> (try simp)

@[simp] theorem State.setUnres_mems (v : Bool) (s : State) :
    (State.setUnres v s).a.mem = s.a.mem ∧ (State.setUnres v s).b.mem = s.b.mem := by
  unfold State.setUnres
  simp

@[simp] theorem State.xClosed_mems (t : Nat) (s : State) :
    (State.xClosed t s).a.mem = s.a.mem ∧ (State.xClosed t s).b.mem = s.b.mem := by
  unfold State.xClosed
  simp

@[simp] theorem State.xOpen_mems (t : Nat) (s : State) :
    (State.xOpen t s).a.mem = s.a.mem ∧ (State.xOpen t s).b.mem = s.b.mem := by
  unfold State.xOpen
  simp

@[simp] theorem State.xProg_mems (s : State) :
    (State.xProg s).a.mem = s.a.mem ∧ (State.xProg s).b.mem = s.b.mem := by
  unfold State.xProg
  simp

@[simp] theorem State.progEnd_mems (ok : Bool) (s : State) :
    (State.progEnd ok s).a.mem = s.a.mem ∧ (State.progEnd ok s).b.mem = s.b.mem := by
  unfold State.progEnd
  simp
  (repeat' split) <;> (try simp)

@[simp] theorem State.checkEnd_mems (s : State) :
    (State.checkEnd s).a.mem = s.a.mem ∧ (State.checkEnd s).b.mem = s.b.mem := by
  unfold State.checkEnd
  (repeat' split) <;> (try simp)

@[simp] theorem State.xAbort_mems (s : State) :
    (State.xAbort s).a.mem = s.a.mem ∧ (State.xAbort s).b.mem = s.b.mem := by
  unfold State.xAbort
  simp

@[simp] theorem State.setPref_mems (v : Nat) (s : State) :
    (State.setPref v s).a.mem = s.a.mem ∧ (State.setPref v s).b.mem = s.b.mem := by
  unfold State.setPref
  simp

@[simp] theorem State.burnKey_mems (s : State) :
    (State.burnKey s).a.mem = s.a.mem ∧ (State.burnKey s).b.mem = s.b.mem := by
  unfold State.burnKey
  simp

@[simp] theorem State.burnAuth_mems (s : State) :
    (State.burnAuth s).a.mem = s.a.mem ∧ (State.burnAuth s).b.mem = s.b.mem := by
  unfold State.burnAuth
  simp

@[simp] theorem State.restart_mems (cause : Nat) (s : State) :
    (State.restart cause s).a.mem = s.a.mem ∧ (State.restart cause s).b.mem = s.b.mem := by
  unfold State.restart
  simp

@[simp] theorem State.cfgEffect_mems (s : State) (op : Nat) (arg : Nat) :
    (State.cfgEffect s op arg).a.mem = s.a.mem ∧ (State.cfgEffect s op arg).b.mem = s.b.mem := by
  unfold State.cfgEffect
  (repeat' split) <;> (try simp)

@[simp] theorem State.cfgCmd_mems (s : State) (op : Nat) (arg : Nat) :
    (State.cfgCmd s op arg).a.mem = s.a.mem ∧ (State.cfgCmd s op arg).b.mem = s.b.mem := by
  unfold State.cfgCmd
  simp
  (repeat' split) <;> (try simp)

@[simp] theorem State.cfgRow_mems (s : State) (op : Nat) (arg : Nat) :
    (State.cfgRow s op arg).a.mem = s.a.mem ∧ (State.cfgRow s op arg).b.mem = s.b.mem := by
  unfold State.cfgRow
  simp

@[simp] theorem State.release_mems (s : State) :
    (State.release s).a.mem = s.a.mem ∧ (State.release s).b.mem = s.b.mem := by
  unfold State.release
  simp
  (repeat' split) <;> (try simp)

@[simp] theorem State.addrRec_mems (a : Nat) (nsrc : Nat) (s : State) :
    (State.addrRec a nsrc s).a.mem = s.a.mem ∧ (State.addrRec a nsrc s).b.mem = s.b.mem := by
  unfold State.addrRec
  (repeat' split) <;> (try simp)

@[simp] theorem State.laneBisque_mems (i : LaneId) (s : State) :
    (State.laneBisque i s).a.mem = s.a.mem ∧ (State.laneBisque i s).b.mem = s.b.mem := by
  unfold State.laneBisque
  (repeat' split) <;> (try simp)

@[simp] theorem State.bisqueEnter_mems (reason : Nat) (s : State) :
    (State.bisqueEnter reason s).a.mem = s.a.mem ∧ (State.bisqueEnter reason s).b.mem = s.b.mem := by
  unfold State.bisqueEnter
  simp

@[simp] theorem State.strapSample_mems (straps : BitVec 15) (s : State) :
    (State.strapSample straps s).a.mem = s.a.mem ∧ (State.strapSample straps s).b.mem = s.b.mem := by
  unfold State.strapSample
  simp
  (repeat' split) <;> (try simp)

@[simp] theorem State.slotRejected_mems (i : LaneId) (x : Nat × RepEntry) (s : State) :
    (State.slotRejected i x s).a.mem = s.a.mem ∧ (State.slotRejected i x s).b.mem = s.b.mem := by
  unfold State.slotRejected
  (repeat' split) <;> (try simp)

@[simp] theorem State.fireMis_mems (s : State) :
    (State.fireMis s).a.mem = s.a.mem ∧ (State.fireMis s).b.mem = s.b.mem := by
  unfold State.fireMis
  simp

@[simp] theorem State.misRec_mems (attempt : Nat) (gone : Nat) (s : State) :
    (State.misRec attempt gone s).a.mem = s.a.mem ∧ (State.misRec attempt gone s).b.mem = s.b.mem := by
  unfold State.misRec
  simp

@[simp] theorem State.stepSix_mems (s : State) :
    (State.stepSix s).a.mem = s.a.mem ∧ (State.stepSix s).b.mem = s.b.mem := by
  unfold State.stepSix
  simp

@[simp] theorem State.waitEnd_mems (s : State) :
    (State.waitEnd s).a.mem = s.a.mem ∧ (State.waitEnd s).b.mem = s.b.mem := by
  unfold State.waitEnd
  simp
  (repeat' split) <;> (try simp)

@[simp] theorem State.runReached_mems (s : State) :
    (State.runReached s).a.mem = s.a.mem ∧ (State.runReached s).b.mem = s.b.mem := by
  unfold State.runReached
  simp

@[simp] theorem State.phaseStable_mems (s : State) :
    (State.phaseStable s).a.mem = s.a.mem ∧ (State.phaseStable s).b.mem = s.b.mem := by
  unfold State.phaseStable
  simp
  (repeat' split) <;> (try simp)

@[simp] theorem State.failsCleared_mems (s : State) :
    (State.failsCleared s).a.mem = s.a.mem ∧ (State.failsCleared s).b.mem = s.b.mem := by
  unfold State.failsCleared
  simp
  (repeat' split) <;> (try simp)

@[simp] theorem State.deadline_mems (s : State) :
    (State.deadline s).a.mem = s.a.mem ∧ (State.deadline s).b.mem = s.b.mem := by
  unfold State.deadline
  simp
  (repeat' split) <;> (try simp)

@[simp] theorem State.stxBegin_mems (s : State) :
    (State.stxBegin s).a.mem = s.a.mem ∧ (State.stxBegin s).b.mem = s.b.mem := by
  unfold State.stxBegin
  simp
  (repeat' split) <;> (try simp)

@[simp] theorem State.stxRetry_mems (s : State) :
    (State.stxRetry s).a.mem = s.a.mem ∧ (State.stxRetry s).b.mem = s.b.mem := by
  unfold State.stxRetry
  (repeat' split) <;> (try simp)

@[simp] theorem State.stxTimeout_mems (s : State) :
    (State.stxTimeout s).a.mem = s.a.mem ∧ (State.stxTimeout s).b.mem = s.b.mem := by
  unfold State.stxTimeout
  (repeat' split) <;> (try simp)

@[simp] theorem State.beaconQueue_mems (s : State) :
    (State.beaconQueue s).a.mem = s.a.mem ∧ (State.beaconQueue s).b.mem = s.b.mem := by
  unfold State.beaconQueue
  (repeat' split) <;> (try simp)

@[simp] theorem State.modCmd_mems (s : State) (op : Nat) (arg : Nat) (origin : Nat) :
    (State.modCmd s op arg origin).a.mem = s.a.mem ∧ (State.modCmd s op arg origin).b.mem = s.b.mem := by
  unfold State.modCmd
  simp
  (repeat' split) <;> (try simp)

@[simp] theorem State.told_mems (s : State) (f : Lane → Lane) (hf : (∀ l, (f l).mem = l.mem)) : (s.told f).a.mem = s.a.mem ∧ (s.told f).b.mem = s.b.mem := State.onLanes_mems _ f s hf

@[simp] theorem State.pwrRec_mems (code : Nat) (p0 : Nat) (p1 : Nat) (p2 : Nat) (p3 : Nat) (s : State) :
    (State.pwrRec code p0 p1 p2 p3 s).a.mem = s.a.mem ∧ (State.pwrRec code p0 p1 p2 p3 s).b.mem = s.b.mem := by
  unfold State.pwrRec
  simp
  (repeat' split) <;> (try simp)

@[simp] theorem State.storeOff_mems (i : LaneId) (s : State) :
    (State.storeOff i s).a.mem = s.a.mem ∧ (State.storeOff i s).b.mem = s.b.mem := by
  unfold State.storeOff
  split <;> simp

@[simp] theorem State.storeOn_mems (i : LaneId) (s : State) :
    (State.storeOn i s).a.mem = s.a.mem ∧ (State.storeOn i s).b.mem = s.b.mem := by
  unfold State.storeOn
  simp
  (repeat' split) <;> (try simp)

@[simp] theorem State.commReset_mems (s : State) :
    (State.commReset s).a.mem = s.a.mem ∧ (State.commReset s).b.mem = s.b.mem := by
  unfold State.commReset
  simp

@[simp] theorem State.vsysBack_mems (v : Nat) (t : Nat) (s : State) :
    (State.vsysBack v t s).a.mem = s.a.mem ∧ (State.vsysBack v t s).b.mem = s.b.mem := by
  unfold State.vsysBack
  (repeat' split) <;> (try simp)

@[simp] theorem State.supFlag_mems (f : Fld) (v : Bool) (code : Nat) (p0 : Nat) (p1 : Nat) (p2 : Nat) (s : State) :
    (State.supFlag f v code p0 p1 p2 s).a.mem = s.a.mem ∧ (State.supFlag f v code p0 p1 p2 s).b.mem = s.b.mem := by
  unfold State.supFlag
  (repeat' split) <;> (try simp)

@[simp] theorem State.holdOk_mems (v : Bool) (vhold : Nat) (s : State) :
    (State.holdOk v vhold s).a.mem = s.a.mem ∧ (State.holdOk v vhold s).b.mem = s.b.mem := by
  unfold State.holdOk
  (repeat' split) <;> (try simp)

@[simp] theorem State.capacitance_mems (c : Nat) (s : State) :
    (State.capacitance c s).a.mem = s.a.mem ∧ (State.capacitance c s).b.mem = s.b.mem := by
  unfold State.capacitance
  simp

@[simp] theorem State.tileSupply_mems (t : Nat) (s : State) :
    (State.tileSupply t s).a.mem = s.a.mem ∧ (State.tileSupply t s).b.mem = s.b.mem := by
  unfold State.tileSupply
  (repeat' split) <;> (try simp)

@[simp] theorem State.refLoss_mems (m : Fin 3) (s : State) :
    (State.refLoss m s).a.mem = s.a.mem ∧ (State.refLoss m s).b.mem = s.b.mem := by
  unfold State.refLoss
  (repeat' split) <;> (try simp)

@[simp] theorem State.stallLane_mems (i : LaneId) (bus : Nat) (link : Nat) (s : State) :
    (State.stallLane i bus link s).a.mem = s.a.mem ∧ (State.stallLane i bus link s).b.mem = s.b.mem := by
  unfold State.stallLane
  (repeat' split) <;> (try simp)

@[simp] theorem State.stallHouse_mems (i : LaneId) (link : Nat) (t : Nat) (s : State) :
    (State.stallHouse i link t s).a.mem = s.a.mem ∧ (State.stallHouse i link t s).b.mem = s.b.mem := by
  unfold State.stallHouse
  simp
  (repeat' split) <;> (try simp)

@[simp] theorem State.corrSync_mems (s : State) :
    (State.corrSync s).a.mem = s.a.mem ∧ (State.corrSync s).b.mem = s.b.mem := by
  unfold State.corrSync
  simp

@[simp] theorem State.clkSync_mems (s : State) :
    (State.clkSync s).a.mem = s.a.mem ∧ (State.clkSync s).b.mem = s.b.mem := by
  unfold State.clkSync
  simp

@[simp] theorem State.tripSync_mems (s : State) :
    (State.tripSync s).a.mem = s.a.mem ∧ (State.tripSync s).b.mem = s.b.mem := by
  unfold State.tripSync
  simp
  (repeat' split) <;> (try simp)

@[simp] theorem State.memFault_mems (i : LaneId) (b : Nat) (w : Nat) (acc : Nat) (kind : Nat) (s : State) :
    (State.memFault i b w acc kind s).a.mem = s.a.mem ∧ (State.memFault i b w acc kind s).b.mem = s.b.mem := by
  unfold State.memFault
  simp
  (repeat' split) <;> (try simp)

@[simp] theorem State.bankRead_mems (i : LaneId) (b : Nat) (o : Nat) (s : State) :
    (State.bankRead i b o s).2.a.mem = s.a.mem ∧ (State.bankRead i b o s).2.b.mem = s.b.mem := by
  unfold State.bankRead
  simp
  (repeat' split) <;> (try simp)

@[simp] theorem State.scrub_mems (i : LaneId) (res : Fin 4) (t : Nat) (s : State) :
    (State.scrub i res t s).a.mem = s.a.mem ∧ (State.scrub i res t s).b.mem = s.b.mem := by
  unfold State.scrub
  simp
  (repeat' split) <;> (try simp)

@[simp] theorem State.setBank_mems (v : View) (b : Nat) (s : State) :
    (State.setBank v b s).a.mem = s.a.mem ∧ (State.setBank v b s).b.mem = s.b.mem := by
  unfold State.setBank
  (repeat' split) <;> (try simp)

@[simp] theorem State.accept_mems (k : Nat) (v : Word) (acc : Nat) (cnp : Bool) (s : State) :
    (State.accept k v acc cnp s).a.mem = s.a.mem ∧ (State.accept k v acc cnp s).b.mem = s.b.mem := by
  unfold State.accept
  (repeat' split) <;> (try simp)

@[simp] theorem State.writesTo_mems (i : LaneId) (s : State) :
    (State.writesTo i s).a.mem = s.a.mem ∧ (State.writesTo i s).b.mem = s.b.mem := by
  unfold State.writesTo
  simp_all

@[simp] theorem State.takeEarly_mems (first : Bool) (s : State) :
    (State.takeEarly first s).a.mem = s.a.mem ∧ (State.takeEarly first s).b.mem = s.b.mem := by
  unfold State.takeEarly
  simp
  (repeat' split) <;> (try simp)

@[simp] theorem State.released_mems (old : RegFile) (s : State) :
    (State.released old s).a.mem = s.a.mem ∧ (State.released old s).b.mem = s.b.mem := by
  unfold State.released
  simp

@[simp] theorem State.releaseSolo_mems (g : Nat) (s : State) :
    (State.releaseSolo g s).a.mem = s.a.mem ∧ (State.releaseSolo g s).b.mem = s.b.mem := by
  unfold State.releaseSolo
  simp
  (repeat' split) <;> (try simp)

@[simp] theorem State.releaseMatch_mems (g : Nat) (s : State) :
    (State.releaseMatch g s).a.mem = s.a.mem ∧ (State.releaseMatch g s).b.mem = s.b.mem := by
  unfold State.releaseMatch
  simp

@[simp] theorem State.linkLost_mems (i : LaneId) (s : State) :
    (State.linkLost i s).a.mem = s.a.mem ∧ (State.linkLost i s).b.mem = s.b.mem := by
  unfold State.linkLost
  simp
  (repeat' split) <;> (try simp)

@[simp] theorem State.packetBad_mems (i : LaneId) (ty : Nat) (err : Nat) (s : State) :
    (State.packetBad i ty err s).a.mem = s.a.mem ∧ (State.packetBad i ty err s).b.mem = s.b.mem := by
  unfold State.packetBad
  simp
  (repeat' split) <;> (try simp)

@[simp] theorem State.idlePacket_mems (i : LaneId) (err : Fin 3) (s : State) :
    (State.idlePacket i err s).a.mem = s.a.mem ∧ (State.idlePacket i err s).b.mem = s.b.mem := by
  unfold State.idlePacket
  (repeat' split) <;> (try simp)

@[simp] theorem State.wordsTo_mems (i : LaneId) (s : State) :
    (State.wordsTo i s).a.mem = s.a.mem ∧ (State.wordsTo i s).b.mem = s.b.mem := by
  unfold State.wordsTo
  simp
  (repeat' split) <;> (try simp)

@[simp] theorem State.wordPacket_mems (i : LaneId) (delay : Nat) (s : State) :
    (State.wordPacket i delay s).a.mem = s.a.mem ∧ (State.wordPacket i delay s).b.mem = s.b.mem := by
  unfold State.wordPacket
  simp

@[simp] theorem State.confirm_mems (i : LaneId) (s : State) :
    (State.confirm i s).a.mem = s.a.mem ∧ (State.confirm i s).b.mem = s.b.mem := by
  unfold State.confirm
  simp

@[simp] theorem State.writesLost_mems (i : LaneId) (s : State) :
    (State.writesLost i s).a.mem = s.a.mem ∧ (State.writesLost i s).b.mem = s.b.mem := by
  unfold State.writesLost
  simp
  (repeat' split) <;> (try simp)

@[simp] theorem State.goneWrites_mems (i : LaneId) (s : State) :
    (State.goneWrites i s).a.mem = s.a.mem ∧ (State.goneWrites i s).b.mem = s.b.mem := by
  unfold State.goneWrites
  (repeat' split) <;> (try simp)

@[simp] theorem State.linkDrain_mems (s : State) :
    (State.linkDrain s).a.mem = s.a.mem ∧ (State.linkDrain s).b.mem = s.b.mem := by
  unfold State.linkDrain
  (repeat' split) <;> (try simp)

@[simp] theorem State.adjEnter_mems (g : Nat) (ra : Nat) (rb : Nat) (pa : DigPkt) (pb : DigPkt) (qa : Option DigPkt) (qb : Option DigPkt) (s : State) :
    (State.adjEnter g ra rb pa pb qa qb s).a.mem = s.a.mem ∧ (State.adjEnter g ra rb pa pb qa qb s).b.mem = s.b.mem := by
  unfold State.adjEnter
  simp
  (repeat' split) <;> (try simp)

@[simp] theorem State.compare_mems (g : Nat) (s : State) :
    (State.compare g s).a.mem = s.a.mem ∧ (State.compare g s).b.mem = s.b.mem := by
  unfold State.compare
  simp
  (repeat' split) <;> (try simp)

@[simp] theorem State.verdictCopy_mems (i : LaneId) (s : State) :
    (State.verdictCopy i s).a.mem = s.a.mem ∧ (State.verdictCopy i s).b.mem = s.b.mem := by
  unfold State.verdictCopy
  simp

@[simp] theorem State.retain_mems (i : LaneId) (p2 : Word) (p3 : Word) (outcome : Nat) (s : State) :
    (State.retain i p2 p3 outcome s).a.mem = s.a.mem ∧ (State.retain i p2 p3 outcome s).b.mem = s.b.mem := by
  unfold State.retain
  simp

@[simp] theorem State.join_mems (s : State) :
    (State.join s).a.mem = s.a.mem ∧ (State.join s).b.mem = s.b.mem := by
  unfold State.join
  (repeat' split) <;> (try simp)

@[simp] theorem State.statePacket_mems (i : LaneId) (page : Option Nat) (last : Bool) (s : State) :
    (State.statePacket i page last s).a.mem = s.a.mem ∧ (State.statePacket i page last s).b.mem = s.b.mem := by
  unfold State.statePacket
  (repeat' split) <;> (try simp)

@[simp] theorem State.closeLanes_mems (o : Obs) (s : State) :
    (State.closeLanes o s).a.mem = s.a.mem ∧ (State.closeLanes o s).b.mem = s.b.mem := by
  unfold State.closeLanes
  simp
  (repeat' split) <;> (try simp)

@[simp] theorem State.closeEpoch_mems (o : Obs) (s : State) :
    (State.closeEpoch o s).a.mem = s.a.mem ∧ (State.closeEpoch o s).b.mem = s.b.mem := by
  unfold State.closeEpoch
  (repeat' split) <;> (try simp)

@[simp] theorem State.stepTo_mems (d : Int) (t g : Nat) (s : State) :
    (State.stepTo d t g s).a.mem = s.a.mem ∧ (State.stepTo d t g s).b.mem = s.b.mem := by
  unfold State.stepTo
  simp

@[simp] theorem State.stepped_mems (d : Int) (s : State) :
    (State.stepped d s).a.mem = s.a.mem ∧ (State.stepped d s).b.mem = s.b.mem := by
  unfold State.stepped
  exact State.stepTo_mems _ _ _ _

@[simp] theorem State.advance_mems (q : Option Int) (s : State) :
    (State.advance q s).a.mem = s.a.mem ∧ (State.advance q s).b.mem = s.b.mem := by
  cases q with
  | none => simp [State.advance]
  | some d => exact State.stepped_mems _ _

@[simp] theorem State.tick_mems (s : State) :
    (State.tick s).a.mem = s.a.mem ∧ (State.tick s).b.mem = s.b.mem := by
  unfold State.tick
  simp

@[simp] theorem State.timeWait_mems (s : State) :
    (State.timeWait s).a.mem = s.a.mem ∧ (State.timeWait s).b.mem = s.b.mem := by
  unfold State.timeWait
  simp

@[simp] theorem State.dropCuts_mems (s : State) :
    (State.dropCuts s).a.mem = s.a.mem ∧ (State.dropCuts s).b.mem = s.b.mem := by
  unfold State.dropCuts
  simp

@[simp] theorem State.moveAuth_mems (s : State) :
    (State.moveAuth s).a.mem = s.a.mem ∧ (State.moveAuth s).b.mem = s.b.mem := by
  unfold State.moveAuth
  simp
  (repeat' split) <;> (try simp)

@[simp] theorem State.heldOne_mems (s : State) :
    (State.heldOne s).a.mem = s.a.mem ∧ (State.heldOne s).b.mem = s.b.mem := by
  unfold State.heldOne
  (repeat' split) <;> (try simp)

@[simp] theorem State.arbiter_mems (s : State) :
    (State.arbiter s).a.mem = s.a.mem ∧ (State.arbiter s).b.mem = s.b.mem := by
  unfold State.arbiter
  simp
  (repeat' split) <;> (try simp)

@[simp] theorem State.dioObserve_mems (o : Obs) (s : State) :
    (State.dioObserve o s).a.mem = s.a.mem ∧ (State.dioObserve o s).b.mem = s.b.mem := by
  unfold State.dioObserve
  simp

@[simp] theorem State.refWatch_mems (o : Obs) (s : State) :
    (State.refWatch o s).a.mem = s.a.mem ∧ (State.refWatch o s).b.mem = s.b.mem := by
  unfold State.refWatch
  (repeat' split) <;> (try simp)

@[simp] theorem State.scrubbed_mems (o : Obs) (s : State) :
    (State.scrubbed o s).a.mem = s.a.mem ∧ (State.scrubbed o s).b.mem = s.b.mem := by
  unfold State.scrubbed
  simp

@[simp] theorem State.house_mems (o : Obs) (s : State) :
    (State.house o s).a.mem = s.a.mem ∧ (State.house o s).b.mem = s.b.mem := by
  unfold State.house
  simp

@[simp] theorem State.bisqueMoves_mems (s : State) :
    (State.bisqueMoves s).a.mem = s.a.mem ∧ (State.bisqueMoves s).b.mem = s.b.mem := by
  unfold State.bisqueMoves
  (repeat' split) <;> (try simp)

@[simp] theorem State.sigRead_mems (i : LaneId) (b : Nat) (half : Nat) (s : State) :
    (State.sigRead i b half s).2.a.mem = s.a.mem ∧ (State.sigRead i b half s).2.b.mem = s.b.mem := by
  unfold State.sigRead
  simp
  (repeat' split) <;> (try simp)

@[simp] theorem State.readPlace_mems (now : Nat) (pair : Bool) (p : Place) (s : State) :
    (State.readPlace now pair p s).2.2.a.mem = s.a.mem ∧ (State.readPlace now pair p s).2.2.b.mem = s.b.mem := by
  unfold State.readPlace
  (repeat' split) <;> (try simp)

@[simp] theorem State.readEffect_mems (a : Accessor) (now : Nat) (s : State) (p : Place) :
    (State.readEffect a now s p).a.mem = s.a.mem ∧ (State.readEffect a now s p).b.mem = s.b.mem := by
  unfold State.readEffect
  (repeat' split) <;> (try simp)

@[simp] theorem State.sharedWrite_mems (now : Nat) (k : Nat) (v : Word) (cnp : Bool) (s : State) :
    (State.sharedWrite now k v cnp s).a.mem = s.a.mem ∧ (State.sharedWrite now k v cnp s).b.mem = s.b.mem := by
  unfold State.sharedWrite
  (repeat' split) <;> (try simp)

@[simp] theorem State.aliasWrite_mems (now : Nat) (k : Nat) (v : Word) (cnp : Bool) (s : State) :
    (State.aliasWrite now k v cnp s).a.mem = s.a.mem ∧ (State.aliasWrite now k v cnp s).b.mem = s.b.mem := by
  unfold State.aliasWrite
  (repeat' split) <;> (try simp)

@[simp] theorem State.writeBusy_mems (cnp : Bool) (s : State) :
    (State.writeBusy cnp s).a.mem = s.a.mem ∧ (State.writeBusy cnp s).b.mem = s.b.mem := by
  unfold State.writeBusy
  (repeat' split) <;> (try simp)

@[simp] theorem State.hpDrive_mems (bs : List Byte) (s : State) :
    (State.hpDrive bs s).a.mem = s.a.mem ∧ (State.hpDrive bs s).b.mem = s.b.mem := by
  unfold State.hpDrive
  simp

@[simp] theorem State.hpSilent_mems (s : State) :
    (State.hpSilent s).a.mem = s.a.mem ∧ (State.hpSilent s).b.mem = s.b.mem := by
  unfold State.hpSilent
  simp

@[simp] theorem State.hpCut_mems (s : State) :
    (State.hpCut s).a.mem = s.a.mem ∧ (State.hpCut s).b.mem = s.b.mem := by
  unfold State.hpCut
  simp

@[simp] theorem State.formatWords_mems (n : Nat) (s : State) :
    (State.formatWords n s).2.a.mem = s.a.mem ∧ (State.formatWords n s).2.b.mem = s.b.mem := by
  unfold State.formatWords
  simp

@[simp] theorem State.respond_mems (b : Nat) (prio : Nat) (cls : Nat) (data : List Byte) (s : State) :
    (State.respond b prio cls data s).a.mem = s.a.mem ∧ (State.respond b prio cls data s).b.mem = s.b.mem := by
  unfold State.respond
  simp

@[simp] theorem State.reqDrop_mems (s : State) :
    (State.reqDrop s).a.mem = s.a.mem ∧ (State.reqDrop s).b.mem = s.b.mem := by
  unfold State.reqDrop
  simp

@[simp] theorem State.imagePart_mems (b : Nat) (prio : Nat) (src : Nat) (data : List Byte) (now : Nat) (s : State) :
    (State.imagePart b prio src data now s).a.mem = s.a.mem ∧ (State.imagePart b prio src data now s).b.mem = s.b.mem := by
  unfold State.imagePart
  simp
  (repeat' split) <;> (try simp)

@[simp] theorem State.agingCopyStart_mems (s : State) :
    (State.agingCopyStart s).a.mem = s.a.mem ∧ (State.agingCopyStart s).b.mem = s.b.mem := by
  unfold State.agingCopyStart
  (repeat' split) <;> (try simp)

@[simp] theorem State.agingCopyEnd_mems (s : State) :
    (State.agingCopyEnd s).a.mem = s.a.mem ∧ (State.agingCopyEnd s).b.mem = s.b.mem := by
  unfold State.agingCopyEnd
  (repeat' split) <;> (try simp)

@[simp] theorem Memory.wf_nil : Memory.wf [] = true := rfl

@[simp] theorem State.lane_wf (s : State) (i : LaneId) (h : Memory.wf s.a.mem = true ∧ Memory.wf s.b.mem = true) : Memory.wf (s.lane i).mem = true := by
  cases i <;> simp [State.lane, h]

theorem foldl_wf {α : Type} (f : State → α → State) (h : ∀ s x, Memory.wf s.a.mem = true ∧ Memory.wf s.b.mem = true → Memory.wf (f s x).a.mem = true ∧ Memory.wf (f s x).b.mem = true)
    (xs : List α) (s : State) (hm : Memory.wf s.a.mem = true ∧ Memory.wf s.b.mem = true) : Memory.wf (xs.foldl f s).a.mem = true ∧ Memory.wf (xs.foldl f s).b.mem = true := by
  induction xs generalizing s with
  | nil => exact hm
  | cons x xs ih => exact ih _ (h _ _ hm)

@[simp] theorem Lane.writeReg_wf (k : Nat) (v : Word) (l : Lane) (w : Memory.wf l.mem = true) :
    Memory.wf (l.writeReg k v).mem = true := by
  unfold Lane.writeReg
  (repeat' split) <;> (try simp [w])

@[simp] theorem Lane.viewWrite_wf (k : Nat) (v : Word) (l : Lane) (w : Memory.wf l.mem = true) :
    Memory.wf (Lane.viewWrite k v l).mem = true := by
  unfold Lane.viewWrite
  split
  · simp [w]
  · exact Lane.writeReg_wf _ _ l w

@[simp] theorem Lane.localWrites_wf (g : Nat) (l : Lane) (w : Memory.wf l.mem = true) :
    Memory.wf (Lane.localWrites g l).mem = true := by
  unfold Lane.localWrites
  split
  · exact w
  · rename_i hc
    clear hc
    generalize l.writes.filter (fun p => p.eff ≤ g && laneLocalKey p.key) = ps
    induction ps generalizing l with
    | nil => exact w
    | cons p ps ih => exact ih _ (Lane.writeReg_wf _ _ l w)

@[simp] theorem State.setLane_wf (s : State) (i : LaneId) (l : Lane) (hl : Memory.wf l.mem = true) (hm : Memory.wf s.a.mem = true ∧ Memory.wf s.b.mem = true) :
    Memory.wf (s.setLane i l).a.mem = true ∧ Memory.wf (s.setLane i l).b.mem = true := by
  cases i <;> simp [State.setLane, hl, hm]

@[simp] theorem State.upd_wf (s : State) (i : LaneId) (f : Lane → Lane) (hf : ∀ l, Memory.wf l.mem = true → Memory.wf (f l).mem = true)
    (hm : Memory.wf s.a.mem = true ∧ Memory.wf s.b.mem = true) : Memory.wf (s.upd i f).a.mem = true ∧ Memory.wf (s.upd i f).b.mem = true :=
  State.setLane_wf s i _ (hf _ (State.lane_wf s i hm)) hm

@[simp] theorem State.onLanes_wf (p : Lane → Bool) (f : Lane → Lane) (s : State)
    (hf : ∀ l, Memory.wf l.mem = true → Memory.wf (f l).mem = true) (hm : Memory.wf s.a.mem = true ∧ Memory.wf s.b.mem = true) : Memory.wf (State.onLanes p f s).a.mem = true ∧ Memory.wf (State.onLanes p f s).b.mem = true := by
  unfold State.onLanes
  constructor <;> simp only [] <;> split <;> simp [hm, hf]

@[simp] theorem State.both_wf (s : State) (f : Lane → Lane) (hf : ∀ l, Memory.wf l.mem = true → Memory.wf (f l).mem = true)
    (hm : Memory.wf s.a.mem = true ∧ Memory.wf s.b.mem = true) : Memory.wf (s.both f).a.mem = true ∧ Memory.wf (s.both f).b.mem = true := State.onLanes_wf _ f s hf hm

@[simp] theorem State.working_wf (s : State) (f : Lane → Lane) (hf : ∀ l, Memory.wf l.mem = true → Memory.wf (f l).mem = true)
    (hm : Memory.wf s.a.mem = true ∧ Memory.wf s.b.mem = true) : Memory.wf (s.working f).a.mem = true ∧ Memory.wf (s.working f).b.mem = true := State.onLanes_wf _ f s hf hm

@[simp] theorem State.laneOff_wf (i : LaneId) (s : State) (hm : Memory.wf s.a.mem = true ∧ Memory.wf s.b.mem = true) :
    Memory.wf (State.laneOff i s).a.mem = true ∧ Memory.wf (State.laneOff i s).b.mem = true := by
  unfold State.laneOff
  simp
  (repeat' split) <;> (try simp [hm])

@[simp] theorem State.laneFire_wf (i : LaneId) (s : State) (hm : Memory.wf s.a.mem = true ∧ Memory.wf s.b.mem = true) :
    Memory.wf (State.laneFire i s).a.mem = true ∧ Memory.wf (State.laneFire i s).b.mem = true := by
  unfold State.laneFire
  simp [hm]

@[simp] theorem State.rejoin_wf (i : LaneId) (s : State) (hm : Memory.wf s.a.mem = true ∧ Memory.wf s.b.mem = true) :
    Memory.wf (State.rejoin i s).a.mem = true ∧ Memory.wf (State.rejoin i s).b.mem = true := by
  unfold State.rejoin
  simp [hm]

@[simp] theorem State.sysEffect_wf (s : State) (op : Nat) (i : LaneId) (hm : Memory.wf s.a.mem = true ∧ Memory.wf s.b.mem = true) :
    Memory.wf (State.sysEffect s op i).a.mem = true ∧ Memory.wf (State.sysEffect s op i).b.mem = true := by
  unfold State.sysEffect
  (repeat' split) <;> (try simp [hm])

@[simp] theorem State.sysCmd_wf (s : State) (op : Nat) (ln : Nat) (hm : Memory.wf s.a.mem = true ∧ Memory.wf s.b.mem = true) :
    Memory.wf (State.sysCmd s op ln).a.mem = true ∧ Memory.wf (State.sysCmd s op ln).b.mem = true := by
  unfold State.sysCmd
  simp
  (repeat' split) <;> (try simp [hm])

@[simp] theorem State.sysRow_wf (s : State) (op : Nat) (ln : Nat) (hm : Memory.wf s.a.mem = true ∧ Memory.wf s.b.mem = true) :
    Memory.wf (State.sysRow s op ln).a.mem = true ∧ Memory.wf (State.sysRow s op ln).b.mem = true := by
  unfold State.sysRow
  simp [hm]

@[simp] theorem State.resetBegin_wf (cause : Nat) (s : State) :
    Memory.wf (State.resetBegin cause s).a.mem = true ∧ Memory.wf (State.resetBegin cause s).b.mem = true := by
  unfold State.resetBegin
  simp

@[simp] theorem State.fireDone_wf (i : LaneId) (r : FireRes) (s : State) (hm : Memory.wf s.a.mem = true ∧ Memory.wf s.b.mem = true) :
    Memory.wf (State.fireDone i r s).a.mem = true ∧ Memory.wf (State.fireDone i r s).b.mem = true := by
  unfold State.fireDone
  dsimp only
  (repeat' split) <;> (try simp_all)

@[simp] theorem State.fireOne_wf (s : State) (i : LaneId) (hm : Memory.wf s.a.mem = true ∧ Memory.wf s.b.mem = true) :
    Memory.wf (State.fireOne s i).a.mem = true ∧ Memory.wf (State.fireOne s i).b.mem = true := by
  unfold State.fireOne
  (repeat' split) <;> (try simp [hm])

@[simp] theorem State.fireAgree_wf (is : List LaneId) (s : State) (hm : Memory.wf s.a.mem = true ∧ Memory.wf s.b.mem = true) : Memory.wf (State.fireAgree is s).a.mem = true ∧ Memory.wf (State.fireAgree is s).b.mem = true := by
  unfold State.fireAgree
  exact foldl_wf _ (fun s x h => by simp [h]) _ _ hm

@[simp] theorem State.fireSettle_wf (i : LaneId) (r : FireRes) (s : State) (hm : Memory.wf s.a.mem = true ∧ Memory.wf s.b.mem = true) :
    Memory.wf (State.fireSettle i r s).a.mem = true ∧ Memory.wf (State.fireSettle i r s).b.mem = true := by
  unfold State.fireSettle
  simp
  (repeat' split) <;> (try simp [hm])

@[simp] theorem Lane.fireSlot_mem (h : Shared) (l : Lane) : (Lane.fireSlot h l).1.mem = l.mem := by
  unfold Lane.fireSlot
  dsimp only
  (repeat' split) <;> (try simp)

@[simp] theorem State.upd_const_wf (s : State) (i : LaneId) (l : Lane) (hl : Memory.wf l.mem = true) (hm : Memory.wf s.a.mem = true ∧ Memory.wf s.b.mem = true) :
    Memory.wf (s.upd i (fun _ => l)).a.mem = true ∧ Memory.wf (s.upd i (fun _ => l)).b.mem = true := State.setLane_wf s i l hl hm

theorem State.firingComplete_wf (i : LaneId) (s : State) (hm : Memory.wf s.a.mem = true ∧ Memory.wf s.b.mem = true) : Memory.wf (State.firingComplete i s).a.mem = true ∧ Memory.wf (State.firingComplete i s).b.mem = true := by
  have h1 : Memory.wf (s.upd i (fun _ => (Lane.fireSlot s.sh (s.lane i)).1)).a.mem = true ∧ Memory.wf (s.upd i (fun _ => (Lane.fireSlot s.sh (s.lane i)).1)).b.mem = true :=
    State.upd_const_wf s i _ (by rw [Lane.fireSlot_mem]; exact State.lane_wf s i hm) hm
  have h2 : Memory.wf (match (Lane.fireSlot s.sh (s.lane i)).2 with | some e => (s.upd i (fun _ => (Lane.fireSlot s.sh (s.lane i)).1)).slotRejected i e | none => s.upd i (fun _ => (Lane.fireSlot s.sh (s.lane i)).1)).a.mem = true ∧ Memory.wf (match (Lane.fireSlot s.sh (s.lane i)).2 with | some e => (s.upd i (fun _ => (Lane.fireSlot s.sh (s.lane i)).1)).slotRejected i e | none => s.upd i (fun _ => (Lane.fireSlot s.sh (s.lane i)).1)).b.mem = true := by
    split
    · simpa using h1
    · exact h1
  unfold State.firingComplete
  dsimp only
  split
  · exact hm
  · split
    · exact State.fireSettle_wf _ _ _ h2
    · exact h2

@[simp] theorem State.firingCompare_wf (pa : Bool) (pb : Bool) (s : State) (hm : Memory.wf s.a.mem = true ∧ Memory.wf s.b.mem = true) :
    Memory.wf (State.firingCompare pa pb s).a.mem = true ∧ Memory.wf (State.firingCompare pa pb s).b.mem = true := by
  unfold State.firingCompare
  (repeat' split) <;> (try simp [hm])

@[simp] theorem State.drainDone_wf (s : State) (hm : Memory.wf s.a.mem = true ∧ Memory.wf s.b.mem = true) :
    Memory.wf (State.drainDone s).a.mem = true ∧ Memory.wf (State.drainDone s).b.mem = true := by
  unfold State.drainDone
  simp
  (repeat' split) <;> (try simp [hm])

@[simp] theorem State.domainOff_wf (d : Nat) (t : Nat) (s : State) (hm : Memory.wf s.a.mem = true ∧ Memory.wf s.b.mem = true) :
    Memory.wf (State.domainOff d t s).a.mem = true ∧ Memory.wf (State.domainOff d t s).b.mem = true := by
  unfold State.domainOff
  (repeat' split) <;> (try simp [hm])

@[simp] theorem State.domainOn_wf (d t : Nat) (s : State) (hm : Memory.wf s.a.mem = true ∧ Memory.wf s.b.mem = true) :
    Memory.wf (State.domainOn d t s).a.mem = true ∧ Memory.wf (State.domainOn d t s).b.mem = true := by
  unfold State.domainOn
  simp
  (repeat' split) <;> (try simp [hm])

@[simp] theorem State.domainFault_wf (d : Nat) (cause : Nat) (t : Nat) (s : State) (hm : Memory.wf s.a.mem = true ∧ Memory.wf s.b.mem = true) :
    Memory.wf (State.domainFault d cause t s).a.mem = true ∧ Memory.wf (State.domainFault d cause t s).b.mem = true := by
  unfold State.domainFault
  (repeat' split) <;> (try simp [hm])

@[simp] theorem State.switchOn_wf (d : Nat) (good : Bool) (s : State) (hm : Memory.wf s.a.mem = true ∧ Memory.wf s.b.mem = true) :
    Memory.wf (State.switchOn d good s).a.mem = true ∧ Memory.wf (State.switchOn d good s).b.mem = true := by
  unfold State.switchOn
  simp
  (repeat' split) <;> (try simp [hm])

@[simp] theorem State.domainRetry_wf (d : Nat) (good : Bool) (t : Nat) (s : State) (hm : Memory.wf s.a.mem = true ∧ Memory.wf s.b.mem = true) :
    Memory.wf (State.domainRetry d good t s).a.mem = true ∧ Memory.wf (State.domainRetry d good t s).b.mem = true := by
  unfold State.domainRetry
  simp
  (repeat' split) <;> (try simp [hm])

@[simp] theorem State.tripOff_wf (t : Nat) (s : State) (d : Nat) (hm : Memory.wf s.a.mem = true ∧ Memory.wf s.b.mem = true) :
    Memory.wf (State.tripOff t s d).a.mem = true ∧ Memory.wf (State.tripOff t s d).b.mem = true := by
  unfold State.tripOff
  split <;> simp [hm]

@[simp] theorem State.powerTrip_wf (t : Nat) (s : State) (hm : Memory.wf s.a.mem = true ∧ Memory.wf s.b.mem = true) : Memory.wf (State.powerTrip t s).a.mem = true ∧ Memory.wf (State.powerTrip t s).b.mem = true := by
  unfold State.powerTrip
  split
  · exact hm
  · have h := foldl_wf (State.tripOff t) (fun s x h => State.tripOff_wf t s x h) [8, 9, 10, 13, 7] s hm
    dsimp only
    generalize [8, 9, 10, 13, 7].foldl (State.tripOff t) s = x at h ⊢
    exact h

@[simp] theorem State.vsysLost_wf (v : Nat) (t : Nat) (s : State) (hm : Memory.wf s.a.mem = true ∧ Memory.wf s.b.mem = true) :
    Memory.wf (State.vsysLost v t s).a.mem = true ∧ Memory.wf (State.vsysLost v t s).b.mem = true := by
  unfold State.vsysLost
  simp
  (repeat' split) <;> (try simp [hm])

@[simp] theorem State.command_wf (k : Nat) (v : Word) (s : State) (hm : Memory.wf s.a.mem = true ∧ Memory.wf s.b.mem = true) :
    Memory.wf (State.command k v s).a.mem = true ∧ Memory.wf (State.command k v s).b.mem = true := by
  unfold State.command
  (repeat' split) <;> (try simp [hm])

@[simp] theorem State.writeEffect_wf (s : State) (p : PendWrite) (hm : Memory.wf s.a.mem = true ∧ Memory.wf s.b.mem = true) : Memory.wf (State.writeEffect s p).a.mem = true ∧ Memory.wf (State.writeEffect s p).b.mem = true := by
  unfold State.writeEffect
  split
  · split <;> simp [hm]
  · exact State.working_wf s _ (fun l w => Lane.writeReg_wf _ _ l w) hm

@[simp] theorem State.applyWrites_wf (g : Nat) (s : State) (hm : Memory.wf s.a.mem = true ∧ Memory.wf s.b.mem = true) : Memory.wf (State.applyWrites g s).a.mem = true ∧ Memory.wf (State.applyWrites g s).b.mem = true := by
  unfold State.applyWrites
  exact foldl_wf _ (fun s x h => by simp [h]) _ _ (by simp [hm])

@[simp] theorem State.opening_wf (h : Shared) (o : Obs) (s : State) (hm : Memory.wf s.a.mem = true ∧ Memory.wf s.b.mem = true) :
    Memory.wf (State.opening h o s).a.mem = true ∧ Memory.wf (State.opening h o s).b.mem = true := by
  unfold State.opening
  (repeat' split) <;> (try simp [hm])

@[simp] theorem State.packet_wf (i : LaneId) (ty : Nat) (err : Fin 3) (f : State → State)
    (hf : ∀ s, Memory.wf (s).a.mem = true ∧ Memory.wf (s).b.mem = true → Memory.wf (f s).a.mem = true ∧ Memory.wf (f s).b.mem = true) (s : State) (hm : Memory.wf (s).a.mem = true ∧ Memory.wf (s).b.mem = true) :
    Memory.wf (State.packet i ty err f s).a.mem = true ∧ Memory.wf (State.packet i ty err f s).b.mem = true := by
  unfold State.packet
  (repeat' split) <;> (try simp [hm, hf])

@[simp] theorem State.openKept_wf (s : State) (hm : Memory.wf s.a.mem = true ∧ Memory.wf s.b.mem = true) :
    Memory.wf (State.openKept s).a.mem = true ∧ Memory.wf (State.openKept s).b.mem = true := by
  unfold State.openKept
  (repeat' split) <;> (try simp [hm])

@[simp] theorem State.adjudicate_wf (i : LaneId) (s : State) (hm : Memory.wf s.a.mem = true ∧ Memory.wf s.b.mem = true) :
    Memory.wf (State.adjudicate i s).a.mem = true ∧ Memory.wf (State.adjudicate i s).b.mem = true := by
  unfold State.adjudicate
  simp
  (repeat' split) <;> (try simp [hm])

@[simp] theorem State.outcome_wf (s : State) (hm : Memory.wf s.a.mem = true ∧ Memory.wf s.b.mem = true) :
    Memory.wf (State.outcome s).a.mem = true ∧ Memory.wf (State.outcome s).b.mem = true := by
  unfold State.outcome
  (repeat' split) <;> (try simp [hm])

@[simp] theorem State.openLanes_wf (first : Bool) (o : Obs) (s : State) (hm : Memory.wf s.a.mem = true ∧ Memory.wf s.b.mem = true) :
    Memory.wf (State.openLanes first o s).a.mem = true ∧ Memory.wf (State.openLanes first o s).b.mem = true := by
  unfold State.openLanes
  simp
  (repeat' split) <;> (try simp [hm])

@[simp] theorem State.openBisque_wf (o : Obs) (s : State) (hm : Memory.wf s.a.mem = true ∧ Memory.wf s.b.mem = true) :
    Memory.wf (State.openBisque o s).a.mem = true ∧ Memory.wf (State.openBisque o s).b.mem = true := by
  unfold State.openBisque
  simp [hm]

@[simp] theorem State.openEpoch_wf (o : Obs) (s : State) (hm : Memory.wf s.a.mem = true ∧ Memory.wf s.b.mem = true) :
    Memory.wf (State.openEpoch o s).a.mem = true ∧ Memory.wf (State.openEpoch o s).b.mem = true := by
  unfold State.openEpoch
  simp
  (repeat' split) <;> (try simp [hm])

@[simp] theorem State.resetAt_wf (s : State) (hm : Memory.wf s.a.mem = true ∧ Memory.wf s.b.mem = true) :
    Memory.wf (State.resetAt s).a.mem = true ∧ Memory.wf (State.resetAt s).b.mem = true := by
  unfold State.resetAt
  (repeat' split) <;> (try simp [hm])

@[simp] theorem State.boundary_wf (o : Obs) (s : State) (hm : Memory.wf s.a.mem = true ∧ Memory.wf s.b.mem = true) :
    Memory.wf (State.boundary o s).a.mem = true ∧ Memory.wf (State.boundary o s).b.mem = true := by
  unfold State.boundary
  simp
  (repeat' split) <;> (try simp [hm])

@[simp] theorem State.servedWrite_wf (now : Nat) (p : Place) (v : Word) (cnp : Bool) (s : State) (hm : Memory.wf s.a.mem = true ∧ Memory.wf s.b.mem = true) :
    Memory.wf (State.servedWrite now p v cnp s).a.mem = true ∧ Memory.wf (State.servedWrite now p v cnp s).b.mem = true := by
  unfold State.servedWrite
  split
  · exact hm
  · simp [hm]
  · simp [hm]
  · split
    · simp [hm]
    · exact State.upd_wf s _ _ (fun l w => Lane.viewWrite_wf _ _ l w) hm

@[simp] theorem State.writePlace_wf (now : Nat) (cnp : Bool) (p : Place) (v : Word) (s : State) (hm : Memory.wf s.a.mem = true ∧ Memory.wf s.b.mem = true) :
    Memory.wf (State.writePlace now cnp p v s).2.a.mem = true ∧ Memory.wf (State.writePlace now cnp p v s).2.b.mem = true := by
  unfold State.writePlace
  dsimp only
  (repeat' split) <;> (try simp [hm])

@[simp] theorem State.readWords_mems (now : Nat) (pair : Bool) (ps : List Place) (s : State) :
    (State.readWords now pair ps s).2.a.mem = s.a.mem ∧ (State.readWords now pair ps s).2.b.mem = s.b.mem := by
  induction ps generalizing s with
  | nil => simp [State.readWords]
  | cons p ps ih => simp [State.readWords, ih]

@[simp] theorem State.writeWords_wf (now : Nat) (cnp : Bool) (xs : List (Place × Word)) (s : State) (hm : Memory.wf s.a.mem = true ∧ Memory.wf s.b.mem = true) :
    Memory.wf (State.writeWords now cnp xs s).2.a.mem = true ∧ Memory.wf (State.writeWords now cnp xs s).2.b.mem = true := by
  induction xs generalizing s with
  | nil => simpa [State.writeWords] using hm
  | cons x xs ih => exact ih _ (State.writePlace_wf now cnp x.1 x.2 s hm)

@[simp] theorem State.hpRead_wf (a n now : Nat) (whole : Bool) (s : State) (hm : Memory.wf s.a.mem = true ∧ Memory.wf s.b.mem = true) :
    Memory.wf (State.hpRead a n now whole s).a.mem = true ∧ Memory.wf (State.hpRead a n now whole s).b.mem = true := by
  unfold State.hpRead
  dsimp only
  (repeat' split) <;> (try simp [hm])

@[simp] theorem State.hpWrite_wf (a : Nat) (n : Nat) (now : Nat) (data : List Byte) (dcrc : Byte) (s : State) (hm : Memory.wf s.a.mem = true ∧ Memory.wf s.b.mem = true) :
    Memory.wf (State.hpWrite a n now data dcrc s).a.mem = true ∧ Memory.wf (State.hpWrite a n now data dcrc s).b.mem = true := by
  unfold State.hpWrite
  simp
  (repeat' split) <;> (try simp [hm])

@[simp] theorem State.hpFrame_wf (op : Byte) (addr : BitVec 24) (hcrc : Option Byte) (data : List Byte) (dcrc : Option Byte) (whole : Bool) (now : Nat) (s : State) (hm : Memory.wf s.a.mem = true ∧ Memory.wf s.b.mem = true) :
    Memory.wf (State.hpFrame op addr hcrc data dcrc whole now s).a.mem = true ∧ Memory.wf (State.hpFrame op addr hcrc data dcrc whole now s).b.mem = true := by
  unfold State.hpFrame
  simp
  (repeat' split) <;> (try simp [hm])

@[simp] theorem State.serve_wf (q : RegReq) (now : Nat) (s : State) (hm : Memory.wf s.a.mem = true ∧ Memory.wf s.b.mem = true) :
    Memory.wf (State.serve q now s).2.2.a.mem = true ∧ Memory.wf (State.serve q now s).2.2.b.mem = true := by
  unfold State.serve
  simp
  (repeat' split) <;> (try simp [hm])

@[simp] theorem State.request_wf (b : Nat) (prio : Nat) (src : Nat) (data : List Byte) (now : Nat) (s : State) (hm : Memory.wf s.a.mem = true ∧ Memory.wf s.b.mem = true) :
    Memory.wf (State.request b prio src data now s).a.mem = true ∧ Memory.wf (State.request b prio src data now s).b.mem = true := by
  unfold State.request
  (repeat' split) <;> (try simp [hm])

@[simp] theorem State.cnpServe_wf (b : Nat) (f : CanFrame) (now : Nat) (s : State) (hm : Memory.wf s.a.mem = true ∧ Memory.wf s.b.mem = true) :
    Memory.wf (State.cnpServe b f now s).a.mem = true ∧ Memory.wf (State.cnpServe b f now s).b.mem = true := by
  unfold State.cnpServe
  (repeat' split) <;> (try simp [hm])

@[simp] theorem State.frameReport_wf (b : Nat) (f : FrameRep) (s : State) (hm : Memory.wf s.a.mem = true ∧ Memory.wf s.b.mem = true) :
    Memory.wf (State.frameReport b f s).a.mem = true ∧ Memory.wf (State.frameReport b f s).b.mem = true := by
  unfold State.frameReport
  (repeat' split) <;> (try simp [hm])

end Sys2Proof.Machine
end

