-- ==== Sys2Proof/Laws/Keep.lean ====
section
/-! SUPPORT. What no operation of the node but the test logic changes: the queue of waiting commands, the grade of the module and
the test access port; and global time, which only an epoch boundary and the release of a reset move. -/

namespace Sys2Proof.Machine

@[simp] theorem foldl_grade {α : Type} (f : Shared → α → Shared) (h : ∀ l x, (f l x).grade = l.grade) (xs : List α) (l : Shared) :
    (xs.foldl f l).grade = l.grade := by
  induction xs generalizing l with
  | nil => rfl
  | cons x xs ih => simp [ih, h]

@[simp] theorem foldl_tap {α : Type} (f : Shared → α → Shared) (h : ∀ l x, (f l x).tap = l.tap) (xs : List α) (l : Shared) :
    (xs.foldl f l).tap = l.tap := by
  induction xs generalizing l with
  | nil => rfl
  | cons x xs ih => simp [ih, h]

@[simp] theorem foldl_gt {α : Type} (f : Shared → α → Shared) (h : ∀ l x, (f l x).gt = l.gt) (xs : List α) (l : Shared) :
    (xs.foldl f l).gt = l.gt := by
  induction xs generalizing l with
  | nil => rfl
  | cons x xs ih => simp [ih, h]

@[simp] theorem ite_grade (c : Prop) [Decidable c] (a b : Shared) : (if c then a else b).grade = if c then a.grade else b.grade := by
  split <;> rfl

@[simp] theorem ite_tap (c : Prop) [Decidable c] (a b : Shared) : (if c then a else b).tap = if c then a.tap else b.tap := by
  split <;> rfl

@[simp] theorem ite_gt (c : Prop) [Decidable c] (a b : Shared) : (if c then a else b).gt = if c then a.gt else b.gt := by
  split <;> rfl

@[simp] theorem Shared.wr_keep (h : Shared) (k : Nat) (w : Word) :
    (Shared.wr h k w).grade = h.grade ∧ (Shared.wr h k w).tap = h.tap ∧ (Shared.wr h k w).gt = h.gt := by
  unfold Shared.wr
  simp

@[simp] theorem Shared.setF_keep (h : Shared) (k : Nat) (f : Fld) (v : Nat) :
    (Shared.setF h k f v).grade = h.grade ∧ (Shared.setF h k f v).tap = h.tap ∧ (Shared.setF h k f v).gt = h.gt := by
  unfold Shared.setF
  simp

@[simp] theorem Shared.setB_keep (h : Shared) (k : Nat) (f : Fld) (v : Bool) :
    (Shared.setB h k f v).grade = h.grade ∧ (Shared.setB h k f v).tap = h.tap ∧ (Shared.setB h k f v).gt = h.gt := by
  unfold Shared.setB
  simp

@[simp] theorem Shared.bump_keep (h : Shared) (k : Nat) (f : Fld) (n : Nat) :
    (Shared.bump h k f n).grade = h.grade ∧ (Shared.bump h k f n).tap = h.tap ∧ (Shared.bump h k f n).gt = h.gt := by
  unfold Shared.bump
  simp

@[simp] theorem Shared.setChan_keep (h : Shared) (n : Nat) (c : ChanHw) :
    (Shared.setChan h n c).grade = h.grade ∧ (Shared.setChan h n c).tap = h.tap ∧ (Shared.setChan h n c).gt = h.gt := by
  unfold Shared.setChan
  simp

@[simp] theorem Shared.setTile_keep (h : Shared) (t : Nat) (c : TileHw) :
    (Shared.setTile h t c).grade = h.grade ∧ (Shared.setTile h t c).tap = h.tap ∧ (Shared.setTile h t c).gt = h.gt := by
  unfold Shared.setTile
  simp

@[simp] theorem Shared.setGain_keep (h : Shared) (n : Nat) (p : Path) (g : Nat) :
    (Shared.setGain h n p g).grade = h.grade ∧ (Shared.setGain h n p g).tap = h.tap ∧ (Shared.setGain h n p g).gt = h.gt := by
  unfold Shared.setGain
  (repeat' split) <;> (try simp)

@[simp] theorem Shared.cjcUse_keep (h : Shared) (cfg : Word) (t : Nat) :
    (Shared.cjcUse h cfg t).grade = h.grade ∧ (Shared.cjcUse h cfg t).tap = h.tap ∧ (Shared.cjcUse h cfg t).gt = h.gt := by
  unfold Shared.cjcUse
  simp

@[simp] theorem Shared.element_keep (h : Shared) (cfg : Word) (n : Nat) :
    (Shared.element h cfg n).grade = h.grade ∧ (Shared.element h cfg n).tap = h.tap ∧ (Shared.element h cfg n).gt = h.gt := by
  unfold Shared.element
  simp

@[simp] theorem Shared.highRange_keep (h : Shared) (cfg : Word) (n : Nat) :
    (Shared.highRange h cfg n).grade = h.grade ∧ (Shared.highRange h cfg n).tap = h.tap ∧ (Shared.highRange h cfg n).gt = h.gt := by
  unfold Shared.highRange
  simp

@[simp] theorem Shared.loadChan_keep (h : Shared) (cfg : Word) (pcfg : Word) (n : Nat) :
    (Shared.loadChan h cfg pcfg n).grade = h.grade ∧ (Shared.loadChan h cfg pcfg n).tap = h.tap ∧ (Shared.loadChan h cfg pcfg n).gt = h.gt := by
  unfold Shared.loadChan
  simp

@[simp] theorem Shared.tilesStep_keep (g : Nat) (d : Int) (h : Shared) :
    (Shared.tilesStep g d h).grade = h.grade ∧ (Shared.tilesStep g d h).tap = h.tap ∧ (Shared.tilesStep g d h).gt = h.gt := by
  unfold Shared.tilesStep
  simp

@[simp] theorem Shared.chkEnd_keep (h : Shared) (t : Nat) (w : Nat) :
    (Shared.chkEnd h t w).grade = h.grade ∧ (Shared.chkEnd h t w).tap = h.tap ∧ (Shared.chkEnd h t w).gt = h.gt := by
  unfold Shared.chkEnd
  simp

@[simp] theorem Shared.chkAbort_keep (h : Shared) (n : Nat) (w : Nat) :
    (Shared.chkAbort h n w).grade = h.grade ∧ (Shared.chkAbort h n w).tap = h.tap ∧ (Shared.chkAbort h n w).gt = h.gt := by
  unfold Shared.chkAbort
  simp

@[simp] theorem Shared.switchStage_keep (h : Shared) (n : Nat) (p : Path) (up : Bool) :
    (Shared.switchStage h n p up).grade = h.grade ∧ (Shared.switchStage h n p up).tap = h.tap ∧ (Shared.switchStage h n p up).gt = h.gt := by
  unfold Shared.switchStage
  simp

@[simp] theorem Shared.rangeStep_keep (h : Shared) (pcfg : Word) (n : Nat) :
    (Shared.rangeStep h pcfg n).grade = h.grade ∧ (Shared.rangeStep h pcfg n).tap = h.tap ∧ (Shared.rangeStep h pcfg n).gt = h.gt := by
  unfold Shared.rangeStep
  simp

@[simp] theorem Shared.rangeDecide_keep (h : Shared) (cfg : Word) (n : Nat) (w : Nat) (a : Int) (aOver : Bool) (b : Int) (bOver : Bool) :
    (Shared.rangeDecide h cfg n w a aOver b bOver).grade = h.grade ∧ (Shared.rangeDecide h cfg n w a aOver b bOver).tap = h.tap ∧ (Shared.rangeDecide h cfg n w a aOver b bOver).gt = h.gt := by
  unfold Shared.rangeDecide
  simp

@[simp] theorem Shared.queueWord_keep (h : Shared) (w : TWord) :
    (Shared.queueWord h w).grade = h.grade ∧ (Shared.queueWord h w).tap = h.tap ∧ (Shared.queueWord h w).gt = h.gt := by
  unfold Shared.queueWord
  (repeat' split) <;> (try simp)

@[simp] theorem Shared.reclose_keep (h : Shared) (n : Nat) (w : Nat) :
    (Shared.reclose h n w).grade = h.grade ∧ (Shared.reclose h n w).tap = h.tap ∧ (Shared.reclose h n w).gt = h.gt := by
  unfold Shared.reclose
  simp

@[simp] theorem Shared.frontAt_keep (h : Shared) (cfg : Word) (pcfg : Word) (n : Nat) (w : Nat) (swap : Bool) :
    (Shared.frontAt h cfg pcfg n w swap).grade = h.grade ∧ (Shared.frontAt h cfg pcfg n w swap).tap = h.tap ∧ (Shared.frontAt h cfg pcfg n w swap).gt = h.gt := by
  unfold Shared.frontAt
  simp

@[simp] theorem Shared.frontFrom_keep (h : Shared) (cfg : Word) (pcfg : Word) (n : Nat) (g : Nat) :
    (Shared.frontFrom h cfg pcfg n g).grade = h.grade ∧ (Shared.frontFrom h cfg pcfg n g).tap = h.tap ∧ (Shared.frontFrom h cfg pcfg n g).gt = h.gt := by
  unfold Shared.frontFrom
  simp

@[simp] theorem Shared.recloseAt_keep (h : Shared) (cfg : Word) (pcfg : Word) (n : Nat) (w : Nat) :
    (Shared.recloseAt h cfg pcfg n w).grade = h.grade ∧ (Shared.recloseAt h cfg pcfg n w).tap = h.tap ∧ (Shared.recloseAt h cfg pcfg n w).gt = h.gt := by
  unfold Shared.recloseAt
  simp

@[simp] theorem Shared.words_keep (h : Shared) (cfg : Word) (pcfg : Word) (n : Nat) (a : BitVec 24) (b : BitVec 24) (aOver : Bool) (bOver : Bool) (sat : Bool) (outA : Bool) (outB : Bool) (w : Nat) :
    (Shared.words h cfg pcfg n a b aOver bOver sat outA outB w).grade = h.grade ∧ (Shared.words h cfg pcfg n a b aOver bOver sat outA outB w).tap = h.tap ∧ (Shared.words h cfg pcfg n a b aOver bOver sat outA outB w).gt = h.gt := by
  unfold Shared.words
  simp

@[simp] theorem Shared.ainEffect_keep (h : Shared) (l : Lane) (op : Nat) (ch : Nat) :
    (Shared.ainEffect h l op ch).grade = h.grade ∧ (Shared.ainEffect h l op ch).tap = h.tap ∧ (Shared.ainEffect h l op ch).gt = h.gt := by
  unfold Shared.ainEffect
  (repeat' split) <;> (try simp)

@[simp] theorem Shared.setRing_keep (h : Shared) (f : RingHw → RingHw) :
    (Shared.setRing h f).grade = h.grade ∧ (Shared.setRing h f).tap = h.tap ∧ (Shared.setRing h f).gt = h.gt := by
  unfold Shared.setRing
  simp

@[simp] theorem Shared.setNeighbour_keep (h : Shared) (p : Port) (a : Nat) :
    (Shared.setNeighbour h p a).grade = h.grade ∧ (Shared.setNeighbour h p a).tap = h.tap ∧ (Shared.setNeighbour h p a).gt = h.gt := by
  unfold Shared.setNeighbour
  (repeat' split) <;> (try simp)

@[simp] theorem Shared.ringSend_keep (h : Shared) (type : Nat) (dst : Nat) (data : List Byte) (p : Port) (w : Nat) :
    (Shared.ringSend h type dst data p w).grade = h.grade ∧ (Shared.ringSend h type dst data p w).tap = h.tap ∧ (Shared.ringSend h type dst data p w).gt = h.gt := by
  unfold Shared.ringSend
  simp

@[simp] theorem Shared.ringOffer_keep (h : Shared) (type : Nat) (data : List Byte) (p : Port) (w : Nat) :
    (Shared.ringOffer h type data p w).grade = h.grade ∧ (Shared.ringOffer h type data p w).tap = h.tap ∧ (Shared.ringOffer h type data p w).gt = h.gt := by
  unfold Shared.ringOffer
  simp

@[simp] theorem Shared.faultAdd_keep (h : Shared) (k : Nat × Nat) :
    (Shared.faultAdd h k).grade = h.grade ∧ (Shared.faultAdd h k).tap = h.tap ∧ (Shared.faultAdd h k).gt = h.gt := by
  unfold Shared.faultAdd
  simp

@[simp] theorem Shared.faultDel_keep (h : Shared) (k : Nat × Nat) :
    (Shared.faultDel h k).grade = h.grade ∧ (Shared.faultDel h k).tap = h.tap ∧ (Shared.faultDel h k).gt = h.gt := by
  unfold Shared.faultDel
  simp

@[simp] theorem Shared.expectB_keep (h : Shared) (old : Shared) (w : Nat) :
    (Shared.expectB h old w).grade = h.grade ∧ (Shared.expectB h old w).tap = h.tap ∧ (Shared.expectB h old w).gt = h.gt := by
  unfold Shared.expectB
  (repeat' split) <;> (try simp)

@[simp] theorem Shared.setAo_keep (h : Shared) (n : Nat) (w : AoHw) :
    (Shared.setAo h n w).grade = h.grade ∧ (Shared.setAo h n w).tap = h.tap ∧ (Shared.setAo h n w).gt = h.gt := by
  unfold Shared.setAo
  simp

@[simp] theorem Shared.aoApply_keep (l : Lane) (h : Shared) :
    (Shared.aoApply l h).grade = h.grade ∧ (Shared.aoApply l h).tap = h.tap ∧ (Shared.aoApply l h).gt = h.gt := by
  unfold Shared.aoApply
  simp

@[simp] theorem Shared.aoModeOff_keep (h : Shared) (n : Nat) :
    (Shared.aoModeOff h n).grade = h.grade ∧ (Shared.aoModeOff h n).tap = h.tap ∧ (Shared.aoModeOff h n).gt = h.gt := by
  unfold Shared.aoModeOff
  simp

@[simp] theorem Shared.aoEffect_keep (h : Shared) (op : Nat) (n : Nat) :
    (Shared.aoEffect h op n).grade = h.grade ∧ (Shared.aoEffect h op n).tap = h.tap ∧ (Shared.aoEffect h op n).gt = h.gt := by
  unfold Shared.aoEffect
  simp

@[simp] theorem Shared.aoMonitor_keep (h : Shared) (n : Nat) (headroom : Byte) (loadv : Byte) (temp : Byte) :
    (Shared.aoMonitor h n headroom loadv temp).grade = h.grade ∧ (Shared.aoMonitor h n headroom loadv temp).tap = h.tap ∧ (Shared.aoMonitor h n headroom loadv temp).gt = h.gt := by
  unfold Shared.aoMonitor
  simp

@[simp] theorem Shared.thermalOff_keep (h : Shared) (n : Nat) (w : Nat) :
    (Shared.thermalOff h n w).grade = h.grade ∧ (Shared.thermalOff h n w).tap = h.tap ∧ (Shared.thermalOff h n w).gt = h.gt := by
  unfold Shared.thermalOff
  simp

@[simp] theorem Shared.aoBoundary_keep (h : Shared) :
    (Shared.aoBoundary h).grade = h.grade ∧ (Shared.aoBoundary h).tap = h.tap ∧ (Shared.aoBoundary h).gt = h.gt := by
  unfold Shared.aoBoundary
  simp

@[simp] theorem Shared.setDi_keep (h : Shared) (n : Nat) (w : DiHw) :
    (Shared.setDi h n w).grade = h.grade ∧ (Shared.setDi h n w).tap = h.tap ∧ (Shared.setDi h n w).gt = h.gt := by
  unfold Shared.setDi
  simp

@[simp] theorem Shared.setDou_keep (h : Shared) (n : Nat) (w : DoHw) :
    (Shared.setDou h n w).grade = h.grade ∧ (Shared.setDou h n w).tap = h.tap ∧ (Shared.setDou h n w).gt = h.gt := by
  unfold Shared.setDou
  simp

@[simp] theorem Shared.setBank_keep (h : Shared) (k : Nat) (w : BankHw) :
    (Shared.setBank h k w).grade = h.grade ∧ (Shared.setBank h k w).tap = h.tap ∧ (Shared.setBank h k w).gt = h.gt := by
  unfold Shared.setBank
  simp

@[simp] theorem Shared.doApply_keep (l : Lane) (h : Shared) (n : Nat) :
    (Shared.doApply l h n).grade = h.grade ∧ (Shared.doApply l h n).tap = h.tap ∧ (Shared.doApply l h n).gt = h.gt := by
  unfold Shared.doApply
  simp

@[simp] theorem Shared.doAll_keep (l : Lane) (h : Shared) :
    (Shared.doAll l h).grade = h.grade ∧ (Shared.doAll l h).tap = h.tap ∧ (Shared.doAll l h).gt = h.gt := by
  unfold Shared.doAll
  simp

@[simp] theorem Shared.bankSample_keep (l : Lane) (h : Shared) (k : Nat) :
    (Shared.bankSample l h k).grade = h.grade ∧ (Shared.bankSample l h k).tap = h.tap ∧ (Shared.bankSample l h k).gt = h.gt := by
  unfold Shared.bankSample
  simp

@[simp] theorem Shared.compared_keep (bad : Bool) (n : Nat) (h : Shared) :
    (Shared.compared bad n h).grade = h.grade ∧ (Shared.compared bad n h).tap = h.tap ∧ (Shared.compared bad n h).gt = h.gt := by
  unfold Shared.compared
  simp

@[simp] theorem Shared.lowSample_keep (l : Lane) (low : Bool) (n : Nat) (h : Shared) :
    (Shared.lowSample l low n h).grade = h.grade ∧ (Shared.lowSample l low n h).tap = h.tap ∧ (Shared.lowSample l low n h).gt = h.gt := by
  unfold Shared.lowSample
  simp

@[simp] theorem Shared.doSample_keep (l : Lane) (h : Shared) (n : Nat) :
    (Shared.doSample l h n).grade = h.grade ∧ (Shared.doSample l h n).tap = h.tap ∧ (Shared.doSample l h n).gt = h.gt := by
  unfold Shared.doSample
  simp

@[simp] theorem Shared.fltNow_keep (h : Shared) (k : Nat) :
    (Shared.fltNow h k).grade = h.grade ∧ (Shared.fltNow h k).tap = h.tap ∧ (Shared.fltNow h k).gt = h.gt := by
  unfold Shared.fltNow
  simp

@[simp] theorem Shared.fltSample_keep (h : Shared) (k : Nat) :
    (Shared.fltSample h k).grade = h.grade ∧ (Shared.fltSample h k).tap = h.tap ∧ (Shared.fltSample h k).gt = h.gt := by
  unfold Shared.fltSample
  simp

@[simp] theorem Shared.dioSample_keep (l : Lane) (h : Shared) :
    (Shared.dioSample l h).grade = h.grade ∧ (Shared.dioSample l h).tap = h.tap ∧ (Shared.dioSample l h).gt = h.gt := by
  unfold Shared.dioSample
  simp

@[simp] theorem Shared.dioStep_keep (g : Nat) (d : Int) (h : Shared) :
    (Shared.dioStep g d h).grade = h.grade ∧ (Shared.dioStep g d h).tap = h.tap ∧ (Shared.dioStep g d h).gt = h.gt := by
  unfold Shared.dioStep
  simp

@[simp] theorem Shared.diRestart_keep (t : Nat) (ns : List Nat) (h : Shared) :
    (Shared.diRestart t ns h).grade = h.grade ∧ (Shared.diRestart t ns h).tap = h.tap ∧ (Shared.diRestart t ns h).gt = h.gt := by
  unfold Shared.diRestart
  simp

@[simp] theorem Shared.dioFired_keep (h : Shared) :
    (Shared.dioFired h).grade = h.grade ∧ (Shared.dioFired h).tap = h.tap ∧ (Shared.dioFired h).gt = h.gt := by
  unfold Shared.dioFired
  simp

@[simp] theorem Shared.setLevel_keep (n : Nat) (v : Int) (h : Shared) :
    (Shared.setLevel n v h).grade = h.grade ∧ (Shared.setLevel n v h).tap = h.tap ∧ (Shared.setLevel n v h).gt = h.gt := by
  unfold Shared.setLevel
  simp

@[simp] theorem Shared.setVf_keep (k : Nat) (v : Nat) (h : Shared) :
    (Shared.setVf k v h).grade = h.grade ∧ (Shared.setVf k v h).tap = h.tap ∧ (Shared.setVf k v h).gt = h.gt := by
  unfold Shared.setVf
  simp

@[simp] theorem Shared.doProt_keep (n : Nat) (f : DoHw → DoHw) (h : Shared) :
    (Shared.doProt n f h).grade = h.grade ∧ (Shared.doProt n f h).tap = h.tap ∧ (Shared.doProt n f h).gt = h.gt := by
  unfold Shared.doProt
  simp

@[simp] theorem Shared.setStart_keep (h : Shared) (f : StartHw → StartHw) :
    (Shared.setStart h f).grade = h.grade ∧ (Shared.setStart h f).tap = h.tap ∧ (Shared.setStart h f).gt = h.gt := by
  unfold Shared.setStart
  simp

@[simp] theorem Shared.setCan_keep (h : Shared) (b : Nat) (w : CanHw) :
    (Shared.setCan h b w).grade = h.grade ∧ (Shared.setCan h b w).tap = h.tap ∧ (Shared.setCan h b w).gt = h.gt := by
  unfold Shared.setCan
  simp

@[simp] theorem Shared.detStart_keep (l : Lane) (b : Nat) (t : Nat) (h : Shared) :
    (Shared.detStart l b t h).grade = h.grade ∧ (Shared.detStart l b t h).tap = h.tap ∧ (Shared.detStart l b t h).gt = h.gt := by
  unfold Shared.detStart
  simp

@[simp] theorem Shared.detResume_keep (l : Lane) (h : Shared) :
    (Shared.detResume l h).grade = h.grade ∧ (Shared.detResume l h).tap = h.tap ∧ (Shared.detResume l h).gt = h.gt := by
  unfold Shared.detResume
  simp

@[simp] theorem Shared.canOpen_keep (h : Shared) :
    (Shared.canOpen h).grade = h.grade ∧ (Shared.canOpen h).tap = h.tap ∧ (Shared.canOpen h).gt = h.gt := by
  unfold Shared.canOpen
  simp

@[simp] theorem Shared.canReport_keep (l : Lane) (b : Nat) (sof : Nat) (f : FrameRep) (h : Shared) :
    (Shared.canReport l b sof f h).grade = h.grade ∧ (Shared.canReport l b sof f h).tap = h.tap ∧ (Shared.canReport l b sof f h).gt = h.gt := by
  unfold Shared.canReport
  simp

@[simp] theorem Shared.setPage_keep (h : Shared) (p : Nat) (bs : List Byte) :
    (Shared.setPage h p bs).grade = h.grade ∧ (Shared.setPage h p bs).tap = h.tap ∧ (Shared.setPage h p bs).gt = h.gt := by
  unfold Shared.setPage
  simp

@[simp] theorem Shared.norWrite_keep (h : Shared) (addr : Nat) (bs : List Byte) :
    (Shared.norWrite h addr bs).grade = h.grade ∧ (Shared.norWrite h addr bs).tap = h.tap ∧ (Shared.norWrite h addr bs).gt = h.gt := by
  unfold Shared.norWrite
  simp

@[simp] theorem Shared.norErase_keep (h : Shared) (addr n : Nat) :
    (h.norErase addr n).grade = h.grade ∧ (h.norErase addr n).tap = h.tap ∧ (h.norErase addr n).gt = h.gt := by
  unfold Shared.norErase
  generalize List.replicate 256 0xFF#8 = bs
  simp

@[simp] theorem Shared.setPnl_keep (h : Shared) (f : PnlHw → PnlHw) :
    (Shared.setPnl h f).grade = h.grade ∧ (Shared.setPnl h f).tap = h.tap ∧ (Shared.setPnl h f).gt = h.gt := by
  unfold Shared.setPnl
  simp

@[simp] theorem Shared.railsFall_keep (w : Nat) (h : Shared) :
    (Shared.railsFall w h).grade = h.grade ∧ (Shared.railsFall w h).tap = h.tap ∧ (Shared.railsFall w h).gt = h.gt := by
  unfold Shared.railsFall
  simp

@[simp] theorem Shared.railsTrip_keep (w : Nat) (h : Shared) :
    (Shared.railsTrip w h).grade = h.grade ∧ (Shared.railsTrip w h).tap = h.tap ∧ (Shared.railsTrip w h).gt = h.gt := by
  unfold Shared.railsTrip
  simp

@[simp] theorem Shared.railsOn_keep (w : Nat) (h : Shared) :
    (Shared.railsOn w h).grade = h.grade ∧ (Shared.railsOn w h).tap = h.tap ∧ (Shared.railsOn w h).gt = h.gt := by
  unfold Shared.railsOn
  simp

@[simp] theorem Shared.railsRise_keep (h : Shared) (vsp : Nat) :
    (Shared.railsRise h vsp).grade = h.grade ∧ (Shared.railsRise h vsp).tap = h.tap ∧ (Shared.railsRise h vsp).gt = h.gt := by
  unfold Shared.railsRise
  simp

@[simp] theorem Shared.pnlApply_keep (h : Shared) (l : Lane) :
    (Shared.pnlApply h l).grade = h.grade ∧ (Shared.pnlApply h l).tap = h.tap ∧ (Shared.pnlApply h l).gt = h.gt := by
  unfold Shared.pnlApply
  simp

@[simp] theorem Shared.frameStart_keep (h : Shared) :
    (Shared.frameStart h).grade = h.grade ∧ (Shared.frameStart h).tap = h.tap ∧ (Shared.frameStart h).gt = h.gt := by
  unfold Shared.frameStart
  (repeat' split) <;> (try simp)

@[simp] theorem Shared.railSeen_keep (h : Shared) (vcol : Bool) (v : Nat) :
    (Shared.railSeen h vcol v).grade = h.grade ∧ (Shared.railSeen h vcol v).tap = h.tap ∧ (Shared.railSeen h vcol v).gt = h.gt := by
  unfold Shared.railSeen
  simp

@[simp] theorem Shared.ringFire_keep (h : Shared) (r : FireRes) :
    (Shared.ringFire h r).grade = h.grade ∧ (Shared.ringFire h r).tap = h.tap ∧ (Shared.ringFire h r).gt = h.gt := by
  unfold Shared.ringFire
  simp

@[simp] theorem Shared.frontPatch_keep (h : Shared) (cfg : Word) (pcfg : Word) (n : Nat) (g : Nat) :
    (Shared.frontPatch h cfg pcfg n g).grade = h.grade ∧ (Shared.frontPatch h cfg pcfg n g).tap = h.tap ∧ (Shared.frontPatch h cfg pcfg n g).gt = h.gt := by
  unfold Shared.frontPatch
  simp

@[simp] theorem Shared.patchLoad_keep (h : Shared) (g : Nat) (r : PatchRes) (old : Lane) (new : Lane) :
    (Shared.patchLoad h g r old new).grade = h.grade ∧ (Shared.patchLoad h g r old new).tap = h.tap ∧ (Shared.patchLoad h g r old new).gt = h.gt := by
  unfold Shared.patchLoad
  (repeat' split) <;> (try simp)

@[simp] theorem Shared.domSet_keep (h : Shared) (d : Nat) (on : Bool) :
    (Shared.domSet h d on).grade = h.grade ∧ (Shared.domSet h d on).tap = h.tap ∧ (Shared.domSet h d on).gt = h.gt := by
  unfold Shared.domSet
  simp

@[simp] theorem Shared.srecBegin_keep (h : Shared) :
    (Shared.srecBegin h).grade = h.grade ∧ (Shared.srecBegin h).tap = h.tap ∧ (Shared.srecBegin h).gt = h.gt := by
  unfold Shared.srecBegin
  simp

@[simp] theorem Shared.srecSet_keep (h : Shared) (f : SRec → SRec) :
    (Shared.srecSet h f).grade = h.grade ∧ (Shared.srecSet h f).tap = h.tap ∧ (Shared.srecSet h f).gt = h.gt := by
  unfold Shared.srecSet
  simp

@[simp] theorem Shared.srecNow_keep (h : Shared) (f : SRec → SRec) :
    (Shared.srecNow h f).grade = h.grade ∧ (Shared.srecNow h f).tap = h.tap ∧ (Shared.srecNow h f).gt = h.gt := by
  unfold Shared.srecNow
  simp

@[simp] theorem Shared.srecPut_keep (h : Shared) (f : SRec → SRec) :
    (Shared.srecPut h f).grade = h.grade ∧ (Shared.srecPut h f).tap = h.tap ∧ (Shared.srecPut h f).gt = h.gt := by
  unfold Shared.srecPut
  simp

@[simp] theorem Shared.srecDone_keep (h : Shared) :
    (Shared.srecDone h).grade = h.grade ∧ (Shared.srecDone h).tap = h.tap ∧ (Shared.srecDone h).gt = h.gt := by
  unfold Shared.srecDone
  (repeat' split) <;> (try simp)

@[simp] theorem Shared.showIdent_keep (h : Shared) :
    (Shared.showIdent h).grade = h.grade ∧ (Shared.showIdent h).tap = h.tap ∧ (Shared.showIdent h).gt = h.gt := by
  unfold Shared.showIdent
  simp

@[simp] theorem Shared.bisqueOutputs_keep (l : Lane) (h : Shared) :
    (Shared.bisqueOutputs l h).grade = h.grade ∧ (Shared.bisqueOutputs l h).tap = h.tap ∧ (Shared.bisqueOutputs l h).gt = h.gt := by
  unfold Shared.bisqueOutputs
  simp

@[simp] theorem Shared.runTime_keep (h : Shared) :
    (Shared.runTime h).grade = h.grade ∧ (Shared.runTime h).tap = h.tap ∧ (Shared.runTime h).gt = h.gt := by
  unfold Shared.runTime
  (repeat' split) <;> (try simp)

@[simp] theorem Shared.stxRound0_keep (src : Lane) (h : Shared) :
    (Shared.stxRound0 src h).grade = h.grade ∧ (Shared.stxRound0 src h).tap = h.tap ∧ (Shared.stxRound0 src h).gt = h.gt := by
  unfold Shared.stxRound0
  simp

@[simp] theorem Shared.stxEpoch_keep (ps : List Nat) (h : Shared) :
    (Shared.stxEpoch ps h).grade = h.grade ∧ (Shared.stxEpoch ps h).tap = h.tap ∧ (Shared.stxEpoch ps h).gt = h.gt := by
  unfold Shared.stxEpoch
  simp

@[simp] theorem Shared.tileOff_keep (h : Shared) (t : Nat) :
    (Shared.tileOff h t).grade = h.grade ∧ (Shared.tileOff h t).tap = h.tap ∧ (Shared.tileOff h t).gt = h.gt := by
  unfold Shared.tileOff
  simp

@[simp] theorem Shared.dioClear_keep (h : Shared) :
    (Shared.dioClear h).grade = h.grade ∧ (Shared.dioClear h).tap = h.tap ∧ (Shared.dioClear h).gt = h.gt := by
  unfold Shared.dioClear
  simp

@[simp] theorem Shared.tileReset_keep (h : Shared) (t : Nat) :
    (Shared.tileReset h t).grade = h.grade ∧ (Shared.tileReset h t).tap = h.tap ∧ (Shared.tileReset h t).gt = h.gt := by
  unfold Shared.tileReset
  simp

@[simp] theorem Shared.dioReset_keep (h : Shared) :
    (Shared.dioReset h).grade = h.grade ∧ (Shared.dioReset h).tap = h.tap ∧ (Shared.dioReset h).gt = h.gt := by
  unfold Shared.dioReset
  simp

@[simp] theorem Shared.faultWindow_keep (h : Shared) (w : Nat) :
    (Shared.faultWindow h w).grade = h.grade ∧ (Shared.faultWindow h w).tap = h.tap ∧ (Shared.faultWindow h w).gt = h.gt := by
  unfold Shared.faultWindow
  simp

@[simp] theorem Shared.setSup_keep (h : Shared) (f : Fld) (v : Bool) :
    (Shared.setSup h f v).grade = h.grade ∧ (Shared.setSup h f v).tap = h.tap ∧ (Shared.setSup h f v).gt = h.gt := by
  unfold Shared.setSup
  simp

@[simp] theorem Shared.synthLock_keep (h : Shared) :
    (Shared.synthLock h).grade = h.grade ∧ (Shared.synthLock h).tap = h.tap ∧ (Shared.synthLock h).gt = h.gt := by
  unfold Shared.synthLock
  simp

@[simp] theorem Shared.stallCount_keep (k : Nat) (link : Nat) (h : Shared) :
    (Shared.stallCount k link h).grade = h.grade ∧ (Shared.stallCount k link h).tap = h.tap ∧ (Shared.stallCount k link h).gt = h.gt := by
  unfold Shared.stallCount
  simp

@[simp] theorem Shared.lossTaken_keep (h : Shared) :
    (Shared.lossTaken h).grade = h.grade ∧ (Shared.lossTaken h).tap = h.tap ∧ (Shared.lossTaken h).gt = h.gt := by
  unfold Shared.lossTaken
  simp

@[simp] theorem Shared.ringTake_keep (l : Lane) (h : Shared) :
    (Shared.ringTake l h).grade = h.grade ∧ (Shared.ringTake l h).tap = h.tap ∧ (Shared.ringTake l h).gt = h.gt := by
  unfold Shared.ringTake
  simp

@[simp] theorem Shared.panelRecord_keep (old : RegFile) (n : Lane) (h : Shared) :
    (Shared.panelRecord old n h).grade = h.grade ∧ (Shared.panelRecord old n h).tap = h.tap ∧ (Shared.panelRecord old n h).gt = h.gt := by
  unfold Shared.panelRecord
  simp

@[simp] theorem Shared.stxSent_keep (page : Option Nat) (h : Shared) :
    (Shared.stxSent page h).grade = h.grade ∧ (Shared.stxSent page h).tap = h.tap ∧ (Shared.stxSent page h).gt = h.gt := by
  unfold Shared.stxSent
  simp

@[simp] theorem Shared.stxNext_keep (h : Shared) :
    (Shared.stxNext h).grade = h.grade ∧ (Shared.stxNext h).tap = h.tap ∧ (Shared.stxNext h).gt = h.gt := by
  unfold Shared.stxNext
  simp

@[simp] theorem Shared.carry_keep (k : Int) (h : Shared) :
    (Shared.carry k h).grade = h.grade ∧ (Shared.carry k h).tap = h.tap ∧ (Shared.carry k h).gt = h.gt := by
  unfold Shared.carry
  simp

@[simp] theorem Shared.observe_keep (o : Obs) (h : Shared) :
    (Shared.observe o h).grade = h.grade ∧ (Shared.observe o h).tap = h.tap ∧ (Shared.observe o h).gt = h.gt := by
  unfold Shared.observe
  simp

@[simp] theorem Shared.ringCtl_keep (h : Shared) :
    (Shared.ringCtl h).grade = h.grade ∧ (Shared.ringCtl h).tap = h.tap ∧ (Shared.ringCtl h).gt = h.gt := by
  unfold Shared.ringCtl
  (repeat' split) <;> (try simp)

@[simp] theorem Shared.ringWrite_keep (now : Nat) (v : Word) (h : Shared) :
    (Shared.ringWrite now v h).grade = h.grade ∧ (Shared.ringWrite now v h).tap = h.tap ∧ (Shared.ringWrite now v h).gt = h.gt := by
  unfold Shared.ringWrite
  simp

@[simp] theorem Shared.enqueue_keep (now : Nat) (h : Shared) :
    (Shared.enqueue now h).grade = h.grade ∧ (Shared.enqueue now h).tap = h.tap ∧ (Shared.enqueue now h).gt = h.gt := by
  unfold Shared.enqueue
  simp

@[simp] theorem foldl_pending {α : Type} (f : State → α → State) (h : ∀ l x, (f l x).pending = l.pending) (xs : List α) (l : State) :
    (xs.foldl f l).pending = l.pending := by
  induction xs generalizing l with
  | nil => rfl
  | cons x xs ih => simp [ih, h]

@[simp] theorem foldl_sh_grade {α : Type} (f : State → α → State) (h : ∀ l x, (f l x).sh.grade = l.sh.grade) (xs : List α) (l : State) :
    (xs.foldl f l).sh.grade = l.sh.grade := by
  induction xs generalizing l with
  | nil => rfl
  | cons x xs ih => simp [ih, h]

@[simp] theorem foldl_sh_tap {α : Type} (f : State → α → State) (h : ∀ l x, (f l x).sh.tap = l.sh.tap) (xs : List α) (l : State) :
    (xs.foldl f l).sh.tap = l.sh.tap := by
  induction xs generalizing l with
  | nil => rfl
  | cons x xs ih => simp [ih, h]

@[simp] theorem foldl_sh_gt {α : Type} (f : State → α → State) (h : ∀ l x, (f l x).sh.gt = l.sh.gt) (xs : List α) (l : State) :
    (xs.foldl f l).sh.gt = l.sh.gt := by
  induction xs generalizing l with
  | nil => rfl
  | cons x xs ih => simp [ih, h]

@[simp] theorem State.setLane_keep (s : State) (i : LaneId) (l : Lane) :
    (State.setLane s i l).pending = s.pending ∧ (State.setLane s i l).sh.grade = s.sh.grade ∧ (State.setLane s i l).sh.tap = s.sh.tap ∧ (State.setLane s i l).sh.gt = s.sh.gt := by
  unfold State.setLane
  (repeat' split) <;> (try simp)

@[simp] theorem State.upd_keep (s : State) (i : LaneId) (f : Lane → Lane) :
    (State.upd s i f).pending = s.pending ∧ (State.upd s i f).sh.grade = s.sh.grade ∧ (State.upd s i f).sh.tap = s.sh.tap ∧ (State.upd s i f).sh.gt = s.sh.gt := by
  unfold State.upd
  simp

@[simp] theorem State.updSh_keep (f : Shared → Shared) (s : State) :
    (s.updSh f).pending = s.pending ∧ (s.updSh f).sh = f s.sh := ⟨rfl, rfl⟩

@[simp] theorem State.withSh_keep (s : State) (h : Shared) :
    (s.withSh h).pending = s.pending ∧ (s.withSh h).sh = h := ⟨rfl, rfl⟩

@[simp] theorem State.onLanes_keep (p : Lane → Bool) (f : Lane → Lane) (s : State) :
    (State.onLanes p f s).pending = s.pending ∧ (State.onLanes p f s).sh.grade = s.sh.grade ∧ (State.onLanes p f s).sh.tap = s.sh.tap ∧ (State.onLanes p f s).sh.gt = s.sh.gt := by
  unfold State.onLanes
  simp

@[simp] theorem State.both_keep (s : State) (f : Lane → Lane) :
    (State.both s f).pending = s.pending ∧ (State.both s f).sh.grade = s.sh.grade ∧ (State.both s f).sh.tap = s.sh.tap ∧ (State.both s f).sh.gt = s.sh.gt := by
  unfold State.both
  simp

@[simp] theorem State.taking_keep (s : State) (f : Lane → Lane) :
    (State.taking s f).pending = s.pending ∧ (State.taking s f).sh.grade = s.sh.grade ∧ (State.taking s f).sh.tap = s.sh.tap ∧ (State.taking s f).sh.gt = s.sh.gt := by
  unfold State.taking
  simp

@[simp] theorem State.loadTile_keep (s : State) (t : Nat) :
    (State.loadTile s t).pending = s.pending ∧ (State.loadTile s t).sh.grade = s.sh.grade ∧ (State.loadTile s t).sh.tap = s.sh.tap ∧ (State.loadTile s t).sh.gt = s.sh.gt := by
  unfold State.loadTile
  (repeat' split) <;> (try simp)

@[simp] theorem State.wordInstant_keep (s : State) (n : Nat) (a : BitVec 24) (aOver : Bool) (b : BitVec 24) (bOver : Bool) (sat : Bool) (w : Nat) :
    (State.wordInstant s n a aOver b bOver sat w).pending = s.pending ∧ (State.wordInstant s n a aOver b bOver sat w).sh.grade = s.sh.grade ∧ (State.wordInstant s n a aOver b bOver sat w).sh.tap = s.sh.tap ∧ (State.wordInstant s n a aOver b bOver sat w).sh.gt = s.sh.gt := by
  unfold State.wordInstant
  simp
  (repeat' split) <;> (try simp)

@[simp] theorem State.deliver_keep (s : State) (t : Nat) (p : Path) (k : Nat) :
    (State.deliver s t p k).pending = s.pending ∧ (State.deliver s t p k).sh.grade = s.sh.grade ∧ (State.deliver s t p k).sh.tap = s.sh.tap ∧ (State.deliver s t p k).sh.gt = s.sh.gt := by
  unfold State.deliver
  simp
  (repeat' split) <;> (try simp)

@[simp] theorem State.tileLinkUp_keep (s : State) (t : Nat) (p : Path) :
    (State.tileLinkUp s t p).pending = s.pending ∧ (State.tileLinkUp s t p).sh.grade = s.sh.grade ∧ (State.tileLinkUp s t p).sh.tap = s.sh.tap ∧ (State.tileLinkUp s t p).sh.gt = s.sh.gt := by
  unfold State.tileLinkUp
  (repeat' split) <;> (try simp)

@[simp] theorem State.tileFrame_keep (s : State) (t : Nat) (p : Path) (word : Bool) (ok : Bool) (w : Nat) :
    (State.tileFrame s t p word ok w).pending = s.pending ∧ (State.tileFrame s t p word ok w).sh.grade = s.sh.grade ∧ (State.tileFrame s t p word ok w).sh.tap = s.sh.tap ∧ (State.tileFrame s t p word ok w).sh.gt = s.sh.gt := by
  unfold State.tileFrame
  simp
  (repeat' split) <;> (try simp)

@[simp] theorem State.tileLinkLost_keep (s : State) (t : Nat) (p : Path) (w : Nat) :
    (State.tileLinkLost s t p w).pending = s.pending ∧ (State.tileLinkLost s t p w).sh.grade = s.sh.grade ∧ (State.tileLinkLost s t p w).sh.tap = s.sh.tap ∧ (State.tileLinkLost s t p w).sh.gt = s.sh.gt := by
  unfold State.tileLinkLost
  (repeat' split) <;> (try simp)

@[simp] theorem State.excSatChange_keep (s : State) (n : Nat) :
    (State.excSatChange s n).pending = s.pending ∧ (State.excSatChange s n).sh.grade = s.sh.grade ∧ (State.excSatChange s n).sh.tap = s.sh.tap ∧ (State.excSatChange s n).sh.gt = s.sh.gt := by
  unfold State.excSatChange
  simp
  (repeat' split) <;> (try simp)

@[simp] theorem State.openChange_keep (s : State) (n : Nat) :
    (State.openChange s n).pending = s.pending ∧ (State.openChange s n).sh.grade = s.sh.grade ∧ (State.openChange s n).sh.tap = s.sh.tap ∧ (State.openChange s n).sh.gt = s.sh.gt := by
  unfold State.openChange
  simp
  (repeat' split) <;> (try simp)

@[simp] theorem State.cjcUse_keep (s : State) (t : Nat) :
    (State.cjcUse s t).pending = s.pending ∧ (State.cjcUse s t).sh.grade = s.sh.grade ∧ (State.cjcUse s t).sh.tap = s.sh.tap ∧ (State.cjcUse s t).sh.gt = s.sh.gt := by
  unfold State.cjcUse
  simp

@[simp] theorem State.cjcWord_keep (s : State) (t : Nat) (res : Word) (w : Nat) :
    (State.cjcWord s t res w).pending = s.pending ∧ (State.cjcWord s t res w).sh.grade = s.sh.grade ∧ (State.cjcWord s t res w).sh.tap = s.sh.tap ∧ (State.cjcWord s t res w).sh.gt = s.sh.gt := by
  unfold State.cjcWord
  simp
  (repeat' split) <;> (try simp)

@[simp] theorem State.cjcChange_keep (s : State) (t : Nat) :
    (State.cjcChange s t).pending = s.pending ∧ (State.cjcChange s t).sh.grade = s.sh.grade ∧ (State.cjcChange s t).sh.tap = s.sh.tap ∧ (State.cjcChange s t).sh.gt = s.sh.gt := by
  unfold State.cjcChange
  simp
  (repeat' split) <;> (try simp)

@[simp] theorem State.shuntTrip_keep (s : State) (n : Nat) (w : Nat) :
    (State.shuntTrip s n w).pending = s.pending ∧ (State.shuntTrip s n w).sh.grade = s.sh.grade ∧ (State.shuntTrip s n w).sh.tap = s.sh.tap ∧ (State.shuntTrip s n w).sh.gt = s.sh.gt := by
  unfold State.shuntTrip
  (repeat' split) <;> (try simp)

@[simp] theorem State.injStart_keep (s : State) (t : Nat) :
    (State.injStart s t).pending = s.pending ∧ (State.injStart s t).sh.grade = s.sh.grade ∧ (State.injStart s t).sh.tap = s.sh.tap ∧ (State.injStart s t).sh.gt = s.sh.gt := by
  unfold State.injStart
  simp
  (repeat' split) <;> (try simp)

@[simp] theorem State.injSlot_keep (s : State) :
    (State.injSlot s).pending = s.pending ∧ (State.injSlot s).sh.grade = s.sh.grade ∧ (State.injSlot s).sh.tap = s.sh.tap ∧ (State.injSlot s).sh.gt = s.sh.gt := by
  unfold State.injSlot
  (repeat' split) <;> (try simp)

@[simp] theorem State.injResult_keep (s : State) (t : Nat) (sp : Int) (sm : Int) (w : Nat) :
    (State.injResult s t sp sm w).pending = s.pending ∧ (State.injResult s t sp sm w).sh.grade = s.sh.grade ∧ (State.injResult s t sp sm w).sh.tap = s.sh.tap ∧ (State.injResult s t sp sm w).sh.gt = s.sh.gt := by
  unfold State.injResult
  simp
  (repeat' split) <;> (try simp)

@[simp] theorem State.ainCmd_keep (s : State) (op : Nat) (ch : Nat) (arg : Nat) :
    (State.ainCmd s op ch arg).pending = s.pending ∧ (State.ainCmd s op ch arg).sh.grade = s.sh.grade ∧ (State.ainCmd s op ch arg).sh.tap = s.sh.tap ∧ (State.ainCmd s op ch arg).sh.gt = s.sh.gt := by
  unfold State.ainCmd
  simp

@[simp] theorem State.ainRow_keep (s : State) (op : Nat) (ch : Nat) (arg : Nat) :
    (State.ainRow s op ch arg).pending = s.pending ∧ (State.ainRow s op ch arg).sh.grade = s.sh.grade ∧ (State.ainRow s op ch arg).sh.tap = s.sh.tap ∧ (State.ainRow s op ch arg).sh.gt = s.sh.gt := by
  unfold State.ainRow
  simp

@[simp] theorem State.almRow_keep (s : State) (op : Nat) (tgt : Nat) (origin : Nat) :
    (State.almRow s op tgt origin).pending = s.pending ∧ (State.almRow s op tgt origin).sh.grade = s.sh.grade ∧ (State.almRow s op tgt origin).sh.tap = s.sh.tap ∧ (State.almRow s op tgt origin).sh.gt = s.sh.gt := by
  unfold State.almRow
  simp

@[simp] theorem State.scanRow_keep (s : State) (k : Nat) (p : Lane → Lane → Bool) :
    (State.scanRow s k p).pending = s.pending ∧ (State.scanRow s k p).sh.grade = s.sh.grade ∧ (State.scanRow s k p).sh.tap = s.sh.tap ∧ (State.scanRow s k p).sh.gt = s.sh.gt := by
  unfold State.scanRow
  simp

@[simp] theorem State.ringRec_keep (s : State) (code : Nat) (w : Nat) (ev : Bool) :
    (State.ringRec s code w ev).pending = s.pending ∧ (State.ringRec s code w ev).sh.grade = s.sh.grade ∧ (State.ringRec s code w ev).sh.tap = s.sh.tap ∧ (State.ringRec s code w ev).sh.gt = s.sh.gt := by
  unfold State.ringRec
  (repeat' split) <;> (try simp)

@[simp] theorem State.bypassClose_keep (s : State) (w : Nat) :
    (State.bypassClose s w).pending = s.pending ∧ (State.bypassClose s w).sh.grade = s.sh.grade ∧ (State.bypassClose s w).sh.tap = s.sh.tap ∧ (State.bypassClose s w).sh.gt = s.sh.gt := by
  unfold State.bypassClose
  (repeat' split) <;> (try simp)

@[simp] theorem State.ringSync_keep (s : State) (w : Nat) :
    (State.ringSync s w).pending = s.pending ∧ (State.ringSync s w).sh.grade = s.sh.grade ∧ (State.ringSync s w).sh.tap = s.sh.tap ∧ (State.ringSync s w).sh.gt = s.sh.gt := by
  unfold State.ringSync
  (repeat' split) <;> (try simp)

@[simp] theorem State.bypassOpen_keep (s : State) (w : Nat) :
    (State.bypassOpen s w).pending = s.pending ∧ (State.bypassOpen s w).sh.grade = s.sh.grade ∧ (State.bypassOpen s w).sh.tap = s.sh.tap ∧ (State.bypassOpen s w).sh.gt = s.sh.gt := by
  unfold State.bypassOpen
  simp
  (repeat' split) <;> (try simp)

@[simp] theorem State.ringFlush_keep (s : State) :
    (State.ringFlush s).pending = s.pending ∧ (State.ringFlush s).sh.grade = s.sh.grade ∧ (State.ringFlush s).sh.tap = s.sh.tap ∧ (State.ringFlush s).sh.gt = s.sh.gt := by
  unfold State.ringFlush
  simp

@[simp] theorem State.ringIn_keep (p : Port) (f : RingFrame) (w : Nat) (act : State → State) (hf : (∀ s, (act s).pending = s.pending ∧ (act s).sh.grade = s.sh.grade ∧ (act s).sh.tap = s.sh.tap ∧ (act s).sh.gt = s.sh.gt)) (s : State) :
    (State.ringIn p f w act s).pending = s.pending ∧ (State.ringIn p f w act s).sh.grade = s.sh.grade ∧ (State.ringIn p f w act s).sh.tap = s.sh.tap ∧ (State.ringIn p f w act s).sh.gt = s.sh.gt := by
  unfold State.ringIn
  dsimp only
  (repeat' split) <;> (try simp [hf])

@[simp] theorem State.passToken_keep (s : State) (p : Port) (w : Nat) :
    (State.passToken s p w).pending = s.pending ∧ (State.passToken s p w).sh.grade = s.sh.grade ∧ (State.passToken s p w).sh.tap = s.sh.tap ∧ (State.passToken s p w).sh.gt = s.sh.gt := by
  unfold State.passToken
  simp
  (repeat' split) <;> (try simp)

@[simp] theorem State.token_keep (s : State) (p : Port) (src : Nat) (w : Nat) :
    (State.token s p src w).pending = s.pending ∧ (State.token s p src w).sh.grade = s.sh.grade ∧ (State.token s p src w).sh.tap = s.sh.tap ∧ (State.token s p src w).sh.gt = s.sh.gt := by
  unfold State.token
  simp
  (repeat' split) <;> (try simp)

@[simp] theorem State.returned_keep (s : State) (type : Nat) (w : Nat) :
    (State.returned s type w).pending = s.pending ∧ (State.returned s type w).sh.grade = s.sh.grade ∧ (State.returned s type w).sh.tap = s.sh.tap ∧ (State.returned s type w).sh.gt = s.sh.gt := by
  unfold State.returned
  (repeat' split) <;> (try simp)

@[simp] theorem State.ringBack_keep (type : Nat) (src : Nat) (w : Nat) (s : State) :
    (State.ringBack type src w s).pending = s.pending ∧ (State.ringBack type src w s).sh.grade = s.sh.grade ∧ (State.ringBack type src w s).sh.tap = s.sh.tap ∧ (State.ringBack type src w s).sh.gt = s.sh.gt := by
  unfold State.ringBack
  (repeat' split) <;> (try simp)

@[simp] theorem State.enterWrap_keep (s : State) (p : Port) (w : Nat) :
    (State.enterWrap s p w).pending = s.pending ∧ (State.enterWrap s p w).sh.grade = s.sh.grade ∧ (State.enterWrap s p w).sh.tap = s.sh.tap ∧ (State.enterWrap s p w).sh.gt = s.sh.gt := by
  unfold State.enterWrap
  (repeat' split) <;> (try simp)

@[simp] theorem State.leaveWrap_keep (s : State) (p : Port) (w : Nat) :
    (State.leaveWrap s p w).pending = s.pending ∧ (State.leaveWrap s p w).sh.grade = s.sh.grade ∧ (State.leaveWrap s p w).sh.tap = s.sh.tap ∧ (State.leaveWrap s p w).sh.gt = s.sh.gt := by
  unfold State.leaveWrap
  (repeat' split) <;> (try simp)

@[simp] theorem State.portLost_keep (s : State) (p : Port) (w : Nat) :
    (State.portLost s p w).pending = s.pending ∧ (State.portLost s p w).sh.grade = s.sh.grade ∧ (State.portLost s p w).sh.tap = s.sh.tap ∧ (State.portLost s p w).sh.gt = s.sh.gt := by
  unfold State.portLost
  (repeat' split) <;> (try simp)

@[simp] theorem State.openFrame_keep (s : State) (src : Nat) (nbr : Nat) (port : Nat) (w : Nat) :
    (State.openFrame s src nbr port w).pending = s.pending ∧ (State.openFrame s src nbr port w).sh.grade = s.sh.grade ∧ (State.openFrame s src nbr port w).sh.tap = s.sh.tap ∧ (State.openFrame s src nbr port w).sh.gt = s.sh.gt := by
  unfold State.openFrame
  simp
  (repeat' split) <;> (try simp)

@[simp] theorem State.closedFrame_keep (s : State) (src : Nat) (nbr : Nat) (port : Nat) (w : Nat) :
    (State.closedFrame s src nbr port w).pending = s.pending ∧ (State.closedFrame s src nbr port w).sh.grade = s.sh.grade ∧ (State.closedFrame s src nbr port w).sh.tap = s.sh.tap ∧ (State.closedFrame s src nbr port w).sh.gt = s.sh.gt := by
  unfold State.closedFrame
  simp
  (repeat' split) <;> (try simp)

@[simp] theorem State.probeFrame_keep (s : State) (p : Port) (w : Nat) :
    (State.probeFrame s p w).pending = s.pending ∧ (State.probeFrame s p w).sh.grade = s.sh.grade ∧ (State.probeFrame s p w).sh.tap = s.sh.tap ∧ (State.probeFrame s p w).sh.gt = s.sh.gt := by
  unfold State.probeFrame
  (repeat' split) <;> (try simp)

@[simp] theorem State.probeTimer_keep (s : State) (p : Port) (w : Nat) :
    (State.probeTimer s p w).pending = s.pending ∧ (State.probeTimer s p w).sh.grade = s.sh.grade ∧ (State.probeTimer s p w).sh.tap = s.sh.tap ∧ (State.probeTimer s p w).sh.gt = s.sh.gt := by
  unfold State.probeTimer
  (repeat' split) <;> (try simp)

@[simp] theorem State.tokenLoss_keep (s : State) (w : Nat) :
    (State.tokenLoss s w).pending = s.pending ∧ (State.tokenLoss s w).sh.grade = s.sh.grade ∧ (State.tokenLoss s w).sh.tap = s.sh.tap ∧ (State.tokenLoss s w).sh.gt = s.sh.gt := by
  unfold State.tokenLoss
  (repeat' split) <;> (try simp)

@[simp] theorem State.claim_keep (s : State) (src : Nat) (w : Nat) :
    (State.claim s src w).pending = s.pending ∧ (State.claim s src w).sh.grade = s.sh.grade ∧ (State.claim s src w).sh.tap = s.sh.tap ∧ (State.claim s src w).sh.gt = s.sh.gt := by
  unfold State.claim
  simp
  (repeat' split) <;> (try simp)

@[simp] theorem State.station_keep (s : State) (type : Nat) (src : Nat) (data : List Byte) (w : Nat) :
    (State.station s type src data w).pending = s.pending ∧ (State.station s type src data w).sh.grade = s.sh.grade ∧ (State.station s type src data w).sh.tap = s.sh.tap ∧ (State.station s type src data w).sh.gt = s.sh.gt := by
  unfold State.station
  (repeat' split) <;> (try simp)

@[simp] theorem State.ctrlRow_keep (s : State) (op : Nat) (n : Nat) (arg : Nat) (v : F32) :
    (State.ctrlRow s op n arg v).pending = s.pending ∧ (State.ctrlRow s op n arg v).sh.grade = s.sh.grade ∧ (State.ctrlRow s op n arg v).sh.tap = s.sh.tap ∧ (State.ctrlRow s op n arg v).sh.gt = s.sh.gt := by
  unfold State.ctrlRow
  simp

@[simp] theorem State.aoCmd_keep (s : State) (op : Nat) (n : Nat) (arg : Nat) (v : F32) :
    (State.aoCmd s op n arg v).pending = s.pending ∧ (State.aoCmd s op n arg v).sh.grade = s.sh.grade ∧ (State.aoCmd s op n arg v).sh.tap = s.sh.tap ∧ (State.aoCmd s op n arg v).sh.gt = s.sh.gt := by
  unfold State.aoCmd
  simp

@[simp] theorem State.aoRow_keep (s : State) (op : Nat) (n : Nat) (arg : Nat) (v : F32) :
    (State.aoRow s op n arg v).pending = s.pending ∧ (State.aoRow s op n arg v).sh.grade = s.sh.grade ∧ (State.aoRow s op n arg v).sh.tap = s.sh.tap ∧ (State.aoRow s op n arg v).sh.gt = s.sh.gt := by
  unfold State.aoRow
  simp

@[simp] theorem State.diTo_keep (t : Nat) (s : State) (n : Nat) :
    (State.diTo t s n).pending = s.pending ∧ (State.diTo t s n).sh.grade = s.sh.grade ∧ (State.diTo t s n).sh.tap = s.sh.tap ∧ (State.diTo t s n).sh.gt = s.sh.gt := by
  unfold State.diTo
  (repeat' split) <;> (try simp)

@[simp] theorem State.dioChange_keep (f : Shared → Shared) (hf : ∀ h, (f h).grade = h.grade ∧ (f h).tap = h.tap ∧ (f h).gt = h.gt) (s : State) :
    (State.dioChange f s).pending = s.pending ∧ (State.dioChange f s).sh.grade = s.sh.grade ∧ (State.dioChange f s).sh.tap = s.sh.tap ∧ (State.dioChange f s).sh.gt = s.sh.gt := by
  unfold State.dioChange
  simp [hf]

@[simp] theorem State.doEval_keep (s : State) :
    (State.doEval s).pending = s.pending ∧ (State.doEval s).sh.grade = s.sh.grade ∧ (State.doEval s).sh.tap = s.sh.tap ∧ (State.doEval s).sh.gt = s.sh.gt := by
  unfold State.doEval
  simp

@[simp] theorem State.dioSamples_keep (n : Nat) (s : State) :
    (State.dioSamples n s).pending = s.pending ∧ (State.dioSamples n s).sh.grade = s.sh.grade ∧ (State.dioSamples n s).sh.tap = s.sh.tap ∧ (State.dioSamples n s).sh.gt = s.sh.gt := by
  induction n generalizing s with
  | zero => simp [State.dioSamples]
  | succ n ih => simp [State.dioSamples, ih]

@[simp] theorem State.dioTo_keep (w : Nat) (s : State) :
    (State.dioTo w s).pending = s.pending ∧ (State.dioTo w s).sh.grade = s.sh.grade ∧ (State.dioTo w s).sh.tap = s.sh.tap ∧ (State.dioTo w s).sh.gt = s.sh.gt := by
  unfold State.dioTo
  dsimp only
  split <;> simp

@[simp] theorem State.dioEvent_keep (w : Nat) (f : Shared → Shared) (hf : ∀ h, (f h).grade = h.grade ∧ (f h).tap = h.tap ∧ (f h).gt = h.gt) (s : State) :
    (State.dioEvent w f s).pending = s.pending ∧ (State.dioEvent w f s).sh.grade = s.sh.grade ∧ (State.dioEvent w f s).sh.tap = s.sh.tap ∧ (State.dioEvent w f s).sh.gt = s.sh.gt := by
  unfold State.dioEvent
  simp [hf]

@[simp] theorem State.dioAll_keep (w : Nat) (s : State) :
    (State.dioAll w s).pending = s.pending ∧ (State.dioAll w s).sh.grade = s.sh.grade ∧ (State.dioAll w s).sh.tap = s.sh.tap ∧ (State.dioAll w s).sh.gt = s.sh.gt := by
  unfold State.dioAll
  simp

@[simp] theorem State.dioClose_keep (g : Nat) (s : State) :
    (State.dioClose g s).pending = s.pending ∧ (State.dioClose g s).sh.grade = s.sh.grade ∧ (State.dioClose g s).sh.tap = s.sh.tap ∧ (State.dioClose g s).sh.gt = s.sh.gt := by
  unfold State.dioClose
  simp

@[simp] theorem State.doBoundary_keep (rel : Option Word) (s : State) :
    (State.doBoundary rel s).pending = s.pending ∧ (State.doBoundary rel s).sh.grade = s.sh.grade ∧ (State.doBoundary rel s).sh.tap = s.sh.tap ∧ (State.doBoundary rel s).sh.gt = s.sh.gt := by
  unfold State.doBoundary
  simp

@[simp] theorem State.dioCmd_keep (s : State) (op : Nat) (n : Nat) (arg : Nat) :
    (State.dioCmd s op n arg).pending = s.pending ∧ (State.dioCmd s op n arg).sh.grade = s.sh.grade ∧ (State.dioCmd s op n arg).sh.tap = s.sh.tap ∧ (State.dioCmd s op n arg).sh.gt = s.sh.gt := by
  unfold State.dioCmd
  simp

@[simp] theorem State.dioRow_keep (s : State) (op : Nat) (n : Nat) (arg : Nat) :
    (State.dioRow s op n arg).pending = s.pending ∧ (State.dioRow s op n arg).sh.grade = s.sh.grade ∧ (State.dioRow s op n arg).sh.tap = s.sh.tap ∧ (State.dioRow s op n arg).sh.gt = s.sh.gt := by
  unfold State.dioRow
  simp

@[simp] theorem State.doProt_keep (s : State) (n : Nat) (t : Nat) (f : DoHw → DoHw) :
    (State.doProt s n t f).pending = s.pending ∧ (State.doProt s n t f).sh.grade = s.sh.grade ∧ (State.doProt s n t f).sh.tap = s.sh.tap ∧ (State.doProt s n t f).sh.gt = s.sh.gt := by
  unfold State.doProt
  simp

@[simp] theorem State.bankRow_keep (k : Nat) (vf : BitVec 16) (t : Nat) (s : State) :
    (State.bankRow k vf t s).pending = s.pending ∧ (State.bankRow k vf t s).sh.grade = s.sh.grade ∧ (State.bankRow k vf t s).sh.tap = s.sh.tap ∧ (State.bankRow k vf t s).sh.gt = s.sh.gt := by
  unfold State.bankRow
  simp

@[simp] theorem State.working_keep (s : State) (f : Lane → Lane) :
    (State.working s f).pending = s.pending ∧ (State.working s f).sh.grade = s.sh.grade ∧ (State.working s f).sh.tap = s.sh.tap ∧ (State.working s f).sh.gt = s.sh.gt := by
  unfold State.working
  simp

@[simp] theorem State.sysRec_keep (code : Nat) (p0 : Nat) (p1 : Nat) (p2 : Nat) (p3 : Nat) (s : State) (rank : Nat) :
    (State.sysRec code p0 p1 p2 p3 s rank).pending = s.pending ∧ (State.sysRec code p0 p1 p2 p3 s rank).sh.grade = s.sh.grade ∧ (State.sysRec code p0 p1 p2 p3 s rank).sh.tap = s.sh.tap ∧ (State.sysRec code p0 p1 p2 p3 s rank).sh.gt = s.sh.gt := by
  unfold State.sysRec
  (repeat' split) <;> (try simp)

@[simp] theorem State.storeSync_keep (s : State) :
    (State.storeSync s).pending = s.pending ∧ (State.storeSync s).sh.grade = s.sh.grade ∧ (State.storeSync s).sh.tap = s.sh.tap ∧ (State.storeSync s).sh.gt = s.sh.gt := by
  unfold State.storeSync
  simp

@[simp] theorem State.storeOutRec_keep (i : LaneId) (s : State) :
    (State.storeOutRec i s).pending = s.pending ∧ (State.storeOutRec i s).sh.grade = s.sh.grade ∧ (State.storeOutRec i s).sh.tap = s.sh.tap ∧ (State.storeOutRec i s).sh.gt = s.sh.gt := by
  unfold State.storeOutRec
  simp

@[simp] theorem State.commitEnd_keep (s : State) (i : LaneId) (ok : Bool) (stamp : Bool) :
    (State.commitEnd s i ok stamp).pending = s.pending ∧ (State.commitEnd s i ok stamp).sh.grade = s.sh.grade ∧ (State.commitEnd s i ok stamp).sh.tap = s.sh.tap ∧ (State.commitEnd s i ok stamp).sh.gt = s.sh.gt := by
  unfold State.commitEnd
  simp
  (repeat' split) <;> (try simp)

@[simp] theorem State.mirrorStart_keep (s : State) (i : LaneId) :
    (State.mirrorStart s i).pending = s.pending ∧ (State.mirrorStart s i).sh.grade = s.sh.grade ∧ (State.mirrorStart s i).sh.tap = s.sh.tap ∧ (State.mirrorStart s i).sh.gt = s.sh.gt := by
  unfold State.mirrorStart
  simp
  (repeat' split) <;> (try simp)

@[simp] theorem State.mirrorPacket_keep (s : State) (i : LaneId) :
    (State.mirrorPacket s i).pending = s.pending ∧ (State.mirrorPacket s i).sh.grade = s.sh.grade ∧ (State.mirrorPacket s i).sh.tap = s.sh.tap ∧ (State.mirrorPacket s i).sh.gt = s.sh.gt := by
  unfold State.mirrorPacket
  simp
  (repeat' split) <;> (try simp)

@[simp] theorem State.mirrorEnd_keep (s : State) :
    (State.mirrorEnd s).pending = s.pending ∧ (State.mirrorEnd s).sh.grade = s.sh.grade ∧ (State.mirrorEnd s).sh.tap = s.sh.tap ∧ (State.mirrorEnd s).sh.gt = s.sh.gt := by
  unfold State.mirrorEnd
  simp
  (repeat' split) <;> (try simp)

@[simp] theorem State.recRow_keep (s : State) (op : Nat) :
    (State.recRow s op).pending = s.pending ∧ (State.recRow s op).sh.grade = s.sh.grade ∧ (State.recRow s op).sh.tap = s.sh.tap ∧ (State.recRow s op).sh.gt = s.sh.gt := by
  unfold State.recRow
  simp

@[simp] theorem State.canSync_keep (s : State) :
    (State.canSync s).pending = s.pending ∧ (State.canSync s).sh.grade = s.sh.grade ∧ (State.canSync s).sh.tap = s.sh.tap ∧ (State.canSync s).sh.gt = s.sh.gt := by
  unfold State.canSync
  simp

@[simp] theorem State.canCmd_keep (s : State) (b : Nat) (op : Nat) (m : Nat) (arg : Nat) :
    (State.canCmd s b op m arg).pending = s.pending ∧ (State.canCmd s b op m arg).sh.grade = s.sh.grade ∧ (State.canCmd s b op m arg).sh.tap = s.sh.tap ∧ (State.canCmd s b op m arg).sh.gt = s.sh.gt := by
  unfold State.canCmd
  simp

@[simp] theorem State.canRow_keep (s : State) (b : Nat) (op : Nat) (m : Nat) (arg : Nat) :
    (State.canRow s b op m arg).pending = s.pending ∧ (State.canRow s b op m arg).sh.grade = s.sh.grade ∧ (State.canRow s b op m arg).sh.tap = s.sh.tap ∧ (State.canRow s b op m arg).sh.gt = s.sh.gt := by
  unfold State.canRow
  simp

@[simp] theorem State.rxLock_keep (a : Accessor) (i : LaneId) (b : Nat) (m : Nat) (t : Nat) (s : State) :
    (State.rxLock a i b m t s).pending = s.pending ∧ (State.rxLock a i b m t s).sh.grade = s.sh.grade ∧ (State.rxLock a i b m t s).sh.tap = s.sh.tap ∧ (State.rxLock a i b m t s).sh.gt = s.sh.gt := by
  unfold State.rxLock
  simp
  (repeat' split) <;> (try simp)

@[simp] theorem State.rxRelease_keep (a : Accessor) (i : LaneId) (b : Nat) (m : Nat) (s : State) :
    (State.rxRelease a i b m s).pending = s.pending ∧ (State.rxRelease a i b m s).sh.grade = s.sh.grade ∧ (State.rxRelease a i b m s).sh.tap = s.sh.tap ∧ (State.rxRelease a i b m s).sh.gt = s.sh.gt := by
  unfold State.rxRelease
  (repeat' split) <;> (try simp)

@[simp] theorem State.canIn_keep (s : State) (b : Nat) (f : FrameRep) :
    (State.canIn s b f).pending = s.pending ∧ (State.canIn s b f).sh.grade = s.sh.grade ∧ (State.canIn s b f).sh.tap = s.sh.tap ∧ (State.canIn s b f).sh.gt = s.sh.gt := by
  unfold State.canIn
  simp

@[simp] theorem State.txBegin_keep (s : State) (b : Nat) (who : TxWho) (t : Nat) :
    (State.txBegin s b who t).pending = s.pending ∧ (State.txBegin s b who t).sh.grade = s.sh.grade ∧ (State.txBegin s b who t).sh.tap = s.sh.tap ∧ (State.txBegin s b who t).sh.gt = s.sh.gt := by
  unfold State.txBegin
  simp
  (repeat' split) <;> (try simp)

@[simp] theorem State.crzCount_keep (was : Bool) (s : State) :
    (State.crzCount was s).pending = s.pending ∧ (State.crzCount was s).sh.grade = s.sh.grade ∧ (State.crzCount was s).sh.tap = s.sh.tap ∧ (State.crzCount was s).sh.gt = s.sh.gt := by
  unfold State.crzCount
  (repeat' split) <;> (try simp)

@[simp] theorem State.pnlReport_keep (s : State) (f : PnlCut → PnlCut) :
    (State.pnlReport s f).pending = s.pending ∧ (State.pnlReport s f).sh.grade = s.sh.grade ∧ (State.pnlReport s f).sh.tap = s.sh.tap ∧ (State.pnlReport s f).sh.gt = s.sh.gt := by
  unfold State.pnlReport
  simp

@[simp] theorem State.crzMeasure_keep (s : State) (res : Nat) (t : Nat) :
    (State.crzMeasure s res t).pending = s.pending ∧ (State.crzMeasure s res t).sh.grade = s.sh.grade ∧ (State.crzMeasure s res t).sh.tap = s.sh.tap ∧ (State.crzMeasure s res t).sh.gt = s.sh.gt := by
  unfold State.crzMeasure
  (repeat' split) <;> (try simp)

@[simp] theorem State.railFault_keep (s : State) (vcol : Bool) (v : Nat) (t : Nat) :
    (State.railFault s vcol v t).pending = s.pending ∧ (State.railFault s vcol v t).sh.grade = s.sh.grade ∧ (State.railFault s vcol v t).sh.tap = s.sh.tap ∧ (State.railFault s vcol v t).sh.gt = s.sh.gt := by
  unfold State.railFault
  simp
  (repeat' split) <;> (try simp)

@[simp] theorem State.railGood_keep (s : State) (vcol : Bool) (vneg : Nat) (vc : Nat) (t : Nat) :
    (State.railGood s vcol vneg vc t).pending = s.pending ∧ (State.railGood s vcol vneg vc t).sh.grade = s.sh.grade ∧ (State.railGood s vcol vneg vc t).sh.tap = s.sh.tap ∧ (State.railGood s vcol vneg vc t).sh.gt = s.sh.gt := by
  unfold State.railGood
  simp
  (repeat' split) <;> (try simp)

@[simp] theorem State.vcolDev_keep (s : State) (v : Nat) :
    (State.vcolDev s v).pending = s.pending ∧ (State.vcolDev s v).sh.grade = s.sh.grade ∧ (State.vcolDev s v).sh.tap = s.sh.tap ∧ (State.vcolDev s v).sh.gt = s.sh.gt := by
  unfold State.vcolDev
  simp
  (repeat' split) <;> (try simp)

@[simp] theorem State.railsDown_keep (s : State) (vneg : Nat) (vc : Nat) (t : Nat) :
    (State.railsDown s vneg vc t).pending = s.pending ∧ (State.railsDown s vneg vc t).sh.grade = s.sh.grade ∧ (State.railsDown s vneg vc t).sh.tap = s.sh.tap ∧ (State.railsDown s vneg vc t).sh.gt = s.sh.gt := by
  unfold State.railsDown
  simp
  (repeat' split) <;> (try simp)

@[simp] theorem State.pnlRow_keep (s : State) (op : Nat) (arg : Nat) :
    (State.pnlRow s op arg).pending = s.pending ∧ (State.pnlRow s op arg).sh.grade = s.sh.grade ∧ (State.pnlRow s op arg).sh.tap = s.sh.tap ∧ (State.pnlRow s op arg).sh.gt = s.sh.gt := by
  unfold State.pnlRow
  (repeat' split) <;> (try simp)

@[simp] theorem State.patchApply_keep (g : Nat) (s : State) :
    (State.patchApply g s).pending = s.pending ∧ (State.patchApply g s).sh.grade = s.sh.grade ∧ (State.patchApply g s).sh.tap = s.sh.tap ∧ (State.patchApply g s).sh.gt = s.sh.gt := by
  unfold State.patchApply
  simp
  (repeat' split) <;> (try simp)

@[simp] theorem State.stepSync_keep (s : State) :
    (State.stepSync s).pending = s.pending ∧ (State.stepSync s).sh.grade = s.sh.grade ∧ (State.stepSync s).sh.tap = s.sh.tap ∧ (State.stepSync s).sh.gt = s.sh.gt := by
  unfold State.stepSync
  simp

@[simp] theorem State.sysSync_keep (s : State) :
    (State.sysSync s).pending = s.pending ∧ (State.sysSync s).sh.grade = s.sh.grade ∧ (State.sysSync s).sh.tap = s.sh.tap ∧ (State.sysSync s).sh.gt = s.sh.gt := by
  unfold State.sysSync
  simp

@[simp] theorem State.laneEvent_keep (s : State) :
    (State.laneEvent s).pending = s.pending ∧ (State.laneEvent s).sh.grade = s.sh.grade ∧ (State.laneEvent s).sh.tap = s.sh.tap ∧ (State.laneEvent s).sh.gt = s.sh.gt := by
  unfold State.laneEvent
  simp

@[simp] theorem State.laneSay_keep (i : LaneId) (old : Lane) (row : Nat) (outcome : Nat) (s : State) :
    (State.laneSay i old row outcome s).pending = s.pending ∧ (State.laneSay i old row outcome s).sh.grade = s.sh.grade ∧ (State.laneSay i old row outcome s).sh.tap = s.sh.tap ∧ (State.laneSay i old row outcome s).sh.gt = s.sh.gt := by
  unfold State.laneSay
  simp

@[simp] theorem State.laneTo_keep (i : LaneId) (st : LaneSt) (instep : Bool) (row : Nat) (outcome : Nat) (s : State) :
    (State.laneTo i st instep row outcome s).pending = s.pending ∧ (State.laneTo i st instep row outcome s).sh.grade = s.sh.grade ∧ (State.laneTo i st instep row outcome s).sh.tap = s.sh.tap ∧ (State.laneTo i st instep row outcome s).sh.gt = s.sh.gt := by
  unfold State.laneTo
  simp
  (repeat' split) <;> (try simp)

@[simp] theorem State.authRestrict_keep (a : Option LaneId) (s : State) :
    (State.authRestrict a s).pending = s.pending ∧ (State.authRestrict a s).sh.grade = s.sh.grade ∧ (State.authRestrict a s).sh.tap = s.sh.tap ∧ (State.authRestrict a s).sh.gt = s.sh.gt := by
  unfold State.authRestrict
  (repeat' split) <;> (try simp)

@[simp] theorem State.setAuth_keep (a : Option LaneId) (s : State) :
    (State.setAuth a s).pending = s.pending ∧ (State.setAuth a s).sh.grade = s.sh.grade ∧ (State.setAuth a s).sh.tap = s.sh.tap ∧ (State.setAuth a s).sh.gt = s.sh.gt := by
  unfold State.setAuth
  simp

@[simp] theorem State.setHold_keep (v : Bool) (s : State) :
    (State.setHold v s).pending = s.pending ∧ (State.setHold v s).sh.grade = s.sh.grade ∧ (State.setHold v s).sh.tap = s.sh.tap ∧ (State.setHold v s).sh.gt = s.sh.gt := by
  unfold State.setHold
  simp

@[simp] theorem State.resetNext_keep (cause : Nat) (s : State) :
    (State.resetNext cause s).pending = s.pending ∧ (State.resetNext cause s).sh.grade = s.sh.grade ∧ (State.resetNext cause s).sh.tap = s.sh.tap ∧ (State.resetNext cause s).sh.gt = s.sh.gt := by
  unfold State.resetNext
  (repeat' split) <;> (try simp)

@[simp] theorem State.retire_keep (i : LaneId) (row : Nat) (outcome : Nat) (s : State) :
    (State.retire i row outcome s).pending = s.pending ∧ (State.retire i row outcome s).sh.grade = s.sh.grade ∧ (State.retire i row outcome s).sh.tap = s.sh.tap ∧ (State.retire i row outcome s).sh.gt = s.sh.gt := by
  unfold State.retire
  (repeat' split) <;> (try simp)

@[simp] theorem State.laneFault_keep (i : LaneId) (unit : Nat) (s : State) :
    (State.laneFault i unit s).pending = s.pending ∧ (State.laneFault i unit s).sh.grade = s.sh.grade ∧ (State.laneFault i unit s).sh.tap = s.sh.tap ∧ (State.laneFault i unit s).sh.gt = s.sh.gt := by
  unfold State.laneFault
  simp
  (repeat' split) <;> (try simp)

@[simp] theorem State.laneOff_keep (i : LaneId) (s : State) :
    (State.laneOff i s).pending = s.pending ∧ (State.laneOff i s).sh.grade = s.sh.grade ∧ (State.laneOff i s).sh.tap = s.sh.tap ∧ (State.laneOff i s).sh.gt = s.sh.gt := by
  unfold State.laneOff
  simp
  (repeat' split) <;> (try simp)

@[simp] theorem State.laneFire_keep (i : LaneId) (s : State) :
    (State.laneFire i s).pending = s.pending ∧ (State.laneFire i s).sh.grade = s.sh.grade ∧ (State.laneFire i s).sh.tap = s.sh.tap ∧ (State.laneFire i s).sh.gt = s.sh.gt := by
  unfold State.laneFire
  simp

@[simp] theorem State.rejoin_keep (i : LaneId) (s : State) :
    (State.rejoin i s).pending = s.pending ∧ (State.rejoin i s).sh.grade = s.sh.grade ∧ (State.rejoin i s).sh.tap = s.sh.tap ∧ (State.rejoin i s).sh.gt = s.sh.gt := by
  unfold State.rejoin
  simp

@[simp] theorem State.swap_keep (s : State) :
    (State.swap s).pending = s.pending ∧ (State.swap s).sh.grade = s.sh.grade ∧ (State.swap s).sh.tap = s.sh.tap ∧ (State.swap s).sh.gt = s.sh.gt := by
  unfold State.swap
  (repeat' split) <;> (try simp)

@[simp] theorem State.retireCmd_keep (i : LaneId) (s : State) :
    (State.retireCmd i s).pending = s.pending ∧ (State.retireCmd i s).sh.grade = s.sh.grade ∧ (State.retireCmd i s).sh.tap = s.sh.tap ∧ (State.retireCmd i s).sh.gt = s.sh.gt := by
  unfold State.retireCmd
  simp
  (repeat' split) <;> (try simp)

@[simp] theorem State.setUnres_keep (v : Bool) (s : State) :
    (State.setUnres v s).pending = s.pending ∧ (State.setUnres v s).sh.grade = s.sh.grade ∧ (State.setUnres v s).sh.tap = s.sh.tap ∧ (State.setUnres v s).sh.gt = s.sh.gt := by
  unfold State.setUnres
  simp

@[simp] theorem State.sysEffect_keep (s : State) (op : Nat) (i : LaneId) :
    (State.sysEffect s op i).pending = s.pending ∧ (State.sysEffect s op i).sh.grade = s.sh.grade ∧ (State.sysEffect s op i).sh.tap = s.sh.tap ∧ (State.sysEffect s op i).sh.gt = s.sh.gt := by
  unfold State.sysEffect
  (repeat' split) <;> (try simp)

@[simp] theorem State.sysCmd_keep (s : State) (op : Nat) (ln : Nat) :
    (State.sysCmd s op ln).pending = s.pending ∧ (State.sysCmd s op ln).sh.grade = s.sh.grade ∧ (State.sysCmd s op ln).sh.tap = s.sh.tap ∧ (State.sysCmd s op ln).sh.gt = s.sh.gt := by
  unfold State.sysCmd
  simp
  (repeat' split) <;> (try simp)

@[simp] theorem State.sysRow_keep (s : State) (op : Nat) (ln : Nat) :
    (State.sysRow s op ln).pending = s.pending ∧ (State.sysRow s op ln).sh.grade = s.sh.grade ∧ (State.sysRow s op ln).sh.tap = s.sh.tap ∧ (State.sysRow s op ln).sh.gt = s.sh.gt := by
  unfold State.sysRow
  simp

@[simp] theorem State.xClosed_keep (t : Nat) (s : State) :
    (State.xClosed t s).pending = s.pending ∧ (State.xClosed t s).sh.grade = s.sh.grade ∧ (State.xClosed t s).sh.tap = s.sh.tap ∧ (State.xClosed t s).sh.gt = s.sh.gt := by
  unfold State.xClosed
  simp

@[simp] theorem State.xOpen_keep (t : Nat) (s : State) :
    (State.xOpen t s).pending = s.pending ∧ (State.xOpen t s).sh.grade = s.sh.grade ∧ (State.xOpen t s).sh.tap = s.sh.tap ∧ (State.xOpen t s).sh.gt = s.sh.gt := by
  unfold State.xOpen
  simp

@[simp] theorem State.xProg_keep (s : State) :
    (State.xProg s).pending = s.pending ∧ (State.xProg s).sh.grade = s.sh.grade ∧ (State.xProg s).sh.tap = s.sh.tap ∧ (State.xProg s).sh.gt = s.sh.gt := by
  unfold State.xProg
  simp

@[simp] theorem State.progEnd_keep (ok : Bool) (s : State) :
    (State.progEnd ok s).pending = s.pending ∧ (State.progEnd ok s).sh.grade = s.sh.grade ∧ (State.progEnd ok s).sh.tap = s.sh.tap ∧ (State.progEnd ok s).sh.gt = s.sh.gt := by
  unfold State.progEnd
  simp
  (repeat' split) <;> (try simp)

@[simp] theorem State.checkEnd_keep (s : State) :
    (State.checkEnd s).pending = s.pending ∧ (State.checkEnd s).sh.grade = s.sh.grade ∧ (State.checkEnd s).sh.tap = s.sh.tap ∧ (State.checkEnd s).sh.gt = s.sh.gt := by
  unfold State.checkEnd
  (repeat' split) <;> (try simp)

@[simp] theorem State.xAbort_keep (s : State) :
    (State.xAbort s).pending = s.pending ∧ (State.xAbort s).sh.grade = s.sh.grade ∧ (State.xAbort s).sh.tap = s.sh.tap ∧ (State.xAbort s).sh.gt = s.sh.gt := by
  unfold State.xAbort
  simp

@[simp] theorem State.setPref_keep (v : Nat) (s : State) :
    (State.setPref v s).pending = s.pending ∧ (State.setPref v s).sh.grade = s.sh.grade ∧ (State.setPref v s).sh.tap = s.sh.tap ∧ (State.setPref v s).sh.gt = s.sh.gt := by
  unfold State.setPref
  simp

@[simp] theorem State.burnKey_keep (s : State) :
    (State.burnKey s).pending = s.pending ∧ (State.burnKey s).sh.grade = s.sh.grade ∧ (State.burnKey s).sh.tap = s.sh.tap ∧ (State.burnKey s).sh.gt = s.sh.gt := by
  unfold State.burnKey
  simp

@[simp] theorem State.burnAuth_keep (s : State) :
    (State.burnAuth s).pending = s.pending ∧ (State.burnAuth s).sh.grade = s.sh.grade ∧ (State.burnAuth s).sh.tap = s.sh.tap ∧ (State.burnAuth s).sh.gt = s.sh.gt := by
  unfold State.burnAuth
  simp

@[simp] theorem State.restart_keep (cause : Nat) (s : State) :
    (State.restart cause s).pending = s.pending ∧ (State.restart cause s).sh.grade = s.sh.grade ∧ (State.restart cause s).sh.tap = s.sh.tap ∧ (State.restart cause s).sh.gt = s.sh.gt := by
  unfold State.restart
  simp

@[simp] theorem State.cfgEffect_keep (s : State) (op : Nat) (arg : Nat) :
    (State.cfgEffect s op arg).pending = s.pending ∧ (State.cfgEffect s op arg).sh.grade = s.sh.grade ∧ (State.cfgEffect s op arg).sh.tap = s.sh.tap ∧ (State.cfgEffect s op arg).sh.gt = s.sh.gt := by
  unfold State.cfgEffect
  (repeat' split) <;> (try simp)

@[simp] theorem State.cfgCmd_keep (s : State) (op : Nat) (arg : Nat) :
    (State.cfgCmd s op arg).pending = s.pending ∧ (State.cfgCmd s op arg).sh.grade = s.sh.grade ∧ (State.cfgCmd s op arg).sh.tap = s.sh.tap ∧ (State.cfgCmd s op arg).sh.gt = s.sh.gt := by
  unfold State.cfgCmd
  simp
  (repeat' split) <;> (try simp)

@[simp] theorem State.cfgRow_keep (s : State) (op : Nat) (arg : Nat) :
    (State.cfgRow s op arg).pending = s.pending ∧ (State.cfgRow s op arg).sh.grade = s.sh.grade ∧ (State.cfgRow s op arg).sh.tap = s.sh.tap ∧ (State.cfgRow s op arg).sh.gt = s.sh.gt := by
  unfold State.cfgRow
  simp

@[simp] theorem State.resetBegin_keep (cause : Nat) (s : State) :
    (State.resetBegin cause s).pending = s.pending ∧ (State.resetBegin cause s).sh.grade = s.sh.grade ∧ (State.resetBegin cause s).sh.tap = s.sh.tap ∧ (State.resetBegin cause s).sh.gt = s.sh.gt := by
  unfold State.resetBegin
  simp

@[simp] theorem State.release_keep (s : State) :
    (State.release s).pending = s.pending ∧ (State.release s).sh.grade = s.sh.grade ∧ (State.release s).sh.tap = s.sh.tap := by
  unfold State.release
  simp
  (repeat' split) <;> (try simp)

@[simp] theorem State.addrRec_keep (a : Nat) (nsrc : Nat) (s : State) :
    (State.addrRec a nsrc s).pending = s.pending ∧ (State.addrRec a nsrc s).sh.grade = s.sh.grade ∧ (State.addrRec a nsrc s).sh.tap = s.sh.tap ∧ (State.addrRec a nsrc s).sh.gt = s.sh.gt := by
  unfold State.addrRec
  (repeat' split) <;> (try simp)

@[simp] theorem State.laneBisque_keep (i : LaneId) (s : State) :
    (State.laneBisque i s).pending = s.pending ∧ (State.laneBisque i s).sh.grade = s.sh.grade ∧ (State.laneBisque i s).sh.tap = s.sh.tap ∧ (State.laneBisque i s).sh.gt = s.sh.gt := by
  unfold State.laneBisque
  (repeat' split) <;> (try simp)

@[simp] theorem State.bisqueEnter_keep (reason : Nat) (s : State) :
    (State.bisqueEnter reason s).pending = s.pending ∧ (State.bisqueEnter reason s).sh.grade = s.sh.grade ∧ (State.bisqueEnter reason s).sh.tap = s.sh.tap ∧ (State.bisqueEnter reason s).sh.gt = s.sh.gt := by
  unfold State.bisqueEnter
  simp

@[simp] theorem State.strapSample_keep (straps : BitVec 15) (s : State) :
    (State.strapSample straps s).pending = s.pending ∧ (State.strapSample straps s).sh.grade = s.sh.grade ∧ (State.strapSample straps s).sh.tap = s.sh.tap ∧ (State.strapSample straps s).sh.gt = s.sh.gt := by
  unfold State.strapSample
  simp
  (repeat' split) <;> (try simp)

@[simp] theorem State.slotRejected_keep (i : LaneId) (x : Nat × RepEntry) (s : State) :
    (State.slotRejected i x s).pending = s.pending ∧ (State.slotRejected i x s).sh.grade = s.sh.grade ∧ (State.slotRejected i x s).sh.tap = s.sh.tap ∧ (State.slotRejected i x s).sh.gt = s.sh.gt := by
  unfold State.slotRejected
  (repeat' split) <;> (try simp)

@[simp] theorem State.fireDone_keep (i : LaneId) (r : FireRes) (s : State) :
    (State.fireDone i r s).pending = s.pending ∧ (State.fireDone i r s).sh.grade = s.sh.grade ∧ (State.fireDone i r s).sh.tap = s.sh.tap ∧ (State.fireDone i r s).sh.gt = s.sh.gt := by
  unfold State.fireDone
  simp
  (repeat' split) <;> (try simp)

@[simp] theorem State.fireOne_keep (s : State) (i : LaneId) :
    (State.fireOne s i).pending = s.pending ∧ (State.fireOne s i).sh.grade = s.sh.grade ∧ (State.fireOne s i).sh.tap = s.sh.tap ∧ (State.fireOne s i).sh.gt = s.sh.gt := by
  unfold State.fireOne
  (repeat' split) <;> (try simp)

@[simp] theorem State.fireAgree_keep (is : List LaneId) (s : State) :
    (State.fireAgree is s).pending = s.pending ∧ (State.fireAgree is s).sh.grade = s.sh.grade ∧ (State.fireAgree is s).sh.tap = s.sh.tap ∧ (State.fireAgree is s).sh.gt = s.sh.gt := by
  unfold State.fireAgree
  split
  · exact ⟨foldl_pending _ (by simp) _ _, foldl_sh_grade _ (by simp) _ _, foldl_sh_tap _ (by simp) _ _, foldl_sh_gt _ (by simp) _ _⟩
  · simp

@[simp] theorem State.fireMis_keep (s : State) :
    (State.fireMis s).pending = s.pending ∧ (State.fireMis s).sh.grade = s.sh.grade ∧ (State.fireMis s).sh.tap = s.sh.tap ∧ (State.fireMis s).sh.gt = s.sh.gt := by
  unfold State.fireMis
  simp

@[simp] theorem State.misRec_keep (attempt : Nat) (gone : Nat) (s : State) :
    (State.misRec attempt gone s).pending = s.pending ∧ (State.misRec attempt gone s).sh.grade = s.sh.grade ∧ (State.misRec attempt gone s).sh.tap = s.sh.tap ∧ (State.misRec attempt gone s).sh.gt = s.sh.gt := by
  unfold State.misRec
  simp

@[simp] theorem State.fireSettle_keep (i : LaneId) (r : FireRes) (s : State) :
    (State.fireSettle i r s).pending = s.pending ∧ (State.fireSettle i r s).sh.grade = s.sh.grade ∧ (State.fireSettle i r s).sh.tap = s.sh.tap ∧ (State.fireSettle i r s).sh.gt = s.sh.gt := by
  unfold State.fireSettle
  simp
  (repeat' split) <;> (try simp)

@[simp] theorem State.firingComplete_keep (i : LaneId) (s : State) :
    (State.firingComplete i s).pending = s.pending ∧ (State.firingComplete i s).sh.grade = s.sh.grade ∧ (State.firingComplete i s).sh.tap = s.sh.tap ∧ (State.firingComplete i s).sh.gt = s.sh.gt := by
  unfold State.firingComplete
  simp
  (repeat' split) <;> (try simp)

@[simp] theorem State.firingCompare_keep (pa : Bool) (pb : Bool) (s : State) :
    (State.firingCompare pa pb s).pending = s.pending ∧ (State.firingCompare pa pb s).sh.grade = s.sh.grade ∧ (State.firingCompare pa pb s).sh.tap = s.sh.tap ∧ (State.firingCompare pa pb s).sh.gt = s.sh.gt := by
  unfold State.firingCompare
  (repeat' split) <;> (try simp)

@[simp] theorem State.stepSix_keep (s : State) :
    (State.stepSix s).pending = s.pending ∧ (State.stepSix s).sh.grade = s.sh.grade ∧ (State.stepSix s).sh.tap = s.sh.tap ∧ (State.stepSix s).sh.gt = s.sh.gt := by
  unfold State.stepSix
  simp

@[simp] theorem State.waitEnd_keep (s : State) :
    (State.waitEnd s).pending = s.pending ∧ (State.waitEnd s).sh.grade = s.sh.grade ∧ (State.waitEnd s).sh.tap = s.sh.tap ∧ (State.waitEnd s).sh.gt = s.sh.gt := by
  unfold State.waitEnd
  simp
  (repeat' split) <;> (try simp)

@[simp] theorem State.runReached_keep (s : State) :
    (State.runReached s).pending = s.pending ∧ (State.runReached s).sh.grade = s.sh.grade ∧ (State.runReached s).sh.tap = s.sh.tap ∧ (State.runReached s).sh.gt = s.sh.gt := by
  unfold State.runReached
  simp

@[simp] theorem State.phaseStable_keep (s : State) :
    (State.phaseStable s).pending = s.pending ∧ (State.phaseStable s).sh.grade = s.sh.grade ∧ (State.phaseStable s).sh.tap = s.sh.tap ∧ (State.phaseStable s).sh.gt = s.sh.gt := by
  unfold State.phaseStable
  simp
  (repeat' split) <;> (try simp)

@[simp] theorem State.failsCleared_keep (s : State) :
    (State.failsCleared s).pending = s.pending ∧ (State.failsCleared s).sh.grade = s.sh.grade ∧ (State.failsCleared s).sh.tap = s.sh.tap ∧ (State.failsCleared s).sh.gt = s.sh.gt := by
  unfold State.failsCleared
  simp
  (repeat' split) <;> (try simp)

@[simp] theorem State.deadline_keep (s : State) :
    (State.deadline s).pending = s.pending ∧ (State.deadline s).sh.grade = s.sh.grade ∧ (State.deadline s).sh.tap = s.sh.tap ∧ (State.deadline s).sh.gt = s.sh.gt := by
  unfold State.deadline
  simp
  (repeat' split) <;> (try simp)

@[simp] theorem State.stxBegin_keep (s : State) :
    (State.stxBegin s).pending = s.pending ∧ (State.stxBegin s).sh.grade = s.sh.grade ∧ (State.stxBegin s).sh.tap = s.sh.tap ∧ (State.stxBegin s).sh.gt = s.sh.gt := by
  unfold State.stxBegin
  simp
  (repeat' split) <;> (try simp)

@[simp] theorem State.stxRetry_keep (s : State) :
    (State.stxRetry s).pending = s.pending ∧ (State.stxRetry s).sh.grade = s.sh.grade ∧ (State.stxRetry s).sh.tap = s.sh.tap ∧ (State.stxRetry s).sh.gt = s.sh.gt := by
  unfold State.stxRetry
  (repeat' split) <;> (try simp)

@[simp] theorem State.stxTimeout_keep (s : State) :
    (State.stxTimeout s).pending = s.pending ∧ (State.stxTimeout s).sh.grade = s.sh.grade ∧ (State.stxTimeout s).sh.tap = s.sh.tap ∧ (State.stxTimeout s).sh.gt = s.sh.gt := by
  unfold State.stxTimeout
  (repeat' split) <;> (try simp)

@[simp] theorem State.beaconQueue_keep (s : State) :
    (State.beaconQueue s).pending = s.pending ∧ (State.beaconQueue s).sh.grade = s.sh.grade ∧ (State.beaconQueue s).sh.tap = s.sh.tap ∧ (State.beaconQueue s).sh.gt = s.sh.gt := by
  unfold State.beaconQueue
  (repeat' split) <;> (try simp)

@[simp] theorem State.drainDone_keep (s : State) :
    (State.drainDone s).pending = s.pending ∧ (State.drainDone s).sh.grade = s.sh.grade ∧ (State.drainDone s).sh.tap = s.sh.tap ∧ (State.drainDone s).sh.gt = s.sh.gt := by
  unfold State.drainDone
  simp
  (repeat' split) <;> (try simp)

@[simp] theorem State.modCmd_keep (s : State) (op : Nat) (arg : Nat) (origin : Nat) :
    (State.modCmd s op arg origin).pending = s.pending ∧ (State.modCmd s op arg origin).sh.grade = s.sh.grade ∧ (State.modCmd s op arg origin).sh.tap = s.sh.tap ∧ (State.modCmd s op arg origin).sh.gt = s.sh.gt := by
  unfold State.modCmd
  simp
  (repeat' split) <;> (try simp)

@[simp] theorem State.told_keep (s : State) (f : Lane → Lane) :
    (State.told s f).pending = s.pending ∧ (State.told s f).sh.grade = s.sh.grade ∧ (State.told s f).sh.tap = s.sh.tap ∧ (State.told s f).sh.gt = s.sh.gt := by
  unfold State.told
  simp

@[simp] theorem State.pwrRec_keep (code : Nat) (p0 : Nat) (p1 : Nat) (p2 : Nat) (p3 : Nat) (s : State) :
    (State.pwrRec code p0 p1 p2 p3 s).pending = s.pending ∧ (State.pwrRec code p0 p1 p2 p3 s).sh.grade = s.sh.grade ∧ (State.pwrRec code p0 p1 p2 p3 s).sh.tap = s.sh.tap ∧ (State.pwrRec code p0 p1 p2 p3 s).sh.gt = s.sh.gt := by
  unfold State.pwrRec
  simp
  (repeat' split) <;> (try simp)

@[simp] theorem State.storeOff_keep (i : LaneId) (s : State) :
    (State.storeOff i s).pending = s.pending ∧ (State.storeOff i s).sh.grade = s.sh.grade ∧ (State.storeOff i s).sh.tap = s.sh.tap ∧ (State.storeOff i s).sh.gt = s.sh.gt := by
  unfold State.storeOff
  split <;> simp

@[simp] theorem State.storeOn_keep (i : LaneId) (s : State) :
    (State.storeOn i s).pending = s.pending ∧ (State.storeOn i s).sh.grade = s.sh.grade ∧ (State.storeOn i s).sh.tap = s.sh.tap ∧ (State.storeOn i s).sh.gt = s.sh.gt := by
  unfold State.storeOn
  simp
  (repeat' split) <;> (try simp)

@[simp] theorem State.domainOff_keep (d : Nat) (t : Nat) (s : State) :
    (State.domainOff d t s).pending = s.pending ∧ (State.domainOff d t s).sh.grade = s.sh.grade ∧ (State.domainOff d t s).sh.tap = s.sh.tap ∧ (State.domainOff d t s).sh.gt = s.sh.gt := by
  unfold State.domainOff
  (repeat' split) <;> (try simp)

@[simp] theorem State.commReset_keep (s : State) :
    (State.commReset s).pending = s.pending ∧ (State.commReset s).sh.grade = s.sh.grade ∧ (State.commReset s).sh.tap = s.sh.tap ∧ (State.commReset s).sh.gt = s.sh.gt := by
  unfold State.commReset
  simp

@[simp] theorem State.domainOn_keep (d : Nat) (t : Nat) (s : State) :
    (State.domainOn d t s).pending = s.pending ∧ (State.domainOn d t s).sh.grade = s.sh.grade ∧ (State.domainOn d t s).sh.tap = s.sh.tap ∧ (State.domainOn d t s).sh.gt = s.sh.gt := by
  unfold State.domainOn
  simp
  (repeat' split) <;> (try simp)

@[simp] theorem State.domainFault_keep (d : Nat) (cause : Nat) (t : Nat) (s : State) :
    (State.domainFault d cause t s).pending = s.pending ∧ (State.domainFault d cause t s).sh.grade = s.sh.grade ∧ (State.domainFault d cause t s).sh.tap = s.sh.tap ∧ (State.domainFault d cause t s).sh.gt = s.sh.gt := by
  unfold State.domainFault
  (repeat' split) <;> (try simp)

@[simp] theorem State.switchOn_keep (d : Nat) (good : Bool) (s : State) :
    (State.switchOn d good s).pending = s.pending ∧ (State.switchOn d good s).sh.grade = s.sh.grade ∧ (State.switchOn d good s).sh.tap = s.sh.tap ∧ (State.switchOn d good s).sh.gt = s.sh.gt := by
  unfold State.switchOn
  simp
  (repeat' split) <;> (try simp)

@[simp] theorem State.domainRetry_keep (d : Nat) (good : Bool) (t : Nat) (s : State) :
    (State.domainRetry d good t s).pending = s.pending ∧ (State.domainRetry d good t s).sh.grade = s.sh.grade ∧ (State.domainRetry d good t s).sh.tap = s.sh.tap ∧ (State.domainRetry d good t s).sh.gt = s.sh.gt := by
  unfold State.domainRetry
  simp
  (repeat' split) <;> (try simp)

@[simp] theorem State.tripOff_keep (t : Nat) (s : State) (d : Nat) :
    (State.tripOff t s d).pending = s.pending ∧ (State.tripOff t s d).sh.grade = s.sh.grade ∧ (State.tripOff t s d).sh.tap = s.sh.tap ∧ (State.tripOff t s d).sh.gt = s.sh.gt := by
  unfold State.tripOff
  split <;> simp

@[simp] theorem State.powerTrip_keep (t : Nat) (s : State) :
    (State.powerTrip t s).pending = s.pending ∧ (State.powerTrip t s).sh.grade = s.sh.grade ∧ (State.powerTrip t s).sh.tap = s.sh.tap ∧ (State.powerTrip t s).sh.gt = s.sh.gt := by
  unfold State.powerTrip
  simp
  (repeat' split) <;> (try simp)

@[simp] theorem State.vsysLost_keep (v : Nat) (t : Nat) (s : State) :
    (State.vsysLost v t s).pending = s.pending ∧ (State.vsysLost v t s).sh.grade = s.sh.grade ∧ (State.vsysLost v t s).sh.tap = s.sh.tap ∧ (State.vsysLost v t s).sh.gt = s.sh.gt := by
  unfold State.vsysLost
  simp
  (repeat' split) <;> (try simp)

@[simp] theorem State.vsysBack_keep (v : Nat) (t : Nat) (s : State) :
    (State.vsysBack v t s).pending = s.pending ∧ (State.vsysBack v t s).sh.grade = s.sh.grade ∧ (State.vsysBack v t s).sh.tap = s.sh.tap ∧ (State.vsysBack v t s).sh.gt = s.sh.gt := by
  unfold State.vsysBack
  (repeat' split) <;> (try simp)

@[simp] theorem State.supFlag_keep (f : Fld) (v : Bool) (code : Nat) (p0 : Nat) (p1 : Nat) (p2 : Nat) (s : State) :
    (State.supFlag f v code p0 p1 p2 s).pending = s.pending ∧ (State.supFlag f v code p0 p1 p2 s).sh.grade = s.sh.grade ∧ (State.supFlag f v code p0 p1 p2 s).sh.tap = s.sh.tap ∧ (State.supFlag f v code p0 p1 p2 s).sh.gt = s.sh.gt := by
  unfold State.supFlag
  (repeat' split) <;> (try simp)

@[simp] theorem State.holdOk_keep (v : Bool) (vhold : Nat) (s : State) :
    (State.holdOk v vhold s).pending = s.pending ∧ (State.holdOk v vhold s).sh.grade = s.sh.grade ∧ (State.holdOk v vhold s).sh.tap = s.sh.tap ∧ (State.holdOk v vhold s).sh.gt = s.sh.gt := by
  unfold State.holdOk
  (repeat' split) <;> (try simp)

@[simp] theorem State.capacitance_keep (c : Nat) (s : State) :
    (State.capacitance c s).pending = s.pending ∧ (State.capacitance c s).sh.grade = s.sh.grade ∧ (State.capacitance c s).sh.tap = s.sh.tap ∧ (State.capacitance c s).sh.gt = s.sh.gt := by
  unfold State.capacitance
  simp

@[simp] theorem State.tileSupply_keep (t : Nat) (s : State) :
    (State.tileSupply t s).pending = s.pending ∧ (State.tileSupply t s).sh.grade = s.sh.grade ∧ (State.tileSupply t s).sh.tap = s.sh.tap ∧ (State.tileSupply t s).sh.gt = s.sh.gt := by
  unfold State.tileSupply
  (repeat' split) <;> (try simp)

@[simp] theorem State.refLoss_keep (m : Fin 3) (s : State) :
    (State.refLoss m s).pending = s.pending ∧ (State.refLoss m s).sh.grade = s.sh.grade ∧ (State.refLoss m s).sh.tap = s.sh.tap ∧ (State.refLoss m s).sh.gt = s.sh.gt := by
  unfold State.refLoss
  (repeat' split) <;> (try simp)

@[simp] theorem State.stallLane_keep (i : LaneId) (bus : Nat) (link : Nat) (s : State) :
    (State.stallLane i bus link s).pending = s.pending ∧ (State.stallLane i bus link s).sh.grade = s.sh.grade ∧ (State.stallLane i bus link s).sh.tap = s.sh.tap ∧ (State.stallLane i bus link s).sh.gt = s.sh.gt := by
  unfold State.stallLane
  (repeat' split) <;> (try simp)

@[simp] theorem State.stallHouse_keep (i : LaneId) (link : Nat) (t : Nat) (s : State) :
    (State.stallHouse i link t s).pending = s.pending ∧ (State.stallHouse i link t s).sh.grade = s.sh.grade ∧ (State.stallHouse i link t s).sh.tap = s.sh.tap ∧ (State.stallHouse i link t s).sh.gt = s.sh.gt := by
  unfold State.stallHouse
  simp
  (repeat' split) <;> (try simp)

@[simp] theorem State.corrSync_keep (s : State) :
    (State.corrSync s).pending = s.pending ∧ (State.corrSync s).sh.grade = s.sh.grade ∧ (State.corrSync s).sh.tap = s.sh.tap ∧ (State.corrSync s).sh.gt = s.sh.gt := by
  unfold State.corrSync
  simp

@[simp] theorem State.clkSync_keep (s : State) :
    (State.clkSync s).pending = s.pending ∧ (State.clkSync s).sh.grade = s.sh.grade ∧ (State.clkSync s).sh.tap = s.sh.tap ∧ (State.clkSync s).sh.gt = s.sh.gt := by
  unfold State.clkSync
  simp

@[simp] theorem State.tripSync_keep (s : State) :
    (State.tripSync s).pending = s.pending ∧ (State.tripSync s).sh.grade = s.sh.grade ∧ (State.tripSync s).sh.tap = s.sh.tap ∧ (State.tripSync s).sh.gt = s.sh.gt := by
  unfold State.tripSync
  simp
  (repeat' split) <;> (try simp)

@[simp] theorem State.memFault_keep (i : LaneId) (b : Nat) (w : Nat) (acc : Nat) (kind : Nat) (s : State) :
    (State.memFault i b w acc kind s).pending = s.pending ∧ (State.memFault i b w acc kind s).sh.grade = s.sh.grade ∧ (State.memFault i b w acc kind s).sh.tap = s.sh.tap ∧ (State.memFault i b w acc kind s).sh.gt = s.sh.gt := by
  unfold State.memFault
  simp
  (repeat' split) <;> (try simp)

@[simp] theorem State.bankRead_keep (i : LaneId) (b : Nat) (o : Nat) (s : State) :
    (State.bankRead i b o s).2.pending = s.pending ∧ (State.bankRead i b o s).2.sh.grade = s.sh.grade ∧ (State.bankRead i b o s).2.sh.tap = s.sh.tap ∧ (State.bankRead i b o s).2.sh.gt = s.sh.gt := by
  unfold State.bankRead
  simp
  (repeat' split) <;> (try simp)

@[simp] theorem State.scrub_keep (i : LaneId) (res : Fin 4) (t : Nat) (s : State) :
    (State.scrub i res t s).pending = s.pending ∧ (State.scrub i res t s).sh.grade = s.sh.grade ∧ (State.scrub i res t s).sh.tap = s.sh.tap ∧ (State.scrub i res t s).sh.gt = s.sh.gt := by
  unfold State.scrub
  simp
  (repeat' split) <;> (try simp)

@[simp] theorem State.setBank_keep (v : View) (b : Nat) (s : State) :
    (State.setBank v b s).pending = s.pending ∧ (State.setBank v b s).sh.grade = s.sh.grade ∧ (State.setBank v b s).sh.tap = s.sh.tap ∧ (State.setBank v b s).sh.gt = s.sh.gt := by
  unfold State.setBank
  (repeat' split) <;> (try simp)

@[simp] theorem State.command_keep (k : Nat) (v : Word) (s : State) :
    (State.command k v s).pending = s.pending ∧ (State.command k v s).sh.grade = s.sh.grade ∧ (State.command k v s).sh.tap = s.sh.tap ∧ (State.command k v s).sh.gt = s.sh.gt := by
  unfold State.command
  (repeat' split) <;> (try simp)

@[simp] theorem State.accept_keep (k : Nat) (v : Word) (acc : Nat) (cnp : Bool) (s : State) :
    (State.accept k v acc cnp s).pending = s.pending ∧ (State.accept k v acc cnp s).sh.grade = s.sh.grade ∧ (State.accept k v acc cnp s).sh.tap = s.sh.tap ∧ (State.accept k v acc cnp s).sh.gt = s.sh.gt := by
  unfold State.accept
  (repeat' split) <;> (try simp)

@[simp] theorem State.writesTo_keep (i : LaneId) (s : State) :
    (State.writesTo i s).pending = s.pending ∧ (State.writesTo i s).sh.grade = s.sh.grade ∧ (State.writesTo i s).sh.tap = s.sh.tap ∧ (State.writesTo i s).sh.gt = s.sh.gt := by
  unfold State.writesTo
  dsimp only
  (repeat' split) <;> (try simp_all)

@[simp] theorem State.writeEffect_keep (s : State) (p : PendWrite) :
    (State.writeEffect s p).pending = s.pending ∧ (State.writeEffect s p).sh.grade = s.sh.grade ∧ (State.writeEffect s p).sh.tap = s.sh.tap ∧ (State.writeEffect s p).sh.gt = s.sh.gt := by
  unfold State.writeEffect
  (repeat' split) <;> (try simp)

@[simp] theorem State.applyWrites_keep (g : Nat) (s : State) :
    (State.applyWrites g s).pending = s.pending ∧ (State.applyWrites g s).sh.grade = s.sh.grade ∧ (State.applyWrites g s).sh.tap = s.sh.tap ∧ (State.applyWrites g s).sh.gt = s.sh.gt := by
  unfold State.applyWrites
  simp

@[simp] theorem State.takeEarly_keep (first : Bool) (s : State) :
    (State.takeEarly first s).pending = s.pending ∧ (State.takeEarly first s).sh.grade = s.sh.grade ∧ (State.takeEarly first s).sh.tap = s.sh.tap ∧ (State.takeEarly first s).sh.gt = s.sh.gt := by
  unfold State.takeEarly
  simp
  (repeat' split) <;> (try simp)

@[simp] theorem State.opening_keep (h : Shared) (o : Obs) (s : State) :
    (State.opening h o s).pending = s.pending ∧ (State.opening h o s).sh.grade = s.sh.grade ∧ (State.opening h o s).sh.tap = s.sh.tap ∧ (State.opening h o s).sh.gt = s.sh.gt := by
  unfold State.opening
  (repeat' split) <;> (try simp)

@[simp] theorem State.released_keep (old : RegFile) (s : State) :
    (State.released old s).pending = s.pending ∧ (State.released old s).sh.grade = s.sh.grade ∧ (State.released old s).sh.tap = s.sh.tap ∧ (State.released old s).sh.gt = s.sh.gt := by
  unfold State.released
  simp

@[simp] theorem State.releaseSolo_keep (g : Nat) (s : State) :
    (State.releaseSolo g s).pending = s.pending ∧ (State.releaseSolo g s).sh.grade = s.sh.grade ∧ (State.releaseSolo g s).sh.tap = s.sh.tap ∧ (State.releaseSolo g s).sh.gt = s.sh.gt := by
  unfold State.releaseSolo
  simp
  (repeat' split) <;> (try simp)

@[simp] theorem State.releaseMatch_keep (g : Nat) (s : State) :
    (State.releaseMatch g s).pending = s.pending ∧ (State.releaseMatch g s).sh.grade = s.sh.grade ∧ (State.releaseMatch g s).sh.tap = s.sh.tap ∧ (State.releaseMatch g s).sh.gt = s.sh.gt := by
  unfold State.releaseMatch
  simp

@[simp] theorem State.linkLost_keep (i : LaneId) (s : State) :
    (State.linkLost i s).pending = s.pending ∧ (State.linkLost i s).sh.grade = s.sh.grade ∧ (State.linkLost i s).sh.tap = s.sh.tap ∧ (State.linkLost i s).sh.gt = s.sh.gt := by
  unfold State.linkLost
  simp
  (repeat' split) <;> (try simp)

@[simp] theorem State.packetBad_keep (i : LaneId) (ty : Nat) (err : Nat) (s : State) :
    (State.packetBad i ty err s).pending = s.pending ∧ (State.packetBad i ty err s).sh.grade = s.sh.grade ∧ (State.packetBad i ty err s).sh.tap = s.sh.tap ∧ (State.packetBad i ty err s).sh.gt = s.sh.gt := by
  unfold State.packetBad
  simp
  (repeat' split) <;> (try simp)

@[simp] theorem State.packet_keep (i : LaneId) (ty : Nat) (err : Fin 3) (f : State → State)
    (hf : (∀ s, (f s).pending = s.pending ∧ (f s).sh.grade = s.sh.grade ∧ (f s).sh.tap = s.sh.tap ∧ (f s).sh.gt = s.sh.gt)) (s : State) :
    (State.packet i ty err f s).pending = s.pending ∧ (State.packet i ty err f s).sh.grade = s.sh.grade ∧ (State.packet i ty err f s).sh.tap = s.sh.tap ∧ (State.packet i ty err f s).sh.gt = s.sh.gt := by
  unfold State.packet
  (repeat' split) <;> (try simp [hf])

@[simp] theorem State.idlePacket_keep (i : LaneId) (err : Fin 3) (s : State) :
    (State.idlePacket i err s).pending = s.pending ∧ (State.idlePacket i err s).sh.grade = s.sh.grade ∧ (State.idlePacket i err s).sh.tap = s.sh.tap ∧ (State.idlePacket i err s).sh.gt = s.sh.gt := by
  unfold State.idlePacket
  (repeat' split) <;> (try simp)

@[simp] theorem State.wordsTo_keep (i : LaneId) (s : State) :
    (State.wordsTo i s).pending = s.pending ∧ (State.wordsTo i s).sh.grade = s.sh.grade ∧ (State.wordsTo i s).sh.tap = s.sh.tap ∧ (State.wordsTo i s).sh.gt = s.sh.gt := by
  unfold State.wordsTo
  simp
  (repeat' split) <;> (try simp)

@[simp] theorem State.wordPacket_keep (i : LaneId) (delay : Nat) (s : State) :
    (State.wordPacket i delay s).pending = s.pending ∧ (State.wordPacket i delay s).sh.grade = s.sh.grade ∧ (State.wordPacket i delay s).sh.tap = s.sh.tap ∧ (State.wordPacket i delay s).sh.gt = s.sh.gt := by
  unfold State.wordPacket
  simp

@[simp] theorem State.confirm_keep (i : LaneId) (s : State) :
    (State.confirm i s).pending = s.pending ∧ (State.confirm i s).sh.grade = s.sh.grade ∧ (State.confirm i s).sh.tap = s.sh.tap ∧ (State.confirm i s).sh.gt = s.sh.gt := by
  unfold State.confirm
  simp

@[simp] theorem State.writesLost_keep (i : LaneId) (s : State) :
    (State.writesLost i s).pending = s.pending ∧ (State.writesLost i s).sh.grade = s.sh.grade ∧ (State.writesLost i s).sh.tap = s.sh.tap ∧ (State.writesLost i s).sh.gt = s.sh.gt := by
  unfold State.writesLost
  simp
  (repeat' split) <;> (try simp)

@[simp] theorem State.goneWrites_keep (i : LaneId) (s : State) :
    (State.goneWrites i s).pending = s.pending ∧ (State.goneWrites i s).sh.grade = s.sh.grade ∧ (State.goneWrites i s).sh.tap = s.sh.tap ∧ (State.goneWrites i s).sh.gt = s.sh.gt := by
  unfold State.goneWrites
  (repeat' split) <;> (try simp)

@[simp] theorem State.linkDrain_keep (s : State) :
    (State.linkDrain s).pending = s.pending ∧ (State.linkDrain s).sh.grade = s.sh.grade ∧ (State.linkDrain s).sh.tap = s.sh.tap ∧ (State.linkDrain s).sh.gt = s.sh.gt := by
  unfold State.linkDrain
  (repeat' split) <;> (try simp)

@[simp] theorem State.adjEnter_keep (g : Nat) (ra : Nat) (rb : Nat) (pa : DigPkt) (pb : DigPkt) (qa : Option DigPkt) (qb : Option DigPkt) (s : State) :
    (State.adjEnter g ra rb pa pb qa qb s).pending = s.pending ∧ (State.adjEnter g ra rb pa pb qa qb s).sh.grade = s.sh.grade ∧ (State.adjEnter g ra rb pa pb qa qb s).sh.tap = s.sh.tap ∧ (State.adjEnter g ra rb pa pb qa qb s).sh.gt = s.sh.gt := by
  unfold State.adjEnter
  simp
  (repeat' split) <;> (try simp)

@[simp] theorem State.compare_keep (g : Nat) (s : State) :
    (State.compare g s).pending = s.pending ∧ (State.compare g s).sh.grade = s.sh.grade ∧ (State.compare g s).sh.tap = s.sh.tap ∧ (State.compare g s).sh.gt = s.sh.gt := by
  unfold State.compare
  simp
  (repeat' split) <;> (try simp)

@[simp] theorem State.verdictCopy_keep (i : LaneId) (s : State) :
    (State.verdictCopy i s).pending = s.pending ∧ (State.verdictCopy i s).sh.grade = s.sh.grade ∧ (State.verdictCopy i s).sh.tap = s.sh.tap ∧ (State.verdictCopy i s).sh.gt = s.sh.gt := by
  unfold State.verdictCopy
  simp

@[simp] theorem State.openKept_keep (s : State) :
    (State.openKept s).pending = s.pending ∧ (State.openKept s).sh.grade = s.sh.grade ∧ (State.openKept s).sh.tap = s.sh.tap ∧ (State.openKept s).sh.gt = s.sh.gt := by
  unfold State.openKept
  (repeat' split) <;> (try simp)

@[simp] theorem State.retain_keep (i : LaneId) (p2 : Word) (p3 : Word) (outcome : Nat) (s : State) :
    (State.retain i p2 p3 outcome s).pending = s.pending ∧ (State.retain i p2 p3 outcome s).sh.grade = s.sh.grade ∧ (State.retain i p2 p3 outcome s).sh.tap = s.sh.tap ∧ (State.retain i p2 p3 outcome s).sh.gt = s.sh.gt := by
  unfold State.retain
  simp

@[simp] theorem State.adjudicate_keep (i : LaneId) (s : State) :
    (State.adjudicate i s).pending = s.pending ∧ (State.adjudicate i s).sh.grade = s.sh.grade ∧ (State.adjudicate i s).sh.tap = s.sh.tap ∧ (State.adjudicate i s).sh.gt = s.sh.gt := by
  unfold State.adjudicate
  simp
  (repeat' split) <;> (try simp)

@[simp] theorem State.outcome_keep (s : State) :
    (State.outcome s).pending = s.pending ∧ (State.outcome s).sh.grade = s.sh.grade ∧ (State.outcome s).sh.tap = s.sh.tap ∧ (State.outcome s).sh.gt = s.sh.gt := by
  unfold State.outcome
  (repeat' split) <;> (try simp)

@[simp] theorem State.join_keep (s : State) :
    (State.join s).pending = s.pending ∧ (State.join s).sh.grade = s.sh.grade ∧ (State.join s).sh.tap = s.sh.tap ∧ (State.join s).sh.gt = s.sh.gt := by
  unfold State.join
  (repeat' split) <;> (try simp)

@[simp] theorem State.statePacket_keep (i : LaneId) (page : Option Nat) (last : Bool) (s : State) :
    (State.statePacket i page last s).pending = s.pending ∧ (State.statePacket i page last s).sh.grade = s.sh.grade ∧ (State.statePacket i page last s).sh.tap = s.sh.tap ∧ (State.statePacket i page last s).sh.gt = s.sh.gt := by
  unfold State.statePacket
  (repeat' split) <;> (try simp)

@[simp] theorem State.closeLanes_keep (o : Obs) (s : State) :
    (State.closeLanes o s).pending = s.pending ∧ (State.closeLanes o s).sh.grade = s.sh.grade ∧ (State.closeLanes o s).sh.tap = s.sh.tap ∧ (State.closeLanes o s).sh.gt = s.sh.gt := by
  unfold State.closeLanes
  simp
  (repeat' split) <;> (try simp)

@[simp] theorem State.closeEpoch_keep (o : Obs) (s : State) :
    (State.closeEpoch o s).pending = s.pending ∧ (State.closeEpoch o s).sh.grade = s.sh.grade ∧ (State.closeEpoch o s).sh.tap = s.sh.tap ∧ (State.closeEpoch o s).sh.gt = s.sh.gt := by
  unfold State.closeEpoch
  (repeat' split) <;> (try simp)

@[simp] theorem Shared.stepped_keep (d : Int) (t g : Nat) (h : Shared) :
    (Shared.stepped d t g h).grade = h.grade ∧ (Shared.stepped d t g h).tap = h.tap ∧ (Shared.stepped d t g h).gt = g := by
  unfold Shared.stepped
  simp

@[simp] theorem State.stepTo_keep (d : Int) (t g : Nat) (s : State) :
    (State.stepTo d t g s).pending = s.pending ∧ (State.stepTo d t g s).sh.grade = s.sh.grade ∧ (State.stepTo d t g s).sh.tap = s.sh.tap := by
  unfold State.stepTo
  simp

@[simp] theorem State.stepped_keep (d : Int) (s : State) :
    (State.stepped d s).pending = s.pending ∧ (State.stepped d s).sh.grade = s.sh.grade ∧ (State.stepped d s).sh.tap = s.sh.tap := by
  unfold State.stepped
  exact State.stepTo_keep _ _ _ _

@[simp] theorem State.advance_none (s : State) : State.advance none s = s.withSh { s.sh with gt := nextBoundary s.sh.gt } := rfl
@[simp] theorem State.advance_some (d : Int) (s : State) : State.advance (some d) s = s.stepped d := rfl

@[simp] theorem State.advance_keep (q : Option Int) (s : State) :
    (State.advance q s).pending = s.pending ∧ (State.advance q s).sh.grade = s.sh.grade ∧ (State.advance q s).sh.tap = s.sh.tap := by
  cases q with
  | none => simp
  | some d => simp

@[simp] theorem State.tick_keep (s : State) :
    (State.tick s).pending = s.pending ∧ (State.tick s).sh.grade = s.sh.grade ∧ (State.tick s).sh.tap = s.sh.tap := by
  unfold State.tick
  exact State.advance_keep _ _

@[simp] theorem State.timeWait_keep (s : State) :
    (State.timeWait s).pending = s.pending ∧ (State.timeWait s).sh.grade = s.sh.grade ∧ (State.timeWait s).sh.tap = s.sh.tap ∧ (State.timeWait s).sh.gt = s.sh.gt := by
  unfold State.timeWait
  simp

@[simp] theorem State.dropCuts_keep (s : State) :
    (State.dropCuts s).pending = s.pending ∧ (State.dropCuts s).sh.grade = s.sh.grade ∧ (State.dropCuts s).sh.tap = s.sh.tap ∧ (State.dropCuts s).sh.gt = s.sh.gt := by
  unfold State.dropCuts
  simp

@[simp] theorem State.moveAuth_keep (s : State) :
    (State.moveAuth s).pending = s.pending ∧ (State.moveAuth s).sh.grade = s.sh.grade ∧ (State.moveAuth s).sh.tap = s.sh.tap ∧ (State.moveAuth s).sh.gt = s.sh.gt := by
  unfold State.moveAuth
  simp
  (repeat' split) <;> (try simp)

@[simp] theorem State.heldOne_keep (s : State) :
    (State.heldOne s).pending = s.pending ∧ (State.heldOne s).sh.grade = s.sh.grade ∧ (State.heldOne s).sh.tap = s.sh.tap ∧ (State.heldOne s).sh.gt = s.sh.gt := by
  unfold State.heldOne
  (repeat' split) <;> (try simp)

@[simp] theorem State.arbiter_keep (s : State) :
    (State.arbiter s).pending = s.pending ∧ (State.arbiter s).sh.grade = s.sh.grade ∧ (State.arbiter s).sh.tap = s.sh.tap ∧ (State.arbiter s).sh.gt = s.sh.gt := by
  unfold State.arbiter
  simp
  (repeat' split) <;> (try simp)

@[simp] theorem State.dioObserve_keep (o : Obs) (s : State) :
    (State.dioObserve o s).pending = s.pending ∧ (State.dioObserve o s).sh.grade = s.sh.grade ∧ (State.dioObserve o s).sh.tap = s.sh.tap ∧ (State.dioObserve o s).sh.gt = s.sh.gt := by
  unfold State.dioObserve
  simp

@[simp] theorem State.refWatch_keep (o : Obs) (s : State) :
    (State.refWatch o s).pending = s.pending ∧ (State.refWatch o s).sh.grade = s.sh.grade ∧ (State.refWatch o s).sh.tap = s.sh.tap ∧ (State.refWatch o s).sh.gt = s.sh.gt := by
  unfold State.refWatch
  (repeat' split) <;> (try simp)

@[simp] theorem State.scrubbed_keep (o : Obs) (s : State) :
    (State.scrubbed o s).pending = s.pending ∧ (State.scrubbed o s).sh.grade = s.sh.grade ∧ (State.scrubbed o s).sh.tap = s.sh.tap ∧ (State.scrubbed o s).sh.gt = s.sh.gt := by
  unfold State.scrubbed
  simp

@[simp] theorem State.house_keep (o : Obs) (s : State) :
    (State.house o s).pending = s.pending ∧ (State.house o s).sh.grade = s.sh.grade ∧ (State.house o s).sh.tap = s.sh.tap ∧ (State.house o s).sh.gt = s.sh.gt := by
  unfold State.house
  simp

@[simp] theorem State.openLanes_keep (first : Bool) (o : Obs) (s : State) :
    (State.openLanes first o s).pending = s.pending ∧ (State.openLanes first o s).sh.grade = s.sh.grade ∧ (State.openLanes first o s).sh.tap = s.sh.tap ∧ (State.openLanes first o s).sh.gt = s.sh.gt := by
  unfold State.openLanes
  simp
  (repeat' split) <;> (try simp)

@[simp] theorem State.bisqueMoves_keep (s : State) :
    (State.bisqueMoves s).pending = s.pending ∧ (State.bisqueMoves s).sh.grade = s.sh.grade ∧ (State.bisqueMoves s).sh.tap = s.sh.tap ∧ (State.bisqueMoves s).sh.gt = s.sh.gt := by
  unfold State.bisqueMoves
  (repeat' split) <;> (try simp)

@[simp] theorem State.openBisque_keep (o : Obs) (s : State) :
    (State.openBisque o s).pending = s.pending ∧ (State.openBisque o s).sh.grade = s.sh.grade ∧ (State.openBisque o s).sh.tap = s.sh.tap ∧ (State.openBisque o s).sh.gt = s.sh.gt := by
  unfold State.openBisque
  simp

@[simp] theorem State.openEpoch_keep (o : Obs) (s : State) :
    (State.openEpoch o s).pending = s.pending ∧ (State.openEpoch o s).sh.grade = s.sh.grade ∧ (State.openEpoch o s).sh.tap = s.sh.tap ∧ (State.openEpoch o s).sh.gt = s.sh.gt := by
  unfold State.openEpoch
  simp
  (repeat' split) <;> (try simp)

@[simp] theorem State.resetAt_keep (s : State) :
    (State.resetAt s).pending = s.pending ∧ (State.resetAt s).sh.grade = s.sh.grade ∧ (State.resetAt s).sh.tap = s.sh.tap ∧ (State.resetAt s).sh.gt = s.sh.gt := by
  unfold State.resetAt
  (repeat' split) <;> (try simp)

@[simp] theorem State.boundary_keep (o : Obs) (s : State) :
    (State.boundary o s).pending = s.pending ∧ (State.boundary o s).sh.grade = s.sh.grade ∧ (State.boundary o s).sh.tap = s.sh.tap := by
  unfold State.boundary
  simp
  (repeat' split) <;> (try simp)

@[simp] theorem State.sigRead_keep (i : LaneId) (b : Nat) (half : Nat) (s : State) :
    (State.sigRead i b half s).2.pending = s.pending ∧ (State.sigRead i b half s).2.sh.grade = s.sh.grade ∧ (State.sigRead i b half s).2.sh.tap = s.sh.tap ∧ (State.sigRead i b half s).2.sh.gt = s.sh.gt := by
  unfold State.sigRead
  simp
  (repeat' split) <;> (try simp)

@[simp] theorem State.readPlace_keep (now : Nat) (pair : Bool) (p : Place) (s : State) :
    (State.readPlace now pair p s).2.2.pending = s.pending ∧ (State.readPlace now pair p s).2.2.sh.grade = s.sh.grade ∧ (State.readPlace now pair p s).2.2.sh.tap = s.sh.tap ∧ (State.readPlace now pair p s).2.2.sh.gt = s.sh.gt := by
  unfold State.readPlace
  (repeat' split) <;> (try simp)

@[simp] theorem State.readEffect_keep (a : Accessor) (now : Nat) (s : State) (p : Place) :
    (State.readEffect a now s p).pending = s.pending ∧ (State.readEffect a now s p).sh.grade = s.sh.grade ∧ (State.readEffect a now s p).sh.tap = s.sh.tap ∧ (State.readEffect a now s p).sh.gt = s.sh.gt := by
  unfold State.readEffect
  (repeat' split) <;> (try simp)

@[simp] theorem State.sharedWrite_keep (now : Nat) (k : Nat) (v : Word) (cnp : Bool) (s : State) :
    (State.sharedWrite now k v cnp s).pending = s.pending ∧ (State.sharedWrite now k v cnp s).sh.grade = s.sh.grade ∧ (State.sharedWrite now k v cnp s).sh.tap = s.sh.tap ∧ (State.sharedWrite now k v cnp s).sh.gt = s.sh.gt := by
  unfold State.sharedWrite
  (repeat' split) <;> (try simp)

@[simp] theorem State.aliasWrite_keep (now : Nat) (k : Nat) (v : Word) (cnp : Bool) (s : State) :
    (State.aliasWrite now k v cnp s).pending = s.pending ∧ (State.aliasWrite now k v cnp s).sh.grade = s.sh.grade ∧ (State.aliasWrite now k v cnp s).sh.tap = s.sh.tap ∧ (State.aliasWrite now k v cnp s).sh.gt = s.sh.gt := by
  unfold State.aliasWrite
  (repeat' split) <;> (try simp)

@[simp] theorem State.servedWrite_keep (now : Nat) (p : Place) (v : Word) (cnp : Bool) (s : State) :
    (State.servedWrite now p v cnp s).pending = s.pending ∧ (State.servedWrite now p v cnp s).sh.grade = s.sh.grade ∧ (State.servedWrite now p v cnp s).sh.tap = s.sh.tap ∧ (State.servedWrite now p v cnp s).sh.gt = s.sh.gt := by
  unfold State.servedWrite
  (repeat' split) <;> (try simp)

@[simp] theorem State.writePlace_keep (now : Nat) (cnp : Bool) (p : Place) (v : Word) (s : State) :
    (State.writePlace now cnp p v s).2.pending = s.pending ∧ (State.writePlace now cnp p v s).2.sh.grade = s.sh.grade ∧ (State.writePlace now cnp p v s).2.sh.tap = s.sh.tap ∧ (State.writePlace now cnp p v s).2.sh.gt = s.sh.gt := by
  unfold State.writePlace
  simp
  (repeat' split) <;> (try simp)

@[simp] theorem State.writeBusy_keep (cnp : Bool) (s : State) :
    (State.writeBusy cnp s).pending = s.pending ∧ (State.writeBusy cnp s).sh.grade = s.sh.grade ∧ (State.writeBusy cnp s).sh.tap = s.sh.tap ∧ (State.writeBusy cnp s).sh.gt = s.sh.gt := by
  unfold State.writeBusy
  (repeat' split) <;> (try simp)

@[simp] theorem State.hpDrive_keep (bs : List Byte) (s : State) :
    (State.hpDrive bs s).pending = s.pending ∧ (State.hpDrive bs s).sh.grade = s.sh.grade ∧ (State.hpDrive bs s).sh.tap = s.sh.tap ∧ (State.hpDrive bs s).sh.gt = s.sh.gt := by
  unfold State.hpDrive
  simp

@[simp] theorem State.hpSilent_keep (s : State) :
    (State.hpSilent s).pending = s.pending ∧ (State.hpSilent s).sh.grade = s.sh.grade ∧ (State.hpSilent s).sh.tap = s.sh.tap ∧ (State.hpSilent s).sh.gt = s.sh.gt := by
  unfold State.hpSilent
  simp

@[simp] theorem State.hpCut_keep (s : State) :
    (State.hpCut s).pending = s.pending ∧ (State.hpCut s).sh.grade = s.sh.grade ∧ (State.hpCut s).sh.tap = s.sh.tap ∧ (State.hpCut s).sh.gt = s.sh.gt := by
  unfold State.hpCut
  simp

@[simp] theorem State.formatWords_keep (n : Nat) (s : State) :
    (State.formatWords n s).2.pending = s.pending ∧ (State.formatWords n s).2.sh.grade = s.sh.grade ∧ (State.formatWords n s).2.sh.tap = s.sh.tap ∧ (State.formatWords n s).2.sh.gt = s.sh.gt := by
  unfold State.formatWords
  simp

@[simp] theorem State.readWords_keep (now : Nat) (pair : Bool) (ps : List Place) (s : State) :
    (State.readWords now pair ps s).2.pending = s.pending ∧ (State.readWords now pair ps s).2.sh.grade = s.sh.grade ∧
      (State.readWords now pair ps s).2.sh.tap = s.sh.tap ∧ (State.readWords now pair ps s).2.sh.gt = s.sh.gt := by
  induction ps generalizing s with
  | nil => simp [State.readWords]
  | cons p ps ih => simp [State.readWords, ih]

@[simp] theorem State.writeWords_keep (now : Nat) (cnp : Bool) (xs : List (Place × Word)) (s : State) :
    (State.writeWords now cnp xs s).2.pending = s.pending ∧ (State.writeWords now cnp xs s).2.sh.grade = s.sh.grade ∧
      (State.writeWords now cnp xs s).2.sh.tap = s.sh.tap ∧ (State.writeWords now cnp xs s).2.sh.gt = s.sh.gt := by
  induction xs generalizing s with
  | nil => simp [State.writeWords]
  | cons x xs ih => simp [State.writeWords, ih]

@[simp] theorem State.hpRead_keep (a n now : Nat) (whole : Bool) (s : State) :
    (State.hpRead a n now whole s).pending = s.pending ∧ (State.hpRead a n now whole s).sh.grade = s.sh.grade ∧
      (State.hpRead a n now whole s).sh.tap = s.sh.tap ∧ (State.hpRead a n now whole s).sh.gt = s.sh.gt := by
  unfold State.hpRead
  dsimp only
  (repeat' split) <;> (try simp_all)

@[simp] theorem State.hpWrite_keep (a : Nat) (n : Nat) (now : Nat) (data : List Byte) (dcrc : Byte) (s : State) :
    (State.hpWrite a n now data dcrc s).pending = s.pending ∧ (State.hpWrite a n now data dcrc s).sh.grade = s.sh.grade ∧ (State.hpWrite a n now data dcrc s).sh.tap = s.sh.tap ∧ (State.hpWrite a n now data dcrc s).sh.gt = s.sh.gt := by
  unfold State.hpWrite
  simp
  (repeat' split) <;> (try simp)

@[simp] theorem State.hpFrame_keep (op : Byte) (addr : BitVec 24) (hcrc : Option Byte) (data : List Byte) (dcrc : Option Byte) (whole : Bool) (now : Nat) (s : State) :
    (State.hpFrame op addr hcrc data dcrc whole now s).pending = s.pending ∧ (State.hpFrame op addr hcrc data dcrc whole now s).sh.grade = s.sh.grade ∧ (State.hpFrame op addr hcrc data dcrc whole now s).sh.tap = s.sh.tap ∧ (State.hpFrame op addr hcrc data dcrc whole now s).sh.gt = s.sh.gt := by
  unfold State.hpFrame
  simp
  (repeat' split) <;> (try simp)

@[simp] theorem State.respond_keep (b : Nat) (prio : Nat) (cls : Nat) (data : List Byte) (s : State) :
    (State.respond b prio cls data s).pending = s.pending ∧ (State.respond b prio cls data s).sh.grade = s.sh.grade ∧ (State.respond b prio cls data s).sh.tap = s.sh.tap ∧ (State.respond b prio cls data s).sh.gt = s.sh.gt := by
  unfold State.respond
  simp

@[simp] theorem State.reqDrop_keep (s : State) :
    (State.reqDrop s).pending = s.pending ∧ (State.reqDrop s).sh.grade = s.sh.grade ∧ (State.reqDrop s).sh.tap = s.sh.tap ∧ (State.reqDrop s).sh.gt = s.sh.gt := by
  unfold State.reqDrop
  simp

@[simp] theorem State.serve_keep (q : RegReq) (now : Nat) (s : State) :
    (State.serve q now s).2.2.pending = s.pending ∧ (State.serve q now s).2.2.sh.grade = s.sh.grade ∧ (State.serve q now s).2.2.sh.tap = s.sh.tap ∧ (State.serve q now s).2.2.sh.gt = s.sh.gt := by
  unfold State.serve
  simp
  (repeat' split) <;> (try simp)

@[simp] theorem State.request_keep (b : Nat) (prio : Nat) (src : Nat) (data : List Byte) (now : Nat) (s : State) :
    (State.request b prio src data now s).pending = s.pending ∧ (State.request b prio src data now s).sh.grade = s.sh.grade ∧ (State.request b prio src data now s).sh.tap = s.sh.tap ∧ (State.request b prio src data now s).sh.gt = s.sh.gt := by
  unfold State.request
  (repeat' split) <;> (try simp)

@[simp] theorem State.imagePart_keep (b : Nat) (prio : Nat) (src : Nat) (data : List Byte) (now : Nat) (s : State) :
    (State.imagePart b prio src data now s).pending = s.pending ∧ (State.imagePart b prio src data now s).sh.grade = s.sh.grade ∧ (State.imagePart b prio src data now s).sh.tap = s.sh.tap ∧ (State.imagePart b prio src data now s).sh.gt = s.sh.gt := by
  unfold State.imagePart
  simp
  (repeat' split) <;> (try simp)

@[simp] theorem State.cnpServe_keep (b : Nat) (f : CanFrame) (now : Nat) (s : State) :
    (State.cnpServe b f now s).pending = s.pending ∧ (State.cnpServe b f now s).sh.grade = s.sh.grade ∧ (State.cnpServe b f now s).sh.tap = s.sh.tap ∧ (State.cnpServe b f now s).sh.gt = s.sh.gt := by
  unfold State.cnpServe
  (repeat' split) <;> (try simp)

@[simp] theorem State.frameReport_keep (b : Nat) (f : FrameRep) (s : State) :
    (State.frameReport b f s).pending = s.pending ∧ (State.frameReport b f s).sh.grade = s.sh.grade ∧ (State.frameReport b f s).sh.tap = s.sh.tap ∧ (State.frameReport b f s).sh.gt = s.sh.gt := by
  unfold State.frameReport
  (repeat' split) <;> (try simp)

@[simp] theorem State.agingCopyStart_keep (s : State) :
    (State.agingCopyStart s).pending = s.pending ∧ (State.agingCopyStart s).sh.grade = s.sh.grade ∧ (State.agingCopyStart s).sh.tap = s.sh.tap ∧ (State.agingCopyStart s).sh.gt = s.sh.gt := by
  unfold State.agingCopyStart
  (repeat' split) <;> (try simp)

@[simp] theorem State.agingCopyEnd_keep (s : State) :
    (State.agingCopyEnd s).pending = s.pending ∧ (State.agingCopyEnd s).sh.grade = s.sh.grade ∧ (State.agingCopyEnd s).sh.tap = s.sh.tap ∧ (State.agingCopyEnd s).sh.gt = s.sh.gt := by
  unfold State.agingCopyEnd
  (repeat' split) <;> (try simp)

end Sys2Proof.Machine
end

