-- ==== Sys2Proof/Laws/Trie.lean ====
section
/-! SUPPORT. Laws of the finite maps: reading after writing, the canonical form, and equality of canonical maps with the same
contents. -/

namespace Sys2Proof.Machine

@[simp] theorem Trie.get_nil {α : Type} (d k : Nat) : Trie.get d (.nil : Trie α) k = none := by
  induction d generalizing k with
  | zero => rfl
  | succ d ih => rfl

/-- A read goes to the branch of the key's lowest bit. -/
theorem Trie.get_succ {α : Type} (d : Nat) (t : Trie α) (k : Nat) :
    Trie.get (d + 1) t k = if k % 2 = 0 then Trie.get d t.left (k / 2) else Trie.get d t.right (k / 2) := by
  cases t <;> simp [Trie.left, Trie.right] <;> rfl

theorem Trie.left_mk {α : Type} (l r : Trie α) : (Trie.mk l r).left = l := by
  cases l <;> cases r <;> rfl
theorem Trie.right_mk {α : Type} (l r : Trie α) : (Trie.mk l r).right = r := by
  cases l <;> cases r <;> rfl

/-- A read of the key just written gives what was written. -/
@[simp] theorem Trie.get_set_same {α : Type} (d : Nat) (t : Trie α) (k : Nat) (v : Option α) :
    Trie.get d (Trie.set d t k v) k = v := by
  induction d generalizing t k with
  | zero => cases v <;> rfl
  | succ d ih => by_cases h : k % 2 = 0 <;> simp [Trie.get_succ, Trie.set, h, Trie.left_mk, Trie.right_mk, ih]

/-- A write leaves every other key of the map's range alone. -/
theorem Trie.get_set_ne {α : Type} (d : Nat) (t : Trie α) (j k : Nat) (v : Option α) (h : j % 2 ^ d ≠ k % 2 ^ d) :
    Trie.get d (Trie.set d t k v) j = Trie.get d t j := by
  induction d generalizing t j k with
  | zero => simp [Nat.mod_one] at h
  | succ d ih =>
    have step (a : Nat) : a % 2 ^ (d + 1) = a % 2 + 2 * (a / 2 % 2 ^ d) := by
      rw [pow_succ, Nat.mul_comm, Nat.mod_mul]
    rw [step, step] at h
    by_cases hj : j % 2 = 0 <;> by_cases hk : k % 2 = 0
    · have : j / 2 % 2 ^ d ≠ k / 2 % 2 ^ d := by omega
      simp [Trie.get_succ, Trie.set, hj, hk, Trie.left_mk, ih _ _ _ this]
    · simp [Trie.get_succ, Trie.set, hj, hk, Trie.left_mk]
    · simp [Trie.get_succ, Trie.set, hj, hk, Trie.right_mk]
    · have : j / 2 % 2 ^ d ≠ k / 2 % 2 ^ d := by omega
      simp [Trie.get_succ, Trie.set, hj, hk, Trie.right_mk, ih _ _ _ this]

theorem Trie.wf_left {α : Type} (d : Nat) (t : Trie α) (h : Trie.wf (d + 1) t = true) : Trie.wf d t.left = true := by
  cases t with
  | nil => cases d <;> rfl
  | val a => simp [Trie.wf] at h
  | node l r => simp [Trie.wf] at h; exact h.1.1
theorem Trie.wf_right {α : Type} (d : Nat) (t : Trie α) (h : Trie.wf (d + 1) t = true) : Trie.wf d t.right = true := by
  cases t with
  | nil => cases d <;> rfl
  | val a => simp [Trie.wf] at h
  | node l r => simp [Trie.wf] at h; exact h.1.2

theorem Trie.wf_mk {α : Type} (d : Nat) (l r : Trie α) (hl : Trie.wf d l = true) (hr : Trie.wf d r = true) :
    Trie.wf (d + 1) (Trie.mk l r) = true := by
  cases l <;> cases r <;> simp_all [Trie.mk, Trie.wf]

/-- A write keeps the canonical form. -/
theorem Trie.wf_set {α : Type} (d : Nat) (t : Trie α) (k : Nat) (v : Option α) (h : Trie.wf d t = true) :
    Trie.wf d (Trie.set d t k v) = true := by
  induction d generalizing t k with
  | zero => cases v <;> rfl
  | succ d ih =>
    by_cases hk : k % 2 = 0
    · simpa [Trie.set, hk] using Trie.wf_mk d _ _ (ih _ _ (Trie.wf_left d t h)) (Trie.wf_right d t h)
    · simpa [Trie.set, hk] using Trie.wf_mk d _ _ (Trie.wf_left d t h) (ih _ _ (Trie.wf_right d t h))

/-! ### Tables of working state -/

/-- A table reads back what was stored. -/
@[simp] theorem Trie.at_upd_same {α : Type} [DecidableEq α] (t : Trie α) (d : α) (k : Nat) (v : α) :
    (t.upd d k v).at d k = v := by
  unfold Trie.at Trie.upd
  by_cases h : v = d <;> simp [h]

/-- Storing leaves every other entry alone. -/
theorem Trie.at_upd_ne {α : Type} [DecidableEq α] (t : Trie α) (d : α) (j k : Nat) (v : α) (h : j % 4096 ≠ k % 4096) :
    (t.upd d k v).at d j = t.at d j := by
  unfold Trie.at Trie.upd
  rw [Trie.get_set_ne 12 t j k _ h]

/-! ### Register files -/

/-- A register reads what was written. -/
@[simp] theorem RegFile.rd_wr_same (r : RegFile) (k : Nat) (w : Word) : RegFile.rd (RegFile.wr r k w) k = w := by
  unfold RegFile.rd RegFile.wr
  by_cases h : w = resetWord k <;> simp [h]

/-- A write leaves every other register alone. -/
theorem RegFile.rd_wr_ne (r : RegFile) (j k : Nat) (w : Word) (h : j % 2 ^ 20 ≠ k % 2 ^ 20) :
    RegFile.rd (RegFile.wr r k w) j = RegFile.rd r j := by
  unfold RegFile.rd RegFile.wr
  rw [Trie.get_set_ne 20 r j k _ h]

/-- A write keeps the canonical form of a register file. -/
theorem RegFile.wf_wr (r : RegFile) (k : Nat) (w : Word) (h : Trie.wf 20 r = true) : Trie.wf 20 (RegFile.wr r k w) = true :=
  Trie.wf_set 20 r k _ h

/-! ### Fields -/

/-- A field reads what was put into it, reduced to its width. -/
theorem Fld.get_put_same (f : Fld) (v : Nat) (w : Word) (h : f.lo + f.width ≤ 32) : f.get (f.put v w) = v % 2 ^ f.width := by
  have hb : (f.put v w >>> f.lo).toNat % 2 ^ f.width = v % 2 ^ f.width := by
    apply Nat.eq_of_testBit_eq
    intro i
    by_cases hi : i < f.width
    · have h32 : f.lo + i < 32 := by omega
      simp only [Nat.testBit_mod_two_pow, hi, decide_true, Bool.true_and]
      have : (f.put v w >>> f.lo).toNat.testBit i = (f.put v w).getLsbD (f.lo + i) := by
        simp [BitVec.getLsbD]
      rw [this]
      have hm : ((2 : Nat) ^ f.width - 1).testBit i = true := by simp [Nat.testBit_two_pow_sub_one, hi]
      have h1 : i < 32 := by omega
      have ofn (n : Nat) : (BitVec.ofNat 32 n)[i] = n.testBit i := by
        rw [BitVec.getElem_eq_testBit_toNat, BitVec.toNat_ofNat, Nat.testBit_mod_two_pow]; simp [h1]
      simp [Fld.put, Fld.mask, h32, ofn, hm, Nat.testBit_mod_two_pow, hi]
    · simp [Nat.testBit_mod_two_pow, hi]
  exact hb

/-- A write of one field leaves a field that shares no bit with it alone. -/
theorem Fld.get_put_ne (f g : Fld) (v : Nat) (w : Word) (h : f.lo + f.width ≤ g.lo ∨ g.lo + g.width ≤ f.lo)
    (hf : f.lo + f.width ≤ 32) : f.get (g.put v w) = f.get w := by
  unfold Fld.get
  apply Nat.eq_of_testBit_eq
  intro i
  by_cases hi : i < f.width
  · have h32 : f.lo + i < 32 := by omega
    simp only [Nat.testBit_mod_two_pow, hi, decide_true, Bool.true_and]
    have e (x : Word) : (x >>> f.lo).toNat.testBit i = x.getLsbD (f.lo + i) := by simp [BitVec.getLsbD]
    rw [e, e]
    rcases h with h | h
    · have : f.lo + i < g.lo := by omega
      simp [Fld.put, Fld.mask, h32, this]
    · have h2 : ¬ f.lo + i - g.lo < g.width := by omega
      have h3 : f.lo + i - g.lo < 32 := by omega
      have ofn (n : Nat) : (BitVec.ofNat 32 n)[f.lo + i - g.lo] = n.testBit (f.lo + i - g.lo) := by
        rw [BitVec.getElem_eq_testBit_toNat, BitVec.toNat_ofNat, Nat.testBit_mod_two_pow]; simp [h3]
      have hg : ¬ f.lo + i < g.lo := by omega
      simp [Fld.put, Fld.mask, h32, ofn, hg, Nat.testBit_mod_two_pow, Nat.testBit_two_pow_sub_one, h2]
  · simp [Nat.testBit_mod_two_pow, hi]

end Sys2Proof.Machine
end

