-- ==== Sys2Proof/Laws/State.lean ====
section
/-! SUPPORT. The fields of a lane, of the shared part and of the node after each update, and registers read after they are written. -/

namespace Sys2Proof.Machine

/-! ### The lane after a register write: every other field stands -/

@[simp] theorem Lane.wr_id (l : Lane) (k : Nat) (w : Word) : (l.wr k w).id = l.id := rfl
@[simp] theorem Lane.wr_st (l : Lane) (k : Nat) (w : Word) : (l.wr k w).st = l.st := rfl
@[simp] theorem Lane.wr_instep (l : Lane) (k : Nat) (w : Word) : (l.wr k w).instep = l.instep := rfl
@[simp] theorem Lane.wr_shown (l : Lane) (k : Nat) (w : Word) : (l.wr k w).shown = l.shown := rfl
@[simp] theorem Lane.wr_endRegs (l : Lane) (k : Nat) (w : Word) : (l.wr k w).endRegs = l.endRegs := rfl
@[simp] theorem Lane.wr_hw (l : Lane) (k : Nat) (w : Word) : (l.wr k w).hw = l.hw := rfl
@[simp] theorem Lane.wr_cut (l : Lane) (k : Nat) (w : Word) : (l.wr k w).cut = l.cut := rfl
@[simp] theorem Lane.wr_chans (l : Lane) (k : Nat) (w : Word) : (l.wr k w).chans = l.chans := rfl
@[simp] theorem Lane.wr_pts (l : Lane) (k : Nat) (w : Word) : (l.wr k w).pts = l.pts := rfl
@[simp] theorem Lane.wr_alm (l : Lane) (k : Nat) (w : Word) : (l.wr k w).alm = l.alm := rfl
@[simp] theorem Lane.wr_loops (l : Lane) (k : Nat) (w : Word) : (l.wr k w).loops = l.loops := rfl
@[simp] theorem Lane.wr_tps (l : Lane) (k : Nat) (w : Word) : (l.wr k w).tps = l.tps := rfl
@[simp] theorem Lane.wr_aos (l : Lane) (k : Nat) (w : Word) : (l.wr k w).aos = l.aos := rfl
@[simp] theorem Lane.wr_aoLost (l : Lane) (k : Nat) (w : Word) : (l.wr k w).aoLost = l.aoLost := rfl
@[simp] theorem Lane.wr_harts (l : Lane) (k : Nat) (w : Word) : (l.wr k w).harts = l.harts := rfl
@[simp] theorem Lane.wr_dioUp (l : Lane) (k : Nat) (w : Word) : (l.wr k w).dioUp = l.dioUp := rfl
@[simp] theorem Lane.wr_doVal (l : Lane) (k : Nat) (w : Word) : (l.wr k w).doVal = l.doVal := rfl
@[simp] theorem Lane.wr_doSet (l : Lane) (k : Nat) (w : Word) : (l.wr k w).doSet = l.doSet := rfl
@[simp] theorem Lane.wr_cans (l : Lane) (k : Nat) (w : Word) : (l.wr k w).cans = l.cans := rfl
@[simp] theorem Lane.wr_lockHost (l : Lane) (k : Nat) (w : Word) : (l.wr k w).lockHost = l.lockHost := rfl
@[simp] theorem Lane.wr_lockCnp (l : Lane) (k : Nat) (w : Word) : (l.wr k w).lockCnp = l.lockCnp := rfl
@[simp] theorem Lane.wr_time (l : Lane) (k : Nat) (w : Word) : (l.wr k w).time = l.time := rfl
@[simp] theorem Lane.wr_clk (l : Lane) (k : Nat) (w : Word) : (l.wr k w).clk = l.clk := rfl
@[simp] theorem Lane.wr_slots (l : Lane) (k : Nat) (w : Word) : (l.wr k w).slots = l.slots := rfl
@[simp] theorem Lane.wr_doNext (l : Lane) (k : Nat) (w : Word) : (l.wr k w).doNext = l.doNext := rfl
@[simp] theorem Lane.wr_writes (l : Lane) (k : Nat) (w : Word) : (l.wr k w).writes = l.writes := rfl
@[simp] theorem Lane.wr_formed (l : Lane) (k : Nat) (w : Word) : (l.wr k w).formed = l.formed := rfl
@[simp] theorem Lane.wr_raised (l : Lane) (k : Nat) (w : Word) : (l.wr k w).raised = l.raised := rfl
@[simp] theorem Lane.wr_evAt (l : Lane) (k : Nat) (w : Word) : (l.wr k w).evAt = l.evAt := rfl
@[simp] theorem Lane.wr_evPrev (l : Lane) (k : Nat) (w : Word) : (l.wr k w).evPrev = l.evPrev := rfl
@[simp] theorem Lane.wr_evPrevAt (l : Lane) (k : Nat) (w : Word) : (l.wr k w).evPrevAt = l.evPrevAt := rfl
@[simp] theorem Lane.wr_link (l : Lane) (k : Nat) (w : Word) : (l.wr k w).link = l.link := rfl
@[simp] theorem Lane.wr_adj (l : Lane) (k : Nat) (w : Word) : (l.wr k w).adj = l.adj := rfl
@[simp] theorem Lane.wr_rcd (l : Lane) (k : Nat) (w : Word) : (l.wr k w).rcd = l.rcd := rfl
@[simp] theorem Lane.wr_pnl (l : Lane) (k : Nat) (w : Word) : (l.wr k w).pnl = l.pnl := rfl
@[simp] theorem Lane.wr_fire (l : Lane) (k : Nat) (w : Word) : (l.wr k w).fire = l.fire := rfl
@[simp] theorem Lane.wr_led (l : Lane) (k : Nat) (w : Word) : (l.wr k w).led = l.led := rfl
@[simp] theorem Lane.wr_mw (l : Lane) (k : Nat) (w : Word) : (l.wr k w).mw = l.mw := rfl
@[simp] theorem Lane.wr_store (l : Lane) (k : Nat) (w : Word) : (l.wr k w).store = l.store := rfl
@[simp] theorem Lane.wr_storeBack (l : Lane) (k : Nat) (w : Word) : (l.wr k w).storeBack = l.storeBack := rfl
@[simp] theorem Lane.wr_peerStoreFail (l : Lane) (k : Nat) (w : Word) : (l.wr k w).peerStoreFail = l.peerStoreFail := rfl
@[simp] theorem Lane.setF_id (l : Lane) (k : Nat) (f : Fld) (v : Nat) : (l.setF k f v).id = l.id := rfl
@[simp] theorem Lane.setF_st (l : Lane) (k : Nat) (f : Fld) (v : Nat) : (l.setF k f v).st = l.st := rfl
@[simp] theorem Lane.setF_instep (l : Lane) (k : Nat) (f : Fld) (v : Nat) : (l.setF k f v).instep = l.instep := rfl
@[simp] theorem Lane.setF_shown (l : Lane) (k : Nat) (f : Fld) (v : Nat) : (l.setF k f v).shown = l.shown := rfl
@[simp] theorem Lane.setF_endRegs (l : Lane) (k : Nat) (f : Fld) (v : Nat) : (l.setF k f v).endRegs = l.endRegs := rfl
@[simp] theorem Lane.setF_hw (l : Lane) (k : Nat) (f : Fld) (v : Nat) : (l.setF k f v).hw = l.hw := rfl
@[simp] theorem Lane.setF_cut (l : Lane) (k : Nat) (f : Fld) (v : Nat) : (l.setF k f v).cut = l.cut := rfl
@[simp] theorem Lane.setF_chans (l : Lane) (k : Nat) (f : Fld) (v : Nat) : (l.setF k f v).chans = l.chans := rfl
@[simp] theorem Lane.setF_pts (l : Lane) (k : Nat) (f : Fld) (v : Nat) : (l.setF k f v).pts = l.pts := rfl
@[simp] theorem Lane.setF_alm (l : Lane) (k : Nat) (f : Fld) (v : Nat) : (l.setF k f v).alm = l.alm := rfl
@[simp] theorem Lane.setF_loops (l : Lane) (k : Nat) (f : Fld) (v : Nat) : (l.setF k f v).loops = l.loops := rfl
@[simp] theorem Lane.setF_tps (l : Lane) (k : Nat) (f : Fld) (v : Nat) : (l.setF k f v).tps = l.tps := rfl
@[simp] theorem Lane.setF_aos (l : Lane) (k : Nat) (f : Fld) (v : Nat) : (l.setF k f v).aos = l.aos := rfl
@[simp] theorem Lane.setF_aoLost (l : Lane) (k : Nat) (f : Fld) (v : Nat) : (l.setF k f v).aoLost = l.aoLost := rfl
@[simp] theorem Lane.setF_harts (l : Lane) (k : Nat) (f : Fld) (v : Nat) : (l.setF k f v).harts = l.harts := rfl
@[simp] theorem Lane.setF_dioUp (l : Lane) (k : Nat) (f : Fld) (v : Nat) : (l.setF k f v).dioUp = l.dioUp := rfl
@[simp] theorem Lane.setF_doVal (l : Lane) (k : Nat) (f : Fld) (v : Nat) : (l.setF k f v).doVal = l.doVal := rfl
@[simp] theorem Lane.setF_doSet (l : Lane) (k : Nat) (f : Fld) (v : Nat) : (l.setF k f v).doSet = l.doSet := rfl
@[simp] theorem Lane.setF_cans (l : Lane) (k : Nat) (f : Fld) (v : Nat) : (l.setF k f v).cans = l.cans := rfl
@[simp] theorem Lane.setF_lockHost (l : Lane) (k : Nat) (f : Fld) (v : Nat) : (l.setF k f v).lockHost = l.lockHost := rfl
@[simp] theorem Lane.setF_lockCnp (l : Lane) (k : Nat) (f : Fld) (v : Nat) : (l.setF k f v).lockCnp = l.lockCnp := rfl
@[simp] theorem Lane.setF_time (l : Lane) (k : Nat) (f : Fld) (v : Nat) : (l.setF k f v).time = l.time := rfl
@[simp] theorem Lane.setF_clk (l : Lane) (k : Nat) (f : Fld) (v : Nat) : (l.setF k f v).clk = l.clk := rfl
@[simp] theorem Lane.setF_slots (l : Lane) (k : Nat) (f : Fld) (v : Nat) : (l.setF k f v).slots = l.slots := rfl
@[simp] theorem Lane.setF_doNext (l : Lane) (k : Nat) (f : Fld) (v : Nat) : (l.setF k f v).doNext = l.doNext := rfl
@[simp] theorem Lane.setF_writes (l : Lane) (k : Nat) (f : Fld) (v : Nat) : (l.setF k f v).writes = l.writes := rfl
@[simp] theorem Lane.setF_formed (l : Lane) (k : Nat) (f : Fld) (v : Nat) : (l.setF k f v).formed = l.formed := rfl
@[simp] theorem Lane.setF_raised (l : Lane) (k : Nat) (f : Fld) (v : Nat) : (l.setF k f v).raised = l.raised := rfl
@[simp] theorem Lane.setF_evAt (l : Lane) (k : Nat) (f : Fld) (v : Nat) : (l.setF k f v).evAt = l.evAt := rfl
@[simp] theorem Lane.setF_evPrev (l : Lane) (k : Nat) (f : Fld) (v : Nat) : (l.setF k f v).evPrev = l.evPrev := rfl
@[simp] theorem Lane.setF_evPrevAt (l : Lane) (k : Nat) (f : Fld) (v : Nat) : (l.setF k f v).evPrevAt = l.evPrevAt := rfl
@[simp] theorem Lane.setF_link (l : Lane) (k : Nat) (f : Fld) (v : Nat) : (l.setF k f v).link = l.link := rfl
@[simp] theorem Lane.setF_adj (l : Lane) (k : Nat) (f : Fld) (v : Nat) : (l.setF k f v).adj = l.adj := rfl
@[simp] theorem Lane.setF_rcd (l : Lane) (k : Nat) (f : Fld) (v : Nat) : (l.setF k f v).rcd = l.rcd := rfl
@[simp] theorem Lane.setF_pnl (l : Lane) (k : Nat) (f : Fld) (v : Nat) : (l.setF k f v).pnl = l.pnl := rfl
@[simp] theorem Lane.setF_fire (l : Lane) (k : Nat) (f : Fld) (v : Nat) : (l.setF k f v).fire = l.fire := rfl
@[simp] theorem Lane.setF_led (l : Lane) (k : Nat) (f : Fld) (v : Nat) : (l.setF k f v).led = l.led := rfl
@[simp] theorem Lane.setF_mw (l : Lane) (k : Nat) (f : Fld) (v : Nat) : (l.setF k f v).mw = l.mw := rfl
@[simp] theorem Lane.setF_store (l : Lane) (k : Nat) (f : Fld) (v : Nat) : (l.setF k f v).store = l.store := rfl
@[simp] theorem Lane.setF_storeBack (l : Lane) (k : Nat) (f : Fld) (v : Nat) : (l.setF k f v).storeBack = l.storeBack := rfl
@[simp] theorem Lane.setF_peerStoreFail (l : Lane) (k : Nat) (f : Fld) (v : Nat) : (l.setF k f v).peerStoreFail = l.peerStoreFail := rfl
@[simp] theorem Lane.setB_id (l : Lane) (k : Nat) (f : Fld) (v : Bool) : (l.setB k f v).id = l.id := rfl
@[simp] theorem Lane.setB_st (l : Lane) (k : Nat) (f : Fld) (v : Bool) : (l.setB k f v).st = l.st := rfl
@[simp] theorem Lane.setB_instep (l : Lane) (k : Nat) (f : Fld) (v : Bool) : (l.setB k f v).instep = l.instep := rfl
@[simp] theorem Lane.setB_shown (l : Lane) (k : Nat) (f : Fld) (v : Bool) : (l.setB k f v).shown = l.shown := rfl
@[simp] theorem Lane.setB_endRegs (l : Lane) (k : Nat) (f : Fld) (v : Bool) : (l.setB k f v).endRegs = l.endRegs := rfl
@[simp] theorem Lane.setB_hw (l : Lane) (k : Nat) (f : Fld) (v : Bool) : (l.setB k f v).hw = l.hw := rfl
@[simp] theorem Lane.setB_cut (l : Lane) (k : Nat) (f : Fld) (v : Bool) : (l.setB k f v).cut = l.cut := rfl
@[simp] theorem Lane.setB_chans (l : Lane) (k : Nat) (f : Fld) (v : Bool) : (l.setB k f v).chans = l.chans := rfl
@[simp] theorem Lane.setB_pts (l : Lane) (k : Nat) (f : Fld) (v : Bool) : (l.setB k f v).pts = l.pts := rfl
@[simp] theorem Lane.setB_alm (l : Lane) (k : Nat) (f : Fld) (v : Bool) : (l.setB k f v).alm = l.alm := rfl
@[simp] theorem Lane.setB_loops (l : Lane) (k : Nat) (f : Fld) (v : Bool) : (l.setB k f v).loops = l.loops := rfl
@[simp] theorem Lane.setB_tps (l : Lane) (k : Nat) (f : Fld) (v : Bool) : (l.setB k f v).tps = l.tps := rfl
@[simp] theorem Lane.setB_aos (l : Lane) (k : Nat) (f : Fld) (v : Bool) : (l.setB k f v).aos = l.aos := rfl
@[simp] theorem Lane.setB_aoLost (l : Lane) (k : Nat) (f : Fld) (v : Bool) : (l.setB k f v).aoLost = l.aoLost := rfl
@[simp] theorem Lane.setB_harts (l : Lane) (k : Nat) (f : Fld) (v : Bool) : (l.setB k f v).harts = l.harts := rfl
@[simp] theorem Lane.setB_dioUp (l : Lane) (k : Nat) (f : Fld) (v : Bool) : (l.setB k f v).dioUp = l.dioUp := rfl
@[simp] theorem Lane.setB_doVal (l : Lane) (k : Nat) (f : Fld) (v : Bool) : (l.setB k f v).doVal = l.doVal := rfl
@[simp] theorem Lane.setB_doSet (l : Lane) (k : Nat) (f : Fld) (v : Bool) : (l.setB k f v).doSet = l.doSet := rfl
@[simp] theorem Lane.setB_cans (l : Lane) (k : Nat) (f : Fld) (v : Bool) : (l.setB k f v).cans = l.cans := rfl
@[simp] theorem Lane.setB_lockHost (l : Lane) (k : Nat) (f : Fld) (v : Bool) : (l.setB k f v).lockHost = l.lockHost := rfl
@[simp] theorem Lane.setB_lockCnp (l : Lane) (k : Nat) (f : Fld) (v : Bool) : (l.setB k f v).lockCnp = l.lockCnp := rfl
@[simp] theorem Lane.setB_time (l : Lane) (k : Nat) (f : Fld) (v : Bool) : (l.setB k f v).time = l.time := rfl
@[simp] theorem Lane.setB_clk (l : Lane) (k : Nat) (f : Fld) (v : Bool) : (l.setB k f v).clk = l.clk := rfl
@[simp] theorem Lane.setB_slots (l : Lane) (k : Nat) (f : Fld) (v : Bool) : (l.setB k f v).slots = l.slots := rfl
@[simp] theorem Lane.setB_doNext (l : Lane) (k : Nat) (f : Fld) (v : Bool) : (l.setB k f v).doNext = l.doNext := rfl
@[simp] theorem Lane.setB_writes (l : Lane) (k : Nat) (f : Fld) (v : Bool) : (l.setB k f v).writes = l.writes := rfl
@[simp] theorem Lane.setB_formed (l : Lane) (k : Nat) (f : Fld) (v : Bool) : (l.setB k f v).formed = l.formed := rfl
@[simp] theorem Lane.setB_raised (l : Lane) (k : Nat) (f : Fld) (v : Bool) : (l.setB k f v).raised = l.raised := rfl
@[simp] theorem Lane.setB_evAt (l : Lane) (k : Nat) (f : Fld) (v : Bool) : (l.setB k f v).evAt = l.evAt := rfl
@[simp] theorem Lane.setB_evPrev (l : Lane) (k : Nat) (f : Fld) (v : Bool) : (l.setB k f v).evPrev = l.evPrev := rfl
@[simp] theorem Lane.setB_evPrevAt (l : Lane) (k : Nat) (f : Fld) (v : Bool) : (l.setB k f v).evPrevAt = l.evPrevAt := rfl
@[simp] theorem Lane.setB_link (l : Lane) (k : Nat) (f : Fld) (v : Bool) : (l.setB k f v).link = l.link := rfl
@[simp] theorem Lane.setB_adj (l : Lane) (k : Nat) (f : Fld) (v : Bool) : (l.setB k f v).adj = l.adj := rfl
@[simp] theorem Lane.setB_rcd (l : Lane) (k : Nat) (f : Fld) (v : Bool) : (l.setB k f v).rcd = l.rcd := rfl
@[simp] theorem Lane.setB_pnl (l : Lane) (k : Nat) (f : Fld) (v : Bool) : (l.setB k f v).pnl = l.pnl := rfl
@[simp] theorem Lane.setB_fire (l : Lane) (k : Nat) (f : Fld) (v : Bool) : (l.setB k f v).fire = l.fire := rfl
@[simp] theorem Lane.setB_led (l : Lane) (k : Nat) (f : Fld) (v : Bool) : (l.setB k f v).led = l.led := rfl
@[simp] theorem Lane.setB_mw (l : Lane) (k : Nat) (f : Fld) (v : Bool) : (l.setB k f v).mw = l.mw := rfl
@[simp] theorem Lane.setB_store (l : Lane) (k : Nat) (f : Fld) (v : Bool) : (l.setB k f v).store = l.store := rfl
@[simp] theorem Lane.setB_storeBack (l : Lane) (k : Nat) (f : Fld) (v : Bool) : (l.setB k f v).storeBack = l.storeBack := rfl
@[simp] theorem Lane.setB_peerStoreFail (l : Lane) (k : Nat) (f : Fld) (v : Bool) : (l.setB k f v).peerStoreFail = l.peerStoreFail := rfl
@[simp] theorem Lane.bump_id (l : Lane) (k : Nat) (f : Fld) (n : Nat) : (l.bump k f n).id = l.id := rfl
@[simp] theorem Lane.bump_st (l : Lane) (k : Nat) (f : Fld) (n : Nat) : (l.bump k f n).st = l.st := rfl
@[simp] theorem Lane.bump_instep (l : Lane) (k : Nat) (f : Fld) (n : Nat) : (l.bump k f n).instep = l.instep := rfl
@[simp] theorem Lane.bump_shown (l : Lane) (k : Nat) (f : Fld) (n : Nat) : (l.bump k f n).shown = l.shown := rfl
@[simp] theorem Lane.bump_endRegs (l : Lane) (k : Nat) (f : Fld) (n : Nat) : (l.bump k f n).endRegs = l.endRegs := rfl
@[simp] theorem Lane.bump_hw (l : Lane) (k : Nat) (f : Fld) (n : Nat) : (l.bump k f n).hw = l.hw := rfl
@[simp] theorem Lane.bump_cut (l : Lane) (k : Nat) (f : Fld) (n : Nat) : (l.bump k f n).cut = l.cut := rfl
@[simp] theorem Lane.bump_chans (l : Lane) (k : Nat) (f : Fld) (n : Nat) : (l.bump k f n).chans = l.chans := rfl
@[simp] theorem Lane.bump_pts (l : Lane) (k : Nat) (f : Fld) (n : Nat) : (l.bump k f n).pts = l.pts := rfl
@[simp] theorem Lane.bump_alm (l : Lane) (k : Nat) (f : Fld) (n : Nat) : (l.bump k f n).alm = l.alm := rfl
@[simp] theorem Lane.bump_loops (l : Lane) (k : Nat) (f : Fld) (n : Nat) : (l.bump k f n).loops = l.loops := rfl
@[simp] theorem Lane.bump_tps (l : Lane) (k : Nat) (f : Fld) (n : Nat) : (l.bump k f n).tps = l.tps := rfl
@[simp] theorem Lane.bump_aos (l : Lane) (k : Nat) (f : Fld) (n : Nat) : (l.bump k f n).aos = l.aos := rfl
@[simp] theorem Lane.bump_aoLost (l : Lane) (k : Nat) (f : Fld) (n : Nat) : (l.bump k f n).aoLost = l.aoLost := rfl
@[simp] theorem Lane.bump_harts (l : Lane) (k : Nat) (f : Fld) (n : Nat) : (l.bump k f n).harts = l.harts := rfl
@[simp] theorem Lane.bump_dioUp (l : Lane) (k : Nat) (f : Fld) (n : Nat) : (l.bump k f n).dioUp = l.dioUp := rfl
@[simp] theorem Lane.bump_doVal (l : Lane) (k : Nat) (f : Fld) (n : Nat) : (l.bump k f n).doVal = l.doVal := rfl
@[simp] theorem Lane.bump_doSet (l : Lane) (k : Nat) (f : Fld) (n : Nat) : (l.bump k f n).doSet = l.doSet := rfl
@[simp] theorem Lane.bump_cans (l : Lane) (k : Nat) (f : Fld) (n : Nat) : (l.bump k f n).cans = l.cans := rfl
@[simp] theorem Lane.bump_lockHost (l : Lane) (k : Nat) (f : Fld) (n : Nat) : (l.bump k f n).lockHost = l.lockHost := rfl
@[simp] theorem Lane.bump_lockCnp (l : Lane) (k : Nat) (f : Fld) (n : Nat) : (l.bump k f n).lockCnp = l.lockCnp := rfl
@[simp] theorem Lane.bump_time (l : Lane) (k : Nat) (f : Fld) (n : Nat) : (l.bump k f n).time = l.time := rfl
@[simp] theorem Lane.bump_clk (l : Lane) (k : Nat) (f : Fld) (n : Nat) : (l.bump k f n).clk = l.clk := rfl
@[simp] theorem Lane.bump_slots (l : Lane) (k : Nat) (f : Fld) (n : Nat) : (l.bump k f n).slots = l.slots := rfl
@[simp] theorem Lane.bump_doNext (l : Lane) (k : Nat) (f : Fld) (n : Nat) : (l.bump k f n).doNext = l.doNext := rfl
@[simp] theorem Lane.bump_writes (l : Lane) (k : Nat) (f : Fld) (n : Nat) : (l.bump k f n).writes = l.writes := rfl
@[simp] theorem Lane.bump_formed (l : Lane) (k : Nat) (f : Fld) (n : Nat) : (l.bump k f n).formed = l.formed := rfl
@[simp] theorem Lane.bump_raised (l : Lane) (k : Nat) (f : Fld) (n : Nat) : (l.bump k f n).raised = l.raised := rfl
@[simp] theorem Lane.bump_evAt (l : Lane) (k : Nat) (f : Fld) (n : Nat) : (l.bump k f n).evAt = l.evAt := rfl
@[simp] theorem Lane.bump_evPrev (l : Lane) (k : Nat) (f : Fld) (n : Nat) : (l.bump k f n).evPrev = l.evPrev := rfl
@[simp] theorem Lane.bump_evPrevAt (l : Lane) (k : Nat) (f : Fld) (n : Nat) : (l.bump k f n).evPrevAt = l.evPrevAt := rfl
@[simp] theorem Lane.bump_link (l : Lane) (k : Nat) (f : Fld) (n : Nat) : (l.bump k f n).link = l.link := rfl
@[simp] theorem Lane.bump_adj (l : Lane) (k : Nat) (f : Fld) (n : Nat) : (l.bump k f n).adj = l.adj := rfl
@[simp] theorem Lane.bump_rcd (l : Lane) (k : Nat) (f : Fld) (n : Nat) : (l.bump k f n).rcd = l.rcd := rfl
@[simp] theorem Lane.bump_pnl (l : Lane) (k : Nat) (f : Fld) (n : Nat) : (l.bump k f n).pnl = l.pnl := rfl
@[simp] theorem Lane.bump_fire (l : Lane) (k : Nat) (f : Fld) (n : Nat) : (l.bump k f n).fire = l.fire := rfl
@[simp] theorem Lane.bump_led (l : Lane) (k : Nat) (f : Fld) (n : Nat) : (l.bump k f n).led = l.led := rfl
@[simp] theorem Lane.bump_mw (l : Lane) (k : Nat) (f : Fld) (n : Nat) : (l.bump k f n).mw = l.mw := rfl
@[simp] theorem Lane.bump_store (l : Lane) (k : Nat) (f : Fld) (n : Nat) : (l.bump k f n).store = l.store := rfl
@[simp] theorem Lane.bump_storeBack (l : Lane) (k : Nat) (f : Fld) (n : Nat) : (l.bump k f n).storeBack = l.storeBack := rfl
@[simp] theorem Lane.bump_peerStoreFail (l : Lane) (k : Nat) (f : Fld) (n : Nat) : (l.bump k f n).peerStoreFail = l.peerStoreFail := rfl
@[simp] theorem Lane.wrap_id (l : Lane) (k : Nat) (f : Fld) (n : Nat) : (l.wrap k f n).id = l.id := rfl
@[simp] theorem Lane.wrap_st (l : Lane) (k : Nat) (f : Fld) (n : Nat) : (l.wrap k f n).st = l.st := rfl
@[simp] theorem Lane.wrap_instep (l : Lane) (k : Nat) (f : Fld) (n : Nat) : (l.wrap k f n).instep = l.instep := rfl
@[simp] theorem Lane.wrap_shown (l : Lane) (k : Nat) (f : Fld) (n : Nat) : (l.wrap k f n).shown = l.shown := rfl
@[simp] theorem Lane.wrap_endRegs (l : Lane) (k : Nat) (f : Fld) (n : Nat) : (l.wrap k f n).endRegs = l.endRegs := rfl
@[simp] theorem Lane.wrap_hw (l : Lane) (k : Nat) (f : Fld) (n : Nat) : (l.wrap k f n).hw = l.hw := rfl
@[simp] theorem Lane.wrap_cut (l : Lane) (k : Nat) (f : Fld) (n : Nat) : (l.wrap k f n).cut = l.cut := rfl
@[simp] theorem Lane.wrap_chans (l : Lane) (k : Nat) (f : Fld) (n : Nat) : (l.wrap k f n).chans = l.chans := rfl
@[simp] theorem Lane.wrap_pts (l : Lane) (k : Nat) (f : Fld) (n : Nat) : (l.wrap k f n).pts = l.pts := rfl
@[simp] theorem Lane.wrap_alm (l : Lane) (k : Nat) (f : Fld) (n : Nat) : (l.wrap k f n).alm = l.alm := rfl
@[simp] theorem Lane.wrap_loops (l : Lane) (k : Nat) (f : Fld) (n : Nat) : (l.wrap k f n).loops = l.loops := rfl
@[simp] theorem Lane.wrap_tps (l : Lane) (k : Nat) (f : Fld) (n : Nat) : (l.wrap k f n).tps = l.tps := rfl
@[simp] theorem Lane.wrap_aos (l : Lane) (k : Nat) (f : Fld) (n : Nat) : (l.wrap k f n).aos = l.aos := rfl
@[simp] theorem Lane.wrap_aoLost (l : Lane) (k : Nat) (f : Fld) (n : Nat) : (l.wrap k f n).aoLost = l.aoLost := rfl
@[simp] theorem Lane.wrap_harts (l : Lane) (k : Nat) (f : Fld) (n : Nat) : (l.wrap k f n).harts = l.harts := rfl
@[simp] theorem Lane.wrap_dioUp (l : Lane) (k : Nat) (f : Fld) (n : Nat) : (l.wrap k f n).dioUp = l.dioUp := rfl
@[simp] theorem Lane.wrap_doVal (l : Lane) (k : Nat) (f : Fld) (n : Nat) : (l.wrap k f n).doVal = l.doVal := rfl
@[simp] theorem Lane.wrap_doSet (l : Lane) (k : Nat) (f : Fld) (n : Nat) : (l.wrap k f n).doSet = l.doSet := rfl
@[simp] theorem Lane.wrap_cans (l : Lane) (k : Nat) (f : Fld) (n : Nat) : (l.wrap k f n).cans = l.cans := rfl
@[simp] theorem Lane.wrap_lockHost (l : Lane) (k : Nat) (f : Fld) (n : Nat) : (l.wrap k f n).lockHost = l.lockHost := rfl
@[simp] theorem Lane.wrap_lockCnp (l : Lane) (k : Nat) (f : Fld) (n : Nat) : (l.wrap k f n).lockCnp = l.lockCnp := rfl
@[simp] theorem Lane.wrap_time (l : Lane) (k : Nat) (f : Fld) (n : Nat) : (l.wrap k f n).time = l.time := rfl
@[simp] theorem Lane.wrap_clk (l : Lane) (k : Nat) (f : Fld) (n : Nat) : (l.wrap k f n).clk = l.clk := rfl
@[simp] theorem Lane.wrap_slots (l : Lane) (k : Nat) (f : Fld) (n : Nat) : (l.wrap k f n).slots = l.slots := rfl
@[simp] theorem Lane.wrap_doNext (l : Lane) (k : Nat) (f : Fld) (n : Nat) : (l.wrap k f n).doNext = l.doNext := rfl
@[simp] theorem Lane.wrap_writes (l : Lane) (k : Nat) (f : Fld) (n : Nat) : (l.wrap k f n).writes = l.writes := rfl
@[simp] theorem Lane.wrap_formed (l : Lane) (k : Nat) (f : Fld) (n : Nat) : (l.wrap k f n).formed = l.formed := rfl
@[simp] theorem Lane.wrap_raised (l : Lane) (k : Nat) (f : Fld) (n : Nat) : (l.wrap k f n).raised = l.raised := rfl
@[simp] theorem Lane.wrap_evAt (l : Lane) (k : Nat) (f : Fld) (n : Nat) : (l.wrap k f n).evAt = l.evAt := rfl
@[simp] theorem Lane.wrap_evPrev (l : Lane) (k : Nat) (f : Fld) (n : Nat) : (l.wrap k f n).evPrev = l.evPrev := rfl
@[simp] theorem Lane.wrap_evPrevAt (l : Lane) (k : Nat) (f : Fld) (n : Nat) : (l.wrap k f n).evPrevAt = l.evPrevAt := rfl
@[simp] theorem Lane.wrap_link (l : Lane) (k : Nat) (f : Fld) (n : Nat) : (l.wrap k f n).link = l.link := rfl
@[simp] theorem Lane.wrap_adj (l : Lane) (k : Nat) (f : Fld) (n : Nat) : (l.wrap k f n).adj = l.adj := rfl
@[simp] theorem Lane.wrap_rcd (l : Lane) (k : Nat) (f : Fld) (n : Nat) : (l.wrap k f n).rcd = l.rcd := rfl
@[simp] theorem Lane.wrap_pnl (l : Lane) (k : Nat) (f : Fld) (n : Nat) : (l.wrap k f n).pnl = l.pnl := rfl
@[simp] theorem Lane.wrap_fire (l : Lane) (k : Nat) (f : Fld) (n : Nat) : (l.wrap k f n).fire = l.fire := rfl
@[simp] theorem Lane.wrap_led (l : Lane) (k : Nat) (f : Fld) (n : Nat) : (l.wrap k f n).led = l.led := rfl
@[simp] theorem Lane.wrap_mw (l : Lane) (k : Nat) (f : Fld) (n : Nat) : (l.wrap k f n).mw = l.mw := rfl
@[simp] theorem Lane.wrap_store (l : Lane) (k : Nat) (f : Fld) (n : Nat) : (l.wrap k f n).store = l.store := rfl
@[simp] theorem Lane.wrap_storeBack (l : Lane) (k : Nat) (f : Fld) (n : Nat) : (l.wrap k f n).storeBack = l.storeBack := rfl
@[simp] theorem Lane.wrap_peerStoreFail (l : Lane) (k : Nat) (f : Fld) (n : Nat) : (l.wrap k f n).peerStoreFail = l.peerStoreFail := rfl
@[simp] theorem Lane.evNow_id (l : Lane) (e : Nat) : (l.evNow e).id = l.id := rfl
@[simp] theorem Lane.evNow_st (l : Lane) (e : Nat) : (l.evNow e).st = l.st := rfl
@[simp] theorem Lane.evNow_instep (l : Lane) (e : Nat) : (l.evNow e).instep = l.instep := rfl
@[simp] theorem Lane.evNow_shown (l : Lane) (e : Nat) : (l.evNow e).shown = l.shown := rfl
@[simp] theorem Lane.evNow_endRegs (l : Lane) (e : Nat) : (l.evNow e).endRegs = l.endRegs := rfl
@[simp] theorem Lane.evNow_hw (l : Lane) (e : Nat) : (l.evNow e).hw = l.hw := rfl
@[simp] theorem Lane.evNow_cut (l : Lane) (e : Nat) : (l.evNow e).cut = l.cut := rfl
@[simp] theorem Lane.evNow_chans (l : Lane) (e : Nat) : (l.evNow e).chans = l.chans := rfl
@[simp] theorem Lane.evNow_pts (l : Lane) (e : Nat) : (l.evNow e).pts = l.pts := rfl
@[simp] theorem Lane.evNow_alm (l : Lane) (e : Nat) : (l.evNow e).alm = l.alm := rfl
@[simp] theorem Lane.evNow_loops (l : Lane) (e : Nat) : (l.evNow e).loops = l.loops := rfl
@[simp] theorem Lane.evNow_tps (l : Lane) (e : Nat) : (l.evNow e).tps = l.tps := rfl
@[simp] theorem Lane.evNow_aos (l : Lane) (e : Nat) : (l.evNow e).aos = l.aos := rfl
@[simp] theorem Lane.evNow_aoLost (l : Lane) (e : Nat) : (l.evNow e).aoLost = l.aoLost := rfl
@[simp] theorem Lane.evNow_harts (l : Lane) (e : Nat) : (l.evNow e).harts = l.harts := rfl
@[simp] theorem Lane.evNow_dioUp (l : Lane) (e : Nat) : (l.evNow e).dioUp = l.dioUp := rfl
@[simp] theorem Lane.evNow_doVal (l : Lane) (e : Nat) : (l.evNow e).doVal = l.doVal := rfl
@[simp] theorem Lane.evNow_doSet (l : Lane) (e : Nat) : (l.evNow e).doSet = l.doSet := rfl
@[simp] theorem Lane.evNow_cans (l : Lane) (e : Nat) : (l.evNow e).cans = l.cans := rfl
@[simp] theorem Lane.evNow_lockHost (l : Lane) (e : Nat) : (l.evNow e).lockHost = l.lockHost := rfl
@[simp] theorem Lane.evNow_lockCnp (l : Lane) (e : Nat) : (l.evNow e).lockCnp = l.lockCnp := rfl
@[simp] theorem Lane.evNow_time (l : Lane) (e : Nat) : (l.evNow e).time = l.time := rfl
@[simp] theorem Lane.evNow_clk (l : Lane) (e : Nat) : (l.evNow e).clk = l.clk := rfl
@[simp] theorem Lane.evNow_slots (l : Lane) (e : Nat) : (l.evNow e).slots = l.slots := rfl
@[simp] theorem Lane.evNow_doNext (l : Lane) (e : Nat) : (l.evNow e).doNext = l.doNext := rfl
@[simp] theorem Lane.evNow_writes (l : Lane) (e : Nat) : (l.evNow e).writes = l.writes := rfl
@[simp] theorem Lane.evNow_formed (l : Lane) (e : Nat) : (l.evNow e).formed = l.formed := rfl
@[simp] theorem Lane.evNow_raised (l : Lane) (e : Nat) : (l.evNow e).raised = l.raised := rfl
@[simp] theorem Lane.evNow_evPrev (l : Lane) (e : Nat) : (l.evNow e).evPrev = l.evPrev := rfl
@[simp] theorem Lane.evNow_evPrevAt (l : Lane) (e : Nat) : (l.evNow e).evPrevAt = l.evPrevAt := rfl
@[simp] theorem Lane.evNow_link (l : Lane) (e : Nat) : (l.evNow e).link = l.link := rfl
@[simp] theorem Lane.evNow_adj (l : Lane) (e : Nat) : (l.evNow e).adj = l.adj := rfl
@[simp] theorem Lane.evNow_rcd (l : Lane) (e : Nat) : (l.evNow e).rcd = l.rcd := rfl
@[simp] theorem Lane.evNow_pnl (l : Lane) (e : Nat) : (l.evNow e).pnl = l.pnl := rfl
@[simp] theorem Lane.evNow_fire (l : Lane) (e : Nat) : (l.evNow e).fire = l.fire := rfl
@[simp] theorem Lane.evNow_led (l : Lane) (e : Nat) : (l.evNow e).led = l.led := rfl
@[simp] theorem Lane.evNow_mw (l : Lane) (e : Nat) : (l.evNow e).mw = l.mw := rfl
@[simp] theorem Lane.evNow_store (l : Lane) (e : Nat) : (l.evNow e).store = l.store := rfl
@[simp] theorem Lane.evNow_storeBack (l : Lane) (e : Nat) : (l.evNow e).storeBack = l.storeBack := rfl
@[simp] theorem Lane.evNow_peerStoreFail (l : Lane) (e : Nat) : (l.evNow e).peerStoreFail = l.peerStoreFail := rfl

/-! ### The lane after an event or a record -/

@[simp] theorem Lane.ev_id (l : Lane) (e : Nat) : (l.ev e).id = l.id := rfl
@[simp] theorem Lane.ev_st (l : Lane) (e : Nat) : (l.ev e).st = l.st := rfl
@[simp] theorem Lane.ev_instep (l : Lane) (e : Nat) : (l.ev e).instep = l.instep := rfl
@[simp] theorem Lane.ev_regs (l : Lane) (e : Nat) : (l.ev e).regs = l.regs := rfl
@[simp] theorem Lane.ev_shown (l : Lane) (e : Nat) : (l.ev e).shown = l.shown := rfl
@[simp] theorem Lane.ev_endRegs (l : Lane) (e : Nat) : (l.ev e).endRegs = l.endRegs := rfl
@[simp] theorem Lane.ev_hw (l : Lane) (e : Nat) : (l.ev e).hw = l.hw := rfl
@[simp] theorem Lane.ev_cut (l : Lane) (e : Nat) : (l.ev e).cut = l.cut := rfl
@[simp] theorem Lane.ev_chans (l : Lane) (e : Nat) : (l.ev e).chans = l.chans := rfl
@[simp] theorem Lane.ev_pts (l : Lane) (e : Nat) : (l.ev e).pts = l.pts := rfl
@[simp] theorem Lane.ev_alm (l : Lane) (e : Nat) : (l.ev e).alm = l.alm := rfl
@[simp] theorem Lane.ev_loops (l : Lane) (e : Nat) : (l.ev e).loops = l.loops := rfl
@[simp] theorem Lane.ev_tps (l : Lane) (e : Nat) : (l.ev e).tps = l.tps := rfl
@[simp] theorem Lane.ev_aos (l : Lane) (e : Nat) : (l.ev e).aos = l.aos := rfl
@[simp] theorem Lane.ev_aoLost (l : Lane) (e : Nat) : (l.ev e).aoLost = l.aoLost := rfl
@[simp] theorem Lane.ev_harts (l : Lane) (e : Nat) : (l.ev e).harts = l.harts := rfl
@[simp] theorem Lane.ev_dioUp (l : Lane) (e : Nat) : (l.ev e).dioUp = l.dioUp := rfl
@[simp] theorem Lane.ev_doVal (l : Lane) (e : Nat) : (l.ev e).doVal = l.doVal := rfl
@[simp] theorem Lane.ev_doSet (l : Lane) (e : Nat) : (l.ev e).doSet = l.doSet := rfl
@[simp] theorem Lane.ev_cans (l : Lane) (e : Nat) : (l.ev e).cans = l.cans := rfl
@[simp] theorem Lane.ev_lockHost (l : Lane) (e : Nat) : (l.ev e).lockHost = l.lockHost := rfl
@[simp] theorem Lane.ev_lockCnp (l : Lane) (e : Nat) : (l.ev e).lockCnp = l.lockCnp := rfl
@[simp] theorem Lane.ev_time (l : Lane) (e : Nat) : (l.ev e).time = l.time := rfl
@[simp] theorem Lane.ev_clk (l : Lane) (e : Nat) : (l.ev e).clk = l.clk := rfl
@[simp] theorem Lane.ev_slots (l : Lane) (e : Nat) : (l.ev e).slots = l.slots := rfl
@[simp] theorem Lane.ev_doNext (l : Lane) (e : Nat) : (l.ev e).doNext = l.doNext := rfl
@[simp] theorem Lane.ev_writes (l : Lane) (e : Nat) : (l.ev e).writes = l.writes := rfl
@[simp] theorem Lane.ev_formed (l : Lane) (e : Nat) : (l.ev e).formed = l.formed := rfl
@[simp] theorem Lane.ev_evAt (l : Lane) (e : Nat) : (l.ev e).evAt = l.evAt := rfl
@[simp] theorem Lane.ev_evPrev (l : Lane) (e : Nat) : (l.ev e).evPrev = l.evPrev := rfl
@[simp] theorem Lane.ev_evPrevAt (l : Lane) (e : Nat) : (l.ev e).evPrevAt = l.evPrevAt := rfl
@[simp] theorem Lane.ev_link (l : Lane) (e : Nat) : (l.ev e).link = l.link := rfl
@[simp] theorem Lane.ev_adj (l : Lane) (e : Nat) : (l.ev e).adj = l.adj := rfl
@[simp] theorem Lane.ev_rcd (l : Lane) (e : Nat) : (l.ev e).rcd = l.rcd := rfl
@[simp] theorem Lane.ev_pnl (l : Lane) (e : Nat) : (l.ev e).pnl = l.pnl := rfl
@[simp] theorem Lane.ev_fire (l : Lane) (e : Nat) : (l.ev e).fire = l.fire := rfl
@[simp] theorem Lane.ev_led (l : Lane) (e : Nat) : (l.ev e).led = l.led := rfl
@[simp] theorem Lane.ev_mw (l : Lane) (e : Nat) : (l.ev e).mw = l.mw := rfl
@[simp] theorem Lane.ev_store (l : Lane) (e : Nat) : (l.ev e).store = l.store := rfl
@[simp] theorem Lane.ev_storeBack (l : Lane) (e : Nat) : (l.ev e).storeBack = l.storeBack := rfl
@[simp] theorem Lane.ev_peerStoreFail (l : Lane) (e : Nat) : (l.ev e).peerStoreFail = l.peerStoreFail := rfl
@[simp] theorem Lane.evCut_id (l : Lane) (e : Nat) : (l.evCut e).id = l.id := rfl
@[simp] theorem Lane.evCut_st (l : Lane) (e : Nat) : (l.evCut e).st = l.st := rfl
@[simp] theorem Lane.evCut_instep (l : Lane) (e : Nat) : (l.evCut e).instep = l.instep := rfl
@[simp] theorem Lane.evCut_regs (l : Lane) (e : Nat) : (l.evCut e).regs = l.regs := rfl
@[simp] theorem Lane.evCut_shown (l : Lane) (e : Nat) : (l.evCut e).shown = l.shown := rfl
@[simp] theorem Lane.evCut_endRegs (l : Lane) (e : Nat) : (l.evCut e).endRegs = l.endRegs := rfl
@[simp] theorem Lane.evCut_hw (l : Lane) (e : Nat) : (l.evCut e).hw = l.hw := rfl
@[simp] theorem Lane.evCut_chans (l : Lane) (e : Nat) : (l.evCut e).chans = l.chans := rfl
@[simp] theorem Lane.evCut_pts (l : Lane) (e : Nat) : (l.evCut e).pts = l.pts := rfl
@[simp] theorem Lane.evCut_alm (l : Lane) (e : Nat) : (l.evCut e).alm = l.alm := rfl
@[simp] theorem Lane.evCut_loops (l : Lane) (e : Nat) : (l.evCut e).loops = l.loops := rfl
@[simp] theorem Lane.evCut_tps (l : Lane) (e : Nat) : (l.evCut e).tps = l.tps := rfl
@[simp] theorem Lane.evCut_aos (l : Lane) (e : Nat) : (l.evCut e).aos = l.aos := rfl
@[simp] theorem Lane.evCut_aoLost (l : Lane) (e : Nat) : (l.evCut e).aoLost = l.aoLost := rfl
@[simp] theorem Lane.evCut_harts (l : Lane) (e : Nat) : (l.evCut e).harts = l.harts := rfl
@[simp] theorem Lane.evCut_dioUp (l : Lane) (e : Nat) : (l.evCut e).dioUp = l.dioUp := rfl
@[simp] theorem Lane.evCut_doVal (l : Lane) (e : Nat) : (l.evCut e).doVal = l.doVal := rfl
@[simp] theorem Lane.evCut_doSet (l : Lane) (e : Nat) : (l.evCut e).doSet = l.doSet := rfl
@[simp] theorem Lane.evCut_cans (l : Lane) (e : Nat) : (l.evCut e).cans = l.cans := rfl
@[simp] theorem Lane.evCut_lockHost (l : Lane) (e : Nat) : (l.evCut e).lockHost = l.lockHost := rfl
@[simp] theorem Lane.evCut_lockCnp (l : Lane) (e : Nat) : (l.evCut e).lockCnp = l.lockCnp := rfl
@[simp] theorem Lane.evCut_time (l : Lane) (e : Nat) : (l.evCut e).time = l.time := rfl
@[simp] theorem Lane.evCut_clk (l : Lane) (e : Nat) : (l.evCut e).clk = l.clk := rfl
@[simp] theorem Lane.evCut_slots (l : Lane) (e : Nat) : (l.evCut e).slots = l.slots := rfl
@[simp] theorem Lane.evCut_doNext (l : Lane) (e : Nat) : (l.evCut e).doNext = l.doNext := rfl
@[simp] theorem Lane.evCut_writes (l : Lane) (e : Nat) : (l.evCut e).writes = l.writes := rfl
@[simp] theorem Lane.evCut_formed (l : Lane) (e : Nat) : (l.evCut e).formed = l.formed := rfl
@[simp] theorem Lane.evCut_raised (l : Lane) (e : Nat) : (l.evCut e).raised = l.raised := rfl
@[simp] theorem Lane.evCut_evAt (l : Lane) (e : Nat) : (l.evCut e).evAt = l.evAt := rfl
@[simp] theorem Lane.evCut_evPrev (l : Lane) (e : Nat) : (l.evCut e).evPrev = l.evPrev := rfl
@[simp] theorem Lane.evCut_evPrevAt (l : Lane) (e : Nat) : (l.evCut e).evPrevAt = l.evPrevAt := rfl
@[simp] theorem Lane.evCut_link (l : Lane) (e : Nat) : (l.evCut e).link = l.link := rfl
@[simp] theorem Lane.evCut_adj (l : Lane) (e : Nat) : (l.evCut e).adj = l.adj := rfl
@[simp] theorem Lane.evCut_rcd (l : Lane) (e : Nat) : (l.evCut e).rcd = l.rcd := rfl
@[simp] theorem Lane.evCut_pnl (l : Lane) (e : Nat) : (l.evCut e).pnl = l.pnl := rfl
@[simp] theorem Lane.evCut_fire (l : Lane) (e : Nat) : (l.evCut e).fire = l.fire := rfl
@[simp] theorem Lane.evCut_led (l : Lane) (e : Nat) : (l.evCut e).led = l.led := rfl
@[simp] theorem Lane.evCut_mw (l : Lane) (e : Nat) : (l.evCut e).mw = l.mw := rfl
@[simp] theorem Lane.evCut_store (l : Lane) (e : Nat) : (l.evCut e).store = l.store := rfl
@[simp] theorem Lane.evCut_storeBack (l : Lane) (e : Nat) : (l.evCut e).storeBack = l.storeBack := rfl
@[simp] theorem Lane.evCut_peerStoreFail (l : Lane) (e : Nat) : (l.evCut e).peerStoreFail = l.peerStoreFail := rfl
@[simp] theorem Lane.record_id (l : Lane) (code time : Nat) (p0 p1 p2 p3 : Word) (rank : Nat) : (l.record code time p0 p1 p2 p3 rank).id = l.id := rfl
@[simp] theorem Lane.record_st (l : Lane) (code time : Nat) (p0 p1 p2 p3 : Word) (rank : Nat) : (l.record code time p0 p1 p2 p3 rank).st = l.st := rfl
@[simp] theorem Lane.record_instep (l : Lane) (code time : Nat) (p0 p1 p2 p3 : Word) (rank : Nat) : (l.record code time p0 p1 p2 p3 rank).instep = l.instep := rfl
@[simp] theorem Lane.record_regs (l : Lane) (code time : Nat) (p0 p1 p2 p3 : Word) (rank : Nat) : (l.record code time p0 p1 p2 p3 rank).regs = l.regs := rfl
@[simp] theorem Lane.record_shown (l : Lane) (code time : Nat) (p0 p1 p2 p3 : Word) (rank : Nat) : (l.record code time p0 p1 p2 p3 rank).shown = l.shown := rfl
@[simp] theorem Lane.record_endRegs (l : Lane) (code time : Nat) (p0 p1 p2 p3 : Word) (rank : Nat) : (l.record code time p0 p1 p2 p3 rank).endRegs = l.endRegs := rfl
@[simp] theorem Lane.record_hw (l : Lane) (code time : Nat) (p0 p1 p2 p3 : Word) (rank : Nat) : (l.record code time p0 p1 p2 p3 rank).hw = l.hw := rfl
@[simp] theorem Lane.record_cut (l : Lane) (code time : Nat) (p0 p1 p2 p3 : Word) (rank : Nat) : (l.record code time p0 p1 p2 p3 rank).cut = l.cut := rfl
@[simp] theorem Lane.record_chans (l : Lane) (code time : Nat) (p0 p1 p2 p3 : Word) (rank : Nat) : (l.record code time p0 p1 p2 p3 rank).chans = l.chans := rfl
@[simp] theorem Lane.record_pts (l : Lane) (code time : Nat) (p0 p1 p2 p3 : Word) (rank : Nat) : (l.record code time p0 p1 p2 p3 rank).pts = l.pts := rfl
@[simp] theorem Lane.record_alm (l : Lane) (code time : Nat) (p0 p1 p2 p3 : Word) (rank : Nat) : (l.record code time p0 p1 p2 p3 rank).alm = l.alm := rfl
@[simp] theorem Lane.record_loops (l : Lane) (code time : Nat) (p0 p1 p2 p3 : Word) (rank : Nat) : (l.record code time p0 p1 p2 p3 rank).loops = l.loops := rfl
@[simp] theorem Lane.record_tps (l : Lane) (code time : Nat) (p0 p1 p2 p3 : Word) (rank : Nat) : (l.record code time p0 p1 p2 p3 rank).tps = l.tps := rfl
@[simp] theorem Lane.record_aos (l : Lane) (code time : Nat) (p0 p1 p2 p3 : Word) (rank : Nat) : (l.record code time p0 p1 p2 p3 rank).aos = l.aos := rfl
@[simp] theorem Lane.record_aoLost (l : Lane) (code time : Nat) (p0 p1 p2 p3 : Word) (rank : Nat) : (l.record code time p0 p1 p2 p3 rank).aoLost = l.aoLost := rfl
@[simp] theorem Lane.record_harts (l : Lane) (code time : Nat) (p0 p1 p2 p3 : Word) (rank : Nat) : (l.record code time p0 p1 p2 p3 rank).harts = l.harts := rfl
@[simp] theorem Lane.record_dioUp (l : Lane) (code time : Nat) (p0 p1 p2 p3 : Word) (rank : Nat) : (l.record code time p0 p1 p2 p3 rank).dioUp = l.dioUp := rfl
@[simp] theorem Lane.record_doVal (l : Lane) (code time : Nat) (p0 p1 p2 p3 : Word) (rank : Nat) : (l.record code time p0 p1 p2 p3 rank).doVal = l.doVal := rfl
@[simp] theorem Lane.record_doSet (l : Lane) (code time : Nat) (p0 p1 p2 p3 : Word) (rank : Nat) : (l.record code time p0 p1 p2 p3 rank).doSet = l.doSet := rfl
@[simp] theorem Lane.record_cans (l : Lane) (code time : Nat) (p0 p1 p2 p3 : Word) (rank : Nat) : (l.record code time p0 p1 p2 p3 rank).cans = l.cans := rfl
@[simp] theorem Lane.record_lockHost (l : Lane) (code time : Nat) (p0 p1 p2 p3 : Word) (rank : Nat) : (l.record code time p0 p1 p2 p3 rank).lockHost = l.lockHost := rfl
@[simp] theorem Lane.record_lockCnp (l : Lane) (code time : Nat) (p0 p1 p2 p3 : Word) (rank : Nat) : (l.record code time p0 p1 p2 p3 rank).lockCnp = l.lockCnp := rfl
@[simp] theorem Lane.record_time (l : Lane) (code time : Nat) (p0 p1 p2 p3 : Word) (rank : Nat) : (l.record code time p0 p1 p2 p3 rank).time = l.time := rfl
@[simp] theorem Lane.record_clk (l : Lane) (code time : Nat) (p0 p1 p2 p3 : Word) (rank : Nat) : (l.record code time p0 p1 p2 p3 rank).clk = l.clk := rfl
@[simp] theorem Lane.record_slots (l : Lane) (code time : Nat) (p0 p1 p2 p3 : Word) (rank : Nat) : (l.record code time p0 p1 p2 p3 rank).slots = l.slots := rfl
@[simp] theorem Lane.record_doNext (l : Lane) (code time : Nat) (p0 p1 p2 p3 : Word) (rank : Nat) : (l.record code time p0 p1 p2 p3 rank).doNext = l.doNext := rfl
@[simp] theorem Lane.record_writes (l : Lane) (code time : Nat) (p0 p1 p2 p3 : Word) (rank : Nat) : (l.record code time p0 p1 p2 p3 rank).writes = l.writes := rfl
@[simp] theorem Lane.record_raised (l : Lane) (code time : Nat) (p0 p1 p2 p3 : Word) (rank : Nat) : (l.record code time p0 p1 p2 p3 rank).raised = l.raised := rfl
@[simp] theorem Lane.record_evAt (l : Lane) (code time : Nat) (p0 p1 p2 p3 : Word) (rank : Nat) : (l.record code time p0 p1 p2 p3 rank).evAt = l.evAt := rfl
@[simp] theorem Lane.record_evPrev (l : Lane) (code time : Nat) (p0 p1 p2 p3 : Word) (rank : Nat) : (l.record code time p0 p1 p2 p3 rank).evPrev = l.evPrev := rfl
@[simp] theorem Lane.record_evPrevAt (l : Lane) (code time : Nat) (p0 p1 p2 p3 : Word) (rank : Nat) : (l.record code time p0 p1 p2 p3 rank).evPrevAt = l.evPrevAt := rfl
@[simp] theorem Lane.record_link (l : Lane) (code time : Nat) (p0 p1 p2 p3 : Word) (rank : Nat) : (l.record code time p0 p1 p2 p3 rank).link = l.link := rfl
@[simp] theorem Lane.record_adj (l : Lane) (code time : Nat) (p0 p1 p2 p3 : Word) (rank : Nat) : (l.record code time p0 p1 p2 p3 rank).adj = l.adj := rfl
@[simp] theorem Lane.record_rcd (l : Lane) (code time : Nat) (p0 p1 p2 p3 : Word) (rank : Nat) : (l.record code time p0 p1 p2 p3 rank).rcd = l.rcd := rfl
@[simp] theorem Lane.record_pnl (l : Lane) (code time : Nat) (p0 p1 p2 p3 : Word) (rank : Nat) : (l.record code time p0 p1 p2 p3 rank).pnl = l.pnl := rfl
@[simp] theorem Lane.record_fire (l : Lane) (code time : Nat) (p0 p1 p2 p3 : Word) (rank : Nat) : (l.record code time p0 p1 p2 p3 rank).fire = l.fire := rfl
@[simp] theorem Lane.record_led (l : Lane) (code time : Nat) (p0 p1 p2 p3 : Word) (rank : Nat) : (l.record code time p0 p1 p2 p3 rank).led = l.led := rfl
@[simp] theorem Lane.record_mw (l : Lane) (code time : Nat) (p0 p1 p2 p3 : Word) (rank : Nat) : (l.record code time p0 p1 p2 p3 rank).mw = l.mw := rfl
@[simp] theorem Lane.record_store (l : Lane) (code time : Nat) (p0 p1 p2 p3 : Word) (rank : Nat) : (l.record code time p0 p1 p2 p3 rank).store = l.store := rfl
@[simp] theorem Lane.record_storeBack (l : Lane) (code time : Nat) (p0 p1 p2 p3 : Word) (rank : Nat) : (l.record code time p0 p1 p2 p3 rank).storeBack = l.storeBack := rfl
@[simp] theorem Lane.record_peerStoreFail (l : Lane) (code time : Nat) (p0 p1 p2 p3 : Word) (rank : Nat) : (l.record code time p0 p1 p2 p3 rank).peerStoreFail = l.peerStoreFail := rfl
@[simp] theorem Lane.recCut_id (l : Lane) (code time : Nat) (p0 p1 p2 p3 : Word) : (l.recCut code time p0 p1 p2 p3).id = l.id := rfl
@[simp] theorem Lane.recCut_st (l : Lane) (code time : Nat) (p0 p1 p2 p3 : Word) : (l.recCut code time p0 p1 p2 p3).st = l.st := rfl
@[simp] theorem Lane.recCut_instep (l : Lane) (code time : Nat) (p0 p1 p2 p3 : Word) : (l.recCut code time p0 p1 p2 p3).instep = l.instep := rfl
@[simp] theorem Lane.recCut_regs (l : Lane) (code time : Nat) (p0 p1 p2 p3 : Word) : (l.recCut code time p0 p1 p2 p3).regs = l.regs := rfl
@[simp] theorem Lane.recCut_shown (l : Lane) (code time : Nat) (p0 p1 p2 p3 : Word) : (l.recCut code time p0 p1 p2 p3).shown = l.shown := rfl
@[simp] theorem Lane.recCut_endRegs (l : Lane) (code time : Nat) (p0 p1 p2 p3 : Word) : (l.recCut code time p0 p1 p2 p3).endRegs = l.endRegs := rfl
@[simp] theorem Lane.recCut_hw (l : Lane) (code time : Nat) (p0 p1 p2 p3 : Word) : (l.recCut code time p0 p1 p2 p3).hw = l.hw := rfl
@[simp] theorem Lane.recCut_chans (l : Lane) (code time : Nat) (p0 p1 p2 p3 : Word) : (l.recCut code time p0 p1 p2 p3).chans = l.chans := rfl
@[simp] theorem Lane.recCut_pts (l : Lane) (code time : Nat) (p0 p1 p2 p3 : Word) : (l.recCut code time p0 p1 p2 p3).pts = l.pts := rfl
@[simp] theorem Lane.recCut_alm (l : Lane) (code time : Nat) (p0 p1 p2 p3 : Word) : (l.recCut code time p0 p1 p2 p3).alm = l.alm := rfl
@[simp] theorem Lane.recCut_loops (l : Lane) (code time : Nat) (p0 p1 p2 p3 : Word) : (l.recCut code time p0 p1 p2 p3).loops = l.loops := rfl
@[simp] theorem Lane.recCut_tps (l : Lane) (code time : Nat) (p0 p1 p2 p3 : Word) : (l.recCut code time p0 p1 p2 p3).tps = l.tps := rfl
@[simp] theorem Lane.recCut_aos (l : Lane) (code time : Nat) (p0 p1 p2 p3 : Word) : (l.recCut code time p0 p1 p2 p3).aos = l.aos := rfl
@[simp] theorem Lane.recCut_aoLost (l : Lane) (code time : Nat) (p0 p1 p2 p3 : Word) : (l.recCut code time p0 p1 p2 p3).aoLost = l.aoLost := rfl
@[simp] theorem Lane.recCut_harts (l : Lane) (code time : Nat) (p0 p1 p2 p3 : Word) : (l.recCut code time p0 p1 p2 p3).harts = l.harts := rfl
@[simp] theorem Lane.recCut_dioUp (l : Lane) (code time : Nat) (p0 p1 p2 p3 : Word) : (l.recCut code time p0 p1 p2 p3).dioUp = l.dioUp := rfl
@[simp] theorem Lane.recCut_doVal (l : Lane) (code time : Nat) (p0 p1 p2 p3 : Word) : (l.recCut code time p0 p1 p2 p3).doVal = l.doVal := rfl
@[simp] theorem Lane.recCut_doSet (l : Lane) (code time : Nat) (p0 p1 p2 p3 : Word) : (l.recCut code time p0 p1 p2 p3).doSet = l.doSet := rfl
@[simp] theorem Lane.recCut_cans (l : Lane) (code time : Nat) (p0 p1 p2 p3 : Word) : (l.recCut code time p0 p1 p2 p3).cans = l.cans := rfl
@[simp] theorem Lane.recCut_lockHost (l : Lane) (code time : Nat) (p0 p1 p2 p3 : Word) : (l.recCut code time p0 p1 p2 p3).lockHost = l.lockHost := rfl
@[simp] theorem Lane.recCut_lockCnp (l : Lane) (code time : Nat) (p0 p1 p2 p3 : Word) : (l.recCut code time p0 p1 p2 p3).lockCnp = l.lockCnp := rfl
@[simp] theorem Lane.recCut_time (l : Lane) (code time : Nat) (p0 p1 p2 p3 : Word) : (l.recCut code time p0 p1 p2 p3).time = l.time := rfl
@[simp] theorem Lane.recCut_clk (l : Lane) (code time : Nat) (p0 p1 p2 p3 : Word) : (l.recCut code time p0 p1 p2 p3).clk = l.clk := rfl
@[simp] theorem Lane.recCut_slots (l : Lane) (code time : Nat) (p0 p1 p2 p3 : Word) : (l.recCut code time p0 p1 p2 p3).slots = l.slots := rfl
@[simp] theorem Lane.recCut_doNext (l : Lane) (code time : Nat) (p0 p1 p2 p3 : Word) : (l.recCut code time p0 p1 p2 p3).doNext = l.doNext := rfl
@[simp] theorem Lane.recCut_writes (l : Lane) (code time : Nat) (p0 p1 p2 p3 : Word) : (l.recCut code time p0 p1 p2 p3).writes = l.writes := rfl
@[simp] theorem Lane.recCut_formed (l : Lane) (code time : Nat) (p0 p1 p2 p3 : Word) : (l.recCut code time p0 p1 p2 p3).formed = l.formed := rfl
@[simp] theorem Lane.recCut_raised (l : Lane) (code time : Nat) (p0 p1 p2 p3 : Word) : (l.recCut code time p0 p1 p2 p3).raised = l.raised := rfl
@[simp] theorem Lane.recCut_evAt (l : Lane) (code time : Nat) (p0 p1 p2 p3 : Word) : (l.recCut code time p0 p1 p2 p3).evAt = l.evAt := rfl
@[simp] theorem Lane.recCut_evPrev (l : Lane) (code time : Nat) (p0 p1 p2 p3 : Word) : (l.recCut code time p0 p1 p2 p3).evPrev = l.evPrev := rfl
@[simp] theorem Lane.recCut_evPrevAt (l : Lane) (code time : Nat) (p0 p1 p2 p3 : Word) : (l.recCut code time p0 p1 p2 p3).evPrevAt = l.evPrevAt := rfl
@[simp] theorem Lane.recCut_link (l : Lane) (code time : Nat) (p0 p1 p2 p3 : Word) : (l.recCut code time p0 p1 p2 p3).link = l.link := rfl
@[simp] theorem Lane.recCut_adj (l : Lane) (code time : Nat) (p0 p1 p2 p3 : Word) : (l.recCut code time p0 p1 p2 p3).adj = l.adj := rfl
@[simp] theorem Lane.recCut_rcd (l : Lane) (code time : Nat) (p0 p1 p2 p3 : Word) : (l.recCut code time p0 p1 p2 p3).rcd = l.rcd := rfl
@[simp] theorem Lane.recCut_pnl (l : Lane) (code time : Nat) (p0 p1 p2 p3 : Word) : (l.recCut code time p0 p1 p2 p3).pnl = l.pnl := rfl
@[simp] theorem Lane.recCut_fire (l : Lane) (code time : Nat) (p0 p1 p2 p3 : Word) : (l.recCut code time p0 p1 p2 p3).fire = l.fire := rfl
@[simp] theorem Lane.recCut_led (l : Lane) (code time : Nat) (p0 p1 p2 p3 : Word) : (l.recCut code time p0 p1 p2 p3).led = l.led := rfl
@[simp] theorem Lane.recCut_mw (l : Lane) (code time : Nat) (p0 p1 p2 p3 : Word) : (l.recCut code time p0 p1 p2 p3).mw = l.mw := rfl
@[simp] theorem Lane.recCut_store (l : Lane) (code time : Nat) (p0 p1 p2 p3 : Word) : (l.recCut code time p0 p1 p2 p3).store = l.store := rfl
@[simp] theorem Lane.recCut_storeBack (l : Lane) (code time : Nat) (p0 p1 p2 p3 : Word) : (l.recCut code time p0 p1 p2 p3).storeBack = l.storeBack := rfl
@[simp] theorem Lane.recCut_peerStoreFail (l : Lane) (code time : Nat) (p0 p1 p2 p3 : Word) : (l.recCut code time p0 p1 p2 p3).peerStoreFail = l.peerStoreFail := rfl

/-! ### The shared part after a register write -/

@[simp] theorem Shared.wr_gt (h : Shared) (k : Nat) (w : Word) : (h.wr k w).gt = h.gt := rfl
@[simp] theorem Shared.wr_grade (h : Shared) (k : Nat) (w : Word) : (h.wr k w).grade = h.grade := rfl
@[simp] theorem Shared.wr_auth (h : Shared) (k : Nat) (w : Word) : (h.wr k w).auth = h.auth := rfl
@[simp] theorem Shared.wr_hold (h : Shared) (k : Nat) (w : Word) : (h.wr k w).hold = h.hold := rfl
@[simp] theorem Shared.wr_bisque (h : Shared) (k : Nat) (w : Word) : (h.wr k w).bisque = h.bisque := rfl
@[simp] theorem Shared.wr_chans (h : Shared) (k : Nat) (w : Word) : (h.wr k w).chans = h.chans := rfl
@[simp] theorem Shared.wr_tiles (h : Shared) (k : Nat) (w : Word) : (h.wr k w).tiles = h.tiles := rfl
@[simp] theorem Shared.wr_injAt (h : Shared) (k : Nat) (w : Word) : (h.wr k w).injAt = h.injAt := rfl
@[simp] theorem Shared.wr_aos (h : Shared) (k : Nat) (w : Word) : (h.wr k w).aos = h.aos := rfl
@[simp] theorem Shared.wr_aoutOn (h : Shared) (k : Nat) (w : Word) : (h.wr k w).aoutOn = h.aoutOn := rfl
@[simp] theorem Shared.wr_dis (h : Shared) (k : Nat) (w : Word) : (h.wr k w).dis = h.dis := rfl
@[simp] theorem Shared.wr_dos (h : Shared) (k : Nat) (w : Word) : (h.wr k w).dos = h.dos := rfl
@[simp] theorem Shared.wr_banks (h : Shared) (k : Nat) (w : Word) : (h.wr k w).banks = h.banks := rfl
@[simp] theorem Shared.wr_doRel (h : Shared) (k : Nat) (w : Word) : (h.wr k w).doRel = h.doRel := rfl
@[simp] theorem Shared.wr_doLive (h : Shared) (k : Nat) (w : Word) : (h.wr k w).doLive = h.doLive := rfl
@[simp] theorem Shared.wr_dioAt (h : Shared) (k : Nat) (w : Word) : (h.wr k w).dioAt = h.dioAt := rfl
@[simp] theorem Shared.wr_markLost (h : Shared) (k : Nat) (w : Word) : (h.wr k w).markLost = h.markLost := rfl
@[simp] theorem Shared.wr_markGap (h : Shared) (k : Nat) (w : Word) : (h.wr k w).markGap = h.markGap := rfl
@[simp] theorem Shared.wr_cans (h : Shared) (k : Nat) (w : Word) : (h.wr k w).cans = h.cans := rfl
@[simp] theorem Shared.wr_lossSig (h : Shared) (k : Nat) (w : Word) : (h.wr k w).lossSig = h.lossSig := rfl
@[simp] theorem Shared.wr_pnl (h : Shared) (k : Nat) (w : Word) : (h.wr k w).pnl = h.pnl := rfl
@[simp] theorem Shared.wr_nor (h : Shared) (k : Nat) (w : Word) : (h.wr k w).nor = h.nor := rfl
@[simp] theorem Shared.wr_start (h : Shared) (k : Nat) (w : Word) : (h.wr k w).start = h.start := rfl
@[simp] theorem Shared.wr_pwr (h : Shared) (k : Nat) (w : Word) : (h.wr k w).pwr = h.pwr := rfl
@[simp] theorem Shared.wr_sel (h : Shared) (k : Nat) (w : Word) : (h.wr k w).sel = h.sel := rfl
@[simp] theorem Shared.wr_wqEnd (h : Shared) (k : Nat) (w : Word) : (h.wr k w).wqEnd = h.wqEnd := rfl
@[simp] theorem Shared.wr_hpOut (h : Shared) (k : Nat) (w : Word) : (h.wr k w).hpOut = h.hpOut := rfl
@[simp] theorem Shared.wr_free (h : Shared) (k : Nat) (w : Word) : (h.wr k w).free = h.free := rfl
@[simp] theorem Shared.wr_tap (h : Shared) (k : Nat) (w : Word) : (h.wr k w).tap = h.tap := rfl
@[simp] theorem Shared.wr_ring (h : Shared) (k : Nat) (w : Word) : (h.wr k w).ring = h.ring := rfl
@[simp] theorem Shared.setF_gt (h : Shared) (k : Nat) (f : Fld) (v : Nat) : (h.setF k f v).gt = h.gt := rfl
@[simp] theorem Shared.setF_grade (h : Shared) (k : Nat) (f : Fld) (v : Nat) : (h.setF k f v).grade = h.grade := rfl
@[simp] theorem Shared.setF_auth (h : Shared) (k : Nat) (f : Fld) (v : Nat) : (h.setF k f v).auth = h.auth := rfl
@[simp] theorem Shared.setF_hold (h : Shared) (k : Nat) (f : Fld) (v : Nat) : (h.setF k f v).hold = h.hold := rfl
@[simp] theorem Shared.setF_bisque (h : Shared) (k : Nat) (f : Fld) (v : Nat) : (h.setF k f v).bisque = h.bisque := rfl
@[simp] theorem Shared.setF_chans (h : Shared) (k : Nat) (f : Fld) (v : Nat) : (h.setF k f v).chans = h.chans := rfl
@[simp] theorem Shared.setF_tiles (h : Shared) (k : Nat) (f : Fld) (v : Nat) : (h.setF k f v).tiles = h.tiles := rfl
@[simp] theorem Shared.setF_injAt (h : Shared) (k : Nat) (f : Fld) (v : Nat) : (h.setF k f v).injAt = h.injAt := rfl
@[simp] theorem Shared.setF_aos (h : Shared) (k : Nat) (f : Fld) (v : Nat) : (h.setF k f v).aos = h.aos := rfl
@[simp] theorem Shared.setF_aoutOn (h : Shared) (k : Nat) (f : Fld) (v : Nat) : (h.setF k f v).aoutOn = h.aoutOn := rfl
@[simp] theorem Shared.setF_dis (h : Shared) (k : Nat) (f : Fld) (v : Nat) : (h.setF k f v).dis = h.dis := rfl
@[simp] theorem Shared.setF_dos (h : Shared) (k : Nat) (f : Fld) (v : Nat) : (h.setF k f v).dos = h.dos := rfl
@[simp] theorem Shared.setF_banks (h : Shared) (k : Nat) (f : Fld) (v : Nat) : (h.setF k f v).banks = h.banks := rfl
@[simp] theorem Shared.setF_doRel (h : Shared) (k : Nat) (f : Fld) (v : Nat) : (h.setF k f v).doRel = h.doRel := rfl
@[simp] theorem Shared.setF_doLive (h : Shared) (k : Nat) (f : Fld) (v : Nat) : (h.setF k f v).doLive = h.doLive := rfl
@[simp] theorem Shared.setF_dioAt (h : Shared) (k : Nat) (f : Fld) (v : Nat) : (h.setF k f v).dioAt = h.dioAt := rfl
@[simp] theorem Shared.setF_markLost (h : Shared) (k : Nat) (f : Fld) (v : Nat) : (h.setF k f v).markLost = h.markLost := rfl
@[simp] theorem Shared.setF_markGap (h : Shared) (k : Nat) (f : Fld) (v : Nat) : (h.setF k f v).markGap = h.markGap := rfl
@[simp] theorem Shared.setF_cans (h : Shared) (k : Nat) (f : Fld) (v : Nat) : (h.setF k f v).cans = h.cans := rfl
@[simp] theorem Shared.setF_lossSig (h : Shared) (k : Nat) (f : Fld) (v : Nat) : (h.setF k f v).lossSig = h.lossSig := rfl
@[simp] theorem Shared.setF_pnl (h : Shared) (k : Nat) (f : Fld) (v : Nat) : (h.setF k f v).pnl = h.pnl := rfl
@[simp] theorem Shared.setF_nor (h : Shared) (k : Nat) (f : Fld) (v : Nat) : (h.setF k f v).nor = h.nor := rfl
@[simp] theorem Shared.setF_start (h : Shared) (k : Nat) (f : Fld) (v : Nat) : (h.setF k f v).start = h.start := rfl
@[simp] theorem Shared.setF_pwr (h : Shared) (k : Nat) (f : Fld) (v : Nat) : (h.setF k f v).pwr = h.pwr := rfl
@[simp] theorem Shared.setF_sel (h : Shared) (k : Nat) (f : Fld) (v : Nat) : (h.setF k f v).sel = h.sel := rfl
@[simp] theorem Shared.setF_wqEnd (h : Shared) (k : Nat) (f : Fld) (v : Nat) : (h.setF k f v).wqEnd = h.wqEnd := rfl
@[simp] theorem Shared.setF_hpOut (h : Shared) (k : Nat) (f : Fld) (v : Nat) : (h.setF k f v).hpOut = h.hpOut := rfl
@[simp] theorem Shared.setF_free (h : Shared) (k : Nat) (f : Fld) (v : Nat) : (h.setF k f v).free = h.free := rfl
@[simp] theorem Shared.setF_tap (h : Shared) (k : Nat) (f : Fld) (v : Nat) : (h.setF k f v).tap = h.tap := rfl
@[simp] theorem Shared.setF_ring (h : Shared) (k : Nat) (f : Fld) (v : Nat) : (h.setF k f v).ring = h.ring := rfl
@[simp] theorem Shared.setB_gt (h : Shared) (k : Nat) (f : Fld) (v : Bool) : (h.setB k f v).gt = h.gt := rfl
@[simp] theorem Shared.setB_grade (h : Shared) (k : Nat) (f : Fld) (v : Bool) : (h.setB k f v).grade = h.grade := rfl
@[simp] theorem Shared.setB_auth (h : Shared) (k : Nat) (f : Fld) (v : Bool) : (h.setB k f v).auth = h.auth := rfl
@[simp] theorem Shared.setB_hold (h : Shared) (k : Nat) (f : Fld) (v : Bool) : (h.setB k f v).hold = h.hold := rfl
@[simp] theorem Shared.setB_bisque (h : Shared) (k : Nat) (f : Fld) (v : Bool) : (h.setB k f v).bisque = h.bisque := rfl
@[simp] theorem Shared.setB_chans (h : Shared) (k : Nat) (f : Fld) (v : Bool) : (h.setB k f v).chans = h.chans := rfl
@[simp] theorem Shared.setB_tiles (h : Shared) (k : Nat) (f : Fld) (v : Bool) : (h.setB k f v).tiles = h.tiles := rfl
@[simp] theorem Shared.setB_injAt (h : Shared) (k : Nat) (f : Fld) (v : Bool) : (h.setB k f v).injAt = h.injAt := rfl
@[simp] theorem Shared.setB_aos (h : Shared) (k : Nat) (f : Fld) (v : Bool) : (h.setB k f v).aos = h.aos := rfl
@[simp] theorem Shared.setB_aoutOn (h : Shared) (k : Nat) (f : Fld) (v : Bool) : (h.setB k f v).aoutOn = h.aoutOn := rfl
@[simp] theorem Shared.setB_dis (h : Shared) (k : Nat) (f : Fld) (v : Bool) : (h.setB k f v).dis = h.dis := rfl
@[simp] theorem Shared.setB_dos (h : Shared) (k : Nat) (f : Fld) (v : Bool) : (h.setB k f v).dos = h.dos := rfl
@[simp] theorem Shared.setB_banks (h : Shared) (k : Nat) (f : Fld) (v : Bool) : (h.setB k f v).banks = h.banks := rfl
@[simp] theorem Shared.setB_doRel (h : Shared) (k : Nat) (f : Fld) (v : Bool) : (h.setB k f v).doRel = h.doRel := rfl
@[simp] theorem Shared.setB_doLive (h : Shared) (k : Nat) (f : Fld) (v : Bool) : (h.setB k f v).doLive = h.doLive := rfl
@[simp] theorem Shared.setB_dioAt (h : Shared) (k : Nat) (f : Fld) (v : Bool) : (h.setB k f v).dioAt = h.dioAt := rfl
@[simp] theorem Shared.setB_markLost (h : Shared) (k : Nat) (f : Fld) (v : Bool) : (h.setB k f v).markLost = h.markLost := rfl
@[simp] theorem Shared.setB_markGap (h : Shared) (k : Nat) (f : Fld) (v : Bool) : (h.setB k f v).markGap = h.markGap := rfl
@[simp] theorem Shared.setB_cans (h : Shared) (k : Nat) (f : Fld) (v : Bool) : (h.setB k f v).cans = h.cans := rfl
@[simp] theorem Shared.setB_lossSig (h : Shared) (k : Nat) (f : Fld) (v : Bool) : (h.setB k f v).lossSig = h.lossSig := rfl
@[simp] theorem Shared.setB_pnl (h : Shared) (k : Nat) (f : Fld) (v : Bool) : (h.setB k f v).pnl = h.pnl := rfl
@[simp] theorem Shared.setB_nor (h : Shared) (k : Nat) (f : Fld) (v : Bool) : (h.setB k f v).nor = h.nor := rfl
@[simp] theorem Shared.setB_start (h : Shared) (k : Nat) (f : Fld) (v : Bool) : (h.setB k f v).start = h.start := rfl
@[simp] theorem Shared.setB_pwr (h : Shared) (k : Nat) (f : Fld) (v : Bool) : (h.setB k f v).pwr = h.pwr := rfl
@[simp] theorem Shared.setB_sel (h : Shared) (k : Nat) (f : Fld) (v : Bool) : (h.setB k f v).sel = h.sel := rfl
@[simp] theorem Shared.setB_wqEnd (h : Shared) (k : Nat) (f : Fld) (v : Bool) : (h.setB k f v).wqEnd = h.wqEnd := rfl
@[simp] theorem Shared.setB_hpOut (h : Shared) (k : Nat) (f : Fld) (v : Bool) : (h.setB k f v).hpOut = h.hpOut := rfl
@[simp] theorem Shared.setB_free (h : Shared) (k : Nat) (f : Fld) (v : Bool) : (h.setB k f v).free = h.free := rfl
@[simp] theorem Shared.setB_tap (h : Shared) (k : Nat) (f : Fld) (v : Bool) : (h.setB k f v).tap = h.tap := rfl
@[simp] theorem Shared.setB_ring (h : Shared) (k : Nat) (f : Fld) (v : Bool) : (h.setB k f v).ring = h.ring := rfl
@[simp] theorem Shared.bump_gt (h : Shared) (k : Nat) (f : Fld) (n : Nat) : (h.bump k f n).gt = h.gt := rfl
@[simp] theorem Shared.bump_grade (h : Shared) (k : Nat) (f : Fld) (n : Nat) : (h.bump k f n).grade = h.grade := rfl
@[simp] theorem Shared.bump_auth (h : Shared) (k : Nat) (f : Fld) (n : Nat) : (h.bump k f n).auth = h.auth := rfl
@[simp] theorem Shared.bump_hold (h : Shared) (k : Nat) (f : Fld) (n : Nat) : (h.bump k f n).hold = h.hold := rfl
@[simp] theorem Shared.bump_bisque (h : Shared) (k : Nat) (f : Fld) (n : Nat) : (h.bump k f n).bisque = h.bisque := rfl
@[simp] theorem Shared.bump_chans (h : Shared) (k : Nat) (f : Fld) (n : Nat) : (h.bump k f n).chans = h.chans := rfl
@[simp] theorem Shared.bump_tiles (h : Shared) (k : Nat) (f : Fld) (n : Nat) : (h.bump k f n).tiles = h.tiles := rfl
@[simp] theorem Shared.bump_injAt (h : Shared) (k : Nat) (f : Fld) (n : Nat) : (h.bump k f n).injAt = h.injAt := rfl
@[simp] theorem Shared.bump_aos (h : Shared) (k : Nat) (f : Fld) (n : Nat) : (h.bump k f n).aos = h.aos := rfl
@[simp] theorem Shared.bump_aoutOn (h : Shared) (k : Nat) (f : Fld) (n : Nat) : (h.bump k f n).aoutOn = h.aoutOn := rfl
@[simp] theorem Shared.bump_dis (h : Shared) (k : Nat) (f : Fld) (n : Nat) : (h.bump k f n).dis = h.dis := rfl
@[simp] theorem Shared.bump_dos (h : Shared) (k : Nat) (f : Fld) (n : Nat) : (h.bump k f n).dos = h.dos := rfl
@[simp] theorem Shared.bump_banks (h : Shared) (k : Nat) (f : Fld) (n : Nat) : (h.bump k f n).banks = h.banks := rfl
@[simp] theorem Shared.bump_doRel (h : Shared) (k : Nat) (f : Fld) (n : Nat) : (h.bump k f n).doRel = h.doRel := rfl
@[simp] theorem Shared.bump_doLive (h : Shared) (k : Nat) (f : Fld) (n : Nat) : (h.bump k f n).doLive = h.doLive := rfl
@[simp] theorem Shared.bump_dioAt (h : Shared) (k : Nat) (f : Fld) (n : Nat) : (h.bump k f n).dioAt = h.dioAt := rfl
@[simp] theorem Shared.bump_markLost (h : Shared) (k : Nat) (f : Fld) (n : Nat) : (h.bump k f n).markLost = h.markLost := rfl
@[simp] theorem Shared.bump_markGap (h : Shared) (k : Nat) (f : Fld) (n : Nat) : (h.bump k f n).markGap = h.markGap := rfl
@[simp] theorem Shared.bump_cans (h : Shared) (k : Nat) (f : Fld) (n : Nat) : (h.bump k f n).cans = h.cans := rfl
@[simp] theorem Shared.bump_lossSig (h : Shared) (k : Nat) (f : Fld) (n : Nat) : (h.bump k f n).lossSig = h.lossSig := rfl
@[simp] theorem Shared.bump_pnl (h : Shared) (k : Nat) (f : Fld) (n : Nat) : (h.bump k f n).pnl = h.pnl := rfl
@[simp] theorem Shared.bump_nor (h : Shared) (k : Nat) (f : Fld) (n : Nat) : (h.bump k f n).nor = h.nor := rfl
@[simp] theorem Shared.bump_start (h : Shared) (k : Nat) (f : Fld) (n : Nat) : (h.bump k f n).start = h.start := rfl
@[simp] theorem Shared.bump_pwr (h : Shared) (k : Nat) (f : Fld) (n : Nat) : (h.bump k f n).pwr = h.pwr := rfl
@[simp] theorem Shared.bump_sel (h : Shared) (k : Nat) (f : Fld) (n : Nat) : (h.bump k f n).sel = h.sel := rfl
@[simp] theorem Shared.bump_wqEnd (h : Shared) (k : Nat) (f : Fld) (n : Nat) : (h.bump k f n).wqEnd = h.wqEnd := rfl
@[simp] theorem Shared.bump_hpOut (h : Shared) (k : Nat) (f : Fld) (n : Nat) : (h.bump k f n).hpOut = h.hpOut := rfl
@[simp] theorem Shared.bump_free (h : Shared) (k : Nat) (f : Fld) (n : Nat) : (h.bump k f n).free = h.free := rfl
@[simp] theorem Shared.bump_tap (h : Shared) (k : Nat) (f : Fld) (n : Nat) : (h.bump k f n).tap = h.tap := rfl
@[simp] theorem Shared.bump_ring (h : Shared) (k : Nat) (f : Fld) (n : Nat) : (h.bump k f n).ring = h.ring := rfl

/-! ### The node after one of its parts changed -/

@[simp] theorem State.updSh_a (s : State) (f : Shared → Shared) : (s.updSh f).a = s.a := rfl
@[simp] theorem State.withSh_a (s : State) (h : Shared) : (s.withSh h).a = s.a := rfl
@[simp] theorem State.updSh_b (s : State) (f : Shared → Shared) : (s.updSh f).b = s.b := rfl
@[simp] theorem State.withSh_b (s : State) (h : Shared) : (s.withSh h).b = s.b := rfl
@[simp] theorem State.setLane_sh (s : State) (i : LaneId) (l : Lane) : (s.setLane i l).sh = s.sh := by cases i <;> rfl
@[simp] theorem State.upd_sh (s : State) (i : LaneId) (f : Lane → Lane) : (s.upd i f).sh = s.sh := by cases i <;> rfl
@[simp] theorem State.onLanes_sh (p : Lane → Bool) (f : Lane → Lane) (s : State) : (State.onLanes p f s).sh = s.sh := rfl
@[simp] theorem State.both_sh (s : State) (f : Lane → Lane) : (s.both f).sh = s.sh := rfl
@[simp] theorem State.taking_sh (s : State) (f : Lane → Lane) : (s.taking f).sh = s.sh := rfl
@[simp] theorem State.working_sh (s : State) (f : Lane → Lane) : (s.working f).sh = s.sh := rfl
@[simp] theorem State.updSh_snap (s : State) (f : Shared → Shared) : (s.updSh f).snap = s.snap := rfl
@[simp] theorem State.withSh_snap (s : State) (h : Shared) : (s.withSh h).snap = s.snap := rfl
@[simp] theorem State.setLane_snap (s : State) (i : LaneId) (l : Lane) : (s.setLane i l).snap = s.snap := by cases i <;> rfl
@[simp] theorem State.upd_snap (s : State) (i : LaneId) (f : Lane → Lane) : (s.upd i f).snap = s.snap := by cases i <;> rfl
@[simp] theorem State.onLanes_snap (p : Lane → Bool) (f : Lane → Lane) (s : State) : (State.onLanes p f s).snap = s.snap := rfl
@[simp] theorem State.both_snap (s : State) (f : Lane → Lane) : (s.both f).snap = s.snap := rfl
@[simp] theorem State.taking_snap (s : State) (f : Lane → Lane) : (s.taking f).snap = s.snap := rfl
@[simp] theorem State.working_snap (s : State) (f : Lane → Lane) : (s.working f).snap = s.snap := rfl
@[simp] theorem State.updSh_pending (s : State) (f : Shared → Shared) : (s.updSh f).pending = s.pending := rfl
@[simp] theorem State.withSh_pending (s : State) (h : Shared) : (s.withSh h).pending = s.pending := rfl
@[simp] theorem State.setLane_pending (s : State) (i : LaneId) (l : Lane) : (s.setLane i l).pending = s.pending := by cases i <;> rfl
@[simp] theorem State.upd_pending (s : State) (i : LaneId) (f : Lane → Lane) : (s.upd i f).pending = s.pending := by cases i <;> rfl
@[simp] theorem State.onLanes_pending (p : Lane → Bool) (f : Lane → Lane) (s : State) : (State.onLanes p f s).pending = s.pending := rfl
@[simp] theorem State.both_pending (s : State) (f : Lane → Lane) : (s.both f).pending = s.pending := rfl
@[simp] theorem State.taking_pending (s : State) (f : Lane → Lane) : (s.taking f).pending = s.pending := rfl
@[simp] theorem State.working_pending (s : State) (f : Lane → Lane) : (s.working f).pending = s.pending := rfl
@[simp] theorem State.updSh_sh (s : State) (f : Shared → Shared) : (s.updSh f).sh = f s.sh := rfl
@[simp] theorem State.withSh_sh (s : State) (h : Shared) : (s.withSh h).sh = h := rfl
@[simp] theorem State.lane_A (s : State) : s.lane .A = s.a := rfl
@[simp] theorem State.lane_B (s : State) : s.lane .B = s.b := rfl
@[simp] theorem State.withSh_lane (s : State) (h : Shared) (i : LaneId) : (s.withSh h).lane i = s.lane i := by cases i <;> rfl
@[simp] theorem State.updSh_lane (s : State) (f : Shared → Shared) (i : LaneId) : (s.updSh f).lane i = s.lane i := by cases i <;> rfl
@[simp] theorem State.setLane_lane (s : State) (i : LaneId) (l : Lane) : (s.setLane i l).lane i = l := by cases i <;> rfl
@[simp] theorem State.setLane_lane_other (s : State) (i : LaneId) (l : Lane) : (s.setLane i l).lane i.other = s.lane i.other := by cases i <;> rfl
@[simp] theorem State.upd_lane (s : State) (i : LaneId) (f : Lane → Lane) : (s.upd i f).lane i = f (s.lane i) := by cases i <;> rfl
@[simp] theorem State.upd_lane_other (s : State) (i : LaneId) (f : Lane → Lane) : (s.upd i f).lane i.other = s.lane i.other := by cases i <;> rfl
@[simp] theorem LaneId.other_other (i : LaneId) : i.other.other = i := by cases i <;> rfl
@[simp] theorem State.onLanes_lane (p : Lane → Bool) (f : Lane → Lane) (s : State) (i : LaneId) : (State.onLanes p f s).lane i = (if p (s.lane i) then f (s.lane i) else s.lane i) := by cases i <;> rfl
@[simp] theorem State.both_lane (s : State) (f : Lane → Lane) (i : LaneId) : (s.both f).lane i = (if (s.lane i).computes then f (s.lane i) else s.lane i) := by cases i <;> rfl
@[simp] theorem State.taking_lane (s : State) (f : Lane → Lane) (i : LaneId) : (s.taking f).lane i = (if (s.lane i).takes then f (s.lane i) else s.lane i) := by cases i <;> rfl
@[simp] theorem State.working_lane (s : State) (f : Lane → Lane) (i : LaneId) : (s.working f).lane i = (if (s.lane i).working then f (s.lane i) else s.lane i) := by cases i <;> rfl

/-! ### Reading registers after writing them -/

@[simp] theorem Lane.rd_wr_same (l : Lane) (k : Nat) (w : Word) : (l.wr k w).rd k = w := RegFile.rd_wr_same _ _ _
/-- A write leaves every other register alone. -/
theorem Lane.rd_wr_ne (l : Lane) (j k : Nat) (w : Word) (h' : j % 2 ^ 20 ≠ k % 2 ^ 20) : (l.wr k w).rd j = l.rd j :=
  RegFile.rd_wr_ne _ _ _ _ h'
@[simp] theorem Lane.fld_wr_same (l : Lane) (k : Nat) (w : Word) (f : Fld) : (l.wr k w).fld k f = f.get w := by
  simp [Lane.fld, RegFile.fld, Lane.wr]
theorem Lane.fld_wr_ne (l : Lane) (j k : Nat) (w : Word) (f : Fld) (h' : j % 2 ^ 20 ≠ k % 2 ^ 20) :
    (l.wr k w).fld j f = l.fld j f := by
  unfold Lane.fld RegFile.fld Lane.wr
  rw [RegFile.rd_wr_ne _ _ _ _ h']
@[simp] theorem Lane.rd_setF_same (l : Lane) (k : Nat) (f : Fld) (n : Nat) : (l.setF k f n).rd k = f.put n (l.rd k) :=
  RegFile.rd_wr_same _ _ _
theorem Lane.rd_setF_ne (l : Lane) (j k : Nat) (f : Fld) (n : Nat) (h' : j % 2 ^ 20 ≠ k % 2 ^ 20) :
    (l.setF k f n).rd j = l.rd j := RegFile.rd_wr_ne _ _ _ _ h'
theorem Lane.fld_setF_ne (l : Lane) (j k : Nat) (f g : Fld) (n : Nat) (h' : j % 2 ^ 20 ≠ k % 2 ^ 20) :
    (l.setF k g n).fld j f = l.fld j f := by
  unfold Lane.fld RegFile.fld Lane.setF RegFile.setF
  rw [RegFile.rd_wr_ne _ _ _ _ h']
/-- A field reads back what was put into it. -/
theorem Lane.fld_setF_same (l : Lane) (k : Nat) (f : Fld) (n : Nat) (h' : f.lo + f.width ≤ 32) :
    (l.setF k f n).fld k f = n % 2 ^ f.width := by
  unfold Lane.fld RegFile.fld Lane.setF RegFile.setF
  rw [RegFile.rd_wr_same, Fld.get_put_same _ _ _ h']
/-- The other fields of the register stand. -/
theorem Lane.fld_setF_field (l : Lane) (k : Nat) (f g : Fld) (n : Nat)
    (h' : (f.lo + f.width ≤ g.lo ∨ g.lo + g.width ≤ f.lo) ∧ f.lo + f.width ≤ 32) : (l.setF k g n).fld k f = l.fld k f := by
  unfold Lane.fld RegFile.fld Lane.setF RegFile.setF
  rw [RegFile.rd_wr_same, Fld.get_put_ne _ _ _ _ h'.1 h'.2]
theorem Lane.on_setB_same (l : Lane) (k : Nat) (f : Fld) (x : Bool) (h' : f.lo + f.width ≤ 32 ∧ f.width = 1) :
    (l.setB k f x).on k f = x := by
  unfold Lane.on Lane.setB
  rw [Lane.fld_setF_same _ _ _ _ h'.1, h'.2]
  cases x <;> rfl
theorem Lane.on_setB_field (l : Lane) (k : Nat) (f g : Fld) (x : Bool)
    (h' : (f.lo + f.width ≤ g.lo ∨ g.lo + g.width ≤ f.lo) ∧ f.lo + f.width ≤ 32) : (l.setB k g x).on k f = l.on k f := by
  unfold Lane.on Lane.setB
  rw [Lane.fld_setF_field _ _ _ _ _ h']
theorem Lane.on_setB_ne (l : Lane) (j k : Nat) (f g : Fld) (x : Bool) (h' : j % 2 ^ 20 ≠ k % 2 ^ 20) :
    (l.setB k g x).on j f = l.on j f := by
  unfold Lane.on Lane.setB
  rw [Lane.fld_setF_ne _ _ _ _ _ _ h']

@[simp] theorem Shared.rd_wr_same (h : Shared) (k : Nat) (w : Word) : (h.wr k w).rd k = w := RegFile.rd_wr_same _ _ _
/-- A write leaves every other register alone. -/
theorem Shared.rd_wr_ne (h : Shared) (j k : Nat) (w : Word) (h' : j % 2 ^ 20 ≠ k % 2 ^ 20) : (h.wr k w).rd j = h.rd j :=
  RegFile.rd_wr_ne _ _ _ _ h'
@[simp] theorem Shared.fld_wr_same (h : Shared) (k : Nat) (w : Word) (f : Fld) : (h.wr k w).fld k f = f.get w := by
  simp [Shared.fld, RegFile.fld, Shared.wr]
theorem Shared.fld_wr_ne (h : Shared) (j k : Nat) (w : Word) (f : Fld) (h' : j % 2 ^ 20 ≠ k % 2 ^ 20) :
    (h.wr k w).fld j f = h.fld j f := by
  unfold Shared.fld RegFile.fld Shared.wr
  rw [RegFile.rd_wr_ne _ _ _ _ h']
@[simp] theorem Shared.rd_setF_same (h : Shared) (k : Nat) (f : Fld) (n : Nat) : (h.setF k f n).rd k = f.put n (h.rd k) :=
  RegFile.rd_wr_same _ _ _
theorem Shared.rd_setF_ne (h : Shared) (j k : Nat) (f : Fld) (n : Nat) (h' : j % 2 ^ 20 ≠ k % 2 ^ 20) :
    (h.setF k f n).rd j = h.rd j := RegFile.rd_wr_ne _ _ _ _ h'
theorem Shared.fld_setF_ne (h : Shared) (j k : Nat) (f g : Fld) (n : Nat) (h' : j % 2 ^ 20 ≠ k % 2 ^ 20) :
    (h.setF k g n).fld j f = h.fld j f := by
  unfold Shared.fld RegFile.fld Shared.setF RegFile.setF
  rw [RegFile.rd_wr_ne _ _ _ _ h']
/-- A field reads back what was put into it. -/
theorem Shared.fld_setF_same (h : Shared) (k : Nat) (f : Fld) (n : Nat) (h' : f.lo + f.width ≤ 32) :
    (h.setF k f n).fld k f = n % 2 ^ f.width := by
  unfold Shared.fld RegFile.fld Shared.setF RegFile.setF
  rw [RegFile.rd_wr_same, Fld.get_put_same _ _ _ h']
/-- The other fields of the register stand. -/
theorem Shared.fld_setF_field (h : Shared) (k : Nat) (f g : Fld) (n : Nat)
    (h' : (f.lo + f.width ≤ g.lo ∨ g.lo + g.width ≤ f.lo) ∧ f.lo + f.width ≤ 32) : (h.setF k g n).fld k f = h.fld k f := by
  unfold Shared.fld RegFile.fld Shared.setF RegFile.setF
  rw [RegFile.rd_wr_same, Fld.get_put_ne _ _ _ _ h'.1 h'.2]
theorem Shared.on_setB_same (h : Shared) (k : Nat) (f : Fld) (x : Bool) (h' : f.lo + f.width ≤ 32 ∧ f.width = 1) :
    (h.setB k f x).on k f = x := by
  unfold Shared.on Shared.setB
  rw [Shared.fld_setF_same _ _ _ _ h'.1, h'.2]
  cases x <;> rfl
theorem Shared.on_setB_field (h : Shared) (k : Nat) (f g : Fld) (x : Bool)
    (h' : (f.lo + f.width ≤ g.lo ∨ g.lo + g.width ≤ f.lo) ∧ f.lo + f.width ≤ 32) : (h.setB k g x).on k f = h.on k f := by
  unfold Shared.on Shared.setB
  rw [Shared.fld_setF_field _ _ _ _ _ h']
theorem Shared.on_setB_ne (h : Shared) (j k : Nat) (f g : Fld) (x : Bool) (h' : j % 2 ^ 20 ≠ k % 2 ^ 20) :
    (h.setB k g x).on j f = h.on j f := by
  unfold Shared.on Shared.setB
  rw [Shared.fld_setF_ne _ _ _ _ _ _ h']

@[simp] theorem Lane.rd_ev (l : Lane) (e : Nat) (k : Nat) : (l.ev e).rd k = l.rd k := rfl
@[simp] theorem Lane.fld_ev (l : Lane) (e : Nat) (k : Nat) (f : Fld) : (l.ev e).fld k f = l.fld k f := rfl
@[simp] theorem Lane.on_ev (l : Lane) (e : Nat) (k : Nat) (f : Fld) : (l.ev e).on k f = l.on k f := rfl
@[simp] theorem Lane.rd_evCut (l : Lane) (e : Nat) (k : Nat) : (l.evCut e).rd k = l.rd k := rfl
@[simp] theorem Lane.fld_evCut (l : Lane) (e : Nat) (k : Nat) (f : Fld) : (l.evCut e).fld k f = l.fld k f := rfl
@[simp] theorem Lane.on_evCut (l : Lane) (e : Nat) (k : Nat) (f : Fld) : (l.evCut e).on k f = l.on k f := rfl
@[simp] theorem Lane.rd_record (l : Lane) (code time : Nat) (p0 p1 p2 p3 : Word) (rank : Nat) (k : Nat) : (l.record code time p0 p1 p2 p3 rank).rd k = l.rd k := rfl
@[simp] theorem Lane.fld_record (l : Lane) (code time : Nat) (p0 p1 p2 p3 : Word) (rank : Nat) (k : Nat) (f : Fld) : (l.record code time p0 p1 p2 p3 rank).fld k f = l.fld k f := rfl
@[simp] theorem Lane.on_record (l : Lane) (code time : Nat) (p0 p1 p2 p3 : Word) (rank : Nat) (k : Nat) (f : Fld) : (l.record code time p0 p1 p2 p3 rank).on k f = l.on k f := rfl
@[simp] theorem Lane.rd_recCut (l : Lane) (code time : Nat) (p0 p1 p2 p3 : Word) (k : Nat) : (l.recCut code time p0 p1 p2 p3).rd k = l.rd k := rfl
@[simp] theorem Lane.fld_recCut (l : Lane) (code time : Nat) (p0 p1 p2 p3 : Word) (k : Nat) (f : Fld) : (l.recCut code time p0 p1 p2 p3).fld k f = l.fld k f := rfl
@[simp] theorem Lane.on_recCut (l : Lane) (code time : Nat) (p0 p1 p2 p3 : Word) (k : Nat) (f : Fld) : (l.recCut code time p0 p1 p2 p3).on k f = l.on k f := rfl

end Sys2Proof.Machine
end

