-- ==== Sys2Proof/Tests/Slice0.lean ====
section
/-! SUPPORT. Tests: the well-formedness smoke, the worked examples of the spec, and for every obligation with hypotheses a
concrete state and operands that meet the hypotheses of each of its clauses. -/

set_option maxRecDepth 1000000

namespace Sys2Proof.Machine

-- the witnesses are elaborated one after another
set_option Elab.async false

/-- A node in normal running at global time 60 s: lane A active and in authority, lane B its shadow, changed by `f` and `g`. -/
def node (f : Lane → Lane) (g : Shared → Shared) : State :=
  { State.reset with
    a := f { id := .A, st := .active, instep := true }, b := f { id := .B, st := .shadow, instep := true },
    sh := g { auth := some .A, start := { phase := .running }, gt := 60000000000 } }

/-- Nothing observed at an epoch boundary. -/
def quiet : Obs :=
  { p := 0, vhold := 0, vsys := 0, vloop := 0, paout := 0, refCount := 400, rb := [], corr := [], mon := [], dov := [], vf := [], incA := none, incB := none, pages := [] }

/-- The owners of banks 0 to 15, as R563 asks. -/
def owners : List Nat := [2, 2, 3, 3, 3, 3, 3, 3, 4, 5, 5, 6, 7, 9, 9, 10]

/-- The system section: one entry per owned bank (R480). -/
def sysSection : List Byte := (owners.zipIdx).flatMap (fun x => leBytes 4 (4 * MEM_OWN x.2) ++ leBytes 4 x.1)

/-- The directory entry of the system section (R478). -/
def sysEntry : List Byte :=
  leBytes 2 1 ++ leBytes 2 0 ++ leBytes 4 80 ++ leBytes 4 128 ++ leBytes 4 (crc32c sysSection).toNat

/-- The header up to HCRC: magic, version, kind, grade, length 208, one section (R477). -/
def sysHeader : List Byte :=
  leBytes 4 0x31464E43 ++ leBytes 2 1 ++ leBytes 1 0 ++ leBytes 1 3 ++ leBytes 4 208 ++ leBytes 2 1 ++
    List.replicate 42 0 ++ leBytes 4 (crc32c sysEntry).toNat

/-- Image slot A with the image. -/
def image : Shared :=
  State.reset.sh.norWrite 0 (sysHeader ++ leBytes 4 (crc32c sysHeader).toNat ++ sysEntry ++ sysSection)

/-- Both lanes firing with the image in slot A. -/
def fired : State :=
  { State.reset with sh := image, a := { id := .A, st := .firing }, b := { id := .B, st := .firing } }

/-- A pair whose second part is there. -/
theorem pair_some {α β : Type} (x : α × Option β) (h : x.2.isSome = true) : x = (x.1, some (x.2.get h)) := by
  cases x with
  | mk a b => cases b with
    | none => cases h
    | some b => rfl

/-- The slot as a lane tries it: its report and the wedged image. -/
def tried : List RepEntry × Option Wst :=
  fired.sh.trySlot (fired.lane .A).regs (if fired.sh.start.srec.pref = 0 then 0 else 1)

theorem tried_some : tried.2.isSome = true := by decide +kernel

/-! ### Well-formedness -/

/-- A frame report of an empty received frame. -/
def report : FrameRep :=
  { frame := { id := 0, ide := false, rtr := false, fdf := false, brs := false, esi := false, dlc := 0, data := [] }, tx := none,
    ok := true, cause := 0, coll := false, steps := 0, quiet := false, peerErr := false, t := 0, len := 1, tdcv := 0 }

/-- An instant outside the running epoch is refused by every check that has one. -/
theorem test_wf_late_1 :
    (Instr.hartResponseReceived 0 0 [] true 1000001).wf = false ∧
    (Instr.valueFrame .one 0 0 0 [] 1000001 0).wf = false ∧
    (Instr.registerRequest .one 0 0 [] 1000001 0).wf = false ∧
    (Instr.imageTransferFrame .one 0 0 0 0 0 (List.replicate 32 0) 1000001 0).wf = false ∧
    (Instr.hostWriteFrame 0 0 none [] none true 1000001).wf = false ∧
    (Instr.wordInstant 0 0 true 0 true true 1000001).wf = false ∧
    (Instr.tileWordFrame 0 .A true 1000001).wf = false ∧
    (Instr.tileIdleFrame 0 .A true 1000001).wf = false ∧
    (Instr.tileLinkLost 0 .A 1000001).wf = false ∧
    (Instr.cjcWord 0 0 1000001).wf = false ∧
    (Instr.shuntTrip 0 1000001).wf = false ∧
    (Instr.shuntReclose 0 1000001).wf = false ∧
    (Instr.staleWindowEnd 0 0 true 0 true true 1000001).wf = false ∧
    (Instr.injectionResult 0 0 0 1000001).wf = false ∧
    (Instr.thermalSwitchOff 0 1000001).wf = false := by decide
theorem test_wf_late_2 :
    (Instr.thermalRecovery 0 0 1000001).wf = false ∧
    (Instr.hartResponseTimeout 0 1000001).wf = false ∧
    (Instr.thresholdCrossing 0 true 1000001).wf = false ∧
    (Instr.mismChange 0 0 1000001).wf = false ∧
    (Instr.unlocChange 0 1000001).wf = false ∧
    (Instr.slatch 0 1000001).wf = false ∧
    (Instr.outputCurrentLimit 0 1000001).wf = false ∧
    (Instr.outputThermalShutdown 0 1000001).wf = false ∧
    (Instr.outputThermalRestart 0 1000001).wf = false ∧
    (Instr.vwarnChange 0 0 1000001).wf = false ∧
    (Instr.uvSet 0 0 1000001).wf = false ∧
    (Instr.uvClear 0 0 1000001).wf = false ∧
    (Instr.epochMarkLoss 1000001 0).wf = false ∧
    (Instr.handshakeStall 0 0 .one .A 1000001).wf = false ∧
    (Instr.txStart .one .own 1000001).wf = false := by decide
theorem test_wf_late_3 :
    (Instr.rateDetectStep .one 1000001).wf = false ∧
    (Instr.rxBufferLock .A .host .one 0 1000001).wf = false ∧
    (Instr.lockTimeout .A .host 1000001).wf = false ∧
    (Instr.referenceMessage .one 0 0 0 0 1000001 0).wf = false ∧
    (Instr.timeNowloRead .A 1000001).wf = false ∧
    (Instr.crazingMeasurement 0 1000001).wf = false ∧
    (Instr.ntcWord 0 1000001).wf = false ∧
    (Instr.railGood true 0 0 1000001).wf = false ∧
    (Instr.railsDischarged 0 0 1000001).wf = false ∧
    (Instr.railFault true 0 1000001).wf = false ∧
    (Instr.hostReadFrame 0 0 none true 1000001).wf = false ∧
    (Instr.registerWrite 0 0 true 1000001).wf = false ∧
    (Instr.scrubRead .A 0 1000001).wf = false ∧
    (Instr.ringToken .A 0 0 1000001).wf = false ∧
    (Instr.ringClaim .A 0 0 1000001).wf = false := by decide
theorem test_wf_late_4 :
    (Instr.ringOpen .A 0 0 0 .A 1000001).wf = false ∧
    (Instr.ringProbe .A 0 0 1000001).wf = false ∧
    (Instr.ringClosed .A 0 0 0 .A 1000001).wf = false ∧
    (Instr.ringCall .A 0 0 [] 1000001).wf = false ∧
    (Instr.stnCmd .A 0 0 0 0 0 1000001).wf = false ∧
    (Instr.stnStat .A 0 0 [] 1000001).wf = false ∧
    (Instr.cmdResp .A 0 0 [] 1000001).wf = false ∧
    (Instr.ringFrameCorrupt .A 0 0 [] 0 true 1000001).wf = false ∧
    (Instr.tokenLoss 1000001).wf = false ∧
    (Instr.frameReturnTimeout 1000001).wf = false ∧
    (Instr.portLost .A 1000001).wf = false ∧
    (Instr.probeTimer .A 1000001).wf = false ∧
    (Instr.ringDisTimeout 1000001).wf = false ∧
    (Instr.callRefresh 1000001).wf = false ∧
    (Instr.vsysLostSet 0 0 1000001).wf = false := by decide
theorem test_wf_late_5 :
    (Instr.vsysLostClear 0 0 1000001).wf = false ∧
    (Instr.domainFault 0 0 1000001).wf = false ∧
    (Instr.domainRetry 0 true 1000001).wf = false ∧
    (Instr.powerLossTrip 0 1000001).wf = false ∧
    (Instr.currentLimitEnd 0 1000001).wf = false := by decide
/-- Lengths, repeated channels and empty frames that the other checks refuse. -/
theorem test_wf_refused :
    (Instr.hartResponseReceived 0 0 (List.replicate 263 0) true 0).wf = false ∧
    (Instr.digestPacket .A 0 0 none 0 (List.replicate 7 0)).wf = false ∧
    (Instr.frameReport .one { report with t := 1000001 }).wf = false ∧
    (Instr.frameReport .one { report with len := 0 }).wf = false ∧
    (Instr.frameReport .one { report with frame := { report.frame with data := List.replicate 65 0 } }).wf = false ∧
    (Instr.valueFrame .one 0 0 0 (List.replicate 65 0) 0 0).wf = false ∧
    (Instr.registerRequest .one 0 0 (List.replicate 65 0) 0 0).wf = false ∧
    (Instr.imageTransferFrame .one 0 0 0 0 0 (List.replicate 31 0) 0 0).wf = false ∧
    (Instr.hostWriteFrame 0 0 none (List.replicate 65 0) none true 0).wf = false ∧
    (Instr.epochBoundary { quiet with rb := [(3, 0), (3, 1)] }).wf = false ∧
    (Instr.epochBoundary { quiet with dov := [(31, 0), (31, 1)] }).wf = false ∧
    (Instr.epochBoundary { quiet with mon := [(3, ⟨0, 0, 0⟩), (3, ⟨0, 1, 0⟩)] }).wf = false ∧
    (Instr.epochBoundary { quiet with vf := [(3, 0), (3, 1)] }).wf = false ∧
    (Instr.ringCall .A 0 0 (List.replicate 17 0) 0).wf = false ∧
    (Instr.stnStat .A 0 0 (List.replicate 17 0) 0).wf = false ∧
    (Instr.cmdResp .A 0 0 (List.replicate 17 0) 0).wf = false ∧
    (Instr.ringFrameCorrupt .A 0 0 [0] 0 true 0).wf = false := by decide
/-- Terms at the ends of the ranges that pass. -/
theorem test_wf_accepted :
    (Instr.tokenLoss 1000000).wf = true ∧
    (Instr.frameReport .one report).wf = true ∧
    (Instr.imageTransferFrame .one 0 0 0 0 0 (List.replicate 32 0) 0 0).wf = true ∧
    (Instr.epochBoundary quiet).wf = true ∧
    (Instr.digestPacket .A 0 0 none 0 (List.replicate 8 0)).wf = true ∧
    (Instr.hartResponseReceived 0 0 (List.replicate 262 0) true 0).wf = true := by decide

/-! ### Worked examples of the spec -/

/-- 00_scope.md, Example: forming an address. -/
theorem test_address_forming :
    placeOf 0x00110040 = .lane (.lane .B) (0x10040 / 4) ∧ placeOf 0x00210040 = .lane .active (0x10040 / 4) ∧
      ALM_CNT = 0x18020 / 4 := by decide

/-- 17_host_port_and_events.md, Example: reading ALM_CNT. -/
theorem test_host_reads_alm_cnt :
    let s := node (fun l => { l with shown := (RegFile.setF .nil ALM_CNT ALM_CNT_UNACK 3).setF ALM_CNT ALM_CNT_SOUNDING 1 }) id
    (s.hpFrame 0x10 0x218020 (some 0x0E) [] none true 250).sh.hpOut = [0x00, 0x03, 0x00, 0x01, 0x00, 0xAB] := by decide +kernel

/-- The same header with another code is not answered (R538). -/
theorem test_host_header_code :
    let s := (node id id).hpFrame 0x10 0x218020 (some 0x0F) [] none true 250
    s.sh.hpOut = [] ∧ s.sh.fld MOD_HPERR MOD_HPERR_HDR = 1 := by decide +kernel

/-- 14_panel_display_engine.md, Example: one row at 100 Hz. -/
def panelSet : PnlSet :=
  { frate := 100, ewf := 160, rratio := 250, icode := 160, aw := 128, vset := 0, dim := 255, cmax := 1280,
    ucoef := 4294967295, gamma := List.replicate 15 0 ++ [4095], full := false }
theorem test_panel_row :
    panelSet.rs = 15625 ∧ panelSet.ew = 9765 ∧ panelSet.wr = 5760 ∧ panelSet.iCol = 160 ∧ panelSet.tOn 0 15 = 7812 ∧
      panelSet.tOn 4096 15 = 9765 ∧ chargeUp 0 (160 * 7812) = 16 ∧ chargeUp 0 (160 * 9765) = 20 ∧
      (panelSet.row 160 { age := [0, 4096] } [15, 15]).2.1 = 5000 ∧
      (panelSet.row 160 { age := [0, 4096] } [15, 15]).2.2.n = [0, 0] := by decide +kernel

/-- 15_firing_image.md, Example: a report with four clamps and a warning. -/
theorem test_report_words :
    RepEntry.words ⟨0x0010, 0, 1, 4 * AIN_PCFG 5, 0, 14, 12⟩ = [0x01000010, 0x00009014, 0x0000000E, 0x0000000C] ∧
      RepEntry.words ⟨0x0030, 0, 1, 4 * CTRL_CFG 3, 5, 7, 6⟩ = [0x01000030, 0x05030300, 0x00000007, 0x00000006] ∧
      RepEntry.words ⟨0x0040, 1, 1, 4 * HRT_CFG 7, 8, 45, 40⟩ = [0x01010040, 0x0800CB00, 0x0000002D, 0x00000028] := by decide +kernel

/-- 12_can_controllers.md (R382): a data length code of 15 stands for 64 bytes of a CAN FD frame and for 8 of a classical one. -/
theorem test_dlc : dlcBytes true 15 = 64 ∧ dlcBytes false 15 = 8 ∧ dlcBytes true 13 = 32 := by decide

/-! ### Steps from reset -/

/-- A command that waits is taken from the front, and its rest stays. -/
theorem test_step_takes_front :
    ∃ t, step { State.reset with pending := [.testLogicReset, .clkrefGood] } = .next t ∧ t.pending = [.clkrefGood] :=
  ⟨_, rfl, rfl⟩

/-- With nothing waiting, the block idles (log 1). -/
theorem test_step_idles : step State.reset = .next State.reset := rfl

/-! ### Witnesses of the obligations -/

theorem witness_step_takes_the_front_command :
  (∃ (c : Instr) (cs : List Instr) (s : State),
    (s.pending = c :: cs)) ∧
  (∃ (s : State),
    (s.pending = [])) :=
  ⟨⟨.clkrefGood, [], { State.reset with pending := [.clkrefGood] }, rfl⟩,
  ⟨State.reset, rfl⟩⟩

theorem witness_test_logic_and_time_move_only_by_their_commands :
  (∃ (c : Instr) (s t : State),
    (exec c s = .next t) ∧
    ((∀ r tms tdi cells, c ≠ .tckEdge r tms tdi cells)) ∧
    (c ≠ .testLogicReset)) ∧
  (∃ (c : Instr) (s t : State),
    (exec c s = .next t) ∧
    ((∀ o, c ≠ .epochBoundary o)) ∧
    (c ≠ .resetRelease)) :=
  ⟨⟨.freeze, State.reset, _, rfl, nofun, nofun⟩,
  ⟨.freeze, State.reset, _, rfl, nofun, nofun⟩⟩

theorem witness_test_instruction_stays_legal :
  ∃ (s t : State),
    (step s = .next t) ∧
    (s.sh.tap.legal = true) :=
  ⟨{ State.reset with pending := [.testLogicReset] }, _, rfl, (by decide +kernel)⟩

theorem witness_banks_stay_canonical :
  ∃ (s t : State),
    (step s = .next t) ∧
    (s.memCanonical = true) :=
  ⟨{ State.reset with pending := [.testLogicReset] }, _, rfl, (by decide +kernel)⟩

theorem witness_bank_bytes_move_only_by_their_commands :
  ∃ (c : Instr) (s t : State),
    (exec c s = .next t) ∧
    (¬ mayWriteBanks c) :=
  ⟨.freeze, State.reset, _, rfl, id⟩

theorem witness_epoch_boundaries :
  (∃ (o : Obs) (s : State),
    (s.sh.start.phase = .reset)) ∧
  (∃ (o : Obs) (s : State),
    (s.sh.start.phase ≠ .reset) ∧
    (((s.outcome.closeEpoch o).linkDrain).lead.time.step = none)) ∧
  (∃ (o : Obs) (d : Int) (s : State),
    (s.sh.start.phase ≠ .reset) ∧
    (((s.outcome.closeEpoch o).linkDrain).lead.time.step = some d)) :=
  ⟨⟨quiet, State.reset, (by decide +kernel)⟩,
  ⟨quiet, (node id (fun h => { h with start := { phase := .released } })), (by decide +kernel)⟩,
  ⟨quiet, 5, (node (fun l => { l with time := { step := some 5 } }) (fun h => { h with start := { phase := .released } })), (by decide +kernel)⟩⟩

theorem witness_tile_links_follow_their_frames :
  (∃ (tile : Fin 12) (s : State),
    (s.sh.on (PWR_DST (8 + tile / 4)) PWR_DST_ON = true)) ∧
  (∃ (tile : Fin 12) (link : Path) (dt : Nat) (s : State),
    (s.sh.on (AIN_TSTAT tile) AIN_TSTAT_TILE_PWR = true) ∧
    (s.sh.tileLink tile link = false) ∧
    ((s.sh.tile tile).run link < 8)) ∧
  (∃ (tile : Fin 12) (link : Path) (dt : Nat) (s : State),
    (s.sh.on (AIN_TSTAT tile) AIN_TSTAT_TILE_PWR = true) ∧
    (s.sh.tileLink tile link = true)) ∧
  (∃ (tile : Fin 12) (link : Path) (dt : Nat) (w : TWord) (ws : List TWord) (s : State),
    (s.sh.on (AIN_TSTAT tile) AIN_TSTAT_TILE_PWR = true) ∧
    (s.sh.tileLink tile link = true) ∧
    ((s.sh.tile tile).q link = w :: ws) ∧
    (s.sh.gt < w.w) ∧
    (s.sh.gt + dt ≤ w.w + 25000) ∧
    ((s.lane (laneOfPath link)).serves = true)) ∧
  (∃ (tile : Fin 12) (link : Path) (s : State),
    (s.sh.on (AIN_TSTAT tile) AIN_TSTAT_TILE_PWR = true) ∧
    (s.sh.tileLink tile link = false) ∧
    (8 ≤ (s.sh.tile tile).run link)) ∧
  (∃ (tile : Fin 12) (link : Path) (dt : Nat) (s : State),
    (s.sh.tileLink tile link = true) ∧
    ((s.sh.tile tile).last link + 50000 ≤ s.sh.gt + dt)) :=
  ⟨⟨11, (node id (fun h => (h).setF (PWR_DST 10) PWR_DST_ON (1))), by decide +kernel⟩,
  ⟨11, .B, 0, (node id (fun h => ((h).setF (AIN_TSTAT 11) AIN_TSTAT_TILE_PWR (1)).setTile 11 { runB := 7 })), by decide +kernel⟩,
  ⟨11, .B, 0, (node id (fun h => ((h).setF (AIN_TSTAT 11) AIN_TSTAT_TILE_PWR (1)).setF (AIN_TSTAT 11) AIN_TSTAT_LINK_B (1))), by decide +kernel⟩,
  ⟨11, .B, 45000, { ch := 88, path := .B, w := 60000020000, code := 5#24, gain := 0, ovr := false, inj := false, rangeTr := false, stale := false, phase := 0 }, [], (node id (fun h => (((h).setF (AIN_TSTAT 11) AIN_TSTAT_TILE_PWR (1)).setF (AIN_TSTAT 11) AIN_TSTAT_LINK_B (1)).setTile 11 { qB := [{ ch := 88, path := .B, w := 60000020000, code := 5#24, gain := 0, ovr := false, inj := false, rangeTr := false, stale := false, phase := 0 }] })), by decide +kernel⟩,
  ⟨11, .B, (node id (fun h => ((h).setF (AIN_TSTAT 11) AIN_TSTAT_TILE_PWR (1)).setTile 11 { runB := 8 })), by decide +kernel⟩,
  ⟨11, .B, 0, (node id (fun h => (((h).setF (AIN_TSTAT 11) AIN_TSTAT_TILE_PWR (1)).setF (AIN_TSTAT 11) AIN_TSTAT_LINK_B (1)).setTile 11 { lastB := 59999950000 })), by decide +kernel⟩⟩

theorem witness_tile_word_rows :
  (∃ (ch : Fin 96) (a b : BitVec 24) (aOver bOver sat : Bool) (dt : Nat) (s : State),
    ((s.sh.tile (tileOf ch)).loaded = true) ∧
    (AIN_CFG_SENSOR.get (s.sh.chan ch).front = 0) ∧
    (AIN_CFG_SENSOR.get (s.ainCfg ch) ≠ 0) ∧
    (isWordInstant (AIN_PCFG_RATE.get (s.ainPcfg ch)) (s.sh.gt + dt) = true) ∧
    ((s.sh.chan ch).lastW < s.sh.gt + dt)) ∧
  (∃ (ch : Fin 96) (a b : BitVec 24) (aOver bOver sat : Bool) (dt : Nat) (s : State),
    ((s.sh.tile (tileOf ch)).loaded = true) ∧
    (AIN_CFG_SENSOR.get (s.sh.chan ch).front ≠ 0) ∧
    (isWordInstant (s.sh.chan ch).rate (s.sh.gt + dt) = true) ∧
    ((s.sh.chan ch).lastW < s.sh.gt + dt) ∧
    (s.sh.on (AIN_CHST ch) AIN_CHST_SHUNT_TRIP = false) ∧
    ((s.sh.chan ch).started = false) ∧
    ((s.sh.chan ch).due = false)) ∧
  (∃ (ch : Fin 96) (a b : BitVec 24) (aOver bOver sat : Bool) (dt : Nat) (s : State),
    ((s.sh.tile (tileOf ch)).loaded = true) ∧
    (AIN_CFG_SENSOR.get (s.sh.chan ch).front ≠ 0) ∧
    (isWordInstant (s.sh.chan ch).rate (s.sh.gt + dt) = true) ∧
    ((s.sh.chan ch).lastW < s.sh.gt + dt) ∧
    (s.sh.on (AIN_CHST ch) AIN_CHST_SHUNT_TRIP = false) ∧
    ((s.sh.chan ch).started = true)) ∧
  (∃ (ch : Fin 96) (a b : BitVec 24) (aOver bOver sat : Bool) (dt : Nat) (s : State),
    ((s.sh.tile (tileOf ch)).loaded = true) ∧
    (AIN_CFG_SENSOR.get (s.sh.chan ch).front ≠ 0) ∧
    (isWordInstant (s.sh.chan ch).rate (s.sh.gt + dt) = true) ∧
    ((s.sh.chan ch).lastW < s.sh.gt + dt) ∧
    (s.sh.on (AIN_CHST ch) AIN_CHST_SHUNT_TRIP = true) ∧
    (s.sh.gt + dt < (s.sh.chan ch).tripAt + 1000000000) ∧
    ((s.sh.chan ch).retry = false) ∧
    ((s.sh.chan ch).due = false)) ∧
  (∃ (ch : Fin 96) (a b : BitVec 24) (aOver bOver sat : Bool) (dt : Nat) (s : State),
    ((s.sh.tile (tileOf ch)).loaded = true) ∧
    (AIN_CFG_SENSOR.get (s.sh.chan ch).front ≠ 0) ∧
    (isWordInstant (s.sh.chan ch).rate (s.sh.gt + dt) = true) ∧
    ((s.sh.chan ch).lastW < s.sh.gt + dt) ∧
    (s.sh.on (AIN_CHST ch) AIN_CHST_SHUNT_TRIP = false) ∧
    ((s.sh.chan ch).started = true) ∧
    ((s.sh.chan ch).settle = 1)) ∧
  (∃ (tile : Fin 12) (res : Word) (dt : Nat) (s : State),
    ((s.sh.tile tile).loaded = true) ∧
    (AIN_TCFG_CJC_EN.on (s.tcfg tile) = true) ∧
    (AIN_TCFG_FIXED.on (s.tcfg tile) = false) ∧
    (s.sh.tileLink tile .A = true ∨ s.sh.tileLink tile .B = true) ∧
    (isWordInstant 3 (s.sh.gt + dt) = true) ∧
    (0 < dt) ∧
    ((s.sh.tile tile).cjcAt < s.sh.gt + dt)) ∧
  (∃ (tile : Fin 12) (s : State),
    (s.sh.on (AIN_TSTAT tile) AIN_TSTAT_CJC_FAULT = false) ∧
    ((s.sh.tile tile).cjcBad = 2)) ∧
  (∃ (tile : Fin 12) (s : State),
    (s.sh.on (AIN_TSTAT tile) AIN_TSTAT_CJC_FAULT = true) ∧
    ((s.sh.tile tile).cjcGood = 10)) :=
  ⟨⟨95, 1, 2, false, true, false, 1000000, (node (fun l => ((l).setF (AIN_CFG 95) AIN_CFG_SENSOR (15)).setF (AIN_PCFG 95) AIN_PCFG_RATE (10)) (fun h => (h).setTile 11 { loaded := true })), by decide +kernel⟩,
  ⟨95, 1, 2, false, true, false, 1000000, (node (fun l => (l).setF (AIN_CFG 95) AIN_CFG_SENSOR (15)) (fun h => ((h).setTile 11 { loaded := true }).setChan 95 { front := 15#32, rate := 10 })), by decide +kernel⟩,
  ⟨95, 1, 2, false, true, false, 1000000, (node (fun l => (l).setF (AIN_CFG 95) AIN_CFG_SENSOR (15)) (fun h => ((h).setTile 11 { loaded := true }).setChan 95 { front := 15#32, rate := 10, started := true, settle := 2, due := true, force := true, lastW := 59999000000 })), by decide +kernel⟩,
  ⟨95, 1, 2, false, true, false, 1000000, (node (fun l => (l).setF (AIN_CFG 95) AIN_CFG_SENSOR (15)) (fun h => (((h).setTile 11 { loaded := true }).setF (AIN_CHST 95) AIN_CHST_SHUNT_TRIP (1)).setChan 95 { front := 15#32, rate := 10, started := true, tripAt := 59001000001, lastW := 59999000000 })), by decide +kernel⟩,
  ⟨95, 1, 2, false, true, false, 1000000, (node (fun l => (l).setF (AIN_CFG 95) AIN_CFG_SENSOR (15)) (fun h => ((h).setTile 11 { loaded := true }).setChan 95 { front := 15#32, rate := 10, started := true, settle := 1, lastW := 59999000000 })), by decide +kernel⟩,
  ⟨11, 7, 100000000, (node (fun l => (l).setF (AIN_TCFG 11) AIN_TCFG_CJC_EN (1)) (fun h => ((h).setTile 11 { loaded := true }).setF (AIN_TSTAT 11) AIN_TSTAT_LINK_B (1))), by decide +kernel⟩,
  ⟨11, (node id (fun h => (h).setTile 11 { cjcBad := 2 })), by decide +kernel⟩,
  ⟨11, (node id (fun h => ((h).setF (AIN_TSTAT 11) AIN_TSTAT_CJC_FAULT (1)).setTile 11 { cjcGood := 10 })), by decide +kernel⟩⟩

theorem witness_channel_status_rows :
  (∃ (ch : Fin 96) (s : State),
    ((s.sh.chan ch).rngRun = true) ∧
    ((s.sh.chan ch).rngPos = 0)) ∧
  (∃ (ch : Fin 96) (s : State),
    ((s.sh.chan ch).rngRun = true) ∧
    ((s.sh.chan ch).rngPos = 3)) ∧
  (∃ (ch : Fin 96) (s : State),
    (s.sh.on (AIN_CHST ch) AIN_CHST_EXC_SAT = false) ∧
    ((s.sh.chan ch).satRun = 2)) ∧
  (∃ (ch : Fin 96) (s : State),
    (s.sh.on (AIN_CHST ch) AIN_CHST_EXC_SAT = true) ∧
    ((s.sh.chan ch).unsatRun = 2)) ∧
  (∃ (ch : Fin 96) (s : State),
    (s.sh.on (AIN_CHST ch) AIN_CHST_OPEN = false) ∧
    ((s.sh.chan ch).opnRun = 2)) ∧
  (∃ (ch : Fin 96) (s : State),
    (s.sh.on (AIN_CHST ch) AIN_CHST_OPEN = true) ∧
    ((s.sh.chan ch).clsRun = 2)) ∧
  (∃ (ch : Fin 96) (dt : Nat) (s : State),
    (s.sh.on (AIN_CHST ch) AIN_CHST_SHUNT = true)) ∧
  (∃ (ch : Fin 96) (dt : Nat) (s : State),
    (s.sh.on (AIN_CHST ch) AIN_CHST_SHUNT_TRIP = true) ∧
    ((s.sh.tile (tileOf ch)).loaded = true) ∧
    (AIN_CFG_SENSOR.get (s.sh.chan ch).front = senMa) ∧
    ((s.sh.chan ch).tripAt + 1000000000 ≤ s.sh.gt + dt) ∧
    (isWordInstant (s.sh.chan ch).rate (s.sh.gt + dt) = true) ∧
    ((s.sh.chan ch).due = false)) ∧
  (∃ (ch : Fin 96) (dt : Nat) (s : State),
    (s.sh.on (AIN_CHST ch) AIN_CHST_SHUNT_TRIP = true) ∧
    ((s.sh.tile (tileOf ch)).loaded = true) ∧
    (AIN_CFG_SENSOR.get (s.sh.chan ch).front = senMa) ∧
    ((s.sh.chan ch).tripAt + 1000000000 ≤ s.sh.gt + dt) ∧
    (isWordInstant (s.sh.chan ch).rate (s.sh.gt + dt) = true) ∧
    ((s.sh.chan ch).due = true) ∧
    ((s.sh.chan ch).excDue = false)) ∧
  (∃ (tile : Fin 12) (k : Nat) (s : State),
    (s.sh.gt % 100000000 = 0) ∧
    (s.sh.injAt ≠ some s.sh.gt) ∧
    ((s.sh.tile tile).loaded = true) ∧
    ((s.sh.tile tile).chk = false) ∧
    (s.nextEligible tile 16 (s.sh.tile tile).injNext = some k)) ∧
  (∃ (tile : Fin 12) (sp sm : Int) (dt : Nat) (s : State),
    ((s.sh.tile tile).chk = true) ∧
    ((s.sh.tile tile).chkAt + 64000000 ≤ s.sh.gt + dt)) :=
  ⟨⟨0, (node id (fun h => (h).setChan 0 { rngRun := true, rngPos := 0 })), by decide +kernel⟩,
  ⟨95, (node id (fun h => (h).setChan 95 { rngRun := true, rngPos := 3, rngUp := true })), by decide +kernel⟩,
  ⟨95, (node id (fun h => (h).setChan 95 { satRun := 2 })), by decide +kernel⟩,
  ⟨95, (node id (fun h => ((h).setF (AIN_CHST 95) AIN_CHST_EXC_SAT (1)).setChan 95 { unsatRun := 2 })), by decide +kernel⟩,
  ⟨95, (node id (fun h => (h).setChan 95 { opnRun := 2 })), by decide +kernel⟩,
  ⟨95, (node id (fun h => ((h).setF (AIN_CHST 95) AIN_CHST_OPEN (1)).setChan 95 { clsRun := 2 })), by decide +kernel⟩,
  ⟨95, 999999, (node id (fun h => (h).setF (AIN_CHST 95) AIN_CHST_SHUNT (1))), by decide +kernel⟩,
  ⟨95, 0, (node id (fun h => (((h).setTile 11 { loaded := true }).setF (AIN_CHST 95) AIN_CHST_SHUNT_TRIP (1)).setChan 95 { tripAt := 59000000000, front := 15#32, rate := 10 })), by decide +kernel⟩,
  ⟨95, 0, (node (fun l => (l).setF (AIN_CFG 95) AIN_CFG_SENSOR (15)) (fun h => (((h).setTile 11 { loaded := true }).setF (AIN_CHST 95) AIN_CHST_SHUNT_TRIP (1)).setChan 95 { started := true, due := true, tripAt := 59000000000, front := 15#32, rate := 10, gen := 1 })), by decide +kernel⟩,
  ⟨11, 15, (node (fun l => ((l).setF (AIN_CFG 95) AIN_CFG_SENSOR (15)).setF (AIN_PCFG 95) AIN_PCFG_INJ_EN (1)) (fun h => ((h).setTile 11 { loaded := true, injNext := 15 }).setChan 95 { started := true })), by decide +kernel⟩,
  ⟨11, 24, (-24), 0, (node id (fun h => (h).setTile 11 { chk := true, chkCh := 95, chkPath := .B, chkAt := 59936000000 })), by decide +kernel⟩⟩

theorem witness_analogue_input_commands :
  (∃ (ch : BitVec 7) (arg : BitVec 8) (s : State) (i : LaneId),
    ((s.lane i).computes = true) ∧
    (ch.toNat < 96) ∧
    (arg.toNat ≤ 2) ∧
    (isRtd ((s.lane i).fld (AIN_CFG ch.toNat) AIN_CFG_SENSOR) = true) ∧
    ((arg.toNat = 2 → (s.lane i).fld (AIN_CFG ch.toNat) AIN_CFG_SENSOR ∈ [senPt100, senPt500])) ∧
    ((s.sh.chan ch.toNat).excBusy = false)) ∧
  (∃ (ch : BitVec 7) (arg : BitVec 8) (s : State) (i : LaneId),
    ((s.lane i).computes = true) ∧
    (ch.toNat < 96) ∧
    (arg.toNat ≤ 1) ∧
    ((isTc ((s.lane i).fld (AIN_CFG ch.toNat) AIN_CFG_SENSOR) = true ∨ (s.lane i).fld (AIN_CFG ch.toNat) AIN_CFG_SENSOR = senMv))) ∧
  (∃ (ch : BitVec 7) (s : State) (i : LaneId),
    ((s.lane i).computes = true) ∧
    (ch.toNat < 96) ∧
    (s.sh.on (AIN_CHST ch.toNat) AIN_CHST_SHUNT_TRIP = true)) ∧
  (∃ (ch : BitVec 7) (arg : BitVec 8) (s : State) (i : LaneId),
    ((s.lane i).computes = true) ∧
    (95 < ch.toNat)) ∧
  (∃ (ch : BitVec 7) (s : State) (i : LaneId),
    ((s.lane i).computes = true) ∧
    (ch.toNat < 96) ∧
    (s.sh.on (AIN_CHST ch.toNat) AIN_CHST_SHUNT_TRIP = false)) :=
  ⟨⟨95, 2, (node (fun l => (l).setF (AIN_CFG 95) AIN_CFG_SENSOR (9)) id), .A, by decide +kernel⟩,
  ⟨95, 1, (node (fun l => (l).setF (AIN_CFG 95) AIN_CFG_SENSOR (8)) id), .B, by decide +kernel⟩,
  ⟨95, (node id (fun h => (h).setF (AIN_CHST 95) AIN_CHST_SHUNT_TRIP (1))), .A, by decide +kernel⟩,
  ⟨96, 0, (node id id), .A, by decide +kernel⟩,
  ⟨95, (node id id), .A, by decide +kernel⟩⟩

theorem witness_restore_paths_command :
  ∃ (ch : BitVec 7) (s : State) (i : LaneId),
    ((s.lane i).computes = true) ∧
    (ch.toNat < 96) ∧
    ((s.lane i).on (AIN_VFLG ch.toNat) AIN_VFLG_SINGLE = true) ∧
    ((s.lane i).fld (AIN_VFLG ch.toNat) AIN_VFLG_SP_CAUSE ≠ 3) ∧
    (16 ≤ (s.lane i).fld (AIN_VFLG ch.toNat) AIN_VFLG_RST_CNT) :=
  ⟨95, (node (fun l => (((l).setF (AIN_VFLG 95) AIN_VFLG_SINGLE (1)).setF (AIN_VFLG 95) AIN_VFLG_SP_CAUSE (1)).setF (AIN_VFLG 95) AIN_VFLG_RST_CNT (16)) id), .A, by decide +kernel⟩

theorem witness_agreement_rows :
  (∃ (ch : Fin 96) (x : LateChan) (s : State) (i : LaneId),
    ((s.lane i).computes = true) ∧
    ((s.lane i).cut.late.find? (fun y => y.ch == ch.val) = some x) ∧
    ((s.lane i).on (AIN_VFLG ch) AIN_VFLG_SINGLE = false) ∧
    (let m := (s.lane i).agreeAll x.words ch x.at_
    (m.on (AIN_VFLG ch) AIN_VFLG_SINGLE = true) ∧
    (m.fld (AIN_VFLG ch) AIN_VFLG_SP_CAUSE = 1))) ∧
  (∃ (ch : Fin 96) (x : LateChan) (s : State) (i : LaneId),
    ((s.lane i).computes = true) ∧
    ((s.lane i).cut.late.find? (fun y => y.ch == ch.val) = some x) ∧
    ((s.lane i).on (AIN_VFLG ch) AIN_VFLG_SINGLE = true) ∧
    (let m := (s.lane i).agreeAll x.words ch x.at_
    (m.on (AIN_VFLG ch) AIN_VFLG_SINGLE = false))) ∧
  (∃ (l : Lane) (n : Nat) (a b : TWord),
    (n < 96) ∧
    (a.inj = false) ∧
    (a.rangeTr = false) ∧
    (b.inj = false) ∧
    (b.rangeTr = false) ∧
    (wordStale (l.wordCfg n a) (l.chan n) a = false) ∧
    (inTol (l.wordCfg n a) (l.rd (AIN_PCFG n)) (l.chan n) a b = false) ∧
    ((calOf (l.wordCfg n a) (l.chan n) b).isSome = true) ∧
    (l.on (AIN_VFLG n) AIN_VFLG_SINGLE = false) ∧
    (l.fld (AIN_VFLG n) AIN_VFLG_DIS_CNT ≤ 2)) :=
  ⟨⟨0, ⟨0, [60000500000], [{ ch := 0, path := .A, w := 60000500000, code := 4000000#24, gain := 0, ovr := false, inj := false, rangeTr := false, stale := false, phase := 0, front := 15#32 }, { ch := 0, path := .B, w := 60000500000, code := 10#24, gain := 0, ovr := false, inj := false, rangeTr := false, stale := false, phase := 0, front := 15#32 }]⟩, (node (fun l => { ((((l).setF (AIN_CFG 0) AIN_CFG_SENSOR (15)).setF (AIN_VFLG 0) AIN_VFLG_DIS_CNT (2)).setChan 0 { trimA := some (0#32, 0x3F800000#32), trimB := some (0#32, 0x3F800000#32) }) with hw := RegFile.setF (RegFile.setF .nil (AIN_TSTAT 0) AIN_TSTAT_LINK_A 1) (AIN_TSTAT 0) AIN_TSTAT_LINK_B 1, cut := { late := [⟨0, [60000500000], [{ ch := 0, path := .A, w := 60000500000, code := 4000000#24, gain := 0, ovr := false, inj := false, rangeTr := false, stale := false, phase := 0, front := 15#32 }, { ch := 0, path := .B, w := 60000500000, code := 10#24, gain := 0, ovr := false, inj := false, rangeTr := false, stale := false, phase := 0, front := 15#32 }]⟩] } }) (fun h => ((h).setF (AIN_TSTAT 0) AIN_TSTAT_LINK_A (1)).setF (AIN_TSTAT 0) AIN_TSTAT_LINK_B (1))), .A, by decide +kernel⟩,
  ⟨0, ⟨0, [60000500000], [{ ch := 0, path := .A, w := 60000500000, code := 4000#24, gain := 0, ovr := false, inj := false, rangeTr := false, stale := false, phase := 0, front := 15#32 }, { ch := 0, path := .B, w := 60000500000, code := 4000#24, gain := 0, ovr := false, inj := false, rangeTr := false, stale := false, phase := 0, front := 15#32 }]⟩, (node (fun l => { ((((((l).setF (AIN_CFG 0) AIN_CFG_SENSOR (15)).setF (AIN_VFLG 0) AIN_VFLG_SINGLE (1)).setF (AIN_VFLG 0) AIN_VFLG_SP_CAUSE (3)).setF (AIN_VFLG 0) AIN_VFLG_RST_CNT (15)).setChan 0 { trimA := some (0#32, 0x3F800000#32), trimB := some (0#32, 0x3F800000#32) }) with hw := RegFile.setF (RegFile.setF .nil (AIN_TSTAT 0) AIN_TSTAT_LINK_A 1) (AIN_TSTAT 0) AIN_TSTAT_LINK_B 1, cut := { late := [⟨0, [60000500000], [{ ch := 0, path := .A, w := 60000500000, code := 4000#24, gain := 0, ovr := false, inj := false, rangeTr := false, stale := false, phase := 0, front := 15#32 }, { ch := 0, path := .B, w := 60000500000, code := 4000#24, gain := 0, ovr := false, inj := false, rangeTr := false, stale := false, phase := 0, front := 15#32 }]⟩] } }) (fun h => ((h).setF (AIN_TSTAT 0) AIN_TSTAT_LINK_A (1)).setF (AIN_TSTAT 0) AIN_TSTAT_LINK_B (1))), .A, by decide +kernel⟩,
  ⟨(node (fun l => { ((((l).setF (AIN_CFG 0) AIN_CFG_SENSOR (15)).setF (AIN_VFLG 0) AIN_VFLG_DIS_CNT (2)).setChan 0 { trimA := some (0#32, 0x3F800000#32), trimB := some (0#32, 0x3F800000#32) }) with cut := { words := [{ ch := 0, path := .A, w := 60000500000, code := 4000000#24, gain := 0, ovr := false, inj := false, rangeTr := false, stale := false, phase := 0, front := 15#32 }, { ch := 0, path := .B, w := 60000500000, code := 10#24, gain := 0, ovr := false, inj := false, rangeTr := false, stale := false, phase := 0, front := 15#32 }] } }) id).a, 0, { ch := 0, path := .A, w := 60000500000, code := 4000000#24, gain := 0, ovr := false, inj := false, rangeTr := false, stale := false, phase := 0, front := 15#32 }, { ch := 0, path := .B, w := 60000500000, code := 10#24, gain := 0, ovr := false, inj := false, rangeTr := false, stale := false, phase := 0, front := 15#32 }, by decide +kernel⟩⟩

theorem witness_alarm_scan_rows_run_the_scan_1 :
  ∃ (s : State) (i : LaneId),
    ((s.lane i).computes = true) :=
  ⟨(node (fun l => { l with alm := { stage := 8 } }) id), .A, by decide +kernel⟩

theorem witness_alarm_scan_rows_run_the_scan_2 :
  ∃ (p : Fin 2048) (s : State) (i : LaneId),
    (let l := (s.lane i).scanTo s.sh.gt 1
    ((s.lane i).computes = true) ∧
    ((s.lane i).alm.stage < 2) ∧
    (l.ptCond p ≠ 0) ∧
    (l.unmasked p = true) ∧
    ((s.lane i).on (PT_ST p) PT_ST_QUAL = false) ∧
    ((l.ptEval s.sh.gt p).raw = true) ∧
    ((l.ptEval s.sh.gt p).frozen = false) ∧
    ((if l.on (ALM_DCNT p) ALM_DCNT_RUN then l.fld (ALM_DCNT p) ALM_DCNT_DCNT + 1 else 0) = l.fld (PT_DLY p) PT_DLY_ON_DLY * 10)) :=
  ⟨2047, (node (fun l => { (((((l).setF (PT_SRC 2047) PT_SRC_KIND (2)).setF (PT_CFG 2047) PT_CFG_COND (5)).setF (PT_CFG 2047) PT_CFG_DIR (1)).setF (PT_CFG 2047) PT_CFG_PRIO (3)) with alm := { stage := 1 } }) id), .A, by decide +kernel⟩

theorem witness_alarm_scan_rows_run_the_scan_3 :
  ∃ (p : Fin 2048) (s : State) (i : LaneId),
    (let l := (s.lane i).scanTo s.sh.gt 1
    ((s.lane i).computes = true) ∧
    ((s.lane i).alm.stage < 2) ∧
    (l.ptCond p ≠ 0) ∧
    (l.unmasked p = true) ∧
    ((s.lane i).on (PT_ST p) PT_ST_QUAL = true) ∧
    ((l.ptEval s.sh.gt p).raw = false) ∧
    ((l.ptEval s.sh.gt p).frozen = false) ∧
    ((if l.on (ALM_DCNT p) ALM_DCNT_RUN then l.fld (ALM_DCNT p) ALM_DCNT_DCNT + 1 else 0) = l.fld (PT_DLY p) PT_DLY_OFF_DLY * 10)) :=
  ⟨2047, (node (fun l => { ((((((l).setF (PT_SRC 2047) PT_SRC_KIND (2)).setF (PT_CFG 2047) PT_CFG_COND (5)).setF (PT_ST 2047) PT_ST_QUAL (1)).setF (PT_ST 2047) PT_ST_STATE (1)).setF (PT_CFG 2047) PT_CFG_PRIO (1)) with alm := { stage := 1 } }) id), .A, by decide +kernel⟩

theorem witness_alarm_scan_rows_run_the_scan_4 :
  ∃ (p : Fin 2048) (s : State) (i : LaneId),
    (let l := (s.lane i).scanTo s.sh.gt 1
    ((s.lane i).computes = true) ∧
    ((s.lane i).alm.stage < 2) ∧
    (l.ptCond p ≠ 0) ∧
    (l.unmasked p = true) ∧
    ((s.lane i).ptState p = sActSil) ∧
    (l.ptState p = sActSil) ∧
    (l.alm.sil.contains p.val = false) ∧
    (l.fld (PT_ST p) PT_ST_SCNT + 1 = l.fld ALM_GCFG ALM_GCFG_SILT * 100)) :=
  ⟨2047, (node (fun l => { ((((((l).setF (PT_SRC 2047) PT_SRC_KIND (2)).setF (PT_CFG 2047) PT_CFG_COND (5)).setF (PT_ST 2047) PT_ST_STATE (2)).setF (PT_ST 2047) PT_ST_SCNT (99)).setF (ALM_GCFG) ALM_GCFG_SILT (1)) with alm := { stage := 1 } }) id), .A, by decide +kernel⟩

theorem witness_alarm_scan_rows_run_the_scan_5 :
  ∃ (p : Fin 2048) (s : State) (i : LaneId),
    (let l := (s.lane i).scanTo s.sh.gt 1
    let v := l.source (fun q => (l.pt q).on) (l.on (PT_CFG p) PT_CFG_STALE_OK) (l.fld (PT_SRC p) PT_SRC_KIND)
      (l.fld (PT_SRC p) PT_SRC_INDEX) (l.fld (PT_SRC p) PT_SRC_SUB)
    ((s.lane i).computes = true) ∧
    ((s.lane i).alm.stage < 2) ∧
    (l.ptCond p = 2) ∧
    (l.unmasked p = true) ∧
    (s.sh.gt % (l.fld (PT_CFG p) PT_CFG_RWIN * 10000000) = 0) ∧
    (v.2 = false) ∧
    (F32.isFin v.1 = true)) :=
  ⟨2047, (node (fun l => { ((((((l).setF (PT_SRC 2047) PT_SRC_KIND (2)).setF (PT_CFG 2047) PT_CFG_COND (5)).setF (PT_CFG 2047) PT_CFG_COND (2)).setF (PT_CFG 2047) PT_CFG_RWIN (100)).setF (PT_ST 2047) PT_ST_RVALID (1)) with alm := { stage := 1 } }) id), .A, by decide +kernel⟩

theorem witness_alarm_scan_rows_run_the_scan_6 :
  ∃ (p : Fin 2048) (s : State) (i : LaneId),
    (let l := (s.lane i).scanTo s.sh.gt 1
    ((s.lane i).computes = true) ∧
    ((s.lane i).alm.stage < 2) ∧
    (l.ptCond p ≠ 0) ∧
    ((s.lane i).on (ALM_SHLV p) ALM_SHLV_SHELVED = true) ∧
    (l.on (ALM_SHLV p) ALM_SHLV_SHELVED = true) ∧
    (l.fld (ALM_SHLV p) ALM_SHLV_REMAIN = 1)) :=
  ⟨2047, (node (fun l => { ((((((l).setF (PT_SRC 2047) PT_SRC_KIND (2)).setF (PT_CFG 2047) PT_CFG_COND (5)).setF (ALM_SHLV 2047) ALM_SHLV_SHELVED (1)).setF (ALM_SHLV 2047) ALM_SHLV_REMAIN (1)).setF (ALM_SHELFST) ALM_SHELFST_SHELVED (1)) with alm := { stage := 1 } }) id), .A, by decide +kernel⟩

theorem witness_alarm_scan_rows_run_the_scan_7 :
  ∃ (n : Fin 128) (s : State) (i : LaneId),
    (let l := (s.lane i).scanTo s.sh.gt 2
    let v := l.source (fun q => isOn (l.ptState q)) false (l.fld (ALM_GRPSRC n) ALM_GRPSRC_KIND) (l.fld (ALM_GRPSRC n) ALM_GRPSRC_INDEX)
      (l.fld (ALM_GRPSRC n) ALM_GRPSRC_SUB)
    ((s.lane i).computes = true) ∧
    ((s.lane i).alm.stage < 3) ∧
    ((s.lane i).on (ALM_GRPST n) ALM_GRPST_INH = true) ∧
    (((v.2 = true ∧ l.on (ALM_GRPSRC n) ALM_GRPSRC_HOLDBAD = false) ∨
      (v.2 = false ∧ (l.fld (ALM_GRPSRC n) ALM_GRPSRC_KIND = 0 ∨ isTrue v.1 = l.on (ALM_GRPSRC n) ALM_GRPSRC_INV)))) ∧
    ((if l.on (ALM_GRPST n) ALM_GRPST_RUN then l.fld (ALM_GRPST n) ALM_GRPST_RCNT + 1 else 0) = l.fld (ALM_GRPDLY n) ALM_GRPDLY_REL_DLY * 10)) :=
  ⟨127, (node (fun l => { ((l).setF (ALM_GRPST 127) ALM_GRPST_INH (1)) with alm := { stage := 2 } }) id), .A, by decide +kernel⟩

theorem witness_alarm_scan_rows_run_the_scan_8 :
  ∃ (r : Fin 256) (s : State) (i : LaneId),
    (let l := (s.lane i).scanTo s.sh.gt 3
    ((s.lane i).computes = true) ∧
    ((s.lane i).alm.stage < 4) ∧
    ((s.lane i).on (ALM_RULEST r) ALM_RULEST_ACT = true) ∧
    ((l.on (ALM_RULECAUSE r) ALM_RULECAUSE_EN = false ∨ l.ruleTrig (l.rd (ALM_RULECAUSE r)) = false)) ∧
    ((if l.on (ALM_RULEST r) ALM_RULEST_RUN then l.fld (ALM_RULEST r) ALM_RULEST_HCNT + 1 else 0) = l.fld (ALM_RULEHOLD r) ALM_RULEHOLD_HOLD * 10)) :=
  ⟨255, (node (fun l => { (((l).setF (ALM_RULECAUSE 255) ALM_RULECAUSE_EN (1)).setF (ALM_RULEST 255) ALM_RULEST_ACT (1)) with alm := { stage := 3 } }) id), .A, by decide +kernel⟩

theorem witness_alarm_scan_rows_run_the_scan_9 :
  ∃ (s : State) (i : LaneId),
    (let l := (s.lane i).scanTo s.sh.gt 5
    ((s.lane i).computes = true) ∧
    ((s.lane i).alm.stage < 6) ∧
    (s.sh.gt % 60000000000 = 0)) :=
  ⟨(node (fun l => { ((l).setF (ALM_SHLV 2047) ALM_SHLV_CHCNT (3)) with alm := { stage := 5 } }) id), .A, by decide +kernel⟩

theorem witness_alarm_scan_rows_run_the_scan_10 :
  ∃ (s : State) (i : LaneId),
    (let l := (s.lane i).scanTo s.sh.gt 6
    let on := l.fld ALM_FLOODCFG ALM_FLOODCFG_FLOOD_ON
    let off := l.fld ALM_FLOODCFG ALM_FLOODCFG_FLOOD_OFF
    let n := l.fld ALM_FLOODST ALM_FLOODST_CUR_CNT
    ((s.lane i).computes = true) ∧
    ((s.lane i).alm.stage < 7) ∧
    (s.sh.gt % 10000000000 = 0)) :=
  ⟨(node (fun l => { (((l).setF (ALM_FLOODCFG) ALM_FLOODCFG_FLOOD_ON (5)).setF (ALM_FLOODST) ALM_FLOODST_CUR_CNT (5)) with alm := { stage := 6 } }) id), .A, by decide +kernel⟩

theorem witness_alarm_scan_rows_run_the_scan_11 :
  ∃ (s : State) (i : LaneId),
    (let l := (s.lane i).scanTo s.sh.gt 8
    let k := l.fld ALM_CALLST ALM_CALLST_STAGE
    ((s.lane i).computes = true) ∧
    ((s.lane i).alm.stage < 9) ∧
    (l.alm.callQ = []) ∧
    ((s.lane i).fld ALM_CALLST ALM_CALLST_CSTATE = csCalling) ∧
    (l.demand ≠ []) ∧
    (k < 3) ∧
    (k + 1 < l.fld ALM_CALLCFG ALM_CALLCFG_NSTG) ∧
    (l.fld ALM_CALLST ALM_CALLST_CCNT + 1 = l.fld (ALM_STG k) ALM_STG_STGT * 100)) :=
  ⟨(node (fun l => { ((((((((((((l).setF (PT_CFG 5) PT_CFG_CALL (1)).setF (PT_CFG 5) PT_CFG_PRIO (1)).setF (PT_CFG 5) PT_CFG_COND (5)).setF (PT_CFG 5) PT_CFG_DIR (1)).setF (PT_SRC 5) PT_SRC_KIND (2)).setF (PT_ST 5) PT_ST_QUAL (1)).setF (PT_ST 5) PT_ST_STATE (1)).setF (ALM_CALLST) ALM_CALLST_CSTATE (1)).setF (ALM_CALLST) ALM_CALLST_CCNT (99)).setF (ALM_CALLCFG) ALM_CALLCFG_NSTG (2)).setF (ALM_STG 0) ALM_STG_STGT (1)) with alm := { stage := 8 } }) id), .A, by decide +kernel⟩

theorem witness_alarm_scan_rows_run_the_scan_12 :
  ∃ (s : State) (i : LaneId),
    (let l := (s.lane i).scanTo s.sh.gt 8
    let n := l.fld ALM_CALLCFG ALM_CALLCFG_NSTG
    ((s.lane i).computes = true) ∧
    ((s.lane i).alm.stage < 9) ∧
    (l.alm.callQ = []) ∧
    ((s.lane i).fld ALM_CALLST ALM_CALLST_CSTATE = csAccepted) ∧
    (l.demand = []) ∧
    (l.callPoints (fun x => x == sActRt) ≠ []) ∧
    (n ≤ 4) ∧
    (l.fld ALM_CALLST ALM_CALLST_CCNT + 1 = l.fld ALM_CALLCFG ALM_CALLCFG_ACCT * 100)) :=
  ⟨(node (fun l => { ((((((((((((l).setF (PT_CFG 5) PT_CFG_CALL (1)).setF (PT_CFG 5) PT_CFG_PRIO (1)).setF (PT_CFG 5) PT_CFG_COND (5)).setF (PT_CFG 5) PT_CFG_DIR (1)).setF (PT_SRC 5) PT_SRC_KIND (2)).setF (PT_ST 5) PT_ST_QUAL (1)).setF (PT_ST 5) PT_ST_STATE (4)).setF (ALM_CALLST) ALM_CALLST_CSTATE (2)).setF (ALM_CALLST) ALM_CALLST_CCNT (99)).setF (ALM_CALLCFG) ALM_CALLCFG_NSTG (2)).setF (ALM_CALLCFG) ALM_CALLCFG_ACCT (1)) with alm := { stage := 8 } }) id), .A, by decide +kernel⟩

theorem witness_alarm_scan_rows_run_the_scan_13 :
  ∃ (s : State) (i : LaneId),
    (let l := (s.lane i).scanTo s.sh.gt 8
    ((s.lane i).computes = true) ∧
    ((s.lane i).alm.stage < 9) ∧
    (l.alm.callQ = []) ∧
    ((s.lane i).fld ALM_DMST ALM_DMST_DMST = dmRun) ∧
    (l.fld ALM_DMST ALM_DMST_DMCNT + 1 + l.fld ALM_DMCFG ALM_DMCFG_DM_PW * 100 = l.fld ALM_DMCFG ALM_DMCFG_DM_PER * 6000)) :=
  ⟨(node (fun l => { (((((l).setF (ALM_DMST) ALM_DMST_DMST (1)).setF (ALM_DMST) ALM_DMST_DMCNT (5899)).setF (ALM_DMCFG) ALM_DMCFG_DM_PER (1)).setF (ALM_DMCFG) ALM_DMCFG_DM_PW (1)) with alm := { stage := 8 } }) id), .A, by decide +kernel⟩

theorem witness_alarm_scan_rows_run_the_scan_14 :
  ∃ (s : State) (i : LaneId),
    (let l := (s.lane i).scanTo s.sh.gt 8
    ((s.lane i).computes = true) ∧
    ((s.lane i).alm.stage < 9) ∧
    (l.alm.callQ = []) ∧
    ((s.lane i).fld ALM_DMST ALM_DMST_DMST = dmPrewarn) ∧
    (l.fld ALM_DMST ALM_DMST_DMCNT + 1 = l.fld ALM_DMCFG ALM_DMCFG_DM_PER * 6000)) :=
  ⟨(node (fun l => { (((((l).setF (ALM_DMST) ALM_DMST_DMST (2)).setF (ALM_DMST) ALM_DMST_DMCNT (5999)).setF (ALM_DMCFG) ALM_DMCFG_DM_PER (1)).setF (ALM_DMCFG) ALM_DMCFG_DM_PW (1)) with alm := { stage := 8 } }) id), .A, by decide +kernel⟩

theorem witness_alarm_scan_rows_run_the_scan_15 :
  ∃ (st : Fin 16) (s : State) (i : LaneId),
    ((s.lane i).computes = true) ∧
    ((s.lane i).present st = true) ∧
    ((s.lane i).presentAt s.sh.gt st = false) :=
  ⟨15, (node (fun l => { ((l).setF (ALM_CALLED) ALM_CALLED_PRESENT (32768)) with alm := { stage := 8 } }) id), .A, by decide +kernel⟩

theorem witness_alarm_scan_rows_run_the_scan_16 :
  ∃ (dly : Word) (n : Nat),
    (0 < PT_DLY_ON_DLY.get dly) ∧
    (PT_DLY_ON_DLY.get dly ≤ 36000) ∧
    (n ≤ PT_DLY_ON_DLY.get dly * 10) :=
  ⟨36000#32, 360000, by decide +kernel⟩

theorem witness_alarm_commands_move_points_1 :
  ∃ (p : BitVec 11) (o : BitVec 5) (s : State) (i : LaneId),
    (let l := (s.lane i).scanTo s.sh.gt 1
    ((s.lane i).computes = true) ∧
    ((s.lane i).alm.stage < 2) ∧
    (l.alm.taken < 32) ∧
    (l.almPermits 0x01 o.toNat = true) ∧
    (l.ptState p.toNat ∈ [sActUnack, sActSil, sActRt, sRectUnack])) :=
  ⟨5, 31, (node (fun l => { ((l).setF (PT_ST 5) PT_ST_STATE (5)) with alm := { stage := 1 } }) id), .A, by decide +kernel⟩

theorem witness_alarm_commands_move_points_2 :
  ∃ (p : BitVec 11) (o : BitVec 5) (s : State) (i : LaneId),
    (let l := (s.lane i).scanTo s.sh.gt 1
    ((s.lane i).computes = true) ∧
    ((s.lane i).alm.stage < 2) ∧
    (l.alm.taken < 32) ∧
    (l.almPermits 0x02 o.toNat = true) ∧
    (l.ptState p.toNat = sActUnack)) :=
  ⟨5, 31, (node (fun l => { ((l).setF (PT_ST 5) PT_ST_STATE (1)) with alm := { stage := 1 } }) id), .A, by decide +kernel⟩

theorem witness_alarm_commands_move_points_3 :
  ∃ (p : BitVec 11) (o : BitVec 5) (s : State) (i : LaneId),
    (let l := (s.lane i).scanTo s.sh.gt 1
    ((s.lane i).computes = true) ∧
    ((s.lane i).alm.stage < 2) ∧
    (l.alm.taken < 32) ∧
    (l.almPermits 0x05 o.toNat = true) ∧
    (l.ptState p.toNat ∈ [sActUnack, sActSil]) ∧
    (l.ptPrio p.toNat ≠ 0)) :=
  ⟨5, 31, (node (fun l => { (((l).setF (PT_ST 5) PT_ST_STATE (2)).setF (PT_CFG 5) PT_CFG_PRIO (3)) with alm := { stage := 1 } }) id), .B, by decide +kernel⟩

theorem witness_alarm_commands_move_points_4 :
  ∃ (p : BitVec 11) (o : BitVec 5) (s : State) (i : LaneId),
    (let l := (s.lane i).scanTo s.sh.gt 1
    ((s.lane i).computes = true) ∧
    ((s.lane i).alm.stage < 2) ∧
    (l.alm.taken < 32) ∧
    (l.almPermits 0x06 o.toNat = true) ∧
    (l.ptState p.toNat = sActRt)) :=
  ⟨5, 31, (node (fun l => { ((l).setF (PT_ST 5) PT_ST_STATE (4)) with alm := { stage := 1 } }) id), .A, by decide +kernel⟩

theorem witness_alarm_commands_move_points_5 :
  ∃ (n : BitVec 11) (o : BitVec 5) (s : State) (i : LaneId) (p : Nat),
    (let l := (s.lane i).scanTo s.sh.gt 1
    ((s.lane i).computes = true) ∧
    ((s.lane i).alm.stage < 2) ∧
    (l.alm.taken < 32) ∧
    (n.toNat < 128) ∧
    (l.almPermits 0x03 o.toNat = true) ∧
    (p < 2048) ∧
    (l.ptCond p ≠ 0) ∧
    (l.ptGroup p = n.toNat) ∧
    (l.ptState p ∈ [sActUnack, sActSil, sActRt, sRectUnack])) :=
  ⟨127, 31, (node (fun l => { ((((l).setF (PT_ST 5) PT_ST_STATE (5)).setF (PT_CFG 5) PT_CFG_COND (1)).setF (PT_CFG 5) PT_CFG_GROUP (127)) with alm := { stage := 1 } }) id), .A, 5, by decide +kernel⟩

theorem witness_alarm_commands_move_points_6 :
  ∃ (o : BitVec 5) (s : State) (i : LaneId) (p : Nat),
    (let l := (s.lane i).scanTo s.sh.gt 1
    ((s.lane i).computes = true) ∧
    ((s.lane i).alm.stage < 2) ∧
    (l.alm.taken < 32) ∧
    (l.almPermits 0x04 o.toNat = true) ∧
    (p < 2048) ∧
    (l.ptCond p ≠ 0) ∧
    (l.ptState p = sActUnack)) :=
  ⟨31, (node (fun l => { (((l).setF (PT_ST 2047) PT_ST_STATE (1)).setF (PT_CFG 2047) PT_CFG_COND (1)) with alm := { stage := 1 } }) id), .A, 2047, by decide +kernel⟩

theorem witness_shelving_and_call_commands_1 :
  ∃ (p : BitVec 11) (o : BitVec 5) (s : State) (i : LaneId),
    (let l := (s.lane i).scanTo s.sh.gt 1
    ((s.lane i).computes = true) ∧
    ((s.lane i).alm.stage < 2) ∧
    (l.alm.taken < 32) ∧
    (l.almPermits 0x07 o.toNat = true) ∧
    (l.on (ALM_SHLV p.toNat) ALM_SHLV_SHELVED = false) ∧
    (l.ptPrio p.toNat ≠ 0) ∧
    (l.ptCond p.toNat ≠ 0) ∧
    (l.fld ALM_SHELFST ALM_SHELFST_SHELVED < l.fld ALM_SHELFCFG ALM_SHELFCFG_SHELF_MAX)) :=
  ⟨2047, 31, (node (fun l => { ((((l).setF (PT_CFG 2047) PT_CFG_PRIO (3)).setF (PT_CFG 2047) PT_CFG_COND (1)).setF (ALM_SHELFCFG) ALM_SHELFCFG_SHELF_MAX (1)) with alm := { stage := 1 } }) id), .A, by decide +kernel⟩

theorem witness_shelving_and_call_commands_2 :
  ∃ (p : BitVec 11) (o : BitVec 5) (s : State) (i : LaneId),
    (let l := (s.lane i).scanTo s.sh.gt 1
    ((s.lane i).computes = true) ∧
    ((s.lane i).alm.stage < 2) ∧
    (l.alm.taken < 32) ∧
    (l.almPermits 0x08 o.toNat = true) ∧
    (l.on (ALM_SHLV p.toNat) ALM_SHLV_SHELVED = true)) :=
  ⟨2047, 31, (node (fun l => { (((l).setF (ALM_SHLV 2047) ALM_SHLV_SHELVED (1)).setF (ALM_SHELFST) ALM_SHELFST_SHELVED (1)) with alm := { stage := 1 } }) id), .A, by decide +kernel⟩

theorem witness_shelving_and_call_commands_3 :
  ∃ (n : BitVec 11) (o : BitVec 5) (s : State) (i : LaneId),
    (let l := (s.lane i).scanTo s.sh.gt 1
    ((s.lane i).computes = true) ∧
    ((s.lane i).alm.stage < 2) ∧
    (l.alm.taken < 32) ∧
    (n.toNat < 128) ∧
    (l.almPermits 0x09 o.toNat = true) ∧
    (l.on (ALM_GRPDLY n.toNat) ALM_GRPDLY_FO_EN = true) ∧
    (l.on (ALM_GRPST n.toNat) ALM_GRPST_FO_ARMED = false)) :=
  ⟨127, 31, (node (fun l => { ((l).setF (ALM_GRPDLY 127) ALM_GRPDLY_FO_EN (1)) with alm := { stage := 1 } }) id), .A, by decide +kernel⟩

theorem witness_shelving_and_call_commands_4 :
  ∃ (o : BitVec 5) (s : State) (i : LaneId),
    (let l := (s.lane i).scanTo s.sh.gt 1
    let m := (s.lane i).atCallStep s.sh.gt 0x20 0 o.toNat
    ((s.lane i).computes = true) ∧
    ((s.lane i).alm.stage < 2) ∧
    (l.alm.taken < 32) ∧
    (l.alm.callQ = []) ∧
    (l.almPermits 0x20 o.toNat = true) ∧
    (m.fld ALM_CALLST ALM_CALLST_CSTATE = csCalling) ∧
    (m.demand ≠ []) ∧
    (m.emerg = false) ∧
    ((o.toNat < 16 → bitOf m.calledNow o.toNat = true))) :=
  ⟨31, (node (fun l => { ((((((((((l).setF (PT_CFG 5) PT_CFG_CALL (1)).setF (PT_CFG 5) PT_CFG_PRIO (1)).setF (PT_CFG 5) PT_CFG_COND (5)).setF (PT_CFG 5) PT_CFG_DIR (1)).setF (PT_SRC 5) PT_SRC_KIND (2)).setF (PT_ST 5) PT_ST_QUAL (1)).setF (PT_ST 5) PT_ST_STATE (1)).setF (ALM_CALLST) ALM_CALLST_CSTATE (1)).setF (ALM_CALLCFG) ALM_CALLCFG_NSTG (2)) with alm := { stage := 1 } }) id), .A, by decide +kernel⟩

theorem witness_shelving_and_call_commands_5 :
  ∃ (n : BitVec 11) (o : BitVec 5) (s : State) (i : LaneId),
    (let l := (s.lane i).scanTo s.sh.gt 1
    let m := (s.lane i).atCallStep s.sh.gt 0x21 n.toNat o.toNat
    ((s.lane i).computes = true) ∧
    ((s.lane i).alm.stage < 2) ∧
    (l.alm.taken < 32) ∧
    (l.alm.callQ = []) ∧
    (l.almPermits 0x21 o.toNat = true) ∧
    (n.toNat < 16) ∧
    (m.fitted n.toNat = true) ∧
    (m.on (ALM_WS n.toNat) ALM_WS_ELIG = true) ∧
    (m.fld ALM_CALLST ALM_CALLST_CSTATE = csIdle)) :=
  ⟨15, 31, (node (fun l => { (((l).setF (ALM_WS 15) ALM_WS_FITTED (1)).setF (ALM_WS 15) ALM_WS_ELIG (1)) with alm := { stage := 1 } }) id), .A, by decide +kernel⟩

theorem witness_shelving_and_call_commands_6 :
  ∃ (o : BitVec 5) (s : State) (i : LaneId),
    (let l := (s.lane i).scanTo s.sh.gt 1
    let m := (s.lane i).atCallStep s.sh.gt 0x22 0 o.toNat
    ((s.lane i).computes = true) ∧
    ((s.lane i).alm.stage < 2) ∧
    (l.alm.taken < 32) ∧
    (l.alm.callQ = []) ∧
    (l.almPermits 0x22 o.toNat = true) ∧
    (m.fld ALM_DMST ALM_DMST_DMST = dmOff) ∧
    (m.on ALM_DMCFG ALM_DMCFG_DM_EN = true)) :=
  ⟨31, (node (fun l => { ((l).setF (ALM_DMCFG) ALM_DMCFG_DM_EN (1)) with alm := { stage := 1 } }) id), .A, by decide +kernel⟩

theorem witness_shelving_and_call_commands_7 :
  ∃ (o : BitVec 5) (s : State) (i : LaneId),
    (let l := (s.lane i).scanTo s.sh.gt 1
    let m := (s.lane i).atCallStep s.sh.gt 0x23 0 o.toNat
    ((s.lane i).computes = true) ∧
    ((s.lane i).alm.stage < 2) ∧
    (l.alm.taken < 32) ∧
    (l.alm.callQ = []) ∧
    (l.almPermits 0x23 o.toNat = true) ∧
    (m.fld ALM_DMST ALM_DMST_DMST ≠ dmOff)) :=
  ⟨31, (node (fun l => { ((l).setF (ALM_DMST) ALM_DMST_DMST (3)) with alm := { stage := 1 } }) id), .A, by decide +kernel⟩

theorem witness_shelving_and_call_commands_8 :
  ∃ (o : BitVec 5) (s : State) (i : LaneId),
    (let l := (s.lane i).scanTo s.sh.gt 1
    let m := (s.lane i).atCallStep s.sh.gt 0x24 0 o.toNat
    ((s.lane i).computes = true) ∧
    ((s.lane i).alm.stage < 2) ∧
    (l.alm.taken < 32) ∧
    (l.alm.callQ = []) ∧
    (l.almPermits 0x24 o.toNat = true) ∧
    (m.fld ALM_DMST ALM_DMST_DMST ≠ dmOff)) :=
  ⟨31, (node (fun l => { ((l).setF (ALM_DMST) ALM_DMST_DMST (1)) with alm := { stage := 1 } }) id), .A, by decide +kernel⟩

theorem witness_refused_alarm_commands_only_record_1 :
  ∃ (c : Instr) (op tgt origin st : Nat) (s : State) (i : LaneId),
    (let l := (s.lane i).scanTo s.sh.gt 1
    ((∃ (x : BitVec 11) (o : BitVec 5), tgt = x.toNat ∧ origin = o.toNat ∧
      (c, op) ∈ [(.ack x o, 0x01), (.silence x o, 0x02), (.ackGroup x o, 0x03), (.silenceAll x o, 0x04), (.transfer x o, 0x05),
        (.retake x o, 0x06), (.shelve x o, 0x07), (.unshelve x o, 0x08), (.foReset x o, 0x09)])) ∧
    ((s.lane i).computes = true) ∧
    ((s.lane i).alm.stage < 2) ∧
    (((almInvalid op tgt = true ∧ st = 3) ∨ (almInvalid op tgt = false ∧ 32 ≤ l.alm.taken ∧ st = 2) ∨
      (almInvalid op tgt = false ∧ l.alm.taken < 32 ∧ l.almPermits op origin = false ∧ st = 4) ∨
      (almInvalid op tgt = false ∧ l.alm.taken < 32 ∧ l.almPermits op origin = true ∧ l.almRefused op tgt = true ∧ st = 2)))) :=
  ⟨.ack 5 31, 1, 5, 31, 2, (node (fun l => { l with alm := { stage := 1 } }) id), .A, ⟨5, 31, rfl, rfl, by simp⟩, (by decide +kernel), (by decide +kernel), (by decide +kernel)⟩

theorem witness_refused_alarm_commands_only_record_2 :
  ∃ (c : Instr) (op tgt origin : Nat) (s : State) (i : LaneId),
    ((∃ (x : BitVec 11) (o : BitVec 5), tgt = x.toNat ∧ origin = o.toNat ∧
      (c, op) ∈ [(.ack x o, 0x01), (.silence x o, 0x02), (.ackGroup x o, 0x03), (.silenceAll x o, 0x04), (.transfer x o, 0x05),
        (.retake x o, 0x06), (.shelve x o, 0x07), (.unshelve x o, 0x08), (.foReset x o, 0x09), (.acceptCall x o, 0x20),
        (.duty x o, 0x21), (.dmStart x o, 0x22), (.dmReset x o, 0x23), (.dmStop x o, 0x24)])) ∧
    ((s.lane i).computes = true) ∧
    (2 ≤ (s.lane i).alm.stage) :=
  ⟨.dmStop 5 31, 0x24, 5, 31, (node (fun l => { l with alm := { stage := 2 } }) id), .A, ⟨5, 31, rfl, rfl, by simp⟩, (by decide +kernel), (by decide +kernel)⟩

theorem witness_table_interpolation :
  ∃ (l : Lane) (cfg pcfg : Word) (low : Bool) (x : F32),
    (AIN_PCFG_CHAR.get pcfg = 2) :=
  ⟨State.reset.a, 0#32, AIN_PCFG_CHAR.put 2 0#32, true, 0#32, by decide +kernel⟩

theorem witness_control_commands :
  (∃ (n : BitVec 5) (arg : BitVec 8) (s : State) (i : LaneId),
    ((s.lane i).computes = true) ∧
    ((s.lane i).loopType n.toNat ≠ 0) ∧
    (arg.toNat ≤ 2) ∧
    ((s.lane i).loopNextMode n.toNat ≠ arg.toNat) ∧
    ((arg.toNat = mCas → (s.lane i).loopType n.toNat = 3 ∧ ((s.lane i).namedBy 3 n.toNat).isSome = true)) ∧
    ((arg.toNat ≠ mMan → (s.lane i).on (CTRL_ST n.toNat) CTRL_ST_PVBAD = false))) ∧
  (∃ (n : BitVec 5) (v : Word) (s : State) (i : LaneId),
    ((s.lane i).computes = true) ∧
    (F32.isFin v = true) ∧
    (F32.lt v ((s.lane i).rd (CTRL_SPLO n.toNat)) = false) ∧
    (F32.gt v ((s.lane i).rd (CTRL_SPHI n.toNat)) = false) ∧
    ((s.lane i).loopType n.toNat ∉ [0, 2]) ∧
    ((s.lane i).loopNextMode n.toNat ≠ mCas) ∧
    (((s.lane i).loopNextMode n.toNat = mMan → (s.lane i).on (CTRL_CFG n.toNat) CTRL_CFG_SPTRK = false))) ∧
  (∃ (n : BitVec 5) (v : Word) (s : State) (i : LaneId),
    ((s.lane i).computes = true) ∧
    (F32.isFin v = true) ∧
    (F32.lt v ((s.lane i).rd (CTRL_OLO n.toNat ((s.lane i).loopSet n.toNat))) = false) ∧
    (F32.gt v ((s.lane i).rd (CTRL_OHI n.toNat ((s.lane i).loopSet n.toNat))) = false) ∧
    ((s.lane i).loopType n.toNat ≠ 0) ∧
    ((s.lane i).loopNextMode n.toNat = mMan)) ∧
  (∃ (n : BitVec 5) (arg : BitVec 8) (s : State) (i : LaneId),
    ((s.lane i).computes = true) ∧
    (arg.toNat ≤ 1) ∧
    ((s.lane i).loopType n.toNat ≠ 0) ∧
    ((s.lane i).loopSet n.toNat ≠ arg.toNat) ∧
    ((s.lane i).on (CTRL_ST n.toNat) CTRL_ST_SWAP_PEND = false)) ∧
  (∃ (n : BitVec 5) (arg : BitVec 8) (v : Word) (s : State) (i : LaneId) (c : Instr) (op : Nat) (w : Word),
    ((s.lane i).computes = true) ∧
    ((c, op, w) ∈ [(.setMode n arg, 1, 0#32), (.setSp n arg v, 2, v), (.setOut n arg v, 3, v), (.selSet n arg, 4, 0#32)]) ∧
    ((s.lane i).ctrlStatus op n.toNat arg.toNat w ≠ 0)) :=
  ⟨⟨31, 2, (node (fun l => ((((l).setF (CTRL_CFG 31) CTRL_CFG_TYPE (3)).setF (CTRL_CFG 0) CTRL_CFG_TYPE (1)).setF (CTRL_DST 0 1) CTRL_DST_DKIND (3)).setF (CTRL_DST 0 1) CTRL_DST_DIDX (31)) id), .A, by decide +kernel⟩,
  ⟨31, 0#32, (node (fun l => ((l).setF (CTRL_CFG 31) CTRL_CFG_TYPE (1)).setF (CTRL_ST 31) CTRL_ST_MODE (1)) id), .A, by decide +kernel⟩,
  ⟨31, 0#32, (node (fun l => (l).setF (CTRL_CFG 31) CTRL_CFG_TYPE (1)) id), .A, by decide +kernel⟩,
  ⟨31, 1, (node (fun l => (l).setF (CTRL_CFG 31) CTRL_CFG_TYPE (1)) id), .A, by decide +kernel⟩,
  ⟨31, 3, 0#32, (node (fun l => (l).setF (CTRL_CFG 31) CTRL_CFG_TYPE (1)) id), .A, .setMode 31 3, 1, 0#32, (by decide +kernel), (by simp), (by decide +kernel)⟩⟩

theorem witness_loop_rows :
  (∃ (n : Fin 32) (s : State) (i : LaneId),
    (let l := (s.lane i).phase3
    ((s.lane i).computes = true) ∧
    (l.loopDue n s.sh.gt = true) ∧
    ((l.loop n).done = false))) ∧
  (∃ (n : Fin 32) (d : Fin 2) (s : State) (i : LaneId),
    ((s.lane i).computes = true) ∧
    (let g := s.sh.gt + 1000000
    let l := (s.lane i).loopsRun s.sh.gt
    let on := tpOn (l.vAt g n d) (l.fld (CTRL_DST n d) CTRL_DST_TPP) (l.fld (CTRL_DST n d) CTRL_DST_MINP)
    ((s.lane i).tpDue n d g = true) ∧
    (l.tpDue n d g = true) ∧
    ((l.tps.at {} (2 * n + d)).doneAt ≠ g))) ∧
  (∃ (n : Fin 32) (d : Fin 2) (s : State) (i : LaneId),
    ((s.lane i).computes = true) ∧
    (((s.lane i).tps.at {} (2 * n + d)).on = true) ∧
    (((s.lane i).tps.at {} (2 * n + d)).offAt = s.sh.gt + 1000000)) :=
  ⟨⟨31, (node (fun l => ((l).setF (CTRL_CFG 31) CTRL_CFG_TYPE (1)).setF (CTRL_CFG 31) CTRL_CFG_PERIOD (1)) id), .A, by decide +kernel⟩,
  ⟨31, 1, (node (fun l => ((((l).setF (CTRL_CFG 31) CTRL_CFG_TYPE (1)).setF (CTRL_CFG 31) CTRL_CFG_PERIOD (3000)).setF (CTRL_DST 31 1) CTRL_DST_DKIND (2)).setF (CTRL_DST 31 1) CTRL_DST_TPP (1)) (fun h => { h with gt := 60099000000 })), .A, by decide +kernel⟩,
  ⟨31, 1, (node (fun l => { l with tps := l.tps.upd {} 63 { on := true, offAt := 60001000000 } }) id), .A, by decide +kernel⟩⟩

theorem witness_loop_output_rows :
  (∃ (n : BitVec 5) (v : Word) (s : State) (i : LaneId),
    ((s.lane i).computes = true) ∧
    (n.toNat < 24) ∧
    (F32.isFin v = true) ∧
    (F32.lt v 0#32 = false) ∧
    (F32.gt v (F32.ofRat 24 1) = false) ∧
    ((s.lane i).aoMode n.toNat ≠ 0) ∧
    ((s.lane i).namedBy 1 n.toNat = none)) ∧
  (∃ (n : BitVec 5) (arg : BitVec 8) (s : State) (i : LaneId),
    ((s.lane i).computes = true) ∧
    (n.toNat < 24) ∧
    (arg.toNat ≤ 1) ∧
    ((s.lane i).aoMode n.toNat ≠ 0) ∧
    ((s.lane i).fld (AO_ST n.toNat) AO_ST_FORCED ≠ arg.toNat)) ∧
  (∃ (n : BitVec 5) (s : State) (i : LaneId),
    ((s.lane i).computes = true) ∧
    (s.lead = s.lane i) ∧
    (n.toNat < 24) ∧
    ((s.lane i).on (AO_ST n.toNat) AO_ST_TLATCH = true)) ∧
  (∃ (n : BitVec 5) (s : State) (i : LaneId),
    ((s.lane i).computes = true) ∧
    (n.toNat < 24) ∧
    ((s.lane i).on (AO_ST n.toNat) AO_ST_TLATCH = false)) ∧
  (∃ (n : BitVec 5) (s : State) (i : LaneId),
    ((s.lane i).computes = true) ∧
    (n.toNat < 24) ∧
    ((s.lane i).on (AO_CFG n.toNat) AO_CFG_HART_EN = true) ∧
    ((s.lane i).aoMode n.toNat ≠ 0) ∧
    (((s.lane i).hart n.toNat).hostQ = none) ∧
    (((s.lane i).hart n.toNat).cur = none) ∧
    (((s.lane i).bufByte (HRT_TX n.toNat 0) 1).toNat ≤ 64)) ∧
  (∃ (n : BitVec 5) (arg : BitVec 8) (s : State) (i : LaneId),
    ((s.lane i).computes = true) ∧
    (23 < n.toNat)) ∧
  (∃ (n : BitVec 5) (v : Word) (s : State) (i : LaneId),
    ((s.lane i).computes = true) ∧
    (n.toNat < 24) ∧
    (F32.isFin v = true) ∧
    (F32.lt v 0#32 = false) ∧
    (F32.gt v (F32.ofRat 24 1) = false) ∧
    ((s.lane i).aoMode n.toNat = 0)) ∧
  (∃ (n : Fin 24) (s : State),
    (s.sh.on (AO_CODE n) AO_CODE_OFF = false)) ∧
  (∃ (n : Fin 24) (dt : Nat) (s : State),
    ((s.sh.ao n).toff = false)) ∧
  (∃ (n : Fin 24) (temp : Byte) (dt : Nat) (s : State),
    ((s.sh.ao n).toff = true) ∧
    (temp.toNat ≤ 175) ∧
    ((s.sh.ao n).toffAt + 100000000 ≤ s.sh.gt + dt)) ∧
  (∃ (n : Fin 24) (pass : Bool) (s : State) (i : LaneId),
    (s.sh.checkDue = true) ∧
    ((s.lane i).takes = true) ∧
    ((s.lane i).aoLost = false)) ∧
  (∃ (n : Fin 24) (s : State) (i : LaneId),
    ((s.lane i).computes = true) ∧
    (((s.lane i).ao n).devDue = true)) ∧
  (∃ (n : Fin 24) (s : State) (i : LaneId),
    ((s.lane i).computes = true) ∧
    (((s.lane i).ao n).takeover = some s.sh.gt)) :=
  ⟨⟨23, 0#32, (node (fun l => (l).setF (AO_ST 23) AO_ST_MODE (1)) id), .A, by decide +kernel⟩,
  ⟨23, 1, (node (fun l => (l).setF (AO_ST 23) AO_ST_MODE (1)) id), .A, by decide +kernel⟩,
  ⟨23, (node (fun l => (l).setF (AO_ST 23) AO_ST_TLATCH (1)) id), .A, (by decide +kernel), rfl, (by decide +kernel), (by decide +kernel)⟩,
  ⟨23, (node id id), .A, by decide +kernel⟩,
  ⟨23, (node (fun l => (((l).setF (AO_ST 23) AO_ST_MODE (1)).setF (AO_CFG 23) AO_CFG_HART_EN (1)).setF (HRT_TX 23 0) ⟨8, 8⟩ (64)) id), .A, by decide +kernel⟩,
  ⟨24, 1, (node id id), .A, by decide +kernel⟩,
  ⟨23, 0#32, (node id id), .A, by decide +kernel⟩,
  ⟨23, (node id (fun h => (h).setF (AO_CODE 23) AO_CODE_OFF (0))), by decide +kernel⟩,
  ⟨23, 999999, (node id (fun h => (h).setAo 23 { winTof := 7, win := 1 })), by decide +kernel⟩,
  ⟨23, 175, 0, (node id (fun h => (h).setAo 23 { toff := true, toffAt := 59900000000 })), by decide +kernel⟩,
  ⟨23, true, (node (fun l => { l with aoLost := false }) (fun h => { h with aoutOn := some 59990000000 })), .A, by decide +kernel⟩,
  ⟨23, (node (fun l => (l).setAo 23 { devDue := true }) id), .A, by decide +kernel⟩,
  ⟨23, (node (fun l => (l).setAo 23 { takeover := some 60000000000 }) id), .A, by decide +kernel⟩⟩

theorem witness_hart_rows :
  (∃ (n : Fin 24) (x : HartTx) (s : State) (i : LaneId),
    ((s.lane i).computes = true) ∧
    ((s.lane i).hartNext n = some x) ∧
    (s.sh.hold = false) ∧
    (s.sh.aoutOn.isSome = true) ∧
    ((s.lane i).hartReady n = true) ∧
    ((s.lane i).on PWR_LST PWR_LST_C2RED = false) ∧
    (((s.lane i).hart n).quietFrom = 0)) ∧
  (∃ (n : Fin 24) (x : HartTx) (s : State) (i : LaneId),
    ((s.lane i).computes = true) ∧
    ((s.lane i).hartNext n = some x) ∧
    (s.sh.hold = false) ∧
    (s.sh.aoutOn.isSome = true) ∧
    ((s.lane i).hartReady n = true) ∧
    ((s.lane i).on PWR_LST PWR_LST_C2RED = false) ∧
    (x.deferred = false)) ∧
  (∃ (n : Fin 24) (pre : Nat) (data : List Byte) (parity : Bool) (dt : Nat) (s : State) (i : LaneId),
    ((s.lane i).takes = true) ∧
    ((s.lane i).aoLost = false)) ∧
  (∃ (n : Fin 24) (dt : Nat) (x : HartTx) (s : State) (i : LaneId),
    ((s.lane i).computes = true) ∧
    (((s.lane i).hart n).cur = some x) ∧
    (x.live = true) ∧
    (x.endAt + hartChars ((s.lane i).fld (HRT_CFG n) HRT_CFG_RSPTO) ≤ s.sh.gt + dt) ∧
    (0 < x.left)) ∧
  (∃ (n : Fin 24) (dt : Nat) (x : HartTx) (s : State) (i : LaneId),
    ((s.lane i).computes = true) ∧
    (((s.lane i).hart n).cur = some x) ∧
    (x.live = true) ∧
    (x.endAt + hartChars ((s.lane i).fld (HRT_CFG n) HRT_CFG_RSPTO) ≤ s.sh.gt + dt) ∧
    (x.left = 0) ∧
    (x.poll = false)) ∧
  (∃ (n : Fin 24) (s : State) (i : LaneId),
    ((s.lane i).computes = true) ∧
    ((s.lane i).hartPollAt s.sh.gt n = true) ∧
    (((s.lane i).hart n).pollAt ≠ s.sh.gt)) :=
  ⟨⟨23, { req := [2#8], poll := true, left := 0, live := false, endAt := 0, deferred := false }, (node (fun l => (((l).setF (AO_ST 23) AO_ST_MODE (1)).setF (AO_CFG 23) AO_CFG_HART_EN (1)).setHart 23 { cur := some { req := [2#8], poll := true, left := 0, live := false, endAt := 0, deferred := false } }) (fun h => { h with aoutOn := some 0 })), .A, by decide +kernel⟩,
  ⟨23, { req := [2#8], poll := true, left := 0, live := false, endAt := 0, deferred := false }, (node (fun l => (((l).setF (AO_ST 23) AO_ST_MODE (1)).setF (AO_CFG 23) AO_CFG_HART_EN (1)).setHart 23 { cur := some { req := [2#8], poll := true, left := 0, live := false, endAt := 0, deferred := false } }) (fun h => { h with aoutOn := some 0 })), .A, by decide +kernel⟩,
  ⟨23, 5, [6#8], true, 0, (node (fun l => { l with aoLost := false }) id), .A, by decide +kernel⟩,
  ⟨23, 0, { req := [2#8], poll := true, left := 1, live := true, endAt := 0, deferred := false }, (node (fun l => (l).setHart 23 { cur := some { req := [2#8], poll := true, left := 1, live := true, endAt := 0, deferred := false } }) id), .A, by decide +kernel⟩,
  ⟨23, 0, { req := [2#8], poll := false, left := 0, live := true, endAt := 0, deferred := false }, (node (fun l => (l).setHart 23 { cur := some { req := [2#8], poll := false, left := 0, live := true, endAt := 0, deferred := false } }) id), .A, by decide +kernel⟩,
  ⟨23, (node (fun l => ((l).setF (HRT_CFG 23) HRT_CFG_POLL_EN (1)).setF (HRT_CFG 23) HRT_CFG_POLLP (60)) id), .A, by decide +kernel⟩⟩

theorem witness_digital_input_rows :
  (∃ (n : Fin 32) (level : Bool) (dt : Nat) (s : State),
    (s.sh.dioOn = true) ∧
    ((s.sh.di n).raw ≠ level) ∧
    ((s.sh.di n).initAt = none) ∧
    ((s.sh.di n).run = none)) ∧
  (∃ (n : Fin 32) (level : Bool) (dt : Nat) (s : State),
    (s.sh.dioOn = false) ∧
    ((s.sh.di n).raw ≠ level)) ∧
  (∃ (n : Fin 32) (r : Nat) (s : State),
    (s.sh.dioOn = true) ∧
    ((s.sh.di n).initAt = none) ∧
    ((s.sh.di n).run = some r) ∧
    (let level := s.lead.diLevel n (s.sh.di n)
    let q := (r + s.lead.debN n - 1) * 100000
    (level ≠ (s.sh.di n).deb) ∧
    (q ≤ s.sh.gt + 1000000))) :=
  ⟨⟨31, true, 1999, (node id (fun h => { ((h).setF (PWR_DST 12) PWR_DST_ON (1)) with dioAt := 600000 })), by decide +kernel⟩,
  ⟨31, true, 1999, (node id id), by decide +kernel⟩,
  ⟨31, 600010, (node id (fun h => ({ ((h).setF (PWR_DST 12) PWR_DST_ON (1)) with dioAt := 600000 }).setDi 31 { raw := true, run := some 600010 })), by decide +kernel⟩⟩

theorem witness_digital_outputs_follow_the_table :
  ∃ (s : State) (n : Nat),
    (n < 32) :=
  ⟨(node id id), 31, by decide +kernel⟩

theorem witness_output_fault_and_bank_rows :
  (∃ (n : Fin 32) (v : BitVec 16) (dt : Nat) (s : State),
    (s.sampleDue dt) ∧
    (s.lead.on (DO_CFG n) DO_CFG_EN = true) ∧
    (let r := readClass (s.sh.bank (n / 8)).vf v.toInt
    let on := s.sh.on (DO_ST n) DO_ST_APPLIED
    let bad := decide (r = 2) || (decide (r = 1) != on)
    (1 ≤ (s.sh.dou n).age) ∧
    ((s.sh.dou n).bad = bad) ∧
    (29 ≤ (s.sh.dou n).cnt))) ∧
  (∃ (k : Fin 4) (j dt : Nat) (s : State),
    (s.sampleDue dt) ∧
    (j < 8) ∧
    ((s.sh.dou (8 * k + j)).limit = true) ∧
    (30 ≤ (s.sh.bank k).fltN) ∧
    ((∀ m, m < 8 → s.sh.on (DO_ST (8 * k + m)) DO_ST_MISM = false ∧ (s.sh.dou (8 * k + m)).cnt < 29))) ∧
  (∃ (n : Fin 32) (dt : Nat) (s : State),
    (s.sampleDue dt) ∧
    (s.lead.on (DO_CFG n) DO_CFG_SLATCH_EN = true) ∧
    (s.sh.on (DO_ST n) DO_ST_LOW = true) ∧
    (999 ≤ (s.sh.dou n).lowN) ∧
    ((s.sh.dou n).cnt < 29)) ∧
  (∃ (n : Fin 32) (dt : Nat) (s : State),
    (s.sh.on (DO_ST n) DO_ST_APPLIED = true)) ∧
  (∃ (k : Fin 4) (vf : BitVec 16) (dt : Nat) (s : State),
    (s.sampleDue dt)) ∧
  (∃ (k : Fin 4) (vf : BitVec 16) (dt : Nat) (s : State),
    (s.sampleDue dt) ∧
    (vf.toNat < 1600) ∧
    (9 ≤ (s.sh.bank k).nLow)) ∧
  (∃ (k : Fin 4) (vf : BitVec 16) (dt : Nat) (s : State),
    (s.sampleDue dt) ∧
    (s.sh.on (DO_BST k) DO_BST_UV = true) ∧
    (1700 ≤ vf.toNat) ∧
    (1000 ≤ (s.sh.bank k).nGood)) :=
  ⟨⟨31, 2400, 100000, (node (fun l => ((l).setF (DO_CFG 31) DO_CFG_EN (1)).setF (DO_CFG 31) DO_CFG_SLATCH_EN (1)) (fun h => (({ ((h).setF (PWR_DST 12) PWR_DST_ON (1)) with dioAt := 600000 }).setDou 31 { bad := true, cnt := 29, age := 1 }).setBank 3 { vf := 2400 })), by decide +kernel⟩,
  ⟨3, 7, 100000, (node (fun l => ((l).setF (DO_CFG 31) DO_CFG_EN (1)).setF (DO_CFG 31) DO_CFG_SLATCH_EN (1)) (fun h => (({ ((h).setF (PWR_DST 12) PWR_DST_ON (1)) with dioAt := 600000 }).setDou 31 { limit := true, cnt := 28 }).setBank 3 { fltN := 30 })), by decide +kernel⟩,
  ⟨31, 199999, (node (fun l => ((l).setF (DO_CFG 31) DO_CFG_EN (1)).setF (DO_CFG 31) DO_CFG_SLATCH_EN (1)) (fun h => (({ ((h).setF (PWR_DST 12) PWR_DST_ON (1)) with dioAt := 600000 }).setF (DO_ST 31) DO_ST_LOW (1)).setDou 31 { lowN := 999, cnt := 28 })), by decide +kernel⟩,
  ⟨31, 1000000, (node id (fun h => ({ ((h).setF (PWR_DST 12) PWR_DST_ON (1)) with dioAt := 600000 }).setF (DO_ST 31) DO_ST_APPLIED (1))), by decide +kernel⟩,
  ⟨3, 1919, 100000, (node id (fun h => ({ ((h).setF (PWR_DST 12) PWR_DST_ON (1)) with dioAt := 600000 }).setBank 3 { nWarn := 9 })), by decide +kernel⟩,
  ⟨3, 1599, 100000, (node id (fun h => ({ ((h).setF (PWR_DST 12) PWR_DST_ON (1)) with dioAt := 600000 }).setBank 3 { nLow := 9 })), by decide +kernel⟩,
  ⟨3, 1700, 100000, (node id (fun h => (({ ((h).setF (PWR_DST 12) PWR_DST_ON (1)) with dioAt := 600000 }).setF (DO_BST 3) DO_BST_UV (1)).setBank 3 { nGood := 1000 })), by decide +kernel⟩⟩

theorem witness_digital_output_commands :
  (∃ (n : BitVec 5) (arg : BitVec 8) (s : State) (i : LaneId),
    ((s.lane i).computes = true) ∧
    (arg.toNat ≤ 1) ∧
    ((s.lane i).fld (DO_CFG n.toNat) DO_CFG_SRC = 0) ∧
    ((s.lane i).on (DO_CFG n.toNat) DO_CFG_EN = true)) ∧
  (∃ (n : BitVec 5) (s : State) (i : LaneId),
    ((s.lane i).computes = true) ∧
    (s.sh.on (DO_ST n.toNat) DO_ST_SLATCH = true)) ∧
  (∃ (k : BitVec 5) (s : State) (i : LaneId),
    ((s.lane i).computes = true) ∧
    (k.toNat < 4) ∧
    (s.sh.on (DO_BST k.toNat) DO_BST_ACKREQ = true) ∧
    (s.sh.on (DO_BST k.toNat) DO_BST_UV = false)) ∧
  (∃ (n : BitVec 5) (s : State) (i : LaneId),
    ((s.lane i).computes = true) ∧
    (s.sh.on (DO_ST n.toNat) DO_ST_SLATCH = false)) ∧
  (∃ (k : BitVec 5) (s : State) (i : LaneId),
    ((s.lane i).computes = true) ∧
    (4 ≤ k.toNat)) :=
  ⟨⟨31, 1, (node (fun l => (l).setF (DO_CFG 31) DO_CFG_EN (1)) id), .A, by decide +kernel⟩,
  ⟨31, (node id (fun h => (h).setF (DO_ST 31) DO_ST_SLATCH (1))), .A, by decide +kernel⟩,
  ⟨3, (node id (fun h => (h).setF (DO_BST 3) DO_BST_ACKREQ (1))), .A, by decide +kernel⟩,
  ⟨31, (node id id), .A, by decide +kernel⟩,
  ⟨4, (node id id), .A, by decide +kernel⟩⟩

theorem witness_feben_packets :
  (∃ (i : LaneId) (ep : BitVec 12) (inc : Option (Fin 8)) (dig : BitVec 64) (subs : List Word) (s : State),
    ((s.lane i).st ≠ .off) ∧
    ((s.lane i).on LINK_STAT LINK_STAT_UP = true)) ∧
  (∃ (i : LaneId) (s : State),
    ((s.lane i).st ≠ .off) ∧
    ((s.lane i).on LINK_STAT LINK_STAT_UP = true) ∧
    ((s.lane i.other).adj.verdict < 4)) ∧
  (∃ (i : LaneId) (s : State),
    ((s.lane i).st ≠ .off) ∧
    ((s.lane i).on LINK_STAT LINK_STAT_UP = true)) ∧
  (∃ (i : LaneId) (delay : Byte) (s : State),
    ((s.lane i).takes = true) ∧
    ((s.lane i).on LINK_STAT LINK_STAT_UP = true)) ∧
  (∃ (i : LaneId) (s : State),
    ((s.lane i).st ≠ .off) ∧
    ((s.lane i).on LINK_STAT LINK_STAT_UP = true)) ∧
  (∃ (i : LaneId) (ws : List Word) (rest : List (List Word)) (s : State),
    ((s.lane i).st ≠ .off) ∧
    ((s.lane i).on LINK_STAT LINK_STAT_UP = true) ∧
    ((s.lane i).on REC_STAT REC_STAT_MIRRORING = true) ∧
    ((s.lane i).instep = true) ∧
    ((s.lane i.other).rcd.missed = ws :: rest) ∧
    ((s.lane i).rcd.mirNew + rest.length < slotCount)) ∧
  (∃ (i : LaneId) (p : Fin 8192) (last : Bool) (s : State),
    ((s.lane i).st ≠ .off) ∧
    ((s.lane i).on LINK_STAT LINK_STAT_UP = true) ∧
    (s.joiner = some i) ∧
    (s.sh.start.stx.isSome = true) ∧
    (s.sh.start.stxUnits = true) ∧
    (s.sh.start.stxDelta = false) ∧
    (s.sh.start.stxLeft.filter (· != p.val) = []) ∧
    (s.sh.start.stxNew ≠ [])) ∧
  (∃ (i : LaneId) (p : Fin 8192) (last : Bool) (s : State),
    ((s.lane i).st ≠ .off) ∧
    ((s.lane i).on LINK_STAT LINK_STAT_UP = true) ∧
    (s.joiner = some i) ∧
    (s.sh.start.stx.isSome = true) ∧
    (s.sh.start.stxUnits = true) ∧
    (s.sh.start.stxDelta = true ∨ s.sh.start.stxLeft.filter (· != p.val) ≠ [] ∨ s.sh.start.stxNew = [])) ∧
  (∃ (i : LaneId) (s : State),
    ((s.lane i).st ≠ .off) ∧
    ((s.lane i).on LINK_STAT LINK_STAT_UP = false) ∧
    ((s.lane i).link.idleRun = 63)) ∧
  (∃ (i : LaneId) (s : State),
    ((s.lane i).st ≠ .off) ∧
    ((s.lane i).on LINK_STAT LINK_STAT_UP = false) ∧
    ((s.lane i).link.idleRun < 63)) ∧
  (∃ (i : LaneId) (s : State),
    ((s.lane i).st ≠ .off) ∧
    ((s.lane i).on LINK_STAT LINK_STAT_UP = true)) ∧
  (∃ (i : LaneId) (s : State),
    ((s.lane i).st ≠ .off) ∧
    ((s.lane i).on LINK_STAT LINK_STAT_UP = false) ∧
    (64 ≤ (s.lane i).link.idleRun)) :=
  ⟨⟨.B, 4095, some 7, 1, [], (node (fun l => (l).setF (LINK_STAT) LINK_STAT_UP (1)) id), by decide +kernel⟩,
  ⟨.B, (node (fun l => { ((l).setF (LINK_STAT) LINK_STAT_UP (1)) with adj := { verdict := 3 } }) id), by decide +kernel⟩,
  ⟨.B, (node (fun l => (l).setF (LINK_STAT) LINK_STAT_UP (1)) id), by decide +kernel⟩,
  ⟨.B, 255, (node (fun l => (l).setF (LINK_STAT) LINK_STAT_UP (1)) id), by decide +kernel⟩,
  ⟨.B, (node (fun l => (l).setF (LINK_STAT) LINK_STAT_UP (1)) id), by decide +kernel⟩,
  ⟨.B, [1#32], [], (node (fun l => { (((l).setF (LINK_STAT) LINK_STAT_UP (1)).setF (REC_STAT) REC_STAT_MIRRORING (1)) with rcd := { missed := [[1#32]] } }) id), by decide +kernel⟩,
  ⟨.B, 8191, true, { (node (fun l => (l).setF (LINK_STAT) LINK_STAT_UP (1)) (fun h => { h with start := { phase := .running, stx := some 0, stxUnits := true, stxLeft := [8191], stxNew := [1] } })) with b := { id := .B, st := .shadow, regs := (node (fun l => (l).setF (LINK_STAT) LINK_STAT_UP (1)) id).b.regs } }, by decide +kernel⟩,
  ⟨.B, 8191, true, { (node (fun l => (l).setF (LINK_STAT) LINK_STAT_UP (1)) (fun h => { h with start := { phase := .running, stx := some 0, stxUnits := true, stxLeft := [8191], stxDelta := true } })) with b := { id := .B, st := .shadow, regs := (node (fun l => (l).setF (LINK_STAT) LINK_STAT_UP (1)) id).b.regs } }, by decide +kernel⟩,
  ⟨.B, (node (fun l => { l with link := { idleRun := 63 } }) id), by decide +kernel⟩,
  ⟨.B, (node (fun l => { l with link := { idleRun := 62 } }) id), by decide +kernel⟩,
  ⟨.B, (node (fun l => (l).setF (LINK_STAT) LINK_STAT_UP (1)) id), by decide +kernel⟩,
  ⟨.B, (node (fun l => { l with link := { idleRun := 64 } }) id), by decide +kernel⟩⟩

theorem witness_corrupt_packets_are_resent_twice :
  ∃ (i : LaneId) (err : Fin 3) (c : Instr) (ty : Nat) (s : State),
    ((∃ (ep : BitVec 12) (inc : Option (Fin 8)) (dig : BitVec 64) (subs : List Word) (delay : Byte) (page : Option (Fin 8192)) (last : Bool),
      (c, ty) ∈ [(.digestPacket i err ep inc dig subs, 1), (.verdictCopyPacket i err, 2), (.writePacket i err, 3), (.wordPacket i err delay, 4),
        (.confirmPacket i err, 5), (.mirrorPacket i err, 6), (.statePacket i err page last, 7), (.idlePacket i err, 8)])) ∧
    (err ≠ 0) ∧
    ((s.lane i).st ≠ .off) ∧
    ((s.lane i).on LINK_STAT LINK_STAT_UP = true) :=
  ⟨.A, 2, .idlePacket .A 2, 8, (node (fun l => { ((l).setF (LINK_STAT) LINK_STAT_UP (1)) with link := { tries := [8, 8] } }) id), ⟨0, none, 0, [], 0, none, false, by simp⟩, (by decide +kernel), (by decide +kernel), (by decide +kernel)⟩

theorem witness_adjudication_outcomes :
  (∃ (i : LaneId) (s : State),
    (s.snap = none) ∧
    (s.sh.auth = some i) ∧
    (s.sh.bisque = false) ∧
    ((s.lane i).st = .adjudicating) ∧
    ((s.lane i.other).st = .adjudicating)) ∧
  (∃ (i : LaneId) (k : Snap) (s : State),
    (s.snap = some k) ∧
    (s.sh.auth = some i) ∧
    ((s.lane i).st = .adjudicating)) :=
  ⟨⟨.A, (node (fun l => { l with st := .adjudicating, adj := { verdict := 1 } }) id), by decide +kernel⟩,
  ⟨.A, ⟨{}, quiet, {}, {}⟩, { (node (fun l => { l with st := .adjudicating, adj := { verdict := 1 } }) id) with snap := some ⟨{}, quiet, {}, {}⟩ }, rfl, rfl, rfl⟩⟩

theorem witness_adjudication_verdict_row :
  ∃ (i : LaneId) (replayBad refBad : Bool) (dur : BitVec 9) (s : State),
    ((s.lane i).st = .adjudicating) ∧
    ((s.lane i).adj.verdict = 0) :=
  ⟨.A, true, false, 401, (node (fun l => { l with st := .adjudicating, adj := { verdict := 0 } }) id), by decide +kernel⟩

theorem witness_system_commands :
  (∃ (n : BitVec 1) (i : LaneId) (s : State),
    (s.inStep = true) ∧
    (s.sh.auth = some i)) ∧
  (∃ (i : LaneId) (s : State),
    (s.inStep = true) ∧
    (s.sh.auth = some i.other)) ∧
  (∃ (i : LaneId) (s : State),
    (s.inStep = true) ∧
    (s.sh.auth = some i)) ∧
  (∃ (i : LaneId) (s : State),
    ((s.lane i).st = .retired) ∧
    ((s.lane i.other).st = .active) ∧
    ((s.lane i.other).on LINK_STAT LINK_STAT_LOST = false)) ∧
  (∃ (n : BitVec 1) (i : LaneId) (s : State),
    (s.unres = true) ∧
    ((s.lane i).computes = true)) ∧
  (∃ (n : BitVec 1) (i : LaneId) (s : State),
    (s.inStep = false) ∧
    ((s.lane i).computes = true)) ∧
  (∃ (i : LaneId) (s : State),
    ((s.lane i).st ≠ .off) ∧
    ((s.lane i).st ≠ .bisque) ∧
    ((s.lane i).on SYS_CFG SYS_CFG_LANE_TEST_EN = true)) :=
  ⟨⟨1, .A, (node id id), by decide +kernel⟩,
  ⟨.B, (node id id), by decide +kernel⟩,
  ⟨.A, (node id id), by decide +kernel⟩,
  ⟨.A, { node id id with a := { id := .A, st := .retired }, b := { (node id id).b with st := .active, instep := false }, sh := { (node id id).sh with auth := some .B } }, by decide +kernel⟩,
  ⟨1, .A, (node (fun l => (l).setF (SYS_STATE) SYS_STATE_UNRES (1)) id), by decide +kernel⟩,
  ⟨1, .B, { node id id with a := { id := .A, st := .retired }, b := { (node id id).b with st := .active, instep := false }, sh := { (node id id).sh with auth := some .B } }, by decide +kernel⟩,
  ⟨.B, (node (fun l => (l).setF (SYS_CFG) SYS_CFG_LANE_TEST_EN (1)) id), by decide +kernel⟩⟩

theorem witness_clock_fault_rows :
  (∃ (i : LaneId) (s : State),
    ((s.lane i).instep = true)) ∧
  (∃ (bus : Bus) (i : LaneId) (dt : Nat) (s : State),
    (s.ringServes = false)) ∧
  (∃ (bus : Bus) (i : LaneId) (dt : Nat) (s : State),
    (s.ringServes = true)) ∧
  (∃ (link : BitVec 4) (bus : Bus) (i : LaneId) (dt u : Nat) (s : State),
    (s.a.instep = true) ∧
    (stallUnit bus.num link.toNat = some u)) :=
  ⟨⟨.B, (node id id), by decide +kernel⟩,
  ⟨.two, .A, 0, (node id id), by decide +kernel⟩,
  ⟨.two, .A, 0, (node id (fun h => ((((h).setF (PWR_DST 7) PWR_DST_ON (1)).setF (RING_CFG) RING_CFG_RING_EN (1)).setF (RING_CFG) RING_CFG_RADDR (3)).setF (RING_STAT) RING_STAT_BYPASS (0))), by decide +kernel⟩,
  ⟨5, .one, .A, 0, 0, (node id id), by decide +kernel⟩⟩

theorem witness_memory_fault_rows :
  (∃ (i : LaneId) (b : Fin 32) (w : Fin 8192) (acc : BitVec 4) (s : State),
    ((s.lane i).st ≠ .off) ∧
    ((s.lane i).owner b < 2)) ∧
  (∃ (i : LaneId) (b : Fin 32) (w : Fin 8192) (acc : BitVec 4) (s : State),
    ((s.lane i).st ≠ .off) ∧
    ((s.lane i).owner b < 2)) ∧
  (∃ (i : LaneId) (b : Fin 32) (w : Fin 8192) (acc : BitVec 4) (kind : Nat) (c : Instr) (s : State),
    ((c, kind) ∈ [(.memoryUncorrectable i b w acc, 1), (.transferParityError i b w acc, 2)]) ∧
    ((s.lane i).instep = true) ∧
    ((s.lane i).st ≠ .off) ∧
    (2 ≤ (s.lane i).owner b) ∧
    ((s.lane i).owner b ≤ 10)) ∧
  (∃ (i : LaneId) (dt : Nat) (s : State),
    ((s.lane i).st ≠ .off) ∧
    ((s.lane i).fld MEM_SCRUB MEM_SCRUB_POS < 262143)) ∧
  (∃ (i : LaneId) (dt : Nat) (s : State),
    ((s.lane i).st ≠ .off) ∧
    ((s.lane i).fld MEM_SCRUB MEM_SCRUB_POS < 262143)) ∧
  (∃ (i : LaneId) (dt : Nat) (s : State),
    ((s.lane i).st ≠ .off) ∧
    ((s.lane i).fld MEM_SCRUB MEM_SCRUB_POS = 262143)) ∧
  (∃ (i : LaneId) (dt : Nat) (s : State),
    ((s.lane i).st ≠ .off) ∧
    ((s.lane i).mw.again ≠ some ((s.lane i).fld MEM_SCRUB MEM_SCRUB_POS))) :=
  ⟨⟨.B, 31, 8191, 15, (node id id), by decide +kernel⟩,
  ⟨.B, 31, 8191, 15, (node id id), by decide +kernel⟩,
  ⟨.B, 31, 8191, 15, 2, .transferParityError .B 31 8191 15, (node (fun l => (l).setF (MEM_OWN 31) MEM_OWN_OWNER (10)) id), (by simp), (by decide +kernel), (by decide +kernel), (by decide +kernel), (by decide +kernel)⟩,
  ⟨.B, 0, (node (fun l => (l).setF (MEM_SCRUB) MEM_SCRUB_POS (262142)) id), by decide +kernel⟩,
  ⟨.B, 0, (node (fun l => (l).setF (MEM_SCRUB) MEM_SCRUB_POS (262142)) id), by decide +kernel⟩,
  ⟨.B, 0, (node (fun l => (l).setF (MEM_SCRUB) MEM_SCRUB_POS (262143)) id), by decide +kernel⟩,
  ⟨.B, 0, (node id id), by decide +kernel⟩⟩

theorem witness_bank_rows :
  (∃ (b : Fin 32) (o : BitVec 4) (s : State) (i : LaneId),
    ((s.lane i).computes = true) ∧
    ((s.lane i).owner b < 2) ∧
    (o.toNat < 2)) ∧
  (∃ (b : Fin 32) (o : BitVec 4) (s : State) (i : LaneId),
    ((s.lane i).computes = true) ∧
    (2 ≤ (s.lane i).owner b ∨ 2 ≤ o.toNat)) ∧
  (∃ (view : Option LaneId) (b : Fin 32) (s : State),
    (s.sh.bisque = true ∨ s.viewLane ((view.map View.lane).getD .active) = none)) ∧
  (∃ (i : LaneId) (b : Fin 32) (s : State),
    (s.sh.bisque = false) ∧
    ((s.lane i).st ≠ .off)) ∧
  (∃ (i : LaneId) (b : Fin 32) (s : State),
    (s.sh.bisque = false) ∧
    (s.viewLane .active = some i)) ∧
  (∃ (o : BitVec 14) (v : Word) (s : State) (i : LaneId),
    ((s.lane i).computes = true) ∧
    ((s.lane i).owner s.sh.sel = 1) ∧
    (Memory.wf (s.lane i).mem = true) ∧
    ((s.lane i).mw.bad.contains (8192 * s.sh.sel + o.toNat / 2) = false)) ∧
  (∃ (o : BitVec 14) (v : Word) (s : State) (i : LaneId),
    ((s.lane i).computes = true) ∧
    ((s.lane i).owner s.sh.sel = 1) ∧
    (Memory.wf (s.lane i).mem = true) ∧
    ((s.lane i).mw.bad.contains (8192 * s.sh.sel + o.toNat / 2) = false)) ∧
  (∃ (o : BitVec 14) (v x : Word) (c : Instr) (s : State) (i : LaneId),
    ((c, x) ∈ [(.bitSetWrite o v, v), (.bitClearWrite o v, 0#32)]) ∧
    ((s.lane i).computes = true) ∧
    ((s.lane i).owner s.sh.sel = 1) ∧
    (Memory.wf (s.lane i).mem = true) ∧
    ((s.lane i).mw.bad.contains (8192 * s.sh.sel + o.toNat / 2) = true)) ∧
  (∃ (o : BitVec 14) (v : Word) (c : Instr) (s : State) (i : LaneId),
    (c = .bitSetWrite o v ∨ c = .bitClearWrite o v) ∧
    ((s.lane i).computes = true) ∧
    ((s.lane i).owner s.sh.sel ≠ 1)) :=
  ⟨⟨31, 1, (node id id), .A, by decide +kernel⟩,
  ⟨31, 2, (node id id), .A, by decide +kernel⟩,
  ⟨none, 31, (node id (fun h => { h with bisque := true })), (.inl rfl)⟩,
  ⟨.B, 31, (node id id), by decide +kernel⟩,
  ⟨.A, 31, (node id (fun h => { h with auth := some .A })), by decide +kernel⟩,
  ⟨16383, 1#32, (node (fun l => (l).setF (MEM_OWN 0) MEM_OWN_OWNER (1)) id), .A, by decide +kernel⟩,
  ⟨16383, 1#32, (node (fun l => (l).setF (MEM_OWN 0) MEM_OWN_OWNER (1)) id), .A, by decide +kernel⟩,
  ⟨16383, 1#32, 1#32, .bitSetWrite 16383 1#32, (node (fun l => { ((l).setF (MEM_OWN 0) MEM_OWN_OWNER (1)) with mw := { bad := [8191] } }) id), .A, (by simp), (by decide +kernel), (by decide +kernel), (by decide +kernel), (by decide +kernel)⟩,
  ⟨0, 1#32, .bitSetWrite 0 1#32, (node id id), .A, (.inl rfl), (by decide +kernel), (by decide +kernel)⟩⟩

theorem witness_commit_and_read_rows :
  (∃ (i : LaneId) (stamp : Bool) (r : Rec) (rest : List Rec) (s : State),
    ((s.lane i).rcd.com = none) ∧
    ((s.lane i).on REC_STAT REC_STAT_FROZEN = false) ∧
    ((s.lane i).on REC_STAT REC_STAT_STORE_FAIL = false) ∧
    ((s.lane i).rcd.staging = r :: rest)) ∧
  (∃ (i : LaneId) (stamp : Bool) (c : Commit) (s : State),
    ((s.lane i).rcd.com = some c)) ∧
  (∃ (i : LaneId) (stamp : Bool) (c : Commit) (s : State),
    ((s.lane i).rcd.com = some c) ∧
    (c.again = false)) ∧
  (∃ (i : LaneId) (stamp : Bool) (c : Commit) (s : State),
    ((s.lane i).rcd.com = some c) ∧
    (c.again = true) ∧
    ((s.lane i).rcd.voidRun < 3) ∧
    ((s.lane i).fld REC_ERR REC_ERR_VOIDS < 255)) ∧
  (∃ (i : LaneId) (v : Word) (s : State),
    (s.sh.bisque = true ∨ (s.lane i).st = .off)) ∧
  (∃ (i : LaneId) (v : Word) (s : State),
    (s.sh.bisque = false) ∧
    ((s.lane i).st ≠ .off)) ∧
  (∃ (i : LaneId) (s : State),
    ((s.lane i).on REC_RDIDX REC_RDIDX_READY = true)) ∧
  (∃ (i : LaneId) (s : State),
    ((s.lane i).rcd.loading = true)) :=
  ⟨⟨.B, false, { code := 1, cls := 7, time := 5, p0 := 0#32, p1 := 0#32, p2 := 0#32, p3 := 0#32 }, [], (node (fun l => { l with rcd := { staging := [{ code := 1, cls := 7, time := 5, p0 := 0#32, p1 := 0#32, p2 := 0#32, p3 := 0#32 }] } }) id), by decide +kernel⟩,
  ⟨.B, true, ⟨[1#32], 0, false⟩, (node (fun l => { l with rcd := { com := some ⟨[1#32], 0, false⟩ } }) id), by decide +kernel⟩,
  ⟨.B, false, ⟨[1#32], 0, false⟩, (node (fun l => { l with rcd := { com := some ⟨[1#32], 0, false⟩ } }) id), by decide +kernel⟩,
  ⟨.B, true, ⟨[1#32], 0, true⟩, (node (fun l => ({ l with rcd := { com := some ⟨[1#32], 0, true⟩, voidRun := 2 } }).setF (REC_ERR) REC_ERR_VOIDS (254)) id), by decide +kernel⟩,
  ⟨.B, 7#32, (node id (fun h => { h with bisque := true })), (.inl rfl)⟩,
  ⟨.B, 7#32, (node id id), by decide +kernel⟩,
  ⟨.B, (node (fun l => (l).setF (REC_RDIDX) REC_RDIDX_READY (1)) id), by decide +kernel⟩,
  ⟨.B, (node (fun l => { l with rcd := { loading := true } }) id), by decide +kernel⟩⟩

theorem witness_recorder_control_rows :
  (∃ (s : State) (i : LaneId),
    ((s.lane i).working = true) ∧
    (s.sh.gt % 100000000 = 0) ∧
    ((s.lane i).rcd.winAt ≠ s.sh.gt)) ∧
  (∃ (s : State) (i : LaneId),
    ((s.lane i).computes = true) ∧
    (s.lead.on REC_STAT REC_STAT_MIRRORING = true) ∧
    (s.lead.rcd.missed = [])) ∧
  (∃ (s : State) (i : LaneId),
    ((s.lane i).computes = true) ∧
    ((s.lane i).on REC_STAT REC_STAT_FROZEN = false) ∧
    ((s.lane i).on REC_STAT REC_STAT_FLUSH = false) ∧
    ((s.lane i).fld REC_STAT REC_STAT_F < 3072)) ∧
  (∃ (s : State) (i : LaneId),
    ((s.lane i).computes = true) ∧
    ((s.lane i).on REC_STAT REC_STAT_FROZEN = true)) ∧
  (∃ (s : State) (i : LaneId),
    ((s.lane i).computes = true) ∧
    ((s.lane i).on REC_STAT REC_STAT_LOSS = true)) ∧
  (∃ (s : State) (i : LaneId),
    ((s.lane i).working = true) ∧
    ((s.lane i).on REC_STAT REC_STAT_FROZEN = true) ∧
    ((s.lane i).rcd.frzAt + (s.lane i).fld REC_CFG REC_CFG_FRZT * 100000000 ≤ s.sh.gt)) ∧
  (∃ (cause energy : Nat) (s : State) (i : LaneId),
    ((s.lane i).working = true) ∧
    ((s.lane i).rcd.flushDue = some (cause, energy)) ∧
    ((s.lane i).on REC_STAT REC_STAT_FLUSH = false)) ∧
  (∃ (c : Instr) (s : State) (i : LaneId),
    ((s.lane i).computes = true) ∧
    ((c = .freeze ∧ ((s.lane i).on REC_STAT REC_STAT_FROZEN = true ∨ (s.lane i).on REC_STAT REC_STAT_FLUSH = true ∨
      3072 ≤ (s.lane i).fld REC_STAT REC_STAT_F)) ∨
    (c = .unfreeze ∧ (s.lane i).on REC_STAT REC_STAT_FROZEN = false) ∨ (c = .clrLoss ∧ (s.lane i).on REC_STAT REC_STAT_LOSS = false))) :=
  ⟨⟨(node id id), .A, by decide +kernel⟩,
  ⟨(node (fun l => (l).setF (REC_STAT) REC_STAT_MIRRORING (1)) id), .A, by decide +kernel⟩,
  ⟨(node (fun l => (l).setF (REC_STAT) REC_STAT_F (3071)) id), .A, by decide +kernel⟩,
  ⟨(node (fun l => (l).setF (REC_STAT) REC_STAT_FROZEN (1)) id), .A, by decide +kernel⟩,
  ⟨(node (fun l => (l).setF (REC_STAT) REC_STAT_LOSS (1)) id), .A, by decide +kernel⟩,
  ⟨(node (fun l => { (((l).setF (REC_STAT) REC_STAT_FROZEN (1)).setF (REC_CFG) REC_CFG_FRZT (100)) with rcd := { frzAt := 50000000000 } }) id), .A, by decide +kernel⟩,
  ⟨1, 5, (node (fun l => { l with rcd := { flushDue := some (1, 5) } }) id), .A, by decide +kernel⟩,
  ⟨.freeze, (node (fun l => (l).setF (REC_STAT) REC_STAT_F (3072)) id), .A, (by decide +kernel), .inl ⟨rfl, by decide +kernel⟩⟩⟩

theorem witness_frame_reports_enter_the_cut :
  (∃ (bus : Bus) (f : FrameRep) (s : State) (i : LaneId),
    ((s.lane i).takes = true) ∧
    (f.tx.isSome = true ∨ f.ok = false ∨ f.frame.ide = false ∨ f.frame.rtr = true ∨ (cnpClass f.frame.id ≠ 3 ∧ cnpClass f.frame.id ≠ 6))) ∧
  (∃ (bus : Bus) (p : BitVec 3) (node : BitVec 7) (ep : BitVec 48) (b6 : Byte) (u len : Nat) (s : State) (i : LaneId),
    ((s.lane i).takes = true)) ∧
  (∃ (bus : Bus) (p : BitVec 3) (node : BitVec 7) (obj : BitVec 13) (data : List Byte) (u len : Nat) (s : State) (i : LaneId),
    ((s.lane i).takes = true)) :=
  ⟨⟨.two, { frame := { id := 5, ide := false, rtr := false, fdf := false, brs := false, esi := false, dlc := 1, data := [7#8] }, tx := none, ok := true, cause := 0, coll := false, steps := 0, quiet := false, peerErr := false, t := 999999, len := 100000, tdcv := 0 }, (node id id), .A, by decide +kernel⟩,
  ⟨.two, 7, 127, 5, 1, 999999, 100000, (node id id), .A, by decide +kernel⟩,
  ⟨.two, 7, 127, 8191, [], 999999, 100000, (node id id), .A, by decide +kernel⟩⟩

theorem witness_cnp_requests_are_answered :
  (∃ (bus : Bus) (p : BitVec 3) (node : BitVec 7) (data : List Byte) (u len : Nat) (s : State) (i : LaneId),
    (let f := cnpFrame (cnpId p.toNat 3 node.toNat 0) (data.take 64)
    let d := frameBytes f
    let s1 := s.canIn bus.num (goodRx f u len)
    let r := s1.serve (regReq d) (canStep (s.sh.gt + u))
    (s1.asked d = true) ∧
    (s1.responses bus.num < 4) ∧
    ((r.2.2.lane i).sends = true))) ∧
  (∃ (bus : Bus) (p : BitVec 3) (node : BitVec 7) (data : List Byte) (u len : Nat) (s : State) (i : LaneId),
    (let f := cnpFrame (cnpId p.toNat 3 node.toNat 0) (data.take 64)
    let s1 := s.canIn bus.num (goodRx f u len)
    (s1.asked (frameBytes f) = true) ∧
    (4 ≤ s1.responses bus.num) ∧
    ((s.lane i).takes = true))) ∧
  (∃ (bus : Bus) (p : BitVec 3) (node : BitVec 7) (target tag : Byte) (off : BitVec 24) (data : List Byte) (u len : Nat) (s : State)
    (i : LaneId),
    (let d := [target, tag] ++ leBytes 3 off.toNat ++ [0#8, 0#8, 0#8] ++ (data ++ List.replicate 32 0#8).take 32 ++ List.replicate 8 0#8
    let now := canStep (s.sh.gt + u)
    let s1 := s.canIn bus.num (goodRx (cnpFrame (cnpId p.toNat 6 node.toNat 0) d) u len)
    let st := s1.partStatus off.toNat now
    let s2 := if st = 0 then (partWrites off.toNat d).foldl (fun s x => s.aliasWrite now x.1 x.2 true) s1 else s1
    (s1.asked d = true) ∧
    (s1.responses bus.num < 4) ∧
    ((s2.lane i).sends = true))) :=
  ⟨⟨.two, 7, 1, [126#8, 9#8, 0x12#8, 0#8, 0#8, 0#8, 0x20#8, 0#8], 0, 0, (node (fun l => ((l).setF (TIME_ST) TIME_ST_NADDR (126)).setCan 1 { own := List.replicate 3 { kind := 1, id := 1, data := [] } }) id), .A, by decide +kernel⟩,
  ⟨.two, 7, 1, [126#8, 9#8], 0, 0, (node (fun l => ((l).setF (TIME_ST) TIME_ST_NADDR (126)).setCan 1 { own := List.replicate 4 { kind := 1, id := 1, data := [] } }) id), .A, by decide +kernel⟩,
  ⟨.two, 7, 1, 126, 9, 0, [], 0, 0, (node (fun l => ((l).setF (TIME_ST) TIME_ST_NADDR (126)).setCan 1 { own := List.replicate 3 { kind := 1, id := 1, data := [] } }) id), .A, by decide +kernel⟩⟩

theorem witness_can_state_rows :
  (∃ (bus : Bus) (s : State) (i : LaneId),
    ((s.lane i).computes = true) ∧
    (16 ≤ (s.lane i).fld (CAN_ERRC bus.num) CAN_ERRC_ACKRUN) ∧
    ((s.lane i).on (CAN_STAT bus.num) CAN_STAT_ALONE = false)) ∧
  (∃ (bus : Bus) (s : State) (i : LaneId),
    ((s.lane i).computes = true) ∧
    ((s.lane i).fld (CAN_ERRC bus.num) CAN_ERRC_ACKRUN = 0) ∧
    ((s.lane i).on (CAN_STAT bus.num) CAN_STAT_ALONE = true)) ∧
  (∃ (l : Lane) (b time tec recv : Nat),
    (b < 2)) ∧
  (∃ (bus : Bus) (s : State),
    (255 < (s.sh.can bus.num).tec)) ∧
  (∃ (bus : Bus) (s : State),
    ((s.sh.can bus.num).tec ≤ 255)) ∧
  (∃ (bus : Bus) (u : Nat) (s : State),
    ((s.sh.can bus.num).det.step = 1) ∧
    ((s.sh.can bus.num).det.since + 25000000 ≤ s.sh.gt + u)) ∧
  (∃ (bus : Bus) (s : State) (i : LaneId),
    ((s.lane i).takes = true) ∧
    (s.sh.auth = some i) ∧
    ((s.lane i).id = i) ∧
    ((s.lane i).fld (CAN_LOCAL bus.num) CAN_LOCAL_OWNMODE = 1)) ∧
  (∃ (bus : Bus) (s : State) (i : LaneId),
    ((s.lane i).computes = true) ∧
    (s.sh.gt % 1000000000 = 0) ∧
    (((s.lane i).can bus.num).winAt ≠ s.sh.gt)) ∧
  (∃ (i : LaneId) (acc : Accessor) (bus : Bus) (m : Fin 128) (u : Nat) (s : State),
    ((s.lane i).rxBuffer bus.num m = true) ∧
    ((s.lane i).lockOf acc = none)) ∧
  (∃ (i : LaneId) (acc : Accessor) (bus : Bus) (m : Fin 128) (s : State),
    ((s.lane i).heldBy bus.num m acc = true) ∧
    ((∀ a, a ≠ acc → (s.lane i).heldBy bus.num m a = false)) ∧
    ((∀ p ∈ ((s.lane i).can bus.num).pend, p.1 ≠ m.val))) ∧
  (∃ (i : LaneId) (acc : Accessor) (bus : Bus) (m : Fin 128) (x : CanIn) (s : State),
    ((s.lane i).heldBy bus.num m acc = true) ∧
    ((∀ a, a ≠ acc → (s.lane i).heldBy bus.num m a = false)) ∧
    (((s.lane i).can bus.num).pend = [(m.val, x)])) ∧
  (∃ (i : LaneId) (acc : Accessor) (bus : Bus) (m : Fin 128) (from_ u : Nat) (s : State),
    ((s.lane i).lockOf acc = some (bus.num, m.val, from_)) ∧
    (from_ + 1000000 ≤ s.sh.gt + u) ∧
    ((∀ a, a ≠ acc → (s.lane i).heldBy bus.num m a = false)) ∧
    ((∀ p ∈ ((s.lane i).can bus.num).pend, p.1 ≠ m.val))) :=
  ⟨⟨.two, (node (fun l => (l).setF (CAN_ERRC 1) CAN_ERRC_ACKRUN (16)) id), .A, by decide +kernel⟩,
  ⟨.two, (node (fun l => (l).setF (CAN_STAT 1) CAN_STAT_ALONE (1)) id), .A, by decide +kernel⟩,
  ⟨(node id id).a, 1, 0, 256, 128, by decide +kernel⟩,
  ⟨.two, (node id (fun h => (h).setCan 1 { tec := 256 })), by decide +kernel⟩,
  ⟨.two, (node id id), by decide +kernel⟩,
  ⟨.two, 0, (node id (fun h => (h).setCan 1 { det := { step := 1, since := 59975000000 } })), by decide +kernel⟩,
  ⟨.two, (node (fun l => (l).setF (CAN_LOCAL 1) CAN_LOCAL_OWNMODE (1)) id), .A, by decide +kernel⟩,
  ⟨.two, (node id id), .A, by decide +kernel⟩,
  ⟨.B, .cnp, .two, 127, 0, (node (fun l => (l).setF (CAN_BCFG 1 127) CAN_BCFG_EN (1)) id), by decide +kernel⟩,
  ⟨.B, .cnp, .two, 127, (node (fun l => { l with lockCnp := some (1, 127, 0) }) id), (by decide +kernel), (by intro a h; cases a <;> first | exact absurd rfl h | decide +kernel), (by decide +kernel)⟩,
  ⟨.B, .cnp, .two, 127, ⟨{ frame := { id := 5, ide := false, rtr := false, fdf := false, brs := false, esi := false, dlc := 1, data := [7#8] }, tx := none, ok := true, cause := 0, coll := false, steps := 0, quiet := false, peerErr := false, t := 999999, len := 100000, tdcv := 0 }, 0, 0, 0, 0⟩, (node (fun l => ({ l with lockCnp := some (1, 127, 0) }).setCan 1 { pend := [(127, ⟨{ frame := { id := 5, ide := false, rtr := false, fdf := false, brs := false, esi := false, dlc := 1, data := [7#8] }, tx := none, ok := true, cause := 0, coll := false, steps := 0, quiet := false, peerErr := false, t := 999999, len := 100000, tdcv := 0 }, 0, 0, 0, 0⟩)] }) id), (by decide +kernel), (by intro a h; cases a <;> first | exact absurd rfl h | decide +kernel), (by decide +kernel)⟩,
  ⟨.B, .cnp, .two, 127, 59999000000, 0, (node (fun l => { l with lockCnp := some (1, 127, 59999000000) }) id), (by decide +kernel), (by decide +kernel), (by intro a h; cases a <;> first | exact absurd rfl h | decide +kernel), (by decide +kernel)⟩⟩

theorem witness_can_commands :
  (∃ (bus : Bus) (m : BitVec 7) (s : State) (i : LaneId),
    ((s.lane i).computes = true) ∧
    ((s.lane i).hostOwned bus.num m.toNat = true) ∧
    ((s.lane i).on (CAN_BST bus.num m.toNat) CAN_BST_TXP = false) ∧
    ((s.lane i).on (CAN_CFG bus.num) CAN_CFG_BUS_EN = true)) ∧
  (∃ (bus : Bus) (m : BitVec 7) (s : State) (i : LaneId),
    ((s.lane i).computes = true) ∧
    ((s.lane i).on (CAN_BST bus.num m.toNat) CAN_BST_TXP = true) ∧
    ((∀ k, (s.sh.can bus.num).sending = some (.buf k) → k.val ≠ m.toNat))) ∧
  (∃ (bus : Bus) (m : BitVec 7) (s : State) (i : LaneId),
    ((s.lane i).computes = true) ∧
    (s.sh.auth = some i) ∧
    ((s.lane i).st ≠ .retired) ∧
    ((s.lane i).on (CAN_CFG bus.num) CAN_CFG_BRMODE = true) ∧
    ((s.lane i).on (CAN_STAT bus.num) CAN_STAT_DETECT = false) ∧
    ((s.lane i).fld (CAN_STAT bus.num) CAN_STAT_ESTATE ≠ 2)) ∧
  (∃ (bus : Bus) (m : BitVec 7) (arg : BitVec 8) (s : State) (i : LaneId),
    ((s.lane i).computes = true) ∧
    (arg.toNat ≤ 1) ∧
    ((s.lane i).fld (CAN_STAT bus.num) CAN_STAT_RESTR ≠ arg.toNat) ∧
    ((s.lane i).on (CAN_CFG bus.num) CAN_CFG_BUS_EN = true)) ∧
  (∃ (bus : Bus) (m : BitVec 7) (s : State) (i : LaneId),
    ((s.lane i).computes = true) ∧
    ((s.lane i).on (CAN_STAT bus.num) CAN_STAT_COLL = true)) ∧
  (∃ (bus : Bus) (m : BitVec 7) (arg : BitVec 8) (op : Nat) (c : Instr) (s : State) (i : LaneId),
    ((c, op) ∈ [(.txReq bus m arg, 1), (.txCancel bus m arg, 2), (.restrict bus m arg, 4), (.clrColl bus m arg, 5)]) ∧
    ((s.lane i).computes = true) ∧
    ((s.lane i).canStatus bus.num op m.toNat arg.toNat ≠ 0)) :=
  ⟨⟨.two, 127, (node (fun l => ((((l).setF (CAN_BCFG 1 127) CAN_BCFG_EN (1)).setF (CAN_BCFG 1 127) CAN_BCFG_DIR (1)).setF (CAN_BCFG 1 127) CAN_BCFG_OWNER (1)).setF (CAN_CFG 1) CAN_CFG_BUS_EN (1)) id), .A, by decide +kernel⟩,
  ⟨.two, 127, (node (fun l => (l).setF (CAN_BST 1 127) CAN_BST_TXP (1)) id), .A, by decide +kernel⟩,
  ⟨.two, 0, (node (fun l => (l).setF (CAN_CFG 1) CAN_CFG_BRMODE (1)) id), .A, by decide +kernel⟩,
  ⟨.two, 0, 1, (node (fun l => (l).setF (CAN_CFG 1) CAN_CFG_BUS_EN (1)) id), .A, by decide +kernel⟩,
  ⟨.two, 0, (node (fun l => (l).setF (CAN_STAT 1) CAN_STAT_COLL (1)) id), .A, by decide +kernel⟩,
  ⟨.two, 0, 2, 4, .restrict .two 0 2, (node (fun l => (l).setF (CAN_CFG 1) CAN_CFG_BUS_EN (1)) id), .A, (by simp), (by decide +kernel), (by decide +kernel)⟩⟩

theorem witness_transmission_starts :
  (∃ (bus : Bus) (m : Fin 128) (u : Nat) (s : State),
    (s.mayStart bus.num = true) ∧
    (s.bufMay bus.num m u = true)) ∧
  (∃ (bus : Bus) (f : OwnFrame) (u : Nat) (s : State) (i : LaneId),
    (s.mayStart bus.num = true) ∧
    (s.ownMay bus.num u = true) ∧
    (s.ownPick bus.num = some f)) ∧
  (∃ (bus : Bus) (s : State),
    (s.mayStart bus.num = true) ∧
    ((s.lead.can bus.num).refStaged.isSome = true) ∧
    ((s.sh.can bus.num).refDone = false)) ∧
  (∃ (bus : Bus) (who : TxWho) (u : Nat) (s : State),
    (s.mayStart bus.num = false)) ∧
  (∃ (bus : Bus) (idle : Bool) (s : State),
    (idle = false ∨ (s.sh.can bus.num).refDone = true)) ∧
  (∃ (bus : Bus) (who : TxWho) (u : Nat) (idle : Bool) (c : Instr) (s : State),
    (c = .txStart bus who u ∨ c = .referenceSend bus idle) ∧
    (s.sh.auth = none ∨ s.sh.hold = true)) :=
  ⟨⟨.two, 127, 0, (node (fun l => ((((((l).setF (CAN_BCFG 1 127) CAN_BCFG_EN (1)).setF (CAN_BCFG 1 127) CAN_BCFG_DIR (1)).setF (CAN_BCFG 1 127) CAN_BCFG_OWNER (1)).setF (CAN_CFG 1) CAN_CFG_BUS_EN (1)).setF (CAN_BST 1 127) CAN_BST_TXP (1)).setF (TIME_ST) TIME_ST_NADDR_BAD (0)) (fun h => (h).setF (PWR_DST 7) PWR_DST_ON (1))), by decide +kernel⟩,
  ⟨.two, { kind := 0, id := 1, data := [] }, 0, (node (fun l => (((l).setF (CAN_CFG 1) CAN_CFG_BUS_EN (1)).setF (TIME_ST) TIME_ST_NADDR_BAD (0)).setCan 1 { own := [{ kind := 0, id := 1, data := [] }] }) (fun h => (h).setF (PWR_DST 7) PWR_DST_ON (1))), .A, by decide +kernel⟩,
  ⟨.two, (node (fun l => (((l).setF (CAN_CFG 1) CAN_CFG_BUS_EN (1)).setF (TIME_ST) TIME_ST_NADDR_BAD (0)).setCan 1 { refStaged := some (cnpFrame 0 []) }) (fun h => (h).setF (PWR_DST 7) PWR_DST_ON (1))), by decide +kernel⟩,
  ⟨.two, .own, 0, (node id id), by decide +kernel⟩,
  ⟨.two, false, (node id id), .inl rfl⟩,
  ⟨.two, .own, 0, true, .referenceSend .two true, (node id (fun h => { h with hold := true })), (.inr rfl), (.inr rfl)⟩⟩

theorem witness_dlc_gives_the_byte_count :
  (∃ (fdf : Bool) (n : Nat),
    (n ≤ 8)) ∧
  (∃ n,
    (9 ≤ n) ∧
    (n ≤ 15)) ∧
  (∃ (f : CanFrame) (j : Nat),
    (j < 64)) ∧
  (∃ (l : Lane) (b m i j : Nat) (dlc v : Word),
    (2 ≤ i) ∧
    (j < 4) ∧
    (l.hostOwned b m = true)) :=
  ⟨⟨true, 8, by decide +kernel⟩,
  ⟨9, by decide +kernel⟩,
  ⟨⟨5, true, false, true, true, false, 15, [7#8]⟩, 63, by decide +kernel⟩,
  ⟨(node (fun l => (((l).setF (CAN_BCFG 1 127) CAN_BCFG_EN (1)).setF (CAN_BCFG 1 127) CAN_BCFG_DIR (1)).setF (CAN_BCFG 1 127) CAN_BCFG_OWNER (1)) id).a, 1, 127, 17, 3, 1#32, 0xFFFFFFFF#32, by decide +kernel⟩⟩

theorem witness_time_rows :
  (∃ (bus : Bus) (s : State) (i : LaneId),
    ((s.lane i).computes = true) ∧
    ((s.lane i).ttEn bus.num = true) ∧
    ((s.lane i).on TIME_CFG TIME_CFG_MPOT = true) ∧
    ((s.lane i).on TIME_ST (fldMaster bus.num) = false) ∧
    ((s.lane i).fld TIME_CFG TIME_CFG_MPRIO + 3 ≤ (s.lane i).fld TIME_MISS (fldMiss bus.num))) ∧
  (∃ (s : State) (i : LaneId),
    ((s.lane i).computes = true) ∧
    (8 ≤ (s.lane i).time.noSrc) ∧
    ((s.lane i).on TIME_ST TIME_ST_SYNC = true)) ∧
  (∃ (k : Fin 256) (e : Nat) (s : State) (i : LaneId),
    ((s.lane i).computes = true) ∧
    (((s.lane i).slotW k).eof = some e) ∧
    ((s.lane i).on (CNP_RXCFG k) CNP_RXCFG_EN = true)) ∧
  (∃ (i : LaneId) (u : Nat) (s : State),
    ((s.lane i).st ≠ .off)) :=
  ⟨⟨.two, (node (fun l => ((((l).setF (SCH_CFG 1) SCH_CFG_TT_EN (1)).setF (TIME_CFG) TIME_CFG_MPOT (1)).setF (TIME_ST) TIME_ST_NADDR_BAD (0)).setF (TIME_MISS) TIME_MISS_MISS2 (3)) id), .A, by decide +kernel⟩,
  ⟨(node (fun l => { ((l).setF (TIME_ST) TIME_ST_SYNC (1)) with time := { noSrc := 8 } }) id), .A, by decide +kernel⟩,
  ⟨255, 5, (node (fun l => { ((l).setF (CNP_RXCFG 255) CNP_RXCFG_EN (1)) with slots := l.slots.upd {} 255 { eof := some 5 } }) id), .A, by decide +kernel⟩,
  ⟨.B, 999999, (node id id), by decide +kernel⟩⟩

theorem witness_panel_rows :
  (∃ (f : DriveFrame) (s : State),
    (s.sh.pnl.next = some f) ∧
    (f.scan = true) ∧
    (s.sh.pnl.rails = .rising ∨ s.sh.pnl.rails = .up)) ∧
  (∃ (f : DriveFrame) (s : State),
    (s.sh.pnl.next = some f) ∧
    (f.scan = false ∨ (s.sh.pnl.rails ≠ .rising ∧ s.sh.pnl.rails ≠ .up))) ∧
  (∃ (vneg vc : Byte) (u : Nat) (s : State),
    (s.sh.pnl.rails = .rising) ∧
    (s.sh.on PNL_RAIL PNL_RAIL_VNEG_GOOD = true) ∧
    (s.sh.fld PNL_RAIL PNL_RAIL_VCOL_SP * 9 ≤ vc.toNat * 10) ∧
    (vc.toNat * 10 ≤ s.sh.fld PNL_RAIL PNL_RAIL_VCOL_SP * 11) ∧
    (s.lead.railx = false ∨ s.sh.pnl.switch = true)) ∧
  (∃ (vneg vc : Byte) (u : Nat) (s : State),
    (s.sh.pnl.rails = .rising) ∧
    (s.sh.on PNL_RAIL PNL_RAIL_VNEG_GOOD = false) ∧
    (s.lead.vnegSet * 9 ≤ vneg.toNat * 10)) ∧
  (∃ (vcol : Bool) (vneg vc : Byte) (u : Nat) (s : State),
    (s.sh.pnl.rails ≠ .rising ∨ (vcol = true ∧ s.sh.on PNL_RAIL PNL_RAIL_VNEG_GOOD = false) ∨
      (vcol = true ∧ s.lead.railx = true ∧ s.sh.pnl.switch = false) ∨ (vcol = false ∧ (vneg.toNat * 10 < s.lead.vnegSet * 9 ∨ s.sh.on PNL_RAIL PNL_RAIL_VNEG_GOOD = true)))) ∧
  (∃ (vcol : Bool) (v : Byte) (u : Nat) (s : State) (i : LaneId),
    (s.pnlOn = true) ∧
    ((s.lead.fld PNL_ST PNL_ST_PSTATE = 1 ∧ s.sh.on PNL_RAIL PNL_RAIL_VNEG_GOOD = vcol ∧ s.sh.on PNL_RAIL PNL_RAIL_VCOL_GOOD = false ∧
        s.sh.pnl.stepAt + (if vcol then 6000000 else 3000000) ≤ s.sh.gt + u) ∨
      (2 ≤ s.lead.fld PNL_ST PNL_ST_PSTATE ∧ s.lead.fld PNL_ST PNL_ST_PSTATE ≤ 4 ∧
        (if vcol then (if s.lead.railx then v.toNat < 70
            else v.toNat * 10 < s.sh.fld PNL_RAIL PNL_RAIL_VCOL_SP * 9 ∨ s.sh.fld PNL_RAIL PNL_RAIL_VCOL_SP * 11 < v.toNat * 10)
          else v.toNat * 10 < s.lead.vnegSet * 9))) ∧
    ((s.lane i).takes = true)) ∧
  (∃ (vneg vc : Byte) (u : Nat) (s : State),
    (s.sh.pnl.rails = .fallCol) ∧
    ((s.lead.railx = true ∨ 10 ≤ vc.toNat)) ∧
    (s.sh.gt + u < s.sh.pnl.stepAt + 5000000)) ∧
  (∃ (vneg vc : Byte) (u : Nat) (s : State),
    (s.sh.pnl.rails = .fallCol) ∧
    (s.lead.railx = false) ∧
    (vc.toNat < 10) ∧
    (5 ≤ vneg.toNat)) ∧
  (∃ (vneg vc : Byte) (u : Nat) (s : State) (i : LaneId),
    (s.sh.pnl.rails = .fallNeg ∨ (s.sh.pnl.rails = .fallCol ∧
      (s.sh.pnl.stepAt + 5000000 ≤ s.sh.gt + u ∨ s.lead.railx = false))) ∧
    ((s.lead.railx = true ∨ vc.toNat < 10)) ∧
    (vneg.toNat < 5) ∧
    ((s.lane i).takes = true)) ∧
  (∃ (vneg vc : Byte) (u : Nat) (s : State),
    (s.sh.pnl.rails ≠ .fallCol) ∧
    (s.sh.pnl.rails ≠ .fallNeg)) ∧
  (∃ (res : BitVec 16) (u : Nat) (s : State) (i : LaneId),
    (s.pnlOn = true) ∧
    (0 < u) ∧
    ((s.sh.gt + u) % 250000000 = 0) ∧
    ((s.lane i).takes = true)) ∧
  (∃ (temp : BitVec 16) (u : Nat) (s : State) (i : LaneId),
    (s.pnlOn = true) ∧
    (0 < u) ∧
    ((s.sh.gt + u) % 100000000 = 0) ∧
    ((s.lane i).takes = true)) ∧
  (∃ (v : Byte) (s : State) (i : LaneId),
    (s.pnlOn = true) ∧
    (s.lead.railx = true) ∧
    ((s.lane i).takes = true)) ∧
  (∃ (s : State) (i : LaneId),
    ((s.lane i).computes = true) ∧
    ((s.lane i).on PNL_ST PNL_ST_NTC_FAULT = false) ∧
    (2 ≤ (s.lane i).pnl.ntcOut)) ∧
  (∃ (s : State) (i : LaneId),
    ((s.lane i).computes = true) ∧
    ((s.lane i).on PNL_ST PNL_ST_NTC_FAULT = true) ∧
    (10 ≤ (s.lane i).pnl.ntcIn)) ∧
  (∃ (s : State) (i : LaneId),
    ((s.lane i).computes = true) ∧
    ((s.lane i).fld PNL_LCFG PNL_LCFG_PAGET ≠ 0) ∧
    (s.sh.gt % ((s.lane i).fld PNL_LCFG PNL_LCFG_PAGET * 1000000000) = 0) ∧
    ((s.lane i).pnl.pageAt ≠ s.sh.gt) ∧
    ((s.lane i).on PNL_CFG PNL_CFG_EN = true)) ∧
  (∃ (s : State),
    (s.mayCopy = true) ∧
    (s.copyDue = true) ∧
    (s.lead.on PWR_LST PWR_LST_C4SHED = false)) ∧
  (∃ (s : State),
    (s.mayCopy = true) ∧
    (s.copyDue = true) ∧
    (s.lead.on PWR_LST PWR_LST_C4SHED = true)) ∧
  (∃ (c : Nat) (ns : List Nat) (s : State) (i : LaneId),
    (s.sh.start.aging = some (c, ns)) ∧
    ((s.lane i).working = true) ∧
    (s.sh.epochs = true)) :=
  ⟨⟨{ start := 0, scan := true, lit := false, frate := 50, ewf := 0, iCol := 0, vsp := 0, ton := [], trev := [] }, (node id (fun h => { h with pnl := { rails := .rising, next := some { start := 0, scan := true, lit := false, frate := 50, ewf := 0, iCol := 0, vsp := 0, ton := [], trev := [] } } })), by decide +kernel⟩,
  ⟨{ start := 0, scan := true, lit := false, frate := 50, ewf := 0, iCol := 0, vsp := 0, ton := [], trev := [] }, (node id (fun h => { h with pnl := { rails := .fallCol, next := some { start := 0, scan := true, lit := false, frate := 50, ewf := 0, iCol := 0, vsp := 0, ton := [], trev := [] } } })), by decide +kernel⟩,
  ⟨100, 100, 5, (node (fun l => (l).setF (PNL_CFG) PNL_CFG_RAILX (1)) (fun h => (({ h with pnl := { rails := .rising, switch := true } }).setF (PNL_RAIL) PNL_RAIL_VNEG_GOOD (1)).setF (PNL_RAIL) PNL_RAIL_VCOL_SP (110))), by decide +kernel⟩,
  ⟨90, 70, 5, (node (fun l => ((l).setF (PNL_CFG) PNL_CFG_RAILX (1)).setF (PNL_CFG2) PNL_CFG2_VNEG_SET (100)) (fun h => { h with pnl := { rails := .rising } })), by decide +kernel⟩,
  ⟨true, 90, 90, 5, (node id (fun h => { h with pnl := { rails := .rising } })), by decide +kernel⟩,
  ⟨true, 255, 5, (node (fun l => (l).setF (PNL_ST) PNL_ST_PSTATE (1)) (fun h => { (((h).setF (PWR_DST 13) PWR_DST_ON (1)).setF (PNL_RAIL) PNL_RAIL_VNEG_GOOD (1)) with pnl := { rails := .rising, stepAt := 59994000005 } })), .A, by decide +kernel⟩,
  ⟨5, 10, 0, (node id (fun h => { h with pnl := { rails := .fallCol, stepAt := 59995000001 } })), by decide +kernel⟩,
  ⟨5, 9, 0, (node id (fun h => { h with pnl := { rails := .fallCol } })), by decide +kernel⟩,
  ⟨4, 9, 0, (node id (fun h => { h with pnl := { rails := .fallCol, stepAt := 59995000000 } })), .A, by decide +kernel⟩,
  ⟨4, 9, 0, (node id (fun h => { h with pnl := { rails := .up } })), by decide +kernel⟩,
  ⟨2048, 1000000, (node id (fun h => { ((h).setF (PWR_DST 13) PWR_DST_ON (1)) with gt := 59999000000 })), .A, by decide +kernel⟩,
  ⟨1, 1000000, (node id (fun h => { ((h).setF (PWR_DST 13) PWR_DST_ON (1)) with gt := 59999000000 })), .A, by decide +kernel⟩,
  ⟨120, (node (fun l => (l).setF (PNL_CFG) PNL_CFG_RAILX (1)) (fun h => ((h).setF (PWR_DST 13) PWR_DST_ON (1)).setF (PNL_RAIL) PNL_RAIL_VCOL_SP (109))), .A, by decide +kernel⟩,
  ⟨(node (fun l => { l with pnl := { ntcOut := 2 } }) id), .A, by decide +kernel⟩,
  ⟨(node (fun l => { ((l).setF (PNL_ST) PNL_ST_NTC_FAULT (1)) with pnl := { ntcIn := 10 } }) id), .A, by decide +kernel⟩,
  ⟨(node (fun l => ((l).setF (PNL_LCFG) PNL_LCFG_PAGET (60)).setF (PNL_CFG) PNL_CFG_EN (1)) id), .A, by decide +kernel⟩,
  ⟨(node (fun l => (l).setF (PNL_CFG) PNL_CFG_EN (1)) (fun h => { h with start := { phase := .running, agingDue := true } })), by decide +kernel⟩,
  ⟨(node (fun l => ((l).setF (PNL_CFG) PNL_CFG_EN (1)).setF (PWR_LST) PWR_LST_C4SHED (1)) (fun h => { h with start := { phase := .running, agingDue := true } })), by decide +kernel⟩,
  ⟨1, [5], (node id (fun h => { h with start := { phase := .running, aging := some (1, [5]) } })), .A, by decide +kernel⟩⟩

theorem witness_panel_commands :
  (∃ (arg : Byte) (s : State) (i : LaneId),
    (s.sh.grade ≠ 2) ∧
    ((s.lane i).computes = true) ∧
    (arg.toNat ≤ 1) ∧
    ((s.lane i).fld PNL_ST PNL_ST_DARK_REQ ≠ arg.toNat)) ∧
  (∃ (arg : Byte) (s : State) (i : LaneId),
    (s.sh.grade ≠ 2) ∧
    ((s.lane i).computes = true) ∧
    (arg.toNat ≤ 15) ∧
    ((s.lane i).fld PNL_DIMSRC PNL_DIMSRC_KIND ≠ 8)) ∧
  (∃ (arg : Byte) (s : State) (i : LaneId),
    (s.sh.grade ≠ 2) ∧
    ((s.lane i).computes = true) ∧
    (arg.toNat ≤ 1) ∧
    ((s.lane i).fld PNL_ST PNL_ST_SRC ≠ arg.toNat)) ∧
  (∃ (s : State) (i : LaneId),
    (s.sh.grade ≠ 2) ∧
    ((s.lane i).computes = true) ∧
    ((s.lane i).on PNL_ST PNL_ST_SRC = false) ∧
    (1 < (s.lane i).pnl.pages)) ∧
  (∃ (s : State) (i : LaneId),
    (s.sh.grade ≠ 2) ∧
    ((s.lane i).computes = true) ∧
    ((s.lane i).on PNL_ST PNL_ST_RAIL_FAULT = true)) ∧
  (∃ (s : State) (i : LaneId),
    (s.sh.grade ≠ 2) ∧
    ((s.lane i).computes = true) ∧
    ((s.lane i).on PNL_ST PNL_ST_CRZ_FAULT = true) ∧
    ((s.lane i).hwOn PNL_CRZ PNL_CRZ_GOOD = true)) ∧
  (∃ (arg : Byte) (op : Nat) (c : Instr) (s : State) (i : LaneId),
    ((c, op) ∈ [(.setDark arg, 1), (.setDim arg, 2), (.setSrc arg, 3), (.presentCmd arg, 4), (.pageCmd arg, 5), (.clrFault arg, 6)]) ∧
    (s.sh.grade ≠ 2) ∧
    ((s.lane i).computes = true) ∧
    ((s.lane i).pnlStatus op arg.toNat ≠ 0)) ∧
  (∃ (arg : Byte) (c : Instr) (s : State),
    (c ∈ [.setDark arg, .setDim arg, .setSrc arg, .presentCmd arg, .pageCmd arg, .clrFault arg]) ∧
    (s.sh.grade = 2)) :=
  ⟨⟨1, (node id id), .A, by decide +kernel⟩,
  ⟨15, (node id id), .A, by decide +kernel⟩,
  ⟨1, (node id id), .A, by decide +kernel⟩,
  ⟨(node (fun l => { l with pnl := { page := 1, pages := 200 } }) id), .A, by decide +kernel⟩,
  ⟨(node (fun l => (l).setF (PNL_ST) PNL_ST_RAIL_FAULT (1)) id), .A, by decide +kernel⟩,
  ⟨(node (fun l => { ((l).setF (PNL_ST) PNL_ST_CRZ_FAULT (1)) with hw := RegFile.setF .nil PNL_CRZ PNL_CRZ_GOOD 1 }) id), .A, by decide +kernel⟩,
  ⟨2, 6, .clrFault 2, (node id id), .A, (by simp), (by decide +kernel), (by decide +kernel), (by decide +kernel)⟩,
  ⟨2, .clrFault 2, (node id (fun h => { h with grade := 2 })), (by simp), (by decide +kernel)⟩⟩

theorem witness_present_copies_the_draw_frame :
  ∃ (s : State) (i : LaneId),
    (s.sh.grade ≠ 2) ∧
    ((s.lane i).computes = true) :=
  ⟨(node id id), .B, by decide +kernel⟩

theorem witness_store_and_transfer_rows :
  (∃ (arg : Byte) (s : State) (i : LaneId),
    ((s.lane i).working = true) ∧
    (s.cfgStatus 1 arg.toNat = 0)) ∧
  (∃ (s : State) (i : LaneId),
    ((s.lane i).working = true) ∧
    ((s.lane i).xState = 1)) ∧
  (∃ (s : State) (i : LaneId),
    ((s.lane i).working = true) ∧
    (s.cfgStatus 2 0 = 0)) ∧
  (∃ (s : State) (i : LaneId),
    ((s.lane i).working = true) ∧
    (s.storeLane.xState = 3)) ∧
  (∃ (s : State) (i : LaneId),
    ((s.lane i).working = true) ∧
    (s.storeLane.xState = 3)) ∧
  (∃ (s : State) (i : LaneId),
    ((s.lane i).working = true) ∧
    (s.cfgStatus 3 0 = 0)) ∧
  (∃ (s : State) (i : LaneId),
    ((s.lane i).working = true) ∧
    ((s.lane i).xState = 4)) ∧
  (∃ (s : State) (i : LaneId),
    ((s.lane i).working = true) ∧
    (s.cfgStatus 4 0 = 0)) ∧
  (∃ (k : Nat) (ks : List Nat) (s : State) (i : LaneId),
    ((s.lane i).working = true) ∧
    (s.storeLane.fire.closing = k :: ks) ∧
    (k < 4) ∧
    (s.sh.epochs = true)) ∧
  (∃ (s : State) (i : LaneId),
    ((s.lane i).working = true) ∧
    (s.cfgStatus 5 0 = 0) ∧
    (s.sh.epochs = true)) ∧
  (∃ (arg : Byte) (s : State) (i : LaneId),
    ((s.lane i).working = true) ∧
    (s.cfgStatus 6 arg.toNat = 0)) ∧
  (∃ (arg : Byte) (s : State) (i : LaneId),
    ((s.lane i).working = true) ∧
    (s.cfgStatus 7 arg.toNat = 0)) ∧
  (∃ (s : State) (i : LaneId),
    ((s.lane i).working = true) ∧
    (s.cfgStatus 8 0 = 0)) ∧
  (∃ (s : State) (i : LaneId),
    ((s.lane i).working = true) ∧
    (s.cfgStatus 9 0 = 0) ∧
    (s.sh.epochs = true)) ∧
  (∃ (s : State) (i : LaneId),
    ((s.lane i).working = true) ∧
    (s.cfgStatus 10 0 = 0) ∧
    (s.sh.epochs = true)) ∧
  (∃ (arg : Byte) (op : Nat) (c : Instr) (s : State) (i : LaneId),
    ((c, op) ∈ [(.xopen arg, 1), (.xprog arg, 2), (.xread arg, 3), (.xclose arg, 4), (.xabort arg, 5), (.pfire arg, 6), (.setPref arg, 7),
      (.refire arg, 8), (.burnKey arg, 9), (.burnAuthreq arg, 10)]) ∧
    ((s.lane i).working = true) ∧
    (s.cfgStatus op arg.toNat ≠ 0)) :=
  ⟨⟨3, (node id id), .A, by decide +kernel⟩,
  ⟨(node (fun l => (l).setF (CFG_XST) CFG_XST_XSTATE (1)) id), .A, by decide +kernel⟩,
  ⟨(node (fun l => (((l).setF (CFG_XST) CFG_XST_XSTATE (2)).setF (CFG_XST) CFG_XST_TARGET (3)).setF (CFG_XOFF) CFG_XOFF_OFFSET (65280)) id), .A, by decide +kernel⟩,
  ⟨(node (fun l => (l).setF (CFG_XST) CFG_XST_XSTATE (3)) id), .A, by decide +kernel⟩,
  ⟨(node (fun l => (l).setF (CFG_XST) CFG_XST_XSTATE (3)) id), .A, by decide +kernel⟩,
  ⟨(node (fun l => (l).setF (CFG_XST) CFG_XST_XSTATE (2)) id), .A, by decide +kernel⟩,
  ⟨(node (fun l => (l).setF (CFG_XST) CFG_XST_XSTATE (4)) id), .A, by decide +kernel⟩,
  ⟨(node (fun l => (l).setF (CFG_XST) CFG_XST_XSTATE (5)) id), .A, by decide +kernel⟩,
  ⟨3, [1], (node (fun l => { l with fire := { closing := [3, 1] } }) id), .A, by decide +kernel⟩,
  ⟨(node (fun l => (l).setF (CFG_XST) CFG_XST_XSTATE (5)) id), .A, by decide +kernel⟩,
  ⟨1, (node (fun l => (l).setF (CFG_TGT 3) CFG_TGT_CHECK (1)) id), .A, by decide +kernel⟩,
  ⟨1, (node (fun l => (l).setF (CFG_TGT 1) CFG_TGT_CHECK (1)) id), .A, by decide +kernel⟩,
  ⟨(node id id), .A, by decide +kernel⟩,
  ⟨(node id id), .A, by decide +kernel⟩,
  ⟨(node id (fun h => { h with start := { phase := .running, key := some [] } })), .A, by decide +kernel⟩,
  ⟨4, 1, .xopen 4, (node id id), .A, (by simp), (by decide +kernel), (by decide +kernel)⟩⟩

theorem witness_firing_rows_1 :
  ∃ (i : LaneId) (es : List RepEntry) (w : Wst) (s : State),
    ((s.lane i).st = .firing) ∧
    ((s.lane i).fire.res = none) ∧
    ((s.lane i).fire.rejs = []) ∧
    ((s.lane i.other).st = .firing) ∧
    ((s.lane i.other).fire.res = none) ∧
    (let k := if s.sh.start.srec.pref = 0 then 0 else 1
    (s.sh.trySlot (s.lane i).regs k = (es, some w))) :=
  ⟨.A, tried.1, tried.2.get tried_some, fired, rfl, rfl, rfl, rfl, rfl, (pair_some tried tried_some)⟩

theorem witness_firing_rows_2 :
  ∃ (i : LaneId) (e : RepEntry) (s : State),
    ((s.lane i).st = .firing) ∧
    ((s.lane i).fire.res = none) ∧
    ((s.lane i).fire.rejs = []) ∧
    ((s.lane i.other).fire.rejs = []) ∧
    (s.sh.epochs = false) ∧
    (let k := if s.sh.start.srec.pref = 0 then 0 else 1
    (s.sh.trySlot (s.lane i).regs k = ([e], none))) :=
  ⟨.A, _, { State.reset with a := { id := .A, st := .firing }, b := { id := .B, st := .firing } }, (by decide +kernel), (by decide +kernel), (by decide +kernel), (by decide +kernel), (by decide +kernel), rfl⟩

theorem witness_firing_rows_3 :
  ∃ (pa pb : Bool) (x y : FireRes) (s : State),
    (s.a.st = .firing) ∧
    (s.b.st = .firing) ∧
    (s.a.fire.res = some x) ∧
    (s.b.fire.res = some y) ∧
    (sameResult x y = true) ∧
    (x.ok = true) :=
  ⟨true, true, ⟨0, 1#32, 1#32, [], true, []⟩, ⟨0, 1#32, 1#32, [], true, []⟩, { State.reset with a := { id := .A, st := .firing, fire := { res := some ⟨0, 1#32, 1#32, [], true, []⟩, again := false } }, b := { id := .B, st := .firing, fire := { res := some ⟨0, 1#32, 1#32, [], true, []⟩, again := false } } }, by decide +kernel⟩

theorem witness_firing_rows_4 :
  ∃ (pa pb : Bool) (x y : FireRes) (s : State),
    (s.a.st = .firing) ∧
    (s.b.st = .firing) ∧
    (s.a.fire.res = some x) ∧
    (s.b.fire.res = some y) ∧
    (sameResult x y = false) ∧
    (s.a.fire.again = false) :=
  ⟨true, true, ⟨0, 1#32, 1#32, [], true, []⟩, ⟨1, 1#32, 1#32, [], true, []⟩, { State.reset with a := { id := .A, st := .firing, fire := { res := some ⟨0, 1#32, 1#32, [], true, []⟩, again := false } }, b := { id := .B, st := .firing, fire := { res := some ⟨1, 1#32, 1#32, [], true, []⟩, again := false } } }, by decide +kernel⟩

theorem witness_firing_rows_5 :
  ∃ (x y : FireRes) (s : State),
    (s.a.st = .firing) ∧
    (s.b.st = .firing) ∧
    (s.a.fire.res = some x) ∧
    (s.b.fire.res = some y) ∧
    (sameResult x y = false) ∧
    (s.a.fire.again = true) :=
  ⟨⟨0, 1#32, 1#32, [], true, []⟩, ⟨1, 1#32, 1#32, [], true, []⟩, { State.reset with a := { id := .A, st := .firing, fire := { res := some ⟨0, 1#32, 1#32, [], true, []⟩, again := true } }, b := { id := .B, st := .firing, fire := { res := some ⟨1, 1#32, 1#32, [], true, []⟩, again := true } } }, by decide +kernel⟩

theorem witness_firing_rows_6 :
  ∃ (i : LaneId) (b : Fin 2) (x : PFire) (rest : List PFire) (s : State),
    ((s.lane i).fire.pf = x :: rest) ∧
    (x.buf = b.val) ∧
    (x.res = none) :=
  ⟨.B, 1, ⟨1, 5, false, none⟩, [], (node (fun l => { l with fire := { pf := [⟨1, 5, false, none⟩] } }) id), by decide +kernel⟩

theorem witness_firing_rows_7 :
  ∃ (x : PFire) (rest : List PFire) (r : PatchRes) (s : State) (i : LaneId),
    ((s.lane i).computes = true) ∧
    ((s.lane i).fire.pf = x :: rest) ∧
    (x.said = false) ∧
    (s.sh.gt = x.m + 40000000) ∧
    (x.res = some r) :=
  ⟨⟨1, 59960000000, false, some ⟨true, 0x71, 0, 9, [], [], []⟩⟩, [], ⟨true, 0x71, 0, 9, [], [], []⟩, (node (fun l => { l with fire := { pf := [⟨1, 59960000000, false, some ⟨true, 0x71, 0, 9, [], [], []⟩⟩] } }) id), .A, by decide +kernel⟩

theorem witness_firing_rows_8 :
  ∃ (x : PFire) (rest : List PFire) (s : State) (i : LaneId),
    ((s.lane i).computes = true) ∧
    ((s.lane i).fire.pf = x :: rest) ∧
    (x.said = false) ∧
    (s.sh.gt = x.m + 40000000) ∧
    (x.res = none) :=
  ⟨⟨1, 59960000000, false, none⟩, [], (node (fun l => { l with fire := { pf := [⟨1, 59960000000, false, none⟩] } }) id), .A, by decide +kernel⟩

theorem witness_firing_rows_9 :
  ∃ (x : PFire) (r : PatchRes) (s : State) (i : LaneId),
    ((s.lane i).computes = true) ∧
    ((s.lane i).fire.pf = [x]) ∧
    (x.buf < 2) ∧
    (x.res = some r) ∧
    (r.ok = false) ∧
    (s.sh.gt % 10000000 = 0) ∧
    (x.m + 50000000 ≤ s.sh.gt) :=
  ⟨⟨1, 59950000000, true, some ⟨false, 0x71, 0, 9, [], [], []⟩⟩, ⟨false, 0x71, 0, 9, [], [], []⟩, (node (fun l => { l with fire := { pf := [⟨1, 59950000000, true, some ⟨false, 0x71, 0, 9, [], [], []⟩⟩] } }) id), .A, by decide +kernel⟩

theorem witness_firing_rows_10 :
  ∃ (x : PFire) (r : PatchRes) (s : State) (i : LaneId),
    ((s.lane i).computes = true) ∧
    ((s.lane i).fire.pf = [x]) ∧
    (x.buf < 2) ∧
    (x.res = some r) ∧
    (r.ok = true) ∧
    (r.typ = 0x0071) ∧
    (r.regs = []) ∧
    (s.sh.gt % 10000000 = 0) ∧
    (x.m + 50000000 ≤ s.sh.gt) :=
  ⟨⟨1, 59950000000, true, some ⟨true, 0x71, 0, 9, [], [], []⟩⟩, ⟨true, 0x71, 0, 9, [], [], []⟩, (node (fun l => { l with fire := { pf := [⟨1, 59950000000, true, some ⟨true, 0x71, 0, 9, [], [], []⟩⟩] } }) id), .A, by decide +kernel⟩

theorem witness_firing_rows_11 :
  ∃ (x : PFire) (r : PatchRes) (s : State) (i : LaneId),
    ((s.lane i).computes = true) ∧
    ((s.lane i).fire.pf = [x]) ∧
    (x.res = some r) ∧
    (r.ok = true) ∧
    (s.sh.gt % 10000000 = 0) ∧
    (x.m + 50000000 ≤ s.sh.gt) :=
  ⟨⟨1, 59950000000, true, some ⟨true, 0x71, 0, 9, [], [], []⟩⟩, ⟨true, 0x71, 0, 9, [], [], []⟩, (node (fun l => { l with fire := { pf := [⟨1, 59950000000, true, some ⟨true, 0x71, 0, 9, [], [], []⟩⟩] } }) id), .A, by decide +kernel⟩

theorem witness_reset_and_start_rows :
  (∃ (s : State) (c : Nat) (r : SRec),
    (s.sh.start.phase = .reset) ∧
    ((s.sh.start.cause < 3 ∨ 5 < s.sh.start.cause)) ∧
    (s.sh.start.cause < 16) ∧
    (s.sh.start.supEnd ≤ s.sh.gt) ∧
    (s.sh.srecUsed = some (c, r)) ∧
    (r.fails < 4) ∧
    (r.phase < 4)) ∧
  (∃ (s : State),
    (s.sh.gt < s.sh.start.supEnd)) ∧
  (∃ (s : State) (c : Nat) (r : SRec),
    (s.sh.start.phase = .reset) ∧
    (3 ≤ s.sh.start.cause) ∧
    (s.sh.start.cause ≤ 5) ∧
    (s.sh.start.zero = false) ∧
    (s.sh.start.supEnd ≤ s.sh.gt) ∧
    (s.sh.srecUsed = some (c, r)) ∧
    (r.phase = 1 ∨ r.phase = 2)) ∧
  (∃ (straps : BitVec 15) (s : State),
    (s.sh.start.phase = .released) ∧
    (straps.getLsbD 5 = true) ∧
    (s.sh.start.srec.fails < 3)) ∧
  (∃ (straps : BitVec 15) (s : State),
    (s.sh.start.phase = .released) ∧
    (straps.getLsbD 5 = false ∨ 3 ≤ s.sh.start.srec.fails)) ∧
  (∃ (s : State),
    (s.sh.start.phase ≠ .reset)) ∧
  (∃ (s : State),
    (s.sh.start.phase ≠ .reset)) ∧
  (∃ (r : SRec) (s : State),
    (s.sh.start.writing = some r) ∧
    (s.sh.start.again = false)) ∧
  (∃ (s : State),
    (s.sh.start.phase = .waiting) ∧
    (s.sh.start.waitAt + 300000000 ≤ s.sh.gt)) ∧
  (∃ (s : State),
    (s.sh.start.phase ∈ [.released, .strapped, .evaluated, .fired, .waiting, .authority]) ∧
    (s.sh.start.relAt + 5000000000 ≤ s.sh.gt) ∧
    (s.sh.bisque = false)) ∧
  (∃ (s : State),
    (s.sh.start.phase = .running) ∧
    (s.sh.start.stable = false) ∧
    (s.sh.start.runAt + 60000000000 ≤ s.sh.gt)) ∧
  (∃ (s : State) (i : LaneId),
    (s.sh.start.phase = .running) ∧
    (s.sh.start.srec.fails ≠ 0) ∧
    (s.sh.start.runAt + 600000000000 ≤ s.sh.gt) ∧
    ((s.lane i).working = true)) ∧
  (∃ (s : State) (u : Nat),
    (s.sh.start.stx = some u) ∧
    (u + 10000000000 ≤ s.sh.gt)) :=
  ⟨⟨{ State.reset with sh := { (State.reset.sh.norWrite (srecAddr 1) ({ fails := 3, phase := 3 } : SRec).bytes) with start := { phase := .reset, cause := 1 } } }, 1, { fails := 3, phase := 3 }, by decide +kernel⟩,
  ⟨(node id (fun h => { ({ h with gt := 5 }) with start := { phase := .reset, cause := 2, supEnd := 6 } })), by decide +kernel⟩,
  ⟨{ State.reset with sh := { (State.reset.sh.norWrite (srecAddr 1) ({ fails := 3, phase := 2 } : SRec).bytes) with gt := 10000005, start := { phase := .reset, cause := 5, supEnd := 10000005, zero := false } } }, 1, { fails := 3, phase := 2 }, by decide +kernel⟩,
  ⟨0x7FFF, (node id (fun h => { h with start := { phase := .released, srec := { fails := 2 } } })), by decide +kernel⟩,
  ⟨0x7FDF, (node id (fun h => { h with start := { phase := .released, srec := { fails := 2 } } })), by decide +kernel⟩,
  ⟨(node id (fun h => { h with start := { phase := .released } })), by decide +kernel⟩,
  ⟨(node id (fun h => { h with start := { phase := .released } })), by decide +kernel⟩,
  ⟨{ fails := 1 }, (node id (fun h => { h with start := { phase := .evaluated, writing := some { fails := 1 } } })), by decide +kernel⟩,
  ⟨(node id (fun h => { h with start := { phase := .waiting, waitAt := 59700000000 } })), by decide +kernel⟩,
  ⟨(node id (fun h => { h with start := { phase := .authority, relAt := 55000000000 } })), by decide +kernel⟩,
  ⟨(node id (fun h => { h with start := { phase := .running } })), by decide +kernel⟩,
  ⟨(node id (fun h => { ({ h with gt := 600000000000 }) with start := { phase := .running, srec := { fails := 3 } } })), .A, by decide +kernel⟩,
  ⟨(node id (fun h => { h with start := { phase := .running, stx := some 50000000000 } })), 50000000000, by decide +kernel⟩⟩

theorem witness_restart_rows :
  (∃ (s : State) (i : LaneId) (b : Nat),
    (s.sh.bisque = true) ∧
    (s.sh.gt % 1000000000 = 0) ∧
    (s.sh.on CLK_ST CLK_ST_REF_OK = true) ∧
    ((s.lane i).st = .bisque) ∧
    (b < 2) ∧
    ((s.sh.can b).sending ≠ some .own)) ∧
  (∃ (cnp : Bool) (s : State),
    (s.sh.start.phase ≠ .reset) ∧
    (s.sh.fld MOD_CMDST MOD_CMDST_STATUS ≠ 1)) ∧
  (∃ (cnp : Bool) (s : State),
    (s.sh.start.phase ≠ .reset) ∧
    (s.sh.fld MOD_CMDST MOD_CMDST_STATUS ≠ 1) ∧
    (s.sh.bisque = true) ∧
    (s.sh.on MOD_STRAP MOD_STRAP_BISQ = true)) ∧
  (∃ (cnp : Bool) (s : State),
    (s.sh.start.phase ≠ .reset) ∧
    (s.sh.fld MOD_CMDST MOD_CMDST_STATUS ≠ 1) ∧
    (s.sh.bisque = false) ∧
    (s.sh.start.srec.fails ≠ 0)) ∧
  (∃ (arg : Byte) (cnp : Bool) (op : Nat) (c : Instr) (s : State),
    ((c, op) ∈ [(.restart arg cnp, 1), (.leaveBisque arg cnp, 2), (.clrFails arg cnp, 3)]) ∧
    (s.sh.start.phase ≠ .reset) ∧
    (s.sh.fld MOD_CMDST MOD_CMDST_STATUS ≠ 1) ∧
    (arg.toNat ≠ 0x5A ∨ s.sh.modRefused op = true)) ∧
  (∃ (s : State),
    (s.sh.start.phase = .draining) ∧
    (s.sh.hold = true) ∧
    (s.a.drained = true) ∧
    (s.b.drained = true) ∧
    (s.sh.start.cause ≠ 8 ∨ s.sh.start.writing = none)) :=
  ⟨⟨{ node id (fun h => ({ h with bisque := true }).setF (CLK_ST) CLK_ST_REF_OK (1)) with a := { id := .A, st := .bisque }, b := { id := .B, st := .bisque } }, .A, 1, by decide +kernel⟩,
  ⟨true, (node id id), by decide +kernel⟩,
  ⟨true, (node id (fun h => ({ h with bisque := true }).setF (MOD_STRAP) MOD_STRAP_BISQ (1))), by decide +kernel⟩,
  ⟨true, (node id (fun h => { h with start := { phase := .running, srec := { fails := 1 } } })), by decide +kernel⟩,
  ⟨0x5B, true, 3, .clrFails 0x5B true, (node id id), (by simp), (by decide +kernel), (by decide +kernel), (by decide +kernel)⟩,
  ⟨(node id (fun h => { ({ h with hold := true }) with start := { phase := .draining, cause := 6 } })), by decide +kernel⟩⟩

theorem witness_host_frames :
  (∃ (op : Byte) (addr : BitVec 24) (u : Nat) (s : State),
    (op.toNat / 16 = 1) ∧
    (s.sh.start.phase ≠ .reset) ∧
    (s.sh.start.phase ≠ .released) ∧
    (badFormat addr.toNat (op.toNat % 16 + 1) = false)) ∧
  (∃ (addr : BitVec 24) (k u : Nat) (s : State),
    (s.sh.start.phase ≠ .reset) ∧
    (s.sh.start.phase ≠ .released) ∧
    (addr.toNat % 4 = 0) ∧
    (placeOf addr.toNat = .shared k) ∧
    ((regRow? k).isSome = true) ∧
    (s.offline (.shared k) = false) ∧
    (k < PWR_LCFG ∨ PWR_LTRIP ≤ k)) ∧
  (∃ (op : Byte) (addr : BitVec 24) (u : Nat) (s : State),
    (op.toNat / 16 = 1) ∧
    (s.sh.start.phase ≠ .reset) ∧
    (s.sh.start.phase ≠ .released) ∧
    (badFormat addr.toNat (op.toNat % 16 + 1) = true)) ∧
  (∃ (op : Byte) (addr : BitVec 24) (c : Byte) (u : Nat) (whole : Bool) (s : State) (i : LaneId),
    (s.sh.start.phase ≠ .reset) ∧
    (s.sh.start.phase ≠ .released) ∧
    ((s.lane i).st ≠ .off) ∧
    (c ≠ crc8 [op, addr.extractLsb' 16 8, addr.extractLsb' 8 8, addr.extractLsb' 0 8])) ∧
  (∃ (op : Byte) (addr : BitVec 24) (data : List Byte) (u : Nat) (s : State) (i : LaneId),
    (op.toNat / 16 = 2) ∧
    (s.sh.start.phase ≠ .reset) ∧
    (s.sh.start.phase ≠ .released) ∧
    (data.length = 4 * (op.toNat % 16 + 1)) ∧
    (badFormat addr.toNat (op.toNat % 16 + 1) = false) ∧
    (s.sh.fits (s.sh.gt + u) (placesOf addr.toNat (op.toNat % 16 + 1)) = true)) ∧
  (∃ (op : Byte) (addr : BitVec 24) (data : List Byte) (d : Byte) (u : Nat) (s : State),
    (op.toNat / 16 = 2) ∧
    (s.sh.start.phase ≠ .reset) ∧
    (s.sh.start.phase ≠ .released) ∧
    (data.length = 4 * (op.toNat % 16 + 1)) ∧
    (d ≠ crc8 data)) ∧
  (∃ (op : Byte) (addr : BitVec 24) (data : List Byte) (u : Nat) (s : State),
    (op.toNat / 16 = 2) ∧
    (s.sh.start.phase ≠ .reset) ∧
    (s.sh.start.phase ≠ .released) ∧
    (data.length = 4 * (op.toNat % 16 + 1)) ∧
    (badFormat addr.toNat (op.toNat % 16 + 1) = false) ∧
    (s.sh.fits (s.sh.gt + u) (placesOf addr.toNat (op.toNat % 16 + 1)) = false)) ∧
  (∃ (op : Byte) (addr : BitVec 24) (data : List Byte) (dcrc : Option Byte) (whole : Bool) (u : Nat) (s : State),
    (s.sh.start.phase ≠ .reset) ∧
    (s.sh.start.phase ≠ .released)) :=
  ⟨⟨0x1F, 0xFFFFC0, 0, (node id id), by decide +kernel⟩,
  ⟨0x300000, 0xC0000, 0, (node id id), (by decide +kernel), (by decide +kernel), (by decide +kernel), rfl, (by decide +kernel), (by decide +kernel), (by decide +kernel)⟩,
  ⟨0x10, 2, 0, (node id id), by decide +kernel⟩,
  ⟨0x10, 0, 0, 0, true, (node id id), .A, by decide +kernel⟩,
  ⟨0x20, 0x200000, [0#8, 0#8, 0#8, 0#8], 0, (node id id), .A, by decide +kernel⟩,
  ⟨0x20, 0x200000, [0#8, 0#8, 0#8, 0#8], 0, 0, (node id id), by decide +kernel⟩,
  ⟨0x20, 0x200000, [0#8, 0#8, 0#8, 0#8], 0, (node id (fun h => { h with wqEnd := 60000008000 })), by decide +kernel⟩,
  ⟨0x20, 0, [], none, true, 0, (node id id), by decide +kernel⟩⟩

theorem witness_register_writes_and_side_effects :
  (∃ (addr : BitVec 22) (v : Word) (cnp : Bool) (u k : Nat) (s : State) (i : LaneId),
    (s.sh.auth = some i) ∧
    (placeOf (4 * addr.toNat) = .lane .active k) ∧
    (s.writeStatus (.lane .active k) = 0) ∧
    (windowOf k = none) ∧
    (k ≠ MEM_WSEL) ∧
    (k ≠ ALM_CMD) ∧
    (panelKey k = false ∨ s.sh.fld MOD_IDENT MOD_IDENT_GRADE ≠ 2) ∧
    (s.sh.queued (s.sh.gt + u) + 1 ≤ 64)) ∧
  (∃ (addr : BitVec 22) (v : Word) (cnp : Bool) (u k : Nat) (i : LaneId) (s : State),
    (placeOf (4 * addr.toNat) = .lane (.lane i) k) ∧
    (s.writeStatus (.lane (.lane i) k) = 2)) ∧
  (∃ (addr : BitVec 22) (v : Word) (u k : Nat) (s : State),
    (placeOf (4 * addr.toNat) = .lane .active k) ∧
    (64 < s.sh.queued (s.sh.gt + u) + 1)) ∧
  (∃ (addr : BitVec 22) (v : Word) (u k : Nat) (s : State),
    (placeOf (4 * addr.toNat) = .lane .active k) ∧
    (64 < s.sh.queued (s.sh.gt + u) + 1)) ∧
  (∃ (addr : BitVec 22) (v : Word) (cnp : Bool) (u : Nat) (s : State),
    (s.sh.fits (s.sh.gt + u) [placeOf (4 * addr.toNat)] = true) ∧
    (s.writeStatus (placeOf (4 * addr.toNat)) = 1 ∨ s.writeStatus (placeOf (4 * addr.toNat)) = 6 ∨
      s.writeStatus (placeOf (4 * addr.toNat)) = 7)) ∧
  (∃ (i : LaneId) (w : Fin 6) (v : Word) (s : State),
    ((s.lane i).st ≠ .off) ∧
    ((s.lane i).st ≠ .bisque)) ∧
  (∃ (w : Fin 6) (v : Word) (s : State) (i : LaneId),
    ((s.lane i).computes = true)) ∧
  (∃ (s : State),
    (s.sh.bisque = true)) ∧
  (∃ (s : State),
    (s.sh.bisque = false)) ∧
  (∃ (i : LaneId) (s : State),
    ((s.lane i).st ≠ .off)) :=
  ⟨⟨(BitVec.ofNat 22 (0x80000 + PNL_HF 2047)), 1#32, true, 800000, PNL_HF 2047, (node id (fun h => (h).setF (PWR_DST 13) PWR_DST_ON (1))), .A, (by decide +kernel), rfl, (by decide +kernel), (by decide +kernel), (by decide +kernel), (by decide +kernel), (by decide +kernel), (by decide +kernel)⟩,
  ⟨(BitVec.ofNat 22 AIN_CMD), 1#32, true, 0, AIN_CMD, .A, (node id id), rfl, (by decide +kernel)⟩,
  ⟨(BitVec.ofNat 22 (0x80000 + PNL_HF 2047)), 1#32, 0, PNL_HF 2047, (node id (fun h => { h with wqEnd := 60000008000 })), (by decide +kernel)⟩,
  ⟨(BitVec.ofNat 22 (0x80000 + PNL_HF 2047)), 1#32, 0, PNL_HF 2047, (node id (fun h => { h with wqEnd := 60000008000 })), (by decide +kernel)⟩,
  ⟨0x3FFFFF, 0#32, true, 0, (node id id), by decide +kernel⟩,
  ⟨.B, 5, 1#32, (node id id), by decide +kernel⟩,
  ⟨5, 1#32, (node id id), .A, by decide +kernel⟩,
  ⟨(node id (fun h => { h with bisque := true })), by decide +kernel⟩,
  ⟨(node id id), by decide +kernel⟩,
  ⟨.B, (node id id), by decide +kernel⟩⟩

theorem witness_ring_rows :
  (∃ (p : Port) (dst : BitVec 6) (src : BitVec 5) (u : Nat) (s : State),
    (s.ringLive = true) ∧
    (dst.toNat < 32 ∨ dst.toNat = 63) ∧
    (s.ringDis = false) ∧
    (s.sh.hold = true ∨ s.sh.ring.next (s.sh.gt + u) = none)) ∧
  (∃ (p : Port) (dst : BitVec 6) (src : BitVec 5) (u : Nat) (ty to_ : Nat) (d : List Byte) (s : State),
    (s.ringLive = true) ∧
    (dst.toNat < 32 ∨ dst.toNat = 63) ∧
    (s.sh.hold = false) ∧
    (s.ringDis = false) ∧
    (s.sh.ring.next (s.sh.gt + u) = some (ty, to_, d))) ∧
  (∃ (dst : BitVec 6) (src : BitVec 5) (u : Nat) (s : State),
    (s.ringOn = true) ∧
    (s.sh.on RING_STAT RING_STAT_BYPASS = true) ∧
    (dst.toNat < 32 ∨ dst.toNat = 63) ∧
    ((∀ x ∈ s.sh.ring.opens, x.2 + 1000000000 ≤ s.sh.gt + u))) ∧
  (∃ (u : Nat) (f : RingTx) (s : State),
    (s.sh.ring.sent = some f) ∧
    (f.at_ + 250000 ≤ s.sh.gt + u) ∧
    (s.ringDis = false)) ∧
  (∃ (u : Nat) (s : State),
    (s.sh.ring.callAt + 984000000 ≤ s.sh.gt + u)) ∧
  (∃ (p : Port) (dst : BitVec 6) (src : BitVec 5) (data : List Byte) (u type : Nat) (f : RingTx) (c : Instr) (s : State),
    ((c, type) ∈ [(.ringCall p dst src data u, 0x08), (.cmdResp p dst src data u, 0x12)]) ∧
    (s.ringLive = true) ∧
    (dst.toNat < 32 ∨ dst.toNat = 63) ∧
    ((if type = 0x08 then 8 else 5) ≤ data.length) ∧
    (data.length ≤ 16) ∧
    (src.toNat = s.sh.raddr) ∧
    (s.sh.ring.sent = some f) ∧
    (f.frame.type = type) ∧
    (s.ringDis = false)) ∧
  (∃ (p : Port) (dst : BitVec 6) (src : BitVec 5) (data : List Byte) (u type : Nat) (c : Instr) (s : State),
    ((c, type) ∈ [(.ringCall p dst src data u, 0x08), (.cmdResp p dst src data u, 0x12)]) ∧
    (s.ringLive = true) ∧
    (dst.toNat < 32 ∨ dst.toNat = 63) ∧
    ((if type = 0x08 then 8 else 5) ≤ data.length) ∧
    (data.length ≤ 16) ∧
    (src.toNat ≠ s.sh.raddr)) ∧
  (∃ (p : Port) (src : BitVec 5) (dst : BitVec 6) (op : Byte) (tgt : BitVec 16) (seq : Byte) (u k : Nat) (s : State) (i : LaneId),
    (s.ringServes = true) ∧
    (dst.toNat = s.sh.raddr) ∧
    (s.lead.stationOf src.toNat = some k) ∧
    ((s.lane i).takes = true) ∧
    (0 < u)) ∧
  (∃ (p : Port) (dst : BitVec 6) (src : BitVec 5) (data : List Byte) (u k : Nat) (s : State) (i : LaneId),
    (s.ringServes = true) ∧
    (dst.toNat < 32 ∨ dst.toNat = 63) ∧
    (data.length ≤ 16) ∧
    (s.lead.stationOf src.toNat = some k) ∧
    ((s.lane i).takes = true) ∧
    (0 < u)) ∧
  (∃ (p : Port) (src : BitVec 5) (dst : BitVec 6) (op : Byte) (tgt : BitVec 16) (seq : Byte) (data : List Byte) (u : Nat) (c : Instr)
    (s : State),
    ((c = .stnStat p dst src data u ∧ (dst.toNat < 32 ∨ dst.toNat = 63) ∧ data.length ≤ 16) ∨
      (c = .stnCmd p src dst op tgt seq u ∧ dst.toNat = s.sh.raddr)) ∧
    (s.ringServes = true) ∧
    (s.lead.stationOf src.toNat = none)) ∧
  (∃ (p : Port) (hdr crc : BitVec 16) (len : Byte) (data : List Byte) (viol : Bool) (u : Nat) (s : State),
    (s.ringServes = true) ∧
    (viol = true ∨ crc ≠ ringCrc hdr len data)) ∧
  (∃ (p : Port) (hdr : BitVec 16) (len : Byte) (data : List Byte) (u : Nat) (s : State),
    (s.ringServes = true) ∧
    (16 < len.toNat ∨ (32 ≤ hdr.toNat / 1024 ∧ hdr.toNat / 1024 ≠ 63) ∨ len.toNat < (ringLen (hdr.toNat % 32)).getD 256)) :=
  ⟨⟨.A, 63, 31, 0, (node id (fun h => { (((((h).setF (PWR_DST 7) PWR_DST_ON (1)).setF (RING_CFG) RING_CFG_RING_EN (1)).setF (RING_CFG) RING_CFG_RADDR (3)).setF (RING_STAT) RING_STAT_BYPASS (0)) with ring := { callAt := 60000000000 } })), by decide +kernel⟩,
  ⟨.A, 31, 31, 0, 8, 0x3F, [7#8, 0#8, 0#8], (node id (fun h => { (((((h).setF (PWR_DST 7) PWR_DST_ON (1)).setF (RING_CFG) RING_CFG_RING_EN (1)).setF (RING_CFG) RING_CFG_RADDR (3)).setF (RING_STAT) RING_STAT_BYPASS (0)) with ring := { callDue := true, callPay := [7#8] } })), by decide +kernel⟩,
  ⟨63, 31, 0, (node id (fun h => { ((((((h).setF (PWR_DST 7) PWR_DST_ON (1)).setF (RING_CFG) RING_CFG_RING_EN (1)).setF (RING_CFG) RING_CFG_RADDR (3)).setF (RING_STAT) RING_STAT_BYPASS (0)).setF (RING_STAT) RING_STAT_BYPASS (1)) with ring := { opens := [((3, 4), 59000000000)] } })), by decide +kernel⟩,
  ⟨0, ⟨.of 0x3F 3 8 [], .B, 59999750000⟩, (node id (fun h => { (((((h).setF (PWR_DST 7) PWR_DST_ON (1)).setF (RING_CFG) RING_CFG_RING_EN (1)).setF (RING_CFG) RING_CFG_RADDR (3)).setF (RING_STAT) RING_STAT_BYPASS (0)) with ring := { sent := some ⟨.of 0x3F 3 8 [], .B, 59999750000⟩ } })), by decide +kernel⟩,
  ⟨0, (node id (fun h => { (((((h).setF (PWR_DST 7) PWR_DST_ON (1)).setF (RING_CFG) RING_CFG_RING_EN (1)).setF (RING_CFG) RING_CFG_RADDR (3)).setF (RING_STAT) RING_STAT_BYPASS (0)) with ring := { callAt := 59016000000 } })), by decide +kernel⟩,
  ⟨.B, 63, 3, [0#8, 0#8, 0#8, 0#8, 0#8], 0, 0x12, ⟨.of 0x3F 3 0x12 [], .B, 59999750000⟩, .cmdResp .B 63 3 [0#8, 0#8, 0#8, 0#8, 0#8] 0, (node id (fun h => { (((((h).setF (PWR_DST 7) PWR_DST_ON (1)).setF (RING_CFG) RING_CFG_RING_EN (1)).setF (RING_CFG) RING_CFG_RADDR (3)).setF (RING_STAT) RING_STAT_BYPASS (0)) with ring := { sent := some ⟨.of 0x3F 3 0x12 [], .B, 59999750000⟩ } })), (by simp), (by decide +kernel), (by decide +kernel), (by decide +kernel), (by decide +kernel), (by decide +kernel), (by decide +kernel), (by decide +kernel)⟩,
  ⟨.A, 63, 31, [0#8, 0#8, 0#8, 0#8, 0#8, 0#8, 0#8, 0#8], 0, 0x08, .ringCall .A 63 31 [0#8, 0#8, 0#8, 0#8, 0#8, 0#8, 0#8, 0#8] 0, (node id (fun h => ((((h).setF (PWR_DST 7) PWR_DST_ON (1)).setF (RING_CFG) RING_CFG_RING_EN (1)).setF (RING_CFG) RING_CFG_RADDR (3)).setF (RING_STAT) RING_STAT_BYPASS (0))), (by simp), (by decide +kernel), (by decide +kernel), (by decide +kernel), (by decide +kernel)⟩,
  ⟨.A, 31, 3, 1, 5, 0, 1, 15, (node (fun l => ((l).setF (ALM_WS 15) ALM_WS_FITTED (1)).setF (ALM_WS 15) ALM_WS_RADDR (31)) (fun h => ((((h).setF (PWR_DST 7) PWR_DST_ON (1)).setF (RING_CFG) RING_CFG_RING_EN (1)).setF (RING_CFG) RING_CFG_RADDR (3)).setF (RING_STAT) RING_STAT_BYPASS (0))), .A, by decide +kernel⟩,
  ⟨.A, 63, 31, [], 1, 15, (node (fun l => ((l).setF (ALM_WS 15) ALM_WS_FITTED (1)).setF (ALM_WS 15) ALM_WS_RADDR (31)) (fun h => ((((h).setF (PWR_DST 7) PWR_DST_ON (1)).setF (RING_CFG) RING_CFG_RING_EN (1)).setF (RING_CFG) RING_CFG_RADDR (3)).setF (RING_STAT) RING_STAT_BYPASS (0))), .A, by decide +kernel⟩,
  ⟨.A, 30, 63, 1, 5, 0, [], 0, .stnStat .A 63 30 [] 0, (node (fun l => ((l).setF (ALM_WS 15) ALM_WS_FITTED (1)).setF (ALM_WS 15) ALM_WS_RADDR (31)) (fun h => ((((h).setF (PWR_DST 7) PWR_DST_ON (1)).setF (RING_CFG) RING_CFG_RING_EN (1)).setF (RING_CFG) RING_CFG_RADDR (3)).setF (RING_STAT) RING_STAT_BYPASS (0))), (.inl ⟨rfl, by decide +kernel, by decide +kernel⟩), (by decide +kernel)⟩,
  ⟨.B, 0xFC28, 0, 8, [0#8, 0#8, 0#8, 0#8, 0#8, 0#8, 0#8, 0#8], false, 0, (node id (fun h => ((((h).setF (PWR_DST 7) PWR_DST_ON (1)).setF (RING_CFG) RING_CFG_RING_EN (1)).setF (RING_CFG) RING_CFG_RADDR (3)).setF (RING_STAT) RING_STAT_BYPASS (0))), by decide +kernel⟩,
  ⟨.B, 0x8000, 0, [], 0, (node id (fun h => ((((h).setF (PWR_DST 7) PWR_DST_ON (1)).setF (RING_CFG) RING_CFG_RING_EN (1)).setF (RING_CFG) RING_CFG_RADDR (3)).setF (RING_STAT) RING_STAT_BYPASS (0))), by decide +kernel⟩⟩

theorem witness_ring_wrap_rows :
  (∃ (p : Port) (u : Nat) (s : State) (i : LaneId),
    (s.ringServes = true) ∧
    (s.sh.expects p = true) ∧
    (s.sh.on RING_STAT (lostFld p) = false) ∧
    (s.sh.ring.last p + 40000000 ≤ s.sh.gt + u) ∧
    ((s.lane i).takes = true)) ∧
  (∃ (p : Port) (dst : BitVec 6) (src nbr : BitVec 5) (lost : Port) (u : Nat) (s : State),
    (s.ringServes = true) ∧
    (dst.toNat < 32 ∨ dst.toNat = 63) ∧
    (nbr.toNat ≠ s.sh.raddr) ∧
    (s.sh.on RING_FAULT RING_FAULT_V1 = false) ∧
    (s.sh.on RING_FAULT RING_FAULT_V2 = false)) ∧
  (∃ (p : Port) (dst : BitVec 6) (src nbr : BitVec 5) (lost : Port) (u : Nat) (s : State),
    (s.ringServes = true) ∧
    (dst.toNat < 32 ∨ dst.toNat = 63) ∧
    (nbr.toNat = s.sh.raddr) ∧
    (src.toNat ≠ s.sh.raddr) ∧
    (s.sh.on RING_STAT (lostFld (if lost.num = 0 then .B else .A)) = false)) ∧
  (∃ (p : Port) (dst : BitVec 6) (src : BitVec 5) (u : Nat) (s : State),
    (s.ringServes = true) ∧
    (dst.toNat < 32 ∨ dst.toNat = 63) ∧
    (s.sh.on RING_STAT (lostFld p) = false)) ∧
  (∃ (p : Port) (dst : BitVec 6) (src : BitVec 5) (u : Nat) (s : State),
    (s.ringServes = true) ∧
    (dst.toNat < 32 ∨ dst.toNat = 63) ∧
    (s.sh.on RING_STAT (lostFld p) = true) ∧
    (s.sh.ring.closed p = false)) ∧
  (∃ (p : Port) (dst : BitVec 6) (src : BitVec 5) (u : Nat) (s : State),
    (s.ringServes = true) ∧
    (dst.toNat < 32 ∨ dst.toNat = 63) ∧
    (s.sh.on RING_STAT (lostFld p) = true) ∧
    (s.sh.ring.closed p = true) ∧
    (2 ≤ s.sh.ring.probes p)) ∧
  (∃ (p : Port) (dst : BitVec 6) (src nbr : BitVec 5) (lost : Port) (u : Nat) (s : State),
    (s.ringServes = true) ∧
    (dst.toNat < 32 ∨ dst.toNat = 63) ∧
    (nbr.toNat ≠ s.sh.raddr) ∧
    (let k := linkOf src.toNat nbr.toNat lost.num
    (s.sh.on RING_FAULT RING_FAULT_V1 = true) ∧
    (s.sh.fld RING_FAULT RING_FAULT_A1 = k.1) ∧
    (s.sh.fld RING_FAULT RING_FAULT_B1 = k.2))) ∧
  (∃ (p : Port) (dst : BitVec 6) (src nbr : BitVec 5) (lost : Port) (u : Nat) (s : State),
    (s.ringServes = true) ∧
    (dst.toNat < 32 ∨ dst.toNat = 63) ∧
    (nbr.toNat = s.sh.raddr) ∧
    (src.toNat ≠ s.sh.raddr) ∧
    (s.sh.on RING_STAT (lostFld (if lost.num = 0 then .B else .A)) = true) ∧
    (3 ≤ s.sh.ring.probes (if lost.num = 0 then .B else .A))) ∧
  (∃ (p : Port) (u : Nat) (s : State),
    (s.ringServes = true) ∧
    (s.sh.hold = false) ∧
    (s.sh.on RING_STAT (wrapFld p) = true) ∧
    (s.sh.ring.probeAt p + 100000000 ≤ s.sh.gt + u)) ∧
  (∃ (u d : Nat) (s : State),
    (s.sh.ring.disAt = some d) ∧
    (d + 40000000 ≤ s.sh.gt + u) ∧
    (s.sh.on RING_STAT RING_STAT_BYPASS = false)) :=
  ⟨⟨.B, 0, (node id (fun h => { ((((((h).setF (PWR_DST 7) PWR_DST_ON (1)).setF (RING_CFG) RING_CFG_RING_EN (1)).setF (RING_CFG) RING_CFG_RADDR (3)).setF (RING_STAT) RING_STAT_BYPASS (0)).setF (RING_STAT) RING_STAT_WRAP_A (1)) with ring := { lastB := 59960000000 } })), .A, by decide +kernel⟩,
  ⟨.A, 63, 31, 30, .B, 0, (node id (fun h => ((((h).setF (PWR_DST 7) PWR_DST_ON (1)).setF (RING_CFG) RING_CFG_RING_EN (1)).setF (RING_CFG) RING_CFG_RADDR (3)).setF (RING_STAT) RING_STAT_BYPASS (0))), by decide +kernel⟩,
  ⟨.A, 63, 31, 3, .B, 0, (node id (fun h => ((((h).setF (PWR_DST 7) PWR_DST_ON (1)).setF (RING_CFG) RING_CFG_RING_EN (1)).setF (RING_CFG) RING_CFG_RADDR (3)).setF (RING_STAT) RING_STAT_BYPASS (0))), by decide +kernel⟩,
  ⟨.B, 63, 31, 0, (node id (fun h => ((((h).setF (PWR_DST 7) PWR_DST_ON (1)).setF (RING_CFG) RING_CFG_RING_EN (1)).setF (RING_CFG) RING_CFG_RADDR (3)).setF (RING_STAT) RING_STAT_BYPASS (0))), by decide +kernel⟩,
  ⟨.B, 63, 31, 0, (node id (fun h => { ((((((h).setF (PWR_DST 7) PWR_DST_ON (1)).setF (RING_CFG) RING_CFG_RING_EN (1)).setF (RING_CFG) RING_CFG_RADDR (3)).setF (RING_STAT) RING_STAT_BYPASS (0)).setF (RING_STAT) RING_STAT_RGB_LOST (1)) with ring := { probesB := 2 } })), by decide +kernel⟩,
  ⟨.B, 63, 31, 0, (node id (fun h => { ((((((h).setF (PWR_DST 7) PWR_DST_ON (1)).setF (RING_CFG) RING_CFG_RING_EN (1)).setF (RING_CFG) RING_CFG_RADDR (3)).setF (RING_STAT) RING_STAT_BYPASS (0)).setF (RING_STAT) RING_STAT_RGB_LOST (1)) with ring := { probesB := 2, closedB := true } })), by decide +kernel⟩,
  ⟨.A, 63, 31, 30, .B, 0, (node id (fun h => (((((((h).setF (PWR_DST 7) PWR_DST_ON (1)).setF (RING_CFG) RING_CFG_RING_EN (1)).setF (RING_CFG) RING_CFG_RADDR (3)).setF (RING_STAT) RING_STAT_BYPASS (0)).setF (RING_FAULT) RING_FAULT_V1 (1)).setF (RING_FAULT) RING_FAULT_A1 (31)).setF (RING_FAULT) RING_FAULT_B1 (30))), by decide +kernel⟩,
  ⟨.A, 63, 31, 3, .B, 0, (node id (fun h => { ((((((h).setF (PWR_DST 7) PWR_DST_ON (1)).setF (RING_CFG) RING_CFG_RING_EN (1)).setF (RING_CFG) RING_CFG_RADDR (3)).setF (RING_STAT) RING_STAT_BYPASS (0)).setF (RING_STAT) RING_STAT_RGA_LOST (1)) with ring := { probesA := 3 } })), by decide +kernel⟩,
  ⟨.B, 0, (node id (fun h => { ((((((h).setF (PWR_DST 7) PWR_DST_ON (1)).setF (RING_CFG) RING_CFG_RING_EN (1)).setF (RING_CFG) RING_CFG_RADDR (3)).setF (RING_STAT) RING_STAT_BYPASS (0)).setF (RING_STAT) RING_STAT_WRAP_B (1)) with ring := { probeAtB := 59900000000 } })), by decide +kernel⟩,
  ⟨0, 59960000000, (node id (fun h => { (((((h).setF (PWR_DST 7) PWR_DST_ON (1)).setF (RING_CFG) RING_CFG_RING_EN (1)).setF (RING_CFG) RING_CFG_RADDR (3)).setF (RING_STAT) RING_STAT_BYPASS (0)) with ring := { disAt := some 59960000000 } })), by decide +kernel⟩⟩

theorem witness_token_loss_and_claims :
  (∃ (p : Port) (dst : BitVec 6) (src : BitVec 5) (u : Nat) (s : State),
    (s.ringServes = true) ∧
    (s.sh.on RING_STAT RING_STAT_CLAIMING = true) ∧
    (dst.toNat < 32 ∨ dst.toNat = 63)) ∧
  (∃ (u : Nat) (s : State) (i : LaneId),
    (s.ringServes = true) ∧
    (s.sh.hold = false) ∧
    (s.sh.ring.tokAt + 40000000 + 500000 * s.sh.raddr ≤ s.sh.gt + u) ∧
    ((s.lane i).takes = true)) ∧
  (∃ (u : Nat) (s : State),
    (s.sh.hold = true)) :=
  ⟨⟨.A, 63, 3, 0, (node id (fun h => (((((h).setF (PWR_DST 7) PWR_DST_ON (1)).setF (RING_CFG) RING_CFG_RING_EN (1)).setF (RING_CFG) RING_CFG_RADDR (3)).setF (RING_STAT) RING_STAT_BYPASS (0)).setF (RING_STAT) RING_STAT_CLAIMING (1))), by decide +kernel⟩,
  ⟨0, (node id (fun h => { (((((h).setF (PWR_DST 7) PWR_DST_ON (1)).setF (RING_CFG) RING_CFG_RING_EN (1)).setF (RING_CFG) RING_CFG_RADDR (3)).setF (RING_STAT) RING_STAT_BYPASS (0)) with ring := { tokAt := 59958500000 } })), .A, by decide +kernel⟩,
  ⟨0, (node id (fun h => { h with hold := true })), by decide +kernel⟩⟩

theorem witness_supply_rows :
  (∃ (vs v : BitVec 16) (u : Nat) (s : State) (i : LaneId),
    (vs.toNat < 1600) ∧
    (s.sh.on PWR_SUP PWR_SUP_VSYS_LOST = false) ∧
    ((∀ j, (s.lane j).fld PWR_LHOLD PWR_LHOLD_EFL ≤ holdEnergy ((s.lane j).fld PWR_LCFG PWR_LCFG_HOLD_C) v.toNat)) ∧
    ((s.lane i).takes = true)) ∧
  (∃ (vs v : BitVec 16) (u : Nat) (s : State) (i : LaneId),
    (vs.toNat < 1600) ∧
    (s.sh.on PWR_SUP PWR_SUP_VSYS_LOST = false) ∧
    (s.sh.pwr.tripped = false) ∧
    ((s.lane i).takes = true) ∧
    (s.sh.auth = some i) ∧
    (holdEnergy ((s.lane i).fld PWR_LCFG PWR_LCFG_HOLD_C) v.toNat < (s.lane i).fld PWR_LHOLD PWR_LHOLD_EFL)) ∧
  (∃ (vs v : BitVec 16) (u : Nat) (s : State) (i : LaneId),
    (1700 ≤ vs.toNat) ∧
    (s.sh.on PWR_SUP PWR_SUP_VSYS_LOST = true) ∧
    (s.sh.pwr.flushed = false) ∧
    ((s.lane i).takes = true)) ∧
  (∃ (f : Fin 4) (v : Bool) (x : BitVec 16) (s : State) (i : LaneId),
    (s.sh.on PWR_SUP (warnFld f) ≠ v) ∧
    ((f.val = 0 → if v then x.toNat < 1800 else 1850 ≤ x.toNat)) ∧
    ((f.val = 2 → if v then x.toNat < 2000 else 2050 ≤ x.toNat)) ∧
    ((f.val = 1 ∨ f.val = 3 → if v then 3250 < x.toNat else x.toNat ≤ 3200)) ∧
    ((s.lane i).takes = true)) ∧
  (∃ (x : BitVec 16) (s : State) (i : LaneId),
    (s.sh.on PWR_SUP PWR_SUP_HOLD_OK = false) ∧
    (1400 ≤ x.toNat) ∧
    ((s.lane i).takes = true)) ∧
  (∃ (x : BitVec 16) (s : State) (i : LaneId),
    (s.sh.on PWR_SUP PWR_SUP_HOLD_OK = true) ∧
    (x.toNat < 1350) ∧
    ((s.lane i).takes = true)) ∧
  (∃ (v : Bool) (s : State) (i : LaneId),
    (s.sh.on PWR_SUP PWR_SUP_ON_HOLD ≠ v) ∧
    ((s.lane i).takes = true)) ∧
  (∃ (v : Bool) (s : State) (i : LaneId),
    (s.sh.on PWR_SUP PWR_SUP_EMG ≠ v) ∧
    ((s.lane i).takes = true)) ∧
  (∃ (c : BitVec 16) (s : State) (i : LaneId),
    ((s.lane i).takes = true)) ∧
  (∃ (v : BitVec 16) (u : Nat) (s : State),
    (v.toNat ≤ s.sh.fld PWR_LTRIP PWR_LTRIP_VTRIP) ∧
    (s.sh.pwr.tripped = false) ∧
    (s.sh.on PWR_SUP PWR_SUP_VSYS_LOST = true)) ∧
  (∃ (s : State),
    (s.sh.pwr.flushed = true) ∧
    (s.sh.on PWR_SUP PWR_SUP_VSYS_LOST = false) ∧
    (s.a.drained = true) ∧
    (s.b.drained = true) ∧
    (s.a.allCounted = true) ∧
    (s.b.allCounted = true)) ∧
  (∃ (s : State),
    (s.sh.on PWR_SUP PWR_SUP_VSYS_LOST = true)) ∧
  (∃ (s : State) (i : LaneId),
    ((s.lane i).working = true) ∧
    ((s.lane i).led.due = true) ∧
    ((s.lane i).hwOn PWR_SUP PWR_SUP_VSYS_LOST = false) ∧
    ((s.lane i).hwOn PWR_SUP PWR_SUP_EMG = false) ∧
    ((s.lane i).fld PWR_LTCFG PWR_LTCFG_PLIM = 0)) ∧
  (∃ (s : State) (i : LaneId),
    ((s.lane i).working = true) ∧
    ((s.lane i).led.due = true) ∧
    ((s.lane i).hwOn PWR_SUP PWR_SUP_VSYS_LOST = false) ∧
    ((s.lane i).hwOn PWR_SUP PWR_SUP_EMG = true) ∧
    ((s.lane i).fld PWR_LEBUD PWR_LEBUD_EBUD = 0) ∧
    ((s.lane i).fld PWR_LTCFG PWR_LTCFG_PLIM = 0)) :=
  ⟨⟨1599, 900, 0, (node id id), .A, (by decide +kernel), (by decide +kernel), (by intro j; cases j <;> decide +kernel), (by decide +kernel)⟩,
  ⟨1599, 0, 0, (node (fun l => (l).setF (PWR_LHOLD) PWR_LHOLD_EFL (100)) id), .A, by decide +kernel⟩,
  ⟨1700, 2000, 0, (node id (fun h => (h).setF (PWR_SUP) PWR_SUP_VSYS_LOST (1))), .A, by decide +kernel⟩,
  ⟨3, true, 3251, (node id id), .A, by decide +kernel⟩,
  ⟨1400, (node id id), .A, by decide +kernel⟩,
  ⟨1349, (node id (fun h => (h).setF (PWR_SUP) PWR_SUP_HOLD_OK (1))), .A, by decide +kernel⟩,
  ⟨true, (node id id), .A, by decide +kernel⟩,
  ⟨true, (node id id), .A, by decide +kernel⟩,
  ⟨5000, (node id id), .A, by decide +kernel⟩,
  ⟨700, 0, (node id (fun h => ((h).setF (PWR_SUP) PWR_SUP_VSYS_LOST (1)).setF (PWR_LTRIP) PWR_LTRIP_VTRIP (700))), by decide +kernel⟩,
  ⟨(node id (fun h => { h with pwr := { flushed := true } })), by decide +kernel⟩,
  ⟨(node id (fun h => (h).setF (PWR_SUP) PWR_SUP_VSYS_LOST (1))), by decide +kernel⟩,
  ⟨(node (fun l => { ((l).setF (PWR_LST) PWR_LST_ELVL (3)) with led := { due := true } }) id), .A, by decide +kernel⟩,
  ⟨(node (fun l => { ({ l with led := { due := true } }) with hw := RegFile.setF .nil PWR_SUP PWR_SUP_EMG 1 }) id), .A, by decide +kernel⟩⟩

theorem witness_domain_rows :
  (∃ (d : Fin 14) (s : State),
    (s.sh.startDomains.contains d.val = true) ∧
    (s.sh.tried d = false) ∧
    ((s.sh.startDomains.takeWhile (· != d.val)).all s.sh.tried = true)) ∧
  (∃ (d : Fin 14) (cause : BitVec 2) (u : Nat) (s : State),
    (3 ≤ d.val) ∧
    (s.sh.on (PWR_DST d) PWR_DST_ON = true) ∧
    (cause ≠ 0#2)) ∧
  (∃ (d : Fin 14) (cause : BitVec 2) (u : Nat) (s : State),
    (d.val < 3) ∧
    (s.sh.on (PWR_DST d) PWR_DST_ON = true) ∧
    (cause ≠ 0#2)) ∧
  (∃ (d : Fin 14) (good : Bool) (u : Nat) (s : State),
    (s.sh.pwr.tripped = true)) ∧
  (∃ (d : Fin 14) (u : Nat) (s : State),
    (retried d = true) ∧
    (s.sh.pwr.tripped = false) ∧
    (s.sh.on (PWR_DST d) PWR_DST_FAULT = true) ∧
    (s.sh.pwr.faultAt.at 0 d.val + 100000000 ≤ s.sh.gt + u)) :=
  ⟨⟨13, (node id (fun h => (((((({ h with start := { phase := .fired } }).setF (PWR_DST 7) PWR_DST_ON (1)).setF (PWR_DST 8) PWR_DST_ON (1)).setF (PWR_DST 9) PWR_DST_ON (1)).setF (PWR_DST 10) PWR_DST_ON (1)).setF (PWR_DST 11) PWR_DST_ON (1)).setF (PWR_DST 12) PWR_DST_ON (1))), by decide +kernel⟩,
  ⟨3, 3, 0, (node id (fun h => { (((h).setF (PWR_DST 3) PWR_DST_ON (1)).setF (PWR_DST 3) PWR_DST_WCNT (2)) with pwr := { win := 1, faults := (Trie.nil).upd 0 3 2 } })), by decide +kernel⟩,
  ⟨2, 1, 0, (node id (fun h => (h).setF (PWR_DST 2) PWR_DST_ON (1))), by decide +kernel⟩,
  ⟨13, true, 0, (node id (fun h => { h with pwr := { tripped := true } })), by decide +kernel⟩,
  ⟨12, 0, (node id (fun h => { ((h).setF (PWR_DST 12) PWR_DST_FAULT (1)) with pwr := { faultAt := (Trie.nil).upd 0 12 59900000000 } })), by decide +kernel⟩⟩

theorem witness_test_port_rows :
  (∃ (tms tdi : Bool) (cells : BitVec 40) (s : State),
    (s.sh.tap.tck = false)) ∧
  (∃ (tms tdi : Bool) (cells : BitVec 40) (s : State),
    (s.sh.tap.tck = true)) ∧
  (∃ (rise tms tdi : Bool) (cells : BitVec 40) (s : State),
    (s.sh.tap.tck = rise)) ∧
  (∃ (grade : Nat) (rstn : Bool) (x : Tap) (pulses : List (Bool × BitVec 40)),
    (5 ≤ pulses.length)) :=
  ⟨⟨true, true, 0, State.reset, by decide +kernel⟩,
  ⟨true, true, 0, { State.reset with sh := { tap := { tck := true } } }, by decide +kernel⟩,
  ⟨false, true, true, 0, State.reset, by decide +kernel⟩,
  ⟨1, true, {}, List.replicate 5 (true, 0), by decide +kernel⟩⟩


end Sys2Proof.Machine
end

section
/-! Every command goes on, and no command touches the queue of waiting commands or the grade of the module (R1, log 15). -/

namespace Sys2Proof.Machine

/-- The answer is a next state with the queue and the grade of `s`. -/
def State.keptBy (s : State) (r : Res) : Prop := ∃ t, r = .next t ∧ t.pending = s.pending ∧ t.sh.grade = s.sh.grade

section
variable {s t : State} {P : Prop}

theorem keptBy_next (hpending : t.pending = s.pending := by simp) (hgrade : t.sh.grade = s.sh.grade := by simp) :
    s.keptBy (.next t) :=
  ⟨t, rfl, hpending, hgrade⟩

/-- The form in which the laws of the operations (Laws/Keep) are stated. -/
theorem keptBy_of_keep (h : t.pending = s.pending ∧ t.sh.grade = s.sh.grade ∧ P) : s.keptBy (.next t) :=
  keptBy_next h.1 h.2.1

theorem keptBy_ite {c : Prop} [Decidable c] {u : State} (ht : s.keptBy (.next t)) (hu : s.keptBy (.next u)) :
    s.keptBy (.next (if c then t else u)) := by
  split
  · exact ht
  · exact hu

end

theorem exec_keptBy (c : Instr) (s : State) : s.keptBy (exec c s) := by
  cases c
  -- Rows of lanes alone.
  case singlePathDisagreement | restoreCheckComplete | loopPeriodStart | tpCycleStart | tpOnTimeEnd | alarmScan |
      stationAbsent | devChange | aoModeTakeover | hartTransactionStart | hartResponseTimeout | hartPollDue | ntcFaultChange |
      pageTimer | aloneChange | loneErrorWindow | timeMasterTakeover | syncLossNoSource | remoteSlotTimeout |
      partialFiringWedged | memOwnWrite | bitSetWrite | bitClearWrite | evtCnpWrite =>
    exact keptBy_of_keep (State.both_keep ..)
  case aoutLinkLost | dioLinkLost | dioLinkUp | commitStart | recRdw7Read | readWindowLoaded | lockTimeout | timeNowloRead |
      partialWedgingDone | febenLinkUp | adjudicationVerdict =>
    exact keptBy_of_keep (State.upd_keep ..)
  case shardWindowEnd | freezeTimeLimit | powerLossFlush | eraseComplete | pageReadLoaded | planningEpoch =>
    exact keptBy_of_keep (State.working_keep ..)
  case hartResponseReceived | canNormalEntry => exact keptBy_of_keep (State.taking_keep ..)
  -- Rows of the shared stages alone.
  case rangeChangeStep | complClear | twarnChange | panelFrameStart | startRecordWriteDone | synthLock |
      oscillatorCheckFailure =>
    exact keptBy_next
  case tckEdge | testLogicReset => exact ⟨_, rfl, rfl, rfl⟩
  -- Rows of one operation that several commands share.
  case tileWordFrame | tileIdleFrame => exact keptBy_of_keep (State.tileFrame_keep ..)
  case setExc | setBurnout | shuntRetry | restorePaths => exact keptBy_of_keep (State.ainRow_keep ..)
  case setMode | setSp | setOut | selSet => exact keptBy_of_keep (State.ctrlRow_keep ..)
  case onDelayExpiry | offDelayExpiry | reSound | rateWindowEnd | shelvingExpiry | inhibitRelease | ruleHoldExpiry |
      chatterWindow | floodWindow | stageTime | acceptanceTime | safetyPrewarn | safetyExpired =>
    exact keptBy_of_keep (State.scanRow_keep ..)
  case ack | silence | ackGroup | silenceAll | transfer | retake | shelve | unshelve | foReset | acceptCall | duty | dmStart |
      dmReset | dmStop =>
    exact keptBy_of_keep (State.almRow_keep ..)
  case setMa | forceFail | clearTherm | hartSend => exact keptBy_of_keep (State.aoRow_keep ..)
  case unlocChange | slatch => exact keptBy_of_keep (State.dioTo_keep ..)
  case currentLimitEnd | outputThermalShutdown | outputThermalRestart => exact keptBy_of_keep (State.doProt_keep ..)
  case vwarnChange | uvSet | uvClear => exact keptBy_of_keep (State.bankRow_keep ..)
  case setDo | clearLatch | bankAck => exact keptBy_of_keep (State.dioRow_keep ..)
  case freeze | unfreeze | clrLoss => exact keptBy_of_keep (State.recRow_keep ..)
  case setDark | setDim | setSrc | presentCmd | pageCmd | clrFault => exact keptBy_of_keep (State.pnlRow_keep ..)
  case txReq | txCancel | detect | restrict | clrColl => exact keptBy_of_keep (State.canRow_keep ..)
  case swapLanes | retireLane | rejoin | clrUnres => exact keptBy_of_keep (State.sysRow_keep ..)
  case xopen | xprog | xread | xclose | xabort | pfire | setPref | refire | burnKey | burnAuthreq =>
    exact keptBy_of_keep (State.cfgRow_keep ..)
  case restart | leaveBisque | clrFails => exact keptBy_of_keep (State.modCmd_keep ..)
  case memoryUncorrectable | transferParityError => exact keptBy_of_keep (State.memFault_keep ..)
  case digestPacket | verdictCopyPacket | writePacket | wordPacket | confirmPacket | mirrorPacket | statePacket =>
    exact keptBy_of_keep (State.packet_keep _ _ _ _ (by simp) _)
  case hostReadFrame | hostWriteFrame => exact keptBy_of_keep (State.hpFrame_keep ..)
  case frameReport | registerRequest | imageTransferFrame => exact keptBy_of_keep (State.frameReport_keep ..)
  case referenceMessage | valueFrame => exact keptBy_of_keep (State.canIn_keep ..)
  case ringClaim | ringOpen | ringProbe | ringClosed | ringCall | stnStat | cmdResp | ringFrameCorrupt =>
    exact keptBy_of_keep (State.ringIn_keep _ _ _ _ (fun s => by simp) _)
  case stnCmd => exact keptBy_of_keep (State.ringIn_keep _ _ _ _ (fun s => by split <;> simp) _)
  -- Rows with an operation of their own.
  case wordInstant | excSatChange | openCircuitChange | tileLinkUp | tileLinkLost | cjcWord | cjcFaultChange | shuntTrip |
      injectionSlot | injectionResult | tokenLoss | portLost | probeTimer | qualifiedEdge | epochMarkLoss | commitReadback |
      mirroringComplete | railGood | railFault | railsDischarged | vcolDevChange | rxBufferLock | rxBufferRelease |
      partialFiringApply | pageProgrammed | targetCheckComplete | powerOnReset | resetRelease | strapSample | firingComplete |
      firingResultCompare | referenceWaitEnd | startDeadline | phaseStable | failsCleared | stateTransferTimeout |
      bisqueBeacon | restartDrainDone | tileSupplyGood | domainSwitchOn | domainRetry | holdOkChange | emgChange |
      capacitanceMeasured | referenceLoss | scrubRead | idlePacket | febenLinkLost | adjudicationOutcome | epochBoundary |
      agingLedgerCopy | agingCopyWritten | mismChange | resetNAsserted =>
    exact keptBy_next
  -- Rows that act only where they are due (log 3).
  case staleWindowEnd | shuntReclose | callRefresh | cntClr | complSet | thermalSwitchOff | thermalRecovery | readbackCheck |
      outputCurrentLimit | recRdidxWrite | ntcWord | crazingMeasurement | busOffRecovery | rateDetectStep | txStart |
      referenceSend | domainFault | vsysLostSet | vsysLostClear | supplyWarningChange | onHoldChange | vholdExhausted |
      powerLossTrip | flushComplete | clkrefGood | memWselWrite | evtPendClear | injDig | registerWrite | cfgWrw3Read =>
    exact keptBy_ite keptBy_next keptBy_next
  case ringToken | thresholdCrossing => exact keptBy_ite keptBy_next (keptBy_ite keptBy_next keptBy_next)
  -- Rows that take their case from an operand, or from what waits in the ring.
  case handshakeStall =>
    dsimp only [exec, execHandshakeStall]
    split <;> exact keptBy_next
  case frameReturnTimeout | ringDisTimeout =>
    dsimp only [exec, execFrameReturnTimeout, execRingDisTimeout]
    split
    · exact keptBy_ite keptBy_next keptBy_next
    · exact keptBy_next

/-- Settles O2: one case per command, each by the law of the operation that it is. -/
theorem everyCommandGoesOn : Obligations.EveryCommandGoesOn :=
  exec_keptBy

end Sys2Proof.Machine
end

section
/-! Global time at an epoch boundary (R7, R28, R414): the step of the discipline that the leading lane holds survives what the field
digital I/O stage does at the end of the epoch, and decides where the boundary comes to lie. -/

namespace Sys2Proof.Machine

/-! ### The field digital I/O stage leaves the output authority alone -/

@[simp] theorem foldl_auth {α : Type} (f : Shared → α → Shared) (hf : ∀ h x, (f h x).auth = h.auth) (xs : List α) (h : Shared) :
    (xs.foldl f h).auth = h.auth := by
  induction xs generalizing h with
  | nil => rfl
  | cons x xs ih => simp [ih, hf]

@[simp] theorem ite_auth (c : Prop) [Decidable c] (a b : Shared) : (if c then a else b).auth = if c then a.auth else b.auth := by
  split <;> rfl

@[simp] theorem Shared.setDou_auth (h : Shared) (n : Nat) (w : DoHw) : (h.setDou n w).auth = h.auth := rfl
@[simp] theorem Shared.setBank_auth (h : Shared) (k : Nat) (w : BankHw) : (h.setBank k w).auth = h.auth := rfl
@[simp] theorem Shared.setLevel_auth (n : Nat) (v : Int) (h : Shared) : (h.setLevel n v).auth = h.auth := rfl
@[simp] theorem Shared.setVf_auth (k v : Nat) (h : Shared) : (h.setVf k v).auth = h.auth := rfl

@[simp] theorem Shared.bankSample_auth (l : Lane) (h : Shared) (k : Nat) : (Shared.bankSample l h k).auth = h.auth := by
  simp [Shared.bankSample]

@[simp] theorem Shared.doApply_auth (l : Lane) (h : Shared) (n : Nat) : (h.doApply l n).auth = h.auth := by
  simp [Shared.doApply]

@[simp] theorem Shared.doAll_auth (l : Lane) (h : Shared) : (h.doAll l).auth = h.auth := by
  simp [Shared.doAll]

@[simp] theorem Shared.compared_auth (bad : Bool) (n : Nat) (h : Shared) : (h.compared bad n).auth = h.auth := by
  simp [Shared.compared]

@[simp] theorem Shared.lowSample_auth (l : Lane) (low : Bool) (n : Nat) (h : Shared) : (h.lowSample l low n).auth = h.auth := by
  simp [Shared.lowSample]

@[simp] theorem Shared.doSample_auth (l : Lane) (h : Shared) (n : Nat) : (h.doSample l n).auth = h.auth := by
  simp [Shared.doSample]

@[simp] theorem Shared.fltSample_auth (h : Shared) (k : Nat) : (h.fltSample k).auth = h.auth := by
  simp [Shared.fltSample, Shared.fltNow]

@[simp] theorem Shared.dioSample_auth (l : Lane) (h : Shared) : (h.dioSample l).auth = h.auth := by
  simp [Shared.dioSample]

/-! ### What decides the leading lane and its step of global time -/

/-- What decides whether a lane leads, and its time discipline, are the same in two states of the lane. -/
structure Lane.sameDiscipline (l m : Lane) : Prop where
  st : m.st = l.st
  instep : m.instep = l.instep
  time : m.time = l.time

/-- What decides which lane leads, and the time discipline of both lanes, are the same in two states. -/
structure State.sameDiscipline (s t : State) : Prop where
  auth : t.sh.auth = s.sh.auth
  lane : ∀ i, (s.lane i).sameDiscipline (t.lane i)

theorem Lane.sameDiscipline.refl (l : Lane) : l.sameDiscipline l := ⟨rfl, rfl, rfl⟩

theorem State.sameDiscipline.refl (s : State) : s.sameDiscipline s := ⟨rfl, fun _ => .refl _⟩

theorem Lane.sameDiscipline.trans {l m n : Lane} (h₁ : l.sameDiscipline m) (h₂ : m.sameDiscipline n) : l.sameDiscipline n :=
  ⟨h₂.st.trans h₁.st, h₂.instep.trans h₁.instep, h₂.time.trans h₁.time⟩

theorem State.sameDiscipline.trans {s t u : State} (h₁ : s.sameDiscipline t) (h₂ : t.sameDiscipline u) : s.sameDiscipline u :=
  ⟨h₂.auth.trans h₁.auth, fun i => (h₁.lane i).trans (h₂.lane i)⟩

theorem State.sameDiscipline_withSh {s : State} {h : Shared} (ha : h.auth = s.sh.auth) : s.sameDiscipline (s.withSh h) :=
  ⟨ha, fun i => by rw [State.withSh_lane]; exact .refl _⟩

theorem State.sameDiscipline_foldl {α : Type} (f : State → α → State) (hf : ∀ s x, State.sameDiscipline s (f s x)) (xs : List α)
    (s : State) : s.sameDiscipline (xs.foldl f s) := by
  induction xs generalizing s with
  | nil => exact .refl s
  | cons x xs ih => exact (hf s x).trans (ih (f s x))

theorem Lane.sameDiscipline.computes {l m : Lane} (h : l.sameDiscipline m) : m.computes = l.computes := by
  rw [Lane.computes, Lane.computes, h.st, h.instep]

/-- The leading lane of the two states is under the same time discipline. -/
theorem State.sameDiscipline.lead_time {s t : State} (h : s.sameDiscipline t) : t.lead.time = s.lead.time := by
  unfold State.lead
  rw [h.auth]
  cases s.sh.auth with
  | none =>
    have ha : t.a.computes = s.a.computes := (h.lane .A).computes
    have hb : t.b.computes = s.b.computes := (h.lane .B).computes
    simp only [ha, hb]
    split
    · exact (h.lane .B).time
    · exact (h.lane .A).time
  | some i =>
    simp only [(h.lane i).st, (h.lane i.other).computes]
    split
    · exact (h.lane i.other).time
    · exact (h.lane i).time

/-! ### The end of the epoch in the field digital I/O stage -/

theorem Lane.diSend_sameDiscipline (e : Option DiEdge) (l : Lane) : l.sameDiscipline (l.diSend e) := by
  unfold Lane.diSend
  split
  · split <;> exact ⟨rfl, rfl, rfl⟩
  · exact .refl l

theorem Lane.dioTold_sameDiscipline (ws : List Word) (l : Lane) : l.sameDiscipline (l.dioTold ws) := by
  unfold Lane.dioTold
  split <;> exact ⟨rfl, rfl, rfl⟩

theorem State.diTo_sameDiscipline (t : Nat) (s : State) (n : Nat) : s.sameDiscipline (s.diTo t n) := by
  unfold State.diTo
  split
  · exact .refl s
  · refine ⟨rfl, fun i => ?_⟩
    cases i <;> exact Lane.diSend_sameDiscipline _ _

theorem State.dioChange_sameDiscipline (f : Shared → Shared) (hf : ∀ h, (f h).auth = h.auth) (s : State) :
    s.sameDiscipline (s.dioChange f) := by
  refine ⟨hf s.sh, fun i => ?_⟩
  rw [State.dioChange, State.onLanes_lane, State.withSh_lane]
  split
  · exact Lane.dioTold_sameDiscipline _ _
  · exact .refl _

theorem State.dioSamples_sameDiscipline (n : Nat) (s : State) : s.sameDiscipline (s.dioSamples n) := by
  induction n generalizing s with
  | zero => exact .refl s
  | succ n ih => exact (State.dioChange_sameDiscipline _ (Shared.dioSample_auth s.lead) s).trans (ih _)

theorem State.dioTo_sameDiscipline (w : Nat) (s : State) : s.sameDiscipline (s.dioTo w) := by
  have h : s.sameDiscipline (s.withSh { s.sh with dioAt := max (sampleNo w) s.sh.dioAt }) := State.sameDiscipline_withSh rfl
  unfold State.dioTo
  dsimp only
  split
  · exact h.trans (State.dioSamples_sameDiscipline _ _)
  · exact h

theorem State.dioClose_sameDiscipline (g : Nat) (s : State) : s.sameDiscipline (s.dioClose g) := by
  have hall : s.sameDiscipline (s.dioAll g) :=
    (State.sameDiscipline_foldl _ (State.diTo_sameDiscipline g) (upTo 32) s).trans (State.dioTo_sameDiscipline g _)
  exact hall.trans (State.sameDiscipline_withSh (foldl_auth _ (fun h k => by simp) _ _))

theorem State.dioObserve_sameDiscipline (o : Obs) (s : State) : s.sameDiscipline (s.dioObserve o) :=
  have hsupply : (o.vf.foldl (fun h x => h.setVf x.1 x.2.toNat) s.sh).auth = s.sh.auth := by
    rw [foldl_auth]
    exact fun h x => Shared.setVf_auth ..
  have hlevel (h : Shared) : (o.dov.foldl (fun h x => h.setLevel x.1 x.2.toInt) h).auth = h.auth := by
    rw [foldl_auth]
    exact fun h x => Shared.setLevel_auth ..
  (State.sameDiscipline_withSh ((hlevel _).trans hsupply)).trans (State.dioClose_sameDiscipline _ _)

/-! ### Global time at the boundary -/

theorem Lane.ticked_sameDiscipline (l : Lane) : l.sameDiscipline l.ticked := by
  unfold Lane.ticked Lane.clockTo
  exact ⟨rfl, rfl, rfl⟩

theorem State.ticked_sameDiscipline (s : State) : s.sameDiscipline { s with a := s.a.ticked, b := s.b.ticked } :=
  ⟨rfl, fun i => match i with
    | .A => Lane.ticked_sameDiscipline s.a
    | .B => Lane.ticked_sameDiscipline s.b⟩

theorem State.advance_none_gt (s : State) : (State.advance none s).sh.gt = nextBoundary s.sh.gt := by
  rw [State.advance, State.withSh_sh]

theorem State.stepTo_gt (d : Int) (t g : Nat) (s : State) : (s.stepTo d t g).sh.gt = g := by
  unfold State.stepTo
  simp

theorem State.stepped_gt (d : Int) (s : State) :
    (s.stepped d).sh.gt = epochStart ((nextBoundary s.sh.gt : Int) + d).toNat := by
  unfold State.stepped
  exact State.stepTo_gt ..

theorem State.advance_some_gt (d : Int) (s : State) :
    (State.advance (some d) s).sh.gt = epochStart ((nextBoundary s.sh.gt : Int) + d).toNat := by
  rw [State.advance, State.stepped_gt]

/-- Global time ticks by the step that the leading lane holds (R414). -/
theorem State.tick_gt (s : State) : s.tick.sh.gt = (State.advance s.lead.time.step s).sh.gt := by
  unfold State.tick
  dsimp only
  rw [s.ticked_sameDiscipline.lead_time]
  cases s.lead.time.step with
  | none => rw [State.advance_none_gt, State.advance_none_gt]
  | some d => rw [State.advance_some_gt, State.advance_some_gt]

/-- Outside reset global time at a boundary is that of `State.tick`: nothing after it moves time. -/
theorem State.boundary_gt (o : Obs) (s : State) (hphase : s.sh.start.phase ≠ .reset) :
    (s.boundary o).sh.gt = (((s.outcome.closeEpoch o).linkDrain).dioObserve o).tick.sh.gt := by
  unfold State.boundary
  simp only [beq_iff_eq, hphase, if_false]
  split <;> simp

/-- In reset a boundary moves global time and lets VNEG follow VCOL, and nothing else. -/
theorem State.boundary_of_reset (o : Obs) (s : State) (hphase : s.sh.start.phase = .reset) :
    s.boundary o = { s with sh := { s.sh with gt := nextBoundary s.sh.gt }.railsOn (nextBoundary s.sh.gt) } := by
  simp [State.boundary, hphase, State.withSh]

/-- Until global time moves, the work at the end of an epoch leaves it as it was. -/
theorem State.epochEnd_gt (o : Obs) (s : State) : (((s.outcome.closeEpoch o).linkDrain).dioObserve o).sh.gt = s.sh.gt := by
  simp

/-- Settles O7: the step that the leading lane holds as the epoch ends decides how far `State.tick` moves global time, and nothing else
of the boundary moves it. -/
theorem epochBoundaries : Obligations.EpochBoundaries := by
  refine ⟨fun o s hphase => ?_, fun o s hphase hstep => ?_, fun o d s hphase hstep => ?_⟩
  · exact congrArg Host.Outcome.next (s.boundary_of_reset o hphase)
  · rw [← (State.dioObserve_sameDiscipline o _).lead_time] at hstep
    obtain ⟨hpending, hgrade, htap⟩ := s.boundary_keep o
    refine ⟨s.boundary o, rfl, ?_, hgrade, htap, hpending⟩
    rw [s.boundary_gt o hphase, State.tick_gt, hstep, State.advance_none_gt, s.epochEnd_gt o, nextBoundary]
  · rw [← (State.dioObserve_sameDiscipline o _).lead_time] at hstep
    refine ⟨s.boundary o, rfl, ?_⟩
    rw [s.boundary_gt o hphase, State.tick_gt, hstep, State.advance_some_gt, s.epochEnd_gt o, epochStart]

end Sys2Proof.Machine
end

section
/-! The panel commands at their effect boundary (R470): what the row does to a lane that computes, command by command. -/

namespace Sys2Proof.Machine

/-! ### Frames over the registers of a lane -/

theorem Lane.regsBut_of_regs_eq (ks : List Nat) {l m : Lane} (h : m.regs = l.regs) : l.regsBut ks m := fun k _ _ => by
  rw [Lane.rd, h, ← Lane.rd]

/-- What leaves the registers alone keeps a frame. -/
theorem Lane.regsBut.of_regs_eq {ks : List Nat} {l m n : Lane} (hm : l.regsBut ks m) (h : n.regs = m.regs) : l.regsBut ks n :=
  fun k hk hks => (Lane.regsBut_of_regs_eq ks h k hk hks).trans (hm k hk hks)

/-- A field written in one of the registers that the frame lets change. -/
theorem Lane.regsBut.setF {ks : List Nat} {l m : Lane} {k : Nat} (hm : l.regsBut ks m) (hk : k < 2 ^ 20) (hks : k ∈ ks)
    (f : Fld) (v : Nat) : l.regsBut ks (m.setF k f v) := fun j hj hjs => by
  have hne : j ≠ k := fun h => hjs (h ▸ hks)
  rw [Lane.rd_setF_ne _ _ _ _ _ (by rwa [Nat.mod_eq_of_lt hj, Nat.mod_eq_of_lt hk])]
  exact hm j hj hjs

theorem Lane.fld_of_regs_eq {l m : Lane} (h : m.regs = l.regs) (k : Nat) (f : Fld) : m.fld k f = l.fld k f := by
  rw [Lane.fld, h, ← Lane.fld]

theorem Lane.on_of_regs_eq {l m : Lane} (h : m.regs = l.regs) (k : Nat) (f : Fld) : m.on k f = l.on k f := by
  rw [Lane.on, Lane.fld_of_regs_eq h, ← Lane.on]

@[simp] theorem Lane.setPnl_regs (l : Lane) (f : PnlWork → PnlWork) : (l.setPnl f).regs = l.regs := rfl

@[simp] theorem Lane.pnlRec_regs (l : Lane) (code g : Nat) (p0 p1 p2 : Word) : (l.pnlRec code g p0 p1 p2).regs = l.regs := by
  rw [Lane.pnlRec, Lane.ev_regs, Lane.record_regs]

@[simp] theorem Lane.pnlTo_regs (g st cause : Nat) (l : Lane) : (l.pnlTo g st cause).regs = (l.setF PNL_ST PNL_ST_PSTATE st).regs := by
  simp only [Lane.pnlTo, Lane.pnlRec_regs, Lane.setPnl_regs]

/-! ### The answer in PNL_CMDST -/

/-- The lane with the command and its status in PNL_CMDST. -/
def Lane.pnlAnswered (op st : Nat) (l : Lane) : Lane := (l.pnlNote op).setF PNL_CMDST PNL_CMDST_STATUS st

theorem Lane.pnlAnswered_regsBut (op st : Nat) (l : Lane) {ks : List Nat} (hks : PNL_CMDST ∈ ks) : l.regsBut ks (l.pnlAnswered op st) :=
  ((Lane.regsBut_of_regs_eq ks rfl).setF (by decide) hks _ _).setF (by decide) hks _ _

theorem Lane.pnlAnswered_fld_ne (op st : Nat) (l : Lane) (k : Nat) (f : Fld) (hk : k % 2 ^ 20 ≠ PNL_CMDST % 2 ^ 20) :
    (l.pnlAnswered op st).fld k f = l.fld k f := by
  rw [Lane.pnlAnswered, Lane.fld_setF_ne _ _ _ _ _ _ hk, Lane.pnlNote, Lane.fld_setF_ne _ _ _ _ _ _ hk]

@[simp] theorem Lane.pnlAnswered_fld_ST (op st : Nat) (l : Lane) (f : Fld) : (l.pnlAnswered op st).fld PNL_ST f = l.fld PNL_ST f :=
  l.pnlAnswered_fld_ne op st _ f (by decide)

@[simp] theorem Lane.pnlAnswered_on_ST (op st : Nat) (l : Lane) (f : Fld) : (l.pnlAnswered op st).on PNL_ST f = l.on PNL_ST f := by
  rw [Lane.on, Lane.pnlAnswered_fld_ST, ← Lane.on]

@[simp] theorem Lane.pnlAnswered_fld_DIMSRC (op st : Nat) (l : Lane) (f : Fld) :
    (l.pnlAnswered op st).fld PNL_DIMSRC f = l.fld PNL_DIMSRC f :=
  l.pnlAnswered_fld_ne op st _ f (by decide)

theorem Lane.pnlAnswered_status (op st : Nat) (l : Lane) (hst : st < 4) : (l.pnlAnswered op st).fld PNL_CMDST PNL_CMDST_STATUS = st := by
  rw [Lane.pnlAnswered, Lane.fld_setF_same _ _ _ _ (by decide)]
  exact Nat.mod_eq_of_lt hst

theorem Lane.pnlAnswered_lastOp (op st : Nat) (l : Lane) (hop : op < 256) : (l.pnlAnswered op st).fld PNL_CMDST PNL_CMDST_LAST_OP = op := by
  rw [Lane.pnlAnswered, Lane.fld_setF_field _ _ _ _ _ (by decide), Lane.pnlNote, Lane.fld_setF_same _ _ _ _ (by decide)]
  exact Nat.mod_eq_of_lt hop

/-! ### The outcome of a command (R470) -/

theorem Lane.pnlStatus_lt (l : Lane) (op arg : Nat) : l.pnlStatus op arg < 4 := by
  have bad (lim : Nat) (refuse : Bool) : (if lim < arg then stInvalid else if refuse then stRefused else stDone) < 4 := by
    unfold stInvalid stRefused stDone
    split
    · decide
    · split <;> decide
  unfold Lane.pnlStatus
  split
  case h_7 => decide
  all_goals exact bad _ _

/-- The outcome does not hang on what PNL_CMDST holds. -/
@[simp] theorem Lane.pnlStatus_pnlNote (l : Lane) (n op arg : Nat) : (l.pnlNote n).pnlStatus op arg = l.pnlStatus op arg := by
  have hfld (k : Nat) (f : Fld) (hk : k % 2 ^ 20 ≠ PNL_CMDST % 2 ^ 20) : (l.pnlNote n).fld k f = l.fld k f :=
    Lane.fld_setF_ne _ _ _ _ _ _ hk
  simp only [Lane.pnlStatus, Lane.pst, Lane.pon, Lane.on, hfld PNL_ST _ (by decide), hfld PNL_DIMSRC _ (by decide)]
  rfl

theorem Lane.pnlCmd_refused (g : Nat) (l : Lane) {op arg : Nat} (h : l.pnlStatus op arg ≠ 0) :
    (l.pnlNote op).pnlCmd g op arg = (l.pnlAnswered op (l.pnlStatus op arg)).ev evPanelRefused := by
  simp [Lane.pnlCmd, Lane.pnlAnswered, h, stDone]

section
variable (g : Nat) (l : Lane) {arg : Nat}

theorem Lane.pnlCmd_setDark (h : l.pnlStatus 1 arg = 0) :
    (l.pnlNote 1).pnlCmd g 1 arg = (l.pnlAnswered 1 0).setF PNL_ST PNL_ST_DARK_REQ arg := by
  simp [Lane.pnlCmd, Lane.pnlAnswered, h, stDone]

theorem Lane.pnlCmd_setDim (h : l.pnlStatus 2 arg = 0) :
    (l.pnlNote 2).pnlCmd g 2 arg = (l.pnlAnswered 2 0).setPnl (fun w => { w with dimCmd := some arg }) := by
  simp [Lane.pnlCmd, Lane.pnlAnswered, h, stDone]

theorem Lane.pnlCmd_setSrc (h : l.pnlStatus 3 arg = 0) :
    (l.pnlNote 3).pnlCmd g 3 arg = (l.pnlAnswered 3 0).setF PNL_ST PNL_ST_SRC arg := by
  simp [Lane.pnlCmd, Lane.pnlAnswered, h, stDone]

theorem Lane.pnlCmd_page (h : l.pnlStatus 5 arg = 0) : (l.pnlNote 5).pnlCmd g 5 arg = (l.pnlAnswered 5 0).pageAdvance := by
  simp [Lane.pnlCmd, Lane.pnlAnswered, h, stDone]

theorem Lane.pnlCmd_clrFault (h : l.pnlStatus 6 arg = 0) : (l.pnlNote 6).pnlCmd g 6 arg = (l.pnlAnswered 6 0).clrFault g arg := by
  simp [Lane.pnlCmd, Lane.pnlAnswered, h, stDone]

end

/-! ### What the commands do -/

/-- The dimming target follows the command in force unless a value slot gives it (R455). -/
theorem Lane.dimTarget_of_dimCmd {l : Lane} {n : Nat} (hkind : l.fld PNL_DIMSRC PNL_DIMSRC_KIND ≠ 8) (hcmd : l.pnl.dimCmd = some n) :
    l.dimTarget = n := by
  simp [Lane.dimTarget, hkind, hcmd]

@[simp] theorem Lane.pageAdvance_page (l : Lane) : l.pageAdvance.pnl.page = if l.pnl.page < l.pnl.pages then l.pnl.page + 1 else 1 := rfl

theorem Lane.pageAdvance_fld_page (l : Lane) : l.pageAdvance.fld PNL_LIST PNL_LIST_PAGE = l.pageAdvance.pnl.page % 128 :=
  Lane.fld_setF_same _ _ _ _ (by decide)

theorem Lane.pageAdvance_fld_ne (l : Lane) (k : Nat) (f : Fld) (hk : k % 2 ^ 20 ≠ PNL_LIST % 2 ^ 20) : l.pageAdvance.fld k f = l.fld k f :=
  Lane.fld_setF_ne _ _ _ _ _ _ hk

/-! ### CLR_FAULT (R457, R464) -/

/-- Field `f` lies in the word and shares no bit with field `g`. -/
abbrev fldsApart (f g : Fld) : Prop := (f.lo + f.width ≤ g.lo ∨ g.lo + g.width ≤ f.lo) ∧ f.lo + f.width ≤ 32

/-- TRIP ends once neither fault stands. -/
def Lane.tripEnd (g : Nat) (l : Lane) : Lane :=
  if l.pst PNL_ST_PSTATE = 7 && !l.pon PNL_ST_RAIL_FAULT && !l.pon PNL_ST_CRZ_FAULT then l.pnlTo g 6 l.pnl.cause else l

section
variable (g : Nat) (l : Lane)

/-- Where TRIP ends, the lane has the registers of a lane with PSTATE 6. -/
theorem Lane.tripEnd_regs : (l.tripEnd g).regs =
    if l.fld PNL_ST PNL_ST_PSTATE = 7 ∧ l.on PNL_ST PNL_ST_RAIL_FAULT = false ∧ l.on PNL_ST PNL_ST_CRZ_FAULT = false
    then (l.setF PNL_ST PNL_ST_PSTATE 6).regs else l.regs := by
  unfold Lane.tripEnd
  simp only [Bool.and_eq_true, decide_eq_true_eq, Bool.not_eq_true', and_assoc, apply_ite Lane.regs, Lane.pnlTo_regs]
  rfl

theorem Lane.tripEnd_regsBut {ks : List Nat} {m : Lane} (hm : l.regsBut ks m) (hks : PNL_ST ∈ ks) : l.regsBut ks (m.tripEnd g) := by
  have h := m.tripEnd_regs g
  split at h
  · exact (hm.setF (by decide) hks _ _).of_regs_eq h
  · exact hm.of_regs_eq h

theorem Lane.tripEnd_fld_ne (k : Nat) (f : Fld) (hk : k % 2 ^ 20 ≠ PNL_ST % 2 ^ 20) : (l.tripEnd g).fld k f = l.fld k f := by
  have h := l.tripEnd_regs g
  split at h
  · rw [Lane.fld_of_regs_eq h, Lane.fld_setF_ne _ _ _ _ _ _ hk]
  · exact Lane.fld_of_regs_eq h k f

/-- Only PSTATE changes in PNL_ST. -/
theorem Lane.tripEnd_on_field (f : Fld) (hf : fldsApart f PNL_ST_PSTATE) : (l.tripEnd g).on PNL_ST f = l.on PNL_ST f := by
  have h := l.tripEnd_regs g
  split at h
  · rw [Lane.on, Lane.fld_of_regs_eq h, Lane.fld_setF_field _ _ _ _ _ hf, ← Lane.on]
  · exact Lane.on_of_regs_eq h _ f

theorem Lane.tripEnd_pstate : (l.tripEnd g).fld PNL_ST PNL_ST_PSTATE =
    if l.fld PNL_ST PNL_ST_PSTATE = 7 ∧ l.on PNL_ST PNL_ST_RAIL_FAULT = false ∧ l.on PNL_ST PNL_ST_CRZ_FAULT = false then 6
    else l.fld PNL_ST PNL_ST_PSTATE := by
  have h := l.tripEnd_regs g
  split at h
  case isTrue hend =>
    rw [if_pos hend, Lane.fld_of_regs_eq h, Lane.fld_setF_same _ _ _ _ (by decide)]
    rfl
  case isFalse hstay => rw [if_neg hstay, Lane.fld_of_regs_eq h]

end

/-- The flag that CLR_FAULT clears. -/
def clearedFault (arg : Nat) : Fld := if arg = 0 then PNL_ST_RAIL_FAULT else PNL_ST_CRZ_FAULT

/-- CLR_FAULT clears one fault with its record, then ends TRIP if it may. -/
theorem Lane.clrFault_eq (g arg : Nat) (l : Lane) : ∃ code p1 p2,
    l.clrFault g arg = ((l.setB PNL_ST (clearedFault arg) false).pnlRec code g 0#32 p1 p2).tripEnd g := by
  unfold Lane.clrFault Lane.tripEnd clearedFault
  split
  · exact ⟨_, _, _, rfl⟩
  · exact ⟨_, _, _, rfl⟩

section
variable (g arg : Nat) (l : Lane)

/-- The registers before TRIP may end. -/
theorem Lane.clrFault_cases : ∃ m : Lane, l.clrFault g arg = m.tripEnd g ∧ m.regs = (l.setB PNL_ST (clearedFault arg) false).regs := by
  obtain ⟨code, p1, p2, h⟩ := l.clrFault_eq g arg
  exact ⟨_, h, Lane.pnlRec_regs ..⟩

theorem Lane.clrFault_regsBut {ks : List Nat} {m : Lane} (hm : l.regsBut ks m) (hks : PNL_ST ∈ ks) : l.regsBut ks (m.clrFault g arg) := by
  obtain ⟨n, hn, hregs⟩ := m.clrFault_cases g arg
  rw [hn]
  exact Lane.tripEnd_regsBut g l (Lane.regsBut.of_regs_eq (hm.setF (by decide) hks _ _) hregs) hks

theorem Lane.clrFault_fld_ne (k : Nat) (f : Fld) (hk : k % 2 ^ 20 ≠ PNL_ST % 2 ^ 20) : (l.clrFault g arg).fld k f = l.fld k f := by
  obtain ⟨n, hn, hregs⟩ := l.clrFault_cases g arg
  rw [hn, Lane.tripEnd_fld_ne _ _ _ _ hk, Lane.fld_of_regs_eq hregs, Lane.setB, Lane.fld_setF_ne _ _ _ _ _ _ hk]

theorem Lane.clrFault_on_cleared : (l.clrFault g arg).on PNL_ST (clearedFault arg) = false := by
  obtain ⟨n, hn, hregs⟩ := l.clrFault_cases g arg
  rw [hn, Lane.tripEnd_on_field, Lane.on_of_regs_eq hregs, Lane.on_setB_same]
  all_goals unfold clearedFault; split <;> decide

theorem Lane.clrFault_on_other (f : Fld) (hstate : fldsApart f PNL_ST_PSTATE) (hflag : fldsApart f (clearedFault arg)) :
    (l.clrFault g arg).on PNL_ST f = l.on PNL_ST f := by
  obtain ⟨n, hn, hregs⟩ := l.clrFault_cases g arg
  rw [hn, Lane.tripEnd_on_field _ _ _ hstate, Lane.on_of_regs_eq hregs, Lane.on_setB_field _ _ _ _ _ hflag]

/-- With the rail fault cleared, a standing crazing fault alone keeps TRIP. -/
theorem Lane.clrFault_rail_pstate : (l.clrFault g 0).fld PNL_ST PNL_ST_PSTATE =
    if l.fld PNL_ST PNL_ST_PSTATE = 7 ∧ l.on PNL_ST PNL_ST_CRZ_FAULT = false then 6 else l.fld PNL_ST PNL_ST_PSTATE := by
  obtain ⟨n, hn, hregs⟩ := l.clrFault_cases g 0
  rw [hn, Lane.tripEnd_pstate, Lane.fld_of_regs_eq hregs, Lane.on_of_regs_eq hregs, Lane.on_of_regs_eq hregs, clearedFault, if_pos rfl,
    Lane.on_setB_same _ _ _ _ (by decide), Lane.on_setB_field _ _ _ _ _ (by decide), Lane.setB,
    Lane.fld_setF_field _ _ _ _ _ (by decide)]
  simp only [true_and]

end

/-! ### What each command leaves in the lane -/

section
variable (g : Nat) (l : Lane) {op arg : Nat}

theorem Lane.setDark_effect (harg : arg ≤ 1) (hreq : l.fld PNL_ST PNL_ST_DARK_REQ ≠ arg) :
    let m := (l.pnlNote 1).pnlCmd g 1 arg
    l.regsBut [PNL_CMDST, PNL_ST] m ∧ m.fld PNL_CMDST PNL_CMDST_STATUS = 0 ∧ m.fld PNL_CMDST PNL_CMDST_LAST_OP = 1 ∧
      m.fld PNL_ST PNL_ST_DARK_REQ = arg ∧ m.fld PNL_ST PNL_ST_PSTATE = l.fld PNL_ST PNL_ST_PSTATE := by
  have hst : l.pnlStatus 1 arg = 0 := by simp [Lane.pnlStatus, Lane.pst, harg, hreq, stDone]
  rw [Lane.pnlCmd_setDark g l hst]
  refine ⟨(l.pnlAnswered_regsBut 1 0 (by simp)).setF (by decide) (by simp) _ _, ?_, ?_, ?_, ?_⟩
  · rw [Lane.fld_setF_ne _ _ _ _ _ _ (by decide), Lane.pnlAnswered_status _ _ _ (by decide)]
  · rw [Lane.fld_setF_ne _ _ _ _ _ _ (by decide), Lane.pnlAnswered_lastOp _ _ _ (by decide)]
  · rw [Lane.fld_setF_same _ _ _ _ (by decide)]
    exact Nat.mod_eq_of_lt (Nat.lt_succ_of_le harg)
  · rw [Lane.fld_setF_field _ _ _ _ _ (by decide), Lane.pnlAnswered_fld_ST]

theorem Lane.setDim_effect (harg : arg ≤ 15) (hkind : l.fld PNL_DIMSRC PNL_DIMSRC_KIND ≠ 8) :
    let m := (l.pnlNote 2).pnlCmd g 2 arg
    l.regsBut [PNL_CMDST] m ∧ m.fld PNL_CMDST PNL_CMDST_STATUS = 0 ∧ m.fld PNL_CMDST PNL_CMDST_LAST_OP = 2 ∧ m.dimTarget = arg := by
  have hst : l.pnlStatus 2 arg = 0 := by simp [Lane.pnlStatus, harg, hkind, stDone]
  rw [Lane.pnlCmd_setDim g l hst]
  refine ⟨(l.pnlAnswered_regsBut 2 0 (by simp)).of_regs_eq (Lane.setPnl_regs ..), ?_, ?_, ?_⟩
  · rw [Lane.fld_of_regs_eq (Lane.setPnl_regs ..), Lane.pnlAnswered_status _ _ _ (by decide)]
  · rw [Lane.fld_of_regs_eq (Lane.setPnl_regs ..), Lane.pnlAnswered_lastOp _ _ _ (by decide)]
  · refine Lane.dimTarget_of_dimCmd ?_ rfl
    rwa [Lane.fld_of_regs_eq (Lane.setPnl_regs ..), Lane.pnlAnswered_fld_DIMSRC]

theorem Lane.setSrc_effect (harg : arg ≤ 1) (hsrc : l.fld PNL_ST PNL_ST_SRC ≠ arg) :
    let m := (l.pnlNote 3).pnlCmd g 3 arg
    l.regsBut [PNL_CMDST, PNL_ST] m ∧ m.fld PNL_CMDST PNL_CMDST_STATUS = 0 ∧ m.fld PNL_CMDST PNL_CMDST_LAST_OP = 3 ∧
      m.fld PNL_ST PNL_ST_SRC = arg := by
  have hst : l.pnlStatus 3 arg = 0 := by simp [Lane.pnlStatus, Lane.pst, harg, hsrc, stDone]
  rw [Lane.pnlCmd_setSrc g l hst]
  refine ⟨(l.pnlAnswered_regsBut 3 0 (by simp)).setF (by decide) (by simp) _ _, ?_, ?_, ?_⟩
  · rw [Lane.fld_setF_ne _ _ _ _ _ _ (by decide), Lane.pnlAnswered_status _ _ _ (by decide)]
  · rw [Lane.fld_setF_ne _ _ _ _ _ _ (by decide), Lane.pnlAnswered_lastOp _ _ _ (by decide)]
  · rw [Lane.fld_setF_same _ _ _ _ (by decide)]
    exact Nat.mod_eq_of_lt (Nat.lt_succ_of_le harg)

theorem Lane.page_effect (hsrc : l.on PNL_ST PNL_ST_SRC = false) (hpages : 1 < l.pnl.pages) :
    let m := (l.pnlNote 5).pnlCmd g 5 0
    l.regsBut [PNL_CMDST, PNL_LIST] m ∧ m.fld PNL_CMDST PNL_CMDST_STATUS = 0 ∧
      m.pnl.page = (if l.pnl.page < l.pnl.pages then l.pnl.page + 1 else 1) ∧ m.fld PNL_LIST PNL_LIST_PAGE = m.pnl.page % 128 := by
  have hst : l.pnlStatus 5 0 = 0 := by simp [Lane.pnlStatus, Lane.pon, hsrc, hpages, stDone]
  rw [Lane.pnlCmd_page g l hst]
  refine ⟨?_, ?_, Lane.pageAdvance_page _, Lane.pageAdvance_fld_page _⟩
  · exact ((l.pnlAnswered_regsBut 5 0 (by simp)).of_regs_eq (Lane.setPnl_regs ..)).setF (by decide) (by simp) _ _
  · rw [Lane.pageAdvance_fld_ne _ _ _ (by decide), Lane.pnlAnswered_status _ _ _ (by decide)]

theorem Lane.clrRailFault_effect (hrail : l.on PNL_ST PNL_ST_RAIL_FAULT = true) :
    let m := (l.pnlNote 6).pnlCmd g 6 0
    l.regsBut [PNL_CMDST, PNL_ST] m ∧ m.fld PNL_CMDST PNL_CMDST_STATUS = 0 ∧ m.on PNL_ST PNL_ST_RAIL_FAULT = false ∧
      m.on PNL_ST PNL_ST_CRZ_FAULT = l.on PNL_ST PNL_ST_CRZ_FAULT ∧
      m.fld PNL_ST PNL_ST_PSTATE = (if l.fld PNL_ST PNL_ST_PSTATE = 7 ∧ l.on PNL_ST PNL_ST_CRZ_FAULT = false
        then 6 else l.fld PNL_ST PNL_ST_PSTATE) := by
  have hst : l.pnlStatus 6 0 = 0 := by simp [Lane.pnlStatus, Lane.pon, hrail, stDone]
  rw [Lane.pnlCmd_clrFault g l hst]
  refine ⟨Lane.clrFault_regsBut _ _ _ (l.pnlAnswered_regsBut 6 0 (by simp)) (by simp), ?_, Lane.clrFault_on_cleared g 0 _, ?_, ?_⟩
  · rw [Lane.clrFault_fld_ne _ _ _ _ _ (by decide), Lane.pnlAnswered_status _ _ _ (by decide)]
  · rw [Lane.clrFault_on_other _ _ _ _ (by decide) (by decide), Lane.pnlAnswered_on_ST]
  · rw [Lane.clrFault_rail_pstate, Lane.pnlAnswered_on_ST, Lane.pnlAnswered_fld_ST]

theorem Lane.clrCrzFault_effect (hcrz : l.on PNL_ST PNL_ST_CRZ_FAULT = true) (hgood : l.hwOn PNL_CRZ PNL_CRZ_GOOD = true) :
    let m := (l.pnlNote 6).pnlCmd g 6 1
    l.regsBut [PNL_CMDST, PNL_ST] m ∧ m.fld PNL_CMDST PNL_CMDST_STATUS = 0 ∧ m.on PNL_ST PNL_ST_CRZ_FAULT = false ∧
      m.on PNL_ST PNL_ST_RAIL_FAULT = l.on PNL_ST PNL_ST_RAIL_FAULT := by
  have hst : l.pnlStatus 6 1 = 0 := by simp [Lane.pnlStatus, Lane.pon, hcrz, hgood, stDone]
  rw [Lane.pnlCmd_clrFault g l hst]
  refine ⟨Lane.clrFault_regsBut _ _ _ (l.pnlAnswered_regsBut 6 0 (by simp)) (by simp), ?_, Lane.clrFault_on_cleared g 1 _, ?_⟩
  · rw [Lane.clrFault_fld_ne _ _ _ _ _ (by decide), Lane.pnlAnswered_status _ _ _ (by decide)]
  · rw [Lane.clrFault_on_other _ _ _ _ (by decide) (by decide), Lane.pnlAnswered_on_ST]

theorem Lane.pnlRefused_effect (hop : op < 256) (hst : l.pnlStatus op arg ≠ 0) :
    let m := (l.pnlNote op).pnlCmd g op arg
    l.regsBut [PNL_CMDST] m ∧ m.pnl = l.pnl ∧ m.fld PNL_CMDST PNL_CMDST_STATUS = l.pnlStatus op arg ∧
      m.fld PNL_CMDST PNL_CMDST_LAST_OP = op ∧ m.raised = l.raised ||| evBit evPanelRefused := by
  rw [Lane.pnlCmd_refused g l hst]
  refine ⟨(l.pnlAnswered_regsBut _ _ (by simp)).of_regs_eq (Lane.ev_regs ..), rfl, ?_, ?_, rfl⟩
  · rw [Lane.fld_ev, Lane.pnlAnswered_status _ _ _ (l.pnlStatus_lt op arg)]
  · rw [Lane.fld_ev, Lane.pnlAnswered_lastOp _ _ _ hop]

end

/-! ### The row -/

theorem State.pnlRow_of_noPanel (s : State) (op arg : Nat) (hgrade : s.sh.grade = 2) : s.pnlRow op arg = s := by
  simp [State.pnlRow, Shared.noPanel, hgrade]

theorem State.pnlRow_of_panel (s : State) (op arg : Nat) (hgrade : s.sh.grade ≠ 2) :
    s.pnlRow op arg = s.both (fun l => (l.pnlNote op).pnlCmd s.sh.gt op arg) := by
  simp [State.pnlRow, Shared.noPanel, hgrade]

theorem State.pnlRow_sharedKept (s : State) (op arg : Nat) : s.sharedKept (s.pnlRow op arg) := by
  unfold State.pnlRow
  split <;> exact ⟨rfl, rfl, rfl⟩

theorem State.pnlRow_lane {s : State} {i : LaneId} {op : Nat} (arg : Nat) (hgrade : s.sh.grade ≠ 2)
    (hcomp : (s.lane i).computes = true) :
    (s.pnlRow op arg).lane i = ((s.lane i).pnlNote op).pnlCmd s.sh.gt op arg := by
  rw [s.pnlRow_of_panel op arg hgrade, State.both_lane, if_pos hcomp]

/-- The panel commands with the codes that LAST_OP shows (R470). -/
def panelCommandTable (arg : Byte) : List (Instr × Nat) :=
  [(.setDark arg, 1), (.setDim arg, 2), (.setSrc arg, 3), (.presentCmd arg, 4), (.pageCmd arg, 5), (.clrFault arg, 6)]

theorem exec_of_panelCommand {arg : Byte} {c : Instr} {op : Nat} (s : State) (h : (c, op) ∈ panelCommandTable arg) :
    exec c s = .next (s.pnlRow op arg.toNat) ∧ op < 256 := by
  simp only [panelCommandTable, List.mem_cons, Prod.mk.injEq, List.not_mem_nil, or_false] at h
  obtain ⟨rfl, rfl⟩ | ⟨rfl, rfl⟩ | ⟨rfl, rfl⟩ | ⟨rfl, rfl⟩ | ⟨rfl, rfl⟩ | ⟨rfl, rfl⟩ := h <;> exact ⟨rfl, by decide⟩

/-- Settles O46: each clause is what the command of its row does to a lane that computes. -/
theorem panelCommands : Obligations.PanelCommands := by
  refine ⟨fun arg s i hgrade hcomp harg hreq => ?dark, fun arg s i hgrade hcomp harg hkind => ?dim,
    fun arg s i hgrade hcomp harg hsrc => ?src, fun s i hgrade hcomp hsrc hpages => ?page, fun s i hgrade hcomp hrail => ?rail,
    fun s i hgrade hcomp hcrz hgood => ?crz, fun arg op c s i hc hgrade hcomp hst => ?refused, fun arg c s hc hgrade => ?noPanel⟩
  case dark =>
    exact ⟨_, rfl, s.pnlRow_sharedKept _ _, State.pnlRow_lane _ hgrade hcomp ▸ Lane.setDark_effect _ _ harg hreq⟩
  case dim =>
    exact ⟨_, rfl, s.pnlRow_sharedKept _ _, State.pnlRow_lane _ hgrade hcomp ▸ Lane.setDim_effect _ _ harg hkind⟩
  case src =>
    exact ⟨_, rfl, s.pnlRow_sharedKept _ _, State.pnlRow_lane _ hgrade hcomp ▸ Lane.setSrc_effect _ _ harg hsrc⟩
  case page =>
    exact ⟨_, rfl, s.pnlRow_sharedKept _ _, State.pnlRow_lane _ hgrade hcomp ▸ Lane.page_effect _ _ hsrc hpages⟩
  case rail =>
    exact ⟨_, rfl, s.pnlRow_sharedKept _ _, State.pnlRow_lane _ hgrade hcomp ▸ Lane.clrRailFault_effect _ _ hrail⟩
  case crz =>
    exact ⟨_, rfl, s.pnlRow_sharedKept _ _, State.pnlRow_lane _ hgrade hcomp ▸ Lane.clrCrzFault_effect _ _ hcrz hgood⟩
  case refused =>
    obtain ⟨hrow, hop⟩ := exec_of_panelCommand s hc
    exact ⟨_, hrow, s.pnlRow_sharedKept _ _, State.pnlRow_lane _ hgrade hcomp ▸ Lane.pnlRefused_effect _ _ hop hst⟩
  case noPanel =>
    have hmem : ∃ op, (c, op) ∈ panelCommandTable arg := by
      simp only [List.mem_cons, List.not_mem_nil, or_false] at hc
      obtain rfl | rfl | rfl | rfl | rfl | rfl := hc <;> simp [panelCommandTable]
    obtain ⟨op, hop⟩ := hmem
    rw [(exec_of_panelCommand s hop).1, s.pnlRow_of_noPanel op _ hgrade]

end Sys2Proof.Machine
end

section
/-! One step (R28, R32): the command at the front of the queue takes effect on the node with the rest of the queue. -/

namespace Sys2Proof.Machine

theorem step_of_cons {s : State} {c : Instr} {cs : List Instr} (h : s.pending = c :: cs) : step s = exec c { s with pending := cs } := by
  unfold step
  split
  case h_1 hnil => cases hnil.symm.trans h
  case h_2 hcons =>
    obtain ⟨rfl, rfl⟩ := List.cons.inj (hcons.symm.trans h)
    rfl

theorem step_of_nil {s : State} (h : s.pending = []) : step s = .next s := by
  unfold step
  split
  case h_1 => rfl
  case h_2 hcons => cases hcons.symm.trans h

/-- Settles O1: the queue is empty or has a front command. -/
theorem stepTakesTheFrontCommand : Obligations.StepTakesTheFrontCommand :=
  ⟨fun _ _ _ h => step_of_cons h, fun _ h => step_of_nil h⟩

end Sys2Proof.Machine
end

section
/-! Frames over registers: what a write of one register leaves alone, in a lane and in the shared part, and the state when a lane or the
shared part alone has changed. -/

namespace Sys2Proof.Machine

/-! ### Frames over the registers of a lane and of the shared part -/

/-- A register written that the frame lets change. -/
theorem Lane.regsBut.wr {ks : List Nat} {l m : Lane} {k : Nat} (hm : l.regsBut ks m) (hk : k < 2 ^ 20) (hks : k ∈ ks) (w : Word) :
    l.regsBut ks (m.wr k w) := fun j hj hjs => by
  have hne : j ≠ k := fun h => hjs (h ▸ hks)
  rw [Lane.rd_wr_ne _ _ _ _ (by rwa [Nat.mod_eq_of_lt hj, Nat.mod_eq_of_lt hk])]
  exact hm j hj hjs

theorem Lane.regsBut.refl (ks : List Nat) (l : Lane) : l.regsBut ks l := Lane.regsBut_of_regs_eq ks rfl

theorem Shared.regsBut_of_regs_eq (ks : List Nat) {h g : Shared} (hg : g.regs = h.regs) : h.regsBut ks g := fun k _ _ => by
  rw [Shared.rd, hg, ← Shared.rd]

theorem Shared.regsBut.refl (ks : List Nat) (h : Shared) : h.regsBut ks h := Shared.regsBut_of_regs_eq ks rfl

theorem Shared.regsBut.trans {ks : List Nat} {h g f : Shared} (hg : h.regsBut ks g) (hf : g.regsBut ks f) : h.regsBut ks f :=
  fun k hk hks => (hf k hk hks).trans (hg k hk hks)

theorem Shared.regsBut.wr {ks : List Nat} {h g : Shared} {k : Nat} (hg : h.regsBut ks g) (hk : k < 2 ^ 20) (hks : k ∈ ks) (w : Word) :
    h.regsBut ks (g.wr k w) := fun j hj hjs => by
  have hne : j ≠ k := fun e => hjs (e ▸ hks)
  rw [Shared.rd_wr_ne _ _ _ _ (by rwa [Nat.mod_eq_of_lt hj, Nat.mod_eq_of_lt hk])]
  exact hg j hj hjs

theorem Shared.regsBut.setF {ks : List Nat} {h g : Shared} {k : Nat} (hg : h.regsBut ks g) (hk : k < 2 ^ 20) (hks : k ∈ ks)
    (f : Fld) (v : Nat) : h.regsBut ks (g.setF k f v) :=
  hg.wr hk hks (f.put v (g.rd k))

theorem Shared.regsBut.setB {ks : List Nat} {h g : Shared} {k : Nat} (hg : h.regsBut ks g) (hk : k < 2 ^ 20) (hks : k ∈ ks)
    (f : Fld) (v : Bool) : h.regsBut ks (g.setB k f v) :=
  hg.setF hk hks f v.toNat

theorem Shared.fld_bump_same (h : Shared) (k : Nat) (f : Fld) (hf : f.lo + f.width ≤ 32) :
    (h.bump k f).fld k f = min (2 ^ f.width - 1) (h.fld k f + 1) := by
  have hpos : 0 < 2 ^ f.width := by positivity
  rw [Shared.bump, Shared.fld_setF_same _ _ _ _ hf, Nat.mod_eq_of_lt (by omega)]

theorem Lane.fld_wrap_same (l : Lane) (k : Nat) (f : Fld) (hf : f.lo + f.width ≤ 32) :
    (l.wrap k f).fld k f = (l.fld k f + 1) % 2 ^ f.width := by
  rw [Lane.wrap, Lane.fld_setF_same _ _ _ _ hf]

/-! ### One part of the node changed -/

theorem State.withSh_lanesKept (s : State) (h : Shared) : s.lanesKept (s.withSh h) := ⟨rfl, rfl, rfl, rfl⟩

theorem State.upd_otherKept (s : State) (i : LaneId) (f : Lane → Lane) : s.otherKept i (s.upd i f) :=
  ⟨⟨State.upd_sh .., State.upd_snap .., State.upd_pending ..⟩, State.upd_lane_other ..⟩

theorem State.both_sharedKept (s : State) (f : Lane → Lane) : s.sharedKept (s.both f) := ⟨rfl, rfl, rfl⟩

end Sys2Proof.Machine
end

section
/-! Register writes (R40–R43, R48, R543, R544): which place they reach, what a place does with them by its STATUS, and the wait of
an accepted one in the lanes. -/

namespace Sys2Proof.Machine

/-! ### What an accepted write leaves in a lane -/

theorem mem_insertBy {α : Type} (key : α → Nat) (x : α) (xs : List α) : x ∈ insertBy key x xs := by
  induction xs with
  | nil => exact List.mem_singleton_self x
  | cons y ys ih =>
    unfold insertBy
    split
    · exact List.mem_cons_self
    · exact List.mem_cons_of_mem y ih

/-- A marked list holds each write, apart from whether it is refused. -/
theorem exists_mem_markBusy {p : PendWrite} {ws : List PendWrite} (h : p ∈ ws) : ∃ r, { p with refused := r } ∈ markBusy ws := by
  obtain ⟨i, hi, rfl⟩ := List.mem_iff_getElem.mp h
  have hidx : (ws[i], i) ∈ ws.zipIdx := List.mk_mem_zipIdx_iff_getElem?.mpr (List.getElem?_eq_getElem hi)
  exact ⟨_, List.mem_map.mpr ⟨_, hidx, rfl⟩⟩

section
variable {p : PendWrite} (l : Lane) (hkey : p.key ≠ ALM_CMD)
include hkey

/-- But for its registers, a lane that takes a write changes the list of those that wait alone. -/
theorem Lane.takeWrite_eq : ∃ r, l.takeWrite p = { l with writes := markBusy (insertBy PendWrite.order p l.writes), regs := r } := by
  unfold Lane.takeWrite
  rw [if_neg hkey]
  by_cases hown : MEM_OWN 0 ≤ p.key ∧ p.key < MEM_OWN 32
  · simp only [if_pos hown]
    split <;> exact ⟨_, rfl⟩
  · simp only [if_neg hown]
    split <;> exact ⟨_, rfl⟩

theorem Lane.takeWrite_link : (l.takeWrite p).link = l.link := by
  obtain ⟨r, hr⟩ := l.takeWrite_eq hkey
  rw [hr]

/-- A write that is not for the alarm engine waits in the lane that takes it. -/
theorem Lane.exists_mem_takeWrite : ∃ r, { p with refused := r } ∈ (l.takeWrite p).writes := by
  obtain ⟨r, hr⟩ := l.takeWrite_eq hkey
  rw [hr]
  exact exists_mem_markBusy (mem_insertBy ..)

end

/-- The lane with output authority takes an accepted write and, while the link is up, sends it on to the other lane (R40, R544). -/
def Lane.acceptWrite (up : Bool) (p : PendWrite) (l : Lane) : Lane :=
  let m := l.takeWrite p
  if up then { m with link := { m.link with wfwd := m.link.wfwd ++ [p] } }
  else { m with link := { m.link with kept := m.link.kept ++ [p] } }

/-- A write to key `k` as it waits after its acceptance. -/
def State.accepted (k : Nat) (v : Word) (acc : Nat) (cnp : Bool) (s : State) : PendWrite :=
  { key := k, val := v, acc := acc, eff := effectAt s.sh.gt acc, cnp := cnp }

theorem State.accept_of_auth {s : State} {i : LaneId} (k : Nat) (v : Word) (acc : Nat) (cnp : Bool) (h : s.sh.auth = some i) :
    s.accept k v acc cnp = s.upd i (Lane.acceptWrite s.linkUp (s.accepted k v acc cnp)) := by
  unfold State.accept
  rw [h]
  rfl

theorem Lane.acceptWrite_writes (up : Bool) (p : PendWrite) (l : Lane) : (l.acceptWrite up p).writes = (l.takeWrite p).writes := by
  unfold Lane.acceptWrite
  dsimp only
  split <;> rfl

theorem Lane.acceptWrite_wfwd (up : Bool) {p : PendWrite} (l : Lane) (hkey : p.key ≠ ALM_CMD) :
    (l.acceptWrite up p).link.wfwd = if up then l.link.wfwd ++ [p] else l.link.wfwd := by
  unfold Lane.acceptWrite
  dsimp only
  rw [l.takeWrite_link hkey]
  split <;> rfl

theorem effectAt_add (g u : Nat) : effectAt g (g + u) = g + if u < 800000 then 1000000 else 2000000 := by
  unfold effectAt
  rw [Nat.add_sub_cancel_left]
  split <;> rfl

/-! ### The write queue (R544) -/

theorem Shared.fits_alias (h : Shared) (now k : Nat) : h.fits now [.lane .active k] = decide (h.queued now + 1 ≤ 64) := rfl

theorem Shared.fits_view (h : Shared) (now k : Nat) (i : LaneId) : h.fits now [.lane (.lane i) k] = true := rfl

/-! ### A written word by its STATUS -/

section
variable {now k : Nat} {cnp : Bool} {p : Place} {v : Word} {s : State}

theorem State.writePlace_of_served (h : s.writeStatus p = 0) : (s.writePlace now cnp p v).2 = s.servedWrite now p v cnp := by
  simp [State.writePlace, h]

theorem State.writePlace_of_viewRefused {i : LaneId} (h : s.writeStatus (.lane (.lane i) k) = 2) :
    (s.writePlace now cnp (.lane (.lane i) k) v).2 = s.upd i (Lane.evNow · evViewRefused) := by
  simp [State.writePlace, h]

theorem State.writePlace_of_ignored (hserved : s.writeStatus p ≠ 0) (hview : s.writeStatus p ≠ 2) :
    (s.writePlace now cnp p v).2 = s := by
  simp [State.writePlace, hserved, hview]

/-- A write through the active-lane view to a register that the lanes take at a boundary. -/
theorem State.aliasWrite_of_register (hwindow : windowOf k = none) (hsel : k ≠ MEM_WSEL)
    (hpanel : panelKey k = false ∨ s.sh.fld MOD_IDENT MOD_IDENT_GRADE ≠ 2) :
    s.aliasWrite now k v cnp = (s.accept k v now cnp).updSh (Shared.enqueue now) := by
  have hshown : (panelKey k && s.sh.fld MOD_IDENT MOD_IDENT_GRADE == 2) = false := by
    rcases hpanel with h | h <;> simp [h]
  unfold State.aliasWrite
  rw [if_neg hsel, hshown, hwindow]
  rfl

end

/-! ### The row REGISTER_WRITE -/

section
variable {addr : BitVec 22} {cnp : Bool} {u : Nat} {s : State} (v : Word)

theorem exec_registerWrite_of_fits (h : s.sh.fits (s.sh.gt + u) [placeOf (4 * addr.toNat)] = true) :
    exec (.registerWrite addr v cnp u) s = .next (s.writePlace (s.sh.gt + u) cnp (placeOf (4 * addr.toNat)) v).2 := by
  simp [exec, execRegisterWrite, h]

theorem exec_registerWrite_of_full (h : s.sh.fits (s.sh.gt + u) [placeOf (4 * addr.toNat)] = false) :
    exec (.registerWrite addr v cnp u) s = .next (s.writeBusy cnp) := by
  simp [exec, execRegisterWrite, h]

end

/-- The event of a source set in its pending word. -/
theorem Lane.evNow_pending (l : Lane) (e : Nat) : bitOf ((l.evNow e).rd (EVT_PEND (e / 32))) (e % 32) = true := by
  have hrd : (l.evNow e).rd (EVT_PEND (e / 32)) = l.rd (EVT_PEND (e / 32)) ||| 1#32 <<< (e % 32) := Lane.rd_wr_same ..
  rw [hrd]
  simp [bitOf, Nat.mod_lt]

theorem Lane.evNow_regsBut (l : Lane) (e : Nat) (he : EVT_PEND (e / 32) < 2 ^ 20) : l.regsBut [EVT_PEND (e / 32)] (l.evNow e) :=
  ((Lane.regsBut.refl _ l).wr he (List.mem_singleton_self _) _).of_regs_eq rfl

/-- Settles O54. A write through the active-lane view is the acceptance by the lane with authority; the other clauses are the rows by
STATUS and the registers they write. -/
theorem registerWritesAndSideEffects : Obligations.RegisterWritesAndSideEffects := by
  refine ⟨fun addr v cnp u k s i hauth hplace hst hwindow hsel halm hpanel hroom => ?waits,
    fun addr v cnp u k i s hplace hst => ?view, fun addr v u k s hplace hfull => ?busyCnp, fun addr v u k s hplace hfull => ?busyHost,
    fun addr v cnp u s hfits hst => ?ignored, fun i w v s hoff hbisque => ?pend, fun w v s i hcomp => ?route,
    fun s hbisque => ?clrBisque, fun s hbisque => ?clr, fun i s hoff => ?wrw3⟩
  case waits =>
    have hrow : exec (.registerWrite addr v cnp u) s = .next
        ((s.upd i (Lane.acceptWrite s.linkUp (s.accepted k v (s.sh.gt + u) cnp))).updSh (Shared.enqueue (s.sh.gt + u))) := by
      rw [exec_registerWrite_of_fits v (by rw [hplace, Shared.fits_alias]; exact decide_eq_true hroom), hplace,
        State.writePlace_of_served hst, State.servedWrite, State.aliasWrite_of_register hwindow hsel hpanel,
        State.accept_of_auth _ _ _ _ hauth]
    have hwfwd := (s.lane i).acceptWrite_wfwd s.linkUp (p := s.accepted k v (s.sh.gt + u) cnp) halm
    refine ⟨_, hrow, by simp [Shared.enqueue], by simp, by simp [Shared.enqueue], ?_, fun hup => ?_, fun hdown => ?_, by simp⟩
    · obtain ⟨r, hr⟩ := (s.lane i).exists_mem_takeWrite (p := s.accepted k v (s.sh.gt + u) cnp) halm
      rw [State.updSh_lane, State.upd_lane, Lane.acceptWrite_writes]
      exact ⟨_, hr, rfl, rfl, rfl, effectAt_add ..⟩
    · rw [hup, if_pos rfl] at hwfwd
      exact ⟨_, by rw [State.updSh_lane, State.upd_lane, hup, hwfwd], rfl, rfl⟩
    · rw [hdown] at hwfwd
      rw [State.updSh_lane, State.upd_lane, hdown, hwfwd]
      rfl
  case view =>
    have hrow : exec (.registerWrite addr v cnp u) s = .next (s.upd i (Lane.evNow · evViewRefused)) := by
      rw [exec_registerWrite_of_fits v (by rw [hplace, Shared.fits_view]), hplace, State.writePlace_of_viewRefused hst]
    refine ⟨_, hrow, s.upd_otherKept i _, ?_, ?_⟩
    · rw [State.upd_lane]
      exact Lane.evNow_regsBut _ _ (by decide)
    · rw [State.upd_lane]
      exact Lane.evNow_pending _ _
  case busyCnp =>
    exact exec_registerWrite_of_full v (by rw [hplace, Shared.fits_alias]; exact decide_eq_false (by omega))
  case busyHost =>
    refine ⟨_, exec_registerWrite_of_full v (by rw [hplace, Shared.fits_alias]; exact decide_eq_false (by omega)),
      s.withSh_lanesKept _, (Shared.regsBut.refl _ _).setF (by decide) (List.mem_singleton_self _) _ _,
      Shared.fld_bump_same _ _ _ (by decide)⟩
  case ignored =>
    rw [exec_registerWrite_of_fits v hfits, State.writePlace_of_ignored (by omega) (by omega)]
  case pend =>
    have hrow : exec (.evtPendClear i w v) s = .next (s.upd i (Lane.pendClear w v)) := by
      simp [exec, execEvtPendClear, hoff, hbisque]
    refine ⟨_, hrow, s.upd_otherKept i _, ?_, ?_⟩
    · rw [State.upd_lane]
      exact (Lane.regsBut.refl _ _).wr (by unfold EVT_PEND; omega) (List.mem_singleton_self _) _
    · rw [State.upd_lane]
      exact Lane.rd_wr_same ..
  case route =>
    refine ⟨_, rfl, s.both_sharedKept _, ?_, ?_⟩
    · rw [State.both_lane, if_pos hcomp]
      exact (Lane.regsBut.refl _ _).wr (by unfold EVT_CNP; omega) (List.mem_singleton_self _) _
    · rw [State.both_lane, if_pos hcomp]
      exact Lane.rd_wr_same ..
  case clrBisque => simp [exec, execCntClr, hbisque]
  case clr =>
    have hrow : exec .cntClr s = .next (s.withSh ((s.sh.wr RING_ERR 0#32).wr RING_TOK 0#32)) := by simp [exec, execCntClr, hbisque]
    refine ⟨_, hrow, s.withSh_lanesKept _, ?_, ?_, Shared.rd_wr_same ..⟩
    · exact ((Shared.regsBut.refl _ _).wr (by decide) (by simp) _).wr (by decide) (by simp) _
    · exact (Shared.rd_wr_ne _ _ _ _ (by decide)).trans (Shared.rd_wr_same ..)
  case wrw3 =>
    have hrow : exec (.cfgWrw3Read i) s = .next (s.upd i Lane.nextEntry) := by simp [exec, execCfgWrw3Read, hoff]
    refine ⟨_, hrow, s.upd_otherKept i _, ?_, ?_⟩
    · rw [State.upd_lane]
      exact (Lane.regsBut.refl _ _).setF (by decide) (List.mem_singleton_self _) _ _
    · rw [State.upd_lane]
      exact Lane.fld_wrap_same _ _ _ (by decide)

end Sys2Proof.Machine
end

section
/-! Words of a tile (R34, R57, R69, R82, R114): the operations on a channel after its words are queued leave the queues of its tile and
the registers of every other channel alone; and the reference junction of a tile (R78, R79). -/

namespace Sys2Proof.Machine

/-! ### Channels and tiles after an update -/

@[simp] theorem Shared.chan_setChan_same (h : Shared) (n : Nat) (c : ChanHw) : (h.setChan n c).chan n = c := Trie.at_upd_same ..
@[simp] theorem Shared.setChan_tiles (h : Shared) (n : Nat) (c : ChanHw) : (h.setChan n c).tiles = h.tiles := rfl
@[simp] theorem Shared.on_setChan (h : Shared) (n : Nat) (c : ChanHw) (k : Nat) (f : Fld) : (h.setChan n c).on k f = h.on k f := rfl
@[simp] theorem Shared.tile_setTile_same (h : Shared) (t : Nat) (x : TileHw) : (h.setTile t x).tile t = x := Trie.at_upd_same ..

section
variable {ks : List Nat} {h g : Shared} {n : Nat}

theorem Shared.regsBut.setChan (hg : h.regsBut ks g) (m : Nat) (c : ChanHw) : h.regsBut ks (g.setChan m c) := hg

theorem Shared.regsBut.setGain (hg : h.regsBut ks g) (hk : AIN_CHST n < 2 ^ 20) (hks : AIN_CHST n ∈ ks) (p : Path) (v : Nat) :
    h.regsBut ks (g.setGain n p v) := by
  cases p <;> exact hg.setF hk hks _ _

theorem Shared.regsBut.highRange (hg : h.regsBut ks g) (hk : AIN_CHST n < 2 ^ 20) (hks : AIN_CHST n ∈ ks) (cfg : Word) :
    h.regsBut ks (g.highRange cfg n) :=
  (hg.setGain hk hks _ _).setGain hk hks _ _

theorem Shared.regsBut.element (hg : h.regsBut ks g) (hk : AIN_CHST n < 2 ^ 20) (hks : AIN_CHST n ∈ ks) (cfg : Word) :
    h.regsBut ks (g.element cfg n) :=
  (hg.setB hk hks _ _).setB hk hks _ _

theorem Shared.regsBut.loadChan (hg : h.regsBut ks g) (hk : AIN_CHST n < 2 ^ 20) (hks : AIN_CHST n ∈ ks) (cfg pcfg : Word) :
    h.regsBut ks (g.loadChan cfg pcfg n) :=
  Shared.regsBut.setB ((hg.highRange hk hks cfg).element hk hks cfg) hk hks AIN_CHST_SWAP_PH false

end

@[simp] theorem Shared.setGain_tiles (h : Shared) (n : Nat) (p : Path) (v : Nat) : (h.setGain n p v).tiles = h.tiles := by
  cases p <;> rfl

theorem Shared.loadChan_tiles (h : Shared) (cfg pcfg : Word) (n : Nat) : (h.loadChan cfg pcfg n).tiles = h.tiles :=
  (Shared.setGain_tiles ..).trans (Shared.setGain_tiles ..)

/-- A channel that is loaded takes over its settings (R56). -/
theorem Shared.loadChan_chan (h : Shared) (cfg pcfg : Word) (n : Nat) : (h.loadChan cfg pcfg n).chan n =
    { h.chan n with
      front := frontOf cfg, rate := AIN_PCFG_RATE.get pcfg, due := false, excDue := false, force := false, gen := (h.chan n).gen + 1,
      started := false, settle := 0, excBusy := false, rngRun := false, rngPos := 0, downRun := 0 } := by
  have hchan : (((h.highRange cfg n).element cfg n).setB (AIN_CHST n) AIN_CHST_SWAP_PH false).chan n = h.chan n := rfl
  rw [Shared.loadChan, hchan, Shared.chan_setChan_same]

/-- A channel that is loaded stands in phase 0. -/
theorem Shared.loadChan_phase (h : Shared) (cfg pcfg : Word) (n : Nat) :
    (h.loadChan cfg pcfg n).on (AIN_CHST n) AIN_CHST_SWAP_PH = false :=
  Shared.on_setB_same ((h.highRange cfg n).element cfg n) _ _ _ (by decide)

/-! ### What moves with a channel -/

/-- Channel `n` has moved from `h` to `g`: of the registers its two status words alone may differ, and the words queued on the links of
its tile stand. -/
structure Shared.chanMoved (n : Nat) (h g : Shared) : Prop where
  regs : h.regsBut [AIN_CHST n, AIN_INJST n] g
  qA : (g.tile (tileOf n)).qA = (h.tile (tileOf n)).qA
  qB : (g.tile (tileOf n)).qB = (h.tile (tileOf n)).qB

namespace Shared.chanMoved

variable {n : Nat} {h g f : Shared}

theorem refl (n : Nat) (h : Shared) : h.chanMoved n h := ⟨.refl _ h, rfl, rfl⟩

theorem ite {c : Prop} [Decidable c] (hg : h.chanMoved n g) (hf : h.chanMoved n f) : h.chanMoved n (if c then g else f) := by
  split
  · exact hg
  · exact hf

/-- A change of registers with the tiles as they were. -/
theorem registers (hg : h.chanMoved n g) (hregs : h.regsBut [AIN_CHST n, AIN_INJST n] f) (htiles : f.tiles = g.tiles) :
    h.chanMoved n f :=
  ⟨hregs, by rw [Shared.tile, htiles, ← Shared.tile, hg.qA], by rw [Shared.tile, htiles, ← Shared.tile, hg.qB]⟩

theorem setChan (hg : h.chanMoved n g) (m : Nat) (c : ChanHw) : h.chanMoved n (g.setChan m c) := ⟨hg.regs, hg.qA, hg.qB⟩

theorem setTile (hg : h.chanMoved n g) {x : TileHw} (hA : x.qA = (g.tile (tileOf n)).qA) (hB : x.qB = (g.tile (tileOf n)).qB) :
    h.chanMoved n (g.setTile (tileOf n) x) :=
  ⟨hg.regs, by rw [Shared.tile_setTile_same, hA, hg.qA], by rw [Shared.tile_setTile_same, hB, hg.qB]⟩

section
variable (hg : h.chanMoved n g) (hn : n < 96)
include hg hn

theorem setF {k : Nat} (hk : k ∈ [AIN_CHST n, AIN_INJST n]) (fl : Fld) (v : Nat) : h.chanMoved n (g.setF k fl v) := by
  refine hg.registers (hg.regs.setF ?_ hk fl v) rfl
  simp only [List.mem_cons, List.not_mem_nil, or_false, AIN_CHST, AIN_INJST] at hk
  omega

theorem setB {k : Nat} (hk : k ∈ [AIN_CHST n, AIN_INJST n]) (fl : Fld) (v : Bool) : h.chanMoved n (g.setB k fl v) :=
  hg.setF hn hk fl v.toNat

theorem setChst (fl : Fld) (v : Nat) : h.chanMoved n (g.setF (AIN_CHST n) fl v) := hg.setF hn (by simp) fl v

theorem setGain (p : Path) (v : Nat) : h.chanMoved n (g.setGain n p v) := by
  cases p <;> exact hg.setChst hn _ _

theorem highRange (cfg : Word) : h.chanMoved n (g.highRange cfg n) := by
  unfold Shared.highRange
  exact (hg.setGain hn _ _).setGain hn _ _

theorem element (cfg : Word) : h.chanMoved n (g.element cfg n) := (hg.setChst hn _ _).setChst hn _ _

/-- The end of the check that runs on the channel. -/
theorem chkEnd (hch : (g.tile (tileOf n)).chkCh = n) (w : Nat) : h.chanMoved n (g.chkEnd (tileOf n) w) := by
  unfold Shared.chkEnd
  dsimp only
  rw [hch]
  have hended (c : ChanHw) (x : TileHw) (hA : x.qA = (g.tile (tileOf n)).qA) (hB : x.qB = (g.tile (tileOf n)).qB) :
      h.chanMoved n ((g.setChan n c).setTile (tileOf n) x) := (hg.setChan n c).setTile hA hB
  refine ((hended _ _ ?_ ?_).setB hn (by simp) _ _).setB hn (by simp) _ _ <;> rfl

theorem chkAbort (w : Nat) : h.chanMoved n (g.chkAbort n w) := by
  unfold Shared.chkAbort
  split
  case isTrue hrun =>
    have hch : (g.tile (tileOf n)).chkCh = n := by
      simp only [Shared.chkOn, Bool.and_eq_true, beq_iff_eq] at hrun
      exact hrun.1.2
    exact (hg.chkEnd hn hch w).setF hn (by simp) _ _
  case isFalse => exact hg

theorem rangeStep (pcfg : Word) : h.chanMoved n (g.rangeStep pcfg n) :=
  .ite ((hg.setGain hn _ _).setChan _ _) (.ite ((hg.setGain hn _ _).setChan _ _) hg)

theorem rangeDecide (cfg : Word) (w : Nat) (a : Int) (aOver : Bool) (b : Int) (bOver : Bool) :
    h.chanMoved n (g.rangeDecide cfg n w a aOver b bOver) :=
  .ite (.ite ((hg.chkAbort hn w).setChan _ _) (hg.setChan _ _)) hg

theorem frontAt (cfg pcfg : Word) (w : Nat) (swap : Bool) : h.chanMoved n (g.frontAt cfg pcfg n w swap) := by
  have haborted (c : Bool) : h.chanMoved n (if c then g.chkAbort n w else g) := .ite (hg.chkAbort hn w) hg
  have hpositions (c keep : Bool) : h.chanMoved n
      ((if keep then (if c then g.chkAbort n w else g) else (if c then g.chkAbort n w else g).highRange (frontOf cfg) n).element
        (frontOf cfg) n) :=
    ((haborted c).ite ((haborted c).highRange hn _)).element hn _
  exact .ite (((hpositions _ _).setChst hn _ _).setChan _ _) (((hpositions _ _).setChst hn _ _).setChan _ _)

/-- The changes made at a word instant after its words: a change of settings that is due, else the swap of an RTD channel. -/
theorem changesAt {due swap : Prop} [Decidable due] [Decidable swap] (cfg pcfg : Word) (w v : Nat) (x : Bool) (c : ChanHw) :
    h.chanMoved n (if due then g.frontAt cfg pcfg n w x else if swap then (g.setF (AIN_CHST n) AIN_CHST_SWAP_PH v).setChan n c else g) :=
  .ite (hg.frontAt hn ..) (.ite ((hg.setChst hn _ _).setChan _ _) hg)

end

end Shared.chanMoved

/-! ### The words of an instant -/

/-- The word that path `p` of channel `n` completes at instant `w`: stale while more than one stale word is left (R114). -/
structure Shared.isWordOf (h : Shared) (n w : Nat) (p : Path) (code : BitVec 24) (x : TWord) : Prop where
  ch : x.ch = n
  path : x.path = p
  instant : x.w = w
  code : x.code = code
  stale : x.stale = decide (1 < (h.chan n).settle)

/-- The words of both paths queued on the links of their tile. -/
def Shared.queueBoth (h : Shared) (wa wb : TWord) : Shared := (h.queueWord wa).queueWord wb

section
variable (h : Shared) {n : Nat}

theorem Shared.queueBoth_queues {g : Shared} {w : Nat} {a b : BitVec 24} {wa wb : TWord} (ha : g.isWordOf n w .A a wa)
    (hb : g.isWordOf n w .B b wb) :
    (h.queueBoth wa wb).regs = h.regs ∧ ((h.queueBoth wa wb).tile (tileOf n)).qA = (h.tile (tileOf n)).qA ++ [wa] ∧
      ((h.queueBoth wa wb).tile (tileOf n)).qB = (h.tile (tileOf n)).qB ++ [wb] := by
  simp only [Shared.queueBoth, Shared.queueWord, ha.path, hb.path, ha.ch, hb.ch, Shared.tile_setTile_same]
  exact ⟨rfl, trivial, trivial⟩

theorem Shared.rangeStep_settle (pcfg : Word) (n : Nat) : ((h.rangeStep pcfg n).chan n).settle = (h.chan n).settle := by
  unfold Shared.rangeStep
  dsimp only
  split
  · rw [Shared.chan_setChan_same]
  · split
    · rw [Shared.chan_setChan_same]
    · rfl

/-- A range step moves no restart on, so that it leaves what makes a word stale. -/
theorem Shared.stale_of_rangeStep (pcfg : Word) (n : Nat) :
    (((h.rangeStep pcfg n).chan n).settle - 1 != 0) = decide (1 < (h.chan n).settle) := by
  rw [h.rangeStep_settle, Bool.eq_iff_iff, bne_iff_ne, decide_eq_true_iff]
  omega

variable (cfg pcfg : Word) (a b : BitVec 24) (aOver bOver sat outA outB : Bool) (w : Nat) (hn : n < 96)
include hn

/-- After a range step and the words of both paths only the channel itself moves: its over-range flags, its counts, the range decision,
and the changes that are due. -/
theorem Shared.words_chanMoved : ∃ wa wb, h.isWordOf n w .A a wa ∧ h.isWordOf n w .B b wb ∧
    ((h.rangeStep pcfg n).queueBoth wa wb).chanMoved n (h.words cfg pcfg n a b aOver bOver sat outA outB w) :=
  have hstale := h.stale_of_rangeStep pcfg n
  ⟨_, _, ⟨rfl, rfl, rfl, rfl, hstale⟩, ⟨rfl, rfl, rfl, rfl, hstale⟩,
    ((((Shared.chanMoved.refl n _).setChst hn AIN_CHST_OVR_A _).setChst hn AIN_CHST_OVR_B _).setChan n _).rangeDecide hn ..
      |>.changesAt hn ..⟩

/-- A running channel queues one word of each path; of the registers its two status words alone may change. -/
theorem Shared.words_queues : ∃ wa wb, h.isWordOf n w .A a wa ∧ h.isWordOf n w .B b wb ∧
    h.regsBut [AIN_CHST n, AIN_INJST n] (h.words cfg pcfg n a b aOver bOver sat outA outB w) ∧
    ((h.words cfg pcfg n a b aOver bOver sat outA outB w).tile (tileOf n)).qA = (h.tile (tileOf n)).qA ++ [wa] ∧
    ((h.words cfg pcfg n a b aOver bOver sat outA outB w).tile (tileOf n)).qB = (h.tile (tileOf n)).qB ++ [wb] := by
  have hstep : h.chanMoved n (h.rangeStep pcfg n) := (Shared.chanMoved.refl n h).rangeStep hn pcfg
  obtain ⟨wa, wb, ha, hb, hwords⟩ := h.words_chanMoved cfg pcfg a b aOver bOver sat outA outB w hn
  obtain ⟨hregs, hqA, hqB⟩ := (h.rangeStep pcfg n).queueBoth_queues ha hb
  refine ⟨wa, wb, ha, hb, (hstep.regs.trans (Shared.regsBut_of_regs_eq _ hregs)).trans hwords.regs, ?_, ?_⟩
  · rw [hwords.qA, hqA, hstep.qA]
  · rw [hwords.qB, hqB, hstep.qB]

end

/-! ### A word instant of a channel (R34, R56, R82, R113) -/

section
variable {s : State} {n w : Nat} (a b : BitVec 24) (aOver bOver sat : Bool) (hloaded : (s.sh.tile (tileOf n)).loaded = true)
include hloaded

/-- A channel new to the image takes over its settings; its chains start. -/
theorem State.wordInstant_of_new (hfront : AIN_CFG_SENSOR.get (s.sh.chan n).front = 0) (hsensor : AIN_CFG_SENSOR.get (s.ainCfg n) ≠ 0)
    (hinstant : isWordInstant (AIN_PCFG_RATE.get (s.ainPcfg n)) w = true) (hlast : (s.sh.chan n).lastW < w) :
    s.wordInstant n a aOver b bOver sat w = s.withSh ((s.sh.loadChan (s.ainCfg n) (s.ainPcfg n) n).setChan n
      { ((s.sh.loadChan (s.ainCfg n) (s.ainPcfg n) n).chan n).restart false with
        started := true, lastW := w, excBusy := isRtd (AIN_CFG_SENSOR.get (s.ainCfg n)) }) := by
  simp [State.wordInstant, State.rateOf, hloaded, hfront, hsensor, hinstant, hlast]

section
variable (hfront : AIN_CFG_SENSOR.get (s.sh.chan n).front ≠ 0) (hinstant : isWordInstant (s.sh.chan n).rate w = true)
  (hlast : (s.sh.chan n).lastW < w)
include hfront hinstant hlast

/-- A channel not yet started: its chains start. -/
theorem State.wordInstant_of_unstarted (htrip : s.sh.on (AIN_CHST n) AIN_CHST_SHUNT_TRIP = false) (hstart : (s.sh.chan n).started = false)
    (hdue : (s.sh.chan n).due = false) :
    s.wordInstant n a aOver b bOver sat w = s.withSh (s.sh.setChan n { (s.sh.chan n).restart false with started := true, lastW := w }) := by
  simp [State.wordInstant, State.rateOf, Shared.recloseDue, hloaded, hfront, hinstant, hlast, htrip, hstart, hdue]

/-- A running channel sends its words. -/
theorem State.wordInstant_of_running (htrip : s.sh.on (AIN_CHST n) AIN_CHST_SHUNT_TRIP = false) (hstart : (s.sh.chan n).started = true) :
    s.wordInstant n a aOver b bOver sat w =
      s.withSh (s.sh.words (s.ainCfg n) (s.ainPcfg n) n a b aOver bOver sat (s.pathOut n .A) (s.pathOut n .B) w) := by
  simp [State.wordInstant, State.rateOf, Shared.recloseDue, hloaded, hfront, hinstant, hlast, htrip, hstart]

/-- A tripped channel that may not reclose yet: nothing but its own state in the tile moves. -/
theorem State.wordInstant_of_tripped (htrip : s.sh.on (AIN_CHST n) AIN_CHST_SHUNT_TRIP = true)
    (hsecond : w < (s.sh.chan n).tripAt + 1000000000) (hretry : (s.sh.chan n).retry = false) (hdue : (s.sh.chan n).due = false) :
    ∃ c, s.wordInstant n a aOver b bOver sat w = s.withSh (s.sh.setChan n c) := by
  refine ⟨if (s.sh.chan n).started then { s.sh.chan n with lastW := w }
    else { (s.sh.chan n).restart false with started := true, lastW := w }, ?_⟩
  simp [State.wordInstant, State.rateOf, Shared.recloseDue, hloaded, hfront, hinstant, hlast, htrip, hretry, hdue, hsecond]

end
end

/-! ### Reference junctions (R78–R80) -/

section
variable (h : Shared) (cfg : Word) {t : Nat}

theorem Shared.regsBut.cjcUse {ks : List Nat} {h g : Shared} (hg : h.regsBut ks g) (ht : t < 12) (hstat : AIN_TSTAT t ∈ ks)
    (hcjc : AIN_CJC t ∈ ks) : h.regsBut ks (g.cjcUse cfg t) :=
  (hg.setB (by unfold AIN_TSTAT; omega) hstat _ _).wr (by unfold AIN_CJC; omega) hcjc _

theorem Shared.cjcUse_rd_CJCR : (h.cjcUse cfg t).rd (AIN_CJCR t) = h.rd (AIN_CJCR t) :=
  (Shared.rd_wr_ne _ _ _ _ (by unfold AIN_CJCR AIN_CJC; omega)).trans (Shared.rd_setF_ne _ _ _ _ _ (by unfold AIN_CJCR AIN_TSTAT; omega))

/-- AIN_CJC is another register than AIN_TSTAT. -/
theorem Shared.cjcUse_on_TSTAT (f : Fld) : (h.cjcUse cfg t).on (AIN_TSTAT t) f =
    (h.setB (AIN_TSTAT t) AIN_TSTAT_CJC_FALLBACK (AIN_TCFG_FIXED.on cfg || h.on (AIN_TSTAT t) AIN_TSTAT_CJC_FAULT)).on (AIN_TSTAT t) f := by
  unfold Shared.cjcUse Shared.on
  dsimp only
  rw [Shared.fld_wr_ne _ _ _ _ _ (by unfold AIN_TSTAT AIN_CJC; omega)]

theorem Shared.cjcUse_fault :
    (h.cjcUse cfg t).on (AIN_TSTAT t) AIN_TSTAT_CJC_FAULT = h.on (AIN_TSTAT t) AIN_TSTAT_CJC_FAULT := by
  rw [h.cjcUse_on_TSTAT cfg, Shared.on_setB_field _ _ _ _ _ (by decide)]

theorem Shared.cjcFault_regsBut (ht : t < 12) (fault : Bool) :
    h.regsBut [AIN_TSTAT t, AIN_CJC t] ((h.setB (AIN_TSTAT t) AIN_TSTAT_CJC_FAULT fault).cjcUse cfg t) :=
  Shared.regsBut.cjcUse cfg ((Shared.regsBut.refl _ h).setB (by unfold AIN_TSTAT; omega) (by simp) _ _) ht (by simp) (by simp)

/-- Under CJC_FAULT the fallback value is in use. -/
theorem Shared.cjcUse_of_fault (hfault : h.on (AIN_TSTAT t) AIN_TSTAT_CJC_FAULT = true) :
    (h.cjcUse cfg t).on (AIN_TSTAT t) AIN_TSTAT_CJC_FALLBACK = true ∧ (h.cjcUse cfg t).rd (AIN_CJC t) = fallbackTemp cfg := by
  refine ⟨?_, ?_⟩
  · rw [h.cjcUse_on_TSTAT cfg, Shared.on_setB_same _ _ _ _ (by decide), hfault, Bool.or_true]
  · simp [Shared.cjcUse, hfault]

end

section
variable {s : State} {t : Nat}

/-- A word of the reference junction that is taken at its instant. -/
theorem State.cjcWord_of_due {w : Nat} (res : Word) (hloaded : (s.sh.tile t).loaded = true) (hen : AIN_TCFG_CJC_EN.on (s.tcfg t) = true)
    (hfixed : AIN_TCFG_FIXED.on (s.tcfg t) = false) (hlink : s.sh.tileLink t .A = true ∨ s.sh.tileLink t .B = true)
    (hinstant : isWordInstant 3 w = true) (hw : s.sh.gt < w) (hlast : (s.sh.tile t).cjcAt < w) :
    ∃ x, s.cjcWord t res w = (s.withSh ((s.sh.setTile t x).wr (AIN_CJCR t) res)).cjcUse t := by
  have hup : (s.sh.tileLink t .A || s.sh.tileLink t .B) = true := by simpa using hlink
  unfold State.cjcWord
  dsimp only
  rw [if_pos (by simp [hloaded, hen, hfixed, hup, hinstant, hw, hlast])]
  exact ⟨_, rfl⟩

theorem State.cjcChange_set (hclear : s.sh.on (AIN_TSTAT t) AIN_TSTAT_CJC_FAULT = false) (hbad : (s.sh.tile t).cjcBad = 2) :
    s.cjcChange t =
      (s.withSh ((s.sh.setB (AIN_TSTAT t) AIN_TSTAT_CJC_FAULT true).cjcUse (s.tcfg t) t)).taking (Lane.evCut · (evCjc t)) := by
  unfold State.cjcChange
  dsimp only
  rw [if_pos (by simp [hclear, hbad])]
  rfl

theorem State.cjcChange_clear (hset : s.sh.on (AIN_TSTAT t) AIN_TSTAT_CJC_FAULT = true) (hgood : (s.sh.tile t).cjcGood = 10) :
    s.cjcChange t = s.withSh ((s.sh.setB (AIN_TSTAT t) AIN_TSTAT_CJC_FAULT false).cjcUse (s.tcfg t) t) := by
  unfold State.cjcChange
  dsimp only
  rw [if_neg (by simp [hset]), if_pos (by simp [hset, hgood])]
  rfl

end

/-- Settles O10: each clause is the case of its row, with what the operation of that case leaves alone. -/
theorem tileWordRows : Obligations.TileWordRows := by
  refine ⟨fun ch a b aOver bOver sat dt s hloaded hfront hsensor hinstant hlast => ?new,
    fun ch a b aOver bOver sat dt s hloaded hfront hinstant hlast htrip hstart hdue => ?unstarted,
    fun ch a b aOver bOver sat dt s hloaded hfront hinstant hlast htrip hstart => ?running,
    fun ch a b aOver bOver sat dt s hloaded hfront hinstant hlast htrip hsecond hretry hdue => ?tripped,
    fun ch a b aOver bOver sat dt s hloaded hfront hinstant hlast htrip hstart hsettle => ?settled,
    fun tile res dt s hloaded hen hfixed hlink hinstant hdt hlast => ?cjcWord,
    fun tile s hclear hbad => ?cjcSet, fun tile s hset hgood => ?cjcClear⟩
  case new =>
    have hkey : AIN_CHST ch < 2 ^ 20 := by unfold AIN_CHST; omega
    have hrow := State.wordInstant_of_new a b aOver bOver sat hloaded hfront hsensor hinstant hlast
    refine ⟨_, congrArg Host.Outcome.next hrow, s.withSh_lanesKept _, ?_⟩
    have hregs := (Shared.regsBut.refl [AIN_CHST ch] s.sh).loadChan hkey (List.mem_singleton_self _) (s.ainCfg ch) (s.ainPcfg ch)
    rw [State.withSh_sh, Shared.setChan_tiles, Shared.loadChan_tiles]
    refine ⟨hregs.setChan _ _, rfl, ?_⟩
    rw [Shared.chan_setChan_same, Shared.loadChan_chan, Shared.on_setChan, Shared.loadChan_phase]
    exact ⟨rfl, rfl, rfl, rfl, rfl⟩
  case unstarted =>
    have hrow := State.wordInstant_of_unstarted a b aOver bOver sat hloaded hfront hinstant hlast htrip hstart hdue
    refine ⟨_, congrArg Host.Outcome.next hrow, s.withSh_lanesKept _, rfl, rfl, ?_⟩
    rw [State.withSh_sh, Shared.chan_setChan_same]
    exact ⟨rfl, rfl⟩
  case running =>
    obtain ⟨wa, wb, ha, hb, hregs, hqA, hqB⟩ := s.sh.words_queues (s.ainCfg ch) (s.ainPcfg ch) a b aOver bOver sat
      (s.pathOut ch .A) (s.pathOut ch .B) (s.sh.gt + dt) ch.isLt
    have hrow := State.wordInstant_of_running a b aOver bOver sat hloaded hfront hinstant hlast htrip hstart
    exact ⟨_, wa, wb, congrArg Host.Outcome.next hrow, s.withSh_lanesKept _, hregs, hqA, hqB, ha.ch, ha.path, ha.instant, ha.code,
      hb.ch, hb.path, hb.instant, hb.code, ha.stale, hb.stale.trans ha.stale.symm⟩
  case tripped =>
    obtain ⟨c, hc⟩ := State.wordInstant_of_tripped a b aOver bOver sat hloaded hfront hinstant hlast htrip hsecond hretry hdue
    exact ⟨_, congrArg Host.Outcome.next hc, s.withSh_lanesKept _, rfl, rfl⟩
  case settled =>
    obtain ⟨wa, wb, ha, hb, hregs, hqA, hqB⟩ := s.sh.words_queues (s.ainCfg ch) (s.ainPcfg ch) a b aOver bOver sat
      (s.pathOut ch .A) (s.pathOut ch .B) (s.sh.gt + dt) ch.isLt
    have hrunning := State.wordInstant_of_running a b aOver bOver sat hloaded hfront hinstant hlast htrip hstart
    have hsettled : decide (1 < (s.sh.chan ch).settle) = false := by rw [hsettle]; rfl
    exact ⟨_, wa, wb, congrArg Host.Outcome.next ((if_pos hsettle).trans hrunning), s.withSh_lanesKept _, hregs, hqA, hqB, ha.code,
      ha.stale.trans hsettled, hb.code, hb.stale.trans hsettled⟩
  case cjcWord =>
    obtain ⟨x, hx⟩ := State.cjcWord_of_due res hloaded hen hfixed hlink hinstant (Nat.lt_add_of_pos_right hdt) hlast
    refine ⟨_, congrArg Host.Outcome.next hx, ⟨rfl, rfl, rfl, rfl⟩, ?_, ?_⟩
    · have hres : s.sh.regsBut [AIN_TSTAT tile, AIN_CJC tile, AIN_CJCR tile] ((s.sh.setTile tile x).wr (AIN_CJCR tile) res) :=
        Shared.regsBut.wr (Shared.regsBut_of_regs_eq _ rfl) (by unfold AIN_CJCR; omega) (by simp) res
      exact hres.cjcUse _ tile.isLt (by simp) (by simp)
    · exact (Shared.cjcUse_rd_CJCR ..).trans (Shared.rd_wr_same ..)
  case cjcSet =>
    have hfault : (s.sh.setB (AIN_TSTAT tile) AIN_TSTAT_CJC_FAULT true).on (AIN_TSTAT tile) AIN_TSTAT_CJC_FAULT = true :=
      Shared.on_setB_same _ _ _ _ (by decide)
    obtain ⟨hfallback, hvalue⟩ := Shared.cjcUse_of_fault _ (s.tcfg tile) hfault
    refine ⟨_, congrArg Host.Outcome.next (State.cjcChange_set hclear hbad), s.sh.cjcFault_regsBut _ tile.isLt true, ?_, hfallback,
      hvalue, fun i htakes => ?_⟩
    · exact (Shared.cjcUse_fault ..).trans hfault
    · rw [State.taking_lane, State.withSh_lane, if_pos htakes]
  case cjcClear =>
    refine ⟨_, congrArg Host.Outcome.next (State.cjcChange_clear hset hgood), s.withSh_lanesKept _,
      s.sh.cjcFault_regsBut _ tile.isLt false, ?_⟩
    exact (Shared.cjcUse_fault ..).trans (Shared.on_setB_same _ _ _ _ (by decide))

end Sys2Proof.Machine
end

section
/-! Tile links (R19, R35, R56, R57): what a frame leaves in its link, the word it brings into the cut of the lane of that link, and the
loading of a tile, which moves of AIN_TSTAT the fallback flag alone. -/

namespace Sys2Proof.Machine

/-! ### The queue, run and last instant of a link -/

section
variable (x : TileHw) (p : Path)

@[simp] theorem TileHw.q_setQ (q : List TWord) : (x.setQ p q).q p = q := by cases p <;> rfl
@[simp] theorem TileHw.setQ_q : x.setQ p (x.q p) = x := by cases p <;> rfl
@[simp] theorem TileHw.run_setQ (q : List TWord) : (x.setQ p q).run p = x.run p := by cases p <;> rfl
@[simp] theorem TileHw.q_setRun (r : Nat) : (x.setRun p r).q p = x.q p := by cases p <;> rfl
@[simp] theorem TileHw.run_setRun (r : Nat) : (x.setRun p r).run p = r := by cases p <;> rfl
@[simp] theorem TileHw.q_setLast (w : Nat) : (x.setLast p w).q p = x.q p := by cases p <;> rfl
@[simp] theorem TileHw.run_setLast (w : Nat) : (x.setLast p w).run p = x.run p := by cases p <;> rfl
@[simp] theorem TileHw.last_setLast (w : Nat) : (x.setLast p w).last p = w := by cases p <;> rfl

@[simp] theorem TileHw.run_prune (w : Nat) : (x.prune p w).run p = x.run p := x.run_setQ p _

/-- The link after a good frame at instant `w`: its run is one longer, up to 8, and its silence begins anew. -/
def TileHw.heard (w : Nat) : TileHw := (x.setRun p (min 8 (x.run p + 1))).setLast p w

@[simp] theorem TileHw.q_heard (w : Nat) : (x.heard p w).q p = x.q p := by rw [TileHw.heard, TileHw.q_setLast, TileHw.q_setRun]
@[simp] theorem TileHw.last_heard (w : Nat) : (x.heard p w).last p = w := TileHw.last_setLast ..
@[simp] theorem TileHw.run_heard (w : Nat) : (x.heard p w).run p = min 8 (x.run p + 1) := by
  rw [TileHw.heard, TileHw.run_setLast, TileHw.run_setRun]

/-- The oldest word stays queued for 25 µs. -/
theorem TileHw.q_prune_cons {w : Nat} {y : TWord} {ys : List TWord} (hq : x.q p = y :: ys) (hw : w ≤ y.w + 25000) :
    (x.prune p w).q p = y :: ys.filter (fun z => w ≤ z.w + 25000) := by
  rw [TileHw.prune, TileHw.q_setQ, hq, List.filter_cons_of_pos (by simpa using hw)]

end

/-- A change of a tile's own state moves no register. -/
@[simp] theorem Shared.setTile_regs (h : Shared) (t : Nat) (x : TileHw) : (h.setTile t x).regs = h.regs := rfl
@[simp] theorem Shared.tileLink_setTile (h : Shared) (t u : Nat) (x : TileHw) (p : Path) :
    (h.setTile t x).tileLink u p = h.tileLink u p := rfl

/-! ### A word that reaches its lane -/

theorem Lane.takeWord_words {l : Lane} (w : TWord) (hserves : l.serves = true) : (l.takeWord w).cut.words = l.cut.words ++ [w] := by
  unfold Lane.takeWord
  rw [if_pos hserves]

/-- A link that is up brings the oldest word of its queue to its lane, where that word belongs to the coming cut. -/
theorem State.deliver_one {s : State} {t : Nat} {p : Path} {w : TWord} {ws : List TWord} (hlink : s.sh.tileLink t p = true)
    (hq : (s.sh.tile t).q p = w :: ws) (hcut : s.sh.gt < w.w) :
    s.deliver t p 1 = (s.withSh (s.sh.setTile t ((s.sh.tile t).setQ p ws))).upd (laneOfPath p) (Lane.takeWord · w) := by
  simp [State.deliver, State.withSh, hq, hlink, hcut]

/-! ### Frames on a link -/

section
variable {s : State} {t : Nat} {p : Path}

theorem State.tileLinkUp_of_up (hlink : s.sh.tileLink t p = true) : s.tileLinkUp t p = s := by simp [State.tileLinkUp, hlink]

theorem State.tileLinkUp_of_short (hrun : (s.sh.tile t).run p < 8) : s.tileLinkUp t p = s := by
  simp [State.tileLinkUp, Nat.not_le_of_lt hrun]

section
variable (hpwr : s.sh.on (AIN_TSTAT t) AIN_TSTAT_TILE_PWR = true)
include hpwr

/-- A corrupt frame ends the run and is counted. -/
theorem State.tileFrame_of_corrupt (word : Bool) (w : Nat) (hup : s.tileLinkUp t p = s) :
    ∃ x, x.run p = 0 ∧ s.tileFrame t p word false w = s.withSh ((s.sh.setTile t x).bump (AIN_TSTAT t) (linkErr p)) := by
  have hframe : s.tileFrame t p word false w = s.withSh ((s.sh.setTile t
      ((((s.sh.tile t).prune p w).setQ p ((((s.sh.tile t).prune p w).q p).drop (if word then 1 else 0))).setRun p 0)).bump
      (AIN_TSTAT t) (linkErr p)) := by
    simp [State.tileFrame, State.withSh, hpwr, hup]
  exact ⟨_, TileHw.run_setRun .., hframe⟩

/-- A good idle frame on a link that stays down lengthens the run. -/
theorem State.tileFrame_idle_of_down (w : Nat) (hlink : s.sh.tileLink t p = false) (hrun : (s.sh.tile t).run p < 8) :
    ∃ x, x.run p = (s.sh.tile t).run p + 1 ∧ x.last p = w ∧
      s.tileFrame t p false true w = s.withSh ((s.sh.setTile t x).setTile t x) := by
  have hframe : s.tileFrame t p false true w = s.withSh ((s.sh.setTile t (((s.sh.tile t).prune p w).heard p w)).setTile t
      (((s.sh.tile t).prune p w).heard p w)) := by
    simp [State.tileFrame, State.withSh, TileHw.heard, hpwr, State.tileLinkUp_of_short hrun, hlink]
  refine ⟨_, ?_, TileHw.last_heard .., hframe⟩
  rw [TileHw.run_heard, TileHw.run_prune, Nat.min_eq_right hrun]

/-- A good word frame in time brings the oldest waiting word to the lane of the link. -/
theorem State.tileFrame_word_of_up {w : Nat} {y : TWord} {ys : List TWord} (hlink : s.sh.tileLink t p = true)
    (hq : (s.sh.tile t).q p = y :: ys) (hcut : s.sh.gt < y.w) (hw : w ≤ y.w + 25000) :
    ∃ x z, s.tileFrame t p true true w = (s.withSh ((s.sh.setTile t x).setTile t z)).upd (laneOfPath p) (Lane.takeWord · y) := by
  have hframe : s.tileFrame t p true true w =
      (s.withSh (s.sh.setTile t (((s.sh.tile t).prune p w).heard p w))).deliver t p 1 := by
    simp [State.tileFrame, State.withSh, TileHw.heard, hpwr, State.tileLinkUp_of_up hlink, hlink]
  have hqueue : ((s.sh.setTile t (((s.sh.tile t).prune p w).heard p w)).tile t).q p = y :: ys.filter (fun z => w ≤ z.w + 25000) := by
    rw [Shared.tile_setTile_same, TileHw.q_heard, TileHw.q_prune_cons _ _ hq hw]
  exact ⟨_, _, hframe.trans (State.deliver_one hlink hqueue hcut)⟩

end

/-! ### Loading a tile (R56) -/

/-- Loading its channels leaves the status word of a tile alone. -/
theorem Shared.loadChans_rd_TSTAT (h : Shared) (cfg pcfg : Nat → Word) (ht : t < 12) :
    ((upTo 8).foldl (fun g i => g.loadChan (cfg i) (pcfg i) (8 * t + i)) h).rd (AIN_TSTAT t) = h.rd (AIN_TSTAT t) := by
  refine List.foldlRecOn (motive := fun g : Shared => g.rd (AIN_TSTAT t) = h.rd (AIN_TSTAT t)) _ _ rfl fun g hg i hi => ?_
  have hi8 : i < 8 := List.mem_range.mp hi
  have hframe : g.regsBut [AIN_CHST (8 * t + i)] (g.loadChan (cfg i) (pcfg i) (8 * t + i)) :=
    (Shared.regsBut.refl _ g).loadChan (by unfold AIN_CHST; omega) (List.mem_singleton_self _) _ _
  exact (hframe _ (by unfold AIN_TSTAT; omega) (by simp only [List.mem_singleton, AIN_TSTAT, AIN_CHST]; omega)).trans hg

/-- Where a tile is loaded or not, no lane changes, and of its status word the fallback flag alone. -/
theorem State.loadTile_eq_withSh (s : State) (ht : t < 12) : ∃ h, s.loadTile t = s.withSh h ∧
    ∀ f, fldsApart f AIN_TSTAT_CJC_FALLBACK → h.on (AIN_TSTAT t) f = s.sh.on (AIN_TSTAT t) f := by
  unfold State.loadTile
  split
  case isTrue =>
    refine ⟨_, rfl, fun f hf => ?_⟩
    have hchans := s.sh.loadChans_rd_TSTAT (fun i => s.ainCfg (8 * t + i)) (fun i => s.ainPcfg (8 * t + i)) ht
    rw [Shared.cjcUse_on_TSTAT, Shared.on_setB_field _ _ _ _ _ hf]
    exact congrArg (f.get · != 0) hchans
  case isFalse => exact ⟨s.sh, rfl, fun _ _ => rfl⟩

/-! ### A link that comes up and one that is lost (R57) -/

theorem State.tileLinkUp_of_run (hlink : s.sh.tileLink t p = false) (hrun : 8 ≤ (s.sh.tile t).run p)
    (hpwr : s.sh.on (AIN_TSTAT t) AIN_TSTAT_TILE_PWR = true) :
    s.tileLinkUp t p = (s.withSh (s.sh.setB (AIN_TSTAT t) (linkBit p) true)).loadTile t := by
  unfold State.tileLinkUp
  rw [if_pos (by simp [hlink, hrun, hpwr])]
  rfl

theorem State.tileLinkLost_of_silence {w : Nat} (hlink : s.sh.tileLink t p = true) (hw : (s.sh.tile t).last p + 50000 ≤ w) :
    s.tileLinkLost t p w =
      (s.withSh ((s.sh.setB (AIN_TSTAT t) (linkBit p) false).setTile t (((s.sh.tile t).setQ p []).setRun p 0))).taking
        (Lane.evCut · (evTileLink t)) := by
  unfold State.tileLinkLost
  rw [if_pos (by simp [hlink, hw])]
  rfl

theorem State.tileSupply_of_domainOn (hdomain : s.sh.on (PWR_DST (8 + t / 4)) PWR_DST_ON = true) :
    s.tileSupply t = (s.withSh (s.sh.setB (AIN_TSTAT t) AIN_TSTAT_TILE_PWR true)).loadTile t := by
  unfold State.tileSupply
  rw [hdomain]
  rfl

end

/-- A bit of the status word of a tile that is set before the tile may load stands after it. -/
theorem State.loadTile_after_setB (s : State) {t : Nat} (ht : t < 12) {f : Fld} (hbit : f.lo + f.width ≤ 32 ∧ f.width = 1)
    (hf : fldsApart f AIN_TSTAT_CJC_FALLBACK) : ∃ h, (s.withSh (s.sh.setB (AIN_TSTAT t) f true)).loadTile t = s.withSh h ∧
      h.on (AIN_TSTAT t) f = true := by
  obtain ⟨h, hload, hstat⟩ := (s.withSh (s.sh.setB (AIN_TSTAT t) f true)).loadTile_eq_withSh ht
  exact ⟨h, hload, (hstat f hf).trans (Shared.on_setB_same _ _ _ _ hbit)⟩

/-- Settles O9: each clause is the case of its row, with what the operation of that case leaves alone. -/
theorem tileLinksFollowTheirFrames : Obligations.TileLinksFollowTheirFrames := by
  have hkey (tile : Fin 12) : AIN_TSTAT tile < 2 ^ 20 := by unfold AIN_TSTAT; omega
  have hbit (p : Path) : (linkBit p).lo + (linkBit p).width ≤ 32 ∧ (linkBit p).width = 1 := by cases p <;> decide
  refine ⟨fun tile s hdomain => ?supply, fun tile link dt s hpwr hlink hrun => ?idle, fun tile link dt s hpwr hlink => ?corrupt,
    fun tile link dt w ws s hpwr hlink hq hcut hw hserves => ?word, fun tile link s hpwr hlink hrun => ?up,
    fun tile link dt s hlink hsilent => ?lost⟩
  case supply =>
    obtain ⟨h, hload, hset⟩ := s.loadTile_after_setB tile.isLt (f := AIN_TSTAT_TILE_PWR) (by decide) (by decide)
    exact ⟨_, congrArg Host.Outcome.next ((State.tileSupply_of_domainOn hdomain).trans hload), s.withSh_lanesKept h, hset⟩
  case idle =>
    obtain ⟨x, hxrun, hxlast, hrow⟩ := State.tileFrame_idle_of_down hpwr (s.sh.gt + dt) hlink hrun
    refine ⟨_, congrArg Host.Outcome.next hrow, s.withSh_lanesKept _, rfl, ?_⟩
    rw [State.withSh_sh, Shared.tile_setTile_same]
    exact ⟨hxrun, hxlast⟩
  case corrupt =>
    obtain ⟨x, hx, hrow⟩ := State.tileFrame_of_corrupt hpwr true (s.sh.gt + dt) (State.tileLinkUp_of_up hlink)
    have herr : (linkErr link).lo + (linkErr link).width ≤ 32 ∧ 2 ^ (linkErr link).width - 1 = 255 := by cases link <;> decide
    obtain ⟨hwidth, hmax⟩ := herr
    refine ⟨_, congrArg Host.Outcome.next hrow, s.withSh_lanesKept _, ?_, ?_, ?_⟩
    · exact (congrArg (TileHw.run · link) (s.sh.tile_setTile_same tile x)).trans hx
    · exact (Shared.regsBut_of_regs_eq _ (s.sh.setTile_regs tile x)).setF (hkey tile) (List.mem_singleton_self _) _ _
    · rw [State.withSh_sh, Shared.fld_bump_same _ _ _ hwidth, hmax]
      rfl
  case word =>
    obtain ⟨x, z, hrow⟩ := State.tileFrame_word_of_up hpwr hlink hq hcut hw
    refine ⟨_, congrArg Host.Outcome.next hrow, ?_, ?_, ?_⟩
    · rw [State.upd_lane, State.withSh_lane, Lane.takeWord_words w hserves]
    · rw [State.upd_lane_other, State.withSh_lane]
    · rw [State.upd_sh]
      rfl
  case up =>
    have hapart : fldsApart (linkBit link) AIN_TSTAT_CJC_FALLBACK := by cases link <;> decide
    obtain ⟨h, hload, hset⟩ := s.loadTile_after_setB tile.isLt (hbit link) hapart
    exact ⟨_, congrArg Host.Outcome.next ((State.tileLinkUp_of_run hlink hrun hpwr).trans hload), s.withSh_lanesKept h, hset⟩
  case lost =>
    refine ⟨_, congrArg Host.Outcome.next (State.tileLinkLost_of_silence hlink hsilent), ?_, ?_, ?_, fun i htakes => ?_⟩
    · rw [State.taking_sh, State.withSh_sh, Shared.tileLink_setTile]
      exact Shared.on_setB_same _ _ _ _ (hbit link)
    · rw [State.taking_sh, State.withSh_sh, Shared.tile_setTile_same, TileHw.q_setRun, TileHw.q_setQ]
    · exact (Shared.regsBut.refl _ s.sh).setB (hkey tile) (List.mem_singleton_self _) _ _
    · rw [State.taking_lane, State.withSh_lane, if_pos htakes]
      rfl

end Sys2Proof.Machine
end

section
/-! The commands of the analogue inputs (R83, R88–R90) at their effect boundary: what the row answers in AIN_CMDST of a lane that
computes, what it sets there, and the shunt it closes in the tile. -/

namespace Sys2Proof.Machine

/-! ### A tripped shunt that recloses (R83) -/

section
variable (h : Shared) (n : Nat)

/-- A write of AIN_CHST beside SHUNT_TRIP leaves the trip. -/
theorem Shared.trip_setF (f : Fld) (v : Nat) (hf : fldsApart AIN_CHST_SHUNT_TRIP f) :
    (h.setF (AIN_CHST n) f v).on (AIN_CHST n) AIN_CHST_SHUNT_TRIP = h.on (AIN_CHST n) AIN_CHST_SHUNT_TRIP := by
  rw [Shared.on, Shared.fld_setF_field _ _ _ _ _ hf, ← Shared.on]

theorem Shared.trip_setInj (f : Fld) (v : Nat) :
    (h.setF (AIN_INJST n) f v).on (AIN_CHST n) AIN_CHST_SHUNT_TRIP = h.on (AIN_CHST n) AIN_CHST_SHUNT_TRIP := by
  rw [Shared.on, Shared.fld_setF_ne _ _ _ _ _ _ (by unfold AIN_CHST AIN_INJST; omega), ← Shared.on]

theorem Shared.trip_highRange (cfg : Word) :
    (h.highRange cfg n).on (AIN_CHST n) AIN_CHST_SHUNT_TRIP = h.on (AIN_CHST n) AIN_CHST_SHUNT_TRIP :=
  (Shared.trip_setF _ n _ _ (by decide)).trans (Shared.trip_setF _ n _ _ (by decide))

theorem Shared.trip_element (cfg : Word) :
    (h.element cfg n).on (AIN_CHST n) AIN_CHST_SHUNT_TRIP = h.on (AIN_CHST n) AIN_CHST_SHUNT_TRIP :=
  (Shared.trip_setF _ n _ _ (by decide)).trans (Shared.trip_setF _ n _ _ (by decide))

theorem Shared.trip_chkAbort (w : Nat) :
    (h.chkAbort n w).on (AIN_CHST n) AIN_CHST_SHUNT_TRIP = h.on (AIN_CHST n) AIN_CHST_SHUNT_TRIP := by
  unfold Shared.chkAbort
  split
  case isTrue hrun =>
    have hch : (h.tile (tileOf n)).chkCh = n := by
      simp only [Shared.chkOn, Bool.and_eq_true, beq_iff_eq] at hrun
      exact hrun.1.2
    have hinj (p : Path) : fldsApart AIN_CHST_SHUNT_TRIP (injFld p) := by cases p <;> decide
    rw [Shared.bump, Shared.trip_setInj, Shared.chkEnd, hch, Shared.setB, Shared.trip_setInj]
    exact Shared.trip_setF _ n _ _ (hinj _)
  case isFalse => rfl

/-- A change of settings leaves a trip of the shunt. -/
theorem Shared.trip_frontAt (cfg pcfg : Word) (w : Nat) (swap : Bool) :
    (h.frontAt cfg pcfg n w swap).on (AIN_CHST n) AIN_CHST_SHUNT_TRIP = h.on (AIN_CHST n) AIN_CHST_SHUNT_TRIP := by
  have haborted (c : Bool) : (if c then h.chkAbort n w else h).on (AIN_CHST n) AIN_CHST_SHUNT_TRIP =
      h.on (AIN_CHST n) AIN_CHST_SHUNT_TRIP := by
    cases c
    · rfl
    · exact h.trip_chkAbort n w
  have hpositions (c keep : Bool) :
      ((if keep then (if c then h.chkAbort n w else h) else (if c then h.chkAbort n w else h).highRange (frontOf cfg) n).element
        (frontOf cfg) n).on (AIN_CHST n) AIN_CHST_SHUNT_TRIP = h.on (AIN_CHST n) AIN_CHST_SHUNT_TRIP := by
    rw [Shared.trip_element]
    cases keep
    · exact (Shared.trip_highRange _ n _).trans (haborted c)
    · exact haborted c
  unfold Shared.frontAt
  dsimp only
  split <;> exact (Shared.trip_setF _ n _ _ (by decide)).trans (hpositions _ _)

/-- A shunt that recloses has no trip, whatever change of settings is made with it. -/
theorem Shared.trip_recloseAt (cfg pcfg : Word) (w : Nat) : (h.recloseAt cfg pcfg n w).on (AIN_CHST n) AIN_CHST_SHUNT_TRIP = false := by
  have hreclosed : (h.reclose n w).on (AIN_CHST n) AIN_CHST_SHUNT_TRIP = false := by
    rw [Shared.reclose, Shared.on_setChan, Shared.trip_element, Shared.on_setB_same _ _ _ _ (by decide)]
  unfold Shared.recloseAt
  dsimp only
  split
  · exact (Shared.trip_frontAt ..).trans hreclosed
  · exact hreclosed

end

theorem Shared.chanMoved.recloseAt {n : Nat} {h g : Shared} (hg : h.chanMoved n g) (hn : n < 96) (cfg pcfg : Word) (w : Nat) :
    h.chanMoved n (g.recloseAt cfg pcfg n w) := by
  have hreclosed : h.chanMoved n (g.reclose n w) := ((hg.setB hn (by simp) _ _).element hn _).setChan _ _
  exact .ite (hreclosed.frontAt hn ..) hreclosed

section
variable (h : Shared) (l : Lane) {n : Nat}

/-- SHUNT_RETRY closes the shunt at once where a word instant of the channel lies at the boundary. -/
theorem Shared.shuntRetry_of_instant (hnow : (h.chan n).lastW = h.gt ∧ (h.tile (tileOf n)).loaded = true) :
    h.ainEffect l 3 n = h.recloseAt (l.rd (AIN_CFG n)) (l.rd (AIN_PCFG n)) n h.gt := by
  unfold Shared.ainEffect
  exact if_pos (by simp [hnow])

/-- Else the shunt is retried at the next word instant. -/
theorem Shared.shuntRetry_of_none (hlater : ¬ ((h.chan n).lastW = h.gt ∧ (h.tile (tileOf n)).loaded = true)) :
    h.ainEffect l 3 n = h.setChan n { h.chan n with retry := true } := by
  unfold Shared.ainEffect
  exact if_neg (by simpa using hlater)

end

/-! ### The answer in AIN_CMDST -/

/-- The lane with the command and its status in AIN_CMDST. -/
def Lane.ainAnswered (op ch st : Nat) (l : Lane) : Lane := (l.ainNote op ch).setF AIN_CMDST AIN_CMDST_STATUS st

section
variable (op ch st : Nat) (l : Lane)

theorem Lane.ainAnswered_regsBut {ks : List Nat} (hks : AIN_CMDST ∈ ks) : l.regsBut ks (l.ainAnswered op ch st) :=
  ((((Lane.regsBut.refl ks l).setF (by decide) hks _ _).setF (by decide) hks _ _).setF (by decide) hks _ _).setF (by decide) hks _ _

theorem Lane.ainAnswered_status (hst : st < 4) : (l.ainAnswered op ch st).fld AIN_CMDST AIN_CMDST_STATUS = st := by
  rw [Lane.ainAnswered, Lane.fld_setF_same _ _ _ _ (by decide)]
  exact Nat.mod_eq_of_lt hst

theorem Lane.ainAnswered_lastOp (hop : op < 256) : (l.ainAnswered op ch st).fld AIN_CMDST AIN_CMDST_LAST_OP = op := by
  rw [Lane.ainAnswered, Lane.fld_setF_field _ _ _ _ _ (by decide), Lane.ainNote, Lane.fld_setF_field _ _ _ _ _ (by decide),
    Lane.fld_setF_same _ _ _ _ (by decide)]
  exact Nat.mod_eq_of_lt hop

theorem Lane.ainAnswered_lastCh (hch : ch < 128) : (l.ainAnswered op ch st).fld AIN_CMDST AIN_CMDST_LAST_CH = ch := by
  rw [Lane.ainAnswered, Lane.fld_setF_field _ _ _ _ _ (by decide), Lane.ainNote, Lane.fld_setF_same _ _ _ _ (by decide)]
  exact Nat.mod_eq_of_lt hch

theorem Lane.ainNote_fld_ne (k : Nat) (f : Fld) (hk : k % 2 ^ 20 ≠ AIN_CMDST % 2 ^ 20) : (l.ainNote op ch).fld k f = l.fld k f := by
  rw [Lane.ainNote, Lane.fld_setF_ne _ _ _ _ _ _ hk, Lane.fld_setF_ne _ _ _ _ _ _ hk, Lane.fld_setF_ne _ _ _ _ _ _ hk]

end

/-! ### The outcome of a command (R88, R89) -/

section
variable {op ch : Nat} (arg : Nat) (h : Shared) (l : Lane)

theorem ainStatus_of_invalid (hinvalid : ainInvalid op ch arg = true) : ainStatus h l op ch arg = stInvalid := if_pos hinvalid

/-- The outcome does not hang on what AIN_CMDST holds. -/
theorem ainStatus_ainNote (hch : ch < 96) : ainStatus h (l.ainNote op ch) op ch arg = ainStatus h l op ch arg := by
  have hcfg : AIN_CFG ch % 2 ^ 20 ≠ AIN_CMDST % 2 ^ 20 := by unfold AIN_CFG AIN_CMDST; omega
  have hvflg : AIN_VFLG ch % 2 ^ 20 ≠ AIN_CMDST % 2 ^ 20 := by unfold AIN_VFLG AIN_CMDST; omega
  simp only [ainStatus, ainRefused, Lane.on, Lane.ainNote_fld_ne op ch l _ _ hcfg, Lane.ainNote_fld_ne op ch l _ _ hvflg]
  rfl

theorem ainStatus_setExc {arg : Nat} (hch : ch < 96) (harg : arg ≤ 2) (hrtd : isRtd (l.fld (AIN_CFG ch) AIN_CFG_SENSOR) = true)
    (hcurrent : arg = 2 → l.fld (AIN_CFG ch) AIN_CFG_SENSOR ∈ [senPt100, senPt500]) (hfree : (h.chan ch).excBusy = false) :
    ainStatus h l 1 ch arg = stDone := by
  have hvalid : ainInvalid 1 ch arg = false := by simp [ainInvalid]; omega
  have hsensor : arg = 2 →
      l.fld (AIN_CFG ch) AIN_CFG_SENSOR ≠ senPt1000 ∧ l.fld (AIN_CFG ch) AIN_CFG_SENSOR ≠ senNi1000 := fun h2 => by
    obtain hsensor | hsensor := List.mem_pair.mp (hcurrent h2) <;> rw [hsensor] <;> decide
  have hallowed : ainRefused h l 1 ch arg = false := by simpa [ainRefused, hrtd, hfree] using hsensor
  simp [ainStatus, hvalid, hallowed]

theorem ainStatus_setBurnout {arg : Nat} (hch : ch < 96) (harg : arg ≤ 1)
    (hsensor : isTc (l.fld (AIN_CFG ch) AIN_CFG_SENSOR) = true ∨ l.fld (AIN_CFG ch) AIN_CFG_SENSOR = senMv) :
    ainStatus h l 2 ch arg = stDone := by
  have hvalid : ainInvalid 2 ch arg = false := by simp [ainInvalid]; omega
  have hallowed : ainRefused h l 2 ch arg = false := by obtain htc | hmv := hsensor <;> simp [ainRefused, *]
  simp [ainStatus, hvalid, hallowed]

/-- SHUNT_RETRY hangs on the trip alone. -/
theorem ainStatus_shuntRetry (hch : ch < 96) :
    ainStatus h l 3 ch 0 = if h.on (AIN_CHST ch) AIN_CHST_SHUNT_TRIP then stDone else stRefused := by
  have hvalid : ainInvalid 3 ch 0 = false := by simp [ainInvalid]; omega
  cases htrip : h.on (AIN_CHST ch) AIN_CHST_SHUNT_TRIP <;> simp [ainStatus, hvalid, ainRefused, htrip]

theorem Lane.ainCmd_done (hst : ainStatus h (l.ainNote op ch) op ch arg = stDone) :
    (l.ainNote op ch).ainCmd h op ch arg = (l.ainAnswered op ch stDone).ainEffect op ch arg := by
  unfold Lane.ainCmd
  rw [hst]
  rfl

theorem Lane.ainCmd_turnedAway {st : Nat} (hst : ainStatus h (l.ainNote op ch) op ch arg = st) (hne : st ≠ stDone) :
    (l.ainNote op ch).ainCmd h op ch arg = (l.ainAnswered op ch st).ev evAinRefused := by
  unfold Lane.ainCmd
  rw [hst, if_neg hne]
  rfl

end

/-! ### The row -/

section
variable {s : State} {op ch arg : Nat}

theorem State.ainRow_lane {i : LaneId} (hcomputes : (s.lane i).computes = true) :
    (s.ainRow op ch arg).lane i = ((s.lane i).ainNote op ch).ainCmd s.sh op ch arg := by
  have hnoted : ((s.lane i).ainNote op ch).computes = true := hcomputes
  rw [State.ainRow, State.ainCmd, State.withSh_lane, State.both_lane, State.both_lane, if_pos hcomputes, if_pos hnoted]
  rfl

/-- A command that ends DONE in whatever lane the tiles follow takes effect in the tile. -/
theorem State.ainRow_sh_done (hst : ∀ l, ainStatus s.sh l op ch arg = stDone) :
    ∃ l, (s.ainRow op ch arg).sh = s.sh.ainEffect l op ch := by
  rw [State.ainRow, State.ainCmd, State.withSh_sh, State.both_sh, if_pos (hst _)]
  exact ⟨_, rfl⟩

/-- A command turned away: the answer, the event, and no other change of the lane's registers. -/
theorem State.ainRow_turnedAway {i : LaneId} {st : Nat} (hcomputes : (s.lane i).computes = true)
    (hst : ainStatus s.sh ((s.lane i).ainNote op ch) op ch arg = st) (hne : st ≠ stDone) (hlt : st < 4) :
    (s.lane i).regsBut [AIN_CMDST] ((s.ainRow op ch arg).lane i) ∧
      ((s.ainRow op ch arg).lane i).fld AIN_CMDST AIN_CMDST_STATUS = st ∧
      ((s.ainRow op ch arg).lane i).raised = (s.lane i).raised ||| evBit evAinRefused := by
  rw [State.ainRow_lane hcomputes, Lane.ainCmd_turnedAway arg s.sh _ hst hne]
  exact ⟨(s.lane i).ainAnswered_regsBut op ch st (List.mem_singleton_self _), Lane.ainAnswered_status op ch st _ hlt, rfl⟩

theorem State.ainRow_lane_done {i : LaneId} (hcomputes : (s.lane i).computes = true) (hch : ch < 96)
    (hst : ainStatus s.sh (s.lane i) op ch arg = stDone) :
    (s.ainRow op ch arg).lane i = ((s.lane i).ainAnswered op ch stDone).ainEffect op ch arg := by
  rw [State.ainRow_lane hcomputes, Lane.ainCmd_done _ _ _ ((ainStatus_ainNote _ _ _ hch).trans hst)]

end

/-! ### What the commands set in the lane (R90) -/

theorem Lane.setExc_of_zero (l : Lane) (ch : Nat) : l.ainEffect 1 ch 0 = l.setF (AIN_CFG ch) AIN_CFG_EXC_OFF 1 := rfl

theorem Lane.setExc_of_ne_zero (l : Lane) (ch : Nat) {arg : Nat} (hon : arg ≠ 0) :
    l.ainEffect 1 ch arg = (l.setF (AIN_CFG ch) AIN_CFG_EXC_OFF 0).setF (AIN_CFG ch) AIN_CFG_IEXC (arg - 1) := if_neg hon

section
variable {l m : Lane} {ch : Nat} (hch : ch < 96)
include hch

/-- A command that writes AIN_CFG leaves its answer. -/
theorem Lane.fld_CMDST_setCfg (f g : Fld) (v : Nat) : (m.setF (AIN_CFG ch) g v).fld AIN_CMDST f = m.fld AIN_CMDST f :=
  Lane.fld_setF_ne _ _ _ _ _ _ (by unfold AIN_CFG AIN_CMDST; omega)

theorem Lane.setExc_fld_CMDST (arg : Nat) (f : Fld) : (m.ainEffect 1 ch arg).fld AIN_CMDST f = m.fld AIN_CMDST f := by
  obtain rfl | hon := eq_or_ne arg 0
  · rw [Lane.setExc_of_zero, Lane.fld_CMDST_setCfg hch]
  · rw [Lane.setExc_of_ne_zero _ _ hon, Lane.fld_CMDST_setCfg hch, Lane.fld_CMDST_setCfg hch]

theorem Lane.regsBut.setExc (hm : l.regsBut [AIN_CMDST, AIN_CFG ch] m) (arg : Nat) :
    l.regsBut [AIN_CMDST, AIN_CFG ch] (m.ainEffect 1 ch arg) := by
  have hkey : AIN_CFG ch < 2 ^ 20 := by unfold AIN_CFG; omega
  obtain rfl | hon := eq_or_ne arg 0
  · exact hm.setF hkey (by simp) _ _
  · rw [Lane.setExc_of_ne_zero _ _ hon]
    exact (hm.setF hkey (by simp) _ _).setF hkey (by simp) _ _

end

theorem Lane.setExc_off (l : Lane) (ch arg : Nat) : (l.ainEffect 1 ch arg).on (AIN_CFG ch) AIN_CFG_EXC_OFF = decide (arg = 0) := by
  obtain rfl | hon := eq_or_ne arg 0
  · rw [Lane.setExc_of_zero, Lane.on, Lane.fld_setF_same _ _ _ _ (by decide)]
    rfl
  · rw [Lane.setExc_of_ne_zero _ _ hon, Lane.on, Lane.fld_setF_field _ _ _ _ _ (by decide), Lane.fld_setF_same _ _ _ _ (by decide),
      decide_eq_false hon]
    rfl

theorem Lane.setExc_current (l : Lane) (ch : Nat) {arg : Nat} (harg : arg ≤ 2) (hon : arg ≠ 0) :
    (l.ainEffect 1 ch arg).fld (AIN_CFG ch) AIN_CFG_IEXC = arg - 1 := by
  rw [Lane.setExc_of_ne_zero _ _ hon, Lane.fld_setF_same _ _ _ _ (by decide)]
  exact Nat.mod_eq_of_lt (show arg - 1 < 2 by omega)

/-- Settles O12: each command by its outcome, the answer in AIN_CMDST, and what the command sets. -/
theorem analogueInputCommands : Obligations.AnalogueInputCommands := by
  refine ⟨fun ch arg s i hcomputes hch harg hrtd hcurrent hfree => ?setExc, fun ch arg s i hcomputes hch harg hsensor => ?setBurnout,
    fun ch s i hcomputes hch htrip => ?retry, fun ch arg s i hcomputes hch => ?invalid, fun ch s i hcomputes hch htrip => ?refused⟩
  case setExc =>
    have hanswered := (s.lane i).ainAnswered_regsBut 1 ch.toNat stDone (ks := [AIN_CMDST, AIN_CFG ch.toNat]) (by simp)
    refine ⟨_, rfl, ?_⟩
    rw [State.ainRow_lane_done hcomputes hch (ainStatus_setExc _ _ hch harg hrtd hcurrent hfree), Lane.setExc_fld_CMDST hch,
      Lane.setExc_fld_CMDST hch, Lane.setExc_fld_CMDST hch]
    exact ⟨hanswered.setExc hch _, Lane.ainAnswered_status _ _ _ _ (by decide), Lane.ainAnswered_lastOp _ _ _ _ (by decide),
      Lane.ainAnswered_lastCh _ _ _ _ ch.isLt, Lane.setExc_off .., Lane.setExc_current _ _ harg⟩
  case setBurnout =>
    have hanswered := (s.lane i).ainAnswered_regsBut 2 ch.toNat stDone (ks := [AIN_CMDST, AIN_CFG ch.toNat]) (by simp)
    refine ⟨_, rfl, ?_⟩
    rw [State.ainRow_lane_done hcomputes hch (ainStatus_setBurnout _ _ hch harg hsensor)]
    refine ⟨hanswered.setF (by unfold AIN_CFG; omega) (by simp) _ _, ?_, ?_⟩
    · exact (Lane.fld_CMDST_setCfg hch ..).trans (Lane.ainAnswered_status _ _ _ _ (by decide))
    · exact (Lane.fld_setF_same _ _ _ _ (by decide)).trans (Nat.mod_eq_of_lt (Nat.lt_succ_of_le harg))
  case retry =>
    have hst (l : Lane) : ainStatus s.sh l 3 ch.toNat 0 = stDone := (ainStatus_shuntRetry _ _ hch).trans (if_pos htrip)
    obtain ⟨l, hsh⟩ := State.ainRow_sh_done hst
    have hlane := State.ainRow_lane_done hcomputes hch (hst _)
    refine ⟨s.ainRow 3 ch.toNat 0, rfl, ?_⟩
    rw [hlane, hsh]
    refine ⟨Lane.ainAnswered_regsBut _ _ _ _ (List.mem_singleton_self _), Lane.ainAnswered_status _ _ _ _ (by decide), ?_⟩
    split
    case isTrue hnow =>
      rw [s.sh.shuntRetry_of_instant l hnow]
      exact ⟨((Shared.chanMoved.refl _ _).recloseAt hch ..).regs, Shared.trip_recloseAt ..⟩
    case isFalse hlater =>
      rw [s.sh.shuntRetry_of_none l hlater, Shared.chan_setChan_same]
      exact ⟨Shared.regsBut.refl _ s.sh, rfl⟩
  case invalid =>
    have hinvalid : ainInvalid 1 ch.toNat arg.toNat = true := by simp [ainInvalid, hch]
    exact ⟨_, rfl, State.ainRow_turnedAway hcomputes (ainStatus_of_invalid _ _ _ hinvalid) (by decide) (by decide)⟩
  case refused =>
    have hst : ainStatus s.sh ((s.lane i).ainNote 3 ch.toNat) 3 ch.toNat 0 = stRefused :=
      (ainStatus_shuntRetry _ _ hch).trans (if_neg (by simp [htrip]))
    exact ⟨_, rfl, State.ainRow_turnedAway hcomputes hst (by decide) (by decide)⟩

end Sys2Proof.Machine
end

section
/-! The characteristic by table (R123, R124): what the search of the table finds, and the value it interpolates. -/

namespace Sys2Proof.Machine

section
variable {tx : Nat → F32} {x : F32}

/-- The search from index `n` down ends at the largest index whose entry is at most `x`. -/
theorem tableIdx_eq_of_largest {i n : Nat} (hi : i ≤ n) (hle : F32.le (tx i) x = true)
    (habove : ∀ j, i < j → j ≤ n → F32.le (tx j) x = false) : tableIdx tx x n = i := by
  induction n with
  | zero => exact (Nat.le_zero.mp hi).symm
  | succ n ih =>
    unfold tableIdx
    obtain rfl | hlt := hi.eq_or_lt
    · exact if_pos hle
    · rw [if_neg (by simp [habove _ hlt le_rfl])]
      exact ih (Nat.le_of_lt_succ hlt) fun j hij hj => habove j hij (Nat.le_succ_of_le hj)

variable (ty : Nat → F32)

theorem tableVal_of_le_first (hfirst : F32.le x (tx 0) = true) : tableVal tx ty x = ty 0 := if_pos hfirst

section
variable (hfirst : F32.le x (tx 0) = false)
include hfirst

theorem tableVal_of_ge_last (hlast : F32.ge x (tx 32) = true) : tableVal tx ty x = ty 32 := by simp [tableVal, hfirst, hlast]

/-- Between the ends the table interpolates from the largest index whose entry is at most `x`. -/
theorem tableVal_between {i : Nat} (hi : i < 32) (hlast : F32.ge x (tx 32) = false) (hle : F32.le (tx i) x = true)
    (habove : ∀ j, i < j → j ≤ 32 → F32.le (tx j) x = false) : tableVal tx ty x =
      F32.add (ty i) (F32.mul (F32.div (F32.sub x (tx i)) (F32.sub (tx (i + 1)) (tx i))) (F32.sub (ty (i + 1)) (ty i))) := by
  have hidx : tableIdx tx x 31 = i :=
    tableIdx_eq_of_largest (Nat.le_of_lt_succ hi) hle fun j hij hj => habove j hij (Nat.le_succ_of_le hj)
  simp [tableVal, hfirst, hlast, hidx]

end
end

theorem characteristic_of_table (l : Lane) (cfg : Word) {pcfg : Word} (low : Bool) (x : F32) (htable : AIN_PCFG_CHAR.get pcfg = 2) :
    characteristic l cfg pcfg low x =
      tableVal (fun i => l.rd (AIN_TX (AIN_PCFG_TABLE.get pcfg) i)) (fun i => l.rd (AIN_TY (AIN_PCFG_TABLE.get pcfg) i)) x := by
  unfold characteristic
  rw [htable]
  rfl

/-- Settles O19: the search of the table finds the largest index at or below x. -/
theorem tableInterpolation : Obligations.TableInterpolation := by
  intro l cfg pcfg low x htable tx ty
  have hvalue : characteristic l cfg pcfg low x = tableVal tx ty x := characteristic_of_table l cfg low x htable
  rw [hvalue]
  exact ⟨fun hfirst => tableVal_of_le_first ty hfirst, fun hfirst hlast => tableVal_of_ge_last ty hfirst hlast,
    fun i hi hfirst hlast hle habove => tableVal_between ty hfirst hi hlast hle habove⟩

end Sys2Proof.Machine
end

section
/-! The command RESTORE_PATHS at its effect boundary (R126, R127): the flags it clears in a lane that computes, and the place it gives the
tile in its order of paths, which follows the leading lane. -/

namespace Sys2Proof.Machine

/-! ### The leading lane after a change of lanes -/

/-- The same lane leads in two states that agree on what decides it. -/
theorem State.sameDiscipline.lead_lane {s t : State} (h : s.sameDiscipline t) : ∃ j, s.lead = s.lane j ∧ t.lead = t.lane j := by
  unfold State.lead
  rw [h.auth]
  cases s.sh.auth with
  | none =>
    have ha : t.a.computes = s.a.computes := (h.lane .A).computes
    have hb : t.b.computes = s.b.computes := (h.lane .B).computes
    simp only [ha, hb]
    split
    · exact ⟨.B, rfl, rfl⟩
    · exact ⟨.A, rfl, rfl⟩
  | some i =>
    simp only [(h.lane i).st, (h.lane i.other).computes]
    split
    · exact ⟨i.other, rfl, rfl⟩
    · exact ⟨i, rfl, rfl⟩

/-- A change that leaves alone what decides the leading lane is made in the leading lane where that lane computes. -/
theorem State.both_lead {f : Lane → Lane} (hf : ∀ l : Lane, l.sameDiscipline (f l)) {s : State} (hcomputes : s.lead.computes = true) :
    (s.both f).lead = f s.lead := by
  have hsame : s.sameDiscipline (s.both f) := ⟨rfl, fun i => by
    rw [State.both_lane]
    split
    · exact hf _
    · exact .refl _⟩
  obtain ⟨j, hlead, hboth⟩ := hsame.lead_lane
  rw [hlead] at hcomputes
  rw [hboth, hlead, State.both_lane, if_pos hcomputes]

/-! ### RESTORE_PATHS (R126, R127) -/

/-- The channel returns to both paths (R102, R127). -/
def Lane.restorePaths (n : Nat) (l : Lane) : Lane :=
  (((l.setF (AIN_VFLG n) AIN_VFLG_SINGLE 0).setF (AIN_VFLG n) AIN_VFLG_SP_CAUSE 0).setF (AIN_VFLG n) AIN_VFLG_DIS_CNT 0).setF
    (AIN_VFLG n) AIN_VFLG_RST_CNT 0

section
variable (l : Lane) (n : Nat)

theorem Lane.ainEffect_restorePaths : l.ainEffect 4 n 0 = l.restorePaths n := rfl

theorem Lane.regsBut.restorePaths {ks : List Nat} {l m : Lane} (hm : l.regsBut ks m) (hk : AIN_VFLG n < 2 ^ 20) (hks : AIN_VFLG n ∈ ks) :
    l.regsBut ks (m.restorePaths n) :=
  (((hm.setF hk hks _ _).setF hk hks _ _).setF hk hks _ _).setF hk hks _ _

theorem Lane.restorePaths_fld_ne (k : Nat) (f : Fld) (hk : k % 2 ^ 20 ≠ AIN_VFLG n % 2 ^ 20) : (l.restorePaths n).fld k f = l.fld k f := by
  rw [Lane.restorePaths, Lane.fld_setF_ne _ _ _ _ _ _ hk, Lane.fld_setF_ne _ _ _ _ _ _ hk, Lane.fld_setF_ne _ _ _ _ _ _ hk,
    Lane.fld_setF_ne _ _ _ _ _ _ hk]

theorem Lane.restorePaths_single : (l.restorePaths n).on (AIN_VFLG n) AIN_VFLG_SINGLE = false := by
  rw [Lane.restorePaths, Lane.on, Lane.fld_setF_field _ _ _ _ _ (by decide), Lane.fld_setF_field _ _ _ _ _ (by decide),
    Lane.fld_setF_field _ _ _ _ _ (by decide), Lane.fld_setF_same _ _ _ _ (by decide)]
  rfl

theorem Lane.restorePaths_cause : (l.restorePaths n).fld (AIN_VFLG n) AIN_VFLG_SP_CAUSE = 0 := by
  rw [Lane.restorePaths, Lane.fld_setF_field _ _ _ _ _ (by decide), Lane.fld_setF_field _ _ _ _ _ (by decide),
    Lane.fld_setF_same _ _ _ _ (by decide), Nat.zero_mod]

theorem Lane.restorePaths_disCnt : (l.restorePaths n).fld (AIN_VFLG n) AIN_VFLG_DIS_CNT = 0 := by
  rw [Lane.restorePaths, Lane.fld_setF_field _ _ _ _ _ (by decide), Lane.fld_setF_same _ _ _ _ (by decide), Nat.zero_mod]

theorem Lane.restorePaths_rstCnt : (l.restorePaths n).fld (AIN_VFLG n) AIN_VFLG_RST_CNT = 0 := by
  rw [Lane.restorePaths, Lane.fld_setF_same _ _ _ _ (by decide), Nat.zero_mod]

theorem Lane.restorePaths_src : (l.restorePaths n).fld (AIN_VFLG n) AIN_VFLG_SRC = l.fld (AIN_VFLG n) AIN_VFLG_SRC := by
  rw [Lane.restorePaths, Lane.fld_setF_field _ _ _ _ _ (by decide), Lane.fld_setF_field _ _ _ _ _ (by decide),
    Lane.fld_setF_field _ _ _ _ _ (by decide), Lane.fld_setF_field _ _ _ _ _ (by decide)]

end

theorem ainStatus_restorePaths (h : Shared) {l : Lane} {ch : Nat} (hch : ch < 96) (hsingle : l.on (AIN_VFLG ch) AIN_VFLG_SINGLE = true)
    (hcause : l.fld (AIN_VFLG ch) AIN_VFLG_SP_CAUSE ≠ 3) (hcount : 16 ≤ l.fld (AIN_VFLG ch) AIN_VFLG_RST_CNT) :
    ainStatus h l 4 ch 0 = stDone := by
  have hvalid : ainInvalid 4 ch 0 = false := by simp [ainInvalid]; omega
  have hallowed : ainRefused h l 4 ch 0 = false := by simp [ainRefused, hsingle, hcause, hcount]
  simp [ainStatus, hvalid, hallowed]

/-- RESTORE_PATHS moves the place of the tile in its order of paths and nothing else of the shared part. -/
theorem Shared.ainEffect_restorePaths (h : Shared) (l : Lane) (ch : Nat) : h.ainEffect l 4 ch = h.setTile (tileOf ch)
    { h.tile (tileOf ch) with injNext := 2 * (ch % 8) + (1 - l.fld (AIN_VFLG ch) AIN_VFLG_SRC) } := rfl

theorem Lane.ainNote_sameDiscipline (l : Lane) (op ch : Nat) : l.sameDiscipline (l.ainNote op ch) := ⟨rfl, rfl, rfl⟩

section
variable {s : State} {ch : Nat}

theorem State.restorePaths_regs : (s.ainRow 4 ch 0).sh.regs = s.sh.regs := by
  rw [State.ainRow, State.ainCmd, State.withSh_sh, State.both_sh]
  split <;> rfl

/-- The tile follows the leading lane: the path that was not its source is checked next. -/
theorem State.restorePaths_injNext (hch : ch < 96) (hcomputes : s.lead.computes = true) (hst : ainStatus s.sh s.lead 4 ch 0 = stDone) :
    ((s.ainRow 4 ch 0).sh.tile (tileOf ch)).injNext = 2 * (ch % 8) + (1 - s.lead.fld (AIN_VFLG ch) AIN_VFLG_SRC) := by
  rw [State.ainRow, State.ainCmd, State.withSh_sh, State.both_sh, State.both_lead (Lane.ainNote_sameDiscipline · 4 ch) hcomputes,
    if_pos ((ainStatus_ainNote _ _ _ hch).trans hst), Shared.ainEffect_restorePaths, Shared.tile_setTile_same,
    Lane.ainEffect_restorePaths, Lane.restorePaths_src, Lane.ainNote_fld_ne _ _ _ _ _ (by unfold AIN_VFLG AIN_CMDST; omega)]

end

/-- Settles O13: the command ends DONE in the lane and its effect there is `Lane.restorePaths`; the tile follows the leading lane. -/
theorem restorePathsCommand : Obligations.RestorePathsCommand := by
  intro ch s i hcomputes hch hsingle hcause hcount
  have hkey : AIN_VFLG ch.toNat < 2 ^ 20 := by unfold AIN_VFLG; omega
  have hst : ainStatus s.sh (s.lane i) 4 ch.toNat 0 = stDone := ainStatus_restorePaths _ hch hsingle hcause hcount
  have hlane := State.ainRow_lane_done hcomputes hch hst
  rw [Lane.ainEffect_restorePaths] at hlane
  have hanswered := (s.lane i).ainAnswered_regsBut 4 ch.toNat stDone (ks := [AIN_CMDST, AIN_VFLG ch.toNat]) (by simp)
  refine ⟨s.ainRow 4 ch.toNat 0, rfl, ?_, State.restorePaths_regs, ?_, ?_, ?_, ?_, ?_, fun hlead => ?_⟩
  · rw [hlane]
    exact hanswered.restorePaths _ hkey (by simp)
  · rw [hlane, Lane.restorePaths_fld_ne _ _ _ _ (by unfold AIN_VFLG AIN_CMDST; omega)]
    exact Lane.ainAnswered_status _ _ _ _ (by decide)
  · rw [hlane, Lane.restorePaths_single]
  · rw [hlane, Lane.restorePaths_cause]
  · rw [hlane, Lane.restorePaths_disCnt]
  · rw [hlane, Lane.restorePaths_rstCnt]
  · rw [← hlead] at hcomputes hst ⊢
    exact State.restorePaths_injNext hch hcomputes hst

end Sys2Proof.Machine
end

section
/-! The agreement rule (R99, R100, R102): it moves the flags and the value of its channel alone and leaves the cut, so that a row that
carries it out for a channel that phase 3 has left uses up what was left; and what two compared words out of tolerance do. -/

namespace Sys2Proof.Machine

/-! ### What moves with the measurement of a channel -/

/-- Channel `n` has been measured from `l` to `m`: of the registers its flags and its value alone may differ, and the cut stands. -/
structure Lane.measured (n : Nat) (l m : Lane) : Prop where
  regs : l.regsBut [AIN_VFLG n, AIN_VAL n] m
  cut : m.cut = l.cut

namespace Lane.measured

variable {n : Nat} {l m k : Lane}

theorem refl (n : Nat) (l : Lane) : l.measured n l := ⟨.refl _ l, rfl⟩

theorem ite {c : Prop} [Decidable c] (hm : l.measured n m) (hk : l.measured n k) : l.measured n (if c then m else k) := by
  split
  · exact hm
  · exact hk

theorem ev (hm : l.measured n m) (e : Nat) : l.measured n (m.ev e) := ⟨hm.regs.of_regs_eq rfl, hm.cut⟩

theorem setChan (hm : l.measured n m) (i : Nat) (c : ChanWork) : l.measured n (m.setChan i c) := ⟨hm.regs.of_regs_eq rfl, hm.cut⟩

section
variable (hm : l.measured n m) (hn : n < 96)
include hm hn

theorem setVflg (f : Fld) (v : Nat) : l.measured n (m.setF (AIN_VFLG n) f v) :=
  ⟨hm.regs.setF (by unfold AIN_VFLG; omega) (by simp) f v, hm.cut⟩

theorem wrVflg (w : Word) : l.measured n (m.wr (AIN_VFLG n) w) := ⟨hm.regs.wr (by unfold AIN_VFLG; omega) (by simp) w, hm.cut⟩

theorem wrVal (w : Word) : l.measured n (m.wr (AIN_VAL n) w) := ⟨hm.regs.wr (by unfold AIN_VAL; omega) (by simp) w, hm.cut⟩

theorem holdNoPath : l.measured n (m.holdNoPath n) :=
  (((hm.setVflg hn _ _).setVflg hn _ _).setVflg hn _ _).setVflg hn _ _

theorem holdStale : l.measured n (m.holdStale n) :=
  (((hm.setVflg hn _ _).setVflg hn _ _).setVflg hn _ _).setVflg hn _ _

theorem goSingle (src : Path) (cause : Nat) : l.measured n (m.goSingle n src cause) :=
  (((hm.setVflg hn _ _).setVflg hn _ _).setVflg hn _ _).setVflg hn _ _

theorem useWord (w : TWord) (rangeTr inj : Bool) : l.measured n (m.useWord n w rangeTr inj) := by
  unfold Lane.useWord
  dsimp only
  split
  · exact hm.holdStale hn
  · exact .ite (((hm.wrVal hn _).wrVflg hn _).ev _) ((hm.wrVal hn _).wrVflg hn _)

theorem restorePaths : l.measured n (m.restorePaths n) :=
  ⟨hm.regs.restorePaths n (by unfold AIN_VFLG; omega) (by simp), hm.cut⟩

theorem restoreCheck (upA upB : Bool) (a b : Option TWord) : l.measured n (m.restoreCheck n upA upB a b) := by
  have hcounted (c : Nat) : l.measured n (m.setF (AIN_VFLG n) AIN_VFLG_RST_CNT c) := hm.setVflg hn _ c
  exact .ite ((hcounted _).restorePaths hn) (hcounted _)

theorem agreeSingle (a b : Option TWord) : l.measured n (m.agreeSingle n a b) := by
  unfold Lane.agreeSingle
  split
  · exact hm.holdNoPath hn
  · exact .ite (hm.holdStale hn) (hm.useWord hn ..)

theorem agreeBoth (a b : TWord) : l.measured n (m.agreeBoth n a b) :=
  .ite (hm.useWord hn ..) <| .ite (hm.useWord hn ..) <| .ite (hm.holdStale hn) <|
    .ite (((hm.setVflg hn _ _).setVflg hn _ _).useWord hn ..) <|
    .ite (((((hm.setVflg hn _ _).setVflg hn _ _).useWord hn ..).goSingle hn _ _).ev _)
      (((hm.setVflg hn _ _).setVflg hn _ _).useWord hn ..)

end

end Lane.measured

/-! ### The rule for one word instant, branch by branch -/

/-- A word of the channel enters the rule, where the cut holds one. -/
def Lane.enterWord (n : Nat) (l : Lane) : Option TWord → Lane
  | none => l
  | some w => l.setChan n ((l.chan n).enter (l.wordCfg n w) w)

/-- A tile link of the channel as the lane sees it (R331). -/
def Lane.linkSeen (l : Lane) (n : Nat) (p : Path) : Bool := l.hwLink (tileOf n) p && (!l.adj.ownPath || l.id == laneOfPath p)

/-- One link lost: the channel becomes single-path on the path of the other. -/
def Lane.agreeLinkLost (l : Lane) (n : Nat) (src : Path) (a b : Option TWord) : Lane :=
  match ofPath a b src with
  | none => ((l.goSingle n src 3).ev evSinglePath).holdNoPath n
  | some w => ((l.goSingle n src 3).ev evSinglePath).useWord n w false false

/-- Both links up: the words that the cut holds are used or compared. -/
def Lane.agreeLinked (l : Lane) (n : Nat) : Option TWord → Option TWord → Lane
  | none, none => l.holdNoPath n
  | none, some w => l.useWord n w false false
  | some w, none => l.useWord n w false false
  | some a, some b => l.agreeBoth n a b

/-- The rule after the restore check; `upA`, `upB`: the links as the lane sees them. -/
def Lane.agreeChecked (l : Lane) (n : Nat) (upA upB : Bool) (a b : Option TWord) : Lane :=
  if l.on (AIN_VFLG n) AIN_VFLG_SINGLE then l.agreeSingle n a b
  else if !upA && !upB then l.holdNoPath n
  else if !upA || !upB then l.agreeLinkLost n (if upA then .A else .B) a b
  else l.agreeLinked n a b

/-- The words of an instant enter the rule; a single-path channel has its restore check first. -/
theorem Lane.agree_eq (l : Lane) (n : Nat) (a b : Option TWord) : l.agree n a b =
    let e := (l.enterWord n a).enterWord n b
    if a.isNone && b.isNone then e.holdNoPath n
    else (if e.on (AIN_VFLG n) AIN_VFLG_SINGLE then e.restoreCheck n (e.linkSeen n .A) (e.linkSeen n .B) a b else e).agreeChecked n
      (e.linkSeen n .A) (e.linkSeen n .B) a b := by
  cases a <;> cases b <;> rfl

namespace Lane.measured

variable {n : Nat} {l m : Lane}

theorem enterWord (hm : l.measured n m) (w : Option TWord) : l.measured n (m.enterWord n w) := by
  cases w with
  | none => exact hm
  | some w => exact hm.setChan n _

section
variable (hm : l.measured n m) (hn : n < 96)
include hm hn

theorem agreeLinkLost (src : Path) (a b : Option TWord) : l.measured n (m.agreeLinkLost n src a b) := by
  have hsingle : l.measured n ((m.goSingle n src 3).ev evSinglePath) := (hm.goSingle hn src 3).ev _
  unfold Lane.agreeLinkLost
  split
  · exact hsingle.holdNoPath hn
  · exact hsingle.useWord hn ..

theorem agreeLinked (a b : Option TWord) : l.measured n (m.agreeLinked n a b) := by
  cases a with
  | none =>
    cases b with
    | none => exact hm.holdNoPath hn
    | some b => exact hm.useWord hn ..
  | some a =>
    cases b with
    | none => exact hm.useWord hn ..
    | some b => exact hm.agreeBoth hn a b

theorem agreeChecked (upA upB : Bool) (a b : Option TWord) : l.measured n (m.agreeChecked n upA upB a b) :=
  .ite (hm.agreeSingle hn a b) <| .ite (hm.holdNoPath hn) <| .ite (hm.agreeLinkLost hn _ a b) (hm.agreeLinked hn a b)

theorem agree (a b : Option TWord) : l.measured n (m.agree n a b) := by
  have hentered : l.measured n ((m.enterWord n a).enterWord n b) := (hm.enterWord a).enterWord b
  rw [Lane.agree_eq]
  exact .ite (hentered.holdNoPath hn) (agreeChecked (.ite (hentered.restoreCheck hn ..) hentered) hn ..)

end

/-- The rule over a whole cut. -/
theorem agreeAll (l : Lane) (hn : n < 96) (ws : List TWord) (ats : List Nat) : l.measured n (l.agreeAll ws n ats) :=
  List.foldlRecOn (motive := l.measured n) _ _ (.refl n l) fun _ hm _ _ => hm.agree hn ..

end Lane.measured

/-! ### The rows of phase 3 -/

/-- What phase 3 has left of the channel is used up. -/
def Lane.usedUp (n : Nat) (l : Lane) : Lane := { l with cut := { l.cut with late := l.cut.late.filter (fun y => y.ch != n) } }

section
variable {l : Lane} {n : Nat} {x : LateChan} (hleft : l.cut.late.find? (fun y => y.ch == n) = some x)
include hleft

/-- Using up a channel that was left shortens what is left. -/
theorem Lane.usedUp_late_length {m : Lane} (hcut : m.cut = l.cut) : (m.usedUp n).cut.late.length < l.cut.late.length := by
  have hx : (x.ch == n) = true := List.find?_some (p := fun y : LateChan => y.ch == n) hleft
  have hgone : ¬ (x.ch != n) = true := by simpa using hx
  rw [← hcut] at hleft ⊢
  exact List.length_filter_lt_length_iff_exists.mpr ⟨x, List.mem_of_find?_eq_some hleft, hgone⟩

/-- A row that takes up a channel left by phase 3 carries the rule out on the words left, and they are used up. -/
theorem Lane.agreeLate_of_left {p : Lane → Lane → Bool} (hn : n < 96) (hp : p l (l.agreeAll x.words n x.at_) = true) :
    (l.agreeLate n p).regs = (l.agreeAll x.words n x.at_).regs ∧ l.regsBut [AIN_VFLG n, AIN_VAL n] (l.agreeLate n p) ∧
      (l.agreeLate n p).cut.late.length < l.cut.late.length := by
  obtain ⟨hregs, hcut⟩ := Lane.measured.agreeAll l hn x.words x.at_
  have hrow : l.agreeLate n p = (l.agreeAll x.words n x.at_).usedUp n := by
    unfold Lane.agreeLate
    rw [hleft]
    exact if_pos hp
  rw [hrow]
  exact ⟨rfl, hregs.of_regs_eq rfl, Lane.usedUp_late_length hleft hcut⟩

end

/-! ### Fields of AIN_VFLG -/

theorem Fld.get_put_apart {f g : Fld} (h : fldsApart f g) (v : Nat) (w : Word) : f.get (g.put v w) = f.get w :=
  Fld.get_put_ne f g v w h.1 h.2

/-- The flags that a used or held word may write. -/
def wordFlags : List Fld :=
  [AIN_VFLG_STALE, AIN_VFLG_NOPATH, AIN_VFLG_RANGE_TR, AIN_VFLG_INJ, AIN_VFLG_OVR, AIN_VFLG_CJC_FB, AIN_VFLG_LIM, AIN_VFLG_SUBST,
    AIN_VFLG_SRC]

section
variable (l : Lane) (n : Nat)

/-- A word that is used leaves the flags of the agreement alone. -/
theorem Lane.useWord_fld (w : TWord) (rangeTr inj : Bool) {f : Fld} (hf : ∀ g ∈ wordFlags, fldsApart f g) :
    (l.useWord n w rangeTr inj).fld (AIN_VFLG n) f = l.fld (AIN_VFLG n) f := by
  simp only [wordFlags, List.forall_mem_cons] at hf
  obtain ⟨hstale, hnopath, hrange, hinj, hovr, hcjc, hlim, hsubst, hsrc, -⟩ := hf
  unfold Lane.useWord
  dsimp only
  split
  case h_1 =>
    rw [Lane.holdStale, Lane.setB, Lane.fld_setF_field _ _ _ _ _ hinj, Lane.setB, Lane.fld_setF_field _ _ _ _ _ hrange, Lane.setB,
      Lane.fld_setF_field _ _ _ _ _ hnopath, Lane.setB, Lane.fld_setF_field _ _ _ _ _ hstale]
  case h_2 =>
    simp only [apply_ite (fun m : Lane => m.fld (AIN_VFLG n) f), Lane.fld_ev, ite_self, Lane.fld_wr_same, Fld.get_put_apart hsrc,
      Fld.get_put_apart hlim, Fld.get_put_apart hsubst, Fld.get_put_apart hovr, Fld.get_put_apart hcjc, Fld.get_put_apart hrange,
      Fld.get_put_apart hinj, Fld.get_put_apart hstale, Fld.get_put_apart hnopath]
    exact Lane.fld_wr_ne _ _ _ _ _ (by unfold AIN_VFLG AIN_VAL; omega)

section
variable (src : Path) (cause : Nat)

theorem Lane.goSingle_single : (l.goSingle n src cause).on (AIN_VFLG n) AIN_VFLG_SINGLE = true := by
  rw [Lane.goSingle, Lane.on, Lane.fld_setF_field _ _ _ _ _ (by decide), Lane.fld_setF_field _ _ _ _ _ (by decide),
    Lane.fld_setF_field _ _ _ _ _ (by decide), ← Lane.on, Lane.on_setB_same _ _ _ _ (by decide)]

theorem Lane.goSingle_src : (l.goSingle n src cause).fld (AIN_VFLG n) AIN_VFLG_SRC = numOfPath src := by
  rw [Lane.goSingle, Lane.fld_setF_field _ _ _ _ _ (by decide), Lane.fld_setF_field _ _ _ _ _ (by decide),
    Lane.fld_setF_same _ _ _ _ (by decide)]
  cases src <;> rfl

theorem Lane.goSingle_cause (hcause : cause < 4) : (l.goSingle n src cause).fld (AIN_VFLG n) AIN_VFLG_SP_CAUSE = cause := by
  rw [Lane.goSingle, Lane.fld_setF_field _ _ _ _ _ (by decide), Lane.fld_setF_same _ _ _ _ (by decide)]
  exact Nat.mod_eq_of_lt hcause

theorem Lane.goSingle_rstCnt : (l.goSingle n src cause).fld (AIN_VFLG n) AIN_VFLG_RST_CNT = 0 := by
  rw [Lane.goSingle, Lane.fld_setF_same _ _ _ _ (by decide), Nat.zero_mod]

/-- The other flags stand. -/
theorem Lane.goSingle_fld {f : Fld}
    (hf : ∀ g ∈ [AIN_VFLG_SINGLE, AIN_VFLG_SRC, AIN_VFLG_SP_CAUSE, AIN_VFLG_RST_CNT], fldsApart f g) :
    (l.goSingle n src cause).fld (AIN_VFLG n) f = l.fld (AIN_VFLG n) f := by
  rw [Lane.goSingle, Lane.fld_setF_field _ _ _ _ _ (hf _ (by simp)), Lane.fld_setF_field _ _ _ _ _ (hf _ (by simp)),
    Lane.fld_setF_field _ _ _ _ _ (hf _ (by simp)), Lane.setB, Lane.fld_setF_field _ _ _ _ _ (hf _ (by simp))]

end

/-! ### Two compared words out of tolerance -/

/-- A disagreement is counted and set, and the word of the trusted path is used. -/
def Lane.disagreed (a b : TWord) : Lane :=
  ((l.setF (AIN_VFLG n) AIN_VFLG_DIS_CNT (l.fld (AIN_VFLG n) AIN_VFLG_DIS_CNT + 1)).setB (AIN_VFLG n) AIN_VFLG_DISAGREE true).useWord n
    (match trusted (l.chan n) (l.rd (AIN_PCFG n)) with | .A => a | .B => b) false false

theorem Lane.disagreed_disagree (a b : TWord) : (l.disagreed n a b).on (AIN_VFLG n) AIN_VFLG_DISAGREE = true := by
  rw [Lane.disagreed, Lane.on, Lane.useWord_fld _ _ _ _ _ (by decide), ← Lane.on, Lane.on_setB_same _ _ _ _ (by decide)]

theorem Lane.disagreed_disCnt (a b : TWord) (hcnt : l.fld (AIN_VFLG n) AIN_VFLG_DIS_CNT ≤ 2) :
    (l.disagreed n a b).fld (AIN_VFLG n) AIN_VFLG_DIS_CNT = l.fld (AIN_VFLG n) AIN_VFLG_DIS_CNT + 1 := by
  rw [Lane.disagreed, Lane.useWord_fld _ _ _ _ _ (by decide), Lane.setB, Lane.fld_setF_field _ _ _ _ _ (by decide),
    Lane.fld_setF_same _ _ _ _ (by decide)]
  exact Nat.mod_eq_of_lt (show _ + 1 < 4 by omega)

theorem Lane.disagreed_single (a b : TWord) :
    (l.disagreed n a b).on (AIN_VFLG n) AIN_VFLG_SINGLE = l.on (AIN_VFLG n) AIN_VFLG_SINGLE := by
  rw [Lane.disagreed, Lane.on, Lane.useWord_fld _ _ _ _ _ (by decide), ← Lane.on, Lane.on_setB_field _ _ _ _ _ (by decide), Lane.on,
    Lane.fld_setF_field _ _ _ _ _ (by decide), ← Lane.on]

end

section
variable {l : Lane} {n : Nat} {a b : TWord}

/-- Two words that are compared and lie out of tolerance; the third such pair in a row isolates a path (R99). -/
theorem Lane.agreeBoth_of_apart (hainj : a.inj = false) (hatr : a.rangeTr = false) (hbinj : b.inj = false) (hbtr : b.rangeTr = false)
    (hstale : wordStale (l.wordCfg n a) (l.chan n) a = false) (htol : inTol (l.wordCfg n a) (l.rd (AIN_PCFG n)) (l.chan n) a b = false)
    (hb : (calOf (l.wordCfg n a) (l.chan n) b).isSome = true) : l.agreeBoth n a b =
      if l.fld (AIN_VFLG n) AIN_VFLG_DIS_CNT = 2
        then ((l.disagreed n a b).goSingle n (trusted (l.chan n) (l.rd (AIN_PCFG n))) 1).ev evSinglePath else l.disagreed n a b := by
  have hbNone : (calOf (l.wordCfg n a) (l.chan n) b).isNone = false := by simpa using hb
  unfold Lane.agreeBoth
  simp only [hainj, hatr, hbinj, hbtr, hstale, htol, hbNone, Bool.or_false, Bool.false_eq_true, if_false]
  exact if_congr (by omega) rfl rfl

end

/-- Settles O14: a row takes up what phase 3 has left where the rule isolates or restores the channel; two words apart count. -/
theorem agreementRows : Obligations.AgreementRows := by
  refine ⟨fun ch x s i hcomputes hleft htwo hsingle hcause => ?isolates, fun ch x s i hcomputes hleft hsingle htwo => ?restores,
    fun l n a b hn hainj hatr hbinj hbtr hstale htol hb hsingle hcnt => ?compares⟩
  case isolates =>
    have hbecame : becameSingle ch (s.lane i) ((s.lane i).agreeAll x.words ch x.at_) = true := by simp [becameSingle, htwo, hsingle, hcause]
    obtain ⟨hregs, hframe, hlate⟩ := Lane.agreeLate_of_left (p := becameSingle ch) hleft ch.isLt hbecame
    refine ⟨_, rfl, s.both_sharedKept _, ?_⟩
    rw [State.both_lane, if_pos hcomputes, Lane.on_of_regs_eq hregs, Lane.fld_of_regs_eq hregs]
    exact ⟨hsingle, hcause, hframe, hlate⟩
  case restores =>
    have hended : endedSingle ch (s.lane i) ((s.lane i).agreeAll x.words ch x.at_) = true := by simp [endedSingle, htwo, hsingle]
    obtain ⟨hregs, hframe, hlate⟩ := Lane.agreeLate_of_left (p := endedSingle ch) hleft ch.isLt hended
    refine ⟨_, rfl, s.both_sharedKept _, ?_⟩
    rw [State.both_lane, if_pos hcomputes, Lane.on_of_regs_eq hregs]
    exact ⟨htwo, hframe, hlate⟩
  case compares =>
    dsimp only
    have hframe : l.regsBut [AIN_VFLG n, AIN_VAL n] (l.agreeBoth n a b) := ((Lane.measured.refl n l).agreeBoth hn a b).regs
    have hrule := Lane.agreeBoth_of_apart hainj hatr hbinj hbtr hstale htol hb
    obtain hthird | hmore := eq_or_ne (l.fld (AIN_VFLG n) AIN_VFLG_DIS_CNT) 2
    · rw [if_pos hthird] at hrule
      rw [hrule] at hframe ⊢
      refine ⟨?_, ?_, ?_, fun _ => ⟨?_, ?_, ?_, hframe⟩⟩
      · rw [Lane.on_ev, Lane.on, Lane.goSingle_fld _ _ _ _ (by decide), ← Lane.on, Lane.disagreed_disagree]
      · rw [Lane.fld_ev, Lane.goSingle_fld _ _ _ _ (by decide), Lane.disagreed_disCnt _ _ _ _ hcnt]
      · rw [Lane.on_ev, Lane.goSingle_single, decide_eq_true hthird]
      · rw [Lane.fld_ev, Lane.goSingle_cause _ _ _ _ (by decide)]
      · rw [Lane.fld_ev, Lane.goSingle_rstCnt]
      · rw [Lane.fld_ev, Lane.goSingle_src]
    · rw [if_neg hmore] at hrule
      rw [hrule]
      refine ⟨l.disagreed_disagree n a b, l.disagreed_disCnt n a b hcnt, ?_, fun hthird => absurd hthird hmore⟩
      rw [Lane.disagreed_single, hsingle, decide_eq_false hmore]

end Sys2Proof.Machine
end

section
/-! The status of a channel (R72, R75, R82, R83, R111): range steps, the excitation and open-circuit flags, the shunt that trips and
recloses. -/

namespace Sys2Proof.Machine

/-! ### Gains and channels after an update -/

section
variable (h : Shared) (n : Nat)

@[simp] theorem Shared.gain_setChan (c : ChanHw) (i : Nat) (p : Path) : (h.setChan n c).gain i p = h.gain i p := by cases p <;> rfl
@[simp] theorem Shared.fld_setChan (c : ChanHw) (k : Nat) (f : Fld) : (h.setChan n c).fld k f = h.fld k f := rfl
@[simp] theorem Shared.chan_setF (k : Nat) (f : Fld) (v i : Nat) : (h.setF k f v).chan i = h.chan i := rfl

theorem Shared.gain_setGain_same (p : Path) {v : Nat} (hv : v < 8) : (h.setGain n p v).gain n p = v := by
  cases p <;> exact (Shared.fld_setF_same _ _ _ _ (by decide)).trans (Nat.mod_eq_of_lt hv)

theorem Shared.gain_setGain_other (p : Path) (v : Nat) : (h.setGain n p.other v).gain n p = h.gain n p := by
  cases p <;> exact Shared.fld_setF_field _ _ _ _ _ (by decide)

/-- A field of AIN_CHST beside the gains. -/
theorem Shared.fld_setGain (p : Path) (v : Nat) {f : Fld} (hf : ∀ g ∈ [AIN_CHST_GAIN_A, AIN_CHST_GAIN_B], fldsApart f g) :
    (h.setGain n p v).fld (AIN_CHST n) f = h.fld (AIN_CHST n) f := by
  cases p <;> exact Shared.fld_setF_field _ _ _ _ _ (hf _ (by simp))

end

theorem Path.other_other (p : Path) : p.other.other = p := by cases p <;> rfl

/-! ### Range changes (R111) -/

/-- One step of a range change: path `p` switches its stage, and the place in the sequence moves on. -/
def Shared.rangeSwitch (h : Shared) (n : Nat) (p : Path) (pos : Nat) : Shared :=
  (h.setGain n p (if (h.chan n).rngUp then 1 else 4)).setChan n { h.chan n with rngPos := pos }

section
variable (h : Shared) {n : Nat} (p : Path) (pos : Nat)

/-- A step switches one path; the other path and every other register stand. -/
theorem Shared.rangeSwitch_effect (hn : n < 96) : h.regsBut [AIN_CHST n] (h.rangeSwitch n p pos) ∧
    (h.rangeSwitch n p pos).gain n p = (if (h.chan n).rngUp then 1 else 4) ∧
    (h.rangeSwitch n p pos).gain n p.other = h.gain n p.other ∧ ((h.rangeSwitch n p pos).chan n).rngPos = pos := by
  refine ⟨?_, ?_, ?_, ?_⟩
  · exact (Shared.regsBut.refl _ h).setGain (by unfold AIN_CHST; omega) (List.mem_singleton_self _) _ _
  · exact Shared.gain_setGain_same h n p (by split <;> decide)
  · have hother := Shared.gain_setGain_other h n p.other (if (h.chan n).rngUp then 1 else 4)
    rwa [Path.other_other] at hother
  · rw [Shared.rangeSwitch, Shared.chan_setChan_same]

variable {h} {pcfg : Word} (hrun : (h.chan n).rngRun = true)
include hrun

theorem Shared.rangeStep_of_first (hpos : (h.chan n).rngPos = 0) : h.rangeStep pcfg n = h.rangeSwitch n (primOf pcfg).other 1 := by
  simp [Shared.rangeStep, hrun, hpos, Shared.rangeSwitch, Shared.switchStage, lowGain]

theorem Shared.rangeStep_of_second (hpos : (h.chan n).rngPos = 3) : h.rangeStep pcfg n = h.rangeSwitch n (primOf pcfg) 4 := by
  simp [Shared.rangeStep, hrun, hpos, Shared.rangeSwitch, Shared.switchStage, lowGain]

end

/-! ### EXC_SAT and OPEN (R72, R75) -/

section
variable {s : State} {n : Nat}

theorem State.excSatChange_set (hclear : s.sh.on (AIN_CHST n) AIN_CHST_EXC_SAT = false) (hrun : (s.sh.chan n).satRun = 2) :
    s.excSatChange n = (s.withSh (s.sh.setB (AIN_CHST n) AIN_CHST_EXC_SAT true)).taking (Lane.evCut · evExc) := by
  unfold State.excSatChange
  dsimp only
  rw [if_pos (by simp [hclear, hrun])]
  rfl

theorem State.excSatChange_clear (hset : s.sh.on (AIN_CHST n) AIN_CHST_EXC_SAT = true) (hrun : (s.sh.chan n).unsatRun = 2) :
    s.excSatChange n = s.withSh (s.sh.setB (AIN_CHST n) AIN_CHST_EXC_SAT false) := by
  unfold State.excSatChange
  dsimp only
  rw [if_neg (by simp [hset]), if_pos (by simp [hset, hrun])]
  rfl

theorem State.openChange_set (hclear : s.sh.on (AIN_CHST n) AIN_CHST_OPEN = false) (hrun : (s.sh.chan n).opnRun = 2) :
    s.openChange n = (s.withSh (s.sh.setB (AIN_CHST n) AIN_CHST_OPEN true)).taking (Lane.evCut · evOpen) := by
  unfold State.openChange
  dsimp only
  rw [if_pos (by simp [hclear, hrun])]
  rfl

theorem State.openChange_clear (hset : s.sh.on (AIN_CHST n) AIN_CHST_OPEN = true) (hrun : (s.sh.chan n).clsRun = 2) :
    s.openChange n = s.withSh (s.sh.setB (AIN_CHST n) AIN_CHST_OPEN false) := by
  unfold State.openChange
  dsimp only
  rw [if_neg (by simp [hset]), if_pos (by simp [hset, hrun])]
  rfl

end

/-- A one-bit status of a channel written: it reads back, and every other register stands. -/
theorem Shared.setChst_effect (h : Shared) {n : Nat} (hn : n < 96) {f : Fld} (hbit : f.lo + f.width ≤ 32 ∧ f.width = 1) (v : Bool) :
    h.regsBut [AIN_CHST n] (h.setB (AIN_CHST n) f v) ∧ (h.setB (AIN_CHST n) f v).on (AIN_CHST n) f = v :=
  ⟨(Shared.regsBut.refl _ h).setB (by unfold AIN_CHST; omega) (List.mem_singleton_self _) _ _, Shared.on_setB_same _ _ _ _ hbit⟩

/-- What the lanes that take cuts hold after an event of the data of the coming cut. -/
theorem State.taking_evCut_lane (s : State) (h : Shared) (e : Nat) (i : LaneId) (htakes : (s.lane i).takes = true) :
    ((s.withSh h).taking (Lane.evCut · e)).lane i = (s.lane i).evCut e := by
  rw [State.taking_lane, State.withSh_lane, if_pos htakes]

/-! ### A shunt that trips (R82) -/

/-- The shunt opened: the trip set and counted. -/
def Shared.openShunt (h : Shared) (n : Nat) : Shared :=
  ((h.setB (AIN_CHST n) AIN_CHST_SHUNT false).setB (AIN_CHST n) AIN_CHST_SHUNT_TRIP true).bump (AIN_CHST n) AIN_CHST_TRIPS

/-- The shunt trips at instant `w`: a running check is aborted, the shunt opens, and both range stages return to ×1. -/
def Shared.tripShunt (h : Shared) (n w : Nat) : Shared :=
  let g := (((h.chkAbort n w).openShunt n).setGain n .A 1).setGain n .B 1
  g.setChan n { g.chan n with tripAt := w, retry := false, rngRun := false, rngPos := 0, downRun := 0 }

theorem State.shuntTrip_of_closed {s : State} {n : Nat} (w : Nat) (hshunt : s.sh.on (AIN_CHST n) AIN_CHST_SHUNT = true) :
    s.shuntTrip n w = (s.withSh (s.sh.tripShunt n w)).taking (Lane.evCut · evShuntTrip) := by
  unfold State.shuntTrip
  rw [if_pos hshunt]
  rfl

section
variable (h : Shared) (n : Nat)

/-- The end of a check on the channel moves no field of AIN_CHST but the mark of its path. -/
theorem Shared.fld_chkAbort (w : Nat) {f : Fld} (hf : ∀ p, fldsApart f (injFld p)) :
    (h.chkAbort n w).fld (AIN_CHST n) f = h.fld (AIN_CHST n) f := by
  unfold Shared.chkAbort
  split
  case isTrue hrun =>
    have hch : (h.tile (tileOf n)).chkCh = n := by
      simp only [Shared.chkOn, Bool.and_eq_true, beq_iff_eq] at hrun
      exact hrun.1.2
    have hinj (g : Shared) (f' : Fld) (v : Nat) : (g.setF (AIN_INJST n) f' v).fld (AIN_CHST n) f = g.fld (AIN_CHST n) f :=
      Shared.fld_setF_ne _ _ _ _ _ _ (by unfold AIN_CHST AIN_INJST; omega)
    rw [Shared.bump, hinj, Shared.chkEnd, hch, Shared.setB, hinj]
    exact Shared.fld_setF_field _ _ _ _ _ (hf _)
  case isFalse => rfl

theorem Shared.openShunt_shunt : (h.openShunt n).on (AIN_CHST n) AIN_CHST_SHUNT = false := by
  rw [Shared.openShunt, Shared.bump, Shared.on, Shared.fld_setF_field _ _ _ _ _ (by decide), ← Shared.on,
    Shared.on_setB_field _ _ _ _ _ (by decide), Shared.on_setB_same _ _ _ _ (by decide)]

theorem Shared.openShunt_trip : (h.openShunt n).on (AIN_CHST n) AIN_CHST_SHUNT_TRIP = true := by
  rw [Shared.openShunt, Shared.bump, Shared.on, Shared.fld_setF_field _ _ _ _ _ (by decide), ← Shared.on,
    Shared.on_setB_same _ _ _ _ (by decide)]

theorem Shared.openShunt_trips : (h.openShunt n).fld (AIN_CHST n) AIN_CHST_TRIPS = min 255 (h.fld (AIN_CHST n) AIN_CHST_TRIPS + 1) := by
  rw [Shared.openShunt, Shared.fld_bump_same _ _ _ (by decide), Shared.setB, Shared.fld_setF_field _ _ _ _ _ (by decide), Shared.setB,
    Shared.fld_setF_field _ _ _ _ _ (by decide)]
  rfl

variable (w : Nat)

/-- The gains leave what the opening of the shunt has set. -/
theorem Shared.tripShunt_fld {f : Fld} (hf : ∀ g ∈ [AIN_CHST_GAIN_A, AIN_CHST_GAIN_B], fldsApart f g) :
    (h.tripShunt n w).fld (AIN_CHST n) f = ((h.chkAbort n w).openShunt n).fld (AIN_CHST n) f := by
  rw [Shared.tripShunt, Shared.fld_setChan, Shared.fld_setGain _ _ _ _ hf, Shared.fld_setGain _ _ _ _ hf]

theorem Shared.tripShunt_gain (p : Path) : (h.tripShunt n w).gain n p = 1 := by
  rw [Shared.tripShunt, Shared.gain_setChan]
  cases p
  case A =>
    rw [show Path.B = Path.A.other from rfl, Shared.gain_setGain_other, Shared.gain_setGain_same _ _ _ (by decide)]
  case B => rw [Shared.gain_setGain_same _ _ _ (by decide)]

theorem Shared.tripShunt_tripAt : ((h.tripShunt n w).chan n).tripAt = w := by
  rw [Shared.tripShunt, Shared.chan_setChan_same]

theorem Shared.chanMoved.tripShunt {h g : Shared} {n : Nat} (hg : h.chanMoved n g) (hn : n < 96) (w : Nat) :
    h.chanMoved n (g.tripShunt n w) :=
  (((((hg.chkAbort hn w).setChst hn _ _).setChst hn _ _).setChst hn _ _).setGain hn .A 1).setGain hn .B 1 |>.setChan _ _

end

/-! ### A shunt that recloses (R83, R84) -/

section
variable {s : State} {n w : Nat}

/-- A tripped shunt recloses after 1 s at a word instant of its channel. -/
theorem execShuntReclose_of_due {ch : Fin 96} {dt : Nat} (htrip : s.sh.on (AIN_CHST ch) AIN_CHST_SHUNT_TRIP = true)
    (hloaded : (s.sh.tile (tileOf ch)).loaded = true) (hsensor : AIN_CFG_SENSOR.get (s.sh.chan ch).front = senMa)
    (hsecond : (s.sh.chan ch).tripAt + 1000000000 ≤ s.sh.gt + dt) (hinstant : isWordInstant (s.sh.chan ch).rate (s.sh.gt + dt) = true) :
    exec (.shuntReclose ch dt) s = .next (s.withSh (s.sh.recloseAt (s.ainCfg ch) (s.ainPcfg ch) ch (s.sh.gt + dt))) := by
  have hrate : s.rateOf ch = (s.sh.chan ch).rate := by simp [State.rateOf, hsensor, senMa]
  have hdue : s.sh.recloseDue ch (s.sh.gt + dt) = true := by simp [Shared.recloseDue, hloaded, htrip, hsecond]
  exact congrArg Host.Outcome.next (if_pos (by rw [hrate, hdue, hinstant]; rfl))

end

section
variable (h : Shared) (n : Nat) (cfg pcfg : Word) (w : Nat)

theorem Shared.reclose_chan :
    (h.reclose n w).chan n = { (h.chan n).restart false with retry := false, started := true, lastW := max (h.chan n).lastW w } :=
  Shared.chan_setChan_same ..

theorem Shared.recloseAt_of_notDue (hdue : (h.chan n).due = false) : h.recloseAt cfg pcfg n w = h.reclose n w := by
  have hstays : ((h.reclose n w).chan n).due = false := by rw [Shared.reclose_chan]; exact hdue
  simp [Shared.recloseAt, hstays]

theorem Shared.recloseAt_of_due (hdue : (h.chan n).due = true) (hexc : (h.chan n).excDue = false) :
    h.recloseAt cfg pcfg n w = (h.reclose n w).frontAt cfg pcfg n w := by
  have hchange : ((h.reclose n w).chan n).due = true := by rw [Shared.reclose_chan]; exact hdue
  have hfree : ((h.reclose n w).chan n).excDue = false := by rw [Shared.reclose_chan]; exact hexc
  simp [Shared.recloseAt, Shared.frontFree, hchange, hfree]

/-- The shunt of an mA channel is closed again. -/
theorem Shared.reclose_shunt (hsensor : AIN_CFG_SENSOR.get (h.chan n).front = senMa) :
    (h.reclose n w).on (AIN_CHST n) AIN_CHST_SHUNT = true := by
  rw [Shared.reclose, Shared.on_setChan, Shared.element, Shared.on_setB_same _ _ _ _ (by decide), hsensor,
    Shared.on_setB_same _ _ _ _ (by decide)]
  rfl

/-- A change of settings that is made leaves the channel with the settings of the registers and none due. -/
theorem Shared.frontAt_settings (swap : Bool) : ((h.frontAt cfg pcfg n w swap).chan n).due = false ∧
    ((h.frontAt cfg pcfg n w swap).chan n).front = frontOf cfg ∧
    ((h.frontAt cfg pcfg n w swap).chan n).rate = AIN_PCFG_RATE.get pcfg := by
  unfold Shared.frontAt
  dsimp only
  split <;> simp only [Shared.chan_setChan_same, apply_ite ChanHw.due, apply_ite ChanHw.front, apply_ite ChanHw.rate, ChanHw.restart,
    ite_self, and_self]

end

end Sys2Proof.Machine
end

section
/-! Injection checks (R104–R107): a slot starts at most one check on each tile, and the check of one tile leaves alone what decides that
of another; the result of a check. -/

namespace Sys2Proof.Machine

/-! ### Channels and tiles after an update -/

section
variable (h : Shared) (t n : Nat) (x : TileHw) (c : ChanHw)

@[simp] theorem Shared.setChan_auth : (h.setChan n c).auth = h.auth := rfl
@[simp] theorem Shared.setTile_auth : (h.setTile t x).auth = h.auth := rfl
@[simp] theorem Shared.tile_setF (k : Nat) (f : Fld) (v : Nat) : (h.setF k f v).tile t = h.tile t := rfl
@[simp] theorem Shared.tile_setChan : (h.setChan n c).tile t = h.tile t := rfl
@[simp] theorem Shared.chan_setTile : (h.setTile t x).chan n = h.chan n := rfl
@[simp] theorem Shared.rd_setChan (k : Nat) : (h.setChan n c).rd k = h.rd k := rfl
@[simp] theorem Shared.rd_setTile (k : Nat) : (h.setTile t x).rd k = h.rd k := rfl

theorem Shared.tile_setTile_ne {u : Nat} (hne : u % 4096 ≠ t % 4096) : (h.setTile t x).tile u = h.tile u :=
  Trie.at_upd_ne _ _ _ _ _ hne

theorem Shared.chan_setChan_ne {m : Nat} (hne : m % 4096 ≠ n % 4096) : (h.setChan n c).chan m = h.chan m :=
  Trie.at_upd_ne _ _ _ _ _ hne

end

/-! ### The start of a check on one tile (R104–R106) -/

/-- A check of path `k` in the order of tile `t` begins; the path after it is next. -/
def Shared.startCheck (h : Shared) (t k : Nat) : Shared :=
  let n := 8 * t + k / 2
  let p := pathOfNum k
  let x := { h.tile t with chk := true, chkCh := n, chkPath := p, chkAt := h.gt, chkHeld := h.fld (AIN_INJST n) (abortsFld p) == 15,
                           injNext := (k + 1) % 16 }
  ((((h.setTile t x).setChan n ((h.chan n).injBegin p h.gt)).setB (AIN_CHST n) (injFld p) true).setB (AIN_INJST n) AIN_INJST_ACTIVE
    true).setF (AIN_INJST n) AIN_INJST_ACT_PATH (numOfPath p)

section
variable {s : State} {t k : Nat}

theorem State.nextEligible_lt {fuel j : Nat} (hnext : s.nextEligible t fuel j = some k) : k < 16 := by
  induction fuel generalizing j with
  | zero => cases hnext
  | succ fuel ih =>
    unfold State.nextEligible at hnext
    split at hnext
    · obtain rfl := Option.some.inj hnext
      exact Nat.mod_lt _ (by decide)
    · exact ih hnext

theorem State.injStart_of_eligible (hloaded : (s.sh.tile t).loaded = true) (hfree : (s.sh.tile t).chk = false)
    (hnext : s.nextEligible t 16 (s.sh.tile t).injNext = some k) : s.injStart t = s.withSh (s.sh.startCheck t k) := by
  unfold State.injStart
  dsimp only
  rw [if_pos (by simp [hloaded, hfree]), hnext]
  rfl

/-- A tile starts no check, or one of a path of its own channels. -/
theorem State.injStart_cases (s : State) (t : Nat) : s.injStart t = s ∨ ∃ k < 16, s.injStart t = s.withSh (s.sh.startCheck t k) := by
  unfold State.injStart
  dsimp only
  split
  case isFalse => exact .inl rfl
  case isTrue =>
    split
    case h_1 => exact .inl rfl
    case h_2 k hnext => exact .inr ⟨k, State.nextEligible_lt hnext, rfl⟩

end

/-! ### What one tile leaves alone of another -/

theorem State.lanesKept.trans {s u v : State} (hu : s.lanesKept u) (hv : u.lanesKept v) : s.lanesKept v := by
  obtain ⟨ha, hb, hsnap, hpending⟩ := hu
  obtain ⟨ha', hb', hsnap', hpending'⟩ := hv
  exact ⟨ha'.trans ha, hb'.trans hb, hsnap'.trans hsnap, hpending'.trans hpending⟩

theorem Shared.on_of_rd_eq {h g : Shared} {k : Nat} (hrd : g.rd k = h.rd k) (f : Fld) : g.on k f = h.on k f :=
  congrArg (f.get · != 0) hrd

/-- What decides the check of tile `t`, and what shows it, is the same in two states. -/
structure State.checkKept (t : Nat) (s u : State) : Prop where
  lanes : s.lanesKept u
  auth : u.sh.auth = s.sh.auth
  gt : u.sh.gt = s.sh.gt
  tile : u.sh.tile t = s.sh.tile t
  chan : ∀ n, tileOf n = t → u.sh.chan n = s.sh.chan n
  chst : ∀ n, tileOf n = t → u.sh.rd (AIN_CHST n) = s.sh.rd (AIN_CHST n)
  injst : ∀ n, tileOf n = t → u.sh.rd (AIN_INJST n) = s.sh.rd (AIN_INJST n)

namespace State.checkKept

variable {t : Nat} {s u v : State}

theorem refl (t : Nat) (s : State) : s.checkKept t s :=
  ⟨⟨rfl, rfl, rfl, rfl⟩, rfl, rfl, rfl, fun _ _ => rfl, fun _ _ => rfl, fun _ _ => rfl⟩

theorem trans (h₁ : s.checkKept t u) (h₂ : u.checkKept t v) : s.checkKept t v :=
  ⟨h₁.lanes.trans h₂.lanes, h₂.auth.trans h₁.auth, h₂.gt.trans h₁.gt, h₂.tile.trans h₁.tile,
    fun n hn => (h₂.chan n hn).trans (h₁.chan n hn), fun n hn => (h₂.chst n hn).trans (h₁.chst n hn),
    fun n hn => (h₂.injst n hn).trans (h₁.injst n hn)⟩

/-- The instant of the newest slot decides no check. -/
theorem slot (t : Nat) (s : State) : s.checkKept t (s.withSh { s.sh with injAt := some s.sh.gt }) :=
  ⟨s.withSh_lanesKept _, rfl, rfl, rfl, fun _ _ => rfl, fun _ _ => rfl, fun _ _ => rfl⟩

section
variable (h : s.checkKept t u)
include h

/-- The same lane leads. -/
theorem lead : u.lead = s.lead := by
  obtain ⟨ha, hb, -, -⟩ := h.lanes
  have hlane (i : LaneId) : u.lane i = s.lane i := by
    cases i
    · exact ha
    · exact hb
  unfold State.lead
  simp only [h.auth, hlane, ha, hb]

theorem eligible {n : Nat} (hn : tileOf n = t) (p : Path) : u.eligible n p = s.eligible n p := by
  simp only [State.eligible, State.ainPcfg, State.ainCfg, h.lead, h.chan n hn, h.gt, Shared.on, Shared.fld, RegFile.fld]
  rw [← Shared.rd, ← Shared.rd, h.chst n hn]

theorem nextEligible (fuel k : Nat) : u.nextEligible t fuel k = s.nextEligible t fuel k := by
  induction fuel generalizing k with
  | zero => rfl
  | succ fuel ih =>
    have hn : tileOf (8 * t + k % 16 / 2) = t := by unfold tileOf; omega
    rw [State.nextEligible, State.nextEligible, h.eligible hn, ih]

end

/-- The start of a check on another tile. -/
theorem startCheck (s : State) {t u k : Nat} (ht : t < 12) (hu : u < 12) (hne : t ≠ u) (hk : k < 16) :
    s.checkKept t (s.withSh (s.sh.startCheck u k)) := by
  refine ⟨s.withSh_lanesKept _, ?auth, ?gt, ?tile, fun n hn => ?chan, fun n hn => ?chst, fun n hn => ?injst⟩
  all_goals rw [State.withSh_sh, Shared.startCheck]
  case auth => simp
  case gt => simp
  case tile =>
    simp only [Shared.setB, Shared.tile_setF, Shared.tile_setChan]
    exact Shared.tile_setTile_ne _ _ _ (by omega)
  all_goals unfold tileOf at hn
  case chan =>
    simp only [Shared.setB, Shared.chan_setF]
    rw [Shared.chan_setChan_ne _ _ _ (by omega), Shared.chan_setTile]
  case chst =>
    rw [Shared.rd_setF_ne _ _ _ _ _ (by unfold AIN_CHST AIN_INJST; omega), Shared.setB,
      Shared.rd_setF_ne _ _ _ _ _ (by unfold AIN_CHST AIN_INJST; omega), Shared.setB,
      Shared.rd_setF_ne _ _ _ _ _ (by unfold AIN_CHST; omega), Shared.rd_setChan, Shared.rd_setTile]
  case injst =>
    rw [Shared.rd_setF_ne _ _ _ _ _ (by unfold AIN_INJST; omega), Shared.setB,
      Shared.rd_setF_ne _ _ _ _ _ (by unfold AIN_INJST; omega), Shared.setB,
      Shared.rd_setF_ne _ _ _ _ _ (by unfold AIN_CHST AIN_INJST; omega), Shared.rd_setChan, Shared.rd_setTile]

theorem injStart (s : State) {t u : Nat} (ht : t < 12) (hu : u < 12) (hne : t ≠ u) : s.checkKept t (s.injStart u) := by
  obtain hnone | ⟨k, hk, hstart⟩ := s.injStart_cases u
  · rw [hnone]
    exact .refl t s
  · rw [hstart]
    exact .startCheck s ht hu hne hk

/-- The other tiles of a slot. -/
theorem injStarts (s : State) {t : Nat} (ht : t < 12) {ts : List Nat} (hts : ∀ u ∈ ts, u < 12) (hnot : t ∉ ts) :
    s.checkKept t (ts.foldl State.injStart s) :=
  List.foldlRecOn (motive := s.checkKept t) _ _ (.refl t s) fun _ hu _ hmem =>
    hu.trans (.injStart _ ht (hts _ hmem) fun heq => hnot (heq ▸ hmem))

end State.checkKept

/-! ### An injection slot (R104) -/

/-- The turn of a tile in a slot: what the tiles before and after it do leaves its check alone. -/
theorem State.injStarts_of_eligible {s : State} {t k : Nat} (ht : t < 12) (hloaded : (s.sh.tile t).loaded = true)
    (hfree : (s.sh.tile t).chk = false) (hnext : s.nextEligible t 16 (s.sh.tile t).injNext = some k) :
    ∃ r, s.checkKept t r ∧ (r.withSh (r.sh.startCheck t k)).checkKept t ((upTo 12).foldl State.injStart s) := by
  obtain ⟨before, after, hsplit⟩ := List.append_of_mem (List.mem_range.mpr ht)
  have hall : ∀ u ∈ before ++ t :: after, u < 12 := fun u hu => List.mem_range.mp (hsplit ▸ hu)
  have hnodup : (before ++ t :: after).Nodup := hsplit ▸ List.nodup_range
  have hnot : t ∉ before ∧ t ∉ after := by
    rw [List.nodup_middle, List.nodup_cons, List.mem_append, not_or] at hnodup
    exact hnodup.1
  have hbefore : s.checkKept t (before.foldl State.injStart s) :=
    .injStarts s ht (fun u hu => hall u (List.mem_append_left _ hu)) hnot.1
  have hturn : (before.foldl State.injStart s).injStart t =
      (before.foldl State.injStart s).withSh ((before.foldl State.injStart s).sh.startCheck t k) :=
    State.injStart_of_eligible (by rw [hbefore.tile, hloaded]) (by rw [hbefore.tile, hfree])
      (by rw [hbefore.tile, hbefore.nextEligible, hnext])
  refine ⟨_, hbefore, ?_⟩
  rw [upTo, hsplit, List.foldl_append, List.foldl_cons, hturn]
  exact .injStarts _ ht (fun u hu => hall u (List.mem_append_right _ (List.mem_cons_of_mem _ hu))) hnot.2

/-- The slot itself, once at a boundary that is a multiple of 100 ms. -/
theorem State.injSlot_of_due {s : State} (hboundary : s.sh.gt % 100000000 = 0) (honce : s.sh.injAt ≠ some s.sh.gt) :
    s.injSlot = (upTo 12).foldl State.injStart (s.withSh { s.sh with injAt := some s.sh.gt }) := by
  unfold State.injSlot
  rw [if_pos (by simp [hboundary, honce])]
  rfl

section
variable (h : Shared) (t k : Nat)

theorem Shared.startCheck_tile : ((h.startCheck t k).tile t) = { h.tile t with
    chk := true, chkCh := 8 * t + k / 2, chkPath := pathOfNum k, chkAt := h.gt,
    chkHeld := h.fld (AIN_INJST (8 * t + k / 2)) (abortsFld (pathOfNum k)) == 15, injNext := (k + 1) % 16 } :=
  Trie.at_upd_same ..

theorem Shared.startCheck_active : (h.startCheck t k).on (AIN_INJST (8 * t + k / 2)) AIN_INJST_ACTIVE = true := by
  rw [Shared.startCheck, Shared.on, Shared.fld_setF_field _ _ _ _ _ (by decide), ← Shared.on, Shared.on_setB_same _ _ _ _ (by decide)]

theorem Shared.startCheck_mark : (h.startCheck t k).on (AIN_CHST (8 * t + k / 2)) (injFld (pathOfNum k)) = true := by
  have hbit (p : Path) : (injFld p).lo + (injFld p).width ≤ 32 ∧ (injFld p).width = 1 := by cases p <;> decide
  rw [Shared.startCheck, Shared.on, Shared.fld_setF_ne _ _ _ _ _ _ (by unfold AIN_CHST AIN_INJST; omega), ← Shared.on,
    Shared.on_setB_ne _ _ _ _ _ _ (by unfold AIN_CHST AIN_INJST; omega), Shared.on_setB_same _ _ _ _ (hbit _)]

end

/-! ### The result of a check (R107) -/

/-- A register written whose place in the file the frame lets change. -/
theorem Shared.regsBut.setF_mod {ks : List Nat} {h g : Shared} {k : Nat} (hg : h.regsBut ks g) (hks : k % 2 ^ 20 ∈ ks) (f : Fld) (v : Nat) :
    h.regsBut ks (g.setF k f v) := fun j hj hjs => by
  have hne : j ≠ k % 2 ^ 20 := fun e => hjs (e ▸ hks)
  rw [Shared.rd_setF_ne _ _ _ _ _ (by rwa [Nat.mod_eq_of_lt hj])]
  exact hg j hj hjs

/-- The result of the check of tile `t` in AIN_INJST: DONE, PASS, no aborts in a row, and the newest pass or one failure more. -/
def Shared.checkResult (h : Shared) (t : Nat) (pass : Bool) : Shared :=
  let n := (h.tile t).chkCh
  let p := (h.tile t).chkPath
  let g := (((h.chkEnd t ((h.tile t).chkAt + 64000000)).setB (AIN_INJST n) (doneFld p) true).setB (AIN_INJST n) (passFld p) pass).setF
    (AIN_INJST n) (abortsFld p) 0
  if pass then g.setF (AIN_INJST n) AIN_INJST_LATEST (numOfPath p) else g.bump (AIN_INJST n) AIN_INJST_FAILS

theorem State.injResult_of_end {s : State} {t w : Nat} (sp sm : Int) (hrun : (s.sh.tile t).chk = true)
    (hend : (s.sh.tile t).chkAt + 64000000 ≤ w) : s.injResult t sp sm w =
      (s.withSh (s.sh.checkResult t (injMath sp sm).1)).taking (Lane.takeInj
        { ch := (s.sh.tile t).chkCh, path := (s.sh.tile t).chkPath, pass := (injMath sp sm).1, off := (injMath sp sm).2.1,
          gt := (injMath sp sm).2.2 }) := by
  unfold State.injResult
  dsimp only
  rw [if_pos (by simp [hrun, hend])]
  rfl

section
variable (h : Shared) (t : Nat)

theorem Shared.chkEnd_regsBut {ks : List Nat} (w : Nat) (hchst : AIN_CHST (h.tile t).chkCh % 2 ^ 20 ∈ ks)
    (hinjst : AIN_INJST (h.tile t).chkCh % 2 ^ 20 ∈ ks) : h.regsBut ks (h.chkEnd t w) :=
  ((Shared.regsBut_of_regs_eq ks rfl).setF_mod hchst _ _).setF_mod hinjst _ _

theorem Shared.chkEnd_active (w : Nat) : (h.chkEnd t w).on (AIN_INJST (h.tile t).chkCh) AIN_INJST_ACTIVE = false :=
  Shared.on_setB_same _ _ _ _ (by decide)

theorem Shared.chkEnd_mark (w : Nat) : (h.chkEnd t w).on (AIN_CHST (h.tile t).chkCh) (injFld (h.tile t).chkPath) = false := by
  have hbit (p : Path) : (injFld p).lo + (injFld p).width ≤ 32 ∧ (injFld p).width = 1 := by cases p <;> decide
  exact (Shared.on_setB_ne _ _ _ _ _ _ (by unfold AIN_CHST AIN_INJST; omega)).trans (Shared.on_setB_same _ _ _ _ (hbit _))

theorem Shared.chkEnd_chk (w : Nat) : ((h.chkEnd t w).tile t).chk = false := by
  rw [Shared.chkEnd, Shared.setB, Shared.tile_setF, Shared.setB, Shared.tile_setF, Shared.tile_setTile_same]

variable (pass : Bool)

theorem Shared.checkResult_regsBut : h.regsBut [AIN_CHST (h.tile t).chkCh % 2 ^ 20, AIN_INJST (h.tile t).chkCh % 2 ^ 20]
    (h.checkResult t pass) := by
  have hended := h.chkEnd_regsBut t ((h.tile t).chkAt + 64000000)
    (ks := [AIN_CHST (h.tile t).chkCh % 2 ^ 20, AIN_INJST (h.tile t).chkCh % 2 ^ 20]) (by simp) (by simp)
  have hresult := ((hended.setF_mod (k := AIN_INJST (h.tile t).chkCh) (by simp) (doneFld (h.tile t).chkPath) 1).setF_mod
    (k := AIN_INJST (h.tile t).chkCh) (by simp) (passFld (h.tile t).chkPath) pass.toNat).setF_mod
    (k := AIN_INJST (h.tile t).chkCh) (by simp) (abortsFld (h.tile t).chkPath) 0
  unfold Shared.checkResult
  dsimp only
  split
  · exact hresult.setF_mod (by simp) _ _
  · exact hresult.setF_mod (by simp) _ _

theorem Shared.checkResult_chk : ((h.checkResult t pass).tile t).chk = false := by
  cases pass <;>
    simp only [Shared.checkResult, Shared.setB, Shared.bump, Shared.tile_setF, h.chkEnd_chk, if_true, Bool.false_eq_true, if_false]

/-- The newest pass and the count of failures lie beside every other field of AIN_INJST. -/
theorem Shared.checkResult_fld {f : Fld} (hf : ∀ g ∈ [AIN_INJST_LATEST, AIN_INJST_FAILS], fldsApart f g) :
    (h.checkResult t pass).fld (AIN_INJST (h.tile t).chkCh) f =
      ((((h.chkEnd t ((h.tile t).chkAt + 64000000)).setB (AIN_INJST (h.tile t).chkCh) (doneFld (h.tile t).chkPath) true).setB
        (AIN_INJST (h.tile t).chkCh) (passFld (h.tile t).chkPath) pass).setF (AIN_INJST (h.tile t).chkCh)
        (abortsFld (h.tile t).chkPath) 0).fld (AIN_INJST (h.tile t).chkCh) f := by
  cases pass <;> exact Shared.fld_setF_field _ _ _ _ _ (hf _ (by simp))

theorem Shared.checkResult_done : (h.checkResult t pass).on (AIN_INJST (h.tile t).chkCh) (doneFld (h.tile t).chkPath) = true := by
  have hlast (p : Path) : ∀ g ∈ [AIN_INJST_LATEST, AIN_INJST_FAILS], fldsApart (doneFld p) g := by cases p <;> decide
  have haborts (p : Path) : fldsApart (doneFld p) (abortsFld p) := by cases p <;> decide
  have hpass (p : Path) : fldsApart (doneFld p) (passFld p) := by cases p <;> decide
  have hbit (p : Path) : (doneFld p).lo + (doneFld p).width ≤ 32 ∧ (doneFld p).width = 1 := by cases p <;> decide
  rw [Shared.on, h.checkResult_fld t pass (hlast _), Shared.fld_setF_field _ _ _ _ _ (haborts _), ← Shared.on,
    Shared.on_setB_field _ _ _ _ _ (hpass _), Shared.on_setB_same _ _ _ _ (hbit _)]

theorem Shared.checkResult_pass : (h.checkResult t pass).on (AIN_INJST (h.tile t).chkCh) (passFld (h.tile t).chkPath) = pass := by
  have hlast (p : Path) : ∀ g ∈ [AIN_INJST_LATEST, AIN_INJST_FAILS], fldsApart (passFld p) g := by cases p <;> decide
  have haborts (p : Path) : fldsApart (passFld p) (abortsFld p) := by cases p <;> decide
  have hbit (p : Path) : (passFld p).lo + (passFld p).width ≤ 32 ∧ (passFld p).width = 1 := by cases p <;> decide
  rw [Shared.on, h.checkResult_fld t pass (hlast _), Shared.fld_setF_field _ _ _ _ _ (haborts _), ← Shared.on,
    Shared.on_setB_same _ _ _ _ (hbit _)]

theorem Shared.checkResult_aborts : (h.checkResult t pass).fld (AIN_INJST (h.tile t).chkCh) (abortsFld (h.tile t).chkPath) = 0 := by
  have hlast (p : Path) : ∀ g ∈ [AIN_INJST_LATEST, AIN_INJST_FAILS], fldsApart (abortsFld p) g := by cases p <;> decide
  have hword (p : Path) : (abortsFld p).lo + (abortsFld p).width ≤ 32 := by cases p <;> decide
  rw [h.checkResult_fld t pass (hlast _), Shared.fld_setF_same _ _ _ _ (hword _), Nat.zero_mod]

theorem Shared.checkResult_active : (h.checkResult t pass).on (AIN_INJST (h.tile t).chkCh) AIN_INJST_ACTIVE = false := by
  have haborts (p : Path) : fldsApart AIN_INJST_ACTIVE (abortsFld p) := by cases p <;> decide
  have hpass (p : Path) : fldsApart AIN_INJST_ACTIVE (passFld p) := by cases p <;> decide
  have hdone (p : Path) : fldsApart AIN_INJST_ACTIVE (doneFld p) := by cases p <;> decide
  rw [Shared.on, h.checkResult_fld t pass (by decide), Shared.fld_setF_field _ _ _ _ _ (haborts _), ← Shared.on,
    Shared.on_setB_field _ _ _ _ _ (hpass _), Shared.on_setB_field _ _ _ _ _ (hdone _), h.chkEnd_active]

theorem Shared.checkResult_mark : (h.checkResult t pass).on (AIN_CHST (h.tile t).chkCh) (injFld (h.tile t).chkPath) = false := by
  have hinj (g : Shared) (f : Fld) (v : Nat) : (g.setF (AIN_INJST (h.tile t).chkCh) f v).on (AIN_CHST (h.tile t).chkCh)
      (injFld (h.tile t).chkPath) = g.on (AIN_CHST (h.tile t).chkCh) (injFld (h.tile t).chkPath) := by
    rw [Shared.on, Shared.fld_setF_ne _ _ _ _ _ _ (by unfold AIN_CHST AIN_INJST; omega), ← Shared.on]
  unfold Shared.checkResult
  dsimp only
  split <;> simp only [Shared.setB, Shared.bump, hinj, h.chkEnd_mark]

end

/-- Settles O11: each clause is the case of its row, with what the operation of that case leaves alone. -/
theorem channelStatusRows : Obligations.ChannelStatusRows := by
  refine ⟨fun ch s hrun hpos => ?rangeFirst, fun ch s hrun hpos => ?rangeSecond, fun ch s hclear hrun => ?satSet,
    fun ch s hset hrun => ?satClear, fun ch s hclear hrun => ?openSet, fun ch s hset hrun => ?openClear, fun ch dt s hshunt => ?trip,
    fun ch dt s htrip hloaded hsensor hsecond hinstant hdue => ?reclose,
    fun ch dt s htrip hloaded hsensor hsecond hinstant hdue hexc => ?recloseDue,
    fun tile k s hboundary honce hloaded hfree hnext => ?slot, fun tile sp sm dt s hrun hend => ?result⟩
  case rangeFirst =>
    have hstep := congrArg s.withSh (Shared.rangeStep_of_first (pcfg := s.ainPcfg ch) hrun hpos)
    obtain ⟨hregs, hmoved, hstays, hnext⟩ := s.sh.rangeSwitch_effect (primOf (s.ainPcfg ch)).other 1 ch.isLt
    rw [Path.other_other] at hstays
    exact ⟨_, congrArg Host.Outcome.next hstep, s.withSh_lanesKept _, hregs, hmoved, hstays, hnext⟩
  case rangeSecond =>
    have hstep := congrArg s.withSh (Shared.rangeStep_of_second (pcfg := s.ainPcfg ch) hrun hpos)
    exact ⟨_, congrArg Host.Outcome.next hstep, s.withSh_lanesKept _, s.sh.rangeSwitch_effect (primOf (s.ainPcfg ch)) 4 ch.isLt⟩
  case satSet =>
    obtain ⟨hregs, hset⟩ := s.sh.setChst_effect ch.isLt (f := AIN_CHST_EXC_SAT) (by decide) true
    exact ⟨_, congrArg Host.Outcome.next (State.excSatChange_set hclear hrun), hregs, hset, s.taking_evCut_lane _ _⟩
  case satClear =>
    obtain ⟨hregs, hclear⟩ := s.sh.setChst_effect ch.isLt (f := AIN_CHST_EXC_SAT) (by decide) false
    exact ⟨_, congrArg Host.Outcome.next (State.excSatChange_clear hset hrun), s.withSh_lanesKept _, hregs, hclear⟩
  case openSet =>
    obtain ⟨hregs, hset⟩ := s.sh.setChst_effect ch.isLt (f := AIN_CHST_OPEN) (by decide) true
    exact ⟨_, congrArg Host.Outcome.next (State.openChange_set hclear hrun), hregs, hset, s.taking_evCut_lane _ _⟩
  case openClear =>
    obtain ⟨hregs, hclear⟩ := s.sh.setChst_effect ch.isLt (f := AIN_CHST_OPEN) (by decide) false
    exact ⟨_, congrArg Host.Outcome.next (State.openChange_clear hset hrun), s.withSh_lanesKept _, hregs, hclear⟩
  case trip =>
    refine ⟨_, congrArg Host.Outcome.next (State.shuntTrip_of_closed (s.sh.gt + dt) hshunt), ?_⟩
    rw [State.taking_sh, State.withSh_sh]
    refine ⟨((Shared.chanMoved.refl _ s.sh).tripShunt ch.isLt _).regs, ?_, ?_, Shared.tripShunt_gain .., Shared.tripShunt_gain .., ?_,
      Shared.tripShunt_tripAt .., s.taking_evCut_lane _ _⟩
    · rw [Shared.on, Shared.tripShunt_fld _ _ _ (by decide), ← Shared.on, Shared.openShunt_shunt]
    · rw [Shared.on, Shared.tripShunt_fld _ _ _ (by decide), ← Shared.on, Shared.openShunt_trip]
    · have htrips (p : Path) : fldsApart AIN_CHST_TRIPS (injFld p) := by cases p <;> decide
      rw [Shared.tripShunt_fld _ _ _ (by decide), Shared.openShunt_trips, Shared.fld_chkAbort _ _ _ htrips]
  case reclose =>
    have hrow := execShuntReclose_of_due htrip hloaded hsensor hsecond hinstant
    rw [Shared.recloseAt_of_notDue _ _ _ _ _ hdue] at hrow
    have hkey : AIN_CHST ch < 2 ^ 20 := by unfold AIN_CHST; omega
    have hregs : s.sh.regsBut [AIN_CHST ch] (s.sh.reclose ch (s.sh.gt + dt)) :=
      (((Shared.regsBut.refl _ s.sh).setB hkey (List.mem_singleton_self _) _ _).element hkey (List.mem_singleton_self _) _).setChan _ _
    refine ⟨_, hrow, s.withSh_lanesKept _, hregs, ?_, Shared.reclose_shunt _ _ _ hsensor, ?_⟩
    · rw [State.withSh_sh, ← Shared.recloseAt_of_notDue s.sh ch (s.ainCfg ch) (s.ainPcfg ch) _ hdue, Shared.trip_recloseAt]
    · rw [State.withSh_sh, Shared.reclose_chan]
      rfl
  case recloseDue =>
    have hrow := execShuntReclose_of_due htrip hloaded hsensor hsecond hinstant
    have hregs := ((Shared.chanMoved.refl ch s.sh).recloseAt ch.isLt (s.ainCfg ch) (s.ainPcfg ch) (s.sh.gt + dt)).regs
    refine ⟨_, hrow, s.withSh_lanesKept _, hregs, Shared.trip_recloseAt .., ?_⟩
    rw [State.withSh_sh, Shared.recloseAt_of_due _ _ _ _ _ hdue hexc]
    exact Shared.frontAt_settings ..
  case slot =>
    have hslot := State.checkKept.slot tile s
    rw [← hslot.tile] at hloaded hfree hnext
    rw [← hslot.nextEligible] at hnext
    obtain ⟨r, hbefore, hafter⟩ := State.injStarts_of_eligible tile.isLt hloaded hfree hnext
    have hk : k < 16 := State.nextEligible_lt hnext
    have hn : tileOf (8 * tile + k / 2) = tile := by unfold tileOf; omega
    have htile := hafter.tile.trans (r.sh.startCheck_tile tile k)
    have hgt : r.sh.gt = s.sh.gt := hbefore.gt
    refine ⟨_, congrArg Host.Outcome.next (State.injSlot_of_due hboundary honce),
      hslot.lanes.trans (hbefore.lanes.trans ((r.withSh_lanesKept _).trans hafter.lanes)), ?_⟩
    rw [htile, Shared.on_of_rd_eq (hafter.injst _ hn), Shared.on_of_rd_eq (hafter.chst _ hn)]
    exact ⟨rfl, rfl, rfl, hgt, r.sh.startCheck_active tile k, r.sh.startCheck_mark tile k⟩
  case result =>
    refine ⟨_, congrArg Host.Outcome.next (State.injResult_of_end sp sm hrun hend), ?_⟩
    rw [State.taking_sh, State.withSh_sh]
    refine ⟨Shared.checkResult_chk .., s.sh.checkResult_regsBut tile _, Shared.checkResult_done .., Shared.checkResult_pass ..,
      Shared.checkResult_aborts .., Shared.checkResult_active .., Shared.checkResult_mark .., fun i htakes => ?_⟩
    rw [State.taking_lane, State.withSh_lane, if_pos htakes]

end Sys2Proof.Machine
end

section
/-! The alarm and call engines through the work of an epoch before them (R28): phases 3 and 4 leave their working state as it is. -/

namespace Sys2Proof.Machine

/-! ### Folds over lanes -/

theorem foldl_alm {α : Type} (f : Lane → α → Lane) (hf : ∀ l x, (f l x).alm = l.alm) (xs : List α) (l : Lane) :
    (xs.foldl f l).alm = l.alm := by
  induction xs generalizing l with
  | nil => rfl
  | cons x xs ih => rw [List.foldl_cons, ih, hf]

theorem ite_alm (c : Prop) [Decidable c] (l m : Lane) : (if c then l else m).alm = if c then l.alm else m.alm :=
  apply_ite Lane.alm c l m

/-! ### Phase 3 (R99) -/

section
variable (l : Lane) (n : Nat) (a b : Option TWord)

@[simp] theorem Lane.setChan_alm (c : ChanWork) : (l.setChan n c).alm = l.alm := rfl
@[simp] theorem Lane.holdNoPath_alm : (l.holdNoPath n).alm = l.alm := rfl
@[simp] theorem Lane.holdStale_alm : (l.holdStale n).alm = l.alm := rfl
@[simp] theorem Lane.goSingle_alm (src : Path) (cause : Nat) : (l.goSingle n src cause).alm = l.alm := rfl

@[simp] theorem Lane.useWord_alm (w : TWord) (rangeTr inj : Bool) : (l.useWord n w rangeTr inj).alm = l.alm := by
  unfold Lane.useWord
  dsimp only
  split
  · rfl
  · split <;> rfl

@[simp] theorem Lane.restoreCheck_alm (upA upB : Bool) : (l.restoreCheck n upA upB a b).alm = l.alm := by
  unfold Lane.restoreCheck
  extract_lets
  split <;> rfl

@[simp] theorem Lane.enterWord_alm : (l.enterWord n a).alm = l.alm := by cases a <;> rfl

@[simp] theorem Lane.agreeSingle_alm : (l.agreeSingle n a b).alm = l.alm := by
  unfold Lane.agreeSingle
  split <;> simp [ite_alm]

@[simp] theorem Lane.agreeBoth_alm (x y : TWord) : (l.agreeBoth n x y).alm = l.alm := by
  simp [Lane.agreeBoth, ite_alm]

@[simp] theorem Lane.agreeLinkLost_alm (src : Path) : (l.agreeLinkLost n src a b).alm = l.alm := by
  unfold Lane.agreeLinkLost
  split <;> simp

@[simp] theorem Lane.agreeLinked_alm : (l.agreeLinked n a b).alm = l.alm := by
  cases a <;> cases b <;> simp [Lane.agreeLinked]

@[simp] theorem Lane.agree_alm : (l.agree n a b).alm = l.alm := by
  simp [Lane.agree_eq, Lane.agreeChecked, ite_alm]

@[simp] theorem Lane.agreeAll_alm (ws : List TWord) (ats : List Nat) : (l.agreeAll ws n ats).alm = l.alm :=
  foldl_alm _ (fun _ _ => Lane.agree_alm ..) _ _

@[simp] theorem Lane.phase3_alm : l.phase3.alm = l.alm := foldl_alm _ (fun _ _ => Lane.agreeAll_alm ..) _ _

end

/-! ### Phase 4 (R220) -/

section
variable (l : Lane) (g n : Nat)

@[simp] theorem Lane.setLoop_alm (w : LoopWork) : (l.setLoop n w).alm = l.alm := rfl
@[simp] theorem Lane.loopDests_alm : (l.loopDests n).alm = l.alm := rfl
@[simp] theorem Lane.loopHeld_alm : (l.loopHeld n).alm = l.alm := rfl

@[simp] theorem Lane.loopGo_alm (mode : Nat) (bad : Bool) (cause : Nat) : (l.loopGo g n mode bad cause).alm = l.alm := by
  simp [Lane.loopGo, ite_alm]

theorem Lane.loopCmd_alm (x : Lane × Bool) (c : LoopCmd) : (Lane.loopCmd g n x c).1.alm = x.1.alm := by
  unfold Lane.loopCmd
  split <;> simp [ite_alm]

@[simp] theorem Lane.loopSwap_alm (out : F32) : (l.loopSwap g n out).alm = l.alm := by
  simp [Lane.loopSwap, ite_alm]

@[simp] theorem Lane.loopCompute_alm (pv : F32) (bump init sub : Bool) : (l.loopCompute g n pv bump init sub).alm = l.alm := by
  simp [Lane.loopCompute, Lane.loopFlags, ite_alm]

@[simp] theorem Lane.loopRun_alm (bump : Bool) : (l.loopRun g n bump).alm = l.alm := by
  simp [Lane.loopRun, ite_alm]

theorem Lane.loopEval_alm : (l.loopEval g n).alm = l.alm := by
  have hcmds (cs : List LoopCmd) : (cs.foldl (Lane.loopCmd g n) (l, false)).1.alm = l.alm :=
    List.foldlRecOn (motive := fun x : Lane × Bool => x.1.alm = l.alm) cs _ rfl fun x hx c _ => (Lane.loopCmd_alm g n x c).trans hx
  simp [Lane.loopEval, hcmds]

theorem Lane.loopStep_alm : (l.loopStep g n).alm = l.alm := by
  simp [Lane.loopStep, ite_alm, Lane.loopEval_alm]

/-- What is left of phases 3 and 4 leaves the alarm and call engines alone. -/
@[simp] theorem Lane.loopsRun_alm : (l.loopsRun g).alm = l.alm :=
  (foldl_alm _ (fun m k => m.loopStep_alm g k) _ _).trans l.phase3_alm

end

end Sys2Proof.Machine
end

section
/-! The stages of the alarm scan (R145, R161): the scan runs from where it stands, one stage after another. -/

namespace Sys2Proof.Machine

/-- The scan has come to stage `k`. -/
def Lane.atStage (l : Lane) (k : Nat) : Lane := l.setAlm (fun a => { a with stage := k })

/-- Stage `i` of the scan, where it is the next one. -/
def Lane.nextStage (g : Nat) (l : Lane) (i : Nat) : Lane := if l.alm.stage = i then (l.scanStage g i).atStage (i + 1) else l

/-- The stages before stage `k`, from where the scan stands. -/
def Lane.stagesTo (g k : Nat) (l : Lane) : Lane := (upTo k).foldl (Lane.nextStage g) l

section
variable {g k : Nat} {l : Lane}

theorem Lane.stagesTo_succ : l.stagesTo g (k + 1) = (l.stagesTo g k).nextStage g k := by
  simp [Lane.stagesTo, upTo, List.range_succ]

/-- Stages that the scan has gone past do nothing. -/
theorem Lane.stagesTo_of_past (hpast : k ≤ l.alm.stage) : l.stagesTo g k = l := by
  induction k with
  | zero => rfl
  | succ k ih => rw [Lane.stagesTo_succ, ih (by omega), Lane.nextStage, if_neg (by omega)]

theorem Lane.stagesTo_stage (hdue : l.alm.stage ≤ k) : (l.stagesTo g k).alm.stage = k := by
  induction k with
  | zero => exact Nat.le_zero.mp hdue
  | succ k ih =>
    rw [Lane.stagesTo_succ]
    obtain hpast | hdue := eq_or_lt_of_le hdue
    · rw [Lane.stagesTo_of_past (by omega), Lane.nextStage, if_neg (by omega), hpast]
    · rw [Lane.nextStage, if_pos (ih (by omega))]
      rfl

/-- The scan to a stage runs what is left of phases 3 and 4 first, where a stage is due. -/
theorem Lane.scanTo_eq (hk : k ≤ 9) : l.scanTo g k = (if l.alm.stage < k then l.loopsRun g else l).stagesTo g k := by
  have hstages (m : Lane) (n : Nat) (hn : k + n ≤ 9) : (upTo (k + n)).foldl (fun m i =>
      if m.alm.stage = i && i < k then (m.scanStage g i).setAlm (fun a => { a with stage := i + 1 }) else m) m = m.stagesTo g k := by
    induction n with
    | zero =>
      refine List.foldl_ext _ _ _ fun m i hi => ?_
      have hi : i < k := List.mem_range.mp hi
      simp [hi, Lane.nextStage, Lane.atStage]
    | succ n ih =>
      rw [upTo, ← Nat.add_assoc, List.range_succ, List.foldl_append, ← upTo, ih (by omega)]
      simp
  have hdue : (l.alm.stage < k && l.alm.stage < 9) = decide (l.alm.stage < k) := by
    by_cases h : l.alm.stage < k
    · simp [h, show l.alm.stage < 9 by omega]
    · simp [h]
  unfold Lane.scanTo
  dsimp only
  rw [hdue, ← hstages _ (9 - k) (by omega), show k + (9 - k) = 9 by omega]
  simp

theorem Lane.scanTo_of_past (hk : k ≤ 9) (hpast : k ≤ l.alm.stage) : l.scanTo g k = l := by
  rw [Lane.scanTo_eq hk, if_neg (by omega), Lane.stagesTo_of_past hpast]

theorem Lane.scanTo_stage (hk : k ≤ 9) (hdue : l.alm.stage ≤ k) : (l.scanTo g k).alm.stage = k := by
  rw [Lane.scanTo_eq hk]
  refine Lane.stagesTo_stage ?_
  split
  · rwa [Lane.loopsRun_alm]
  · exact hdue

/-- A scan that has begun an earlier stage goes on from the stage before. -/
theorem Lane.scanTo_succ (hk : k < 9) (hdue : l.alm.stage < k) : l.scanTo g (k + 1) = ((l.scanTo g k).scanStage g k).atStage (k + 1) := by
  have hscan : l.scanTo g k = (l.loopsRun g).stagesTo g k := by rw [Lane.scanTo_eq (by omega), if_pos hdue]
  have hstage : (l.scanTo g k).alm.stage = k := Lane.scanTo_stage (by omega) (by omega)
  rw [hscan] at hstage ⊢
  rw [Lane.scanTo_eq (by omega), if_pos (by omega), Lane.stagesTo_succ, Lane.nextStage, if_pos hstage]

/-- A scan that stands at a stage runs it after what is left of phases 3 and 4. -/
theorem Lane.scanTo_succ_of_stage (hk : k < 9) (hstage : l.alm.stage = k) :
    l.scanTo g (k + 1) = ((l.loopsRun g).scanStage g k).atStage (k + 1) := by
  have hloops : (l.loopsRun g).alm.stage = k := by rw [Lane.loopsRun_alm, hstage]
  rw [Lane.scanTo_eq (by omega), if_pos (by omega), Lane.stagesTo_succ, Lane.stagesTo_of_past (by omega), Lane.nextStage, if_pos hloops]

end

end Sys2Proof.Machine
end

section
/-! Commands of the alarm engine in step 1 of an alarm scan (R152–R155): what a row does to a lane, what a refusal leaves, and what waits
for the next scan. -/

namespace Sys2Proof.Machine

section
variable (l : Lane) (f : AlmWork → AlmWork)

@[simp] theorem Lane.setAlm_regs : (l.setAlm f).regs = l.regs := rfl
@[simp] theorem Lane.setAlm_raised : (l.setAlm f).raised = l.raised := rfl
@[simp] theorem Lane.setAlm_formed : (l.setAlm f).formed = l.formed := rfl
@[simp] theorem Lane.setAlm_alm : (l.setAlm f).alm = f l.alm := rfl
@[simp] theorem Lane.rd_setAlm (k : Nat) : (l.setAlm f).rd k = l.rd k := rfl
@[simp] theorem Lane.fld_setAlm (k : Nat) (x : Fld) : (l.setAlm f).fld k x = l.fld k x := rfl
@[simp] theorem Lane.on_setAlm (k : Nat) (x : Fld) : (l.setAlm f).on k x = l.on k x := rfl

end

/-! ### The row of a command -/

/-- Status with which a command of a row enters step 1. -/
def Lane.rowStatus (l : Lane) (op tgt : Nat) : Nat := if almInvalid op tgt then stInvalid else if 32 ≤ l.alm.taken then stRefused else 0

section
variable {l : Lane} {g op tgt origin : Nat}

theorem State.almRow_lane {s : State} {i : LaneId} (hcomputes : (s.lane i).computes = true) :
    (s.almRow op tgt origin).lane i = (s.lane i).almRow s.sh.gt op tgt origin := by
  rw [State.almRow, State.both_lane, if_pos hcomputes]

/-- Before the end of step 1 a command of the alarm engine takes its place in step 1. -/
theorem Lane.almRow_of_step1 (hstage : l.alm.stage < 2) (hop : op < 0x20) : l.almRow g op tgt origin =
    (l.scanTo g 1).almNext g { rowCmd g op tgt origin with status := (l.scanTo g 1).rowStatus op tgt } := by
  unfold Lane.almRow
  rw [if_pos (by omega), if_neg (by omega)]
  rfl

/-- A command of the call engine has the scan run to its end (R192). -/
theorem Lane.almRow_of_callStep (hstage : l.alm.stage < 2) (hop : 0x20 ≤ op) : l.almRow g op tgt origin =
    ((l.scanTo g 1).almNext g { rowCmd g op tgt origin with status := (l.scanTo g 1).rowStatus op tgt }).scanTo g 9 := by
  unfold Lane.almRow
  rw [if_pos (by omega), if_pos hop]
  rfl

/-- After step 1 a command waits for the next scan. -/
theorem Lane.almRow_of_later (hstage : 2 ≤ l.alm.stage) : l.almRow g op tgt origin =
    l.almArrive { rowCmd g op tgt origin with eff := g + 1 } := by
  unfold Lane.almRow
  rw [if_neg (by omega)]
  rfl

theorem Lane.rowStatus_of_taken (hvalid : almInvalid op tgt = false) (htaken : l.alm.taken < 32) : l.rowStatus op tgt = 0 := by
  rw [Lane.rowStatus, hvalid, if_neg Bool.false_ne_true, if_neg (by omega)]

/-- A row has no ALM_CMD write and no station to answer. -/
theorem Lane.almStatus_rowCmd (st st' : Nat) : l.almStatus { rowCmd g op tgt origin with status := st } st' = l := by
  simp [Lane.almStatus, rowCmd]

end

/-! ### Accepted commands -/

section
variable {l : Lane} {g op tgt origin : Nat}

theorem Lane.almNext_of_accepted (hop : op < 0x20) (hpermits : l.almPermits op origin = true) (hstate : l.almRefused op tgt = false) :
    l.almNext g (rowCmd g op tgt origin) =
      (l.almEffect g op tgt origin (rankCmd l.alm.place)).setAlm (fun a => { a with place := l.alm.place + 1, taken := a.taken + 1 }) := by
  have happly : l.almApply g (rankCmd l.alm.place) (rowCmd g op tgt origin) = l.almEffect g op tgt origin (rankCmd l.alm.place) := by
    unfold Lane.almApply
    rw [if_neg (by simp [rowCmd]), if_neg (by simp [rowCmd, hpermits]), if_neg (by simp [rowCmd]; omega), if_neg (by simp [rowCmd, hstate])]
    exact Lane.almStatus_rowCmd 0 stDone
  rw [Lane.almNext, happly]
  rfl

/-- A permitted command that neither its target nor the count of commands turns away has its effect in step 1. -/
theorem Lane.almRow_of_accepted (hstage : l.alm.stage < 2) (htaken : (l.scanTo g 1).alm.taken < 32) (hop : op < 0x20)
    (hvalid : almInvalid op tgt = false) (hpermits : (l.scanTo g 1).almPermits op origin = true)
    (hstate : (l.scanTo g 1).almRefused op tgt = false) : ∃ rank f,
      l.almRow g op tgt origin = ((l.scanTo g 1).almEffect g op tgt origin rank).setAlm f := by
  rw [Lane.almRow_of_step1 hstage hop, Lane.rowStatus_of_taken hvalid htaken]
  exact ⟨_, _, Lane.almNext_of_accepted hop hpermits hstate⟩

end

/-! ### Commands turned away -/

section
variable {l : Lane} {g op tgt origin st : Nat}

/-- What a command that ends with status `st` leaves of a lane (R154): its record and its event, and no register. -/
def Lane.onlyRecords (l m : Lane) (op tgt origin st : Nat) : Prop :=
  m.regs = l.regs ∧ m.raised = l.raised ||| evBit evAlmRefused ∧
    ∃ f : Formed, m.formed = l.formed ++ [f] ∧ f.r.code = 0x0101 ∧ f.r.p0 = w32 origin ∧ f.r.p1 = w32 op ∧ f.r.p2 = w32 tgt ∧ f.r.p3 = w32 st

theorem Lane.almRefuse_onlyRecords (st' rank : Nat) :
    l.onlyRecords (l.almRefuse g { rowCmd g op tgt origin with status := st' } st rank) op tgt origin st := by
  rw [Lane.almRefuse, Lane.almStatus_rowCmd]
  exact ⟨rfl, rfl, _, rfl, rfl, rfl, rfl, rfl, rfl⟩

/-- The four ways to be turned away in step 1, with the status that the record gives (R153–R155). -/
theorem Lane.almNext_of_turnedAway (hop : op < 0x20)
    (haway : (almInvalid op tgt = true ∧ st = 3) ∨ (almInvalid op tgt = false ∧ 32 ≤ l.alm.taken ∧ st = 2) ∨
      (almInvalid op tgt = false ∧ l.alm.taken < 32 ∧ l.almPermits op origin = false ∧ st = 4) ∨
      (almInvalid op tgt = false ∧ l.alm.taken < 32 ∧ l.almPermits op origin = true ∧ l.almRefused op tgt = true ∧ st = 2)) :
    l.onlyRecords (l.almNext g { rowCmd g op tgt origin with status := l.rowStatus op tgt }) op tgt origin st := by
  suffices happly : l.almApply g (rankCmd l.alm.place) { rowCmd g op tgt origin with status := l.rowStatus op tgt } =
      l.almRefuse g { rowCmd g op tgt origin with status := l.rowStatus op tgt } st (rankCmd l.alm.place) by
    rw [Lane.almNext, happly]
    exact Lane.almRefuse_onlyRecords _ _
  unfold Lane.almApply
  obtain ⟨hinvalid, rfl⟩ | ⟨hvalid, hfull, rfl⟩ | ⟨hvalid, htaken, hpermits, rfl⟩ | ⟨hvalid, htaken, hpermits, hstate, rfl⟩ := haway
  · simp [Lane.rowStatus, hinvalid, stInvalid]
  · simp [Lane.rowStatus, hvalid, hfull, stRefused]
  · simp [Lane.rowStatus_of_taken hvalid htaken, rowCmd, hpermits, stNotPermitted]
  · simp [Lane.rowStatus_of_taken hvalid htaken, rowCmd, hpermits, hstate, stRefused, show ¬ 0x20 ≤ op by omega]

end

/-! ### Commands for the next scan -/

/-- The first alarm scan after boundary `g` begins at most 10 ms after it. -/
theorem scanAt_next (g : Nat) : g < scanAt (g + 1) ∧ scanAt (g + 1) ≤ g + 10000000 := by
  unfold scanAt
  omega

/-- Status with which a command waits for its scan (R155). -/
def Lane.arrivalStatus (l : Lane) (c : AlmCmd) : Nat :=
  if almInvalid c.op c.tgt then stInvalid else if 32 ≤ l.queuedFor (scanAt c.eff) then stRefused else 0

/-- A command that no write of ALM_CMD brought is queued, and nothing more. -/
theorem Lane.almArrive_of_noWrite (l : Lane) {c : AlmCmd} (hwid : c.wid = 0) :
    l.almArrive c = l.setAlm (fun a => { a with queue := a.queue ++ [{ c with status := l.arrivalStatus c }] }) := by
  have hnoWrite (m : Lane) : (if c.wid != 0 then m.setF ALM_CMDST ALM_CMDST_STATUS (l.arrivalStatus c) else m) = m := if_neg (by simp [hwid])
  unfold Lane.almArrive
  exact (congrArg (ite _ · _) (hnoWrite _)).trans (ite_self _)

/-! ### The rows -/

/-- The commands of the alarm engine, with their opcodes (R153, R171). -/
def alarmCommandTable (x : BitVec 11) (o : BitVec 5) : List (Instr × Nat) :=
  [(.ack x o, 0x01), (.silence x o, 0x02), (.ackGroup x o, 0x03), (.silenceAll x o, 0x04), (.transfer x o, 0x05),
    (.retake x o, 0x06), (.shelve x o, 0x07), (.unshelve x o, 0x08), (.foReset x o, 0x09)]

/-- The commands of the call engine, with their opcodes (R192). -/
def callCommandTable (x : BitVec 11) (o : BitVec 5) : List (Instr × Nat) :=
  [(.acceptCall x o, 0x20), (.duty x o, 0x21), (.dmStart x o, 0x22), (.dmReset x o, 0x23), (.dmStop x o, 0x24)]

section
variable {x : BitVec 11} {o : BitVec 5} {c : Instr} {op : Nat} (s : State)

theorem exec_of_alarmCommand (hc : (c, op) ∈ alarmCommandTable x o) : exec c s = .next (s.almRow op x.toNat o.toNat) ∧ op < 0x20 := by
  simp only [alarmCommandTable, List.mem_cons, Prod.mk.injEq, List.not_mem_nil, or_false] at hc
  obtain ⟨rfl, rfl⟩ | ⟨rfl, rfl⟩ | ⟨rfl, rfl⟩ | ⟨rfl, rfl⟩ | ⟨rfl, rfl⟩ | ⟨rfl, rfl⟩ | ⟨rfl, rfl⟩ | ⟨rfl, rfl⟩ | ⟨rfl, rfl⟩ := hc <;>
    exact ⟨rfl, by decide⟩

theorem exec_of_callCommand (hc : (c, op) ∈ callCommandTable x o) : exec c s = .next (s.almRow op x.toNat o.toNat) := by
  simp only [callCommandTable, List.mem_cons, Prod.mk.injEq, List.not_mem_nil, or_false] at hc
  obtain ⟨rfl, rfl⟩ | ⟨rfl, rfl⟩ | ⟨rfl, rfl⟩ | ⟨rfl, rfl⟩ | ⟨rfl, rfl⟩ := hc <;> rfl

end

/-- Settles O18: a command turned away in step 1 leaves its record and event alone; one after step 1 is queued for the next scan. -/
theorem refusedAlarmCommandsOnlyRecord : Obligations.RefusedAlarmCommandsOnlyRecord := by
  refine ⟨fun c op tgt origin st s i hc hcomputes hstage haway => ?turnedAway, fun c op tgt origin s i hc hcomputes hstage => ?queued⟩
  case turnedAway =>
    obtain ⟨x, o, rfl, rfl, hc⟩ := hc
    obtain ⟨hrow, hop⟩ := exec_of_alarmCommand s hc
    refine ⟨_, hrow, s.both_sharedKept _, ?_⟩
    rw [State.almRow_lane hcomputes, Lane.almRow_of_step1 hstage hop]
    exact Lane.almNext_of_turnedAway hop haway
  case queued =>
    obtain ⟨x, o, rfl, rfl, hc⟩ := hc
    have hrow : exec c s = .next (s.almRow op x.toNat o.toNat) := by
      obtain hc | hc := List.mem_append.mp (show (c, op) ∈ alarmCommandTable x o ++ callCommandTable x o from hc)
      · exact (exec_of_alarmCommand s hc).1
      · exact exec_of_callCommand s hc
    obtain ⟨hafter, hwithin⟩ := scanAt_next s.sh.gt
    refine ⟨_, hrow, s.both_sharedKept _, ?_⟩
    rw [State.almRow_lane hcomputes, Lane.almRow_of_later hstage, Lane.almArrive_of_noWrite _ rfl]
    exact ⟨rfl, _, rfl, rfl, rfl, rfl, hafter, hwithin, rfl⟩

end Sys2Proof.Machine
end

section
/-! Commands that move alert states (R146, R153): what one transition leaves of the lane, and a command for many points. -/

namespace Sys2Proof.Machine

theorem Lane.fld_of_rd {l : Lane} {k : Nat} {w : Word} (hrd : l.rd k = w) (f : Fld) : l.fld k f = f.get w := congrArg f.get hrd

theorem Lane.rd_of_regs_eq {l m : Lane} (h : m.regs = l.regs) (k : Nat) : m.rd k = l.rd k := congrArg (RegFile.rd · k) h

theorem PT_ST_lt {p : Nat} (hp : p < 2048) : PT_ST p < 2 ^ 20 := by
  unfold PT_ST
  omega

/-! ### One transition (R146) -/

section
variable (l : Lane) (g p dst origin cause rank : Nat)

/-- The registers after a transition: PT_ST of the point has its new state, and SCNT is clear. -/
theorem Lane.ptGo_regs : (l.ptGo g p dst origin cause rank).regs =
    (l.wr (PT_ST p) (PT_ST_STATE.put dst (PT_ST_SCNT.put 0 (l.rd (PT_ST p))))).regs := by
  simp only [Lane.ptGo, apply_ite Lane.regs, Lane.ev_regs, Lane.setAlm_regs, Lane.record_regs, ite_self]

theorem Lane.ptGo_rd : (l.ptGo g p dst origin cause rank).rd (PT_ST p) = PT_ST_STATE.put dst (PT_ST_SCNT.put 0 (l.rd (PT_ST p))) := by
  rw [Lane.rd, Lane.ptGo_regs, ← Lane.rd, Lane.rd_wr_same]

theorem Lane.ptGo_ptState (hdst : dst < 8) : (l.ptGo g p dst origin cause rank).ptState p = dst := by
  rw [Lane.ptState, Lane.fld_of_rd (Lane.ptGo_rd ..), Fld.get_put_same _ _ _ (by decide)]
  exact Nat.mod_eq_of_lt hdst

theorem Lane.ptGo_scnt : (l.ptGo g p dst origin cause rank).fld (PT_ST p) PT_ST_SCNT = 0 := by
  rw [Lane.fld_of_rd (Lane.ptGo_rd ..), Fld.get_put_apart (by decide), Fld.get_put_same _ _ _ (by decide), Nat.zero_mod]

/-- The new state of a point that a command acknowledges. -/
theorem Lane.ackPoint_ptState : (l.ackPoint g origin rank p).ptState p = if l.ptState p = sRectUnack then sNormal else sActAck :=
  Lane.ptGo_ptState _ _ _ _ _ _ _ (by split <;> decide)

theorem Lane.silPoint_ptState : (l.silPoint g origin rank p).ptState p = sActSil := Lane.ptGo_ptState _ _ _ _ _ _ _ (by decide)

theorem Lane.silPoint_scnt : (l.silPoint g origin rank p).fld (PT_ST p) PT_ST_SCNT = 0 := Lane.ptGo_scnt ..

variable {p}

theorem Lane.ptGo_regsBut (hp : p < 2048) : l.regsBut [PT_ST p] (l.ptGo g p dst origin cause rank) :=
  ((Lane.regsBut.refl _ l).wr (PT_ST_lt hp) (List.mem_singleton_self _) _).of_regs_eq (Lane.ptGo_regs ..)

theorem Lane.ackPoint_regsBut (hp : p < 2048) : l.regsBut [PT_ST p] (l.ackPoint g origin rank p) := l.ptGo_regsBut _ _ _ _ _ hp

theorem Lane.silPoint_regsBut (hp : p < 2048) : l.regsBut [PT_ST p] (l.silPoint g origin rank p) :=
  (l.ptGo_regsBut g sActSil origin 1 rank hp).of_regs_eq rfl

end

/-! ### A command for many points -/

theorem Lane.ptState_of_rd {l m : Lane} {p : Nat} (hrd : m.rd (PT_ST p) = l.rd (PT_ST p)) : m.ptState p = l.ptState p :=
  Lane.fld_of_rd hrd _

section
variable {f : Lane → Nat → Lane} (hf : ∀ (l : Lane) (p : Nat), p < 2048 → l.regsBut [PT_ST p] (f l p)) {ps : List Nat} (hps : ∀ p ∈ ps, p < 2048)
include hf hps

/-- A point that is not in the list keeps PT_ST. -/
theorem Lane.foldl_points_rd_of_notMem (l : Lane) {q : Nat} (hq : q < 2048) (hnot : q ∉ ps) :
    (ps.foldl f l).rd (PT_ST q) = l.rd (PT_ST q) :=
  List.foldlRecOn (motive := fun m : Lane => m.rd (PT_ST q) = l.rd (PT_ST q)) ps f rfl fun m hm p hp => by
    have hne : PT_ST q ∉ [PT_ST p] := by
      have : q ≠ p := fun h => hnot (h ▸ hp)
      simp only [PT_ST, List.mem_singleton]
      omega
    rw [hf m p (hps p hp) _ (PT_ST_lt hq) hne, hm]

/-- A point of the list is taken once, with its PT_ST as it was. -/
theorem Lane.foldl_points_ptState_of_mem (l : Lane) (hnodup : ps.Nodup) {p : Nat} (hp : p ∈ ps) :
    ∃ m : Lane, m.ptState p = l.ptState p ∧ (ps.foldl f l).ptState p = (f m p).ptState p := by
  obtain ⟨before, after, rfl⟩ := List.append_of_mem hp
  have hlt : p < 2048 := hps p hp
  obtain ⟨-, hafter, hbefore⟩ := List.nodup_append.mp hnodup
  have hnotBefore : p ∉ before := fun h => hbefore p h p List.mem_cons_self rfl
  have hnotAfter : p ∉ after := (List.nodup_cons.mp hafter).1
  refine ⟨before.foldl f l, Lane.ptState_of_rd ?_, Lane.ptState_of_rd ?_⟩
  · exact Lane.foldl_points_rd_of_notMem hf (fun q hq => hps q (List.mem_append_left _ hq)) l hlt hnotBefore
  · rw [List.foldl_append, List.foldl_cons]
    exact Lane.foldl_points_rd_of_notMem hf (fun q hq => hps q (List.mem_append_right _ (List.mem_cons_of_mem _ hq))) _ hlt hnotAfter

end

theorem Lane.mem_pointsOf {l : Lane} {f : Lane → Nat → Bool} {p : Nat} : p ∈ l.pointsOf f ↔ p < 2048 ∧ l.ptCond p ≠ 0 ∧ f l p = true := by
  simp [Lane.pointsOf, upTo]

theorem Lane.pointsOf_nodup (l : Lane) (f : Lane → Nat → Bool) : (l.pointsOf f).Nodup := List.nodup_range.filter _

theorem isUnack_of_mem {st : Nat} (hst : st ∈ [sActUnack, sActSil, sActRt, sRectUnack]) : isUnack st = true := by
  simp only [List.mem_cons, List.not_mem_nil, or_false] at hst
  obtain rfl | rfl | rfl | rfl := hst <;> rfl

section
variable (l : Lane) (g origin rank : Nat)

theorem Lane.almEffect_ackGroup (grp : Nat) :
    l.almEffect g 0x03 grp origin rank = (l.pointsOf (ackable grp)).foldl (Lane.ackPoint g origin rank) l := rfl

theorem Lane.almEffect_silenceAll (tgt : Nat) :
    l.almEffect g 0x04 tgt origin rank = (l.pointsOf silenceable).foldl (Lane.silPoint g origin rank) l := rfl

/-- ACK_GROUP acknowledges each point of the group that calls for it and leaves PT_ST of the points of other groups. -/
theorem Lane.almEffect_ackGroup_points (grp : Nat) :
    (∀ p, p ∈ l.pointsOf (ackable grp) →
      (l.almEffect g 0x03 grp origin rank).ptState p = if l.ptState p = sRectUnack then sNormal else sActAck) ∧
    (∀ q, q < 2048 → l.ptGroup q ≠ grp → (l.almEffect g 0x03 grp origin rank).rd (PT_ST q) = l.rd (PT_ST q)) := by
  have hpoint (m : Lane) (q : Nat) (hq : q < 2048) : m.regsBut [PT_ST q] (m.ackPoint g origin rank q) := m.ackPoint_regsBut g origin rank hq
  have hlt (q : Nat) (hq : q ∈ l.pointsOf (ackable grp)) : q < 2048 := (Lane.mem_pointsOf.mp hq).1
  rw [Lane.almEffect_ackGroup]
  refine ⟨fun p hp => ?_, fun q hq hother => Lane.foldl_points_rd_of_notMem hpoint hlt l hq fun hmem => hother ?_⟩
  · obtain ⟨m, hm, hfold⟩ := Lane.foldl_points_ptState_of_mem hpoint hlt l (Lane.pointsOf_nodup ..) hp
    rw [hfold, Lane.ackPoint_ptState, hm]
  · obtain ⟨-, -, hack⟩ := Lane.mem_pointsOf.mp hmem
    simp only [ackable, Bool.and_eq_true, beq_iff_eq] at hack
    exact hack.1

/-- SILENCE_ALL silences each point in ACT_UNACK and leaves PT_ST of the others. -/
theorem Lane.almEffect_silenceAll_points (tgt : Nat) :
    (∀ p, p ∈ l.pointsOf silenceable → (l.almEffect g 0x04 tgt origin rank).ptState p = sActSil) ∧
    (∀ q, q < 2048 → l.ptState q ≠ sActUnack → (l.almEffect g 0x04 tgt origin rank).rd (PT_ST q) = l.rd (PT_ST q)) := by
  have hpoint (m : Lane) (q : Nat) (hq : q < 2048) : m.regsBut [PT_ST q] (m.silPoint g origin rank q) := m.silPoint_regsBut g origin rank hq
  have hlt (q : Nat) (hq : q ∈ l.pointsOf silenceable) : q < 2048 := (Lane.mem_pointsOf.mp hq).1
  rw [Lane.almEffect_silenceAll]
  refine ⟨fun p hp => ?_, fun q hq hother => Lane.foldl_points_rd_of_notMem hpoint hlt l hq fun hmem => hother ?_⟩
  · obtain ⟨m, -, hfold⟩ := Lane.foldl_points_ptState_of_mem hpoint hlt l (Lane.pointsOf_nodup ..) hp
    rw [hfold, Lane.silPoint_ptState]
  · obtain ⟨-, -, hsil⟩ := Lane.mem_pointsOf.mp hmem
    exact beq_iff_eq.mp hsil

end

/-! ### The rows -/

theorem almInvalid_point {op : Nat} (hop : almMaxTgt op = some 2047) (p : BitVec 11) : almInvalid op p.toNat = false := by
  have := p.isLt
  simp only [almInvalid, hop, decide_eq_false_iff_not]
  omega

section
variable {s : State} {i : LaneId} {op tgt : Nat} {o : BitVec 5}

/-- The row of an accepted command leaves the registers that its effect on the lane after step 1 leaves. -/
theorem State.almRow_of_accepted (hcomputes : (s.lane i).computes = true) (hstage : (s.lane i).alm.stage < 2)
    (htaken : ((s.lane i).scanTo s.sh.gt 1).alm.taken < 32) (hop : op < 0x20) (hvalid : almInvalid op tgt = false)
    (hpermits : ((s.lane i).scanTo s.sh.gt 1).almPermits op o.toNat = true)
    (hstate : ((s.lane i).scanTo s.sh.gt 1).almRefused op tgt = false) :
    ∃ rank, ((s.almRow op tgt o.toNat).lane i).regs = (((s.lane i).scanTo s.sh.gt 1).almEffect s.sh.gt op tgt o.toNat rank).regs := by
  obtain ⟨rank, f, hrow⟩ := Lane.almRow_of_accepted hstage htaken hop hvalid hpermits hstate
  exact ⟨rank, by rw [State.almRow_lane hcomputes, hrow, Lane.setAlm_regs]⟩

end

/-- Settles O16: an accepted command makes one transition at its point, a group command one at each point that it names. -/
theorem alarmCommandsMovePoints : Obligations.AlarmCommandsMovePoints := by
  refine ⟨fun p o s i hcomputes hstage htaken hpermits hst => ?ack, fun p o s i hcomputes hstage htaken hpermits hst => ?silence,
    fun p o s i hcomputes hstage htaken hpermits hst hprio => ?transfer, fun p o s i hcomputes hstage htaken hpermits hst => ?retake,
    fun n o s i p hcomputes hstage htaken hn hpermits hp hcond hgroup hst => ?ackGroup,
    fun o s i p hcomputes hstage htaken hpermits hp hcond hst => ?silenceAll⟩
  case ack =>
    have hstate : ((s.lane i).scanTo s.sh.gt 1).almRefused 0x01 p.toNat = false := by
      simp only [List.mem_cons, List.not_mem_nil, or_false] at hst
      obtain hst | hst | hst | hst := hst <;> simp [Lane.almRefused, hst, sNormal, sActAck, sActUnack, sActSil, sActRt, sRectUnack]
    obtain ⟨rank, hregs⟩ := State.almRow_of_accepted hcomputes hstage htaken (by decide) (almInvalid_point rfl p) hpermits hstate
    exact ⟨_, rfl, s.both_sharedKept _, (Lane.ackPoint_regsBut _ _ _ rank p.isLt).of_regs_eq hregs,
      (Lane.fld_of_regs_eq hregs _ _).trans (Lane.ackPoint_ptState ..)⟩
  case silence =>
    have hstate : ((s.lane i).scanTo s.sh.gt 1).almRefused 0x02 p.toNat = false := by simp [Lane.almRefused, hst]
    obtain ⟨rank, hregs⟩ := State.almRow_of_accepted hcomputes hstage htaken (by decide) (almInvalid_point rfl p) hpermits hstate
    exact ⟨_, rfl, s.both_sharedKept _, (Lane.silPoint_regsBut _ _ _ rank p.isLt).of_regs_eq hregs,
      (Lane.fld_of_regs_eq hregs _ _).trans (Lane.silPoint_ptState ..), (Lane.fld_of_regs_eq hregs _ _).trans (Lane.silPoint_scnt ..)⟩
  case transfer =>
    have hstate : ((s.lane i).scanTo s.sh.gt 1).almRefused 0x05 p.toNat = false := by
      simp only [List.mem_cons, List.not_mem_nil, or_false] at hst
      obtain hst | hst := hst <;> simp [Lane.almRefused, hst, hprio]
    obtain ⟨rank, hregs⟩ := State.almRow_of_accepted hcomputes hstage htaken (by decide) (almInvalid_point rfl p) hpermits hstate
    exact ⟨_, rfl, s.both_sharedKept _, (Lane.ptGo_regsBut _ _ _ _ 1 rank p.isLt).of_regs_eq hregs,
      (Lane.fld_of_regs_eq hregs _ _).trans (Lane.ptGo_ptState _ _ _ _ _ _ _ (by decide))⟩
  case retake =>
    have hstate : ((s.lane i).scanTo s.sh.gt 1).almRefused 0x06 p.toNat = false := by simp [Lane.almRefused, hst]
    obtain ⟨rank, hregs⟩ := State.almRow_of_accepted hcomputes hstage htaken (by decide) (almInvalid_point rfl p) hpermits hstate
    exact ⟨_, rfl, s.both_sharedKept _, (Lane.ptGo_regsBut _ _ _ _ 1 rank p.isLt).of_regs_eq hregs,
      (Lane.fld_of_regs_eq hregs _ _).trans (Lane.ptGo_ptState _ _ _ _ _ _ _ (by decide))⟩
  case ackGroup =>
    have hmem : p ∈ ((s.lane i).scanTo s.sh.gt 1).pointsOf (ackable n.toNat) :=
      Lane.mem_pointsOf.mpr ⟨hp, hcond, by simp [ackable, hgroup, isUnack_of_mem hst]⟩
    have hvalid : almInvalid 0x03 n.toNat = false := decide_eq_false (by omega)
    have hstate : ((s.lane i).scanTo s.sh.gt 1).almRefused 0x03 n.toNat = false := by
      simp only [Lane.almRefused, List.isEmpty_eq_false_iff]
      exact List.ne_nil_of_mem hmem
    obtain ⟨rank, hregs⟩ := State.almRow_of_accepted hcomputes hstage htaken (by decide) hvalid hpermits hstate
    obtain ⟨hnamed, hother⟩ := Lane.almEffect_ackGroup_points ((s.lane i).scanTo s.sh.gt 1) s.sh.gt o.toNat rank n.toNat
    exact ⟨_, rfl, s.both_sharedKept _, (Lane.fld_of_regs_eq hregs _ _).trans (hnamed p hmem),
      fun q hq hgroup => (Lane.rd_of_regs_eq hregs _).trans (hother q hq hgroup)⟩
  case silenceAll =>
    have hmem : p ∈ ((s.lane i).scanTo s.sh.gt 1).pointsOf silenceable := Lane.mem_pointsOf.mpr ⟨hp, hcond, by simp [silenceable, hst]⟩
    have hstate : ((s.lane i).scanTo s.sh.gt 1).almRefused 0x04 0 = false := by
      simp only [Lane.almRefused, List.isEmpty_eq_false_iff]
      exact List.ne_nil_of_mem hmem
    obtain ⟨rank, hregs⟩ := State.almRow_of_accepted hcomputes hstage htaken (by decide) rfl hpermits hstate
    obtain ⟨hnamed, hother⟩ := Lane.almEffect_silenceAll_points ((s.lane i).scanTo s.sh.gt 1) s.sh.gt o.toNat rank 0
    exact ⟨_, rfl, s.both_sharedKept _, (Lane.fld_of_regs_eq hregs _ _).trans (hnamed p hmem),
      fun q hq hstate => (Lane.rd_of_regs_eq hregs _).trans (hother q hq hstate)⟩

end Sys2Proof.Machine
end

section
/-! The commands for the call step (R192) wait in the working state of the alarm engine while the scan runs its stages 1 to 7: none of
these stages touches them. -/

namespace Sys2Proof.Machine

theorem foldl_callQ {α : Type} (f : Lane → α → Lane) (hf : ∀ l x, (f l x).alm.callQ = l.alm.callQ) (xs : List α) (l : Lane) :
    (xs.foldl f l).alm.callQ = l.alm.callQ := by
  induction xs generalizing l with
  | nil => rfl
  | cons x xs ih => rw [List.foldl_cons, ih, hf]

theorem ite_callQ (c : Prop) [Decidable c] (l m : Lane) :
    (if c then l else m).alm.callQ = if c then l.alm.callQ else m.alm.callQ := apply_ite (fun x : Lane => x.alm.callQ) c l m

section
variable (l : Lane) (g p : Nat)

@[simp] theorem Lane.setPt_alm (x : PtWork) : (l.setPt p x).alm = l.alm := rfl

@[simp] theorem Lane.ptGo_callQ (dst origin cause rank : Nat) : (l.ptGo g p dst origin cause rank).alm.callQ = l.alm.callQ := by
  simp [Lane.ptGo, ite_callQ]

@[simp] theorem Lane.shelfEnd_alm : (l.shelfEnd p).alm = l.alm := by simp [Lane.shelfEnd, ite_alm]

@[simp] theorem Lane.unshelve_alm (origin cause rank : Nat) : (l.unshelve g p origin cause rank).alm = l.alm := l.shelfEnd_alm p

@[simp] theorem Lane.shelve_alm (auto : Bool) (origin cause rank : Nat) : (l.shelve g p auto origin cause rank).alm = l.alm := by
  simp [Lane.shelve, ite_alm]

@[simp] theorem Lane.ptMasked_callQ : (l.ptMasked g p).alm.callQ = l.alm.callQ := by simp [Lane.ptMasked, ite_callQ]

@[simp] theorem Lane.shelfStep_alm : (l.shelfStep g p).alm = l.alm := by simp [Lane.shelfStep, ite_alm]

@[simp] theorem Lane.scanPoint_callQ (rules : List RuleCover) : (Lane.scanPoint rules g l p).alm.callQ = l.alm.callQ := by
  unfold Lane.scanPoint
  dsimp only
  split
  · rfl
  · split
    · simp
    · split <;> simp

theorem Lane.scanPoints_callQ : (l.scanPoints g).alm.callQ = l.alm.callQ := by
  rw [Lane.scanPoints, foldl_callQ _ fun m q => Lane.scanPoint_callQ m g q _]

@[simp] theorem Lane.scanGroup_alm : (Lane.scanGroup g l p).alm = l.alm := by
  simp [Lane.scanGroup, ite_alm]

@[simp] theorem Lane.scanRule_alm : (Lane.scanRule g l p).alm = l.alm := by simp [Lane.scanRule, ite_alm]

@[simp] theorem Lane.scanFirstOut_alm : (Lane.scanFirstOut g l p).alm = l.alm := by
  unfold Lane.scanFirstOut
  split
  · split <;> simp
  · rfl

@[simp] theorem Lane.chatter_alm : (Lane.chatter g l p).alm = l.alm := by simp [Lane.chatter, ite_alm]

@[simp] theorem Lane.scanChatter_alm : (l.scanChatter g).alm = l.alm := by
  rw [Lane.scanChatter, foldl_alm _ (fun m q => m.chatter_alm g q), ite_alm, foldl_alm _ (fun m q => m.setF_alm _ _ _), ite_self]

@[simp] theorem Lane.scanFlood_alm : (l.scanFlood g).alm = l.alm := by simp [Lane.scanFlood, ite_alm]

@[simp] theorem Lane.scanSummary_alm : (l.scanSummary g).alm = l.alm := by
  unfold Lane.scanSummary
  extract_lets
  exact foldl_alm _ (fun m q => by simp [ite_alm]) _ _

/-- Stages 1 to 7 leave the commands for the call step. -/
theorem Lane.scanStage_callQ {i : Nat} (hafter : 1 ≤ i) (hbefore : i < 8) : (l.scanStage g i).alm.callQ = l.alm.callQ := by
  unfold Lane.scanStage
  split
  case h_1 => omega
  case h_2 => exact l.scanPoints_callQ g
  case h_3 => rw [foldl_alm _ fun m q => Lane.scanGroup_alm m g q]
  case h_4 => rw [foldl_alm _ fun m q => Lane.scanRule_alm m g q]
  case h_5 => rw [foldl_alm _ fun m q => Lane.scanFirstOut_alm m g q]
  case h_6 => rw [Lane.scanChatter_alm]
  case h_7 => rw [Lane.scanFlood_alm]
  case h_8 => rw [Lane.scanSummary_alm]
  case h_9 => interval_cases i <;> contradiction

end

@[simp] theorem Lane.atStage_callQ (l : Lane) (k : Nat) : (l.atStage k).alm.callQ = l.alm.callQ := rfl

/-- A scan past its step 1 comes to the call step with the commands that step 1 has left for it. -/
theorem Lane.scanTo_callQ {l : Lane} {g : Nat} (hstage : l.alm.stage = 1) : (l.scanTo g 8).alm.callQ = l.alm.callQ := by
  have hscan (k : Nat) (hk : 1 ≤ k) : k ≤ 8 → (l.scanTo g k).alm.callQ = l.alm.callQ := by
    induction k, hk using Nat.le_induction with
    | base => exact fun _ => by rw [Lane.scanTo_of_past (by decide) hstage.ge]
    | succ k hk ih =>
      intro hlt
      obtain hfirst | hlater := hk.eq_or_lt
      · rw [Lane.scanTo_succ_of_stage (by omega) (hstage.trans hfirst), Lane.atStage_callQ, Lane.scanStage_callQ _ _ hk (by omega),
          Lane.loopsRun_alm]
      · rw [Lane.scanTo_succ (by omega) (by omega), Lane.atStage_callQ, Lane.scanStage_callQ _ _ hk (by omega), ih (by omega)]
  exact hscan 8 (by decide) le_rfl

end Sys2Proof.Machine
end

section
/-! The rows of the alarm scan against their statement (R28, R161): a row that finds the scan past a stage still runs what phases 3 and 4
have left, before the next stage. -/

namespace Sys2Proof.Machine

/-- A lane whose alarm scan has evaluated the points while phase 3 has left channel 0, without a word at its one instant. Group 0 is
inhibited while NOPATH of that channel is set. -/
def laneWithChannelLeft : Lane :=
  let l : Lane := { id := .A, st := .active, alm := { stage := 2 }, cut := { late := [⟨0, [0], []⟩] } }
  let l := (l.setF (ALM_GRPSRC 0) ALM_GRPSRC_KIND 9).setF (ALM_GRPSRC 0) ALM_GRPSRC_INDEX 96
  (l.setF (ALM_GRPSRC 0) ALM_GRPSRC_SUB AIN_VFLG_NOPATH.lo).setB (ALM_GRPST 0) ALM_GRPST_INH true

/-- The node with that lane. -/
def nodeWithChannelLeft : State := { State.reset with a := laneWithChannelLeft }

/-- Stages 0 and 1 are past: the scan up to its stage 2 leaves the lane as it stands. -/
theorem laneWithChannelLeft_scanTo (g : Nat) : laneWithChannelLeft.scanTo g 2 = laneWithChannelLeft :=
  Lane.scanTo_of_past (by decide) (by decide)

/-- As the lane stands, the source of group 0 is good and not true, and the inhibit is due to be released at once. -/
theorem laneWithChannelLeft_due (l : Lane) (hl : l = laneWithChannelLeft) :
    let v := l.source (fun q => isOn (l.ptState q)) false (l.fld (ALM_GRPSRC 0) ALM_GRPSRC_KIND) (l.fld (ALM_GRPSRC 0) ALM_GRPSRC_INDEX)
      (l.fld (ALM_GRPSRC 0) ALM_GRPSRC_SUB)
    v.2 = false ∧ isTrue v.1 = l.on (ALM_GRPSRC 0) ALM_GRPSRC_INV ∧
      (if l.on (ALM_GRPST 0) ALM_GRPST_RUN then l.fld (ALM_GRPST 0) ALM_GRPST_RCNT + 1 else 0) = l.fld (ALM_GRPDLY 0) ALM_GRPDLY_REL_DLY * 10 := by
  subst hl
  decide +kernel

/-- Phase 3 ends first and sets NOPATH, so that the inhibit stays. -/
theorem laneWithChannelLeft_inhibited :
    ((nodeWithChannelLeft.lane .A).scanTo nodeWithChannelLeft.sh.gt 3).on (ALM_GRPST (0 : Fin 128)) ALM_GRPST_INH = true := by
  decide +kernel

/-- A row of a group that stays inhibited leaves the lane. -/
theorem execInhibitRelease_of_inhibited {s t : State} {i : LaneId} {n : Fin 128} (hrow : exec (.inhibitRelease n) s = .next t)
    (hinhibited : ((s.lane i).scanTo s.sh.gt 3).on (ALM_GRPST n) ALM_GRPST_INH = true) : t.lane i = s.lane i := by
  obtain rfl : s.scanRow 3 (fun l l' => l.on (ALM_GRPST n) ALM_GRPST_INH && !l'.on (ALM_GRPST n) ALM_GRPST_INH) = t :=
    Host.Outcome.next.inj hrow
  rw [State.scanRow, State.both_lane, Lane.scanEvent, hinhibited]
  simp

/-- Refutes O15: its clause of INHIBIT_RELEASE reads the source of the group in the lane as stage 2 of the scan leaves it; where the
scan stands there and phase 3 has left a channel that the group looks at, the row measures the channel first and the source is true. -/
theorem not_alarmScanRowsRunTheScan : ¬ Obligations.AlarmScanRowsRunTheScan := by
  rintro ⟨-, -, -, -, -, -, hrelease, -⟩
  obtain ⟨hgood, hclear, hcount⟩ := laneWithChannelLeft_due _ (laneWithChannelLeft_scanTo nodeWithChannelLeft.sh.gt)
  obtain ⟨t, hrow, -, hstage, -⟩ := hrelease 0 nodeWithChannelLeft .A (by decide) (by decide) (by decide)
    (.inr ⟨hgood, .inr hclear⟩) hcount
  rw [execInhibitRelease_of_inhibited hrow laneWithChannelLeft_inhibited] at hstage
  exact absurd hstage (by decide)

end Sys2Proof.Machine
end

section
/-! Shelving and first-out commands in step 1 of an alarm scan (R169–R172): the registers they leave. -/

namespace Sys2Proof.Machine

theorem Lane.on_of_rd {l : Lane} {k : Nat} {w : Word} (hrd : l.rd k = w) (f : Fld) : l.on k f = f.on w :=
  congrArg (fun n : Nat => n != 0) (Lane.fld_of_rd hrd f)

/-- A one-bit field reads the truth value put into it. -/
theorem Fld.on_put_same (f : Fld) (v : Bool) (w : Word) (hf : f.lo + f.width ≤ 32 ∧ f.width = 1) : f.on (f.put v.toNat w) = v := by
  rw [Fld.on, Fld.get_put_same _ _ _ hf.1, hf.2]
  cases v <;> rfl

theorem Fld.on_put_apart {f g : Fld} (h : fldsApart f g) (v : Nat) (w : Word) : f.on (g.put v w) = f.on w := by
  rw [Fld.on, Fld.get_put_apart h, ← Fld.on]

theorem Fld.get_lt (f : Fld) (w : Word) : f.get w < 2 ^ f.width := Nat.mod_lt _ (Nat.two_pow_pos _)

theorem Lane.fld_lt (l : Lane) (k : Nat) (f : Fld) : l.fld k f < 2 ^ f.width := f.get_lt _

/-! ### Shelving (R171, R172) -/

section
variable (l : Lane) (g origin cause rank : Nat) {p : Nat} (hp : p < 2048)
include hp

theorem ALM_SHLV_lt : ALM_SHLV p < 2 ^ 20 := by
  unfold ALM_SHLV
  omega

theorem ALM_SHLV_ne_SHELFST : ALM_SHLV p % 2 ^ 20 ≠ ALM_SHELFST % 2 ^ 20 := by
  unfold ALM_SHLV ALM_SHELFST
  omega

theorem Lane.shelve_regsBut (auto : Bool) : l.regsBut [ALM_SHLV p, ALM_SHELFST] (l.shelve g p auto origin cause rank) := by
  have hshlv : l.regsBut [ALM_SHLV p, ALM_SHELFST] (l.wr (ALM_SHLV p) (ALM_SHLV_REMAIN.put
      (l.fld ALM_SHELFCFG ALM_SHELFCFG_SHELFT * 6000) (ALM_SHLV_SHELVED.put 1 (ALM_SHLV_AUTO.put auto.toNat (l.rd (ALM_SHLV p)))))) :=
    (Lane.regsBut.refl _ l).wr (ALM_SHLV_lt hp) (by simp) _
  cases auto
  case false => exact (hshlv.setF (k := ALM_SHELFST) (by decide) (by simp) ALM_SHELFST_SHELVED _).of_regs_eq rfl
  case true => exact (hshlv.setF (k := ALM_SHELFST) (by decide) (by simp) ALM_SHELFST_AUTO _).of_regs_eq rfl

theorem Lane.shelve_rd : (l.shelve g p false origin cause rank).rd (ALM_SHLV p) = ALM_SHLV_REMAIN.put
    (l.fld ALM_SHELFCFG ALM_SHELFCFG_SHELFT * 6000) (ALM_SHLV_SHELVED.put 1 (ALM_SHLV_AUTO.put 0 (l.rd (ALM_SHLV p)))) :=
  (Lane.rd_setF_ne _ _ _ _ _ (ALM_SHLV_ne_SHELFST hp)).trans (Lane.rd_wr_same ..)

/-- SHELVE counts the point in SHELVED of ALM_SHELFST. -/
theorem Lane.shelve_count : (l.shelve g p false origin cause rank).fld ALM_SHELFST ALM_SHELFST_SHELVED =
    (l.fld ALM_SHELFST ALM_SHELFST_SHELVED + 1) % 2 ^ 9 := by
  refine (Lane.fld_setF_same _ ALM_SHELFST ALM_SHELFST_SHELVED _ (by decide)).trans ?_
  rw [Lane.fld_wr_ne _ _ _ _ _ (ALM_SHLV_ne_SHELFST hp).symm]
  rfl

theorem Lane.shelfEnd_regsBut : l.regsBut [ALM_SHLV p, ALM_SHELFST] (l.shelfEnd p) := by
  have hshlv : l.regsBut [ALM_SHLV p, ALM_SHELFST] (l.wr (ALM_SHLV p) (ALM_SHLV_REMAIN.put 0
      (ALM_SHLV_SHELVED.put 0 (ALM_SHLV_AUTO.put 0 (l.rd (ALM_SHLV p)))))) := (Lane.regsBut.refl _ l).wr (ALM_SHLV_lt hp) (by simp) _
  unfold Lane.shelfEnd
  dsimp only
  split
  · exact hshlv.setF (by decide) (by simp) ALM_SHELFST_AUTO _
  · exact hshlv.setF (by decide) (by simp) ALM_SHELFST_SHELVED _

theorem Lane.shelfEnd_rd :
    (l.shelfEnd p).rd (ALM_SHLV p) = ALM_SHLV_REMAIN.put 0 (ALM_SHLV_SHELVED.put 0 (ALM_SHLV_AUTO.put 0 (l.rd (ALM_SHLV p)))) := by
  unfold Lane.shelfEnd
  dsimp only
  split <;> rw [Lane.rd_setF_ne _ _ _ _ _ (ALM_SHLV_ne_SHELFST hp), Lane.rd_wr_same]

end

/-! ### First-out (R170) -/

section
variable (l : Lane) {n : Nat}

theorem ALM_GRPST_ne_GRPFO : ALM_GRPST n % 2 ^ 20 ≠ ALM_GRPFO n % 2 ^ 20 := by
  unfold ALM_GRPST ALM_GRPFO
  omega

theorem Lane.foReset_regsBut (hn : n < 128) : l.regsBut [ALM_GRPST n, ALM_GRPFO n] (l.foReset n) :=
  ((Lane.regsBut.refl _ l).wr (by unfold ALM_GRPST; omega) (by simp) _).wr (by unfold ALM_GRPFO; omega) (by simp) _

theorem Lane.foReset_grpst : (l.foReset n).rd (ALM_GRPST n) = ALM_GRPST_FO_ARMED.put 1 (ALM_GRPST_FO_CAPT.put 0 (l.rd (ALM_GRPST n))) :=
  (Lane.rd_wr_ne _ _ _ _ ALM_GRPST_ne_GRPFO).trans (Lane.rd_wr_same ..)

theorem Lane.foReset_grpfo : (l.foReset n).rd (ALM_GRPFO n) = 0#32 := Lane.rd_wr_same ..

end

/-! ### The rows -/

section
variable {s : State} {i : LaneId} {o : BitVec 5} (hcomputes : (s.lane i).computes = true) (hstage : (s.lane i).alm.stage < 2)
  (htaken : ((s.lane i).scanTo s.sh.gt 1).alm.taken < 32)
include hcomputes hstage htaken

theorem State.shelve_row {p : BitVec 11} (hpermits : ((s.lane i).scanTo s.sh.gt 1).almPermits 0x07 o.toNat = true)
    (hfree : ((s.lane i).scanTo s.sh.gt 1).on (ALM_SHLV p.toNat) ALM_SHLV_SHELVED = false)
    (hprio : ((s.lane i).scanTo s.sh.gt 1).ptPrio p.toNat ≠ 0) (hcond : ((s.lane i).scanTo s.sh.gt 1).ptCond p.toNat ≠ 0)
    (hroom : ((s.lane i).scanTo s.sh.gt 1).fld ALM_SHELFST ALM_SHELFST_SHELVED <
      ((s.lane i).scanTo s.sh.gt 1).fld ALM_SHELFCFG ALM_SHELFCFG_SHELF_MAX) :
    let l := (s.lane i).scanTo s.sh.gt 1
    let m := (s.almRow 0x07 p.toNat o.toNat).lane i
    l.regsBut [ALM_SHLV p.toNat, ALM_SHELFST] m ∧ m.on (ALM_SHLV p.toNat) ALM_SHLV_SHELVED = true ∧
      m.fld (ALM_SHLV p.toNat) ALM_SHLV_REMAIN = l.fld ALM_SHELFCFG ALM_SHELFCFG_SHELFT * 6000 ∧
      m.fld ALM_SHELFST ALM_SHELFST_SHELVED = l.fld ALM_SHELFST ALM_SHELFST_SHELVED + 1 := by
  have hstate : ((s.lane i).scanTo s.sh.gt 1).almRefused 0x07 p.toNat = false := by
    simp [Lane.almRefused, hfree, hprio, hcond, hroom.ne]
  obtain ⟨rank, hregs⟩ := State.almRow_of_accepted hcomputes hstage htaken (by decide) (almInvalid_point rfl p) hpermits hstate
  generalize (s.lane i).scanTo s.sh.gt 1 = l at *
  have hshlv := (Lane.rd_of_regs_eq hregs _).trans (l.shelve_rd s.sh.gt o.toNat 1 rank p.isLt)
  have htime : l.fld ALM_SHELFCFG ALM_SHELFCFG_SHELFT < 2 ^ 10 := l.fld_lt _ _
  have hmax : l.fld ALM_SHELFCFG ALM_SHELFCFG_SHELF_MAX < 2 ^ 9 := l.fld_lt _ _
  refine ⟨(l.shelve_regsBut s.sh.gt o.toNat 1 rank p.isLt false).of_regs_eq hregs, ?_, ?_, ?_⟩
  · rw [Lane.on_of_rd hshlv, Fld.on_put_apart (by decide)]
    exact Fld.on_put_same _ true _ (by decide)
  · rw [Lane.fld_of_rd hshlv, Fld.get_put_same _ _ _ (by decide)]
    exact Nat.mod_eq_of_lt (show _ < 2 ^ 23 by omega)
  · rw [Lane.fld_of_regs_eq hregs]
    exact (l.shelve_count s.sh.gt o.toNat 1 rank p.isLt).trans (Nat.mod_eq_of_lt (by omega))

theorem State.unshelve_row {p : BitVec 11} (hpermits : ((s.lane i).scanTo s.sh.gt 1).almPermits 0x08 o.toNat = true)
    (hshelved : ((s.lane i).scanTo s.sh.gt 1).on (ALM_SHLV p.toNat) ALM_SHLV_SHELVED = true) :
    let l := (s.lane i).scanTo s.sh.gt 1
    let m := (s.almRow 0x08 p.toNat o.toNat).lane i
    l.regsBut [ALM_SHLV p.toNat, ALM_SHELFST] m ∧ m.on (ALM_SHLV p.toNat) ALM_SHLV_SHELVED = false ∧
      m.on (ALM_SHLV p.toNat) ALM_SHLV_AUTO = false := by
  have hstate : ((s.lane i).scanTo s.sh.gt 1).almRefused 0x08 p.toNat = false := by simp [Lane.almRefused, hshelved]
  obtain ⟨rank, hregs⟩ := State.almRow_of_accepted hcomputes hstage htaken (by decide) (almInvalid_point rfl p) hpermits hstate
  generalize (s.lane i).scanTo s.sh.gt 1 = l at *
  have hshlv := (Lane.rd_of_regs_eq hregs _).trans (l.shelfEnd_rd p.isLt)
  refine ⟨(l.shelfEnd_regsBut p.isLt).of_regs_eq hregs, ?_, ?_⟩
  · rw [Lane.on_of_rd hshlv, Fld.on_put_apart (by decide)]
    exact Fld.on_put_same _ false _ (by decide)
  · rw [Lane.on_of_rd hshlv, Fld.on_put_apart (by decide), Fld.on_put_apart (by decide)]
    exact Fld.on_put_same _ false _ (by decide)

theorem State.foReset_row {n : BitVec 11} (hn : n.toNat < 128) (hpermits : ((s.lane i).scanTo s.sh.gt 1).almPermits 0x09 o.toNat = true)
    (hen : ((s.lane i).scanTo s.sh.gt 1).on (ALM_GRPDLY n.toNat) ALM_GRPDLY_FO_EN = true)
    (hdisarmed : ((s.lane i).scanTo s.sh.gt 1).on (ALM_GRPST n.toNat) ALM_GRPST_FO_ARMED = false) :
    let l := (s.lane i).scanTo s.sh.gt 1
    let m := (s.almRow 0x09 n.toNat o.toNat).lane i
    l.regsBut [ALM_GRPST n.toNat, ALM_GRPFO n.toNat] m ∧ m.on (ALM_GRPST n.toNat) ALM_GRPST_FO_ARMED = true ∧
      m.on (ALM_GRPST n.toNat) ALM_GRPST_FO_CAPT = false ∧ m.fld (ALM_GRPFO n.toNat) ALM_GRPFO_FIRST = 0 ∧
      m.fld (ALM_GRPFO n.toNat) ALM_GRPFO_TIES = 0 := by
  have hvalid : almInvalid 0x09 n.toNat = false := decide_eq_false (by omega)
  have hstate : ((s.lane i).scanTo s.sh.gt 1).almRefused 0x09 n.toNat = false := by simp [Lane.almRefused, hen, hdisarmed]
  obtain ⟨rank, hregs⟩ := State.almRow_of_accepted hcomputes hstage htaken (by decide) hvalid hpermits hstate
  generalize (s.lane i).scanTo s.sh.gt 1 = l at *
  have hgrpst := (Lane.rd_of_regs_eq hregs _).trans l.foReset_grpst
  have hgrpfo := (Lane.rd_of_regs_eq hregs _).trans l.foReset_grpfo
  refine ⟨(l.foReset_regsBut hn).of_regs_eq hregs, ?_, ?_, ?_, ?_⟩
  · rw [Lane.on_of_rd hgrpst]
    exact Fld.on_put_same _ true _ (by decide)
  · rw [Lane.on_of_rd hgrpst, Fld.on_put_apart (by decide)]
    exact Fld.on_put_same _ false _ (by decide)
  · exact Lane.fld_of_rd hgrpfo _
  · exact Lane.fld_of_rd hgrpfo _

end

end Sys2Proof.Machine
end

section
/-! The call step of an alarm scan (R185–R193) with one command: what the step finds when it takes the command, what the command does,
and what the rest of the step leaves of it. -/

namespace Sys2Proof.Machine

/-- The registers that a call step and the end of its scan may change. -/
abbrev callRegs : List Nat := [ALM_CALLST, ALM_CALLED, ALM_DMST, ALM_SCANCNT]

theorem Lane.regsBut.trans {ks : List Nat} {l m n : Lane} (hm : l.regsBut ks m) (hn : m.regsBut ks n) : l.regsBut ks n :=
  fun k hk hks => (hn k hk hks).trans (hm k hk hks)

theorem Lane.regsBut.mono {ks js : List Nat} {l m : Lane} (hm : l.regsBut ks m) (hks : ks ⊆ js) : l.regsBut js m :=
  fun k hk hjs => hm k hk fun h => hjs (hks h)

theorem Lane.regsBut.fld {ks : List Nat} {l m : Lane} (hm : l.regsBut ks m) {k : Nat} (hk : k < 2 ^ 20) (hks : k ∉ ks) (f : Fld) :
    m.fld k f = l.fld k f := Lane.fld_of_rd (hm k hk hks) f

theorem Lane.regsBut.on {ks : List Nat} {l m : Lane} (hm : l.regsBut ks m) {k : Nat} (hk : k < 2 ^ 20) (hks : k ∉ ks) (f : Fld) :
    m.on k f = l.on k f := Lane.on_of_rd (hm k hk hks) f

/-! ### What the step reads of the points -/

section
variable {ks : List Nat} {l m : Lane} (hm : l.regsBut ks m) (hks : ∀ k ∈ ks, k < 0x8000)
include hm hks

/-- Registers of the points stand where none of them is among those that may change. -/
theorem Lane.regsBut.point {p j : Nat} (hp : p < 2048) (hj : j < 8) (f : Fld) : m.fld (0x8000 + j + 8 * p) f = l.fld (0x8000 + j + 8 * p) f :=
  hm.fld (by omega) (fun h => absurd (hks _ h) (by omega)) f

theorem Lane.regsBut.callPoints (f : Nat → Bool) : m.callPoints f = l.callPoints f := by
  rw [Lane.callPoints, Lane.pointsOf, Lane.callPoints, Lane.pointsOf]
  refine List.filter_congr fun p hp => ?_
  have hp : p < 2048 := List.mem_range.mp hp
  have hcfg (x : Fld) : m.fld (PT_CFG p) x = l.fld (PT_CFG p) x := hm.point hks (j := 0) hp (by decide) x
  have hst : m.ptState p = l.ptState p := hm.point hks (j := 6) hp (by decide) PT_ST_STATE
  simp only [Lane.ptCond, Lane.on, hcfg, hst]

theorem Lane.regsBut.demand : m.demand = l.demand := hm.callPoints hks _

theorem Lane.regsBut.emerg : m.emerg = l.emerg := by
  have hprio (p : Nat) (hp : p ∈ l.demand) : m.ptPrio p = l.ptPrio p := by
    rw [Lane.demand, Lane.callPoints, Lane.mem_pointsOf] at hp
    exact hm.point hks (j := 0) hp.1 (by decide) PT_CFG_PRIO
  rw [Lane.emerg, hm.demand hks, Lane.emerg, Bool.eq_iff_iff, List.any_eq_true, List.any_eq_true]
  exact exists_congr fun p => and_congr_right fun hp => by rw [hprio p hp]

end

/-! ### The called set (R186) -/

section
variable {l m : Lane} (hm : l.regsBut callRegs m)
  (hkept : ∀ f ∈ [ALM_CALLST_CSTATE, ALM_CALLST_STAGE, ALM_CALLST_NODUTY, ALM_CALLST_DUTY], m.fld ALM_CALLST f = l.fld ALM_CALLST f)
include hm hkept

theorem Lane.regsBut.ownSet {i : Nat} (hi : i < 4) : m.ownSet i = l.ownSet i := by
  have hstg : m.rd (ALM_STG i) = l.rd (ALM_STG i) := by
    refine hm _ ?_ ?_ <;> simp [ALM_STG, ALM_CALLST, ALM_CALLED, ALM_DMST, ALM_SCANCNT] <;> omega
  have hnoduty : m.on ALM_CALLST ALM_CALLST_NODUTY = l.on ALM_CALLST ALM_CALLST_NODUTY := by
    rw [Lane.on, hkept _ (by simp), ← Lane.on]
  unfold Lane.ownSet
  refine List.foldl_ext _ _ _ fun w st hst => ?_
  have hst : st < 16 := List.mem_range.mp hst
  have hfitted : m.fitted st = l.fitted st := by
    refine hm.on ?_ ?_ _ <;> simp [ALM_WS, ALM_CALLST, ALM_CALLED, ALM_DMST, ALM_SCANCNT] <;> omega
  simp only [hstg, hfitted, hnoduty, hkept ALM_CALLST_DUTY (by simp)]

theorem Lane.regsBut.calledNow : m.calledNow = l.calledNow := by
  have hstage : l.fld ALM_CALLST ALM_CALLST_STAGE < 4 := l.fld_lt _ _
  rw [Lane.calledNow, Lane.calledNow, hkept _ (by simp), hkept _ (by simp), Lane.calledSet, Lane.calledSet]
  refine if_congr Iff.rfl (List.foldl_ext _ _ _ fun w i hi => ?_) rfl
  have hi : i < l.fld ALM_CALLST ALM_CALLST_STAGE + 1 := List.mem_range.mp hi
  rw [hm.ownSet hkept (by omega)]

end

/-! ### Before the command -/

/-- The lane as the call step takes its commands: presence is evaluated, EMERG is set, CCNT and DMCNT have counted (R183, R185, R187,
R193). -/
def Lane.callOpen (g : Nat) (l : Lane) : Lane :=
  (((l.presence g).setB ALM_CALLST ALM_CALLST_EMERG (l.presence g).emerg).callCount).dmCount

section
variable (l : Lane) (g : Nat)

theorem Lane.presence_regsBut : l.regsBut [ALM_CALLED] (l.presence g) :=
  List.foldlRecOn (motive := l.regsBut [ALM_CALLED]) _ _ (.refl _ l) fun m hm st _ => by
    unfold Lane.presStep
    dsimp only
    split
    · exact (hm.setF (k := ALM_CALLED) (by decide) (by simp) ALM_CALLED_PRESENT _).of_regs_eq rfl
    · exact hm

theorem Lane.presence_alm : (l.presence g).alm = l.alm := foldl_alm _ (fun m st => by simp [Lane.presStep, ite_alm]) _ _

theorem Lane.presence_emerg : (l.presence g).emerg = l.emerg := (l.presence_regsBut g).emerg (by decide)

theorem Lane.callCount_cases : l.callCount = l ∨ l.callCount = l.wrap ALM_CALLST ALM_CALLST_CCNT := ite_eq_or_eq ..

theorem Lane.dmCount_cases : l.dmCount = l ∨ l.dmCount = l.wrap ALM_DMST ALM_DMST_DMCNT := ite_eq_or_eq ..

theorem Lane.callOpen_alm : (l.callOpen g).alm = l.alm := by
  simp [Lane.callOpen, Lane.dmCount, Lane.callCount, ite_alm, Lane.presence_alm]

theorem Lane.callCount_regsBut {ks : List Nat} (hks : ALM_CALLST ∈ ks) : l.regsBut ks l.callCount := by
  obtain h | h := l.callCount_cases <;> rw [h]
  · exact .refl ks l
  · exact (Lane.regsBut.refl ks l).setF (k := ALM_CALLST) (by decide) hks _ _

theorem Lane.dmCount_regsBut {ks : List Nat} (hks : ALM_DMST ∈ ks) : l.regsBut ks l.dmCount := by
  obtain h | h := l.dmCount_cases <;> rw [h]
  · exact .refl ks l
  · exact (Lane.regsBut.refl ks l).setF (k := ALM_DMST) (by decide) hks _ _

theorem Lane.callOpen_regsBut : l.regsBut callRegs (l.callOpen g) :=
  ((((l.presence_regsBut g).mono (by simp)).setF (k := ALM_CALLST) (by decide) (by simp) ALM_CALLST_EMERG _).trans
    (Lane.callCount_regsBut _ (by simp))).trans (Lane.dmCount_regsBut _ (by simp))

/-- The other fields of ALM_CALLST stand. -/
theorem Lane.callOpen_callst {f : Fld} (hemerg : fldsApart f ALM_CALLST_EMERG) (hccnt : fldsApart f ALM_CALLST_CCNT) :
    (l.callOpen g).fld ALM_CALLST f = l.fld ALM_CALLST f := by
  have hcount (m : Lane) : m.callCount.fld ALM_CALLST f = m.fld ALM_CALLST f := by
    obtain h | h := m.callCount_cases <;> rw [h]
    exact Lane.fld_setF_field _ _ _ _ _ hccnt
  rw [Lane.callOpen, (Lane.dmCount_regsBut _ (List.mem_singleton_self _)).fld (by decide) (by decide), hcount, Lane.setB,
    Lane.fld_setF_field _ _ _ _ _ hemerg]
  exact (l.presence_regsBut g).fld (by decide) (by decide) f

/-- The safety timer stays in its state. -/
theorem Lane.callOpen_dmst : (l.callOpen g).fld ALM_DMST ALM_DMST_DMST = l.fld ALM_DMST ALM_DMST_DMST := by
  have hcount (m : Lane) : m.dmCount.fld ALM_DMST ALM_DMST_DMST = m.fld ALM_DMST ALM_DMST_DMST := by
    obtain h | h := m.dmCount_cases <;> rw [h]
    exact Lane.fld_setF_field _ _ _ _ _ (by decide)
  rw [Lane.callOpen, hcount, (Lane.callCount_regsBut _ (List.mem_singleton_self _)).fld (by decide) (by decide), Lane.setB,
    Lane.fld_setF_ne _ _ _ _ _ _ (by decide)]
  exact (l.presence_regsBut g).fld (by decide) (by decide) _

theorem Lane.callOpen_calledNow : (l.callOpen g).calledNow = l.calledNow := by
  refine (l.callOpen_regsBut g).calledNow fun f hf => l.callOpen_callst g ?_ ?_ <;> revert f <;> decide

end

/-! ### The command (R192) -/

section
variable (l : Lane) (g rank origin : Nat) (emerg : Bool)

theorem Lane.callCmd_acceptCall (h : l.acceptRefused emerg origin = false) :
    l.callCmd g emerg rank (rowCmd g 0x20 0 origin) none = (l, some origin) := by
  have hstatus : l.almStatus (rowCmd g 0x20 0 origin) stDone = l := Lane.almStatus_rowCmd 0 stDone
  simp [Lane.callCmd, show (rowCmd g 0x20 0 origin).op = 0x20 from rfl, show (rowCmd g 0x20 0 origin).origin = origin from rfl, h, hstatus]

theorem Lane.callCmd_duty {n : Nat} (hfitted : l.fitted n = true) (helig : l.on (ALM_WS n) ALM_WS_ELIG = true)
    (hidle : l.fld ALM_CALLST ALM_CALLST_CSTATE = csIdle) :
    ∃ m, l.callCmd g emerg rank (rowCmd g 0x21 n origin) none = (m, none) ∧ m.regs = (l.setF ALM_CALLST ALM_CALLST_DUTY n).regs := by
  have hstatus : (l.setF ALM_CALLST ALM_CALLST_DUTY n).almStatus (rowCmd g 0x21 n origin) stDone = l.setF ALM_CALLST ALM_CALLST_DUTY n :=
    Lane.almStatus_rowCmd 0 stDone
  simp only [Lane.callCmd, show (rowCmd g 0x21 n origin).op = 0x21 from rfl, show (rowCmd g 0x21 n origin).tgt = n from rfl, hfitted, helig,
    hidle, hstatus]
  refine ⟨_, rfl, ?_⟩
  split <;> rfl

theorem Lane.callCmd_dmStart (hoff : l.fld ALM_DMST ALM_DMST_DMST = dmOff) (hen : l.on ALM_DMCFG ALM_DMCFG_DM_EN = true) :
    l.callCmd g emerg rank (rowCmd g 0x22 0 origin) none = (l.dmGo g dmRun 0 origin 0, none) := by
  have hstatus (m : Lane) : m.almStatus (rowCmd g 0x22 0 origin) stDone = m := Lane.almStatus_rowCmd 0 stDone
  simp [Lane.callCmd, show (rowCmd g 0x22 0 origin).op = 0x22 from rfl, show (rowCmd g 0x22 0 origin).origin = origin from rfl, hoff, hen, hstatus]

theorem Lane.callCmd_dmReset (hon : l.fld ALM_DMST ALM_DMST_DMST ≠ dmOff) :
    l.callCmd g emerg rank (rowCmd g 0x23 0 origin) none = (l.dmGo g dmRun 0 origin 1, none) := by
  have hstatus (m : Lane) : m.almStatus (rowCmd g 0x23 0 origin) stDone = m := Lane.almStatus_rowCmd 0 stDone
  simp [Lane.callCmd, show (rowCmd g 0x23 0 origin).op = 0x23 from rfl, show (rowCmd g 0x23 0 origin).origin = origin from rfl, hon, hstatus]

theorem Lane.callCmd_dmStop (hon : l.fld ALM_DMST ALM_DMST_DMST ≠ dmOff) :
    l.callCmd g emerg rank (rowCmd g 0x24 0 origin) none = (l.dmGo g dmOff 0 origin 2, none) := by
  have hstatus (m : Lane) : m.almStatus (rowCmd g 0x24 0 origin) stDone = m := Lane.almStatus_rowCmd 0 stDone
  simp [Lane.callCmd, show (rowCmd g 0x24 0 origin).op = 0x24 from rfl, show (rowCmd g 0x24 0 origin).origin = origin from rfl, hon, hstatus]

variable (dst cnt cause : Nat)

theorem Lane.dmGo_rd : (l.dmGo g dst cnt origin cause).rd ALM_DMST = ALM_DMST_DMST.put dst (ALM_DMST_DMCNT.put cnt (l.rd ALM_DMST)) := by
  rw [Lane.dmGo, Lane.rd_ev, Lane.rd_record, Lane.rd_wr_same]

theorem Lane.dmGo_regsBut {ks : List Nat} (hks : ALM_DMST ∈ ks) : l.regsBut ks (l.dmGo g dst cnt origin cause) :=
  ((Lane.regsBut.refl ks l).wr (k := ALM_DMST) (by decide) hks _).of_regs_eq rfl

theorem Lane.dmGo_dmst (hdst : dst < 4) : (l.dmGo g dst cnt origin cause).fld ALM_DMST ALM_DMST_DMST = dst := by
  rw [Lane.fld_of_rd (Lane.dmGo_rd ..), Fld.get_put_same _ _ _ (by decide)]
  exact Nat.mod_eq_of_lt hdst

theorem Lane.dmGo_dmcnt : (l.dmGo g dst 0 origin cause).fld ALM_DMST ALM_DMST_DMCNT = 0 := by
  rw [Lane.fld_of_rd (Lane.dmGo_rd ..), Fld.get_put_apart (by decide), Fld.get_put_same _ _ _ (by decide), Nat.zero_mod]

end

/-! ### The table of the call state (R188) -/

theorem Lane.callGo_rd (l : Lane) (g dst stage cnt origin cause npts : Nat) : (l.callGo g dst stage cnt origin cause npts).rd ALM_CALLST =
    ALM_CALLST_CSTATE.put dst (ALM_CALLST_STAGE.put stage (ALM_CALLST_CCNT.put cnt (l.rd ALM_CALLST))) := by
  rw [Lane.callGo, Lane.rd_ev, Lane.rd_record, Lane.rd_wr_same]

/-- Of the registers only ALM_CALLST may differ, in its fields CSTATE, STAGE, ASTG and CCNT. -/
structure Lane.callMoved (l m : Lane) : Prop where
  regs : l.regsBut [ALM_CALLST] m
  callst : ∀ f, (∀ x ∈ [ALM_CALLST_CSTATE, ALM_CALLST_STAGE, ALM_CALLST_ASTG, ALM_CALLST_CCNT], fldsApart f x) →
    m.fld ALM_CALLST f = l.fld ALM_CALLST f

namespace Lane.callMoved

variable {l m n : Lane}

theorem refl (l : Lane) : l.callMoved l := ⟨.refl _ l, fun _ _ => rfl⟩

theorem ite {c : Prop} [Decidable c] (hm : l.callMoved m) (hn : l.callMoved n) : l.callMoved (if c then m else n) := by
  split
  · exact hm
  · exact hn

theorem callGo (l : Lane) (g dst stage cnt origin cause npts : Nat) : l.callMoved (l.callGo g dst stage cnt origin cause npts) := by
  refine ⟨((Lane.regsBut.refl _ l).wr (k := ALM_CALLST) (by decide) (by simp) _).of_regs_eq rfl, fun f hf => ?_⟩
  rw [Lane.fld_of_rd (Lane.callGo_rd ..), Fld.get_put_apart (hf _ (by simp)), Fld.get_put_apart (hf _ (by simp)),
    Fld.get_put_apart (hf _ (by simp))]
  rfl

theorem setAstg (hm : l.callMoved m) (v : Nat) : l.callMoved (m.setF ALM_CALLST ALM_CALLST_ASTG v) :=
  ⟨hm.regs.setF (by decide) (by simp) _ v, fun f hf => (Lane.fld_setF_field _ _ _ _ _ (hf _ (by simp))).trans (hm.callst f hf)⟩

theorem issue (hm : l.callMoved m) (op : Nat) (ps : List Nat) : l.callMoved (m.issue op ps) :=
  ⟨hm.regs.of_regs_eq rfl, fun f hf => hm.callst f hf⟩

theorem callTable (l : Lane) (g : Nat) (acc : Option Nat) : l.callMoved (l.callTable g acc) := by
  refine .ite (.ite (.callGo ..) (.refl l)) (.ite (.ite (.callGo ..) ?_)
    (.ite (.callGo ..) (.ite (.callGo ..) (.ite ((callGo ..).issue _ _) (.refl l)))))
  cases acc with
  | none => exact .ite (.callGo ..) (.refl l)
  | some o => exact ((callGo ..).setAstg _).issue _ _

end Lane.callMoved

/-- An ACCEPT accepted while the engine calls: ACCEPTED with the stage kept, and TRANSFER for every point of the demand. -/
theorem Lane.callTable_of_accept {l : Lane} (g o : Nat) (hcalling : l.fld ALM_CALLST ALM_CALLST_CSTATE = csCalling) (hdemand : l.demand ≠ []) :
    l.callTable g (some o) = ((l.callGo g csAccepted (l.fld ALM_CALLST ALM_CALLST_STAGE) 0 o 5 l.demand.length).setF ALM_CALLST
      ALM_CALLST_ASTG (l.fld ALM_CALLST ALM_CALLST_STAGE)).issue 0x05 l.demand := by
  have hcstate : ALM_CALLST_CSTATE.get (l.rd ALM_CALLST) = csCalling := hcalling
  have hcdem : l.demand.isEmpty = false := List.isEmpty_eq_false_iff.mpr hdemand
  unfold Lane.callTable
  simp only [hcstate, hcdem]
  rfl

/-! ### After the command -/

/-- The rest of the call step after the table: the rows of the safety timer that its count drives, the queue, and CALLED. `w`: ALM_DMST
before the command. -/
def Lane.callClose (g : Nat) (w : Word) (l : Lane) : Lane :=
  let l := if ALM_DMST_DMST.get w = l.fld ALM_DMST ALM_DMST_DMST && l.fld ALM_DMST ALM_DMST_DMCNT != 0 then l.dmTable g else l
  let l := l.setAlm (fun a => { a with callQ := [] })
  l.setF ALM_CALLED ALM_CALLED_CALLED l.calledNow.toNat

section
variable (l : Lane) (g : Nat)

theorem Lane.dmTable_regsBut {ks : List Nat} (hks : ALM_DMST ∈ ks) : l.regsBut ks (l.dmTable g) := by
  unfold Lane.dmTable
  dsimp only
  split
  · exact Lane.dmGo_regsBut _ _ _ _ _ _ hks
  · split
    · exact Lane.dmGo_regsBut _ _ _ _ _ _ hks
    · exact .refl ks l

theorem Lane.dmTable_alm : (l.dmTable g).alm = l.alm := by
  unfold Lane.dmTable
  dsimp only
  split
  · rfl
  · split <;> rfl

variable (w : Word)

theorem Lane.callClose_regsBut : l.regsBut [ALM_CALLED, ALM_DMST] (l.callClose g w) := by
  have hclosed (m : Lane) (hm : l.regsBut [ALM_CALLED, ALM_DMST] m) : l.regsBut [ALM_CALLED, ALM_DMST]
      ((m.setAlm (fun a => { a with callQ := [] })).setF ALM_CALLED ALM_CALLED_CALLED (m.setAlm (fun a => { a with callQ := [] })).calledNow.toNat) :=
    (hm.of_regs_eq rfl).setF (by decide) (by simp) _ _
  refine hclosed _ ?_
  split
  · exact l.dmTable_regsBut g (by simp)
  · exact .refl _ l

/-- A count of 0 drives no row of the safety timer. -/
theorem Lane.callClose_dmst (hcnt : l.fld ALM_DMST ALM_DMST_DMCNT = 0) : (l.callClose g w).rd ALM_DMST = l.rd ALM_DMST := by
  simp only [Lane.callClose, hcnt, bne_self_eq_false, Bool.and_false, Bool.false_eq_true, if_false]
  exact Lane.rd_setF_ne _ _ _ _ _ (by decide)

theorem Lane.callClose_callCmds : (l.callClose g w).alm.callCmds = l.alm.callCmds := by
  unfold Lane.callClose
  dsimp only
  rw [Lane.setF_alm, Lane.setAlm_alm]
  split
  · rw [Lane.dmTable_alm]
  · rfl

theorem Lane.foldl_setOn_regs (ps : List Nat) :
    (ps.foldl (fun (l : Lane) p => l.setPt p { l.pt p with on := isOn (l.ptState p) }) l).regs = l.regs ∧
      (ps.foldl (fun (l : Lane) p => l.setPt p { l.pt p with on := isOn (l.ptState p) }) l).alm = l.alm :=
  List.foldlRecOn (motive := fun m : Lane => m.regs = l.regs ∧ m.alm = l.alm) ps _ ⟨rfl, rfl⟩ fun _ hm _ _ => hm

theorem Lane.scanEnd_regsBut : l.regsBut [ALM_SCANCNT] l.scanEnd := by
  unfold Lane.scanEnd
  dsimp only
  generalize (upTo 2048).filter _ = ps
  exact (Lane.regsBut_of_regs_eq _ (l.foldl_setOn_regs _).1).setF (k := ALM_SCANCNT) (by decide) (by simp) _ _

theorem Lane.scanEnd_alm : l.scanEnd.alm = l.alm := by
  unfold Lane.scanEnd
  dsimp only
  generalize (upTo 2048).filter _ = ps
  exact (l.foldl_setOn_regs _).2

end

/-! ### The call step with one command -/

theorem Lane.callStep_of_one {l y : Lane} {g r : Nat} {c : AlmCmd} {acc : Option Nat} (hq : l.alm.callQ = [(r, c)])
    (hcmd : (l.callOpen g).callCmd g l.emerg r c none = (y, acc)) : ∃ w, l.callStep g = (y.callTable g acc).callClose g w := by
  have hcmds : (l.callOpen g).callCmds g (l.presence g).emerg = (y, acc) := by
    rw [Lane.callCmds, Lane.callOpen_alm, hq, l.presence_emerg g]
    exact hcmd
  refine ⟨((l.presence g).setB ALM_CALLST ALM_CALLST_EMERG (l.presence g).emerg).rd ALM_DMST, ?_⟩
  unfold Lane.callStep
  dsimp only
  rw [← Lane.callOpen, hcmds]
  rfl

@[simp] theorem Lane.atStage_regs (l : Lane) (k : Nat) : (l.atStage k).regs = l.regs := rfl

@[simp] theorem Lane.atStage_callCmds (l : Lane) (k : Nat) : (l.atStage k).alm.callCmds = l.alm.callCmds := rfl

/-- What the last stage of the scan leaves of a lane whose call step takes one command, which leaves the lane `y` (R192). -/
theorem Lane.lastStage_of_one {l y t : Lane} {g r : Nat} {c : AlmCmd} {acc : Option Nat} (hq : l.alm.callQ = [(r, c)])
    (ht : t = (l.scanStage g 8).atStage 9) (hcmd : (l.callOpen g).callCmd g l.emerg r c none = (y, acc))
    (hy : (l.callOpen g).regsBut callRegs y) :
    l.regsBut callRegs t ∧ (∀ f, t.fld ALM_CALLST f = (y.callTable g acc).fld ALM_CALLST f) ∧
      (y.fld ALM_DMST ALM_DMST_DMCNT = 0 → ∀ f, t.fld ALM_DMST f = y.fld ALM_DMST f) ∧
      t.alm.callCmds = (y.callTable g acc).alm.callCmds := by
  obtain ⟨w, hstep⟩ := Lane.callStep_of_one hq hcmd
  have hstage : l.scanStage g 8 = ((y.callTable g acc).callClose g w).scanEnd := congrArg Lane.scanEnd hstep
  obtain ⟨htable, -⟩ := Lane.callMoved.callTable y g acc
  have hclose := (y.callTable g acc).callClose_regsBut g w
  have hend : ((y.callTable g acc).callClose g w).regsBut [ALM_SCANCNT] t :=
    (Lane.scanEnd_regsBut _).of_regs_eq (by rw [ht, Lane.atStage_regs, hstage])
  refine ⟨?_, fun f => ?_, fun hcnt f => ?_, ?_⟩
  · exact ((((l.callOpen_regsBut g).trans hy).trans (htable.mono (by simp))).trans (hclose.mono (by simp))).trans (hend.mono (by simp))
  · rw [hend.fld (by decide) (by decide), hclose.fld (by decide) (by decide)]
  · have hcnt : (y.callTable g acc).fld ALM_DMST ALM_DMST_DMCNT = 0 := by rw [htable.fld (by decide) (by decide), hcnt]
    rw [hend.fld (by decide) (by decide), Lane.fld_of_rd (Lane.callClose_dmst _ g w hcnt)]
    exact htable.fld (by decide) (by decide) f
  · rw [ht, Lane.atStage_callCmds, hstage, Lane.scanEnd_alm, Lane.callClose_callCmds]

end Sys2Proof.Machine
end

section
/-! Call, duty and safety-timer commands (R184, R188–R193) from their row to the end of the scan. -/

namespace Sys2Proof.Machine

/-! ### From the row to the call step -/

/-- A permitted command of the call engine waits for the call step. -/
theorem Lane.almNext_of_callCommand {l : Lane} {g op tgt origin : Nat} (hop : 0x20 ≤ op) (hpermits : l.almPermits op origin = true) :
    l.almNext g (rowCmd g op tgt origin) = l.setAlm (fun a => { a with
      callQ := a.callQ ++ [(rankCmd l.alm.place, rowCmd g op tgt origin)], place := l.alm.place + 1, taken := a.taken + 1 }) := by
  have happly : l.almApply g (rankCmd l.alm.place) (rowCmd g op tgt origin) =
      l.setAlm (fun a => { a with callQ := a.callQ ++ [(rankCmd l.alm.place, rowCmd g op tgt origin)] }) := by
    unfold Lane.almApply
    rw [if_neg (by simp [rowCmd]), if_neg (by simp [rowCmd, hpermits]), if_pos (show 0x20 ≤ (rowCmd g op tgt origin).op from hop)]
  rw [Lane.almNext, happly]
  rfl

section
variable {s : State} {i : LaneId} {op tgt : Nat} {o : BitVec 5}

/-- The row of a permitted command of the call engine runs the scan to its end; the call step finds this one command. -/
theorem State.almRow_of_callCommand (hcomputes : (s.lane i).computes = true) (hstage : (s.lane i).alm.stage < 2)
    (htaken : ((s.lane i).scanTo s.sh.gt 1).alm.taken < 32) (hnone : ((s.lane i).scanTo s.sh.gt 1).alm.callQ = [])
    (hpermits : ((s.lane i).scanTo s.sh.gt 1).almPermits op o.toNat = true) (hop : 0x20 ≤ op) (hvalid : almInvalid op tgt = false) :
    (∃ r, ((s.lane i).atCallStep s.sh.gt op tgt o.toNat).alm.callQ = [(r, rowCmd s.sh.gt op tgt o.toNat)]) ∧
      (s.almRow op tgt o.toNat).lane i = (((s.lane i).atCallStep s.sh.gt op tgt o.toNat).scanStage s.sh.gt 8).atStage 9 := by
  have hone : ((s.lane i).scanTo s.sh.gt 1).alm.stage = 1 := Lane.scanTo_stage (by decide) (by omega)
  have hrow : (s.almRow op tgt o.toNat).lane i =
      (((s.lane i).scanTo s.sh.gt 1).almNext s.sh.gt (rowCmd s.sh.gt op tgt o.toNat)).scanTo s.sh.gt 9 := by
    rw [State.almRow_lane hcomputes, Lane.almRow_of_callStep hstage hop, Lane.rowStatus_of_taken hvalid htaken]
    rfl
  rw [hrow, Lane.atCallStep, Lane.almNext_of_callCommand hop hpermits]
  generalize (s.lane i).scanTo s.sh.gt 1 = l at *
  have hq := Lane.scanTo_callQ (g := s.sh.gt) (l := l.setAlm fun a => { a with
    callQ := a.callQ ++ [(rankCmd l.alm.place, rowCmd s.sh.gt op tgt o.toNat)], place := l.alm.place + 1, taken := a.taken + 1 }) hone
  rw [Lane.setAlm_alm, hnone, List.nil_append] at hq
  exact ⟨⟨_, hq⟩, Lane.scanTo_succ (k := 8) (by decide) (show l.alm.stage < 8 by omega)⟩

end

/-! ### What each command leaves at the end of the scan -/

@[simp] theorem Lane.fld_issue (l : Lane) (op : Nat) (ps : List Nat) (k : Nat) (f : Fld) : (l.issue op ps).fld k f = l.fld k f := rfl

/-- The call step gives its command for each point that it names (R188). -/
theorem Lane.exists_issued (l : Lane) (op : Nat) {ps : List Nat} {p : Nat} (hp : p ∈ ps) :
    ∃ c, c ∈ (l.issue op ps).alm.callCmds ∧ c.op = op ∧ c.tgt = p :=
  ⟨_, List.mem_append_right _ (List.mem_map_of_mem hp), rfl, rfl⟩

section
variable {m t : Lane} {g r o : Nat} (ht : t = (m.scanStage g 8).atStage 9)
include ht

theorem Lane.lastStage_acceptCall (hq : m.alm.callQ = [(r, rowCmd g 0x20 0 o)]) (hcalling : m.fld ALM_CALLST ALM_CALLST_CSTATE = csCalling)
    (hdemand : m.demand ≠ []) (hemerg : m.emerg = false) (hcalled : o < 16 → bitOf m.calledNow o = true) :
    m.regsBut callRegs t ∧ t.fld ALM_CALLST ALM_CALLST_CSTATE = csAccepted ∧
      t.fld ALM_CALLST ALM_CALLST_ASTG = m.fld ALM_CALLST ALM_CALLST_STAGE ∧
      t.fld ALM_CALLST ALM_CALLST_CCNT = 0 ∧
      ∀ p, p ∈ m.demand → ∃ c, c ∈ t.alm.callCmds ∧ c.op = 0x05 ∧ c.tgt = p := by
  have hstage : m.fld ALM_CALLST ALM_CALLST_STAGE < 4 := m.fld_lt _ _
  have hcstateOpen := (m.callOpen_callst g (f := ALM_CALLST_CSTATE) (by decide) (by decide)).trans hcalling
  have hstageOpen := m.callOpen_callst g (f := ALM_CALLST_STAGE) (by decide) (by decide)
  have hdemandOpen : (m.callOpen g).demand = m.demand := (m.callOpen_regsBut g).demand (by decide)
  have hnotRefused : (m.callOpen g).acceptRefused m.emerg o = false := by
    rw [Lane.acceptRefused, hcstateOpen, hemerg, Lane.callOpen_calledNow]
    by_cases ho : o < 16
    · simp [hcalled ho]
    · simp [ho]
  obtain ⟨hframe, hcallst, -, hcmds⟩ := Lane.lastStage_of_one hq ht (Lane.callCmd_acceptCall _ g r o _ hnotRefused) (.refl _ _)
  have htable := Lane.callTable_of_accept g o hcstateOpen (by rw [hdemandOpen]; exact hdemand)
  rw [hstageOpen, hdemandOpen] at htable
  rw [htable] at hcallst hcmds
  simp only [Lane.fld_issue] at hcallst
  have hastg {f : Fld} (hf : fldsApart f ALM_CALLST_ASTG) := (hcallst f).trans (Lane.fld_setF_field _ _ _ _ _ hf)
  refine ⟨hframe, ?_, ?_, ?_, fun p hp => ?_⟩
  · rw [hastg (by decide), Lane.fld_of_rd (Lane.callGo_rd ..), Fld.get_put_same _ _ _ (by decide)]
    rfl
  · exact (hcallst _).trans ((Lane.fld_setF_same _ _ _ _ (by decide)).trans (Nat.mod_eq_of_lt hstage))
  · rw [hastg (by decide), Lane.fld_of_rd (Lane.callGo_rd ..), Fld.get_put_apart (by decide), Fld.get_put_apart (by decide),
      Fld.get_put_same _ _ _ (by decide), Nat.zero_mod]
  · rw [hcmds]
    exact Lane.exists_issued _ _ hp

theorem Lane.lastStage_duty {n : Nat} (hq : m.alm.callQ = [(r, rowCmd g 0x21 n o)]) (hn : n < 16) (hfitted : m.fitted n = true)
    (helig : m.on (ALM_WS n) ALM_WS_ELIG = true) (hidle : m.fld ALM_CALLST ALM_CALLST_CSTATE = csIdle) :
    m.regsBut callRegs t ∧ t.fld ALM_CALLST ALM_CALLST_DUTY = n := by
  have hws (f : Fld) : (m.callOpen g).on (ALM_WS n) f = m.on (ALM_WS n) f := by
    refine (m.callOpen_regsBut g).on ?_ ?_ f <;>
      simp [ALM_WS, ALM_CALLST, ALM_CALLED, ALM_DMST, ALM_SCANCNT] <;> omega
  have hidleOpen := (m.callOpen_callst g (f := ALM_CALLST_CSTATE) (by decide) (by decide)).trans hidle
  obtain ⟨y, hcmd, hregs⟩ := (m.callOpen g).callCmd_duty g r o m.emerg ((hws _).trans hfitted) ((hws _).trans helig) hidleOpen
  have hy : (m.callOpen g).regsBut callRegs y := ((Lane.regsBut.refl _ _).setF (by decide) (by simp) _ _).of_regs_eq hregs
  obtain ⟨hframe, hcallst, -, -⟩ := Lane.lastStage_of_one hq ht hcmd hy
  refine ⟨hframe, ?_⟩
  rw [hcallst, (Lane.callMoved.callTable y g none).callst _ (by decide), Lane.fld_of_regs_eq hregs, Lane.fld_setF_same _ _ _ _ (by decide)]
  exact Nat.mod_eq_of_lt hn

/-- A command that moves the safety timer and begins its count again. -/
theorem Lane.lastStage_safety {c : AlmCmd} {dst cause : Nat} (hq : m.alm.callQ = [(r, c)])
    (hcmd : (m.callOpen g).callCmd g m.emerg r c none = ((m.callOpen g).dmGo g dst 0 o cause, none)) (hdst : dst < 4) :
    m.regsBut callRegs t ∧ t.fld ALM_DMST ALM_DMST_DMST = dst ∧ t.fld ALM_DMST ALM_DMST_DMCNT = 0 := by
  obtain ⟨hframe, -, hdmst, -⟩ := Lane.lastStage_of_one hq ht hcmd (Lane.dmGo_regsBut _ _ _ _ _ _ (by simp))
  have hcnt := (m.callOpen g).dmGo_dmcnt g o dst cause
  exact ⟨hframe, (hdmst hcnt _).trans (Lane.dmGo_dmst _ _ _ _ _ _ hdst), (hdmst hcnt _).trans hcnt⟩

end

/-- Settles O17: shelving and first-out commands in step 1; a command of the call engine in the call step that its row runs. -/
theorem shelvingAndCallCommands : Obligations.ShelvingAndCallCommands := by
  refine ⟨fun p o s i hcomputes hstage htaken hpermits hfree hprio hcond hroom => ?shelve,
    fun p o s i hcomputes hstage htaken hpermits hshelved => ?unshelve,
    fun n o s i hcomputes hstage htaken hn hpermits hen hdisarmed => ?foReset,
    fun o s i hcomputes hstage htaken hnone hpermits hcalling hdemand hemerg hcalled => ?acceptCall,
    fun n o s i hcomputes hstage htaken hnone hpermits hn hfitted helig hidle => ?duty,
    fun o s i hcomputes hstage htaken hnone hpermits hoff hen => ?dmStart,
    fun o s i hcomputes hstage htaken hnone hpermits hon => ?dmReset, fun o s i hcomputes hstage htaken hnone hpermits hon => ?dmStop⟩
  case shelve =>
    exact ⟨_, rfl, s.both_sharedKept _, State.shelve_row hcomputes hstage htaken hpermits hfree hprio hcond hroom⟩
  case unshelve =>
    exact ⟨_, rfl, s.both_sharedKept _, State.unshelve_row hcomputes hstage htaken hpermits hshelved⟩
  case foReset =>
    exact ⟨_, rfl, s.both_sharedKept _, State.foReset_row hcomputes hstage htaken hn hpermits hen hdisarmed⟩
  case acceptCall =>
    obtain ⟨⟨r, hq⟩, hrow⟩ := State.almRow_of_callCommand hcomputes hstage htaken hnone hpermits (by decide) (tgt := 0) (by decide)
    exact ⟨_, rfl, s.both_sharedKept _, Lane.lastStage_acceptCall hrow hq hcalling hdemand hemerg hcalled⟩
  case duty =>
    obtain ⟨⟨r, hq⟩, hrow⟩ := State.almRow_of_callCommand hcomputes hstage htaken hnone hpermits (by decide)
      (decide_eq_false (by omega) : almInvalid 0x21 n.toNat = false)
    exact ⟨_, rfl, s.both_sharedKept _, Lane.lastStage_duty hrow hq hn hfitted helig hidle⟩
  case dmStart =>
    obtain ⟨⟨r, hq⟩, hrow⟩ := State.almRow_of_callCommand hcomputes hstage htaken hnone hpermits (by decide) (tgt := 0) (by decide)
    have hopen := Lane.callOpen_regsBut ((s.lane i).atCallStep s.sh.gt 0x22 0 o.toNat) s.sh.gt
    have hcmd := Lane.callCmd_dmStart _ s.sh.gt r o.toNat ((s.lane i).atCallStep s.sh.gt 0x22 0 o.toNat).emerg
      ((Lane.callOpen_dmst _ _).trans hoff) ((hopen.on (by decide) (by decide) _).trans hen)
    exact ⟨_, rfl, s.both_sharedKept _, Lane.lastStage_safety hrow hq hcmd (by decide)⟩
  case dmReset =>
    obtain ⟨⟨r, hq⟩, hrow⟩ := State.almRow_of_callCommand hcomputes hstage htaken hnone hpermits (by decide) (tgt := 0) (by decide)
    have hcmd := Lane.callCmd_dmReset _ s.sh.gt r o.toNat ((s.lane i).atCallStep s.sh.gt 0x23 0 o.toNat).emerg
      ((Lane.callOpen_dmst _ s.sh.gt).trans_ne hon)
    exact ⟨_, rfl, s.both_sharedKept _, Lane.lastStage_safety hrow hq hcmd (by decide)⟩
  case dmStop =>
    obtain ⟨⟨r, hq⟩, hrow⟩ := State.almRow_of_callCommand hcomputes hstage htaken hnone hpermits (by decide) (tgt := 0) (by decide)
    have hcmd := Lane.callCmd_dmStop _ s.sh.gt r o.toNat ((s.lane i).atCallStep s.sh.gt 0x24 0 o.toNat).emerg
      ((Lane.callOpen_dmst _ s.sh.gt).trans_ne hon)
    obtain ⟨hframe, hdmst, -⟩ := Lane.lastStage_safety hrow hq hcmd (by decide)
    exact ⟨_, rfl, s.both_sharedKept _, hframe, hdmst⟩

end Sys2Proof.Machine
end

section
/-! Frames on the ports of the call ring (R182, R191, R198, R199): the shared part after an update of the ports' working state, good and bad
frames, and what the node holds once it has heard a frame, before it acts on it. -/

namespace Sys2Proof.Machine

/-! ### The shared part after an update of the ring ports -/

section
variable (h : Shared) (f : RingHw → RingHw)

@[simp] theorem Shared.setRing_ring : (h.setRing f).ring = f h.ring := rfl
@[simp] theorem Shared.on_setRing (k : Nat) (x : Fld) : (h.setRing f).on k x = h.on k x := rfl
@[simp] theorem Shared.fld_setRing (k : Nat) (x : Fld) : (h.setRing f).fld k x = h.fld k x := rfl
@[simp] theorem Shared.raddr_setRing : (h.setRing f).raddr = h.raddr := rfl
@[simp] theorem Shared.neighbour_setRing (p : Port) : (h.setRing f).neighbour p = h.neighbour p := by cases p <;> rfl
@[simp] theorem Shared.tokenDst_setRing (p : Port) : (h.setRing f).tokenDst p = h.tokenDst p := by
  unfold Shared.tokenDst
  rw [Shared.on_setRing, Shared.neighbour_setRing]

end

section
variable {h g : Shared} {ks : List Nat}

theorem Shared.regsBut.setRing (hg : h.regsBut ks g) (f : RingHw → RingHw) : h.regsBut ks (g.setRing f) := hg

theorem Shared.regsBut.fld (hg : h.regsBut ks g) {k : Nat} (hk : k < 2 ^ 20) (hks : k ∉ ks) (f : Fld) : g.fld k f = h.fld k f :=
  congrArg f.get (hg k hk hks)

theorem Shared.regsBut.raddr (hg : h.regsBut ks g) (hks : RING_CFG ∉ ks) : g.raddr = h.raddr := hg.fld (by decide) hks _

theorem Shared.raddr_lt (h : Shared) : h.raddr < 32 := Nat.mod_lt _ (by decide)

/-- The port of a frame that goes on depends on the opposite port alone. -/
theorem Shared.ringOut_congr {p : Port} (hlost : g.on RING_STAT (lostFld p.other) = h.on RING_STAT (lostFld p.other)) :
    g.ringOut p = h.ringOut p := by
  unfold Shared.ringOut
  rw [hlost]

theorem lostFld_bit (p : Port) : (lostFld p).lo + (lostFld p).width ≤ 32 ∧ (lostFld p).width = 1 := by cases p <;> decide

theorem wrapFld_bit (p : Port) : (wrapFld p).lo + (wrapFld p).width ≤ 32 ∧ (wrapFld p).width = 1 := by cases p <;> decide

end

/-! ### Good and bad frames (R198, R199) -/

section
variable {dst src type : Nat} (data : List Byte)

theorem RingFrame.of_hdr_toNat (hdst : dst < 64) (hsrc : src < 32) (htype : type < 32) :
    (RingFrame.of dst src type data).hdr.toNat = dst * 1024 + src * 32 + type :=
  (BitVec.toNat_ofNat ..).trans (Nat.mod_eq_of_lt (by omega))

theorem RingFrame.of_dst (hdst : dst < 64) (hsrc : src < 32) (htype : type < 32) : (RingFrame.of dst src type data).dst = dst := by
  rw [RingFrame.dst, RingFrame.of_hdr_toNat data hdst hsrc htype]
  omega

theorem RingFrame.of_src (hdst : dst < 64) (hsrc : src < 32) (htype : type < 32) : (RingFrame.of dst src type data).src = src := by
  rw [RingFrame.src, RingFrame.of_hdr_toNat data hdst hsrc htype]
  omega

theorem RingFrame.of_type (hdst : dst < 64) (hsrc : src < 32) (htype : type < 32) : (RingFrame.of dst src type data).type = type := by
  rw [RingFrame.type, RingFrame.of_hdr_toNat data hdst hsrc htype]
  omega

/-- A frame with the CRC that fits it, a DST of the format and a LEN that its TYPE allows is not discarded. -/
theorem RingFrame.of_good {data : List Byte} {n : Nat} (hdst : dst < 32 ∨ dst = 63) (hsrc : src < 32) (htype : type < 32)
    (hn : ringLen type = some n) (hlen : n ≤ data.length) (hmax : data.length ≤ 16) : (RingFrame.of dst src type data).bad = none := by
  have hd := RingFrame.of_dst (dst := dst) data (by omega) hsrc htype
  have ht := RingFrame.of_type (dst := dst) data (by omega) hsrc htype
  have hl : (RingFrame.of dst src type data).len.toNat = data.length := (BitVec.toNat_ofNat ..).trans (Nat.mod_eq_of_lt (by omega))
  unfold RingFrame.bad
  rw [if_neg (by simp [RingFrame.of]), hd, ht, hl, hn, if_neg]
  simp only [Bool.or_eq_true, Bool.and_eq_true, decide_eq_true_eq, bne_iff_ne]
  omega

end

theorem RingFrame.bad_of_code {f : RingFrame} (h : f.viol = true ∨ f.crc ≠ ringCrc f.hdr f.len f.data) : f.bad = some RING_ERR_CRC := by
  unfold RingFrame.bad
  rw [if_pos (by simpa using h)]

theorem RingFrame.bad_of_format {f : RingFrame} (hviol : f.viol = false) (hcrc : f.crc = ringCrc f.hdr f.len f.data)
    (h : 16 < f.len.toNat ∨ (32 ≤ f.dst ∧ f.dst ≠ 63) ∨ f.len.toNat < (ringLen f.type).getD 256) : f.bad = some RING_ERR_FMT := by
  unfold RingFrame.bad
  rw [if_neg (by simp [hviol, hcrc]), if_pos]
  cases hlen : ringLen f.type <;> simp_all [or_assoc]

/-! ### A frame arrives (R182, R191, R202) -/

theorem State.ringDis_withSh {s : State} {h : Shared} (hdis : h.ring.disAt = s.sh.ring.disAt) : (s.withSh h).ringDis = s.ringDis :=
  congrArg Option.isSome hdis

theorem State.ringLive_of_serves {s : State} (h : s.ringServes = true) : s.ringLive = true := by
  simp only [State.ringServes, State.ringOn, Bool.and_eq_true] at h
  simp [State.ringLive, h]

theorem State.ringDis_of_serves {s : State} (h : s.ringServes = true) : s.ringDis = false := by
  simp only [State.ringServes, State.ringOn, Bool.and_eq_true, Bool.not_eq_true'] at h
  exact h.1.2

/-- The node takes the frame out of the ring: it is the token, or a frame of its own that has come back. -/
def Shared.takesOut (h : Shared) (f : RingFrame) : Bool := f.type == 0x01 || (f.src == h.raddr && f.type != 0x10 && f.type != 0x11)

theorem Shared.takesOut_of (h : Shared) {dst src type : Nat} (data : List Byte) (hdst : dst < 64) (hsrc : src < 32) (htype : type < 32) :
    h.takesOut (.of dst src type data) = (type == 0x01 || (src == h.raddr && type != 0x10 && type != 0x11)) := by
  rw [Shared.takesOut, RingFrame.of_type data hdst hsrc htype, RingFrame.of_src data hdst hsrc htype]

/-- A good frame heard on port `p` at instant `w`: unless the node takes it out (`out`) it goes on by port `q`. -/
def RingHw.hear (r : RingHw) (out : Bool) (q p : Port) (f : RingFrame) (w : Nat) : RingHw :=
  let r := if out then r else { r with rep := some (q, f) }
  if f.type = 0x04 then r.at_ p w else r.heard p w

/-- The shared part after a good frame has been heard on a port, before the node acts on it. -/
def Shared.received (h : Shared) (p : Port) (f : RingFrame) (w : Nat) : Shared :=
  h.setRing (fun r => r.hear (h.takesOut f) (h.ringOut p) p f w)

theorem State.ringIn_of_good {s : State} {p : Port} {f : RingFrame} (hlive : s.ringLive = true) (hgood : f.bad = none) (w : Nat)
    (act : State → State) : s.ringIn p f w act = act (s.withSh (s.sh.received p f w)) := by
  unfold State.ringIn
  simp only [hlive, hgood, Option.isNone_none, Bool.true_and, Bool.not_true, Bool.false_eq_true, if_false]
  unfold Shared.received RingHw.hear
  cases h : s.sh.takesOut f <;> unfold Shared.takesOut at h <;> simp only [h] <;> rfl

/-- The shared part after a frame that is discarded: it is repeated all the same, and a row of PROBE frames ends. -/
def Shared.discarded (h : Shared) (p : Port) (f : RingFrame) : Shared :=
  (h.setRing (fun r => { r with rep := some (h.ringOut p, f) })).setRing
    (fun r => r.setProbes p (if r.probes p < 3 then 0 else r.probes p))

theorem Shared.discarded_ring (h : Shared) (p : Port) (f : RingFrame) : (h.discarded p f).ring.rep = some (h.ringOut p, f) ∧
    (h.discarded p f).ring.probes p = if h.ring.probes p < 3 then 0 else h.ring.probes p := by
  cases p <;> exact ⟨rfl, rfl⟩

theorem State.ringIn_of_bad {s : State} {p : Port} {f : RingFrame} {c : Fld} (hserves : s.ringServes = true) (hbad : f.bad = some c) (w : Nat)
    (act : State → State) : s.ringIn p f w act = s.withSh ((s.sh.discarded p f).bump RING_ERR c) := by
  unfold State.ringIn
  simp [State.ringLive_of_serves hserves, hbad, hserves, Shared.discarded]

section
variable (r : RingHw) (out : Bool) (q p : Port) (f : RingFrame) (w : Nat)

/-- Hearing a frame moves the instants of the newest frames, the PROBE frames in a row and the newest frame repeated, nothing else. -/
theorem RingHw.hear_eq : r.hear out q p f w = { r with
    lastA := (r.hear out q p f w).lastA, lastB := (r.hear out q p f w).lastB, probesA := (r.hear out q p f w).probesA,
    probesB := (r.hear out q p f w).probesB, rep := (r.hear out q p f w).rep } := by
  unfold RingHw.hear
  dsimp only
  split <;> split <;> cases p <;> rfl

theorem RingHw.hear_rep : (r.hear out q p f w).rep = if out then r.rep else some (q, f) := by
  unfold RingHw.hear
  dsimp only
  by_cases hf : f.type = 0x04
  · rw [if_pos hf]
    cases out <;> cases p <;> rfl
  · rw [if_neg hf]
    cases out <;> cases p <;> rfl

theorem RingHw.hear_of_repeated {f : RingFrame} (hf : f.type ≠ 0x04) : r.hear false q p f w = { r.heard p w with rep := some (q, f) } := by
  unfold RingHw.hear
  rw [if_neg hf]
  cases p <;> rfl

/-- A PROBE frame leaves the row of PROBE frames to the one who counts it. -/
theorem RingHw.hear_of_probe {f : RingFrame} (hf : f.type = 0x04) : r.hear out q p f w = { r.at_ p w with rep := (r.hear out q p f w).rep } := by
  unfold RingHw.hear
  dsimp only
  rw [if_pos hf]
  cases out <;> cases p <;> rfl

theorem RingHw.hear_probes_of_probe {f : RingFrame} (hf : f.type = 0x04) (k : Port) : (r.hear out q p f w).probes k = r.probes k := by
  rw [RingHw.hear_of_probe _ _ _ _ _ hf]
  cases p <;> cases k <;> rfl

theorem RingHw.heard_probes (k : Port) : (r.heard p w).probes k = if p = k then (if r.probes k < 3 then 0 else r.probes k) else r.probes k := by
  cases p <;> cases k <;> rfl

/-- A row of PROBE frames that has reached its third stays. -/
theorem RingHw.hear_probes_of_third {k : Port} (hk : 3 ≤ r.probes k) : (r.hear out q p f w).probes k = r.probes k := by
  have hheard (x : RingHw) (hx : 3 ≤ x.probes k) : (x.heard p w).probes k = x.probes k := by
    rw [RingHw.heard_probes]
    split
    · exact if_neg (by omega)
    · rfl
  by_cases hf : f.type = 0x04
  · exact r.hear_probes_of_probe out q p w hf k
  · unfold RingHw.hear
    dsimp only
    rw [if_neg hf]
    cases out with
    | true => exact hheard r hk
    | false => exact (hheard { r with rep := some (q, f) } (by cases k <;> exact hk)).trans (by cases k <;> rfl)

@[simp] theorem RingHw.hear_disAt : (r.hear out q p f w).disAt = r.disAt := by rw [RingHw.hear_eq]
@[simp] theorem RingHw.hear_sent : (r.hear out q p f w).sent = r.sent := by rw [RingHw.hear_eq]
@[simp] theorem RingHw.hear_lastTx : (r.hear out q p f w).lastTx = r.lastTx := by rw [RingHw.hear_eq]
@[simp] theorem RingHw.hear_visitAt : (r.hear out q p f w).visitAt = r.visitAt := by rw [RingHw.hear_eq]
@[simp] theorem RingHw.hear_opens : (r.hear out q p f w).opens = r.opens := by rw [RingHw.hear_eq]
@[simp] theorem RingHw.hear_owed : (r.hear out q p f w).owed = r.owed := by rw [RingHw.hear_eq]
@[simp] theorem RingHw.hear_next (v : Nat) : (r.hear out q p f w).next v = r.next v := by
  rw [RingHw.hear_eq]
  rfl
@[simp] theorem RingHw.hear_closed (k : Port) : (r.hear out q p f w).closed k = r.closed k := by
  rw [RingHw.hear_eq]
  cases k <;> rfl

end

section
variable (h : Shared) (p : Port) (f : RingFrame) (w : Nat)

@[simp] theorem Shared.received_ring : (h.received p f w).ring = h.ring.hear (h.takesOut f) (h.ringOut p) p f w := rfl
@[simp] theorem Shared.received_gt : (h.received p f w).gt = h.gt := rfl
@[simp] theorem Shared.received_hold : (h.received p f w).hold = h.hold := rfl
@[simp] theorem Shared.fld_received (k : Nat) (x : Fld) : (h.received p f w).fld k x = h.fld k x := rfl
@[simp] theorem Shared.on_received (k : Nat) (x : Fld) : (h.received p f w).on k x = h.on k x := rfl
theorem Shared.received_regsBut (ks : List Nat) : h.regsBut ks (h.received p f w) := Shared.regsBut_of_regs_eq ks rfl
@[simp] theorem Shared.received_raddr : (h.received p f w).raddr = h.raddr := rfl
@[simp] theorem Shared.received_ringOut (q : Port) : (h.received p f w).ringOut q = h.ringOut q := rfl
@[simp] theorem Shared.received_neighbour (q : Port) : (h.received p f w).neighbour q = h.neighbour q := h.neighbour_setRing _ q

variable (s : State)

@[simp] theorem State.ringDis_received : (s.withSh (s.sh.received p f w)).ringDis = s.ringDis := State.ringDis_withSh (by simp)
@[simp] theorem State.lead_received : (s.withSh (s.sh.received p f w)).lead = s.lead := rfl
@[simp] theorem State.ringServes_received : (s.withSh (s.sh.received p f w)).ringServes = s.ringServes := by
  unfold State.ringServes State.ringOn
  rw [State.ringDis_received]
  rfl

end

end Sys2Proof.Machine
end

section
/-! Records of the call ring (R213) and its bypass (R210, R211). -/

namespace Sys2Proof.Machine

/-! ### Records of the ring (R213) -/

section
variable (s : State) (code w : Nat) (ev : Bool) (i : LaneId)

@[simp] theorem State.ringRec_regs : (s.ringRec code w ev).sh.regs = s.sh.regs := by
  unfold State.ringRec
  split <;> rfl

@[simp] theorem State.ringRec_ring : (s.ringRec code w ev).sh.ring = s.sh.ring := by
  unfold State.ringRec
  split <;> rfl

@[simp] theorem State.on_ringRec (k : Nat) (f : Fld) : (s.ringRec code w ev).sh.on k f = s.sh.on k f := by
  unfold Shared.on Shared.fld
  rw [State.ringRec_regs]

@[simp] theorem State.fld_ringRec (k : Nat) (f : Fld) : (s.ringRec code w ev).sh.fld k f = s.sh.fld k f := by
  unfold Shared.fld
  rw [State.ringRec_regs]

@[simp] theorem State.ringRec_lane_regs : ((s.ringRec code w ev).lane i).regs = (s.lane i).regs := by
  unfold State.ringRec
  split
  · rw [State.taking_lane]
    split
    · cases ev <;> rfl
    · rfl
  · rw [State.withSh_lane]

variable {s i}

/-- A lane that takes cuts has the record and, where one goes with it, the ring-fault event in its coming cut. -/
theorem State.ringRec_lane (htakes : (s.lane i).takes = true) : (s.ringRec code w ev).lane i =
    if ev then ((s.lane i).recCut code w 0#32 0#32 0#32 0#32).evCut evRingFault else (s.lane i).recCut code w 0#32 0#32 0#32 0#32 := by
  have hany : (s.a.takes || s.b.takes) = true := by cases i <;> simp_all
  unfold State.ringRec
  rw [if_pos hany, State.taking_lane, if_pos htakes]

end

/-! ### The bypass (R210, R211) -/

/-- The shared part as the bypass opens at instant `w`. -/
def Shared.bypassOpened (h : Shared) (w : Nat) : Shared :=
  (h.setB RING_STAT RING_STAT_BYPASS false).setRing (fun r => { r with tokAt := w, visitAt := w, lastA := w, lastB := w })

/-- The shared part as the bypass closes. -/
def Shared.bypassClosed (h : Shared) : Shared :=
  (((h.setB RING_STAT RING_STAT_BYPASS true).setB RING_STAT RING_STAT_HOLDER false).setB RING_STAT RING_STAT_CLAIMING false).setRing
    (fun r => { r with sent := none, owed := [] })

theorem Shared.bypassOpened_regsBut (h : Shared) (w : Nat) : h.regsBut [RING_STAT] (h.bypassOpened w) :=
  ((Shared.regsBut.refl _ h).setB (by decide) (by decide) _ _).setRing _

theorem Shared.bypassOpened_bypass (h : Shared) (w : Nat) : (h.bypassOpened w).on RING_STAT RING_STAT_BYPASS = false := by
  rw [Shared.bypassOpened, Shared.on_setRing, Shared.on_setB_same _ _ _ _ (by decide)]

theorem Shared.bypassClosed_regsBut (h : Shared) : h.regsBut [RING_STAT] h.bypassClosed :=
  ((((Shared.regsBut.refl _ h).setB (by decide) (by decide) _ _).setB (by decide) (by decide) _ _).setB (by decide) (by decide) _ _).setRing _

theorem Shared.bypassClosed_on (h : Shared) : h.bypassClosed.on RING_STAT RING_STAT_BYPASS = true ∧
    h.bypassClosed.on RING_STAT RING_STAT_HOLDER = false ∧ h.bypassClosed.on RING_STAT RING_STAT_CLAIMING = false := by
  simp (disch := decide) only [Shared.bypassClosed, Shared.on_setRing, Shared.on_setB_field, Shared.on_setB_same, and_self]

section
variable {s : State}

theorem State.bypassOpen_of_due {w : Nat} (hon : s.ringOn = true) (hclosed : s.sh.on RING_STAT RING_STAT_BYPASS = true)
    (hopens : ∀ x ∈ s.sh.ring.opens, x.2 + 1000000000 ≤ w) :
    s.bypassOpen w = (s.withSh (s.sh.bypassOpened w)).ringRec 0x0404 w false := by
  have hblocked : s.sh.ring.opens.any (fun x => w < x.2 + 1000000000) = false := by simpa using hopens
  unfold State.bypassOpen
  rw [if_pos (by simp [hon, Shared.ringOpen, hclosed, hblocked])]
  rfl

theorem State.bypassClose_of_open (w : Nat) (hopen : s.sh.on RING_STAT RING_STAT_BYPASS = false) :
    s.bypassClose w = (s.withSh s.sh.bypassClosed).ringRec 0x0404 w false := by
  unfold State.bypassClose
  rw [if_pos (by simp [Shared.ringOpen, hopen])]
  rfl

end

end Sys2Proof.Machine
end

section
/-! Token access on the call ring (R200, R202): what a visit of the token, the return of a frame and the end of its return time leave, and
the frames of stations (R182, R183). -/

namespace Sys2Proof.Machine

/-! ### The token is passed on (R202) -/

/-- The shared part as the node passes the token on out of port `p`. -/
def Shared.tokenPassed (h : Shared) (p : Port) (w : Nat) : Shared :=
  (h.setB RING_STAT RING_STAT_HOLDER false).setRing
    (fun r => { r with sent := none, lastTx := some ⟨.of (h.tokenDst p) h.raddr 0x01 [], p, w + ringNs 0⟩ })

section
variable (h : Shared) (p : Port) (w : Nat)

theorem Shared.regsBut.tokenPassed {h g : Shared} {ks : List Nat} (hg : h.regsBut ks g) (hks : RING_STAT ∈ ks) (p : Port) (w : Nat) :
    h.regsBut ks (g.tokenPassed p w) :=
  (hg.setB (by decide) hks _ _).setRing _

theorem Shared.tokenPassed_ring : (h.tokenPassed p w).ring =
    { h.ring with sent := none, lastTx := some ⟨.of (h.tokenDst p) h.raddr 0x01 [], p, w + ringNs 0⟩ } := rfl

/-- Passing the token on moves its holder in RING_STAT alone. -/
theorem Shared.fld_tokenPassed {k : Nat} (hk : k < 2 ^ 20) (hks : k ∉ [RING_STAT]) (f : Fld) : (h.tokenPassed p w).fld k f = h.fld k f :=
  ((Shared.regsBut.refl [RING_STAT] h).tokenPassed (by decide) p w).fld hk hks f

theorem Shared.tokenPassed_holder : (h.tokenPassed p w).on RING_STAT RING_STAT_HOLDER = false := by
  rw [Shared.tokenPassed, Shared.on_setRing, Shared.on_setB_same _ _ _ _ (by decide)]

theorem Shared.on_tokenPassed {f : Fld} (hf : fldsApart f RING_STAT_HOLDER) : (h.tokenPassed p w).on RING_STAT f = h.on RING_STAT f := by
  rw [Shared.tokenPassed, Shared.on_setRing, Shared.on_setB_field _ _ _ _ _ hf]

/-- The neighbours of the ports stand beside the mark of the holder. -/
@[simp] theorem Shared.neighbour_setHolder (v : Bool) (q : Port) : (h.setB RING_STAT RING_STAT_HOLDER v).neighbour q = h.neighbour q := by
  cases q <;> exact Shared.fld_setF_field _ _ _ _ _ (by decide)

@[simp] theorem Shared.tokenDst_setHolder (v : Bool) (q : Port) : (h.setB RING_STAT RING_STAT_HOLDER v).tokenDst q = h.tokenDst q := by
  unfold Shared.tokenDst
  rw [Shared.neighbour_setHolder, Shared.on_setB_field _ _ _ _ _ (by cases q <;> decide)]

@[simp] theorem Shared.raddr_setHolder (v : Bool) : (h.setB RING_STAT RING_STAT_HOLDER v).raddr = h.raddr :=
  ((Shared.regsBut.refl [RING_STAT] h).setB (by decide) (by decide) _ v).raddr (by decide)

theorem Shared.neighbour_tokenPassed (q : Port) : (h.tokenPassed p w).neighbour q = h.neighbour q := by
  rw [Shared.tokenPassed, Shared.neighbour_setRing, Shared.neighbour_setHolder]

theorem Shared.tokenDst_tokenPassed (q : Port) : (h.tokenPassed p w).tokenDst q = h.tokenDst q := by
  rw [Shared.tokenPassed, Shared.tokenDst_setRing, Shared.tokenDst_setHolder]

/-- The token as it stands on the ring after it has been passed on. -/
theorem Shared.tokenPassed_lastTx : (h.tokenPassed p w).ring.lastTx =
    some ⟨.of ((h.tokenPassed p w).tokenDst p) h.raddr 0x01 [], p, w + ringNs 0⟩ := by
  rw [Shared.tokenDst_tokenPassed]
  rfl

end

/-- While no disable waits for its token, passing it on is all that happens. -/
theorem State.passToken_of_enabled {s : State} (hdis : s.ringDis = false) (p : Port) (w : Nat) :
    s.passToken p w = s.withSh (s.sh.tokenPassed p w) := by
  unfold State.passToken Shared.ringSend
  simp only [Shared.tokenDst_setRing, Shared.tokenDst_setHolder, Shared.raddr_setRing, Shared.raddr_setHolder]
  exact if_neg (by rw [State.ringDis_withSh (by rfl), hdis]; decide)

/-! ### A visit of the token (R200, R202) -/

/-- The shared part as the token from `src` visits the node on a port: its neighbour there, the rotation time and the instant. -/
def Shared.visited (h : Shared) (p : Port) (src w : Nat) : Shared :=
  let g := h.setNeighbour p src
  ((g.setF RING_TOK RING_TOK_ROT (min 65535 ((w - g.ring.visitAt) / 1000))).setRing
    (fun r => { r with tokAt := w, visitAt := w })).setB RING_STAT RING_STAT_HOLDER true

/-- The shared part as the node sends a frame at a visit of the token and holds the token until the frame comes back. -/
def Shared.frameSent (h : Shared) (x : Nat × Nat × List Byte) (p : Port) (w : Nat) : Shared :=
  (h.ringSend x.1 x.2.1 x.2.2 p w).setRing (fun r => { r.took x.1 w with sent := r.lastTx })

section
variable (h : Shared) (p : Port) (src w : Nat)

theorem Shared.regsBut.setNeighbour {h g : Shared} {ks : List Nat} (hg : h.regsBut ks g) (hks : RING_STAT ∈ ks) (p : Port) (src : Nat) :
    h.regsBut ks (g.setNeighbour p src) := by
  cases p <;> exact (hg.setF (by decide) hks _ _).setB (by decide) hks _ _

theorem Shared.setNeighbour_ring : (h.setNeighbour p src).ring = h.ring := by cases p <;> rfl

theorem Shared.neighbour_setNeighbour (hsrc : src < 32) : (h.setNeighbour p src).neighbour p = src := by
  cases p <;> rw [Shared.setNeighbour, Shared.neighbour, Shared.setB, Shared.fld_setF_field _ _ _ _ _ (by decide),
    Shared.fld_setF_same _ _ _ _ (by decide)] <;> exact Nat.mod_eq_of_lt hsrc

theorem Shared.on_setNeighbour_lost (q : Port) : (h.setNeighbour p src).on RING_STAT (lostFld q) = h.on RING_STAT (lostFld q) := by
  have hapart (f : Fld) (hf : f ∈ [RING_STAT_UP_NBR, RING_STAT_UP_VALID, RING_STAT_DN_NBR, RING_STAT_DN_VALID]) :
      fldsApart (lostFld q) f := by
    revert f
    cases q <;> decide
  cases p <;> rw [Shared.setNeighbour, Shared.on_setB_field _ _ _ _ _ (hapart _ (by simp)), Shared.on, Shared.on,
    Shared.fld_setF_field _ _ _ _ _ (hapart _ (by simp))]

theorem Shared.visited_regsBut : h.regsBut [RING_STAT, RING_TOK] (h.visited p src w) :=
  ((((Shared.regsBut.refl _ h).setNeighbour (by decide) p src).setF (by decide) (by decide) _ _).setRing _).setB (by decide) (by decide) _ _

@[simp] theorem Shared.visited_raddr : (h.visited p src w).raddr = h.raddr := (h.visited_regsBut p src w).raddr (by decide)

theorem Shared.visited_ring : (h.visited p src w).ring = { h.ring with tokAt := w, visitAt := w } := by
  rw [Shared.visited, Shared.setB_ring, Shared.setRing_ring, Shared.setF_ring, Shared.setNeighbour_ring]

@[simp] theorem Shared.visited_next (v : Nat) : (h.visited p src w).ring.next v = h.ring.next v := by
  rw [Shared.visited_ring]
  rfl

theorem Shared.visited_holder : (h.visited p src w).on RING_STAT RING_STAT_HOLDER = true := by
  rw [Shared.visited, Shared.on_setB_same _ _ _ _ (by decide)]

@[simp] theorem Shared.visited_ringOut (q : Port) : (h.visited p src w).ringOut q = h.ringOut q := by
  apply Shared.ringOut_congr
  rw [Shared.visited, Shared.on_setB_field _ _ _ _ _ (by cases q <;> decide), Shared.on_setRing, Shared.on,
    Shared.fld_setF_ne _ _ _ _ _ _ (by decide)]
  exact h.on_setNeighbour_lost p src _

theorem Shared.visited_neighbour (hsrc : src < 32) : (h.visited p src w).neighbour p = src := by
  rw [Shared.visited, Shared.neighbour_setHolder, Shared.neighbour_setRing]
  refine Eq.trans ?_ (h.neighbour_setNeighbour p src hsrc)
  cases p <;> exact Shared.fld_setF_ne _ _ _ _ _ _ (by decide)

theorem Shared.visited_rot : (h.visited p src w).fld RING_TOK RING_TOK_ROT = min 65535 ((w - h.ring.visitAt) / 1000) := by
  rw [Shared.visited, Shared.setB, Shared.fld_setF_ne _ _ _ _ _ _ (by decide), Shared.fld_setRing, Shared.fld_setF_same _ _ _ _ (by decide),
    Shared.setNeighbour_ring]
  exact Nat.mod_eq_of_lt (by simp [RING_TOK_ROT])

end

/-- A visit ends in the token passed on or in a frame sent, by what waits. -/
theorem State.token_eq (s : State) (p : Port) (src w : Nat) : s.token p src w =
    (if s.sh.hold || s.ringDis then none else s.sh.ring.next w).elim
      ((s.withSh (s.sh.visited p src w)).passToken ((s.sh.visited p src w).ringOut p) w)
      (fun x => s.withSh ((s.sh.visited p src w).frameSent x ((s.sh.visited p src w).ringOut p) w)) := by
  unfold State.token
  by_cases hsilent : (s.sh.hold || s.ringDis) = true
  · simp only [if_pos hsilent]
    rfl
  · simp only [if_neg hsilent]
    split
    case h_1 hnone =>
      rw [(s.sh.visited_next p src w w).symm.trans hnone]
      rfl
    case h_2 hsome =>
      rw [(s.sh.visited_next p src w w).symm.trans hsome]
      rfl

section
variable {s : State} {w : Nat} (hdis : s.ringDis = false) (p : Port) (src : Nat)
include hdis

theorem State.token_of_none (hnone : s.sh.hold = true ∨ s.sh.ring.next w = none) :
    s.token p src w = s.withSh ((s.sh.visited p src w).tokenPassed (s.sh.ringOut p) w) := by
  have hsilent : (if s.sh.hold || s.ringDis then none else s.sh.ring.next w) = none := by rcases hnone with h | h <;> simp [h]
  have hpass : (s.withSh (s.sh.visited p src w)).ringDis = false := (State.ringDis_withSh (by rw [Shared.visited_ring])).trans hdis
  rw [State.token_eq, hsilent, Option.elim_none, State.passToken_of_enabled hpass, Shared.visited_ringOut]
  rfl

theorem State.token_of_some {x : Nat × Nat × List Byte} (hhold : s.sh.hold = false) (hnext : s.sh.ring.next w = some x) :
    s.token p src w = s.withSh ((s.sh.visited p src w).frameSent x (s.sh.ringOut p) w) := by
  rw [State.token_eq, hhold, hdis, hnext, Shared.visited_ringOut]
  rfl

end

section
variable (h : Shared) (x : Nat × Nat × List Byte) (p : Port) (w : Nat)

theorem Shared.frameSent_regsBut (ks : List Nat) : h.regsBut ks (h.frameSent x p w) := Shared.regsBut_of_regs_eq ks rfl

theorem Shared.frameSent_sent : (h.frameSent x p w).ring.sent = some ⟨.of x.2.1 h.raddr x.1 x.2.2, p, w + ringNs x.2.2.length⟩ := rfl

theorem RingHw.took_eq (r : RingHw) (type : Nat) : r.took type w = { r with
    callDue := (r.took type w).callDue, callSent := (r.took type w).callSent, callAt := (r.took type w).callAt,
    callSeq := (r.took type w).callSeq, resp := (r.took type w).resp } := by
  unfold RingHw.took
  split <;> rfl

theorem Shared.frameSent_lastTx : (h.frameSent x p w).ring.lastTx = (h.frameSent x p w).ring.sent := by
  rw [Shared.frameSent, Shared.setRing_ring, RingHw.took_eq]

theorem Shared.frameSent_tokAt : (h.frameSent x p w).ring.tokAt = h.ring.tokAt := by
  rw [Shared.frameSent, Shared.setRing_ring, RingHw.took_eq]
  rfl

end

/-! ### The rows of the token and of frames that return (R182, R202) -/

section
variable {s : State} {p : Port} {dst : BitVec 6} {src : BitVec 5} {data : List Byte} {u type n : Nat}

/-- A frame of the format arrives at a node in the ring. -/
theorem State.ringIn_of (hlive : s.ringLive = true) (hdst : dst.toNat < 32 ∨ dst.toNat = 63) (htype : type < 32)
    (hn : ringLen type = some n) (hlen : n ≤ data.length) (hmax : data.length ≤ 16) (act : State → State) :
    s.ringIn p (.of dst.toNat src.toNat type data) (s.sh.gt + u) act =
      act (s.withSh (s.sh.received p (.of dst.toNat src.toNat type data) (s.sh.gt + u))) :=
  State.ringIn_of_good hlive (RingFrame.of_good hdst src.isLt htype hn hlen hmax) _ act

theorem exec_ringToken_of_live (hlive : s.ringLive = true) (hdst : dst.toNat < 32 ∨ dst.toNat = 63) : exec (.ringToken p dst src u) s =
    .next ((s.withSh (s.sh.received p (.of dst.toNat src.toNat 0x01 []) (s.sh.gt + u))).token p src.toNat (s.sh.gt + u)) :=
  congrArg Host.Outcome.next ((if_pos hlive).trans (State.ringIn_of hlive hdst (by decide) (n := 0) rfl (by simp) (by simp) _))

/-- A token seen on RGA with the bypass closed. -/
theorem exec_ringToken_of_bypassed (hbypass : s.sh.on RING_STAT RING_STAT_BYPASS = true) (hdst : dst.toNat < 32 ∨ dst.toNat = 63) :
    exec (.ringToken .A dst src u) s = .next (s.bypassOpen (s.sh.gt + u)) := by
  have hlive : ¬ s.ringLive = true := by simp [State.ringLive, Shared.ringOpen, hbypass]
  have hgood : (RingFrame.of dst.toNat src.toNat 0x01 []).bad = none :=
    RingFrame.of_good hdst src.isLt (by decide) (n := 0) rfl (by simp) (by simp)
  exact congrArg Host.Outcome.next ((if_neg hlive).trans (if_pos (by simp [hgood])))

theorem ringBack_type {c : Instr} (hc : (c, type) ∈ [(Instr.ringCall p dst src data u, 0x08), (.cmdResp p dst src data u, 0x12)]) :
    type = 0x08 ∨ type = 0x12 := by
  simp only [List.mem_cons, Prod.mk.injEq, List.not_mem_nil, or_false] at hc
  exact hc.imp And.right And.right

/-- CALL and CMD_RESP: a frame of the node's own ends its way, another one goes on. -/
theorem exec_ringBack {c : Instr} (hc : (c, type) ∈ [(Instr.ringCall p dst src data u, 0x08), (.cmdResp p dst src data u, 0x12)])
    (hlive : s.ringLive = true) (hdst : dst.toNat < 32 ∨ dst.toNat = 63) (hlen : (if type = 0x08 then 8 else 5) ≤ data.length)
    (hmax : data.length ≤ 16) : exec c s = .next (State.ringBack type src.toNat (s.sh.gt + u)
      (s.withSh (s.sh.received p (.of dst.toNat src.toNat type data) (s.sh.gt + u)))) := by
  simp only [List.mem_cons, Prod.mk.injEq, List.not_mem_nil, or_false] at hc
  rcases hc with ⟨rfl, rfl⟩ | ⟨rfl, rfl⟩
  · exact congrArg Host.Outcome.next (State.ringIn_of hlive hdst (by decide) (n := 8) rfl hlen hmax _)
  · exact congrArg Host.Outcome.next (State.ringIn_of hlive hdst (by decide) (n := 5) rfl hlen hmax _)

end

/-- The frame that the node waits for has come back: the token goes on by the port of that frame. -/
theorem State.ringBack_of_own {s : State} {type src : Nat} {f : RingTx} (w : Nat) (hsrc : src = s.sh.raddr) (hsent : s.sh.ring.sent = some f)
    (htype : f.frame.type = type) (hdis : s.ringDis = false) : State.ringBack type src w s = s.withSh (s.sh.tokenPassed f.port w) := by
  rw [State.ringBack, if_pos hsrc, State.returned, hsent]
  dsimp only
  rw [if_pos htype, State.passToken_of_enabled hdis]

/-- The frame that the node waits for has not come back in time: it counts as lost and the token goes on. -/
theorem exec_frameReturnTimeout_of_late {s : State} {u : Nat} {f : RingTx} (hsent : s.sh.ring.sent = some f)
    (hlate : f.at_ + 250000 ≤ s.sh.gt + u) (hdis : s.ringDis = false) : exec (.frameReturnTimeout u) s =
    .next (s.withSh ((s.sh.bump RING_TOK RING_TOK_RETFAIL).tokenPassed f.port (s.sh.gt + u))) := by
  have hpass : (s.withSh (s.sh.bump RING_TOK RING_TOK_RETFAIL)).ringDis = false := (State.ringDis_withSh (by rw [Shared.bump_ring])).trans hdis
  unfold exec execFrameReturnTimeout
  simp only [hsent, if_pos hlate, State.passToken_of_enabled hpass]
  rfl

theorem State.ringBack_of_other {s : State} {src : Nat} (type w : Nat) (hsrc : src ≠ s.sh.raddr) : State.ringBack type src w s = s :=
  if_neg hsrc

/-! ### Station frames (R182, R183, R191) -/

/-- The lane with a frame of a station in its coming cut. -/
def Lane.ringHeard (x : RingRx) (l : Lane) : Lane := { l with cut := { l.cut with ring := l.cut.ring ++ [x] } }

section
variable {s : State} {src : Nat} (type : Nat) (data : List Byte)

theorem State.station_of_known {k w : Nat} (hserves : s.ringServes = true) (hknown : s.lead.stationOf src = some k) (hw : s.sh.gt < w) :
    s.station type src data w = s.taking (Lane.ringHeard ⟨type, src, data, w⟩) := by
  unfold State.station
  simp only [hserves, hknown, Nat.not_le.mpr hw]
  rfl

theorem State.station_of_unknown (w : Nat) (hserves : s.ringServes = true) (hknown : s.lead.stationOf src = none) :
    s.station type src data w = s.withSh (s.sh.bump RING_ERR RING_ERR_UNKNOWN) := by
  unfold State.station
  simp only [hserves, hknown]
  rfl

end

section
variable {s : State} {p : Port} {src : BitVec 5} {dst : BitVec 6} {u : Nat}

theorem exec_stnCmd_of_addressed {op seq : Byte} {tgt : BitVec 16} (hserves : s.ringServes = true) (hdst : dst.toNat = s.sh.raddr) :
    exec (.stnCmd p src dst op tgt seq u) s = .next ((s.withSh (s.sh.received p
      (.of dst.toNat src.toNat 0x10 ([op] ++ leBytes 2 tgt.toNat ++ [seq])) (s.sh.gt + u))).station 0x10 src.toNat
        ([op] ++ leBytes 2 tgt.toNat ++ [seq]) (s.sh.gt + u)) :=
  congrArg Host.Outcome.next ((State.ringIn_of (State.ringLive_of_serves hserves) (.inl (hdst ▸ s.sh.raddr_lt)) (by decide) (n := 4) rfl
    (by simp [leBytes]) (by simp [leBytes]) _).trans (if_pos hdst))

theorem exec_stnStat {data : List Byte} (hserves : s.ringServes = true) (hdst : dst.toNat < 32 ∨ dst.toNat = 63)
    (hmax : data.length ≤ 16) : exec (.stnStat p dst src data u) s = .next ((s.withSh (s.sh.received p
      (.of dst.toNat src.toNat 0x11 data) (s.sh.gt + u))).station 0x11 src.toNat [] (s.sh.gt + u)) :=
  congrArg Host.Outcome.next (State.ringIn_of (State.ringLive_of_serves hserves) hdst (by decide) (n := 0) rfl (Nat.zero_le _) hmax _)

end

/-- Settles O55: each clause is its frame or its timer by the operation of its case, which the node carries out once it has heard the
frame. -/
theorem ringRows : Obligations.RingRows := by
  refine ⟨fun p dst src u s hlive hdst hdis hnone => ?passed, fun p dst src u ty to_ d s hlive hdst hhold hdis hnext => ?held,
    fun dst src u s hon hbypass hdst hopens => ?joins, fun u f s hsent hlate hdis => ?lost, fun u s hdue => ?refresh,
    fun p dst src data u type f c s hc hlive hdst hlen hmax hown hsent htype hdis => ?back,
    fun p dst src data u type c s hc hlive hdst hlen hmax hother => ?repeated,
    fun p src dst op tgt seq u k s i hserves hdst hknown htakes hu => ?command,
    fun p dst src data u k s i hserves hdst hmax hknown htakes hu => ?status,
    fun p src dst op tgt seq data u c s hc hserves hknown => ?unknown, fun p hdr crc len data viol u s hserves hbad => ?code,
    fun p hdr len data u s hserves hbad => ?format⟩
  case passed =>
    have hrow : exec (.ringToken p dst src u) s = .next (s.withSh
        (((s.sh.received p (.of dst.toNat src.toNat 0x01 []) (s.sh.gt + u)).visited p src.toNat (s.sh.gt + u)).tokenPassed
          (s.sh.ringOut p) (s.sh.gt + u))) := by
      rw [exec_ringToken_of_live hlive hdst, State.token_of_none (by simpa using hdis) _ _ (by simpa using hnone)]
      rfl
    refine ⟨_, hrow, s.withSh_lanesKept _, ?_, ?_, Shared.tokenPassed_holder .., ?_, ?_, ?_, ?_⟩
    · exact ((s.sh.received_regsBut _ _ _ _).trans (Shared.visited_regsBut _ _ _ _)).tokenPassed (by decide) _ _
    · rw [State.withSh_sh, Shared.neighbour_tokenPassed, Shared.visited_neighbour _ _ _ _ src.isLt]
    · rw [State.withSh_sh, Shared.fld_tokenPassed _ _ _ (by decide) (by decide), Shared.visited_rot, Shared.received_ring,
        RingHw.hear_visitAt]
    · rw [State.withSh_sh, Shared.tokenPassed_ring, Shared.visited_ring]
    · rw [State.withSh_sh, Shared.tokenPassed_ring]
    · rw [State.withSh_sh, Shared.tokenPassed_lastTx, Shared.visited_raddr, Shared.received_raddr]
  case held =>
    have hrow : exec (.ringToken p dst src u) s = .next (s.withSh
        (((s.sh.received p (.of dst.toNat src.toNat 0x01 []) (s.sh.gt + u)).visited p src.toNat (s.sh.gt + u)).frameSent
          (ty, to_, d) (s.sh.ringOut p) (s.sh.gt + u))) := by
      rw [exec_ringToken_of_live hlive hdst, State.token_of_some (by simpa using hdis) _ _ (by simpa using hhold) (by simpa using hnext)]
      rfl
    refine ⟨_, hrow, s.withSh_lanesKept _, ?_, ?_, ?_, ?_, ?_, Shared.frameSent_lastTx ..⟩
    · exact ((s.sh.received_regsBut _ _ _ _).trans (Shared.visited_regsBut _ _ _ _)).trans (Shared.frameSent_regsBut _ _ _ _ _)
    · exact (Shared.neighbour_setRing ..).trans ((Shared.neighbour_setRing ..).trans (Shared.visited_neighbour _ _ _ _ src.isLt))
    · exact Shared.visited_holder ..
    · rw [State.withSh_sh, Shared.frameSent_tokAt, Shared.visited_ring]
    · rw [State.withSh_sh, Shared.frameSent_sent, Shared.visited_raddr, Shared.received_raddr]
  case joins =>
    have hrow : exec (.ringToken .A dst src u) s = .next ((s.withSh (s.sh.bypassOpened (s.sh.gt + u))).ringRec 0x0404 (s.sh.gt + u) false) := by
      rw [exec_ringToken_of_bypassed hbypass hdst, State.bypassOpen_of_due hon hbypass hopens]
    refine ⟨_, hrow, ?_, ?_, State.ringRec_lane_regs _ _ _ _ .A, State.ringRec_lane_regs _ _ _ _ .B, ?_⟩
    · exact Shared.regsBut.trans (s.sh.bypassOpened_regsBut _) (Shared.regsBut_of_regs_eq _ (State.ringRec_regs ..))
    · rw [State.on_ringRec, State.withSh_sh, Shared.bypassOpened_bypass]
    · rw [State.ringRec_ring, State.withSh_sh, Shared.bypassOpened, Shared.setRing_ring]
  case lost =>
    have hbump : s.sh.regsBut [RING_STAT, RING_TOK] (s.sh.bump RING_TOK RING_TOK_RETFAIL) :=
      (Shared.regsBut.refl _ _).setF (by decide) (by decide) _ _
    refine ⟨_, exec_frameReturnTimeout_of_late hsent hlate hdis, s.withSh_lanesKept _, hbump.tokenPassed (by decide) _ _, ?_, ?_,
      Shared.tokenPassed_holder .., ?_⟩
    · rw [State.withSh_sh, Shared.fld_tokenPassed _ _ _ (by decide) (by decide), Shared.fld_bump_same _ _ _ (by decide)]
      rfl
    · rw [State.withSh_sh, Shared.tokenPassed_ring]
    · rw [State.withSh_sh, Shared.tokenPassed_lastTx, hbump.raddr (by decide)]
  case refresh =>
    exact ⟨_, congrArg Host.Outcome.next (if_pos hdue), s.withSh_lanesKept _, rfl, rfl⟩
  case back =>
    have hkind := ringBack_type hc
    have hrow : exec c s = .next (s.withSh
        ((s.sh.received p (.of dst.toNat src.toNat type data) (s.sh.gt + u)).tokenPassed f.port (s.sh.gt + u))) := by
      rw [exec_ringBack hc hlive hdst hlen hmax, State.ringBack_of_own _ (by simpa using hown) (by simpa using hsent) htype (by simpa using hdis)]
      rfl
    refine ⟨_, hrow, s.withSh_lanesKept _, (s.sh.received_regsBut _ _ _ _).tokenPassed (by decide) _ _, ?_, Shared.tokenPassed_holder ..,
      ?_, ?_⟩
    · rw [State.withSh_sh, Shared.tokenPassed_ring]
    · rw [State.withSh_sh, Shared.tokenPassed_ring, Shared.received_ring, RingHw.hear_rep, s.sh.takesOut_of data (by omega) src.isLt (by omega)]
      simp [hown, show type ≠ 0x10 ∧ type ≠ 0x11 by omega]
    · rw [State.withSh_sh, Shared.tokenPassed_lastTx, Shared.received_raddr]
  case repeated =>
    have hkind := ringBack_type hc
    have hrow : exec c s = .next (s.withSh (s.sh.received p (.of dst.toNat src.toNat type data) (s.sh.gt + u))) := by
      rw [exec_ringBack hc hlive hdst hlen hmax, State.ringBack_of_other _ _ (by simpa using hother)]
    refine ⟨_, hrow, s.withSh_lanesKept _, rfl, ?_⟩
    rw [State.withSh_sh, Shared.received_ring, s.sh.takesOut_of data (by omega) src.isLt (by omega),
      show (type == 0x01 || (src.toNat == s.sh.raddr && type != 0x10 && type != 0x11)) = false by simp [hother]; omega]
    exact RingHw.hear_of_repeated _ _ _ _ (by rw [RingFrame.of_type data (by omega) src.isLt (by omega)]; omega)
  case command =>
    rw [exec_stnCmd_of_addressed hserves hdst, State.station_of_known _ _ (by simpa using hserves) (by simpa using hknown) (by simpa using hu)]
    refine ⟨_, rfl, rfl, ?_⟩
    rw [State.taking_lane, State.withSh_lane, if_pos htakes]
    exact ⟨rfl, rfl⟩
  case status =>
    rw [exec_stnStat hserves hdst hmax, State.station_of_known _ _ (by simpa using hserves) (by simpa using hknown) (by simpa using hu)]
    refine ⟨_, rfl, rfl, ?_⟩
    rw [State.taking_lane, State.withSh_lane, if_pos htakes]
    exact ⟨rfl, rfl⟩
  case unknown =>
    have hrow : ∃ f, exec c s = .next (s.withSh ((s.sh.received p f (s.sh.gt + u)).bump RING_ERR RING_ERR_UNKNOWN)) := by
      rcases hc with ⟨rfl, hdst, hmax⟩ | ⟨rfl, hdst⟩
      · rw [exec_stnStat hserves hdst hmax, State.station_of_unknown _ _ _ (by simpa using hserves) (by simpa using hknown)]
        exact ⟨_, rfl⟩
      · rw [exec_stnCmd_of_addressed hserves hdst, State.station_of_unknown _ _ _ (by simpa using hserves) (by simpa using hknown)]
        exact ⟨_, rfl⟩
    obtain ⟨f, hrow⟩ := hrow
    refine ⟨_, hrow, s.withSh_lanesKept _, (s.sh.received_regsBut _ _ _ _).setF (by decide) (by decide) _ _, ?_⟩
    rw [State.withSh_sh, Shared.fld_bump_same _ _ _ (by decide), Shared.fld_received]
    rfl
  case code =>
    obtain ⟨hrep, hprobes⟩ := s.sh.discarded_ring p ⟨hdr, len, data, crc, viol⟩
    refine ⟨_, congrArg Host.Outcome.next (State.ringIn_of_bad hserves (RingFrame.bad_of_code hbad) _ _), s.withSh_lanesKept _,
      (Shared.regsBut_of_regs_eq _ rfl).setF (by decide) (by decide) _ _, hprobes, hrep, ?_, ?_⟩
    · exact Shared.fld_bump_same _ _ _ (by decide)
    · exact Shared.fld_setF_field _ _ _ _ _ (by decide)
  case format =>
    refine ⟨_, congrArg Host.Outcome.next (State.ringIn_of_bad hserves (RingFrame.bad_of_format rfl rfl hbad) _ _), s.withSh_lanesKept _,
      (Shared.regsBut_of_regs_eq _ rfl).setF (by decide) (by decide) _ _, (s.sh.discarded_ring p _).1, ?_, ?_⟩
    · exact Shared.fld_bump_same _ _ _ (by decide)
    · exact Shared.fld_setF_field _ _ _ _ _ (by decide)

end Sys2Proof.Machine
end

section
/-! Claims of a node that has received no token (R204, R205). -/

namespace Sys2Proof.Machine

section
variable {s : State} {w : Nat}

/-- The shared part as the node sends CLAIM. -/
def Shared.claimSent (h : Shared) (w : Nat) : Shared :=
  (((h.bump RING_TOK RING_TOK_TLOSS).setB RING_STAT RING_STAT_CLAIMING true).ringSend 0x02 0x3F [] (h.ringOut .A) w).setRing
    (fun r => { r with tokAt := w })

theorem Shared.claimSent_regsBut (h : Shared) (w : Nat) : h.regsBut [RING_STAT, RING_TOK] (h.claimSent w) :=
  ((((Shared.regsBut.refl _ h).setF (by decide) (by decide) _ _).setB (by decide) (by decide) _ _).setRing _).setRing _

theorem Shared.claimSent_claiming (h : Shared) (w : Nat) : (h.claimSent w).on RING_STAT RING_STAT_CLAIMING = true := by
  rw [Shared.claimSent, Shared.ringSend, Shared.on_setRing, Shared.on_setRing, Shared.on_setB_same _ _ _ _ (by decide)]

theorem Shared.claimSent_tloss (h : Shared) (w : Nat) :
    (h.claimSent w).fld RING_TOK RING_TOK_TLOSS = min 255 (h.fld RING_TOK RING_TOK_TLOSS + 1) := by
  rw [Shared.claimSent, Shared.ringSend, Shared.fld_setRing, Shared.fld_setRing, Shared.setB, Shared.fld_setF_ne _ _ _ _ _ _ (by decide),
    Shared.fld_bump_same _ _ _ (by decide)]
  rfl

theorem Shared.claimSent_lastTx (h : Shared) (w : Nat) :
    (h.claimSent w).ring.lastTx = some ⟨.of 0x3F h.raddr 0x02 [], h.ringOut .A, w + ringNs 0⟩ := by
  rw [← (h.claimSent_regsBut w).raddr (by decide)]
  rfl

theorem State.tokenLoss_of_late (hserves : s.ringServes = true) (hhold : s.sh.hold = false)
    (hlate : s.sh.ring.tokAt + 40000000 + 500000 * s.sh.raddr ≤ w) :
    s.tokenLoss w = (s.withSh (s.sh.claimSent w)).ringRec 0x0403 w true := by
  have hout : ((s.sh.bump RING_TOK RING_TOK_TLOSS).setB RING_STAT RING_STAT_CLAIMING true).ringOut .A = s.sh.ringOut .A :=
    Shared.ringOut_congr (by rw [Shared.on_setB_field _ _ _ _ _ (by decide), Shared.on, Shared.bump, Shared.fld_setF_ne _ _ _ _ _ _ (by decide)]; rfl)
  unfold State.tokenLoss
  rw [if_pos (by simp [hserves, hhold, hlate])]
  dsimp only
  rw [hout]
  rfl

theorem State.tokenLoss_of_hold (hhold : s.sh.hold = true) : s.tokenLoss w = s := by
  unfold State.tokenLoss
  rw [if_neg (by simp [hhold])]

variable {src : Nat} (hserves : s.ringServes = true) (hclaiming : s.sh.on RING_STAT RING_STAT_CLAIMING = true)
include hserves hclaiming

/-- The node's own CLAIM has come back: it ends in a new token. -/
theorem State.claim_of_own (hsrc : src = s.sh.raddr) : s.claim src w =
    s.withSh ((s.sh.setB RING_STAT RING_STAT_CLAIMING false).tokenPassed (s.sh.ringOut .A) w) := by
  have hpass : (s.withSh (s.sh.setB RING_STAT RING_STAT_CLAIMING false)).ringDis = false :=
    (State.ringDis_withSh (by rw [Shared.setB_ring])).trans (State.ringDis_of_serves hserves)
  unfold State.claim
  rw [if_neg (by simp [hserves, hclaiming]), if_pos hsrc, State.passToken_of_enabled hpass]
  rfl

theorem State.claim_of_lower (hsrc : src < s.sh.raddr) : s.claim src w = s.withSh (s.sh.setB RING_STAT RING_STAT_CLAIMING false) := by
  unfold State.claim
  rw [if_neg (by simp [hserves, hclaiming]), if_neg hsrc.ne, if_pos hsrc]

theorem State.claim_of_higher (hsrc : s.sh.raddr < src) : s.claim src w = s := by
  unfold State.claim
  rw [if_neg (by simp [hserves, hclaiming]), if_neg hsrc.ne', if_neg hsrc.not_gt]

end

theorem exec_ringClaim {s : State} {p : Port} {dst : BitVec 6} {src : BitVec 5} {u : Nat} (hlive : s.ringLive = true)
    (hdst : dst.toNat < 32 ∨ dst.toNat = 63) : exec (.ringClaim p dst src u) s =
    .next ((s.withSh (s.sh.received p (.of dst.toNat src.toNat 0x02 []) (s.sh.gt + u))).claim src.toNat (s.sh.gt + u)) :=
  congrArg Host.Outcome.next (State.ringIn_of hlive hdst (by decide) (n := 0) rfl (by simp) (by simp) _)

/-- Settles O57: a CLAIM by the order of its address and the node's, the loss of the token by its time or by a hold. -/
theorem tokenLossAndClaims : Obligations.TokenLossAndClaims := by
  refine ⟨fun p dst src u s hserves hclaiming hdst => ?claim, fun u s i hserves hhold hlate htakes => ?loss, fun u s hhold => ?hold⟩
  case claim =>
    have hserves' := (s.ringServes_received p (.of dst.toNat src.toNat 0x02 []) (s.sh.gt + u)).trans hserves
    have hclaiming' := (s.sh.on_received p (.of dst.toNat src.toNat 0x02 []) (s.sh.gt + u) _ _).trans hclaiming
    have hrow := exec_ringClaim (p := p) (src := src) (u := u) (State.ringLive_of_serves hserves) hdst
    have hheard (hother : src.toNat ≠ s.sh.raddr) :
        (s.sh.received p (.of dst.toNat src.toNat 0x02 []) (s.sh.gt + u)).ring.lastTx = s.sh.ring.lastTx ∧
        (s.sh.received p (.of dst.toNat src.toNat 0x02 []) (s.sh.gt + u)).ring.rep = some (s.sh.ringOut p, .of dst.toNat src.toNat 0x02 []) := by
      rw [Shared.received_ring, RingHw.hear_rep, s.sh.takesOut_of [] (by omega) src.isLt (by decide)]
      simp [hother]
    rcases lt_trichotomy src.toNat s.sh.raddr with hlt | heq | hgt
    · rw [hrow, State.claim_of_lower hserves' hclaiming' (by simpa using hlt)]
      refine ⟨_, rfl, (s.sh.received_regsBut _ _ _ _).setB (by decide) (by decide) _ _, rfl, rfl, ?_, fun h => absurd h hlt.ne, hheard⟩
      rw [State.withSh_sh, Shared.on_setB_same _ _ _ _ (by decide), decide_eq_false hlt.not_gt]
    · rw [hrow, State.claim_of_own hserves' hclaiming' (by simpa using heq)]
      have hdrop : s.sh.regsBut [RING_STAT]
          ((s.sh.received p (.of dst.toNat src.toNat 0x02 []) (s.sh.gt + u)).setB RING_STAT RING_STAT_CLAIMING false) :=
        (s.sh.received_regsBut _ _ _ _).setB (by decide) (by decide) _ _
      refine ⟨_, rfl, hdrop.tokenPassed (by decide) _ _, rfl, rfl, ?_, fun _ => ?_, fun h => absurd heq h⟩
      · rw [State.withSh_sh, Shared.on_tokenPassed _ _ _ (by decide), State.withSh_sh, Shared.on_setB_same _ _ _ _ (by decide),
          decide_eq_false heq.not_gt]
      · rw [State.withSh_sh, Shared.tokenPassed_lastTx, State.withSh_sh, Shared.received_ringOut, hdrop.raddr (by decide)]
    · rw [hrow, State.claim_of_higher hserves' hclaiming' (by simpa using hgt)]
      refine ⟨_, rfl, s.sh.received_regsBut _ _ _ _, rfl, rfl, ?_, fun h => absurd h hgt.ne', hheard⟩
      rw [State.withSh_sh, Shared.on_received, hclaiming, decide_eq_true hgt]
  case loss =>
    refine ⟨_, congrArg Host.Outcome.next (State.tokenLoss_of_late hserves hhold hlate), ?_⟩
    rw [State.on_ringRec, State.fld_ringRec, State.ringRec_ring, State.ringRec_lane _ _ _ (by rwa [State.withSh_lane]), State.withSh_lane]
    exact ⟨(s.sh.claimSent_regsBut _).trans (Shared.regsBut_of_regs_eq _ (State.ringRec_regs _ _ _ _)), rfl, s.sh.claimSent_claiming _,
      s.sh.claimSent_tloss _, s.sh.claimSent_lastTx _, rfl, _, rfl, rfl⟩
  case hold => exact congrArg Host.Outcome.next (State.tokenLoss_of_hold hhold)

end Sys2Proof.Machine
end

section
/-! Open links of the call ring (R206–R209) and the bypass (R211): ports lost and found again, OPEN, PROBE and CLOSED frames, and the list of
faults. -/

namespace Sys2Proof.Machine

theorem lostFld_apart_wrapFld (p : Port) : fldsApart (lostFld p) (wrapFld p) := by cases p <;> decide

theorem lostFld_apart_split (p : Port) : fldsApart (lostFld p) RING_STAT_SPLIT := by cases p <;> decide

/-! ### Traffic expected on RGB (R206) -/

section
variable (h old : Shared) (w : Nat)

/-- Where the ring has become wrapped the instant of the newest frame on RGB moves, nothing else. -/
theorem Shared.expectB_eq : h.expectB old w = { h with ring := { h.ring with lastB := (h.expectB old w).ring.lastB } } := by
  unfold Shared.expectB
  split <;> rfl

@[simp] theorem Shared.expectB_regs : (h.expectB old w).regs = h.regs := by rw [Shared.expectB_eq]
@[simp] theorem Shared.expectB_lastTx : (h.expectB old w).ring.lastTx = h.ring.lastTx := by rw [Shared.expectB_eq]
@[simp] theorem Shared.expectB_owed : (h.expectB old w).ring.owed = h.ring.owed := by rw [Shared.expectB_eq]
@[simp] theorem Shared.expectB_opens : (h.expectB old w).ring.opens = h.ring.opens := by rw [Shared.expectB_eq]
@[simp] theorem Shared.on_expectB (k : Nat) (f : Fld) : (h.expectB old w).on k f = h.on k f := by
  rw [Shared.expectB_eq]
  rfl
@[simp] theorem Shared.fld_expectB (k : Nat) (f : Fld) : (h.expectB old w).fld k f = h.fld k f := by
  rw [Shared.expectB_eq]
  rfl
@[simp] theorem Shared.expectB_raddr : (h.expectB old w).raddr = h.raddr := h.fld_expectB old w _ _

end

/-! ### OPEN and CLOSED frames of the node (R205) -/

section
variable (h : Shared) (type : Nat) (data : List Byte) (p : Port) (w : Nat)

@[simp] theorem Shared.ringOffer_regs : (h.ringOffer type data p w).regs = h.regs := by
  unfold Shared.ringOffer
  split <;> rfl

@[simp] theorem Shared.on_ringOffer (k : Nat) (f : Fld) : (h.ringOffer type data p w).on k f = h.on k f := by
  unfold Shared.ringOffer
  split <;> rfl

@[simp] theorem Shared.ringOffer_probes (q : Port) : (h.ringOffer type data p w).ring.probes q = h.ring.probes q := by
  unfold Shared.ringOffer
  split <;> cases q <;> rfl

@[simp] theorem Shared.ringOffer_closed (q : Port) : (h.ringOffer type data p w).ring.closed q = h.ring.closed q := by
  unfold Shared.ringOffer
  split <;> cases q <;> rfl

/-- During a hold the frame waits; else it goes out. -/
theorem Shared.ringOffer_ring : if h.hold then (h.ringOffer type data p w).ring.owed = h.ring.owed ++ [(type, data, p)]
    else (h.ringOffer type data p w).ring.lastTx = some ⟨.of 0x3F h.raddr type data, p, w + ringNs data.length⟩ := by
  unfold Shared.ringOffer
  split <;> rfl

end

/-! ### Wrap (R206–R208) -/

/-- The shared part as the node enters wrap on a port. -/
def Shared.wrapEntered (h : Shared) (p : Port) (w : Nat) : Shared :=
  (((h.setB RING_STAT (lostFld p) true).setB RING_STAT (wrapFld p) true).setRing
    (fun r => ((r.setProbes p 0).setClosed p false).setProbeAt p w)).expectB h w

/-- The shared part as the node leaves wrap on a port. -/
def Shared.wrapLeft (h : Shared) (p : Port) (w : Nat) : Shared :=
  ((h.setB RING_STAT (lostFld p) false).setB RING_STAT (wrapFld p) false).setRing
    (fun r => ((r.setProbes p 0).setClosed p false).at_ p w)

/-- The two records, each with its event, of a port whose state has changed (R213). -/
def State.wrapRec (s : State) (w : Nat) : State := (s.ringRec 0x0401 w true).ringRec 0x0402 w true

section
variable (h : Shared) (p : Port) (w : Nat)

theorem Shared.regsBut.wrapEntered {h g : Shared} {ks : List Nat} (hg : h.regsBut ks g) (hks : RING_STAT ∈ ks) (p : Port) (w : Nat) :
    h.regsBut ks (g.wrapEntered p w) :=
  (((hg.setB (by decide) hks _ _).setB (by decide) hks _ _).setRing _).trans (Shared.regsBut_of_regs_eq _ (Shared.expectB_regs _ _ _))

theorem Shared.wrapEntered_on : (h.wrapEntered p w).on RING_STAT (lostFld p) = true ∧ (h.wrapEntered p w).on RING_STAT (wrapFld p) = true := by
  rw [Shared.wrapEntered, Shared.on_expectB, Shared.on_expectB, Shared.on_setRing, Shared.on_setRing,
    Shared.on_setB_field _ _ _ _ _ (lostFld_apart_wrapFld p), Shared.on_setB_same _ _ _ _ (lostFld_bit p),
    Shared.on_setB_same _ _ _ _ (wrapFld_bit p)]
  exact ⟨rfl, rfl⟩

/-- What the node has sent and what waits for the end of a hold stands. -/
theorem Shared.wrapEntered_ring : (h.wrapEntered p w).ring.owed = h.ring.owed ∧ (h.wrapEntered p w).ring.lastTx = h.ring.lastTx := by
  rw [Shared.wrapEntered, Shared.expectB_owed, Shared.expectB_lastTx]
  cases p <;> exact ⟨rfl, rfl⟩

theorem Shared.regsBut.wrapLeft {h g : Shared} {ks : List Nat} (hg : h.regsBut ks g) (hks : RING_STAT ∈ ks) (p : Port) (w : Nat) :
    h.regsBut ks (g.wrapLeft p w) :=
  ((hg.setB (by decide) hks _ _).setB (by decide) hks _ _).setRing _

theorem Shared.wrapLeft_on : (h.wrapLeft p w).on RING_STAT (lostFld p) = false ∧ (h.wrapLeft p w).on RING_STAT (wrapFld p) = false := by
  rw [Shared.wrapLeft, Shared.on_setRing, Shared.on_setRing, Shared.on_setB_field _ _ _ _ _ (lostFld_apart_wrapFld p),
    Shared.on_setB_same _ _ _ _ (lostFld_bit p), Shared.on_setB_same _ _ _ _ (wrapFld_bit p)]
  exact ⟨rfl, rfl⟩

variable (s : State)

@[simp] theorem State.wrapRec_regs : (s.wrapRec w).sh.regs = s.sh.regs := (State.ringRec_regs ..).trans (State.ringRec_regs ..)
@[simp] theorem State.wrapRec_ring : (s.wrapRec w).sh.ring = s.sh.ring := (State.ringRec_ring ..).trans (State.ringRec_ring ..)
@[simp] theorem State.on_wrapRec (k : Nat) (f : Fld) : (s.wrapRec w).sh.on k f = s.sh.on k f :=
  (State.on_ringRec ..).trans (State.on_ringRec ..)
@[simp] theorem State.wrapRec_lane_regs (i : LaneId) : ((s.wrapRec w).lane i).regs = (s.lane i).regs :=
  (State.ringRec_lane_regs ..).trans (State.ringRec_lane_regs ..)

variable {s}

theorem State.wrapRec_lane {i : LaneId} (htakes : (s.lane i).takes = true) :
    ((s.wrapRec w).lane i).cut.ev = (s.lane i).cut.ev ||| evBit evRingFault ||| evBit evRingFault ∧
    ∃ r q : Rec, ((s.wrapRec w).lane i).cut.recs = (s.lane i).cut.recs ++ [r] ++ [q] ∧ r.code = 0x0401 ∧ q.code = 0x0402 := by
  have hfirst := State.ringRec_lane 0x0401 w true htakes
  rw [State.wrapRec, State.ringRec_lane _ _ _ (by rw [hfirst]; exact htakes), hfirst]
  exact ⟨rfl, _, _, rfl, rfl, rfl⟩

/-- What the node is after it has entered wrap on a port. -/
theorem State.enteredWrap_effect {g : Shared} {ks : List Nat} (hg : s.sh.regsBut ks g) (hks : RING_STAT ∈ ks) :
    s.sh.regsBut ks ((s.withSh (g.wrapEntered p w)).wrapRec w).sh ∧
    ((s.withSh (g.wrapEntered p w)).wrapRec w).a.regs = s.a.regs ∧ ((s.withSh (g.wrapEntered p w)).wrapRec w).b.regs = s.b.regs ∧
    ((s.withSh (g.wrapEntered p w)).wrapRec w).sh.on RING_STAT (lostFld p) = true ∧
    ((s.withSh (g.wrapEntered p w)).wrapRec w).sh.on RING_STAT (wrapFld p) = true := by
  rw [State.on_wrapRec, State.on_wrapRec]
  exact ⟨(hg.wrapEntered hks p w).trans (Shared.regsBut_of_regs_eq _ (State.wrapRec_regs _ _)), State.wrapRec_lane_regs _ _ .A,
    State.wrapRec_lane_regs _ _ .B, g.wrapEntered_on p w⟩

/-- What the node is after it has left wrap on a port. -/
theorem State.leftWrap_effect {g : Shared} {ks : List Nat} (hg : s.sh.regsBut ks g) (hks : RING_STAT ∈ ks) :
    s.sh.regsBut ks ((s.withSh (g.wrapLeft p w)).wrapRec w).sh ∧
    ((s.withSh (g.wrapLeft p w)).wrapRec w).a.regs = s.a.regs ∧ ((s.withSh (g.wrapLeft p w)).wrapRec w).b.regs = s.b.regs ∧
    ((s.withSh (g.wrapLeft p w)).wrapRec w).sh.on RING_STAT (lostFld p) = false ∧
    ((s.withSh (g.wrapLeft p w)).wrapRec w).sh.on RING_STAT (wrapFld p) = false := by
  rw [State.on_wrapRec, State.on_wrapRec]
  exact ⟨(hg.wrapLeft hks p w).trans (Shared.regsBut_of_regs_eq _ (State.wrapRec_regs _ _)), State.wrapRec_lane_regs _ _ .A,
    State.wrapRec_lane_regs _ _ .B, g.wrapLeft_on p w⟩

variable {p}

theorem State.enterWrap_of_found (hlost : s.sh.on RING_STAT (lostFld p) = false) :
    s.enterWrap p w = (s.withSh (s.sh.wrapEntered p w)).wrapRec w := by
  unfold State.enterWrap
  rw [if_neg (by simp [hlost])]
  rfl

theorem State.leaveWrap_of_back (hlost : s.sh.on RING_STAT (lostFld p) = true) (hprobes : 3 ≤ s.sh.ring.probes p)
    (hclosed : s.sh.ring.closed p = true) : s.leaveWrap p w = (s.withSh (s.sh.wrapLeft p w)).wrapRec w := by
  unfold State.leaveWrap
  rw [if_pos (by simp [hlost, hprobes, hclosed])]
  rfl

theorem State.leaveWrap_of_open (hclosed : s.sh.ring.closed p = false) : s.leaveWrap p w = s := by
  unfold State.leaveWrap
  rw [if_neg (by simp [hclosed])]

theorem State.portLost_of_silent (hserves : s.ringServes = true) (hexpects : s.sh.expects p = true)
    (hlost : s.sh.on RING_STAT (lostFld p) = false) (hsilent : s.sh.ring.last p + 40000000 ≤ w) :
    s.portLost p w = (s.withSh ((s.sh.ringOffer 0x03 (s.sh.linkData p) p.other w).wrapEntered p w)).wrapRec w := by
  unfold State.portLost
  rw [if_pos (by simp [hserves, hexpects, hlost, hsilent]), State.enterWrap_of_found]
  · rfl
  · rw [State.withSh_sh, Shared.on_ringOffer, hlost]

end

/-! ### The list of faults (R209) -/

section
variable (h : Shared) (k : Nat × Nat)

theorem Shared.faultAdd_ring : (h.faultAdd k).ring = h.ring := by
  unfold Shared.faultAdd
  dsimp only
  split <;> rfl

theorem Shared.regsBut.faultAdd {h g : Shared} {ks : List Nat} (hg : h.regsBut ks g) (hfault : RING_FAULT ∈ ks) (hstat : RING_STAT ∈ ks)
    (k : Nat × Nat) : h.regsBut ks (g.faultAdd k) := by
  unfold Shared.faultAdd
  dsimp only
  split
  · exact hg
  · exact (hg.wr (by decide) hfault _).setB (by decide) hstat _ _

@[simp] theorem Shared.faultAdd_raddr : (h.faultAdd k).raddr = h.raddr :=
  ((Shared.regsBut.refl [RING_FAULT, RING_STAT] h).faultAdd (by decide) (by decide) k).raddr (by decide)

theorem Shared.on_faultAdd {f : Fld} (hf : fldsApart f RING_STAT_SPLIT) : (h.faultAdd k).on RING_STAT f = h.on RING_STAT f := by
  unfold Shared.faultAdd
  dsimp only
  split
  · rfl
  · rw [Shared.on_setB_field _ _ _ _ _ hf, Shared.on, Shared.fld_wr_ne _ _ _ _ _ (by decide)]
    rfl

/-- The list of faults with one link. -/
def firstFault (k : Nat × Nat) (f : Word) : Word := RING_FAULT_V1.put 1 (RING_FAULT_A1.put k.1 (RING_FAULT_B1.put k.2 f))

theorem Shared.faultAdd_of_empty (hfirst : h.on RING_FAULT RING_FAULT_V1 = false) (hsecond : h.on RING_FAULT RING_FAULT_V2 = false) :
    h.faultAdd k = (h.wr RING_FAULT (firstFault k (h.rd RING_FAULT))).setB RING_STAT RING_STAT_SPLIT false := by
  have hv1 : RING_FAULT_V1.on (h.rd RING_FAULT) = false := hfirst
  have hv2 : RING_FAULT_V2.on (h.rd RING_FAULT) = false := hsecond
  have hkept : RING_FAULT_V2.on (firstFault k (h.rd RING_FAULT)) = false := by
    rw [firstFault, Fld.on_put_apart (by decide), Fld.on_put_apart (by decide), Fld.on_put_apart (by decide), hv2]
  unfold Shared.faultAdd
  rw [if_neg (by simp [hv1, hv2]), if_pos (by simp [hv1])]
  dsimp only
  rw [Shared.rd_wr_same, ← firstFault, hkept, Bool.and_false]

theorem Shared.faultAdd_first (hfirst : h.on RING_FAULT RING_FAULT_V1 = false) (hsecond : h.on RING_FAULT RING_FAULT_V2 = false)
    (hk : k.1 < 32 ∧ k.2 < 32) : (h.faultAdd k).on RING_FAULT RING_FAULT_V1 = true ∧
    (h.faultAdd k).fld RING_FAULT RING_FAULT_A1 = k.1 ∧ (h.faultAdd k).fld RING_FAULT RING_FAULT_B1 = k.2 ∧
    (h.faultAdd k).on RING_STAT RING_STAT_SPLIT = false := by
  have hget (f : Fld) : (h.faultAdd k).fld RING_FAULT f = f.get (firstFault k (h.rd RING_FAULT)) := by
    rw [h.faultAdd_of_empty k hfirst hsecond, Shared.setB, Shared.fld_setF_ne _ _ _ _ _ _ (by decide), Shared.fld_wr_same]
  refine ⟨?_, ?_, ?_, ?_⟩
  · rw [Shared.on, hget, firstFault, Fld.get_put_same _ _ _ (by decide)]
    rfl
  · rw [hget, firstFault, Fld.get_put_apart (by decide), Fld.get_put_same _ _ _ (by decide)]
    exact Nat.mod_eq_of_lt hk.1
  · rw [hget, firstFault, Fld.get_put_apart (by decide), Fld.get_put_apart (by decide), Fld.get_put_same _ _ _ (by decide)]
    exact Nat.mod_eq_of_lt hk.2
  · rw [h.faultAdd_of_empty k hfirst hsecond, Shared.on_setB_same _ _ _ _ (by decide)]

/-- The list without the link in one of its two entries, where the entry holds it. -/
def Shared.faultDrop (h : Shared) (k : Nat × Nat) (v a b : Fld) : Shared :=
  let f := h.rd RING_FAULT
  if v.on f && a.get f = k.1 && b.get f = k.2 then h.wr RING_FAULT (v.put 0 (a.put 0 (b.put 0 f))) else h

theorem Shared.faultDel_eq : h.faultDel k =
    let g := (h.faultDrop k RING_FAULT_V1 RING_FAULT_A1 RING_FAULT_B1).faultDrop k RING_FAULT_V2 RING_FAULT_A2 RING_FAULT_B2
    g.setB RING_STAT RING_STAT_SPLIT (g.on RING_FAULT RING_FAULT_V1 && g.on RING_FAULT RING_FAULT_V2) := rfl

section
variable (v a b : Fld)

theorem Shared.faultDrop_ring : (h.faultDrop k v a b).ring = h.ring := by
  unfold Shared.faultDrop
  dsimp only
  split <;> rfl

theorem Shared.regsBut.faultDrop {h g : Shared} {ks : List Nat} (hg : h.regsBut ks g) (hks : RING_FAULT ∈ ks) :
    h.regsBut ks (g.faultDrop k v a b) := by
  unfold Shared.faultDrop
  dsimp only
  split
  · exact hg.wr (by decide) hks _
  · exact hg

variable {v a b}

theorem Shared.on_faultDrop {f : Fld} (hv : fldsApart f v) (ha : fldsApart f a) (hb : fldsApart f b) :
    (h.faultDrop k v a b).on RING_FAULT f = h.on RING_FAULT f := by
  unfold Shared.faultDrop
  dsimp only
  split
  · rw [Shared.on, Shared.fld_wr_same, Fld.get_put_apart hv, Fld.get_put_apart ha, Fld.get_put_apart hb]
    rfl
  · rfl

theorem Shared.faultDrop_of_entry (hbit : v.lo + v.width ≤ 32) (hv : h.on RING_FAULT v = true) (ha : h.fld RING_FAULT a = k.1)
    (hb : h.fld RING_FAULT b = k.2) : (h.faultDrop k v a b).on RING_FAULT v = false := by
  have hentry : (v.on (h.rd RING_FAULT) && a.get (h.rd RING_FAULT) = k.1 && b.get (h.rd RING_FAULT) = k.2) = true := by
    simp only [Bool.and_eq_true, decide_eq_true_eq]
    exact ⟨⟨hv, ha⟩, hb⟩
  unfold Shared.faultDrop
  rw [if_pos hentry, Shared.on, Shared.fld_wr_same, Fld.get_put_same _ _ _ hbit]
  simp

end

theorem Shared.faultDel_ring : (h.faultDel k).ring = h.ring := by
  rw [Shared.faultDel_eq]
  dsimp only
  rw [Shared.setB_ring, Shared.faultDrop_ring, Shared.faultDrop_ring]

theorem Shared.regsBut.faultDel {h g : Shared} {ks : List Nat} (hg : h.regsBut ks g) (hfault : RING_FAULT ∈ ks) (hstat : RING_STAT ∈ ks)
    (k : Nat × Nat) : h.regsBut ks (g.faultDel k) :=
  ((hg.faultDrop k _ _ _ hfault).faultDrop k _ _ _ hfault).setB (by decide) hstat _ _

@[simp] theorem Shared.faultDel_raddr : (h.faultDel k).raddr = h.raddr :=
  ((Shared.regsBut.refl [RING_FAULT, RING_STAT] h).faultDel (by decide) (by decide) k).raddr (by decide)

theorem Shared.on_faultDel {f : Fld} (hf : fldsApart f RING_STAT_SPLIT) : (h.faultDel k).on RING_STAT f = h.on RING_STAT f := by
  have hdrop : h.regsBut [RING_FAULT]
      ((h.faultDrop k RING_FAULT_V1 RING_FAULT_A1 RING_FAULT_B1).faultDrop k RING_FAULT_V2 RING_FAULT_A2 RING_FAULT_B2) :=
    ((Shared.regsBut.refl _ h).faultDrop k _ _ _ (by decide)).faultDrop k _ _ _ (by decide)
  rw [Shared.faultDel_eq]
  dsimp only
  rw [Shared.on_setB_field _ _ _ _ _ hf, Shared.on, hdrop.fld (by decide) (by decide)]
  rfl

/-- The link of the first entry leaves the list, which then holds one link at most. -/
theorem Shared.faultDel_first (hv : h.on RING_FAULT RING_FAULT_V1 = true) (ha : h.fld RING_FAULT RING_FAULT_A1 = k.1)
    (hb : h.fld RING_FAULT RING_FAULT_B1 = k.2) :
    (h.faultDel k).on RING_FAULT RING_FAULT_V1 = false ∧ (h.faultDel k).on RING_STAT RING_STAT_SPLIT = false := by
  have hgone : ((h.faultDrop k RING_FAULT_V1 RING_FAULT_A1 RING_FAULT_B1).faultDrop k RING_FAULT_V2 RING_FAULT_A2 RING_FAULT_B2).on
      RING_FAULT RING_FAULT_V1 = false := by
    rw [Shared.on_faultDrop _ _ (by decide) (by decide) (by decide), Shared.faultDrop_of_entry _ _ (by decide) hv ha hb]
  rw [Shared.faultDel_eq]
  dsimp only
  rw [Shared.on_setB_ne _ _ _ _ _ _ (by decide), Shared.on_setB_same _ _ _ _ (by decide), hgone]
  exact ⟨rfl, rfl⟩

end

/-! ### Frames on open links (R206–R209) -/

/-- The port of the node that an OPEN or CLOSED frame from across the link names. -/
def facingPort (lost : Nat) : Port := if lost = 0 then .B else .A

/-- The shared part after an OPEN frame for link `k`. -/
def Shared.openSeen (h : Shared) (k : Nat × Nat) (w : Nat) : Shared :=
  ((h.setRing (fun r => { r with opens := r.opens.filter (fun x => x.1 != k) ++ [(k, w)] })).faultAdd k).expectB h w

/-- The shared part after a CLOSED frame for link `k`. -/
def Shared.closedSeen (h : Shared) (k : Nat × Nat) : Shared :=
  (h.setRing (fun r => { r with opens := r.opens.filter (fun x => x.1 != k) })).faultDel k

theorem linkOf_lt {src nbr : Nat} (hsrc : src < 32) (hnbr : nbr < 32) (port : Nat) :
    (linkOf src nbr port).1 < 32 ∧ (linkOf src nbr port).2 < 32 := by
  unfold linkOf
  split
  · exact ⟨hnbr, hsrc⟩
  · exact ⟨hsrc, hnbr⟩

section
variable (h : Shared) (k : Nat × Nat) (w : Nat)

theorem Shared.regsBut.openSeen {h g : Shared} {ks : List Nat} (hg : h.regsBut ks g) (hfault : RING_FAULT ∈ ks) (hstat : RING_STAT ∈ ks)
    (k : Nat × Nat) (w : Nat) : h.regsBut ks (g.openSeen k w) :=
  ((hg.setRing _).faultAdd hfault hstat k).trans (Shared.regsBut_of_regs_eq _ (Shared.expectB_regs _ _ _))

theorem Shared.regsBut.closedSeen {h g : Shared} {ks : List Nat} (hg : h.regsBut ks g) (hfault : RING_FAULT ∈ ks) (hstat : RING_STAT ∈ ks)
    (k : Nat × Nat) : h.regsBut ks (g.closedSeen k) :=
  (hg.setRing _).faultDel hfault hstat k

theorem Shared.openSeen_opens : (h.openSeen k w).ring.opens = h.ring.opens.filter (fun x => x.1 != k) ++ [(k, w)] := by
  rw [Shared.openSeen, Shared.expectB_opens, Shared.faultAdd_ring, Shared.setRing_ring]

theorem Shared.closedSeen_ring : (h.closedSeen k).ring = { h.ring with opens := h.ring.opens.filter (fun x => x.1 != k) } := by
  rw [Shared.closedSeen, Shared.faultDel_ring, Shared.setRing_ring]

theorem Shared.openSeen_first (hfirst : h.on RING_FAULT RING_FAULT_V1 = false) (hsecond : h.on RING_FAULT RING_FAULT_V2 = false)
    (hk : k.1 < 32 ∧ k.2 < 32) : (h.openSeen k w).on RING_FAULT RING_FAULT_V1 = true ∧
    (h.openSeen k w).fld RING_FAULT RING_FAULT_A1 = k.1 ∧ (h.openSeen k w).fld RING_FAULT RING_FAULT_B1 = k.2 ∧
    (h.openSeen k w).on RING_STAT RING_STAT_SPLIT = false := by
  simp only [Shared.openSeen, Shared.on_expectB, Shared.fld_expectB]
  exact Shared.faultAdd_first _ _ hfirst hsecond hk

theorem Shared.openSeen_lost (p : Port) : (h.openSeen k w).on RING_STAT (lostFld p) = h.on RING_STAT (lostFld p) := by
  rw [Shared.openSeen, Shared.on_expectB, Shared.on_faultAdd _ _ (lostFld_apart_split p), Shared.on_setRing]

theorem Shared.closedSeen_probes (p : Port) : (h.closedSeen k).ring.probes p = h.ring.probes p := by
  rw [Shared.closedSeen_ring]
  cases p <;> rfl

theorem Shared.closedSeen_first (hv : h.on RING_FAULT RING_FAULT_V1 = true) (ha : h.fld RING_FAULT RING_FAULT_A1 = k.1)
    (hb : h.fld RING_FAULT RING_FAULT_B1 = k.2) :
    (h.closedSeen k).on RING_FAULT RING_FAULT_V1 = false ∧ (h.closedSeen k).on RING_STAT RING_STAT_SPLIT = false :=
  Shared.faultDel_first _ _ hv ha hb

theorem Shared.closedSeen_lost (p : Port) : (h.closedSeen k).on RING_STAT (lostFld p) = h.on RING_STAT (lostFld p) := by
  rw [Shared.closedSeen, Shared.on_faultDel _ _ (lostFld_apart_split p), Shared.on_setRing]

end

section
variable {s : State} {src nbr lost : Nat} (w : Nat) (hserves : s.ringServes = true)
include hserves

/-- An OPEN frame enters the list of faults; one from across a link of the node takes the node into wrap there. -/
theorem State.openFrame_eq : s.openFrame src nbr lost w =
    if nbr = s.sh.raddr ∧ src ≠ s.sh.raddr then (s.withSh (s.sh.openSeen (linkOf src nbr lost) w)).enterWrap (facingPort lost) w
    else s.withSh (s.sh.openSeen (linkOf src nbr lost) w) := by
  unfold State.openFrame
  rw [if_neg (by simp [hserves])]
  by_cases hown : nbr = s.sh.raddr ∧ src ≠ s.sh.raddr
  · rw [if_pos hown]
    exact if_pos (by simpa using hown)
  · rw [if_neg hown]
    exact if_neg (by simpa using hown)

/-- A CLOSED frame leaves the list of faults; one from across a link of the node is one of two signs that its port is back. -/
theorem State.closedFrame_eq : s.closedFrame src nbr lost w =
    if nbr = s.sh.raddr ∧ src ≠ s.sh.raddr then
      (s.withSh ((s.sh.closedSeen (linkOf src nbr lost)).setRing (fun r => r.setClosed (facingPort lost) true))).leaveWrap
        (facingPort lost) w
    else s.withSh (s.sh.closedSeen (linkOf src nbr lost)) := by
  unfold State.closedFrame
  rw [if_neg (by simp [hserves])]
  by_cases hown : nbr = s.sh.raddr ∧ src ≠ s.sh.raddr
  · rw [if_pos hown]
    exact if_pos (by simpa using hown)
  · rw [if_neg hown]
    exact if_neg (by simpa using hown)

end

/-! ### PROBE frames (R208) -/

/-- The shared part after a PROBE frame on a lost port: it counts, and the third in a row is answered by CLOSED. -/
def Shared.probeCounted (h : Shared) (p : Port) (w : Nat) : Shared :=
  let g := h.setRing (fun r => r.setProbes p (h.ring.probes p + 1))
  if h.ring.probes p + 1 = 3 then g.ringOffer 0x05 (g.linkData p) p.other w else g

section
variable (h : Shared) (p : Port) (w : Nat)

theorem Shared.probeCounted_regs : (h.probeCounted p w).regs = h.regs := by
  unfold Shared.probeCounted
  dsimp only
  split
  · exact Shared.ringOffer_regs ..
  · rfl

theorem Shared.on_probeCounted (k : Nat) (f : Fld) : (h.probeCounted p w).on k f = h.on k f := by
  unfold Shared.on Shared.fld
  rw [Shared.probeCounted_regs]

theorem RingHw.probes_setProbes (r : RingHw) (n : Nat) : (r.setProbes p n).probes p = n := by cases p <;> rfl

theorem RingHw.closed_setProbes (r : RingHw) (n : Nat) (q : Port) : (r.setProbes p n).closed q = r.closed q := by cases p <;> cases q <;> rfl

theorem RingHw.probes_setClosed (r : RingHw) (b : Bool) (q : Port) : (r.setClosed p b).probes q = r.probes q := by cases p <;> cases q <;> rfl

theorem RingHw.closed_setClosed (r : RingHw) (b : Bool) : (r.setClosed p b).closed p = b := by cases p <;> rfl

theorem Shared.probeCounted_probes : (h.probeCounted p w).ring.probes p = h.ring.probes p + 1 := by
  unfold Shared.probeCounted
  dsimp only
  split
  · rw [Shared.ringOffer_probes, Shared.setRing_ring, RingHw.probes_setProbes]
  · rw [Shared.setRing_ring, RingHw.probes_setProbes]

theorem Shared.probeCounted_closed : (h.probeCounted p w).ring.closed p = h.ring.closed p := by
  unfold Shared.probeCounted
  dsimp only
  split
  · rw [Shared.ringOffer_closed, Shared.setRing_ring, RingHw.closed_setProbes]
  · rw [Shared.setRing_ring, RingHw.closed_setProbes]

theorem Shared.probeCounted_third (hthird : h.ring.probes p = 2) :
    if h.hold then (h.probeCounted p w).ring.owed = h.ring.owed ++ [(0x05, h.linkData p, p.other)]
    else (h.probeCounted p w).ring.lastTx = some ⟨.of 0x3F h.raddr 0x05 (h.linkData p), p.other, w + ringNs 2⟩ := by
  have hoffer := (h.setRing (fun r => r.setProbes p (h.ring.probes p + 1))).ringOffer_ring 0x05 (h.linkData p) p.other w
  have howed : (h.ring.setProbes p (h.ring.probes p + 1)).owed = h.ring.owed := by cases p <;> rfl
  have hdata : (h.setRing (fun r => r.setProbes p (h.ring.probes p + 1))).linkData p = h.linkData p := by
    rw [Shared.linkData, Shared.neighbour_setRing, Shared.linkData]
  rw [Shared.setRing_ring, howed] at hoffer
  unfold Shared.probeCounted
  dsimp only
  rw [if_pos (show h.ring.probes p + 1 = 3 by omega), hdata]
  exact hoffer

variable {s : State} {p}

theorem State.probeFrame_of_found (hlost : s.sh.on RING_STAT (lostFld p) = false) : s.probeFrame p w = s := by
  unfold State.probeFrame
  rw [if_pos (by simp [hlost])]

theorem State.probeFrame_of_lost (hserves : s.ringServes = true) (hlost : s.sh.on RING_STAT (lostFld p) = true) :
    s.probeFrame p w = (s.withSh (s.sh.probeCounted p w)).leaveWrap p w := by
  unfold State.probeFrame
  rw [if_neg (by simp [hserves, hlost])]
  rfl

theorem State.probeTimer_of_due (hserves : s.ringServes = true) (hhold : s.sh.hold = false) (hwrap : s.sh.on RING_STAT (wrapFld p) = true)
    (hdue : s.sh.ring.probeAt p + 100000000 ≤ w) :
    s.probeTimer p w = s.withSh ((s.sh.ringSend 0x04 0x3F [] p w).setRing (fun r => r.setProbeAt p w)) := by
  unfold State.probeTimer
  rw [if_pos (by simp [hserves, hhold, hwrap, hdue])]

end

/-! ### The rows -/

section
variable {s : State} {p : Port} {dst : BitVec 6} {src nbr : BitVec 5} {lost : Port} {u : Nat} (hserves : s.ringServes = true)
  (hdst : dst.toNat < 32 ∨ dst.toNat = 63)
include hserves hdst

theorem exec_ringOpen : exec (.ringOpen p dst src nbr lost u) s =
    .next ((s.withSh (s.sh.received p (.of dst.toNat src.toNat 0x03 (linkBytes nbr lost)) (s.sh.gt + u))).openFrame
      src.toNat nbr.toNat lost.num (s.sh.gt + u)) :=
  congrArg Host.Outcome.next (State.ringIn_of (State.ringLive_of_serves hserves) hdst (by decide) (n := 2) rfl (by simp [linkBytes])
    (by simp [linkBytes]) _)

theorem exec_ringClosed : exec (.ringClosed p dst src nbr lost u) s =
    .next ((s.withSh (s.sh.received p (.of dst.toNat src.toNat 0x05 (linkBytes nbr lost)) (s.sh.gt + u))).closedFrame
      src.toNat nbr.toNat lost.num (s.sh.gt + u)) :=
  congrArg Host.Outcome.next (State.ringIn_of (State.ringLive_of_serves hserves) hdst (by decide) (n := 2) rfl (by simp [linkBytes])
    (by simp [linkBytes]) _)

theorem exec_ringProbe : exec (.ringProbe p dst src u) s =
    .next ((s.withSh (s.sh.received p (.of dst.toNat src.toNat 0x04 []) (s.sh.gt + u))).probeFrame p (s.sh.gt + u)) :=
  congrArg Host.Outcome.next (State.ringIn_of (State.ringLive_of_serves hserves) hdst (by decide) (n := 0) rfl (by simp) (by simp) _)

end

/-- The wait of a disable for its token has ended. -/
theorem exec_ringDisTimeout_of_late {s : State} {u d : Nat} (hdis : s.sh.ring.disAt = some d) (hlate : d + 40000000 ≤ s.sh.gt + u) :
    exec (.ringDisTimeout u) s = .next (s.bypassClose (s.sh.gt + u)) := by
  unfold exec execRingDisTimeout
  simp only [hdis, if_pos hlate]

/-- Settles O56: each clause is its frame or its timer by the operation of its case, which the node carries out once it has heard the
frame. -/
theorem ringWrapRows : Obligations.RingWrapRows := by
  refine ⟨fun p u s i hserves hexpects hlost hsilent htakes => ?lost, fun p dst src nbr lost u s hserves hdst hnbr hv1 hv2 => ?openOther,
    fun p dst src nbr lost u s hserves hdst hnbr hsrc hlost => ?openOwn, fun p dst src u s hserves hdst hlost => ?probeFound,
    fun p dst src u s hserves hdst hlost hclosed => ?probeLost,
    fun p dst src u s hserves hdst hlost hclosed hprobes => ?probeBack,
    fun p dst src nbr lost u s hserves hdst hnbr => ?closedOther,
    fun p dst src nbr lost u s hserves hdst hnbr hsrc hlost hprobes => ?closedOwn,
    fun p u s hserves hhold hwrap hdue => ?timer, fun u d s hdis hlate hopen => ?bypass⟩
  case lost =>
    obtain ⟨hlostOn, hwrapOn⟩ := (s.sh.ringOffer 0x03 (s.sh.linkData p) p.other (s.sh.gt + u)).wrapEntered_on p (s.sh.gt + u)
    obtain ⟨howed, hlastTx⟩ := (s.sh.ringOffer 0x03 (s.sh.linkData p) p.other (s.sh.gt + u)).wrapEntered_ring p (s.sh.gt + u)
    obtain ⟨hev, hrecs⟩ := State.wrapRec_lane (s.sh.gt + u) (s := s.withSh
      ((s.sh.ringOffer 0x03 (s.sh.linkData p) p.other (s.sh.gt + u)).wrapEntered p (s.sh.gt + u))) (i := i)
      (by rwa [State.withSh_lane])
    rw [State.withSh_lane] at hev hrecs
    refine ⟨_, congrArg Host.Outcome.next (State.portLost_of_silent _ hserves hexpects hlost hsilent), ?_, ?_, ?_, ?_, ?_, hev, hrecs⟩
    · exact ((Shared.regsBut_of_regs_eq _ (Shared.ringOffer_regs _ _ _ _ _)).wrapEntered (by decide) _ _).trans
        (Shared.regsBut_of_regs_eq _ (State.wrapRec_regs _ _))
    · rw [State.wrapRec_lane_regs, State.withSh_lane]
    · rw [State.on_wrapRec, State.withSh_sh, hlostOn]
    · rw [State.on_wrapRec, State.withSh_sh, hwrapOn]
    · rw [State.wrapRec_ring, State.withSh_sh, howed, hlastTx]
      exact s.sh.ringOffer_ring 0x03 (s.sh.linkData p) p.other _
  case openOther =>
    intro k
    have hserves' := (s.ringServes_received p (.of dst.toNat src.toNat 0x03 (linkBytes nbr lost)) (s.sh.gt + u)).trans hserves
    rw [exec_ringOpen hserves hdst, State.openFrame_eq _ hserves', if_neg (fun h => hnbr h.1)]
    obtain ⟨hv, ha, hb, hsplit⟩ := Shared.openSeen_first (s.sh.received p (.of dst.toNat src.toNat 0x03 (linkBytes nbr lost)) (s.sh.gt + u))
      k (s.sh.gt + u) hv1 hv2 (linkOf_lt src.isLt nbr.isLt _)
    refine ⟨_, rfl, s.withSh_lanesKept _, (s.sh.received_regsBut _ _ _ _).openSeen (by decide) (by decide) _ _, hv, ha, hb, hsplit, ?_⟩
    rw [State.withSh_sh, Shared.openSeen_opens, State.withSh_sh, Shared.received_ring, RingHw.hear_opens]
  case openOwn =>
    have hserves' := (s.ringServes_received p (.of dst.toNat src.toNat 0x03 (linkBytes nbr lost)) (s.sh.gt + u)).trans hserves
    rw [exec_ringOpen hserves hdst, State.openFrame_eq _ hserves', if_pos ⟨hnbr, hsrc⟩, State.enterWrap_of_found]
    case hlost => rwa [State.withSh_sh, Shared.openSeen_lost]
    exact ⟨_, rfl, State.enteredWrap_effect _ _ ((s.sh.received_regsBut _ _ _ _).openSeen (by decide) (by decide) _ _) (by decide)⟩
  case probeFound =>
    rw [exec_ringProbe hserves hdst, State.probeFrame_of_found _ (by simpa using hlost)]
    refine ⟨_, rfl, s.withSh_lanesKept _, rfl, ?_, ?_⟩
    · exact RingHw.hear_of_probe _ _ _ _ _ (RingFrame.of_type [] (by omega) src.isLt (by decide))
    · rw [State.withSh_sh, Shared.received_ring, RingHw.hear_rep, s.sh.takesOut_of [] (by omega) src.isLt (by decide)]
      simp
  case probeLost =>
    rw [exec_ringProbe hserves hdst, State.probeFrame_of_lost _ (by simpa using hserves) (by simpa using hlost), State.leaveWrap_of_open]
    case hclosed =>
      rw [State.withSh_sh, Shared.probeCounted_closed, State.withSh_sh, Shared.received_ring, RingHw.hear_closed, hclosed]
    have hheard : (s.sh.received p (.of dst.toNat src.toNat 0x04 []) (s.sh.gt + u)).ring.probes p = s.sh.ring.probes p :=
      RingHw.hear_probes_of_probe _ _ _ _ _ (RingFrame.of_type [] (by omega) src.isLt (by decide)) p
    refine ⟨_, rfl, s.withSh_lanesKept _, Shared.probeCounted_regs .., ?_, fun hthird => ?_⟩
    · rw [State.withSh_sh, Shared.probeCounted_probes, State.withSh_sh, hheard]
    · have hanswer := Shared.probeCounted_third _ p (s.sh.gt + u) (hheard.trans hthird)
      rw [Shared.received_hold, Shared.received_ring, RingHw.hear_owed, Shared.linkData, Shared.received_neighbour,
        Shared.received_raddr] at hanswer
      exact hanswer
  case probeBack =>
    rw [exec_ringProbe hserves hdst, State.probeFrame_of_lost _ (by simpa using hserves) (by simpa using hlost), State.leaveWrap_of_back]
    case hlost => simpa [Shared.on_probeCounted] using hlost
    case hclosed => simpa [Shared.probeCounted_closed] using hclosed
    case hprobes =>
      rw [State.withSh_sh, Shared.probeCounted_probes, State.withSh_sh, Shared.received_ring,
        RingHw.hear_probes_of_probe _ _ _ _ _ (RingFrame.of_type [] (by omega) src.isLt (by decide))]
      omega
    exact ⟨_, rfl, State.leftWrap_effect _ _ ((s.sh.received_regsBut _ _ _ _).trans
      (Shared.regsBut_of_regs_eq _ (Shared.probeCounted_regs _ _ _))) (by decide)⟩
  case closedOther =>
    intro k hv ha hb
    have hserves' := (s.ringServes_received p (.of dst.toNat src.toNat 0x05 (linkBytes nbr lost)) (s.sh.gt + u)).trans hserves
    rw [exec_ringClosed hserves hdst, State.closedFrame_eq _ hserves', if_neg (fun h => hnbr h.1)]
    obtain ⟨hgone, hsplit⟩ := Shared.closedSeen_first (s.sh.received p (.of dst.toNat src.toNat 0x05 (linkBytes nbr lost)) (s.sh.gt + u))
      k hv ha hb
    refine ⟨_, rfl, s.withSh_lanesKept _, (s.sh.received_regsBut _ _ _ _).closedSeen (by decide) (by decide) _, hgone, hsplit, ?_⟩
    rw [State.withSh_sh, Shared.closedSeen_ring, State.withSh_sh, Shared.received_ring, RingHw.hear_opens]
  case closedOwn =>
    have hserves' := (s.ringServes_received p (.of dst.toNat src.toNat 0x05 (linkBytes nbr lost)) (s.sh.gt + u)).trans hserves
    rw [exec_ringClosed hserves hdst, State.closedFrame_eq _ hserves', if_pos ⟨hnbr, hsrc⟩, State.leaveWrap_of_back]
    case hlost => rwa [State.withSh_sh, Shared.on_setRing, Shared.closedSeen_lost]
    case hprobes =>
      rw [State.withSh_sh, Shared.setRing_ring, RingHw.probes_setClosed, Shared.closedSeen_probes, State.withSh_sh, Shared.received_ring]
      exact hprobes.trans (RingHw.hear_probes_of_third _ _ _ _ _ _ hprobes).ge
    case hclosed =>
      rw [State.withSh_sh, Shared.setRing_ring, RingHw.closed_setClosed]
    exact ⟨_, rfl, State.leftWrap_effect _ _ (((s.sh.received_regsBut _ _ _ _).closedSeen (by decide) (by decide) _).setRing _) (by decide)⟩
  case timer =>
    refine ⟨_, congrArg Host.Outcome.next (State.probeTimer_of_due _ hserves hhold hwrap hdue), s.withSh_lanesKept _, rfl, ?_, ?_⟩
    · cases p <;> rfl
    · cases p <;> rfl
  case bypass =>
    obtain ⟨hbypass, hholder, hclaiming⟩ := s.sh.bypassClosed_on
    rw [exec_ringDisTimeout_of_late hdis hlate, State.bypassClose_of_open _ hopen]
    refine ⟨_, rfl, ?_, State.ringRec_lane_regs _ _ _ _ .A, State.ringRec_lane_regs _ _ _ _ .B, ?_⟩
    · exact Shared.regsBut.trans s.sh.bypassClosed_regsBut (Shared.regsBut_of_regs_eq _ (State.ringRec_regs _ _ _ _))
    · rw [State.on_ringRec, State.on_ringRec, State.on_ringRec]
      exact ⟨hbypass, hholder, hclaiming⟩

end Sys2Proof.Machine
end

section
/-! The commands of the control engine (R229, R237, R240) at their effect boundary: the answer in CTRL_CMDST, the outcome, and what a
command that ends DONE leaves for the next period start of its loop. -/

namespace Sys2Proof.Machine

/-! ### The working state of a loop -/

@[simp] theorem Lane.loop_setLoop_same (l : Lane) (n : Nat) (w : LoopWork) : (l.setLoop n w).loop n = w := Trie.at_upd_same ..

theorem Lane.loop_of_loops_eq {l m : Lane} (h : m.loops = l.loops) (n : Nat) : m.loop n = l.loop n := by
  rw [Lane.loop, h, ← Lane.loop]

/-! ### The answer in CTRL_CMDST -/

/-- The lane with the command and its status in CTRL_CMDST. -/
def Lane.ctrlAnswered (op n st : Nat) (l : Lane) : Lane := (l.ctrlNote op n).setF CTRL_CMDST CTRL_CMDST_STATUS st

section
variable (op n st : Nat) (l : Lane)

theorem Lane.ctrlNote_rd_ne {k : Nat} (hk : k % 2 ^ 20 ≠ CTRL_CMDST % 2 ^ 20) : (l.ctrlNote op n).rd k = l.rd k := by
  rw [Lane.ctrlNote, Lane.rd_setF_ne _ _ _ _ _ hk, Lane.rd_setF_ne _ _ _ _ _ hk]

theorem Lane.ctrlAnswered_fld_ne {k : Nat} (hk : k % 2 ^ 20 ≠ CTRL_CMDST % 2 ^ 20) (f : Fld) :
    (l.ctrlAnswered op n st).fld k f = l.fld k f :=
  (Lane.fld_setF_ne _ _ _ _ _ _ hk).trans (Lane.fld_of_rd (l.ctrlNote_rd_ne op n hk) f)

theorem Lane.ctrlAnswered_loops : (l.ctrlAnswered op n st).loops = l.loops := rfl

theorem Lane.ctrlAnswered_regsBut {ks : List Nat} (hks : CTRL_CMDST ∈ ks) : l.regsBut ks (l.ctrlAnswered op n st) :=
  (((Lane.regsBut.refl ks l).setF (by decide) hks _ _).setF (by decide) hks _ _).setF (by decide) hks _ _

theorem Lane.ctrlAnswered_status (hst : st < 4) : (l.ctrlAnswered op n st).fld CTRL_CMDST CTRL_CMDST_STATUS = st := by
  rw [Lane.ctrlAnswered, Lane.fld_setF_same _ _ _ _ (by decide)]
  exact Nat.mod_eq_of_lt hst

theorem Lane.ctrlAnswered_lastOp (hop : op < 256) : (l.ctrlAnswered op n st).fld CTRL_CMDST CTRL_CMDST_LAST_OP = op := by
  rw [Lane.ctrlAnswered, Lane.fld_setF_field _ _ _ _ _ (by decide), Lane.ctrlNote, Lane.fld_setF_field _ _ _ _ _ (by decide),
    Lane.fld_setF_same _ _ _ _ (by decide)]
  exact Nat.mod_eq_of_lt hop

theorem Lane.ctrlAnswered_lastLoop (hn : n < 32) : (l.ctrlAnswered op n st).fld CTRL_CMDST CTRL_CMDST_LAST_LOOP = n := by
  rw [Lane.ctrlAnswered, Lane.fld_setF_field _ _ _ _ _ (by decide), Lane.ctrlNote, Lane.fld_setF_same _ _ _ _ (by decide)]
  exact Nat.mod_eq_of_lt hn

end

/-! ### The outcome of a command (R229, R240) -/

theorem Lane.loopSet_lt (l : Lane) (n : Nat) : l.loopSet n < 2 := l.fld_lt _ CTRL_ST_SET

section
variable {n : Nat} {v : F32} (arg : Nat) (l : Lane)

theorem Lane.ctrlStatus_lt (op : Nat) : l.ctrlStatus op n arg v < 4 := by
  unfold Lane.ctrlStatus
  split
  · decide
  · split <;> decide

/-- The outcome does not hang on what CTRL_CMDST holds. -/
theorem Lane.ctrlStatus_ctrlNote (op : Nat) : (l.ctrlNote op n).ctrlStatus op n arg v = l.ctrlStatus op n arg v := by
  have hrd {k : Nat} (hk : k % 64 ≠ 2) : (l.ctrlNote op n).rd k = l.rd k :=
    l.ctrlNote_rd_ne op n (by unfold CTRL_CMDST; omega)
  have hfld {k : Nat} (hk : k % 64 ≠ 2) (f : Fld) : (l.ctrlNote op n).fld k f = l.fld k f := Lane.fld_of_rd (hrd hk) f
  have hcfg (m : Nat) (f : Fld) := hfld (k := CTRL_CFG m) (by unfold CTRL_CFG; omega) f
  have hdst (m d : Nat) (f : Fld) := hfld (k := CTRL_DST m d) (by unfold CTRL_DST; omega) f
  have hst (f : Fld) := hfld (k := CTRL_ST n) (by unfold CTRL_ST; omega) f
  have hset : l.fld (CTRL_ST n) CTRL_ST_SET < 2 := l.loopSet_lt n
  have hlo := hrd (k := CTRL_OLO n (l.fld (CTRL_ST n) CTRL_ST_SET)) (by unfold CTRL_OLO; omega)
  have hhi := hrd (k := CTRL_OHI n (l.fld (CTRL_ST n) CTRL_ST_SET)) (by unfold CTRL_OHI; omega)
  simp only [Lane.ctrlStatus, Lane.ctrlInvalid, Lane.ctrlRefused, Lane.loopType, Lane.loopMode, Lane.loopSet, Lane.loopNextMode,
    Lane.namedBy, Lane.dkind, Lane.didx, Lane.on, hcfg, hdst, hst, hlo, hhi, hrd (k := CTRL_ST n) (by unfold CTRL_ST; omega),
    hrd (k := CTRL_SPLO n) (by unfold CTRL_SPLO; omega), hrd (k := CTRL_SPHI n) (by unfold CTRL_SPHI; omega)]
  rfl

variable {l}

theorem Lane.ctrlStatus_setMode {arg : Nat} (htype : l.loopType n ≠ 0) (harg : arg ≤ 2) (hmode : l.loopNextMode n ≠ arg)
    (hcas : arg = mCas → l.loopType n = 3 ∧ (l.namedBy 3 n).isSome = true)
    (hpv : arg ≠ mMan → l.on (CTRL_ST n) CTRL_ST_PVBAD = false) : l.ctrlStatus 1 n arg v = stDone := by
  have hvalid : l.ctrlInvalid 1 n arg v = false := by simpa [Lane.ctrlInvalid, htype] using harg
  have hpv' : arg ≠ mMan → CTRL_ST_PVBAD.on (l.rd (CTRL_ST n)) = false := hpv
  have hallowed : l.ctrlRefused 1 n arg = false := by simpa [Lane.ctrlRefused, hmode] using ⟨hcas, hpv'⟩
  simp [Lane.ctrlStatus, hvalid, hallowed]

theorem Lane.ctrlStatus_setSp (htype : l.loopType n ∉ [0, 2]) (hfin : F32.isFin v = true)
    (hlo : F32.lt v (l.rd (CTRL_SPLO n)) = false) (hhi : F32.gt v (l.rd (CTRL_SPHI n)) = false) (hmode : l.loopNextMode n ≠ mCas)
    (htrk : l.loopNextMode n = mMan → l.on (CTRL_CFG n) CTRL_CFG_SPTRK = false) : l.ctrlStatus 2 n 0 v = stDone := by
  obtain ⟨hoff, hratio⟩ : l.loopType n ≠ 0 ∧ l.loopType n ≠ 2 := by simpa using htype
  have hvalid : l.ctrlInvalid 2 n 0 v = false := by simp [Lane.ctrlInvalid, hoff, hfin, hlo, hhi]
  have hallowed : l.ctrlRefused 2 n 0 = false := by simpa [Lane.ctrlRefused, hratio, hmode] using htrk
  simp [Lane.ctrlStatus, hvalid, hallowed]

theorem Lane.ctrlStatus_setOut (htype : l.loopType n ≠ 0) (hfin : F32.isFin v = true)
    (hlo : F32.lt v (l.rd (CTRL_OLO n (l.loopSet n))) = false) (hhi : F32.gt v (l.rd (CTRL_OHI n (l.loopSet n))) = false)
    (hmode : l.loopNextMode n = mMan) : l.ctrlStatus 3 n 0 v = stDone := by
  have hvalid : l.ctrlInvalid 3 n 0 v = false := by simp [Lane.ctrlInvalid, htype, hfin, hlo, hhi]
  have hallowed : l.ctrlRefused 3 n 0 = false := by simp [Lane.ctrlRefused, hmode]
  simp [Lane.ctrlStatus, hvalid, hallowed]

theorem Lane.ctrlStatus_selSet {arg : Nat} (htype : l.loopType n ≠ 0) (harg : arg ≤ 1) (hset : l.loopSet n ≠ arg)
    (hswap : l.on (CTRL_ST n) CTRL_ST_SWAP_PEND = false) : l.ctrlStatus 4 n arg v = stDone := by
  have hvalid : l.ctrlInvalid 4 n arg v = false := by simpa [Lane.ctrlInvalid, htype] using harg
  have hswap' : CTRL_ST_SWAP_PEND.on (l.rd (CTRL_ST n)) = false := hswap
  have hallowed : l.ctrlRefused 4 n arg = false := by simp [Lane.ctrlRefused, hset, hswap']
  simp [Lane.ctrlStatus, hvalid, hallowed]

end

/-! ### The row -/

section
variable {s : State} {i : LaneId} {op n arg : Nat} {v : F32}

theorem State.ctrlRow_lane (hcomputes : (s.lane i).computes = true) :
    (s.ctrlRow op n arg v).lane i = ((s.lane i).ctrlNote op n).ctrlCmd op n arg v := by
  rw [State.ctrlRow, State.both_lane, if_pos hcomputes]

theorem State.ctrlRow_lane_done (hcomputes : (s.lane i).computes = true) (hst : (s.lane i).ctrlStatus op n arg v = stDone) :
    (s.ctrlRow op n arg v).lane i = ((s.lane i).ctrlAnswered op n stDone).ctrlQueue op n arg v := by
  rw [State.ctrlRow_lane hcomputes, Lane.ctrlCmd, Lane.ctrlStatus_ctrlNote, hst]
  rfl

/-- A command turned away: the answer, the event, and no other change. -/
theorem State.ctrlRow_lane_turnedAway (hcomputes : (s.lane i).computes = true) (hst : (s.lane i).ctrlStatus op n arg v ≠ stDone) :
    (s.ctrlRow op n arg v).lane i = ((s.lane i).ctrlAnswered op n ((s.lane i).ctrlStatus op n arg v)).ev evCtrlRefused := by
  rw [State.ctrlRow_lane hcomputes, Lane.ctrlCmd, Lane.ctrlStatus_ctrlNote, if_neg hst]
  rfl

theorem State.ctrlRow_turnedAway (hcomputes : (s.lane i).computes = true) (hst : (s.lane i).ctrlStatus op n arg v ≠ stDone) :
    (s.lane i).regsBut [CTRL_CMDST] ((s.ctrlRow op n arg v).lane i) ∧
      ((s.ctrlRow op n arg v).lane i).fld CTRL_CMDST CTRL_CMDST_STATUS = (s.lane i).ctrlStatus op n arg v ∧
      ((s.ctrlRow op n arg v).lane i).raised = (s.lane i).raised ||| evBit evCtrlRefused ∧
      ((s.ctrlRow op n arg v).lane i).loops = (s.lane i).loops := by
  rw [State.ctrlRow_lane_turnedAway hcomputes hst, Lane.fld_ev]
  exact ⟨((s.lane i).ctrlAnswered_regsBut op n _ (List.mem_singleton_self _)).of_regs_eq (Lane.ev_regs ..),
    Lane.ctrlAnswered_status op n _ _ ((s.lane i).ctrlStatus_lt arg op), rfl, rfl⟩

end

/-! ### A command that waits for the next period start -/

section
variable {op n arg : Nat} {v : F32} (l : Lane) (hn : n < 32)

/-- A command other than SEL_SET: PEND, and the command at the end of those that wait. -/
theorem Lane.ctrlQueue_of_ne (hop : op ≠ 4) : l.ctrlQueue op n arg v =
    (l.setB (CTRL_ST n) CTRL_ST_PEND true).setLoop n { l.loop n with cmds := (l.loop n).cmds ++ [⟨op, arg, v⟩] } := if_neg hop

theorem Lane.ctrlQueue_loop (hop : op ≠ 4) :
    (l.ctrlQueue op n arg v).loop n = { l.loop n with cmds := (l.loop n).cmds ++ [⟨op, arg, v⟩] } := by
  rw [Lane.ctrlQueue_of_ne _ hop, Lane.loop_setLoop_same]

theorem Lane.ctrlQueue_swapTo : ((l.ctrlQueue 4 n arg v).loop n).swapTo = arg :=
  congrArg LoopWork.swapTo (Lane.loop_setLoop_same (l.setB (CTRL_ST n) CTRL_ST_PEND true) n _)

/-- Of the registers, a command that waits moves PEND and SWAP_PEND of its loop alone. -/
theorem Lane.ctrlQueue_regs : (l.ctrlQueue op n arg v).regs = (if op = 4 then (l.setB (CTRL_ST n) CTRL_ST_PEND true).setB (CTRL_ST n)
    CTRL_ST_SWAP_PEND true else l.setB (CTRL_ST n) CTRL_ST_PEND true).regs := by
  unfold Lane.ctrlQueue
  split <;> rfl

variable {l} in
include hn in
theorem Lane.regsBut.ctrlQueue {ks : List Nat} {m : Lane} (hm : l.regsBut ks m) (hks : CTRL_ST n ∈ ks) :
    l.regsBut ks (m.ctrlQueue op n arg v) := by
  have hkey : CTRL_ST n < 2 ^ 20 := by unfold CTRL_ST; omega
  have hpend : l.regsBut ks (m.setB (CTRL_ST n) CTRL_ST_PEND true) := hm.setF hkey hks _ _
  refine Lane.regsBut.of_regs_eq ?_ m.ctrlQueue_regs
  split
  · exact hpend.setF hkey hks _ _
  · exact hpend

theorem Lane.ctrlQueue_fld_field {f : Fld} (hpend : fldsApart f CTRL_ST_PEND) (hswap : fldsApart f CTRL_ST_SWAP_PEND) :
    (l.ctrlQueue op n arg v).fld (CTRL_ST n) f = l.fld (CTRL_ST n) f := by
  have hkept : (l.setB (CTRL_ST n) CTRL_ST_PEND true).fld (CTRL_ST n) f = l.fld (CTRL_ST n) f := Lane.fld_setF_field _ _ _ _ _ hpend
  rw [Lane.fld_of_regs_eq l.ctrlQueue_regs]
  split
  · exact (Lane.fld_setF_field _ _ _ _ _ hswap).trans hkept
  · exact hkept

theorem Lane.ctrlQueue_pend : (l.ctrlQueue op n arg v).on (CTRL_ST n) CTRL_ST_PEND = true := by
  rw [Lane.on_of_regs_eq l.ctrlQueue_regs]
  split
  · rw [Lane.on_setB_field _ _ _ _ _ (by decide), Lane.on_setB_same _ _ _ _ (by decide)]
  · rw [Lane.on_setB_same _ _ _ _ (by decide)]

theorem Lane.ctrlQueue_swapPend : (l.ctrlQueue 4 n arg v).on (CTRL_ST n) CTRL_ST_SWAP_PEND = true := by
  rw [Lane.on_of_regs_eq l.ctrlQueue_regs, if_pos rfl, Lane.on_setB_same _ _ _ _ (by decide)]

include hn in
theorem Lane.ctrlQueue_fld_CMDST (f : Fld) : (l.ctrlQueue op n arg v).fld CTRL_CMDST f = l.fld CTRL_CMDST f :=
  ((Lane.regsBut.refl [CTRL_ST n] l).ctrlQueue hn (List.mem_singleton_self _)).fld (by decide)
    (by simp only [List.mem_singleton, CTRL_CMDST, CTRL_ST]; omega) f

end

/-! ### The rows -/

section
variable {s : State} {i : LaneId} {op n arg : Nat} {v : F32} (hcomputes : (s.lane i).computes = true)
  (hst : (s.lane i).ctrlStatus op n arg v = stDone) (hn : n < 32)
include hcomputes hst

theorem State.ctrlRow_pend : ((s.ctrlRow op n arg v).lane i).on (CTRL_ST n) CTRL_ST_PEND = true := by
  rw [State.ctrlRow_lane_done hcomputes hst, Lane.ctrlQueue_pend]

/-- A command other than SEL_SET waits behind those that wait. -/
theorem State.ctrlRow_loop (hop : op ≠ 4) : ((s.ctrlRow op n arg v).lane i).loop n =
    { (s.lane i).loop n with cmds := ((s.lane i).loop n).cmds ++ [⟨op, arg, v⟩] } := by
  rw [State.ctrlRow_lane_done hcomputes hst, Lane.ctrlQueue_loop _ hop, Lane.loop_of_loops_eq (Lane.ctrlAnswered_loops ..)]

/-- A command that ends DONE leaves what the loop holds in CTRL_ST, but for PEND and SWAP_PEND. -/
theorem State.ctrlRow_fld_field {f : Fld} (hpend : fldsApart f CTRL_ST_PEND) (hswap : fldsApart f CTRL_ST_SWAP_PEND) :
    ((s.ctrlRow op n arg v).lane i).fld (CTRL_ST n) f = (s.lane i).fld (CTRL_ST n) f := by
  rw [State.ctrlRow_lane_done hcomputes hst, Lane.ctrlQueue_fld_field _ hpend hswap,
    Lane.ctrlAnswered_fld_ne _ _ _ _ (by unfold CTRL_ST CTRL_CMDST; omega)]

include hn

theorem State.ctrlRow_regsBut : (s.lane i).regsBut [CTRL_CMDST, CTRL_ST n] ((s.ctrlRow op n arg v).lane i) := by
  rw [State.ctrlRow_lane_done hcomputes hst]
  exact ((s.lane i).ctrlAnswered_regsBut op n stDone (by simp)).ctrlQueue hn (by simp)

theorem State.ctrlRow_fld_CMDST (f : Fld) :
    ((s.ctrlRow op n arg v).lane i).fld CTRL_CMDST f = ((s.lane i).ctrlAnswered op n stDone).fld CTRL_CMDST f := by
  rw [State.ctrlRow_lane_done hcomputes hst, Lane.ctrlQueue_fld_CMDST _ hn]

theorem State.ctrlRow_status : ((s.ctrlRow op n arg v).lane i).fld CTRL_CMDST CTRL_CMDST_STATUS = 0 :=
  (State.ctrlRow_fld_CMDST hcomputes hst hn _).trans (Lane.ctrlAnswered_status _ _ _ _ (by decide))

end

theorem exec_of_ctrlCommand {n : BitVec 5} {arg : BitVec 8} {v w : Word} {c : Instr} {op : Nat} (s : State)
    (hc : (c, op, w) ∈ [(.setMode n arg, 1, 0#32), (.setSp n arg v, 2, v), (.setOut n arg v, 3, v), (.selSet n arg, 4, 0#32)]) :
    exec c s = .next (s.ctrlRow op n.toNat arg.toNat w) := by
  simp only [List.mem_cons, Prod.mk.injEq, List.not_mem_nil, or_false] at hc
  obtain ⟨rfl, rfl, rfl⟩ | ⟨rfl, rfl, rfl⟩ | ⟨rfl, rfl, rfl⟩ | ⟨rfl, rfl, rfl⟩ := hc <;> rfl

/-- Settles O20: each command by its outcome, the answer in CTRL_CMDST, and what waits for the next period start of its loop. -/
theorem controlCommands : Obligations.ControlCommands := by
  refine ⟨fun n arg s i hcomputes htype harg hmode hcas hpv => ?setMode,
    fun n v s i hcomputes hfin hlo hhi htype hmode htrk => ?setSp, fun n v s i hcomputes hfin hlo hhi htype hmode => ?setOut,
    fun n arg s i hcomputes harg htype hset hswap => ?selSet, fun n arg v s i c op w hcomputes hc haway => ?turnedAway⟩
  case setMode =>
    have hst := Lane.ctrlStatus_setMode (v := 0#32) htype harg hmode hcas hpv
    have hcmdst := State.ctrlRow_fld_CMDST hcomputes hst n.isLt
    exact ⟨_, rfl, s.both_sharedKept _, State.ctrlRow_regsBut hcomputes hst n.isLt, State.ctrlRow_status hcomputes hst n.isLt,
      (hcmdst _).trans (Lane.ctrlAnswered_lastOp _ _ _ _ (by decide)), (hcmdst _).trans (Lane.ctrlAnswered_lastLoop _ _ _ _ n.isLt),
      State.ctrlRow_pend hcomputes hst, State.ctrlRow_fld_field hcomputes hst (by decide) (by decide),
      congrArg LoopWork.cmds (State.ctrlRow_loop hcomputes hst (by decide))⟩
  case setSp =>
    have hst := Lane.ctrlStatus_setSp htype hfin hlo hhi hmode htrk
    exact ⟨_, rfl, s.both_sharedKept _, State.ctrlRow_regsBut hcomputes hst n.isLt, State.ctrlRow_status hcomputes hst n.isLt,
      State.ctrlRow_pend hcomputes hst, congrArg LoopWork.cmds (State.ctrlRow_loop hcomputes hst (by decide))⟩
  case setOut =>
    have hst := Lane.ctrlStatus_setOut htype hfin hlo hhi hmode
    exact ⟨_, rfl, s.both_sharedKept _, State.ctrlRow_regsBut hcomputes hst n.isLt, State.ctrlRow_status hcomputes hst n.isLt,
      State.ctrlRow_pend hcomputes hst, congrArg LoopWork.cmds (State.ctrlRow_loop hcomputes hst (by decide))⟩
  case selSet =>
    have hst := Lane.ctrlStatus_selSet (v := 0#32) htype harg hset hswap
    refine ⟨_, rfl, s.both_sharedKept _, State.ctrlRow_regsBut hcomputes hst n.isLt, State.ctrlRow_status hcomputes hst n.isLt, ?_,
      State.ctrlRow_fld_field hcomputes hst (by decide) (by decide), ?_⟩
    · rw [State.ctrlRow_lane_done hcomputes hst, Lane.ctrlQueue_swapPend]
    · rw [State.ctrlRow_lane_done hcomputes hst, Lane.ctrlQueue_swapTo]
  case turnedAway =>
    exact ⟨_, exec_of_ctrlCommand s hc, s.both_sharedKept _, State.ctrlRow_turnedAway hcomputes haway⟩

end Sys2Proof.Machine
end

section
/-! A period of a control loop (R217, R220): what its steps move of the lane, and what one evaluation leaves. -/

namespace Sys2Proof.Machine

/-! ### What the steps of a period move -/

/-- The registers of the values of a loop. -/
abbrev loopVals (n : Nat) : List Nat := [CTRL_PV n, CTRL_SP n, CTRL_OUT n, CTRL_I n, CTRL_DVAL n 0, CTRL_DVAL n 1]

/-- The status registers of a loop. -/
abbrev loopRegs (n : Nat) : List Nat := CTRL_ST n :: loopVals n

/-- The fields of CTRL_ST that the computation of a period moves. -/
abbrev loopStFlds : List Fld := [CTRL_ST_MODE, CTRL_ST_PVBAD, CTRL_ST_TRACK, CTRL_ST_SAT_HI, CTRL_ST_SAT_LO, CTRL_ST_SET,
  CTRL_ST_SWAP_PEND, CTRL_ST_OVF, CTRL_ST_RSBAD, CTRL_ST_SUBST, CTRL_ST_INITP]

/-- The fields of CTRL_ST that a period start moves once: PEND as it takes the commands, PCNT as it ends. -/
abbrev loopCountFlds : List Fld := [CTRL_ST_PEND, CTRL_ST_PCNT]

/-- Of the registers the status registers of loop `n` alone may differ, PEND and PCNT stand, and the commands that wait stand. -/
structure Lane.loopMoved (n : Nat) (l m : Lane) : Prop where
  regs : l.regsBut (loopRegs n) m
  counted : ∀ f ∈ loopCountFlds, m.fld (CTRL_ST n) f = l.fld (CTRL_ST n) f
  cmds : (m.loop n).cmds = (l.loop n).cmds

theorem CTRL_ST_lt {n : Nat} (hn : n < 32) : CTRL_ST n < 2 ^ 20 := by unfold CTRL_ST; omega

theorem loopVals_bounds {n k : Nat} (hn : n < 32) (hk : k ∈ loopVals n) : CTRL_ST n < k ∧ k < 2 ^ 20 := by
  simp only [loopVals, List.mem_cons, List.not_mem_nil, or_false, CTRL_PV, CTRL_SP, CTRL_OUT, CTRL_I, CTRL_DVAL] at hk
  unfold CTRL_ST
  omega

/-- The fields that a period moves share no bit with PEND and PCNT. -/
theorem get_put_loopStFlds {f g : Fld} (hf : f ∈ loopCountFlds) (hg : g ∈ loopStFlds) (v : Nat) (w : Word) :
    f.get (g.put v w) = f.get w :=
  Fld.get_put_apart ((by decide : ∀ f ∈ loopCountFlds, ∀ g ∈ loopStFlds, fldsApart f g) f hf g hg) v w

theorem Lane.loopFilter_cmds (l : Lane) (n : Nat) (pv : F32) (w : LoopWork) (h : F32) : (l.loopFilter n pv w h).2.cmds = w.cmds := by
  unfold Lane.loopFilter
  simp only [apply_ite Prod.snd, apply_ite LoopWork.cmds, ite_self]

namespace Lane.loopMoved

variable {n : Nat} {l m k : Lane}

theorem refl (n : Nat) (l : Lane) : l.loopMoved n l := ⟨.refl _ l, fun _ _ => rfl, rfl⟩

theorem ite {c : Prop} [Decidable c] (hm : l.loopMoved n m) (hk : l.loopMoved n k) : l.loopMoved n (if c then m else k) := by
  split
  · exact hm
  · exact hk

theorem setLoop (hm : l.loopMoved n m) {w : LoopWork} (hw : w.cmds = (m.loop n).cmds) : l.loopMoved n (m.setLoop n w) :=
  ⟨hm.regs.of_regs_eq rfl, hm.counted, by rw [Lane.loop_setLoop_same, hw, hm.cmds]⟩

theorem record (hm : l.loopMoved n m) (code g : Nat) (p0 p1 p2 p3 : Word) (rank : Nat) :
    l.loopMoved n (m.record code g p0 p1 p2 p3 rank) :=
  ⟨hm.regs.of_regs_eq rfl, hm.counted, hm.cmds⟩

theorem ev (hm : l.loopMoved n m) (e : Nat) : l.loopMoved n (m.ev e) := ⟨hm.regs.of_regs_eq rfl, hm.counted, hm.cmds⟩

/-- A loop fault makes its record and raises its event. -/
theorem iteFault (hm : l.loopMoved n m) (c : Prop) [Decidable c] (code g : Nat) (p0 p1 p2 p3 : Word) (rank e : Nat) :
    l.loopMoved n (if c then (m.record code g p0 p1 p2 p3 rank).ev e else m) := .ite ((hm.record ..).ev e) hm

section
variable (hm : l.loopMoved n m) (hn : n < 32)
include hm hn

theorem wrVal {j : Nat} (hj : j ∈ loopVals n) (w : Word) : l.loopMoved n (m.wr j w) := by
  obtain ⟨hst, hlt⟩ := loopVals_bounds hn hj
  refine ⟨hm.regs.wr hlt (List.mem_cons_of_mem _ hj) w, fun f hf => ?_, hm.cmds⟩
  rw [Lane.fld_wr_ne _ _ _ _ _ (by rw [Nat.mod_eq_of_lt hlt, Nat.mod_eq_of_lt (CTRL_ST_lt hn)]; exact hst.ne), hm.counted f hf]

/-- CTRL_ST written in fields that a period moves. -/
theorem wrSt {w : Word} (hw : ∀ f ∈ loopCountFlds, f.get w = f.get (m.rd (CTRL_ST n))) :
    l.loopMoved n (m.wr (CTRL_ST n) w) := by
  refine ⟨hm.regs.wr (CTRL_ST_lt hn) List.mem_cons_self w, fun f hf => ?_, hm.cmds⟩
  rw [Lane.fld_wr_same, hw f hf]
  exact hm.counted f hf

theorem loopGo (g mode : Nat) (bad : Bool) (cause : Nat) : l.loopMoved n (m.loopGo g n mode bad cause) := by
  have hst : l.loopMoved n (m.wr (CTRL_ST n) (CTRL_ST_MODE.put mode (CTRL_ST_PVBAD.put bad.toNat (m.rd (CTRL_ST n))))) :=
    hm.wrSt hn fun f hf => by rw [get_put_loopStFlds hf (by simp), get_put_loopStFlds hf (by simp)]
  exact .ite hst ((hst.record ..).ev _)

theorem loopFlags (track hi lo ovf rs sub : Bool) : l.loopMoved n (m.loopFlags n track hi lo ovf rs sub) :=
  hm.wrSt hn fun f hf => by simp (disch := decide) only [get_put_loopStFlds hf]

theorem loopSwap (g : Nat) (out : F32) : l.loopMoved n (m.loopSwap g n out) := by
  unfold Lane.loopSwap
  extract_lets
  refine .ite hm (record (wrSt (wrVal (hm.setLoop (by rfl)) hn (by simp) _) hn fun f hf => ?_) ..)
  rw [get_put_loopStFlds hf (by simp), get_put_loopStFlds hf (by simp)]

theorem loopDests : l.loopMoved n (m.loopDests n) := by
  unfold Lane.loopDests
  extract_lets
  exact wrVal (wrVal (hm.setLoop (by rfl)) hn (by simp) _) hn (by simp) _

theorem loopHeld : l.loopMoved n (m.loopHeld n) := (hm.wrVal hn (by simp) _).loopFlags hn ..

theorem loopCompute (g : Nat) (pv : F32) (bump init sub : Bool) : l.loopMoved n (m.loopCompute g n pv bump init sub) := by
  unfold Lane.loopCompute
  extract_lets
  refine iteFault (loopFlags ?_ hn ..) ..
  exact wrVal (wrVal (wrVal (wrVal (hm.setLoop (by exact Lane.loopFilter_cmds ..)) hn (by simp) _) hn (by simp) _) hn (by simp) _) hn (by simp) _

theorem loopRun (g : Nat) (bump : Bool) : l.loopMoved n (m.loopRun g n bump) := by
  unfold Lane.loopRun
  extract_lets k s bad usable pv first init l' mode was e p w l₁ first' safe out
  have hinit : l.loopMoved n l' :=
    .ite (wrSt (hm.setLoop (by rfl)) hn fun f hf => get_put_loopStFlds hf (by simp) _ _) hm
  refine .ite ?_ ((hinit.loopGo hn ..).loopCompute hn ..)
  have hfirst : l.loopMoved n first' :=
    .ite (wrVal (wrVal (hinit.setLoop (by rfl)) hn (by simp) _) hn (by simp) _) hinit
  have hout : l.loopMoved n out := .ite (hfirst.wrVal hn (by simp) _) hfirst
  exact (hout.loopGo hn ..).loopHeld hn

omit hm in
theorem loopCmd {x : Lane × Bool} (hx : l.loopMoved n x.1) (g : Nat) (c : LoopCmd) : l.loopMoved n (Lane.loopCmd g n x c).1 := by
  unfold Lane.loopCmd
  extract_lets
  split
  · exact loopGo (.ite (hx.setLoop (by rfl)) hx) hn ..
  · exact hx.setLoop (by rfl)
  · exact hx.wrVal hn (by simp) _
  · exact hx

end

end Lane.loopMoved

/-! ### One evaluation (R220) -/

/-- The lane with the commands that wait for loop `n` taken, and whether i is to be formed from the held output (step 2). -/
def Lane.loopTaken (l : Lane) (g n : Nat) : Lane × Bool := (l.loop n).cmds.foldl (Lane.loopCmd g n) (l, false)

/-- PEND of loop `n` cleared, and no command waits. -/
def Lane.loopCleared (l : Lane) (n : Nat) : Lane :=
  (l.setB (CTRL_ST n) CTRL_ST_PEND false).setLoop n { (l.setB (CTRL_ST n) CTRL_ST_PEND false).loop n with cmds := [] }

/-- Steps 3 to 6 after the commands of the period. -/
def Lane.loopComputed (l : Lane) (g n : Nat) (out : F32) (bump : Bool) : Lane := ((l.loopSwap g n out).loopRun g n bump).loopDests n

/-- The period counted, and its evaluation marked. -/
def Lane.loopCounted (l : Lane) (n : Nat) : Lane := (l.setLoop n { l.loop n with done := true }).wrap (CTRL_ST n) CTRL_ST_PCNT

theorem Lane.loopEval_eq (l : Lane) (g n : Nat) : l.loopEval g n =
    (((l.loopTaken g n).1.loopCleared n).loopComputed g n (l.rd (CTRL_OUT n)) (l.loopTaken g n).2).loopCounted n := rfl

section
variable (l : Lane) (n : Nat)

theorem Lane.loopCleared_pend : (l.loopCleared n).fld (CTRL_ST n) CTRL_ST_PEND = 0 := Lane.fld_setF_same _ _ _ _ (by decide)

theorem Lane.loopCleared_pcnt : (l.loopCleared n).fld (CTRL_ST n) CTRL_ST_PCNT = l.fld (CTRL_ST n) CTRL_ST_PCNT :=
  Lane.fld_setF_field _ _ _ _ _ (by decide)

theorem Lane.loopCleared_cmds : ((l.loopCleared n).loop n).cmds = [] := by
  rw [Lane.loopCleared, Lane.loop_setLoop_same]

theorem Lane.loopCounted_pend : (l.loopCounted n).fld (CTRL_ST n) CTRL_ST_PEND = l.fld (CTRL_ST n) CTRL_ST_PEND :=
  Lane.fld_setF_field _ _ _ _ _ (by decide)

theorem Lane.loopCounted_pcnt : (l.loopCounted n).fld (CTRL_ST n) CTRL_ST_PCNT = (l.fld (CTRL_ST n) CTRL_ST_PCNT + 1) % 65536 :=
  Lane.fld_wrap_same _ _ _ (by decide)

theorem Lane.loopCounted_loop : (l.loopCounted n).loop n = { l.loop n with done := true } := Lane.loop_setLoop_same ..

end

section
variable {l m : Lane} {n : Nat} (hm : l.regsBut (loopRegs n) m) (hn : n < 32)
include hm hn

theorem Lane.regsBut.loopCleared : l.regsBut (loopRegs n) (m.loopCleared n) :=
  (hm.setF (CTRL_ST_lt hn) List.mem_cons_self CTRL_ST_PEND _).of_regs_eq rfl

theorem Lane.regsBut.loopCounted : l.regsBut (loopRegs n) (m.loopCounted n) :=
  Lane.regsBut.setF (m := m.setLoop n _) (hm.of_regs_eq rfl) (CTRL_ST_lt hn) List.mem_cons_self _ _

end

section
variable {n : Nat} (l : Lane) (g : Nat) (hn : n < 32)
include hn

theorem Lane.loopTaken_moved : l.loopMoved n (l.loopTaken g n).1 :=
  List.foldlRecOn (motive := fun x : Lane × Bool => l.loopMoved n x.1) _ _ (.refl n l) fun _ hx c _ => hx.loopCmd hn g c

theorem Lane.loopComputed_moved (out : F32) (bump : Bool) : l.loopMoved n (l.loopComputed g n out bump) :=
  (((Lane.loopMoved.refl n l).loopSwap hn g out).loopRun hn g bump).loopDests hn

/-- One evaluation: the commands that wait are taken and PEND clears, and the computation leaves PEND and PCNT until the period counts. -/
theorem Lane.loopEval_effect : l.regsBut (loopRegs n) (l.loopEval g n) ∧
    (l.loopEval g n).fld (CTRL_ST n) CTRL_ST_PCNT = (l.fld (CTRL_ST n) CTRL_ST_PCNT + 1) % 65536 ∧
    (l.loopEval g n).on (CTRL_ST n) CTRL_ST_PEND = false ∧ ((l.loopEval g n).loop n).cmds = [] ∧
    ((l.loopEval g n).loop n).done = true := by
  have htaken := l.loopTaken_moved g hn
  have hcomputed := ((l.loopTaken g n).1.loopCleared n).loopComputed_moved g hn (l.rd (CTRL_OUT n)) (l.loopTaken g n).2
  rw [Lane.loopEval_eq, Lane.loopCounted_pcnt, Lane.on, Lane.loopCounted_pend, Lane.loopCounted_loop]
  refine ⟨((htaken.regs.loopCleared hn).trans hcomputed.regs).loopCounted hn, ?_, ?_, ?_, rfl⟩
  · rw [hcomputed.counted _ (by simp), Lane.loopCleared_pcnt, htaken.counted _ (by simp)]
  · rw [hcomputed.counted _ (by simp), Lane.loopCleared_pend]
    rfl
  · exact hcomputed.cmds.trans (Lane.loopCleared_cmds ..)

end

theorem Lane.loopStep_of_due {l : Lane} {g n : Nat} (hdue : l.loopDue n g = true) (hdone : (l.loop n).done = false) :
    l.loopStep g n = l.loopEval g n := by
  simp [Lane.loopStep, hdue, hdone]

/-- Phase 3 with nothing left of it. -/
theorem Lane.phase3_of_late_nil {l : Lane} (hlate : l.cut.late = []) : l.phase3 = l := by
  simp only [Lane.phase3, hlate, List.foldl_nil]
  rw [← hlate]

/-! ### Time-proportioned outputs (R236) -/

section
variable {l : Lane} {g n d : Nat}

theorem Lane.tpCycle_of_due (hdue : l.tpDue n d g = true) (hnew : (l.tps.at {} (2 * n + d)).doneAt ≠ g) :
    l.tpCycle g n d = l.tpStart g n d := by
  simp [Lane.tpCycle, hdue, hnew]

theorem Lane.tpStart_tps (l : Lane) : (l.tpStart g n d).tps.at {} (2 * n + d) =
    let on := tpOn (l.vAt g n d) (l.fld (CTRL_DST n d) CTRL_DST_TPP) (l.fld (CTRL_DST n d) CTRL_DST_MINP)
    { begun := true, offAt := g + on * 1000000, on := on != 0, doneAt := g } := Trie.at_upd_same ..

theorem Lane.tpEnd_on (l : Lane) : ((l.tpEnd n d).tps.at {} (2 * n + d)).on = false :=
  congrArg TpWork.on (Trie.at_upd_same ..)

theorem Lane.tpEnds_of_on (hon : (l.tps.at {} (2 * n + d)).on = true) (hoff : (l.tps.at {} (2 * n + d)).offAt = g) :
    l.tpEnds n d g = true := by
  simp [Lane.tpEnds, hon, hoff]

end

/-- The minimum on-time (R236): the output is off, on for the whole cycle, or on and off for at least MINP each. -/
theorem tpOn_bounds (v : F32) (tpp minp : Nat) : tpOn v tpp minp = 0 ∨ tpOn v tpp minp = tpp * 100 ∨
    (minp ≤ tpOn v tpp minp ∧ tpOn v tpp minp + minp ≤ tpp * 100) := by
  unfold tpOn
  extract_lets t
  obtain hshort | hmin := lt_or_ge t minp
  · exact .inl (if_pos hshort)
  · rw [if_neg hmin.not_gt]
    split <;> omega

/-- Settles O21: the evaluation of a due loop, the cycle and the end of a time-proportioned output, and the bounds of its on-time. -/
theorem loopRows : Obligations.LoopRows := by
  refine ⟨fun n s i hcomputes hdue hdone => ?period, fun n d s i hcomputes hdue hdue' hnew => ?cycle,
    fun n d s i hcomputes hon hoff => ?onTime, tpOn_bounds⟩
  case period =>
    refine ⟨_, rfl, s.both_sharedKept _, Lane.phase3_of_late_nil, ?_⟩
    rw [State.both_lane, if_pos hcomputes, Lane.loopStep_of_due hdue hdone]
    exact Lane.loopEval_effect _ _ n.isLt
  case cycle =>
    refine ⟨_, rfl, s.both_sharedKept _, ?_⟩
    rw [State.both_lane, if_pos hcomputes, if_pos hdue, Lane.tpCycle_of_due hdue' hnew, Lane.tpStart_tps]
  case onTime =>
    refine ⟨_, rfl, s.both_sharedKept _, ?_⟩
    rw [State.both_lane, if_pos hcomputes, if_pos (Lane.tpEnds_of_on hon hoff)]
    exact ⟨rfl, Lane.tpEnd_on _⟩

end Sys2Proof.Machine
end

section
/-! Flags and working state of a loop output in a lane (R265), and its HART channel: what is read back, and what a flag of AO_ST moves. -/

namespace Sys2Proof.Machine

/-! ### The working state of an output and of its HART channel -/

@[simp] theorem Lane.ao_setAo_same (l : Lane) (n : Nat) (w : AoWork) : (l.setAo n w).ao n = w := Trie.at_upd_same ..

@[simp] theorem Lane.hart_setHart_same (l : Lane) (n : Nat) (w : HartWork) : (l.setHart n w).hart n = w := Trie.at_upd_same ..

@[simp] theorem Shared.ao_setAo_same (h : Shared) (n : Nat) (w : AoHw) : (h.setAo n w).ao n = w := Trie.at_upd_same ..

theorem Shared.ao_setAo_ne (h : Shared) {n k : Nat} (w : AoHw) (hk : n % 4096 ≠ k % 4096) : (h.setAo k w).ao n = h.ao n :=
  Trie.at_upd_ne _ _ _ _ _ hk

theorem AO_ST_lt {n : Nat} (hn : n < 24) : AO_ST n < 2 ^ 20 := by
  unfold AO_ST
  omega

/-- AO_ST of a channel and AO_CMDST are two registers. -/
theorem AO_ST_ne_CMDST {n : Nat} (hn : n < 24) : AO_ST n % 2 ^ 20 ≠ AO_CMDST % 2 ^ 20 := by
  unfold AO_ST AO_CMDST
  omega

/-! ### Fields read after a change of their register -/

theorem Lane.regsBut.setB {ks : List Nat} {l m : Lane} {k : Nat} (hm : l.regsBut ks m) (hk : k < 2 ^ 20) (hks : k ∈ ks) (f : Fld)
    (v : Bool) : l.regsBut ks (m.setB k f v) :=
  hm.setF hk hks f v.toNat

theorem Lane.regsBut.bump {ks : List Nat} {l m : Lane} {k : Nat} (hm : l.regsBut ks m) (hk : k < 2 ^ 20) (hks : k ∈ ks) (f : Fld) :
    l.regsBut ks (m.bump k f) :=
  hm.setF hk hks f _

theorem Lane.fld_bump_same (l : Lane) (k : Nat) (f : Fld) (hf : f.lo + f.width ≤ 32) :
    (l.bump k f).fld k f = min (2 ^ f.width - 1) (l.fld k f + 1) := by
  have hpos : 0 < 2 ^ f.width := by positivity
  rw [Lane.bump, Lane.fld_setF_same _ _ _ _ hf, Nat.mod_eq_of_lt (by omega)]

/-! ### A flag of AO_ST (R265) -/

section
variable {l : Lane} (g : Nat) {n bit : Nat} {v : Bool}

/-- A flag that changes is set, and its change makes a record. -/
theorem Lane.aoFlag_of_ne (hchange : l.on (AO_ST n) ⟨bit, 1⟩ ≠ v) :
    ∃ p1 p2, l.aoFlag g n bit v =
      let m := (l.setB (AO_ST n) ⟨bit, 1⟩ v).record 0x0601 g (w32 (n + 256 * bit + 65536 * b2n v)) p1 p2 0#32 n
      if v then m.ev (evAoFault n) else m := by
  unfold Lane.aoFlag
  dsimp only
  rw [if_neg (by simpa using hchange)]
  exact ⟨_, _, rfl⟩

theorem Lane.aoFlag_regs (hchange : l.on (AO_ST n) ⟨bit, 1⟩ ≠ v) :
    (l.aoFlag g n bit v).regs = (l.setB (AO_ST n) ⟨bit, 1⟩ v).regs := by
  obtain ⟨p1, p2, heq⟩ := Lane.aoFlag_of_ne g hchange
  rw [heq]
  cases v <;> rfl

theorem Lane.aoFlag_formed (hchange : l.on (AO_ST n) ⟨bit, 1⟩ ≠ v) :
    ∃ f, (l.aoFlag g n bit v).formed = l.formed ++ [f] ∧ f.r.code = 0x0601 ∧ f.r.p0 = w32 (n + 256 * bit + 65536 * b2n v) := by
  obtain ⟨p1, p2, heq⟩ := Lane.aoFlag_of_ne g hchange
  rw [heq]
  cases v <;> exact ⟨_, rfl, rfl, rfl⟩

theorem Lane.aoFlag_on (hchange : l.on (AO_ST n) ⟨bit, 1⟩ ≠ v) (hbit : bit < 32) :
    (l.aoFlag g n bit v).on (AO_ST n) ⟨bit, 1⟩ = v := by
  rw [Lane.on_of_regs_eq (Lane.aoFlag_regs g hchange), Lane.on_setB_same _ _ ⟨bit, 1⟩ _ ⟨hbit, rfl⟩]

theorem Lane.regsBut.aoFlag {ks : List Nat} {k : Lane} (hl : k.regsBut ks l) (hn : n < 24) (hks : AO_ST n ∈ ks)
    (hchange : l.on (AO_ST n) ⟨bit, 1⟩ ≠ v) : k.regsBut ks (l.aoFlag g n bit v) :=
  (hl.setB (AO_ST_lt hn) hks _ v).of_regs_eq (Lane.aoFlag_regs g hchange)

end

end Sys2Proof.Machine
end

section
/-! The commands of the loop outputs (R269, R270) at their effect boundary: the answer in AO_CMDST, the outcome, and what a command that
ends DONE leaves in the lane and in the stage. -/

namespace Sys2Proof.Machine

/-! ### The answer in AO_CMDST -/

/-- The lane with the command and its status in AO_CMDST. -/
def Lane.aoAnswered (op n st : Nat) (l : Lane) : Lane := (l.aoNote op n).setF AO_CMDST AO_CMDST_STATUS st

section
variable (op n st : Nat) (l : Lane)

theorem Lane.aoNote_rd_ne {k : Nat} (hk : k % 2 ^ 20 ≠ AO_CMDST % 2 ^ 20) : (l.aoNote op n).rd k = l.rd k := by
  rw [Lane.aoNote, Lane.rd_setF_ne _ _ _ _ _ hk, Lane.rd_setF_ne _ _ _ _ _ hk]

theorem Lane.aoAnswered_rd_ne {k : Nat} (hk : k % 2 ^ 20 ≠ AO_CMDST % 2 ^ 20) : (l.aoAnswered op n st).rd k = l.rd k := by
  rw [Lane.aoAnswered, Lane.rd_setF_ne _ _ _ _ _ hk, Lane.aoNote_rd_ne op n l hk]

/-- A flag of a channel stands. -/
theorem Lane.aoAnswered_on_ST {m : Nat} (hm : m < 24) (f : Fld) : (l.aoAnswered op n st).on (AO_ST m) f = l.on (AO_ST m) f :=
  Lane.on_of_rd (l.aoAnswered_rd_ne op n st (AO_ST_ne_CMDST hm)) f

/-- The request in HRT_TX stands. -/
theorem Lane.aoAnswered_hartCount (m : Nat) :
    (l.aoAnswered op n st).bufByte (HRT_TX m 0) 1 = l.bufByte (HRT_TX m 0) 1 :=
  congrArg (fun w : Word => (w >>> 8).setWidth 8) (l.aoAnswered_rd_ne op n st (by simp only [HRT_TX, AO_CMDST]; omega))

theorem Lane.aoAnswered_regsBut {ks : List Nat} (hks : AO_CMDST ∈ ks) : l.regsBut ks (l.aoAnswered op n st) :=
  (((Lane.regsBut.refl ks l).setF (by decide) hks _ _).setF (by decide) hks _ _).setF (by decide) hks _ _

theorem Lane.aoAnswered_status (hst : st < 4) : (l.aoAnswered op n st).fld AO_CMDST AO_CMDST_STATUS = st := by
  rw [Lane.aoAnswered, Lane.fld_setF_same _ _ _ _ (by decide)]
  exact Nat.mod_eq_of_lt hst

theorem Lane.aoAnswered_lastOp (hop : op < 256) : (l.aoAnswered op n st).fld AO_CMDST AO_CMDST_LAST_OP = op := by
  rw [Lane.aoAnswered, Lane.fld_setF_field _ _ _ _ _ (by decide), Lane.aoNote, Lane.fld_setF_field _ _ _ _ _ (by decide),
    Lane.fld_setF_same _ _ _ _ (by decide)]
  exact Nat.mod_eq_of_lt hop

theorem Lane.aoAnswered_lastCh (hn : n < 32) : (l.aoAnswered op n st).fld AO_CMDST AO_CMDST_LAST_CH = n := by
  rw [Lane.aoAnswered, Lane.fld_setF_field _ _ _ _ _ (by decide), Lane.aoNote, Lane.fld_setF_same _ _ _ _ (by decide)]
  exact Nat.mod_eq_of_lt hn

theorem Lane.aoNote_sameDiscipline : l.sameDiscipline (l.aoNote op n) := ⟨rfl, rfl, rfl⟩

end

/-! ### The outcome of a command (R269, R270) -/

section
variable {op n arg : Nat} {v : F32} (l : Lane)

theorem Lane.aoStatus_of_invalid (hinvalid : aoInvalid op n arg v = true) : l.aoStatus op n arg v = stInvalid := if_pos hinvalid

theorem Lane.aoStatus_of_valid (hvalid : aoInvalid op n arg v = false) :
    l.aoStatus op n arg v = if l.aoRefused op n arg then stRefused else stDone :=
  if_neg (by simp [hvalid])

/-- The outcome does not hang on what AO_CMDST holds. -/
theorem Lane.aoStatus_aoNote (hn : n < 24) : (l.aoNote op n).aoStatus op n arg v = l.aoStatus op n arg v := by
  have hrd {k : Nat} (hk : k % 4 ≠ 2) : (l.aoNote op n).rd k = l.rd k := l.aoNote_rd_ne op n (by unfold AO_CMDST; omega)
  have hfld {k : Nat} (hk : k % 4 ≠ 2) (f : Fld) : (l.aoNote op n).fld k f = l.fld k f := Lane.fld_of_rd (hrd hk) f
  have hloop (m : Nat) (f : Fld) := hfld (k := CTRL_CFG m) (by unfold CTRL_CFG; omega) f
  have hdst (m d : Nat) (f : Fld) := hfld (k := CTRL_DST m d) (by unfold CTRL_DST; omega) f
  have hcfg (f : Fld) := hfld (k := AO_CFG n) (by unfold AO_CFG; omega) f
  have htx := hrd (k := HRT_TX n 0) (by unfold HRT_TX; omega)
  simp only [Lane.aoStatus, Lane.aoRefused, Lane.namedBy, Lane.loopType, Lane.dkind, Lane.didx, Lane.on, Lane.bufByte, hloop, hdst,
    hcfg, l.aoNote_rd_ne op n (AO_ST_ne_CMDST hn), Nat.add_zero, Nat.reduceDiv, htx]
  rfl

theorem aoInvalid_of_channel (hn : 23 < n) : aoInvalid op n arg v = true := by simp [aoInvalid, hn]

theorem aoInvalid_setMa (hn : n < 24) (hfin : F32.isFin v = true) (hlo : F32.lt v 0#32 = false)
    (hhi : F32.gt v (F32.ofRat 24 1) = false) : aoInvalid 1 n 0 v = false := by
  have hch : ¬ 23 < n := by omega
  simp [aoInvalid, hch, hfin, hlo, hhi]

variable {l}

theorem Lane.aoStatus_setMa (hvalid : aoInvalid 1 n 0 v = false) (hmode : l.aoMode n ≠ 0) (hfree : l.namedBy 1 n = none) :
    l.aoStatus 1 n 0 v = stDone := by
  have hon : AO_ST_MODE.get (l.rd (AO_ST n)) ≠ 0 := hmode
  have hallowed : l.aoRefused 1 n 0 = false := by simp [Lane.aoRefused, hon, hfree]
  rw [Lane.aoStatus_of_valid _ hvalid, hallowed]
  rfl

/-- SET_MA on a channel that is off. -/
theorem Lane.aoStatus_setMa_off (hvalid : aoInvalid 1 n 0 v = false) (hmode : l.aoMode n = 0) : l.aoStatus 1 n 0 v = stRefused := by
  have hoff : AO_ST_MODE.get (l.rd (AO_ST n)) = 0 := hmode
  have hrefused : l.aoRefused 1 n 0 = true := by simp [Lane.aoRefused, hoff]
  rw [Lane.aoStatus_of_valid _ hvalid, hrefused]
  rfl

theorem Lane.aoStatus_forceFail (hn : n < 24) (harg : arg ≤ 1) (hmode : l.aoMode n ≠ 0)
    (hforced : l.fld (AO_ST n) AO_ST_FORCED ≠ arg) : l.aoStatus 2 n arg v = stDone := by
  have hon : AO_ST_MODE.get (l.rd (AO_ST n)) ≠ 0 := hmode
  have hother : AO_ST_FORCED.get (l.rd (AO_ST n)) ≠ arg := hforced
  have hvalid : aoInvalid 2 n arg v = false := by
    have hch : ¬ 23 < n := by omega
    simp [aoInvalid, hch, harg]
  have hallowed : l.aoRefused 2 n arg = false := by simp [Lane.aoRefused, hon, hother]
  rw [Lane.aoStatus_of_valid _ hvalid, hallowed]
  rfl

/-- CLEAR_THERM hangs on the latch alone. -/
theorem Lane.aoStatus_clearTherm (hn : n < 24) :
    l.aoStatus 3 n 0 v = if l.on (AO_ST n) AO_ST_TLATCH then stDone else stRefused := by
  have hvalid : aoInvalid 3 n 0 v = false := by
    have hch : ¬ 23 < n := by omega
    simp [aoInvalid, hch]
  have hrefused : l.aoRefused 3 n 0 = !l.on (AO_ST n) AO_ST_TLATCH := rfl
  rw [Lane.aoStatus_of_valid _ hvalid, hrefused]
  cases l.on (AO_ST n) AO_ST_TLATCH <;> rfl

theorem Lane.aoStatus_hartSend (hn : n < 24) (hhart : l.on (AO_CFG n) AO_CFG_HART_EN = true) (hmode : l.aoMode n ≠ 0)
    (hq : (l.hart n).hostQ = none) (hcur : (l.hart n).cur = none) (hcnt : (l.bufByte (HRT_TX n 0) 1).toNat ≤ 64) :
    l.aoStatus 0x10 n 0 v = stDone := by
  have hon : AO_ST_MODE.get (l.rd (AO_ST n)) ≠ 0 := hmode
  have hvalid : aoInvalid 0x10 n 0 v = false := by
    have hch : ¬ 23 < n := by omega
    simp [aoInvalid, hch]
  have hallowed : l.aoRefused 0x10 n 0 = false := by simpa [Lane.aoRefused, hhart, hon, hq, hcur] using hcnt
  rw [Lane.aoStatus_of_valid _ hvalid, hallowed]
  rfl

end

/-! ### The row -/

/-- What a lane shows of CLEAR_THERM that ended DONE: the latch off in the status that phase 3 has taken (R260). -/
def Lane.aoShown (g op n : Nat) (l : Lane) : Lane :=
  if op = 3 && l.fld AO_CMDST AO_CMDST_STATUS = stDone then l.aoFlag g n 5 false else l

section
variable {op n arg : Nat} {v : F32} (l : Lane)

theorem Lane.aoCmd_done (hst : (l.aoNote op n).aoStatus op n arg v = stDone) :
    (l.aoNote op n).aoCmd op n arg v = (l.aoAnswered op n stDone).aoEffect op n arg v := by
  rw [Lane.aoCmd, hst]
  rfl

theorem Lane.aoCmd_turnedAway {st : Nat} (hst : (l.aoNote op n).aoStatus op n arg v = st) (hne : st ≠ stDone) :
    (l.aoNote op n).aoCmd op n arg v = (l.aoAnswered op n st).ev evAoRefused := by
  rw [Lane.aoCmd, hst, if_neg hne]
  rfl

theorem Lane.aoEffect_computes : (l.aoEffect op n arg v).computes = l.computes := by
  unfold Lane.aoEffect
  split <;> rfl

theorem Lane.aoCmd_computes : (l.aoCmd op n arg v).computes = l.computes := by
  unfold Lane.aoCmd
  dsimp only
  split
  · exact Lane.aoEffect_computes _
  · rfl

theorem Lane.aoShown_of_ne (g : Nat) (hop : op ≠ 3) : l.aoShown g op n = l := if_neg (by simp [hop])

end

section
variable {s : State} {i : LaneId} {op n arg : Nat} {v : F32}

/-- No AO command moves a register of the stage at its row. -/
theorem State.aoRow_sh_regs : (s.aoRow op n arg v).sh.regs = s.sh.regs := by
  rw [State.aoRow, State.both_sh, State.aoCmd, State.withSh_sh, State.both_sh]
  have heffect : (s.sh.aoEffect op n).regs = s.sh.regs := by
    unfold Shared.aoEffect
    split <;> rfl
  split
  · exact heffect
  · rfl

theorem State.aoRow_lane (hcomputes : (s.lane i).computes = true) :
    (s.aoRow op n arg v).lane i = (((s.lane i).aoNote op n).aoCmd op n arg v).aoShown s.sh.gt op n := by
  have hnoted : ((s.lane i).aoNote op n).computes = true := hcomputes
  have hdone : (((s.lane i).aoNote op n).aoCmd op n arg v).computes = true := by rw [Lane.aoCmd_computes, hnoted]
  rw [State.aoRow, State.both_lane, State.aoCmd, State.withSh_lane, State.both_lane, State.both_lane, if_pos hcomputes, if_pos hnoted,
    if_pos hdone]
  rfl

/-- A command turned away: the answer, the event, and no other change. -/
theorem State.aoRow_lane_turnedAway (hcomputes : (s.lane i).computes = true) {st : Nat}
    (hst : ((s.lane i).aoNote op n).aoStatus op n arg v = st) (hne : st ≠ stDone) (hlt : st < 4) :
    (s.aoRow op n arg v).lane i = ((s.lane i).aoAnswered op n st).ev evAoRefused := by
  have hshown : ¬ (op = 3 && ((s.lane i).aoAnswered op n st).fld AO_CMDST AO_CMDST_STATUS = stDone) := by
    simp [Lane.aoAnswered_status op n st _ hlt, hne]
  rw [State.aoRow_lane hcomputes, Lane.aoCmd_turnedAway _ hst hne]
  exact if_neg hshown

theorem State.aoRow_turnedAway (hcomputes : (s.lane i).computes = true) {st : Nat}
    (hst : ((s.lane i).aoNote op n).aoStatus op n arg v = st) (hne : st ≠ stDone) (hlt : st < 4) :
    (s.lane i).regsBut [AO_CMDST] ((s.aoRow op n arg v).lane i) ∧
      ((s.aoRow op n arg v).lane i).fld AO_CMDST AO_CMDST_STATUS = st ∧
      ((s.aoRow op n arg v).lane i).raised = (s.lane i).raised ||| evBit evAoRefused ∧
      ((s.aoRow op n arg v).lane i).ao n = (s.lane i).ao n := by
  rw [State.aoRow_lane_turnedAway hcomputes hst hne hlt]
  exact ⟨((s.lane i).aoAnswered_regsBut op n st (List.mem_singleton_self _)).of_regs_eq (Lane.ev_regs ..),
    Lane.aoAnswered_status op n st _ hlt, rfl, rfl⟩

section
variable (hcomputes : (s.lane i).computes = true) (hn : n < 24) (hst : (s.lane i).aoStatus op n arg v = stDone)
include hcomputes hn hst

theorem State.aoRow_lane_done (hop : op ≠ 3) :
    (s.aoRow op n arg v).lane i = ((s.lane i).aoAnswered op n stDone).aoEffect op n arg v := by
  rw [State.aoRow_lane hcomputes, Lane.aoShown_of_ne _ _ hop, Lane.aoCmd_done _ ((Lane.aoStatus_aoNote _ hn).trans hst)]

/-- The stage follows the leading lane. -/
theorem State.aoRow_sh_done (hlead : s.lead = s.lane i) : (s.aoRow op n arg v).sh = s.sh.aoEffect op n := by
  have hnoted : (s.both (Lane.aoNote op n)).lead.aoStatus op n arg v = stDone := by
    rw [State.both_lead (Lane.aoNote_sameDiscipline op n) (hlead ▸ hcomputes), hlead, Lane.aoStatus_aoNote _ hn, hst]
  rw [State.aoRow, State.both_sh, State.aoCmd, State.withSh_sh, State.both_sh, if_pos hnoted]

end

/-- CLEAR_THERM that ends DONE: the answer, and the latch off in the status. -/
theorem State.clearTherm_lane (hcomputes : (s.lane i).computes = true) (hn : n < 24)
    (hst : (s.lane i).aoStatus 3 n arg v = stDone) :
    (s.aoRow 3 n arg v).lane i = ((s.lane i).aoAnswered 3 n stDone).aoFlag s.sh.gt n 5 false := by
  have heffect : ((s.lane i).aoAnswered 3 n stDone).aoEffect 3 n arg v = (s.lane i).aoAnswered 3 n stDone := rfl
  rw [State.aoRow_lane hcomputes, Lane.aoCmd_done _ ((Lane.aoStatus_aoNote _ hn).trans hst), heffect]
  exact if_pos (by simp [Lane.aoAnswered_status 3 n stDone _ (by decide)])

end

/-! ### HART_SEND (R270) -/

/-- The request that HART_SEND takes: the command byte, the count, and as many bytes as the count says. -/
def Lane.hartSent (l : Lane) (n : Nat) : List Byte :=
  (upTo ((l.bufByte (HRT_TX n 0) 1).toNat + 2)).map (l.bufByte (HRT_TX n 0))

theorem Lane.hartSent_length (l : Lane) (n : Nat) : (l.hartSent n).length = (l.bufByte (HRT_TX n 0) 1).toNat + 2 := by
  simp [Lane.hartSent, upTo]

section
variable (l : Lane) {n arg : Nat} {v : F32} (hn : n < 24)

theorem Lane.hartSend_eq : l.aoEffect 0x10 n arg v = ((l.setHart n { l.hart n with hostQ := some (l.hartSent n) }).setF (HRT_ST n)
    HRT_ST_TSTAT 1).setB (AO_ST n) AO_ST_HART_BUSY true := rfl

theorem Lane.hartSend_busy : (l.aoEffect 0x10 n arg v).on (AO_ST n) AO_ST_HART_BUSY = true := by
  rw [Lane.hartSend_eq, Lane.on_setB_same _ _ _ _ (by decide)]

theorem Lane.hartSend_hostQ : ((l.aoEffect 0x10 n arg v).hart n).hostQ = some (l.hartSent n) :=
  congrArg HartWork.hostQ (Lane.hart_setHart_same l n _)

theorem Lane.hartSend_tstat : (l.aoEffect 0x10 n arg v).fld (HRT_ST n) HRT_ST_TSTAT = 1 := by
  rw [Lane.hartSend_eq, Lane.setB, Lane.fld_setF_ne _ _ _ _ _ _ (by unfold HRT_ST AO_ST; omega),
    Lane.fld_setF_same _ _ _ _ (by decide)]
  rfl

include hn in
theorem Lane.hartSend_regsBut : l.regsBut [AO_ST n, HRT_ST n] (l.aoEffect 0x10 n arg v) :=
  Lane.regsBut.setB (Lane.regsBut.setF (Lane.regsBut_of_regs_eq _ rfl) (by unfold HRT_ST; omega) (by simp) _ _) (AO_ST_lt hn)
    (by simp) _ _

end

/-! ### What each command leaves (R260, R270) -/

section
variable {s : State} {i : LaneId} {n arg : Nat} {v : F32} (hcomputes : (s.lane i).computes = true) (hn : n < 24)
include hcomputes hn

theorem State.setMa_row (hst : (s.lane i).aoStatus 1 n arg v = stDone) :
    (s.lane i).regsBut [AO_CMDST] ((s.aoRow 1 n arg v).lane i) ∧ ((s.aoRow 1 n arg v).lane i).fld AO_CMDST AO_CMDST_STATUS = 0 ∧
      ((s.aoRow 1 n arg v).lane i).fld AO_CMDST AO_CMDST_LAST_OP = 1 ∧
      ((s.aoRow 1 n arg v).lane i).fld AO_CMDST AO_CMDST_LAST_CH = n ∧ (((s.aoRow 1 n arg v).lane i).ao n).setMa = some v := by
  rw [State.aoRow_lane_done hcomputes hn hst (by decide)]
  exact ⟨(Lane.aoAnswered_regsBut 1 n stDone _ (List.mem_singleton_self _)).of_regs_eq rfl,
    Lane.aoAnswered_status 1 n stDone _ (by decide), Lane.aoAnswered_lastOp 1 n stDone _ (by decide),
    Lane.aoAnswered_lastCh 1 n stDone _ (by omega), congrArg AoWork.setMa (Lane.ao_setAo_same ..)⟩

theorem State.forceFail_row (harg : arg ≤ 1) (hst : (s.lane i).aoStatus 2 n arg v = stDone) :
    (s.lane i).regsBut [AO_CMDST, AO_ST n] ((s.aoRow 2 n arg v).lane i) ∧
      ((s.aoRow 2 n arg v).lane i).fld AO_CMDST AO_CMDST_STATUS = 0 ∧
      ((s.aoRow 2 n arg v).lane i).fld (AO_ST n) AO_ST_FORCED = arg := by
  rw [State.aoRow_lane_done hcomputes hn hst (by decide)]
  exact ⟨(Lane.aoAnswered_regsBut 2 n stDone _ (by simp)).setF (AO_ST_lt hn) (by simp) _ _,
    (Lane.fld_setF_ne _ _ _ _ _ _ (AO_ST_ne_CMDST hn).symm).trans (Lane.aoAnswered_status 2 n stDone _ (by decide)),
    (Lane.fld_setF_same _ _ _ _ (by decide)).trans (Nat.mod_eq_of_lt (Nat.lt_succ_of_le harg))⟩

/-- CLEAR_THERM: the latch off in AO_ST and in the stage, with the record of the flag. -/
theorem State.clearTherm_row (hlead : s.lead = s.lane i) (hlatch : (s.lane i).on (AO_ST n) AO_ST_TLATCH = true)
    (hst : (s.lane i).aoStatus 3 n arg v = stDone) :
    ∃ f, (s.lane i).regsBut [AO_CMDST, AO_ST n] ((s.aoRow 3 n arg v).lane i) ∧
      ((s.aoRow 3 n arg v).lane i).fld AO_CMDST AO_CMDST_STATUS = 0 ∧ ((s.aoRow 3 n arg v).sh.ao n).tlatch = false ∧
      ((s.aoRow 3 n arg v).lane i).on (AO_ST n) AO_ST_TLATCH = false ∧
      ((s.aoRow 3 n arg v).lane i).formed = (s.lane i).formed ++ [f] ∧ f.r.code = 0x0601 ∧ f.r.p0 = w32 (n + 256 * 5) := by
  have hchange : ((s.lane i).aoAnswered 3 n stDone).on (AO_ST n) ⟨5, 1⟩ ≠ false :=
    ne_false_of_eq_true ((Lane.aoAnswered_on_ST 3 n stDone _ hn AO_ST_TLATCH).trans hlatch)
  obtain ⟨f, hformed, hcode, hp0⟩ := Lane.aoFlag_formed s.sh.gt hchange
  rw [State.clearTherm_lane hcomputes hn hst, State.aoRow_sh_done hcomputes hn hst hlead]
  refine ⟨f, (Lane.aoAnswered_regsBut 3 n stDone _ (by simp)).aoFlag _ hn (by simp) hchange, ?_,
    congrArg AoHw.tlatch (Shared.ao_setAo_same ..), Lane.aoFlag_on _ hchange (by decide), hformed, hcode, hp0⟩
  rw [Lane.fld_of_regs_eq (Lane.aoFlag_regs _ hchange)]
  exact (Lane.fld_setF_ne _ _ _ _ _ _ (AO_ST_ne_CMDST hn).symm).trans (Lane.aoAnswered_status 3 n stDone _ (by decide))

theorem State.hartSend_row (hst : (s.lane i).aoStatus 0x10 n arg v = stDone) :
    ∃ q, (s.lane i).regsBut [AO_CMDST, AO_ST n, HRT_ST n] ((s.aoRow 0x10 n arg v).lane i) ∧
      ((s.aoRow 0x10 n arg v).lane i).fld AO_CMDST AO_CMDST_STATUS = 0 ∧
      ((s.aoRow 0x10 n arg v).lane i).fld (HRT_ST n) HRT_ST_TSTAT = 1 ∧
      ((s.aoRow 0x10 n arg v).lane i).on (AO_ST n) AO_ST_HART_BUSY = true ∧
      (((s.aoRow 0x10 n arg v).lane i).hart n).hostQ = some q ∧
      q.length = ((s.lane i).bufByte (HRT_TX n 0) 1).toNat + 2 := by
  have hanswered := Lane.aoAnswered_regsBut 0x10 n stDone (s.lane i) (ks := [AO_CMDST, AO_ST n, HRT_ST n]) (by simp)
  have hsent := Lane.hartSend_regsBut ((s.lane i).aoAnswered 0x10 n stDone) (arg := arg) (v := v) hn
  have hapart : AO_CMDST ∉ [AO_ST n, HRT_ST n] := by
    simp only [List.mem_pair, AO_CMDST, AO_ST, HRT_ST]
    omega
  rw [State.aoRow_lane_done hcomputes hn hst (by decide)]
  exact ⟨_, hanswered.trans (hsent.mono (List.subset_cons_self _ _)),
    (hsent.fld (by decide) hapart _).trans (Lane.aoAnswered_status 0x10 n stDone _ (by decide)), Lane.hartSend_tstat _,
    Lane.hartSend_busy _, Lane.hartSend_hostQ _, (Lane.hartSent_length ..).trans (by rw [Lane.aoAnswered_hartCount])⟩

end

end Sys2Proof.Machine
end

section
/-! The rows of the loop output stage (R256–R263, R268): the thermal switch-off and its recovery at a boundary, readbacks, and the rows that
move one channel of a lane. -/

namespace Sys2Proof.Machine

/-! ### The thermal limit (R259, R260) -/

@[simp] theorem Shared.fld_setAo (h : Shared) (n : Nat) (w : AoHw) (k : Nat) (f : Fld) : (h.setAo n w).fld k f = h.fld k f := rfl

section
variable (h : Shared) (w : Nat) {n : Nat}

theorem Shared.thermalOff_regsBut (hn : n < 24) : h.regsBut [AO_MON n, AO_CODE n] (h.thermalOff n w) := by
  have hcounted : h.regsBut [AO_MON n, AO_CODE n] (h.bump (AO_MON n) AO_MON_TOFFS) :=
    (Shared.regsBut.refl _ h).setF (by unfold AO_MON; omega) (by simp) _ _
  exact hcounted.wr (by unfold AO_CODE; omega) (by simp) _

theorem Shared.thermalOff_off : (h.thermalOff n w).on (AO_CODE n) AO_CODE_OFF = true := by
  rw [Shared.on, Shared.thermalOff, Shared.fld_setAo, Shared.fld_wr_same]
  decide

theorem Shared.thermalOff_code : (h.thermalOff n w).fld (AO_CODE n) AO_CODE_CODE = 0 := by
  rw [Shared.thermalOff, Shared.fld_setAo, Shared.fld_wr_same]
  decide

theorem Shared.thermalOff_toffs : (h.thermalOff n w).fld (AO_MON n) AO_MON_TOFFS = min 255 (h.fld (AO_MON n) AO_MON_TOFFS + 1) :=
  (Shared.fld_wr_ne _ _ _ _ _ (by unfold AO_MON AO_CODE; omega)).trans (Shared.fld_bump_same _ _ _ (by decide))

theorem Shared.thermalOff_ao : (h.thermalOff n w).ao n =
    let cnt := (if (h.ao n).win = w / 60000000000 then (h.ao n).winTof else 0) + 1
    { h.ao n with toff := true, toffAt := w, cool := false, win := w / 60000000000, winTof := cnt,
                  tlatch := (h.ao n).tlatch || decide (8 ≤ cnt) } := Shared.ao_setAo_same ..

end

/-- TOFF of one channel clears at a boundary where the channel has cooled. -/
def Shared.aoCooled (h : Shared) (n : Nat) : Shared :=
  if (h.ao n).toff && (h.ao n).cool then h.setAo n { h.ao n with toff := false, cool := false } else h

theorem Shared.aoBoundary_eq (h : Shared) : h.aoBoundary = (upTo 24).foldl Shared.aoCooled h := rfl

theorem Shared.aoCooled_toff_same (h : Shared) (n : Nat) : ((h.aoCooled n).ao n).toff = ((h.ao n).toff && !(h.ao n).cool) := by
  unfold Shared.aoCooled
  cases htoff : (h.ao n).toff <;> cases hcool : (h.ao n).cool <;> simp [htoff]

theorem Shared.aoCooled_ao_ne (h : Shared) {n k : Nat} (hn : n < 24) (hk : k < 24) (hne : n ≠ k) : (h.aoCooled k).ao n = h.ao n := by
  unfold Shared.aoCooled
  split
  · exact Shared.ao_setAo_ne _ _ (by omega)
  · rfl

theorem Shared.foldl_aoCooled_ao (h : Shared) {n : Nat} (hn : n < 24) {ks : List Nat} (hks : ∀ k ∈ ks, k < 24) (hnot : n ∉ ks) :
    (ks.foldl Shared.aoCooled h).ao n = h.ao n :=
  List.foldlRecOn (motive := fun g : Shared => g.ao n = h.ao n) ks _ rfl fun g hg k hk =>
    (g.aoCooled_ao_ne hn (hks k hk) fun heq => hnot (heq ▸ hk)).trans hg

/-- Of the channels at a boundary, `n` alone decides its TOFF. -/
theorem Shared.aoBoundary_toff (h : Shared) {n : Nat} (hn : n < 24) :
    (h.aoBoundary.ao n).toff = ((h.ao n).toff && !(h.ao n).cool) := by
  obtain ⟨before, after, hsplit⟩ := List.append_of_mem (List.mem_range.mpr hn)
  have hlt : ∀ k ∈ before ++ n :: after, k < 24 := fun k hk => List.mem_range.mp (hsplit ▸ hk)
  have hnodup : (before ++ n :: after).Nodup := hsplit ▸ List.nodup_range
  obtain ⟨hbefore, hafter⟩ : n ∉ before ∧ n ∉ after := by simpa [not_or] using (List.nodup_middle.mp hnodup).notMem
  rw [Shared.aoBoundary_eq, upTo, hsplit, List.foldl_append, List.foldl_cons,
    Shared.foldl_aoCooled_ao _ hn (fun k hk => hlt k (by simp [hk])) hafter, Shared.aoCooled_toff_same,
    Shared.foldl_aoCooled_ao _ hn (fun k hk => hlt k (by simp [hk])) hbefore]

/-! ### Readbacks (R262) -/

theorem Lane.rbInv_of_lost {l : Lane} (hlost : l.aoLost = true) (n : Nat) : l.rbInv n = true := by simp [Lane.rbInv, hlost]

/-! ### DEV and the mode takeover (R263, R268) -/

section
variable {l : Lane} {g n : Nat}

theorem Lane.devChange_of_due (hdue : (l.ao n).devDue = true) : l.devChange g n =
    (l.aoFlag g n 1 (!l.on (AO_ST n) AO_ST_DEV)).setAo n { l.ao n with devDue := false } := if_pos hdue

/-- A change of DEV that is due: the flag, its record, and nothing due any more. -/
theorem Lane.devChange_effect (hn : n < 24) (hdue : (l.ao n).devDue = true) :
    l.regsBut [AO_ST n] (l.devChange g n) ∧ (l.devChange g n).on (AO_ST n) AO_ST_DEV = !l.on (AO_ST n) AO_ST_DEV ∧
      ((l.devChange g n).ao n).devDue = false ∧ ∃ f, (l.devChange g n).formed = l.formed ++ [f] ∧ f.r.code = 0x0601 ∧
        f.r.p0 = w32 (n + 256 + 65536 * b2n (!l.on (AO_ST n) AO_ST_DEV)) := by
  have hchange : l.on (AO_ST n) ⟨1, 1⟩ ≠ !l.on (AO_ST n) AO_ST_DEV := (Bool.not_ne_self _).symm
  rw [Lane.devChange_of_due hdue]
  exact ⟨((Lane.regsBut.refl _ _).aoFlag _ hn (List.mem_singleton_self _) hchange).of_regs_eq rfl,
    Lane.aoFlag_on _ hchange (by decide), congrArg AoWork.devDue (Lane.ao_setAo_same ..), Lane.aoFlag_formed g hchange⟩

theorem Lane.aoTakeover_of_due (hdue : (l.ao n).takeover = some g) : l.aoTakeover g n =
    (l.setF (AO_ST n) AO_ST_MODE (l.fld (AO_CFG n) AO_CFG_MODE)).setAo n { l.ao n with takeover := none } :=
  if_pos (by simp [hdue])

/-- A takeover that is due: the mode of the image in force, and no takeover waits any more. -/
theorem Lane.aoTakeover_effect (hn : n < 24) (hdue : (l.ao n).takeover = some g) :
    l.regsBut [AO_ST n] (l.aoTakeover g n) ∧ (l.aoTakeover g n).aoMode n = l.fld (AO_CFG n) AO_CFG_MODE ∧
      ((l.aoTakeover g n).ao n).takeover = none := by
  have hmoved := (Lane.regsBut.refl [AO_ST n] l).setF (AO_ST_lt hn) (List.mem_singleton_self _) AO_ST_MODE (l.fld (AO_CFG n) AO_CFG_MODE)
  rw [Lane.aoTakeover_of_due hdue]
  exact ⟨hmoved.of_regs_eq rfl,
    (Lane.fld_setF_same _ _ _ _ (by decide)).trans (Nat.mod_eq_of_lt (Lane.fld_lt _ _ AO_CFG_MODE)),
    congrArg AoWork.takeover (Lane.ao_setAo_same ..)⟩

end

/-- Settles O22: each command by its outcome in the lane and in the stage, and each row of the stage by the operation it carries out. -/
theorem loopOutputRows : Obligations.LoopOutputRows := by
  refine ⟨fun n v s i hcomputes hn hfin hlo hhi hmode hfree => ?setMa, fun n arg s i hcomputes hn harg hmode hforced => ?forceFail,
    fun n s i hcomputes hlead hn hlatch => ?clearTherm, fun n s i hcomputes hn hlatch => ?noLatch,
    fun n s i hcomputes hn hhart hmode hq hcur hcnt => ?hartSend, fun n arg s i hcomputes hn => ?invalid,
    fun n v s i hcomputes hn hfin hlo hhi hmode => ?off, fun n s hon => ?complSet, fun n s => ?complClear, fun n temp s => ?twarn,
    fun n dt s hon => ?thermalOff, fun n temp dt s hoff htemp hwait => ?recovery, fun n pass s i hdue htakes hup => ?check,
    fun i s => ?linkLost, fun n s i hcomputes hdue => ?devChange, fun n s i hcomputes hdue => ?takeover⟩
  case setMa =>
    exact ⟨s.aoRow 1 n.toNat 0 v, rfl, State.aoRow_sh_regs,
      State.setMa_row hcomputes hn (Lane.aoStatus_setMa (aoInvalid_setMa hn hfin hlo hhi) hmode hfree)⟩
  case forceFail =>
    exact ⟨_, rfl, State.aoRow_sh_regs, State.forceFail_row hcomputes hn harg (Lane.aoStatus_forceFail hn harg hmode hforced)⟩
  case clearTherm =>
    obtain ⟨f, hrow⟩ := State.clearTherm_row (v := 0#32) hcomputes hn hlead hlatch ((Lane.aoStatus_clearTherm hn).trans (if_pos hlatch))
    exact ⟨s.aoRow 3 n.toNat 0 0#32, f, rfl, State.aoRow_sh_regs, hrow⟩
  case noLatch =>
    have hst : (s.lane i).aoStatus 3 n.toNat 0 0#32 = stRefused :=
      (Lane.aoStatus_clearTherm hn).trans (if_neg (ne_true_of_eq_false hlatch))
    obtain ⟨hregs, hstatus, hraised, -⟩ :=
      State.aoRow_turnedAway hcomputes ((Lane.aoStatus_aoNote _ hn).trans hst) (by decide) (by decide)
    exact ⟨s.aoRow 3 n.toNat 0 0#32, rfl, State.aoRow_sh_regs, hregs, hstatus, hraised⟩
  case hartSend =>
    obtain ⟨q, hrow⟩ := State.hartSend_row (v := 0#32) hcomputes hn (Lane.aoStatus_hartSend hn hhart hmode hq hcur hcnt)
    exact ⟨s.aoRow 0x10 n.toNat 0 0#32, q, rfl, State.aoRow_sh_regs, hrow⟩
  case invalid =>
    obtain ⟨hregs, hstatus, hraised, -⟩ := State.aoRow_turnedAway (v := 0#32) hcomputes
      (Lane.aoStatus_of_invalid _ (aoInvalid_of_channel hn)) (by decide) (by decide)
    exact ⟨_, rfl, hregs, hstatus, hraised⟩
  case off =>
    have hst := Lane.aoStatus_setMa_off (aoInvalid_setMa hn hfin hlo hhi) hmode
    exact ⟨s.aoRow 1 n.toNat 0 v, rfl,
      State.aoRow_turnedAway hcomputes ((Lane.aoStatus_aoNote _ hn).trans hst) (by decide) (by decide)⟩
  case complSet =>
    have hcarries : ¬ s.sh.aoOff n = true := ne_true_of_eq_false hon
    exact ⟨_, congrArg Host.Outcome.next (if_neg hcarries), s.withSh_lanesKept _, rfl, Shared.ao_setAo_same ..⟩
  case complClear => exact ⟨_, rfl, s.withSh_lanesKept _, rfl, Shared.ao_setAo_same ..⟩
  case twarn =>
    have hregs : s.sh.regsBut [AO_MON n] (s.sh.setF (AO_MON n) AO_MON_TEMP temp.toNat) :=
      (Shared.regsBut.refl _ _).setF (by unfold AO_MON; omega) (List.mem_singleton_self _) _ _
    exact ⟨_, rfl, s.withSh_lanesKept _, hregs, (Shared.fld_setF_same _ _ _ _ (by decide)).trans (Nat.mod_eq_of_lt temp.isLt),
      congrArg AoHw.twarn (Shared.ao_setAo_same ..)⟩
  case thermalOff =>
    refine ⟨s.withSh (s.sh.thermalOff n (s.sh.gt + dt)), congrArg Host.Outcome.next (if_neg (ne_true_of_eq_false hon)),
      s.withSh_lanesKept _, ?_⟩
    rw [State.withSh_sh, Shared.thermalOff_ao]
    exact ⟨Shared.thermalOff_regsBut _ _ n.isLt, rfl, rfl, Shared.thermalOff_off .., Shared.thermalOff_code ..,
      Shared.thermalOff_toffs .., rfl, rfl⟩
  case recovery =>
    refine ⟨s.withSh (s.sh.setAo n { s.sh.ao n with cool := true }), congrArg Host.Outcome.next (if_pos (by simp [hoff, htemp, hwait])),
      s.withSh_lanesKept _, rfl, Shared.ao_setAo_same .., ?_⟩
    rw [State.withSh_sh, Shared.aoBoundary_toff _ n.isLt, Shared.ao_setAo_same]
    exact Bool.and_false _
  case check =>
    refine ⟨s.taking fun l => if l.aoLost then l else l.setAo n { l.ao n with chk := some pass },
      congrArg Host.Outcome.next (if_pos hdue), ⟨rfl, rfl, rfl⟩, ?_⟩
    rw [State.taking_lane, if_pos htakes, if_neg (ne_true_of_eq_false hup)]
    exact ⟨rfl, Lane.ao_setAo_same ..⟩
  case linkLost =>
    refine ⟨_, rfl, s.upd_otherKept i _, State.upd_lane .., fun n => ?_⟩
    rw [State.upd_lane]
    exact Lane.rbInv_of_lost rfl n
  case devChange =>
    refine ⟨_, rfl, s.both_sharedKept _, ?_⟩
    rw [State.both_lane, if_pos hcomputes]
    exact Lane.devChange_effect n.isLt hdue
  case takeover =>
    refine ⟨_, rfl, s.both_sharedKept _, ?_⟩
    rw [State.both_lane, if_pos hcomputes]
    exact Lane.aoTakeover_effect n.isLt hdue

end Sys2Proof.Machine
end

section
/-! HART on the loop outputs (R273–R278): the start of a transaction and its deferral, received frames, an attempt without a response and
the end of a transaction, and a poll that falls due. -/

namespace Sys2Proof.Machine

theorem HRT_ST_lt {n : Nat} (hn : n < 24) : HRT_ST n < 2 ^ 20 := by
  unfold HRT_ST
  omega

theorem HRT_CNT_lt {n : Nat} (hn : n < 24) : HRT_CNT n < 2 ^ 20 := by
  unfold HRT_CNT
  omega

/-- AO_ST and HRT_ST of a channel are two registers. -/
theorem HRT_ST_ne_AO_ST (n : Nat) : HRT_ST n % 2 ^ 20 ≠ AO_ST n % 2 ^ 20 := by
  unfold HRT_ST AO_ST
  omega

/-! ### TSTAT and POLL_RUN (R275, R276) -/

/-- The lane with TSTAT and POLL_RUN of a channel. -/
def Lane.hartShow (l : Lane) (n st : Nat) (poll : Bool) : Lane :=
  l.wr (HRT_ST n) (HRT_ST_TSTAT.put st (HRT_ST_POLL_RUN.put poll.toNat (l.rd (HRT_ST n))))

section
variable (l : Lane) (n : Nat) {st : Nat} (poll : Bool)

theorem Lane.hartShow_tstat (hst : st < 8) : (l.hartShow n st poll).fld (HRT_ST n) HRT_ST_TSTAT = st := by
  rw [Lane.hartShow, Lane.fld_wr_same, Fld.get_put_same _ _ _ (by decide)]
  exact Nat.mod_eq_of_lt hst

theorem Lane.hartShow_pollRun : (l.hartShow n st poll).on (HRT_ST n) HRT_ST_POLL_RUN = poll := by
  rw [Lane.hartShow, Lane.on_of_rd (Lane.rd_wr_same ..), Fld.on_put_apart (by decide), Fld.on_put_same _ _ _ (by decide)]

variable {l n} in
theorem Lane.regsBut.hartShow {ks : List Nat} {m : Lane} (hm : l.regsBut ks m) (hn : n < 24) (hks : HRT_ST n ∈ ks) (st : Nat)
    (poll : Bool) : l.regsBut ks (m.hartShow n st poll) :=
  hm.wr (HRT_ST_lt hn) hks _

end

/-! ### A start and its deferral (R275) -/

/-- The working state of a channel whose transaction `x` starts: what asked for it asks no more. -/
def HartWork.started (w : HartWork) (x : HartTx) : HartWork :=
  let w' := { w with cur := some x, quietFrom := x.endAt }
  if !w.cur.isNone then w'
  else if x.poll then { w' with pollDue := false, defPoll := false }
  else { w' with hostQ := none, defHost := false }

theorem HartWork.started_cur (w : HartWork) (x : HartTx) : (w.started x).cur = some x := by
  simp only [HartWork.started, apply_ite HartWork.cur, ite_self]

/-- A transaction on the line from boundary `g` on. -/
def Lane.hartSending (g : Nat) (l : Lane) (n : Nat) (x : HartTx) : HartTx :=
  { x with live := true, endAt := g + hartChars (l.fld (HRT_CFG n) HRT_CFG_PRE + x.req.length) }

section
variable {l : Lane} {n : Nat} {x : HartTx} (g : Nat)

theorem Lane.hartGo_eq : l.hartGo g n x =
    ((l.setHart n ((l.hart n).started (l.hartSending g n x))).hartShow n 2 x.poll).setB (AO_ST n) AO_ST_HART_BUSY true := rfl

/-- A transaction that starts: TSTAT, POLL_RUN and HART_BUSY, and the transaction on the line. -/
theorem Lane.hartGo_effect (hn : n < 24) : l.regsBut [HRT_ST n, AO_ST n] (l.hartGo g n x) ∧
    (l.hartGo g n x).fld (HRT_ST n) HRT_ST_TSTAT = 2 ∧ (l.hartGo g n x).on (HRT_ST n) HRT_ST_POLL_RUN = x.poll ∧
    (l.hartGo g n x).on (AO_ST n) AO_ST_HART_BUSY = true ∧ ((l.hartGo g n x).hart n).cur = some (l.hartSending g n x) := by
  have hqueued : l.regsBut [HRT_ST n, AO_ST n] (l.setHart n ((l.hart n).started (l.hartSending g n x))) := Lane.regsBut_of_regs_eq _ rfl
  have hcur := congrArg HartWork.cur (Lane.hart_setHart_same l n ((l.hart n).started (l.hartSending g n x)))
  rw [Lane.hartGo_eq]
  exact ⟨(hqueued.hartShow hn (by simp) 2 x.poll).setB (AO_ST_lt hn) (by simp) _ _,
    (Lane.fld_setF_ne _ _ _ _ _ _ (HRT_ST_ne_AO_ST n)).trans (Lane.hartShow_tstat _ _ _ (by decide)),
    (Lane.on_setB_ne _ _ _ _ _ _ (HRT_ST_ne_AO_ST n)).trans (Lane.hartShow_pollRun ..),
    Lane.on_setB_same _ _ _ _ (by decide), hcur.trans (HartWork.started_cur ..)⟩

/-- A deferral that has not been counted: the count, and no other change of a register. -/
theorem Lane.hartDefer_effect (hn : n < 24) (hnew : x.deferred = false) : l.regsBut [HRT_CNT n] (l.hartDefer n x) ∧
    (l.hartDefer n x).fld (HRT_CNT n) HRT_CNT_DEFER = min 255 (l.fld (HRT_CNT n) HRT_CNT_DEFER + 1) := by
  unfold Lane.hartDefer
  extract_lets w w'
  rw [if_neg (ne_true_of_eq_false hnew)]
  exact ⟨Lane.regsBut.bump (Lane.regsBut_of_regs_eq _ rfl) (HRT_CNT_lt hn) (List.mem_singleton_self _) _,
    Lane.fld_bump_same _ _ _ (by decide)⟩

/-- What may start: it is next, the outputs are not held and AOUT is on, the channel is ready, and class C2 is not reduced. -/
structure Lane.hartMayStart (l : Lane) (stop : Bool) (n : Nat) (x : HartTx) : Prop where
  next : l.hartNext n = some x
  released : stop = false
  ready : l.hartReady n = true
  powered : l.on PWR_LST PWR_LST_C2RED = false

variable {stop : Bool} (hmay : l.hartMayStart stop n x)
include hmay

theorem Lane.hartStart_quiet (hquiet : (l.hart n).quietFrom = 0) : l.hartStart stop g n false = l.hartGo g n x := by
  simp [Lane.hartStart, hmay.next, hmay.released, hmay.ready, hmay.powered, hquiet]

theorem Lane.hartStart_carrier : l.hartStart stop g n true = l.hartDefer n x := by
  simp [Lane.hartStart, hmay.next, hmay.released, hmay.ready, hmay.powered]

end

/-! ### The end of an attempt (R276) -/

section
variable {l : Lane} {n w : Nat} {x : HartTx}

theorem Lane.hartTimeout_of_live (hcur : (l.hart n).cur = some x) (hlive : x.live = true)
    (hlate : x.endAt + hartChars (l.fld (HRT_CFG n) HRT_CFG_RSPTO) ≤ w) : l.hartTimeout w n = l.hartFail n x false := by
  simp [Lane.hartTimeout, hcur, hlive, hlate]

/-- With a repetition left the transaction waits to start again. -/
theorem Lane.hartFail_repeat (err : Bool) (hleft : 0 < x.left) :
    l.hartFail n x err = l.setHart n { l.hart n with cur := some { x with live := false, left := x.left - 1 } } := if_pos hleft

/-- A transaction of the host with no repetition left ends, and TMO counts. -/
theorem Lane.hartFail_timeout (hleft : x.left = 0) (hhost : x.poll = false) :
    l.hartFail n x false = (l.bump (HRT_CNT n) HRT_CNT_TMO).hartEnd n 4 := by
  simp [Lane.hartFail, hleft, hhost]

theorem Lane.hartEnd_eq (st : Nat) : l.hartEnd n st =
    ((((l.setHart n { l.hart n with cur := none }).hartShow n st false).setB (AO_ST n) AO_ST_HART_BUSY
      (l.hart n).hostQ.isSome).setB (AO_ST n) AO_ST_HART_ERR (st != 3)).ev (evHart n) := rfl

theorem Lane.regsBut.hartEnd {ks : List Nat} {m : Lane} (hm : l.regsBut ks m) (hn : n < 24) (hst : HRT_ST n ∈ ks) (hao : AO_ST n ∈ ks)
    (st : Nat) : l.regsBut ks (m.hartEnd n st) := by
  have hended : l.regsBut ks (m.setHart n { m.hart n with cur := none }) := hm.of_regs_eq rfl
  rw [Lane.hartEnd_eq]
  exact (((hended.hartShow hn hst st false).setB (AO_ST_lt hn) hao _ _).setB (AO_ST_lt hn) hao _ _).of_regs_eq (Lane.ev_regs ..)

theorem Lane.hartEnd_cur (st : Nat) : ((l.hartEnd n st).hart n).cur = none :=
  congrArg HartWork.cur (Lane.hart_setHart_same l n { l.hart n with cur := none })

theorem Lane.hartEnd_tstat {st : Nat} (hst : st < 8) : (l.hartEnd n st).fld (HRT_ST n) HRT_ST_TSTAT = st := by
  rw [Lane.hartEnd_eq, Lane.fld_ev, Lane.setB, Lane.fld_setF_ne _ _ _ _ _ _ (HRT_ST_ne_AO_ST n), Lane.setB,
    Lane.fld_setF_ne _ _ _ _ _ _ (HRT_ST_ne_AO_ST n), Lane.hartShow_tstat _ _ _ hst]

theorem Lane.hartEnd_err (st : Nat) : (l.hartEnd n st).on (AO_ST n) AO_ST_HART_ERR = (st != 3) := by
  rw [Lane.hartEnd_eq, Lane.on_ev, Lane.on_setB_same _ _ _ _ (by decide)]

/-- The timeout of a transaction of the host with no repetition left. -/
theorem Lane.hartFail_timeout_effect (hn : n < 24) (hleft : x.left = 0) (hhost : x.poll = false) :
    l.regsBut [HRT_ST n, HRT_CNT n, AO_ST n] (l.hartFail n x false) ∧ ((l.hartFail n x false).hart n).cur = none ∧
      (l.hartFail n x false).fld (HRT_ST n) HRT_ST_TSTAT = 4 ∧
      (l.hartFail n x false).fld (HRT_CNT n) HRT_CNT_TMO = min 255 (l.fld (HRT_CNT n) HRT_CNT_TMO + 1) ∧
      (l.hartFail n x false).on (AO_ST n) AO_ST_HART_ERR = true ∧ (l.hartFail n x false).raised = l.raised ||| evBit (evHart n) := by
  have hcounted : l.regsBut [HRT_ST n, HRT_CNT n, AO_ST n] (l.bump (HRT_CNT n) HRT_CNT_TMO) :=
    (Lane.regsBut.refl _ l).bump (HRT_CNT_lt hn) (by simp) _
  have hended : (l.bump (HRT_CNT n) HRT_CNT_TMO).regsBut [HRT_ST n, AO_ST n] ((l.bump (HRT_CNT n) HRT_CNT_TMO).hartEnd n 4) :=
    (Lane.regsBut.refl _ _).hartEnd hn (by simp) (by simp) 4
  have hapart : HRT_CNT n ∉ [HRT_ST n, AO_ST n] := by
    simp only [List.mem_pair, HRT_CNT, HRT_ST, AO_ST]
    omega
  rw [Lane.hartFail_timeout hleft hhost]
  exact ⟨hcounted.hartEnd hn (by simp) (by simp) 4, Lane.hartEnd_cur 4, Lane.hartEnd_tstat (by decide),
    (hended.fld (HRT_CNT_lt hn) hapart _).trans (Lane.fld_bump_same _ _ _ (by decide)), Lane.hartEnd_err 4, rfl⟩

end

/-! ### Polls (R278) -/

/-- A poll that falls due anew is marked unless C4SHED, and the boundary is noted. -/
theorem Lane.hartDue_effect {l : Lane} {g n : Nat} (hat : l.hartPollAt g n = true) (hnew : (l.hart n).pollAt ≠ g) :
    (l.hartDue g n).regs = l.regs ∧
      ((l.hartDue g n).hart n).pollDue = ((l.hart n).pollDue || !l.on PWR_LST PWR_LST_C4SHED) ∧
      ((l.hartDue g n).hart n).pollAt = g := by
  unfold Lane.hartDue
  dsimp only
  rw [if_pos (by simp [hat, hnew]), Lane.hart_setHart_same]
  exact ⟨rfl, rfl, rfl⟩

/-- Transactions start where the outputs are not held and AOUT is on (R275). -/
theorem Shared.hart_not_stopped {h : Shared} (hhold : h.hold = false) (haout : h.aoutOn.isSome = true) :
    (h.hold || h.aoutOn.isNone) = false := by
  simpa [hhold] using haout

/-- Settles O23: the start of a transaction or its deferral, a received frame, both ends of an attempt without a response, and a due
poll. -/
theorem hartRows : Obligations.HartRows := by
  refine ⟨fun n x s i hcomputes hnext hhold haout hready hpower hquiet => ?start,
    fun n x s i hcomputes hnext hhold haout hready hpower hnew => ?defer, fun n pre data parity dt s i htakes hup => ?received,
    fun n dt x s i hcomputes hcur hlive hlate hleft => ?again, fun n dt x s i hcomputes hcur hlive hlate hleft hhost => ?ended,
    fun n s i hcomputes hat hnew => ?poll⟩
  case start =>
    have hmay : (s.lane i).hartMayStart (s.sh.hold || s.sh.aoutOn.isNone) n x :=
      ⟨hnext, Shared.hart_not_stopped hhold haout, hready, hpower⟩
    refine ⟨_, rfl, s.both_sharedKept _, ?_⟩
    rw [State.both_lane, if_pos hcomputes, Lane.hartStart_quiet _ hmay hquiet]
    exact Lane.hartGo_effect _ n.isLt
  case defer =>
    have hmay : (s.lane i).hartMayStart (s.sh.hold || s.sh.aoutOn.isNone) n x :=
      ⟨hnext, Shared.hart_not_stopped hhold haout, hready, hpower⟩
    refine ⟨_, rfl, s.both_sharedKept _, ?_⟩
    rw [State.both_lane, if_pos hcomputes, Lane.hartStart_carrier _ hmay]
    exact Lane.hartDefer_effect n.isLt hnew
  case received =>
    refine ⟨_, rfl, ⟨rfl, rfl, rfl⟩, ?_⟩
    rw [State.taking_lane, if_pos htakes, if_neg (ne_true_of_eq_false hup)]
    exact ⟨rfl, rfl⟩
  case again =>
    refine ⟨_, rfl, s.both_sharedKept _, ?_⟩
    rw [State.both_lane, if_pos hcomputes, Lane.hartTimeout_of_live hcur hlive hlate, Lane.hartFail_repeat _ hleft]
    exact ⟨rfl, congrArg HartWork.cur (Lane.hart_setHart_same ..)⟩
  case ended =>
    refine ⟨_, rfl, s.both_sharedKept _, ?_⟩
    rw [State.both_lane, if_pos hcomputes, Lane.hartTimeout_of_live hcur hlive hlate]
    exact Lane.hartFail_timeout_effect n.isLt hleft hhost
  case poll =>
    refine ⟨_, rfl, s.both_sharedKept _, ?_⟩
    rw [State.both_lane, if_pos hcomputes]
    exact Lane.hartDue_effect hat hnew

end Sys2Proof.Machine
end

section
/-! The inputs of the field digital I/O stage (R285–R288): a crossing while no edge is on its way, and the edge that qualifies in the
running epoch. -/

namespace Sys2Proof.Machine

@[simp] theorem Shared.di_setDi_same (h : Shared) (n : Nat) (w : DiHw) : (h.setDi n w).di n = w := Trie.at_upd_same ..

/-! ### One input (R286–R288) -/

section
variable {w : DiHw} (hinit : w.initAt = none)
include hinit

theorem DiHw.settle_of_settled (lvl : Bool) (t : Nat) : w.settle lvl t = w := by simp [DiHw.settle, hinit]

theorem DiHw.qualify_of_run {r n deb t : Nat} {lvl : Bool} (hrun : w.run = some r) (hlvl : lvl ≠ w.deb)
    (hdue : (r + deb - 1) * 100000 ≤ t) :
    w.qualify n lvl deb t = ({ w with deb := lvl, run := none }, some ⟨n, lvl, (r + deb - 1) * 100000, w.crossAt⟩) := by
  simp [DiHw.qualify, hrun, hinit, hlvl, hdue]

/-- A crossing while no run of samples stands: it begins one where the level leaves the debounced state, and counts a glitch where the
level before it did not last. -/
theorem DiHw.cross_of_noRun (hrun : w.run = none) (deb : Nat) (inv level : Bool) (t : Nat) :
    w.cross deb inv level t = { w with
      raw := level, was := w.before t, crossAt := t
      glitch := if sampleNo t - sampleNo w.crossAt < deb then min 255 (w.glitch + 1) else w.glitch
      run := if (level != inv) = w.deb then none else some (sampleNo t + 1) } := by
  by_cases hlvl : (level != inv) = w.deb
  · simp [DiHw.cross, hinit, hrun, hlvl]
  · simp [DiHw.cross, hinit, hrun, hlvl]

end

theorem DiHw.qualify_of_noRun {w : DiHw} (hrun : w.run = none) (n deb t : Nat) (lvl : Bool) : w.qualify n lvl deb t = (w, none) := by
  simp [DiHw.qualify, hrun]

/-! ### An input followed to an instant (R286, R287) -/

section
variable {s : State} {n t : Nat} (hon : s.sh.dioOn = true) (hinit : (s.sh.di n).initAt = none)
include hon hinit

theorem State.diTo_of_settled : s.diTo t n =
    let x := (s.sh.di n).qualify n (s.lead.diLevel n (s.sh.di n)) (s.lead.debN n) t
    { s.withSh (s.sh.setDi n x.1) with a := s.a.diSend x.2, b := s.b.diSend x.2 } := by
  simp only [State.diTo, hon, Bool.not_true, Bool.false_eq_true, if_false, DiHw.settle_of_settled hinit, State.withSh_a, State.withSh_b]

theorem State.diTo_of_noRun (hrun : (s.sh.di n).run = none) : s.diTo t n = s.withSh (s.sh.setDi n (s.sh.di n)) := by
  rw [State.diTo_of_settled hon hinit, DiHw.qualify_of_noRun hrun]
  rfl

/-- The edge of an input that qualifies goes to the lanes, and the debounced state takes the level over. -/
theorem State.diTo_of_run {r : Nat} (hrun : (s.sh.di n).run = some r) (hlvl : s.lead.diLevel n (s.sh.di n) ≠ (s.sh.di n).deb)
    (hdue : (r + s.lead.debN n - 1) * 100000 ≤ t) :
    (s.diTo t n).sh = s.sh.setDi n { s.sh.di n with deb := s.lead.diLevel n (s.sh.di n), run := none } ∧
      ∀ i, (s.diTo t n).lane i = (s.lane i).diSend
        (some ⟨n, s.lead.diLevel n (s.sh.di n), (r + s.lead.debN n - 1) * 100000, (s.sh.di n).crossAt⟩) := by
  rw [State.diTo_of_settled hon hinit, DiHw.qualify_of_run hinit hrun hlvl hdue]
  refine ⟨rfl, fun i => ?_⟩
  cases i <;> rfl

end

theorem Lane.diSend_regs (e : Option DiEdge) (l : Lane) : (l.diSend e).regs = l.regs := by
  unfold Lane.diSend
  split
  · split <;> rfl
  · rfl

theorem Lane.diSend_edges (e : DiEdge) (l : Lane) :
    (l.diSend (some e)).cut.edges = l.cut.edges ++ if l.takes && l.dioLink then [e] else [] := by
  by_cases hlink : (l.takes && l.dioLink) = true <;> simp [Lane.diSend, hlink]

/-! ### THRESHOLD_CROSSING (R285) -/

section
variable {n : Fin 32} {level : Bool} {dt : Nat} {s : State} (hraw : (s.sh.di n).raw ≠ level)
include hraw

theorem execThresholdCrossing_of_off (hoff : s.sh.dioOn = false) : execThresholdCrossing n level dt s =
    .next (s.withSh (s.sh.setDi n { s.sh.di n with
      raw := level, was := (s.sh.di n).before ((s.sh.gt + dt) / 1000 * 1000), crossAt := (s.sh.gt + dt) / 1000 * 1000 })) := by
  simp [execThresholdCrossing, hraw, hoff]

theorem execThresholdCrossing_of_on (hon : s.sh.dioOn = true) (hinit : (s.sh.di n).initAt = none) (hrun : (s.sh.di n).run = none) :
    execThresholdCrossing n level dt s = .next (s.withSh ((s.sh.setDi n (s.sh.di n)).setDi n
      ((s.sh.di n).cross (s.lead.debN n) (s.lead.on (DI_CFG n) DI_CFG_INV) level ((s.sh.gt + dt) / 1000 * 1000)))) := by
  simp only [execThresholdCrossing, beq_eq_false_iff_ne.mpr hraw, hon, State.diTo_of_noRun hon hinit hrun,
    Shared.di_setDi_same, State.withSh_sh, Bool.not_true, Bool.false_eq_true, if_false]
  rfl

end

/-- Settles O24: a crossing with and without the supply of the stage, and the edge that qualifies in the running epoch. -/
theorem digitalInputRows : Obligations.DigitalInputRows := by
  refine ⟨fun n level dt s hon hraw hinit hrun => ?crossing, fun n level dt s hoff hraw => ?unpowered,
    fun n r s hon hinit hrun => ?edge⟩
  case crossing =>
    refine ⟨_, execThresholdCrossing_of_on hraw hon hinit hrun, s.withSh_lanesKept _, rfl, ?_⟩
    rw [State.withSh_sh, Shared.di_setDi_same, DiHw.cross_of_noRun hinit hrun]
    exact ⟨rfl, rfl, rfl, rfl, rfl, rfl⟩
  case unpowered =>
    exact ⟨_, execThresholdCrossing_of_off hraw hoff, s.withSh_lanesKept _, rfl, Shared.di_setDi_same ..⟩
  case edge =>
    intro level q hlvl hdue
    obtain ⟨hsh, hlane⟩ := State.diTo_of_run hon hinit hrun hlvl hdue
    refine ⟨_, rfl, ?_, ?_, ?_, fun i => ?_⟩
    · rw [hsh]
      rfl
    · rw [hsh, Shared.di_setDi_same]
    · rw [hsh, Shared.di_setDi_same]
    · rw [hlane i]
      exact ⟨Lane.diSend_regs .., Lane.diSend_edges ..⟩

end Sys2Proof.Machine
end

section
/-! The applied states of the digital outputs (R295, R296): what switching an output leaves alone, so that each output is decided by the
state before, and what the stage tells the lanes (R306). -/

namespace Sys2Proof.Machine

/-! ### The registers of the output stage -/

section
variable {n k : Nat}

theorem DO_ST_lt (hn : n < 32) : DO_ST n < 2 ^ 20 := by
  unfold DO_ST
  omega

theorem DO_BST_lt (hk : k < 4) : DO_BST k < 2 ^ 20 := by
  unfold DO_BST
  omega

theorem DO_ST_mem_doRegs (hn : n < 32) : DO_ST n ∈ doRegs := by
  simpa [doRegs, upTo] using .inr (.inl ⟨n, hn, rfl⟩)

theorem DO_BST_mem_doRegs (hk : k < 4) : DO_BST k ∈ doRegs := by
  simpa [doRegs, upTo] using .inr (.inr ⟨k, hk, rfl⟩)

theorem DO_STATE_mem_doRegs : DO_STATE ∈ doRegs := by simp [doRegs]

theorem DO_ST_ne {m : Nat} (hn : n < 32) (hm : m < 32) (hne : m ≠ n) : DO_ST m % 2 ^ 20 ≠ DO_ST n % 2 ^ 20 := by
  unfold DO_ST
  omega

theorem DO_BST_ne_DO_ST (hk : k < 4) (hn : n < 32) : DO_BST k % 2 ^ 20 ≠ DO_ST n % 2 ^ 20 := by
  unfold DO_BST DO_ST
  omega

theorem DO_ST_ne_DO_STATE (hn : n < 32) : DO_ST n % 2 ^ 20 ≠ DO_STATE % 2 ^ 20 := by
  unfold DO_ST DO_STATE
  omega

theorem DO_BST_ne_DO_STATE (hk : k < 4) : DO_BST k % 2 ^ 20 ≠ DO_STATE % 2 ^ 20 := by
  unfold DO_BST DO_STATE
  omega

end

/-! ### What decides the rows of R295 -/

/-- What the rows of R295 read of the stage is the same in two states, and so is every register outside it. -/
structure Shared.sameOrders (h g : Shared) : Prop where
  live : g.doLive = h.doLive
  mark : g.markLost = h.markLost
  released : g.doRel = h.doRel
  banks : g.banks = h.banks
  supply : ∀ k, k < 4 → g.rd (DO_BST k) = h.rd (DO_BST k)
  latch : ∀ m, m < 32 → g.on (DO_ST m) DO_ST_SLATCH = h.on (DO_ST m) DO_ST_SLATCH
  regs : h.regsBut doRegs g

theorem Shared.sameOrders.refl (h : Shared) : h.sameOrders h :=
  ⟨rfl, rfl, rfl, rfl, fun _ _ => rfl, fun _ _ => rfl, .refl _ h⟩

theorem Shared.sameOrders.trans {h g f : Shared} (hg : h.sameOrders g) (hf : g.sameOrders f) : h.sameOrders f where
  live := hf.live.trans hg.live
  mark := hf.mark.trans hg.mark
  released := hf.released.trans hg.released
  banks := hf.banks.trans hg.banks
  supply k hk := (hf.supply k hk).trans (hg.supply k hk)
  latch m hm := (hf.latch m hm).trans (hg.latch m hm)
  regs := hg.regs.trans hf.regs

theorem Shared.sameOrders.doWants {h g : Shared} (hg : h.sameOrders g) (l : Lane) {n : Nat} (hn : n < 32) :
    g.doWants l n = h.doWants l n := by
  simp only [Shared.doWants, Shared.bank, hg.live, hg.mark, hg.released, hg.banks, hg.supply (n / 8) (by omega), hg.latch n hn]

/-! ### One output switched (R296, R299) -/

/-- Output `n` switched: its applied state, the blanked comparison, and DO_STATE. -/
def Shared.doSwitched (h : Shared) (n : Nat) (v : Bool) : Shared :=
  let g := (h.setB (DO_ST n) DO_ST_APPLIED v).setB (DO_ST n) DO_ST_BLANK true
  (g.setDou n { g.dou n with age := 0 }).wr DO_STATE (g.rd DO_STATE ^^^ (1#32 <<< n))

theorem Shared.doApply_eq (l : Lane) (h : Shared) (n : Nat) : h.doApply l n =
    if h.on (DO_ST n) DO_ST_APPLIED == h.doWants l n then h else h.doSwitched n (h.doWants l n) := rfl

section
variable (h : Shared) {n : Nat} (v : Bool)

theorem Shared.doSwitched_rd {k : Nat} (hk : k % 2 ^ 20 ≠ DO_STATE % 2 ^ 20) : (h.doSwitched n v).rd k =
    ((h.setB (DO_ST n) DO_ST_APPLIED v).setB (DO_ST n) DO_ST_BLANK true).rd k := Shared.rd_wr_ne _ _ _ _ hk

theorem Shared.doSwitched_rd_ne {k : Nat} (hk : k % 2 ^ 20 ≠ DO_STATE % 2 ^ 20) (hne : k % 2 ^ 20 ≠ DO_ST n % 2 ^ 20) :
    (h.doSwitched n v).rd k = h.rd k := by
  rw [Shared.doSwitched_rd h v hk, Shared.setB, Shared.rd_setF_ne _ _ _ _ _ hne, Shared.setB, Shared.rd_setF_ne _ _ _ _ _ hne]

variable (hn : n < 32)
include hn

theorem Shared.doSwitched_applied : (h.doSwitched n v).on (DO_ST n) DO_ST_APPLIED = v := by
  rw [Shared.on_of_rd_eq (Shared.doSwitched_rd h v (DO_ST_ne_DO_STATE hn)), Shared.on_setB_field _ _ _ _ _ (by decide),
    Shared.on_setB_same _ _ _ _ (by decide)]

theorem Shared.doSwitched_latch : (h.doSwitched n v).on (DO_ST n) DO_ST_SLATCH = h.on (DO_ST n) DO_ST_SLATCH := by
  rw [Shared.on_of_rd_eq (Shared.doSwitched_rd h v (DO_ST_ne_DO_STATE hn)), Shared.on_setB_field _ _ _ _ _ (by decide),
    Shared.on_setB_field _ _ _ _ _ (by decide)]

/-- The flags of another output stand. -/
theorem Shared.doSwitched_on_ne {m : Nat} (hm : m < 32) (hne : m ≠ n) (f : Fld) :
    (h.doSwitched n v).on (DO_ST m) f = h.on (DO_ST m) f :=
  Shared.on_of_rd_eq (Shared.doSwitched_rd_ne h v (DO_ST_ne_DO_STATE hm) (DO_ST_ne hn hm hne)) f

theorem Shared.doSwitched_regsBut : h.regsBut doRegs (h.doSwitched n v) := by
  have hflags := (((Shared.regsBut.refl doRegs h).setB (DO_ST_lt hn) (DO_ST_mem_doRegs hn) DO_ST_APPLIED v).setB (DO_ST_lt hn)
    (DO_ST_mem_doRegs hn) DO_ST_BLANK true)
  exact (hflags.trans (Shared.regsBut_of_regs_eq _ rfl)).wr (by decide) DO_STATE_mem_doRegs _

theorem Shared.doSwitched_sameOrders : h.sameOrders (h.doSwitched n v) where
  live := by simp [Shared.doSwitched, Shared.setDou]
  mark := by simp [Shared.doSwitched, Shared.setDou]
  released := by simp [Shared.doSwitched, Shared.setDou]
  banks := by simp [Shared.doSwitched, Shared.setDou]
  supply k hk := Shared.doSwitched_rd_ne h v (DO_BST_ne_DO_STATE hk) (DO_BST_ne_DO_ST hk hn)
  latch m hm := by
    by_cases heq : m = n
    · rw [heq, Shared.doSwitched_latch h v hn]
    · exact Shared.doSwitched_on_ne h v hn hm heq _
  regs := Shared.doSwitched_regsBut h v hn

end

/-! ### Every output evaluated (R295) -/

section
variable (l : Lane) (h : Shared) {n : Nat}

theorem Shared.doApply_applied (hn : n < 32) : (h.doApply l n).on (DO_ST n) DO_ST_APPLIED = h.doWants l n := by
  rw [Shared.doApply_eq]
  split
  · next hsame => exact eq_of_beq hsame
  · exact Shared.doSwitched_applied h _ hn

theorem Shared.doApply_on_ne {m : Nat} (hn : n < 32) (hm : m < 32) (hne : m ≠ n) (f : Fld) :
    (h.doApply l n).on (DO_ST m) f = h.on (DO_ST m) f := by
  rw [Shared.doApply_eq]
  split
  · rfl
  · exact Shared.doSwitched_on_ne h _ hn hm hne f

theorem Shared.doApply_sameOrders (hn : n < 32) : h.sameOrders (h.doApply l n) := by
  rw [Shared.doApply_eq]
  split
  · exact .refl h
  · exact Shared.doSwitched_sameOrders h _ hn

theorem Shared.foldl_doApply_sameOrders {ns : List Nat} (hns : ∀ m ∈ ns, m < 32) : h.sameOrders (ns.foldl (Shared.doApply l) h) :=
  List.foldlRecOn (motive := h.sameOrders) ns _ (.refl h) fun g hg m hm => hg.trans (g.doApply_sameOrders l (hns m hm))

theorem Shared.foldl_doApply_on (hn : n < 32) {ns : List Nat} (hns : ∀ m ∈ ns, m < 32) (hnot : n ∉ ns) (f : Fld) :
    (ns.foldl (Shared.doApply l) h).on (DO_ST n) f = h.on (DO_ST n) f :=
  List.foldlRecOn (motive := fun g : Shared => g.on (DO_ST n) f = h.on (DO_ST n) f) ns _ rfl fun g hg m hm =>
    (g.doApply_on_ne l (hns m hm) hn (fun heq => hnot (heq ▸ hm)) f).trans hg

theorem Shared.doAll_sameOrders : h.sameOrders (h.doAll l) := h.foldl_doApply_sameOrders l fun _ => List.mem_range.mp

/-- Each output is decided at its turn by what the outputs before it have left alone, and those after it leave it. -/
theorem Shared.doAll_applied (hn : n < 32) : (h.doAll l).on (DO_ST n) DO_ST_APPLIED = h.doWants l n := by
  obtain ⟨before, after, hsplit⟩ := List.append_of_mem (List.mem_range.mpr hn)
  have hlt : ∀ k ∈ before ++ n :: after, k < 32 := fun k hk => List.mem_range.mp (hsplit ▸ hk)
  have hnodup : (before ++ n :: after).Nodup := hsplit ▸ List.nodup_range
  have hafter : n ∉ after := fun hmem => (List.nodup_middle.mp hnodup).notMem (List.mem_append_right _ hmem)
  have hbefore := h.foldl_doApply_sameOrders l (ns := before) fun k hk => hlt k (by simp [hk])
  rw [Shared.doAll, upTo, hsplit, List.foldl_append, List.foldl_cons,
    Shared.foldl_doApply_on l _ hn (fun k hk => hlt k (by simp [hk])) hafter, Shared.doApply_applied l _ hn, hbefore.doWants l hn]

end

/-! ### What the lanes are told (R306) -/

theorem Lane.dioTold_but_dof (ws : List Word) (l : Lane) :
    { l.dioTold ws with cut := { (l.dioTold ws).cut with dof := l.cut.dof } } = l := by
  unfold Lane.dioTold
  split <;> rfl

theorem State.dioChange_lanesTold (f : Shared → Shared) (s : State) : s.lanesTold (s.dioChange f) := by
  refine ⟨fun i => ?_, rfl, rfl⟩
  rw [State.dioChange, State.onLanes_lane, State.withSh_lane]
  split
  · exact Lane.dioTold_but_dof ..
  · rfl

theorem State.dioChange_sh (f : Shared → Shared) (s : State) : (s.dioChange f).sh = f s.sh := rfl

theorem State.doEval_sh (s : State) : s.doEval.sh = s.sh.doAll s.lead := s.dioChange_sh (Shared.doAll s.lead)

/-- Settles O25: what decides an output is left alone while the others are switched, so the rows decide it in the state before. -/
theorem digitalOutputsFollowTheTable : Obligations.DigitalOutputsFollowTheTable := by
  intro s n hn
  dsimp only
  rw [State.doEval_sh, Shared.doAll_applied _ _ hn]
  exact ⟨rfl, s.dioChange_lanesTold _, (s.sh.doAll_sameOrders s.lead).regs⟩

end Sys2Proof.Machine
end

section
/-! The commands of the digital outputs (R304, R309) at their effect boundary: the answer in DIO_CMDST, the outcome, and what a command
leaves in the lane and in the stage. -/

namespace Sys2Proof.Machine

/-! ### Bits of a word -/

theorem bitOf_oneShifted {n m : Nat} (hm : m < 32) : bitOf (1#32 <<< n) m = decide (m = n) := by
  rw [Bool.eq_iff_iff]
  simp only [bitOf, BitVec.getLsbD_shiftLeft, BitVec.getLsbD_one, hm, decide_true, Bool.true_and, Bool.and_eq_true, Bool.not_eq_true',
    decide_eq_false_iff_not, decide_eq_true_eq]
  omega

theorem bitOf_putBit {n m : Nat} (hm : m < 32) (w : Word) (v : Bool) :
    bitOf (putBit w n v) m = if m = n then v else bitOf w m := by
  have hset : bitOf (w ||| 1#32 <<< n) m = (bitOf w m || decide (m = n)) := by
    rw [← bitOf_oneShifted hm]
    exact BitVec.getLsbD_or
  have hclear : bitOf (w &&& ~~~(1#32 <<< n)) m = (bitOf w m && !decide (m = n)) := by
    rw [← bitOf_oneShifted hm]
    simp [bitOf, hm]
  cases v
  · rw [putBit, if_neg Bool.false_ne_true, hclear]
    split <;> simp [*]
  · rw [putBit, if_pos rfl, hset]
    split <;> simp [*]

/-! ### The answer in DIO_CMDST -/

/-- The lane with the command and its status in DIO_CMDST. -/
def Lane.dioAnswered (op n st : Nat) (l : Lane) : Lane := (l.dioNote op n).setF DIO_CMDST DIO_CMDST_STATUS st

section
variable (op n st : Nat) (l : Lane)

theorem Lane.dioAnswered_regsBut : l.regsBut [DIO_CMDST] (l.dioAnswered op n st) :=
  have hks := List.mem_singleton_self DIO_CMDST
  (((Lane.regsBut.refl _ l).setF (by decide) hks _ _).setF (by decide) hks _ _).setF (by decide) hks _ _

theorem Lane.dioAnswered_status (hst : st < 4) : (l.dioAnswered op n st).fld DIO_CMDST DIO_CMDST_STATUS = st := by
  rw [Lane.dioAnswered, Lane.fld_setF_same _ _ _ _ (by decide)]
  exact Nat.mod_eq_of_lt hst

theorem Lane.dioAnswered_lastOp (hop : op < 256) : (l.dioAnswered op n st).fld DIO_CMDST DIO_CMDST_LAST_OP = op := by
  rw [Lane.dioAnswered, Lane.fld_setF_field _ _ _ _ _ (by decide), Lane.dioNote, Lane.fld_setF_field _ _ _ _ _ (by decide),
    Lane.fld_setF_same _ _ _ _ (by decide)]
  exact Nat.mod_eq_of_lt hop

theorem Lane.dioAnswered_lastCh (hn : n < 32) : (l.dioAnswered op n st).fld DIO_CMDST DIO_CMDST_LAST_CH = n := by
  rw [Lane.dioAnswered, Lane.fld_setF_field _ _ _ _ _ (by decide), Lane.dioNote, Lane.fld_setF_same _ _ _ _ (by decide)]
  exact Nat.mod_eq_of_lt hn

end

/-! ### The outcome of a command (R309) -/

section
variable {h : Shared} {l : Lane} {n arg : Nat}

/-- SET_DO on a direct output that is enabled, after the command has been noted. -/
theorem dioStatus_setDo (hn : n < 32) (harg : arg ≤ 1) (hsrc : l.fld (DO_CFG n) DO_CFG_SRC = 0)
    (hen : l.on (DO_CFG n) DO_CFG_EN = true) : dioStatus h (l.dioNote 1 n) 1 n arg = stDone := by
  have hne : DO_CFG n % 2 ^ 20 ≠ DIO_CMDST % 2 ^ 20 := by
    unfold DO_CFG DIO_CMDST
    omega
  have hcfg (f : Fld) : (l.dioNote 1 n).fld (DO_CFG n) f = l.fld (DO_CFG n) f := by
    rw [Lane.dioNote, Lane.fld_setF_ne _ _ _ _ _ _ hne, Lane.fld_setF_ne _ _ _ _ _ _ hne]
  have henNoted : (l.dioNote 1 n).on (DO_CFG n) DO_CFG_EN = true := by rw [Lane.on, hcfg, ← Lane.on, hen]
  have hvalid : dioInvalid 1 n arg = false := decide_eq_false (by omega)
  have hallowed : dioRefused h (l.dioNote 1 n) 1 n = false := by simp [dioRefused, hcfg, hsrc, henNoted]
  simp [dioStatus, hvalid, hallowed]

/-- CLEAR_LATCH hangs on the latch alone. -/
theorem dioStatus_clearLatch : dioStatus h l 2 n 0 = if h.on (DO_ST n) DO_ST_SLATCH then stDone else stRefused := by
  have hvalid : dioInvalid 2 n 0 = false := rfl
  have hrefused : dioRefused h l 2 n = !h.on (DO_ST n) DO_ST_SLATCH := rfl
  rw [dioStatus, hvalid, hrefused]
  cases h.on (DO_ST n) DO_ST_SLATCH <;> rfl

theorem dioStatus_bankAck (hn : n < 4) (hack : h.on (DO_BST n) DO_BST_ACKREQ = true) (huv : h.on (DO_BST n) DO_BST_UV = false) :
    dioStatus h l 3 n 0 = stDone := by
  have hvalid : dioInvalid 3 n 0 = false := by simp [dioInvalid, Nat.le_of_lt_succ hn]
  have hallowed : dioRefused h l 3 n = false := by simp [dioRefused, hack, huv]
  simp [dioStatus, hvalid, hallowed]

theorem dioStatus_bankAck_noBank (hn : 4 ≤ n) : dioStatus h l 3 n 0 = stInvalid := by
  have hinvalid : dioInvalid 3 n 0 = true := by simp [dioInvalid, Nat.lt_of_succ_le hn]
  simp [dioStatus, hinvalid]

end

/-! ### What a command leaves in a lane -/

section
variable {h : Shared} {l : Lane} {op n arg : Nat}

theorem Lane.dioCmd_turnedAway {st : Nat} (hst : dioStatus h (l.dioNote op n) op n arg = st) (hne : st ≠ stDone) :
    (l.dioNote op n).dioCmd h op n arg = (l.dioAnswered op n st).ev evDioRefused := by
  rw [Lane.dioCmd, hst]
  exact if_pos (bne_iff_ne.mpr hne)

theorem Lane.dioCmd_setDo (hst : dioStatus h (l.dioNote 1 n) 1 n arg = stDone) : (l.dioNote 1 n).dioCmd h 1 n arg =
    { l.dioAnswered 1 n stDone with doVal := putBit l.doVal n (arg == 1), doSet := putBit l.doSet n true } := by
  rw [Lane.dioCmd, hst]
  rfl

theorem Lane.dioCmd_done (hop : op ≠ 1) (hst : dioStatus h (l.dioNote op n) op n arg = stDone) :
    (l.dioNote op n).dioCmd h op n arg = l.dioAnswered op n stDone := by
  rw [Lane.dioCmd, hst]
  exact if_neg hop

end

/-! ### The row -/

theorem State.lanesTold.trans {s t u : State} (ht : s.lanesTold t) (hu : t.lanesTold u) : s.lanesTold u := by
  obtain ⟨hlane, hsnap, hpending⟩ := ht
  obtain ⟨hlane', hsnap', hpending'⟩ := hu
  refine ⟨fun i => ?_, hsnap'.trans hsnap, hpending'.trans hpending⟩
  rw [← hlane i, ← hlane' i]

/-- What a command that ends DONE clears in the stage. -/
def Shared.dioCleared (op n : Nat) (h : Shared) : Shared :=
  if op = 2 then h.setB (DO_ST n) DO_ST_SLATCH false else if op = 3 then h.setB (DO_BST n) DO_BST_ACKREQ false else h

section
variable {s : State} {op n arg : Nat}

/-- The stage clears what a command that ends DONE by the settings of the leading lane names, and evaluates its outputs. -/
theorem State.dioCmd_sh : ∃ k, (s.dioCmd op n arg).sh =
    (if dioStatus s.sh s.lead op n arg = stDone then s.sh.dioCleared op n else s.sh).doAll k := by
  unfold State.dioCmd
  refine ⟨_, (State.doEval_sh _).trans (congrArg (Shared.doAll _) ?_)⟩
  rw [State.dioChange_sh, State.both_sh]
  by_cases hst : dioStatus s.sh s.lead op n arg = stDone
  · simp only [hst, true_and, if_true, Shared.dioCleared]
  · simp only [hst, false_and, if_false]

/-- A command that ends DONE whatever the settings of the lane. -/
theorem State.dioRow_sh (hst : ∀ l, dioStatus s.sh l op n arg = stDone) :
    ∃ k, (s.dioRow op n arg).sh = (s.sh.dioCleared op n).doAll k := by
  obtain ⟨k, hk⟩ := State.dioCmd_sh (s := s.both (Lane.dioNote op n)) (op := op) (n := n) (arg := arg)
  rw [State.both_sh, if_pos (hst _)] at hk
  exact ⟨k, hk⟩

/-- SET_DO clears nothing in the stage, whatever its outcome. -/
theorem State.setDo_sh : s.sh.sameOrders (s.dioRow 1 n arg).sh := by
  obtain ⟨k, hk⟩ := State.dioCmd_sh (s := s.both (Lane.dioNote 1 n)) (op := 1) (n := n) (arg := arg)
  have hnone (h : Shared) : h.dioCleared 1 n = h := rfl
  rw [State.both_sh, hnone, ite_self] at hk
  rw [State.dioRow, hk]
  exact s.sh.doAll_sameOrders k

/-- A lane that computes takes the command; that the stage tells it of flags moves none of these. -/
theorem State.dioRow_lane {i : LaneId} (hcomputes : (s.lane i).computes = true) :
    let l := ((s.lane i).dioNote op n).dioCmd s.sh op n arg
    let m := (s.dioRow op n arg).lane i
    m.regs = l.regs ∧ m.raised = l.raised ∧ m.doVal = l.doVal ∧ m.doSet = l.doSet := by
  have hnoted : ((s.lane i).dioNote op n).computes = true := hcomputes
  have hlane : ((s.both (Lane.dioNote op n)).both (Lane.dioCmd s.sh op n arg)).lane i =
      ((s.lane i).dioNote op n).dioCmd s.sh op n arg := by
    rw [State.both_lane, State.both_lane, if_pos hcomputes, if_pos hnoted]
  obtain ⟨htold, -⟩ : ((s.both (Lane.dioNote op n)).both (Lane.dioCmd s.sh op n arg)).lanesTold (s.dioRow op n arg) :=
    (State.dioChange_lanesTold ..).trans (State.dioChange_lanesTold ..)
  rw [← hlane, ← htold i]
  exact ⟨rfl, rfl, rfl, rfl⟩

end

section
variable {s : State} {i : LaneId} {op n arg : Nat} (hcomputes : (s.lane i).computes = true)
include hcomputes

/-- A command turned away: the answer and the event. -/
theorem State.dioRow_turnedAway {st : Nat} (hst : dioStatus s.sh ((s.lane i).dioNote op n) op n arg = st) (hne : st ≠ stDone)
    (hlt : st < 4) : (s.lane i).regsBut [DIO_CMDST] ((s.dioRow op n arg).lane i) ∧
      ((s.dioRow op n arg).lane i).fld DIO_CMDST DIO_CMDST_STATUS = st ∧
      ((s.dioRow op n arg).lane i).raised = (s.lane i).raised ||| evBit evDioRefused := by
  obtain ⟨hregs, hraised, -⟩ := State.dioRow_lane (op := op) (n := n) (arg := arg) hcomputes
  rw [Lane.dioCmd_turnedAway hst hne] at hregs hraised
  rw [Lane.ev_regs] at hregs
  exact ⟨(Lane.dioAnswered_regsBut op n st _).of_regs_eq hregs,
    (Lane.fld_of_regs_eq hregs _ _).trans (Lane.dioAnswered_status op n st _ hlt), hraised⟩

/-- CLEAR_LATCH or BANK_ACK that ends DONE, in a lane. -/
theorem State.dioRow_done (hop : op ≠ 1) (hst : dioStatus s.sh ((s.lane i).dioNote op n) op n arg = stDone) :
    (s.lane i).regsBut [DIO_CMDST] ((s.dioRow op n arg).lane i) ∧
      ((s.dioRow op n arg).lane i).fld DIO_CMDST DIO_CMDST_STATUS = 0 := by
  obtain ⟨hregs, -⟩ := State.dioRow_lane (op := op) (n := n) (arg := arg) hcomputes
  rw [Lane.dioCmd_done hop hst] at hregs
  exact ⟨(Lane.dioAnswered_regsBut op n stDone _).of_regs_eq hregs,
    (Lane.fld_of_regs_eq hregs _ _).trans (Lane.dioAnswered_status op n stDone _ (by decide))⟩

/-- SET_DO that ends DONE, in a lane. -/
theorem State.setDo_row (hn : n < 32) (hst : dioStatus s.sh ((s.lane i).dioNote 1 n) 1 n arg = stDone) :
    (s.lane i).regsBut [DIO_CMDST] ((s.dioRow 1 n arg).lane i) ∧
      ((s.dioRow 1 n arg).lane i).fld DIO_CMDST DIO_CMDST_STATUS = 0 ∧
      ((s.dioRow 1 n arg).lane i).fld DIO_CMDST DIO_CMDST_LAST_OP = 1 ∧
      ((s.dioRow 1 n arg).lane i).fld DIO_CMDST DIO_CMDST_LAST_CH = n ∧
      ((s.dioRow 1 n arg).lane i).doVal = putBit (s.lane i).doVal n (arg == 1) ∧
      ((s.dioRow 1 n arg).lane i).doSet = putBit (s.lane i).doSet n true := by
  obtain ⟨hregs, -, hval, hset⟩ := State.dioRow_lane (op := 1) (n := n) (arg := arg) hcomputes
  rw [Lane.dioCmd_setDo hst] at hregs hval hset
  have hfld (f : Fld) := Lane.fld_of_regs_eq (l := (s.lane i).dioAnswered 1 n stDone) hregs DIO_CMDST f
  exact ⟨(Lane.dioAnswered_regsBut 1 n stDone _).of_regs_eq hregs, (hfld _).trans (Lane.dioAnswered_status 1 n stDone _ (by decide)),
    (hfld _).trans (Lane.dioAnswered_lastOp 1 n stDone _ (by decide)), (hfld _).trans (Lane.dioAnswered_lastCh 1 n stDone _ hn),
    hval, hset⟩

end

/-! ### The stage (R304) -/

section
variable {s : State} {n : Nat}

theorem State.clearLatch_sh (hn : n < 32) (hlatch : s.sh.on (DO_ST n) DO_ST_SLATCH = true) :
    s.sh.regsBut doRegs (s.dioRow 2 n 0).sh ∧ (s.dioRow 2 n 0).sh.on (DO_ST n) DO_ST_SLATCH = false := by
  obtain ⟨l, hsh⟩ := State.dioRow_sh (s := s) (op := 2) (n := n) (arg := 0) fun l => by rw [dioStatus_clearLatch, if_pos hlatch]
  have hsame := (s.sh.dioCleared 2 n).doAll_sameOrders l
  have hcleared : s.sh.regsBut doRegs (s.sh.dioCleared 2 n) :=
    (Shared.regsBut.refl _ _).setB (DO_ST_lt hn) (DO_ST_mem_doRegs hn) _ _
  rw [hsh]
  exact ⟨hcleared.trans hsame.regs, (hsame.latch n hn).trans (Shared.on_setB_same _ _ _ _ (by decide))⟩

theorem State.bankAck_sh (hn : n < 4) (hack : s.sh.on (DO_BST n) DO_BST_ACKREQ = true) (huv : s.sh.on (DO_BST n) DO_BST_UV = false) :
    s.sh.regsBut doRegs (s.dioRow 3 n 0).sh ∧ (s.dioRow 3 n 0).sh.on (DO_BST n) DO_BST_ACKREQ = false := by
  obtain ⟨l, hsh⟩ := State.dioRow_sh (s := s) (op := 3) (n := n) (arg := 0) fun l => dioStatus_bankAck hn hack huv
  have hsame := (s.sh.dioCleared 3 n).doAll_sameOrders l
  have hcleared : s.sh.regsBut doRegs (s.sh.dioCleared 3 n) :=
    (Shared.regsBut.refl _ _).setB (DO_BST_lt hn) (DO_BST_mem_doRegs hn) _ _
  rw [hsh]
  exact ⟨hcleared.trans hsame.regs, (Shared.on_of_rd_eq (hsame.supply n hn) _).trans (Shared.on_setB_same _ _ _ _ (by decide))⟩

end

/-- Settles O27: each command by its outcome in a lane and what it leaves in the stage, which evaluates its outputs anew. -/
theorem digitalOutputCommands : Obligations.DigitalOutputCommands := by
  refine ⟨fun n arg s i hcomputes harg hsrc hen => ?setDo, fun n s i hcomputes hlatch => ?clearLatch,
    fun k s i hcomputes hk hack huv => ?bankAck, fun n s i hcomputes hlatch => ?noLatch, fun k s i hcomputes hk => ?noBank⟩
  case setDo =>
    have hsame := State.setDo_sh (s := s) (n := n.toNat) (arg := arg.toNat)
    obtain ⟨hregs, hstatus, hop, hch, hval, hset⟩ :=
      State.setDo_row hcomputes n.isLt (dioStatus_setDo (h := s.sh) n.isLt harg hsrc hen)
    refine ⟨_, rfl, hsame.regs, hregs, hstatus, hop, hch, hsame.released, fun m hm => ⟨?_, ?_⟩⟩
    · rw [hval, bitOf_putBit hm]
      rfl
    · rw [hset, bitOf_putBit hm]
      by_cases heq : m = n.toNat <;> simp [heq]
  case clearLatch =>
    obtain ⟨hstage, hcleared⟩ := State.clearLatch_sh n.isLt hlatch
    obtain ⟨hregs, hstatus⟩ := State.dioRow_done hcomputes (by decide) (dioStatus_clearLatch.trans (if_pos hlatch))
    exact ⟨_, rfl, hstage, hregs, hstatus, hcleared⟩
  case bankAck =>
    obtain ⟨hstage, hcleared⟩ := State.bankAck_sh hk hack huv
    obtain ⟨hregs, hstatus⟩ := State.dioRow_done hcomputes (by decide) (dioStatus_bankAck hk hack huv)
    exact ⟨_, rfl, hstage, hregs, hstatus, hcleared⟩
  case noLatch =>
    exact ⟨_, rfl, State.dioRow_turnedAway hcomputes (dioStatus_clearLatch.trans (if_neg (ne_true_of_eq_false hlatch))) (by decide)
      (by decide)⟩
  case noBank =>
    exact ⟨_, rfl, State.dioRow_turnedAway hcomputes (dioStatus_bankAck_noBank hk) (by decide) (by decide)⟩

end Sys2Proof.Machine
end

section
/-! The digital outputs and their links against their statement (R307): the cut writes the stamp of an edge to the register that the
number of its input names, and nothing in the state of a lane bounds that number. -/

namespace Sys2Proof.Machine

/-- A lane with an edge in its cut that names an input 64, whose DI_TSLO would lie at DI_BST 0; bit 8 of its stamp lies at LINK. -/
def laneWithStrayEdge : Lane := { id := .A, cut := { edges := [{ n := 64, level := false, qual := 0, raw := 256 }] } }

def nodeWithStrayEdge : State := { State.reset with a := laneWithStrayEdge }

/-- The stamp of the edge sets LINK in the cut, though the link is down. -/
theorem nodeWithStrayEdge_link :
    (Lane.diTake nodeWithStrayEdge.sh 0 { laneWithStrayEdge with dioUp := false }).on (DI_BST 0) DI_BST_LINK = true := by
  decide +kernel

/-- Refutes O26: its clause of DIO_LINK_LOST speaks of every state; where the cut of the lane holds an edge of an input above 31, which
no run puts there, the stamp of the edge lands in DI_BST and LINK reads set. -/
theorem not_outputFaultAndBankRows : ¬ Obligations.OutputFaultAndBankRows := by
  rintro ⟨-, -, -, -, -, -, -, -, -, -, -, hlost, -⟩
  obtain ⟨t, -, ⟨⟨hsh, -⟩, -⟩, hlane, hlink⟩ := hlost .A nodeWithStrayEdge
  have hclear := hlink 0 0 (by decide)
  rw [hsh, hlane] at hclear
  exact Bool.noConfusion (hclear.symm.trans nodeWithStrayEdge_link)

end Sys2Proof.Machine
end

section
/-! The state at reset (R312, R503, R505): each part of it, and the invariants that hold in it. -/

namespace Sys2Proof.Machine

/-- No lane holds a byte of bank memory at reset. -/
theorem State.reset_memCanonical : State.reset.memCanonical = true := rfl

/-- The test instruction at reset is the one that Test-Logic-Reset selects. -/
theorem State.reset_tap_legal : State.reset.sh.tap.legal = true := rfl

/-- The bypass is closed by the reset word of RING_STAT. -/
theorem State.reset_bypass : State.reset.sh.on RING_STAT RING_STAT_BYPASS = true := by decide

/-- Settles O8: `State.reset` leaves every field at its default, and a register without an entry reads its reset word. -/
theorem resetState : Obligations.ResetState :=
  ⟨rfl, rfl, rfl, rfl, rfl, rfl, rfl, State.reset_bypass, rfl, rfl, State.reset_memCanonical, State.reset_tap_legal⟩

end Sys2Proof.Machine
end

section
/-! Packets of the Feben link at its receiving end (R316, R317): a good one, a corrupt one, the loss of the link and its training. -/

namespace Sys2Proof.Machine

/-! ### Flags and counters of one register -/

theorem Lane.fld_of_rd_eq {l m : Lane} {k : Nat} (hrd : m.rd k = l.rd k) (f : Fld) : m.fld k f = l.fld k f := congrArg f.get hrd

theorem Lane.on_of_rd_eq {l m : Lane} {k : Nat} (hrd : m.rd k = l.rd k) (f : Fld) : m.on k f = l.on k f := congrArg f.on hrd

theorem Lane.on_bump_field (l : Lane) (k : Nat) {f g : Fld} (h : fldsApart f g) : (l.bump k g).on k f = l.on k f :=
  congrArg (fun n : Nat => n != 0) (Lane.fld_setF_field _ _ _ _ _ h)

/-- Changing the other lane leaves a lane alone. -/
theorem State.upd_other_lane (s : State) (i : LaneId) (f : Lane → Lane) : (s.upd i.other f).lane i = s.lane i := by cases i <;> rfl

theorem Lane.fld_setB_field (l : Lane) (k : Nat) {f g : Fld} (v : Bool) (h : fldsApart f g) : (l.setB k g v).fld k f = l.fld k f :=
  Lane.fld_setF_field _ _ _ _ _ h

/-! ### A corrupt packet (R317) -/

/-- The receiving end after a failed attempt of a packet of type `ty`; `err`: 1 a parity, 2 a CRC-32C error. -/
def Lane.packetFailed (ty err : Nat) (l : Lane) : Lane :=
  let m := l.bump LINK_ERR (if err = 1 then LINK_ERR_PAR else LINK_ERR_CRC)
  { m with link := { m.link with idleRun := 0, tries := ty :: m.link.tries } }

section
variable (ty : Nat) (l : Lane)

theorem Lane.packetFailed_regs (err : Nat) :
    (l.packetFailed ty err).regs = (l.bump LINK_ERR (if err = 1 then LINK_ERR_PAR else LINK_ERR_CRC)).regs := rfl

theorem Lane.packetFailed_rd_ne (err : Nat) {k : Nat} (hk : k % 2 ^ 20 ≠ LINK_ERR % 2 ^ 20) : (l.packetFailed ty err).rd k = l.rd k := by
  rw [Lane.rd_of_regs_eq (l.packetFailed_regs ty err), Lane.bump, Lane.rd_setF_ne _ _ _ _ _ hk]

theorem Lane.packetFailed_parity : (l.packetFailed ty 1).fld LINK_ERR LINK_ERR_PAR = min 65535 (l.fld LINK_ERR LINK_ERR_PAR + 1) ∧
    (l.packetFailed ty 1).fld LINK_ERR LINK_ERR_CRC = l.fld LINK_ERR LINK_ERR_CRC := by
  rw [Lane.fld_of_regs_eq (l.packetFailed_regs ty 1), Lane.fld_of_regs_eq (l.packetFailed_regs ty 1), if_pos rfl]
  exact ⟨Lane.fld_bump_same _ _ _ (by decide), Lane.fld_setF_field _ _ _ _ _ (by decide)⟩

theorem Lane.packetFailed_crc : (l.packetFailed ty 2).fld LINK_ERR LINK_ERR_PAR = l.fld LINK_ERR LINK_ERR_PAR ∧
    (l.packetFailed ty 2).fld LINK_ERR LINK_ERR_CRC = min 65535 (l.fld LINK_ERR LINK_ERR_CRC + 1) := by
  rw [Lane.fld_of_regs_eq (l.packetFailed_regs ty 2), Lane.fld_of_regs_eq (l.packetFailed_regs ty 2), if_neg (by decide)]
  exact ⟨Lane.fld_setF_field _ _ _ _ _ (by decide), Lane.fld_bump_same _ _ _ (by decide)⟩

/-- The failed attempt counts by its kind, in PAR or in CRC. -/
theorem Lane.packetFailed_counts {err : Fin 3} (herr : err ≠ 0) :
    (l.packetFailed ty err.val).fld LINK_ERR LINK_ERR_PAR =
      (if err = 1 then min 65535 (l.fld LINK_ERR LINK_ERR_PAR + 1) else l.fld LINK_ERR LINK_ERR_PAR) ∧
    (l.packetFailed ty err.val).fld LINK_ERR LINK_ERR_CRC =
      (if err = 2 then min 65535 (l.fld LINK_ERR LINK_ERR_CRC + 1) else l.fld LINK_ERR LINK_ERR_CRC) := by
  match err, herr with
  | 1, _ => exact l.packetFailed_parity ty
  | 2, _ => exact l.packetFailed_crc ty

end

/-! ### The loss of the link (R317) -/

/-- The receiving end that has lost the link: UP off, LOST, the event, retraining. -/
def Lane.linkDown (l : Lane) : Lane :=
  let m := ((l.setB LINK_STAT LINK_STAT_UP false).setB LINK_STAT LINK_STAT_LOST true).bump LINK_STAT LINK_STAT_LOSSES
  { m.evNow evLink with link := { m.link with idleRun := 0, tries := [] } }

section
variable (l : Lane)

theorem Lane.linkDown_regs : l.linkDown.regs = ((((l.setB LINK_STAT LINK_STAT_UP false).setB LINK_STAT LINK_STAT_LOST true).bump
    LINK_STAT LINK_STAT_LOSSES).evNow evLink).regs := by
  unfold Lane.linkDown
  rfl

theorem Lane.linkDown_regsBut : l.regsBut [LINK_STAT, EVT_PEND (evLink / 32)] l.linkDown := by
  have hstat : l.regsBut [LINK_STAT, EVT_PEND (evLink / 32)]
      (((l.setB LINK_STAT LINK_STAT_UP false).setB LINK_STAT LINK_STAT_LOST true).bump LINK_STAT LINK_STAT_LOSSES) :=
    (((Lane.regsBut.refl _ l).setB (by decide) (by simp) _ _).setB (by decide) (by simp) _ _).bump (by decide) (by simp) _
  exact (hstat.trans ((Lane.evNow_regsBut _ evLink (by decide)).mono (by simp))).of_regs_eq l.linkDown_regs

/-- The event leaves LINK_STAT alone. -/
theorem Lane.linkDown_stat : l.linkDown.rd LINK_STAT =
    (((l.setB LINK_STAT LINK_STAT_UP false).setB LINK_STAT LINK_STAT_LOST true).bump LINK_STAT LINK_STAT_LOSSES).rd LINK_STAT := by
  rw [Lane.rd_of_regs_eq l.linkDown_regs, Lane.evNow_regsBut _ evLink (by decide) _ (by decide) (by decide)]

theorem Lane.linkDown_up : l.linkDown.on LINK_STAT LINK_STAT_UP = false := by
  rw [Lane.on_of_rd_eq l.linkDown_stat, Lane.on_bump_field _ _ (by decide), Lane.on_setB_field _ _ _ _ _ (by decide),
    Lane.on_setB_same _ _ _ _ (by decide)]

theorem Lane.linkDown_lost : l.linkDown.on LINK_STAT LINK_STAT_LOST = true := by
  rw [Lane.on_of_rd_eq l.linkDown_stat, Lane.on_bump_field _ _ (by decide), Lane.on_setB_same _ _ _ _ (by decide)]

theorem Lane.linkDown_losses :
    l.linkDown.fld LINK_STAT LINK_STAT_LOSSES = min 65535 (l.fld LINK_STAT LINK_STAT_LOSSES + 1) := by
  rw [Lane.fld_of_rd_eq l.linkDown_stat, Lane.fld_bump_same _ _ _ (by decide), Lane.fld_setB_field _ _ _ (by decide),
    Lane.fld_setB_field _ _ _ (by decide)]
  rfl

theorem Lane.linkDown_pending : bitOf (l.linkDown.rd (EVT_PEND (evLink / 32))) (evLink % 32) = true := by
  rw [Lane.rd_of_regs_eq l.linkDown_regs, Lane.evNow_pending]

end

section
variable (s : State) (j : LaneId)

theorem State.stxRetry_lane : s.stxRetry.lane j = s.lane j := by
  unfold State.stxRetry
  split
  · rfl
  · exact State.withSh_lane ..

/-- A transfer that starts again shows it in MOD_STX alone. -/
theorem State.stxRetry_regsBut : s.sh.regsBut [ MOD_STX] s.stxRetry.sh := by
  have hround : s.sh.regsBut [ MOD_STX] (s.sh.stxRound0 (if s.a.st == .active then s.a else s.b)) :=
    Shared.regsBut.setF (Shared.regsBut_of_regs_eq _ rfl) (by decide) (List.mem_singleton_self _) _ _
  unfold State.stxRetry
  split
  · exact .refl _ _
  · exact hround.setF (by decide) (List.mem_singleton_self _) _ _

end

section
variable {s : State} {i : LaneId} {ty err : Nat} (hoff : (s.lane i).st ≠ .off) (hup : (s.lane i).on LINK_STAT LINK_STAT_UP = true)
include hoff hup

/-- The receiving end goes down; a state transfer starts again where the link was up at both ends (R517). -/
theorem State.linkLost_of_up :
    s.linkLost i = if s.linkUp then (s.upd i Lane.linkDown).stxRetry else s.upd i Lane.linkDown := by
  simp only [State.linkLost, hup, beq_eq_false_iff_ne.mpr hoff]
  rfl

theorem State.linkLost_lane : (s.linkLost i).lane i = (s.lane i).linkDown := by
  rw [State.linkLost_of_up hoff hup]
  split
  · rw [State.stxRetry_lane, State.upd_lane]
  · rw [State.upd_lane]

theorem State.linkLost_other : (s.linkLost i).lane i.other = s.lane i.other := by
  rw [State.linkLost_of_up hoff hup]
  split
  · rw [State.stxRetry_lane, State.upd_lane_other]
  · rw [State.upd_lane_other]

theorem State.linkLost_regsBut : s.sh.regsBut [ MOD_STX] (s.linkLost i).sh := by
  rw [State.linkLost_of_up hoff hup, ← State.upd_sh s i Lane.linkDown]
  split
  · exact State.stxRetry_regsBut _
  · exact .refl _ _

end

/-! ### What the sender does about a failed attempt (R317) -/

section
variable {s : State} {i : LaneId} {ty err : Nat} (hup : (s.lane i).on LINK_STAT LINK_STAT_UP = true)
include hup

theorem Lane.packetFailed_up : ((s.lane i).packetFailed ty err).on LINK_STAT LINK_STAT_UP = true :=
  (Lane.on_of_rd_eq (Lane.packetFailed_rd_ne ty _ err (by decide)) _).trans hup

/-- A failed attempt is resent twice; the third loses the link. -/
theorem State.packetBad_of_up : s.packetBad i ty err =
    if (s.lane i).link.tries.count ty < 2 then
      (s.upd i (Lane.packetFailed ty err)).upd i.other (fun l => l.bump LINK_RESEND LINK_RESEND_RESENDS)
    else (s.upd i (Lane.packetFailed ty err)).linkLost i := by
  have htries : (((s.lane i).packetFailed ty err).link.tries.filter (· == ty)).length = (s.lane i).link.tries.count ty + 1 := by
    rw [← List.countP_eq_length_filter]
    exact List.count_cons_self
  have hcase (u : State) (hu : u.lane i = (s.lane i).packetFailed ty err) :
      (if !(u.lane i).on LINK_STAT LINK_STAT_UP then u
        else if 3 ≤ ((u.lane i).link.tries.filter (· == ty)).length then u.linkLost i
        else u.upd i.other (fun l => l.bump LINK_RESEND LINK_RESEND_RESENDS)) =
      if (s.lane i).link.tries.count ty < 2 then u.upd i.other (fun l => l.bump LINK_RESEND LINK_RESEND_RESENDS)
        else u.linkLost i := by
    rw [hu, htries, Lane.packetFailed_up hup]
    by_cases h : (s.lane i).link.tries.count ty < 2
    · rw [if_pos h, if_neg (by simp), if_neg (by omega)]
    · rw [if_neg h, if_neg (by simp), if_pos (by omega)]
  exact hcase _ (State.upd_lane ..)

end

/-! ### A packet by what it brings -/

section
variable {s : State} {i : LaneId} (ty : Nat) (f : State → State) (hoff : (s.lane i).st ≠ .off)
include hoff

theorem State.packet_of_good (hup : (s.lane i).on LINK_STAT LINK_STAT_UP = true) :
    s.packet i ty 0 f = f (s.upd i (Lane.packetGood ty)) := by
  simp [State.packet, hoff, hup]

variable {err : Fin 3} (herr : err ≠ 0)
include herr

theorem State.packet_of_bad : s.packet i ty err f = s.packetBad i ty err := by
  have hval : err.val ≠ 0 := fun h => herr (Fin.ext h)
  simp [State.packet, hoff, hval]

theorem State.idlePacket_of_bad : s.idlePacket i err = s.packetBad i 8 err := by
  have hval : err.val ≠ 0 := fun h => herr (Fin.ext h)
  simp [State.idlePacket, hoff, hval]

end

/-- The packets of the link with an error, each with its priority in R316. -/
def corruptPackets (i : LaneId) (err : Fin 3) (ep : BitVec 12) (inc : Option (Fin 8)) (dig : BitVec 64) (subs : List Word) (delay : Byte)
    (page : Option (Fin 8192)) (last : Bool) : List (Instr × Nat) :=
  [(.digestPacket i err ep inc dig subs, 1), (.verdictCopyPacket i err, 2), (.writePacket i err, 3), (.wordPacket i err delay, 4),
    (.confirmPacket i err, 5), (.mirrorPacket i err, 6), (.statePacket i err page last, 7), (.idlePacket i err, 8)]

/-- A packet of any type with an error is a failed attempt of its type. -/
theorem exec_of_corruptPacket {s : State} {i : LaneId} {err : Fin 3} {ep : BitVec 12} {inc : Option (Fin 8)} {dig : BitVec 64}
    {subs : List Word} {delay : Byte} {page : Option (Fin 8192)} {last : Bool} {c : Instr} {ty : Nat}
    (h : (c, ty) ∈ corruptPackets i err ep inc dig subs delay page last) (herr : err ≠ 0) (hoff : (s.lane i).st ≠ .off) :
    exec c s = .next (s.packetBad i ty err) := by
  simp only [corruptPackets, List.mem_cons, Prod.mk.injEq, List.not_mem_nil, or_false] at h
  obtain ⟨rfl, rfl⟩ | ⟨rfl, rfl⟩ | ⟨rfl, rfl⟩ | ⟨rfl, rfl⟩ | ⟨rfl, rfl⟩ | ⟨rfl, rfl⟩ | ⟨rfl, rfl⟩ | ⟨rfl, rfl⟩ := h
  case inr.inr.inr.inr.inr.inr.inr => exact congrArg Host.Outcome.next (State.idlePacket_of_bad hoff herr)
  all_goals exact congrArg Host.Outcome.next (State.packet_of_bad _ _ hoff herr)

/-- Settles O29: a packet of any type with an error is a failed attempt of its type, which is resent or loses the link. -/
theorem corruptPacketsAreResentTwice : Obligations.CorruptPacketsAreResentTwice := by
  rintro i err c ty s ⟨ep, inc, dig, subs, delay, page, last, hmem⟩ herr hoff hup
  obtain ⟨hpar, hcrc⟩ := (s.lane i).packetFailed_counts ty herr
  have hrow := exec_of_corruptPacket (s := s) hmem herr hoff
  rw [State.packetBad_of_up hup] at hrow
  refine ⟨_, hrow, ?_⟩
  by_cases htries : (s.lane i).link.tries.count ty < 2
  · -- The attempt is resent.
    rw [if_pos htries, if_pos htries, State.upd_other_lane, State.upd_lane]
    refine ⟨hpar, hcrc, ⟨by simp, by simp, by simp⟩, Lane.packetFailed_up hup, rfl, ?_⟩
    rw [State.upd_lane, State.upd_lane_other, Lane.fld_bump_same _ _ _ (by decide)]
    rfl
  · -- The link is lost.
    have hfailed : ((s.upd i (Lane.packetFailed ty err)).lane i).st ≠ .off := by rw [State.upd_lane]; exact hoff
    have hfailedUp : ((s.upd i (Lane.packetFailed ty err)).lane i).on LINK_STAT LINK_STAT_UP = true := by
      rw [State.upd_lane, Lane.packetFailed_up hup]
    have herrs (f : Fld) : ((s.lane i).packetFailed ty err).linkDown.fld LINK_ERR f = ((s.lane i).packetFailed ty err).fld LINK_ERR f :=
      (Lane.linkDown_regsBut _).fld (by decide) (by decide) f
    rw [if_neg htries, if_neg htries, State.linkLost_lane hfailed hfailedUp, State.linkLost_other hfailed hfailedUp, State.upd_lane,
      State.upd_lane_other, herrs, herrs]
    exact ⟨hpar, hcrc, Lane.linkDown_up _, Lane.linkDown_lost _, rfl⟩

end Sys2Proof.Machine
end

section
/-! What the packets of the Feben link bring to the lane they reach (R20, R27, R40, R316, R323, R363, R516). -/

namespace Sys2Proof.Machine

/-! ### WRITE (R40, R543) -/

theorem Lane.sameDiscipline.takes {l m : Lane} (h : l.sameDiscipline m) : m.takes = l.takes := by
  rw [Lane.takes, Lane.takes, h.computes, h.st]

theorem Lane.sameDiscipline.ite {c : Prop} [Decidable c] {l m n : Lane} (hm : l.sameDiscipline m) (hn : l.sameDiscipline n) :
    l.sameDiscipline (if c then m else n) := by
  split
  · exact hm
  · exact hn

theorem Lane.almArrive_sameDiscipline (l : Lane) (c : AlmCmd) : l.sameDiscipline (l.almArrive c) :=
  .ite (.ite ⟨rfl, rfl, rfl⟩ ⟨rfl, rfl, rfl⟩) ⟨rfl, rfl, rfl⟩

theorem Lane.takeWrite_sameDiscipline (p : PendWrite) (l : Lane) : l.sameDiscipline (l.takeWrite p) := by
  by_cases hkey : p.key = ALM_CMD
  · rw [Lane.takeWrite, if_pos hkey]
    unfold Lane.almWrite
    dsimp only
    exact Lane.sameDiscipline.trans (by exact ⟨rfl, rfl, rfl⟩) (Lane.almArrive_sameDiscipline _ _)
  · obtain ⟨r, hr⟩ := l.takeWrite_eq hkey
    rw [hr]
    exact ⟨rfl, rfl, rfl⟩

/-- A lane that takes cuts takes every forwarded write. -/
theorem Lane.foldl_takeForwarded_of_takes (ws : List PendWrite) {l : Lane} (htakes : l.takes = true) :
    ws.foldl Lane.takeForwarded l = ws.foldl (fun l p => l.takeWrite p) l := by
  induction ws generalizing l with
  | nil => rfl
  | cons p ws ih =>
    rw [List.foldl_cons, List.foldl_cons, Lane.takeForwarded, if_pos htakes]
    exact ih ((l.takeWrite_sameDiscipline p).takes.trans htakes)

/-- A lane that takes no cuts takes the writes of its lane-local registers alone. -/
theorem Lane.foldl_takeForwarded_of_idle (ws : List PendWrite) {l : Lane} (hoff : l.st ≠ .off) (hidle : l.takes = false) :
    ws.foldl Lane.takeForwarded l = (ws.filter (fun p => laneLocalKey p.key)).foldl
      (fun l p => { l with writes := insertBy PendWrite.order p l.writes }) l := by
  induction ws generalizing l with
  | nil => rfl
  | cons p ws ih =>
    by_cases hlocal : laneLocalKey p.key = true
    · rw [List.filter_cons, if_pos hlocal, List.foldl_cons, List.foldl_cons, Lane.takeForwarded, if_neg (by simp [hidle]),
        if_pos (by simp [hoff, hlocal])]
      exact ih hoff hidle
    · rw [List.filter_cons, if_neg hlocal, List.foldl_cons, Lane.takeForwarded, if_neg (by simp [hidle]), if_neg (by simp [hlocal])]
      exact ih hoff hidle

section
variable (s : State) (i : LaneId)

theorem State.writesTo_lane : (s.writesTo i).lane i = (s.lane i.other).link.wfwd.foldl Lane.takeForwarded (s.lane i) := by
  rw [State.writesTo, State.upd_lane, State.upd_other_lane]

theorem State.writesTo_other :
    (s.writesTo i).lane i.other = { s.lane i.other with link := { (s.lane i.other).link with wfwd := [] } } := by
  rw [State.writesTo, State.upd_lane_other, State.upd_lane]

theorem State.writesTo_sharedKept : s.sharedKept (s.writesTo i) := ⟨by simp [State.writesTo], by simp [State.writesTo], by simp [State.writesTo]⟩

end

/-! ### WORD (R20, R35) -/

/-- The lane that takes cuts with the forwarded words of the running cut. -/
def Lane.wordsTaken (g : Nat) (ws : List TWord) (l : Lane) : Lane :=
  { l with cut := { l.cut with words := l.cut.words ++ ws.filter (fun w => g < w.w) } }

theorem State.wordPacket_of_takes {s : State} {i : LaneId} (delay : Nat) (htakes : (s.lane i).takes = true) : s.wordPacket i delay =
    ((s.upd i.other (fun l => { l with link := { l.link with fwd := [] } })).upd i
      (Lane.wordsTaken s.sh.gt (s.lane i.other).link.fwd)).upd i
        (fun l => l.setF LINK_RESEND LINK_RESEND_FWD_MAX (max delay (l.fld LINK_RESEND LINK_RESEND_FWD_MAX))) := by
  rw [State.wordPacket, State.wordsTo, State.upd_other_lane, if_pos htakes, State.upd_sh]
  rfl

/-! ### MIRROR (R363) -/

section
variable (l : Lane)

/-- REC_TAIL alone follows the store. -/
theorem Lane.tailSync_cases : l.tailSync = l ∨ ∃ n, l.tailSync = l.setF REC_TAIL REC_TAIL_INDEX n := by
  unfold Lane.tailSync
  split
  · exact .inr ⟨_, rfl⟩
  · exact .inl rfl

theorem Lane.tailSync_rcd : l.tailSync.rcd = l.rcd := by
  obtain h | ⟨n, h⟩ := l.tailSync_cases <;> rw [h]
  rfl

theorem Lane.tailSync_slot (k : Nat) : l.tailSync.slot k = l.slot k := by
  obtain h | ⟨n, h⟩ := l.tailSync_cases <;> rw [h]
  rfl

theorem Lane.tailSync_regsBut : l.regsBut [REC_TAIL] l.tailSync := by
  obtain h | ⟨n, h⟩ := l.tailSync_cases
  · rw [h]
    exact .refl _ _
  · rw [h]
    exact (Lane.regsBut.refl _ _).setF (by decide) (List.mem_singleton_self _) _ _

theorem Lane.slot_setSlot_same (k : Nat) (ws : List Word) : (l.setSlot k ws).slot k = ws :=
  congrArg (Option.getD · _) (Trie.get_set_same 21 l.store k (some ws))

theorem Lane.slot_setSlot_ne {j k : Nat} (ws : List Word) (h : j % slotCount ≠ k % slotCount) : (l.setSlot k ws).slot j = l.slot j :=
  congrArg (Option.getD · _) (Trie.get_set_ne 21 l.store j k (some ws) h)

/-- A record of the copy that has its slot fills it. -/
def Lane.mirrored (ws : List Word) : Lane :=
  ((l.setSlot l.rcd.mirAt ws).setRec (fun w => { w with mirN := w.mirN + 1 })).setRec (fun w => { w with mirAt := nextSlot w.mirAt })

theorem Lane.mirrored_regs (ws : List Word) : (l.mirrored ws).regs = l.regs := rfl

variable {l}

theorem Lane.mirrorIn_of_room (ws : List Word) {left : Nat} (hroom : l.rcd.mirNew + left < slotCount) :
    l.mirrorIn ws left = (l.mirrored ws).tailSync := by
  have hfull : l.mirrorFull left = false := decide_eq_false (by omega)
  simp [Lane.mirrorIn, Lane.mirrored, hfull]

/-- The next record of the copy fills its slot and no other. -/
theorem Lane.mirrorIn_effect (ws : List Word) {left : Nat} (hroom : l.rcd.mirNew + left < slotCount) :
    l.regsBut [REC_TAIL] (l.mirrorIn ws left) ∧ (l.mirrorIn ws left).slot l.rcd.mirAt = ws ∧
      (l.mirrorIn ws left).rcd.mirAt = nextSlot l.rcd.mirAt ∧
      ∀ k, k % slotCount ≠ l.rcd.mirAt % slotCount → (l.mirrorIn ws left).slot k = l.slot k := by
  rw [Lane.mirrorIn_of_room ws hroom]
  refine ⟨?_, ?_, ?_, fun k hk => ?_⟩
  · exact (Lane.regsBut_of_regs_eq _ (l.mirrored_regs ws)).trans (Lane.tailSync_regsBut _)
  · rw [Lane.tailSync_slot]
    exact Lane.slot_setSlot_same _ _ _
  · rw [Lane.tailSync_rcd]
    rfl
  · rw [Lane.tailSync_slot]
    exact Lane.slot_setSlot_ne _ _ hk

end

/-- A copy in progress to a lane in step: the next record leaves the source and reaches its slot. -/
theorem State.mirrorPacket_of_next {s : State} {i : LaneId} {ws : List Word} {rest : List (List Word)}
    (hmir : (s.lane i).on REC_STAT REC_STAT_MIRRORING = true) (hstep : (s.lane i).instep = true)
    (hmissed : (s.lane i.other).rcd.missed = ws :: rest) : ∃ n, s.mirrorPacket i =
      (s.upd i.other (fun l => l.setRec (fun w => { w with missed := rest, mirN := w.mirN + n }))).upd i
        (Lane.mirrorIn ws rest.length) := by
  unfold State.mirrorPacket
  simp only [hmir, hstep, hmissed]
  exact ⟨_, rfl⟩

/-! ### STATE (R516) -/

@[simp] theorem Shared.setStart_start (h : Shared) (f : StartHw → StartHw) : (h.setStart f).start = f h.start := rfl
@[simp] theorem Shared.setStart_regs (h : Shared) (f : StartHw → StartHw) : (h.setStart f).regs = h.regs := rfl
@[simp] theorem Shared.fld_setStart (h : Shared) (f : StartHw → StartHw) (k : Nat) (g : Fld) : (h.setStart f).fld k g = h.fld k g := rfl
theorem Shared.stxSent_regs (h : Shared) (page : Option Nat) : (h.stxSent page).regs = h.regs := rfl
theorem Shared.stxSent_fld (h : Shared) (page : Option Nat) (k : Nat) (f : Fld) : (h.stxSent page).fld k f = h.fld k f := rfl

/-- The shared part once a STATE packet has come. -/
def Shared.stateTaken (page : Option Nat) (last : Bool) (h : Shared) : Shared :=
  let t := (h.stxSent page).start
  (h.stxSent page).stxNext.setStart
    (fun u => { u with stxDone := last && t.stxDelta && t.stxUnits && t.stxLeft.isEmpty && t.stxNew.isEmpty })

theorem State.statePacket_of_joiner {s : State} {i : LaneId} (page : Option Nat) (last : Bool) (hjoin : s.joiner = some i)
    (hstx : s.sh.start.stx.isSome = true) : s.statePacket i page last = s.withSh (s.sh.stateTaken page last) := by
  have htaken : (s.joiner != some i || s.sh.start.stx.isNone) = false := by
    rw [hjoin, bne_self_eq_false, Bool.false_or, Option.isNone_eq_false_iff, hstx]
  rw [State.statePacket, htaken]
  rfl

theorem State.joiner_packetGood (s : State) (i : LaneId) (ty : Nat) : (s.upd i (Lane.packetGood ty)).joiner = s.joiner := by
  cases i <;> rfl

section
variable {h : Shared}

/-- A round that has sent all it had is followed by the pages written meanwhile. -/
theorem Shared.stxNext_of_round (hdelta : h.start.stxDelta = false) (hunits : h.start.stxUnits = true) (hleft : h.start.stxLeft = [])
    (hnew : h.start.stxNew ≠ []) :
    h.stxNext = (h.setF MOD_STX MOD_STX_ROUND (min 255 (h.fld MOD_STX MOD_STX_ROUND + 1))).setStart
      (fun t => { t with stxLeft := t.stxNew, stxNew := [] }) := by
  simp [Shared.stxNext, hdelta, hunits, hleft, hnew]

/-- No round follows while the deltas run, pages are left, or none has been written meanwhile. -/
theorem Shared.stxNext_of_running (hrun : h.start.stxDelta = true ∨ h.start.stxLeft ≠ [] ∨ h.start.stxNew = []) : h.stxNext = h := by
  rcases hrun with hrun | hrun | hrun <;> simp [Shared.stxNext, hrun]

variable (page : Nat) (last : Bool)

/-- A round that has sent all it had: ROUND counts, and the pages written meanwhile are the next round. -/
theorem Shared.stateTaken_of_round (hdelta : h.start.stxDelta = false) (hunits : h.start.stxUnits = true)
    (hleft : h.start.stxLeft.filter (· != page) = []) (hnew : h.start.stxNew ≠ []) :
    h.regsBut [ MOD_STX] (h.stateTaken (some page) last) ∧
      (h.stateTaken (some page) last).fld MOD_STX MOD_STX_ROUND = min 255 (h.fld MOD_STX MOD_STX_ROUND + 1) ∧
      (h.stateTaken (some page) last).start.stxLeft = h.start.stxNew ∧ (h.stateTaken (some page) last).start.stxNew = [] ∧
      (h.stateTaken (some page) last).start.stxDone = false := by
  have hsent : (h.stxSent (some page)).start.stxNew = h.start.stxNew := by simp [Shared.stxSent, hdelta]
  have hnext := Shared.stxNext_of_round (h := h.stxSent (some page)) hdelta hunits hleft (by rw [hsent]; exact hnew)
  have hdone : (h.stxSent (some page)).start.stxDelta = false := hdelta
  unfold Shared.stateTaken
  rw [hnext]
  refine ⟨?_, ?_, hsent, rfl, ?_⟩
  · exact ((Shared.regsBut_of_regs_eq _ (h.stxSent_regs _)).setF (by decide) (List.mem_singleton_self _) _ _).trans
      (Shared.regsBut_of_regs_eq _ (Shared.setStart_regs ..))
  · rw [Shared.fld_setStart, Shared.fld_setStart, Shared.fld_setF_same _ _ _ _ (by decide), Shared.stxSent_fld]
    exact Nat.mod_eq_of_lt (Nat.lt_succ_of_le (Nat.min_le_left ..))
  · simp [hdone]

/-- Any other page leaves what is left; the copy is complete with the last packet of the delta when nothing is left. -/
theorem Shared.stateTaken_of_running (hunits : h.start.stxUnits = true)
    (hrun : h.start.stxDelta = true ∨ h.start.stxLeft.filter (· != page) ≠ [] ∨ h.start.stxNew = []) :
    (h.stateTaken (some page) last).regs = h.regs ∧
      (h.stateTaken (some page) last).start.stxLeft = h.start.stxLeft.filter (· != page) ∧
      (h.stateTaken (some page) last).start.stxNew =
        (if h.start.stxDelta then h.start.stxNew.filter (· != page) else h.start.stxNew) ∧
      (h.stateTaken (some page) last).start.stxDone = (last && h.start.stxDelta &&
        (h.stateTaken (some page) last).start.stxLeft.isEmpty && (h.stateTaken (some page) last).start.stxNew.isEmpty) := by
  have hrunning : (h.stxSent (some page)).start.stxDelta = true ∨ (h.stxSent (some page)).start.stxLeft ≠ [] ∨
      (h.stxSent (some page)).start.stxNew = [] := by
    rcases hrun with hdelta | hleft | hnew
    · exact .inl hdelta
    · exact .inr (.inl hleft)
    · exact .inr (.inr (by simp [Shared.stxSent, hnew]))
  have hsent : (h.stxSent (some page)).start.stxUnits = true := hunits
  have hdelta : (h.stxSent (some page)).start.stxDelta = h.start.stxDelta := rfl
  unfold Shared.stateTaken
  rw [Shared.stxNext_of_running hrunning]
  refine ⟨rfl, rfl, rfl, ?_⟩
  simp only [Shared.setStart_start, hsent, hdelta, Bool.and_true]

end

/-! ### IDLE (R316) -/

/-- One more good IDLE packet in a row. -/
def Lane.idleSeen (l : Lane) : Lane := { l.packetGood 8 with link := { (l.packetGood 8).link with idleRun := min 64 (l.link.idleRun + 1) } }

theorem State.idlePacket_of_good {s : State} {i : LaneId} (hoff : (s.lane i).st ≠ .off) :
    s.idlePacket i 0 = s.upd i (fun l => l.idleSeen.linkUp) := by
  simp [State.idlePacket, hoff, Lane.idleSeen]

section
variable {l : Lane}

theorem Lane.linkUp_of_short (hrun : l.link.idleRun < 64) : l.linkUp = l := by simp [Lane.linkUp, hrun]

/-- The run of 64 good IDLE packets brings the link up. -/
theorem Lane.linkUp_of_run (hoff : l.st ≠ .off) (hdown : l.on LINK_STAT LINK_STAT_UP = false) (hrun : 64 ≤ l.link.idleRun) :
    l.regsBut [LINK_STAT] l.linkUp ∧ l.linkUp.on LINK_STAT LINK_STAT_UP = true ∧ l.linkUp.on LINK_STAT LINK_STAT_LOST = false := by
  have hregs : l.linkUp.regs = ((l.setB LINK_STAT LINK_STAT_UP true).setB LINK_STAT LINK_STAT_LOST false).regs := by
    have hlong : ¬ l.link.idleRun < 64 := Nat.not_lt.mpr hrun
    simp [Lane.linkUp, hoff, hdown, hlong]
  refine ⟨(((Lane.regsBut.refl _ l).setB (by decide) (List.mem_singleton_self _) _ _).setB (by decide) (List.mem_singleton_self _)
    _ _).of_regs_eq hregs, ?_, ?_⟩
  · rw [Lane.on_of_regs_eq hregs, Lane.on_setB_field _ _ _ _ _ (by decide), Lane.on_setB_same _ _ _ _ (by decide)]
  · rw [Lane.on_of_regs_eq hregs, Lane.on_setB_same _ _ _ _ (by decide)]

end

/-- Settles O28: each clause is what the row does with a good packet, or the two ends of the link's life. -/
theorem febenPackets : Obligations.FebenPackets := by
  refine ⟨fun i ep inc dig subs s hoff hup => ?digest, fun i s hoff hup hverdict => ?verdict, fun i s hoff hup => ?write,
    fun i delay s htakes hup => ?word, fun i s hoff hup => ?confirm, fun i ws rest s hoff hup hmir hstep hmissed hroom => ?mirror,
    fun i p last s hoff hup hjoin hstx hunits hdelta hleft hnew => ?round,
    fun i p last s hoff hup hjoin hstx hunits hrun => ?page, fun i s hoff hdown hrun => ?trained,
    fun i s hoff hdown hrun => ?training, fun i s hoff hup => ?lost, fun i s hoff hdown hrun => ?up⟩
  case digest =>
    refine ⟨_, congrArg Host.Outcome.next (State.packet_of_good _ _ hoff hup), ⟨by simp [State.sharedKept], by simp⟩, ?_, ?_⟩
    · rw [State.upd_lane, State.upd_lane]
      rfl
    · rw [State.upd_lane]
  case verdict =>
    refine ⟨_, congrArg Host.Outcome.next (State.packet_of_good _ _ hoff hup),
      ⟨by simp [State.sharedKept, State.verdictCopy], by simp [State.verdictCopy]⟩,
      ?_, ?_⟩
    · rw [State.verdictCopy, State.upd_lane, State.upd_lane]
      exact Lane.regsBut.setF (Lane.regsBut_of_regs_eq _ rfl) (by decide) (List.mem_singleton_self _) _ _
    · rw [State.verdictCopy, State.upd_lane, State.upd_lane_other, Lane.fld_setF_same _ _ _ _ (by decide)]
      exact Nat.mod_eq_of_lt hverdict
  case write =>
    have hgoodOff : ((s.lane i).packetGood 3).st ≠ .off := hoff
    obtain ⟨hsh, hsnap, hpending⟩ := (s.upd i (Lane.packetGood 3)).writesTo_sharedKept i
    refine ⟨_, congrArg Host.Outcome.next (State.packet_of_good _ _ hoff hup), ⟨by rw [hsh, State.upd_sh], by rw [hsnap, State.upd_snap],
      by rw [hpending, State.upd_pending]⟩, ?_, ?_, fun htakes => ?_, fun hidle => ?_⟩
    · rw [State.writesTo_other]
    · rw [State.writesTo_other, State.upd_lane_other]
    · rw [State.writesTo_lane, State.upd_lane, State.upd_lane_other]
      exact Lane.foldl_takeForwarded_of_takes _ htakes
    · rw [State.writesTo_lane, State.upd_lane, State.upd_lane_other]
      exact Lane.foldl_takeForwarded_of_idle _ hgoodOff hidle
  case word =>
    have hoff : (s.lane i).st ≠ .off := fun h => by simp [Lane.takes, Lane.computes, h] at htakes
    have hgood : ((s.upd i (Lane.packetGood 4)).lane i).takes = true := by rw [State.upd_lane]; exact htakes
    have hrow := State.packet_of_good 4 (State.wordPacket i delay.toNat) hoff hup
    rw [State.wordPacket_of_takes _ hgood, State.upd_lane_other, State.upd_sh] at hrow
    have hmax : max delay.toNat ((s.lane i).fld LINK_RESEND LINK_RESEND_FWD_MAX) < 2 ^ LINK_RESEND_FWD_MAX.width :=
      max_lt delay.isLt (Fld.get_lt ..)
    refine ⟨_, congrArg Host.Outcome.next hrow, ⟨by simp, by simp, by simp⟩, ?_, ?_, ?_, ?_, ?_⟩
    · rw [State.upd_lane_other, State.upd_lane_other, State.upd_lane]
    · rw [State.upd_lane_other, State.upd_lane_other, State.upd_lane, State.upd_lane_other]
    · rw [State.upd_lane, State.upd_lane, State.upd_other_lane, State.upd_lane]
      exact Lane.regsBut.setF (Lane.regsBut_of_regs_eq _ rfl) (by decide) (List.mem_singleton_self _) _ _
    · rw [State.upd_lane, State.upd_lane, State.upd_other_lane, State.upd_lane]
      rfl
    · rw [State.upd_lane, State.upd_lane, State.upd_other_lane, State.upd_lane, Lane.fld_setF_same _ _ _ _ (by decide)]
      exact Nat.mod_eq_of_lt hmax
  case confirm =>
    refine ⟨_, congrArg Host.Outcome.next (State.packet_of_good _ _ hoff hup),
      ⟨by simp [State.sharedKept, State.confirm], by simp [State.confirm]⟩, ?_, ?_⟩
    · rw [State.confirm, State.upd_lane, State.upd_lane]
      rfl
    · rw [State.confirm, State.upd_lane, State.upd_lane_other]
      rfl
  case mirror =>
    have hlane : (s.upd i (Lane.packetGood 6)).lane i = (s.lane i).packetGood 6 := State.upd_lane ..
    obtain ⟨n, hn⟩ := State.mirrorPacket_of_next (s := s.upd i (Lane.packetGood 6)) (i := i) (ws := ws) (rest := rest)
      (by rw [hlane]; exact hmir) (by rw [hlane]; exact hstep) (by rw [State.upd_lane_other, hmissed])
    obtain ⟨hregs, hslot, hnext, hothers⟩ := Lane.mirrorIn_effect (l := (s.lane i).packetGood 6) ws hroom
    refine ⟨_, congrArg Host.Outcome.next ((State.packet_of_good _ _ hoff hup).trans hn), ⟨by simp, by simp, by simp⟩, ?_, ?_, ?_, ?_⟩
    case refine_2 =>
      rw [State.upd_lane_other, State.upd_lane, State.upd_lane_other]
      rfl
    case refine_3 => rw [State.upd_lane_other, State.upd_lane]; rfl
    all_goals rw [State.upd_lane, State.upd_other_lane, hlane]
    · exact (Lane.regsBut_of_regs_eq _ rfl).trans hregs
    · exact ⟨hslot, hnext, hothers⟩
  case round =>
    have hrow := State.packet_of_good 7 (State.statePacket i (some p.val) last) hoff hup
    rw [State.statePacket_of_joiner _ _ ((s.joiner_packetGood i 7).trans hjoin) (by rw [State.upd_sh]; exact hstx), State.upd_sh] at hrow
    refine ⟨_, congrArg Host.Outcome.next hrow, ?_, ?_, Shared.stateTaken_of_round p.val last hdelta hunits hleft hnew⟩
    · rw [State.withSh_lane, State.upd_lane]
      rfl
    · rw [State.withSh_lane, State.upd_lane_other]
  case page =>
    have hrow := State.packet_of_good 7 (State.statePacket i (some p.val) last) hoff hup
    rw [State.statePacket_of_joiner _ _ ((s.joiner_packetGood i 7).trans hjoin) (by rw [State.upd_sh]; exact hstx), State.upd_sh] at hrow
    refine ⟨_, congrArg Host.Outcome.next hrow, ?_, ?_, Shared.stateTaken_of_running p.val last hunits hrun⟩
    · rw [State.withSh_lane, State.upd_lane]
      rfl
    · rw [State.withSh_lane, State.upd_lane_other]
  case trained =>
    have hrun64 : (s.lane i).idleSeen.link.idleRun = 64 := by simp [Lane.idleSeen, hrun]
    obtain ⟨hregs, hup, hlost⟩ := Lane.linkUp_of_run (l := (s.lane i).idleSeen) hoff hdown hrun64.ge
    refine ⟨_, congrArg Host.Outcome.next (State.idlePacket_of_good hoff), s.upd_otherKept i _, ?_⟩
    rw [State.upd_lane]
    exact ⟨(Lane.regsBut_of_regs_eq _ rfl).trans hregs, hup, hlost⟩
  case training =>
    have hseen : (s.lane i).idleSeen.link.idleRun = (s.lane i).link.idleRun + 1 := Nat.min_eq_right (by omega)
    refine ⟨_, congrArg Host.Outcome.next (State.idlePacket_of_good hoff), s.upd_otherKept i _, ?_⟩
    rw [State.upd_lane, Lane.linkUp_of_short (by rw [hseen]; omega)]
    exact ⟨rfl, hseen⟩
  case lost =>
    refine ⟨_, rfl, State.linkLost_other hoff hup, State.linkLost_regsBut hoff hup, ?_⟩
    rw [State.linkLost_lane hoff hup]
    exact ⟨Lane.linkDown_regsBut _, Lane.linkDown_up _, Lane.linkDown_lost _, Lane.linkDown_losses _, Lane.linkDown_pending _, rfl, rfl⟩
  case up =>
    refine ⟨_, rfl, s.upd_otherKept i _, ?_⟩
    rw [State.upd_lane]
    exact Lane.linkUp_of_run hoff hdown hrun

end Sys2Proof.Machine
end

section
/-! The verdict of a lane in adjudication (R322–R324). -/

namespace Sys2Proof.Machine

/-- The cause bits of a verdict with consistent bank signatures: a failed replay, failed reference vectors, a fault found before. -/
def Lane.verdictCause (replayBad refBad : Bool) (l : Lane) : Nat :=
  (replayBad && l.on SYS_ADJ SYS_ADJ_REPLAYED).toNat + 4 * (refBad || l.on SYS_TEST SYS_TEST_FAIL_ADJ).toNat
    + 8 * l.adj.pre.isSome.toNat

/-- The verdict from its cause and the duration in µs: TIMEOUT above 400, PASS without a cause, else FAIL (R324). -/
def verdictOf (cause dur : Nat) : Nat := if 400 < dur then 3 else if cause = 0 then 1 else 2

/-- The lane with its verdict delivered and shown. -/
def Lane.verdictGiven (cause v dur : Nat) (l : Lane) : Lane :=
  { ((l.setF SYS_ADJ SYS_ADJ_VERD_OWN v).setF SYS_ADJ SYS_ADJ_CAUSE cause).setF SYS_ADJDUR SYS_ADJDUR_DUR dur with
    adj := { l.adj with verdict := v, cause := cause } }

theorem verdictOf_lt (cause dur : Nat) : verdictOf cause dur < 4 := by
  unfold verdictOf
  split
  · decide
  · split <;> decide

section
variable (l : Lane)

theorem Lane.verdictCause_lt (replayBad refBad : Bool) : l.verdictCause replayBad refBad < 16 := by
  have hreplay := (replayBad && l.on SYS_ADJ SYS_ADJ_REPLAYED).toNat_le
  have href := (refBad || l.on SYS_TEST SYS_TEST_FAIL_ADJ).toNat_le
  have hpre := l.adj.pre.isSome.toNat_le
  unfold Lane.verdictCause
  omega

theorem Lane.verdictGiven_regs (cause v dur : Nat) : (l.verdictGiven cause v dur).regs =
    (((l.setF SYS_ADJ SYS_ADJ_VERD_OWN v).setF SYS_ADJ SYS_ADJ_CAUSE cause).setF SYS_ADJDUR SYS_ADJDUR_DUR dur).regs := rfl

/-- SYS_ADJ and SYS_ADJDUR show the verdict, its cause and its duration, and no other register changes. -/
theorem Lane.verdictGiven_effect {cause v dur : Nat} (hcause : cause < 16) (hv : v < 4) (hdur : dur < 512) :
    l.regsBut [SYS_ADJ, SYS_ADJDUR] (l.verdictGiven cause v dur) ∧ (l.verdictGiven cause v dur).fld SYS_ADJ SYS_ADJ_VERD_OWN = v ∧
      (l.verdictGiven cause v dur).fld SYS_ADJ SYS_ADJ_CAUSE = cause ∧
      (l.verdictGiven cause v dur).fld SYS_ADJDUR SYS_ADJDUR_DUR = dur := by
  have hfld (k : Nat) (f : Fld) := Lane.fld_of_regs_eq (l.verdictGiven_regs cause v dur) k f
  refine ⟨?_, ?_, ?_, ?_⟩
  · exact ((((Lane.regsBut.refl _ l).setF (by decide) (by simp) _ _).setF (by decide) (by simp) _ _).setF (by decide) (by simp)
      _ _).of_regs_eq (l.verdictGiven_regs cause v dur)
  · rw [hfld, Lane.fld_setF_ne _ _ _ _ _ _ (by decide), Lane.fld_setF_field _ _ _ _ _ (by decide),
      Lane.fld_setF_same _ _ _ _ (by decide)]
    exact Nat.mod_eq_of_lt hv
  · rw [hfld, Lane.fld_setF_ne _ _ _ _ _ _ (by decide), Lane.fld_setF_same _ _ _ _ (by decide)]
    exact Nat.mod_eq_of_lt hcause
  · rw [hfld, Lane.fld_setF_same _ _ _ _ (by decide)]
    exact Nat.mod_eq_of_lt hdur

variable {l}

/-- A first verdict in adjudication, no working bank with an inconsistent signature. -/
theorem Lane.verdict_of_consistent (replayBad refBad : Bool) (dur : Nat) (hst : l.st = .adjudicating) (hnone : l.adj.verdict = 0) :
    l.verdict replayBad refBad 0#32 dur =
      l.verdictGiven (l.verdictCause replayBad refBad) (verdictOf (l.verdictCause replayBad refBad) dur) dur := by
  have hbad : (upTo 32).filter (fun b => bitOf 0#32 b && workingOwner (l.owner b)) = [] :=
    List.filter_eq_nil_iff.mpr fun b _ => by simp [bitOf]
  have hopen : (l.st != .adjudicating || l.adj.verdict != 0) = false := by simp [hst, hnone]
  unfold Lane.verdict
  rw [hopen, hbad]
  rfl

end

/-- Settles O31: a first verdict is delivered with the cause and the duration it was given. -/
theorem adjudicationVerdictRow : Obligations.AdjudicationVerdictRow := by
  intro i replayBad refBad dur s hst hnone cause v
  obtain ⟨hregs, hverdict, hcause, hdur⟩ := (s.lane i).verdictGiven_effect ((s.lane i).verdictCause_lt replayBad refBad)
    (verdictOf_lt ((s.lane i).verdictCause replayBad refBad) dur.toNat) dur.isLt
  refine ⟨_, rfl, s.upd_otherKept i _, ?_⟩
  rw [State.upd_lane, Lane.verdict_of_consistent _ _ _ hst hnone]
  exact ⟨hregs, rfl, rfl, hverdict, hcause, hdur⟩

end Sys2Proof.Machine
end

section
/-! Transitions of lanes (R312–R314): what a transition, its record and its event leave of both lanes and of the shared part. -/

namespace Sys2Proof.Machine

/-! ### Changes of a lane aside from its state -/

/-- The registers of a lane that its release, its retirement, a move of authority or the event of a transition may write. -/
def quietRegs : List Nat :=
  [REC_STAT, REC_SEQ, REC_LOST, PWR_LHOLD, PWR_LTRIP, SYS_ADJDUR, CAN_LOCAL 0, CAN_LOCAL 1, CAN_STAT 0, CAN_STAT 1]
    ++ (upTo 6).map REC_DROP ++ (upTo 6).map EVT_PEND

/-- The registers that a transition of a lane may write: those, and SYS_STATE. -/
def moveRegs : List Nat := SYS_STATE :: quietRegs

/-- The lane keeps its state, and every register but the quiet ones. -/
structure Lane.keepsState (l m : Lane) : Prop where
  regs : l.regsBut quietRegs m
  state : l.sameDiscipline m

namespace Lane.keepsState

variable {l m n : Lane}

theorem refl (l : Lane) : l.keepsState l := ⟨.refl _ _, .refl _⟩

theorem trans (hm : l.keepsState m) (hn : m.keepsState n) : l.keepsState n := ⟨hm.regs.trans hn.regs, hm.state.trans hn.state⟩

/-- Work of the lane other than its registers changes. -/
theorem work (hm : l.keepsState m) (hregs : n.regs = m.regs) (hstate : m.sameDiscipline n) : l.keepsState n :=
  ⟨hm.regs.of_regs_eq hregs, hm.state.trans hstate⟩

theorem ite {c : Prop} [Decidable c] (hm : l.keepsState m) (hn : l.keepsState n) : l.keepsState (if c then m else n) := by
  split
  · exact hm
  · exact hn

theorem foldl {α : Type} {f : Lane → α → Lane} {xs : List α} (hf : ∀ m : Lane, ∀ x ∈ xs, m.keepsState (f m x)) (hm : l.keepsState m) :
    l.keepsState (xs.foldl f m) := by
  induction xs generalizing m with
  | nil => exact hm
  | cons x xs ih => exact ih (fun n y hy => hf n y (List.mem_cons_of_mem x hy)) (hm.trans (hf m x List.mem_cons_self))

theorem wr {k : Nat} (hm : l.keepsState m) (hk : k < 2 ^ 20) (hks : k ∈ quietRegs) (w : Word) : l.keepsState (m.wr k w) :=
  ⟨hm.regs.wr hk hks w, hm.state.trans ⟨rfl, rfl, rfl⟩⟩

theorem setF {k : Nat} (hm : l.keepsState m) (hk : k < 2 ^ 20) (hks : k ∈ quietRegs) (f : Fld) (v : Nat) : l.keepsState (m.setF k f v) :=
  hm.wr hk hks (f.put v (m.rd k))

theorem setB {k : Nat} (hm : l.keepsState m) (hk : k < 2 ^ 20) (hks : k ∈ quietRegs) (f : Fld) (v : Bool) :
    l.keepsState (m.setB k f v) := hm.setF hk hks f v.toNat

theorem bump {k : Nat} (hm : l.keepsState m) (hk : k < 2 ^ 20) (hks : k ∈ quietRegs) (f : Fld) (v : Nat) :
    l.keepsState (m.bump k f v) := hm.setF hk hks f _

theorem setRec (hm : l.keepsState m) (f : RecWork → RecWork) : l.keepsState (m.setRec f) := hm.work rfl ⟨rfl, rfl, rfl⟩

theorem setCan (hm : l.keepsState m) (b : Nat) (w : CanWork) : l.keepsState (m.setCan b w) := hm.work rfl ⟨rfl, rfl, rfl⟩

theorem ev (hm : l.keepsState m) (e : Nat) : l.keepsState (m.ev e) := hm.work rfl ⟨rfl, rfl, rfl⟩

theorem record (hm : l.keepsState m) (code time : Nat) (p0 p1 p2 p3 : Word) (rank : Nat) :
    l.keepsState (m.record code time p0 p1 p2 p3 rank) := hm.work rfl ⟨rfl, rfl, rfl⟩

/-- A lane-local event is pending at once. -/
theorem evNow {e : Nat} (hm : l.keepsState m) (he : e < 192) : l.keepsState (m.evNow e) := by
  have hword : EVT_PEND (e / 32) ∈ quietRegs :=
    List.mem_append_right _ (List.mem_map_of_mem (List.mem_range.mpr (by omega)))
  exact (hm.wr (by unfold EVT_PEND; omega) hword _).work rfl ⟨rfl, rfl, rfl⟩

end Lane.keepsState

/-! ### The release of a lane's records and events (R354, R549) -/

section
variable (l : Lane)

theorem Lane.drop_keepsState {r : Rec} (hcls : r.cls ≤ 5) : l.keepsState (l.drop r) := by
  have hdrop : REC_DROP r.cls ∈ quietRegs :=
    List.mem_append_left _ (List.mem_append_right _ (List.mem_map_of_mem (List.mem_range.mpr (by omega))))
  unfold Lane.drop
  dsimp only
  exact (((Lane.keepsState.refl l).bump (by unfold REC_DROP; omega) hdrop _ _).setRec _)

theorem Lane.intake_keepsState (r : Rec) : l.keepsState (l.intake r) := by
  unfold Lane.intake
  dsimp only
  split
  next hdropped =>
    exact l.drop_keepsState (by simp only [Bool.and_eq_true, decide_eq_true_eq] at hdropped; exact hdropped.1)
  · exact .ite
      ((((((Lane.keepsState.refl l).bump (by decide) (by decide) _ _).setB (by decide) (by decide) _ _).setRec _)).ev _)
      ((((Lane.keepsState.refl l).setF (by decide) (by decide) _ _).setF (by decide) (by decide) _ _).setRec _)

theorem Lane.freezeEnd_keepsState (g cause : Nat) : l.keepsState (l.freezeEnd g cause) :=
  .ite (.refl l) (((Lane.keepsState.refl l).setB (by decide) (by decide) _ _).record ..)

theorem Lane.releaseRecs_keepsState (g : Nat) : l.keepsState (l.releaseRecs g) := by
  unfold Lane.releaseRecs
  extract_lets f drained noted recs admitted full shed shedding counted
  have hdrained : l.keepsState drained := (Lane.keepsState.refl l).setF (by decide) (by decide) _ _
  have hnoted : l.keepsState noted := .ite ((hdrained.record ..).setRec _) hdrained
  have hadmitted : l.keepsState admitted :=
    .foldl (fun m r _ => m.intake_keepsState r) (hnoted.work rfl ⟨rfl, rfl, rfl⟩)
  have hshed : l.keepsState shedding := .ite ((hadmitted.setF (by decide) (by decide) _ _).ev _) hadmitted
  exact .ite ((hshed.setRec _).trans (Lane.freezeEnd_keepsState ..)) (hshed.setRec _)

theorem Lane.evRelease_keepsState (ev : BitVec 192) : l.keepsState (l.evRelease ev) := by
  refine .foldl (fun m w hw => (Lane.keepsState.refl m).wr ?_ ?_ _) (.refl l)
  · have := List.mem_range.mp hw
    unfold EVT_PEND
    omega
  · exact List.mem_append_right _ (List.mem_map_of_mem hw)

theorem Lane.flushReserve_keepsState : l.keepsState l.flushReserve :=
  ((Lane.keepsState.refl l).setF (by decide) (by decide) _ _).setF (by decide) (by decide) _ _

theorem Lane.releaseWork_keepsState (g : Nat) : l.keepsState (l.releaseWork g) := by
  have hreserved := (l.releaseRecs_keepsState g).trans (Lane.flushReserve_keepsState _)
  unfold Lane.releaseWork
  generalize (l.releaseRecs g).flushReserve = m at hreserved ⊢
  exact (hreserved.trans (m.evRelease_keepsState m.raised)).work rfl ⟨rfl, rfl, rfl⟩

end

/-! ### What a transition leaves of the node -/

/-- What a transition leaves: registers of the lanes other than those it writes, the shared part but for records that wait for the first
epoch, the kept cut, and UNRES of the node. -/
structure State.moved (s t : State) : Prop where
  regs : ∀ j, (s.lane j).regsBut moveRegs (t.lane j)
  shared : ∃ e, t.sh = { s.sh with start := { s.sh.start with early := e } }
  snap : t.snap = s.snap
  unres : t.unres = s.unres

namespace State.moved

variable {s t u : State}

theorem refl (s : State) : s.moved s := ⟨fun _ => .refl _ _, ⟨_, rfl⟩, rfl, rfl⟩

theorem trans (ht : s.moved t) (hu : t.moved u) : s.moved u := by
  obtain ⟨e, he⟩ := ht.shared
  obtain ⟨e', he'⟩ := hu.shared
  exact ⟨fun j => (ht.regs j).trans (hu.regs j), ⟨e', by rw [he', he]⟩, hu.snap.trans ht.snap, hu.unres.trans ht.unres⟩

/-- UNRES of the node follows the bit in both lanes. -/
theorem unres_of_state (h : ∀ j, (t.lane j).on SYS_STATE SYS_STATE_UNRES = (s.lane j).on SYS_STATE SYS_STATE_UNRES) : t.unres = s.unres :=
  congrArg₂ or (h .A) (h .B)

/-- Only the lanes change, and each but for its quiet registers. -/
theorem of_lanes (hsh : t.sh = s.sh) (hsnap : t.snap = s.snap) (hregs : ∀ j, (s.lane j).regsBut quietRegs (t.lane j)) : s.moved t :=
  ⟨fun j => (hregs j).mono (List.subset_cons_self _ _), ⟨_, hsh⟩, hsnap, unres_of_state fun j => (hregs j).on (by decide) (by decide) _⟩

theorem upd (i : LaneId) {f : Lane → Lane} (hf : ∀ l : Lane, l.regsBut quietRegs (f l)) (s : State) : s.moved (s.upd i f) := by
  refine of_lanes (State.upd_sh ..) (State.upd_snap ..) fun j => ?_
  rcases i with _ | _ <;> rcases j with _ | _
  exacts [hf _, .refl _ _, .refl _ _, hf _]

theorem onLanes {p : Lane → Bool} {f : Lane → Lane} (hf : ∀ l : Lane, l.regsBut quietRegs (f l)) (s : State) :
    s.moved (State.onLanes p f s) := by
  refine of_lanes rfl rfl fun j => ?_
  rw [State.onLanes_lane]
  split
  · exact hf _
  · exact .refl _ _

theorem auth (h : s.moved t) : t.sh.auth = s.sh.auth := by
  obtain ⟨e, he⟩ := h.shared
  rw [he]

theorem bisque (h : s.moved t) : t.sh.bisque = s.sh.bisque := by
  obtain ⟨e, he⟩ := h.shared
  rw [he]

theorem sharedRegs (h : s.moved t) : t.sh.regs = s.sh.regs := by
  obtain ⟨e, he⟩ := h.shared
  rw [he]

theorem resetDue (h : s.moved t) : t.sh.start.resetDue = s.sh.start.resetDue := by
  obtain ⟨e, he⟩ := h.shared
  rw [he]

/-- A register of a lane that no transition writes. -/
theorem fld (h : s.moved t) (j : LaneId) {k : Nat} (hk : k < 2 ^ 20) (hks : k ∉ moveRegs) (f : Fld) :
    (t.lane j).fld k f = (s.lane j).fld k f := (h.regs j).fld hk hks f

end State.moved

theorem State.onLanes_sameDiscipline {p : Lane → Bool} {f : Lane → Lane} (hf : ∀ l : Lane, l.sameDiscipline (f l)) (s : State)
    (j : LaneId) : (s.lane j).sameDiscipline ((State.onLanes p f s).lane j) := by
  rw [State.onLanes_lane]
  exact .ite (hf _) (.refl _)

/-! ### Records and events of the node -/

section
variable (s : State) (j : LaneId)

/-- A record of the node is formed in the lanes, or waits for the first epoch. -/
theorem State.sysRec_cases (code p0 p1 p2 p3 rank : Nat) :
    (∃ f : Lane → Lane, (∀ l : Lane, l.keepsState (f l)) ∧ s.sysRec code p0 p1 p2 p3 rank = s.working f) ∨
      ∃ e, s.sysRec code p0 p1 p2 p3 rank = s.withSh { s.sh with start := { s.sh.start with early := e } } := by
  unfold State.sysRec
  split
  · exact .inl ⟨_, fun l => (Lane.keepsState.refl l).record .., rfl⟩
  · exact .inr ⟨_, rfl⟩

theorem State.sysRec_moved (code p0 p1 p2 p3 rank : Nat) : s.moved (s.sysRec code p0 p1 p2 p3 rank) := by
  obtain ⟨f, hf, h⟩ | ⟨e, h⟩ := s.sysRec_cases code p0 p1 p2 p3 rank
  · rw [h]
    exact .onLanes (fun l => (hf l).regs) s
  · rw [h]
    exact ⟨fun j => by rw [State.withSh_lane]; exact .refl _ _, ⟨e, rfl⟩, rfl, rfl⟩

theorem State.sysRec_sameDiscipline (code p0 p1 p2 p3 rank : Nat) :
    (s.lane j).sameDiscipline ((s.sysRec code p0 p1 p2 p3 rank).lane j) := by
  obtain ⟨f, hf, h⟩ | ⟨e, h⟩ := s.sysRec_cases code p0 p1 p2 p3 rank
  · rw [h]
    exact State.onLanes_sameDiscipline (fun l => (hf l).state) s j
  · rw [h, State.withSh_lane]
    exact .refl _

theorem State.laneEvent_moved : s.moved s.laneEvent := .onLanes (fun l => ((Lane.keepsState.refl l).evNow (by decide)).regs) s

theorem State.laneEvent_sameDiscipline : (s.lane j).sameDiscipline (s.laneEvent.lane j) :=
  State.onLanes_sameDiscipline (fun l => ((Lane.keepsState.refl l).evNow (by decide)).state) s j

variable (i : LaneId) (old : Lane) (row outcome : Nat)

theorem State.laneSay_moved : s.moved (s.laneSay i old row outcome) := (State.sysRec_moved ..).trans (State.laneEvent_moved _)

theorem State.laneSay_sameDiscipline : (s.lane j).sameDiscipline ((s.laneSay i old row outcome).lane j) :=
  (State.sysRec_sameDiscipline ..).trans (State.laneEvent_sameDiscipline ..)

end

/-! ### SYS_STATE of both lanes -/

section
variable (auth : Option LaneId) (hold : Bool) (o l : Lane)

theorem Lane.showState_cases : Lane.showState auth hold o l = l ∨ ∃ w, Lane.showState auth hold o l = l.wr SYS_STATE w := by
  unfold Lane.showState
  split
  · exact .inl rfl
  · exact .inr ⟨_, rfl⟩

theorem Lane.showState_regsBut : l.regsBut [SYS_STATE] (Lane.showState auth hold o l) := by
  obtain h | ⟨w, h⟩ := Lane.showState_cases auth hold o l <;> rw [h]
  · exact .refl _ _
  · exact (Lane.regsBut.refl _ l).wr (by decide) (List.mem_singleton_self _) w

theorem Lane.showState_sameDiscipline : l.sameDiscipline (Lane.showState auth hold o l) := by
  obtain h | ⟨w, h⟩ := Lane.showState_cases auth hold o l <;> rw [h] <;> exact ⟨rfl, rfl, rfl⟩

/-- A lane whose core domain is on shows UNRES of either lane (R326). -/
theorem Lane.showState_unres : (Lane.showState auth hold o l).on SYS_STATE SYS_STATE_UNRES =
    if l.st == .off then l.on SYS_STATE SYS_STATE_UNRES else l.on SYS_STATE SYS_STATE_UNRES || o.on SYS_STATE SYS_STATE_UNRES := by
  unfold Lane.showState
  split
  · rfl
  · rw [Lane.on_of_rd (Lane.rd_wr_same ..), Fld.on_put_apart (by decide), Fld.on_put_same _ _ _ (by decide)]

end

section
variable (s : State) (j : LaneId)

theorem State.sysSync_lane : s.sysSync.lane j = Lane.showState s.sh.auth s.sh.hold (s.lane j.other) (s.lane j) := by cases j <;> rfl

theorem State.sysSync_sameDiscipline : (s.lane j).sameDiscipline (s.sysSync.lane j) := by
  rw [State.sysSync_lane]
  exact Lane.showState_sameDiscipline ..

theorem State.sysSync_unres : s.sysSync.unres = s.unres := by
  have hunres (t : State) : t.unres = ((t.lane .A).on SYS_STATE SYS_STATE_UNRES || (t.lane .B).on SYS_STATE SYS_STATE_UNRES) := rfl
  rw [hunres, hunres, State.sysSync_lane, State.sysSync_lane, Lane.showState_unres, Lane.showState_unres]
  dsimp only [LaneId.other]
  cases (s.lane .A).on SYS_STATE SYS_STATE_UNRES <;> cases (s.lane .B).on SYS_STATE SYS_STATE_UNRES <;>
    cases (s.lane .A).st == .off <;> cases (s.lane .B).st == .off <;> rfl

theorem State.sysSync_moved : s.moved s.sysSync :=
  ⟨fun j => by rw [State.sysSync_lane]; exact (Lane.showState_regsBut _ _ _ _).mono (by simp [moveRegs]), ⟨_, rfl⟩, rfl, s.sysSync_unres⟩

theorem State.stepSync_lane : s.stepSync.lane j = Lane.stepWith (s.lane j.other) (s.lane j) := by cases j <;> rfl

theorem Lane.stepWith_cases (o l : Lane) : ∃ v, Lane.stepWith o l = { l with instep := v } := by
  unfold Lane.stepWith
  split
  · exact ⟨l.instep, rfl⟩
  · exact ⟨_, rfl⟩

theorem State.stepSync_st : (s.stepSync.lane j).st = (s.lane j).st := by
  obtain ⟨v, h⟩ := Lane.stepWith_cases (s.lane j.other) (s.lane j)
  rw [State.stepSync_lane, h]

theorem State.stepSync_moved : s.moved s.stepSync := by
  refine .of_lanes rfl rfl fun j => ?_
  obtain ⟨v, h⟩ := Lane.stepWith_cases (s.lane j.other) (s.lane j)
  rw [State.stepSync_lane, h]
  exact Lane.regsBut_of_regs_eq _ rfl

/-- A SHADOW lane is in step by itself. -/
theorem State.stepSync_shadow (hst : (s.lane j).st = .shadow) : s.stepSync.lane j = s.lane j := by
  rw [State.stepSync_lane, Lane.stepWith, if_pos (beq_iff_eq.mpr hst)]

end

/-! ### A transition (R314) -/

/-- A lane in another state. -/
def Lane.inState (st : LaneSt) (instep : Bool) (l : Lane) : Lane := { l with st := st, instep := instep }

section
variable (s : State) (i : LaneId) (st : LaneSt) (instep : Bool) (row outcome : Nat)

theorem State.laneTo_cases : (s.laneTo i st instep row outcome = s ∧ (s.lane i).st = st ∧ (s.lane i).instep = instep) ∨
    s.laneTo i st instep row outcome =
      ((s.upd i (Lane.inState st instep)).stepSync.sysSync).laneSay i (s.lane i) row outcome := by
  unfold State.laneTo
  by_cases h : ((s.lane i).st == st && (s.lane i).instep == instep) = true
  · rw [Bool.and_eq_true, beq_iff_eq, beq_iff_eq] at h
    exact .inl ⟨by simp [h], h.1, h.2⟩
  · exact .inr (if_neg h)

/-- The announcement of a transition keeps the states that the node has come to. -/
theorem State.announced_sameDiscipline (t : State) (old : Lane) (j : LaneId) :
    (t.lane j).sameDiscipline ((t.sysSync.laneSay i old row outcome).lane j) :=
  (t.sysSync_sameDiscipline j).trans (State.laneSay_sameDiscipline ..)

theorem State.laneTo_moved : s.moved (s.laneTo i st instep row outcome) := by
  obtain ⟨h, -⟩ | h := s.laneTo_cases i st instep row outcome <;> rw [h]
  · exact .refl s
  · exact (((State.moved.upd i (f := Lane.inState st instep) (fun l => Lane.regsBut_of_regs_eq _ rfl) s).trans (State.stepSync_moved _)).trans
      (State.sysSync_moved _)).trans (State.laneSay_moved ..)

theorem State.laneTo_st : ((s.laneTo i st instep row outcome).lane i).st = st := by
  obtain ⟨h, hst, -⟩ | h := s.laneTo_cases i st instep row outcome <;> rw [h]
  · exact hst
  · rw [(State.announced_sameDiscipline ..).st, State.stepSync_st, State.upd_lane]
    rfl

theorem State.laneTo_other_st : ((s.laneTo i st instep row outcome).lane i.other).st = (s.lane i.other).st := by
  obtain ⟨h, -⟩ | h := s.laneTo_cases i st instep row outcome <;> rw [h]
  rw [(State.announced_sameDiscipline ..).st, State.stepSync_st, State.upd_lane_other]

theorem State.laneTo_shadow_instep : ((s.laneTo i .shadow instep row outcome).lane i).instep = instep := by
  obtain ⟨h, -, hstep⟩ | h := s.laneTo_cases i .shadow instep row outcome <;> rw [h]
  · exact hstep
  · have hshadow : ((s.upd i (Lane.inState .shadow instep)).lane i).st = .shadow := by rw [State.upd_lane]; rfl
    rw [(State.announced_sameDiscipline ..).instep, State.stepSync_shadow _ _ hshadow, State.upd_lane]
    rfl

end

/-! ### Retirement (R312, R334) -/

/-- What a retired lane gives up. -/
def Lane.retired (l : Lane) : Lane :=
  { l with rcd := { l.rcd with staging := [], spill := [] }, writes := [], cut := {}, formed := [], raised := 0#192,
           link := { l.link with fwd := [], wfwd := [], kept := [] }, adj := { l.adj with catchUp := 0, sw := none } }

/-- The copy to a store ends. -/
def State.mirrorStop (s : State) : State :=
  State.onLanes (fun l => l.st != .off) (fun l => l.setB REC_STAT REC_STAT_MIRRORING false) s

section
variable {s : State} {i : LaneId} (row outcome : Nat)

theorem Lane.retired_keepsState (l : Lane) : l.keepsState l.retired := (Lane.keepsState.refl l).work rfl ⟨rfl, rfl, rfl⟩

theorem State.mirrorStop_moved (s : State) : s.moved s.mirrorStop :=
  .onLanes (fun l => ((Lane.keepsState.refl l).setB (by decide) (by decide) _ _).regs) s

theorem State.mirrorStop_st (s : State) (j : LaneId) : (s.mirrorStop.lane j).st = (s.lane j).st :=
  (State.onLanes_sameDiscipline (fun l => ((Lane.keepsState.refl l).setB (by decide) (by decide) _ _).state) s j).st

variable (hoff : (s.lane i).st ≠ .off)
include hoff

theorem State.retire_of_on : s.retire i row outcome = ((s.laneTo i .retired false row outcome).mirrorStop).upd i Lane.retired := by
  have hon : ((s.lane i).st == .off) = false := beq_eq_false_iff_ne.mpr hoff
  unfold State.retire
  rw [hon]
  rfl

theorem State.retire_moved : s.moved (s.retire i row outcome) := by
  rw [State.retire_of_on row outcome hoff]
  exact ((State.laneTo_moved ..).trans (State.mirrorStop_moved _)).trans (.upd i (fun l => l.retired_keepsState.regs) _)

theorem State.retire_st : ((s.retire i row outcome).lane i).st = .retired := by
  rw [State.retire_of_on row outcome hoff, State.upd_lane, (Lane.retired_keepsState _).state.st, State.mirrorStop_st, State.laneTo_st]

theorem State.retire_other_st : ((s.retire i row outcome).lane i.other).st = (s.lane i.other).st := by
  rw [State.retire_of_on row outcome hoff, State.upd_lane_other, State.mirrorStop_st, State.laneTo_other_st]

end

/-! ### Output authority (R26, R210, R333, R399) -/

/-- The lane keeps its state, and every register that no transition writes. -/
structure Lane.keptByMove (l m : Lane) : Prop where
  regs : l.regsBut moveRegs m
  state : l.sameDiscipline m

theorem Lane.keptByMove.refl (l : Lane) : l.keptByMove l := ⟨.refl _ _, .refl _⟩

theorem Lane.keptByMove.trans {l m n : Lane} (hm : l.keptByMove m) (hn : m.keptByMove n) : l.keptByMove n :=
  ⟨hm.regs.trans hn.regs, hm.state.trans hn.state⟩

theorem Lane.keepsState.keptByMove {l m : Lane} (h : l.keepsState m) : l.keptByMove m :=
  ⟨h.regs.mono (List.subset_cons_self _ _), h.state⟩

section
variable (s : State) (j : LaneId)

theorem Lane.canRestrict_keepsState (l : Lane) {b : Nat} (hb : b ∈ [0, 1]) (time cause : Nat) (v : Bool) :
    l.keepsState (l.canRestrict b time cause v) := by
  have hstat : CAN_STAT b < 2 ^ 20 ∧ CAN_STAT b ∈ quietRegs := by
    obtain rfl | rfl : b = 0 ∨ b = 1 := by simpa using hb
    · decide
    · decide
  unfold Lane.canRestrict
  dsimp only
  exact .ite (.refl l)
    (((((Lane.keepsState.refl l).setB hstat.1 hstat.2 _ _).setCan _ _).record _ _ _ _ _ _ _).ev _)

theorem State.authRestrict_lane (a : Option LaneId) : (s.lane j).keptByMove ((s.authRestrict a).lane j) := by
  unfold State.authRestrict
  split
  · rw [State.both_lane]
    split
    · exact (Lane.keepsState.foldl (fun m b hb => m.canRestrict_keepsState hb ..) (.refl _)).keptByMove
    · exact .refl _
  · exact .refl _

theorem Lane.canModes_keepsState (l : Lane) (auth : Bool) (run : Nat → Bool) : l.keepsState (l.canModes auth run) := by
  have hlocal {b : Nat} (hb : b ∈ [0, 1]) : CAN_LOCAL b < 2 ^ 20 ∧ CAN_LOCAL b ∈ quietRegs := by
    obtain rfl | rfl : b = 0 ∨ b = 1 := by simpa using hb
    · decide
    · decide
  exact .ite (.refl l) (.foldl (fun m b hb => (Lane.keepsState.refl m).setF (hlocal hb).1 (hlocal hb).2 _ _) (.refl l))

theorem State.canSync_lane : (s.lane j).keptByMove (s.canSync.lane j) := by
  cases j <;> exact (Lane.canModes_keepsState ..).keptByMove

theorem State.ringRec_keptByMove (code w : Nat) (e : Bool) : (s.lane j).keptByMove ((s.ringRec code w e).lane j) := by
  refine ⟨Lane.regsBut_of_regs_eq _ (State.ringRec_lane_regs ..), ?_⟩
  unfold State.ringRec
  split
  · refine State.onLanes_sameDiscipline (fun l => ?_) s j
    cases e <;> exact ⟨rfl, rfl, rfl⟩
  · rw [State.withSh_lane]
    exact .refl _

/-- The bypass stands, or closes with its record. -/
theorem State.ringSync_cases (w : Nat) :
    s.ringSync w = s ∨ s.ringSync w = (s.withSh s.sh.bypassClosed).ringRec 0x0404 w false := by
  unfold State.ringSync
  split
  · exact .inl rfl
  · unfold State.bypassClose
    split
    · exact .inr rfl
    · exact .inl rfl

theorem State.ringSync_lane (w : Nat) : (s.lane j).keptByMove ((s.ringSync w).lane j) := by
  obtain h | h := s.ringSync_cases w <;> rw [h]
  · exact .refl _
  · rw [← State.withSh_lane s s.sh.bypassClosed j]
    exact State.ringRec_keptByMove ..

theorem State.setAuth_lane (a : Option LaneId) : (s.lane j).keptByMove ((s.setAuth a).lane j) := by
  have hsync (t : State) : (t.lane j).keptByMove (t.sysSync.lane j) := ⟨t.sysSync_moved.regs j, t.sysSync_sameDiscipline j⟩
  have hwith := (s.authRestrict a).withSh_lane { (s.authRestrict a).sh with auth := a } j
  exact ((s.authRestrict_lane j a).trans (hwith ▸ hsync _)).trans ((State.canSync_lane ..).trans (State.ringSync_lane ..))

theorem State.ringRec_auth (code w : Nat) (e : Bool) : (s.ringRec code w e).sh.auth = s.sh.auth := by
  unfold State.ringRec
  split <;> rfl

theorem State.ringSync_auth (w : Nat) : (s.ringSync w).sh.auth = s.sh.auth := by
  obtain h | h := s.ringSync_cases w <;> rw [h]
  exact State.ringRec_auth ..

theorem State.setAuth_auth (a : Option LaneId) : (s.setAuth a).sh.auth = a := State.ringSync_auth ..

end

end Sys2Proof.Machine
end

section
/-! The SYS commands at their effect boundary (R336–R338): the answer in SYS_CMDST, the outcome, and what a command that ends DONE does. -/

namespace Sys2Proof.Machine

/-! ### The answer in SYS_CMDST -/

/-- The lane with the command and its status in SYS_CMDST. -/
def Lane.sysAnswered (op ln st : Nat) (l : Lane) : Lane := (l.sysNote op ln).setF SYS_CMDST SYS_CMDST_STATUS st

section
variable (op ln st : Nat) (l : Lane)

theorem Lane.sysNote_sameDiscipline : l.sameDiscipline (l.sysNote op ln) := ⟨rfl, rfl, rfl⟩

theorem Lane.sysAnswered_sameDiscipline : l.sameDiscipline (l.sysAnswered op ln st) := ⟨rfl, rfl, rfl⟩

theorem Lane.sysNote_rd_ne {k : Nat} (hk : k % 2 ^ 20 ≠ SYS_CMDST % 2 ^ 20) : (l.sysNote op ln).rd k = l.rd k := by
  rw [Lane.sysNote, Lane.rd_setF_ne _ _ _ _ _ hk, Lane.rd_setF_ne _ _ _ _ _ hk]

theorem Lane.sysAnswered_regsBut : l.regsBut [SYS_CMDST] (l.sysAnswered op ln st) :=
  have hks := List.mem_singleton_self SYS_CMDST
  (((Lane.regsBut.refl _ l).setF (by decide) hks _ _).setF (by decide) hks _ _).setF (by decide) hks _ _

theorem Lane.sysAnswered_status (hst : st < 4) : (l.sysAnswered op ln st).fld SYS_CMDST SYS_CMDST_STATUS = st := by
  rw [Lane.sysAnswered, Lane.fld_setF_same _ _ _ _ (by decide)]
  exact Nat.mod_eq_of_lt hst

end

/-! ### The outcome of a command (R336, R337) -/

/-- Two changes of the lanes that compute, the first of which leaves them computing. -/
theorem State.both_both {f g : Lane → Lane} (hf : ∀ l : Lane, l.sameDiscipline (f l)) (s : State) :
    (s.both f).both g = s.both (fun l => g (f l)) := by
  have hcomputes (l : Lane) := (hf l).computes
  unfold State.both State.onLanes
  cases ha : s.a.computes <;> cases hb : s.b.computes <;> simp [ha, hb, hcomputes]

theorem State.inStep_of_same {s t : State} (h : ∀ j, (s.lane j).sameDiscipline (t.lane j)) : t.inStep = s.inStep := by
  obtain ⟨hsta, hstepa, -⟩ : s.a.sameDiscipline t.a := h .A
  obtain ⟨hstb, hstepb, -⟩ : s.b.sameDiscipline t.b := h .B
  rw [State.inStep, State.inStep, hsta, hstepa, hstb, hstepb]

section
variable {s : State} {op ln : Nat}

/-- The outcome does not hang on what SYS_CMDST holds. -/
theorem State.sysStatus_noted : (s.both (Lane.sysNote op ln)).sysStatus op ln = s.sysStatus op ln := by
  have hsame (j : LaneId) : (s.lane j).sameDiscipline ((s.both (Lane.sysNote op ln)).lane j) :=
    State.onLanes_sameDiscipline (Lane.sysNote_sameDiscipline op ln) s j
  have hon (j : LaneId) {k : Nat} (hk : k % 2 ^ 20 ≠ SYS_CMDST % 2 ^ 20) (f : Fld) :
      ((s.both (Lane.sysNote op ln)).lane j).on k f = (s.lane j).on k f := by
    rw [State.both_lane]
    split
    · exact Lane.on_of_rd_eq (Lane.sysNote_rd_ne op ln _ hk) f
    · rfl
  have hunres : (s.both (Lane.sysNote op ln)).unres = s.unres := State.moved.unres_of_state fun j => hon j (by decide) _
  have hrefused (j : LaneId) : (s.both (Lane.sysNote op ln)).sysRefused op j = s.sysRefused op j := by
    unfold State.sysRefused
    rw [State.inStep_of_same hsame, (hsame j).st, (hsame j.other).st, hon j.other (by decide), hunres, State.both_sh]
  unfold State.sysStatus
  rw [hrefused]

theorem State.sysRow_of_status {st : Nat} (hst : s.sysStatus op ln = st) : s.sysRow op ln =
    if st = stDone then (s.both (fun l => (l.sysNote op ln).sysDone st)).sysEffect op (if ln = 0 then .A else .B)
    else s.both (fun l => (l.sysNote op ln).sysDone st) := by
  unfold State.sysRow State.sysCmd
  dsimp only
  rw [State.sysStatus_noted, hst, State.both_both (Lane.sysNote_sameDiscipline op ln)]

theorem State.sysRow_of_done (hst : s.sysStatus op ln = stDone) :
    s.sysRow op ln = (s.both (Lane.sysAnswered op ln stDone)).sysEffect op (if ln = 0 then .A else .B) :=
  State.sysRow_of_status hst

theorem State.sysRow_of_refused (hst : s.sysStatus op ln = stRefused) :
    s.sysRow op ln = s.both (fun l => (l.sysAnswered op ln stRefused).ev evSysRefused) :=
  State.sysRow_of_status hst

/-- A command with a valid opcode and lane is carried out or refused. -/
theorem State.sysStatus_of_valid (hop : op ≠ 0 ∧ op ≤ 4) (hln : ln ≤ 1) :
    s.sysStatus op ln = if s.sysRefused op (if ln = 0 then .A else .B) then stRefused else stDone := by
  have hvalid : (op = 0 || 4 < op || 1 < ln) = false := by simp [hop, hln]
  unfold State.sysStatus
  rw [hvalid]
  rfl

end

/-- The lane that a target names. -/
theorem LaneId.of_target (i : LaneId) : (if (BitVec.ofNat 1 i.num).toNat = 0 then LaneId.A else .B) = i := by cases i <;> rfl

section
variable {s : State} {i : LaneId}

theorem Lane.st_ne_off_of_computes {l : Lane} (h : l.computes = true) : l.st ≠ .off := fun hst => by
  simp [Lane.computes, hst] at h

/-- In step both lanes compute. -/
theorem State.computes_of_inStep (h : s.inStep = true) (j : LaneId) : (s.lane j).computes = true := by
  simp only [State.inStep, Bool.or_eq_true, Bool.and_eq_true, beq_iff_eq] at h
  cases j <;> obtain ⟨⟨h₁, h₂⟩, h₃⟩ | ⟨⟨h₁, h₂⟩, h₃⟩ := h <;> simp [Lane.computes, *]

/-- In step a lane is ACTIVE or SHADOW. -/
theorem State.serves_of_inStep (h : s.inStep = true) (j : LaneId) : (s.lane j).st = .active ∨ (s.lane j).st = .shadow := by
  have hcomputes := State.computes_of_inStep h j
  simp only [Lane.computes, Bool.or_eq_true, Bool.and_eq_true, beq_iff_eq] at hcomputes
  exact hcomputes.imp_right And.left

end

/-- SWAP hangs on the lanes being in step. -/
theorem State.sysStatus_swap (s : State) (n : BitVec 1) : s.sysStatus 1 n.toNat = if !s.inStep then stRefused else stDone :=
  State.sysStatus_of_valid (by decide) (Nat.le_of_lt_succ n.isLt)

/-- CLR_UNRES hangs on UNRES. -/
theorem State.sysStatus_clrUnres (s : State) (n : BitVec 1) : s.sysStatus 4 n.toNat = if !s.unres then stRefused else stDone :=
  State.sysStatus_of_valid (by decide) (Nat.le_of_lt_succ n.isLt)

section
variable {s : State} {i : LaneId}

theorem State.sysStatus_of_target {op : Nat} (hop : op ≠ 0 ∧ op ≤ 4) :
    s.sysStatus op (BitVec.ofNat 1 i.num).toNat = if s.sysRefused op i then stRefused else stDone := by
  rw [State.sysStatus_of_valid hop (Nat.le_of_lt_succ (BitVec.isLt _)), LaneId.of_target]

/-- RETIRE is carried out on either lane in step. -/
theorem State.sysStatus_retire (hstep : s.inStep = true) : s.sysStatus 2 (BitVec.ofNat 1 i.num).toNat = stDone := by
  have hallowed : s.sysRefused 2 i = false := by
    rcases State.serves_of_inStep hstep i with h | h <;> simp [State.sysRefused, h, hstep]
  rw [State.sysStatus_of_target (by decide), hallowed]
  rfl

/-- REJOIN is carried out on a retired lane beside an active one, the link not lost. -/
theorem State.sysStatus_rejoin (hretired : (s.lane i).st = .retired) (hactive : (s.lane i.other).st = .active)
    (hlink : (s.lane i.other).on LINK_STAT LINK_STAT_LOST = false) : s.sysStatus 3 (BitVec.ofNat 1 i.num).toNat = stDone := by
  have hallowed : s.sysRefused 3 i = false := by simp [State.sysRefused, hretired, hactive, hlink]
  rw [State.sysStatus_of_target (by decide), hallowed]
  rfl

theorem State.sysRow_of_target {op : Nat} (hst : s.sysStatus op (BitVec.ofNat 1 i.num).toNat = stDone) :
    s.sysRow op (BitVec.ofNat 1 i.num).toNat =
      (s.both (Lane.sysAnswered op (BitVec.ofNat 1 i.num).toNat stDone)).sysEffect op i := by
  rw [State.sysRow_of_done hst, LaneId.of_target]

end

/-! ### What the commands do -/

section
variable {s : State} {i : LaneId}

theorem State.swap_of_auth (hauth : s.sh.auth = some i) :
    s.swap = ((s.laneTo i .shadow true 11 0).laneTo i.other .active true 12 0).setAuth (some i.other) := by
  unfold State.swap
  rw [hauth]

/-- A register of a lane that neither a transition nor a move of authority writes. -/
theorem State.fld_setAuth_of_moved {t : State} (h : s.moved t) (a : Option LaneId) (j : LaneId) {k : Nat} (hk : k < 2 ^ 20)
    (hks : k ∉ moveRegs) (f : Fld) : ((t.setAuth a).lane j).fld k f = (s.lane j).fld k f :=
  ((t.setAuth_lane j a).regs.fld hk hks f).trans (h.fld j hk hks f)

/-- SWAP exchanges the states and moves authority. -/
theorem State.swap_effect (hauth : s.sh.auth = some i) : s.swap.sh.auth = some i.other ∧ (s.swap.lane i).st = .shadow ∧
    (s.swap.lane i.other).st = .active ∧
    ∀ j, (s.swap.lane j).fld SYS_CMDST SYS_CMDST_STATUS = (s.lane j).fld SYS_CMDST SYS_CMDST_STATUS := by
  have hmoved : s.moved ((s.laneTo i .shadow true 11 0).laneTo i.other .active true 12 0) :=
    (State.laneTo_moved ..).trans (State.laneTo_moved ..)
  have hstays := (s.laneTo i .shadow true 11 0).laneTo_other_st i.other .active true 12 0
  rw [LaneId.other_other] at hstays
  rw [State.swap_of_auth hauth]
  refine ⟨State.setAuth_auth .., ?_, ?_, fun j => State.fld_setAuth_of_moved hmoved _ j (by decide) (by decide) _⟩
  · rw [(State.setAuth_lane ..).state.st, hstays, State.laneTo_st]
  · rw [(State.setAuth_lane ..).state.st, State.laneTo_st]

section
variable (hserves : (s.lane i).st = .active ∨ (s.lane i).st = .shadow)
include hserves

theorem State.st_ne_off_of_serves : (s.lane i).st ≠ .off := by rcases hserves with h | h <;> simp [h]

theorem State.retireCmd_of_serves : s.retireCmd i = if s.sh.auth == some i then
      (((s.upd i.other (Lane.inState .active false)).retire i 13 0).setAuth (some i.other)).laneSay i.other (s.lane i.other) 12 0
    else s.retire i 13 0 := by
  have htarget : ((s.lane i).st != .active && (s.lane i).st != .shadow) = false := by rcases hserves with h | h <;> simp [h]
  unfold State.retireCmd
  dsimp only
  rw [htarget]
  rfl

/-- RETIRE of the standby: the other lane and authority stay. -/
theorem State.retireCmd_standby (hauth : s.sh.auth = some i.other) : ((s.retireCmd i).lane i).st = .retired ∧
    ((s.retireCmd i).lane i.other).st = (s.lane i.other).st ∧ (s.retireCmd i).sh.auth = s.sh.auth ∧
    ((s.retireCmd i).lane i.other).fld SYS_CMDST SYS_CMDST_STATUS = (s.lane i.other).fld SYS_CMDST SYS_CMDST_STATUS := by
  have hoff := State.st_ne_off_of_serves hserves
  have hother : (s.sh.auth == some i) = false := by rw [hauth]; cases i <;> rfl
  have hmoved := State.retire_moved 13 0 hoff
  rw [State.retireCmd_of_serves hserves, hother]
  exact ⟨State.retire_st 13 0 hoff, State.retire_other_st 13 0 hoff, hmoved.auth, hmoved.fld _ (by decide) (by decide) _⟩

/-- RETIRE of the lane with authority: the other takes over. -/
theorem State.retireCmd_leading (hauth : s.sh.auth = some i) : ((s.retireCmd i).lane i).st = .retired ∧
    ((s.retireCmd i).lane i.other).st = .active ∧ (s.retireCmd i).sh.auth = some i.other ∧
    ((s.retireCmd i).lane i.other).fld SYS_CMDST SYS_CMDST_STATUS = (s.lane i.other).fld SYS_CMDST SYS_CMDST_STATUS := by
  have hoff : ((s.upd i.other (Lane.inState .active false)).lane i).st ≠ .off := by
    rw [State.upd_other_lane]
    exact State.st_ne_off_of_serves hserves
  have hmoved : s.moved ((s.upd i.other (Lane.inState .active false)).retire i 13 0) :=
    (State.moved.upd i.other (f := Lane.inState .active false) (fun l => Lane.regsBut_of_regs_eq _ rfl) s).trans
      (State.retire_moved 13 0 hoff)
  have hlead : (s.sh.auth == some i) = true := by rw [hauth]; cases i <;> rfl
  rw [State.retireCmd_of_serves hserves, hlead, if_pos rfl]
  refine ⟨?_, ?_, ?_, ?_⟩
  · rw [(State.laneSay_sameDiscipline ..).st, (State.setAuth_lane ..).state.st, State.retire_st 13 0 hoff]
  · rw [(State.laneSay_sameDiscipline ..).st, (State.setAuth_lane ..).state.st, State.retire_other_st 13 0 hoff, State.upd_lane]
    rfl
  · rw [(State.laneSay_moved ..).auth, State.setAuth_auth]
  · rw [(State.laneSay_moved ..).fld _ (by decide) (by decide),
      State.fld_setAuth_of_moved hmoved _ _ (by decide) (by decide)]

end

/-! ### REJOIN (R337) -/

/-- A domain on and good, its fault cleared. -/
def Shared.domRestored (d : Nat) (h : Shared) : Shared := (h.domSet d true).setB (PWR_DST d) PWR_DST_FAULT false

theorem Shared.domRestored_flags (h : Shared) {d : Nat} (hd : d < 14) :
    (h.domRestored d).on (PWR_DST d) PWR_DST_ON = true ∧ (h.domRestored d).on (PWR_DST d) PWR_DST_GOOD = true ∧
      (h.domRestored d).on (PWR_DST d) PWR_DST_FAULT = false := by
  have hne : PWR_DST d % 2 ^ 20 ≠ PWR_DOM % 2 ^ 20 := by
    unfold PWR_DST PWR_DOM
    omega
  refine ⟨?_, ?_, Shared.on_setB_same _ _ _ _ (by decide)⟩
  · rw [Shared.domRestored, Shared.on_setB_field _ _ _ _ _ (by decide), Shared.domSet, Shared.on_setB_ne _ _ _ _ _ _ hne,
      Shared.on_setB_field _ _ _ _ _ (by decide), Shared.on_setB_same _ _ _ _ (by decide)]
  · rw [Shared.domRestored, Shared.on_setB_field _ _ _ _ _ (by decide), Shared.domSet, Shared.on_setB_ne _ _ _ _ _ _ hne,
      Shared.on_setB_same _ _ _ _ (by decide)]

/-- Out of reset a lane's core domain is worked on in the lane alone, which then fires. -/
theorem State.laneFire_eq (s : State) (i : LaneId) :
    ∃ f g, s.laneFire i = ((s.upd i f).upd i g).laneTo i .firing false 3 0 := ⟨_, _, rfl⟩

theorem State.rejoin_effect (s : State) (i : LaneId) : ((s.rejoin i).lane i).st = .firing ∧
    ((s.rejoin i).lane i.other).st = (s.lane i.other).st ∧ (s.rejoin i).sh.auth = s.sh.auth ∧
    (s.rejoin i).sh.regs = ((s.laneTo i .off false 15 0).sh.domRestored (5 + i.num)).regs := by
  obtain ⟨f, g, hfire⟩ := ((s.laneTo i .off false 15 0).withSh
    ((s.laneTo i .off false 15 0).sh.domRestored (5 + i.num))).laneFire_eq i
  have hrejoin : s.rejoin i = _ := hfire
  rw [hrejoin]
  refine ⟨State.laneTo_st .., ?_, ?_, ?_⟩
  · rw [State.laneTo_other_st, State.upd_lane_other, State.upd_lane_other, State.withSh_lane, State.laneTo_other_st]
  · rw [(State.laneTo_moved ..).auth, State.upd_sh, State.upd_sh]
    exact (State.laneTo_moved ..).auth
  · rw [(State.laneTo_moved ..).sharedRegs, State.upd_sh, State.upd_sh]
    rfl

end

/-! ### INJ_DIG (R338) -/

/-- The lane with its digests corrupted by test. -/
def Lane.digestInjected (l : Lane) : Lane := l.sysTest (SYS_TEST_INJ_DIG.put 1 (l.rd SYS_TEST))

theorem Lane.digestInjected_effect {l : Lane} (hen : l.on SYS_CFG SYS_CFG_LANE_TEST_EN = true) :
    l.regsBut [SYS_TEST] l.digestInjected ∧
      l.digestInjected.on SYS_TEST SYS_TEST_INJ_DIG = true := by
  have hold : l.fld SYS_TEST SYS_TEST_INJ_DIG < 2 := Lane.fld_lt ..
  have hset : (1 ||| l.fld SYS_TEST SYS_TEST_INJ_DIG) % 2 = 1 := by
    interval_cases l.fld SYS_TEST SYS_TEST_INJ_DIG <;> rfl
  unfold Lane.digestInjected Lane.sysTest
  rw [if_pos hen, Fld.get_put_same _ _ _ (by decide)]
  refine ⟨(Lane.regsBut.refl _ l).wr (by decide) (List.mem_singleton_self _) _, ?_⟩
  have hread : ∀ w, SYS_TEST_INJ_DIG.get (SYS_TEST_INJ_DIG.put (1 ||| l.fld SYS_TEST SYS_TEST_INJ_DIG) w) = 1 := fun w =>
    (Fld.get_put_same _ _ _ (by decide)).trans hset
  rw [Lane.on_of_rd (Lane.rd_wr_same ..)]
  exact bne_iff_ne.mpr (by rw [show (1 : Nat) % 2 ^ SYS_TEST_INJ_DIG.width = 1 from rfl, hread]; decide)

theorem exec_injDig_of_on {s : State} {i : LaneId} (hoff : (s.lane i).st ≠ .off) (hbisque : (s.lane i).st ≠ .bisque) :
    exec (.injDig i) s = .next (s.upd i Lane.digestInjected) := by
  have hacts : ((s.lane i).st == .off || (s.lane i).st == .bisque) = false := by simp [hoff, hbisque]
  have hrow : exec (.injDig i) s = execInjDig i s := rfl
  rw [hrow]
  unfold execInjDig
  dsimp only
  rw [hacts]
  rfl

/-! ### The rows -/

section
variable {s : State} {i : LaneId} (op ln : Nat)

theorem State.answered_st (j : LaneId) : ((s.both (Lane.sysAnswered op ln stDone)).lane j).st = (s.lane j).st :=
  (State.onLanes_sameDiscipline (Lane.sysAnswered_sameDiscipline op ln stDone) s j).st

theorem State.answered_status {j : LaneId} (hcomputes : (s.lane j).computes = true) :
    ((s.both (Lane.sysAnswered op ln stDone)).lane j).fld SYS_CMDST SYS_CMDST_STATUS = 0 := by
  rw [State.both_lane, if_pos hcomputes, Lane.sysAnswered_status _ _ _ _ (by decide)]
  rfl

end

theorem State.setUnres_lane {s : State} {j : LaneId} (v : Bool) (hoff : (s.lane j).st ≠ .off) :
    (s.setUnres v).lane j = (s.lane j).setB SYS_STATE SYS_STATE_UNRES v := by
  rw [State.setUnres, State.onLanes_lane, if_pos (bne_iff_ne.mpr hoff)]

/-- CLR_UNRES clears UNRES in the lanes that have answered (R326, R336). -/
theorem State.clrUnres_shared (s : State) (ln : Nat) : s.sharedKept ((s.both (Lane.sysAnswered 4 ln stDone)).setUnres false) :=
  ⟨rfl, rfl, rfl⟩

section
variable {s : State} {i : LaneId} (op ln : Nat) (hcomputes : (s.lane i).computes = true)
include hcomputes

theorem State.clrUnres_effect : (s.lane i).regsBut [SYS_CMDST, SYS_STATE] (((s.both (Lane.sysAnswered 4 ln stDone)).setUnres false).lane i) ∧
    (((s.both (Lane.sysAnswered 4 ln stDone)).setUnres false).lane i).fld SYS_CMDST SYS_CMDST_STATUS = 0 ∧
    (((s.both (Lane.sysAnswered 4 ln stDone)).setUnres false).lane i).on SYS_STATE SYS_STATE_UNRES = false := by
  have hoff : ((s.both (Lane.sysAnswered 4 ln stDone)).lane i).st ≠ .off := by
    rw [State.answered_st]
    exact Lane.st_ne_off_of_computes hcomputes
  rw [State.setUnres_lane false hoff]
  refine ⟨?_, ?_, Lane.on_setB_same _ _ _ _ (by decide)⟩
  · rw [State.both_lane, if_pos hcomputes]
    exact ((Lane.sysAnswered_regsBut _ _ _ _).mono (by simp)).setB (by decide) (by simp) _ _
  · exact (Lane.fld_setF_ne _ _ _ _ _ _ (by decide)).trans (State.answered_status _ _ hcomputes)

/-- A refused command is answered STATE_REFUSED with the event (R337). -/
theorem State.refused_effect : (s.lane i).regsBut [SYS_CMDST] ((s.both (fun l => (l.sysAnswered op ln stRefused).ev evSysRefused)).lane i) ∧
    ((s.both (fun l => (l.sysAnswered op ln stRefused).ev evSysRefused)).lane i).fld SYS_CMDST SYS_CMDST_STATUS = 2 ∧
    ((s.both (fun l => (l.sysAnswered op ln stRefused).ev evSysRefused)).lane i).raised = (s.lane i).raised ||| evBit evSysRefused := by
  rw [State.both_lane, if_pos hcomputes]
  refine ⟨(Lane.sysAnswered_regsBut _ _ _ _).of_regs_eq (Lane.ev_regs ..), ?_, rfl⟩
  exact (Lane.fld_of_regs_eq (Lane.ev_regs ..) _ _).trans (Lane.sysAnswered_status _ _ _ _ (by decide))

end

/-- Settles O32: each command by its outcome and what it then does to the lanes that have answered. -/
theorem systemCommands : Obligations.SystemCommands := by
  refine ⟨fun n i s hstep hauth => ?swap, fun i s hstep hauth => ?standby, fun i s hstep hauth => ?leading,
    fun i s hretired hactive hlink => ?rejoin, fun n i s hunres hcomputes => ?clrUnres, fun n i s hstep hcomputes => ?refused,
    fun i s hoff hbisque hen => ?injDig⟩
  case swap =>
    have hst : s.sysStatus 1 n.toNat = stDone := by rw [State.sysStatus_swap, hstep]; rfl
    obtain ⟨hmoves, hshadow, hactive, hstatus⟩ := State.swap_effect (s := s.both (Lane.sysAnswered 1 n.toNat stDone)) hauth
    refine ⟨_, congrArg Host.Outcome.next (State.sysRow_of_done hst), hmoves, hshadow, hactive, ?_, ?_⟩
    · exact (hstatus i).trans (State.answered_status _ _ (State.computes_of_inStep hstep i))
    · exact (hstatus i.other).trans (State.answered_status _ _ (State.computes_of_inStep hstep i.other))
  case standby =>
    have hserves := State.serves_of_inStep hstep i
    obtain ⟨hretired, hother, hstays, hstatus⟩ := State.retireCmd_standby
      (s := s.both (Lane.sysAnswered 2 (BitVec.ofNat 1 i.num).toNat stDone)) (i := i) (by rwa [State.answered_st]) hauth
    have hrow := State.sysRow_of_target (i := i) (State.sysStatus_retire hstep)
    refine ⟨_, congrArg Host.Outcome.next hrow, hretired, hother.trans (State.answered_st ..), hstays, hstatus.trans ?_⟩
    exact State.answered_status _ _ (State.computes_of_inStep hstep i.other)
  case leading =>
    have hserves := State.serves_of_inStep hstep i
    obtain ⟨hretired, hother, hmoves, hstatus⟩ := State.retireCmd_leading
      (s := s.both (Lane.sysAnswered 2 (BitVec.ofNat 1 i.num).toNat stDone)) (i := i) (by rwa [State.answered_st]) hauth
    have hrow := State.sysRow_of_target (i := i) (State.sysStatus_retire hstep)
    refine ⟨_, congrArg Host.Outcome.next hrow, hretired, hother, hmoves, hstatus.trans ?_⟩
    exact State.answered_status _ _ (State.computes_of_inStep hstep i.other)
  case rejoin =>
    have hrow := State.sysRow_of_target (State.sysStatus_rejoin hretired hactive hlink)
    obtain ⟨hfiring, hother, hauth, hregs⟩ := (s.both (Lane.sysAnswered 3 (BitVec.ofNat 1 i.num).toNat stDone)).rejoin_effect i
    have hdomain : 5 + i.num < 14 := by cases i <;> decide
    have hflags (f : Fld) := Shared.on_of_rd_eq (congrArg (RegFile.rd · (PWR_DST (5 + i.num))) hregs) f
    obtain ⟨hon, hgood, hfault⟩ := Shared.domRestored_flags _ hdomain
    exact ⟨_, congrArg Host.Outcome.next hrow, hfiring, hother.trans ((State.answered_st ..).trans hactive), hauth,
      (hflags _).trans hon, (hflags _).trans hgood, (hflags _).trans hfault⟩
  case clrUnres =>
    have hst : s.sysStatus 4 n.toNat = stDone := by rw [State.sysStatus_clrUnres, hunres]; rfl
    exact ⟨_, congrArg Host.Outcome.next (State.sysRow_of_done hst), State.clrUnres_shared s _, State.clrUnres_effect _ hcomputes⟩
  case refused =>
    have hst : s.sysStatus 1 n.toNat = stRefused := by rw [State.sysStatus_swap, hstep]; rfl
    exact ⟨_, congrArg Host.Outcome.next (State.sysRow_of_refused hst), s.both_sharedKept _, State.refused_effect _ _ hcomputes⟩
  case injDig =>
    refine ⟨_, exec_injDig_of_on hoff hbisque, s.upd_otherKept i _, ?_⟩
    rw [State.upd_lane]
    exact Lane.digestInjected_effect hen

end Sys2Proof.Machine
end

section
/-! The outcome of an adjudication (R325): the decision as a function of OUTCOME, what it does to the lanes and to authority, and
that it does not hang on the kept cut. -/

namespace Sys2Proof.Machine

/-! ### The parts of an outcome -/

/-- The node once a missing verdict counts as TIMEOUT (R324). -/
def State.timeUp (s : State) : State := (s.upd .A Lane.timedOut).upd .B Lane.timedOut

/-- OUTCOME where lane `i` holds authority. -/
def State.outcomeNo (i : LaneId) (s : State) : Nat :=
  outcomeOf (s.lane i).verd (s.lane i.other).verd
    ((if (s.lane i).st == .adjudicating then s.lane i else s.lane i.other).fld SYS_ADJ SYS_ADJ_REASON)

/-- The lanes that adjudicated show OUTCOME. -/
def State.showOutcome (out : Nat) (s : State) : State :=
  State.onLanes (fun l => l.st == .adjudicating) (fun l => l.setF SYS_ADJ SYS_ADJ_OUTCOME out) s

/-- REASON, OUTCOME and UNIT of the lane that goes on, as its record has them. -/
def State.switchReason (i : LaneId) (out : Nat) (s : State) : Word :=
  let kept := if out = 2 then s.lane i.other else s.lane i
  w32 (kept.fld SYS_ADJ SYS_ADJ_REASON + 8 * out + 64 * kept.fld SYS_ADJ SYS_ADJ_UNIT)

/-- The verdicts and causes of both lanes, as the record has them. -/
def State.switchVerdicts (s : State) : Word := w32 (s.a.verd + 4 * s.a.adj.cause + 64 * s.b.verd + 256 * s.b.adj.cause)

/-- A lane put aside, to follow the other one. -/
def Lane.aside (l : Lane) : Lane :=
  { l with formed := [], raised := 0#192, adj := { l.adj with fromAdj := true, pre := none, inc := none } }

/-- The lane becomes SHADOW out of step. -/
def State.standBy (i : LaneId) (out : Nat) (s : State) : State := (s.laneTo i .shadow false 10 out).upd i Lane.aside

/-- Both lanes have failed: both retire, the outputs hold, a reset waits for the boundary. -/
def State.bothFailed (i : LaneId) (out : Nat) (s : State) : State :=
  ((((s.writesLost i).retire i 9 out).retire i.other 9 out).setHold true).resetNext 4

/-- What an outcome does to both lanes, to authority and to UNRES. -/
def State.carryOut (i : LaneId) (out : Nat) (p2 p3 : Word) (s : State) : State :=
  match out with
  | 1 => (s.retain i p2 p3 out).retire i.other 9 out
  | 2 => ((s.writesLost i).retain i.other p2 p3 out).retire i 9 out
  | 4 => s.bothFailed i out
  | _ => if out = 3 then ((s.retain i p2 p3 out).standBy i.other out).setUnres true else (s.retain i p2 p3 out).standBy i.other out

/-- The decision of the arbiter, without the epoch that it may open. -/
def State.decided (i : LaneId) (s : State) : State :=
  (s.timeUp.showOutcome (s.timeUp.outcomeNo i)).carryOut i (s.timeUp.outcomeNo i)
    (s.timeUp.switchReason i (s.timeUp.outcomeNo i)) (s.timeUp.showOutcome (s.timeUp.outcomeNo i)).switchVerdicts

/-- The node with another kept cut. -/
def State.withSnap (k : Option Snap) (s : State) : State := { s with snap := k }

theorem State.adjudicate_eq (i : LaneId) (s : State) :
    s.adjudicate i = if s.timeUp.outcomeNo i = 4 then (s.decided i).withSnap none else (s.decided i).openKept := rfl

section
variable {s : State} {i : LaneId}

/-- An adjudication is decided by the lane with authority. -/
theorem State.outcome_of_auth (hauth : s.sh.auth = some i) (hadj : (s.lane i).st = .adjudicating) : s.outcome = s.adjudicate i := by
  have hopen : (s.a.st != .adjudicating && s.b.st != .adjudicating) = false := by
    cases i
    · have ha : s.a.st = .adjudicating := hadj
      simp [ha]
    · have hb : s.b.st = .adjudicating := hadj
      simp [hb]
  unfold State.outcome
  rw [hopen, hauth]
  rfl

theorem State.openKept_of_none (h : s.snap = none) : s.openKept = s := by
  unfold State.openKept
  rw [h]

end

/-! ### The verdicts (R324, R325) -/

section
variable (l : Lane)

/-- A missing verdict shows in VERD_OWN alone. -/
theorem Lane.timedOut_regs : l.timedOut.regs = l.regs ∨ l.timedOut.regs = (l.setF SYS_ADJ SYS_ADJ_VERD_OWN 3).regs := by
  unfold Lane.timedOut
  split
  · exact .inr rfl
  · exact .inl rfl

theorem Lane.timedOut_regsBut : l.regsBut [SYS_ADJ] l.timedOut := by
  obtain h | h := l.timedOut_regs
  · exact Lane.regsBut_of_regs_eq _ h
  · exact ((Lane.regsBut.refl _ l).setF (by decide) (List.mem_singleton_self _) _ _).of_regs_eq h

theorem Lane.timedOut_reason : l.timedOut.fld SYS_ADJ SYS_ADJ_REASON = l.fld SYS_ADJ SYS_ADJ_REASON := by
  obtain h | h := l.timedOut_regs
  · exact Lane.fld_of_regs_eq h _ _
  · exact (Lane.fld_of_regs_eq h _ _).trans (Lane.fld_setF_field _ _ _ _ _ (by decide))

theorem Lane.timedOut_st : l.timedOut.st = l.st := by
  unfold Lane.timedOut
  split <;> rfl

/-- A lane counts as PASS where it has said so in its adjudication. -/
theorem Lane.verd_timedOut_eq_one : l.timedOut.verd = 1 ↔ l.st = .adjudicating ∧ l.adj.verdict = 1 := by
  unfold Lane.verd
  rw [Lane.timedOut_st]
  by_cases hst : l.st = .adjudicating
  · by_cases hv : l.adj.verdict = 0 <;> simp [hst, hv, Lane.timedOut]
  · simp [hst]

end

section
variable (va vo reason : Nat)

theorem outcomeOf_eq_four : outcomeOf va vo reason = 4 ↔ va ≠ 1 ∧ vo ≠ 1 := by
  unfold outcomeOf
  by_cases ha : va = 1 <;> by_cases ho : vo = 1 <;> by_cases hr : reason = 4 <;> simp [ha, ho, hr]

end

section
variable (s : State) (i j : LaneId)

theorem State.timeUp_lane : s.timeUp.lane j = (s.lane j).timedOut := by cases j <;> rfl

theorem State.showOutcome_regsBut (out : Nat) : (s.lane j).regsBut [SYS_ADJ] ((s.showOutcome out).lane j) := by
  rw [State.showOutcome, State.onLanes_lane]
  split
  · exact (Lane.regsBut.refl _ _).setF (by decide) (List.mem_singleton_self _) _ _
  · exact .refl _ _

theorem State.showOutcome_st (out : Nat) : ((s.showOutcome out).lane j).st = (s.lane j).st :=
  (State.onLanes_sameDiscipline (f := fun l => l.setF SYS_ADJ SYS_ADJ_OUTCOME out) (fun _ => ⟨rfl, rfl, rfl⟩) s j).st

/-- OUTCOME is 4 where neither lane has passed. -/
theorem State.outcomeNo_eq_four (hadj : (s.lane i).st = .adjudicating) : s.timeUp.outcomeNo i = 4 ↔ (s.lane i).adj.verdict ≠ 1 ∧
    ¬((s.lane i.other).st = .adjudicating ∧ (s.lane i.other).adj.verdict = 1) := by
  rw [State.outcomeNo, outcomeOf_eq_four, State.timeUp_lane, State.timeUp_lane, ne_eq, ne_eq, Lane.verd_timedOut_eq_one,
    Lane.verd_timedOut_eq_one]
  simp [hadj]

end

/-! ### The kept cut decides nothing -/

/-- What a change of the node does to everything else does not hang on the kept cut, which it leaves. -/
structure State.snapFree (f : State → State) : Prop where
  eq : ∀ k s, f (s.withSnap k) = (f s).withSnap k

theorem State.withSnap_lane (k : Option Snap) (s : State) (i : LaneId) : (s.withSnap k).lane i = s.lane i := by cases i <;> rfl

namespace State.snapFree

variable {f g : State → State}

theorem comp (hf : State.snapFree f) (hg : State.snapFree g) : State.snapFree (fun s => f (g s)) :=
  ⟨fun k s => (congrArg f (hg.eq k s)).trans (hf.eq k (g s))⟩

theorem ite {c : State → Bool} (hc : ∀ k s, c (s.withSnap k) = c s) (hf : State.snapFree f) (hg : State.snapFree g) :
    State.snapFree (fun s => if c s then f s else g s) := by
  refine ⟨fun k s => ?_⟩
  rw [hc]
  split
  · exact hf.eq k s
  · exact hg.eq k s

theorem upd (i : LaneId) (f : Lane → Lane) : State.snapFree (fun s => s.upd i f) := ⟨fun _ _ => by cases i <;> rfl⟩

theorem sysRec (code p0 p1 p2 p3 rank : Nat) : State.snapFree (fun s => s.sysRec code p0 p1 p2 p3 rank) :=
  .ite (c := fun s => s.sh.epochs && (s.a.working || s.b.working)) (fun _ _ => rfl) ⟨fun _ _ => rfl⟩ ⟨fun _ _ => rfl⟩

theorem laneSay (i : LaneId) (old : Lane) (row outcome : Nat) : State.snapFree (State.laneSay i old row outcome) := by
  refine ⟨fun k s => ?_⟩
  unfold State.laneSay
  dsimp only
  rw [State.withSnap_lane]
  exact congrArg State.laneEvent ((sysRec ..).eq k s)

theorem laneTo (i : LaneId) (st : LaneSt) (instep : Bool) (row outcome : Nat) : State.snapFree (State.laneTo i st instep row outcome) := by
  refine ⟨fun k s => ?_⟩
  have hupd : (s.withSnap k).upd i (Lane.inState st instep) = (s.upd i (Lane.inState st instep)).withSnap k := (upd ..).eq k s
  have hsay := (laneSay i (s.lane i) row outcome).eq k (s.upd i (Lane.inState st instep)).stepSync.sysSync
  unfold State.laneTo
  dsimp only
  rw [State.withSnap_lane]
  split
  · rfl
  · exact (congrArg (fun t : State => t.stepSync.sysSync.laneSay i (s.lane i) row outcome) hupd).trans hsay

theorem retire (i : LaneId) (row outcome : Nat) : State.snapFree (State.retire i row outcome) := by
  have hto : State.snapFree (fun s => if (s.lane i).st == .off then s else s.laneTo i .retired false row outcome) :=
    .ite (c := fun s => (s.lane i).st == .off) (fun k s => by rw [State.withSnap_lane]) ⟨fun _ _ => rfl⟩ (laneTo ..)
  have hstop : State.snapFree State.mirrorStop := ⟨fun _ _ => rfl⟩
  exact (upd i Lane.retired).comp (hstop.comp hto)

theorem retain (i : LaneId) (p2 p3 : Word) (outcome : Nat) : State.snapFree (State.retain i p2 p3 outcome) :=
  (laneTo i .active false 8 outcome).comp (upd i (Lane.catchUpBegin p2 p3))

theorem writesLost (i : LaneId) : State.snapFree (State.writesLost i) := by
  refine ⟨fun k s => ?_⟩
  unfold State.writesLost
  dsimp only
  rw [State.withSnap_lane]
  split
  · rfl
  · cases i <;> rfl

theorem resetNext (cause : Nat) : State.snapFree (State.resetNext cause) :=
  .ite (c := fun s => s.sh.bisque) (fun _ _ => rfl) ⟨fun _ _ => rfl⟩ ⟨fun _ _ => rfl⟩

theorem bothFailed (i : LaneId) (out : Nat) : State.snapFree (State.bothFailed i out) :=
  have hhold : State.snapFree (State.setHold true) := ⟨fun _ _ => rfl⟩
  (resetNext 4).comp (hhold.comp ((retire i.other 9 out).comp ((retire i 9 out).comp (writesLost i))))

theorem standBy (i : LaneId) (out : Nat) : State.snapFree (State.standBy i out) :=
  (upd i Lane.aside).comp (laneTo i .shadow false 10 out)

theorem carryOut (i : LaneId) (out : Nat) (p2 p3 : Word) : State.snapFree (State.carryOut i out p2 p3) := by
  have hstand : State.snapFree (fun s => (s.retain i p2 p3 out).standBy i.other out) := (standBy i.other out).comp (retain i p2 p3 out)
  have hunres : State.snapFree (State.setUnres true) := ⟨fun _ _ => rfl⟩
  unfold State.carryOut
  split
  · exact (retire ..).comp (retain ..)
  · exact (retire ..).comp ((retain ..).comp (writesLost i))
  · exact bothFailed ..
  · split
    · exact hunres.comp hstand
    · exact hstand

end State.snapFree

section
variable (s : State) (i : LaneId) (k : Option Snap)

theorem State.timeUp_withSnap : (s.withSnap k).timeUp = s.timeUp.withSnap k := rfl

theorem State.outcomeNo_withSnap : (s.withSnap k).outcomeNo i = s.outcomeNo i := by cases i <;> rfl

/-- The decision is the same whatever cut is kept. -/
theorem State.decided_withSnap : (s.withSnap k).decided i = (s.decided i).withSnap k := by
  have hreason (t : State) (out : Nat) : (t.withSnap k).switchReason i out = t.switchReason i out := by cases i <;> rfl
  have hshow (t : State) (out : Nat) : (t.withSnap k).showOutcome out = (t.showOutcome out).withSnap k := rfl
  have hverdicts (t : State) : (t.withSnap k).switchVerdicts = t.switchVerdicts := rfl
  unfold State.decided
  rw [State.timeUp_withSnap, State.outcomeNo_withSnap, hreason, hshow, hverdicts, (State.snapFree.carryOut ..).eq]

end

/-- The opening of the interrupted epoch apart, the kept cut decides nothing. -/
theorem State.adjudicate_keptCut {s : State} {i : LaneId} {k : Snap} (hsnap : s.snap = some k) (hadj : (s.lane i).st = .adjudicating) :
    s.adjudicate i = if (s.lane i).adj.verdict ≠ 1 ∧ ¬((s.lane i.other).st = .adjudicating ∧ (s.lane i.other).adj.verdict = 1)
      then (s.withSnap none).adjudicate i else (((s.withSnap none).adjudicate i).withSnap (some k)).openKept := by
  have hnone : ((s.withSnap none).decided i).snap = none := by rw [State.decided_withSnap]; rfl
  have hno : (s.withSnap none).timeUp.outcomeNo i = s.timeUp.outcomeNo i := by
    rw [State.timeUp_withSnap, State.outcomeNo_withSnap]
  have hsame : (s.withSnap none).withSnap (some k) = s := by
    unfold State.withSnap
    rw [← hsnap]
  have hback : s.decided i = ((s.withSnap none).decided i).withSnap (some k) := by
    rw [← State.decided_withSnap, hsame]
  rw [State.adjudicate_eq, State.adjudicate_eq, hno, State.openKept_of_none hnone, hback]
  simp only [← State.outcomeNo_eq_four s i hadj]
  split
  · rfl
  · rfl

/-! ### What the outcomes do -/

section
variable (l : Lane)

/-- The lane that goes on, its records released, begins catch-up. -/
def Lane.catchingUp (p2 p3 : Word) : Lane :=
  let l := l.setAlm (fun a => { a with resp := [] })
  { l with adj := { l.adj with catchUp := 2, sw := some (p2, p3), pre := none, inc := none } }

theorem Lane.catchingUp_keepsState (p2 p3 : Word) : l.keepsState (l.catchingUp p2 p3) := (Lane.keepsState.refl l).work rfl ⟨rfl, rfl, rfl⟩

theorem Lane.catchUpBegin_eq (p2 p3 : Word) : l.catchUpBegin p2 p3 = (l.releaseWork l.adj.bnd).catchingUp p2 p3 := rfl

theorem Lane.catchUpBegin_keepsState (p2 p3 : Word) : l.keepsState (l.catchUpBegin p2 p3) := by
  rw [Lane.catchUpBegin_eq]
  exact (l.releaseWork_keepsState _).trans (Lane.catchingUp_keepsState _ _ _)

/-- What the lane was to forward is lost. -/
def Lane.forwardLost : Lane := { l with link := { l.link with wfwd := [], kept := [] } }

theorem Lane.forwardLost_keepsState : l.keepsState l.forwardLost := (Lane.keepsState.refl l).work rfl ⟨rfl, rfl, rfl⟩

theorem Lane.aside_keepsState : l.keepsState l.aside := (Lane.keepsState.refl l).work rfl ⟨rfl, rfl, rfl⟩

end

section
variable (s : State) (i j : LaneId) (p2 p3 : Word) (out : Nat)

/-- A change of one lane that keeps its state keeps those of both. -/
theorem State.upd_st {f : Lane → Lane} (hf : ∀ l : Lane, l.keepsState (f l)) : ((s.upd i f).lane j).st = (s.lane j).st := by
  rcases i with _ | _ <;> rcases j with _ | _
  exacts [(hf _).state.st, rfl, rfl, (hf _).state.st]

theorem State.retain_moved : s.moved (s.retain i p2 p3 out) :=
  (State.moved.upd i (f := Lane.catchUpBegin p2 p3) (fun l => (l.catchUpBegin_keepsState p2 p3).regs) s).trans (State.laneTo_moved ..)

theorem State.retain_st : ((s.retain i p2 p3 out).lane i).st = .active := State.laneTo_st ..

theorem State.retain_other_st : ((s.retain i p2 p3 out).lane i.other).st = (s.lane i.other).st := by
  rw [State.retain, State.laneTo_other_st, State.upd_lane_other]

/-- Writes that no lane can forward any more count in both lanes, or there are none. -/
theorem State.writesLost_cases : s.writesLost i = s ∨ ∃ n, s.writesLost i =
    (State.onLanes (fun l => l.st != .off) (fun l => l.bump SYS_ADJDUR SYS_ADJDUR_WLOST n)
      (s.upd i Lane.forwardLost)).laneEvent := by
  unfold State.writesLost
  dsimp only
  split
  · exact .inl rfl
  · exact .inr ⟨_, rfl⟩

theorem State.writesLost_moved : s.moved (s.writesLost i) := by
  obtain h | ⟨n, h⟩ := s.writesLost_cases i <;> rw [h]
  · exact .refl s
  · exact ((State.moved.upd i (fun l => l.forwardLost_keepsState.regs) s).trans
      (.onLanes (fun l => ((Lane.keepsState.refl l).bump (by decide) (by decide) _ _).regs) _)).trans (State.laneEvent_moved _)

theorem State.writesLost_st : ((s.writesLost i).lane j).st = (s.lane j).st := by
  obtain h | ⟨n, h⟩ := s.writesLost_cases i <;> rw [h]
  have hbump (t : State) := (State.onLanes_sameDiscipline (p := fun l => l.st != .off)
    (f := fun l => l.bump SYS_ADJDUR SYS_ADJDUR_WLOST n) (fun _ => ⟨rfl, rfl, rfl⟩) t j).st
  rw [(State.laneEvent_sameDiscipline ..).st, hbump, State.upd_st _ _ _ Lane.forwardLost_keepsState]

theorem State.standBy_moved : s.moved (s.standBy i out) := (State.laneTo_moved ..).trans (.upd i (fun l => l.aside_keepsState.regs) _)

theorem State.standBy_st : ((s.standBy i out).lane i).st = .shadow := by
  rw [State.standBy, State.upd_st _ _ _ Lane.aside_keepsState, State.laneTo_st]

theorem State.standBy_instep : ((s.standBy i out).lane i).instep = false := by
  rw [State.standBy, State.upd_lane, (Lane.aside_keepsState _).state.instep, State.laneTo_shadow_instep]

theorem State.standBy_other_st : ((s.standBy i out).lane i.other).st = (s.lane i.other).st := by
  rw [State.standBy, State.upd_lane_other, State.laneTo_other_st]

/-- A lane with authority that has not retired keeps it at the boundary. -/
theorem State.moveAuth_of_active {s : State} {i : LaneId} (hauth : s.sh.auth = some i) (hst : (s.lane i).st = .active) :
    s.moveAuth.sh.auth = some i := by
  unfold State.moveAuth
  rw [hauth]
  dsimp only
  rw [hst]
  exact hauth

/-- Authority leaves a retired lane at the boundary. -/
theorem State.moveAuth_of_retired (hauth : s.sh.auth = some i) (hretired : (s.lane i).st = .retired) (hactive : (s.lane i.other).st = .active) :
    s.moveAuth = s.setAuth (some i.other) := by
  unfold State.moveAuth
  rw [hauth]
  dsimp only
  rw [hretired, hactive]
  rfl

end

section
variable {s : State} {i : LaneId} (p2 p3 : Word) (hon : ∀ j, (s.lane j).st ≠ .off)

include hon

/-- Outcome 1: the lane with authority goes on, the other one retires. -/
theorem State.carryOut_one : s.moved (s.carryOut i 1 p2 p3) ∧ ((s.carryOut i 1 p2 p3).lane i).st = .active ∧
    ((s.carryOut i 1 p2 p3).lane i.other).st = .retired := by
  have hoff : ((s.retain i p2 p3 1).lane i.other).st ≠ .off := by rw [State.retain_other_st]; exact hon _
  have hother := State.retire_other_st 9 1 hoff
  rw [LaneId.other_other, State.retain_st] at hother
  exact ⟨(State.retain_moved ..).trans (State.retire_moved 9 1 hoff), hother, State.retire_st 9 1 hoff⟩

/-- Outcome 2: the lane with authority retires, the other one goes on. -/
theorem State.carryOut_two : s.moved (s.carryOut i 2 p2 p3) ∧ ((s.carryOut i 2 p2 p3).lane i).st = .retired ∧
    ((s.carryOut i 2 p2 p3).lane i.other).st = .active := by
  have hoff : (((s.writesLost i).retain i.other p2 p3 2).lane i).st ≠ .off := by
    have hother := (s.writesLost i).retain_other_st i.other p2 p3 2
    rw [LaneId.other_other, State.writesLost_st] at hother
    rw [hother]
    exact hon i
  refine ⟨((State.writesLost_moved ..).trans (State.retain_moved ..)).trans (State.retire_moved 9 2 hoff), State.retire_st 9 2 hoff, ?_⟩
  exact (State.retire_other_st 9 2 hoff).trans (State.retain_st ..)

end

section
variable (s : State) (i : LaneId) (p2 p3 : Word) (out : Nat)

/-- Outcomes 3 and 5: the lane with authority goes on, the other one stands by out of step. -/
theorem State.standing_lanes : s.moved ((s.retain i p2 p3 out).standBy i.other out) ∧
    (((s.retain i p2 p3 out).standBy i.other out).lane i).st = .active ∧
    (((s.retain i p2 p3 out).standBy i.other out).lane i.other).st = .shadow ∧
    (((s.retain i p2 p3 out).standBy i.other out).lane i.other).instep = false := by
  have hother := (s.retain i p2 p3 out).standBy_other_st i.other out
  rw [LaneId.other_other, State.retain_st] at hother
  exact ⟨(State.retain_moved ..).trans (State.standBy_moved ..), hother, State.standBy_st .., State.standBy_instep ..⟩

end

section
variable {s : State} {i : LaneId} (out : Nat) (hon : ∀ j, (s.lane j).st ≠ .off)

/-- Both lanes retired, the outputs still as they were. -/
def State.bothRetired (i : LaneId) (out : Nat) (s : State) : State := ((s.writesLost i).retire i 9 out).retire i.other 9 out

include hon

theorem State.bothRetired_lanes : s.moved (s.bothRetired i out) ∧ ((s.bothRetired i out).lane i).st = .retired ∧
    ((s.bothRetired i out).lane i.other).st = .retired := by
  have hoff : ((s.writesLost i).lane i).st ≠ .off := by rw [State.writesLost_st]; exact hon i
  have hoff' : (((s.writesLost i).retire i 9 out).lane i.other).st ≠ .off := by
    rw [State.retire_other_st 9 out hoff, State.writesLost_st]
    exact hon i.other
  have hother := State.retire_other_st 9 out hoff'
  rw [LaneId.other_other, State.retire_st 9 out hoff] at hother
  exact ⟨((State.writesLost_moved ..).trans (State.retire_moved 9 out hoff)).trans (State.retire_moved 9 out hoff'), hother,
    State.retire_st 9 out hoff'⟩

end

section
variable (s : State) (j : LaneId)

theorem State.setHold_lane (v : Bool) : (s.lane j).keptByMove ((s.setHold v).lane j) := by
  have hsame := s.withSh_lane { s.sh with hold := v } j
  have hsync (t : State) : (t.lane j).keptByMove (t.sysSync.lane j) := ⟨t.sysSync_moved.regs j, t.sysSync_sameDiscipline j⟩
  exact hsame ▸ hsync _

theorem State.setHold_sh (v : Bool) : (s.setHold v).sh = { s.sh with hold := v } := rfl

theorem State.resetNext_lane (cause : Nat) : (s.resetNext cause).lane j = s.lane j := by
  unfold State.resetNext
  split
  · rfl
  · exact State.withSh_lane ..

/-- Out of bisque mode a reset waits for the boundary; an earlier cause stands. -/
theorem State.resetNext_sh {s : State} (cause : Nat) (hbisque : s.sh.bisque = false) :
    (s.resetNext cause).sh = { s.sh with start := { s.sh.start with resetDue := some (s.sh.start.resetDue.getD cause) } } := by
  unfold State.resetNext
  rw [hbisque]
  rfl

theorem State.resetBegin_auth (cause : Nat) : (s.resetBegin cause).sh.auth = none := rfl

/-- A reset that waits leaves no authority. -/
theorem State.resetAt_auth {s : State} {cause : Nat} (hdue : s.sh.start.resetDue = some cause) : s.resetAt.sh.auth = none := by
  unfold State.resetAt
  rw [hdue]
  exact State.resetBegin_auth ..

end

/-! ### The decision -/

theorem State.decided_of_outcome {s : State} {i : LaneId} {out : Nat} (hout : s.timeUp.outcomeNo i = out) :
    ∃ p2 p3, s.decided i = (s.timeUp.showOutcome out).carryOut i out p2 p3 := by
  subst hout
  exact ⟨_, _, rfl⟩

/-- Where no cut is kept the adjudication is the decision alone. -/
theorem State.adjudicate_of_noCut {s : State} {i : LaneId} (hsnap : s.snap = none) : s.adjudicate i = s.decided i := by
  have hnoCut : s.withSnap none = s := by
    unfold State.withSnap
    rw [← hsnap]
  have hstays : (s.decided i).withSnap none = s.decided i := by rw [← State.decided_withSnap, hnoCut]
  have hnone : (s.decided i).snap = none := by rw [← hstays]; rfl
  rw [State.adjudicate_eq, hstays, State.openKept_of_none hnone, ite_self]

section
variable {s : State} {i : LaneId} (out : Nat)

/-- The start of the decision touches SYS_ADJ alone. -/
theorem State.shown_regsBut (j : LaneId) : (s.lane j).regsBut [SYS_ADJ] ((s.timeUp.showOutcome out).lane j) := by
  refine .trans ?_ (State.showOutcome_regsBut _ j out)
  rw [State.timeUp_lane]
  exact Lane.timedOut_regsBut _

theorem State.shown_unres : (s.timeUp.showOutcome out).unres = s.unres :=
  State.moved.unres_of_state fun j => (State.shown_regsBut out j).on (by decide) (by decide) _

theorem State.shown_sh : (s.timeUp.showOutcome out).sh = s.sh := rfl

theorem State.shown_st (j : LaneId) : ((s.timeUp.showOutcome out).lane j).st = (s.lane j).st := by
  rw [State.showOutcome_st, State.timeUp_lane, Lane.timedOut_st]

variable (hboth : ∀ j, (s.lane j).st = .adjudicating)
include hboth

theorem State.shown_on (j : LaneId) : ((s.timeUp.showOutcome out).lane j).st ≠ .off := by
  rw [State.shown_st, hboth j]
  decide

/-- OUTCOME stands after a transition. -/
theorem State.outcome_of_moved {t : State} (hmoved : (s.timeUp.showOutcome out).moved t) (hout : out < 8) (j : LaneId) :
    (t.lane j).fld SYS_ADJ SYS_ADJ_OUTCOME = out := by
  have hst : ((s.timeUp.lane j).st == .adjudicating) = true := by rw [State.timeUp_lane, Lane.timedOut_st, hboth j]; rfl
  rw [hmoved.fld j (by decide) (by decide), State.showOutcome, State.onLanes_lane, if_pos hst, Lane.fld_setF_same _ _ _ _ (by decide)]
  exact Nat.mod_eq_of_lt hout

theorem State.outcomeNo_of_both : s.timeUp.outcomeNo i = outcomeOf (s.lane i).timedOut.verd (s.lane i.other).timedOut.verd
    ((s.lane i).fld SYS_ADJ SYS_ADJ_REASON) := by
  unfold State.outcomeNo
  rw [State.timeUp_lane, State.timeUp_lane, Lane.timedOut_st, hboth i]
  exact congrArg _ (Lane.timedOut_reason _)

theorem State.verd_of_both (j : LaneId) : (s.lane j).timedOut.verd = 1 ↔ (s.lane j).adj.verdict = 1 := by
  rw [Lane.verd_timedOut_eq_one, and_iff_right (hboth j)]

theorem State.decided_failFail (hbisque : s.sh.bisque = false) (hown : (s.lane i).adj.verdict ≠ 1)
    (hpeer : (s.lane i.other).adj.verdict ≠ 1) :
    ((s.decided i).lane i).st = .retired ∧ ((s.decided i).lane i.other).st = .retired ∧
      ((s.decided i).lane i).fld SYS_ADJ SYS_ADJ_OUTCOME = 4 ∧ (s.decided i).sh.hold = true ∧
      (s.decided i).sh.start.resetDue = some (s.sh.start.resetDue.getD 4) ∧ (s.decided i).resetAt.sh.auth = none := by
  have hno : s.timeUp.outcomeNo i = 4 := (State.outcomeNo_eq_four s i (hboth i)).mpr ⟨hown, fun h => hpeer h.2⟩
  obtain ⟨p2, p3, hdecided⟩ := State.decided_of_outcome hno
  obtain ⟨hmoved, hretired, hretired'⟩ := State.bothRetired_lanes (i := i) 4 (State.shown_on 4 hboth)
  have hfailed : s.decided i = (((s.timeUp.showOutcome 4).bothRetired i 4).setHold true).resetNext 4 := hdecided
  have hlane (j : LaneId) : (((s.timeUp.showOutcome 4).bothRetired i 4).lane j).keptByMove ((s.decided i).lane j) := by
    rw [hfailed, State.resetNext_lane]
    exact State.setHold_lane ..
  have hsh : (s.decided i).sh = _ := (congrArg State.sh hfailed).trans (State.resetNext_sh 4 (hmoved.bisque.trans hbisque))
  have hdue : (s.decided i).sh.start.resetDue = some (s.sh.start.resetDue.getD 4) := by
    rw [hsh, State.setHold_sh, hmoved.resetDue, State.shown_sh]
  refine ⟨(hlane i).state.st.trans hretired, (hlane i.other).state.st.trans hretired', ?_, ?_, hdue, State.resetAt_auth hdue⟩
  · rw [(hlane i).regs.fld (by decide) (by decide), State.outcome_of_moved 4 hboth hmoved (by decide)]
  · rw [hsh, State.setHold_sh]

/-- Two PASS: the lane with authority goes on, the other one stands by, whatever REASON says. -/
theorem State.decided_passPass (hown : (s.lane i).adj.verdict = 1) (hpeer : (s.lane i.other).adj.verdict = 1) :
    ∃ t, (s.timeUp.showOutcome (if (s.lane i).fld SYS_ADJ SYS_ADJ_REASON = 4 then 5 else 3)).moved t ∧ (t.lane i).st = .active ∧
      (t.lane i.other).st = .shadow ∧ (t.lane i.other).instep = false ∧
      s.decided i = if (s.lane i).fld SYS_ADJ SYS_ADJ_REASON = 4 then t else t.setUnres true := by
  have hno : s.timeUp.outcomeNo i = if (s.lane i).fld SYS_ADJ SYS_ADJ_REASON = 4 then 5 else 3 := by
    rw [← State.verd_of_both hboth] at hown hpeer
    rw [State.outcomeNo_of_both hboth]
    simp [outcomeOf, hown, hpeer]
  obtain ⟨p2, p3, hdecided⟩ := State.decided_of_outcome hno
  obtain ⟨hmoved, hactive, hshadow, hinstep⟩ := State.standing_lanes _ i p2 p3 (if (s.lane i).fld SYS_ADJ SYS_ADJ_REASON = 4 then 5 else 3)
  refine ⟨_, hmoved, hactive, hshadow, hinstep, hdecided.trans ?_⟩
  split
  · rfl
  · rfl

variable (hauth : s.sh.auth = some i)
include hauth

theorem State.decided_passFail (hown : (s.lane i).adj.verdict = 1) (hpeer : (s.lane i.other).adj.verdict ≠ 1) :
    ((s.decided i).lane i).st = .active ∧ ((s.decided i).lane i.other).st = .retired ∧ (s.decided i).sh.auth = some i ∧
      (s.decided i).moveAuth.sh.auth = some i ∧ ((s.decided i).lane i).fld SYS_ADJ SYS_ADJ_OUTCOME = 1 := by
  have hno : s.timeUp.outcomeNo i = 1 := by
    rw [← State.verd_of_both hboth] at hown
    rw [ne_eq, ← State.verd_of_both hboth] at hpeer
    rw [State.outcomeNo_of_both hboth]
    simp [outcomeOf, hown, hpeer]
  obtain ⟨p2, p3, hdecided⟩ := State.decided_of_outcome hno
  obtain ⟨hmoved, hactive, hretired⟩ := State.carryOut_one (i := i) p2 p3 (State.shown_on 1 hboth)
  rw [hdecided]
  have hkeeps := hmoved.auth.trans hauth
  exact ⟨hactive, hretired, hkeeps, State.moveAuth_of_active hkeeps hactive, State.outcome_of_moved 1 hboth hmoved (by decide) i⟩

theorem State.decided_failPass (hown : (s.lane i).adj.verdict ≠ 1) (hpeer : (s.lane i.other).adj.verdict = 1) :
    ((s.decided i).lane i).st = .retired ∧ ((s.decided i).lane i.other).st = .active ∧
      (s.decided i).moveAuth.sh.auth = some i.other ∧ ((s.decided i).lane i.other).fld SYS_ADJ SYS_ADJ_OUTCOME = 2 := by
  have hno : s.timeUp.outcomeNo i = 2 := by
    rw [ne_eq, ← State.verd_of_both hboth] at hown
    rw [← State.verd_of_both hboth] at hpeer
    rw [State.outcomeNo_of_both hboth]
    simp [outcomeOf, hown, hpeer]
  obtain ⟨p2, p3, hdecided⟩ := State.decided_of_outcome hno
  obtain ⟨hmoved, hretired, hactive⟩ := State.carryOut_two (i := i) p2 p3 (State.shown_on 2 hboth)
  rw [hdecided]
  refine ⟨hretired, hactive, ?_, State.outcome_of_moved 2 hboth hmoved (by decide) i.other⟩
  rw [State.moveAuth_of_retired _ i (hmoved.auth.trans hauth) hretired hactive, State.setAuth_auth]

end

section
variable (s : State) (j : LaneId) (v : Bool)

theorem State.setUnres_sameDiscipline : (s.lane j).sameDiscipline ((s.setUnres v).lane j) :=
  State.onLanes_sameDiscipline (f := fun l => l.setB SYS_STATE SYS_STATE_UNRES v) (fun _ => ⟨rfl, rfl, rfl⟩) s j

theorem State.setUnres_on {s : State} {j : LaneId} (hoff : (s.lane j).st ≠ .off) :
    ((s.setUnres v).lane j).on SYS_STATE SYS_STATE_UNRES = v := by
  rw [State.setUnres_lane v hoff, Lane.on_setB_same _ _ _ _ (by decide)]

theorem State.setUnres_outcome : ((s.setUnres v).lane j).fld SYS_ADJ SYS_ADJ_OUTCOME = (s.lane j).fld SYS_ADJ SYS_ADJ_OUTCOME := by
  rw [State.setUnres, State.onLanes_lane]
  split
  · exact Lane.fld_setF_ne _ _ _ _ _ _ (by decide)
  · rfl

end

/-- Two PASS with REASON other than MISSING: UNRES is set in both lanes. -/
theorem State.setUnres_both {t : State} {i : LaneId} (hactive : (t.lane i).st = .active) (hshadow : (t.lane i.other).st = .shadow) :
    ((t.setUnres true).lane i).on SYS_STATE SYS_STATE_UNRES = true ∧ ((t.setUnres true).lane i.other).on SYS_STATE SYS_STATE_UNRES = true :=
  ⟨State.setUnres_on true (by rw [hactive]; decide), State.setUnres_on true (by rw [hshadow]; decide)⟩

/-- The row of two PASS, for both kinds of REASON. -/
theorem State.decided_standing {s : State} {i : LaneId} (hboth : ∀ j, (s.lane j).st = .adjudicating) (hauth : s.sh.auth = some i)
    (hown : (s.lane i).adj.verdict = 1) (hpeer : (s.lane i.other).adj.verdict = 1) :
    ((s.decided i).lane i).st = .active ∧ ((s.decided i).lane i.other).st = .shadow ∧ ((s.decided i).lane i.other).instep = false ∧
      (s.decided i).sh.auth = some i ∧ (s.decided i).moveAuth.sh.auth = some i ∧
      ((s.lane i).fld SYS_ADJ SYS_ADJ_REASON ≠ 4 → ((s.decided i).lane i).fld SYS_ADJ SYS_ADJ_OUTCOME = 3 ∧
        ((s.decided i).lane i).on SYS_STATE SYS_STATE_UNRES = true ∧ ((s.decided i).lane i.other).on SYS_STATE SYS_STATE_UNRES = true) ∧
      ((s.lane i).fld SYS_ADJ SYS_ADJ_REASON = 4 → ((s.decided i).lane i).fld SYS_ADJ SYS_ADJ_OUTCOME = 5 ∧ (s.decided i).unres = s.unres) := by
  obtain ⟨t, hmoved, hactive, hshadow, hinstep, hdecided⟩ := State.decided_passPass hboth hown hpeer
  have houtcome := State.outcome_of_moved _ hboth hmoved (by split <;> decide) i
  by_cases hmissing : (s.lane i).fld SYS_ADJ SYS_ADJ_REASON = 4
  · rw [if_pos hmissing] at hmoved houtcome hdecided
    have hkeeps := hmoved.auth.trans hauth
    rw [hdecided]
    exact ⟨hactive, hshadow, hinstep, hkeeps, State.moveAuth_of_active hkeeps hactive, fun h => absurd hmissing h,
      fun _ => ⟨houtcome, hmoved.unres.trans (State.shown_unres 5)⟩⟩
  · rw [if_neg hmissing] at hmoved houtcome hdecided
    have hsame (j : LaneId) := State.setUnres_sameDiscipline t j true
    have hactive' := (hsame i).st.trans hactive
    have hkeeps : (t.setUnres true).sh.auth = some i := hmoved.auth.trans hauth
    rw [hdecided]
    exact ⟨hactive', (hsame i.other).st.trans hshadow, (hsame i.other).instep.trans hinstep, hkeeps,
      State.moveAuth_of_active hkeeps hactive',
      fun _ => ⟨(State.setUnres_outcome ..).trans houtcome, State.setUnres_both hactive hshadow⟩, fun h => absurd h hmissing⟩

theorem LaneId.forall_of_pair {p : LaneId → Prop} (i : LaneId) (hown : p i) (hother : p i.other) (j : LaneId) : p j := by
  rcases i with _ | _ <;> rcases j with _ | _
  exacts [hown, hother, hother, hown]

/-- Settles O30: the row of the two verdicts, then the kept cut, on which only the opening of the next epoch hangs. -/
theorem adjudicationOutcomes : Obligations.AdjudicationOutcomes := by
  refine ⟨fun i s hsnap hauth hbisque hown hother => ?verdicts, fun i k s hsnap hauth hadj => ?keptCut⟩
  case verdicts =>
    have hboth := LaneId.forall_of_pair (p := fun j => (s.lane j).st = .adjudicating) i hown hother
    have hexec : exec .adjudicationOutcome s = .next (s.decided i) :=
      congrArg Host.Outcome.next ((State.outcome_of_auth hauth hown).trans (State.adjudicate_of_noCut hsnap))
    exact ⟨_, hexec, State.decided_passFail hboth hauth, State.decided_failPass hboth hauth, State.decided_standing hboth hauth,
      State.decided_failFail hboth hbisque⟩
  case keptCut =>
    have hadj' : ((s.withSnap none).lane i).st = .adjudicating := by rwa [State.withSnap_lane]
    have hopen : exec .adjudicationOutcome s = .next (s.adjudicate i) := congrArg Host.Outcome.next (State.outcome_of_auth hauth hadj)
    have hnoCut : exec .adjudicationOutcome (s.withSnap none) = .next ((s.withSnap none).adjudicate i) :=
      congrArg Host.Outcome.next (State.outcome_of_auth hauth hadj')
    exact ⟨_, hnoCut, hopen.trans (congrArg Host.Outcome.next (State.adjudicate_keptCut hsnap hadj))⟩

end Sys2Proof.Machine
end

section
/-! The store of a lane (R359–R362): a record written to a slot, the write index, the commit and its read-back. -/

namespace Sys2Proof.Machine

/-! ### A record written to a slot (R359) -/

theorem nextSlot_lt (k : Nat) : nextSlot k < slotCount := Nat.mod_lt _ (by decide)

/-- What a slot holds of the record: the STAMP is given in complement until step 3. -/
def slotWords (stamp : Bool) (ws : List Word) : List Word :=
  if stamp then ws else ws.take 7 ++ [ws.getD 7 0#32 ^^^ 0xFFFF0000#32]

section
variable (l : Lane) (stamp : Bool) (h : Nat) (ws : List Word)

/-- The write index is the number of a slot. -/
theorem Lane.head_lt : l.fld REC_HEAD REC_HEAD_INDEX < slotCount := l.fld_lt REC_HEAD REC_HEAD_INDEX

theorem Lane.phase1_rcd : (l.phase1 stamp h ws).rcd = l.rcd := Lane.tailSync_rcd _

theorem Lane.phase1_slot_same : (l.phase1 stamp h ws).slot h = slotWords stamp ws :=
  (Lane.tailSync_slot _ h).trans (Lane.slot_setSlot_same l h _)

theorem Lane.phase1_slot_ne {k : Nat} (hk : k % slotCount ≠ h % slotCount) : (l.phase1 stamp h ws).slot k = l.slot k :=
  (Lane.tailSync_slot _ k).trans (Lane.slot_setSlot_ne l _ hk)

theorem Lane.phase1_regsBut : l.regsBut [REC_TAIL] (l.phase1 stamp h ws) :=
  (Lane.regsBut_of_regs_eq (m := l.setSlot h (slotWords stamp ws)) _ rfl).trans (Lane.tailSync_regsBut _)

end

/-! ### The write index (R362) -/

section
variable (l : Lane)

/-- The lane with the write index at `h`, which marks the ring as overwritten at its start. -/
def Lane.headAt (h : Nat) : Lane :=
  let m := (l.setF REC_HEAD REC_HEAD_INDEX h).setRec (fun w => { w with mirNew := w.mirNew + 1 })
  if h = 0 then m.setB REC_TAIL REC_TAIL_WRAPPED true else m

theorem Lane.advance_eq : l.advance = (l.headAt (nextSlot (l.fld REC_HEAD REC_HEAD_INDEX))).tailSync := rfl

theorem Lane.headAt_regsBut (h : Nat) : l.regsBut [REC_HEAD, REC_TAIL] (l.headAt h) := by
  have hmoved : l.regsBut [REC_HEAD, REC_TAIL] (l.setF REC_HEAD REC_HEAD_INDEX h) :=
    (Lane.regsBut.refl _ l).setF (by decide) (by simp) _ _
  unfold Lane.headAt
  dsimp only
  split
  · exact (hmoved.of_regs_eq rfl).setB (by decide) (by simp) _ _
  · exact hmoved.of_regs_eq rfl

theorem Lane.headAt_head {h : Nat} (hh : h < slotCount) : (l.headAt h).fld REC_HEAD REC_HEAD_INDEX = h := by
  have hmoved : (l.setF REC_HEAD REC_HEAD_INDEX h).fld REC_HEAD REC_HEAD_INDEX = h :=
    (Lane.fld_setF_same _ _ _ _ (by decide)).trans (Nat.mod_eq_of_lt hh)
  unfold Lane.headAt
  dsimp only
  split
  · exact (Lane.fld_setF_ne _ _ _ _ _ _ (by decide)).trans hmoved
  · exact hmoved

theorem Lane.headAt_rcd (h : Nat) : (l.headAt h).rcd = { l.rcd with mirNew := l.rcd.mirNew + 1 } := by
  unfold Lane.headAt
  dsimp only
  split <;> rfl

theorem Lane.headAt_slot (h k : Nat) : (l.headAt h).slot k = l.slot k := by
  unfold Lane.headAt
  dsimp only
  split <;> rfl

theorem Lane.advance_head : l.advance.fld REC_HEAD REC_HEAD_INDEX = nextSlot (l.fld REC_HEAD REC_HEAD_INDEX) := by
  rw [Lane.advance_eq, (Lane.tailSync_regsBut _).fld (by decide) (by decide), Lane.headAt_head _ (nextSlot_lt _)]

theorem Lane.advance_regsBut : l.regsBut [REC_HEAD, REC_TAIL] l.advance := by
  rw [Lane.advance_eq]
  exact (l.headAt_regsBut _).trans ((Lane.tailSync_regsBut _).mono (by simp))

theorem Lane.advance_rcd : l.advance.rcd = { l.rcd with mirNew := l.rcd.mirNew + 1 } := by
  rw [Lane.advance_eq, Lane.tailSync_rcd, Lane.headAt_rcd]

theorem Lane.advance_slot (k : Nat) : l.advance.slot k = l.slot k := by
  rw [Lane.advance_eq, Lane.tailSync_slot, Lane.headAt_slot]

end

/-! ### What a commit leaves in its slot -/

section
variable (l : Lane) (h : Nat) (ws : List Word)

/-- The write index has gone past slot `h`, which a commit leaves filled. -/
def Lane.headPast : Nat :=
  if l.fld REC_HEAD REC_HEAD_INDEX = h then nextSlot (l.fld REC_HEAD REC_HEAD_INDEX) else l.fld REC_HEAD REC_HEAD_INDEX

theorem Lane.headPast_lt : l.headPast h < slotCount := by
  unfold Lane.headPast
  split
  · exact nextSlot_lt _
  · exact l.head_lt

/-- The slot is filled, and the write index advances or stands. -/
theorem Lane.fill_cases :
    (l.fld REC_HEAD REC_HEAD_INDEX = h ∧ l.fill h ws = (l.setSlot h ws).advance) ∨
      (l.fld REC_HEAD REC_HEAD_INDEX ≠ h ∧ l.fill h ws = (l.setSlot h ws).tailSync) := by
  by_cases hhead : l.fld REC_HEAD REC_HEAD_INDEX = h
  · exact .inl ⟨hhead, if_pos hhead⟩
  · exact .inr ⟨hhead, if_neg hhead⟩

theorem Lane.fill_head : (l.fill h ws).fld REC_HEAD REC_HEAD_INDEX = l.headPast h := by
  obtain ⟨hhead, hfill⟩ | ⟨hhead, hfill⟩ := l.fill_cases h ws <;> rw [hfill, Lane.headPast]
  · rw [Lane.advance_head, if_pos hhead]
    rfl
  · rw [if_neg hhead, (Lane.tailSync_regsBut _).fld (by decide) (by decide)]
    rfl

theorem Lane.fill_regsBut : l.regsBut [REC_HEAD, REC_TAIL] (l.fill h ws) := by
  have hslot : l.regsBut [REC_HEAD, REC_TAIL] (l.setSlot h ws) := Lane.regsBut_of_regs_eq _ rfl
  obtain ⟨-, hfill⟩ | ⟨-, hfill⟩ := l.fill_cases h ws <;> rw [hfill]
  · exact hslot.trans (Lane.advance_regsBut _)
  · exact hslot.trans ((Lane.tailSync_regsBut _).mono (by simp))

/-- Of the recorder's work only the count of slots written since a copy began can move. -/
theorem Lane.fill_rcd : ∃ n, (l.fill h ws).rcd = { l.rcd with mirNew := n } := by
  obtain ⟨-, hfill⟩ | ⟨-, hfill⟩ := l.fill_cases h ws <;> rw [hfill]
  · exact ⟨_, Lane.advance_rcd _⟩
  · exact ⟨_, Lane.tailSync_rcd _⟩

theorem Lane.fill_slot (k : Nat) : (l.fill h ws).slot k = (l.setSlot h ws).slot k := by
  obtain ⟨-, hfill⟩ | ⟨-, hfill⟩ := l.fill_cases h ws <;> rw [hfill]
  · exact Lane.advance_slot _ k
  · exact Lane.tailSync_slot _ k

end

/-! ### The start of a commit (R359) -/

/-- The lane that has taken its oldest record for a commit at the write index, staging filled again from the overflow queue. -/
def Lane.taken (r : Rec) (rest : List Rec) (l : Lane) : Lane :=
  (l.setRec (fun w => { w with staging := rest, com := some ⟨r.words, l.fld REC_HEAD REC_HEAD_INDEX, false⟩ })).refill

section
variable {l : Lane} {r : Rec} {rest : List Rec} (stamp : Bool) (hcom : l.rcd.com = none)
  (hfrozen : l.on REC_STAT REC_STAT_FROZEN = false) (hfail : l.on REC_STAT REC_STAT_STORE_FAIL = false)
  (hstaging : l.rcd.staging = r :: rest)
include hcom hfrozen hfail hstaging

theorem Lane.commitStart_of_record :
    l.commitStart stamp = (l.taken r rest).phase1 stamp (l.fld REC_HEAD REC_HEAD_INDEX) r.words := by
  simp [Lane.commitStart, Lane.taken, hcom, hfrozen, hfail, hstaging]

/-- A commit that starts moves its record into its slot and no other. -/
theorem Lane.commitStart_effect : l.regsBut [REC_TAIL] (l.commitStart stamp) ∧
    (l.commitStart stamp).rcd.com = some ⟨r.words, l.fld REC_HEAD REC_HEAD_INDEX, false⟩ ∧
    (l.commitStart stamp).rcd.staging = rest ++ l.rcd.spill.take (4096 - rest.length) ∧
    (l.commitStart stamp).slot (l.fld REC_HEAD REC_HEAD_INDEX) = slotWords stamp r.words ∧
    ∀ k, k % slotCount ≠ l.fld REC_HEAD REC_HEAD_INDEX → (l.commitStart stamp).slot k = l.slot k := by
  rw [Lane.commitStart_of_record stamp hcom hfrozen hfail hstaging, Lane.phase1_rcd]
  refine ⟨?_, rfl, rfl, Lane.phase1_slot_same .., fun k hk => ?_⟩
  · exact (Lane.regsBut_of_regs_eq (m := l.taken r rest) _ rfl).trans (Lane.phase1_regsBut _ _ _ _)
  · exact Lane.phase1_slot_ne (l.taken r rest) _ _ _ (by rwa [Nat.mod_eq_of_lt l.head_lt])

end

/-! ### The read-back (R359, R360) -/

section
variable (l : Lane) (h : Nat) (ws : List Word)

theorem Lane.committed_regs : (l.committed h ws).regs = ((l.fill h ws).wr REC_COMMITS ((l.fill h ws).rd REC_COMMITS + 1#32)).regs := rfl

theorem Lane.committed_com : (l.committed h ws).rcd.com = none := rfl

theorem Lane.committed_done : (l.committed h ws).rcd.done = l.rcd.done + 1 := by
  obtain ⟨n, hrcd⟩ := l.fill_rcd h ws
  have hcounted : (l.committed h ws).rcd.done = (l.fill h ws).rcd.done + 1 := rfl
  rw [hcounted, hrcd]

theorem Lane.committed_slot (k : Nat) : (l.committed h ws).slot k = (l.setSlot h ws).slot k := l.fill_slot h ws k

theorem Lane.committed_regsBut : l.regsBut [REC_HEAD, REC_TAIL, REC_COMMITS] (l.committed h ws) :=
  (((l.fill_regsBut h ws).mono (by simp)).wr (k := REC_COMMITS) (by decide) (by simp) _).of_regs_eq (l.committed_regs h ws)

theorem Lane.committed_head : (l.committed h ws).fld REC_HEAD REC_HEAD_INDEX = l.headPast h := by
  rw [Lane.fld_of_regs_eq (l.committed_regs h ws), Lane.fld_wr_ne _ _ _ _ _ (by decide), Lane.fill_head]

theorem Lane.committed_commits : (l.committed h ws).rd REC_COMMITS = l.rd REC_COMMITS + 1#32 := by
  rw [Lane.rd_of_regs_eq (l.committed_regs h ws), Lane.rd_wr_same, l.fill_regsBut h ws _ (by decide) (by decide)]

end

section
variable {l : Lane} {c : Commit} (stamp : Bool) (hcom : l.rcd.com = some c)
include hcom

theorem Lane.commitEnd_of_match : l.commitEnd true stamp = l.committed c.slot c.words := by
  simp [Lane.commitEnd, hcom]

theorem Lane.commitEnd_of_first (hagain : c.again = false) :
    l.commitEnd false stamp =
      ((l.bump REC_ERR REC_ERR_VERIFY_FAIL).phase1 stamp c.slot c.words).setRec
        (fun w => { w with com := some { c with again := true } }) := by
  simp [Lane.commitEnd, hcom, hagain]

theorem Lane.commitEnd_of_second (hagain : c.again = true) :
    l.commitEnd false stamp = (l.bump REC_ERR REC_ERR_VERIFY_FAIL).voidSlot stamp c.slot c.words := by
  simp [Lane.commitEnd, hcom, hagain]

/-- A good read-back: the slot holds the record, and the record counts. -/
theorem Lane.commitEnd_match_effect :
    l.regsBut [REC_HEAD, REC_TAIL, REC_COMMITS] (l.commitEnd true stamp) ∧ (l.commitEnd true stamp).rcd.com = none ∧
      (l.commitEnd true stamp).slot c.slot = c.words ∧
      (l.commitEnd true stamp).fld REC_HEAD REC_HEAD_INDEX = l.headPast c.slot ∧
      (l.commitEnd true stamp).rd REC_COMMITS = l.rd REC_COMMITS + 1#32 ∧
      (l.commitEnd true stamp).rcd.done = l.rcd.done + 1 ∧
      ∀ k, k % slotCount ≠ c.slot % slotCount → (l.commitEnd true stamp).slot k = l.slot k := by
  rw [Lane.commitEnd_of_match stamp hcom]
  exact ⟨l.committed_regsBut _ _, l.committed_com _ _, (l.committed_slot _ _ _).trans (Lane.slot_setSlot_same ..),
    l.committed_head _ _, l.committed_commits _ _, l.committed_done _ _,
    fun k hk => (l.committed_slot _ _ k).trans (Lane.slot_setSlot_ne _ _ hk)⟩

/-- A first mismatch: the same slot again, and VERIFY_FAIL counts. -/
theorem Lane.commitEnd_first_effect (hagain : c.again = false) :
    l.regsBut [REC_ERR, REC_TAIL] (l.commitEnd false stamp) ∧
      (l.commitEnd false stamp).rcd.com = some { c with again := true } ∧
      (l.commitEnd false stamp).fld REC_ERR REC_ERR_VERIFY_FAIL = min 65535 (l.fld REC_ERR REC_ERR_VERIFY_FAIL + 1) := by
  have hwritten := (l.bump REC_ERR REC_ERR_VERIFY_FAIL).phase1_regsBut stamp c.slot c.words
  rw [Lane.commitEnd_of_first stamp hcom hagain]
  refine ⟨?_, rfl, ?_⟩
  · exact (((Lane.regsBut.refl _ l).bump (by decide) (by simp) _).trans (hwritten.mono (by simp))).of_regs_eq rfl
  · exact (hwritten.fld (by decide) (by decide) _).trans (Lane.fld_bump_same _ _ _ (by decide))

end

/-! ### A slot becomes void (R360, R361) -/

/-- The lane whose slot `h` has become void; the record starts again at the write index. -/
def Lane.voided (h : Nat) (ws : List Word) (l : Lane) : Lane :=
  let m := l.fill h voidWords
  let m := m.setF REC_ERR REC_ERR_VOIDS (min 256 (m.fld REC_ERR REC_ERR_VOIDS + 1))
  m.setRec (fun w => { w with voidRun := w.voidRun + 1, failSlot := h, com := some ⟨ws, m.fld REC_HEAD REC_HEAD_INDEX, false⟩ })

section
variable {l : Lane} (stamp : Bool) (h : Nat) (ws : List Word)

theorem Lane.voided_regs : (l.voided h ws).regs =
    ((l.fill h voidWords).setF REC_ERR REC_ERR_VOIDS (min 256 ((l.fill h voidWords).fld REC_ERR REC_ERR_VOIDS + 1))).regs := rfl

theorem Lane.voided_regsBut : l.regsBut [REC_ERR, REC_HEAD, REC_TAIL] (l.voided h ws) :=
  (((l.fill_regsBut h voidWords).mono (by simp)).setF (k := REC_ERR) (by decide) (by simp) _ _).of_regs_eq (Lane.voided_regs h ws)

theorem Lane.voided_head : (l.voided h ws).fld REC_HEAD REC_HEAD_INDEX = l.headPast h := by
  rw [Lane.fld_of_regs_eq (Lane.voided_regs h ws), Lane.fld_setF_ne _ _ _ _ _ _ (by decide), Lane.fill_head]

/-- The fill of a slot counts no void slot. -/
theorem Lane.fill_voids : (l.fill h ws).fld REC_ERR REC_ERR_VOIDS = l.fld REC_ERR REC_ERR_VOIDS :=
  (l.fill_regsBut h ws).fld (by decide) (by decide) _

theorem Lane.voided_voids (hvoids : l.fld REC_ERR REC_ERR_VOIDS < 255) :
    (l.voided h ws).fld REC_ERR REC_ERR_VOIDS = l.fld REC_ERR REC_ERR_VOIDS + 1 := by
  rw [Lane.fld_of_regs_eq (Lane.voided_regs h ws), Lane.fld_setF_same _ _ _ _ (by decide), Lane.fill_voids, Nat.min_eq_right (by omega)]
  exact Nat.mod_eq_of_lt (show _ < 512 by omega)

theorem Lane.voided_com : (l.voided h ws).rcd.com = some ⟨ws, l.headPast h, false⟩ := by
  rw [← Lane.voided_head h ws]
  rfl

theorem Lane.voided_voidRun : (l.voided h ws).rcd.voidRun = l.rcd.voidRun + 1 := by
  obtain ⟨n, hrcd⟩ := l.fill_rcd h voidWords
  have hcounted : (l.voided h ws).rcd.voidRun = (l.fill h voidWords).rcd.voidRun + 1 := rfl
  rw [hcounted, hrcd]

theorem Lane.voided_slot : (l.voided h ws).slot h = voidWords :=
  (l.fill_slot h voidWords h).trans (Lane.slot_setSlot_same ..)

theorem Lane.voidSlot_eq : l.voidSlot stamp h ws =
    if 4 ≤ (l.voided h ws).rcd.voidRun || min 256 ((l.fill h voidWords).fld REC_ERR REC_ERR_VOIDS + 1) = 256 then
      (l.voided h ws).storeOut
    else (l.voided h ws).phase1 stamp ((l.voided h ws).fld REC_HEAD REC_HEAD_INDEX) ws := rfl

/-- Fewer than 4 void slots in a row and fewer than 256 in all leave the store in service. -/
theorem Lane.voidSlot_of_few (hrun : l.rcd.voidRun < 3) (hvoids : l.fld REC_ERR REC_ERR_VOIDS < 255) :
    l.voidSlot stamp h ws = (l.voided h ws).phase1 stamp (l.headPast h) ws := by
  have hfew : ¬ 4 ≤ l.rcd.voidRun + 1 ∧ ¬ min 256 (l.fld REC_ERR REC_ERR_VOIDS + 1) = 256 := by omega
  rw [Lane.voidSlot_eq, Lane.voided_voidRun, Lane.fill_voids, Lane.voided_head, if_neg (by simpa using hfew)]

variable {c : Commit} (hcom : l.rcd.com = some c) (hagain : c.again = true) (hrun : l.rcd.voidRun < 3)
  (hvoids : l.fld REC_ERR REC_ERR_VOIDS < 255)
include hcom hagain hrun hvoids

/-- A second mismatch: the slot is void, and the record begins at the next one. -/
theorem Lane.commitEnd_second_effect :
    l.regsBut [REC_ERR, REC_HEAD, REC_TAIL] (l.commitEnd false stamp) ∧
      (l.commitEnd false stamp).rcd.com = some ⟨c.words, l.headPast c.slot, false⟩ ∧
      (l.commitEnd false stamp).fld REC_HEAD REC_HEAD_INDEX = l.headPast c.slot ∧
      (c.slot % slotCount ≠ l.headPast c.slot → (l.commitEnd false stamp).slot c.slot = voidWords) ∧
      (l.commitEnd false stamp).fld REC_ERR REC_ERR_VOIDS = l.fld REC_ERR REC_ERR_VOIDS + 1 := by
  have hcounted : l.regsBut [REC_ERR] (l.bump REC_ERR REC_ERR_VERIFY_FAIL) :=
    (Lane.regsBut.refl _ l).bump (by decide) (by simp) _
  have hpast : (l.bump REC_ERR REC_ERR_VERIFY_FAIL).headPast c.slot = l.headPast c.slot := by
    rw [Lane.headPast, hcounted.fld (by decide) (by decide), ← Lane.headPast]
  have hstand : (l.bump REC_ERR REC_ERR_VERIFY_FAIL).fld REC_ERR REC_ERR_VOIDS = l.fld REC_ERR REC_ERR_VOIDS :=
    Lane.fld_setF_field _ _ _ _ _ (by decide)
  have hwritten := ((l.bump REC_ERR REC_ERR_VERIFY_FAIL).voided c.slot c.words).phase1_regsBut stamp (l.headPast c.slot) c.words
  rw [Lane.commitEnd_of_second stamp hcom hagain, Lane.voidSlot_of_few (l := l.bump _ _) _ _ _ hrun (hstand ▸ hvoids), hpast]
  refine ⟨?_, ?_, ?_, fun hne => ?_, ?_⟩
  · exact ((hcounted.mono (by simp)).trans (Lane.voided_regsBut _ _)).trans (hwritten.mono (by simp))
  · rw [Lane.phase1_rcd, Lane.voided_com, hpast]
  · rw [hwritten.fld (by decide) (by decide), Lane.voided_head, hpast]
  · rw [Lane.phase1_slot_ne _ _ _ _ (by rwa [Nat.mod_eq_of_lt (l.headPast_lt _)]), Lane.voided_slot]
  · rw [hwritten.fld (by decide) (by decide), Lane.voided_voids _ _ (hstand ▸ hvoids), hstand]

end

/-- A read-back that leaves REC_STAT as it was takes no store out of service. -/
theorem State.commitEnd_of_regsBut {s : State} {i : LaneId} {ok stamp : Bool} {ks : List Nat}
    (hlane : (s.lane i).regsBut ks ((s.lane i).commitEnd ok stamp)) (hks : REC_STAT ∉ ks) :
    s.commitEnd i ok stamp = s.upd i (Lane.commitEnd ok stamp) := by
  have hstat := hlane.on (by decide) hks REC_STAT_STORE_FAIL
  simp [State.commitEnd, hstat]

end Sys2Proof.Machine
end

section
/-! The read window of a store (R367), and the rows of commits and of the window. -/

namespace Sys2Proof.Machine

/-! ### Registers written one after another -/

section
variable {k : Nat → Nat} (w : Nat → Word)

theorem Lane.foldl_wr_regsBut {ns : List Nat} (hk : ∀ n ∈ ns, k n < 2 ^ 20) (l : Lane) :
    l.regsBut (ns.map k) (ns.foldl (fun l n => l.wr (k n) (w n)) l) := by
  induction ns generalizing l with
  | nil => exact .refl _ l
  | cons n ns ih =>
    have hfirst : l.regsBut ((n :: ns).map k) (l.wr (k n) (w n)) :=
      (Lane.regsBut.refl _ l).wr (hk n List.mem_cons_self) (by simp) _
    exact hfirst.trans ((ih (fun m hm => hk m (List.mem_cons_of_mem n hm)) _).mono (by simp))

theorem Lane.foldl_wr_rd (hinj : Function.Injective k) {ns : List Nat} (hk : ∀ n ∈ ns, k n < 2 ^ 20) {n : Nat} (hn : n ∈ ns) (l : Lane) :
    (ns.foldl (fun l n => l.wr (k n) (w n)) l).rd (k n) = w n := by
  induction ns generalizing l with
  | nil => exact absurd hn List.not_mem_nil
  | cons m ns ih =>
    have hrest : ∀ n ∈ ns, k n < 2 ^ 20 := fun j hj => hk j (List.mem_cons_of_mem m hj)
    by_cases hlater : n ∈ ns
    · exact ih hrest hlater _
    · obtain rfl : n = m := (List.mem_cons.mp hn).resolve_right hlater
      have hnot : k n ∉ ns.map k := by simpa [hinj.eq_iff] using hlater
      exact (Lane.foldl_wr_regsBut w hrest _ _ (hk n hn) hnot).trans (Lane.rd_wr_same ..)

end

/-! ### The load of a slot -/

/-- The window with the words of a slot. -/
def Lane.window (ws : List Word) (l : Lane) : Lane := (upTo 8).foldl (fun l k => l.wr (REC_RDW k) (ws.getD k 0#32)) l

/-- REC_RDIDX once slot `k` with the words `ws` is loaded. -/
def loadedIdx (k : Nat) (ws : List Word) : Word :=
  REC_RDIDX_INDEX.put k (REC_RDIDX_VALID.put (slotValid ws).toNat (REC_RDIDX_READY.put 1 0#32))

section
variable (l : Lane) (ws : List Word)

theorem REC_RDW_lt : ∀ w ∈ upTo 8, REC_RDW w < 2 ^ 20 := by decide

theorem Lane.window_regsBut : l.regsBut ((upTo 8).map REC_RDW) (l.window ws) := Lane.foldl_wr_regsBut _ REC_RDW_lt l

theorem Lane.window_rd {w : Nat} (hw : w < 8) : (l.window ws).rd (REC_RDW w) = ws.getD w 0#32 :=
  Lane.foldl_wr_rd _ (fun _ _ h => Nat.add_left_cancel h) REC_RDW_lt (List.mem_range.mpr hw) l

theorem Lane.window_rcd : (l.window ws).rcd = l.rcd := 
  List.foldlRecOn (motive := fun m : Lane => m.rcd = l.rcd) _ _ rfl fun _ hm _ _ => hm

theorem REC_RDW_ne_RDIDX {w : Nat} (hw : w < 8) : REC_RDW w % 2 ^ 20 ≠ REC_RDIDX % 2 ^ 20 := by
  unfold REC_RDW REC_RDIDX
  omega

theorem loadedIdx_ready (k : Nat) : REC_RDIDX_READY.on (loadedIdx k ws) = true := by
  rw [loadedIdx, Fld.on_put_apart (by decide), Fld.on_put_apart (by decide)]
  exact Fld.on_put_same REC_RDIDX_READY true _ (by decide)

theorem loadedIdx_valid (k : Nat) : REC_RDIDX_VALID.on (loadedIdx k ws) = slotValid ws := by
  rw [loadedIdx, Fld.on_put_apart (by decide), Fld.on_put_same _ _ _ (by decide)]

variable {l}

theorem Lane.rdLoaded_of_loading (hloading : l.rcd.loading = true) :
    let k := l.fld REC_RDIDX REC_RDIDX_INDEX
    l.rdLoaded = ((l.setRec (fun w => { w with loading := false })).window (l.slot k)).wr REC_RDIDX (loadedIdx k (l.slot k)) :=
  if_neg (by simp [hloading])

/-- The window shows the slot that REC_RDIDX names. -/
theorem Lane.rdLoaded_effect (hloading : l.rcd.loading = true) :
    let ws := l.slot (l.fld REC_RDIDX REC_RDIDX_INDEX)
    l.rdLoaded.on REC_RDIDX REC_RDIDX_READY = true ∧ l.regsBut (REC_RDIDX :: (upTo 8).map REC_RDW) l.rdLoaded ∧
      l.rdLoaded.on REC_RDIDX REC_RDIDX_VALID = slotValid ws ∧ l.rdLoaded.rcd.loading = false ∧
      ∀ w, w < 8 → l.rdLoaded.rd (REC_RDW w) = ws.getD w 0#32 := by
  have hidle : l.regsBut (REC_RDIDX :: (upTo 8).map REC_RDW) (l.setRec (fun w => { w with loading := false })) :=
    Lane.regsBut_of_regs_eq _ rfl
  intro ws
  rw [Lane.rdLoaded_of_loading hloading]
  refine ⟨?_, ?_, ?_, ?_, fun w hw => ?_⟩
  · exact (Lane.on_of_rd (Lane.rd_wr_same ..) _).trans (loadedIdx_ready _ _)
  · exact (hidle.trans ((Lane.window_regsBut _ _).mono (List.subset_cons_self _ _))).wr (by decide) List.mem_cons_self _
  · exact (Lane.on_of_rd (Lane.rd_wr_same ..) _).trans (loadedIdx_valid _ _)
  · rw [Lane.wr_rcd, Lane.window_rcd]
    rfl
  · rw [Lane.rd_wr_ne _ _ _ _ (REC_RDW_ne_RDIDX hw), Lane.window_rd _ _ hw]

theorem Lane.rdIdx_regs (l : Lane) (k : Nat) : (l.rdIdx k).regs = (l.wr REC_RDIDX (REC_RDIDX_INDEX.put k 0#32)).regs := rfl

/-- A load begins at the slot named. -/
theorem Lane.rdIdx_effect (l : Lane) {k : Nat} (hk : k < slotCount) :
    l.regsBut [REC_RDIDX] (l.rdIdx k) ∧ (l.rdIdx k).fld REC_RDIDX REC_RDIDX_INDEX = k ∧
      (l.rdIdx k).on REC_RDIDX REC_RDIDX_READY = false ∧ (l.rdIdx k).rcd.loading = true := by
  have hrd : (l.rdIdx k).rd REC_RDIDX = REC_RDIDX_INDEX.put k 0#32 := Lane.rd_wr_same l REC_RDIDX _
  refine ⟨?_, ?_, ?_, rfl⟩
  · exact ((Lane.regsBut.refl _ l).wr (k := REC_RDIDX) (by decide) (by simp) _).of_regs_eq (Lane.rdIdx_regs l k)
  · rw [Lane.fld_of_rd hrd, Fld.get_put_same _ _ _ (by decide)]
    exact Nat.mod_eq_of_lt hk
  · rw [Lane.on_of_rd hrd, Fld.on_put_apart (by decide)]
    decide

theorem Lane.rdNext_of_ready (hready : l.on REC_RDIDX REC_RDIDX_READY = true) :
    l.rdNext = l.rdIdx (nextSlot (l.fld REC_RDIDX REC_RDIDX_INDEX)) := if_pos hready

end

/-! ### The rows -/

theorem execRecRdidxWrite_of_mute {s : State} {i : LaneId} (v : Word) (hmute : s.sh.bisque = true ∨ (s.lane i).st = .off) :
    execRecRdidxWrite i v s = .next s := by
  have hmuted : (s.sh.bisque || (s.lane i).st == .off) = true := by simpa using hmute
  rw [execRecRdidxWrite, if_pos hmuted]

theorem execRecRdidxWrite_of_heard {s : State} {i : LaneId} (v : Word) (hbisque : s.sh.bisque = false) (hoff : (s.lane i).st ≠ .off) :
    execRecRdidxWrite i v s = .next (s.upd i (Lane.rdIdx (REC_RDIDX_INDEX.get v))) := by
  rw [execRecRdidxWrite, if_neg (by simp [hbisque, hoff])]

/-- The read-back of a commit after which the store stays in service. -/
theorem exec_commitReadback {s : State} {i : LaneId} {ok stamp : Bool} {ks : List Nat}
    (hlane : (s.lane i).regsBut ks ((s.lane i).commitEnd ok stamp)) (hks : REC_STAT ∉ ks) :
    exec (.commitReadback i ok stamp) s = .next (s.upd i (Lane.commitEnd ok stamp)) :=
  congrArg Host.Outcome.next (State.commitEnd_of_regsBut hlane hks)

/-- Settles O36: each clause is what its row does to the lane of the store. -/
theorem commitAndReadRows : Obligations.CommitAndReadRows := by
  refine ⟨fun i stamp r rest s hcom hfrozen hfail hstaging => ?start, fun i stamp c s hcom => ?good,
    fun i stamp c s hcom hagain => ?retry, fun i stamp c s hcom hagain hrun hvoids => ?void, fun i v s hmute => ?mute,
    fun i v s hbisque hoff => ?index, fun i s hready => ?next, fun i s hloading => ?loaded⟩
  case start =>
    refine ⟨_, rfl, s.upd_otherKept i _, ?_⟩
    rw [State.upd_lane]
    exact Lane.commitStart_effect stamp hcom hfrozen hfail hstaging
  case good =>
    have heffect := Lane.commitEnd_match_effect stamp hcom
    refine ⟨_, exec_commitReadback heffect.1 (by decide), s.upd_otherKept i _, ?_⟩
    rw [State.upd_lane]
    exact heffect
  case retry =>
    have heffect := Lane.commitEnd_first_effect stamp hcom hagain
    refine ⟨_, exec_commitReadback heffect.1 (by decide), s.upd_otherKept i _, ?_⟩
    rwa [State.upd_lane]
  case void =>
    have heffect := Lane.commitEnd_second_effect stamp hcom hagain hrun hvoids
    refine ⟨_, exec_commitReadback heffect.1 (by decide), s.upd_otherKept i _, ?_⟩
    rw [State.upd_lane]
    exact heffect
  case mute => exact execRecRdidxWrite_of_mute v hmute
  case index =>
    refine ⟨_, execRecRdidxWrite_of_heard v hbisque hoff, s.upd_otherKept i _, ?_⟩
    rw [State.upd_lane]
    exact Lane.rdIdx_effect _ (Fld.get_lt ..)
  case next =>
    refine ⟨_, rfl, s.upd_otherKept i _, ?_⟩
    rw [State.upd_lane, Lane.rdNext_of_ready hready]
    exact Lane.rdIdx_effect _ (nextSlot_lt _)
  case loaded =>
    refine ⟨_, rfl, s.upd_otherKept i _, ?_⟩
    rw [State.upd_lane]
    exact Lane.rdLoaded_effect hloading

end Sys2Proof.Machine
end

section
/-! Shard windows, freezes and the power-loss flush (R355–R357, R364–R366): what each leaves of a lane. -/

namespace Sys2Proof.Machine

/-! ### A stable sort keeps the length -/

theorem insertBy_length {α : Type} (key : α → Nat) (x : α) (ys : List α) : (insertBy key x ys).length = ys.length + 1 := by
  induction ys with
  | nil => rfl
  | cons y ys ih =>
    unfold insertBy
    split
    · rfl
    · rw [List.length_cons, ih, List.length_cons]

theorem sortBy_length {α : Type} (key : α → Nat) (xs : List α) : (sortBy key xs).length = xs.length := by
  have hfold (acc : List α) : (xs.foldl (fun acc x => insertBy key x acc) acc).length = acc.length + xs.length := by
    induction xs generalizing acc with
    | nil => rfl
    | cons x xs ih =>
      rw [List.foldl_cons, ih, insertBy_length, List.length_cons]
      omega
  exact (hfold []).trans (Nat.zero_add _)

/-! ### Shard records (R357) -/

/-- The shard record of one class. -/
def Lane.shard (l : Lane) (d : DropWin) : Lane :=
  l.record 0x0001 d.first (w32 (d.cls + 65536 * d.code)) (w32 d.count) (w32 d.last) (w32 (d.last / 2 ^ 32)) (100 + d.cls)

section
variable (l : Lane)

theorem Lane.shards_eq :
    l.shards = ((sortBy (fun (d : DropWin) => d.cls) l.rcd.drops).foldl Lane.shard l).setRec (fun w => { w with drops := [] }) := rfl

theorem Lane.shards_regs : l.shards.regs = l.regs := by
  rw [Lane.shards_eq]
  exact List.foldlRecOn (motive := fun m : Lane => m.regs = l.regs) _ Lane.shard rfl fun _ hm _ _ => hm

theorem Lane.foldl_shard_formed_length (ds : List DropWin) : (ds.foldl Lane.shard l).formed.length = l.formed.length + ds.length := by
  induction ds generalizing l with
  | nil => rfl
  | cons d ds ih =>
    have hone : (l.shard d).formed.length = l.formed.length + 1 := List.length_append
    rw [List.foldl_cons, ih, hone, List.length_cons]
    omega

/-- One record for each class with a dropped record. -/
theorem Lane.shards_formed_length : l.shards.formed.length = l.formed.length + l.rcd.drops.length := by
  rw [Lane.shards_eq, ← sortBy_length (fun d : DropWin => d.cls)]
  exact l.foldl_shard_formed_length _

/-! ### The end of a shard window (R355) -/

/-- The lane at the start of the window that opens at `g`. -/
def Lane.windowOpened (g : Nat) : Lane := l.setRec (fun w => { w with winMax := 0, winAdm := 0, winAt := g })

/-- The lane with SHED one lower, and the event of the change. -/
def Lane.shedLowered : Lane := (l.setF REC_STAT REC_STAT_SHED (l.fld REC_STAT REC_STAT_SHED - 1)).ev evShed

theorem Lane.shedLowered_regsBut : l.regsBut [REC_STAT] l.shedLowered :=
  ((Lane.regsBut.refl _ l).setF (k := REC_STAT) (by decide) (by simp) REC_STAT_SHED _).of_regs_eq (Lane.ev_regs ..)

theorem Lane.shedLowered_le : l.shedLowered.fld REC_STAT REC_STAT_SHED ≤ l.fld REC_STAT REC_STAT_SHED := by
  rw [Lane.shedLowered, Lane.fld_ev, Lane.fld_setF_same _ _ _ _ (by decide)]
  exact (Nat.mod_le _ _).trans (Nat.sub_le _ _)

variable {l} {g : Nat} (hend : g % 100000000 = 0) (hnew : l.rcd.winAt ≠ g)
include hend hnew

/-- SHED stands at a window end or falls by 1. -/
theorem Lane.shardEnd_cases :
    l.shardEnd g = l.shards.windowOpened g ∨ l.shardEnd g = l.shards.shedLowered.windowOpened g := by
  have hdue : (g % 100000000 != 0 || l.rcd.winAt == g) = false := by simp [hend, hnew]
  have hshed : l.shards.fld REC_STAT REC_STAT_SHED = l.fld REC_STAT REC_STAT_SHED := Lane.fld_of_regs_eq l.shards_regs _ _
  rw [Lane.shedLowered, hshed]
  unfold Lane.shardEnd
  rw [hdue]
  extract_lets shed dropped fall shards lowered
  cases hfall : fall
  · exact .inl (by simp [lowered, hfall, shards, Lane.windowOpened])
  · exact .inr (by simp [lowered, hfall, shards, shed, Lane.windowOpened])

theorem Lane.shardEnd_effect : l.regsBut [REC_STAT] (l.shardEnd g) ∧ (l.shardEnd g).rcd.winAt = g ∧ (l.shardEnd g).rcd.drops = [] ∧
    (l.shardEnd g).formed.length = l.formed.length + l.rcd.drops.length ∧
    (l.shardEnd g).fld REC_STAT REC_STAT_SHED ≤ l.fld REC_STAT REC_STAT_SHED := by
  have hshards : l.regsBut [REC_STAT] l.shards := Lane.regsBut_of_regs_eq _ l.shards_regs
  have hshed : l.shards.fld REC_STAT REC_STAT_SHED = l.fld REC_STAT REC_STAT_SHED := Lane.fld_of_regs_eq l.shards_regs _ _
  obtain hstands | hfalls := Lane.shardEnd_cases hend hnew
  · rw [hstands]
    exact ⟨hshards.of_regs_eq rfl, rfl, rfl, l.shards_formed_length, hshed.le⟩
  · rw [hfalls]
    exact ⟨(hshards.trans l.shards.shedLowered_regsBut).of_regs_eq rfl, rfl, rfl, l.shards_formed_length,
      hshed ▸ l.shards.shedLowered_le⟩

end

/-! ### A freeze (R364, R365) -/

section
variable (g : Nat) (l : Lane)

theorem Lane.freezeBegin_regs : (l.freezeBegin g).regs =
    ((l.setB REC_STAT REC_STAT_FROZEN true).setF REC_FRZIDX REC_FRZIDX_INDEX (l.fld REC_HEAD REC_HEAD_INDEX)).regs := rfl

/-- A freeze begins: FRZIDX keeps the write index, and its record is formed. -/
theorem Lane.freezeBegin_effect : l.regsBut [REC_STAT, REC_FRZIDX] (l.freezeBegin g) ∧
    (l.freezeBegin g).on REC_STAT REC_STAT_FROZEN = true ∧
    (l.freezeBegin g).fld REC_FRZIDX REC_FRZIDX_INDEX = l.fld REC_HEAD REC_HEAD_INDEX ∧ (l.freezeBegin g).rcd.frzAt = g ∧
    ∃ f : Formed, (l.freezeBegin g).formed = l.formed ++ [f] ∧ f.r.code = 0x0002 := by
  refine ⟨?_, ?_, ?_, rfl, _, rfl, rfl⟩
  · exact (((Lane.regsBut.refl _ l).setB (by decide) (by simp) _ _).setF (by decide) (by simp) _ _).of_regs_eq (l.freezeBegin_regs g)
  · rw [Lane.on_of_regs_eq (l.freezeBegin_regs g), Lane.on, Lane.fld_setF_ne _ _ _ _ _ _ (by decide), ← Lane.on,
      Lane.on_setB_same _ _ _ _ (by decide)]
  · rw [Lane.fld_of_regs_eq (l.freezeBegin_regs g), Lane.fld_setF_same _ _ _ _ (by decide)]
    exact Nat.mod_eq_of_lt (Lane.fld_lt l REC_HEAD REC_HEAD_INDEX)

variable {l} (cause : Nat)

theorem Lane.freezeEnd_of_thawed (hfrozen : l.on REC_STAT REC_STAT_FROZEN = false) : l.freezeEnd g cause = l := if_pos (by simp [hfrozen])

theorem Lane.freezeEnd_of_frozen (hfrozen : l.on REC_STAT REC_STAT_FROZEN = true) : l.freezeEnd g cause =
    (l.setB REC_STAT REC_STAT_FROZEN false).record 0x0003 g (w32 (l.fld REC_FRZIDX REC_FRZIDX_INDEX)) (w32 cause) 0#32 0#32 2 :=
  if_neg (by simp [hfrozen])

theorem Lane.freezeEnd_regsBut : l.regsBut [REC_STAT] (l.freezeEnd g cause) := by
  cases hfrozen : l.on REC_STAT REC_STAT_FROZEN
  · rw [Lane.freezeEnd_of_thawed g cause hfrozen]
    exact .refl _ _
  · rw [Lane.freezeEnd_of_frozen g cause hfrozen]
    exact ((Lane.regsBut.refl _ l).setB (by decide) (by simp) _ _).of_regs_eq (Lane.record_regs ..)

theorem Lane.freezeEnd_thaws : (l.freezeEnd g cause).on REC_STAT REC_STAT_FROZEN = false := by
  cases hfrozen : l.on REC_STAT REC_STAT_FROZEN
  · rwa [Lane.freezeEnd_of_thawed g cause hfrozen]
  · rw [Lane.freezeEnd_of_frozen g cause hfrozen, Lane.on_record, Lane.on_setB_same _ _ _ _ (by decide)]

/-- The end of a freeze leaves the other flags of REC_STAT alone. -/
theorem Lane.freezeEnd_on_other {f : Fld} (hf : fldsApart f REC_STAT_FROZEN) :
    (l.freezeEnd g cause).on REC_STAT f = l.on REC_STAT f := by
  cases hfrozen : l.on REC_STAT REC_STAT_FROZEN
  · rw [Lane.freezeEnd_of_thawed g cause hfrozen]
  · rw [Lane.freezeEnd_of_frozen g cause hfrozen, Lane.on_record, Lane.on_setB_field _ _ _ _ _ hf]

/-- A freeze that ends forms its record, with the cause. -/
theorem Lane.freezeEnd_formed (hfrozen : l.on REC_STAT REC_STAT_FROZEN = true) :
    ∃ f : Formed, (l.freezeEnd g cause).formed = l.formed ++ [f] ∧ f.r.code = 0x0003 ∧ f.r.p1 = w32 cause := by
  rw [Lane.freezeEnd_of_frozen g cause hfrozen]
  exact ⟨_, rfl, rfl, rfl⟩

theorem Lane.freezeLimit_of_due (hfrozen : l.on REC_STAT REC_STAT_FROZEN = true)
    (hdue : l.rcd.frzAt + l.fld REC_CFG REC_CFG_FRZT * 100000000 ≤ g) : l.freezeLimit g = l.freezeEnd g 1 :=
  if_pos (by simp [hfrozen, hdue])

end

/-! ### The power-loss flush (R366) -/

/-- The lane in the flush: no freeze, and the shard records of the running window formed. -/
def Lane.flushing (g : Nat) (l : Lane) : Lane := ((l.setB REC_STAT REC_STAT_FLUSH true).freezeEnd g 3).shards

section
variable (g : Nat) {l : Lane}

theorem Lane.flushing_regsBut : l.regsBut [REC_STAT] (l.flushing g) :=
  (((Lane.regsBut.refl _ l).setB (by decide) (by simp) _ _).trans (Lane.freezeEnd_regsBut g 3)).of_regs_eq (Lane.shards_regs _)

theorem Lane.flushing_on (f : Fld) :
    (l.flushing g).on REC_STAT f = ((l.setB REC_STAT REC_STAT_FLUSH true).freezeEnd g 3).on REC_STAT f :=
  Lane.on_of_regs_eq (Lane.shards_regs _) _ _

theorem Lane.flushing_flush : (l.flushing g).on REC_STAT REC_STAT_FLUSH = true := by
  rw [Lane.flushing_on, Lane.freezeEnd_on_other _ _ (by decide), Lane.on_setB_same _ _ _ _ (by decide)]

theorem Lane.flushing_thawed : (l.flushing g).on REC_STAT REC_STAT_FROZEN = false := by
  rw [Lane.flushing_on, Lane.freezeEnd_thaws]

variable {cause energy : Nat} (hdue : l.rcd.flushDue = some (cause, energy)) (hflush : l.on REC_STAT REC_STAT_FLUSH = false)
include hdue hflush

theorem Lane.flushNow_of_due : l.flushNow g = ((l.flushing g).record 0x0006 g (w32 cause) (w32 (l.fld REC_STAT REC_STAT_F - 200))
    (w32 energy) (w32 ((l.flushing g).fld REC_STAT REC_STAT_SHED)) 1000).setRec (fun w => { w with flushDue := none }) := by
  simp [Lane.flushNow, Lane.flushBegin, Lane.flushing, hdue, hflush]

theorem Lane.flushNow_effect : l.regsBut [REC_STAT] (l.flushNow g) ∧ (l.flushNow g).on REC_STAT REC_STAT_FLUSH = true ∧
    (l.flushNow g).on REC_STAT REC_STAT_FROZEN = false ∧
    ∃ f : Formed, f ∈ (l.flushNow g).formed ∧ f.r.code = 0x0006 ∧ f.r.p0 = w32 cause ∧
      f.r.p1 = w32 (l.fld REC_STAT REC_STAT_F - 200) ∧ f.r.p2 = w32 energy := by
  have hregs : (l.flushNow g).regs = (l.flushing g).regs := by
    rw [Lane.flushNow_of_due g hdue hflush]
    rfl
  have hformed : ∃ f : Formed, (l.flushNow g).formed = (l.flushing g).formed ++ [f] ∧ f.r.code = 0x0006 ∧ f.r.p0 = w32 cause ∧
      f.r.p1 = w32 (l.fld REC_STAT REC_STAT_F - 200) ∧ f.r.p2 = w32 energy := by
    rw [Lane.flushNow_of_due g hdue hflush]
    exact ⟨_, rfl, rfl, rfl, rfl, rfl⟩
  obtain ⟨f, hlast, hrecord⟩ := hformed
  exact ⟨(Lane.flushing_regsBut g).of_regs_eq hregs, (Lane.on_of_regs_eq hregs _ _).trans (Lane.flushing_flush g),
    (Lane.on_of_regs_eq hregs _ _).trans (Lane.flushing_thawed g), f, by simp [hlast], hrecord⟩

end

end Sys2Proof.Machine
end

section
/-! The commands of the recorder (R368) at their effect boundary, the end of mirroring (R363), and the rows. -/

namespace Sys2Proof.Machine

/-! ### The answer in REC_CMDST -/

/-- The lane with the command and its status in REC_CMDST. -/
def Lane.recAnswered (op st : Nat) (l : Lane) : Lane := (l.recNote op).setF REC_CMDST REC_CMDST_STATUS st

section
variable (op st : Nat) (l : Lane)

theorem Lane.recAnswered_regsBut : l.regsBut [REC_CMDST] (l.recAnswered op st) :=
  ((Lane.regsBut.refl _ l).setF (k := REC_CMDST) (by decide) (by simp) _ _).setF (by decide) (by simp) _ _

theorem Lane.recAnswered_status (hst : st < 4) : (l.recAnswered op st).fld REC_CMDST REC_CMDST_STATUS = st := by
  rw [Lane.recAnswered, Lane.fld_setF_same _ _ _ _ (by decide)]
  exact Nat.mod_eq_of_lt hst

theorem Lane.recAnswered_lastOp (hop : op < 256) : (l.recAnswered op st).fld REC_CMDST REC_CMDST_LAST_OP = op := by
  rw [Lane.recAnswered, Lane.fld_setF_field _ _ _ _ _ (by decide), Lane.recNote, Lane.fld_setF_same _ _ _ _ (by decide)]
  exact Nat.mod_eq_of_lt hop

theorem Lane.recAnswered_fld {k : Nat} (hk : k < 2 ^ 20) (hne : k ≠ REC_CMDST) (f : Fld) : (l.recAnswered op st).fld k f = l.fld k f :=
  (l.recAnswered_regsBut op st).fld hk (by simpa using hne) f

theorem Lane.recAnswered_on {k : Nat} (hk : k < 2 ^ 20) (hne : k ≠ REC_CMDST) (f : Fld) : (l.recAnswered op st).on k f = l.on k f :=
  (l.recAnswered_regsBut op st).on hk (by simpa using hne) f

end

/-! ### The outcome of a command -/

section
variable (l : Lane)

/-- The outcome hangs on REC_STAT alone. -/
theorem Lane.recStatus_recNote (op : Nat) : (l.recNote op).recStatus op = l.recStatus op := by
  have hstat : (l.recNote op).rd REC_STAT = l.rd REC_STAT := Lane.rd_setF_ne _ _ _ _ _ (by decide)
  simp only [Lane.recStatus, hstat]

theorem Lane.recStatus_freeze : l.recStatus 1 =
    if l.on REC_STAT REC_STAT_FROZEN || l.on REC_STAT REC_STAT_FLUSH || 3072 ≤ l.fld REC_STAT REC_STAT_F then stRefused else stDone := rfl

theorem Lane.recStatus_unfreeze : l.recStatus 2 = if l.on REC_STAT REC_STAT_FROZEN then stDone else stRefused := rfl

theorem Lane.recStatus_clrLoss : l.recStatus 3 = if l.on REC_STAT REC_STAT_LOSS then stDone else stRefused := rfl

variable {l}

theorem Lane.recStatus_freeze_done (hfrozen : l.on REC_STAT REC_STAT_FROZEN = false) (hflush : l.on REC_STAT REC_STAT_FLUSH = false)
    (hfill : l.fld REC_STAT REC_STAT_F < 3072) : l.recStatus 1 = stDone := by
  rw [Lane.recStatus_freeze, if_neg (by simp [hfrozen, hflush, hfill])]

theorem Lane.recStatus_freeze_refused (hbar : l.on REC_STAT REC_STAT_FROZEN = true ∨ l.on REC_STAT REC_STAT_FLUSH = true ∨
    3072 ≤ l.fld REC_STAT REC_STAT_F) : l.recStatus 1 = stRefused := by
  rw [Lane.recStatus_freeze, if_pos (by simpa [or_assoc] using hbar)]

end

/-! ### The row of a command -/

/-- What a command that ends DONE does. -/
def Lane.recEffect (g op : Nat) (l : Lane) : Lane :=
  match op with
  | 1 => l.freezeBegin g
  | 2 => l.freezeEnd g 0
  | _ => l.setB REC_STAT REC_STAT_LOSS false

section
variable (g : Nat) (l : Lane) {op : Nat}

theorem Lane.recCmd_of_done (hst : l.recStatus op = stDone) :
    l.recCmd g op = (l.setF REC_CMDST REC_CMDST_STATUS stDone).recEffect g op := by
  unfold Lane.recCmd
  rw [hst]
  rfl

theorem Lane.recCmd_of_refused (hst : l.recStatus op = stRefused) :
    l.recCmd g op = (l.setF REC_CMDST REC_CMDST_STATUS stRefused).ev evRecRefused := by
  unfold Lane.recCmd
  rw [hst]
  rfl

end

section
variable {s : State} {i : LaneId} {op : Nat}

theorem State.recRow_sharedKept (s : State) (op : Nat) : s.sharedKept (s.recRow op) := s.both_sharedKept _

variable (hcomputes : (s.lane i).computes = true)
include hcomputes

theorem State.recRow_lane : (s.recRow op).lane i = ((s.lane i).recNote op).recCmd s.sh.gt op := by
  rw [State.recRow, State.both_lane, if_pos hcomputes]

/-- FREEZE that ends DONE. -/
theorem State.recRow_freeze (hst : (s.lane i).recStatus 1 = stDone) :
    (s.recRow 1).lane i = ((s.lane i).recAnswered 1 stDone).freezeBegin s.sh.gt := by
  rw [State.recRow_lane hcomputes, Lane.recCmd_of_done _ _ ((Lane.recStatus_recNote _ _).trans hst)]
  rfl

/-- UNFREEZE that ends DONE. -/
theorem State.recRow_unfreeze (hst : (s.lane i).recStatus 2 = stDone) :
    (s.recRow 2).lane i = ((s.lane i).recAnswered 2 stDone).freezeEnd s.sh.gt 0 := by
  rw [State.recRow_lane hcomputes, Lane.recCmd_of_done _ _ ((Lane.recStatus_recNote _ _).trans hst)]
  rfl

/-- CLR_LOSS that ends DONE. -/
theorem State.recRow_clrLoss (hst : (s.lane i).recStatus 3 = stDone) :
    (s.recRow 3).lane i = ((s.lane i).recAnswered 3 stDone).setB REC_STAT REC_STAT_LOSS false := by
  rw [State.recRow_lane hcomputes, Lane.recCmd_of_done _ _ ((Lane.recStatus_recNote _ _).trans hst)]
  rfl

theorem State.recRow_refused (hst : (s.lane i).recStatus op = stRefused) :
    (s.recRow op).lane i = ((s.lane i).recAnswered op stRefused).ev evRecRefused := by
  exact (State.recRow_lane hcomputes).trans (Lane.recCmd_of_refused _ _ ((Lane.recStatus_recNote _ _).trans hst))

theorem State.recRow_refused_effect (hst : (s.lane i).recStatus op = stRefused) :
    (s.lane i).regsBut [REC_CMDST] ((s.recRow op).lane i) ∧ ((s.recRow op).lane i).fld REC_CMDST REC_CMDST_STATUS = 2 ∧
      ((s.recRow op).lane i).raised = (s.lane i).raised ||| evBit evRecRefused := by
  rw [State.recRow_refused hcomputes hst]
  exact ⟨(Lane.recAnswered_regsBut _ _ _).of_regs_eq (Lane.ev_regs ..),
    (Lane.fld_ev ..).trans (Lane.recAnswered_status _ stRefused _ (by decide)), rfl⟩

theorem State.freeze_effect (hst : (s.lane i).recStatus 1 = stDone) :
    (s.lane i).regsBut [REC_STAT, REC_FRZIDX, REC_CMDST] ((s.recRow 1).lane i) ∧
      ((s.recRow 1).lane i).on REC_STAT REC_STAT_FROZEN = true ∧ ((s.recRow 1).lane i).fld REC_CMDST REC_CMDST_STATUS = 0 ∧
      ((s.recRow 1).lane i).fld REC_CMDST REC_CMDST_LAST_OP = 1 ∧
      ((s.recRow 1).lane i).fld REC_FRZIDX REC_FRZIDX_INDEX = (s.lane i).fld REC_HEAD REC_HEAD_INDEX ∧
      ((s.recRow 1).lane i).rcd.frzAt = s.sh.gt ∧
      ∃ f : Formed, ((s.recRow 1).lane i).formed = (s.lane i).formed ++ [f] ∧ f.r.code = 0x0002 := by
  obtain ⟨hregs, hfrozen, hindex, hsince, hformed⟩ := ((s.lane i).recAnswered 1 stDone).freezeBegin_effect s.sh.gt
  rw [State.recRow_freeze hcomputes hst]
  refine ⟨?_, hfrozen, ?_, ?_, ?_, hsince, hformed⟩
  · exact ((Lane.recAnswered_regsBut _ _ _).mono (by simp)).trans (hregs.mono (by simp))
  · rw [hregs.fld (by decide) (by decide), Lane.recAnswered_status _ stDone _ (by decide)]
    rfl
  · rw [hregs.fld (by decide) (by decide), Lane.recAnswered_lastOp _ _ _ (by decide)]
  · rw [hindex, Lane.recAnswered_fld _ _ _ (by decide) (by decide)]

theorem State.unfreeze_effect (hfrozen : (s.lane i).on REC_STAT REC_STAT_FROZEN = true) :
    (s.lane i).regsBut [REC_STAT, REC_CMDST] ((s.recRow 2).lane i) ∧ ((s.recRow 2).lane i).on REC_STAT REC_STAT_FROZEN = false ∧
      ((s.recRow 2).lane i).fld REC_CMDST REC_CMDST_STATUS = 0 ∧
      ∃ f : Formed, ((s.recRow 2).lane i).formed = (s.lane i).formed ++ [f] ∧ f.r.code = 0x0003 ∧ f.r.p1 = 0#32 := by
  have hst : (s.lane i).recStatus 2 = stDone := by rw [Lane.recStatus_unfreeze, if_pos hfrozen]
  have hanswered := (s.lane i).recAnswered_on 2 stDone (k := REC_STAT) (by decide) (by decide) REC_STAT_FROZEN
  have hended := Lane.freezeEnd_regsBut (l := (s.lane i).recAnswered 2 stDone) s.sh.gt 0
  rw [State.recRow_unfreeze hcomputes hst]
  refine ⟨?_, Lane.freezeEnd_thaws _ _, ?_, Lane.freezeEnd_formed _ _ (hanswered.trans hfrozen)⟩
  · exact ((Lane.recAnswered_regsBut _ _ _).mono (by simp)).trans (hended.mono (by simp))
  · rw [hended.fld (by decide) (by decide), Lane.recAnswered_status _ stDone _ (by decide)]
    rfl

theorem State.clrLoss_effect (hloss : (s.lane i).on REC_STAT REC_STAT_LOSS = true) :
    (s.lane i).regsBut [REC_STAT, REC_CMDST] ((s.recRow 3).lane i) ∧ ((s.recRow 3).lane i).on REC_STAT REC_STAT_LOSS = false ∧
      ((s.recRow 3).lane i).fld REC_CMDST REC_CMDST_STATUS = 0 := by
  have hst : (s.lane i).recStatus 3 = stDone := by rw [Lane.recStatus_clrLoss, if_pos hloss]
  rw [State.recRow_clrLoss hcomputes hst]
  refine ⟨((Lane.recAnswered_regsBut _ _ _).mono (by simp)).setB (by decide) (by simp) _ _, Lane.on_setB_same _ _ _ _ (by decide), ?_⟩
  rw [Lane.setB, Lane.fld_setF_ne _ _ _ _ _ _ (by decide), Lane.recAnswered_status _ stDone _ (by decide)]
  rfl

end

/-! ### The end of mirroring (R363) -/

/-- The lane at the end of the copy, with its record. -/
def Lane.mirrorEnded (g : Nat) (l : Lane) : Lane :=
  (l.setB REC_STAT REC_STAT_MIRRORING false).record 0x0005 g (w32 l.rcd.mirN) (w32 l.rcd.mirSeq) 0#32 0#32 3

theorem Lane.mirrorEnded_effect (g : Nat) (l : Lane) : l.regsBut [REC_STAT] (l.mirrorEnded g) ∧
    (l.mirrorEnded g).on REC_STAT REC_STAT_MIRRORING = false ∧
    ∃ f : Formed, (l.mirrorEnded g).formed = l.formed ++ [f] ∧ f.r.code = 0x0005 := by
  unfold Lane.mirrorEnded
  refine ⟨?_, ?_, _, rfl, rfl⟩
  · exact ((Lane.regsBut.refl _ l).setB (by decide) (by simp) _ _).of_regs_eq (Lane.record_regs ..)
  · rw [Lane.on_record, Lane.on_setB_same _ _ _ _ (by decide)]

theorem State.mirrorEnd_of_copied {s : State} (hmir : s.lead.on REC_STAT REC_STAT_MIRRORING = true) (hcopied : s.lead.rcd.missed = []) :
    s.mirrorEnd = s.both (Lane.mirrorEnded s.sh.gt) := by
  rw [State.mirrorEnd, if_pos (by simp [hmir, hcopied])]
  rfl

/-! ### The rows -/

theorem State.working_sharedKept (s : State) (f : Lane → Lane) : s.sharedKept (s.working f) := ⟨rfl, rfl, rfl⟩

/-- Settles O37: each clause is what its row does to a lane that computes or forms records. -/
theorem recorderControlRows : Obligations.RecorderControlRows := by
  refine ⟨fun s i hworking hend hnew => ?window, fun s i hcomputes hmir hcopied => ?mirrored,
    fun s i hcomputes hfrozen hflush hfill => ?freeze, fun s i hcomputes hfrozen => ?unfreeze, fun s i hcomputes hloss => ?clrLoss,
    fun s i hworking hfrozen hdue => ?limit, fun cause energy s i hworking hdue hflush => ?flush, fun c s i hcomputes hbar => ?refused⟩
  case window =>
    refine ⟨_, rfl, s.working_sharedKept _, ?_⟩
    rw [State.working_lane, if_pos hworking]
    exact Lane.shardEnd_effect hend hnew
  case mirrored =>
    refine ⟨_, congrArg Host.Outcome.next (State.mirrorEnd_of_copied hmir hcopied), s.both_sharedKept _, ?_⟩
    rw [State.both_lane, if_pos hcomputes]
    exact Lane.mirrorEnded_effect _ _
  case freeze =>
    exact ⟨_, rfl, s.recRow_sharedKept 1, State.freeze_effect hcomputes (Lane.recStatus_freeze_done hfrozen hflush hfill)⟩
  case unfreeze => exact ⟨_, rfl, s.recRow_sharedKept 2, State.unfreeze_effect hcomputes hfrozen⟩
  case clrLoss => exact ⟨_, rfl, s.recRow_sharedKept 3, State.clrLoss_effect hcomputes hloss⟩
  case limit =>
    refine ⟨_, rfl, s.working_sharedKept _, ?_⟩
    rw [State.working_lane, if_pos hworking, Lane.freezeLimit_of_due _ hfrozen hdue]
    exact ⟨Lane.freezeEnd_regsBut _ _, Lane.freezeEnd_thaws _ _, Lane.freezeEnd_formed _ _ hfrozen⟩
  case flush =>
    refine ⟨_, rfl, s.working_sharedKept _, ?_⟩
    rw [State.working_lane, if_pos hworking]
    exact Lane.flushNow_effect _ hdue hflush
  case refused =>
    obtain ⟨rfl, hbar⟩ | ⟨rfl, hthawed⟩ | ⟨rfl, hnone⟩ := hbar
    · exact ⟨_, rfl, s.recRow_sharedKept 1, State.recRow_refused_effect hcomputes (Lane.recStatus_freeze_refused hbar)⟩
    · have hst : (s.lane i).recStatus 2 = stRefused := by rw [Lane.recStatus_unfreeze, if_neg (by simp [hthawed])]
      exact ⟨_, rfl, s.recRow_sharedKept 2, State.recRow_refused_effect hcomputes hst⟩
    · have hst : (s.lane i).recStatus 3 = stRefused := by rw [Lane.recStatus_clrLoss, if_neg (by simp [hnone])]
      exact ⟨_, rfl, s.recRow_sharedKept 3, State.recRow_refused_effect hcomputes hst⟩

end Sys2Proof.Machine
end

section
/-! What every command leaves alone: test logic and global time (R28, R505, R661, R662), and the contents of the memory banks with
their canonical form (R559, R562, R567). -/

namespace Sys2Proof.Machine

/-- The answer is a next state of which `P` holds. -/
def answers (P : State → Prop) (r : Res) : Prop := ∃ t, r = .next t ∧ P t

section
variable {P : State → Prop} {t u : State}

theorem answers_next (h : P t := by simp) : answers P (.next t) := ⟨t, rfl, h⟩

theorem answers_ite {c : Prop} [Decidable c] (ht : answers P (.next t)) (hu : answers P (.next u)) :
    answers P (.next (if c then t else u)) := by
  split
  · exact ht
  · exact hu

theorem answers.of_next {r : Res} (h : answers P r) (hr : r = .next t) : P t := by
  obtain ⟨u, hu, hP⟩ := h
  rw [hu] at hr
  cases hr
  exact hP

end

/-! ### Test logic and global time -/

/-- The test logic and the global time of `t` are those of `s`. -/
@[simp] def State.timeKept (s t : State) : Prop := t.sh.tap = s.sh.tap ∧ t.sh.gt = s.sh.gt

/-- A command that moves the test logic or global time. -/
def movesTime : Instr → Prop
  | .tckEdge .. | .testLogicReset | .epochBoundary .. | .resetRelease => True
  | _ => False

theorem exec_timeKept {c : Instr} (hc : ¬ movesTime c) (s : State) : answers s.timeKept (exec c s) := by
  cases c
  case tckEdge | testLogicReset | epochBoundary | resetRelease => exact absurd trivial hc
  -- Rows that act only where they are due (log 3).
  case staleWindowEnd | shuntReclose | callRefresh | cntClr | complSet | thermalSwitchOff | thermalRecovery | readbackCheck |
      outputCurrentLimit | recRdidxWrite | ntcWord | crazingMeasurement | busOffRecovery | rateDetectStep | txStart |
      referenceSend | domainFault | vsysLostSet | vsysLostClear | supplyWarningChange | onHoldChange | vholdExhausted |
      powerLossTrip | flushComplete | clkrefGood | memWselWrite | evtPendClear | injDig | registerWrite | cfgWrw3Read =>
    exact answers_ite answers_next answers_next
  case ringToken | thresholdCrossing => exact answers_ite answers_next (answers_ite answers_next answers_next)
  -- Rows that take their case from an operand, or from what waits in the ring.
  case handshakeStall =>
    dsimp only [exec, execHandshakeStall]
    split <;> exact answers_next
  case frameReturnTimeout | ringDisTimeout =>
    dsimp only [exec, execFrameReturnTimeout, execRingDisTimeout]
    split
    · exact answers_ite answers_next answers_next
    · exact answers_next
  case stnCmd => exact answers_next (State.ringIn_keep _ _ _ _ (fun s => by split <;> simp) _).2.2
  -- Every other row is one operation, whose law stands in Laws/Keep.
  all_goals exact answers_next

theorem exec_tapKept {c : Instr} (hedge : ∀ r tms tdi cells, c ≠ .tckEdge r tms tdi cells) (hreset : c ≠ .testLogicReset)
    (s : State) : answers (fun t => t.sh.tap = s.sh.tap) (exec c s) := by
  by_cases hc : movesTime c
  · cases c
    case tckEdge r tms tdi cells => exact absurd rfl (hedge r tms tdi cells)
    case testLogicReset => exact absurd rfl hreset
    case epochBoundary | resetRelease => exact answers_next
    all_goals exact hc.elim
  · obtain ⟨t, ht, htap, -⟩ := exec_timeKept hc s
    exact ⟨t, ht, htap⟩

/-- Settles O3: the four rows that `movesTime` names move either the test logic or global time, and no other row either. -/
theorem testLogicAndTimeMoveOnlyByTheirCommands : Obligations.TestLogicAndTimeMoveOnlyByTheirCommands := by
  refine ⟨fun c s t hexec hedge hreset => ?tap, fun c s t hexec hboundary hrelease => ?gt⟩
  case tap => exact (exec_tapKept hedge hreset s).of_next hexec
  case gt =>
    by_cases hc : movesTime c
    · have hgt : answers (fun t => t.sh.gt = s.sh.gt) (exec c s) := by
        cases c
        case tckEdge | testLogicReset => exact answers_next rfl
        case epochBoundary o => exact absurd rfl (hboundary o)
        case resetRelease => exact absurd rfl hrelease
        all_goals exact hc.elim
      exact hgt.of_next hexec
    · exact ((exec_timeKept hc s).of_next hexec).2

/-! ### The instruction register (R662, R663) -/

theorem irSelect_legal (rstn : Bool) (c : BitVec 5) :
    [irExtest, irSample, irIdcode, irHighz, irClamp, irBypass].contains (irSelect rstn c) = true := by
  unfold irSelect
  split
  case isTrue h => obtain rfl | rfl := h <;> rfl
  case isFalse =>
    split
    case isTrue h =>
      obtain ⟨-, rfl | rfl | rfl⟩ : rstn = true ∧ (c = irExtest ∨ c = irHighz ∨ c = irClamp) := by simpa using h
      all_goals rfl
    case isFalse => rfl

theorem Tap.rise_instr (grade : Nat) (tms tdi : Bool) (cells : BitVec 40) (x : Tap) : (x.rise grade tms tdi cells).instr = x.instr := by
  unfold Tap.rise
  cases x.st <;> rfl

theorem Tap.fall_legal (rstn : Bool) {x : Tap} (hx : x.legal = true) : (x.fall rstn).legal = true := by
  unfold Tap.fall
  split
  case h_1 => rfl
  case h_2 => exact irSelect_legal _ _
  case h_3 => split <;> exact hx
  case h_4 => exact hx

theorem exec_tckEdge_legal (rise tms tdi : Bool) (cells : BitVec 40) {s : State} (hs : s.sh.tap.legal = true) :
    answers (fun t => t.sh.tap.legal = true) (exec (.tckEdge rise tms tdi cells) s) := by
  refine answers_next ?_
  dsimp only [State.updSh]
  split
  · exact hs
  · split
    · rw [Tap.legal, Tap.rise_instr]
      exact hs
    · exact Tap.fall_legal _ hs

theorem exec_tapLegal (c : Instr) {s : State} (hs : s.sh.tap.legal = true) :
    answers (fun t => t.sh.tap.legal = true) (exec c s) := by
  by_cases hedge : ∀ r tms tdi cells, c ≠ .tckEdge r tms tdi cells
  · by_cases hreset : c = .testLogicReset
    · subst hreset
      exact answers_next rfl
    · obtain ⟨t, ht, htap⟩ := exec_tapKept hedge hreset s
      exact ⟨t, ht, (congrArg (fun x : Tap => x.legal) htap).trans hs⟩
  · push Not at hedge
    obtain ⟨r, tms, tdi, cells, rfl⟩ := hedge
    exact exec_tckEdge_legal r tms tdi cells hs

/-- Settles O4: an edge of TCK selects legal instructions alone, the reset of the test logic selects IDCODE, and no other row moves
the instruction. -/
theorem testInstructionStaysLegal : Obligations.TestInstructionStaysLegal := by
  intro s t hstep hs
  match hpending : s.pending with
  | [] =>
    rw [step_of_nil hpending] at hstep
    cases hstep
    exact hs
  | c :: cs =>
    rw [step_of_cons hpending] at hstep
    exact (exec_tapLegal (s := { s with pending := cs }) c hs).of_next hstep

/-! ### The memory banks (R559, R562) -/

/-- The bank memories of `t` are those of `s`. -/
@[simp] def State.memsKept (s t : State) : Prop := t.a.mem = s.a.mem ∧ t.b.mem = s.b.mem

theorem State.packet_memsKept (i : LaneId) (ty : Nat) (err : Fin 3) {f : State → State} (hf : ∀ s : State, s.memsKept (f s)) (s : State) :
    s.memsKept (s.packet i ty err f) := by
  unfold State.packet
  split
  · exact ⟨rfl, rfl⟩
  · split
    · simp
    · split
      · simp
      · have hgood : s.memsKept (s.upd i (Lane.packetGood ty)) := by simp
        exact ⟨(hf _).1.trans hgood.1, (hf _).2.trans hgood.2⟩

theorem State.sysRow_memsKept {op : Nat} (hop : op ≠ 3) (s : State) (ln : Nat) : s.memsKept (s.sysRow op ln) := by
  rw [State.sysRow_of_status rfl]
  split
  · unfold State.sysEffect
    split
    case h_3 => exact absurd rfl hop
    all_goals simp
  · simp

theorem exec_memsKept {c : Instr} (hc : ¬ mayWriteBanks c) (s : State) : answers s.memsKept (exec c s) := by
  cases c
  case bitSetWrite | bitClearWrite | hostReadFrame | hostWriteFrame | registerWrite | registerRequest | imageTransferFrame |
      frameReport | epochBoundary | rejoin | firingComplete | firingResultCompare | domainSwitchOn | domainFault | domainRetry |
      adjudicationOutcome | powerOnReset | resetNAsserted | restartDrainDone | flushComplete | vholdExhausted | vsysLostSet |
      powerLossTrip => exact absurd trivial hc
  -- Rows that act only where they are due (log 3).
  case staleWindowEnd | shuntReclose | callRefresh | cntClr | complSet | thermalSwitchOff | thermalRecovery | readbackCheck |
      outputCurrentLimit | recRdidxWrite | ntcWord | crazingMeasurement | busOffRecovery | rateDetectStep | txStart |
      referenceSend | vsysLostClear | supplyWarningChange | onHoldChange |
      clkrefGood | memWselWrite | evtPendClear | injDig | cfgWrw3Read =>
    exact answers_ite answers_next answers_next
  case ringToken | thresholdCrossing => exact answers_ite answers_next (answers_ite answers_next answers_next)
  -- Rows that take their case from an operand, or from what waits in the ring.
  case handshakeStall =>
    dsimp only [exec, execHandshakeStall]
    split <;> exact answers_next
  case frameReturnTimeout | ringDisTimeout =>
    dsimp only [exec, execFrameReturnTimeout, execRingDisTimeout]
    split
    · exact answers_ite answers_next answers_next
    · exact answers_next
  case stnCmd => exact answers_next (State.ringIn_mems _ _ _ _ (fun s => by split <;> simp) _)
  case digestPacket | verdictCopyPacket | writePacket | wordPacket | confirmPacket | mirrorPacket | statePacket =>
    exact answers_next (State.packet_memsKept _ _ _ (fun s => by simp) _)
  case swapLanes | retireLane | clrUnres => exact answers_next (State.sysRow_memsKept (by decide) _ _)
  -- Every other row is one operation, whose law stands in Laws/Banks.
  all_goals exact answers_next

/-- Settles O6: outside the commands of `mayWriteBanks` the memories themselves stand. -/
theorem bankBytesMoveOnlyByTheirCommands : Obligations.BankBytesMoveOnlyByTheirCommands := by
  intro c s t hexec hc i x
  obtain ⟨ha, hb⟩ := (exec_memsKept hc s).of_next hexec
  cases i
  · exact congrArg (memByte · x) ha
  · exact congrArg (memByte · x) hb

/-- The memories of both lanes are in canonical form. -/
@[simp] def State.memsWf (s : State) : Prop := Memory.wf s.a.mem = true ∧ Memory.wf s.b.mem = true

theorem State.memCanonical_iff (s : State) : s.memCanonical = true ↔ s.memsWf := by
  simp [State.memCanonical]

theorem exec_memsWf_of_mayWrite {c : Instr} (hc : mayWriteBanks c) {s : State}
    (hs : Memory.wf s.a.mem = true ∧ Memory.wf s.b.mem = true) : answers State.memsWf (exec c s) := by
  cases c
  case registerWrite | domainFault | vholdExhausted | powerLossTrip | flushComplete | vsysLostSet =>
    exact answers_ite (answers_next (by simp [hs])) (answers_next (by simp [hs]))
  case bitSetWrite | bitClearWrite =>
    exact answers_next (State.both_wf _ _ (fun l hl => Lane.bankWrite_wf _ _ _ _ l hl) hs)
  case firingComplete => exact answers_next (State.firingComplete_wf _ _ hs)
  case hostReadFrame | hostWriteFrame | registerRequest | imageTransferFrame |
      frameReport | epochBoundary | rejoin | firingResultCompare | domainSwitchOn | domainRetry |
      adjudicationOutcome | powerOnReset | resetNAsserted | restartDrainDone => exact answers_next (by simp [hs])
  all_goals exact hc.elim

theorem exec_memsWf (c : Instr) {s : State} (hs : s.memsWf) : answers State.memsWf (exec c s) := by
  by_cases hc : mayWriteBanks c
  · exact exec_memsWf_of_mayWrite hc hs
  · obtain ⟨t, ht, ha, hb⟩ := exec_memsKept hc s
    exact ⟨t, ht, by rw [State.memsWf, ha, hb]; exact hs⟩

/-- Settles O5: a command that may write banks keeps the canonical form by the law of its operation, every other one keeps the
memories. -/
theorem banksStayCanonical : Obligations.BanksStayCanonical := by
  intro s t hstep hs
  rw [State.memCanonical_iff] at hs ⊢
  match hpending : s.pending with
  | [] =>
    rw [step_of_nil hpending] at hstep
    cases hstep
    exact hs
  | c :: cs =>
    rw [step_of_cons hpending] at hstep
    exact (exec_memsWf (s := { s with pending := cs }) c hs).of_next hstep

end Sys2Proof.Machine
end

section
/-! The CRC-8 of the host port as the register of a serial code (R537). -/

namespace Sys2Proof.Machine

/-- One bit of a serial code: the register shifts left and takes the polynomial where the bit shifted out differs from the data bit. -/
def crcSerial {w : Nat} (poly c : BitVec w) (x : Bool) : BitVec w :=
  if c.getMsbD 0 != x then (c <<< 1) ^^^ poly else c <<< 1

section
variable {w : Nat} (poly c d : BitVec w)

/-- A register that holds data to come, XORed in advance, takes its first bit and keeps the others. -/
theorem crcShiftMsb_xor : crcShiftMsb poly (c ^^^ d) = crcSerial poly c (d.getMsbD 0) ^^^ (d <<< 1) := by
  unfold crcShiftMsb crcSerial
  rw [BitVec.getMsbD_xor, BitVec.shiftLeft_xor_distrib]
  split
  · ac_rfl
  · rfl

theorem iter_crcShiftMsb_xor (n : Nat) : ∀ c d : BitVec w,
    iter (crcShiftMsb poly) n (c ^^^ d) = ((upTo n).map (fun k => d.getMsbD k)).foldl (crcSerial poly) c ^^^ (d <<< n) := by
  induction n with
  | zero => simp [iter, upTo]
  | succ n ih =>
    intro c d
    have hbits : (upTo (n + 1)).map (fun k => d.getMsbD k) = d.getMsbD 0 :: (upTo n).map (fun k => (d <<< 1).getMsbD k) := by
      simp [upTo, List.range_succ_eq_map, Function.comp_def, BitVec.getMsbD_shiftLeft]
    rw [hbits, iter, crcShiftMsb_xor, ih, List.foldl_cons, ← BitVec.shiftLeft_add, Nat.add_comm 1 n]

end

/-- Settles O53: a byte XORed into the register and shifted eight times is the serial code over its bits. -/
theorem hostPortCodeIsBitwise : Obligations.HostPortCodeIsBitwise := by
  intro bs
  show bs.foldl _ _ = List.foldl (crcSerial 0x2F#8) _ _
  rw [List.foldl_flatMap]
  congr 1
  funext c b
  have hbyte := iter_crcShiftMsb_xor 0x2F#8 8 c b
  rw [BitVec.shiftLeft_eq_zero (Nat.le_refl 8), BitVec.xor_zero] at hbyte
  rw [BitVec.setWidth_eq, Nat.sub_self, BitVec.shiftLeft_zero]
  exact hbyte

end Sys2Proof.Machine
end

section
/-! The edges of TCK and the five clocks that reset the controller (R661–R663). -/

namespace Sys2Proof.Machine

section
variable (grade : Nat) (rstn tms tdi : Bool) (cells : BitVec 40) (x : Tap)

theorem Tap.rise_st : (x.rise grade tms tdi cells).st = x.st.next tms := by
  unfold Tap.rise
  cases h : x.st <;> simp only [h]

theorem Tap.rise_tdo : (x.rise grade tms tdi cells).tdo = x.tdo := by
  unfold Tap.rise
  cases x.st <;> rfl

theorem Tap.rise_dr_of_shDr (h : x.st = .shDr) : (x.rise grade tms tdi cells).dr = x.dr.drop 1 ++ [tdi] := by
  unfold Tap.rise
  rw [h]

theorem Tap.rise_dr_of_capDr (h : x.st = .capDr) : (x.rise grade tms tdi cells).dr = x.capture grade cells := by
  unfold Tap.rise
  rw [h]

theorem Tap.capture_of_idcode (h : x.instr = irIdcode) : x.capture grade cells = bitsOf (idcode grade) := by
  unfold Tap.capture
  rw [h]
  rfl

theorem Tap.fall_st : (x.fall rstn).st = x.st := by
  cases x with | mk st instr =>
  cases st
  case upDr => by_cases h : instr = irExtest ∨ instr = irSample <;> simp only [Tap.fall, h, if_true, if_false]
  all_goals rfl

theorem Tap.fall_tdo : (x.fall rstn).tdo = match x.st with
    | .shIr => some (x.ir.getLsbD 0)
    | .shDr => some (x.dr.headD false)
    | _ => none := by
  cases x with | mk st instr =>
  cases st
  case upDr => by_cases h : instr = irExtest ∨ instr = irSample <;> simp only [Tap.fall, h, if_true, if_false]
  all_goals rfl

theorem Tap.fall_instr_of_upIr (h : x.st = .upIr) : (x.fall rstn).instr = irSelect rstn x.ir := by
  unfold Tap.fall
  rw [h]

theorem Tap.fall_of_reset (h : x.st = .reset) :
    (x.fall rstn).st = .reset ∧ (x.fall rstn).instr = irIdcode ∧ (x.fall rstn).tdo = none := by
  refine ⟨(Tap.fall_st rstn x).trans h, ?_, (Tap.fall_tdo rstn x).trans (by rw [h])⟩
  unfold Tap.fall
  rw [h]

end

/-! ### Clocks with TMS high -/

/-- A clock with TMS high: a rising and a falling edge, under the level of TDI and those of the cells. -/
def Tap.clockHigh (grade : Nat) (rstn : Bool) (x : Tap) (p : Bool × BitVec 40) : Tap := (x.rise grade true p.1 p.2).fall rstn

/-- The controller is reset, with IDCODE selected and TDO off. -/
def Tap.isReset (x : Tap) : Prop := x.st = .reset ∧ x.instr = irIdcode ∧ x.tdo = none

/-- How many clocks with TMS high lead from a state to Test-Logic-Reset. -/
def TapSt.toReset : TapSt → Nat
  | .reset => 0
  | .selIr => 1
  | .selDr => 2
  | .idle | .upDr | .upIr => 3
  | .ex1Dr | .ex2Dr | .ex1Ir | .ex2Ir => 4
  | .capDr | .shDr | .pauDr | .capIr | .shIr | .pauIr => 5

theorem TapSt.toReset_le (st : TapSt) : st.toReset ≤ 5 := by
  cases st <;> decide

theorem TapSt.toReset_next (st : TapSt) : (st.next true).toReset = st.toReset - 1 := by
  cases st <;> rfl

theorem TapSt.eq_reset_of_toReset {st : TapSt} (h : st.toReset = 0) : st = .reset := by
  cases st <;> simp_all [TapSt.toReset]

section
variable {grade : Nat} {rstn : Bool} {x : Tap} {p : Bool × BitVec 40}

theorem Tap.clockHigh_st : (x.clockHigh grade rstn p).st = x.st.next true := by
  rw [Tap.clockHigh, Tap.fall_st, Tap.rise_st]

theorem Tap.clockHigh_isReset (h : x.st.toReset ≤ 1) : (x.clockHigh grade rstn p).isReset := by
  have hnext : (x.st.next true).toReset = 0 := by
    rw [TapSt.toReset_next]
    omega
  exact Tap.fall_of_reset rstn _ ((Tap.rise_st ..).trans (TapSt.eq_reset_of_toReset hnext))

end

/-- As many clocks with TMS high as the state is away from it end in reset; the last one latches IDCODE. -/
theorem Tap.foldl_clockHigh_isReset (grade : Nat) (rstn : Bool) (pulses : List (Bool × BitVec 40)) : ∀ x : Tap,
    max 1 x.st.toReset ≤ pulses.length → (pulses.foldl (Tap.clockHigh grade rstn) x).isReset := by
  induction pulses with
  | nil => exact fun x h => absurd h (by simp)
  | cons p ps ih =>
    intro x h
    rw [List.foldl_cons]
    cases ps with
    | nil =>
      rw [List.length_singleton] at h
      exact Tap.clockHigh_isReset (by omega)
    | cons q qs =>
      apply ih
      rw [Tap.clockHigh_st, TapSt.toReset_next]
      simp only [List.length_cons] at h ⊢
      omega

/-- Settles O60: the edges case by case; five clocks with TMS high suffice from every state, as `TapSt.toReset` is at most five. -/
theorem testPortRows : Obligations.TestPortRows := by
  refine ⟨fun s => ⟨_, rfl, ⟨rfl, rfl, rfl, rfl⟩, rfl⟩, fun tms tdi cells s htck => ?rise, fun tms tdi cells s htck => ?fall,
    fun r tms tdi cells s htck => ?level, fun grade rstn x pulses hlen => ?five⟩
  case rise =>
    refine ⟨s.updSh (fun h => { h with tap := s.sh.tap.rise s.sh.grade tms tdi cells }), ?_, ⟨rfl, rfl, rfl, rfl⟩, rfl,
      Tap.rise_st .., rfl, Tap.rise_instr .., Tap.rise_tdo .., Tap.rise_dr_of_shDr _ _ _ _ _, fun hst hinstr => ?_⟩
    · simp [exec, execTckEdge, htck]
    · exact (Tap.rise_dr_of_capDr _ _ _ _ _ hst).trans (Tap.capture_of_idcode _ _ _ hinstr)
  case fall =>
    refine ⟨s.updSh (fun h => { h with tap := s.sh.tap.fall s.sh.start.rstn }), ?_, ⟨rfl, rfl, rfl, rfl⟩, rfl,
      Tap.fall_st .., rfl, fun hst => ?_, fun hdr hir => ?_, Tap.fall_instr_of_upIr _ _⟩
    · simp [exec, execTckEdge, htck]
    · refine (Tap.fall_tdo _ _).trans ?_
      simp only [hst]
    · refine (Tap.fall_tdo _ _).trans ?_
      split
      case h_1 h => exact absurd h hir
      case h_2 h => exact absurd h hdr
      case h_3 => rfl
  case level => simp [exec, execTckEdge, htck, State.updSh]
  case five => exact Tap.foldl_clockHigh_isReset grade rstn pulses x (by have := x.st.toReset_le; omega)

end Sys2Proof.Machine
end

section
/-! PRESENT (R469, R470): the frame that host software has drawn, copied whole. -/

namespace Sys2Proof.Machine

theorem Trie.at_foldl_upd {α : Type} [DecidableEq α] (d : α) (f : Nat → α) (ks : List Nat) {k : Nat} (hk : k < 4096) :
    (∀ j ∈ ks, j < 4096) → ∀ t : Trie α,
      (ks.foldl (fun t j => t.upd d j (f j)) t).at d k = if k ∈ ks then f k else t.at d k := by
  induction ks with
  | nil => exact fun _ _ => rfl
  | cons j ks ih =>
    intro hks t
    have hj : j < 4096 := hks j List.mem_cons_self
    rw [List.foldl_cons, ih fun i hi => hks i (List.mem_cons_of_mem j hi)]
    by_cases hmem : k ∈ ks
    · simp [hmem]
    · by_cases hkj : k = j
      · simp [hkj]
      · simp [hmem, hkj, Trie.at_upd_ne _ _ _ _ _ (show k % 4096 ≠ j % 4096 by omega)]

theorem Lane.pnlPresent_regs (l : Lane) : l.pnlPresent.regs = l.regs := Lane.setPnl_regs ..

theorem Lane.pnlPresent_shown (l : Lane) {w : Nat} (hw : w < 2048) : l.pnlPresent.pnl.shown.at 0#32 w = l.rd (PNL_HF w) := by
  have hrange : ∀ j ∈ upTo 2048, j < 4096 := fun j hj => Nat.lt_trans (List.mem_range.mp hj) (by decide)
  dsimp only [Lane.pnlPresent, Lane.setPnl]
  rw [Trie.at_foldl_upd 0#32 (fun w => l.rd (PNL_HF w)) (upTo 2048) (by omega) hrange .nil,
    if_pos (show w ∈ upTo 2048 from List.mem_range.mpr hw)]

theorem Lane.pnlCmd_present (g : Nat) (l : Lane) : (l.pnlNote 4).pnlCmd g 4 0 = (l.pnlAnswered 4 0).pnlPresent := by
  have hst : l.pnlStatus 4 0 = 0 := rfl
  simp [Lane.pnlCmd, Lane.pnlAnswered, hst, stDone]

theorem PNL_HF_ne_CMDST {w : Nat} (hw : w < 2048) : PNL_HF w % 2 ^ 20 ≠ PNL_CMDST % 2 ^ 20 := by
  unfold PNL_HF PNL_CMDST
  omega

/-- Settles O47: the command is answered and no word of the draw frame is PNL_CMDST. -/
theorem presentCopiesTheDrawFrame : Obligations.PresentCopiesTheDrawFrame := by
  intro s i hgrade hcomp
  have hlane : (s.pnlRow 4 0).lane i = ((s.lane i).pnlAnswered 4 0).pnlPresent :=
    (State.pnlRow_lane 0 hgrade hcomp).trans (Lane.pnlCmd_present ..)
  refine ⟨s.pnlRow 4 0, rfl, s.pnlRow_sharedKept _ _, ?_, ?_, ?_, fun w hw => ?_⟩
  · rw [hlane]
    exact (Lane.pnlAnswered_regsBut 4 0 _ (by simp)).of_regs_eq (Lane.pnlPresent_regs _)
  · rw [hlane, Lane.fld_of_regs_eq (Lane.pnlPresent_regs _), Lane.pnlAnswered_status _ _ _ (by decide)]
  · rw [hlane, Lane.fld_of_regs_eq (Lane.pnlPresent_regs _), Lane.pnlAnswered_lastOp _ _ _ (by decide)]
  · rw [hlane, Lane.pnlPresent_shown _ hw, Lane.pnlAnswered, Lane.pnlNote, Lane.rd_setF_ne _ _ _ _ _ (PNL_HF_ne_CMDST hw),
      Lane.rd_setF_ne _ _ _ _ _ (PNL_HF_ne_CMDST hw)]

end Sys2Proof.Machine
end

section
/-! The byte count of a DLC and the bytes of a buffer (R382, R383). -/

namespace Sys2Proof.Machine

theorem dlcBytes_le (fdf : Bool) (n : Nat) : dlcBytes fdf n ≤ 64 := by
  unfold dlcBytes
  split
  · omega
  · split
    · decide
    · have htable : ∀ x ∈ [12, 16, 20, 24, 32, 48, 64], x ≤ 64 := by decide
      rw [List.getD_eq_getElem?_getD]
      cases h : [12, 16, 20, 24, 32, 48, 64][n - 9]? with
      | none => exact Nat.le_refl 64
      | some x => exact htable x (List.mem_of_getElem? h)

/-! ### Bytes of a word -/

theorem BitVec_extractByte_toNat {w : Nat} (v : BitVec w) (j : Nat) : (v.extractLsb' (8 * j) 8).toNat = v.toNat / 256 ^ j % 256 := by
  rw [BitVec.extractLsb'_toNat, Nat.shiftRight_eq_div_pow, Nat.pow_mul]

theorem leNat_byte (bs : List Byte) : ∀ j : Nat, leNat bs / 256 ^ j % 256 = (bs.getD j 0#8).toNat := by
  induction bs with
  | nil => intro j; simp [leNat]
  | cons b bs ih =>
    intro j
    have hb := b.isLt
    cases j with
    | zero => simp [leNat]; omega
    | succ j =>
      rw [List.getD_cons_succ, ← ih j, leNat, Nat.pow_succ', ← Nat.div_div_eq_div_mul]
      congr 2
      omega

theorem w32_leNat_byte (bs : List Byte) {j : Nat} (hj : j < 4) : (w32 (leNat bs)).extractLsb' (8 * j) 8 = bs.getD j 0#8 := by
  apply BitVec.eq_of_toNat_eq
  rw [BitVec_extractByte_toNat, w32, BitVec.toNat_ofNat, ← leNat_byte]
  obtain rfl | rfl | rfl | rfl : j = 0 ∨ j = 1 ∨ j = 2 ∨ j = 3 := by omega
  all_goals omega

theorem frameBytes_getD (f : CanFrame) (j k : Nat) :
    (frameBytes f ++ List.replicate k 0#8).getD j 0#8 = if j < dlcBytes f.fdf f.dlc.toNat then f.data.getD j 0#8 else 0#8 := by
  have hn := dlcBytes_le f.fdf f.dlc.toNat
  unfold frameBytes
  simp only [List.getD_eq_getElem?_getD, List.getElem?_append, List.getElem?_take, List.length_take, List.length_append,
    List.length_replicate, List.getElem?_replicate]
  grind

/-- A mask of the low bytes keeps those bytes and clears the others. -/
theorem and_lowBytes_byte (v : Word) (m : Nat) {j : Nat} (hj : j < 4) :
    (v &&& w32 (2 ^ (8 * m) - 1)).extractLsb' (8 * j) 8 = if j < m then v.extractLsb' (8 * j) 8 else 0#8 := by
  apply BitVec.eq_of_getLsbD_eq
  intro k hk
  have hbit : (w32 (2 ^ (8 * m) - 1)).getLsbD (8 * j + k) = decide (j < m) := by
    rw [w32, BitVec.getLsbD_ofNat, Nat.testBit_two_pow_sub_one]
    simp only [show 8 * j + k < 32 by omega, decide_true, Bool.true_and, show 8 * j + k < 8 * m ↔ j < m by omega]
  rw [BitVec.getLsbD_extractLsb', BitVec.getLsbD_and, hbit]
  by_cases hjm : j < m <;> simp [hjm, BitVec.getLsbD_extractLsb']

theorem frameWords_data (f : CanFrame) {i : Nat} (hi : i < 16) :
    (frameWords f).getD (2 + i) 0#32 = w32 (leNat (((frameBytes f ++ List.replicate 64 0#8).drop (4 * i)).take 4)) := by
  rw [Nat.add_comm 2 i]
  simp [frameWords, upTo, hi]

theorem getD_take_drop {bs : List Byte} {i j : Nat} (hj : j < 4) : ((bs.drop (4 * i)).take 4).getD j 0#8 = bs.getD (4 * i + j) 0#8 := by
  simp [List.getD_eq_getElem?_getD, hj]

/-- Settles O43: the table of DLCs by evaluation; the bytes of a word by its value in base 256 and by the mask that the host's view
applies. -/
theorem dlcGivesTheByteCount : Obligations.DlcGivesTheByteCount := by
  refine ⟨fun fdf n hn => if_pos hn, rfl, fun n hn _ => ?classic, fun n => ?last, fun f j hj => ?held, fun l b m i j dlc v hi hj hown => ?shown⟩
  case classic => exact (if_neg (by omega)).trans (if_pos rfl)
  case last =>
    unfold lastWord
    split
    · omega
    · split <;> omega
  case held =>
    have hsplit : 4 * (j / 4) + j % 4 = j := Nat.div_add_mod j 4
    rw [frameWords_data f (by omega), w32_leNat_byte _ (by omega), getD_take_drop (by omega), hsplit, frameBytes_getD]
  case shown =>
    have hread : (decide (i < 2) || !l.hostOwned b m) = false := by
      rw [hown, decide_eq_false (by omega)]
      rfl
    unfold Lane.canShows
    rw [hread, if_neg (by decide), and_lowBytes_byte _ _ hj]
    simp only [show ∀ n, (j < min 4 (n - 4 * (i - 2)) ↔ 4 * (i - 2) + j < n) from fun n => by omega]

end Sys2Proof.Machine
end

section
/-! Mastership, loss of synchronism, remote slots and the read of the time (R409, R412, R416, R429). -/

namespace Sys2Proof.Machine

/-! ### The current master of a bus (R412) -/

theorem fldMaster_bit (b : Nat) : (fldMaster b).lo + (fldMaster b).width ≤ 32 ∧ (fldMaster b).width = 1 := by
  unfold fldMaster
  split <;> decide

theorem fldCurm_width (b : Nat) : (fldCurm b).lo + (fldCurm b).width ≤ 32 ∧ (fldCurm b).width = 7 := by
  unfold fldCurm
  split <;> decide

theorem fldMaster_apart_fldCurm (b : Nat) : fldsApart (fldMaster b) (fldCurm b) := by
  unfold fldMaster fldCurm
  split <;> decide

theorem Lane.timeRec_regs (l : Lane) (code g bus : Nat) (p1 p2 p3 : Word) : (l.timeRec code g bus p1 p2 p3).regs = l.regs := by
  rw [Lane.timeRec, Lane.ev_regs, Lane.record_regs]

section
variable (l : Lane) (g b node prio : Nat) (own : Bool)

theorem Lane.setMaster_regs : (l.setMaster g b node prio own).regs =
    ((l.setB TIME_ST (fldMaster b) own).setF TIME_ST (fldCurm b) node).regs := by
  unfold Lane.setMaster
  dsimp only
  split
  · rfl
  · exact Lane.timeRec_regs ..

theorem Lane.setMaster_effect : l.regsBut [TIME_ST] (l.setMaster g b node prio own) ∧
    (l.setMaster g b node prio own).on TIME_ST (fldMaster b) = own ∧
    (l.setMaster g b node prio own).fld TIME_ST (fldCurm b) = node % 128 := by
  have hregs := l.setMaster_regs g b node prio own
  obtain ⟨hcurm, hwidth⟩ := fldCurm_width b
  refine ⟨?_, ?_, ?_⟩
  · exact (((Lane.regsBut.refl _ l).setB (by decide) (by simp) _ _).setF (by decide) (by simp) _ _).of_regs_eq hregs
  · rw [Lane.on_of_regs_eq hregs, Lane.on_of_rd (Lane.rd_setF_same ..), Fld.on_put_apart (fldMaster_apart_fldCurm b),
      Lane.setB, Lane.rd_setF_same, Fld.on_put_same _ _ _ (fldMaster_bit b)]
  · rw [Lane.fld_of_regs_eq hregs, Lane.fld_setF_same _ _ _ _ hcurm, hwidth]
    rfl

end

theorem Lane.nodeAddr_lt (l : Lane) : l.nodeAddr < 128 := l.fld_lt TIME_ST TIME_ST_NADDR

theorem Lane.takeover_of_missed (g : Nat) {l : Lane} {b : Nat} (hen : l.ttEn b = true) (hpot : l.on TIME_CFG TIME_CFG_MPOT = true)
    (hslave : l.on TIME_ST (fldMaster b) = false) (hmiss : l.fld TIME_CFG TIME_CFG_MPRIO + 3 ≤ l.fld TIME_MISS (fldMiss b)) :
    l.takeover g b = l.setMaster g b l.nodeAddr (l.fld TIME_CFG TIME_CFG_MPRIO) true := by
  have hpot' : TIME_CFG_MPOT.on (l.rd TIME_CFG) = true := hpot
  have hmiss' : TIME_CFG_MPRIO.get (l.rd TIME_CFG) + 3 ≤ l.fld TIME_MISS (fldMiss b) := hmiss
  unfold Lane.takeover
  rw [if_pos (by simp [hen, hpot', hslave, hmiss'])]
  rfl

/-! ### Loss of synchronism (R416) -/

theorem Lane.syncLoss_of_due (g : Nat) {l : Lane} (hdue : 8 ≤ l.time.noSrc) (hsync : l.on TIME_ST TIME_ST_SYNC = true) :
    l.syncLoss g = (l.setB TIME_ST TIME_ST_SYNC false).timeRec 0x0A01 g 0 0#32 (sat32 l.time.ePrev)
      (w32 (l.fld TIME_ST TIME_ST_SRC)) := by
  rw [Lane.syncLoss, if_pos hdue, Lane.setSync, hsync, if_neg (by decide)]
  rfl

/-! ### Remote value slots (R429) -/

theorem CNP_RXVLD_ne_RXONE (n : Nat) : CNP_RXVLD n % 2 ^ 20 ≠ CNP_RXONE n % 2 ^ 20 := by
  unfold CNP_RXVLD CNP_RXONE
  omega

theorem Lane.slotCheck_effect (g : Nat) {l : Lane} {k e : Nat} (hk : k < 256) (heof : (l.slotW k).eof = some e)
    (hen : l.on (CNP_RXCFG k) CNP_RXCFG_EN = true) :
    l.regsBut [CNP_RXVLD (k / 32), CNP_RXONE (k / 32)] (l.slotCheck g k) ∧
      bitOf ((l.slotCheck g k).rd (CNP_RXVLD (k / 32))) (k % 32) =
        (decide (g ≤ e + l.fld (CNP_RXCFG k) CNP_RXCFG_TOUT * 10000000) &&
          decide (l.fld (CNP_RXCFG k) CNP_RXCFG_ITEM < (l.slotW k).n) && !(l.slotW k).bad) := by
  have hen' : CNP_RXCFG_EN.on (l.rd (CNP_RXCFG k)) = true := hen
  refine ⟨((Lane.regsBut.refl _ l).wr ?_ (by simp) _).wr ?_ (by simp) _, ?_⟩
  · unfold CNP_RXVLD
    omega
  · unfold CNP_RXONE
    omega
  · refine (congrArg (bitOf · (k % 32)) ((Lane.rd_wr_ne _ _ _ _ (CNP_RXVLD_ne_RXONE _)).trans (Lane.rd_wr_same ..))).trans ?_
    refine (bitOf_putBit (Nat.mod_lt k (by decide)) _ _).trans ?_
    rw [if_pos rfl, hen', heof, Bool.true_and]
    rfl

/-! ### The rows -/

theorem State.both_lane_of_computes {s : State} {i : LaneId} (hcomp : (s.lane i).computes = true) (f : Lane → Lane) :
    (s.both f).lane i = f (s.lane i) := by
  rw [State.both_lane, if_pos hcomp]

/-- Settles O44: each row is one operation on a lane that computes, or on the lane of the view. -/
theorem timeRows : Obligations.TimeRows := by
  refine ⟨fun bus s i hcomp hen hpot hslave hmiss => ?master, fun s i hcomp hdue hsync => ?sync, fun k e s i hcomp heof hen => ?slot,
    fun i u s hon => ?time⟩
  case master =>
    have hlane := State.both_lane_of_computes hcomp (Lane.takeover s.sh.gt · bus.num)
    obtain ⟨hregs, hown, hcurm⟩ := (s.lane i).setMaster_effect s.sh.gt bus.num (s.lane i).nodeAddr
      ((s.lane i).fld TIME_CFG TIME_CFG_MPRIO) true
    rw [← Lane.takeover_of_missed s.sh.gt hen hpot hslave hmiss] at hregs hown hcurm
    refine ⟨_, rfl, s.both_sharedKept _, ?_, ?_, ?_⟩
    · rw [hlane]; exact hregs
    · rw [hlane]; exact hown
    · rw [hlane]; exact hcurm.trans (Nat.mod_eq_of_lt (s.lane i).nodeAddr_lt)
  case sync =>
    have hlane := (State.both_lane_of_computes hcomp (Lane.syncLoss s.sh.gt)).trans (Lane.syncLoss_of_due s.sh.gt hdue hsync)
    refine ⟨_, rfl, s.both_sharedKept _, ?_, ?_, ?_, ?_⟩ <;> rw [hlane]
    · exact ((Lane.regsBut.refl _ _).setB (by decide) (by simp) _ _).of_regs_eq (Lane.timeRec_regs ..)
    · exact (Lane.on_of_regs_eq (Lane.timeRec_regs ..) _ _).trans (Lane.on_setB_same _ _ _ _ (by decide))
    · rfl
    · exact ⟨_, rfl, rfl, rfl⟩
  case slot =>
    have hlane := State.both_lane_of_computes hcomp (Lane.slotCheck s.sh.gt · k)
    refine ⟨_, rfl, s.both_sharedKept _, ?_⟩
    rw [hlane]
    exact Lane.slotCheck_effect s.sh.gt k.isLt heof hen
  case time =>
    refine ⟨_, rfl, s.upd_otherKept _ _, ?_⟩
    rw [State.upd_lane]
    refine ⟨((Lane.regsBut.refl _ _).wr (by decide) (by simp) _).wr (by decide) (by simp) _, ?_, Lane.rd_wr_same ..⟩
    exact (Lane.rd_wr_ne _ _ _ _ (by decide)).trans (Lane.rd_wr_same ..)

end Sys2Proof.Machine
end

section
/-! Where a transmission starts (R389, R391, R411, R421, R422). -/

namespace Sys2Proof.Machine

@[simp] theorem Shared.can_setCan_same (h : Shared) (b : Nat) (w : CanHw) : (h.setCan b w).can b = w := Trie.at_upd_same ..

@[simp] theorem Lane.can_setCan_same (l : Lane) (b : Nat) (w : CanWork) : (l.setCan b w).can b = w := Trie.at_upd_same ..

theorem State.lead_withSh (s : State) {h : Shared} (hauth : h.auth = s.sh.auth) : (s.withSh h).lead = s.lead := by
  unfold State.lead
  rw [show (s.withSh h).sh.auth = s.sh.auth from hauth]
  rfl

theorem Lane.ownFront_own (b : Nat) (f : OwnFrame) (l : Lane) : ((l.ownFront b f).can b).own = f :: (l.can b).own.erase f := by
  rw [Lane.ownFront, Lane.can_setCan_same]

section
variable {s : State} {b : Nat}

/-- What the frame unit notes of a transmission that begins. -/
def State.begun (s : State) (b : Nat) (who : TxWho) (started : List (Nat × Nat)) : Shared :=
  s.sh.setCan b { s.sh.can b with
    sending := some who, sender := s.sh.auth, started := started, refDone := (s.sh.can b).refDone || who == .ref }

theorem State.txBegin_buf (m : Fin 128) (t : Nat) : s.txBegin b (.buf m) t =
    s.withSh (s.begun b (.buf m) (((s.slotAt b m t).map (fun x => (x.1, x.2.1))).toList ++ (s.sh.can b).started)) := rfl

theorem State.txBegin_ref (t : Nat) : s.txBegin b .ref t = s.withSh (s.begun b .ref (s.sh.can b).started) := rfl

theorem State.mayStart_of_barred (b : Nat) (h : s.sh.auth = none ∨ s.sh.hold = true) : s.mayStart b = false := by
  obtain h | h := h <;> simp [State.mayStart, Shared.counts, h]

theorem execTxStart_of_barred (bus : Bus) (who : TxWho) (u : Nat) (h : s.mayStart bus.num = false) : exec (.txStart bus who u) s = .next s := by
  simp [exec, execTxStart, h]

theorem execReferenceSend_of_barred (bus : Bus) (idle : Bool) (h : s.mayStart bus.num = false) :
    exec (.referenceSend bus idle) s = .next s := by
  simp [exec, execReferenceSend, h]

/-- The choice of the frame hangs on the lanes, on authority, on time and on the last response alone. -/
theorem State.ownPick_withSh {h : Shared} (hauth : h.auth = s.sh.auth) (hgt : h.gt = s.sh.gt)
    (hresp : (h.can b).respAt = (s.sh.can b).respAt) : (s.withSh h).ownPick b = s.ownPick b := by
  have hlead := s.lead_withSh hauth
  have hopen : (s.withSh h).ownOpen b = s.ownOpen b := by
    funext f
    unfold State.ownOpen
    rw [hlead]
    simp only [State.withSh, hgt, hresp]
  rw [State.ownPick, hlead, hopen, State.ownPick]

theorem State.begun_ownPick (who : TxWho) (started : List (Nat × Nat)) : (s.withSh (s.begun b who started)).ownPick b = s.ownPick b :=
  State.ownPick_withSh rfl rfl (by rw [State.begun, Shared.can_setCan_same])

theorem State.txBegin_own {f : OwnFrame} (t : Nat) (hpick : s.ownPick b = some f) :
    let h := s.begun b .own (s.sh.can b).started
    let r := if f.kind == 1 then some s.sh.gt else (s.sh.can b).respAt
    s.txBegin b .own t =
      { s with a := s.a.ownFront b f, b := s.b.ownFront b f, sh := h.setCan b { h.can b with respAt := r } } := by
  have hpick' := (s.begun_ownPick .own (s.sh.can b).started).trans hpick
  unfold State.begun at hpick' ⊢
  simp only [State.txBegin, hpick']
  rfl

end

/-- Settles O42: a transmission that may start is noted by the frame unit; a bar keeps `mayStart` false. -/
theorem transmissionStarts : Obligations.TransmissionStarts := by
  refine ⟨fun bus m u s hmay hbuf => ?buf, fun bus f u s i hmay hown hpick => ?own, fun bus s hmay hstaged hdone => ?ref,
    fun bus who u s hbar => execTxStart_of_barred bus who u hbar, fun bus idle s hno => ?noRef,
    fun bus who u idle c s hc hbar => ?barred⟩
  case buf =>
    refine ⟨s.txBegin bus.num (.buf m) u, by simp [exec, execTxStart, hmay, hbuf], ?_⟩
    rw [State.txBegin_buf]
    refine ⟨s.withSh_lanesKept _, rfl, ?_, ?_, ?_⟩ <;> simp only [State.withSh, State.begun, Shared.can_setCan_same]
  case own =>
    refine ⟨s.txBegin bus.num .own u, by simp [exec, execTxStart, hmay, hown], ?_⟩
    rw [State.txBegin_own u hpick]
    refine ⟨rfl, rfl, ?_, ?_, ?_, ?_⟩
    · simp only [Shared.can_setCan_same, State.begun]
    · simp only [Shared.can_setCan_same, State.begun]
    · cases i <;> rfl
    · cases i <;> exact Lane.ownFront_own ..
  case ref =>
    refine ⟨s.txBegin bus.num .ref 0, by simp [exec, execReferenceSend, hmay, hstaged, hdone], ?_⟩
    rw [State.txBegin_ref]
    refine ⟨s.withSh_lanesKept _, rfl, ?_, ?_, ?_⟩ <;> simp [State.withSh, State.begun]
  case noRef =>
    obtain h | h := hno <;> simp [exec, execReferenceSend, h]
  case barred =>
    have hmay := s.mayStart_of_barred bus.num hbar
    obtain rfl | rfl := hc
    · exact execTxStart_of_barred bus who u hmay
    · exact execReferenceSend_of_barred bus idle hmay

end Sys2Proof.Machine
end

section
/-! The loss of a reference and the stalls of the handshakes (R202, R591, R594). -/

namespace Sys2Proof.Machine

/-! ### A fault that a lane in step detects (R321) -/

/-- The lane with a fault of its own noted for adjudication; the first one found stands. -/
def Lane.faultFound (unit : Nat) (l : Lane) : Lane := { l with adj := { l.adj with pre := some (l.adj.pre.getD unit) } }

theorem State.laneFault_of_instep {s : State} {i : LaneId} (unit : Nat) (hstep : (s.lane i).instep = true) :
    s.laneFault i unit = s.upd i (Lane.faultFound unit) := by
  rw [State.laneFault, if_pos (by rw [hstep]; rfl)]
  rfl

@[simp] theorem State.upd_upd (s : State) (i : LaneId) (f g : Lane → Lane) : (s.upd i f).upd i g = s.upd i (fun l => g (f l)) := by
  cases i <;> rfl

/-- A lane in step that raises the clock event and reports a fault of its own in a unit. -/
def Lane.clockFault (unit : Nat) (l : Lane) : Lane := (l.evNow evClock).faultFound unit

theorem Lane.clockFault_effect (unit : Nat) (l : Lane) : l.regsBut [EVT_PEND (evClock / 32)] (l.clockFault unit) ∧
    bitOf ((l.clockFault unit).rd (EVT_PEND (evClock / 32))) (evClock % 32) = true ∧
    (l.clockFault unit).adj.pre = some (l.adj.pre.getD unit) :=
  ⟨l.evNow_regsBut evClock (by decide), l.evNow_pending evClock, rfl⟩

theorem State.evNow_laneFault {s : State} {i : LaneId} (unit : Nat) (hstep : (s.lane i).instep = true) :
    (s.upd i (Lane.evNow · evClock)).laneFault i unit = s.upd i (Lane.clockFault unit) := by
  have hstep' : ((s.upd i (Lane.evNow · evClock)).lane i).instep = true := by
    rw [State.upd_lane]
    exact hstep
  rw [State.laneFault_of_instep unit hstep', State.upd_upd]
  rfl

/-! ### Loss of a reference (R594) -/

/-- The monitor of a lane. -/
def monOf : LaneId → Fin 3
  | .A => 0
  | .B => 1

/-- The registers of CLK after the loss of a lane's reference. -/
def Shared.laneRefLost (i : LaneId) (h : Shared) : Shared :=
  ((h.setB CLK_ST (lockFld i) false).setB CLK_ST (holdFld i) true).bump CLK_REFMON (lossFld i)

theorem State.refLoss_of_instep {s : State} {i : LaneId} (hstep : (s.lane i).instep = true) :
    s.refLoss (monOf i) = (s.withSh (s.sh.laneRefLost i)).upd i (Lane.clockFault 0) := by
  have hstep' : ((s.withSh (s.sh.laneRefLost i)).lane i).instep = true := by rwa [State.withSh_lane]
  rw [← State.evNow_laneFault 0 hstep']
  cases i <;> rfl

theorem Shared.laneRefLost_effect (i : LaneId) (h : Shared) : h.regsBut [CLK_ST, CLK_REFMON] (h.laneRefLost i) ∧
    (h.laneRefLost i).on CLK_ST (lockFld i) = false ∧ (h.laneRefLost i).on CLK_ST (holdFld i) = true ∧
    (h.laneRefLost i).fld CLK_REFMON (lossFld i) = min 255 (h.fld CLK_REFMON (lossFld i) + 1) := by
  have hst : (h.laneRefLost i).rd CLK_ST = ((h.setB CLK_ST (lockFld i) false).setB CLK_ST (holdFld i) true).rd CLK_ST :=
    Shared.rd_setF_ne _ _ _ _ _ (by decide)
  have hcount : ((h.setB CLK_ST (lockFld i) false).setB CLK_ST (holdFld i) true).fld CLK_REFMON (lossFld i) =
      h.fld CLK_REFMON (lossFld i) := by
    rw [Shared.setB, Shared.fld_setF_ne _ _ _ _ _ _ (by decide), Shared.setB, Shared.fld_setF_ne _ _ _ _ _ _ (by decide)]
  refine ⟨?_, ?_, ?_, ?_⟩
  · exact (((Shared.regsBut.refl _ h).setB (by decide) (by simp) _ _).setB (by decide) (by simp) _ _).setF (by decide) (by simp) _ _
  · rw [Shared.on_of_rd_eq hst, Shared.on_setB_field _ _ _ _ _ (by cases i <;> decide), Shared.on_setB_same _ _ _ _ (by cases i <;> decide)]
  · rw [Shared.on_of_rd_eq hst, Shared.on_setB_same _ _ _ _ (by cases i <;> decide)]
  · rw [Shared.laneRefLost, Shared.fld_bump_same _ _ _ (by cases i <;> decide), hcount]
    cases i <;> rfl

/-- The word of CLK_ST after the loss of HOUSE's reference. -/
def houseRefLost (w : Word) : Word := CLK_ST_REF_OK.put 0 (CLK_ST_HLOCK.put 0 (CLK_ST_INT.put 1 w))

theorem houseRefLost_flags (w : Word) : CLK_ST_REF_OK.on (houseRefLost w) = false ∧ CLK_ST_HLOCK.on (houseRefLost w) = false ∧
    CLK_ST_INT.on (houseRefLost w) = true := by
  unfold houseRefLost
  refine ⟨Fld.on_put_same _ false _ (by decide), ?_, ?_⟩
  · rw [Fld.on_put_apart (by decide)]
    exact Fld.on_put_same _ false _ (by decide)
  · rw [Fld.on_put_apart (by decide), Fld.on_put_apart (by decide)]
    exact Fld.on_put_same _ true _ (by decide)

/-! ### Stalls (R591) -/

theorem Shared.stallCount_effect (h : Shared) {k link : Nat} (hk : k < 2 ^ 20) (hlink : link < 16) :
    h.regsBut [k] (h.stallCount k link) ∧ (h.stallCount k link).fld k ⟨0, 16⟩ = min 65535 (h.fld k ⟨0, 16⟩ + 1) ∧
      (h.stallCount k link).fld k ⟨16, 4⟩ = link := by
  refine ⟨((Shared.regsBut.refl _ h).setF hk (by simp) _ _).setF hk (by simp) _ _, ?_, ?_⟩
  · rw [Shared.stallCount, Shared.fld_setF_field _ _ _ _ _ (by decide), Shared.fld_bump_same _ _ _ (by decide)]
    rfl
  · rw [Shared.stallCount, Shared.fld_setF_same _ _ _ _ (by decide)]
    exact Nat.mod_eq_of_lt hlink

theorem State.stallLane_A {s : State} {bus link u : Nat} (hunit : stallUnit bus link = some u) (hstep : s.a.instep = true) :
    s.stallLane .A bus link = (s.withSh (s.sh.stallCount CLK_HSA link)).upd .A (Lane.clockFault u) := by
  have hstep' : ((s.withSh (s.sh.stallCount CLK_HSA link)).lane .A).instep = true := hstep
  rw [← State.evNow_laneFault u hstep', State.stallLane, hunit]

/-- The ring serves in two states whose registers differ outside its own alone. -/
theorem State.ringServes_of_regsBut {s t : State} {ks : List Nat} (hregs : s.sh.regsBut ks t.sh)
    (hks : PWR_DST 7 ∉ ks ∧ RING_CFG ∉ ks ∧ RING_STAT ∉ ks) (hauth : t.sh.auth = s.sh.auth) (hbisque : t.sh.bisque = s.sh.bisque)
    (hring : t.sh.ring = s.sh.ring) : t.ringServes = s.ringServes := by
  obtain ⟨hdst, hcfg, hstat⟩ := hks
  unfold State.ringServes State.ringOn State.ringBase State.ringDis Shared.ringOpen
  rw [Shared.on_of_rd_eq (hregs _ (by decide) hdst), Shared.on_of_rd_eq (hregs _ (by decide) hcfg),
    Shared.on_of_rd_eq (hregs _ (by decide) hstat), hauth, hbisque, hring]

/-- A stall of the ring crossing as HOUSE counts it. -/
def Shared.ringStalled (serves : Bool) (h : Shared) : Shared :=
  if serves then (h.stallCount CLK_HSH 10).bump RING_ERR RING_ERR_FMT else h.stallCount CLK_HSH 10

theorem State.stallHouse_ring (s : State) (i : LaneId) (t : Nat) : (s.stallHouse i 10 t).sh = s.sh.ringStalled s.ringServes := by
  have hcount := (s.sh.stallCount_effect (k := CLK_HSH) (link := 10) (by decide) (by decide)).1
  have hserves : (State.onLanes (fun l => l.st != .off) (Lane.evNow · evClock) (s.withSh (s.sh.stallCount CLK_HSH 10))).ringServes =
      s.ringServes := State.ringServes_of_regsBut hcount (by decide) rfl rfl rfl
  unfold State.stallHouse Shared.ringStalled
  rw [if_neg (by decide)]
  dsimp only
  rw [hserves]
  cases s.ringServes <;> rfl

/-! ### The rows -/

/-- Settles O33: a lane in step raises the event and notes the fault, HOUSE counts in its registers. -/
theorem clockFaultRows : Obligations.ClockFaultRows := by
  refine ⟨fun i s hstep => ?lane, fun s => ?house, fun bus i dt s hserves => ?mute, fun bus i dt s hserves => ?ring,
    fun link bus i dt u s hstep hunit => ?island⟩
  case lane =>
    obtain ⟨hregs, hlock, hhold, hloss⟩ := s.sh.laneRefLost_effect i
    obtain ⟨hlregs, hpend, hpre⟩ := (s.lane i).clockFault_effect 0
    have hrow : exec (.referenceLoss (monOf i)) s = .next ((s.withSh (s.sh.laneRefLost i)).upd i (Lane.clockFault 0)) :=
      congrArg Host.Outcome.next (State.refLoss_of_instep hstep)
    refine ⟨(s.withSh (s.sh.laneRefLost i)).upd i (Lane.clockFault 0), by cases i <;> exact hrow, ?_⟩
    cases i <;> exact ⟨rfl, hregs, hlock, hhold, hloss, hlregs, hpend, hpre⟩
  case house =>
    obtain ⟨hok, hlock, hint⟩ := houseRefLost_flags (s.sh.rd CLK_ST)
    refine ⟨_, rfl, s.withSh_lanesKept _, (Shared.regsBut.refl _ _).wr (by decide) (by simp) _, ?_, ?_, ?_⟩
    · exact (congrArg CLK_ST_REF_OK.on (Shared.rd_wr_same ..)).trans hok
    · exact (congrArg CLK_ST_HLOCK.on (Shared.rd_wr_same ..)).trans hlock
    · exact (congrArg CLK_ST_INT.on (Shared.rd_wr_same ..)).trans hint
  case mute =>
    have hsh : (s.stallHouse i 10 dt).sh = s.sh.stallCount CLK_HSH 10 := by rw [State.stallHouse_ring, hserves]; rfl
    refine ⟨s.stallHouse i 10 dt, rfl, ?_⟩
    rw [hsh]
    exact s.sh.stallCount_effect (by decide) (by decide)
  case ring =>
    have hsh : (s.stallHouse i 10 dt).sh = (s.sh.stallCount CLK_HSH 10).bump RING_ERR RING_ERR_FMT := by
      rw [State.stallHouse_ring, hserves]; rfl
    obtain ⟨hregs, hcount, hlink⟩ := s.sh.stallCount_effect (k := CLK_HSH) (link := 10) (by decide) (by decide)
    refine ⟨s.stallHouse i 10 dt, rfl, ?_⟩
    rw [hsh]
    refine ⟨?_, ?_, ?_, ?_⟩
    · exact Shared.regsBut.setF (fun k hk hks => hregs k hk (fun hmem => hks (by simp_all))) (by decide) (by simp) _ _
    · exact (Shared.fld_setF_ne _ _ _ _ _ _ (by decide)).trans hcount
    · exact (Shared.fld_setF_ne _ _ _ _ _ _ (by decide)).trans hlink
    · rw [Shared.fld_bump_same _ _ _ (by decide), hregs.fld (by decide) (by decide)]
  case island =>
    obtain ⟨hregs, hcount, hlink⟩ := s.sh.stallCount_effect (k := CLK_HSA) (by decide) link.isLt
    obtain ⟨hlregs, -, hpre⟩ := s.a.clockFault_effect u
    exact ⟨_, congrArg Host.Outcome.next (State.stallLane_A hunit hstep), rfl, hregs, hcount, hlink, hlregs, hpre⟩

end Sys2Proof.Machine
end

section
/-! The power domains (R613, R615, R616): what the switching of a domain leaves of the registers that show domains. -/

namespace Sys2Proof.Machine

/-! ### The shown domains -/

/-- The registers that show the domains, and the counts of their faults, stand. -/
structure Shared.domainsKept (h g : Shared) : Prop where
  dst : ∀ d < 14, g.rd (PWR_DST d) = h.rd (PWR_DST d)
  dom : g.rd PWR_DOM = h.rd PWR_DOM
  pwr : g.pwr = h.pwr

/-- A register that shows no domain. -/
def noDomainReg (k : Nat) : Prop := k < PWR_DOM ∨ (PWR_DST 13 < k ∧ k < 2 ^ 20)

theorem PWR_DST_ne_of_noDomainReg {k d : Nat} (hk : noDomainReg k) (hd : d < 14) : PWR_DST d % 2 ^ 20 ≠ k % 2 ^ 20 := by
  unfold noDomainReg PWR_DST PWR_DOM at *
  omega

theorem PWR_DOM_ne_of_noDomainReg {k : Nat} (hk : noDomainReg k) : PWR_DOM % 2 ^ 20 ≠ k % 2 ^ 20 := by
  unfold noDomainReg PWR_DST PWR_DOM at *
  omega

namespace Shared.domainsKept
variable {h g f : Shared}

theorem of_eq (hregs : g.regs = h.regs) (hpwr : g.pwr = h.pwr) : h.domainsKept g :=
  ⟨fun d _ => congrArg (RegFile.rd · (PWR_DST d)) hregs, congrArg (RegFile.rd · PWR_DOM) hregs, hpwr⟩

theorem refl (h : Shared) : h.domainsKept h := of_eq rfl rfl

theorem trans (hg : h.domainsKept g) (hf : g.domainsKept f) : h.domainsKept f :=
  ⟨fun d hd => (hf.dst d hd).trans (hg.dst d hd), hf.dom.trans hg.dom, hf.pwr.trans hg.pwr⟩

theorem from_eq (e : g = h) (hf : g.domainsKept f) : h.domainsKept f := e ▸ hf

theorem wr (hg : h.domainsKept g) {k : Nat} (hk : noDomainReg k) (w : Word) : h.domainsKept (g.wr k w) :=
  ⟨fun d hd => (Shared.rd_wr_ne _ _ _ _ (PWR_DST_ne_of_noDomainReg hk hd)).trans (hg.dst d hd),
    (Shared.rd_wr_ne _ _ _ _ (PWR_DOM_ne_of_noDomainReg hk)).trans hg.dom, hg.pwr⟩

theorem setF (hg : h.domainsKept g) {k : Nat} (hk : noDomainReg k) (x : Fld) (v : Nat) : h.domainsKept (g.setF k x v) := hg.wr hk _

theorem setB (hg : h.domainsKept g) {k : Nat} (hk : noDomainReg k) (x : Fld) (v : Bool) : h.domainsKept (g.setB k x v) := hg.wr hk _

theorem setDou (hg : h.domainsKept g) (n : Nat) (w : DoHw) : h.domainsKept (g.setDou n w) := hg.trans (of_eq rfl rfl)

theorem setDi (hg : h.domainsKept g) (n : Nat) (w : DiHw) : h.domainsKept (g.setDi n w) := hg.trans (of_eq rfl rfl)

theorem setBank (hg : h.domainsKept g) (k : Nat) (w : BankHw) : h.domainsKept (g.setBank k w) := hg.trans (of_eq rfl rfl)

theorem setChan (hg : h.domainsKept g) (n : Nat) (w : ChanHw) : h.domainsKept (g.setChan n w) := hg.trans (of_eq rfl rfl)

theorem setTile (hg : h.domainsKept g) (t : Nat) (w : TileHw) : h.domainsKept (g.setTile t w) := hg.trans (of_eq rfl rfl)

theorem setCan (hg : h.domainsKept g) (b : Nat) (w : CanHw) : h.domainsKept (g.setCan b w) := hg.trans (of_eq rfl rfl)

theorem setPnl (hg : h.domainsKept g) (f : PnlHw → PnlHw) : h.domainsKept (g.setPnl f) := hg.trans (of_eq rfl rfl)

theorem setRing (hg : h.domainsKept g) (f : RingHw → RingHw) : h.domainsKept (g.setRing f) := hg.trans (of_eq rfl rfl)

theorem setStart (hg : h.domainsKept g) (f : StartHw → StartHw) : h.domainsKept (g.setStart f) := hg.trans (of_eq rfl rfl)

theorem setLive (hg : h.domainsKept g) (v : Bool) : h.domainsKept { g with doLive := v } := hg.trans (of_eq rfl rfl)

theorem setAoutOn (hg : h.domainsKept g) (v : Option Nat) : h.domainsKept { g with aoutOn := v } := hg.trans (of_eq rfl rfl)

theorem setDioAt (hg : h.domainsKept g) (v : Bool) (n : Nat) : h.domainsKept { g with doLive := v, dioAt := n } := hg.trans (of_eq rfl rfl)

theorem ite {c : Prop} [Decidable c] (hg : h.domainsKept g) (hf : h.domainsKept f) : h.domainsKept (if c then g else f) := by
  split
  · exact hg
  · exact hf

theorem foldl {α : Type} {step : Shared → α → Shared} {xs : List α} (hstep : ∀ x ∈ xs, ∀ h, Shared.domainsKept h (step h x)) :
    ∀ {g : Shared}, h.domainsKept g → h.domainsKept (xs.foldl step g) := by
  induction xs with
  | nil => exact fun hg => hg
  | cons x xs ih =>
    exact fun hg => ih (fun y hy => hstep y (List.mem_cons_of_mem x hy)) (hg.trans (hstep x List.mem_cons_self _))

theorem upTo {n : Nat} {step : Shared → Nat → Shared} (hg : h.domainsKept g)
    (hstep : ∀ i < n, ∀ h, Shared.domainsKept h (step h i)) : h.domainsKept ((Machine.upTo n).foldl step g) :=
  foldl (fun i hi => hstep i (List.mem_range.mp hi)) hg

theorem on (hg : h.domainsKept g) {d : Nat} (hd : d < 14) (x : Fld) : g.on (PWR_DST d) x = h.on (PWR_DST d) x :=
  Shared.on_of_rd_eq (hg.dst d hd) x

theorem fld (hg : h.domainsKept g) {d : Nat} (hd : d < 14) (x : Fld) : g.fld (PWR_DST d) x = h.fld (PWR_DST d) x :=
  congrArg x.get (hg.dst d hd)

end Shared.domainsKept

theorem noDomainReg_of_lt {k : Nat} (h : k < PWR_DOM) : noDomainReg k := Or.inl h

theorem noDomainReg_of_ring {k : Nat} (h : RING_CTRL ≤ k) (h' : k ≤ RING_TOK) : noDomainReg k := by
  unfold noDomainReg PWR_DST PWR_DOM
  unfold RING_CTRL RING_TOK at *
  omega

/-! ### The stages that a domain feeds -/

section
variable (h : Shared) (l : Lane)

theorem DO_ST_noDomainReg {n : Nat} (hn : n < 32) : noDomainReg (DO_ST n) :=
  noDomainReg_of_lt (by unfold DO_ST PWR_DOM; omega)

theorem DO_BST_noDomainReg {k : Nat} (hk : k < 4) : noDomainReg (DO_BST k) :=
  noDomainReg_of_lt (by unfold DO_BST PWR_DOM; omega)

theorem Shared.bankSample_domainsKept {k : Nat} (hk : k < 4) : h.domainsKept (h.bankSample l k) :=
  .setBank (.wr (.refl h) (DO_BST_noDomainReg hk) _) _ _

theorem Shared.compared_domainsKept (bad : Bool) {n : Nat} (hn : n < 32) : h.domainsKept (h.compared bad n) := by
  have hreg := DO_ST_noDomainReg hn
  unfold Shared.compared
  dsimp only
  refine .ite ?_ (.wr (.ite (.setF ?_ hreg _ _) ?_) hreg _) <;> exact .setDou (.refl h) _ _

theorem Shared.lowSample_domainsKept (low : Bool) {n : Nat} (hn : n < 32) : h.domainsKept (h.lowSample l low n) := by
  unfold Shared.lowSample
  refine .ite (.refl h) (.ite (.setB ?_ (DO_ST_noDomainReg hn) _ _) ?_) <;> exact .setDou (.refl h) _ _

theorem Shared.doSample_domainsKept {n : Nat} (hn : n < 32) : h.domainsKept (h.doSample l n) := by
  have hrb : noDomainReg DO_RB := noDomainReg_of_lt (by decide)
  unfold Shared.doSample
  dsimp only
  refine .trans (.ite (.trans ?_ (Shared.compared_domainsKept _ _ hn)) ?_) (Shared.lowSample_domainsKept _ _ _ hn) <;>
  exact .setDou (.wr (.wr (.refl h) (DO_ST_noDomainReg hn) _) hrb _) _ _

theorem Shared.fltNow_domainsKept {k : Nat} (hk : k < 4) : h.domainsKept (h.fltNow k) := by
  unfold Shared.fltNow
  dsimp only
  refine .ite ?_ (.setB (.setBank ?_ _ _) (DO_BST_noDomainReg hk) _ _) <;> exact .setB (.refl h) (DO_BST_noDomainReg hk) _ _

theorem Shared.fltSample_domainsKept {k : Nat} (hk : k < 4) : h.domainsKept (h.fltSample k) :=
  .setB (.setBank (h.fltNow_domainsKept hk) _ _) (DO_BST_noDomainReg hk) _ _

theorem Shared.doApply_domainsKept {n : Nat} (hn : n < 32) : h.domainsKept (h.doApply l n) := by
  have hreg := DO_ST_noDomainReg hn
  unfold Shared.doApply
  dsimp only
  exact .ite (.refl h) (.wr (.setDou (.setB (.setB (.refl h) hreg _ _) hreg _ _) _ _) (noDomainReg_of_lt (by decide)) _)

theorem Shared.doAll_domainsKept : h.domainsKept (h.doAll l) := .upTo (.refl h) fun _ hn h => h.doApply_domainsKept l hn

theorem Shared.dioSample_domainsKept : h.domainsKept (h.dioSample l) :=
  .trans (.upTo (.upTo (.upTo (.refl h) fun _ hk h => h.bankSample_domainsKept l hk) fun _ hn h => h.doSample_domainsKept l hn)
    fun _ hk h => h.fltSample_domainsKept hk) (Shared.doAll_domainsKept _ _)

theorem Shared.dioClear_domainsKept : h.domainsKept h.dioClear :=
  .upTo (.upTo (.refl h) fun _ _ h => .setDi (.setDou (.refl h) _ _) _ _) fun _ _ h => .setBank (.refl h) _ _

theorem Shared.dioReset_domainsKept : h.domainsKept h.dioReset :=
  .wr (.wr (.upTo (.upTo (.refl h) fun _ hn h => .wr (.refl h) (DO_ST_noDomainReg hn) _)
    fun _ hk h => .wr (.refl h) (DO_BST_noDomainReg hk) _) (noDomainReg_of_lt (by decide)) _) (noDomainReg_of_lt (by decide)) _

theorem Shared.diRestart_domainsKept (t : Nat) (ns : List Nat) : h.domainsKept (h.diRestart t ns) := by
  unfold Shared.diRestart
  exact .foldl (fun _ _ h => .setDi (.refl h) _ _) (.refl h)

theorem AIN_CHST_noDomainReg {n : Nat} (hn : n < 96) : noDomainReg (AIN_CHST n) :=
  noDomainReg_of_lt (by unfold AIN_CHST PWR_DOM; omega)

theorem AIN_TSTAT_noDomainReg {t : Nat} (ht : t < 12) : noDomainReg (AIN_TSTAT t) :=
  noDomainReg_of_lt (by unfold AIN_TSTAT PWR_DOM; omega)

theorem AIN_INJST_noDomainReg {n : Nat} (hn : n < 96) : noDomainReg (AIN_INJST n) :=
  noDomainReg_of_lt (by unfold AIN_INJST PWR_DOM; omega)

theorem AO_CODE_noDomainReg {n : Nat} (hn : n < 24) : noDomainReg (AO_CODE n) :=
  noDomainReg_of_lt (by unfold AO_CODE PWR_DOM; omega)

theorem AO_MON_noDomainReg {n : Nat} (hn : n < 24) : noDomainReg (AO_MON n) :=
  noDomainReg_of_lt (by unfold AO_MON PWR_DOM; omega)

theorem Shared.tileOff_domainsKept {t : Nat} (ht : t < 12) : h.domainsKept (h.tileOff t) := by
  unfold Shared.tileOff
  refine .setTile (.setB (.upTo (.refl h) fun i hi h => ?_) (AIN_TSTAT_noDomainReg ht) _ _) _ _
  have hreg := AIN_CHST_noDomainReg (n := 8 * t + i) (by omega)
  exact .setChan (.setB (.setB (.refl h) hreg _ _) hreg _ _) _ _

theorem Shared.tileReset_domainsKept {t : Nat} (ht : t < 12) : h.domainsKept (h.tileReset t) := by
  unfold Shared.tileReset
  refine .upTo (.setTile (.wr (.refl h) (AIN_TSTAT_noDomainReg ht) _) _ _) fun i hi h => ?_
  have hn : 8 * t + i < 96 := by omega
  exact .setChan (.setB (.wr (.refl h) (AIN_CHST_noDomainReg hn) _) (AIN_INJST_noDomainReg hn) _ _) _ _

theorem Shared.railsTrip_domainsKept (w : Nat) : h.domainsKept (h.railsTrip w) := by
  have hrail : noDomainReg PNL_RAIL := noDomainReg_of_lt (by decide)
  unfold Shared.railsTrip Shared.railsFall
  exact .setPnl (.setPnl (.setB (.setB (.refl h) hrail _ _) hrail _ _) _) _

theorem Shared.bisqueOutputs_domainsKept : h.domainsKept (h.bisqueOutputs l) := by
  unfold Shared.bisqueOutputs
  exact .setLive (.upTo (.refl h) fun _ hn h => .wr (.refl h) (AO_CODE_noDomainReg hn) _) _

theorem Shared.detResume_domainsKept : h.domainsKept (h.detResume l) := by
  unfold Shared.detResume
  exact .foldl (fun _ _ h => .ite (.setCan (.refl h) _ _) (.refl h)) (.refl h)

end

/-! ### What a domain does as it switches (R615, R616) -/

section
variable (s : State)

theorem State.sysRec_domainsKept (code p0 p1 p2 p3 rank : Nat) : s.sh.domainsKept (s.sysRec code p0 p1 p2 p3 rank).sh := by
  obtain ⟨f, -, hf⟩ | ⟨e, he⟩ := s.sysRec_cases code p0 p1 p2 p3 rank
  · rw [hf]
    exact .refl _
  · rw [he]
    exact .of_eq rfl rfl

theorem State.pwrRec_domainsKept (code p0 p1 p2 p3 : Nat) : s.sh.domainsKept (s.pwrRec code p0 p1 p2 p3).sh := by
  unfold State.pwrRec
  dsimp only
  split
  · exact .refl _
  · exact .of_eq rfl rfl

theorem State.moved.domainsKept {s t : State} (h : s.moved t) : s.sh.domainsKept t.sh := by
  obtain ⟨e, he⟩ := h.shared
  rw [he]
  exact .of_eq rfl rfl

theorem State.storeOff_domainsKept (i : LaneId) : s.sh.domainsKept (s.storeOff i).sh := by
  unfold State.storeOff State.storeOutRec
  split
  · exact .refl _
  · have hsh : ((s.upd i Lane.storeOut).storeSync).sh = s.sh := State.upd_sh ..
    exact .from_eq hsh (State.sysRec_domainsKept ..)

theorem State.mirrorStart_sh (i : LaneId) : (s.mirrorStart i).sh = s.sh := by
  unfold State.mirrorStart
  dsimp only
  split <;> simp

theorem State.storeSync_sh : s.storeSync.sh = s.sh := rfl

theorem State.storeOn_sh (i : LaneId) : (s.storeOn i).sh = s.sh := by
  unfold State.storeOn
  dsimp only
  split
  · rfl
  · split
    · rw [State.mirrorStart_sh, State.upd_sh, State.upd_sh, State.storeSync_sh, State.upd_sh]
    · rw [State.storeSync_sh, State.upd_sh]

theorem State.laneOff_domainsKept (i : LaneId) : s.sh.domainsKept (s.laneOff i).sh := by
  unfold State.laneOff
  dsimp only
  split
  · exact .refl _
  · have hsh : ((s.upd i (Lane.coreOff s.sh)).sysSync).sh = s.sh := State.upd_sh ..
    exact .from_eq hsh (State.sysRec_domainsKept ..)

theorem State.laneFire_domainsKept (i : LaneId) : s.sh.domainsKept (s.laneFire i).sh := by
  obtain ⟨f, g, hfire⟩ := s.laneFire_eq i
  have hsh : ((s.upd i f).upd i g).sh = s.sh := by rw [State.upd_sh, State.upd_sh]
  rw [hfire]
  exact .from_eq hsh (State.moved.domainsKept (State.laneTo_moved ..))

theorem State.laneBisque_domainsKept (i : LaneId) : s.sh.domainsKept (s.laneBisque i).sh := by
  unfold State.laneBisque
  split
  · exact .refl _
  · rw [State.upd_sh]
    exact State.moved.domainsKept (State.laneTo_moved ..)

theorem State.ringRec_domainsKept (code w : Nat) (ev : Bool) : s.sh.domainsKept (s.ringRec code w ev).sh := by
  unfold State.ringRec
  split
  · exact .refl _
  · exact .of_eq rfl rfl

theorem State.bypassClose_domainsKept (w : Nat) : s.sh.domainsKept (s.bypassClose w).sh := by
  have hstat : noDomainReg RING_STAT := noDomainReg_of_ring (by decide) (by decide)
  unfold State.bypassClose
  split
  · refine .trans ?_ (State.ringRec_domainsKept _ _ _ _)
    rw [State.withSh_sh]
    exact .setRing (.setB (.setB (.setB (.refl _) hstat _ _) hstat _ _) hstat _ _) _
  · exact .refl _

theorem State.dioSamples_domainsKept (n : Nat) : ∀ s : State, s.sh.domainsKept (s.dioSamples n).sh := by
  induction n with
  | zero => exact fun s => .refl _
  | succ n ih =>
    intro s
    refine .trans ?_ (ih _)
    rw [State.dioChange_sh]
    exact Shared.dioSample_domainsKept _ _

theorem State.dioTo_domainsKept (w : Nat) : s.sh.domainsKept (s.dioTo w).sh := by
  unfold State.dioTo
  dsimp only
  split
  · refine .trans ?_ (State.dioSamples_domainsKept _ _)
    exact .of_eq rfl rfl
  · exact .of_eq rfl rfl

theorem State.diTo_domainsKept (t n : Nat) : s.sh.domainsKept (s.diTo t n).sh := by
  unfold State.diTo
  split
  · exact .refl _
  · exact .of_eq rfl rfl

theorem State.dioAll_domainsKept (w : Nat) : s.sh.domainsKept (s.dioAll w).sh := by
  have hinputs : ∀ (ns : List Nat) (s : State), s.sh.domainsKept (ns.foldl (State.diTo w) s).sh := by
    intro ns
    induction ns with
    | nil => exact fun s => .refl _
    | cons n ns ih => exact fun s => .trans (s.diTo_domainsKept w n) (ih _)
  exact .trans (hinputs _ s) (State.dioTo_domainsKept _ w)

theorem State.commReset_domainsKept : s.sh.domainsKept s.commReset.sh := by
  have hring : ∀ k ∈ [RING_CTRL, RING_STAT, RING_FAULT, RING_ERR, RING_TOK], noDomainReg k := fun k hk =>
    noDomainReg_of_ring ((by decide : ∀ k ∈ [RING_CTRL, RING_STAT, RING_FAULT, RING_ERR, RING_TOK], RING_CTRL ≤ k) k hk)
      ((by decide : ∀ k ∈ [RING_CTRL, RING_STAT, RING_FAULT, RING_ERR, RING_TOK], k ≤ RING_TOK) k hk)
  unfold State.commReset
  exact .trans (.setRing (.foldl (fun k hk h => .wr (.refl h) (hring k hk) _) (.refl s.sh)) _) (Shared.detResume_domainsKept _ _)

end

/-! ### A domain switched (R612, R613, R615) -/

theorem State.told_sh (s : State) (f : Lane → Lane) : (s.told f).sh = s.sh := rfl

section
variable (s : State) {d : Nat} (t : Nat)

theorem State.coreOn_domainsKept (i : LaneId) :
    s.sh.domainsKept (if (s.laneFire i).sh.bisque then (s.laneFire i).laneBisque i else s.laneFire i).sh := by
  split
  · exact .trans (s.laneFire_domainsKept i) (State.laneBisque_domainsKept _ i)
  · exact s.laneFire_domainsKept i

theorem State.domainOn_domainsKept (hd : d < 14) : (s.sh.domSet d true).domainsKept (s.domainOn d t).sh := by
  refine .from_eq (State.withSh_sh s (s.sh.domSet d true)) ?_
  unfold State.domainOn
  dsimp only
  generalize s.withSh (s.sh.domSet d true) = u
  split
  case h_1 => rw [State.storeOn_sh]; exact .refl _
  case h_2 => rw [State.storeOn_sh]; exact .refl _
  case h_3 => exact u.coreOn_domainsKept .A
  case h_4 => exact u.coreOn_domainsKept .B
  case h_5 => exact u.commReset_domainsKept
  case h_6 => exact .upTo (.refl _) fun i hi h => h.tileReset_domainsKept (by omega)
  case h_7 => exact .upTo (.refl _) fun i hi h => h.tileReset_domainsKept (by omega)
  case h_8 => exact .upTo (.refl _) fun i hi h => h.tileReset_domainsKept (by omega)
  case h_9 =>
    have hout : u.sh.domainsKept ((upTo 24).foldl (fun h n => (h.wr (AO_MON n) (resetWord (AO_MON n))).wr (AO_CODE n)
        (resetWord (AO_CODE n))) u.sh) :=
      .upTo (.refl _) fun n hn h => .wr (.wr (.refl h) (AO_MON_noDomainReg hn) _) (AO_CODE_noDomainReg hn) _
    split
    · exact .trans (.setAoutOn hout _) (Shared.bisqueOutputs_domainsKept _ _)
    · exact .setAoutOn hout _
  case h_10 =>
    rw [State.withSh_sh]
    exact .trans (.setDioAt u.sh.dioReset_domainsKept _ _) (Shared.diRestart_domainsKept _ _ _)
  case h_11 => exact .of_eq rfl rfl
  case h_12 => exact .refl _

/-- What a domain leaves as it switches off, from the state in which it has been followed to that instant. -/
theorem State.domainOff_domainsKept (hd : d < 14) :
    ∃ h, s.sh.domainsKept h ∧ (h.domSet d false).domainsKept (s.domainOff d t).sh := by
  refine ⟨(if d = 12 then s.dioAll (s.sh.gt + t) else s).sh, ?_, ?_⟩
  · split
    · exact s.dioAll_domainsKept _
    · exact .refl _
  · unfold State.domainOff
    dsimp only
    generalize (if d = 12 then s.dioAll (s.sh.gt + t) else s) = v
    refine .from_eq (State.withSh_sh v (v.sh.domSet d false)) ?_
    generalize v.withSh (v.sh.domSet d false) = u
    split
    case h_1 => exact u.storeOff_domainsKept _
    case h_2 => exact u.storeOff_domainsKept _
    case h_3 => exact u.laneOff_domainsKept _
    case h_4 => exact u.laneOff_domainsKept _
    case h_5 =>
      refine .trans ?_ (State.bypassClose_domainsKept _ _)
      rw [State.withSh_sh]
      exact .foldl (fun b _ h => .setCan (.refl h) b _) (.refl _)
    case h_6 => exact .upTo (.refl _) fun i hi h => h.tileOff_domainsKept (by omega)
    case h_7 => exact .upTo (.refl _) fun i hi h => h.tileOff_domainsKept (by omega)
    case h_8 => exact .upTo (.refl _) fun i hi h => h.tileOff_domainsKept (by omega)
    case h_9 =>
      rw [State.told_sh, State.withSh_sh]
      exact .upTo (.of_eq rfl rfl) fun n hn h => .wr (.refl h) (AO_CODE_noDomainReg hn) _
    case h_10 =>
      refine .trans (.trans ?_ (Shared.doAll_domainsKept _ _)) (Shared.dioClear_domainsKept _)
      exact .of_eq rfl rfl
    case h_11 => exact u.sh.railsTrip_domainsKept _
    case h_12 => exact .refl _

theorem PWR_DST_ne_PWR_DOM (hd : d < 14) : PWR_DST d % 2 ^ 20 ≠ PWR_DOM % 2 ^ 20 := by
  unfold PWR_DST PWR_DOM
  omega

end

/-! ### The flags of a switched domain -/

section
variable (h : Shared) {d : Nat} (hd : d < 14) (on : Bool)
include hd

theorem Shared.domSet_dst : (h.domSet d on).rd (PWR_DST d) =
    ((h.setB (PWR_DST d) PWR_DST_ON on).setB (PWR_DST d) PWR_DST_GOOD on).rd (PWR_DST d) :=
  Shared.rd_setF_ne _ _ _ _ _ (PWR_DST_ne_PWR_DOM hd)

theorem Shared.domSet_on : (h.domSet d on).on (PWR_DST d) PWR_DST_ON = on := by
  rw [Shared.on_of_rd_eq (h.domSet_dst hd on), Shared.on_setB_field _ _ _ _ _ (by decide), Shared.on_setB_same _ _ _ _ (by decide)]

theorem Shared.domSet_good : (h.domSet d on).on (PWR_DST d) PWR_DST_GOOD = on := by
  rw [Shared.on_of_rd_eq (h.domSet_dst hd on), Shared.on_setB_same _ _ _ _ (by decide)]

omit hd in
theorem Shared.domSet_dom (hd : d < 14) : (h.domSet d on).on PWR_DOM ⟨d, 1⟩ = on :=
  Shared.on_setB_same _ _ _ _ ⟨by dsimp only; omega, rfl⟩

theorem Shared.domSet_fld {f : Fld} (hon : fldsApart f PWR_DST_ON) (hgood : fldsApart f PWR_DST_GOOD) :
    (h.domSet d on).fld (PWR_DST d) f = h.fld (PWR_DST d) f := by
  have hrd : (h.domSet d on).fld (PWR_DST d) f = _ := congrArg f.get (h.domSet_dst hd on)
  rw [hrd]
  exact (Shared.fld_setF_field _ _ _ _ _ hgood).trans (Shared.fld_setF_field _ _ _ _ _ hon)

end

/-! ### A domain fault (R615, R616) -/

/-- The number of the faults of a domain in the 60 s window of instant `w`, with one at `w`. -/
def Shared.faultCount (h : Shared) (d w : Nat) : Nat := if h.pwr.win = w / 60000000000 then h.pwr.faults.at 0 d + 1 else 1

/-- PWR_DST of a domain after a fault, the `n`th of its window. -/
def Shared.faultShown (d cause n : Nat) (latch : Bool) (h : Shared) : Shared :=
  let h := ((h.setF (PWR_DST d) PWR_DST_CAUSE cause).setF (PWR_DST d) PWR_DST_WCNT (min 3 n)).bump (PWR_DST d) PWR_DST_FAULTS
  (h.setB (PWR_DST d) PWR_DST_FAULT (!latch)).setB (PWR_DST d) PWR_DST_LATCHED latch

/-- A fault of a domain at instant `w` shown, and the counts kept for it. -/
def Shared.faulted (d cause n w : Nat) (latch : Bool) (h : Shared) : Shared :=
  let h := (h.faultShown d cause n latch).setB PWR_DOM ⟨16 + d, 1⟩ latch
  { h with pwr := { h.pwr with faultAt := h.pwr.faultAt.upd 0 d w, faults := h.pwr.faults.upd 0 d n } }

section
variable (h : Shared) {d : Nat} (hd : d < 14) (cause n w : Nat) (latch : Bool)

theorem Shared.faultWindow_count : (h.faultWindow w).pwr.faults.at 0 d + 1 = h.faultCount d w := by
  unfold Shared.faultWindow Shared.faultCount
  dsimp only
  split
  · rfl
  · simp [Trie.at]

include hd

/-- A field of PWR_DST apart from the one written in another or in the same register of the row stands. -/
theorem Shared.fld_dst_setF {e : Nat} (he : e < 14) {f g : Fld} (hfg : fldsApart f g) (v : Nat) :
    (h.setF (PWR_DST e) g v).fld (PWR_DST d) f = h.fld (PWR_DST d) f := by
  by_cases hde : d = e
  · rw [hde]
    exact Shared.fld_setF_field _ _ _ _ _ hfg
  · refine Shared.fld_setF_ne _ _ _ _ _ _ ?_
    unfold PWR_DST
    omega

theorem Shared.faultWindow_faults : (h.faultWindow w).fld (PWR_DST d) PWR_DST_FAULTS = h.fld (PWR_DST d) PWR_DST_FAULTS := by
  have hclear : ∀ ds : List Nat, (∀ e ∈ ds, e < 14) → ∀ h : Shared,
      (ds.foldl (fun h e => h.setF (PWR_DST e) PWR_DST_WCNT 0) h).fld (PWR_DST d) PWR_DST_FAULTS = h.fld (PWR_DST d) PWR_DST_FAULTS := by
    intro ds
    induction ds with
    | nil => exact fun _ _ => rfl
    | cons e ds ih =>
      intro hds h
      rw [List.foldl_cons, ih fun x hx => hds x (List.mem_cons_of_mem e hx)]
      exact h.fld_dst_setF hd (hds e List.mem_cons_self) (by decide) 0
  unfold Shared.faultWindow
  dsimp only
  split
  · rfl
  · exact hclear (upTo 14) (fun e he => List.mem_range.mp he) h

theorem Shared.faulted_dst (f : Fld) : (h.faulted d cause n w latch).fld (PWR_DST d) f =
    (h.faultShown d cause n latch).fld (PWR_DST d) f := by
  have hregs : (h.faulted d cause n w latch).regs = ((h.faultShown d cause n latch).setB PWR_DOM ⟨16 + d, 1⟩ latch).regs := rfl
  rw [Shared.fld, hregs, ← Shared.fld, Shared.setB, Shared.fld_setF_ne _ _ _ _ _ _ (PWR_DST_ne_PWR_DOM hd)]

theorem Shared.faulted_cause : (h.faulted d cause n w latch).fld (PWR_DST d) PWR_DST_CAUSE = cause % 4 := by
  rw [h.faulted_dst hd, Shared.faultShown, Shared.setB, Shared.fld_setF_field _ _ _ _ _ (by decide), Shared.setB, Shared.fld_setF_field _ _ _ _ _ (by decide),
    Shared.bump, Shared.fld_setF_field _ _ _ _ _ (by decide), Shared.fld_setF_field _ _ _ _ _ (by decide),
    Shared.fld_setF_same _ _ _ _ (by decide)]
  rfl

theorem Shared.faulted_wcnt : (h.faulted d cause n w latch).fld (PWR_DST d) PWR_DST_WCNT = min 3 n := by
  rw [h.faulted_dst hd, Shared.faultShown, Shared.setB, Shared.fld_setF_field _ _ _ _ _ (by decide), Shared.setB, Shared.fld_setF_field _ _ _ _ _ (by decide),
    Shared.bump, Shared.fld_setF_field _ _ _ _ _ (by decide), Shared.fld_setF_same _ _ _ _ (by decide)]
  exact Nat.mod_eq_of_lt (Nat.lt_of_le_of_lt (Nat.min_le_left 3 n) (by decide))

theorem Shared.faulted_faults : (h.faulted d cause n w latch).fld (PWR_DST d) PWR_DST_FAULTS =
    min 255 (h.fld (PWR_DST d) PWR_DST_FAULTS + 1) := by
  rw [h.faulted_dst hd, Shared.faultShown, Shared.setB, Shared.fld_setF_field _ _ _ _ _ (by decide), Shared.setB, Shared.fld_setF_field _ _ _ _ _ (by decide),
    Shared.fld_bump_same _ _ _ (by decide), Shared.fld_setF_field _ _ _ _ _ (by decide), Shared.fld_setF_field _ _ _ _ _ (by decide)]
  rfl

theorem Shared.faulted_fault : (h.faulted d cause n w latch).on (PWR_DST d) PWR_DST_FAULT = !latch := by
  refine (congrArg (· != 0) (h.faulted_dst hd cause n w latch PWR_DST_FAULT)).trans ?_
  refine (Shared.on_setB_field _ _ _ _ _ (by decide)).trans ?_
  exact Shared.on_setB_same _ _ _ _ (by decide)

theorem Shared.faulted_latched : (h.faulted d cause n w latch).on (PWR_DST d) PWR_DST_LATCHED = latch :=
  (congrArg (· != 0) (h.faulted_dst hd cause n w latch PWR_DST_LATCHED)).trans (Shared.on_setB_same _ _ _ _ (by decide))

omit hd in
theorem Shared.faulted_count : (h.faulted d cause n w latch).pwr.faults.at 0 d = n := Trie.at_upd_same ..

/-! ### The domain after it -/

/-- The registers of the domains and their counts, from which those of a domain that was switched follow. -/
structure Shared.switched (d : Nat) (on : Bool) (h g : Shared) : Prop where
  on_ : g.on (PWR_DST d) PWR_DST_ON = on
  good : g.on (PWR_DST d) PWR_DST_GOOD = on
  dom : g.on PWR_DOM ⟨d, 1⟩ = on
  fld : ∀ f, fldsApart f PWR_DST_ON → fldsApart f PWR_DST_GOOD → g.fld (PWR_DST d) f = h.fld (PWR_DST d) f
  pwr : g.pwr = h.pwr

theorem Shared.switched_of_domSet {h g : Shared} (on : Bool) (hg : (h.domSet d on).domainsKept g) : h.switched d on g where
  on_ := (hg.on hd _).trans (h.domSet_on hd on)
  good := (hg.on hd _).trans (h.domSet_good hd on)
  dom := (Shared.on_of_rd_eq hg.dom _).trans (h.domSet_dom on hd)
  fld f hon hgood := (hg.fld hd f).trans (h.domSet_fld hd on hon hgood)
  pwr := hg.pwr

end

theorem Shared.switched.flag {d : Nat} {on : Bool} {h g : Shared} (hg : h.switched d on g) (f : Fld)
    (hon : fldsApart f PWR_DST_ON := by decide) (hgood : fldsApart f PWR_DST_GOOD := by decide) :
    g.on (PWR_DST d) f = h.on (PWR_DST d) f :=
  congrArg (· != 0) (hg.fld f hon hgood)

theorem State.domainFault_of_retainable {d : Nat} (hd : 3 ≤ d) (cause t : Nat) (s : State) :
    let w := s.sh.gt + t
    let n := s.sh.faultCount d w
    let latch := retried d && decide (3 ≤ n)
    s.domainFault d cause t = (((s.withSh ((s.sh.faultWindow w).faulted d cause n w latch)).domainOff d t).pwrRec 0x0E05 d cause n
      latch.toNat).told (Lane.evCut · evDomain) := by
  dsimp only
  rw [← s.sh.faultWindow_count]
  unfold State.domainFault
  rw [if_neg (by omega)]
  rfl

theorem State.domainFault_switched {d : Nat} (hd3 : 3 ≤ d) (hd : d < 14) (cause t : Nat) (s : State) :
    let w := s.sh.gt + t
    let n := s.sh.faultCount d w
    let latch := retried d && decide (3 ≤ n)
    ((s.sh.faultWindow w).faulted d cause n w latch).switched d false (s.domainFault d cause t).sh := by
  intro w n latch
  obtain ⟨h, hbefore, hafter⟩ := State.domainOff_domainsKept (s.withSh ((s.sh.faultWindow w).faulted d cause n w latch)) t hd
  have hrow := State.domainFault_of_retainable hd3 cause t s
  rw [hrow, State.told_sh]
  have hoff := Shared.switched_of_domSet hd false (hafter.trans (State.pwrRec_domainsKept _ 0x0E05 d cause n latch.toNat))
  exact ⟨hoff.on_, hoff.good, hoff.dom, fun f hon hgood => (hoff.fld f hon hgood).trans (hbefore.fld hd f), hoff.pwr.trans hbefore.pwr⟩

/-! ### The switch-on of a domain (R613, R616) -/

theorem State.told_st (s : State) {f : Lane → Lane} (hf : ∀ l, (f l).st = l.st) (i : LaneId) :
    ((s.told f).lane i).st = (s.lane i).st := by
  rw [State.told, State.onLanes_lane]
  split
  · exact hf _
  · rfl

section
variable {s : State} {d : Nat}

/-- Step 6 ends once the last of its domains has been tried. -/
def State.stepSixIf (ds : List Nat) (s : State) : State := if s.sh.start.phase == .fired && ds.all s.sh.tried then s.stepSix else s

theorem State.stepSixIf_domainsKept (ds : List Nat) : s.sh.domainsKept (s.stepSixIf ds).sh := by
  unfold State.stepSixIf
  split
  · exact .of_eq rfl rfl
  · exact .refl _

theorem State.stepSixIf_lane (ds : List Nat) (i : LaneId) : (s.stepSixIf ds).lane i = s.lane i := by
  unfold State.stepSixIf
  split <;> rfl

theorem State.switchOn_of_due (hin : s.sh.startDomains.contains d = true) (hnew : s.sh.tried d = false)
    (hbefore : (s.sh.startDomains.takeWhile (· != d)).all s.sh.tried = true) :
    s.switchOn d true = ((s.domainOn d 0).told (Lane.evCut · evDomain)).stepSixIf s.sh.startDomains := by
  have hany : (s.sh.startDomains.takeWhile (· != d)).any (fun x => !s.sh.tried x) = false := by
    rw [List.all_eq_true] at hbefore
    simp only [List.any_eq_false, Bool.not_eq_true, Bool.not_eq_false']
    exact hbefore
  unfold State.switchOn
  dsimp only
  rw [if_neg (by simp only [hin, hnew, hany]; decide)]
  rfl

theorem State.switchOn_switched (hd : d < 14) (hin : s.sh.startDomains.contains d = true) (hnew : s.sh.tried d = false)
    (hbefore : (s.sh.startDomains.takeWhile (· != d)).all s.sh.tried = true) : s.sh.switched d true (s.switchOn d true).sh := by
  rw [State.switchOn_of_due hin hnew hbefore]
  exact Shared.switched_of_domSet hd true (.trans (s.domainOn_domainsKept 0 hd)
    (State.stepSixIf_domainsKept (s := (s.domainOn d 0).told (Lane.evCut · evDomain)) _))

/-- A core domain that comes on out of bisque mode fires its lane. -/
theorem State.coreFire_st (u : State) (i : LaneId) (hbisque : u.sh.bisque = false) :
    ((if (u.laneFire i).sh.bisque then (u.laneFire i).laneBisque i else u.laneFire i).lane i).st = .firing := by
  obtain ⟨f, g, hfire⟩ := u.laneFire_eq i
  rw [hfire]
  have hoff : (((u.upd i f).upd i g).laneTo i .firing false 3 0).sh.bisque = false := by
    obtain ⟨e, he⟩ := (State.laneTo_moved ((u.upd i f).upd i g) i .firing false 3 0).shared
    rw [he, State.upd_sh, State.upd_sh]
    exact hbisque
  rw [hoff, if_neg (by decide)]
  exact State.laneTo_st ..

theorem State.switchOn_st (i : LaneId) (hd : d = 5 + i.num) (hin : s.sh.startDomains.contains d = true) (hnew : s.sh.tried d = false)
    (hbefore : (s.sh.startDomains.takeWhile (· != d)).all s.sh.tried = true) (hbisque : s.sh.bisque = false) :
    ((s.switchOn d true).lane i).st = .firing := by
  rw [State.switchOn_of_due hin hnew hbefore, State.stepSixIf_lane, State.told_st _ (fun l => Lane.evCut_st l evDomain)]
  subst hd
  cases i <;> exact State.coreFire_st (s.withSh (s.sh.domSet _ true)) _ hbisque

theorem State.domainRetry_of_due (hd : d < 14) {t : Nat} (hretried : retried d = true) (htrip : s.sh.pwr.tripped = false)
    (hfault : s.sh.on (PWR_DST d) PWR_DST_FAULT = true) (hdue : s.sh.pwr.faultAt.at 0 d + 100000000 ≤ s.sh.gt + t) :
    (s.sh.setB (PWR_DST d) PWR_DST_FAULT false).switched d true (s.domainRetry d true t).sh := by
  have hrow : s.domainRetry d true t =
      ((((s.withSh (s.sh.setB (PWR_DST d) PWR_DST_FAULT false)).domainOn d t)).pwrRec 0x0E06 d
        (((s.withSh (s.sh.setB (PWR_DST d) PWR_DST_FAULT false)).domainOn d t).sh.fld (PWR_DST d) PWR_DST_FAULTS) 0 0).told
        (Lane.evCut · evDomain) := by
    unfold State.domainRetry
    dsimp only
    rw [if_neg (by simp [hretried, htrip, hfault, hdue]), if_neg (by decide)]
  rw [hrow, State.told_sh]
  exact Shared.switched_of_domSet hd true (.trans (State.domainOn_domainsKept (s.withSh _) t hd) (State.pwrRec_domainsKept _ _ _ _ _ _))

theorem State.domainRetry_of_tripped (good : Bool) (t : Nat) (htrip : s.sh.pwr.tripped = true) : s.domainRetry d good t = s := by
  unfold State.domainRetry
  dsimp only
  rw [htrip]
  simp

theorem State.resetBegin_powerOn (s : State) : (s.resetBegin 1).sh.start.phase = .reset ∧ (s.resetBegin 1).sh.start.cause = 1 ∧
    (s.resetBegin 1).a.st = .off ∧ (s.resetBegin 1).b.st = .off := ⟨rfl, rfl, rfl, rfl⟩

end

/-- Settles O59: of the registers that show a domain, its switching leaves what `Shared.switched` says. -/
theorem domainRows : Obligations.DomainRows := by
  refine ⟨fun d s hin hnew hbefore => ?on, fun d cause u s hd hon hcause => ?fault, fun d cause u s hd hon hcause => ?always,
    fun d good u s htrip => ?tripped, fun d u s hretried htrip hfault hdue => ?retry⟩
  case on =>
    have hsw := State.switchOn_switched d.isLt hin hnew hbefore
    exact ⟨_, rfl, hsw.on_, hsw.good, hsw.dom, fun hd hbisque => State.switchOn_st .A hd hin hnew hbefore hbisque,
      fun hd hbisque => State.switchOn_st .B hd hin hnew hbefore hbisque⟩
  case fault =>
    intro n latch
    have hrow : exec (.domainFault d cause u) s = .next (s.domainFault d cause.toNat u) := by
      simp [exec, execDomainFault, hon, hcause]
    have hsw := State.domainFault_switched hd d.isLt cause.toNat u s
    refine ⟨_, hrow, hsw.on_, hsw.good, ?_, ?_, ?_, ?_, ?_, ?_⟩
    · rw [hsw.fld _ (by decide) (by decide), Shared.faulted_cause _ d.isLt]
      exact Nat.mod_eq_of_lt cause.isLt
    · exact (hsw.flag _).trans (Shared.faulted_latched _ d.isLt ..)
    · exact (hsw.flag _).trans (Shared.faulted_fault _ d.isLt ..)
    · exact (hsw.fld _ (by decide) (by decide)).trans (Shared.faulted_wcnt _ d.isLt ..)
    · exact (congrArg (fun p : PwrHw => p.faults.at 0 d.val) hsw.pwr).trans (Shared.faulted_count ..)
    · rw [hsw.fld _ (by decide) (by decide), Shared.faulted_faults _ d.isLt, Shared.faultWindow_faults _ d.isLt]
  case always =>
    have hrow : exec (.domainFault d cause u) s = .next (s.resetBegin 1) := by
      simp [exec, execDomainFault, hon, hcause, State.domainFault, hd]
    exact ⟨_, hrow, s.resetBegin_powerOn⟩
  case tripped => exact congrArg Host.Outcome.next (State.domainRetry_of_tripped good u htrip)
  case retry =>
    have hsw := State.domainRetry_of_due d.isLt hretried htrip hfault hdue
    refine ⟨_, rfl, hsw.on_, hsw.good, (hsw.flag _).trans (Shared.on_setB_same _ _ _ _ (by decide)), ?_⟩
    exact (hsw.flag _).trans (Shared.on_setB_field _ _ _ _ _ (by decide))

end Sys2Proof.Machine
end

section
/-! The bit windows (R568, R573, R580) in a state whose selected bank is none of the 32 of R559: the status word that the row names then
lies outside MEM_BST. -/

namespace Sys2Proof.Machine

/-- A lane that computes and finds the first word of "bank 68" uncorrectable; the place of the owner of a bank 68 holds HOST. -/
def laneWithBank68 : Lane :=
  ({ id := .A, st := .active, mw := { bad := [8192 * 68] } } : Lane).wr (MEM_OWN 68) 1#32

/-- The node with that lane, whose window select names "bank 68". -/
def nodeWithBank68 : State := { State.reset with a := laneWithBank68, sh := { State.reset.sh with sel := 68 } }

/-- MEM_FAULT lies where the status of a bank 68 would. -/
theorem MEM_BST_68 : MEM_BST 68 = MEM_FAULT := rfl

theorem laneWithBank68_owner : laneWithBank68.owner 68 = 1 := by decide

theorem bankWrite_of_bad {l : Lane} {mode b o : Nat} (v : Word) (howner : l.owner b = 1)
    (hbad : l.mw.bad.contains (8192 * b + o / 2) = true) : (l.bankWrite mode b o v).regs = (l.faultSeen b (o / 2) 14 1).regs := by
  unfold Lane.bankWrite
  rw [howner, if_neg (by decide)]
  dsimp only
  rw [if_pos hbad]

/-- The word of MEM_FAULT overwrites the count. -/
theorem laneWithBank68_uncorr : (laneWithBank68.faultSeen 68 0 14 1).fld (MEM_BST 68) MEM_BST_UNCORR = 120 := by decide

/-- Refutes O35: with a bank selected beyond the 32, which no run reaches and no premise of the row excludes, the write of MEM_FAULT
overwrites what the row says of UNCORR. -/
theorem not_bankRows : ¬ Obligations.BankRows := by
  intro h
  obtain ⟨-, -, -, -, -, -, -, huncorrectable, -⟩ := h
  obtain ⟨t, ht, -, -, -, -, hcount, -⟩ := huncorrectable 0#14 0#32 0#32 (.bitSetWrite 0#14 0#32) nodeWithBank68 .A (by simp) rfl
    laneWithBank68_owner rfl rfl
  cases ht
  have hregs : (laneWithBank68.bankWrite 1 68 0 0#32).regs = _ := bankWrite_of_bad 0#32 laneWithBank68_owner rfl
  have hshown : (laneWithBank68.bankWrite 1 68 0 0#32).fld (MEM_BST 68) MEM_BST_UNCORR = 120 :=
    (Lane.fld_of_regs_eq hregs _ _).trans laneWithBank68_uncorr
  have hbefore : laneWithBank68.fld (MEM_BST 68) MEM_BST_UNCORR = 0 := by decide
  have hsaid : (laneWithBank68.bankWrite 1 68 0 0#32).fld (MEM_BST 68) MEM_BST_UNCORR = 1 :=
    hcount.trans (congrArg (fun n => min 255 (n + 1)) hbefore)
  exact absurd (hshown.symm.trans hsaid) (by decide)

end Sys2Proof.Machine
end

section
/-! Faults of the memory banks and the scrubber (R571–R576). -/

namespace Sys2Proof.Machine

/-! ### A fault as a lane shows it (R573) -/

/-- The word of MEM_FAULT. -/
def faultWord (b w acc kind n : Nat) : Word :=
  MEM_FAULT_BANK.put b (MEM_FAULT_WORD.put w (MEM_FAULT_ACCESSOR.put acc (MEM_FAULT_KIND.put kind (MEM_FAULT_COUNT.put n 0#32))))

section
variable (b w acc kind n : Nat)

theorem faultWord_bank : MEM_FAULT_BANK.get (faultWord b w acc kind n) = b % 32 := Fld.get_put_same _ _ _ (by decide)

theorem faultWord_word : MEM_FAULT_WORD.get (faultWord b w acc kind n) = w % 8192 := by
  rw [faultWord, Fld.get_put_apart (by decide), Fld.get_put_same _ _ _ (by decide)]
  rfl

theorem faultWord_accessor : MEM_FAULT_ACCESSOR.get (faultWord b w acc kind n) = acc % 16 := by
  rw [faultWord, Fld.get_put_apart (by decide), Fld.get_put_apart (by decide), Fld.get_put_same _ _ _ (by decide)]
  rfl

theorem faultWord_kind : MEM_FAULT_KIND.get (faultWord b w acc kind n) = kind % 4 := by
  rw [faultWord, Fld.get_put_apart (by decide), Fld.get_put_apart (by decide), Fld.get_put_apart (by decide),
    Fld.get_put_same _ _ _ (by decide)]
  rfl

theorem faultWord_count : MEM_FAULT_COUNT.get (faultWord b w acc kind n) = n % 256 := by
  rw [faultWord, Fld.get_put_apart (by decide), Fld.get_put_apart (by decide), Fld.get_put_apart (by decide),
    Fld.get_put_apart (by decide), Fld.get_put_same _ _ _ (by decide)]
  rfl

end

section
variable (l : Lane) {b : Nat} (hb : b < 32) (w acc kind : Nat)

theorem MEM_BST_lt (hb : b < 32) : MEM_BST b < 2 ^ 20 := by
  unfold MEM_BST
  omega

theorem MEM_BST_ne_FAULT (hb : b < 32) : MEM_BST b % 2 ^ 20 ≠ MEM_FAULT % 2 ^ 20 := by
  unfold MEM_BST MEM_FAULT
  omega

theorem MEM_BST_ne_PEND (hb : b < 32) {e : Nat} (he : e < 192) : MEM_BST b % 2 ^ 20 ≠ EVT_PEND (e / 32) % 2 ^ 20 := by
  unfold MEM_BST EVT_PEND
  omega

theorem Lane.evNow_rd_ne {k e : Nat} (hk : k % 2 ^ 20 ≠ EVT_PEND (e / 32) % 2 ^ 20) : (l.evNow e).rd k = l.rd k :=
  Lane.rd_wr_ne _ _ _ _ hk

theorem Lane.regsBut.evNow {ks : List Nat} {l m : Lane} (hm : l.regsBut ks m) {e : Nat} (he : e < 192) (hks : EVT_PEND (e / 32) ∈ ks) :
    l.regsBut ks (m.evNow e) :=
  (hm.wr (by unfold EVT_PEND; omega) hks _).of_regs_eq rfl

theorem Lane.faultSeen_fault : (l.faultSeen b w acc kind).rd MEM_FAULT =
    faultWord b w acc kind (min 255 (l.fld MEM_FAULT MEM_FAULT_COUNT + 1)) := by
  unfold Lane.faultSeen
  dsimp only
  rw [Lane.evNow_rd_ne _ (by decide), Lane.rd_wr_same]
  rfl

theorem Lane.faultSeen_pending : bitOf ((l.faultSeen b w acc kind).rd (EVT_PEND (evMemFault / 32))) (evMemFault % 32) = true :=
  Lane.evNow_pending _ evMemFault

theorem Lane.faultSeen_mw : (l.faultSeen b w acc kind).mw = l.mw := by
  unfold Lane.faultSeen
  dsimp only
  split <;> rfl

theorem Lane.faultSeen_instep : (l.faultSeen b w acc kind).instep = l.instep := by
  unfold Lane.faultSeen
  dsimp only
  split <;> rfl

theorem Lane.faultSeen_adj : (l.faultSeen b w acc kind).adj = l.adj := by
  unfold Lane.faultSeen
  dsimp only
  split <;> rfl

theorem Lane.faultSeen_regsBut_of_parity : l.regsBut [MEM_FAULT, EVT_PEND (evMemFault / 32)] (l.faultSeen b w acc 2) :=
  ((Lane.regsBut.refl _ l).wr (by decide) (by simp) _).evNow (by decide) (by simp)

include hb

theorem Lane.faultSeen_regsBut_of_uncorr :
    l.regsBut [MEM_FAULT, MEM_BST b, EVT_PEND (evMemFault / 32)] (l.faultSeen b w acc 1) :=
  (((Lane.regsBut.refl _ l).setF (MEM_BST_lt hb) (by simp) _ _).wr (by decide) (by simp) _).evNow (by decide) (by simp)

theorem Lane.faultSeen_uncorr :
    (l.faultSeen b w acc 1).fld (MEM_BST b) MEM_BST_UNCORR = min 255 (l.fld (MEM_BST b) MEM_BST_UNCORR + 1) := by
  have hrd : (l.faultSeen b w acc 1).rd (MEM_BST b) = (l.bump (MEM_BST b) MEM_BST_UNCORR).rd (MEM_BST b) :=
    (Lane.evNow_rd_ne _ (MEM_BST_ne_PEND hb (by decide))).trans (Lane.rd_wr_ne _ _ _ _ (MEM_BST_ne_FAULT hb))
  rw [Lane.fld_of_rd_eq hrd, Lane.fld_bump_same _ _ _ (by decide)]
  rfl

end

/-! ### A fault of a bank (R573) -/

/-- The lane with the bad word noted. -/
def Lane.wordBad (i : Nat) (l : Lane) : Lane := { l with mw := { l.mw with bad := i :: l.mw.bad.filter (· != i) } }

section
variable {s : State} {i : LaneId} {b : Nat} (w acc kind : Nat)

theorem not_workingOwner {o : Nat} (ho : o < 2) : workingOwner o = false := by
  unfold workingOwner
  rw [decide_eq_false (by omega)]
  rfl

theorem State.memFault_of_on (hon : (s.lane i).st ≠ .off) : s.memFault i b w acc kind =
    (if workingOwner ((s.lane i).owner b) then (s.upd i (Lane.faultSeen b w acc kind)).laneFault i (ownerUnit ((s.lane i).owner b))
    else if kind = 1 then (s.upd i (Lane.faultSeen b w acc kind)).upd i (Lane.wordBad (8192 * b + w))
    else s.upd i (Lane.faultSeen b w acc kind)) := by
  have hoff : ((s.lane i).st == .off) = false := by simp [hon]
  unfold State.memFault
  dsimp only
  rw [hoff, if_neg (by decide)]
  rfl

theorem State.memFault_uncorr (hon : (s.lane i).st ≠ .off) (howner : (s.lane i).owner b < 2) :
    s.memFault i b w acc 1 = s.upd i (fun l => (l.faultSeen b w acc 1).wordBad (8192 * b + w)) := by
  rw [State.memFault_of_on _ _ _ hon, not_workingOwner howner, if_neg (by decide), if_pos rfl, State.upd_upd]

theorem State.memFault_parity (hon : (s.lane i).st ≠ .off) (howner : (s.lane i).owner b < 2) :
    s.memFault i b w acc 2 = s.upd i (Lane.faultSeen b w acc 2) := by
  rw [State.memFault_of_on _ _ _ hon, not_workingOwner howner, if_neg (by decide), if_neg (by decide)]

theorem State.memFault_unit (hon : (s.lane i).st ≠ .off) (hstep : (s.lane i).instep = true)
    (howner : workingOwner ((s.lane i).owner b) = true) : s.memFault i b w acc kind =
      s.upd i (fun l => (l.faultSeen b w acc kind).faultFound (ownerUnit ((s.lane i).owner b))) := by
  have hstep' : ((s.upd i (Lane.faultSeen b w acc kind)).lane i).instep = true := by
    rw [State.upd_lane, Lane.faultSeen_instep, hstep]
  rw [State.memFault_of_on _ _ _ hon, if_pos howner, State.laneFault_of_instep _ hstep', State.upd_upd]

end

/-! ### The scrubber (R571, R574, R576) -/

/-- The read of a word before is forgotten. -/
def Lane.readOnce (l : Lane) : Lane := { l with mw := { l.mw with again := none } }

/-- The word is to be read again. -/
def Lane.readAgain (p : Nat) (l : Lane) : Lane := { l with mw := { l.mw with again := some p } }

section
variable (l : Lane) (g : Nat)

theorem Lane.scrubNext_of_within {p : Nat} (hpos : l.fld MEM_SCRUB MEM_SCRUB_POS = p) (hp : p < 262143) :
    l.scrubNext g = l.setF MEM_SCRUB MEM_SCRUB_POS (p + 1) := by
  unfold Lane.scrubNext
  rw [hpos]
  exact if_pos (by omega)

theorem Lane.scrubNext_pos {p : Nat} (hpos : l.fld MEM_SCRUB MEM_SCRUB_POS = p) (hp : p < 262143) :
    (l.scrubNext g).fld MEM_SCRUB MEM_SCRUB_POS = p + 1 := by
  rw [l.scrubNext_of_within g hpos hp, Lane.fld_setF_same _ _ _ _ (by decide)]
  exact Nat.mod_eq_of_lt (by rw [show 2 ^ MEM_SCRUB_POS.width = 262144 from rfl]; omega)

theorem Lane.scrubNext_regs_of_last (hpos : l.fld MEM_SCRUB MEM_SCRUB_POS = 262143) : (l.scrubNext g).regs =
    (((l.setF MEM_SCRUB MEM_SCRUB_POS 0).wrap MEM_SCRUB MEM_SCRUB_PASSES).wr MEM_SCRUBT
      (MEM_SCRUBT_MS.put (min 4095 ((g - l.mw.passAt) / 1000000)) 0#32)).regs := by
  unfold Lane.scrubNext
  rw [hpos]
  rfl

theorem Lane.scrubNext_effect_of_last (hpos : l.fld MEM_SCRUB MEM_SCRUB_POS = 262143) :
    l.regsBut [MEM_SCRUB, MEM_SCRUBT] (l.scrubNext g) ∧ (l.scrubNext g).fld MEM_SCRUB MEM_SCRUB_POS = 0 ∧
      (l.scrubNext g).fld MEM_SCRUB MEM_SCRUB_PASSES = (l.fld MEM_SCRUB MEM_SCRUB_PASSES + 1) % 16384 := by
  have hregs := l.scrubNext_regs_of_last g hpos
  refine ⟨?_, ?_, ?_⟩
  · exact ((((Lane.regsBut.refl _ l).setF (by decide) (by simp) _ _).setF (by decide) (by simp) _ _).wr (by decide) (by simp) _).of_regs_eq
      hregs
  · rw [Lane.fld_of_regs_eq hregs, Lane.fld_wr_ne _ _ _ _ _ (by decide), Lane.wrap, Lane.fld_setF_field _ _ _ _ _ (by decide),
      Lane.fld_setF_same _ _ _ _ (by decide)]
    rfl
  · rw [Lane.fld_of_regs_eq hregs, Lane.fld_wr_ne _ _ _ _ _ (by decide), Lane.fld_wrap_same _ _ _ (by decide),
      Lane.fld_setF_field _ _ _ _ _ (by decide)]
    rfl

/-- The count of a corrected word and its event. -/
def Lane.corrCounted (b : Nat) (l : Lane) : Lane := (l.bump (MEM_BST b) MEM_BST_CORR).evNow evMemCorr

theorem Lane.scrubFix_regs (b p : Nat) : (l.scrubFix b p).regs =
    (if l.mw.prev.contains p && !(l.corrCounted b).on (MEM_BST b) MEM_BST_HARD then
      ((l.corrCounted b).setB (MEM_BST b) MEM_BST_HARD true).evNow evMemFault else l.corrCounted b).regs := rfl

theorem Lane.scrubFix_effect {b : Nat} (hb : b < 32) (p : Nat) :
    (l.scrubFix b p).fld MEM_SCRUB MEM_SCRUB_POS = l.fld MEM_SCRUB MEM_SCRUB_POS ∧
      (l.scrubFix b p).fld (MEM_BST b) MEM_BST_CORR = min 65535 (l.fld (MEM_BST b) MEM_BST_CORR + 1) ∧
      (l.scrubFix b p).on (MEM_BST b) MEM_BST_HARD = (l.on (MEM_BST b) MEM_BST_HARD || l.mw.prev.contains p) := by
  have hbst : MEM_SCRUB % 2 ^ 20 ≠ MEM_BST b % 2 ^ 20 := by
    unfold MEM_SCRUB MEM_BST
    omega
  have hcounted : (l.corrCounted b).rd (MEM_BST b) = (l.bump (MEM_BST b) MEM_BST_CORR).rd (MEM_BST b) :=
    Lane.evNow_rd_ne _ (MEM_BST_ne_PEND hb (by decide))
  have hpos : (l.corrCounted b).fld MEM_SCRUB MEM_SCRUB_POS = l.fld MEM_SCRUB MEM_SCRUB_POS :=
    (Lane.fld_of_rd_eq (Lane.evNow_rd_ne _ (by decide)) _).trans (Lane.fld_setF_ne _ _ _ _ _ _ hbst)
  have hcorr : (l.corrCounted b).fld (MEM_BST b) MEM_BST_CORR = min 65535 (l.fld (MEM_BST b) MEM_BST_CORR + 1) :=
    (Lane.fld_of_rd_eq hcounted _).trans (Lane.fld_bump_same _ _ _ (by decide))
  have hhard : (l.corrCounted b).on (MEM_BST b) MEM_BST_HARD = l.on (MEM_BST b) MEM_BST_HARD :=
    (Lane.on_of_rd_eq hcounted _).trans (Lane.on_bump_field _ _ (by decide))
  have hset : (((l.corrCounted b).setB (MEM_BST b) MEM_BST_HARD true).evNow evMemFault).rd (MEM_BST b) =
      ((l.corrCounted b).setB (MEM_BST b) MEM_BST_HARD true).rd (MEM_BST b) := Lane.evNow_rd_ne _ (MEM_BST_ne_PEND hb (by decide))
  have hregs := l.scrubFix_regs b p
  rw [Lane.fld_of_regs_eq hregs, Lane.fld_of_regs_eq hregs, Lane.on_of_regs_eq hregs, hhard]
  split
  case isTrue h =>
    simp only [Bool.and_eq_true, Bool.not_eq_true'] at h
    refine ⟨?_, ?_, ?_⟩
    · exact ((Lane.fld_of_rd_eq (Lane.evNow_rd_ne _ (by decide)) _).trans (Lane.fld_setF_ne _ _ _ _ _ _ hbst)).trans hpos
    · exact ((Lane.fld_of_rd_eq hset _).trans (Lane.fld_setB_field _ _ _ (by decide))).trans hcorr
    · rw [Lane.on_of_rd_eq hset, Lane.on_setB_same _ _ _ _ (by decide), h.1, Bool.or_true]
  case isFalse h =>
    refine ⟨hpos, hcorr, hhard.trans ?_⟩
    cases hprev : l.mw.prev.contains p <;> simp_all

end

/-! ### The rows -/

theorem State.scrub_of_on {s : State} {i : LaneId} (hon : (s.lane i).st ≠ .off) (t : Nat) :
    s.scrub i 0 t = s.upd i (fun l => l.readOnce.scrubNext (s.sh.gt + t)) ∧
    s.scrub i 1 t = s.upd i (fun l => (l.readOnce.scrubFix ((s.lane i).fld MEM_SCRUB MEM_SCRUB_POS / 8192)
      ((s.lane i).fld MEM_SCRUB MEM_SCRUB_POS)).scrubNext (s.sh.gt + t)) ∧
    ((s.lane i).mw.again ≠ some ((s.lane i).fld MEM_SCRUB MEM_SCRUB_POS) →
      s.scrub i 3 t = s.upd i (Lane.readAgain ((s.lane i).fld MEM_SCRUB MEM_SCRUB_POS))) := by
  have hoff : ((s.lane i).st == .off) = false := by simp [hon]
  refine ⟨?_, ?_, fun hnew => ?_⟩
  · unfold State.scrub
    dsimp only
    rw [hoff, if_neg (by decide), State.upd_upd]
    rfl
  · unfold State.scrub
    dsimp only
    rw [hoff, if_neg (by decide)]
    exact (congrArg (fun x => State.upd x i _) (State.upd_upd ..)).trans (State.upd_upd ..)
  · have hagain : ((s.lane i).mw.again == some ((s.lane i).fld MEM_SCRUB MEM_SCRUB_POS)) = false := by simp [hnew]
    unfold State.scrub
    dsimp only
    rw [hoff, if_neg (by decide), hagain, if_neg (by decide)]
    rfl

/-- Settles O34: what a fault shows is in one word of MEM_FAULT; a read of the scrubber is one operation on its lane. -/
theorem memoryFaultRows : Obligations.MemoryFaultRows := by
  refine ⟨fun i b w acc s hon howner => ?uncorr, fun i b w acc s hon howner => ?parity,
    fun i b w acc kind c s hc hstep hon hlow hhigh => ?unit, fun i dt s hon hpos => ?clean, fun i dt s hon hpos => ?corrected,
    fun i dt s hon hpos => ?last, fun i dt s hon hnew => ?again⟩
  case uncorr =>
    have hfld := fun f : Fld => congrArg f.get ((s.lane i).faultSeen_fault (b := b.val) w acc.toNat 1)
    refine ⟨_, congrArg Host.Outcome.next (State.memFault_uncorr w acc.toNat hon howner), s.upd_otherKept _ _, ?_⟩
    rw [State.upd_lane]
    refine ⟨(s.lane i).faultSeen_regsBut_of_uncorr b.isLt w acc.toNat, ?_, ?_, ?_, ?_, ?_,
      (s.lane i).faultSeen_uncorr b.isLt w acc.toNat, (s.lane i).faultSeen_pending .., List.mem_cons_self⟩
    · exact (hfld _).trans ((faultWord_bank ..).trans (Nat.mod_eq_of_lt b.isLt))
    · exact (hfld _).trans ((faultWord_word ..).trans (Nat.mod_eq_of_lt w.isLt))
    · exact (hfld _).trans ((faultWord_accessor ..).trans (Nat.mod_eq_of_lt acc.isLt))
    · exact (hfld _).trans (faultWord_kind ..)
    · exact (hfld _).trans ((faultWord_count ..).trans (Nat.mod_eq_of_lt (by omega)))
  case parity =>
    have hfld := fun f : Fld => congrArg f.get ((s.lane i).faultSeen_fault (b := b.val) w acc.toNat 2)
    refine ⟨_, congrArg Host.Outcome.next (State.memFault_parity w acc.toNat hon howner), s.upd_otherKept _ _, ?_⟩
    rw [State.upd_lane]
    refine ⟨(s.lane i).faultSeen_regsBut_of_parity w acc.toNat, (s.lane i).faultSeen_mw .., ?_, ?_, ?_, ?_⟩
    · exact (hfld _).trans ((faultWord_bank ..).trans (Nat.mod_eq_of_lt b.isLt))
    · exact (hfld _).trans ((faultWord_word ..).trans (Nat.mod_eq_of_lt w.isLt))
    · exact (hfld _).trans ((faultWord_accessor ..).trans (Nat.mod_eq_of_lt acc.isLt))
    · exact (hfld _).trans (faultWord_kind ..)
  case unit =>
    have hrow : exec c s = .next (s.memFault i b w acc.toNat kind) ∧ kind < 4 := by
      simp only [List.mem_cons, Prod.mk.injEq, List.not_mem_nil, or_false] at hc
      obtain ⟨rfl, rfl⟩ | ⟨rfl, rfl⟩ := hc <;> exact ⟨rfl, by decide⟩
    have howner : workingOwner ((s.lane i).owner b) = true := by simp [workingOwner, hlow, hhigh]
    refine ⟨_, hrow.1.trans (congrArg Host.Outcome.next (State.memFault_unit w acc.toNat kind hon hstep howner)), s.upd_otherKept _ _, ?_⟩
    rw [State.upd_lane]
    refine ⟨(congrArg MEM_FAULT_KIND.get ((s.lane i).faultSeen_fault ..)).trans ((faultWord_kind ..).trans (Nat.mod_eq_of_lt hrow.2)), ?_⟩
    exact congrArg (fun a : AdjWork => some (a.pre.getD _)) ((s.lane i).faultSeen_adj ..)
  case clean =>
    refine ⟨_, congrArg Host.Outcome.next (State.scrub_of_on hon dt).1, s.upd_otherKept _ _, ?_⟩
    rw [State.upd_lane]
    have hnext := (s.lane i).readOnce.scrubNext_of_within (s.sh.gt + dt) rfl hpos
    refine ⟨?_, (s.lane i).readOnce.scrubNext_pos _ rfl hpos, Lane.scrubNext_mem ..⟩
    rw [hnext]
    exact (Lane.regsBut_of_regs_eq _ rfl).setF (by decide) (by simp) _ _
  case corrected =>
    intro p
    have hbank : p / 8192 < 32 := by omega
    obtain ⟨hkept, hcorr, hhard⟩ := (s.lane i).readOnce.scrubFix_effect hbank p
    refine ⟨_, congrArg Host.Outcome.next (State.scrub_of_on hon dt).2.1, s.upd_otherKept _ _, ?_⟩
    rw [State.upd_lane]
    have hnext := ((s.lane i).readOnce.scrubFix (p / 8192) p).scrubNext_of_within (s.sh.gt + dt) hkept hpos
    have hbst : MEM_BST (p / 8192) % 2 ^ 20 ≠ MEM_SCRUB % 2 ^ 20 := by
      unfold MEM_SCRUB MEM_BST
      omega
    refine ⟨Lane.scrubNext_pos _ _ hkept hpos, (Lane.scrubNext_mem ..).trans (Lane.scrubFix_mem ..), ?_, ?_⟩
    · rw [hnext, Lane.fld_setF_ne _ _ _ _ _ _ hbst]
      exact hcorr
    · rw [hnext, Lane.on_of_rd_eq (Lane.rd_setF_ne _ _ _ _ _ hbst)]
      exact hhard
  case last =>
    refine ⟨_, congrArg Host.Outcome.next (State.scrub_of_on hon dt).1, s.upd_otherKept _ _, ?_⟩
    rw [State.upd_lane]
    exact (s.lane i).readOnce.scrubNext_effect_of_last _ hpos
  case again =>
    refine ⟨_, congrArg Host.Outcome.next ((State.scrub_of_on hon dt).2.2 hnew), s.upd_otherKept _ _, ?_⟩
    rw [State.upd_lane]
    exact ⟨rfl, rfl⟩

end Sys2Proof.Machine
end

section
/-! The status of a CAN buffer: its word with its bits in CAN_NEWw and CAN_TXFw, the locks of the accessors and a frame that is placed
(R382, R386, R387). -/

namespace Sys2Proof.Machine

/-- Keys below 2 ^ 20 that differ name different registers. -/
theorem key_apart {j k : Nat} (hj : j < 2 ^ 20) (hk : k < 2 ^ 20) (hne : j ≠ k) : j % 2 ^ 20 ≠ k % 2 ^ 20 := by
  rwa [Nat.mod_eq_of_lt hj, Nat.mod_eq_of_lt hk]

/-! ### The status word and its bits -/

/-- The registers that show the status of a buffer. -/
def bufRegs (b m : Nat) : List Nat := [CAN_BST b m, CAN_NEW b (m / 32), CAN_TXF b (m / 32)]

section
variable {b m : Nat} (hb : b < 2) (hm : m < 128) (l : Lane) (st : Word)

theorem Lane.setBst_eq : l.setBst b m st =
    (((l.wr (CAN_BST b m) st).wr (CAN_NEW b (m / 32)) (putBit ((l.wr (CAN_BST b m) st).rd (CAN_NEW b (m / 32))) (m % 32)
      (CAN_BST_NEW.on ((l.wr (CAN_BST b m) st).rd (CAN_BST b m)))))).wr (CAN_TXF b (m / 32))
      (putBit (((l.wr (CAN_BST b m) st).wr (CAN_NEW b (m / 32)) (putBit ((l.wr (CAN_BST b m) st).rd (CAN_NEW b (m / 32))) (m % 32)
        (CAN_BST_NEW.on ((l.wr (CAN_BST b m) st).rd (CAN_BST b m))))).rd (CAN_TXF b (m / 32))) (m % 32)
        (CAN_BST_TXF.on ((l.wr (CAN_BST b m) st).rd (CAN_BST b m)))) := rfl

@[simp] theorem Lane.setBst_can (b' : Nat) : (l.setBst b m st).can b' = l.can b' := rfl
@[simp] theorem Lane.setBst_raised : (l.setBst b m st).raised = l.raised := rfl
@[simp] theorem Lane.setBst_formed : (l.setBst b m st).formed = l.formed := rfl
@[simp] theorem Lane.setBst_lockOf (a : Accessor) : (l.setBst b m st).lockOf a = l.lockOf a := by cases a <;> rfl

theorem Lane.setBst_new : bitOf ((l.setBst b m st).rd (CAN_NEW b (m / 32))) (m % 32) = CAN_BST_NEW.on st := by
  rw [Lane.setBst_eq, Lane.rd_wr_ne _ _ _ _ (by unfold CAN_NEW CAN_TXF; omega), Lane.rd_wr_same, bitOf_putBit (Nat.mod_lt _ (by decide)),
    if_pos rfl, Lane.rd_wr_same]

theorem Lane.setBst_txf : bitOf ((l.setBst b m st).rd (CAN_TXF b (m / 32))) (m % 32) = CAN_BST_TXF.on st := by
  rw [Lane.setBst_eq, Lane.rd_wr_same, bitOf_putBit (Nat.mod_lt _ (by decide)), if_pos rfl, Lane.rd_wr_same]

include hb hm

theorem Lane.setBst_regsBut : l.regsBut (bufRegs b m) (l.setBst b m st) := by
  have hbst : CAN_BST b m < 2 ^ 20 := by unfold CAN_BST; omega
  have hnew : CAN_NEW b (m / 32) < 2 ^ 20 := by unfold CAN_NEW; omega
  have htxf : CAN_TXF b (m / 32) < 2 ^ 20 := by unfold CAN_TXF; omega
  exact (((Lane.regsBut.refl _ l).wr hbst (by simp [bufRegs]) _).wr hnew (by simp [bufRegs]) _).wr htxf (by simp [bufRegs]) _

theorem Lane.setBst_rd : (l.setBst b m st).rd (CAN_BST b m) = st := by
  have hbst : CAN_BST b m < 2 ^ 20 := by unfold CAN_BST; omega
  rw [Lane.setBst_eq, Lane.rd_wr_ne _ _ _ _ (key_apart hbst (by unfold CAN_TXF; omega) (by unfold CAN_BST CAN_TXF; omega)),
    Lane.rd_wr_ne _ _ _ _ (key_apart hbst (by unfold CAN_NEW; omega) (by unfold CAN_BST CAN_NEW; omega)), Lane.rd_wr_same]

theorem Lane.setBst_on (f : Fld) : (l.setBst b m st).on (CAN_BST b m) f = f.on st := Lane.on_of_rd (l.setBst_rd hb hm st) f

theorem Lane.setBst_fld (f : Fld) : (l.setBst b m st).fld (CAN_BST b m) f = f.get st := congrArg f.get (l.setBst_rd hb hm st)

end

/-! ### The locks of the accessors -/

section
variable (l : Lane) (a : Accessor) (x : Option (Nat × Nat × Nat))

theorem Lane.setLock_regs : (l.setLock a x).regs = l.regs := by cases a <;> rfl
@[simp] theorem Lane.setLock_rd (k : Nat) : (l.setLock a x).rd k = l.rd k := by cases a <;> rfl
@[simp] theorem Lane.setLock_can (b : Nat) : (l.setLock a x).can b = l.can b := by cases a <;> rfl
@[simp] theorem Lane.setLock_lockOf_same : (l.setLock a x).lockOf a = x := by cases a <;> rfl

variable {l a} in
theorem Lane.setLock_lockOf_ne {c : Accessor} (hne : c ≠ a) : (l.setLock a x).lockOf c = l.lockOf c :=
  match a, c, hne with
  | .host, .cnp, _ => rfl
  | .cnp, .host, _ => rfl
  | .host, .host, h => absurd rfl h
  | .cnp, .cnp, h => absurd rfl h

end

theorem Lane.heldBy_iff {l : Lane} {b m : Nat} {a : Accessor} :
    l.heldBy b m a = true ↔ ∃ t, l.lockOf a = some (b, m, t) := by
  unfold Lane.heldBy
  cases l.lockOf a with
  | none => simp
  | some x =>
    obtain ⟨b', m', t⟩ := x
    simp

theorem Lane.heldBy_of_lockOf_none {l : Lane} {a : Accessor} (h : l.lockOf a = none) (b m : Nat) : l.heldBy b m a = false := by
  rw [Lane.heldBy, h]
  rfl

theorem Lane.unlock_of_none {l : Lane} {a : Accessor} (h : l.lockOf a = none) : l.unlock a = l := by
  rw [Lane.unlock, h]

theorem Lane.unlock_of_some {l : Lane} {a : Accessor} {x : Nat × Nat × Nat} (h : l.lockOf a = some x) :
    l.unlock a = (l.setLock a none).canFree x.1 x.2.1 := by
  rw [Lane.unlock, h]

/-- A lock that ends leaves no holder where no other accessor holds the buffer. -/
theorem Lane.heldBy_setLock_none {l : Lane} {acc : Accessor} {b m : Nat} (hothers : ∀ a, a ≠ acc → l.heldBy b m a = false) (a : Accessor) :
    (l.setLock acc none).heldBy b m a = false := by
  by_cases h : a = acc
  · subst h
    exact Lane.heldBy_of_lockOf_none (Lane.setLock_lockOf_same ..) b m
  · rw [Lane.heldBy, Lane.setLock_lockOf_ne _ h]
    exact hothers a h

/-- The lane with LOCK of a buffer cleared. -/
def Lane.lockCleared (b m : Nat) (l : Lane) : Lane := l.setBst b m (CAN_BST_LOCK.put 0 (l.rd (CAN_BST b m)))

theorem Lane.canFree_of_empty {l : Lane} {b m : Nat} (hfree : ∀ a, l.heldBy b m a = false) (hpend : ∀ p ∈ (l.can b).pend, p.1 ≠ m) :
    l.canFree b m = l.lockCleared b m := by
  have hfind : (l.can b).pend.find? (fun p => p.1 == m) = none := List.find?_eq_none.mpr (by simpa using hpend)
  simp only [Lane.canFree, hfree, Bool.or_self, if_neg Bool.false_ne_true, Lane.setBst_can, hfind]
  rfl

/-- The lane with a kept frame let into its buffer. -/
def Lane.keptIn (b m : Nat) (x : CanIn) (l : Lane) : Lane :=
  let l := (l.setCan b { l.can b with pend := [] }).canPlace b m x
  l.setBst b m (CAN_BST_PEND.put 0 (CAN_BST_NEW.put 1 (l.rd (CAN_BST b m))))

theorem Lane.canFree_of_kept {l : Lane} {b m : Nat} {x : CanIn} (hfree : ∀ a, l.heldBy b m a = false) (hpend : (l.can b).pend = [(m, x)]) :
    l.canFree b m = (l.lockCleared b m).keptIn b m x := by
  simp only [Lane.canFree, hfree, Bool.or_self, if_neg Bool.false_ne_true, Lane.setBst_can, hpend, List.find?_cons, beq_self_eq_true,
    List.filter_cons, bne_self_eq_false, List.filter_nil]
  rfl

/-! ### A frame placed in a buffer -/

theorem CAN_BW_injective (b m : Nat) : Function.Injective (CAN_BW b m) := fun i j h => by
  unfold CAN_BW at h
  omega

section
variable {b m : Nat} (hb : b < 2) (hm : m < 128) (l : Lane) (x : CanIn)

/-- The lane with the words of a frame in a buffer. -/
def Lane.wordsPlaced (b m : Nat) (x : CanIn) (l : Lane) : Lane :=
  (upTo 18).foldl (fun l i => l.wr (CAN_BW b m i) ((frameWords x.rep.frame).getD i 0#32)) l

theorem Lane.canPlace_eq : l.canPlace b m x =
    ((l.wordsPlaced b m x).wr (CAN_TSLO b m) (w32 x.sof)).wr (CAN_TSHI b m) (w32 (x.sof / 2 ^ 32)) := rfl

theorem Lane.canPlace_rd_TSLO : (l.canPlace b m x).rd (CAN_TSLO b m) = w32 x.sof := by
  rw [Lane.canPlace_eq, Lane.rd_wr_ne _ _ _ _ (by unfold CAN_TSLO CAN_TSHI; omega), Lane.rd_wr_same]

include hb hm

theorem CAN_BW_lt {i : Nat} (hi : i < 18) : CAN_BW b m i < 2 ^ 20 := by
  unfold CAN_BW
  omega

theorem Lane.wordsPlaced_regsBut : l.regsBut ((upTo 18).map (CAN_BW b m)) (l.wordsPlaced b m x) :=
  Lane.foldl_wr_regsBut _ (fun _ hi => CAN_BW_lt hb hm (List.mem_range.mp hi)) l

theorem Lane.canPlace_rd_word {i : Nat} (hi : i < 18) :
    (l.canPlace b m x).rd (CAN_BW b m i) = (frameWords x.rep.frame).getD i 0#32 := by
  rw [Lane.canPlace_eq, Lane.rd_wr_ne _ _ _ _ (by unfold CAN_BW CAN_TSHI; omega),
    Lane.rd_wr_ne _ _ _ _ (by unfold CAN_BW CAN_TSLO; omega)]
  exact Lane.foldl_wr_rd _ (CAN_BW_injective b m) (fun _ hj => CAN_BW_lt hb hm (List.mem_range.mp hj)) (List.mem_range.mpr hi) l

theorem Lane.canPlace_rd_BST : (l.canPlace b m x).rd (CAN_BST b m) = l.rd (CAN_BST b m) := by
  rw [Lane.canPlace_eq, Lane.rd_wr_ne _ _ _ _ (by unfold CAN_BST CAN_TSHI; omega),
    Lane.rd_wr_ne _ _ _ _ (by unfold CAN_BST CAN_TSLO; omega)]
  refine l.wordsPlaced_regsBut hb hm x _ (by unfold CAN_BST; omega) ?_
  simp only [List.mem_map, upTo, List.mem_range, not_exists, not_and]
  intro i hi
  unfold CAN_BW CAN_BST
  omega

end

end Sys2Proof.Machine
end

section
/-! The states of the CAN buses and the locks of the receive buffers (R381, R386, R393–R400). -/

namespace Sys2Proof.Machine

/-! ### Keys -/

section
variable {b : Nat} (hb : b < 2)
include hb

theorem CAN_BST_lt {m : Nat} (hm : m < 128) : CAN_BST b m < 2 ^ 20 := by unfold CAN_BST; omega
theorem CAN_STAT_lt : CAN_STAT b < 2 ^ 20 := by unfold CAN_STAT; omega
theorem CAN_ERRC_lt : CAN_ERRC b < 2 ^ 20 := by unfold CAN_ERRC; omega
theorem CAN_CNT_lt : CAN_CNT b < 2 ^ 20 := by unfold CAN_CNT; omega
theorem CAN_LOCAL_lt : CAN_LOCAL b < 2 ^ 20 := by unfold CAN_LOCAL; omega

theorem CAN_STAT_ne_ERRC : CAN_STAT b % 2 ^ 20 ≠ CAN_ERRC b % 2 ^ 20 :=
  key_apart (CAN_STAT_lt hb) (CAN_ERRC_lt hb) (by unfold CAN_STAT CAN_ERRC; omega)
theorem CAN_STAT_ne_CNT : CAN_STAT b % 2 ^ 20 ≠ CAN_CNT b % 2 ^ 20 :=
  key_apart (CAN_STAT_lt hb) (CAN_CNT_lt hb) (by unfold CAN_STAT CAN_CNT; omega)

end

theorem busNum_lt (bus : Bus) : bus.num < 2 := by cases bus <;> decide

/-! ### ALONE and the error state (R393, R394) -/

section
variable {l : Lane} {b g : Nat}

/-- The lane with a new value of ALONE, its record and its event. -/
def Lane.aloneShown (g b n : Nat) (v : Bool) (l : Lane) : Lane :=
  ((l.setB (CAN_STAT b) CAN_STAT_ALONE v).record 0x0903 g (w32 (b + 1)) (w32 (b2n v)) (w32 n) 0#32).ev (evCanState b)

theorem Lane.canAlone_of_many (hrun : 16 ≤ l.fld (CAN_ERRC b) CAN_ERRC_ACKRUN) (hwas : l.on (CAN_STAT b) CAN_STAT_ALONE = false) :
    l.canAlone g b = l.aloneShown g b (l.fld (CAN_ERRC b) CAN_ERRC_ACKRUN) true := by
  have hne : l.fld (CAN_ERRC b) CAN_ERRC_ACKRUN ≠ 0 := by omega
  simp [Lane.canAlone, hne, hrun, hwas, Lane.aloneShown]

theorem Lane.canAlone_of_acknowledged (hrun : l.fld (CAN_ERRC b) CAN_ERRC_ACKRUN = 0) (hwas : l.on (CAN_STAT b) CAN_STAT_ALONE = true) :
    l.canAlone g b = l.aloneShown g b 0 false := by
  simp [Lane.canAlone, hrun, hwas, Lane.aloneShown]

theorem Lane.aloneShown_effect (hb : b < 2) (n : Nat) (v : Bool) : l.regsBut [CAN_STAT b] (l.aloneShown g b n v) ∧
    (l.aloneShown g b n v).on (CAN_STAT b) CAN_STAT_ALONE = v := by
  refine ⟨((Lane.regsBut.refl _ l).setB (CAN_STAT_lt hb) (by simp) _ _).of_regs_eq rfl, ?_⟩
  rw [Lane.aloneShown, Lane.on_ev, Lane.on_record, Lane.on_setB_same _ _ _ _ (by decide)]

theorem errState_lt (tec rxc : Nat) : errState tec rxc < 4 := by
  unfold errState
  split
  · decide
  · split <;> decide

theorem Lane.canState_rd_STAT (hb : b < 2) (time tec recv : Nat) :
    (l.canState b time tec recv).rd (CAN_STAT b) = (l.setF (CAN_STAT b) CAN_STAT_ESTATE (errState tec recv)).rd (CAN_STAT b) := by
  unfold Lane.canState
  dsimp only
  split
  · rw [Lane.rd_wr_ne _ _ _ _ (CAN_STAT_ne_ERRC hb)]
  · rw [Lane.rd_ev, Lane.rd_record]
    split
    · rw [Lane.bump, Lane.rd_setF_ne _ _ _ _ _ (CAN_STAT_ne_CNT hb), Lane.rd_wr_ne _ _ _ _ (CAN_STAT_ne_ERRC hb)]
    · rw [Lane.rd_wr_ne _ _ _ _ (CAN_STAT_ne_ERRC hb)]

theorem Lane.canState_estate (hb : b < 2) (time tec recv : Nat) :
    (l.canState b time tec recv).fld (CAN_STAT b) CAN_STAT_ESTATE = errState tec recv := by
  rw [Lane.fld_of_rd_eq (Lane.canState_rd_STAT hb time tec recv), Lane.fld_setF_same _ _ _ _ (by decide)]
  exact Nat.mod_eq_of_lt (errState_lt tec recv)

end

/-! ### Restricted operation and the lone-error window (R397, R399) -/

section
variable {l : Lane} {b g : Nat}

/-- The lane with restricted operation taken to a value. -/
def Lane.restrShown (b g cause : Nat) (v : Bool) (l : Lane) : Lane :=
  (((l.setB (CAN_STAT b) CAN_STAT_RESTR v).setCan b { l.can b with quiet := 0 }).record 0x0904 g (w32 (b + 1)) (w32 (b2n v))
    (w32 cause) 0#32).ev (evCanState b)

theorem Lane.canRestrict_of_change {cause : Nat} {v : Bool} (h : l.on (CAN_STAT b) CAN_STAT_RESTR ≠ v) :
    l.canRestrict b g cause v = l.restrShown b g cause v := by
  rw [Lane.canRestrict, if_neg (by simpa using h)]
  rfl

theorem Lane.restrShown_effect (hb : b < 2) (cause : Nat) (v : Bool) : l.regsBut [CAN_STAT b] (l.restrShown b g cause v) ∧
    (l.restrShown b g cause v).on (CAN_STAT b) CAN_STAT_RESTR = v ∧
    (l.restrShown b g cause v).fld (CAN_STAT b) CAN_STAT_LONES = l.fld (CAN_STAT b) CAN_STAT_LONES ∧
    (l.restrShown b g cause v).can b = { l.can b with quiet := 0 } := by
  refine ⟨((Lane.regsBut.refl _ l).setB (CAN_STAT_lt hb) (by simp) _ _).of_regs_eq rfl, ?_, ?_, Trie.at_upd_same ..⟩
  · exact Lane.on_setB_same _ _ _ _ (by decide)
  · exact Lane.fld_setF_field _ _ _ _ _ (by decide)

/-- The windows without a lone error in a row, at the start of the next one. -/
def Lane.quietWindows (l : Lane) (b : Nat) : Nat := if (l.can b).winLone then 0 else (l.can b).quiet + 1

/-- The start of a window ends restricted operation. -/
def Lane.quietEnds (l : Lane) (b : Nat) : Bool := l.instep && decide (10 ≤ l.quietWindows b) && l.on (CAN_STAT b) CAN_STAT_RESTR

/-- The lane with a new window. -/
def Lane.loneOpened (b g : Nat) (l : Lane) : Lane :=
  (l.setF (CAN_STAT b) CAN_STAT_LONES 0).setCan b { l.can b with winAt := g, winLone := false, quiet := l.quietWindows b }

theorem Lane.loneOpened_on_RESTR : (l.loneOpened b g).on (CAN_STAT b) CAN_STAT_RESTR = l.on (CAN_STAT b) CAN_STAT_RESTR :=
  congrArg (· != 0) (Lane.fld_setF_field l (CAN_STAT b) CAN_STAT_RESTR CAN_STAT_LONES 0 (by decide))

theorem Lane.loneOpened_effect (hb : b < 2) : l.regsBut [CAN_STAT b] (l.loneOpened b g) ∧
    (l.loneOpened b g).fld (CAN_STAT b) CAN_STAT_LONES = 0 ∧
    (l.loneOpened b g).can b = { l.can b with winAt := g, winLone := false, quiet := l.quietWindows b } :=
  ⟨((Lane.regsBut.refl _ l).setF (CAN_STAT_lt hb) (by simp) _ _).of_regs_eq rfl, Lane.fld_setF_same _ _ _ _ (by decide),
    Trie.at_upd_same ..⟩

theorem Lane.loneWindow_of_due (hg : g % 1000000000 = 0) (hnew : (l.can b).winAt ≠ g) : l.loneWindow b g =
    if l.quietEnds b then (l.loneOpened b g).restrShown b g 2 false else l.loneOpened b g := by
  have hdue : ¬((g % 1000000000 != 0 || (l.can b).winAt == g) = true) := by simp [hg, hnew]
  rw [Lane.loneWindow]
  dsimp only
  rw [if_neg hdue]
  have hends : ((l.loneOpened b g).instep && 10 ≤ l.quietWindows b && (l.loneOpened b g).on (CAN_STAT b) CAN_STAT_RESTR) = l.quietEnds b := by
    rw [Lane.loneOpened_on_RESTR]
    rfl
  change (if ((l.loneOpened b g).instep && 10 ≤ l.quietWindows b && (l.loneOpened b g).on (CAN_STAT b) CAN_STAT_RESTR) = true
    then (l.loneOpened b g).canRestrict b g 2 false else l.loneOpened b g) = _
  rw [hends]
  by_cases h : l.quietEnds b = true
  · have hrestr : (l.loneOpened b g).on (CAN_STAT b) CAN_STAT_RESTR ≠ false := by
      rw [Lane.loneOpened_on_RESTR]
      simp only [Lane.quietEnds, Bool.and_eq_true] at h
      simp [h.2]
    rw [if_pos h, if_pos h, Lane.canRestrict_of_change hrestr]
  · rw [if_neg h, if_neg h]

end

/-! ### Locks and releases (R386, R387) -/

section
variable {l : Lane} {b m : Nat} {acc : Accessor}

theorem Lane.lockCleared_effect (hb : b < 2) (hm : m < 128) (l : Lane) : l.regsBut (bufRegs b m) (l.lockCleared b m) ∧
    (l.lockCleared b m).on (CAN_BST b m) CAN_BST_LOCK = false ∧
    ∀ f : Fld, fldsApart f CAN_BST_LOCK → (l.lockCleared b m).fld (CAN_BST b m) f = l.fld (CAN_BST b m) f :=
  ⟨l.setBst_regsBut hb hm _, (l.setBst_on hb hm _ _).trans (Fld.on_put_same _ false _ (by decide)),
    fun f hf => (l.setBst_fld hb hm _ f).trans (Fld.get_put_apart hf _ _)⟩

/-- A lock that its accessor alone holds ends. -/
theorem Lane.unlock_of_lone {from_ : Nat} (hlock : l.lockOf acc = some (b, m, from_))
    (hothers : ∀ a, a ≠ acc → l.heldBy b m a = false) (hpend : ∀ p ∈ (l.can b).pend, p.1 ≠ m) :
    l.unlock acc = (l.setLock acc none).lockCleared b m := by
  rw [Lane.unlock_of_some hlock, Lane.canFree_of_empty (Lane.heldBy_setLock_none hothers) (by rwa [Lane.setLock_can])]

theorem Lane.unlock_of_kept {from_ : Nat} {x : CanIn} (hlock : l.lockOf acc = some (b, m, from_))
    (hothers : ∀ a, a ≠ acc → l.heldBy b m a = false) (hpend : (l.can b).pend = [(m, x)]) :
    l.unlock acc = ((l.setLock acc none).lockCleared b m).keptIn b m x := by
  rw [Lane.unlock_of_some hlock, Lane.canFree_of_kept (Lane.heldBy_setLock_none hothers) (by rwa [Lane.setLock_can])]

/-- The lane with NEW and OVR of a buffer cleared. -/
def Lane.newCleared (b m : Nat) (l : Lane) : Lane :=
  l.setBst b m (CAN_BST_NEW.put 0 (CAN_BST_OVR.put 0 (l.rd (CAN_BST b m))))

theorem Lane.newCleared_heldBy (a : Accessor) : (l.newCleared b m).heldBy b m a = l.heldBy b m a := by
  cases a <;> rfl

theorem Lane.rxRelease_of_held (h : l.heldBy b m acc = true) : l.rxRelease acc b m = (l.newCleared b m).unlock acc := by
  rw [Lane.rxRelease, h]
  rfl

theorem Lane.rxRelease_of_free (h : l.heldBy b m acc = false) : l.rxRelease acc b m = l := by
  rw [Lane.rxRelease, h]
  rfl

theorem Lane.newCleared_effect (hb : b < 2) (hm : m < 128) (l : Lane) : l.regsBut (bufRegs b m) (l.newCleared b m) ∧
    (l.newCleared b m).on (CAN_BST b m) CAN_BST_NEW = false ∧ (l.newCleared b m).on (CAN_BST b m) CAN_BST_OVR = false := by
  refine ⟨l.setBst_regsBut hb hm _, (l.setBst_on hb hm _ _).trans (Fld.on_put_same _ false _ (by decide)), ?_⟩
  rw [Lane.newCleared, l.setBst_on hb hm, Fld.on_put_apart (by decide)]
  exact Fld.on_put_same _ false _ (by decide)

/-- A release of a buffer that its accessor alone holds. -/
theorem Lane.rxRelease_of_lone (hheld : l.heldBy b m acc = true) (hothers : ∀ a, a ≠ acc → l.heldBy b m a = false)
    (hpend : ∀ p ∈ (l.can b).pend, p.1 ≠ m) :
    l.rxRelease acc b m = ((l.newCleared b m).setLock acc none).lockCleared b m := by
  obtain ⟨t, hlock⟩ := Lane.heldBy_iff.mp hheld
  rw [Lane.rxRelease_of_held hheld]
  exact Lane.unlock_of_lone ((Lane.setBst_lockOf ..).trans hlock) (fun a ha => (Lane.newCleared_heldBy a).trans (hothers a ha)) hpend

theorem Lane.rxRelease_of_kept {x : CanIn} (hheld : l.heldBy b m acc = true) (hothers : ∀ a, a ≠ acc → l.heldBy b m a = false)
    (hpend : (l.can b).pend = [(m, x)]) :
    l.rxRelease acc b m = (((l.newCleared b m).setLock acc none).lockCleared b m).keptIn b m x := by
  obtain ⟨t, hlock⟩ := Lane.heldBy_iff.mp hheld
  rw [Lane.rxRelease_of_held hheld]
  exact Lane.unlock_of_kept ((Lane.setBst_lockOf ..).trans hlock) (fun a ha => (Lane.newCleared_heldBy a).trans (hothers a ha)) hpend

theorem Lane.bump_lockOf (k : Nat) (f : Fld) (a : Accessor) : (l.bump k f).lockOf a = l.lockOf a := by cases a <;> rfl

/-- A lock that its accessor alone has held for 1 ms. -/
theorem Lane.lockTimeout_of_old {from_ t : Nat} (hlock : l.lockOf acc = some (b, m, from_)) (hold : from_ + 1000000 ≤ t)
    (hothers : ∀ a, a ≠ acc → l.heldBy b m a = false) (hpend : ∀ p ∈ (l.can b).pend, p.1 ≠ m) :
    l.lockTimeout acc t = ((l.bump (CAN_BST b m) CAN_BST_LOCKTO).setLock acc none).lockCleared b m := by
  have hrow : l.lockTimeout acc t = (l.bump (CAN_BST b m) CAN_BST_LOCKTO).unlock acc := by
    simp only [Lane.lockTimeout, hlock, hold, if_pos]
  rw [hrow]
  refine Lane.unlock_of_lone ((Lane.bump_lockOf ..).trans hlock) (fun a ha => ?_) hpend
  rw [Lane.heldBy, Lane.bump_lockOf]
  exact hothers a ha

/-- The lane with a buffer locked by an accessor that held no lock. -/
def Lane.lockTaken (acc : Accessor) (b m t : Nat) (l : Lane) : Lane :=
  (l.setLock acc (some (b, m, t))).setBst b m (CAN_BST_LOCK.put 1 (l.rd (CAN_BST b m)))

theorem Lane.rxLock_of_free {t : Nat} (hrx : l.rxBuffer b m = true) (hfree : l.lockOf acc = none) :
    l.rxLock acc b m t = l.lockTaken acc b m t := by
  rw [Lane.rxLock, hrx, Lane.heldBy_of_lockOf_none hfree, if_neg (by decide)]
  dsimp only
  rw [Lane.unlock_of_none hfree, Lane.setLock_rd]
  rfl

theorem Lane.lockTaken_effect (hb : b < 2) (hm : m < 128) (acc : Accessor) (t : Nat) (l : Lane) :
    l.regsBut (bufRegs b m) (l.lockTaken acc b m t) ∧ (l.lockTaken acc b m t).on (CAN_BST b m) CAN_BST_LOCK = true ∧
    (l.lockTaken acc b m t).lockOf acc = some (b, m, t) ∧
    (l.lockTaken acc b m t).on (CAN_BST b m) CAN_BST_NEW = l.on (CAN_BST b m) CAN_BST_NEW := by
  refine ⟨(Lane.regsBut_of_regs_eq _ (Lane.setLock_regs ..)).trans (Lane.setBst_regsBut hb hm _ _), ?_, ?_, ?_⟩
  · exact (Lane.setBst_on hb hm _ _ _).trans (Fld.on_put_same _ true _ (by decide))
  · exact (Lane.setBst_lockOf ..).trans (Lane.setLock_lockOf_same ..)
  · exact (Lane.setBst_on hb hm _ _ _).trans (Fld.on_put_apart (by decide) _ _)

theorem Lane.wr_can (l : Lane) (k : Nat) (w : Word) (b : Nat) : (l.wr k w).can b = l.can b := rfl

theorem Lane.canPlace_can (x : CanIn) (l : Lane) : (l.canPlace b m x).can b = l.can b := by
  rw [Lane.canPlace_eq, Lane.wr_can, Lane.wr_can, Lane.wordsPlaced]
  exact List.foldlRecOn (motive := fun k : Lane => k.can b = l.can b) _ _ rfl fun k hk _ _ => (Lane.wr_can k ..).trans hk

theorem Lane.keptIn_effect (hb : b < 2) (hm : m < 128) (x : CanIn) (l : Lane) :
    (l.keptIn b m x).on (CAN_BST b m) CAN_BST_NEW = true ∧ (l.keptIn b m x).on (CAN_BST b m) CAN_BST_PEND = false ∧
    (l.keptIn b m x).on (CAN_BST b m) CAN_BST_LOCK = l.on (CAN_BST b m) CAN_BST_LOCK ∧ ((l.keptIn b m x).can b).pend = [] ∧
    (l.keptIn b m x).rd (CAN_TSLO b m) = w32 x.sof ∧
    ∀ w, w < 18 → (l.keptIn b m x).rd (CAN_BW b m w) = (frameWords x.rep.frame).getD w 0#32 := by
  have hkept {k : Nat} (hk : k < 2 ^ 20) (hks : k ∉ bufRegs b m) := fun st => Lane.setBst_regsBut hb hm
    ((l.setCan b { l.can b with pend := [] }).canPlace b m x) st k hk hks
  refine ⟨?_, ?_, ?_, ?_, ?_, fun w hw => ?_⟩
  · rw [Lane.keptIn, Lane.setBst_on hb hm, Fld.on_put_apart (by decide)]
    exact Fld.on_put_same _ true _ (by decide)
  · rw [Lane.keptIn, Lane.setBst_on hb hm]
    exact Fld.on_put_same _ false _ (by decide)
  · rw [Lane.keptIn, Lane.setBst_on hb hm, Fld.on_put_apart (by decide), Fld.on_put_apart (by decide), Lane.canPlace_rd_BST hb hm]
    rfl
  · rw [Lane.keptIn, Lane.setBst_can, Lane.canPlace_can, Lane.can_setCan_same]
  · refine (hkept (by unfold CAN_TSLO; omega) ?_ _).trans (Lane.canPlace_rd_TSLO ..)
    intro hmem
    simp only [bufRegs, CAN_TSLO, CAN_BST, CAN_NEW, CAN_TXF, List.mem_cons, List.not_mem_nil, or_false] at hmem
    omega
  · refine (hkept (CAN_BW_lt hb hm hw) ?_ _).trans (Lane.canPlace_rd_word hb hm _ x hw)
    intro hmem
    simp only [bufRegs, CAN_BW, CAN_BST, CAN_NEW, CAN_TXF, List.mem_cons, List.not_mem_nil, or_false] at hmem
    omega

end

/-! ### The rows -/

/-- A normal entry in a lane that takes cuts and holds authority. -/
theorem State.canNormalEntry_lane {s : State} {i : LaneId} (bus : Bus) (htakes : (s.lane i).takes = true) (hauth : s.sh.auth = some i)
    (hid : (s.lane i).id = i) (hmode : (s.lane i).fld (CAN_LOCAL bus.num) CAN_LOCAL_OWNMODE = 1) :
    ∃ t, exec (.canNormalEntry bus) s = .next t ∧ s.sharedKept t ∧ t.lane i =
      ((s.lane i).setCan bus.num { (s.lane i).can bus.num with normalDue := false }).setF (CAN_LOCAL bus.num) CAN_LOCAL_OWNMODE
        (if (s.lane i).on (CAN_STAT bus.num) CAN_STAT_RESTR then 3 else 2) := by
  refine ⟨_, rfl, ⟨rfl, rfl, rfl⟩, ?_⟩
  rw [State.taking_lane, if_pos htakes]
  refine if_pos ?_
  rw [Bool.and_eq_true, beq_iff_eq, beq_iff_eq]
  exact ⟨hauth.trans (congrArg some hid.symm), hmode⟩

theorem State.rxRelease_of_held {s : State} {i : LaneId} {acc : Accessor} {b m : Nat} (h : (s.lane i).heldBy b m acc = true) :
    s.sharedKept (s.rxRelease acc i b m) ∧ (s.rxRelease acc i b m).lane i = (s.lane i).rxRelease acc b m ∧
    (s.rxRelease acc i b m).lane i.other = (s.lane i.other).rxRelease acc b m := by
  rw [State.rxRelease, if_neg (by rw [h]; decide)]
  refine ⟨⟨by simp, by simp, by simp⟩, ?_, ?_⟩
  · rw [State.upd_other_lane, State.upd_lane]
  · rw [State.upd_lane, State.upd_lane_other]

/-- Settles O40: each row is one operation on its lane or bus, and a lock that ends leaves its buffer with no holder. -/
theorem canStateRows : Obligations.CanStateRows := by
  refine ⟨fun bus s i hcomputes hrun hwas => ?alone, fun bus s i hcomputes hrun hwas => ?notAlone,
    fun l b time tec recv hb => ?estate, fun bus s hoff => ?recovery, fun bus s hon => ?noRecovery, fun bus u s hstep hdue => ?detect,
    fun bus s i htakes hauth hid hmode => ?normal, fun bus s i hcomputes hg hnew => ?window, fun i acc bus m u s hrx hfree => ?lock,
    fun i acc bus m s hheld hothers hpend => ?release, fun i acc bus m x s hheld hothers hpend => ?kept,
    fun i acc bus m from_ u s hlock hold hothers hpend => ?timeout⟩
  case alone =>
    have heq := Lane.canAlone_of_many (g := s.sh.gt) hrun hwas
    obtain ⟨hregs, hon⟩ := Lane.aloneShown_effect (g := s.sh.gt) (l := s.lane i) (busNum_lt bus)
      ((s.lane i).fld (CAN_ERRC bus.num) CAN_ERRC_ACKRUN) true
    refine ⟨_, rfl, s.both_sharedKept _, ?_⟩
    rw [State.both_lane_of_computes hcomputes, heq]
    exact ⟨hregs, hon, rfl, _, rfl, rfl, rfl, rfl⟩
  case notAlone =>
    refine ⟨_, rfl, s.both_sharedKept _, ?_⟩
    rw [State.both_lane_of_computes hcomputes, Lane.canAlone_of_acknowledged hrun hwas]
    exact Lane.aloneShown_effect (busNum_lt bus) 0 false
  case estate =>
    rw [Lane.canState_estate hb, errState]
    simp only [Bool.or_eq_true, decide_eq_true_eq]
  case recovery =>
    refine ⟨_, congrArg Host.Outcome.next (if_pos hoff), s.withSh_lanesKept _, rfl, ?_⟩
    exact Shared.can_setCan_same ..
  case noRecovery =>
    exact congrArg Host.Outcome.next (if_neg (by omega))
  case detect =>
    refine ⟨_, congrArg Host.Outcome.next (if_pos ⟨hstep, hdue⟩), s.withSh_lanesKept _, rfl, ?_⟩
    rw [State.withSh_sh, Shared.can_setCan_same]
    exact ⟨rfl, hstep, rfl⟩
  case normal =>
    obtain ⟨t, hrow, hshared, hlane⟩ := State.canNormalEntry_lane bus htakes hauth hid hmode
    refine ⟨t, hrow, hshared, ?_⟩
    rw [hlane]
    refine ⟨?_, ?_, ?_⟩
    · exact (Lane.regsBut_of_regs_eq _ rfl).setF (CAN_LOCAL_lt (busNum_lt bus)) (by simp) _ _
    · exact congrArg CanWork.normalDue (Lane.can_setCan_same ..)
    · rw [Lane.fld_setF_same _ _ _ _ (by decide)]
      split <;> rfl
  case window =>
    intro q ends
    refine ⟨_, rfl, s.both_sharedKept _, ?_⟩
    rw [State.both_lane_of_computes hcomputes, Lane.loneWindow_of_due hg hnew]
    have hends : (s.lane i).quietEnds bus.num = ends := rfl
    obtain ⟨hregs, hlones, hcan⟩ := Lane.loneOpened_effect (l := s.lane i) (g := s.sh.gt) (busNum_lt bus)
    obtain ⟨hregs', hrestr', hlones', hcan'⟩ := Lane.restrShown_effect (l := (s.lane i).loneOpened bus.num s.sh.gt) (g := s.sh.gt)
      (busNum_lt bus) 2 false
    rw [hends]
    cases hv : ends with
    | false =>
      rw [if_neg Bool.false_ne_true, if_neg Bool.false_ne_true, hcan, Lane.loneOpened_on_RESTR]
      exact ⟨hregs, hlones, rfl, rfl, rfl, (Bool.and_true _).symm⟩
    | true =>
      rw [if_pos rfl, if_pos rfl, hcan', hcan, hlones', hrestr']
      exact ⟨hregs.trans hregs', hlones, rfl, rfl, rfl, (Bool.and_false _).symm⟩
  case lock =>
    have hrow : s.rxLock acc i bus.num m (s.sh.gt + u) = (s.upd i.other (Lane.unlock · acc)).upd i (Lane.rxLock acc bus.num m (s.sh.gt + u)) :=
      if_neg (by rw [hrx, Lane.heldBy_of_lockOf_none hfree]; decide)
    have hother : ((s.upd i.other (Lane.unlock · acc)).upd i (Lane.rxLock acc bus.num m (s.sh.gt + u))).lane i.other =
        (s.lane i.other).unlock acc := by rw [State.upd_lane_other, State.upd_lane]
    have hlane : ((s.upd i.other (Lane.unlock · acc)).upd i (Lane.rxLock acc bus.num m (s.sh.gt + u))).lane i =
        (s.lane i).lockTaken acc bus.num m (s.sh.gt + u) := by
      rw [State.upd_lane, ← Lane.rxLock_of_free hrx hfree]
      rw [State.upd_other_lane]
    refine ⟨_, congrArg Host.Outcome.next hrow, ?_, hother, fun h => hother.trans (Lane.unlock_of_none h), ?_⟩
    · exact ⟨by simp, by simp, by simp⟩
    · rw [hlane]
      exact Lane.lockTaken_effect (busNum_lt bus) m.isLt ..
  case release =>
    obtain ⟨hshared, hlane, hother⟩ := State.rxRelease_of_held hheld
    obtain ⟨hnewRegs, hnew, hovr⟩ := Lane.newCleared_effect (busNum_lt bus) m.isLt (s.lane i)
    obtain ⟨hregs, hlock, hfields⟩ := Lane.lockCleared_effect (busNum_lt bus) m.isLt (((s.lane i).newCleared bus.num m).setLock acc none)
    refine ⟨_, rfl, hshared, hother, fun h => hother.trans (Lane.rxRelease_of_free h), ?_⟩
    rw [hlane, Lane.rxRelease_of_lone hheld hothers hpend]
    have hon {f : Fld} (hf : fldsApart f CAN_BST_LOCK) (h : ((s.lane i).newCleared bus.num m).on (CAN_BST bus.num m) f = false) :
        ((((s.lane i).newCleared bus.num m).setLock acc none).lockCleared bus.num m).on (CAN_BST bus.num m) f = false :=
      (congrArg (· != 0) ((hfields f hf).trans (Lane.fld_of_regs_eq (Lane.setLock_regs ..) _ _))).trans h
    refine ⟨(hnewRegs.trans (Lane.regsBut_of_regs_eq _ (Lane.setLock_regs ..))).trans hregs, hon (by decide) hnew, hon (by decide) hovr,
      hlock, (Lane.setBst_lockOf ..).trans (Lane.setLock_lockOf_same ..), ?_⟩
    refine (Lane.setBst_new ..).trans ?_
    rw [← Lane.setBst_on (busNum_lt bus) m.isLt]
    exact hon (by decide) hnew
  case kept =>
    obtain ⟨hshared, hlane, -⟩ := State.rxRelease_of_held hheld
    obtain ⟨-, hlock, -⟩ := Lane.lockCleared_effect (busNum_lt bus) m.isLt (((s.lane i).newCleared bus.num m).setLock acc none)
    obtain ⟨hnew, hpending, hlocked, hnone, hstamp, hwords⟩ := Lane.keptIn_effect (busNum_lt bus) m.isLt x
      ((((s.lane i).newCleared bus.num m).setLock acc none).lockCleared bus.num m)
    refine ⟨_, rfl, hshared, ?_⟩
    rw [hlane, Lane.rxRelease_of_kept hheld hothers hpend]
    exact ⟨hnew, hpending, hlocked.trans hlock, hnone, hstamp, hwords⟩
  case timeout =>
    obtain ⟨hregs, hcleared, hfields⟩ := Lane.lockCleared_effect (busNum_lt bus) m.isLt
      (((s.lane i).bump (CAN_BST bus.num m) CAN_BST_LOCKTO).setLock acc none)
    refine ⟨_, rfl, s.upd_otherKept _ _, ?_⟩
    rw [State.upd_lane, Lane.lockTimeout_of_old hlock hold hothers hpend]
    have hkept {f : Fld} (hf : fldsApart f CAN_BST_LOCK) := (hfields f hf).trans (Lane.fld_of_regs_eq (Lane.setLock_regs ..) _ _)
    refine ⟨?_, hcleared, (Lane.setBst_lockOf ..).trans (Lane.setLock_lockOf_same ..), ?_, ?_⟩
    · have hbump := (Lane.regsBut.refl (bufRegs bus.num m) (s.lane i)).bump (CAN_BST_lt (busNum_lt bus) m.isLt) (by simp [bufRegs]) CAN_BST_LOCKTO
      exact (hbump.trans (Lane.regsBut_of_regs_eq _ (Lane.setLock_regs ..))).trans hregs
    · exact (hkept (by decide)).trans (Lane.fld_bump_same _ _ _ (by decide))
    · exact (congrArg (· != 0) (hkept (by decide))).trans (Lane.on_bump_field _ _ (by decide))

end Sys2Proof.Machine
end

section
/-! The CAN commands (R380, R381, R389, R399, R404): the answer in CAN_CMDST, the effect, and the modes that follow it. -/

namespace Sys2Proof.Machine

/-! ### The answer and the modes -/

theorem CAN_CMDST_lt {b : Nat} (hb : b < 2) : CAN_CMDST b < 2 ^ 20 := by unfold CAN_CMDST; omega

/-- The lane with the answer to a CAN command shown. -/
def Lane.canAnswered (b op m st : Nat) (l : Lane) : Lane := (l.canNote b op m).setF (CAN_CMDST b) CAN_CMDST_STATUS st

section
variable {b : Nat} (hb : b < 2) (op m st : Nat) (l : Lane)
include hb

theorem Lane.canNote_regsBut : l.regsBut [CAN_CMDST b] (l.canNote b op m) :=
  ((Lane.regsBut.refl _ l).setF (CAN_CMDST_lt hb) (by simp) _ _).setF (CAN_CMDST_lt hb) (by simp) _ _

theorem Lane.canAnswered_regsBut : l.regsBut [CAN_CMDST b] (l.canAnswered b op m st) :=
  (l.canNote_regsBut hb op m).setF (CAN_CMDST_lt hb) (by simp) _ _

omit hb in
theorem Lane.canAnswered_fields : (l.canAnswered b op m st).fld (CAN_CMDST b) CAN_CMDST_STATUS = st % 4 ∧
    (l.canAnswered b op m st).fld (CAN_CMDST b) CAN_CMDST_LAST_OP = op % 256 ∧
    (l.canAnswered b op m st).fld (CAN_CMDST b) CAN_CMDST_LAST_BUF = m % 128 := by
  refine ⟨Lane.fld_setF_same _ _ _ _ (by decide), ?_, ?_⟩
  · rw [Lane.canAnswered, Lane.fld_setF_field _ _ _ _ _ (by decide), Lane.canNote, Lane.fld_setF_field _ _ _ _ _ (by decide)]
    exact Lane.fld_setF_same _ _ _ _ (by decide)
  · rw [Lane.canAnswered, Lane.fld_setF_field _ _ _ _ _ (by decide)]
    exact Lane.fld_setF_same _ _ _ _ (by decide)

end

section
variable {l k : Lane} {b m : Nat}

theorem Lane.hostOwned_of_rd_eq (h : k.rd (CAN_BCFG b m) = l.rd (CAN_BCFG b m)) : k.hostOwned b m = l.hostOwned b m := by
  rw [Lane.hostOwned, h, Lane.hostOwned]

/-- The registers that decide on a CAN command stand apart from CAN_CMDST. -/
theorem Lane.canStatus_of_regsBut (hb : b < 2) (hm : m < 128) (h : l.regsBut [CAN_CMDST b] k) (op arg : Nat) :
    k.canStatus b op m arg = l.canStatus b op m arg := by
  have hstat : k.rd (CAN_STAT b) = l.rd (CAN_STAT b) := h _ (CAN_STAT_lt hb) (by simp [CAN_STAT, CAN_CMDST])
  have hcfg : k.rd (CAN_CFG b) = l.rd (CAN_CFG b) := h _ (by unfold CAN_CFG; omega) (by simp [CAN_CFG, CAN_CMDST])
  have hbst : k.rd (CAN_BST b m) = l.rd (CAN_BST b m) := h _ (CAN_BST_lt hb hm) (by simp [CAN_BST, CAN_CMDST]; omega)
  have hown : k.rd (CAN_BCFG b m) = l.rd (CAN_BCFG b m) :=
    h _ (by unfold CAN_BCFG; omega) (by simp [CAN_BCFG, CAN_CMDST]; omega)
  have hrefused : k.canRefused b op m arg = l.canRefused b op m arg := by
    unfold Lane.canRefused
    rw [hstat, Lane.on_of_rd_eq hcfg, Lane.on_of_rd_eq hcfg, Lane.on_of_rd_eq hbst, Lane.hostOwned_of_rd_eq hown]
  rw [Lane.canStatus, hrefused, Lane.canStatus]

end

section
variable (auth : Bool) (run : Nat → Bool) (l : Lane)

theorem Lane.canModes_regsBut : l.regsBut [CAN_LOCAL 0, CAN_LOCAL 1] (l.canModes auth run) := by
  unfold Lane.canModes
  split
  · exact Lane.regsBut.refl _ l
  · exact ((Lane.regsBut.refl _ l).setF (by decide) (by simp) _ _).setF (by decide) (by simp) _ _

theorem Lane.canModes_raised : (l.canModes auth run).raised = l.raised := by
  unfold Lane.canModes
  split <;> rfl

theorem Lane.canModes_formed : (l.canModes auth run).formed = l.formed := by
  unfold Lane.canModes
  split <;> rfl

end

/-! ### The row of a command -/

/-- The frame of a buffer is being sent. -/
def Shared.sendsBuf (h : Shared) (b m : Nat) : Bool :=
  match (h.can b).sending with
  | some (.buf k) => k.val == m
  | _ => false

section
variable {s : State} {i : LaneId} {b op m arg : Nat}

theorem State.canSync_lane_modes (s : State) (i : LaneId) : ∃ auth run, s.canSync.lane i = (s.lane i).canModes auth run := by
  cases i
  · exact ⟨_, _, rfl⟩
  · exact ⟨_, _, rfl⟩

theorem State.canSync_sh (s : State) : s.canSync.sh = s.sh := rfl

theorem State.canRow_lane (hcomputes : (s.lane i).computes = true) : ∃ auth run,
    (s.canRow b op m arg).lane i = (((s.lane i).canNote b op m).canCmd s.sh b op m arg).canModes auth run := by
  obtain ⟨auth, run, hlane⟩ := State.canSync_lane_modes _ i
  refine ⟨auth, run, hlane.trans (congrArg (Lane.canModes auth run) ?_)⟩
  have hnote := State.both_lane_of_computes (f := Lane.canNote b op m) hcomputes
  have hcomputes' : ((s.both (Lane.canNote b op m)).lane i).computes = true := by
    rw [hnote]
    exact hcomputes
  rw [State.withSh_lane, State.both_lane_of_computes hcomputes', hnote, State.both_sh]

theorem State.canRow_sharedKept (hop : op ≠ 3) : s.sharedKept (s.canRow b op m arg) := by
  refine ⟨?_, rfl, rfl⟩
  rw [State.canRow, State.canCmd, State.canSync_sh, State.withSh_sh, if_neg (fun h => hop h.1), State.both_sh]

theorem State.canRow_of_done (hb : b < 2) (hm : m < 128) (hcomputes : (s.lane i).computes = true)
    (hst : (s.lane i).canStatus b op m arg = stDone) : ∃ auth run, (s.canRow b op m arg).lane i =
      (((s.lane i).canAnswered b op m 0).canEffect s.sh.gt b op m arg (s.sh.sendsBuf b m)).canModes auth run := by
  obtain ⟨auth, run, hlane⟩ := State.canRow_lane (b := b) (op := op) (m := m) (arg := arg) hcomputes
  refine ⟨auth, run, hlane.trans (congrArg _ ?_)⟩
  have hst' : ((s.lane i).canNote b op m).canStatus b op m arg = stDone :=
    (Lane.canStatus_of_regsBut hb hm (Lane.canNote_regsBut hb op m _) op arg).trans hst
  rw [Lane.canCmd, hst', if_pos rfl]
  rfl

theorem State.canRow_of_refused (hb : b < 2) (hm : m < 128) (hcomputes : (s.lane i).computes = true)
    (hst : (s.lane i).canStatus b op m arg ≠ stDone) : ∃ auth run, (s.canRow b op m arg).lane i =
      (((s.lane i).canAnswered b op m ((s.lane i).canStatus b op m arg)).ev (evCanRefused b)).canModes auth run := by
  obtain ⟨auth, run, hlane⟩ := State.canRow_lane (b := b) (op := op) (m := m) (arg := arg) hcomputes
  refine ⟨auth, run, hlane.trans (congrArg _ ?_)⟩
  have hst' : ((s.lane i).canNote b op m).canStatus b op m arg = (s.lane i).canStatus b op m arg :=
    Lane.canStatus_of_regsBut hb hm (Lane.canNote_regsBut hb op m _) op arg
  rw [Lane.canCmd, hst', if_neg hst]
  rfl

end

/-! ### The effects -/

section
variable {b m : Nat} (hb : b < 2) (hm : m < 128) (g arg : Nat) (busy : Bool) (l : Lane)

/-- The lane with the repetitions of a buffer forgotten. -/
def Lane.triedForgotten (b m : Nat) (l : Lane) : Lane := l.setCan b { l.can b with tried := (l.can b).tried.filter (· != m) }

theorem Lane.canEffect_txReq : l.canEffect g b 1 m arg busy =
    (l.triedForgotten b m).setBst b m (CAN_BST_TXP.put 1 (CAN_BST_RETRY.put 0 (l.rd (CAN_BST b m)))) := rfl

theorem Lane.canEffect_txCancel : l.canEffect g b 2 m arg false = (l.slotCancel b m).txFail b m 7 g := rfl

theorem Lane.canEffect_restrict : l.canEffect g b 4 m arg busy = l.canRestrict b g 1 (arg == 1) := rfl

/-- The registers of the collision memory of a bus. -/
def collRegs (b : Nat) : List Nat := (upTo 8).flatMap (fun k => [CAN_COLL b k, CAN_COLLC b k])

/-- The lane with the collision memory of a bus cleared. -/
def Lane.collCleared (b : Nat) (l : Lane) : Lane :=
  (collRegs b).foldl (fun l k => l.wr k 0#32) ((l.setB (CAN_STAT b) CAN_STAT_COLL false).setF (CAN_CNT b) CAN_CNT_COLL_OVF 0)

theorem Lane.canEffect_clrColl : l.canEffect g b 5 m arg busy = l.collCleared b := by
  simp only [Lane.canEffect, Lane.collCleared, collRegs, List.foldl_flatMap, List.foldl_cons, List.foldl_nil]

theorem Lane.canEffect_detect_eq : l.canEffect g b 3 m arg busy = l.wr (CAN_STAT b)
    (CAN_STAT_DETECT.put 1 (CAN_STAT_DRATE_IN.put (l.fld (CAN_CFG b) CAN_CFG_DRATE) (l.rd (CAN_STAT b)))) := rfl

include hb in
theorem Lane.canEffect_detect : l.regsBut [CAN_STAT b] (l.canEffect g b 3 m arg busy) ∧
    (l.canEffect g b 3 m arg busy).on (CAN_STAT b) CAN_STAT_DETECT = true := by
  rw [Lane.canEffect_detect_eq]
  refine ⟨(Lane.regsBut.refl _ l).wr (CAN_STAT_lt hb) (by simp) _, ?_⟩
  rw [Lane.on_of_rd (Lane.rd_wr_same ..)]
  exact Fld.on_put_same _ true _ (by decide)

include hb hm

theorem Lane.canEffect_txReq_effect : l.regsBut (bufRegs b m) (l.canEffect g b 1 m arg busy) ∧
    (l.canEffect g b 1 m arg busy).on (CAN_BST b m) CAN_BST_TXP = true ∧
    (l.canEffect g b 1 m arg busy).fld (CAN_BST b m) CAN_BST_RETRY = 0 := by
  rw [Lane.canEffect_txReq]
  refine ⟨(Lane.regsBut_of_regs_eq _ rfl).trans (Lane.setBst_regsBut hb hm _ _), ?_, ?_⟩
  · rw [Lane.setBst_on hb hm]
    exact Fld.on_put_same _ true _ (by decide)
  · rw [Lane.setBst_fld hb hm, Fld.get_put_apart (by decide)]
    exact Fld.get_put_same _ _ _ (by decide)

theorem Lane.txFail_effect {cause : Nat} (hcause : cause < 8) : l.regsBut (bufRegs b m) (l.txFail b m cause g) ∧
    (l.txFail b m cause g).on (CAN_BST b m) CAN_BST_TXP = false ∧ (l.txFail b m cause g).on (CAN_BST b m) CAN_BST_TXF = true ∧
    (l.txFail b m cause g).fld (CAN_BST b m) CAN_BST_CAUSE = cause ∧
    bitOf ((l.txFail b m cause g).rd (CAN_TXF b (m / 32))) (m % 32) = true ∧
    (l.txFail b m cause g).raised = l.raised ||| evBit (evTxFail b) := by
  have hrd : ∀ k, (l.txFail b m cause g).rd k =
      (l.setBst b m (CAN_BST_TXP.put 0 (CAN_BST_TXF.put 1 (CAN_BST_CAUSE.put cause (l.rd (CAN_BST b m)))))).rd k := fun _ => rfl
  have htxf : CAN_BST_TXF.on (CAN_BST_TXP.put 0 (CAN_BST_TXF.put 1 (CAN_BST_CAUSE.put cause (l.rd (CAN_BST b m))))) = true := by
    rw [Fld.on_put_apart (by decide)]
    exact Fld.on_put_same _ true _ (by decide)
  refine ⟨(l.setBst_regsBut hb hm _).of_regs_eq rfl, ?_, ?_, ?_, ?_, rfl⟩
  · rw [Lane.on_of_rd_eq (hrd _), Lane.setBst_on hb hm]
    exact Fld.on_put_same _ false _ (by decide)
  · rw [Lane.on_of_rd_eq (hrd _), Lane.setBst_on hb hm, htxf]
  · rw [Lane.fld_of_rd_eq (hrd _), Lane.setBst_fld hb hm, Fld.get_put_apart (by decide), Fld.get_put_apart (by decide),
      Fld.get_put_same _ _ _ (by decide)]
    exact Nat.mod_eq_of_lt hcause
  · rw [hrd, Lane.setBst_txf, htxf]

end

section
variable {b : Nat} (hb : b < 2) (l : Lane)

theorem mem_collRegs {j : Nat} : j ∈ collRegs b ↔ ∃ k < 8, j = CAN_COLL b k ∨ j = CAN_COLLC b k := by
  simp [collRegs, upTo]

include hb

theorem collReg_lt {j : Nat} (hj : j ∈ collRegs b) : j < 2 ^ 20 := by
  obtain ⟨k, hk, rfl | rfl⟩ := mem_collRegs.mp hj
  · unfold CAN_COLL
    omega
  · unfold CAN_COLLC
    omega

theorem Lane.collCleared_memory {j : Nat} (hj : j ∈ collRegs b) : (l.collCleared b).rd j = 0#32 :=
  Lane.foldl_wr_rd (fun _ => 0#32) Function.injective_id (fun _ => collReg_lt hb) hj _

theorem Lane.collCleared_rd {k : Nat} (hk : k < 2 ^ 20) (hnot : k ∉ collRegs b) : (l.collCleared b).rd k =
    ((l.setB (CAN_STAT b) CAN_STAT_COLL false).setF (CAN_CNT b) CAN_CNT_COLL_OVF 0).rd k :=
  Lane.foldl_wr_regsBut (k := fun k => k) (fun _ => 0#32) (fun _ => collReg_lt hb) _ k hk (by rwa [List.map_id'])

theorem Lane.collCleared_regsBut : l.regsBut (CAN_STAT b :: CAN_CNT b :: collRegs b) (l.collCleared b) := by
  intro k hk hks
  simp only [List.mem_cons, not_or] at hks
  rw [l.collCleared_rd hb hk hks.2.2]
  exact ((Lane.regsBut.refl [CAN_STAT b, CAN_CNT b] l).setB (CAN_STAT_lt hb) (by simp) _ _).setF (CAN_CNT_lt hb) (by simp) _ _ k hk
    (by simp [hks])

theorem Lane.collCleared_flags : (l.collCleared b).on (CAN_STAT b) CAN_STAT_COLL = false ∧
    (l.collCleared b).fld (CAN_CNT b) CAN_CNT_COLL_OVF = 0 := by
  have hstat : CAN_STAT b ∉ collRegs b := by
    rw [mem_collRegs]
    unfold CAN_STAT CAN_COLL CAN_COLLC
    omega
  have hcnt : CAN_CNT b ∉ collRegs b := by
    rw [mem_collRegs]
    unfold CAN_CNT CAN_COLL CAN_COLLC
    omega
  constructor
  · rw [Lane.on_of_rd_eq (l.collCleared_rd hb (CAN_STAT_lt hb) hstat), Lane.on_of_rd_eq (Lane.rd_setF_ne _ _ _ _ _ (CAN_STAT_ne_CNT hb))]
    exact Lane.on_setB_same _ _ _ _ (by decide)
  · rw [Lane.fld_of_rd_eq (l.collCleared_rd hb (CAN_CNT_lt hb) hcnt)]
    exact Lane.fld_setF_same _ _ _ _ (by decide)

end

/-! ### The rows -/

section
variable {s : State} {i : LaneId} {b op m arg : Nat}

theorem CAN_CMDST_notMem_locals : CAN_CMDST b ∉ [CAN_LOCAL 0, CAN_LOCAL 1] := by
  simp only [CAN_CMDST, CAN_LOCAL, List.mem_cons, List.not_mem_nil, or_false]
  omega

/-- A command that ends DONE: the answer and its modes frame the effect, which leaves CAN_CMDST alone. -/
theorem State.canRow_effect {ks : List Nat} (hb : b < 2) (hm : m < 128) (hop : op < 256) (hcomputes : (s.lane i).computes = true)
    (hst : (s.lane i).canStatus b op m arg = stDone)
    (heff : ∀ k : Lane, k.regsBut ks (k.canEffect s.sh.gt b op m arg (s.sh.sendsBuf b m))) (hks : CAN_CMDST b ∉ ks) :
    ∃ k e n : Lane, k = (s.lane i).canAnswered b op m 0 ∧ e = k.canEffect s.sh.gt b op m arg (s.sh.sendsBuf b m) ∧
      (s.canRow b op m arg).lane i = n ∧ (s.lane i).regsBut (CAN_LOCAL 0 :: CAN_LOCAL 1 :: CAN_CMDST b :: ks) n ∧
      e.regsBut [CAN_LOCAL 0, CAN_LOCAL 1] n ∧ n.raised = e.raised ∧ n.formed = e.formed ∧
      n.fld (CAN_CMDST b) CAN_CMDST_STATUS = 0 ∧ n.fld (CAN_CMDST b) CAN_CMDST_LAST_OP = op ∧
      n.fld (CAN_CMDST b) CAN_CMDST_LAST_BUF = m := by
  obtain ⟨auth, run, hlane⟩ := State.canRow_of_done hb hm hcomputes hst
  have hanswer := (s.lane i).canAnswered_regsBut hb op m 0
  obtain ⟨hstatus, hlastOp, hlastBuf⟩ := (s.lane i).canAnswered_fields (b := b) op m 0
  have heffect := heff ((s.lane i).canAnswered b op m 0)
  have hmodes := Lane.canModes_regsBut auth run (((s.lane i).canAnswered b op m 0).canEffect s.sh.gt b op m arg (s.sh.sendsBuf b m))
  have hfld (f : Fld) := (hmodes.fld (CAN_CMDST_lt hb) CAN_CMDST_notMem_locals f).trans (heffect.fld (CAN_CMDST_lt hb) hks f)
  refine ⟨_, _, _, rfl, rfl, hlane, ?_, hmodes, Lane.canModes_raised .., Lane.canModes_formed .., (hfld _).trans hstatus,
    ((hfld _).trans hlastOp).trans (Nat.mod_eq_of_lt hop), ((hfld _).trans hlastBuf).trans (Nat.mod_eq_of_lt hm)⟩
  exact ((hanswer.mono (by simp)).trans (heffect.mono (fun k hk => by simp [hk]))).trans (hmodes.mono (by simp))

theorem Lane.canStatus_of_accepted {l : Lane} (hinvalid : canInvalid op arg = false) (hrefused : l.canRefused b op m arg = false) :
    l.canStatus b op m arg = stDone := by
  rw [Lane.canStatus, hinvalid, hrefused]
  rfl

theorem Lane.canStatus_lt (l : Lane) : l.canStatus b op m arg < 4 := by
  unfold Lane.canStatus
  split
  · decide
  · split <;> decide

theorem not_local_of_bufReg {k : Nat} (hb : b < 2) (hm : m < 128) (hk : k ∈ bufRegs b m) :
    k < 2 ^ 20 ∧ k ∉ [CAN_LOCAL 0, CAN_LOCAL 1] := by
  simp only [bufRegs, List.mem_cons, List.not_mem_nil, or_false] at hk ⊢
  unfold CAN_BST CAN_NEW CAN_TXF at hk
  unfold CAN_LOCAL
  omega

theorem CAN_CMDST_notMem_bufRegs (hm : m < 128) : CAN_CMDST b ∉ bufRegs b m := by
  simp only [bufRegs, List.mem_cons, List.not_mem_nil, or_false]
  unfold CAN_CMDST CAN_BST CAN_NEW CAN_TXF
  omega

theorem CAN_STAT_notMem_locals : CAN_STAT b ∉ [CAN_LOCAL 0, CAN_LOCAL 1] := by
  simp only [List.mem_cons, List.not_mem_nil, or_false]
  unfold CAN_STAT CAN_LOCAL
  omega

theorem CAN_CNT_notMem_locals : CAN_CNT b ∉ [CAN_LOCAL 0, CAN_LOCAL 1] := by
  simp only [List.mem_cons, List.not_mem_nil, or_false]
  unfold CAN_CNT CAN_LOCAL
  omega

theorem collReg_notMem_locals {j : Nat} (hj : j ∈ collRegs b) : j ∉ [CAN_LOCAL 0, CAN_LOCAL 1] := by
  obtain ⟨k, hk, h⟩ := mem_collRegs.mp hj
  simp only [List.mem_cons, List.not_mem_nil, or_false]
  unfold CAN_COLL CAN_COLLC at h
  unfold CAN_LOCAL
  omega

theorem CAN_CMDST_notMem_coll : CAN_CMDST b ∉ CAN_STAT b :: CAN_CNT b :: collRegs b := by
  simp only [List.mem_cons, mem_collRegs]
  unfold CAN_CMDST CAN_STAT CAN_CNT CAN_COLL CAN_COLLC
  omega

theorem Lane.canRestrict_regsBut (hb : b < 2) (g cause : Nat) (v : Bool) (l : Lane) : l.regsBut [CAN_STAT b] (l.canRestrict b g cause v) := by
  by_cases h : l.on (CAN_STAT b) CAN_STAT_RESTR = v
  · rw [Lane.canRestrict, if_pos (by simpa using h)]
    exact Lane.regsBut.refl _ l
  · rw [Lane.canRestrict_of_change h]
    exact (Lane.restrShown_effect hb cause v).1

theorem Lane.restrShown_fld (g cause : Nat) (v : Bool) (l : Lane) :
    (l.restrShown b g cause v).fld (CAN_STAT b) CAN_STAT_RESTR = v.toNat % 2 :=
  Lane.fld_setF_same l (CAN_STAT b) CAN_STAT_RESTR v.toNat (by decide)

theorem State.lead_of_auth {s : State} {i : LaneId} (hauth : s.sh.auth = some i) (hcomputes : (s.lane i).computes = true) :
    s.lead = s.lane i := by
  have hst : ((s.lane i).st == .retired || (s.lane i).st == .off) = false := by
    cases h : (s.lane i).st <;> simp_all [Lane.computes]
  unfold State.lead
  rw [hauth]
  dsimp only
  rw [hst]
  rfl

theorem Shared.sendsBuf_of_other {h : Shared} (hother : ∀ k, (h.can b).sending = some (.buf k) → k.val ≠ m) : h.sendsBuf b m = false := by
  unfold Shared.sendsBuf
  split
  case h_1 k heq => simpa using hother k heq
  case h_2 => rfl

/-- DETECT of the lane with authority starts the frame unit. -/
theorem State.detectRow_sh (hb : b < 2) (hm : m < 128) (hcomputes : (s.lane i).computes = true) (hauth : s.sh.auth = some i)
    (hst : (s.lane i).canStatus b 3 m arg = stDone) :
    (s.canRow b 3 m arg).sh = s.sh.detStart ((s.lane i).canNote b 3 m) b s.sh.gt := by
  have hnote := State.both_lane_of_computes (f := Lane.canNote b 3 m) hcomputes
  have hlead : (s.both (Lane.canNote b 3 m)).lead = (s.lane i).canNote b 3 m :=
    (State.lead_of_auth (s := s.both (Lane.canNote b 3 m)) hauth (by rw [hnote]; exact hcomputes)).trans hnote
  have hst' := (Lane.canStatus_of_regsBut hb hm ((s.lane i).canNote_regsBut hb 3 m) 3 arg).trans hst
  rw [State.canRow, State.canCmd, State.canSync_sh, State.withSh_sh, hlead, if_pos ⟨rfl, hst'⟩, State.both_sh]

end

/-- Settles O41: the answer frames the effect of a command, and the modes that follow change CAN_LOCAL alone. -/
theorem canCommands : Obligations.CanCommands := by
  refine ⟨fun bus m s i hcomputes hhost htxp hen => ?txReq, fun bus m s i hcomputes htxp hidle => ?cancel,
    fun bus m s i hcomputes hauth _ hmode hdetect hestate => ?detect, fun bus m arg s i hcomputes harg hrestr hen => ?restrict,
    fun bus m s i hcomputes hcoll => ?coll, fun bus m arg op c s i hc hcomputes hst => ?refused⟩
  case txReq =>
    have hst : (s.lane i).canStatus bus.num 1 m.toNat 0 = stDone :=
      Lane.canStatus_of_accepted rfl (by simp [Lane.canRefused, hhost, htxp, hen])
    obtain ⟨k, e, n, -, he, hn, hregs, hkept, -, -, hstatus, hlastOp, hlastBuf⟩ :=
      State.canRow_effect (busNum_lt bus) m.isLt (by decide) hcomputes hst
        (fun k => (Lane.canEffect_txReq_effect (busNum_lt bus) m.isLt _ _ _ k).1) (CAN_CMDST_notMem_bufRegs m.isLt)
    obtain ⟨-, hon, hretry⟩ := Lane.canEffect_txReq_effect (busNum_lt bus) m.isLt s.sh.gt 0 (s.sh.sendsBuf bus.num m.toNat) k
    obtain ⟨hlt, hnot⟩ := not_local_of_bufReg (busNum_lt bus) m.isLt (List.mem_cons_self : CAN_BST bus.num m.toNat ∈ bufRegs _ _)
    refine ⟨_, rfl, State.canRow_sharedKept (by decide), ?_⟩
    rw [show (0#8).toNat = 0 from rfl, hn]
    subst he
    exact ⟨hregs, hstatus, hlastOp, hlastBuf, (hkept.on hlt hnot _).trans hon, (hkept.fld hlt hnot _).trans hretry⟩
  case cancel =>
    have hst : (s.lane i).canStatus bus.num 2 m.toNat 0 = stDone :=
      Lane.canStatus_of_accepted rfl (by simp [Lane.canRefused, htxp])
    have heff (k : Lane) : k.canEffect s.sh.gt bus.num 2 m.toNat 0 (s.sh.sendsBuf bus.num m.toNat) =
        (k.slotCancel bus.num m.toNat).txFail bus.num m.toNat 7 s.sh.gt := by
      rw [Shared.sendsBuf_of_other hidle, Lane.canEffect_txCancel]
    have hfail (k : Lane) := Lane.txFail_effect (busNum_lt bus) m.isLt s.sh.gt (k.slotCancel bus.num m.toNat) (cause := 7) (by decide)
    obtain ⟨k, e, n, hk, he, hn, hregs, hkept, hraised, -, hstatus, -, -⟩ :=
      State.canRow_effect (busNum_lt bus) m.isLt (by decide) hcomputes hst
        (fun k => (heff k).symm ▸ (Lane.regsBut_of_regs_eq _ rfl).trans (hfail k).1) (CAN_CMDST_notMem_bufRegs m.isLt)
    obtain ⟨-, htxp', htxf, hcause, hbit, hev⟩ := hfail k
    have hbuf {key : Nat} (hkey : key ∈ bufRegs bus.num m.toNat) := not_local_of_bufReg (busNum_lt bus) m.isLt hkey
    have hbst := hbuf (List.mem_cons_self : CAN_BST bus.num m.toNat ∈ bufRegs _ _)
    have htxfReg := hbuf (show CAN_TXF bus.num (m.toNat / 32) ∈ bufRegs bus.num m.toNat by simp [bufRegs])
    refine ⟨_, rfl, State.canRow_sharedKept (by decide), ?_⟩
    rw [show (0#8).toNat = 0 from rfl, hn]
    rw [heff] at he
    subst he hk
    refine ⟨hregs, hstatus, (hkept.on hbst.1 hbst.2 _).trans htxp', (hkept.on hbst.1 hbst.2 _).trans htxf,
      (hkept.fld hbst.1 hbst.2 _).trans hcause, ?_, hraised.trans hev⟩
    rw [hkept _ htxfReg.1 htxfReg.2, hbit]
  case detect =>
    have hst : (s.lane i).canStatus bus.num 3 m.toNat 0 = stDone := by
      refine Lane.canStatus_of_accepted rfl ?_
      have hdetect' : CAN_STAT_DETECT.on ((s.lane i).rd (CAN_STAT bus.num)) = false := hdetect
      have hestate' : CAN_STAT_ESTATE.get ((s.lane i).rd (CAN_STAT bus.num)) ≠ 2 := hestate
      simp [Lane.canRefused, hmode, hdetect', hestate']
    obtain ⟨k, e, n, -, he, hn, hregs, hkept, -, -, hstatus, -, -⟩ :=
      State.canRow_effect (busNum_lt bus) m.isLt (by decide) hcomputes hst
        (fun k => (Lane.canEffect_detect (busNum_lt bus) _ _ _ k).1) (by simp [CAN_CMDST, CAN_STAT])
    have hon := (Lane.canEffect_detect (m := m.toNat) (busNum_lt bus) s.sh.gt 0 (s.sh.sendsBuf bus.num m.toNat) k).2
    have hsh := State.detectRow_sh (busNum_lt bus) m.isLt hcomputes hauth hst
    refine ⟨_, rfl, ?_⟩
    rw [show (0#8).toNat = 0 from rfl, hn, hsh, Shared.detStart, Shared.can_setCan_same]
    subst he
    refine ⟨rfl, rfl, hregs, hstatus, (hkept.on (CAN_STAT_lt (busNum_lt bus)) CAN_STAT_notMem_locals _).trans hon, rfl, rfl, ?_⟩
    have hmask := ((s.lane i).canNote_regsBut (busNum_lt bus) 3 m.toNat).fld (k := CAN_CFG2 bus.num)
      (by unfold CAN_CFG2; have := busNum_lt bus; omega) (by simp [CAN_CFG2, CAN_CMDST]) CAN_CFG2_NMASK
    exact congrArg (fun n => (ratesOf n 4).headD 3) hmask
  case restrict =>
    have hbit : (s.lane i).on (CAN_STAT bus.num) CAN_STAT_RESTR ≠ (arg.toNat == 1) := by
      rw [Lane.on]
      obtain h | h : arg.toNat = 0 ∨ arg.toNat = 1 := by omega
      · rw [h] at hrestr ⊢
        simpa using hrestr
      · have hlt : (s.lane i).fld (CAN_STAT bus.num) CAN_STAT_RESTR < 2 := Lane.fld_lt ..
        rw [show (s.lane i).fld (CAN_STAT bus.num) CAN_STAT_RESTR = 0 by omega, h]
        decide
    have hst : (s.lane i).canStatus bus.num 4 m.toNat arg.toNat = stDone := by
      refine Lane.canStatus_of_accepted (decide_eq_false (by omega)) ?_
      have hrestr' : CAN_STAT_RESTR.get ((s.lane i).rd (CAN_STAT bus.num)) ≠ arg.toNat := hrestr
      simp [Lane.canRefused, hrestr', hen]
    obtain ⟨k, e, n, hk, he, hn, hregs, hkept, -, hformed, hstatus, -, -⟩ :=
      State.canRow_effect (busNum_lt bus) m.isLt (by decide) hcomputes hst
        (fun k => k.canRestrict_regsBut (busNum_lt bus) _ _ _) (by simp [CAN_CMDST, CAN_STAT])
    have hkbit : k.on (CAN_STAT bus.num) CAN_STAT_RESTR ≠ (arg.toNat == 1) := by
      rw [hk, ((s.lane i).canAnswered_regsBut (busNum_lt bus) 4 m.toNat 0).on (CAN_STAT_lt (busNum_lt bus)) (by simp [CAN_STAT, CAN_CMDST])]
      exact hbit
    rw [Lane.canEffect_restrict, Lane.canRestrict_of_change hkbit] at he
    refine ⟨_, rfl, State.canRow_sharedKept (by decide), ?_⟩
    rw [hn]
    refine ⟨hregs, hstatus, ?_, ?_⟩
    · rw [hkept.fld (CAN_STAT_lt (busNum_lt bus)) CAN_STAT_notMem_locals, he, Lane.restrShown_fld]
      obtain h | h : arg.toNat = 0 ∨ arg.toNat = 1 := by omega
      · rw [h]
        rfl
      · rw [h]
        rfl
    · rw [he, hk] at hformed
      refine ⟨_, hformed, rfl, ?_, rfl⟩
      · obtain h | h : arg.toNat = 0 ∨ arg.toNat = 1 := by omega
        · rw [h]
          rfl
        · rw [h]
          rfl
  case coll =>
    have hst : (s.lane i).canStatus bus.num 5 m.toNat 0 = stDone := by
      refine Lane.canStatus_of_accepted rfl ?_
      have hcoll' : CAN_STAT_COLL.on ((s.lane i).rd (CAN_STAT bus.num)) = true := hcoll
      simp [Lane.canRefused, hcoll']
    obtain ⟨k, e, n, -, he, hn, hregs, hkept, -, -, hstatus, -, -⟩ :=
      State.canRow_effect (busNum_lt bus) m.isLt (by decide) hcomputes hst
        (fun k => (Lane.canEffect_clrColl ..).symm ▸ k.collCleared_regsBut (busNum_lt bus)) CAN_CMDST_notMem_coll
    rw [Lane.canEffect_clrColl] at he
    obtain ⟨hon, hovf⟩ := k.collCleared_flags (busNum_lt bus)
    have hmemory {j : Nat} (hj : j ∈ collRegs bus.num) : n.rd j = 0#32 := by
      rw [hkept _ (collReg_lt (busNum_lt bus) hj) (collReg_notMem_locals hj), he]
      exact k.collCleared_memory (busNum_lt bus) hj
    refine ⟨_, rfl, State.canRow_sharedKept (by decide), ?_⟩
    rw [show (0#8).toNat = 0 from rfl, hn]
    subst he
    refine ⟨hstatus, (hkept.on (CAN_STAT_lt (busNum_lt bus)) CAN_STAT_notMem_locals _).trans hon,
      (hkept.fld (CAN_CNT_lt (busNum_lt bus)) CAN_CNT_notMem_locals _).trans hovf,
      fun j hj => ⟨hmemory (mem_collRegs.mpr ⟨j, hj, .inl rfl⟩), hmemory (mem_collRegs.mpr ⟨j, hj, .inr rfl⟩)⟩, hregs.mono ?_⟩
    intro key hkey
    simp only [List.mem_cons, mem_collRegs] at hkey
    simp only [List.mem_append, List.mem_cons, List.mem_map, upTo, List.mem_range]
    grind
  case refused =>
    obtain ⟨hrow, hop⟩ : exec c s = .next (s.canRow bus.num op m.toNat arg.toNat) ∧ op ≠ 3 ∧ op < 256 := by
      simp only [List.mem_cons, Prod.mk.injEq, List.not_mem_nil, or_false] at hc
      obtain ⟨rfl, rfl⟩ | ⟨rfl, rfl⟩ | ⟨rfl, rfl⟩ | ⟨rfl, rfl⟩ := hc <;> exact ⟨rfl, by decide, by decide⟩
    obtain ⟨auth, run, hlane⟩ := State.canRow_of_refused (busNum_lt bus) m.isLt hcomputes hst
    obtain ⟨hstatus, hlastOp, -⟩ := (s.lane i).canAnswered_fields (b := bus.num) op m.toNat
      ((s.lane i).canStatus bus.num op m.toNat arg.toNat)
    have hanswer := (s.lane i).canAnswered_regsBut (busNum_lt bus) op m.toNat ((s.lane i).canStatus bus.num op m.toNat arg.toNat)
    have hmodes := Lane.canModes_regsBut auth run (((s.lane i).canAnswered bus.num op m.toNat
      ((s.lane i).canStatus bus.num op m.toNat arg.toNat)).ev (evCanRefused bus.num))
    have hfld (f : Fld) := hmodes.fld (CAN_CMDST_lt (busNum_lt bus)) CAN_CMDST_notMem_locals f
    refine ⟨_, hrow, State.canRow_sharedKept hop.1, ?_⟩
    rw [hlane]
    refine ⟨?_, ?_, ?_, Lane.canModes_raised ..⟩
    · exact ((hanswer.mono (by simp)).of_regs_eq rfl).trans (hmodes.mono (by simp))
    · exact ((hfld _).trans hstatus).trans (Nat.mod_eq_of_lt (Lane.canStatus_lt _))
    · exact ((hfld _).trans hlastOp).trans (Nat.mod_eq_of_lt hop.2)

end Sys2Proof.Machine
end

section
/-! A frame report in the cuts of the lanes (R32, R374–R376, R393, R414, R426). -/

namespace Sys2Proof.Machine

/-! ### One lane takes a report -/

section
variable (s : State) (b : Nat) (f : FrameRep)

/-- A report with its instants and the error counters after it. -/
def State.reportIn : CanIn :=
  { rep := f, sof := canStep (s.sh.gt + f.t - f.len), eof := canStep (s.sh.gt + f.t)
    tec := ((s.sh.canReport s.lead b (canStep (s.sh.gt + f.t - f.len)) f).can b).tec
    rxc := ((s.sh.canReport s.lead b (canStep (s.sh.gt + f.t - f.len)) f).can b).rxc }

/-- The lane with its own receive counter, and the loop delay where `delay` says that its controller measured one. -/
def Lane.countShown (b n : Nat) (delay : Bool) (tdcv : Nat) (l : Lane) : Lane :=
  let l := l.setF (CAN_LOCAL b) CAN_LOCAL_OWN_REC n
  if delay then l.setF (CAN_LOCAL b) CAN_LOCAL_TDCV tdcv else l

/-- The lane with a report in its cut; `own`: the report is of the node's own frame, which has succeeded. -/
def Lane.cutExtended (b : Nat) (x : CanIn) (own : Bool) (l : Lane) : Lane :=
  let l := l.setCan b { l.can b with cut := (l.can b).cut ++ [x] }
  if own then l.ownMark b else l

/-- A lane that takes cuts takes a report. -/
def State.frameTaken (l : Lane) : Lane :=
  let x := s.reportIn b f
  let m := l.countShown b (l.ownRec (s.sh.counts s.lead b) s.sh.auth b x.rxc f)
    (f.tx.isSome && f.frame.fdf && f.frame.brs &&
      (l.setF (CAN_LOCAL b) CAN_LOCAL_OWN_REC (l.ownRec (s.sh.counts s.lead b) s.sh.auth b x.rxc f)).fld (CAN_STAT b) CAN_STAT_DRATE_IN != 0 &&
      (s.sh.can b).sender == some l.id) f.tdcv.toNat
  if s.sh.gt < x.eof then m.cutExtended b x (f.ok && f.tx == some .own) else m

theorem State.canIn_eq : s.canIn b f =
    (s.taking (s.frameTaken b f)).withSh (s.sh.canReport s.lead b (canStep (s.sh.gt + f.t - f.len)) f) := rfl

end

section
variable {b : Nat} (hb : b < 2) (l : Lane)

theorem Lane.cutExtended_regs (x : CanIn) (own : Bool) : (l.cutExtended b x own).regs = l.regs := by
  cases own <;> rfl

theorem Lane.cutExtended_cut (x : CanIn) (own : Bool) : ((l.cutExtended b x own).can b).cut = (l.can b).cut ++ [x] := by
  cases own
  · exact congrArg CanWork.cut (Lane.can_setCan_same ..)
  · exact (congrArg CanWork.cut (Lane.can_setCan_same ..)).trans (congrArg CanWork.cut (Lane.can_setCan_same ..))

theorem Lane.cutExtended_st (x : CanIn) (own : Bool) : (l.cutExtended b x own).st = l.st := by
  cases own <;> rfl

theorem Lane.countShown_can (n : Nat) (delay : Bool) (tdcv : Nat) : (l.countShown b n delay tdcv).can b = l.can b := by
  cases delay <;> rfl

theorem Lane.countShown_st (n : Nat) (delay : Bool) (tdcv : Nat) : (l.countShown b n delay tdcv).st = l.st := by
  cases delay <;> rfl

include hb

theorem Lane.countShown_effect (n : Nat) (delay : Bool) (tdcv : Nat) : l.regsBut [CAN_LOCAL b] (l.countShown b n delay tdcv) ∧
    (l.countShown b n delay tdcv).fld (CAN_LOCAL b) CAN_LOCAL_OWN_REC = n % 256 := by
  have hown : l.regsBut [CAN_LOCAL b] (l.setF (CAN_LOCAL b) CAN_LOCAL_OWN_REC n) :=
    (Lane.regsBut.refl _ l).setF (CAN_LOCAL_lt hb) (by simp) _ _
  have hfld : (l.setF (CAN_LOCAL b) CAN_LOCAL_OWN_REC n).fld (CAN_LOCAL b) CAN_LOCAL_OWN_REC = n % 256 :=
    Lane.fld_setF_same _ _ _ _ (by decide)
  cases delay
  · exact ⟨hown, hfld⟩
  · exact ⟨hown.setF (CAN_LOCAL_lt hb) (by simp) _ _, (Lane.fld_setF_field _ _ _ _ _ (by decide)).trans hfld⟩

theorem State.frameTaken_effect (s : State) (f : FrameRep) : l.regsBut [CAN_LOCAL b] (s.frameTaken b f l) ∧
    (s.frameTaken b f l).fld (CAN_LOCAL b) CAN_LOCAL_OWN_REC =
      l.ownRec (s.sh.counts s.lead b) s.sh.auth b (s.reportIn b f).rxc f % 256 ∧
    ((s.frameTaken b f l).can b).cut = (l.can b).cut ++ (if s.sh.gt < (s.reportIn b f).eof then [s.reportIn b f] else []) ∧
    (s.frameTaken b f l).st = l.st := by
  unfold State.frameTaken
  dsimp only
  generalize hdelay : (f.tx.isSome && f.frame.fdf && f.frame.brs && _ && _) = delay
  obtain ⟨hregs, hfld⟩ := l.countShown_effect hb (l.ownRec (s.sh.counts s.lead b) s.sh.auth b (s.reportIn b f).rxc f) delay f.tdcv.toNat
  split
  · refine ⟨hregs.of_regs_eq (Lane.cutExtended_regs ..), (Lane.fld_of_regs_eq (Lane.cutExtended_regs ..) _ _).trans hfld, ?_, ?_⟩
    · rw [Lane.cutExtended_cut, Lane.countShown_can]
    · rw [Lane.cutExtended_st, Lane.countShown_st]
  · exact ⟨hregs, hfld, by rw [Lane.countShown_can, List.append_nil], Lane.countShown_st ..⟩

end

/-! ### The report in the node -/

section
variable {s : State} {i : LaneId} {b : Nat} {f : FrameRep}

theorem State.canIn_sh : (s.canIn b f).sh = s.sh.canReport s.lead b (canStep (s.sh.gt + f.t - f.len)) f := rfl

theorem State.canIn_lane (htakes : (s.lane i).takes = true) : (s.canIn b f).lane i = s.frameTaken b f (s.lane i) := by
  rw [State.canIn_eq, State.withSh_lane, State.taking_lane, if_pos htakes]

theorem State.canIn_effect (hb : b < 2) (htakes : (s.lane i).takes = true) :
    (s.lane i).regsBut [CAN_LOCAL b] ((s.canIn b f).lane i) ∧
    ((s.canIn b f).lane i).fld (CAN_LOCAL b) CAN_LOCAL_OWN_REC =
      (s.lane i).ownRec (s.sh.counts s.lead b) s.sh.auth b ((s.canIn b f).sh.can b).rxc f % 256 ∧
    (((s.canIn b f).lane i).can b).cut = ((s.lane i).can b).cut ++ (if s.sh.gt < canStep (s.sh.gt + f.t) then
      [⟨f, canStep (s.sh.gt + f.t - f.len), canStep (s.sh.gt + f.t), ((s.canIn b f).sh.can b).tec, ((s.canIn b f).sh.can b).rxc⟩] else []) ∧
    ((s.canIn b f).lane i).st = (s.lane i).st := by
  rw [State.canIn_lane htakes]
  exact State.frameTaken_effect hb _ s f

theorem State.canIn_tec : ((s.canIn b f).sh.can b).tec =
    if s.sh.counts s.lead b then tecAfter f (s.sh.can b).tec (s.sh.can b).rxc else (s.sh.can b).tec := by
  rw [State.canIn_sh, Shared.canReport, Shared.can_setCan_same]

theorem State.canIn_sending : ((s.canIn b f).sh.can b).sending = if f.tx.isSome then none else (s.sh.can b).sending := by
  rw [State.canIn_sh, Shared.canReport, Shared.can_setCan_same]

/-- What a report of the node's own frame does in bisque mode. -/
def State.bisqueSent (s : State) (b : Nat) (f : FrameRep) : State :=
  if f.tx == some .own then
    State.onLanes (fun l => l.st == .bisque) (fun l => (if f.ok then l.ownMark b else l).ownSent b f.ok) s else s

theorem State.bisqueSent_lane (h : (s.lane i).st ≠ .bisque) : (s.bisqueSent b f).lane i = s.lane i := by
  unfold State.bisqueSent
  split
  · rw [State.onLanes_lane, if_neg (by simpa using h)]
  · rfl

theorem State.bisqueSent_sh : (s.bisqueSent b f).sh = s.sh ∧ (s.bisqueSent b f).pending = s.pending := by
  unfold State.bisqueSent
  split <;> exact ⟨rfl, rfl⟩

theorem State.cnpServe_of_noRequest {x : CanFrame} (now : Nat) (h : x.ide = false ∨ x.rtr = true ∨ (cnpClass x.id ≠ 3 ∧ cnpClass x.id ≠ 6)) :
    s.cnpServe b x now = s := by
  unfold State.cnpServe
  split
  case isTrue => rfl
  case isFalse hcnp =>
    obtain h | h | ⟨h3, h6⟩ := h
    · simp [h] at hcnp
    · simp [h] at hcnp
    · split
      case h_1 h => exact absurd h h3
      case h_2 h => exact absurd h h6
      case h_3 => rfl

theorem State.frameReport_of_noRequest
    (h : f.tx.isSome = true ∨ f.ok = false ∨ f.frame.ide = false ∨ f.frame.rtr = true ∨ (cnpClass f.frame.id ≠ 3 ∧ cnpClass f.frame.id ≠ 6)) :
    s.frameReport b f = (s.canIn b f).bisqueSent b f := by
  have hrow : s.frameReport b f = if f.tx.isNone && f.ok then ((s.canIn b f).bisqueSent b f).cnpServe b f.frame (canStep (s.sh.gt + f.t))
      else (s.canIn b f).bisqueSent b f := rfl
  rw [hrow]
  split
  case isFalse => rfl
  case isTrue hgood =>
    rw [Bool.and_eq_true, Option.isNone_iff_eq_none] at hgood
    obtain h | h | h := h
    · simp [hgood.1] at h
    · simp [hgood.2] at h
    · exact State.cnpServe_of_noRequest _ h

theorem Lane.not_bisque_of_takes {l : Lane} (h : l.takes = true) : l.st ≠ .bisque := by
  intro hst
  simp [Lane.takes, Lane.computes, hst] at h

end

/-- Settles O38: every report goes through `State.canIn`, and what follows it touches neither the cut nor the registers. -/
theorem frameReportsEnterTheCut : Obligations.FrameReportsEnterTheCut := by
  refine ⟨fun bus f s i htakes hnone => ?report, fun bus p node ep b6 u len s i htakes => ?reference,
    fun bus p node obj data u len s i htakes => ?value⟩
  case report =>
    obtain ⟨hregs, hown, hcut, hst⟩ := State.canIn_effect (f := f) (busNum_lt bus) htakes
    obtain ⟨hsh, hpending⟩ := State.bisqueSent_sh (s := s.canIn bus.num f) (b := bus.num) (f := f)
    have hlane : ((s.canIn bus.num f).bisqueSent bus.num f).lane i = (s.canIn bus.num f).lane i :=
      State.bisqueSent_lane (hst ▸ Lane.not_bisque_of_takes htakes)
    refine ⟨_, congrArg Host.Outcome.next (State.frameReport_of_noRequest hnone), ?_⟩
    rw [hsh, hpending, hlane]
    exact ⟨rfl, rfl, hregs, hown, hcut, State.canIn_tec, State.canIn_sending⟩
  case reference =>
    obtain ⟨hregs, -, hcut, -⟩ := State.canIn_effect (f := goodRx _ u len) (busNum_lt bus) htakes
    exact ⟨_, rfl, rfl, rfl, hregs, hcut⟩
  case value =>
    obtain ⟨hregs, -, hcut, -⟩ := State.canIn_effect (f := goodRx _ u len) (busNum_lt bus) htakes
    exact ⟨_, rfl, rfl, rfl, hregs, hcut⟩

end Sys2Proof.Machine
end

section
/-! Register requests and image-transfer frames over CNP, and the responses to them (R430–R434, R495). -/

namespace Sys2Proof.Machine

/-! ### Identifiers and bytes -/

section
variable {p c node obj : Nat} (hp : p < 8) (hc : c < 64) (hnode : node < 128) (hobj : obj < 8192)
include hp hc hnode hobj

theorem cnpId_toNat : (BitVec.ofNat 29 (cnpId p c node obj)).toNat = cnpId p c node obj := by
  rw [BitVec.toNat_ofNat, cnpId]
  omega

theorem cnpPrio_cnpId : cnpPrio (BitVec.ofNat 29 (cnpId p c node obj)) = p := by
  rw [cnpPrio, cnpId_toNat hp hc hnode hobj, cnpId]
  omega

theorem cnpClass_cnpId : cnpClass (BitVec.ofNat 29 (cnpId p c node obj)) = c := by
  rw [cnpClass, cnpId_toNat hp hc hnode hobj, cnpId]
  omega

theorem cnpNode_cnpId : cnpNode (BitVec.ofNat 29 (cnpId p c node obj)) = node := by
  rw [cnpNode, cnpId_toNat hp hc hnode hobj, cnpId]
  omega

end

theorem leBytes_length (n v : Nat) : (leBytes n v).length = n := by
  induction n generalizing v with
  | zero => rfl
  | succ n ih => rw [leBytes, List.length_cons, ih]

theorem leNat_leBytes {n v : Nat} (hv : v < 256 ^ n) : leNat (leBytes n v) = v := by
  induction n generalizing v with
  | zero => simp only [leBytes, leNat]; omega
  | succ n ih =>
    have hrest : v / 256 < 256 ^ n := by
      rw [Nat.pow_succ] at hv
      omega
    rw [leBytes, leNat, ih hrest, BitVec.toNat_ofNat]
    omega

/-- A frame that carries as many bytes as a DLC can give shows them all. -/
theorem frameBytes_cnpFrame {id : Nat} {d : List Byte} (hlen : d.length = 48) : frameBytes (cnpFrame id d) = d := by
  have hcount : dlcBytes (cnpFrame id d).fdf (cnpFrame id d).dlc.toNat = 48 := by
    rw [cnpFrame, hlen]
    rfl
  rw [frameBytes, hcount]
  exact List.take_left' hlen

/-! ### Frames that ask -/

section
variable {s : State} {b : Nat}

theorem State.frameReport_of_good (f : CanFrame) (t len : Nat) :
    s.frameReport b (goodRx f t len) = (s.canIn b (goodRx f t len)).cnpServe b f (canStep (s.sh.gt + t)) := rfl

theorem State.cnpServe_request {p node : Nat} (hp : p < 8) (hnode : node < 128) (d : List Byte) (now : Nat) :
    s.cnpServe b (cnpFrame (cnpId p 3 node 0) d) now = s.request b p node (frameBytes (cnpFrame (cnpId p 3 node 0) d)) now := by
  have hclass : cnpClass (cnpFrame (cnpId p 3 node 0) d).id = 3 := cnpClass_cnpId hp (by decide) hnode (by decide)
  have hprio : cnpPrio (cnpFrame (cnpId p 3 node 0) d).id = p := cnpPrio_cnpId hp (by decide) hnode (by decide)
  have hsrc : cnpNode (cnpFrame (cnpId p 3 node 0) d).id = node := cnpNode_cnpId hp (by decide) hnode (by decide)
  rw [State.cnpServe, if_neg (by simp [cnpFrame])]
  simp only [hclass, hprio, hsrc]

theorem State.cnpServe_imagePart {p node : Nat} (hp : p < 8) (hnode : node < 128) {d : List Byte} (hlen : d.length = 48) (now : Nat) :
    s.cnpServe b (cnpFrame (cnpId p 6 node 0) d) now = s.imagePart b p node d now := by
  have hclass : cnpClass (cnpFrame (cnpId p 6 node 0) d).id = 6 := cnpClass_cnpId hp (by decide) hnode (by decide)
  have hprio : cnpPrio (cnpFrame (cnpId p 6 node 0) d).id = p := cnpPrio_cnpId hp (by decide) hnode (by decide)
  have hsrc : cnpNode (cnpFrame (cnpId p 6 node 0) d).id = node := cnpNode_cnpId hp (by decide) hnode (by decide)
  have hcount : dlcBytes (cnpFrame (cnpId p 6 node 0) d).fdf (cnpFrame (cnpId p 6 node 0) d).dlc.toNat = 48 := by
    rw [cnpFrame, hlen]
    rfl
  rw [State.cnpServe, if_neg (by simp [cnpFrame])]
  simp only [hclass, hprio, hsrc, hcount, if_pos, frameBytes_cnpFrame hlen]

/-! ### Responses -/

/-- A response as it waits in a lane's queue. -/
def State.response (s : State) (prio cls : Nat) (data : List Byte) : OwnFrame :=
  { kind := 1, id := cnpId prio cls s.nodeAddr (Config.respObject cls (data.getD 1 0#8).toNat).toNat, data := data }

theorem State.respond_lane {i : LaneId} (hsends : (s.lane i).sends = true) (prio cls : Nat) (data : List Byte) :
    (s.respond b prio cls data).lane i =
      (s.lane i).setCan b { (s.lane i).can b with own := ((s.lane i).can b).own ++ [s.response prio cls data] } := by
  rw [State.respond, State.onLanes_lane, if_pos hsends]
  rfl

theorem State.respond_effect {i : LaneId} (hsends : (s.lane i).sends = true) (prio cls : Nat) (data : List Byte) :
    ((s.respond b prio cls data).lane i).regs = (s.lane i).regs ∧ ((s.respond b prio cls data).lane i).writes = (s.lane i).writes ∧
    (((s.respond b prio cls data).lane i).can b).own = ((s.lane i).can b).own ++ [s.response prio cls data] := by
  rw [State.respond_lane hsends]
  exact ⟨rfl, rfl, congrArg CanWork.own (Lane.can_setCan_same ..)⟩

theorem State.serve_of_bad {q : RegReq} (now : Nat) (h : q.bad = true) : s.serve q now = (3, [], s) := by
  rw [State.serve, if_pos h]

theorem RegReq.bad_of_short {q : RegReq} (h : q.len < 8) : q.bad = true := by
  simp [RegReq.bad, h]

/-- A request that finds room, with its response. -/
theorem State.request_of_room {d : List Byte} {p node now : Nat} (hasked : s.asked d = true) (hroom : s.responses b < 4) :
    s.request b p node d now = (s.serve (regReq d) now).2.2.respond b p 4
      ([BitVec.ofNat 8 node, d.getD 1 0#8, BitVec.ofNat 8 (s.serve (regReq d) now).1, BitVec.ofNat 8 (regReq d).w,
        d.getD 4 0#8, d.getD 5 0#8, d.getD 6 0#8, d.getD 7 0#8] ++ wordsBytes (s.serve (regReq d) now).2.1) := by
  rw [State.request, if_neg (by simp [hasked]), if_neg (by omega)]
  rfl

theorem State.request_of_full {d : List Byte} {p node now : Nat} (hasked : s.asked d = true) (hfull : 4 ≤ s.responses b) :
    s.request b p node d now = s.reqDrop := by
  rw [State.request, if_neg (by simp [hasked]), if_pos hfull]

/-- The node after the writes of a page part with its status. -/
def State.partTaken (s : State) (off st : Nat) (d : List Byte) (now : Nat) : State :=
  if st = 0 then (partWrites off d).foldl (fun s x => s.aliasWrite now x.1 x.2 true) s else s

theorem State.imagePart_of_room {d : List Byte} {p node now off st : Nat} (hasked : s.asked d = true) (hroom : s.responses b < 4)
    (hoff : leNat ((d.drop 2).take 3) = off) (hst : s.partStatus off now = st) :
    s.imagePart b p node d now = (s.partTaken off st d now).respond b p 6
      [BitVec.ofNat 8 node, d.getD 1 0#8, d.getD 2 0#8, d.getD 3 0#8, d.getD 4 0#8, BitVec.ofNat 8 st, 0#8, 0#8] := by
  rw [State.imagePart, if_neg (by simp [hasked]), if_neg (by omega)]
  simp only [hoff, hst, State.partTaken]
  by_cases h : st = 0 <;> simp [h]

theorem Lane.sends_of_takes {l : Lane} (h : l.takes = true) : l.sends = true := by
  simp [Lane.sends, h]

/-! ### A request that finds no room -/

theorem State.frameTaken_own {f : FrameRep} (hother : f.tx = none) (l : Lane) : ((s.frameTaken b f l).can b).own = (l.can b).own := by
  unfold State.frameTaken
  dsimp only
  have hown : (f.ok && f.tx == some .own) = false := by simp [hother]
  rw [hown]
  split
  · rw [Lane.cutExtended, if_neg Bool.false_ne_true, Lane.can_setCan_same, Lane.countShown_can]
  · rw [Lane.countShown_can]

theorem Lane.countShown_takes (n : Nat) (delay : Bool) (tdcv : Nat) (l : Lane) : (l.countShown b n delay tdcv).takes = l.takes := by
  cases delay <;> rfl

theorem Lane.cutExtended_takes (x : CanIn) (own : Bool) (l : Lane) : (l.cutExtended b x own).takes = l.takes := by
  cases own <;> rfl

theorem State.frameTaken_takes (f : FrameRep) (l : Lane) : (s.frameTaken b f l).takes = l.takes := by
  unfold State.frameTaken
  dsimp only
  split
  · rw [Lane.cutExtended_takes, Lane.countShown_takes]
  · rw [Lane.countShown_takes]

theorem State.reqDrop_lane {i : LaneId} (hsends : (s.lane i).sends = true) :
    s.reqDrop.lane i = (s.lane i).bump CNP_STAT CNP_STAT_REQDROP := by
  rw [State.reqDrop, State.onLanes_lane, if_pos hsends]

end

/-- The bytes of a page part as a frame carries them. -/
def partBytes (target tag : Byte) (off : BitVec 24) (data : List Byte) : List Byte :=
  [target, tag] ++ leBytes 3 off.toNat ++ [0#8, 0#8, 0#8] ++ (data ++ List.replicate 32 0#8).take 32 ++ List.replicate 8 0#8

theorem partBytes_length (target tag : Byte) (off : BitVec 24) (data : List Byte) : (partBytes target tag off data).length = 48 := by
  simp [partBytes, leBytes_length]

theorem partBytes_offset (target tag : Byte) (off : BitVec 24) (data : List Byte) :
    leNat (((partBytes target tag off data).drop 2).take 3) = off.toNat :=
  leNat_leBytes (n := 3) off.isLt

/-- Settles O39: a frame that asks reaches `request` or `imagePart`, whose response joins the queue after what the request did. -/
theorem cnpRequestsAreAnswered : Obligations.CnpRequestsAreAnswered := by
  refine ⟨fun bus p node data u len s i => ?served, fun bus p node data u len s i => ?dropped,
    fun bus p node target tag off data u len s i => ?part⟩
  case served =>
    intro f d s1 r hasked hroom hsends
    have hrow : s.frameReport bus.num (goodRx f u len) = r.2.2.respond bus.num p.toNat 4 _ :=
      (State.frameReport_of_good ..).trans ((State.cnpServe_request p.isLt node.isLt ..).trans (State.request_of_room hasked hroom))
    obtain ⟨hregs, -, hown⟩ := State.respond_effect (b := bus.num) hsends p.toNat 4 ([BitVec.ofNat 8 node.toNat, d.getD 1 0#8,
      BitVec.ofNat 8 r.1, BitVec.ofNat 8 (regReq d).w, d.getD 4 0#8, d.getD 5 0#8, d.getD 6 0#8, d.getD 7 0#8] ++ wordsBytes r.2.1)
    refine ⟨_, congrArg Host.Outcome.next hrow, ?_, hregs, hown, fun hbad => ?_, fun hshort => RegReq.bad_of_short hshort⟩
    · rw [← hrow]
      exact (State.frameReport_keep ..).1
    · have hserve : r = (3, [], s1) := State.serve_of_bad _ hbad
      rw [hserve]
      exact ⟨rfl, rfl, rfl⟩
  case dropped =>
    intro f s1 hasked hfull htakes
    have hrow : s.frameReport bus.num (goodRx f u len) = s1.reqDrop :=
      (State.frameReport_of_good ..).trans ((State.cnpServe_request p.isLt node.isLt ..).trans (State.request_of_full hasked hfull))
    obtain ⟨hregs, -, -, -⟩ := State.canIn_effect (f := goodRx f u len) (busNum_lt bus) htakes
    have hlane : s1.lane i = s.frameTaken bus.num (goodRx f u len) (s.lane i) := State.canIn_lane htakes
    have hsends : (s1.lane i).sends = true := by
      refine Lane.sends_of_takes ?_
      rw [hlane, State.frameTaken_takes]
      exact htakes
    have hown : ((s1.lane i).can bus.num).own = ((s.lane i).can bus.num).own := by
      rw [hlane, State.frameTaken_own rfl]
    have hdrop : (s1.lane i).fld CNP_STAT CNP_STAT_REQDROP = (s.lane i).fld CNP_STAT CNP_STAT_REQDROP :=
      hregs.fld (by decide) (by cases bus <;> decide) _
    refine ⟨_, congrArg Host.Outcome.next hrow, rfl, ?_⟩
    rw [State.reqDrop_lane hsends, Lane.fld_bump_same _ _ _ (by decide), hdrop]
    exact ⟨(hregs.mono (by simp)).bump (by decide) (by simp) _, hown, rfl⟩
  case part =>
    intro d now s1 st s2 hasked hroom hsends
    have hrow : s.frameReport bus.num (goodRx (cnpFrame (cnpId p.toNat 6 node.toNat 0) d) u len) =
        s2.respond bus.num p.toNat 6 ([BitVec.ofNat 8 node.toNat, tag] ++ leBytes 3 off.toNat ++ [BitVec.ofNat 8 st, 0#8, 0#8]) :=
      (State.frameReport_of_good ..).trans ((State.cnpServe_imagePart p.isLt node.isLt (partBytes_length target tag off data) _).trans
        (State.imagePart_of_room hasked hroom (partBytes_offset ..) rfl))
    obtain ⟨hregs, hwrites, hown⟩ := State.respond_effect (b := bus.num) hsends p.toNat 6
      ([BitVec.ofNat 8 node.toNat, tag] ++ leBytes 3 off.toNat ++ [BitVec.ofNat 8 st, 0#8, 0#8])
    refine ⟨_, congrArg Host.Outcome.next hrow, ?_, hregs, hwrites, hown⟩
    rw [← hrow]
    exact (State.frameReport_keep ..).1

end Sys2Proof.Machine
end

section
/-! A read of CLK_TILE over the host port (R536, R586): the register is current at every read, so its answer is not the word kept
under its key. -/

namespace Sys2Proof.Machine

/-- A running node whose tile 0 is locked over its link A. -/
def nodeWithTile : State :=
  { State.reset with sh := ({ start := { phase := .running } } : Shared).setB (AIN_TSTAT 0) AIN_TSTAT_LINK_A true }

/-- The byte address of CLK_TILE. -/
def clkTileAddr : BitVec 24 := 0x303008#24

theorem placeOf_clkTile : placeOf clkTileAddr.toNat = .shared CLK_TILE := rfl

theorem mapped_clkTile : (regRow? CLK_TILE).isSome = true := by decide

theorem State.readPlace_clkTile (s : State) (now : Nat) (pair : Bool) :
    s.readPlace now pair (.shared CLK_TILE) = (0, s.sh.tileLocks, s) := by
  have hon : s.offline (.shared CLK_TILE) = false := rfl
  have hmapped : (Place.shared CLK_TILE).mapped = true := mapped_clkTile
  rw [State.readPlace, hon, hmapped]
  rfl

/-- The answer to a read frame of the one word CLK_TILE. -/
theorem State.hpRead_clkTile (s : State) (now : Nat) :
    s.hpRead clkTileAddr.toNat 1 now true = s.hpDrive (hpAnswer 0 [s.sh.tileLocks]) := by
  have hwords : s.readWords now (readsPair [.shared CLK_TILE]) [.shared CLK_TILE] = ([(0, s.sh.tileLocks)], s) := by
    rw [State.readWords, State.readPlace_clkTile]
    rfl
  have hplaces : placesOf clkTileAddr.toNat 1 = [.shared CLK_TILE] := rfl
  rw [State.hpRead, if_neg (by decide)]
  dsimp only
  rw [hplaces, hwords]
  rfl

/-- A read frame with a good header, answered. -/
theorem State.hpFrame_read {s : State} {op : Byte} (addr : BitVec 24) (data : List Byte) (dcrc : Option Byte) (whole : Bool) (now : Nat)
    (hreset : s.sh.start.phase ≠ .reset) (hreleased : s.sh.start.phase ≠ .released) (hop : op.toNat / 16 = 1) :
    s.hpFrame op addr (some (crc8 [op, addr.extractLsb' 16 8, addr.extractLsb' 8 8, addr.extractLsb' 0 8])) data dcrc whole now =
      s.hpRead addr.toNat (op.toNat % 16 + 1) now whole := by
  have hanswers : (s.sh.start.phase == .reset || s.sh.start.phase == .released) = false := by simp [hreset, hreleased]
  simp only [State.hpFrame, hanswers, bne_self_eq_false, if_neg Bool.false_ne_true, hop]

theorem nodeWithTile_locks : nodeWithTile.sh.tileLocks = 1#32 := by decide

theorem nodeWithTile_kept : nodeWithTile.sh.rd CLK_TILE = 0#32 := by decide

/-- Refutes O52: while tile 0 is locked, a read of CLK_TILE answers 1 and the word under its key is 0. -/
theorem not_hostFrames : ¬ Obligations.HostFrames := by
  intro h
  obtain ⟨-, hshared, -⟩ := h
  have hsaid := hshared clkTileAddr CLK_TILE 0 nodeWithTile (by decide) (by decide) (by decide) placeOf_clkTile mapped_clkTile rfl
    (.inr (by decide))
  have hrow : exec (.hostReadFrame 0x10#8 clkTileAddr (some (crc8 [0x10#8, clkTileAddr.extractLsb' 16 8, clkTileAddr.extractLsb' 8 8,
      clkTileAddr.extractLsb' 0 8])) true 0) nodeWithTile = .next (nodeWithTile.hpDrive (hpAnswer 0 [1#32])) := by
    refine congrArg Host.Outcome.next ((State.hpFrame_read _ _ _ _ _ (by decide) (by decide) (by decide)).trans ?_)
    exact (State.hpRead_clkTile ..).trans (by rw [nodeWithTile_locks])
  have hdriven := Host.Outcome.next.inj (hrow.symm.trans hsaid)
  have hbytes : hpAnswer 0 [1#32] = hpAnswer 0 [nodeWithTile.sh.rd CLK_TILE] := congrArg (fun s => s.sh.hpOut) hdriven
  rw [nodeWithTile_kept] at hbytes
  exact absurd hbytes (by decide)

end Sys2Proof.Machine
end

section
/-! The drive stage of the panel and its measurements (R441, R446, R452, R458–R463, R468), and the aging copy (R451, R475). -/

namespace Sys2Proof.Machine

/-! ### Operations of the stage -/

theorem Shared.fld_of_rd_eq {h g : Shared} {k : Nat} (hrd : g.rd k = h.rd k) (f : Fld) : g.fld k f = h.fld k f := congrArg f.get hrd

theorem Shared.rd_of_regs_eq {h g : Shared} (hregs : g.regs = h.regs) (k : Nat) : g.rd k = h.rd k := congrArg (RegFile.rd · k) hregs

theorem Shared.regsBut.mono {ks js : List Nat} {h g : Shared} (hg : h.regsBut ks g) (hks : ks ⊆ js) : h.regsBut js g :=
  fun k hk hjs => hg k hk fun hmem => hjs (hks hmem)

/-- The stage with the measured voltages of both rails. -/
def Shared.railsSeen (vneg vc : Nat) (h : Shared) : Shared := (h.railSeen false vneg).railSeen true vc

section
variable (h : Shared) (vneg vc w : Nat)

theorem Shared.railSeen_regsBut (vcol : Bool) (v : Nat) : h.regsBut [PNL_RAIL] (h.railSeen vcol v) := by
  cases vcol <;> exact (Shared.regsBut.refl _ h).setF (by decide) (by simp) _ _

theorem Shared.railSeen_pnl (vcol : Bool) (v : Nat) : (h.railSeen vcol v).pnl = h.pnl := by
  cases vcol <;> rfl

theorem Shared.railsSeen_eq :
    h.railsSeen vneg vc = (h.setF PNL_RAIL PNL_RAIL_VNEG vneg).setF PNL_RAIL PNL_RAIL_VCOL vc := rfl

theorem Shared.railsSeen_regsBut : h.regsBut [PNL_RAIL] (h.railsSeen vneg vc) :=
  ((Shared.regsBut.refl _ h).setF (by decide) (by simp) _ _).setF (by decide) (by simp) _ _

theorem Shared.railsSeen_vcol : (h.railsSeen vneg vc).fld PNL_RAIL PNL_RAIL_VCOL = vc % 256 :=
  Shared.fld_setF_same _ _ _ _ (by decide)

theorem Shared.railsSeen_vneg : (h.railsSeen vneg vc).fld PNL_RAIL PNL_RAIL_VNEG = vneg % 128 := by
  rw [Shared.railsSeen_eq, Shared.fld_setF_field _ _ _ _ _ (by decide), Shared.fld_setF_same _ _ _ _ (by decide)]
  rfl

theorem Shared.railsSeen_on {f : Fld} (hn : fldsApart f PNL_RAIL_VNEG) (hc : fldsApart f PNL_RAIL_VCOL) :
    (h.railsSeen vneg vc).on PNL_RAIL f = h.on PNL_RAIL f :=
  congrArg (· != 0) ((Shared.fld_setF_field _ _ _ _ _ ⟨hc.1, hc.2⟩).trans (Shared.fld_setF_field h _ _ _ _ ⟨hn.1, hn.2⟩))

theorem Shared.setGood_fld (f : Fld) (v : Bool) {g : Fld} (hg : fldsApart g f) :
    (h.setB PNL_RAIL f v).fld PNL_RAIL g = h.fld PNL_RAIL g :=
  Shared.fld_setF_field h PNL_RAIL g f v.toNat hg

/-- The stage with VCOL shown good. -/
def Shared.vcolUp (vneg vc : Nat) (h : Shared) : Shared := (h.railsSeen vneg vc).setB PNL_RAIL PNL_RAIL_VCOL_GOOD true

/-- The stage with VNEG shown good, the second step of the rise begun. -/
def Shared.vnegUp (vneg vc at_ : Nat) (switch : Bool) (h : Shared) : Shared :=
  ((h.railsSeen vneg vc).setB PNL_RAIL PNL_RAIL_VNEG_GOOD true).setPnl (fun w => { w with stepAt := at_, switch := switch })

theorem Shared.vcolUp_effect : h.regsBut [PNL_RAIL] (h.vcolUp vneg vc) ∧ (h.vcolUp vneg vc).on PNL_RAIL PNL_RAIL_VCOL_GOOD = true ∧
    (h.vcolUp vneg vc).fld PNL_RAIL PNL_RAIL_VCOL = vc % 256 ∧ (h.vcolUp vneg vc).fld PNL_RAIL PNL_RAIL_VNEG = vneg % 128 ∧
    (h.vcolUp vneg vc).on PNL_RAIL PNL_RAIL_VNEG_GOOD = h.on PNL_RAIL PNL_RAIL_VNEG_GOOD := by
  unfold Shared.vcolUp
  refine ⟨Shared.regsBut.setB (h.railsSeen_regsBut vneg vc) (by decide) (by simp) _ _, Shared.on_setB_same _ _ _ _ (by decide), ?_, ?_, ?_⟩
  · rw [Shared.setGood_fld _ _ _ (by decide), Shared.railsSeen_vcol]
  · rw [Shared.setGood_fld _ _ _ (by decide), Shared.railsSeen_vneg]
  · rw [Shared.on_setB_field _ _ _ _ _ (by decide), Shared.railsSeen_on _ _ _ (by decide) (by decide)]

theorem Shared.vnegUp_effect (at_ : Nat) (switch : Bool) : h.regsBut [PNL_RAIL] (h.vnegUp vneg vc at_ switch) ∧
    (h.vnegUp vneg vc at_ switch).on PNL_RAIL PNL_RAIL_VNEG_GOOD = true ∧
    (h.vnegUp vneg vc at_ switch).fld PNL_RAIL PNL_RAIL_VNEG = vneg % 128 ∧
    (h.vnegUp vneg vc at_ switch).fld PNL_RAIL PNL_RAIL_VCOL = vc % 256 ∧
    (h.vnegUp vneg vc at_ switch).on PNL_RAIL PNL_RAIL_VCOL_GOOD = h.on PNL_RAIL PNL_RAIL_VCOL_GOOD := by
  have hrd : (h.vnegUp vneg vc at_ switch).rd PNL_RAIL = ((h.railsSeen vneg vc).setB PNL_RAIL PNL_RAIL_VNEG_GOOD true).rd PNL_RAIL := rfl
  have hregs := Shared.regsBut.setB (k := PNL_RAIL) (h.railsSeen_regsBut vneg vc) (by decide) (by simp) PNL_RAIL_VNEG_GOOD true
  refine ⟨hregs.trans (Shared.regsBut_of_regs_eq _ rfl), ?_, ?_, ?_, ?_⟩
  · rw [Shared.on_of_rd_eq hrd, Shared.on_setB_same _ _ _ _ (by decide)]
  · rw [Shared.fld_of_rd_eq hrd, Shared.setGood_fld _ _ _ (by decide), Shared.railsSeen_vneg]
  · rw [Shared.fld_of_rd_eq hrd, Shared.setGood_fld _ _ _ (by decide), Shared.railsSeen_vcol]
  · rw [Shared.on_of_rd_eq hrd, Shared.on_setB_field _ _ _ _ _ (by decide), Shared.railsSeen_on _ _ _ (by decide) (by decide)]

theorem Shared.railsTrip_regsBut : h.regsBut [PNL_RAIL] (h.railsTrip w) :=
  (((Shared.regsBut.refl _ h).setB (k := PNL_RAIL) (by decide) (by simp) PNL_RAIL_VNEG_GOOD false).setB (k := PNL_RAIL) (by decide)
    (by simp) PNL_RAIL_VCOL_GOOD false).trans (Shared.regsBut_of_regs_eq _ rfl)

theorem Shared.railsTrip_good : (h.railsTrip w).on PNL_RAIL PNL_RAIL_VNEG_GOOD = false ∧
    (h.railsTrip w).on PNL_RAIL PNL_RAIL_VCOL_GOOD = false := by
  have hrd : (h.railsTrip w).rd PNL_RAIL =
      ((h.setB PNL_RAIL PNL_RAIL_VNEG_GOOD false).setB PNL_RAIL PNL_RAIL_VCOL_GOOD false).rd PNL_RAIL := rfl
  constructor
  · rw [Shared.on_of_rd_eq hrd, Shared.on_setB_field _ _ _ _ _ (by decide), Shared.on_setB_same _ _ _ _ (by decide)]
  · rw [Shared.on_of_rd_eq hrd, Shared.on_setB_same _ _ _ _ (by decide)]

theorem Shared.railsTrip_pnl : (h.railsTrip w).pnl = { h.pnl.fall w with fault := true } := rfl

theorem PnlHw.fall_of_up {p : PnlHw} {w : Nat} (hup : p.rails = .rising ∨ p.rails = .up) :
    { p.fall w with fault := true } = (⟨.fallCol, w, false, true, none, none⟩ : PnlHw) := by
  have hdown : (p.rails = .rising || p.rails = .up) = true := by simpa using hup
  simp only [PnlHw.fall, hdown, if_pos]

end

/-! ### Reports into the cut -/

section
variable {s : State} {i : LaneId}

/-- The lane with a report of the stage in its cut. -/
def Lane.pnlReported (f : PnlCut → PnlCut) (l : Lane) : Lane := { l with cut := { l.cut with pnl := f l.cut.pnl } }

theorem State.pnlReport_lane (htakes : (s.lane i).takes = true) (f : PnlCut → PnlCut) :
    (s.pnlReport f).lane i = (s.lane i).pnlReported f := by
  rw [State.pnlReport, State.onLanes_lane, if_pos (by rw [htakes]; rfl)]
  rfl

theorem State.pnlReport_effect (htakes : (s.lane i).takes = true) (f : PnlCut → PnlCut) :
    ((s.pnlReport f).lane i).regs = (s.lane i).regs ∧ ((s.pnlReport f).lane i).cut.pnl = f (s.lane i).cut.pnl := by
  rw [State.pnlReport_lane htakes]
  exact ⟨rfl, rfl⟩

/-! ### Frame starts (R441, R446) -/

theorem Shared.frameStart_of_scan {h : Shared} {f : DriveFrame} (hnext : h.pnl.next = some f) (hscan : f.scan = true)
    (hup : h.pnl.rails = .rising ∨ h.pnl.rails = .up) :
    h.frameStart = (h.setF PNL_RAIL PNL_RAIL_VCOL_SP f.vsp).setPnl (fun w => { w with rails := .up, cur := some f, next := none }) := by
  have hrails : h.railsUp = true := by simpa [Shared.railsUp] using hup
  simp only [Shared.frameStart, hnext, hrails, hscan, Bool.and_self, if_pos]

theorem Shared.frameStart_of_blank {h : Shared} {f : DriveFrame} (hnext : h.pnl.next = some f)
    (hblank : f.scan = false ∨ (h.pnl.rails ≠ .rising ∧ h.pnl.rails ≠ .up)) :
    h.frameStart = h.setPnl (fun w => { w with cur := none, next := none }) := by
  have hdark : ¬(h.railsUp && f.scan) = true := by
    obtain h' | h' := hblank
    · simp [h']
    · simp [Shared.railsUp, h'.1, h'.2]
  simp only [Shared.frameStart, hnext, if_neg hdark]

/-! ### Rails that come good (R458) -/

theorem State.railGood_vcol {vneg vc u : Nat} (hrising : s.sh.pnl.rails = .rising) (hneg : s.sh.on PNL_RAIL PNL_RAIL_VNEG_GOOD = true)
    (hlow : s.sh.fld PNL_RAIL PNL_RAIL_VCOL_SP * 9 ≤ vc * 10) (hhigh : vc * 10 ≤ s.sh.fld PNL_RAIL PNL_RAIL_VCOL_SP * 11)
    (hswitch : s.lead.railx = false ∨ s.sh.pnl.switch = true) :
    s.railGood true vneg vc u = s.withSh (s.sh.vcolUp vneg vc) := by
  have hseen : (s.sh.railsSeen vneg vc).on PNL_RAIL PNL_RAIL_VNEG_GOOD = true :=
    (s.sh.railsSeen_on vneg vc (by decide) (by decide)).trans hneg
  have hin : s.vcolOut vc = false := by
    simp only [State.vcolOut, Bool.or_eq_false_iff, decide_eq_false_iff_not]
    omega
  have hclosed : (s.lead.railx && !s.sh.pnl.switch) = false := by
    obtain h | h := hswitch <;> simp [h]
  change (if (s.sh.pnl.rails != .rising) = true then s else if (!true) = true then _ else
    if (s.vcolOut vc || !(s.sh.railsSeen vneg vc).on PNL_RAIL PNL_RAIL_VNEG_GOOD || (s.lead.railx && !s.sh.pnl.switch)) = true then s else _) = _
  rw [hrising, hseen, hin, hclosed]
  rfl

theorem State.railGood_vneg {vneg vc u : Nat} (hrising : s.sh.pnl.rails = .rising) (hneg : s.sh.on PNL_RAIL PNL_RAIL_VNEG_GOOD = false)
    (hset : s.lead.vnegSet * 9 ≤ vneg * 10) :
    s.railGood false vneg vc u = s.withSh (s.sh.vnegUp vneg vc (s.sh.gt + u) (s.lead.railx && decide (70 ≤ vc))) := by
  have hseen : (s.sh.railsSeen vneg vc).on PNL_RAIL PNL_RAIL_VNEG_GOOD = false :=
    (s.sh.railsSeen_on vneg vc (by decide) (by decide)).trans hneg
  have hhigh : s.vnegLow vneg = false := by
    simp only [State.vnegLow, decide_eq_false_iff_not]
    omega
  change (if (s.sh.pnl.rails != .rising) = true then s else if (!false) = true then
    (if (s.vnegLow vneg || (s.sh.railsSeen vneg vc).on PNL_RAIL PNL_RAIL_VNEG_GOOD) = true then s else _) else _) = _
  rw [hrising, hseen, hhigh]
  rfl

theorem State.railGood_of_none {vcol : Bool} {vneg vc u : Nat}
    (hnone : s.sh.pnl.rails ≠ .rising ∨ (vcol = true ∧ s.sh.on PNL_RAIL PNL_RAIL_VNEG_GOOD = false) ∨
      (vcol = true ∧ s.lead.railx = true ∧ s.sh.pnl.switch = false) ∨
      (vcol = false ∧ (vneg * 10 < s.lead.vnegSet * 9 ∨ s.sh.on PNL_RAIL PNL_RAIL_VNEG_GOOD = true))) :
    s.railGood vcol vneg vc u = s := by
  have hseen := s.sh.railsSeen_on vneg vc (f := PNL_RAIL_VNEG_GOOD) (by decide) (by decide)
  have hpnl : (s.sh.railsSeen vneg vc).pnl = s.sh.pnl := rfl
  simp only [Shared.railsSeen] at hseen hpnl
  unfold State.railGood
  dsimp only
  rw [hseen, hpnl]
  obtain h | ⟨rfl, h⟩ | ⟨rfl, hx, h⟩ | ⟨rfl, h⟩ := hnone
  · rw [if_pos (by simpa using h)]
  · simp [h]
  · simp [hx, h]
  · have hlow : (s.vnegLow vneg || s.sh.on PNL_RAIL PNL_RAIL_VNEG_GOOD) = true := by simpa [State.vnegLow] using h
    simp [hlow]

/-! ### Rail faults (R458, R460, R461) -/

/-- What declares a rail faulty: its time to rise has passed, or it lies outside its limits with the rows scanning. -/
theorem State.railFault_of_bad {vcol : Bool} {v u : Nat} (hon : s.pnlOn = true)
    (hbad : (s.lead.fld PNL_ST PNL_ST_PSTATE = 1 ∧ s.sh.on PNL_RAIL PNL_RAIL_VNEG_GOOD = vcol ∧ s.sh.on PNL_RAIL PNL_RAIL_VCOL_GOOD = false ∧
        s.sh.pnl.stepAt + (if vcol then 6000000 else 3000000) ≤ s.sh.gt + u) ∨
      (2 ≤ s.lead.fld PNL_ST PNL_ST_PSTATE ∧ s.lead.fld PNL_ST PNL_ST_PSTATE ≤ 4 ∧
        (if vcol then (if s.lead.railx then v < 70
            else v * 10 < s.sh.fld PNL_RAIL PNL_RAIL_VCOL_SP * 9 ∨ s.sh.fld PNL_RAIL PNL_RAIL_VCOL_SP * 11 < v * 10)
          else v * 10 < s.lead.vnegSet * 9))) :
    s.railFault vcol v u = (s.withSh ((s.sh.railSeen vcol v).railsTrip (s.sh.gt + u))).pnlReport
      (fun c => { c with rail := some (vcol.toNat, v) }) := by
  have hrail : s.railBad vcol v (s.sh.gt + u) = true := by
    unfold State.railBad Lane.pst
    obtain ⟨hst, hneg, hcol, htime⟩ | ⟨hlow, -, hlim⟩ := hbad
    · rw [if_pos hst]
      cases vcol <;> simp_all
    · rw [if_neg (by omega)]
      cases vcol
      · simpa [State.vnegLow] using hlim
      · cases hx : s.lead.railx <;> simp_all [State.vcolOut]
  have hst : s.lead.pst PNL_ST_PSTATE ≠ 0 ∧ ¬4 < s.lead.pst PNL_ST_PSTATE := by
    unfold Lane.pst
    omega
  rw [State.railFault, if_neg (by simp [hon, hrail, hst])]

/-! ### Rails that fall (R459) -/

/-- The rails stay in their first step of falling. -/
theorem State.railsDown_of_wait {vneg vc u : Nat} (hfall : s.sh.pnl.rails = .fallCol) (hhigh : s.lead.railx = true ∨ 10 ≤ vc)
    (htime : s.sh.gt + u < s.sh.pnl.stepAt + 5000000) : s.railsDown vneg vc u = s.withSh (s.sh.railsSeen vneg vc) := by
  have hon : (s.sh.railsSeen vneg vc).railsOn (s.sh.gt + u) = s.sh.railsSeen vneg vc := by
    refine if_neg ?_
    have hstep : (s.sh.railsSeen vneg vc).pnl.stepAt = s.sh.pnl.stepAt := rfl
    simp only [Bool.and_eq_true, decide_eq_true_eq, hstep]
    omega
  have hrails : (s.sh.railsSeen vneg vc).pnl.rails = .fallCol := hfall
  have hkept : (!s.lead.railx && (s.lead.railx || decide (vc < 10))) = false := by
    obtain h | h := hhigh
    · simp [h]
    · have hnot : ¬vc < 10 := by omega
      simp [hnot]
  unfold Shared.railsSeen at hon hrails
  unfold State.railsDown
  simp [hfall, hon, hrails, hkept, Shared.railsSeen]

/-- The stage as VNEG is switched off at instant `w`. -/
def Shared.vnegOff (vneg vc w : Nat) (h : Shared) : Shared :=
  let h := (h.railsSeen vneg vc).railsOn w
  if h.pnl.rails = .fallCol then h.setPnl (fun p => { p with rails := .fallNeg, stepAt := w }) else h

theorem Shared.vnegOff_regs (h : Shared) (vneg vc w : Nat) : (h.vnegOff vneg vc w).regs = (h.railsSeen vneg vc).regs := by
  unfold Shared.vnegOff Shared.railsOn
  dsimp only
  split <;> split <;> rfl

theorem Shared.vnegOff_effect (h : Shared) (vneg vc w : Nat) : h.regsBut [PNL_RAIL] (h.vnegOff vneg vc w) ∧
    (h.vnegOff vneg vc w).fld PNL_RAIL PNL_RAIL_VCOL = vc % 256 ∧ (h.vnegOff vneg vc w).fld PNL_RAIL PNL_RAIL_VNEG = vneg % 128 := by
  have hregs := h.vnegOff_regs vneg vc w
  have hrd := Shared.rd_of_regs_eq hregs PNL_RAIL
  exact ⟨(h.railsSeen_regsBut vneg vc).trans (Shared.regsBut_of_regs_eq _ hregs), (Shared.fld_of_rd_eq hrd _).trans (h.railsSeen_vcol ..),
    (Shared.fld_of_rd_eq hrd _).trans (h.railsSeen_vneg ..)⟩

theorem Shared.railsOn_rails {h : Shared} {w : Nat} (hfall : h.pnl.rails = .fallCol ∨ h.pnl.rails = .fallNeg) :
    (h.railsOn w).pnl.rails = .fallCol ∨ (h.railsOn w).pnl.rails = .fallNeg := by
  unfold Shared.railsOn
  split
  · exact .inr rfl
  · exact hfall

theorem Shared.vnegOff_rails {h : Shared} {vneg vc w : Nat} (hfall : h.pnl.rails = .fallCol ∨ h.pnl.rails = .fallNeg) :
    (h.vnegOff vneg vc w).pnl.rails = .fallNeg := by
  have hrails := Shared.railsOn_rails (h := h.railsSeen vneg vc) (w := w) hfall
  unfold Shared.vnegOff
  dsimp only
  split
  · rfl
  · next hnot => exact hrails.resolve_left hnot

/-- VNEG is switched off, and the rails are off once it has discharged. -/
theorem State.railsDown_of_off {vneg vc u : Nat} (hlow : (s.lead.railx || decide (vc < 10)) = true)
    (hfall : s.sh.pnl.rails = .fallNeg ∨ (s.sh.pnl.rails = .fallCol ∧
      (s.sh.pnl.stepAt + 5000000 ≤ s.sh.gt + u ∨ s.lead.railx = false))) :
    s.railsDown vneg vc u = if vneg < 5 then
      (s.withSh ((s.sh.vnegOff vneg vc (s.sh.gt + u)).setPnl (fun p => { p with rails := .off }))).pnlReport (fun c => { c with down := true })
      else s.withSh (s.sh.vnegOff vneg vc (s.sh.gt + u)) := by
  have hfalling : s.sh.pnl.rails = .fallCol ∨ s.sh.pnl.rails = .fallNeg := hfall.symm.imp_left And.left
  have hguard : (s.sh.pnl.rails != .fallCol && s.sh.pnl.rails != .fallNeg) = false := by
    obtain h | h := hfalling <;> simp [h]
  have hoff := Shared.vnegOff_rails (vneg := vneg) (vc := vc) (w := s.sh.gt + u) hfalling
  have hswitched : (if (((s.sh.railsSeen vneg vc).railsOn (s.sh.gt + u)).pnl.rails = .fallCol && !s.lead.railx && true) = true then
      ((s.sh.railsSeen vneg vc).railsOn (s.sh.gt + u)).setPnl (fun p => { p with rails := .fallNeg, stepAt := s.sh.gt + u })
      else (s.sh.railsSeen vneg vc).railsOn (s.sh.gt + u)) = s.sh.vnegOff vneg vc (s.sh.gt + u) := by
    unfold Shared.vnegOff
    dsimp only
    by_cases hcol : ((s.sh.railsSeen vneg vc).railsOn (s.sh.gt + u)).pnl.rails = .fallCol
    · have hx : s.lead.railx = false := by
        unfold Shared.railsOn at hcol
        obtain h | ⟨h, h' | h'⟩ := hfall
        · have hneg : (s.sh.railsSeen vneg vc).pnl.rails = .fallNeg := h
          simp [hneg] at hcol
        · have hnow : (decide ((s.sh.railsSeen vneg vc).pnl.rails = .fallCol) &&
              decide ((s.sh.railsSeen vneg vc).pnl.stepAt + 5000000 ≤ s.sh.gt + u)) = true := by
            rw [Bool.and_eq_true, decide_eq_true_eq, decide_eq_true_eq]
            exact ⟨h, h'⟩
          rw [if_pos hnow] at hcol
          simp [Shared.setPnl] at hcol
        · exact h'
      simp [hcol, hx]
    · simp [hcol]
  change (if (s.sh.pnl.rails != .fallCol && s.sh.pnl.rails != .fallNeg) = true then s else
    let h := (if (((s.sh.railsSeen vneg vc).railsOn (s.sh.gt + u)).pnl.rails = .fallCol && !s.lead.railx &&
        (s.lead.railx || decide (vc < 10))) = true then
      ((s.sh.railsSeen vneg vc).railsOn (s.sh.gt + u)).setPnl (fun p => { p with rails := .fallNeg, stepAt := s.sh.gt + u })
      else (s.sh.railsSeen vneg vc).railsOn (s.sh.gt + u))
    if (h.pnl.rails = .fallNeg && (s.lead.railx || decide (vc < 10)) && decide (vneg < 5)) = true then
      (s.withSh (h.setPnl (fun p => { p with rails := .off }))).pnlReport (fun c => { c with down := true }) else s.withSh h) = _
  rw [hguard, hlow, hswitched, if_neg Bool.false_ne_true]
  dsimp only
  rw [hoff]
  by_cases hlast : vneg < 5 <;> simp [hlast]

/-! ### Measurements (R452, R461, R463) -/

/-- The stage with a crazing measurement shown. -/
def Shared.crzShown (res : Nat) (good : Bool) (h : Shared) : Shared :=
  (h.setF PNL_CRZ PNL_CRZ_RES (min 2047 res)).setB PNL_CRZ PNL_CRZ_GOOD good

theorem Shared.crzShown_effect (h : Shared) (res : Nat) (good : Bool) : h.regsBut [PNL_CRZ] (h.crzShown res good) ∧
    (h.crzShown res good).fld PNL_CRZ PNL_CRZ_RES = min 2047 res ∧ (h.crzShown res good).on PNL_CRZ PNL_CRZ_GOOD = good ∧
    (h.crzShown res good).fld PNL_CRZ PNL_CRZ_CRZ_TRIPS = h.fld PNL_CRZ PNL_CRZ_CRZ_TRIPS := by
  refine ⟨((Shared.regsBut.refl _ h).setF (by decide) (by simp) _ _).setB (by decide) (by simp) _ _, ?_, ?_, ?_⟩
  · refine (Shared.fld_setF_field _ _ _ _ _ (by decide)).trans ((Shared.fld_setF_same _ _ _ _ (by decide)).trans ?_)
    exact Nat.mod_eq_of_lt (show min 2047 res < 2 ^ 11 by omega)
  · exact Shared.on_setB_same _ _ _ _ (by decide)
  · exact (Shared.fld_setF_field _ _ _ _ _ (by decide)).trans (Shared.fld_setF_field _ _ _ _ _ (by decide))

/-- The stage after a crazing measurement that ends at instant `w`; a bad one drops the rails. -/
def Shared.crzMeasured (res : Nat) (bad : Bool) (w : Nat) (h : Shared) : Shared :=
  if bad = true then (h.crzShown res (!bad)).railsTrip w else h.crzShown res (!bad)

theorem State.crzMeasure_of_on {res u : Nat} (hon : s.pnlOn = true) : s.crzMeasure res u =
    (s.withSh (s.sh.crzMeasured res (decide (s.lead.crzMax * 10 < res)) (s.sh.gt + u))).pnlReport
      (fun c => { c with crz := some (res, s.sh.gt + u) }) := by
  rw [State.crzMeasure, hon]
  simp only [Bool.not_true, if_neg Bool.false_ne_true, Shared.crzMeasured, decide_eq_true_eq]
  rfl

theorem Shared.crzMeasured_effect (h : Shared) (res : Nat) (bad : Bool) (w : Nat) :
    h.regsBut [PNL_CRZ, PNL_RAIL] (h.crzMeasured res bad w) ∧ (h.crzMeasured res bad w).fld PNL_CRZ PNL_CRZ_RES = min 2047 res ∧
    (h.crzMeasured res bad w).on PNL_CRZ PNL_CRZ_GOOD = (!bad) ∧
    (h.crzMeasured res bad w).fld PNL_CRZ PNL_CRZ_CRZ_TRIPS = h.fld PNL_CRZ PNL_CRZ_CRZ_TRIPS := by
  obtain ⟨hregs, hres, hgood, htrips⟩ := h.crzShown_effect res (!bad)
  cases bad
  · exact ⟨hregs.mono (by simp), hres, hgood, htrips⟩
  · have htrip := (h.crzShown res (!true)).railsTrip_regsBut w
    have hcrz : (h.crzMeasured res true w).rd PNL_CRZ = (h.crzShown res (!true)).rd PNL_CRZ := htrip _ (by decide) (by decide)
    exact ⟨(hregs.mono (by simp)).trans (htrip.mono (by simp)), (Shared.fld_of_rd_eq hcrz _).trans hres,
      (Shared.on_of_rd_eq hcrz _).trans hgood, (Shared.fld_of_rd_eq hcrz _).trans htrips⟩

theorem Shared.crzMeasured_rails (h : Shared) (res : Nat) (bad : Bool) (w : Nat) :
    (bad = true → (h.crzMeasured res bad w).on PNL_RAIL PNL_RAIL_VNEG_GOOD = false ∧
      (h.crzMeasured res bad w).on PNL_RAIL PNL_RAIL_VCOL_GOOD = false ∧
      (h.crzMeasured res bad w).pnl = { h.pnl.fall w with fault := true }) ∧
    (bad = false → (h.crzMeasured res bad w).rd PNL_RAIL = h.rd PNL_RAIL ∧ (h.crzMeasured res bad w).pnl = h.pnl) := by
  constructor
  · rintro rfl
    obtain ⟨hvneg, hvcol⟩ := (h.crzShown res (!true)).railsTrip_good w
    exact ⟨hvneg, hvcol, rfl⟩
  · rintro rfl
    exact ⟨(h.crzShown_effect res (!false)).1 _ (by decide) (by decide), rfl⟩

theorem State.crzCount_trips (was : Bool) : (s.crzCount was).sh.fld PNL_CRZ PNL_CRZ_CRZ_TRIPS =
    if !was && s.lead.on PNL_ST PNL_ST_CRZ_FAULT then min 65535 (s.sh.fld PNL_CRZ PNL_CRZ_CRZ_TRIPS + 1)
    else s.sh.fld PNL_CRZ PNL_CRZ_CRZ_TRIPS := by
  unfold State.crzCount
  have hflag : s.lead.pon PNL_ST_CRZ_FAULT = s.lead.on PNL_ST PNL_ST_CRZ_FAULT := rfl
  rw [hflag]
  by_cases hset : (!was && s.lead.on PNL_ST PNL_ST_CRZ_FAULT) = true
  · have hnew : (was || !s.lead.on PNL_ST PNL_ST_CRZ_FAULT) = false := by
      rw [Bool.and_eq_true, Bool.not_eq_true'] at hset
      rw [hset.1, hset.2]
      rfl
    rw [hnew, if_neg Bool.false_ne_true, if_pos hset, State.withSh_sh, Shared.fld_wr_same, crzCounted, Fld.get_put_same _ _ _ (by decide)]
    exact Nat.mod_eq_of_lt (show min 65535 (_ + 1) < 2 ^ 16 by omega)
  · have hold : (was || !s.lead.on PNL_ST PNL_ST_CRZ_FAULT) = true := by
      cases was <;> simp_all
    rw [if_pos hold, if_neg hset]

theorem State.vcolDev_of_on {v : Nat} (hon : s.pnlOn = true) (hx : s.lead.railx = true) : s.vcolDev v =
    (let t := s.withSh (s.sh.railSeen true v)
     let d := max (v - s.sh.fld PNL_RAIL PNL_RAIL_VCOL_SP) (s.sh.fld PNL_RAIL PNL_RAIL_VCOL_SP - v)
     if 10 < d then t.pnlReport (fun c => { c with vdev := some true })
     else if d ≤ 8 then t.pnlReport (fun c => { c with vdev := some false }) else t) := by
  rw [State.vcolDev, hon, hx]
  rfl

theorem State.vcolDev_sh {v : Nat} (hon : s.pnlOn = true) (hx : s.lead.railx = true) : (s.vcolDev v).sh = s.sh.railSeen true v := by
  rw [State.vcolDev_of_on hon hx]
  dsimp only
  split
  · rfl
  · split <;> rfl

theorem State.vcolDev_lane_regs {v : Nat} (hon : s.pnlOn = true) (hx : s.lead.railx = true) (htakes : (s.lane i).takes = true) :
    ((s.vcolDev v).lane i).regs = (s.lane i).regs := by
  have htakes' : ((s.withSh (s.sh.railSeen true v)).lane i).takes = true := by rwa [State.withSh_lane]
  have hreport (f : PnlCut → PnlCut) := (State.pnlReport_effect htakes' f).1
  rw [State.withSh_lane] at hreport
  rw [State.vcolDev_of_on hon hx]
  dsimp only
  split
  · exact hreport _
  · split
    · exact hreport _
    · rw [State.withSh_lane]

theorem Shared.vcolSeen_effect (h : Shared) {v : Nat} (hv : v < 256) : h.regsBut [PNL_RAIL] (h.railSeen true v) ∧
    (h.railSeen true v).fld PNL_RAIL PNL_RAIL_VCOL = v :=
  ⟨h.railSeen_regsBut true v, (Shared.fld_setF_same h PNL_RAIL PNL_RAIL_VCOL v (by decide)).trans (Nat.mod_eq_of_lt hv)⟩

/-! ### NTC faults and the page timer (R452, R468) -/

/-- The lane with NTC_FAULT at a value and its record. -/
def Lane.ntcShown (g : Nat) (v : Bool) (l : Lane) : Lane :=
  (l.setB PNL_ST PNL_ST_NTC_FAULT v).pnlRec 0x0B05 g 0#32 (w32 v.toNat) 0#32

theorem Lane.ntcFault_of_bad {l : Lane} {g : Nat} (hclear : l.on PNL_ST PNL_ST_NTC_FAULT = false) (hrun : 2 ≤ l.pnl.ntcOut) :
    l.ntcFault g = (l.ntcShown g true).setBand g (l.fld PNL_CFG PNL_CFG_FBAND) ((BitVec.setWidth 16 (l.rd PNL_TEMP)).signExtend 32) := by
  have hflag : l.pon PNL_ST_NTC_FAULT = false := hclear
  have hfband : (l.ntcShown g true).fld PNL_CFG PNL_CFG_FBAND = l.fld PNL_CFG PNL_CFG_FBAND :=
    (Lane.fld_of_regs_eq (Lane.pnlRec_regs ..) _ _).trans (Lane.fld_setF_ne _ _ _ _ _ _ (by decide))
  rw [← hfband]
  simp only [Lane.ntcFault, hflag, hrun, Bool.not_false, decide_true, Bool.and_self, if_pos]
  rw [hfband]
  rfl

theorem Lane.ntcFault_of_good {l : Lane} {g : Nat} (hset : l.on PNL_ST PNL_ST_NTC_FAULT = true) (hrun : 10 ≤ l.pnl.ntcIn) :
    l.ntcFault g = l.ntcShown g false := by
  have hflag : l.pon PNL_ST_NTC_FAULT = true := hset
  simp [Lane.ntcFault, hflag, hrun, Lane.ntcShown, w32]

theorem Lane.ntcShown_effect (g : Nat) (v : Bool) (l : Lane) : l.regsBut [PNL_ST] (l.ntcShown g v) ∧
    (l.ntcShown g v).on PNL_ST PNL_ST_NTC_FAULT = v ∧
    (l.ntcShown g v).fld PNL_ST PNL_ST_PSTATE = l.fld PNL_ST PNL_ST_PSTATE := by
  refine ⟨((Lane.regsBut.refl _ l).setB (k := PNL_ST) (by decide) (by simp) _ _).of_regs_eq (Lane.pnlRec_regs ..), ?_, ?_⟩
  · rw [Lane.ntcShown, Lane.on_of_regs_eq (Lane.pnlRec_regs ..), Lane.on_setB_same _ _ _ _ (by decide)]
  · rw [Lane.ntcShown, Lane.fld_of_regs_eq (Lane.pnlRec_regs ..)]
    exact Lane.fld_setF_field _ _ _ _ _ (by decide)

theorem Lane.setBand_regs (g b : Nat) (t : Word) (l : Lane) : (l.setBand g b t).regs =
    if b = l.fld PNL_ST PNL_ST_BAND then l.regs else (l.setF PNL_ST PNL_ST_BAND b).regs := by
  unfold Lane.setBand Lane.pst
  dsimp only
  split
  · rfl
  · exact Lane.pnlRec_regs ..

theorem Lane.setBand_effect {g b : Nat} (hb : b < 8) (t : Word) (l : Lane) : l.regsBut [PNL_ST] (l.setBand g b t) ∧
    (l.setBand g b t).fld PNL_ST PNL_ST_BAND = b ∧
    (l.setBand g b t).on PNL_ST PNL_ST_NTC_FAULT = l.on PNL_ST PNL_ST_NTC_FAULT ∧
    (l.setBand g b t).fld PNL_ST PNL_ST_PSTATE = l.fld PNL_ST PNL_ST_PSTATE := by
  have hregs := Lane.setBand_regs g b t l
  split at hregs
  case isTrue h =>
    exact ⟨Lane.regsBut_of_regs_eq _ hregs, (Lane.fld_of_regs_eq hregs _ _).trans h.symm, Lane.on_of_regs_eq hregs _ _,
      Lane.fld_of_regs_eq hregs _ _⟩
  case isFalse h =>
    refine ⟨((Lane.regsBut.refl _ l).setF (k := PNL_ST) (by decide) (by simp) _ _).of_regs_eq hregs, ?_, ?_, ?_⟩
    · rw [Lane.fld_of_regs_eq hregs, Lane.fld_setF_same _ _ _ _ (by decide)]
      exact Nat.mod_eq_of_lt hb
    · rw [Lane.on_of_regs_eq hregs]
      exact congrArg (· != 0) (Lane.fld_setF_field _ _ _ _ _ (by decide))
    · rw [Lane.fld_of_regs_eq hregs]
      exact Lane.fld_setF_field _ _ _ _ _ (by decide)

theorem Lane.pageTimer_of_due {l : Lane} {g : Nat} (ht : l.fld PNL_LCFG PNL_LCFG_PAGET ≠ 0)
    (hg : g % (l.fld PNL_LCFG PNL_LCFG_PAGET * 1000000000) = 0) (hnew : l.pnl.pageAt ≠ g) (hen : l.on PNL_CFG PNL_CFG_EN = true) :
    l.pageTimer g = l.pageAdvance.setPnl (fun w => { w with pageAt := g }) := by
  simp [Lane.pageTimer, ht, hg, hnew, hen]

/-! ### The aging copy (R451, R475) -/

theorem Shared.norErase_regs (h : Shared) (addr n : Nat) : (h.norErase addr n).regs = h.regs ∧ (h.norErase addr n).start = h.start :=
  List.foldlRecOn (motive := fun g : Shared => g.regs = h.regs ∧ g.start = h.start) _ _ ⟨rfl, rfl⟩ fun _ hg _ _ => hg

theorem Shared.norWrite_regs (h : Shared) (addr : Nat) (bs : List Byte) : (h.norWrite addr bs).regs = h.regs ∧
    (h.norWrite addr bs).start = h.start ∧ (h.norWrite addr bs).auth = h.auth :=
  List.foldlRecOn (motive := fun g : Shared => g.regs = h.regs ∧ g.start = h.start ∧ g.auth = h.auth) _ _ ⟨rfl, rfl, rfl⟩
    fun _ hg _ _ => hg

/-- The copy that is written next: the other one than the newest valid one. -/
def Shared.agingNext (h : Shared) : Nat :=
  match h.agingNewest with
  | some x => 1 - x.1
  | none => 0

/-- The stage with a copy erased and the counts kept for it. -/
def Shared.agingBegun (c : Nat) (ns : List Nat) (h : Shared) : Shared :=
  (h.norErase (agingAddr c) 0x20000).setStart (fun t => { t with aging := some (c, ns), agingDue := false, agingAt := h.gt })

theorem State.agingCopyStart_of_due (hmay : s.mayCopy = true) (hdue : s.copyDue = true) : s.agingCopyStart =
    if s.lead.on PWR_LST PWR_LST_C4SHED then s.withSh (s.sh.setStart (fun t => { t with agingDue := true, agingAt := s.sh.gt }))
    else s.withSh (s.sh.agingBegun s.sh.agingNext s.lead.ledgerCounts) := by
  simp only [State.agingCopyStart, hmay, hdue, Bool.not_true, Bool.or_self, if_neg Bool.false_ne_true]
  rfl

theorem Shared.setStart_nor (h : Shared) (f : StartHw → StartHw) : (h.setStart f).nor = h.nor := rfl

theorem Shared.agingBegun_effect (c : Nat) (ns : List Nat) (h : Shared) : (h.agingBegun c ns).regs = h.regs ∧
    (h.agingBegun c ns).nor = (h.norErase (agingAddr c) 0x20000).nor ∧
    (h.agingBegun c ns).start = { h.start with aging := some (c, ns), agingDue := false, agingAt := h.gt } := by
  unfold Shared.agingBegun
  obtain ⟨hregs, hstart⟩ := h.norErase_regs (agingAddr c) 0x20000
  refine ⟨(Shared.setStart_regs ..).trans hregs, Shared.setStart_nor .., ?_⟩
  rw [Shared.setStart_start, hstart]

/-- The sequence number of the copy that is written next. -/
def Shared.agingSeq (h : Shared) : Nat :=
  match h.agingNewest with
  | some x => x.2.1 + 1
  | none => 1

/-- The stage after a copy is closed. -/
def Shared.agingClosed (c : Nat) (ns : List Nat) (h : Shared) : Shared :=
  let bs := ns.flatMap (leBytes 4) ++ leBytes 4 h.agingSeq
  (h.norWrite (agingAddr c) (bs ++ wordBytes (crc32c bs))).setStart (fun t => { t with aging := none })

theorem State.agingCopyEnd_of_some {c : Nat} {ns : List Nat} (h : s.sh.start.aging = some (c, ns)) :
    s.agingCopyEnd = (s.withSh (s.sh.agingClosed c ns)).sysRec 0x0C08 c s.sh.agingSeq 0 0 := by
  simp only [State.agingCopyEnd, h]
  rfl

theorem Shared.epochs_of_start {h g : Shared} (hphase : g.start.phase = h.start.phase) (hauth : g.auth = h.auth) :
    g.epochs = h.epochs := by
  unfold Shared.epochs
  rw [hphase, hauth]

theorem Shared.agingClosed_effect (c : Nat) (ns : List Nat) (h : Shared) : (h.agingClosed c ns).regs = h.regs ∧
    (h.agingClosed c ns).start = { h.start with aging := none } ∧ (h.agingClosed c ns).epochs = h.epochs := by
  unfold Shared.agingClosed
  dsimp only
  obtain ⟨hregs, hstart, hauth⟩ := h.norWrite_regs (agingAddr c)
    ((ns.flatMap (leBytes 4) ++ leBytes 4 h.agingSeq) ++ wordBytes (crc32c (ns.flatMap (leBytes 4) ++ leBytes 4 h.agingSeq)))
  refine ⟨hregs, congrArg (fun t : StartHw => { t with aging := none }) hstart, Shared.epochs_of_start ?_ hauth⟩
  exact (congrArg StartHw.phase hstart :)

/-- A record of the node while epochs run and a lane forms records. -/
theorem State.sysRec_of_working (hepochs : s.sh.epochs = true) (hworking : (s.lane i).working = true) (code p0 p1 p2 p3 rank : Nat) :
    s.sysRec code p0 p1 p2 p3 rank = s.working (fun l => l.record code s.sh.gt (w32 p0) (w32 p1) (w32 p2) (w32 p3) rank) := by
  have hsome : (s.a.working || s.b.working) = true := by
    cases i
    · exact Bool.or_eq_true _ _ ▸ .inl hworking
    · exact Bool.or_eq_true _ _ ▸ .inr hworking
  rw [State.sysRec, hepochs, hsome]
  rfl

end

/-- Settles O45: each row is an operation of the stage, a report into the cut, or an operation of a lane. -/
theorem panelRows : Obligations.PanelRows := by
  refine ⟨fun f s hnext hscan hup => ?scan, fun f s hnext hblank => ?blank, fun vneg vc u s hrising hneg hlow hhigh hswitch => ?vcolGood,
    fun vneg vc u s hrising hneg hset => ?vnegGood, fun vcol vneg vc u s hnone => congrArg Host.Outcome.next (State.railGood_of_none hnone),
    fun vcol v u s i hon hbad htakes => ?fault, fun vneg vc u s hfall hhigh htime => ?wait, fun vneg vc u s hfall hx hvc hvneg => ?vnegOff,
    fun vneg vc u s i hfall hlow hvneg htakes => ?off, fun vneg vc u s hcol hneg => ?notFalling, fun res u s i hon hu hdue htakes => ?crz,
    fun was s => State.crzCount_trips was, fun temp u s i hon hu hdue htakes => ?ntc, fun v s i hon hx htakes => ?dev,
    fun s i hcomputes hclear hrun => ?ntcBad, fun s i hcomputes hset hrun => ?ntcGood, fun s i hcomputes ht hg hnew hen => ?page,
    fun s hmay hdue hshed => ?copy, fun s hmay hdue hshed => ?copyWaits, fun c ns s i hcopy hworking hepochs => ?copyEnd⟩
  case scan =>
    refine ⟨_, congrArg (fun h => Host.Outcome.next (s.withSh h)) (Shared.frameStart_of_scan hnext hscan hup), s.withSh_lanesKept _, ?_, rfl, ?_⟩
    · exact ((Shared.regsBut.refl _ s.sh).setF (k := PNL_RAIL) (by decide) (by simp) _ _).trans (Shared.regsBut_of_regs_eq _ rfl)
    · exact Shared.fld_setF_same s.sh PNL_RAIL PNL_RAIL_VCOL_SP f.vsp (by decide)
  case blank =>
    exact ⟨_, congrArg (fun h => Host.Outcome.next (s.withSh h)) (Shared.frameStart_of_blank hnext hblank), s.withSh_lanesKept _, rfl, rfl,
      fun _ _ => ⟨rfl, rfl⟩⟩
  case vcolGood =>
    obtain ⟨hregs, hgood, hvcol, hvneg, hkept⟩ := s.sh.vcolUp_effect vneg.toNat vc.toNat
    exact ⟨_, congrArg Host.Outcome.next (State.railGood_vcol hrising hneg hlow hhigh hswitch), s.withSh_lanesKept _, hregs, rfl, hgood,
      hvcol.trans (Nat.mod_eq_of_lt vc.isLt), hvneg, hkept.trans hneg⟩
  case vnegGood =>
    obtain ⟨hregs, hgood, hvneg, hvcol, hkept⟩ := s.sh.vnegUp_effect vneg.toNat vc.toNat (s.sh.gt + u) (s.lead.railx && decide (70 ≤ vc.toNat))
    exact ⟨_, congrArg Host.Outcome.next (State.railGood_vneg hrising hneg hset), s.withSh_lanesKept _, hregs, hgood, hvneg,
      hvcol.trans (Nat.mod_eq_of_lt vc.isLt), hkept, rfl⟩
  case fault =>
    have hpnl : ((s.sh.railSeen vcol v.toNat).railsTrip (s.sh.gt + u)).pnl = { s.sh.pnl.fall (s.sh.gt + u) with fault := true } := by
      rw [Shared.railsTrip_pnl, Shared.railSeen_pnl]
    obtain ⟨hneg, hcol⟩ := (s.sh.railSeen vcol v.toNat).railsTrip_good (s.sh.gt + u)
    obtain ⟨hlane, hcut⟩ := State.pnlReport_effect (s := s.withSh ((s.sh.railSeen vcol v.toNat).railsTrip (s.sh.gt + u))) (i := i)
      (by rwa [State.withSh_lane]) (fun c => { c with rail := some (vcol.toNat, v.toNat) })
    rw [State.withSh_lane] at hlane hcut
    exact ⟨_, congrArg Host.Outcome.next (State.railFault_of_bad hon hbad), (s.sh.railSeen_regsBut vcol v.toNat).trans (Shared.railsTrip_regsBut _ _),
      hlane, hneg, hcol, hpnl, fun hup => hpnl.trans (PnlHw.fall_of_up hup), hcut⟩
  case wait =>
    exact ⟨_, congrArg Host.Outcome.next (State.railsDown_of_wait hfall hhigh htime), s.withSh_lanesKept _, s.sh.railsSeen_regsBut _ _, rfl⟩
  case vnegOff =>
    have hlow : (s.lead.railx || decide (vc.toNat < 10)) = true := by simp [hvc]
    have hrow := State.railsDown_of_off (vneg := vneg.toNat) (u := u) hlow (.inr ⟨hfall, .inr hx⟩)
    rw [if_neg (by omega)] at hrow
    obtain ⟨hregs, hvcol, hneg⟩ := s.sh.vnegOff_effect vneg.toNat vc.toNat (s.sh.gt + u)
    exact ⟨_, congrArg Host.Outcome.next hrow, s.withSh_lanesKept _, hregs, Shared.vnegOff_rails (.inl hfall),
      hvcol.trans (Nat.mod_eq_of_lt vc.isLt), hneg⟩
  case off =>
    have hlow' : (s.lead.railx || decide (vc.toNat < 10)) = true := by simpa using hlow
    have hrow := State.railsDown_of_off (vneg := vneg.toNat) (u := u) hlow' hfall
    rw [if_pos hvneg] at hrow
    obtain ⟨hregs, hvcol, hneg⟩ := s.sh.vnegOff_effect vneg.toNat vc.toNat (s.sh.gt + u)
    obtain ⟨hlane, hcut⟩ := State.pnlReport_effect (i := i)
      (s := s.withSh ((s.sh.vnegOff vneg.toNat vc.toNat (s.sh.gt + u)).setPnl (fun p => { p with rails := .off })))
      (by rwa [State.withSh_lane]) (fun c => { c with down := true })
    rw [State.withSh_lane] at hlane hcut
    exact ⟨_, congrArg Host.Outcome.next hrow, hregs.trans (Shared.regsBut_of_regs_eq _ rfl), hlane, hvcol.trans (Nat.mod_eq_of_lt vc.isLt),
      hneg.trans (Nat.mod_eq_of_lt (by omega)), rfl, hcut⟩
  case notFalling =>
    exact congrArg Host.Outcome.next (if_pos (by simp [hcol, hneg]))
  case crz =>
    intro bad
    have hrow : exec (.crazingMeasurement res u) s = .next (s.crzMeasure res.toNat u) :=
      congrArg Host.Outcome.next (if_pos (by simp [hu, hdue]))
    obtain ⟨hregs, hres, hgood, htrips⟩ := s.sh.crzMeasured_effect res.toNat bad (s.sh.gt + u)
    obtain ⟨hdown, hstay⟩ := s.sh.crzMeasured_rails res.toNat bad (s.sh.gt + u)
    obtain ⟨hlane, hcut⟩ := State.pnlReport_effect (s := s.withSh (s.sh.crzMeasured res.toNat bad (s.sh.gt + u))) (i := i)
      (by rwa [State.withSh_lane]) (fun c => { c with crz := some (res.toNat, s.sh.gt + u) })
    rw [State.withSh_lane] at hlane hcut
    exact ⟨_, hrow.trans (congrArg Host.Outcome.next (State.crzMeasure_of_on hon)), hregs, hlane, hres, hgood, hdown, hstay, htrips, hcut⟩
  case ntc =>
    exact ⟨_, congrArg Host.Outcome.next (if_pos (by simp [hon, hu, hdue])), rfl, State.pnlReport_effect htakes _⟩
  case dev =>
    intro sp
    obtain ⟨hregs, hvcol⟩ := s.sh.vcolSeen_effect v.isLt
    have hsh : (s.vcolDev v.toNat).sh = s.sh.railSeen true v.toNat := State.vcolDev_sh hon hx
    have htakes' : ((s.withSh (s.sh.railSeen true v.toNat)).lane i).takes = true := by rwa [State.withSh_lane]
    refine ⟨_, rfl, hsh ▸ hregs, State.vcolDev_lane_regs hon hx htakes, hsh ▸ hvcol, fun hfar => ?_, fun hnear => ?_⟩
    · have hd : 10 < max (v.toNat - sp) (sp - v.toNat) := by omega
      rw [State.vcolDev_of_on hon hx, if_pos hd]
      exact (State.pnlReport_effect htakes' _).2
    · have hd : max (v.toNat - sp) (sp - v.toNat) ≤ 8 := by omega
      rw [State.vcolDev_of_on hon hx, if_neg (by omega), if_pos hd]
      exact (State.pnlReport_effect htakes' _).2
  case ntcBad =>
    obtain ⟨hregs, hflag, hstate⟩ := Lane.ntcShown_effect s.sh.gt true (s.lane i)
    obtain ⟨hregs', hband, hflag', hstate'⟩ := Lane.setBand_effect (g := s.sh.gt) ((s.lane i).fld_lt PNL_CFG PNL_CFG_FBAND)
      ((BitVec.setWidth 16 ((s.lane i).rd PNL_TEMP)).signExtend 32) ((s.lane i).ntcShown s.sh.gt true)
    refine ⟨_, rfl, s.both_sharedKept _, ?_⟩
    rw [State.both_lane_of_computes hcomputes, Lane.ntcFault_of_bad hclear hrun]
    exact ⟨hregs.trans hregs', hflag'.trans hflag, hband, hstate'.trans hstate⟩
  case ntcGood =>
    obtain ⟨hregs, hflag, -⟩ := Lane.ntcShown_effect s.sh.gt false (s.lane i)
    refine ⟨_, rfl, s.both_sharedKept _, ?_⟩
    rw [State.both_lane_of_computes hcomputes, Lane.ntcFault_of_good hset hrun]
    exact ⟨hregs, hflag, rfl, _, rfl, rfl, rfl⟩
  case page =>
    intro p
    refine ⟨_, rfl, s.both_sharedKept _, ?_⟩
    rw [State.both_lane_of_computes hcomputes, Lane.pageTimer_of_due ht hg hnew hen]
    exact ⟨((Lane.regsBut.refl _ _).setF (k := PNL_LIST) (by decide) (by simp) _ _).of_regs_eq rfl, rfl,
      (s.lane i).pageAdvance_fld_page, rfl⟩
  case copy =>
    intro c
    obtain ⟨hregs, hnor, hstart⟩ := s.sh.agingBegun_effect c s.lead.ledgerCounts
    have hrow := State.agingCopyStart_of_due hmay hdue
    rw [hshed, if_neg Bool.false_ne_true] at hrow
    exact ⟨_, congrArg Host.Outcome.next hrow, s.withSh_lanesKept _, hregs, hnor, congrArg StartHw.aging hstart, congrArg StartHw.agingDue hstart,
      congrArg StartHw.agingAt hstart⟩
  case copyWaits =>
    have hrow := State.agingCopyStart_of_due hmay hdue
    rw [hshed, if_pos rfl] at hrow
    exact ⟨_, congrArg Host.Outcome.next hrow, s.withSh_lanesKept _, rfl, rfl, rfl, rfl⟩
  case copyEnd =>
    intro n bs
    obtain ⟨hregs, hstart, hepochs'⟩ := s.sh.agingClosed_effect c ns
    have hrow := (State.agingCopyEnd_of_some hcopy).trans
      (State.sysRec_of_working (i := i) (hepochs'.trans hepochs) (by rwa [State.withSh_lane]) ..)
    refine ⟨_, congrArg Host.Outcome.next hrow, hregs, congrArg StartHw.aging hstart, ?_⟩
    rw [State.working_lane, State.withSh_lane, if_pos hworking]
    exact ⟨rfl, rfl, _, rfl, rfl, rfl, rfl⟩

end Sys2Proof.Machine
end

section
/-! The CFG commands and the rows of the image transfer (R484, R485, R494, R496, R500). -/

namespace Sys2Proof.Machine

/-! ### The lane that commands the store -/

section
variable {s t : State} {ks : List Nat}

/-- The same lane commands the store in two states that agree on what decides it. -/
theorem State.sameDiscipline.storeLane_lane (h : s.sameDiscipline t) : ∃ j, s.storeLane = s.lane j ∧ t.storeLane = t.lane j := by
  unfold State.storeLane
  rw [h.auth]
  cases s.sh.auth with
  | none => exact h.lead_lane
  | some i => exact ⟨i, rfl, rfl⟩

theorem Lane.sameDiscipline.working {l m : Lane} (h : l.sameDiscipline m) : m.working = l.working := by
  rw [Lane.working, h.computes, h.st, ← Lane.working]

theorem State.working_sameDiscipline {f : Lane → Lane} (hf : ∀ l : Lane, l.sameDiscipline (f l)) (s : State) : s.sameDiscipline (s.working f) :=
  ⟨rfl, fun j => by
    rw [State.working_lane]
    split
    · exact hf _
    · exact .refl _⟩

theorem State.working_regsBut {f : Lane → Lane} (hf : ∀ l : Lane, l.regsBut ks (f l)) (s : State) (j : LaneId) :
    (s.lane j).regsBut ks ((s.working f).lane j) := by
  rw [State.working_lane]
  split
  · exact hf _
  · exact .refl _ _

/-- Two changes of the lanes that form records, the first of which leaves them doing so. -/
theorem State.working_working {f g : Lane → Lane} (hf : ∀ l : Lane, l.sameDiscipline (f l)) (s : State) :
    (s.working f).working g = s.working (fun l => g (f l)) := by
  have hworking (l : Lane) := (hf l).working
  unfold State.working State.onLanes
  cases ha : s.a.working <;> cases hb : s.b.working <;> simp [ha, hb, hworking]

end

/-! ### The answer in CFG_CMDST -/

/-- The lane with a CFG command and its status in CFG_CMDST. -/
def Lane.cfgAnswered (op st : Nat) (l : Lane) : Lane := (l.setF CFG_CMDST CFG_CMDST_LAST_OP op).cfgDone st

/-- The state in which a CFG command has been answered. -/
def State.cfgTold (op st : Nat) (s : State) : State := s.working (Lane.cfgAnswered op st)

section
variable (st op : Nat) (l : Lane)

theorem Lane.cfgDone_regs : (l.cfgDone st).regs = (l.setF CFG_CMDST CFG_CMDST_STATUS st).regs := by
  unfold Lane.cfgDone
  split <;> rfl

theorem Lane.cfgDone_sameDiscipline : l.sameDiscipline (l.cfgDone st) := by
  unfold Lane.cfgDone
  split <;> exact ⟨rfl, rfl, rfl⟩

theorem Lane.cfgDone_fire : (l.cfgDone st).fire = l.fire := by
  unfold Lane.cfgDone
  split <;> rfl

theorem Lane.cfgAnswered_sameDiscipline : l.sameDiscipline (l.cfgAnswered op st) :=
  have hnote : l.sameDiscipline (l.setF CFG_CMDST CFG_CMDST_LAST_OP op) := ⟨rfl, rfl, rfl⟩
  hnote.trans (Lane.cfgDone_sameDiscipline st _)

theorem Lane.cfgAnswered_fire : (l.cfgAnswered op st).fire = l.fire := Lane.cfgDone_fire st _

theorem Lane.cfgAnswered_regsBut : l.regsBut [CFG_CMDST] (l.cfgAnswered op st) :=
  (((Lane.regsBut.refl _ l).setF (by decide) (by simp) _ _).setF (by decide) (by simp) _ _).of_regs_eq (Lane.cfgDone_regs st _)

theorem Lane.cfgAnswered_status : (l.cfgAnswered op st).fld CFG_CMDST CFG_CMDST_STATUS = st % 4 :=
  (Lane.fld_of_regs_eq (Lane.cfgDone_regs st _) ..).trans (Lane.fld_setF_same _ _ _ _ (by decide))

theorem Lane.cfgAnswered_lastOp : (l.cfgAnswered op st).fld CFG_CMDST CFG_CMDST_LAST_OP = op % 256 :=
  (Lane.fld_of_regs_eq (Lane.cfgDone_regs st _) ..).trans
    ((Lane.fld_setF_field _ _ _ _ _ (by decide)).trans (Lane.fld_setF_same _ _ _ _ (by decide)))

theorem Lane.cfgAnswered_raised (hst : 2 ≤ st) : (l.cfgAnswered op st).raised = l.raised ||| evBit evCfgRefused := by
  rw [Lane.cfgAnswered, Lane.cfgDone, if_pos hst]
  rfl

end

section
variable {l m : Lane} {ks : List Nat} {op st : Nat}

/-- What a lane does after the answer, in other registers than CFG_CMDST. -/
theorem Lane.regsBut.answered (hm : (l.cfgAnswered op st).regsBut ks m) (hks : CFG_CMDST ∉ ks) : l.regsBut (CFG_CMDST :: ks) m ∧
    m.fld CFG_CMDST CFG_CMDST_STATUS = st % 4 ∧ m.fld CFG_CMDST CFG_CMDST_LAST_OP = op % 256 :=
  ⟨((Lane.cfgAnswered_regsBut st op l).mono (by simp)).trans (hm.mono (by simp)),
    (hm.fld (by decide) hks _).trans (Lane.cfgAnswered_status st op l),
    (hm.fld (by decide) hks _).trans (Lane.cfgAnswered_lastOp st op l)⟩

theorem Lane.cfgAnswered_fld {k : Nat} (hk : k < 2 ^ 20) (hne : k ≠ CFG_CMDST) (f : Fld) : (l.cfgAnswered op st).fld k f = l.fld k f :=
  (Lane.cfgAnswered_regsBut st op l).fld hk (by simpa using hne) f

end

/-! ### The outcome of a command -/

section
variable {s t : State} {op arg st : Nat}

theorem State.cfgStatus_cases (s : State) (op arg : Nat) :
    s.cfgStatus op arg = 0 ∨ s.cfgStatus op arg = 2 ∨ s.cfgStatus op arg = 3 := by
  unfold State.cfgStatus
  split
  · exact .inr (.inr rfl)
  · split
    · exact .inr (.inl rfl)
    · exact .inl rfl

/-- The outcome does not hang on what CFG_CMDST holds. -/
theorem State.cfgStatus_of_same (h : s.sameDiscipline t) (hsh : t.sh = s.sh) (hregs : ∀ j, (s.lane j).regsBut [CFG_CMDST] (t.lane j))
    (hfire : ∀ j, (t.lane j).fire = (s.lane j).fire) (op : Nat) (harg : arg < 256) : t.cfgStatus op arg = s.cfgStatus op arg := by
  obtain ⟨j, hs, ht⟩ := h.storeLane_lane
  have hfld {k : Nat} (hk : k < 2 ^ 20) (hne : k ≠ CFG_CMDST) (f : Fld) : (t.lane j).fld k f = (s.lane j).fld k f :=
    (hregs j).fld hk (by simpa using hne) f
  have hoff : (t.lane j).xOff = (s.lane j).xOff := hfld (by decide) (by decide) _
  have htarget : (t.lane j).xTarget = (s.lane j).xTarget := hfld (by decide) (by decide) _
  have hstate : (t.lane j).xState = (s.lane j).xState := hfld (by decide) (by decide) _
  have hslot := hfld (k := CFG_STAT) (by decide) (by decide) CFG_STAT_FSLOT
  have hcheck {n : Nat} (hn : n < 258) : (t.lane j).fld (CFG_TGT n) CFG_TGT_CHECK = (s.lane j).fld (CFG_TGT n) CFG_TGT_CHECK :=
    hfld (by unfold CFG_TGT; omega) (by unfold CFG_TGT CFG_CMDST; omega) _
  have hpatching (b : Nat) : (t.lane j).patching b = (s.lane j).patching b := by rw [Lane.patching, hfire j, ← Lane.patching]
  have hinvalid : (t.lane j).cfgInvalid op arg = (s.lane j).cfgInvalid op arg := by
    unfold Lane.cfgInvalid
    rw [hoff, htarget]
  have hsta : t.a.st = s.a.st := (h.lane .A).st
  have hstb : t.b.st = s.b.st := (h.lane .B).st
  have hstepa : t.a.instep = s.a.instep := (h.lane .A).instep
  have hstepb : t.b.instep = s.b.instep := (h.lane .B).instep
  have hrefused : t.cfgRefused op arg = s.cfgRefused op arg := by
    unfold State.cfgRefused
    simp only [hs, ht, hsh, hstate, htarget, hoff, hslot, hcheck (show 2 + arg < 258 by omega), hcheck (show arg < 258 by omega),
      hpatching, hfire j, hsta, hstb, hstepa, hstepb]
  rw [State.cfgStatus, State.cfgStatus, hs, ht, hinvalid, hrefused]

/-- A command is answered, and where its conditions hold it takes effect. -/
theorem State.cfgRow_eq (s : State) (op : Nat) (harg : arg < 256) : s.cfgRow op arg =
    if s.cfgStatus op arg = stDone then (s.cfgTold op 0).cfgEffect op arg else s.cfgTold op (s.cfgStatus op arg) := by
  have hnote (l : Lane) : l.sameDiscipline (l.setF CFG_CMDST CFG_CMDST_LAST_OP op) := ⟨rfl, rfl, rfl⟩
  have hregs (l : Lane) : l.regsBut [CFG_CMDST] (l.setF CFG_CMDST CFG_CMDST_LAST_OP op) :=
    (Lane.regsBut.refl _ l).setF (by decide) (by simp) _ _
  have hfire (j : LaneId) : ((s.working (fun l => l.setF CFG_CMDST CFG_CMDST_LAST_OP op)).lane j).fire = (s.lane j).fire := by
    rw [State.working_lane]
    split <;> rfl
  rw [State.cfgRow, State.cfgCmd, State.cfgStatus_of_same (State.working_sameDiscipline hnote s) rfl (State.working_regsBut hregs s)
    hfire op harg, State.working_working hnote]
  split
  · rename_i hdone
    rw [hdone]
    rfl
  · rfl

theorem State.cfgRow_of_done (harg : arg < 256) (hdone : s.cfgStatus op arg = 0) :
    s.cfgRow op arg = (s.cfgTold op 0).cfgEffect op arg := by
  exact (State.cfgRow_eq s op harg).trans (if_pos hdone)

theorem State.cfgRow_of_refused (harg : arg < 256) (hne : s.cfgStatus op arg ≠ 0) :
    s.cfgRow op arg = s.cfgTold op (s.cfgStatus op arg) := by
  exact (State.cfgRow_eq s op harg).trans (if_neg hne)

section
variable {i : LaneId} (hworking : (s.lane i).working = true)
include hworking

theorem State.working_lane_of_working (f : Lane → Lane) : (s.working f).lane i = f (s.lane i) := by
  rw [State.working_lane, if_pos hworking]

theorem State.cfgTold_lane (op st : Nat) : (s.cfgTold op st).lane i = (s.lane i).cfgAnswered op st :=
  State.working_lane_of_working hworking _

theorem State.cfgTold_working (op st : Nat) : ((s.cfgTold op st).lane i).working = true := by
  rw [State.cfgTold_lane hworking, (Lane.cfgAnswered_sameDiscipline st op _).working]
  exact hworking

/-- What the lanes that form records do after the answer. -/
theorem State.cfgTold_then (op st : Nat) (f : Lane → Lane) :
    ((s.cfgTold op st).working f).lane i = f ((s.lane i).cfgAnswered op st) := by
  rw [State.working_lane_of_working (State.cfgTold_working hworking op st), State.cfgTold_lane hworking]

end

theorem State.cfgTold_sameDiscipline (s : State) (op st : Nat) : s.sameDiscipline (s.cfgTold op st) :=
  State.working_sameDiscipline (Lane.cfgAnswered_sameDiscipline st op) s

/-- The lane that commands the store reads as before but for the answer. -/
theorem State.cfgTold_storeLane (s : State) (op st : Nat) : s.storeLane.regsBut [CFG_CMDST] (s.cfgTold op st).storeLane := by
  obtain ⟨j, hs, ht⟩ := (s.cfgTold_sameDiscipline op st).storeLane_lane
  rw [hs, ht]
  exact State.working_regsBut (Lane.cfgAnswered_regsBut st op) s j

theorem State.cfgTold_xTarget (s : State) (op st : Nat) : (s.cfgTold op st).storeLane.xTarget = s.storeLane.xTarget :=
  (s.cfgTold_storeLane op st).fld (by decide) (by decide) _

theorem State.cfgTold_xOff (s : State) (op st : Nat) : (s.cfgTold op st).storeLane.xOff = s.storeLane.xOff :=
  (s.cfgTold_storeLane op st).fld (by decide) (by decide) _

theorem State.cfgTold_rds (s : State) (op st : Nat) {k : Nat → Nat} {n : Nat} (hk : ∀ w < n, k w < 2 ^ 20 ∧ k w ≠ CFG_CMDST) :
    (upTo n).map (fun w => (s.cfgTold op st).storeLane.rd (k w)) = (upTo n).map (fun w => s.storeLane.rd (k w)) :=
  List.map_congr_left fun w hw => by
    obtain ⟨hlt, hne⟩ := hk w (List.mem_range.mp hw)
    exact s.cfgTold_storeLane op st _ hlt (by simpa using hne)

theorem State.cfgTold_xBuf (s : State) (op st : Nat) : (s.cfgTold op st).storeLane.xBuf = s.storeLane.xBuf :=
  congrArg wordsBytes (s.cfgTold_rds op st fun w hw => by unfold CFG_XBUF CFG_CMDST; omega)

end

/-! ### XSTATE -/

section
variable (l : Lane) {v : Nat}

theorem Lane.xTo_regs (v : Nat) : (l.xTo v).regs = (l.setF CFG_XST CFG_XST_XSTATE v).regs := by
  unfold Lane.xTo
  dsimp only
  split <;> rfl

theorem Lane.xTo_fire (v : Nat) : (l.xTo v).fire = l.fire := by
  unfold Lane.xTo
  dsimp only
  split <;> rfl

theorem Lane.xTo_sameDiscipline (v : Nat) : l.sameDiscipline (l.xTo v) := by
  unfold Lane.xTo
  dsimp only
  split <;> exact ⟨rfl, rfl, rfl⟩

theorem Lane.xTo_regsBut (v : Nat) : l.regsBut [CFG_XST] (l.xTo v) :=
  ((Lane.regsBut.refl _ l).setF (by decide) (by simp) _ _).of_regs_eq (l.xTo_regs v)

theorem Lane.xTo_xState (hv : v < 8) : (l.xTo v).xState = v :=
  ((Lane.fld_of_regs_eq (l.xTo_regs v) ..).trans (Lane.fld_setF_same _ _ _ _ (by decide))).trans (Nat.mod_eq_of_lt hv)

theorem Lane.xTo_pages (v : Nat) : (l.xTo v).fld CFG_XST CFG_XST_PAGES = l.fld CFG_XST CFG_XST_PAGES :=
  (Lane.fld_of_regs_eq (l.xTo_regs v) ..).trans (Lane.fld_setF_field _ _ _ _ _ (by decide))

theorem Lane.xTo_raised {l : Lane} (hold : l.xState = 1) (v : Nat) : (l.xTo v).raised = l.raised ||| evBit evTransfer := by
  have hold' : l.fld CFG_XST CFG_XST_XSTATE = 1 := hold
  rw [Lane.xTo, hold']
  rfl

end

/-! ### The pages of the store -/

section
variable (h : Shared) (p : Nat) (bs : List Byte)

theorem wordsBytes_length (ws : List Word) : (wordsBytes ws).length = 4 * ws.length := by
  induction ws with
  | nil => rfl
  | cons w ws ih =>
    rw [wordsBytes, List.flatMap_cons, List.length_append, ← wordsBytes, ih, List.length_cons]
    simp only [wordBytes, leBytes, List.length_cons, List.length_nil]
    omega

theorem Lane.xBuf_length (l : Lane) : l.xBuf.length = 256 := by
  rw [Lane.xBuf, wordsBytes_length, List.length_map, upTo, List.length_range]

theorem Shared.page_setPage_same (hlen : bs.length = 256) : (h.setPage p bs).page p = bs := by
  rw [Shared.page, Shared.setPage, Trie.get_set_same]
  split
  · rename_i hall
    refine (List.eq_replicate_iff.mpr ⟨hlen, fun b hb => ?_⟩).symm
    exact eq_of_beq (List.all_eq_true.mp hall b hb)
  · rfl

theorem Shared.page_setPage_ne {q : Nat} (hne : q % 2 ^ 17 ≠ p % 2 ^ 17) : (h.setPage p bs).page q = h.page q := by
  rw [Shared.page, Shared.setPage, Trie.get_set_ne _ _ _ _ _ hne, ← Shared.page]

end

/-! ### The start record in force -/

section
variable (h : Shared) (f : SRec → SRec)

theorem Shared.srecSet_effect : h.regsBut [ MOD_START] (h.srecSet f) ∧ (h.srecSet f).start = { h.start with srec := f h.start.srec } :=
  ⟨(Shared.regsBut_of_regs_eq _ (by rfl)).wr (by decide) (by simp) _, rfl⟩

/-- The start logic after a change of the record: its content under some number, and a write that runs. -/
structure StartHw.recordPut (f : SRec → SRec) (t u : StartHw) : Prop where
  rest : ∃ n w again p, u = { t with srec := { f t.srec with seq := n }, writing := some w, again := again, putAt := p }

theorem StartHw.recordPut.srec {f : SRec → SRec} {t u : StartHw} (hu : t.recordPut f u) : ∃ n, u.srec = { f t.srec with seq := n } := by
  obtain ⟨n, w, again, p, rfl⟩ := hu.rest
  exact ⟨n, rfl⟩

theorem StartHw.recordPut.writing {f : SRec → SRec} {t u : StartHw} (hu : t.recordPut f u) : u.writing.isSome = true := by
  obtain ⟨n, w, again, p, rfl⟩ := hu.rest
  rfl

theorem StartHw.recordPut.phase {f : SRec → SRec} {t u : StartHw} (hu : t.recordPut f u) : u.phase = t.phase := by
  obtain ⟨n, w, again, p, rfl⟩ := hu.rest
  rfl

theorem StartHw.recordPut.early {f : SRec → SRec} {t u : StartHw} (hu : t.recordPut f u) : u.early = t.early := by
  obtain ⟨n, w, again, p, rfl⟩ := hu.rest
  rfl

theorem Shared.srecBegin_effect : h.srecBegin.regs = h.regs ∧ h.start.recordPut (fun r => r) h.srecBegin.start := by
  unfold Shared.srecBegin
  dsimp only
  rw [Shared.setStart_regs, Shared.setStart_start]
  obtain ⟨hregs, hstart⟩ := Shared.norErase_regs h (srecAddr (match h.srecUsed with | some (c, _) => 1 - c | none => 0)) 65536
  exact ⟨hregs, ⟨_, _, _, _, congrArg (fun t : StartHw => { t with
    srec := { h.start.srec with seq := h.start.srec.seq + 1 }, writing := some { h.start.srec with seq := h.start.srec.seq + 1 },
    again := false, putAt := none }) hstart⟩⟩

theorem Shared.srecNow_effect : h.regsBut [ MOD_START] (h.srecNow f) ∧ h.start.recordPut f (h.srecNow f).start := by
  obtain ⟨hregs, hstart⟩ := h.srecSet_effect f
  rw [Shared.srecNow]
  split
  case isTrue hrun =>
    obtain ⟨w, hw⟩ := Option.isSome_iff_exists.mp hrun
    refine ⟨hregs.trans (Shared.regsBut_of_regs_eq _ rfl), ⟨(f h.start.srec).seq, w, true, h.start.putAt, ?_⟩⟩
    rw [Shared.setStart_start, hstart]
    rw [hstart] at hw
    exact congrArg (fun x => { h.start with srec := f h.start.srec, writing := x, again := true }) hw
  case isFalse =>
    obtain ⟨hbegin, ⟨n, w, again, p, hbegun⟩⟩ := Shared.srecBegin_effect (h.srecSet f)
    rw [hstart] at hbegun
    exact ⟨hregs.trans (Shared.regsBut_of_regs_eq _ hbegin), ⟨n, w, again, p, hbegun⟩⟩

theorem Shared.srecPut_effect : h.regsBut [ MOD_START] (h.srecPut f) ∧ h.start.recordPut f (h.srecPut f).start := by
  obtain ⟨hregs, hstart⟩ := h.srecSet_effect f
  have hnow := h.srecNow_effect f
  rw [Shared.srecPut]
  split
  · refine ⟨hregs.trans (Shared.regsBut_of_regs_eq _ rfl), ⟨(f h.start.srec).seq, f h.start.srec, h.start.again, h.start.putAt, ?_⟩⟩
    rw [Shared.setStart_start, hstart]
  · dsimp only
    split
    · exact hnow
    · obtain ⟨hbut, ⟨n, w, again, p, hstart'⟩⟩ := hnow
      refine ⟨hbut.trans (Shared.regsBut_of_regs_eq _ rfl), ⟨n, w, again, some (h.srecNow f).gt, ?_⟩⟩
      rw [Shared.setStart_start, hstart']

end

end Sys2Proof.Machine
end

section
/-! The lanes and the store under the CFG commands (R484, R494, R496). -/

namespace Sys2Proof.Machine

/-! ### The open transfer -/

/-- The lane with an erased target opened. -/
def Lane.xOpened (t : Nat) (l : Lane) : Lane :=
  ((l.wr CFG_XST (CFG_XST_XSTATE.put 1 (CFG_XST_TARGET.put t 0#32))).setF (CFG_TGT t) CFG_TGT_CHECK 3).setFire (fun f =>
    { f with pages := [], closing := f.closing.filter (· != t) })

/-- The lane with a page being programmed. -/
def Lane.xProgramming (l : Lane) : Lane := (l.xTo 3).setFire (fun f => { f with pages := l.xOff :: f.pages })

/-- The lane with a page programmed. -/
def Lane.xProgrammed (l : Lane) : Lane := (l.xTo 2).setF CFG_XST CFG_XST_PAGES (l.fld CFG_XST CFG_XST_PAGES + 1)

theorem CFG_TGT_lt {t : Nat} (ht : t < 4) : CFG_TGT t < 2 ^ 20 ∧ CFG_TGTID t < 2 ^ 20 := by unfold CFG_TGT CFG_TGTID; omega

theorem CFG_TGT_ne_XST (t : Nat) : CFG_XST % 2 ^ 20 ≠ CFG_TGT t % 2 ^ 20 := by unfold CFG_TGT CFG_XST; omega

@[simp] theorem Lane.setFire_regs (l : Lane) (f : FireWork → FireWork) : (l.setFire f).regs = l.regs := rfl

theorem Lane.regsBut.setFire {ks : List Nat} {l m : Lane} (hm : l.regsBut ks m) (f : FireWork → FireWork) : l.regsBut ks (m.setFire f) :=
  hm.of_regs_eq (Lane.setFire_regs m f)

@[simp] theorem Lane.setFire_fld (l : Lane) (f : FireWork → FireWork) (k : Nat) (g : Fld) : (l.setFire f).fld k g = l.fld k g :=
  Lane.fld_of_regs_eq (Lane.setFire_regs l f) k g

section
variable (l : Lane) {t : Nat}

theorem Lane.xOpened_regsBut (ht : t < 4) : l.regsBut [CFG_XST, CFG_TGT t] (l.xOpened t) :=
  (((Lane.regsBut.refl _ l).wr (by decide) (by simp) _).setF (CFG_TGT_lt ht).1 (by simp) _ _).setFire _

theorem Lane.xOpened_fld_XST (t : Nat) (f : Fld) : (l.xOpened t).fld CFG_XST f = f.get (CFG_XST_XSTATE.put 1 (CFG_XST_TARGET.put t 0#32)) :=
  (Lane.setFire_fld ..).trans ((Lane.fld_setF_ne _ _ _ _ _ _ (CFG_TGT_ne_XST t)).trans (Lane.fld_wr_same ..))

theorem Lane.xOpened_effect (ht : t < 4) : (l.xOpened t).xState = 1 ∧ (l.xOpened t).xTarget = t ∧
    (l.xOpened t).fld CFG_XST CFG_XST_PAGES = 0 ∧ (l.xOpened t).fld (CFG_TGT t) CFG_TGT_CHECK = 3 ∧ (l.xOpened t).fire.pages = [] := by
  refine ⟨(l.xOpened_fld_XST t _).trans ?_, (l.xOpened_fld_XST t _).trans ?_, (l.xOpened_fld_XST t _).trans ?_,
    (Lane.setFire_fld ..).trans (Lane.fld_setF_same _ _ _ _ (by decide)), rfl⟩
  · exact Fld.get_put_same _ _ _ (by decide)
  · rw [Fld.get_put_apart (by decide), Fld.get_put_same _ _ _ (by decide)]
    exact Nat.mod_eq_of_lt ht
  · rw [Fld.get_put_apart (by decide), Fld.get_put_apart (by decide)]
    rfl

theorem Lane.xProgramming_effect : l.regsBut [CFG_XST] l.xProgramming ∧ l.xProgramming.xState = 3 ∧
    l.xProgramming.fire.pages = l.xOff :: l.fire.pages :=
  ⟨(l.xTo_regsBut 3).setFire _, (Lane.setFire_fld ..).trans (l.xTo_xState (v := 3) (by decide)),
    congrArg (fun f : FireWork => l.xOff :: f.pages) (l.xTo_fire 3)⟩

theorem Lane.xProgrammed_effect : l.regsBut [CFG_XST] l.xProgrammed ∧ l.xProgrammed.xState = 2 ∧
    l.xProgrammed.fld CFG_XST CFG_XST_PAGES = (l.fld CFG_XST CFG_XST_PAGES + 1) % 65536 :=
  ⟨(l.xTo_regsBut 2).setF (by decide) (by simp) _ _,
    (Lane.fld_setF_field _ _ _ _ _ (by decide)).trans (l.xTo_xState (v := 2) (by decide)), Lane.fld_setF_same _ _ _ _ (by decide)⟩

theorem Lane.xRead_effect : l.regsBut [CFG_XST] l.xRead ∧ l.xRead.xState = 4 ∧ l.xRead.fire.rdOff = l.xOff :=
  ⟨(l.xTo_regsBut 4).setFire _, (Lane.setFire_fld ..).trans (l.xTo_xState (v := 4) (by decide)), rfl⟩

theorem Lane.xClose_effect : l.regsBut [CFG_XST] l.xClose ∧ l.xClose.xState = 0 ∧
    l.xClose.fire.closing = l.fire.closing.filter (· != l.xTarget) ++ [l.xTarget] :=
  ⟨((Lane.regsBut.refl _ l).setF (by decide) (by simp) _ _).setFire _,
    (Lane.setFire_fld ..).trans (Lane.fld_setF_same _ _ _ _ (by decide)), rfl⟩

theorem CFG_XBUF_lt : ∀ w ∈ upTo 64, CFG_XBUF w < 2 ^ 20 := by decide

/-- The lane with the bytes of a page in the buffer. -/
def Lane.bufLoaded (bs : List Byte) (l : Lane) : Lane :=
  (upTo 64).foldl (fun l w => l.wr (CFG_XBUF w) (w32 (leNat ((bs.drop (4 * w)).take 4)))) l

theorem Lane.readEnd_of_loading {l : Lane} (h : Shared) (hloading : l.xState = 4) :
    l.readEnd h = (l.bufLoaded (h.page ((tgtAddr l.xTarget + l.fire.rdOff) / 256))).xTo 2 :=
  if_neg (by simp [hloading])

theorem Lane.bufLoaded_effect (bs : List Byte) : l.regsBut (CFG_XST :: (upTo 64).map CFG_XBUF) ((l.bufLoaded bs).xTo 2) ∧
    ((l.bufLoaded bs).xTo 2).xState = 2 ∧
    ∀ w, w < 64 → ((l.bufLoaded bs).xTo 2).rd (CFG_XBUF w) = w32 (leNat ((bs.drop (4 * w)).take 4)) := by
  refine ⟨?_, Lane.xTo_xState _ (by decide), fun w hw => ?_⟩
  · exact ((Lane.foldl_wr_regsBut _ CFG_XBUF_lt l).mono (by simp)).trans ((Lane.xTo_regsBut _ 2).mono (by simp))
  · have hmem : w ∈ upTo 64 := List.mem_range.mpr hw
    refine (Lane.xTo_regsBut _ 2 _ (CFG_XBUF_lt w hmem) (by simp [CFG_XBUF, CFG_XST]; omega)).trans ?_
    exact Lane.foldl_wr_rd (fun w => w32 (leNat ((bs.drop (4 * w)).take 4))) (fun x y hxy => Nat.add_left_cancel hxy) CFG_XBUF_lt hmem l

/-- The lane with the check of a target shown and the target no longer waiting. -/
def Lane.xChecked (h : Shared) (t : Nat) (l : Lane) : Lane := (l.checkTarget h t).setFire (fun f => { f with closing := f.closing.drop 1 })

theorem Lane.xChecked_effect (h : Shared) (ht : t < 4) : l.regsBut [CFG_TGT t, CFG_TGTID t] (l.xChecked h t) ∧
    (l.xChecked h t).fld (CFG_TGT t) CFG_TGT_CHECK = (if (h.checkImage t).isNone then 1 else 2) ∧
    (l.xChecked h t).rd (CFG_TGTID t) = (h.image t).id ∧ (l.xChecked h t).fire.closing = l.fire.closing.drop 1 := by
  have hne : CFG_TGT t % 2 ^ 20 ≠ CFG_TGTID t % 2 ^ 20 := by unfold CFG_TGT CFG_TGTID; omega
  refine ⟨?_, ?_, Lane.rd_wr_same _ _ _, rfl⟩
  · exact (((Lane.regsBut.refl _ l).wr (CFG_TGT_lt ht).1 (by simp) _).wr (CFG_TGT_lt ht).2 (by simp) _).setFire _
  · refine ((Lane.setFire_fld ..).trans ((Lane.fld_wr_ne _ _ _ _ _ hne).trans (Lane.fld_wr_same ..))).trans ?_
    rw [Fld.get_put_apart (by decide), Fld.get_put_same _ _ _ (by decide)]
    split <;> rfl

/-- The lane with a transfer broken off. -/
def Lane.xAborted (t : Nat) (l : Lane) : Lane := (l.xTo 0).setF (CFG_TGT t) CFG_TGT_CHECK 2

theorem Lane.xAborted_effect (ht : t < 4) : l.regsBut [CFG_XST, CFG_TGT t] (l.xAborted t) ∧ (l.xAborted t).xState = 0 ∧
    (l.xAborted t).fld (CFG_TGT t) CFG_TGT_CHECK = 2 :=
  ⟨((l.xTo_regsBut 0).mono (by simp)).setF (CFG_TGT_lt ht).1 (by simp) _ _,
    (Lane.fld_setF_ne _ _ _ _ _ _ (CFG_TGT_ne_XST t)).trans (l.xTo_xState (v := 0) (by decide)),
    Lane.fld_setF_same _ _ _ _ (by decide)⟩

theorem Lane.xTarget_lt : l.xTarget < 4 := Fld.get_lt CFG_XST_TARGET _

theorem Lane.pFire_effect (g : Nat) {b : Nat} (hb : b < 256) : l.regsBut [CFG_PST b] (l.pFire g b) ∧
    (l.pFire g b).fld (CFG_PST b) CFG_PST_PSTATE = (if l.fire.pf.isEmpty then 2 else 1) ∧
    (l.pFire g b).fire.pf = l.fire.pf ++ [{ buf := b, m := g }] := by
  refine ⟨((Lane.regsBut.refl _ l).setFire _).setF (by unfold CFG_PST; omega) (by simp) _ _,
    (Lane.fld_setF_same _ _ _ _ (by decide)).trans ?_, rfl⟩
  split <;> rfl

/-! ### The fuses -/

/-- The lane with the key fuse shown and the key registers cleared. -/
def Lane.keyBurned (l : Lane) : Lane := (upTo 8).foldl (fun l w => l.wr (CFG_KEY w) 0#32) (l.setB CFG_FUSE CFG_FUSE_KEY_SET true)

theorem CFG_KEY_lt : ∀ w ∈ upTo 8, CFG_KEY w < 2 ^ 20 := by decide

theorem Lane.keyBurned_sameDiscipline : l.sameDiscipline l.keyBurned :=
  List.foldlRecOn (motive := fun m : Lane => l.sameDiscipline m) _ _ ⟨rfl, rfl, rfl⟩ fun _ hm _ _ => hm.trans ⟨rfl, rfl, rfl⟩

theorem Lane.keyBurned_effect : l.regsBut (CFG_FUSE :: (upTo 8).map CFG_KEY) l.keyBurned ∧
    l.keyBurned.on CFG_FUSE CFG_FUSE_KEY_SET = true ∧ ∀ w, w < 8 → l.keyBurned.rd (CFG_KEY w) = 0#32 := by
  have hkeys := Lane.foldl_wr_regsBut (k := CFG_KEY) (fun _ => 0#32) CFG_KEY_lt (l.setB CFG_FUSE CFG_FUSE_KEY_SET true)
  refine ⟨((Lane.regsBut.refl _ l).setB (by decide) (by simp) _ _).trans (hkeys.mono (by simp)), ?_, fun w hw => ?_⟩
  · exact (hkeys.on (by decide) (by decide) _).trans (Lane.on_setB_same _ _ _ _ (by decide))
  · exact Lane.foldl_wr_rd (fun _ => 0#32) (fun x y hxy => Nat.add_left_cancel hxy) CFG_KEY_lt (List.mem_range.mpr hw) _

end

/-! ### Effects in the state -/

section
variable {s : State} {i : LaneId}

theorem State.progEnd_of_programming (hprog : s.storeLane.xState = 3) (ok : Bool) : ∃ h : Shared, h.regs = s.sh.regs ∧ (ok = true → h = s.sh) ∧
    s.progEnd ok = (s.withSh h).working (fun l => if ok then l.xProgrammed else l.xTo 5) := by
  have hbusy : (s.storeLane.xState != 3) = false := by rw [hprog]; rfl
  rw [State.progEnd, hbusy, if_neg Bool.false_ne_true]
  cases ok with
  | true => exact ⟨s.sh, rfl, fun _ => rfl, rfl⟩
  | false => exact ⟨s.sh.setPage _ _, rfl, nofun, rfl⟩

theorem Lane.not_off_of_working {l : Lane} (h : l.working = true) : (l.st != .off) = true := by
  cases hst : l.st <;> simp_all [Lane.working, Lane.computes]

end

end Sys2Proof.Machine
end

section
/-! The rows of the transfer and of the CFG commands (R484, R485, R494, R496, R500). -/

namespace Sys2Proof.Machine

/-! ### A command that is done -/

section
variable {s : State} {i : LaneId} {op arg : Nat}

theorem State.cfgValid_of_done (hdone : s.cfgStatus op arg = 0) : s.storeLane.cfgInvalid op arg = false := by
  rw [State.cfgStatus] at hdone
  split at hdone
  · cases hdone
  · rename_i hvalid
    exact Bool.eq_false_iff.mpr hvalid

/-- A lane that forms records after the answer, a change of what the lanes share and its own part. -/
theorem State.cfgTold_withSh_then (hworking : (s.lane i).working = true) (op : Nat) (h : Shared) (f : Lane → Lane) :
    (((s.cfgTold op 0).withSh h).working f).lane i = f ((s.lane i).cfgAnswered op 0) :=
  State.cfgTold_then hworking op 0 f

theorem State.cfgRow_working {h : Shared} {f : Lane → Lane} (harg : arg < 256) (hdone : s.cfgStatus op arg = 0)
    (heffect : (s.cfgTold op 0).cfgEffect op arg = ((s.cfgTold op 0).withSh h).working f) :
    s.cfgRow op arg = ((s.cfgTold op 0).withSh h).working f :=
  (State.cfgRow_of_done harg hdone).trans heffect

theorem State.cfgRow_xprog (hdone : s.cfgStatus 2 0 = 0) : s.cfgRow 2 0 =
    ((s.cfgTold 2 0).withSh (s.sh.setPage ((tgtAddr s.storeLane.xTarget + s.storeLane.xOff) / 256) s.storeLane.xBuf)).working
      Lane.xProgramming := by
  refine (State.cfgRow_of_done (by decide) hdone).trans ?_
  change (s.cfgTold 2 0).xProg = _
  rw [State.xProg, State.cfgTold_xTarget, State.cfgTold_xOff, State.cfgTold_xBuf]
  rfl

/-- The record of a closed target, in the lanes that form records. -/
theorem State.xClosed_of_working (hepochs : s.sh.epochs = true) (hworking : (s.lane i).working = true) (t : Nat) : ∃ p1 p2 p3,
    s.xClosed t = s.working (fun l => l.record 0x0C06 s.sh.gt (w32 t) p1 p2 p3) :=
  ⟨_, _, _, State.sysRec_of_working hepochs hworking ..⟩

theorem State.cfgRow_xabort (hdone : s.cfgStatus 5 0 = 0) (hepochs : s.sh.epochs = true) (hworking : (s.lane i).working = true) :
    ∃ p1 p2 p3, s.cfgRow 5 0 = (s.cfgTold 5 0).working (fun l =>
      (l.xAborted s.storeLane.xTarget).record 0x0C06 s.sh.gt (w32 s.storeLane.xTarget) p1 p2 p3) := by
  have hsame (l : Lane) : l.sameDiscipline (l.xAborted s.storeLane.xTarget) := (l.xTo_sameDiscipline 0).trans ⟨rfl, rfl, rfl⟩
  have hworking' : (((s.cfgTold 5 0).working (Lane.xAborted s.storeLane.xTarget)).lane i).working = true := by
    rw [State.cfgTold_then hworking, (hsame _).working, (Lane.cfgAnswered_sameDiscipline 0 5 _).working, hworking]
  obtain ⟨p1, p2, p3, hclosed⟩ := State.xClosed_of_working (s := (s.cfgTold 5 0).working (Lane.xAborted s.storeLane.xTarget)) hepochs
    hworking' s.storeLane.xTarget
  refine ⟨p1, p2, p3, (State.cfgRow_of_done (by decide) hdone).trans ?_⟩
  change (s.cfgTold 5 0).xAbort = _
  rw [State.xAbort, State.cfgTold_xTarget]
  exact hclosed.trans (State.working_working hsame _)

theorem State.checkEnd_of_closing {k : Nat} {ks : List Nat} (hclosing : s.storeLane.fire.closing = k :: ks) (hepochs : s.sh.epochs = true)
    (hworking : (s.lane i).working = true) : ∃ p1 p2 p3,
    s.checkEnd = s.working (fun l => (l.xChecked s.sh k).record 0x0C06 s.sh.gt (w32 k) p1 p2 p3) := by
  have hsame (l : Lane) : l.sameDiscipline (l.xChecked s.sh k) := ⟨rfl, rfl, rfl⟩
  have hworking' : ((s.working (Lane.xChecked s.sh k)).lane i).working = true := by
    rw [State.working_lane_of_working hworking, (hsame _).working, hworking]
  obtain ⟨p1, p2, p3, hclosed⟩ := State.xClosed_of_working (s := s.working (Lane.xChecked s.sh k)) hepochs hworking' k
  refine ⟨p1, p2, p3, ?_⟩
  rw [State.checkEnd, hclosing]
  exact hclosed.trans (State.working_working hsame _)

/-- The fuse bank with the key burned. -/
def Shared.keyBurned (ws : List Word) (h : Shared) : Shared := h.setStart (fun t => { t with key := some (wordsBytes ws) })

/-- The fuse bank with AUTH_REQ burned. -/
def Shared.authBurned (h : Shared) : Shared := h.setStart (fun t => { t with authReq := true })

/-- The fuse bank and the lanes that are on after a burn, with its record. -/
def State.burned (h : Shared) (f : Lane → Lane) (p : Nat) (s : State) : State :=
  (State.onLanes (fun l => l.st != .off) f (s.withSh h)).sysRec 0x0C07 p 0 0 0

theorem State.cfgRow_burnKey (hdone : s.cfgStatus 9 0 = 0) : s.cfgRow 9 0 =
    (s.cfgTold 9 0).burned (s.sh.keyBurned ((upTo 8).map (fun w => s.storeLane.rd (CFG_KEY w)))) Lane.keyBurned 0 := by
  refine (State.cfgRow_of_done (by decide) hdone).trans ?_
  change (s.cfgTold 9 0).burnKey = _
  rw [State.burnKey, State.cfgTold_rds _ _ _ fun w hw => by unfold CFG_KEY CFG_CMDST; omega]
  rfl

/-- The record of a burn leaves the registers of a lane that forms records as the burn left them. -/
theorem State.burned_lane {h : Shared} {f : Lane → Lane} (hworking : (s.lane i).working = true) (hepochs : h.epochs = true)
    (hsame : ∀ l : Lane, l.sameDiscipline (f l)) (op p : Nat) :
    (((s.cfgTold op 0).burned h f p).lane i).regs = (f ((s.lane i).cfgAnswered op 0)).regs ∧ ((s.cfgTold op 0).burned h f p).sh = h := by
  have hlane : (State.onLanes (fun l => l.st != .off) f ((s.cfgTold op 0).withSh h)).lane i = f ((s.lane i).cfgAnswered op 0) := by
    rw [State.onLanes_lane, State.withSh_lane, if_pos (Lane.not_off_of_working (State.cfgTold_working hworking op 0)),
      State.cfgTold_lane hworking]
  have hworking' : ((State.onLanes (fun l => l.st != .off) f ((s.cfgTold op 0).withSh h)).lane i).working = true := by
    rw [hlane, (hsame _).working, (Lane.cfgAnswered_sameDiscipline 0 op _).working, hworking]
  rw [State.burned, State.sysRec_of_working (s := State.onLanes _ f ((s.cfgTold op 0).withSh h)) hepochs hworking',
    State.working_lane_of_working hworking', hlane]
  exact ⟨rfl, rfl⟩

end

/-- Settles O48: each command is answered and then acts in the lanes that form records, on the store or on the start logic; each row
that ends a step is one change of those lanes. -/
theorem storeAndTransferRows : Obligations.StoreAndTransferRows := by
  refine ⟨fun arg s i hworking hdone => ?xopen, fun s i hworking hstate => ?erased, fun s i hworking hdone => ?xprog,
    fun s i hworking hprog => ?programmed, fun s i hworking hprog => ?misprogrammed, fun s i hworking hdone => ?xread,
    fun s i hworking hstate => ?loaded, fun s i hworking hdone => ?xclose, fun k ks s i hworking hclosing hk hepochs => ?checked,
    fun s i hworking hdone hepochs => ?xabort, fun arg s i hworking hdone => ?pfire, fun arg s i hworking hdone => ?setPref,
    fun s i hworking hdone => ?refire, fun s i hworking hdone hepochs => ?burnKey, fun s i hworking hdone hepochs => ?burnAuth,
    fun arg op c s i hmem hworking hne => ?refused⟩
  case xopen =>
    have harg : arg.toNat < 4 := by
      have := of_decide_eq_false (State.cfgValid_of_done hdone)
      omega
    have hrow := State.cfgRow_working (h := s.sh.norErase (tgtAddr arg.toNat) (tgtSize arg.toNat)) (f := Lane.xOpened arg.toNat)
      arg.isLt hdone rfl
    refine ⟨_, congrArg Host.Outcome.next hrow, (Shared.norErase_regs s.sh _ _).1, rfl, rfl, ?_⟩
    rw [State.cfgTold_withSh_then hworking]
    obtain ⟨hbut, hst, hop⟩ := (Lane.xOpened_regsBut ((s.lane i).cfgAnswered 1 0) harg).answered
      (by simp [CFG_CMDST, CFG_XST, CFG_TGT]; omega)
    exact ⟨hbut, hst, hop, Lane.xOpened_effect _ harg⟩
  case erased =>
    refine ⟨_, rfl, State.working_sharedKept .., ?_⟩
    rw [State.working_lane_of_working hworking, Lane.eraseEnd, if_pos hstate]
    exact ⟨Lane.xTo_regsBut _ 2, Lane.xTo_xState _ (by decide), Lane.xTo_raised hstate 2⟩
  case xprog =>
    refine ⟨_, congrArg Host.Outcome.next (State.cfgRow_xprog hdone), rfl, rfl, Shared.page_setPage_same _ _ _ (Lane.xBuf_length _),
      fun q hq => Shared.page_setPage_ne _ _ _ hq, ?_⟩
    rw [State.cfgTold_withSh_then hworking]
    obtain ⟨hregs, hstate, hpages⟩ := ((s.lane i).cfgAnswered 2 0).xProgramming_effect
    obtain ⟨hbut, hst, -⟩ := hregs.answered (by decide)
    refine ⟨hbut, hst, hstate, hpages.trans ?_⟩
    rw [Lane.cfgAnswered_fire, Lane.xOff, Lane.cfgAnswered_fld (by decide) (by decide), ← Lane.xOff]
  case programmed =>
    obtain ⟨h, -, hsh, hrow⟩ := State.progEnd_of_programming hprog true
    cases hsh rfl
    refine ⟨_, congrArg Host.Outcome.next hrow, State.working_sharedKept .., ?_⟩
    rw [State.working_lane_of_working (s := s.withSh s.sh) hworking]
    exact (s.lane i).xProgrammed_effect
  case misprogrammed =>
    obtain ⟨h, hregs, -, hrow⟩ := State.progEnd_of_programming hprog false
    refine ⟨_, congrArg Host.Outcome.next hrow, hregs, ?_⟩
    rw [State.working_lane_of_working (s := s.withSh h) (by rwa [State.withSh_lane]), State.withSh_lane]
    exact ⟨Lane.xTo_regsBut _ 5, Lane.xTo_xState _ (by decide), Lane.xTo_pages _ 5⟩
  case xread =>
    have hrow := State.cfgRow_working (h := s.sh) (f := Lane.xRead) (by decide) hdone rfl
    refine ⟨_, congrArg Host.Outcome.next hrow, State.working_sharedKept _ Lane.xRead, ?_⟩
    rw [State.cfgTold_withSh_then hworking]
    obtain ⟨hregs, hstate, hoff⟩ := ((s.lane i).cfgAnswered 3 0).xRead_effect
    obtain ⟨hbut, hst, -⟩ := hregs.answered (by decide)
    exact ⟨hbut, hst, hstate, hoff.trans (Lane.cfgAnswered_fld (by decide) (by decide) _)⟩
  case loaded =>
    refine ⟨_, rfl, State.working_sharedKept .., ?_⟩
    rw [State.working_lane_of_working hworking, Lane.readEnd_of_loading _ hstate]
    exact (s.lane i).bufLoaded_effect _
  case xclose =>
    have hrow := State.cfgRow_working (h := s.sh) (f := Lane.xClose) (by decide) hdone rfl
    refine ⟨_, congrArg Host.Outcome.next hrow, State.working_sharedKept _ Lane.xClose, ?_⟩
    rw [State.cfgTold_withSh_then hworking]
    obtain ⟨hregs, hstate, hclosing⟩ := ((s.lane i).cfgAnswered 4 0).xClose_effect
    obtain ⟨hbut, hst, -⟩ := hregs.answered (by decide)
    refine ⟨hbut, hst, hstate, hclosing.trans ?_⟩
    rw [Lane.cfgAnswered_fire, Lane.xTarget, Lane.cfgAnswered_fld (by decide) (by decide), ← Lane.xTarget]
  case checked =>
    obtain ⟨p1, p2, p3, hrow⟩ := State.checkEnd_of_closing hclosing hepochs hworking
    refine ⟨_, congrArg Host.Outcome.next hrow, State.working_sharedKept .., ?_⟩
    rw [State.working_lane_of_working hworking]
    obtain ⟨hregs, hcheck, hid, hfire⟩ := (s.lane i).xChecked_effect s.sh hk
    exact ⟨hregs, hcheck, hid, hfire, _, rfl, rfl, rfl⟩
  case xabort =>
    obtain ⟨p1, p2, p3, hrow⟩ := State.cfgRow_xabort hdone hepochs hworking
    refine ⟨_, congrArg Host.Outcome.next hrow, State.working_sharedKept (s.cfgTold 5 0) _, ?_⟩
    rw [State.cfgTold_then hworking]
    obtain ⟨hregs, hstate, hcheck⟩ := ((s.lane i).cfgAnswered 5 0).xAborted_effect s.storeLane.xTarget_lt
    have htarget := s.storeLane.xTarget_lt
    obtain ⟨hbut, hst, -⟩ := hregs.answered (by simp [CFG_CMDST, CFG_XST, CFG_TGT]; omega)
    exact ⟨hbut, hst, hstate, hcheck⟩
  case pfire =>
    have hrow := State.cfgRow_working (h := s.sh) (f := Lane.pFire s.sh.gt arg.toNat) arg.isLt hdone rfl
    refine ⟨_, congrArg Host.Outcome.next hrow, State.working_sharedKept _ (Lane.pFire s.sh.gt arg.toNat), ?_⟩
    rw [State.cfgTold_withSh_then hworking]
    obtain ⟨hregs, hstate, hpf⟩ := ((s.lane i).cfgAnswered 6 0).pFire_effect s.sh.gt arg.isLt
    obtain ⟨hbut, hst, -⟩ := hregs.answered (by simp [CFG_CMDST, CFG_PST]; omega)
    rw [Lane.cfgAnswered_fire] at hstate hpf
    exact ⟨hbut, hst, hstate, hpf⟩
  case setPref =>
    have harg : arg.toNat < 2 := by
      have := of_decide_eq_false (State.cfgValid_of_done hdone)
      omega
    have hrow := State.cfgRow_working (h := s.sh.srecPut (fun r => { r with pref := arg.toNat }))
      (f := fun l => l.setF CFG_STAT CFG_STAT_PREF arg.toNat) arg.isLt hdone rfl
    obtain ⟨hsh, hput⟩ := s.sh.srecPut_effect (fun r => { r with pref := arg.toNat })
    obtain ⟨n, hsrec⟩ := hput.srec
    refine ⟨_, congrArg Host.Outcome.next hrow, hsh, ?_⟩
    rw [State.cfgTold_withSh_then hworking]
    have hregs := (Lane.regsBut.refl [CFG_STAT] ((s.lane i).cfgAnswered 7 0)).setF (k := CFG_STAT) (by decide) (by simp) CFG_STAT_PREF
      arg.toNat
    obtain ⟨hbut, hst, -⟩ := hregs.answered (by decide)
    exact ⟨hbut, hst, (Lane.fld_setF_same _ _ _ _ (by decide)).trans (Nat.mod_eq_of_lt harg), congrArg SRec.pref hsrec,
      hput.writing⟩
  case refire =>
    refine ⟨_, congrArg Host.Outcome.next (State.cfgRow_of_done (by decide) hdone), ?_⟩
    change s.sh.regsBut _ ((s.cfgTold 8 0).restart 7).sh ∧ (s.lane i).regsBut _ ((s.cfgTold 8 0).lane i) ∧
      ((s.cfgTold 8 0).lane i).fld CFG_CMDST CFG_CMDST_STATUS = 0 ∧ _
    rw [State.cfgTold_lane hworking]
    exact ⟨(Shared.regsBut_of_regs_eq _ rfl).setF (by decide) (by simp) _ _, Lane.cfgAnswered_regsBut 0 8 _, Lane.cfgAnswered_status 0 8 _,
      rfl, rfl, Shared.fld_setF_same _ _ _ _ (by decide)⟩
  case burnKey =>
    obtain ⟨hregs, hsh⟩ := State.burned_lane (h := s.sh.keyBurned ((upTo 8).map (fun w => s.storeLane.rd (CFG_KEY w)))) hworking hepochs
      Lane.keyBurned_sameDiscipline 9 0
    obtain ⟨hburned, hset, hkeys⟩ := ((s.lane i).cfgAnswered 9 0).keyBurned_effect
    obtain ⟨hbut, hst, -⟩ := (hburned.of_regs_eq hregs).answered (by decide)
    exact ⟨_, congrArg Host.Outcome.next (State.cfgRow_burnKey hdone), (congrArg Shared.regs hsh :), congrArg (fun h : Shared => h.start.key) hsh,
      hbut, hst, (Lane.on_of_regs_eq hregs ..).trans hset, fun w hw => (Lane.rd_of_regs_eq hregs _).trans (hkeys w hw)⟩
  case burnAuth =>
    have hburned (l : Lane) : l.sameDiscipline (l.setB CFG_FUSE CFG_FUSE_AUTH_REQ true) := ⟨rfl, rfl, rfl⟩
    obtain ⟨hregs, hsh⟩ := State.burned_lane (h := s.sh.authBurned) hworking hepochs hburned 10 1
    have hfuse := (Lane.regsBut.refl [CFG_FUSE] ((s.lane i).cfgAnswered 10 0)).setB (k := CFG_FUSE) (by decide) (by simp)
      CFG_FUSE_AUTH_REQ true
    obtain ⟨hbut, hst, -⟩ := (hfuse.of_regs_eq hregs).answered (by decide)
    exact ⟨_, congrArg Host.Outcome.next (State.cfgRow_of_done (by decide) hdone), (congrArg Shared.regs hsh :),
      congrArg (fun h : Shared => h.start.authReq) hsh, hbut, hst,
      (Lane.on_of_regs_eq hregs ..).trans (Lane.on_setB_same _ _ _ _ (by decide))⟩
  case refused =>
    obtain ⟨hrow, hop⟩ : exec c s = .next (s.cfgRow op arg.toNat) ∧ op < 11 := by
      simp only [List.mem_cons, Prod.mk.injEq, List.not_mem_nil, or_false] at hmem
      rcases hmem with ⟨rfl, rfl⟩ | ⟨rfl, rfl⟩ | ⟨rfl, rfl⟩ | ⟨rfl, rfl⟩ | ⟨rfl, rfl⟩ | ⟨rfl, rfl⟩ | ⟨rfl, rfl⟩ | ⟨rfl, rfl⟩ | ⟨rfl, rfl⟩ |
        ⟨rfl, rfl⟩ <;> exact ⟨rfl, by decide⟩
    have hbad : 2 ≤ s.cfgStatus op arg.toNat ∧ s.cfgStatus op arg.toNat < 4 := by
      have := s.cfgStatus_cases op arg.toNat
      omega
    refine ⟨_, hrow.trans (congrArg Host.Outcome.next (State.cfgRow_of_refused arg.isLt hne)), State.working_sharedKept .., ?_⟩
    rw [State.cfgTold_lane hworking]
    exact ⟨Lane.cfgAnswered_regsBut _ op _, (Lane.cfgAnswered_status _ op _).trans (Nat.mod_eq_of_lt hbad.2),
      (Lane.cfgAnswered_lastOp _ op _).trans (Nat.mod_eq_of_lt (by omega)), Lane.cfgAnswered_raised _ op _ hbad.1⟩

end Sys2Proof.Machine
end

section
/-! Resets, their release, and the rows of the start sequence (R503–R517). -/

namespace Sys2Proof.Machine

/-! ### Registers kept through a reset -/

section
variable {ks : List Nat} {old new : RegFile} {k : Nat}

theorem RegFile.rd_keepRegs_ne (hks : ∀ j ∈ ks, j < 2 ^ 20) (hk : k < 2 ^ 20) (hnot : k ∉ ks) :
    RegFile.rd (keepRegs ks old new) k = RegFile.rd new k := by
  refine List.foldlRecOn (motive := fun r => RegFile.rd r k = RegFile.rd new k) ks _ rfl fun r hr j hj => ?_
  refine (RegFile.rd_wr_ne _ _ _ _ ?_).trans hr
  rw [Nat.mod_eq_of_lt hk, Nat.mod_eq_of_lt (hks j hj)]
  exact fun h => hnot (h ▸ hj)

theorem RegFile.rd_keepRegs (hks : ∀ j ∈ ks, j < 2 ^ 20) (hk : k ∈ ks) : RegFile.rd (keepRegs ks old new) k = RegFile.rd old k := by
  induction ks generalizing new with
  | nil => exact absurd hk List.not_mem_nil
  | cons j js ih =>
    have hrest : ∀ n ∈ js, n < 2 ^ 20 := fun n hn => hks n (List.mem_cons_of_mem j hn)
    by_cases hlater : k ∈ js
    · exact ih hrest hlater
    · obtain rfl : k = j := (List.mem_cons.mp hk).resolve_right hlater
      exact (RegFile.rd_keepRegs_ne hrest (hks k hk) hlater).trans (RegFile.rd_wr_same ..)

end

/-- A reset other than POWER_ON keeps the counters of HOUSE and of the supply. -/
theorem Shared.regsKept_rd (h : Shared) {k : Nat} (hk : k ∈ keepHouse) : RegFile.rd h.regsKept k = h.rd k := by
  have hall : ∀ j ∈ keepHouse, j < 2 ^ 20 ∧ j ≠ CLK_REFMON ∧ ∀ d < 14, j ≠ PWR_DST d := by decide
  obtain ⟨hlt, hmon, hdst⟩ := hall k hk
  unfold Shared.regsKept
  refine List.foldlRecOn (motive := fun r => RegFile.rd r k = h.rd k) _ _ ?_ fun r hr d hd => ?_
  · refine (RegFile.rd_wr_ne _ _ _ _ ?_).trans (RegFile.rd_keepRegs (fun j hj => (hall j hj).1) hk)
    rw [Nat.mod_eq_of_lt hlt]
    exact hmon
  · refine (RegFile.rd_wr_ne _ _ _ _ ?_).trans hr
    have hd14 : d < 14 := List.mem_range.mp hd
    rw [Nat.mod_eq_of_lt hlt, Nat.mod_eq_of_lt (by unfold PWR_DST; omega)]
    exact hdst d hd14

/-! ### Lanes in reset -/

section
variable (h : Shared) (l : Lane)

theorem Lane.nodeDown_kept (power : Bool) : (l.nodeDown h power).st = .off ∧ (l.nodeDown h power).store = l.commitLast.store := by
  cases power <;> exact ⟨rfl, rfl⟩

theorem aonKeys_lt : ∀ k ∈ aonKeys, k < 2 ^ 20 := by decide

theorem Lane.coreDown_rd {k : Nat} (hk : k ∈ aonKeys) : (l.coreDown h).rd k = l.rd k := by
  rw [Lane.rd, Lane.coreDown, RegFile.rd_keepRegs aonKeys_lt hk, ← Lane.rd]

end

/-! ### The start record -/

theorem Shared.srecUsed_of_nor {h g : Shared} (hnor : g.nor = h.nor) : g.srecUsed = h.srecUsed := by
  have hpage (p : Nat) : g.page p = h.page p := by rw [Shared.page, hnor, Shared.page]
  have hcopy (c : Nat) : g.srecCopy c = h.srecCopy c := by
    unfold Shared.srecCopy Shared.norRead
    simp only [hpage]
  rw [Shared.srecUsed, hcopy, hcopy, ← Shared.srecUsed]

/-! ### RESET_RELEASE -/

/-- The shared part at the release: time from 0 after POWER_ON, and the identity registers. -/
def Shared.relStart (h : Shared) : Shared := (if h.start.zero then { h with gt := 0 } else h).showIdent

/-- Cause, count and record shown at the release. -/
def Shared.relShown (cause fails : Nat) (counted : Bool) (r : SRec) (h : Shared) : Shared :=
  let w := MOD_RSTCAUSE_CAUSE.put cause (MOD_RSTCAUSE_COUNTED.put counted.toNat (MOD_RSTCAUSE_PHASE_PREV.put r.phase 0#32))
  (((h.wr MOD_RSTCAUSE w).setB MOD_START MOD_START_SREC_DEF false).setF MOD_START MOD_START_FAILS fails).setF MOD_START MOD_START_PHASE r.phase

/-- The start logic after the release. -/
def Shared.relBegun (r : SRec) (h : Shared) : Shared :=
  h.setStart (fun t => { t with phase := .released, relAt := h.gt, rstn := false, zero := false, srec := r })

/-- Whether a start has failed with the reset (R504, R515). -/
def Shared.relCounted (r : SRec) (h : Shared) : Bool := supervisorCause h.start.cause && (r.phase == 1 || r.phase == 2)

/-- FAILS of the record in force after the release. -/
def Shared.relFails (r : SRec) (h : Shared) : Nat := if h.relCounted r then min 3 (r.fails + 1) else r.fails

theorem State.release_of_record {s : State} {c : Nat} {r : SRec} (hphase : s.sh.start.phase = .reset) (hend : s.sh.start.supEnd ≤ s.sh.gt)
    (hused : s.sh.srecUsed = some (c, r)) : s.release =
    s.withSh ((s.sh.relStart.relShown s.sh.start.cause (s.sh.relFails r) (s.sh.relCounted r) r).relBegun
      { r with fails := s.sh.relFails r }) := by
  have hused' : s.sh.relStart.srecUsed = some (c, r) := by
    refine (Shared.srecUsed_of_nor ?_).trans hused
    unfold Shared.relStart
    split <;> rfl
  rw [State.release, if_neg (by simp [hphase, hend])]
  dsimp only
  change (if s.sh.relStart.srecUsed.isNone = true then _ else _) = _
  rw [show Shared.srecUsed (Shared.showIdent _) = _ from hused', hused']
  rfl

section
variable (h : Shared) (cause fails : Nat) (counted : Bool) (r : SRec)

theorem Shared.relStart_effect : h.regsBut [ MOD_IDENT, MOD_SERIAL, PWR_SUP] h.relStart ∧
    h.relStart.fld MOD_IDENT MOD_IDENT_PART = 0x9624 ∧ h.relStart.rd MOD_SERIAL = Config.serial ∧ h.relStart.start = h.start ∧
    h.relStart.gt = if h.start.zero then 0 else h.gt := by
  have hbase : (if h.start.zero then { h with gt := 0 } else h).regs = h.regs := by split <;> rfl
  refine ⟨?_, ?_, ?_, ?_, ?_⟩
  · exact (((Shared.regsBut_of_regs_eq _ hbase).wr (by decide) (by simp) _).wr (by decide) (by simp) _).setB (by decide) (by simp) _ _
  · refine (Shared.fld_setF_ne _ _ _ _ _ _ (by decide)).trans ((Shared.fld_wr_ne _ _ _ _ _ (by decide)).trans ((Shared.fld_wr_same ..).trans ?_))
    exact Fld.get_put_same _ _ _ (by decide)
  · exact (Shared.rd_setF_ne _ _ _ _ _ (by decide)).trans (Shared.rd_wr_same ..)
  · unfold Shared.relStart
    split <;> rfl
  · unfold Shared.relStart
    split <;> rfl

theorem Shared.relShown_regsBut : h.regsBut [ MOD_RSTCAUSE, MOD_START] (h.relShown cause fails counted r) :=
  ((((Shared.regsBut.refl _ h).wr (by decide) (by simp) _).setB (by decide) (by simp) _ _).setF (by decide) (by simp) _ _).setF (by decide)
    (by simp) _ _

theorem Shared.relShown_rstCause : (h.relShown cause fails counted r).rd MOD_RSTCAUSE =
    MOD_RSTCAUSE_CAUSE.put cause (MOD_RSTCAUSE_COUNTED.put counted.toNat (MOD_RSTCAUSE_PHASE_PREV.put r.phase 0#32)) :=
  (Shared.rd_setF_ne _ _ _ _ _ (by decide)).trans ((Shared.rd_setF_ne _ _ _ _ _ (by decide)).trans
    ((Shared.rd_setF_ne _ _ _ _ _ (by decide)).trans (Shared.rd_wr_same ..)))

theorem Shared.relShown_cause : (h.relShown cause fails counted r).fld MOD_RSTCAUSE MOD_RSTCAUSE_CAUSE = cause % 16 ∧
    (h.relShown cause fails counted r).on MOD_RSTCAUSE MOD_RSTCAUSE_COUNTED = counted ∧
    (h.relShown cause fails counted r).fld MOD_RSTCAUSE MOD_RSTCAUSE_PHASE_PREV = r.phase % 4 := by
  have hrd := h.relShown_rstCause cause fails counted r
  refine ⟨(congrArg _ hrd).trans (Fld.get_put_same _ _ _ (by decide)), (congrArg (Fld.on _) hrd).trans ?_, (congrArg _ hrd).trans ?_⟩
  · rw [Fld.on_put_apart (by decide), Fld.on_put_same _ _ _ (by decide)]
  · rw [Fld.get_put_apart (by decide), Fld.get_put_apart (by decide), Fld.get_put_same _ _ _ (by decide)]
    rfl

theorem Shared.relShown_record : (h.relShown cause fails counted r).on MOD_START MOD_START_SREC_DEF = false ∧
    (h.relShown cause fails counted r).fld MOD_START MOD_START_FAILS = fails % 4 ∧
    (h.relShown cause fails counted r).fld MOD_START MOD_START_PHASE = r.phase % 4 := by
  refine ⟨?_, (Shared.fld_setF_field _ _ _ _ _ (by decide)).trans (Shared.fld_setF_same _ _ _ _ (by decide)),
    Shared.fld_setF_same _ _ _ _ (by decide)⟩
  have hbit (g : Shared) {f : Fld} (hf : fldsApart MOD_START_SREC_DEF f) (v : Nat) :
      (g.setF MOD_START f v).on MOD_START MOD_START_SREC_DEF = g.on MOD_START MOD_START_SREC_DEF :=
    (congrArg (Fld.on _) (Shared.rd_setF_same ..)).trans (Fld.on_put_apart hf _ _)
  exact (hbit _ (by decide) _).trans ((hbit _ (by decide) _).trans (Shared.on_setB_same _ _ _ _ (by decide)))

end

end Sys2Proof.Machine
end

section
/-! The rows of the start sequence (R506, R509–R517, R596, R597). -/

namespace Sys2Proof.Machine

/-! ### Records that wait for the first epoch -/

/-- The shared part but for records that wait for the first epoch. -/
def Shared.waited (h g : Shared) : Prop := ∃ e, g = { h with start := { h.start with early := e } }

section
variable {h g f : Shared} (s : State)

theorem Shared.waited.refl (h : Shared) : h.waited h := ⟨_, rfl⟩

theorem Shared.waited.trans (hg : h.waited g) (hf : g.waited f) : h.waited f := by
  obtain ⟨e, rfl⟩ := hg
  obtain ⟨e', rfl⟩ := hf
  exact ⟨e', rfl⟩

theorem Shared.waited.bisque_eq (hg : h.waited g) : g.bisque = h.bisque := by
  obtain ⟨e, rfl⟩ := hg
  rfl

theorem Shared.waited.phase_eq (hg : h.waited g) : g.start.phase = h.start.phase := by
  obtain ⟨e, rfl⟩ := hg
  rfl

theorem Shared.waited.srec_eq (hg : h.waited g) : g.start.srec = h.start.srec := by
  obtain ⟨e, rfl⟩ := hg
  rfl

theorem State.sysRec_waited (code p0 p1 p2 p3 rank : Nat) : s.sh.waited (s.sysRec code p0 p1 p2 p3 rank).sh :=
  (State.sysRec_moved ..).shared

theorem State.addrRec_waited (a nsrc : Nat) : s.sh.waited (s.addrRec a nsrc).sh := by
  unfold State.addrRec
  split
  · exact State.sysRec_waited ..
  · exact .refl _

theorem State.laneBisque_waited (i : LaneId) : s.sh.waited (s.laneBisque i).sh := by
  unfold State.laneBisque
  split
  · exact .refl _
  · rw [State.upd_sh]
    exact (State.laneTo_moved ..).shared

/-- A record of the node before the first epoch. -/
theorem State.sysRec_of_early {s : State} (hepochs : s.sh.epochs = false) (code p0 p1 p2 p3 : Nat) : ∃ r : Rec, r.code = code ∧ r.p0 = w32 p0 ∧
    r.p1 = w32 p1 ∧ s.sysRec code p0 p1 p2 p3 = s.withSh (s.sh.setStart (fun t => { t with early := t.early ++ [r] })) := by
  refine ⟨{ code := code, cls := recClass code, time := s.sh.gt, p0 := w32 p0, p1 := w32 p1, p2 := w32 p2, p3 := w32 p3 }, rfl, rfl, rfl, ?_⟩
  rw [State.sysRec, hepochs]
  rfl

end

/-! ### STRAP_SAMPLE -/

/-- The strap levels are shown and step 3 begins. -/
def Shared.strapped (straps : BitVec 15) (h : Shared) : Shared :=
  (h.wr MOD_STRAP (straps.setWidth 32)).setStart (fun t => { t with phase := .evaluated, straps := straps.toNat })

theorem MOD_STRAP_BISQ_on (straps : BitVec 15) : MOD_STRAP_BISQ.on (straps.setWidth 32) = straps.getLsbD 5 := by
  have hlt := straps.isLt
  have hget : MOD_STRAP_BISQ.get (straps.setWidth 32) = straps.toNat / 32 % 2 := by
    rw [Fld.get, BitVec.toNat_ushiftRight, BitVec.toNat_setWidth, Nat.mod_eq_of_lt (show straps.toNat < 2 ^ 32 by omega), Nat.shiftRight_eq_div_pow]
    rfl
  rw [Fld.on, hget, BitVec.getLsbD, Nat.testBit_eq_decide_div_mod_eq]
  rcases Nat.mod_two_eq_zero_or_one (straps.toNat / 32) with hbit | hbit <;> simp [hbit]

theorem Shared.strapped_bisq (straps : BitVec 15) (h : Shared) :
    (h.strapped straps).on MOD_STRAP MOD_STRAP_BISQ = straps.getLsbD 5 := by
  have hrd : (h.strapped straps).rd MOD_STRAP = straps.setWidth 32 := Shared.rd_wr_same h MOD_STRAP _
  exact (congrArg MOD_STRAP_BISQ.on hrd).trans (MOD_STRAP_BISQ_on straps)

/-- Step 3: the reason to enter bisque mode, or 0. -/
def stepThreeReason (bisq : Bool) (fails : Nat) : Nat := if !bisq then 1 else if 3 ≤ fails then 2 else 0

/-- Step 3 is decided: bisque mode, or the write of the record begins. -/
def State.stepThree (reason : Nat) (s : State) : State :=
  if reason != 0 then s.bisqueEnter reason else s.withSh (s.sh.srecPut (fun r => { r with phase := 1 }))

section
variable {s : State} {straps : BitVec 15}

/-- Step 3: the start goes on, or bisque mode begins. -/
theorem State.strapSample_of_released (hphase : s.sh.start.phase = .released) : ∃ r : Rec, r.code = 0x0D01 ∧ r.p0 = w32 s.sh.start.cause ∧
    r.p1 = w32 s.sh.start.srec.fails ∧
    s.strapSample straps =
      (s.withSh ((s.sh.strapped straps).setStart (fun t => { t with early := t.early ++ [r] }))).stepThree
        (stepThreeReason (straps.getLsbD 5) s.sh.start.srec.fails) := by
  obtain ⟨r, hcode, hp0, hp1, hrec⟩ := State.sysRec_of_early (s := s.withSh (s.sh.strapped straps)) rfl 0x0D01 s.sh.start.cause
    s.sh.start.srec.fails ((s.sh.strapped straps).fld MOD_RSTCAUSE MOD_RSTCAUSE_PHASE_PREV) straps.toNat
  refine ⟨r, hcode, hp0, hp1, ?_⟩
  rw [State.strapSample, if_neg (by simp [hphase]), ← Shared.strapped_bisq straps s.sh]
  exact congrArg (State.stepThree _) hrec

end

/-! ### Bisque mode is entered -/

/-- Bisque mode with the domains of the drives off. -/
def Shared.bisqueMarked (h : Shared) : Shared := (upTo 3).foldl (fun h c => h.domSet (8 + c) false) { h with bisque := true, hold := false }

theorem Shared.bisqueMarked_effect (h : Shared) : h.bisqueMarked.start = h.start ∧ h.bisqueMarked.bisque = true :=
  List.foldlRecOn (motive := fun g : Shared => g.start = h.start ∧ g.bisque = true) _ _ ⟨rfl, rfl⟩ fun _ hg _ _ => hg

/-- The shared part as bisque mode is entered, with the reject codes of the slots. -/
def Shared.bisqueBegun (reason rejA rejB : Nat) (h : Shared) : Shared :=
  let g := h.setStart (fun t => { t with phase := .bisque, rejA := rejA, rejB := rejB, runAt := h.gt, resetDue := none })
  ((g.setF MOD_START MOD_START_NSTATE 2).setF MOD_START MOD_START_REASON reason).wr MOD_RUNTIME 0#32

/-- The record of an entry into bisque mode; PHASE is decided by step 3 only. -/
def SRec.bisqued (reason : Nat) (r : SRec) : SRec := { r with reason := reason, phase := if reason < 3 then 0 else r.phase }

theorem State.bisqueEnter_sh (reason : Nat) (s : State) : ∃ rejA rejB,
    ((s.sh.bisqueBegun reason rejA rejB).srecPut (SRec.bisqued reason)).bisqueMarked.waited (s.bisqueEnter reason).sh := by
  refine ⟨max (s.a.rejOf 0) (s.b.rejOf 0), max (s.a.rejOf 1) (s.b.rejOf 1), ?_⟩
  unfold State.bisqueEnter
  exact .trans (.trans (.trans (State.laneBisque_waited (s.withSh _) .A) (State.laneBisque_waited _ .B)) (State.addrRec_waited ..))
    (State.sysRec_waited ..)

theorem State.bisqueEnter_effect (reason : Nat) (s : State) : (s.bisqueEnter reason).sh.bisque = true ∧
    (s.bisqueEnter reason).sh.start.phase = .bisque ∧ (s.bisqueEnter reason).sh.start.srec.reason = reason ∧
    (reason < 3 → (s.bisqueEnter reason).sh.start.srec.phase = 0) := by
  obtain ⟨rejA, rejB, hwaited⟩ := s.bisqueEnter_sh reason
  obtain ⟨hstart, hbisque⟩ := ((s.sh.bisqueBegun reason rejA rejB).srecPut (SRec.bisqued reason)).bisqueMarked_effect
  have hput := ((s.sh.bisqueBegun reason rejA rejB).srecPut_effect (SRec.bisqued reason)).2
  obtain ⟨n, hsrec⟩ := hput.srec
  have hrecord : (s.bisqueEnter reason).sh.start.srec = _ := hwaited.srec_eq.trans ((congrArg StartHw.srec hstart).trans hsrec)
  refine ⟨hwaited.bisque_eq.trans hbisque, hwaited.phase_eq.trans ((congrArg StartHw.phase hstart).trans hput.phase),
    congrArg SRec.reason hrecord, fun hlt => (congrArg SRec.phase hrecord).trans (if_pos hlt)⟩

end Sys2Proof.Machine
end

section
/-! The rows of resets and of the start (R503–R517, R596, R597). -/

namespace Sys2Proof.Machine

section
variable {s : State}

theorem State.spoiled_of_idle (hidle : s.storeLane.xState ≠ 3) : s.spoiled = s.sh := by
  rw [State.spoiled, if_pos (by simpa using hidle)]

theorem State.resetBegin_powerOn_store (s : State) : (s.resetBegin 1).a.store = s.a.commitLast.store ∧
    (s.resetBegin 1).b.store = s.b.commitLast.store :=
  ⟨(Lane.nodeDown_kept _ s.a true).2, (Lane.nodeDown_kept _ s.b true).2⟩

theorem State.resetBegin_regs (cause : Nat) (s : State) :
    (s.resetBegin cause).sh.regs = if cause == 1 then .nil else s.sh.regsKept := rfl

/-- The shared registers after a reset other than POWER_ON. -/
theorem State.resetBegin_ext_rd (s : State) {k : Nat} (hk : k ∈ keepHouse) : (s.resetBegin 2).sh.rd k = s.sh.rd k := by
  rw [Shared.rd, State.resetBegin_regs, if_neg (by decide), Shared.regsKept_rd _ hk]

/-- The state with RESET_n asserted. -/
def State.rstAsserted (s : State) : State := s.withSh (s.sh.setStart (fun t => { t with rstn := true }))

theorem State.resetN_rd (s : State) {k : Nat} (hk : k ∈ keepHouse) : (s.rstAsserted.resetBegin 2).sh.rd k = s.sh.rd k :=
  (s.rstAsserted.resetBegin_ext_rd hk).trans (Shared.rd_of_regs_eq (Shared.setStart_regs ..) k)

theorem State.resetN_lane (s : State) (i : LaneId) : ∃ h, (s.rstAsserted.resetBegin 2).lane i = (s.lane i).nodeDown h false := by
  cases i
  · exact ⟨_, rfl⟩
  · exact ⟨_, rfl⟩

/-- A lane that the assertion of RESET_n brings to OFF. -/
theorem State.resetN_lane_effect (s : State) (i : LaneId) : ((s.rstAsserted.resetBegin 2).lane i).st = .off ∧
    ((s.rstAsserted.resetBegin 2).lane i).store = (s.lane i).commitLast.store ∧
    (∀ k, k ∈ aonKeys → ((s.rstAsserted.resetBegin 2).lane i).rd k = (s.lane i).rd k) ∧
    ((s.rstAsserted.resetBegin 2).lane i).led = (s.lane i).led := by
  obtain ⟨h, hlane⟩ := s.resetN_lane i
  rw [hlane]
  obtain ⟨hst, hstore⟩ := Lane.nodeDown_kept h (s.lane i) false
  exact ⟨hst, hstore, fun k hk => Lane.coreDown_rd h _ hk, rfl⟩

/-- A reset within a reset keeps the end of a supervisor reset and what the release has to do with time. -/
theorem State.resetBegin_again {cause : Nat} (hphase : s.sh.start.phase = .reset) (hsup : supervisorCause cause = false)
    (hpower : (cause == 1) = false) : (s.resetBegin cause).sh.start.supEnd = s.sh.start.supEnd ∧
    (s.resetBegin cause).sh.start.zero = s.sh.start.zero := by
  unfold State.resetBegin
  dsimp only
  rw [hphase, hsup, hpower]
  exact ⟨rfl, rfl⟩

/-- The registers that a change of the record leaves. -/
theorem Shared.srecPut_regs (h : Shared) (f : SRec → SRec) : (h.srecPut f).regs = (h.srecSet f).regs := by
  have hnow : (h.srecNow f).regs = (h.srecSet f).regs := by
    unfold Shared.srecNow
    dsimp only
    split
    · rfl
    · exact Shared.srecBegin_effect _ |>.1
  unfold Shared.srecPut
  split
  · rfl
  · dsimp only
    split
    · exact hnow
    · exact (Shared.setStart_regs ..).trans hnow

/-- FAILS and PHASE are shown as the record has them. -/
theorem Shared.srecPut_shown (h : Shared) (f : SRec → SRec) :
    (h.srecPut f).fld MOD_START MOD_START_FAILS = (f h.start.srec).fails % 4 ∧
    (h.srecPut f).fld MOD_START MOD_START_PHASE = (f h.start.srec).phase % 4 := by
  have hrd : (h.srecPut f).rd MOD_START =
      MOD_START_FAILS.put (f h.start.srec).fails (MOD_START_PHASE.put (f h.start.srec).phase (h.rd MOD_START)) :=
    (Shared.rd_of_regs_eq (h.srecPut_regs f) _).trans (Shared.rd_wr_same ..)
  refine ⟨(congrArg MOD_START_FAILS.get hrd).trans (Fld.get_put_same _ _ _ (by decide)), (congrArg MOD_START_PHASE.get hrd).trans ?_⟩
  rw [Fld.get_put_apart (by decide), Fld.get_put_same _ _ _ (by decide)]
  rfl

/-- 600 s of running clear FAILS with a record. -/
theorem State.failsCleared_of_due {i : LaneId} (hphase : s.sh.start.phase = .running) (hfails : s.sh.start.srec.fails ≠ 0)
    (hlate : s.sh.start.runAt + 600000000000 ≤ s.sh.gt) (hworking : (s.lane i).working = true) :
    ∃ g, g = s.sh.srecPut (fun r => { r with fails := 0 }) ∧
      s.failsCleared = (s.withSh g).working (fun l => l.record 0x0D03 g.gt 0#32 0#32 0#32 0#32) := by
  refine ⟨_, rfl, ?_⟩
  have hput := (s.sh.srecPut_effect (fun r => { r with fails := 0 })).2.phase
  rw [State.failsCleared, if_pos (by simp [hphase, hfails, hlate])]
  generalize s.sh.srecPut (fun r => { r with fails := 0 }) = g at hput ⊢
  have hepochs : g.epochs = true := by rw [Shared.epochs, hput, hphase]
  exact State.sysRec_of_working (s := s.withSh g) (i := i) hepochs (by rwa [State.withSh_lane]) ..

/-- CLK_ST once the synthesizers lock. -/
def clkLocked (w : Word) : Word :=
  CLK_ST_AHOLD.put 0 (CLK_ST_BHOLD.put 0 (CLK_ST_TREF_EN.put 1 (CLK_ST_REF_OK.put 1 (CLK_ST_INT.put 0 (CLK_ST_HLOCK.put 1
    (CLK_ST_ALOCK.put 1 (CLK_ST_BLOCK.put 1 w)))))))

theorem clkLocked_fields (w : Word) : CLK_ST_REF_OK.on (clkLocked w) = true ∧ CLK_ST_HLOCK.on (clkLocked w) = true ∧
    CLK_ST_ALOCK.on (clkLocked w) = true ∧ CLK_ST_BLOCK.on (clkLocked w) = true ∧ CLK_ST_INT.on (clkLocked w) = false ∧
    CLK_ST_AHOLD.on (clkLocked w) = false ∧ CLK_ST_BHOLD.on (clkLocked w) = false := by
  have hset {f : Fld} (hf : f.lo + f.width ≤ 32 ∧ f.width = 1) (w : Word) : f.on (f.put 1 w) = true := Fld.on_put_same f true w hf
  have hclear {f : Fld} (hf : f.lo + f.width ≤ 32 ∧ f.width = 1) (w : Word) : f.on (f.put 0 w) = false := Fld.on_put_same f false w hf
  unfold clkLocked
  refine ⟨?_, ?_, ?_, ?_, ?_, hclear (by decide) _, ?_⟩
  · rw [Fld.on_put_apart (by decide), Fld.on_put_apart (by decide), Fld.on_put_apart (by decide), hset (by decide)]
  · rw [Fld.on_put_apart (by decide), Fld.on_put_apart (by decide), Fld.on_put_apart (by decide), Fld.on_put_apart (by decide),
      Fld.on_put_apart (by decide), hset (by decide)]
  · rw [Fld.on_put_apart (by decide), Fld.on_put_apart (by decide), Fld.on_put_apart (by decide), Fld.on_put_apart (by decide),
      Fld.on_put_apart (by decide), Fld.on_put_apart (by decide), hset (by decide)]
  · rw [Fld.on_put_apart (by decide), Fld.on_put_apart (by decide), Fld.on_put_apart (by decide), Fld.on_put_apart (by decide),
      Fld.on_put_apart (by decide), Fld.on_put_apart (by decide), Fld.on_put_apart (by decide), hset (by decide)]
  · rw [Fld.on_put_apart (by decide), Fld.on_put_apart (by decide), Fld.on_put_apart (by decide), Fld.on_put_apart (by decide),
      hclear (by decide)]
  · rw [Fld.on_put_apart (by decide), hclear (by decide)]

theorem Shared.synthLock_of_running {h : Shared} (hphase : h.start.phase ≠ .reset) : h.synthLock = h.wr CLK_ST (clkLocked (h.rd CLK_ST)) := by
  rw [Shared.synthLock, if_neg (by simpa using hphase)]
  rfl

/-- What the release shows and begins. -/
theorem Shared.released_effect (h : Shared) {cause fails : Nat} (counted : Bool) (r x : SRec) (hcause : cause < 16) (hfails : fails < 4)
    (hphase : r.phase < 4) : ∃ g, (h.relStart.relShown cause fails counted r).relBegun x = g ∧
    h.regsBut [ MOD_RSTCAUSE, MOD_START, MOD_IDENT, MOD_SERIAL, PWR_SUP] g ∧
    g.start.phase = .released ∧ g.gt = (if h.start.zero then 0 else h.gt) ∧ g.start.relAt = g.gt ∧ g.start.srec = x ∧
    g.fld MOD_RSTCAUSE MOD_RSTCAUSE_CAUSE = cause ∧ g.on MOD_RSTCAUSE MOD_RSTCAUSE_COUNTED = counted ∧
    g.fld MOD_RSTCAUSE MOD_RSTCAUSE_PHASE_PREV = r.phase ∧ g.on MOD_START MOD_START_SREC_DEF = false ∧
    g.fld MOD_START MOD_START_FAILS = fails ∧ g.fld MOD_START MOD_START_PHASE = r.phase ∧
    g.fld MOD_IDENT MOD_IDENT_PART = 0x9624 ∧ g.rd MOD_SERIAL = Config.serial := by
  obtain ⟨hregs, hpart, hserial, -, hgt⟩ := h.relStart_effect
  generalize h.relStart = k at hregs hpart hserial hgt ⊢
  have hshown := k.relShown_regsBut cause fails counted r
  obtain ⟨hcauseF, hcountedF, hprevF⟩ := k.relShown_cause cause fails counted r
  obtain ⟨hdefF, hfailsF, hphaseF⟩ := k.relShown_record cause fails counted r
  refine ⟨_, rfl, ?_, rfl, hgt, rfl, rfl, hcauseF.trans (Nat.mod_eq_of_lt hcause), hcountedF, hprevF.trans (Nat.mod_eq_of_lt hphase), hdefF,
    hfailsF.trans (Nat.mod_eq_of_lt hfails), hphaseF.trans (Nat.mod_eq_of_lt hphase), (hshown.fld (by decide) (by decide) _).trans hpart,
    (hshown _ (by decide) (by decide)).trans hserial⟩
  exact ((hregs.mono (by simp)).trans (hshown.mono (by simp))).trans (Shared.regsBut_of_regs_eq _ rfl)

/-- The copy of the record that is written next. -/
def Shared.srecNext (h : Shared) : Nat :=
  match h.srecUsed with
  | some (c, _) => 1 - c
  | none => 0

theorem Shared.srecDone_of_writing {h : Shared} {r : SRec} (hwriting : h.start.writing = some r) (hagain : h.start.again = false) :
    h.srecDone = (h.norWrite (srecAddr h.srecNext) r.bytes).setStart (fun t => { t with writing := none }) := by
  have hrest : (h.norWrite (srecAddr h.srecNext) r.bytes).start.again = false :=
    (congrArg StartHw.again (h.norWrite_regs (srecAddr h.srecNext) r.bytes).2.1).trans hagain
  rw [Shared.srecDone, hwriting]
  exact if_neg (fun h => Bool.false_ne_true (hrest.symm.trans h))

theorem State.release_of_early (hearly : s.sh.gt < s.sh.start.supEnd) : s.release = s := by
  rw [State.release, if_pos (by simp [hearly])]

/-- A release after a reset that counts no start. -/
theorem State.release_clean {c : Nat} {r : SRec} (hphase : s.sh.start.phase = .reset)
    (hcause : s.sh.start.cause < 3 ∨ 5 < s.sh.start.cause) (hcause' : s.sh.start.cause < 16) (hend : s.sh.start.supEnd ≤ s.sh.gt)
    (hused : s.sh.srecUsed = some (c, r)) (hfails : r.fails < 4) (hrphase : r.phase < 4) : ∃ g, s.release = s.withSh g ∧
    s.sh.regsBut [ MOD_RSTCAUSE, MOD_START, MOD_IDENT, MOD_SERIAL, PWR_SUP] g ∧
    g.start.phase = .released ∧ g.gt = (if s.sh.start.zero then 0 else s.sh.gt) ∧ g.start.relAt = g.gt ∧ g.start.srec = r ∧
    g.fld MOD_RSTCAUSE MOD_RSTCAUSE_CAUSE = s.sh.start.cause ∧ g.on MOD_RSTCAUSE MOD_RSTCAUSE_COUNTED = false ∧
    g.fld MOD_RSTCAUSE MOD_RSTCAUSE_PHASE_PREV = r.phase ∧ g.on MOD_START MOD_START_SREC_DEF = false ∧
    g.fld MOD_START MOD_START_FAILS = r.fails ∧ g.fld MOD_START MOD_START_PHASE = r.phase ∧
    g.fld MOD_IDENT MOD_IDENT_PART = 0x9624 ∧ g.rd MOD_SERIAL = Config.serial := by
  have hcounted : s.sh.relCounted r = false := by
    simp only [Shared.relCounted, supervisorCause, Bool.and_eq_false_iff, decide_eq_false_iff_not]
    omega
  have hsame : s.sh.relFails r = r.fails := if_neg (by rw [hcounted]; decide)
  have hrow := State.release_of_record hphase hend hused
  obtain ⟨g, hg, heffect⟩ := s.sh.released_effect false r r hcause' hfails hrphase
  rw [hsame, hcounted, hg] at hrow
  exact ⟨g, hrow, heffect⟩

/-- A release after a supervisor reset in phase 1 or 2 counts a failed start. -/
theorem State.release_counted {c : Nat} {r : SRec} (hphase : s.sh.start.phase = .reset) (hlow : 3 ≤ s.sh.start.cause)
    (hhigh : s.sh.start.cause ≤ 5) (hend : s.sh.start.supEnd ≤ s.sh.gt) (hused : s.sh.srecUsed = some (c, r))
    (hr : r.phase = 1 ∨ r.phase = 2) : ∃ g, s.release = s.withSh g ∧ g.start.phase = .released ∧ g.start.srec.fails = min 3 (r.fails + 1) ∧
    g.on MOD_RSTCAUSE MOD_RSTCAUSE_COUNTED = true ∧ g.fld MOD_START MOD_START_FAILS = min 3 (r.fails + 1) := by
  have hcounted : s.sh.relCounted r = true := by
    simp only [Shared.relCounted, supervisorCause, Bool.and_eq_true, Bool.or_eq_true, decide_eq_true_eq, beq_iff_eq]
    omega
  have hfails : s.sh.relFails r = min 3 (r.fails + 1) := if_pos hcounted
  have hrow := State.release_of_record hphase hend hused
  obtain ⟨g, hg, -, hreleased, -, -, hsrec, -, hcountedF, -, -, hfailsF, -⟩ :=
    s.sh.released_effect (cause := s.sh.start.cause) (fails := min 3 (r.fails + 1)) true r { r with fails := min 3 (r.fails + 1) }
      (by omega) (by omega) (by omega)
  rw [hfails, hcounted, hg] at hrow
  exact ⟨g, hrow, hreleased, congrArg SRec.fails hsrec, hcountedF, hfailsF⟩

/-- Step 3 without a reason for bisque mode. -/
theorem State.strapSample_start {straps : BitVec 15} (hphase : s.sh.start.phase = .released) (hbisq : straps.getLsbD 5 = true)
    (hfails : s.sh.start.srec.fails < 3) : ∃ g, s.strapSample straps = s.withSh g ∧ s.sh.regsBut [ MOD_STRAP, MOD_START] g ∧
    g.rd MOD_STRAP = straps.setWidth 32 ∧ g.start.phase = .evaluated ∧ g.start.srec.phase = 1 ∧ g.start.writing.isSome = true ∧
    ∃ r : Rec, g.start.early = s.sh.start.early ++ [r] ∧ r.code = 0x0D01 ∧ r.p0 = w32 s.sh.start.cause ∧
      r.p1 = w32 s.sh.start.srec.fails := by
  obtain ⟨r, hcode, hp0, hp1, hrow⟩ := State.strapSample_of_released (straps := straps) hphase
  have hreason : stepThreeReason (straps.getLsbD 5) s.sh.start.srec.fails = 0 := by
    rw [stepThreeReason, hbisq]
    simp [hfails]
  rw [hreason] at hrow
  have hstrap : s.sh.regsBut [ MOD_STRAP, MOD_START] ((s.sh.strapped straps).setStart (fun t => { t with early := t.early ++ [r] })) :=
    ((Shared.regsBut.refl _ s.sh).wr (k := MOD_STRAP) (by decide) (by simp) (straps.setWidth 32)).trans (Shared.regsBut_of_regs_eq _ rfl)
  obtain ⟨hregs, hput⟩ := ((s.sh.strapped straps).setStart (fun t => { t with early := t.early ++ [r] })).srecPut_effect
    (fun r => { r with phase := 1 })
  obtain ⟨n, hsrec⟩ := hput.srec
  exact ⟨_, hrow, hstrap.trans (hregs.mono (by simp)), (hregs _ (by decide) (by decide)).trans (Shared.rd_wr_same s.sh MOD_STRAP _),
    hput.phase, congrArg SRec.phase hsrec, hput.writing, r, hput.early, hcode, hp0, hp1⟩

/-- Step 3 with a reason for bisque mode. -/
theorem State.strapSample_bisque {straps : BitVec 15} (hphase : s.sh.start.phase = .released)
    (hwhy : straps.getLsbD 5 = false ∨ 3 ≤ s.sh.start.srec.fails) : (s.strapSample straps).sh.bisque = true ∧
    (s.strapSample straps).sh.start.phase = .bisque ∧ (s.strapSample straps).sh.start.srec.reason = (if straps.getLsbD 5 then 2 else 1) ∧
    (s.strapSample straps).sh.start.srec.phase = 0 := by
  obtain ⟨r, -, -, -, hrow⟩ := State.strapSample_of_released (straps := straps) hphase
  have hreason : stepThreeReason (straps.getLsbD 5) s.sh.start.srec.fails = (if straps.getLsbD 5 then 2 else 1) := by
    unfold stepThreeReason
    rcases hwhy with hbisq | hfails
    · rw [hbisq]
      rfl
    · rw [if_pos hfails]
      cases straps.getLsbD 5 <;> rfl
  have hlow : (if straps.getLsbD 5 then 2 else 1) < 3 := by split <;> decide
  have hpos : ((if straps.getLsbD 5 then 2 else 1) != 0) = true := by split <;> rfl
  rw [hreason, State.stepThree, if_pos hpos] at hrow
  rw [hrow]
  obtain ⟨hbisque, hentered, hreasonF, hphaseF⟩ := State.bisqueEnter_effect (if straps.getLsbD 5 then 2 else 1)
    (s.withSh ((s.sh.strapped straps).setStart (fun t => { t with early := t.early ++ [r] })))
  exact ⟨hbisque, hentered, hreasonF, hphaseF hlow⟩

theorem State.deadline_of_late
    (hphase : s.sh.start.phase ∈ [Phase.released, .strapped, .evaluated, .fired, .waiting, .authority])
    (hlate : s.sh.start.relAt + 5000000000 ≤ s.sh.gt) : s.deadline = s.resetNext 3 := by
  unfold State.deadline
  dsimp only
  split
  case h_5 => exact if_pos hlate
  all_goals
    rename_i hother
    rw [hother] at hphase
    exact absurd hphase (by decide)

/-- A transfer starts again with round 0 shown and the retry counted. -/
theorem Shared.stxRetried_effect (src : Lane) (h : Shared) : h.regsBut [ MOD_STX] ((h.stxRound0 src).bump MOD_STX MOD_STX_RETRIES) ∧
    ((h.stxRound0 src).bump MOD_STX MOD_STX_RETRIES).fld MOD_STX MOD_STX_ROUND = 0 ∧
    ((h.stxRound0 src).bump MOD_STX MOD_STX_RETRIES).fld MOD_STX MOD_STX_RETRIES = min 255 (h.fld MOD_STX MOD_STX_RETRIES + 1) := by
  have hround : h.regsBut [ MOD_STX] (h.stxRound0 src) := (Shared.regsBut_of_regs_eq _ (by rfl)).setF (by decide) (by simp) _ _
  refine ⟨hround.setF (by decide) (by simp) _ _, ?_, ?_⟩
  · exact (Shared.fld_setF_field _ _ _ _ _ (by decide)).trans (Shared.fld_setF_same _ _ _ _ (by decide))
  · refine (Shared.fld_bump_same _ _ _ (by decide)).trans ?_
    rw [show (h.stxRound0 src).fld MOD_STX MOD_STX_RETRIES = h.fld MOD_STX MOD_STX_RETRIES from
      (Shared.fld_setF_field _ _ _ _ _ (by decide)).trans (Shared.fld_setStart ..)]
    rfl

end

/-- Settles O50: a reset rebuilds the state from what it keeps, the release shows the record it reads, and each later row is one change
of the start logic. -/
theorem resetAndStartRows : Obligations.ResetAndStartRows := by
  refine ⟨fun s => ?powerOn, fun s i => ?ext, fun s c r hphase hcause hcause' hend hused hfails hrphase => ?release,
    fun s hearly => congrArg Host.Outcome.next (State.release_of_early hearly),
    fun s c r hphase hlow hhigh hzero hend hused hr => ?supervisor, fun straps s hphase hbisq hfails => ?straps,
    fun straps s hphase hwhy => ?bisque, fun s hphase => ?lock, fun s hphase => ?reference, fun r s hwriting hagain => ?written,
    fun s hphase hlate => ?waited, fun s hphase hlate hbisque => ?deadline, fun s hphase hstable hlate => ?stable,
    fun s i hphase hfails hlate hworking => ?cleared, fun s u hstx hlate => ?transfer⟩
  case powerOn =>
    obtain ⟨hstoreA, hstoreB⟩ := s.resetBegin_powerOn_store
    exact ⟨_, rfl, rfl, rfl, rfl, rfl, fun hidle => (congrArg Shared.nor (State.spoiled_of_idle hidle) :), rfl, rfl, rfl, hstoreA, hstoreB, rfl, rfl,
      rfl⟩
  case ext =>
    obtain ⟨hst, hstore, hrd, hled⟩ := s.resetN_lane_effect i
    exact ⟨_, rfl, hst, rfl, rfl, rfl, rfl, rfl, rfl, hstore, hrd, hled, fun hreset => State.resetBegin_again (s := s.rstAsserted) hreset rfl rfl,
      fun k hk => s.resetN_rd hk⟩
  case release =>
    obtain ⟨g, hrow, heffect⟩ := State.release_clean hphase hcause hcause' hend hused hfails hrphase
    exact ⟨_, congrArg Host.Outcome.next hrow, ⟨rfl, rfl, rfl, rfl⟩, heffect⟩
  case supervisor =>
    obtain ⟨g, hrow, heffect⟩ := State.release_counted hphase hlow hhigh hend hused hr
    exact ⟨_, congrArg Host.Outcome.next hrow, ⟨rfl, rfl, rfl, rfl⟩, heffect⟩
  case straps =>
    obtain ⟨g, hrow, heffect⟩ := State.strapSample_start hphase hbisq hfails
    exact ⟨_, congrArg Host.Outcome.next hrow, ⟨rfl, rfl, rfl, rfl⟩, heffect⟩
  case bisque => exact ⟨_, rfl, State.strapSample_bisque hphase hwhy⟩
  case lock =>
    have hon (f : Fld) : (s.sh.wr CLK_ST (clkLocked (s.sh.rd CLK_ST))).on CLK_ST f = f.on (clkLocked (s.sh.rd CLK_ST)) :=
      congrArg f.on (Shared.rd_wr_same ..)
    have hrow : exec .synthLock s = .next (s.withSh (s.sh.wr CLK_ST (clkLocked (s.sh.rd CLK_ST)))) :=
      congrArg (fun h => Host.Outcome.next (s.withSh h)) (Shared.synthLock_of_running hphase)
    refine ⟨_, hrow, ⟨rfl, rfl, rfl, rfl⟩, (Shared.regsBut.refl _ s.sh).wr (by decide) (by simp) _, ?_⟩
    simp only [State.withSh_sh, hon]
    exact clkLocked_fields _
  case reference =>
    have hrow : exec .clkrefGood s = .next (s.withSh (s.sh.setB CLK_ST CLK_ST_REF_OK true)) :=
      congrArg Host.Outcome.next (if_neg (by simpa using hphase))
    exact ⟨_, hrow, ⟨rfl, rfl, rfl, rfl⟩, (Shared.regsBut.refl _ s.sh).setB (by decide) (by simp) _ _, Shared.on_setB_same _ _ _ _ (by decide)⟩
  case written =>
    exact ⟨_, congrArg (fun h => Host.Outcome.next (s.withSh h)) (Shared.srecDone_of_writing hwriting hagain), ⟨rfl, rfl, rfl, rfl⟩,
      (s.sh.norWrite_regs _ _).1, rfl, rfl⟩
  case waited =>
    exact ⟨_, congrArg Host.Outcome.next (if_pos (by simp [hphase, hlate])), ⟨rfl, rfl, rfl, rfl⟩, rfl, rfl⟩
  case deadline =>
    have hrow : s.deadline = s.withSh (s.sh.setStart (fun t => { t with resetDue := some (t.resetDue.getD 3) })) :=
      (State.deadline_of_late hphase hlate).trans (if_neg (by simp [hbisque]))
    exact ⟨_, congrArg Host.Outcome.next hrow, ⟨rfl, rfl, rfl, rfl⟩, rfl, rfl⟩
  case stable =>
    obtain ⟨hregs, hput⟩ := s.sh.srecPut_effect (fun r => { r with phase := 3 })
    obtain ⟨n, hsrec⟩ := hput.srec
    refine ⟨_, congrArg Host.Outcome.next (if_pos (by simp [hphase, hstable, hlate])), ⟨rfl, rfl, rfl, rfl⟩,
      hregs.trans (Shared.regsBut_of_regs_eq _ rfl), congrArg SRec.phase hsrec, rfl, ?_, hput.writing⟩
    exact (s.sh.srecPut_shown (fun r => { r with phase := 3 })).2
  case cleared =>
    obtain ⟨hregs, hput⟩ := s.sh.srecPut_effect (fun r => { r with fails := 0 })
    obtain ⟨hshown, -⟩ := s.sh.srecPut_shown (fun r => { r with fails := 0 })
    obtain ⟨n, hsrec⟩ := hput.srec
    obtain ⟨g, hg, hrow⟩ := State.failsCleared_of_due hphase hfails hlate hworking
    rw [← hg] at hregs hsrec hshown
    refine ⟨_, congrArg Host.Outcome.next hrow, hregs, ?_⟩
    rw [State.working_lane_of_working (s := s.withSh g) (by rwa [State.withSh_lane]), State.withSh_lane]
    exact ⟨rfl, congrArg SRec.fails hsrec, hshown, _, rfl, rfl⟩
  case transfer =>
    have hrow : s.stxTimeout = s.withSh ((s.sh.stxRound0 (if s.a.st = .active then s.a else s.b)).bump MOD_STX MOD_STX_RETRIES) := by
      rw [State.stxTimeout, hstx]
      dsimp only
      rw [if_pos hlate, State.stxRetry, if_neg (by simp [hstx])]
      simp only [beq_iff_eq]
    obtain ⟨hregs, hround, hretries⟩ := s.sh.stxRetried_effect (if s.a.st = .active then s.a else s.b)
    refine ⟨_, congrArg Host.Outcome.next hrow, ⟨rfl, rfl, rfl, rfl⟩, hregs, rfl, rfl, rfl, rfl, hround, hretries⟩

end Sys2Proof.Machine
end

section
/-! Firing of a lane and the comparison of firing results (R485, R486, R492, R493, R314). -/

namespace Sys2Proof.Machine

/-! ### What a transition leaves of the firing work -/

section
variable (s : State) (i j : LaneId)

theorem State.sysRec_fire (code p0 p1 p2 p3 rank : Nat) : ((s.sysRec code p0 p1 p2 p3 rank).lane j).fire = (s.lane j).fire := by
  unfold State.sysRec
  split
  · rw [State.working_lane]
    split <;> rfl
  · rw [State.withSh_lane]

theorem Lane.showState_fire (auth : Option LaneId) (hold : Bool) (o l : Lane) : (Lane.showState auth hold o l).fire = l.fire := by
  obtain h | ⟨w, h⟩ := Lane.showState_cases auth hold o l <;> rw [h]
  rfl

theorem Lane.stepWith_fire (o l : Lane) : (Lane.stepWith o l).fire = l.fire := by
  obtain ⟨v, h⟩ := Lane.stepWith_cases o l
  rw [h]

theorem State.laneEvent_fire : (s.laneEvent.lane j).fire = (s.lane j).fire := by
  rw [State.laneEvent, State.onLanes_lane]
  split <;> rfl

theorem State.laneSay_fire (old : Lane) (row outcome : Nat) : ((s.laneSay i old row outcome).lane j).fire = (s.lane j).fire :=
  (State.laneEvent_fire _ j).trans (State.sysRec_fire ..)

theorem State.laneTo_fire (st : LaneSt) (instep : Bool) (row outcome : Nat) :
    ((s.laneTo i st instep row outcome).lane j).fire = (s.lane j).fire := by
  obtain ⟨h, -⟩ | h := s.laneTo_cases i st instep row outcome <;> rw [h]
  rw [State.laneSay_fire, State.sysSync_lane, Lane.showState_fire, State.stepSync_lane, Lane.stepWith_fire]
  cases i <;> cases j <;> rfl

theorem State.sysRec_st (code p0 p1 p2 p3 rank : Nat) : ((s.sysRec code p0 p1 p2 p3 rank).lane j).st = (s.lane j).st :=
  (State.sysRec_sameDiscipline ..).st

end

/-! ### The strap that prefers a lane -/

/-- Lane B is preferred. -/
def Shared.prefersB (h : Shared) : Bool := h.on MOD_STRAP MOD_STRAP_LANE

section
variable (h : Shared)

theorem Shared.prefersB_of_regsBut {ks : List Nat} {h g : Shared} (hg : h.regsBut ks g) (hks : MOD_STRAP ∉ ks) : g.prefersB = h.prefersB :=
  Shared.on_of_rd_eq (hg _ (by decide) hks) _

theorem Shared.detResume_regs (l : Lane) : (h.detResume l).regs = h.regs := by
  refine List.foldlRecOn (motive := fun g : Shared => g.regs = h.regs) _ _ rfl fun g hg b _ => ?_
  split
  · exact hg
  · exact hg

theorem Shared.diRestart_regs (t : Nat) (ns : List Nat) : (h.diRestart t ns).regs = h.regs :=
  List.foldlRecOn (motive := fun g : Shared => g.regs = h.regs) _ _ rfl fun _ hg _ _ => hg

theorem Shared.dioFired_regsBut : h.regsBut ((upTo 32).map DO_ST) h.dioFired := by
  refine List.foldlRecOn (motive := fun g : Shared => h.regsBut ((upTo 32).map DO_ST) g) _ _
    (Shared.regsBut_of_regs_eq _ (h.diRestart_regs _ _)) fun g hg n hn => ?_
  exact hg.setF (by have := List.mem_range.mp hn; unfold DO_ST; omega) (List.mem_map_of_mem hn) _ _

/-- The shared stages that a lane fired takes over keep the strap. -/
theorem Shared.fired_prefersB (r : FireRes) (l : Lane) : ((h.ringFire r).detResume l).dioFired.prefersB = h.prefersB :=
  ((Shared.prefersB_of_regsBut (Shared.dioFired_regsBut _) (by decide)).trans
    (Shared.prefersB_of_regsBut (Shared.regsBut_of_regs_eq [] (Shared.detResume_regs _ l)) (by decide))).trans
    (Shared.prefersB_of_regsBut ((Shared.regsBut.refl [RING_CFG] h).wr (by decide) (by simp) _) (by decide))

end

/-! ### An accepted slot is taken into service -/

section
variable (s : State) (i : LaneId) (r : FireRes)

/-- The preferred lane of the strap. -/
def Shared.preferred (h : Shared) : LaneId := if h.prefersB then .B else .A

theorem State.addrRec_lane (a nsrc : Nat) (j : LaneId) : ((s.addrRec a nsrc).lane j).st = (s.lane j).st ∧
    ((s.addrRec a nsrc).lane j).fire = (s.lane j).fire := by
  unfold State.addrRec
  split
  · exact ⟨State.sysRec_st .., State.sysRec_fire ..⟩
  · exact ⟨rfl, rfl⟩

theorem Lane.addrEvent_kept (l : Lane) : l.addrEvent.st = l.st ∧ l.addrEvent.fire = l.fire := by
  unfold Lane.addrEvent
  split <;> exact ⟨rfl, rfl⟩

/-- Step 4 of the start ends with the first lane in service. -/
def State.firedPhase (s : State) : State :=
  if s.sh.start.phase == .evaluated then s.withSh (s.sh.setStart (fun t => { t with phase := .fired })) else s

theorem State.firedPhase_lane (j : LaneId) : s.firedPhase.lane j = s.lane j := by
  unfold State.firedPhase
  split
  · exact State.withSh_lane ..
  · rfl

theorem State.firedPhase_prefersB : s.firedPhase.sh.prefersB = s.sh.prefersB := by
  unfold State.firedPhase
  split <;> rfl

/-- The node with an ACTIVE lane whose slot is loaded: the address, and the record of the firing. -/
def State.fireSaid (i : LaneId) (r : FireRes) (s : State) : State :=
  let s := (s.upd i Lane.addrEvent).addrRec (s.lane i).nodeAddr ((s.lane i).fld TIME_CFG TIME_CFG_NSRC)
  s.sysRec 0x0C01 r.slot r.id.toNat (min 512 r.ents.length) (repCrc r.ents).toNat

theorem State.fireSaid_lane (j : LaneId) : ((s.fireSaid i r).lane j).st = (s.lane j).st ∧ ((s.fireSaid i r).lane j).fire = (s.lane j).fire := by
  have hupd : ((s.upd i Lane.addrEvent).lane j).st = (s.lane j).st ∧ ((s.upd i Lane.addrEvent).lane j).fire = (s.lane j).fire := by
    rcases i with _ | _ <;> rcases j with _ | _
    exacts [Lane.addrEvent_kept _, ⟨rfl, rfl⟩, ⟨rfl, rfl⟩, Lane.addrEvent_kept _]
  have haddr := State.addrRec_lane (s.upd i Lane.addrEvent) (s.lane i).nodeAddr ((s.lane i).fld TIME_CFG TIME_CFG_NSRC) j
  exact ⟨(State.sysRec_st ..).trans (haddr.1.trans hupd.1), (State.sysRec_fire ..).trans (haddr.2.trans hupd.2)⟩

theorem State.fireSaid_prefersB : (s.fireSaid i r).sh.prefersB = s.sh.prefersB := by
  have hwaited : s.sh.waited (s.fireSaid i r).sh :=
    .trans (State.upd_sh s i Lane.addrEvent ▸ State.addrRec_waited (s.upd i Lane.addrEvent) _ _) (State.sysRec_waited ..)
  obtain ⟨e, he⟩ := hwaited
  rw [he]
  rfl

/-- The state in which a lane with a loaded slot becomes ACTIVE. -/
def State.slotTaken (i : LaneId) (r : FireRes) (s : State) : State :=
  let u := s.upd i (Lane.loadSlot s.sh s.sh.gt r)
  (u.withSh (((u.sh.ringFire r).detResume (u.lane i)).dioFired)).laneTo i .active false 4 0

theorem State.slotTaken_effect : ((s.slotTaken i r).lane i).st = .active ∧ ((s.slotTaken i r).lane i.other).st = (s.lane i.other).st ∧
    ((s.slotTaken i r).lane i.other).fire = (s.lane i.other).fire ∧ (s.slotTaken i r).sh.prefersB = s.sh.prefersB := by
  refine ⟨State.laneTo_st .., (State.laneTo_other_st ..).trans ?_, (State.laneTo_fire ..).trans ?_, ?_⟩
  · rw [State.withSh_lane, State.upd_lane_other]
  · rw [State.withSh_lane, State.upd_lane_other]
  · refine (Shared.on_of_rd_eq (Shared.rd_of_regs_eq (State.laneTo_moved ..).sharedRegs _) _).trans ?_
    refine (Shared.fired_prefersB _ r _).trans ?_
    rw [State.upd_sh]

/-- The lane with authority to come, after its slot is loaded. -/
theorem State.fireDone_active (hfirst : (s.lane i.other).st ≠ .active) (hpref : s.sh.preferred = i) :
    s.fireDone i r = (s.slotTaken i r).firedPhase.fireSaid i r := by
  have hnot : ((if s.sh.on MOD_STRAP MOD_STRAP_LANE then LaneId.B else LaneId.A) == i.other) = false := by
    rw [show (if s.sh.on MOD_STRAP MOD_STRAP_LANE then LaneId.B else LaneId.A) = i from hpref]
    cases i <;> rfl
  have hactive : ((s.lane i.other).st != .active &&
      !((if s.sh.on MOD_STRAP MOD_STRAP_LANE then LaneId.B else LaneId.A) == i.other && (s.lane i.other).st == .firing)) = true := by
    rw [hnot]
    simpa using hfirst
  unfold State.fireDone
  dsimp only
  rw [hactive]
  rfl

theorem State.fireDone_active_effect (hfirst : (s.lane i.other).st ≠ .active) (hpref : s.sh.preferred = i) :
    ((s.fireDone i r).lane i).st = .active ∧ ((s.fireDone i r).lane i.other).st = (s.lane i.other).st ∧
    ((s.fireDone i r).lane i.other).fire = (s.lane i.other).fire ∧ (s.fireDone i r).sh.prefersB = s.sh.prefersB := by
  obtain ⟨hst, host, hofire, hpb⟩ := s.slotTaken_effect i r
  have hsaid := State.fireSaid_lane (s.slotTaken i r).firedPhase i r
  rw [State.fireDone_active s i r hfirst hpref]
  refine ⟨(hsaid i).1.trans ?_, (hsaid i.other).1.trans ?_, (hsaid i.other).2.trans ?_, (State.fireSaid_prefersB ..).trans ?_⟩
  · rw [State.firedPhase_lane, hst]
  · rw [State.firedPhase_lane, host]
  · rw [State.firedPhase_lane, hofire]
  · rw [State.firedPhase_prefersB, hpb]

/-- The second lane, after its slot is loaded. -/
theorem State.fireDone_shadow (hsecond : (s.lane i.other).st = .active) :
    ((s.fireDone i r).lane i).st = .shadow ∧ ((s.fireDone i r).lane i.other).st = .active := by
  unfold State.fireDone
  dsimp only
  have hactive : ((s.lane i.other).st != .active &&
      !((if s.sh.on MOD_STRAP MOD_STRAP_LANE then LaneId.B else LaneId.A) == i.other && (s.lane i.other).st == .firing)) = false := by
    rw [hsecond]
    rfl
  rw [hactive]
  simp only [Bool.false_eq_true, if_false]
  refine ⟨State.laneTo_st .., (State.laneTo_other_st ..).trans ?_⟩
  rw [State.upd_lane_other, hsecond]

end

end Sys2Proof.Machine
end

section
/-! FIRING_COMPLETE and FIRING_RESULT_COMPARE (R485, R486, R492). -/

namespace Sys2Proof.Machine

/-! ### The report and a slot that is tried -/

section
variable (src : Nat) (es : List RepEntry) (l : Lane)

theorem Lane.setReport_regsBut : l.regsBut [CFG_REP, CFG_REPCRC] (l.setReport src es) :=
  (((Lane.regsBut.refl _ l).wr (by decide) (by simp) _).wr (by decide) (by simp) _).setFire _

theorem Lane.setReport_crc : (l.setReport src es).rd CFG_REPCRC = repCrc es :=
  (Lane.rd_of_regs_eq (Lane.setFire_regs ..) _).trans (Lane.rd_wr_same ..)

theorem Lane.setReport_src (hsrc : src < 4) : (l.setReport src es).fld CFG_REP CFG_REP_SRC = src := by
  have hrd : (l.setReport src es).rd CFG_REP = CFG_REP_REJECTED.put (es.any (fun e => e.kind == 3)).toNat
      (CFG_REP_ENTRIES.put (min 512 es.length) (CFG_REP_OVF.put (decide (512 < es.length)).toNat (CFG_REP_SRC.put src 0#32))) :=
    (Lane.rd_of_regs_eq (Lane.setFire_regs ..) _).trans ((Lane.rd_wr_ne _ _ _ _ (by decide)).trans (Lane.rd_wr_same ..))
  refine (congrArg CFG_REP_SRC.get hrd).trans ?_
  rw [Fld.get_put_apart (by decide), Fld.get_put_apart (by decide), Fld.get_put_apart (by decide), Fld.get_put_same _ _ _ (by decide)]
  exact Nat.mod_eq_of_lt hsrc

theorem Lane.targetBad_effect {t : Nat} (ht : t < 4) (code : Nat) : l.regsBut [CFG_TGT t] (l.targetBad t code) ∧
    (l.targetBad t code).fld (CFG_TGT t) CFG_TGT_CHECK = 2 :=
  ⟨(Lane.regsBut.refl _ l).wr (CFG_TGT_lt ht).1 (by simp) _, (Lane.fld_wr_same ..).trans (Fld.get_put_same _ _ _ (by decide))⟩

end

/-- The slot that a lane tries first (R485). -/
def firstSlot (pref : Nat) : Nat := if pref = 0 then 0 else 1

theorem firstSlot_lt (pref : Nat) : firstSlot pref < 4 := by
  unfold firstSlot
  split <;> decide

theorem slotOrder_first (pref : Nat) : (slotOrder pref).find? (fun t => !([] : List (Nat × RepEntry)).any (fun x => x.1 == t)) =
    some (firstSlot pref) := by
  unfold slotOrder firstSlot
  split <;> rfl

section
variable {h : Shared} {l : Lane} {es : List RepEntry}

/-- A lane with an accepted slot. -/
def Lane.slotAccepted (h : Shared) (k : Nat) (es : List RepEntry) (l : Lane) : Lane :=
  (l.setReport 0 es).setFire (fun f => { f with res := some ⟨k, (h.image k).id, (h.image k).build, es, true, []⟩ })

/-- A lane with its first slot rejected. -/
def Lane.slotRefused (k : Nat) (e : RepEntry) (l : Lane) : Lane :=
  ((l.setReport 0 [e]).targetBad k e.given.toNat).setFire (fun f => { f with rejs := f.rejs ++ [(k, e)] })

theorem Lane.fireSlot_accepted {w : Wst} (hrejs : l.fire.rejs = [])
    (htry : h.trySlot l.regs (firstSlot h.start.srec.pref) = (es, some w)) :
    l.fireSlot h = (l.slotAccepted h (firstSlot h.start.srec.pref) es, none) := by
  rw [Lane.fireSlot, hrejs, slotOrder_first]
  dsimp only
  rw [htry]
  rfl

theorem Lane.fireSlot_refused {e : RepEntry} (hrejs : l.fire.rejs = [])
    (htry : h.trySlot l.regs (firstSlot h.start.srec.pref) = ([e], none)) :
    l.fireSlot h = (l.slotRefused (firstSlot h.start.srec.pref) e, some (firstSlot h.start.srec.pref, e)) := by
  have hlen : (l.slotRefused (firstSlot h.start.srec.pref) e).fire.rejs.length < 2 := by
    rw [show (l.slotRefused (firstSlot h.start.srec.pref) e).fire.rejs = l.fire.rejs ++ [(firstSlot h.start.srec.pref, e)] from rfl, hrejs]
    exact Nat.lt_succ_self 1
  rw [Lane.fireSlot, hrejs, slotOrder_first]
  dsimp only
  rw [htry]
  exact congrArg (fun m => (m, some (firstSlot h.start.srec.pref, e))) (if_pos hlen)

end

section
variable {s : State} {i : LaneId}

theorem State.firingComplete_accepted {es : List RepEntry} {w : Wst} (hst : (s.lane i).st = .firing) (hres : (s.lane i).fire.res = none)
    (hrejs : (s.lane i).fire.rejs = []) (host : (s.lane i.other).st = .firing) (hores : (s.lane i.other).fire.res = none)
    (htry : s.sh.trySlot (s.lane i).regs (firstSlot s.sh.start.srec.pref) = (es, some w)) :
    s.firingComplete i = s.upd i (fun _ => (s.lane i).slotAccepted s.sh (firstSlot s.sh.start.srec.pref) es) := by
  have hbusy : ((s.lane i).st != .firing || (s.lane i).fire.res.isSome) = false := by rw [hst, hres]; rfl
  rw [State.firingComplete, hbusy, if_neg Bool.false_ne_true]
  dsimp only
  rw [Lane.fireSlot_accepted hrejs htry]
  dsimp only [Lane.slotAccepted, Lane.setFire]
  rw [State.fireSettle, State.upd_lane_other, host, hores]
  rfl

theorem State.firingComplete_refused {e : RepEntry} (hst : (s.lane i).st = .firing) (hres : (s.lane i).fire.res = none)
    (hrejs : (s.lane i).fire.rejs = []) (horejs : (s.lane i.other).fire.rejs = [])
    (htry : s.sh.trySlot (s.lane i).regs (firstSlot s.sh.start.srec.pref) = ([e], none)) :
    s.firingComplete i = (s.upd i (fun _ => (s.lane i).slotRefused (firstSlot s.sh.start.srec.pref) e)).sysRec 0x0C02
      (firstSlot s.sh.start.srec.pref) e.given.toNat (sectWord e.typ e.region) (e.addr % 16777216) := by
  have hbusy : ((s.lane i).st != .firing || (s.lane i).fire.res.isSome) = false := by rw [hst, hres]; rfl
  have hnone : ((s.lane i).slotRefused (firstSlot s.sh.start.srec.pref) e).fire.res = none := hres
  rw [State.firingComplete, hbusy, if_neg Bool.false_ne_true]
  dsimp only
  rw [Lane.fireSlot_refused hrejs htry]
  dsimp only
  rw [hnone]
  dsimp only
  rw [State.slotRejected, State.upd_lane_other, horejs]
  rfl

/-! ### The comparison of two results -/

theorem State.fireOne_of_ok {r : FireRes} (hst : (s.lane i).st = .firing) (hres : (s.lane i).fire.res = some r) (hok : r.ok = true) :
    State.fireOne s i = s.fireDone i r := by
  rw [State.fireOne, hres]
  dsimp only
  rw [hst, hok]
  rfl

theorem State.fireAgree_both {x y : FireRes} (hpref : s.sh.preferred = i) (hst : (s.lane i).st = .firing) (host : (s.lane i.other).st = .firing)
    (hres : (s.lane i).fire.res = some x) (hores : (s.lane i.other).fire.res = some y) (hx : x.ok = true) (hy : y.ok = true) :
    ((s.fireAgree [.A, .B]).lane i).st = .active ∧ ((s.fireAgree [.A, .B]).lane i.other).st = .shadow := by
  have horder : s.fireAgree [.A, .B] = State.fireOne (State.fireOne s i) i.other := by
    unfold State.fireAgree
    subst hpref
    unfold Shared.preferred Shared.prefersB
    cases s.sh.on MOD_STRAP MOD_STRAP_LANE <;> rfl
  obtain ⟨hactive, host', hofire, -⟩ := s.fireDone_active_effect i x (by rw [host]; decide) hpref
  have hother : i.other.other = i := by cases i <;> rfl
  have hsecond := State.fireDone_shadow (s.fireDone i x) i.other y (by rw [hother, hactive])
  rw [hother] at hsecond
  rw [horder, State.fireOne_of_ok hst hres hx, State.fireOne_of_ok (host'.trans host) ((congrArg FireWork.res hofire).trans hores) hy]
  exact ⟨hsecond.2, hsecond.1⟩

theorem sameResult_ok {x y : FireRes} (hsame : sameResult x y = true) : x.ok = y.ok := by
  simp only [sameResult, Bool.and_eq_true, beq_iff_eq] at hsame
  exact hsame.1.1.2

theorem Lane.failStraps_st (h : Shared) (l : Lane) : (l.failStraps h).st = l.st := by
  have hsync (m : Lane) : m.failSync.st = m.st :=
    List.foldlRecOn (motive := fun k : Lane => k.st = m.st) _ _ rfl fun _ hk _ _ => hk
  rw [Lane.failStraps, hsync]
  exact List.foldlRecOn (motive := fun k : Lane => k.st = l.st) _ _ rfl fun _ hk _ _ => hk

/-- The strapped bit rate of both buses. -/
def Lane.strapRates (h : Shared) (l : Lane) : Lane :=
  [0, 1].foldl (fun l b => l.setF (CAN_STAT b) CAN_STAT_NRATE_IN (h.fld MOD_STRAP MOD_STRAP_CANR)) l

theorem Lane.strapRates_st (h : Shared) (l : Lane) : (l.strapRates h).st = l.st := rfl

/-- The lane of bisque mode but for its panel: CORR, the strapped address and rate, and the failure currents. -/
def Lane.strapped (h : Shared) (l : Lane) : Lane :=
  let a := h.fld MOD_STRAP MOD_STRAP_NODE
  (((l.wr TIME_CORR 0#32).wr TIME_ST (TIME_ST_NADDR.put a (TIME_ST_NADDR_BAD.put (a == 0 || a == 127).toNat 0#32))).failStraps h).strapRates h

theorem Lane.strapped_st (h : Shared) (l : Lane) : (l.strapped h).st = l.st := (Lane.strapRates_st ..).trans (Lane.failStraps_st ..)

theorem Lane.bisqueSet_eq (h : Shared) (l : Lane) : l.bisqueSet h = if !h.start.srec.proven || h.grade != 1 then l.strapped h else
    (l.strapped h).setPnl (fun w =>
      { w with drv := some h.start.srec, render := drawLines (fun c y => Config.glyph c y) 15 h.bisqueLines }) := rfl

theorem Lane.bisqueSet_st (h : Shared) (l : Lane) : (l.bisqueSet h).st = l.st := by
  have hpnl (m : Lane) (f : PnlWork → PnlWork) : (m.setPnl f).st = m.st := rfl
  rw [Lane.bisqueSet_eq]
  split
  · exact l.strapped_st h
  · exact (hpnl _ _).trans (l.strapped_st h)

/-- A lane that is on passes to bisque mode. -/
theorem State.laneBisque_st (hon : (s.lane i).st ≠ .off) : ((s.laneBisque i).lane i).st = .bisque ∧
    ((s.laneBisque i).lane i.other).st = (s.lane i.other).st := by
  have hset (h : Shared) (l : Lane) : ((l.bisqueSet h).showRejs h.start.srec.pref).addrEvent.st = l.st :=
    (Lane.addrEvent_kept _).1.trans (l.bisqueSet_st h)
  rw [State.laneBisque, if_neg (by simpa using hon)]
  refine ⟨?_, ?_⟩
  · rw [State.upd_lane, hset, State.laneTo_st]
  · rw [State.upd_lane_other, State.laneTo_other_st]

theorem State.bisqued_st (g : Shared) (a n code p0 p1 p2 p3 : Nat) (hona : s.a.st ≠ .off) (honb : s.b.st ≠ .off) (j : LaneId) :
    (((((s.withSh g).laneBisque .A).laneBisque .B).addrRec a n).sysRec code p0 p1 p2 p3 |>.lane j).st = .bisque := by
  have hfirst := State.laneBisque_st (s := s.withSh g) (i := .A) hona
  have hsecond := State.laneBisque_st (s := (s.withSh g).laneBisque .A) (i := .B) (hfirst.2.trans_ne honb)
  refine (State.sysRec_st ..).trans ((State.addrRec_lane ..).1.trans ?_)
  cases j
  · exact hsecond.2.trans hfirst.1
  · exact hsecond.1

theorem State.bisqueEnter_st (reason : Nat) (hona : s.a.st ≠ .off) (honb : s.b.st ≠ .off) (j : LaneId) :
    ((s.bisqueEnter reason).lane j).st = .bisque := by
  unfold State.bisqueEnter
  exact State.bisqued_st _ _ _ _ _ _ _ _ hona honb j

/-- Both lanes fired again with results that differ, and neither stands. -/
theorem State.firingCompare_bisque {x y : FireRes} (hsta : s.a.st = .firing) (hstb : s.b.st = .firing) (hresa : s.a.fire.res = some x)
    (hresb : s.b.fire.res = some y) (hdiffer : sameResult x y = false) (hagain : s.a.fire.again = true) :
    s.firingCompare false false = ((s.fireMis).misRec 2 2).bisqueEnter 4 := by
  rw [State.firingCompare, hsta, hstb, hresa, hresb]
  dsimp only
  rw [hdiffer, hagain]
  rfl

theorem State.misRec_st (attempt gone : Nat) (j : LaneId) : ((s.fireMis.misRec attempt gone).lane j).st = (s.lane j).st := by
  refine (State.sysRec_st ..).trans ?_
  rw [State.fireMis, State.onLanes_lane]
  split <;> rfl

end

end Sys2Proof.Machine
end

section
/-! Partial firing (R496–R498): the wedging, its record, and step 4 in a lane. -/

namespace Sys2Proof.Machine

/-! ### The sources of the outputs (R294, R311) -/

/-- Registers that name command sources of outputs. -/
def sourceKey (k : Nat) : Prop := (∃ n < 32, k = ALM_SUMCFG n) ∨ (∃ n < 32, k = CTRL_CFG n) ∨ ∃ n < 32, ∃ d < 2, k = CTRL_DST n d

theorem sourceKey_apart {k : Nat} (hk : sourceKey k) : k < 2 ^ 20 ∧ k ≠ CFG_PST 0 ∧ k ≠ CFG_PST 1 ∧ ∀ d < 32, k ≠ DO_CFG d := by
  unfold sourceKey ALM_SUMCFG CTRL_CFG CTRL_DST at hk
  unfold CFG_PST DO_CFG
  rcases hk with ⟨n, hn, rfl⟩ | ⟨n, hn, rfl⟩ | ⟨n, hn, d, hd, rfl⟩ <;> exact ⟨by omega, by omega, by omega, fun e he => by omega⟩

section
variable {v w : RegFile}

theorem doSource_congr (h : ∀ k, sourceKey k → RegFile.rd w k = RegFile.rd v k) (d : Nat) : doSource w d = doSource v d := by
  have hsum : ∀ k ∈ upTo 32, RegFile.rd w (ALM_SUMCFG k) = RegFile.rd v (ALM_SUMCFG k) :=
    fun k hk => h _ (.inl ⟨k, List.mem_range.mp hk, rfl⟩)
  have hcfg : ∀ n ∈ upTo 32, RegFile.rd w (CTRL_CFG n) = RegFile.rd v (CTRL_CFG n) :=
    fun n hn => h _ (.inr (.inl ⟨n, List.mem_range.mp hn, rfl⟩))
  have hdst : ∀ n ∈ upTo 32, ∀ d ∈ upTo 2, RegFile.rd w (CTRL_DST n d) = RegFile.rd v (CTRL_DST n d) :=
    fun n hn d hd => h _ (.inr (.inr ⟨n, List.mem_range.mp hn, d, List.mem_range.mp hd, rfl⟩))
  have hnamed : namedDests w 2 = namedDests v 2 := by
    refine List.flatMap_congr fun n hn => ?_
    rw [List.filter_congr fun d hd => by rw [hdst n hn d hd]]
    exact List.map_congr_left fun d hd => by rw [hdst n hn d (List.mem_of_mem_filter hd)]
  have hlive : liveDests w 2 = liveDests v 2 := by
    rw [liveDests, hnamed]
    refine List.filter_congr fun x hx => ?_
    obtain ⟨n, hn, hmem⟩ := List.mem_flatMap.mp hx
    obtain ⟨d, -, rfl⟩ := List.mem_map.mp hmem
    rw [hcfg n hn]
  have hany : (upTo 32).any (fun k => ALM_SUMCFG_DO_EN.on (RegFile.rd w (ALM_SUMCFG k)) && ALM_SUMCFG_DO.get (RegFile.rd w (ALM_SUMCFG k)) == d) =
      (upTo 32).any (fun k => ALM_SUMCFG_DO_EN.on (RegFile.rd v (ALM_SUMCFG k)) && ALM_SUMCFG_DO.get (RegFile.rd v (ALM_SUMCFG k)) == d) := by
    rw [List.any_eq, List.any_eq]
    exact decide_eq_decide.mpr (exists_congr fun k => and_congr_right fun hk => by rw [hsum k hk])
  rw [doSource, hany, hlive, ← doSource]

/-- SRC of the outputs `ns` set one after another. -/
def sourcesOf (ns : List Nat) (v : RegFile) : RegFile := ns.foldl (fun v d => RegFile.setF v (DO_CFG d) DO_CFG_SRC (doSource v d)) v

theorem DO_CFG_ne {k d : Nat} (hk : k < 2 ^ 20) (hd : d < 32) (hne : k ≠ DO_CFG d) : k % 2 ^ 20 ≠ DO_CFG d % 2 ^ 20 := by
  rw [Nat.mod_eq_of_lt hk, Nat.mod_eq_of_lt (by unfold DO_CFG; omega)]
  exact hne

theorem sourcesOf_rd_ne {ns : List Nat} (hns : ∀ n ∈ ns, n < 32) {k : Nat} (hk : k < 2 ^ 20) (hne : ∀ n ∈ ns, k ≠ DO_CFG n) (v : RegFile) :
    RegFile.rd (sourcesOf ns v) k = RegFile.rd v k :=
  List.foldlRecOn (motive := fun w => RegFile.rd w k = RegFile.rd v k) ns _ rfl fun _ hw n hn =>
    (RegFile.rd_wr_ne _ _ _ _ (DO_CFG_ne hk (hns n hn) (hne n hn))).trans hw

theorem sourcesOf_rd {ns : List Nat} (hns : ∀ n ∈ ns, n < 32) (hnodup : ns.Nodup) {d : Nat} (hd : d ∈ ns) (v : RegFile) :
    RegFile.rd (sourcesOf ns v) (DO_CFG d) = DO_CFG_SRC.put (doSource v d) (RegFile.rd v (DO_CFG d)) := by
  induction ns generalizing v with
  | nil => exact absurd hd List.not_mem_nil
  | cons n ns ih =>
    obtain ⟨hnot, hrest⟩ := List.nodup_cons.mp hnodup
    have hlt : ∀ m ∈ ns, m < 32 := fun m hm => hns m (List.mem_cons_of_mem n hm)
    have hn32 : n < 32 := hns n List.mem_cons_self
    change RegFile.rd (sourcesOf ns (RegFile.setF v (DO_CFG n) DO_CFG_SRC (doSource v n))) (DO_CFG d) = _
    rcases List.mem_cons.mp hd with rfl | hlater
    · rw [sourcesOf_rd_ne hlt (by unfold DO_CFG; omega) (fun m hm => by unfold DO_CFG; intro h; exact hnot ((Nat.add_left_cancel h) ▸ hm))]
      exact RegFile.rd_wr_same ..
    · have hd32 : d < 32 := hlt d hlater
      have hne : d ≠ n := fun h => hnot (h ▸ hlater)
      have hsource : doSource (RegFile.setF v (DO_CFG n) DO_CFG_SRC (doSource v n)) d = doSource v d :=
        doSource_congr (fun k hk => by
          obtain ⟨hklt, -, -, hkne⟩ := sourceKey_apart hk
          exact RegFile.rd_wr_ne _ _ _ _ (DO_CFG_ne hklt hn32 (hkne n hn32))) d
      rw [ih hlt hrest hlater, hsource]
      refine congrArg (DO_CFG_SRC.put (doSource v d)) (RegFile.rd_wr_ne _ _ _ _ (DO_CFG_ne (by unfold DO_CFG; omega) hn32 ?_))
      unfold DO_CFG
      omega

theorem doSources_rd {d : Nat} (hd : d < 32) (v : RegFile) :
    RegFile.rd (doSources v) (DO_CFG d) = DO_CFG_SRC.put (doSource v d) (RegFile.rd v (DO_CFG d)) :=
  sourcesOf_rd (fun _ hn => List.mem_range.mp hn) List.nodup_range (List.mem_range.mpr hd) v

theorem doSources_rd_ne {k : Nat} (hk : k < 2 ^ 20) (hne : ∀ n < 32, k ≠ DO_CFG n) (v : RegFile) :
    RegFile.rd (doSources v) k = RegFile.rd v k :=
  sourcesOf_rd_ne (fun _ hn => List.mem_range.mp hn) hk (fun n hn => hne n (List.mem_range.mp hn)) v

end

end Sys2Proof.Machine
end

section
/-! The rows of firing and of partial firing (R485, R486, R492, R496–R498). -/

namespace Sys2Proof.Machine

/-! ### Wedging of a patch and its record (R497) -/

section
variable {l : Lane} {x : PFire} {rest : List PFire} {g : Nat}

theorem Lane.patchDone_of_head {h : Shared} {b : Nat} (hpf : l.fire.pf = x :: rest) (hbuf : x.buf = b) (hres : x.res = none) :
    l.patchDone h b = (l.setReport (1 + b) (l.runPatch h b).ents).setFire (fun f =>
      { f with pf := { x with res := some (l.runPatch h b) } :: rest }) := by
  have hskip : (x.buf != b || x.res.isSome) = false := by rw [hbuf, hres]; simp
  have hpf' : (l.setReport (1 + b) (l.runPatch h b).ents).fire.pf = x :: rest := hpf
  rw [Lane.patchDone, hpf]
  dsimp only
  rw [hskip, if_neg Bool.false_ne_true, Lane.pfHead, hpf']

theorem Lane.pfHead_of_head (hpf : l.fire.pf = x :: rest) (f : PFire → PFire) :
    l.pfHead f = l.setFire (fun w => { w with pf := f x :: rest }) := by
  rw [Lane.pfHead, hpf]

theorem Lane.patchSay_of_wedged {r : PatchRes} (hpf : l.fire.pf = x :: rest) (hsaid : x.said = false) (hdue : g = x.m + 40000000)
    (hres : x.res = some r) : l.patchSay g = (l.setFire (fun w => { w with pf := { x with said := true } :: rest })).record 0x0C04 g (w32 x.buf)
      (w32 (sectWord r.typ r.region)) (w32 (r.ok.toNat + 65536 * min 512 r.ents.length)) (repCrc r.ents) := by
  have hskip : (x.said || g != x.m + 40000000) = false := by rw [hsaid, hdue]; simp
  rw [Lane.patchSay, hpf]
  dsimp only
  rw [hskip, if_neg Bool.false_ne_true, Lane.pfHead_of_head hpf, hres]

theorem Lane.patchSay_of_unwedged (hpf : l.fire.pf = x :: rest) (hsaid : x.said = false) (hdue : g = x.m + 40000000)
    (hres : x.res = none) : (l.patchSay g).regs = l.regs ∧ (l.patchSay g).adj.inc = some 7 := by
  have hskip : (x.said || g != x.m + 40000000) = false := by rw [hsaid, hdue]; simp
  rw [Lane.patchSay, hpf]
  dsimp only
  rw [hskip, if_neg Bool.false_ne_true, Lane.pfHead_of_head hpf, hres]
  exact ⟨rfl, rfl⟩

end

/-! ### Step 4 in a lane (R497, R498) -/

/-- CFG_PST of a patch that has ended. -/
def patchStatus (l : Lane) (x : PFire) (r : PatchRes) : Word :=
  CFG_PST_PSTATE.put 0 (CFG_PST_OUTCOME.put (if r.ok then 1 else 2)
    (CFG_PST_REJ.put (if r.ok then l.fld (CFG_PST x.buf) CFG_PST_REJ else r.code) 0#32))

/-- The lane with the end of a patch shown. -/
def Lane.patchShown (x : PFire) (r : PatchRes) (l : Lane) : Lane := (l.wr (CFG_PST x.buf) (patchStatus l x r)).ev evPartial

section
variable {l : Lane} {x : PFire} {r : PatchRes} {g : Nat}

theorem patchStatus_fields (l : Lane) (x : PFire) (r : PatchRes) : CFG_PST_PSTATE.get (patchStatus l x r) = 0 ∧
    CFG_PST_OUTCOME.get (patchStatus l x r) = (if r.ok then 1 else 2) ∧
    CFG_PST_REJ.get (patchStatus l x r) = (if r.ok then l.fld (CFG_PST x.buf) CFG_PST_REJ else r.code) % 256 := by
  unfold patchStatus
  refine ⟨Fld.get_put_same _ _ _ (by decide), ?_, ?_⟩
  · rw [Fld.get_put_apart (by decide), Fld.get_put_same _ _ _ (by decide)]
    split <;> rfl
  · rw [Fld.get_put_apart (by decide), Fld.get_put_apart (by decide), Fld.get_put_same _ _ _ (by decide)]
    rfl

theorem CFG_PST_lt {b : Nat} (hb : b < 2) : CFG_PST b < 2 ^ 20 := by unfold CFG_PST; omega

theorem Lane.patchShown_regsBut (hb : x.buf < 2) : l.regsBut [CFG_PST x.buf] (l.patchShown x r) :=
  ((Lane.regsBut.refl _ l).wr (CFG_PST_lt hb) (by simp) _).of_regs_eq (Lane.ev_regs ..)

theorem Lane.patchShown_rd : (l.patchShown x r).rd (CFG_PST x.buf) = patchStatus l x r :=
  (Lane.rd_of_regs_eq (Lane.ev_regs ..) _).trans (Lane.rd_wr_same ..)

theorem Lane.patchDue_of_head {rest : List PFire} (hpf : l.fire.pf = x :: rest) (hres : x.res = some r) (hscan : g % 10000000 = 0)
    (hdue : x.m + 50000000 ≤ g) : l.patchDue g = some (x, r) := by
  rw [Lane.patchDue, hpf]
  dsimp only
  rw [if_pos (by simp [hscan, hdue]), hres]
  rfl

theorem Lane.patchApply_of_rejected (hdue : l.patchDue g = some (x, r)) (hok : r.ok = false) :
    l.patchApply g = ((l.patchShown x r).targetBad (2 + x.buf) r.code).patchNext g := by
  rw [Lane.patchApply, hdue]
  dsimp only
  rw [hok]
  unfold Lane.patchShown patchStatus
  rw [hok]
  rfl

/-- The lane with the registers of an accepted patch, and its region noted. -/
def Lane.patchTaken (g : Nat) (r : PatchRes) (l : Lane) : Lane := ((l.patchLoad g r).replaced r.typ r.region).bump CFG_STAT CFG_STAT_PATCHES

theorem Lane.patchApply_of_accepted (hdue : l.patchDue g = some (x, r)) (hok : r.ok = true) :
    l.patchApply g = (((l.patchShown x r).patchTaken g r).record 0x0C05 g (w32 x.buf) (w32 (sectWord r.typ r.region))
      (w32 (((l.patchShown x r).patchTaken g r).fld CFG_STAT CFG_STAT_PATCHES)) 0#32).patchNext g := by
  rw [Lane.patchApply, hdue]
  dsimp only
  rw [hok]
  unfold Lane.patchShown patchStatus
  rw [hok]
  rfl

theorem Lane.patchNext_formed (l : Lane) : (l.patchNext g).formed = l.formed := by
  have hhead (m : Lane) (f : PFire → PFire) : (m.pfHead f).formed = m.formed := by
    unfold Lane.pfHead
    split <;> rfl
  unfold Lane.patchNext
  dsimp only
  split
  · exact hhead _ _
  · rfl

theorem Lane.patchNext_of_last (hpf : l.fire.pf = [x]) : l.patchNext g = l.setFire (fun f => { f with pf := f.pf.drop 1 }) := by
  have hrest : (l.setFire (fun f => { f with pf := f.pf.drop 1 })).fire.pf = [] := congrArg (List.drop 1) hpf
  rw [Lane.patchNext, hrest]

/-- The texts of an accepted table patch, and the sources of the outputs. -/
theorem Lane.patchLoad_of_table (hreg : r.regs = []) (htyp : r.typ = 0x0071) (l : Lane) :
    l.patchLoad g r = ({ l with regs := doSources l.regs }).setPnl (fun w => { w with txt := tableText r.table, wrote := w.wrote ++ [2] }) := by
  rw [Lane.patchLoad, hreg]
  dsimp only [List.foldl_nil]
  rw [Lane.patchUnits, htyp]
  rfl

/-- The lane with the registers `v`, the texts `txt` and a region noted as replaced. -/
def Lane.tableTaken (v : RegFile) (txt : Trie (List Byte)) (typ region : Nat) (l : Lane) : Lane :=
  (({ l with regs := v } : Lane).setPnl (fun w => { w with txt := txt, wrote := w.wrote ++ [2] })).replaced typ region

theorem Lane.tableTaken_effect (v : RegFile) (txt : Trie (List Byte)) (typ region : Nat) (l : Lane) :
    (l.tableTaken v txt typ region).regs = v ∧ (l.tableTaken v txt typ region).pnl.txt = txt ∧
    (l.tableTaken v txt typ region).fire.pf = l.fire.pf ∧
    (l.tableTaken v txt typ region).fire.res = l.fire.res.map (fun y =>
      { y with repl := y.repl.filter (· != (typ, region)) ++ [(typ, region)] }) ∧
    (l.tableTaken v txt typ region).formed = l.formed := ⟨rfl, rfl, rfl, rfl, rfl⟩

theorem Lane.patchTaken_table (hreg : r.regs = []) (htyp : r.typ = 0x0071) (l : Lane) :
    l.regsBut (CFG_STAT :: (upTo 32).map DO_CFG) (l.patchTaken g r) ∧
    (∀ d, d < 32 → (l.patchTaken g r).rd (DO_CFG d) = DO_CFG_SRC.put (doSource l.regs d) (l.rd (DO_CFG d))) ∧
    (l.patchTaken g r).fld CFG_STAT CFG_STAT_PATCHES = min 255 (l.fld CFG_STAT CFG_STAT_PATCHES + 1) ∧
    (l.patchTaken g r).pnl.txt = tableText r.table ∧ (l.patchTaken g r).fire.pf = l.fire.pf ∧
    (l.patchTaken g r).fire.res = l.fire.res.map (fun y =>
      { y with repl := y.repl.filter (· != (0x0071, r.region)) ++ [(0x0071, r.region)] }) ∧
    (l.patchTaken g r).formed = l.formed := by
  obtain ⟨hv, htxt, hpf, hres, hformed⟩ := l.tableTaken_effect (doSources l.regs) (tableText r.table) r.typ r.region
  have htaken : l.patchTaken g r =
      (l.tableTaken (doSources l.regs) (tableText r.table) r.typ r.region).bump CFG_STAT CFG_STAT_PATCHES := by
    rw [Lane.patchTaken, Lane.patchLoad_of_table hreg htyp, Lane.tableTaken]
  generalize l.tableTaken (doSources l.regs) (tableText r.table) r.typ r.region = m at hv htxt hpf hres hformed htaken
  have hrd (k : Nat) : m.rd k = RegFile.rd (doSources l.regs) k := by rw [Lane.rd, hv]
  have hregs : l.regsBut ((upTo 32).map DO_CFG) m := fun k hk hnot =>
    (hrd k).trans (doSources_rd_ne hk (fun n hn h => hnot (List.mem_map.mpr ⟨n, List.mem_range.mpr hn, h.symm⟩)) l.regs)
  rw [htaken]
  refine ⟨(hregs.mono (by simp)).setF (by decide) (by simp) _ _, fun d hd => ?_, ?_, htxt, hpf, ?_, hformed⟩
  · refine (Lane.rd_setF_ne _ _ _ _ _ ?_).trans ((hrd _).trans (doSources_rd hd l.regs))
    unfold DO_CFG CFG_STAT
    omega
  · rw [Lane.fld_bump_same _ _ _ (by decide), hregs.fld (by decide) (by decide)]
    rfl
  · rw [← htyp]
    exact hres

end

end Sys2Proof.Machine
end

section
/-! The rows of firing (R485, R486, R492, R493, R496–R498). -/

namespace Sys2Proof.Machine

section
variable {s : State} {i : LaneId} {g : Nat}

/-- Step 4 in a lane that computes; the flags of the outputs that change by it stand in the cut. -/
theorem State.patchApply_lane (hcomputes : (s.lane i).computes = true) :
    ∃ c, (s.patchApply g).lane i = { (s.lane i).patchApply g with cut := c } := by
  have hboth : (s.both (Lane.patchApply g)).lane i = (s.lane i).patchApply g := State.both_lane_of_computes hcomputes _
  have hstay : ∃ c, (s.both (Lane.patchApply g)).lane i = { (s.lane i).patchApply g with cut := c } := ⟨_, hboth⟩
  unfold State.patchApply
  dsimp only
  split
  · split
    · generalize hu : (s.both (Lane.patchApply g)).withSh _ = u
      have hlane : u.lane i = (s.lane i).patchApply g := by rw [← hu, State.withSh_lane, hboth]
      obtain ⟨htold, -⟩ := State.dioChange_lanesTold (Shared.doAll u.lead) u
      refine ⟨(u.doEval.lane i).cut, ?_⟩
      rw [← hlane, ← htold i]
      rfl
    · exact hstay
  · exact hstay

/-- Step 4 with a patch that was rejected. -/
theorem Lane.patchApply_rejected {l : Lane} {x : PFire} {r : PatchRes} (hpf : l.fire.pf = [x]) (hb : x.buf < 2) (hres : x.res = some r)
    (hok : r.ok = false) (hscan : g % 10000000 = 0) (hdue : x.m + 50000000 ≤ g) :
    l.regsBut [CFG_PST x.buf, CFG_TGT (2 + x.buf)] (l.patchApply g) ∧ (l.patchApply g).fld (CFG_PST x.buf) CFG_PST_PSTATE = 0 ∧
    (l.patchApply g).fld (CFG_PST x.buf) CFG_PST_OUTCOME = 2 ∧ (l.patchApply g).fld (CFG_PST x.buf) CFG_PST_REJ = r.code % 256 ∧
    (l.patchApply g).fld (CFG_TGT (2 + x.buf)) CFG_TGT_CHECK = 2 ∧ (l.patchApply g).fire.pf = [] ∧
    (l.patchApply g).raised = l.raised ||| evBit evPartial := by
  obtain ⟨htgt, hcheck⟩ := (l.patchShown x r).targetBad_effect (t := 2 + x.buf) (by omega) r.code
  have hlast : ((l.patchShown x r).targetBad (2 + x.buf) r.code).fire.pf = [x] := hpf
  rw [Lane.patchApply_of_rejected (Lane.patchDue_of_head hpf hres hscan hdue) hok, Lane.patchNext_of_last hlast]
  have hrd : ((l.patchShown x r).targetBad (2 + x.buf) r.code).rd (CFG_PST x.buf) = patchStatus l x r :=
    (htgt _ (CFG_PST_lt hb) (by simp [CFG_PST, CFG_TGT]; omega)).trans Lane.patchShown_rd
  obtain ⟨hstate, houtcome, hrej⟩ := patchStatus_fields l x r
  rw [hok] at houtcome hrej
  refine ⟨?_, (congrArg CFG_PST_PSTATE.get hrd).trans hstate, (congrArg CFG_PST_OUTCOME.get hrd).trans houtcome,
    (congrArg CFG_PST_REJ.get hrd).trans hrej, (Lane.setFire_fld ..).trans hcheck, congrArg (List.drop 1) hpf, rfl⟩
  exact (((Lane.patchShown_regsBut hb).mono (by simp)).trans (htgt.mono (by simp))).setFire _

/-- Step 4 with an accepted patch of the tables. -/
theorem Lane.patchApply_table {l : Lane} {x : PFire} {r : PatchRes} (hpf : l.fire.pf = [x]) (hb : x.buf < 2) (hres : x.res = some r)
    (hok : r.ok = true) (htyp : r.typ = 0x0071) (hreg : r.regs = []) (hscan : g % 10000000 = 0) (hdue : x.m + 50000000 ≤ g) :
    l.regsBut (CFG_PST x.buf :: CFG_STAT :: (upTo 32).map DO_CFG) (l.patchApply g) ∧
    (∀ d, d < 32 → (l.patchApply g).rd (DO_CFG d) = DO_CFG_SRC.put (doSource l.regs d) (l.rd (DO_CFG d))) ∧
    (l.patchApply g).fld (CFG_PST x.buf) CFG_PST_PSTATE = 0 ∧ (l.patchApply g).fld (CFG_PST x.buf) CFG_PST_OUTCOME = 1 ∧
    (l.patchApply g).fld (CFG_PST x.buf) CFG_PST_REJ = l.fld (CFG_PST x.buf) CFG_PST_REJ ∧
    (l.patchApply g).fire.res = l.fire.res.map (fun y =>
      { y with repl := y.repl.filter (· != (0x0071, r.region)) ++ [(0x0071, r.region)] }) ∧
    (l.patchApply g).fld CFG_STAT CFG_STAT_PATCHES = min 255 (l.fld CFG_STAT CFG_STAT_PATCHES + 1) ∧
    (l.patchApply g).pnl.txt = tableText r.table ∧ (l.patchApply g).fire.pf = [] ∧
    ∃ f : Formed, (l.patchApply g).formed = l.formed ++ [f] ∧ f.r.code = 0x0C05 ∧ f.r.p0 = w32 x.buf := by
  obtain ⟨htaken, hdo, hpatches, htxt, hpf', hres', hformed⟩ := Lane.patchTaken_table (g := g) hreg htyp (l.patchShown x r)
  have hshown : l.regsBut [CFG_PST x.buf] (l.patchShown x r) := Lane.patchShown_regsBut hb
  have hpst : CFG_PST x.buf ∉ CFG_STAT :: (upTo 32).map DO_CFG := by
    rcases (show x.buf = 0 ∨ x.buf = 1 by omega) with h | h <;> rw [h] <;> decide
  have hrd : ((l.patchShown x r).patchTaken g r).rd (CFG_PST x.buf) = patchStatus l x r :=
    (htaken _ (CFG_PST_lt hb) hpst).trans Lane.patchShown_rd
  have hstat : (l.patchShown x r).fld CFG_STAT CFG_STAT_PATCHES = l.fld CFG_STAT CFG_STAT_PATCHES :=
    hshown.fld (by decide) (by simp [CFG_STAT, CFG_PST]; omega) _
  have hsource (d : Nat) : doSource (l.patchShown x r).regs d = doSource l.regs d :=
    doSource_congr (fun k hk => by
      obtain ⟨hlt, h0, h1, -⟩ := sourceKey_apart hk
      refine hshown k hlt ?_
      rcases (show x.buf = 0 ∨ x.buf = 1 by omega) with h | h <;> simpa [h]) d
  obtain ⟨hstate, houtcome, hrej⟩ := patchStatus_fields l x r
  rw [hok] at houtcome hrej
  rw [hstat] at hpatches
  have hlast : (((l.patchShown x r).patchTaken g r).record 0x0C05 g (w32 x.buf) (w32 (sectWord r.typ r.region))
      (w32 (((l.patchShown x r).patchTaken g r).fld CFG_STAT CFG_STAT_PATCHES)) 0#32).fire.pf = [x] := hpf'.trans hpf
  rw [Lane.patchApply_of_accepted (Lane.patchDue_of_head hpf hres hscan hdue) hok, Lane.patchNext_of_last hlast]
  generalize (l.patchShown x r).patchTaken g r = m at htaken hdo hpatches htxt hpf' hres' hformed hrd hlast ⊢
  refine ⟨?_, fun d hd => ?_, (congrArg CFG_PST_PSTATE.get hrd).trans hstate, (congrArg CFG_PST_OUTCOME.get hrd).trans houtcome,
    (congrArg CFG_PST_REJ.get hrd).trans (hrej.trans (Nat.mod_eq_of_lt (Fld.get_lt CFG_PST_REJ _))), hres', hpatches, htxt,
    congrArg (List.drop 1) (hpf'.trans hpf), ?_⟩
  · exact ((hshown.mono (by simp)).trans (htaken.mono (by simp))).of_regs_eq rfl
  · refine (hdo d hd).trans ?_
    rw [hsource, hshown _ (by unfold DO_CFG; omega) (by simp [DO_CFG, CFG_PST]; omega)]
  · exact ⟨_, congrArg (· ++ _) hformed, rfl, rfl⟩

end

/-- Settles O49: a slot tried stands as a result or as a rejection; the comparison loads the preferred lane first; step 4 of a partial
firing is one change of each lane that computes. -/
theorem firingRows : Obligations.FiringRows := by
  refine ⟨fun i es w s hst hres hrejs host hores htry => ?accepted, fun i e s hst hres hrejs horejs hepochs htry => ?refused,
    fun pa pb x y s hsta hstb hresa hresb hsame hok => ?agree, fun pa pb x y s hsta hstb hresa hresb hdiffer hagain => ?again,
    fun x y s hsta hstb hresa hresb hdiffer hagain => ?bisque, fun i b x rest s hpf hbuf hres => ?wedged,
    fun x rest r s i hcomputes hpf hsaid hdue hres => ?said, fun x rest s i hcomputes hpf hsaid hdue hres => ?incomplete,
    fun x r s i hcomputes hpf hb hres hok hscan hdue => ?rejected,
    fun x r s i hcomputes hpf hb hres hok htyp hreg hscan hdue => ?table, fun x r s i hcomputes hpf hres hok hscan hdue => ?applied⟩
  case accepted =>
    refine ⟨_, congrArg Host.Outcome.next (State.firingComplete_accepted hst hres hrejs host hores htry), State.upd_otherKept _ _ _, ?_⟩
    rw [State.upd_lane]
    exact ⟨(Lane.setReport_regsBut 0 es _).setFire _, (Lane.rd_of_regs_eq (Lane.setFire_regs ..) _).trans (Lane.setReport_crc 0 es _), rfl, hst⟩
  case refused =>
    have hk := firstSlot_lt s.sh.start.srec.pref
    obtain ⟨r, hcode, hp0, hp1, hrec⟩ := State.sysRec_of_early
      (s := s.upd i (fun _ => (s.lane i).slotRefused (firstSlot s.sh.start.srec.pref) e)) (by rwa [State.upd_sh]) 0x0C02
      (firstSlot s.sh.start.srec.pref) e.given.toNat (sectWord e.typ e.region) (e.addr % 16777216)
    refine ⟨_, congrArg Host.Outcome.next ((State.firingComplete_refused hst hres hrejs horejs htry).trans hrec), ?_⟩
    rw [State.withSh_lane, State.withSh_lane, State.upd_lane_other, State.upd_lane, State.withSh_sh, State.upd_sh]
    obtain ⟨htgt, hcheck⟩ := ((s.lane i).setReport 0 [e]).targetBad_effect hk e.given.toNat
    refine ⟨rfl, rfl, ?_, hst, (Lane.setFire_fld ..).trans hcheck, congrArg (· ++ [(firstSlot s.sh.start.srec.pref, e)]) hrejs, hres,
      r, rfl, hcode, hp0, hp1⟩
    exact (((Lane.setReport_regsBut 0 [e] _).mono (by simp)).trans (htgt.mono (by simp [firstSlot]))).setFire _
  case agree =>
    have hy : y.ok = true := (sameResult_ok hsame).symm.trans hok
    have hrow : s.firingCompare pa pb = s.fireAgree [.A, .B] := by
      rw [State.firingCompare, hsta, hstb, hresa, hresb]
      dsimp only
      rw [hsame]
      rfl
    refine ⟨_, congrArg Host.Outcome.next hrow, ?_⟩
    split
    case isTrue hstrap =>
      exact State.fireAgree_both (i := .B) (if_pos hstrap) hstb hsta hresb hresa hy hok
    case isFalse hstrap =>
      exact State.fireAgree_both (i := .A) (if_neg hstrap) hsta hstb hresa hresb hok hy
  case again =>
    have hrow : s.firingCompare pa pb = { s with a := s.a.fireAgain, b := s.b.fireAgain } := by
      rw [State.firingCompare, hsta, hstb, hresa, hresb]
      dsimp only
      rw [hdiffer, hagain]
      rfl
    exact ⟨_, congrArg Host.Outcome.next hrow, ⟨rfl, rfl, rfl⟩, rfl, rfl⟩
  case bisque =>
    obtain ⟨hbisque, hphase, hreason, -⟩ := State.bisqueEnter_effect 4 (s.fireMis.misRec 2 2)
    have hst := State.bisqueEnter_st (s := s.fireMis.misRec 2 2) 4 ((State.misRec_st 2 2 .A).trans hsta |>.trans_ne (by decide))
      ((State.misRec_st 2 2 .B).trans hstb |>.trans_ne (by decide))
    exact ⟨_, congrArg Host.Outcome.next (State.firingCompare_bisque hsta hstb hresa hresb hdiffer hagain), hbisque, hphase, hreason, hst .A,
      hst .B⟩
  case wedged =>
    have hrow := Lane.patchDone_of_head (h := s.sh) hpf hbuf hres
    refine ⟨_, rfl, State.upd_otherKept _ _ _, ?_⟩
    rw [State.upd_lane, hrow]
    have hsrc := Lane.setReport_src (1 + b.val) ((s.lane i).runPatch s.sh b).ents (s.lane i) (by omega)
    exact ⟨(Lane.setReport_regsBut (1 + b.val) _ _).setFire _, (Lane.rd_of_regs_eq (Lane.setFire_regs ..) _).trans (Lane.setReport_crc ..),
      (Lane.setFire_fld ..).trans hsrc, rfl⟩
  case said =>
    refine ⟨_, rfl, State.both_sharedKept _ _, ?_⟩
    rw [State.both_lane_of_computes hcomputes, Lane.patchSay_of_wedged hpf hsaid hdue hres]
    exact ⟨rfl, rfl, _, rfl, rfl, rfl, rfl⟩
  case incomplete =>
    refine ⟨_, rfl, State.both_sharedKept _ _, ?_⟩
    rw [State.both_lane_of_computes hcomputes]
    exact Lane.patchSay_of_unwedged hpf hsaid hdue hres
  case rejected =>
    obtain ⟨c, hlane⟩ := State.patchApply_lane (g := s.sh.gt) hcomputes
    refine ⟨_, rfl, (State.patchApply_keep ..).1, ?_⟩
    rw [hlane]
    exact Lane.patchApply_rejected hpf hb hres hok hscan hdue
  case table =>
    obtain ⟨c, hlane⟩ := State.patchApply_lane (g := s.sh.gt) hcomputes
    refine ⟨_, rfl, (State.patchApply_keep ..).1, ?_⟩
    rw [hlane]
    exact Lane.patchApply_table hpf hb hres hok htyp hreg hscan hdue
  case applied =>
    obtain ⟨c, hlane⟩ := State.patchApply_lane (g := s.sh.gt) hcomputes
    refine ⟨_, rfl, (State.patchApply_keep ..).1, ?_⟩
    rw [hlane]
    have hformed := (congrArg Lane.formed (Lane.patchApply_of_accepted (Lane.patchDue_of_head hpf hres hscan hdue) hok)).trans
      (Lane.patchNext_formed _)
    exact ⟨_, (congrArg List.getLast? hformed).trans List.getLast?_concat, rfl, rfl⟩

end Sys2Proof.Machine
end
